-- ==== Sys2Proof/Word.lean ====
section
/-! DEFINITION. The plainest types of the model: a byte string and a table of numbered entries. -/
namespace Sys2Proof

/-- A byte string, lowest address first. -/
abbrev Bytes := List (BitVec 8)

/-- Sparse numbered entries: (number, contents) pairs. The canonical form, numbers strictly rising, is `twf` of
Machine/Tables.lean; a number that is not listed is a free entry, or one at its reset value. -/
abbrev Tbl (α : Type) := List (Nat × α)

end Sys2Proof
end

