-- ==== Sys2Proof/Types.lean ====
section
/-! DEFINITION. The plain-data types that the commands carry: parts of the machine's state that travel in a
command (a connection shadow, a journal record ...) and the contents of arriving packets, by what the
spec's checks read of them. -/
namespace Sys2Proof

/-- R506: one entry of ADDR_TABLE_n. -/
structure AddrEntry where
  /-- R506, 48 b: MAC. -/
  mac : Nat := 0
  /-- R506, 16 b: VLAN. -/
  vlan : Nat := 0
  /-- R506, 8 b: EGRESS. -/
  egress : Nat := 0
  /-- R506, 8 b: FLAGS. -/
  flags : Nat := 0
  /-- R506, 128 b: IP. -/
  ip : Nat := 0
  deriving DecidableEq, Repr

/-- R135: one triggered-chain template. -/
structure Chain where
  /-- R135, 8 b: TRIGGER_MASK. -/
  triggerMask : Nat := 0
  /-- R135, 8 b: THRESH_PAIRED. -/
  threshPaired : Nat := 0
  /-- R135, 8 b: THRESH_ALONE. -/
  threshAlone : Nat := 0
  /-- R135, 8 b: ACTION. -/
  action : Nat := 0
  /-- R135, 8 b: NEXT. -/
  next : Nat := 255
  /-- R135, 8 b: WR_FLAGS. -/
  wrFlags : Nat := 0
  /-- R135, 32 b: TARGET_CTX. -/
  targetCtx : Nat := 0
  /-- R135, 32 b, saturating: FIRE_COUNT. -/
  fireCount : Nat := 0
  deriving DecidableEq, Repr

/-- R123: the descriptor of one push window. -/
structure PushWin where
  /-- R123, 2 b: 0 OPEN, 1 BOUND, 2 ADOPTED. -/
  wState : Nat := 0
  /-- R123, 5 b: current generation. -/
  gen : Nat := 0
  /-- R127, 1 b: holds data written since it last opened. -/
  data : Bool := false
  /-- R138, 24 b: position of the first packet written since it last opened. -/
  firstPos : Nat := 0
  /-- R122, 4 to 256 KiB: bytes written since it last opened. -/
  bytes : Tbl (BitVec 8) := []
  deriving DecidableEq, Repr

/-- R111: one connection context. -/
structure Ctx where
  /-- R109, 8 b: STATE: 0 FREE, 1 OPENING, 2 OPEN, 3 DRAINING, 4 ERROR, 5 ADOPTING, 6 QUARANTINE. -/
  state : Nat := 0
  /-- R111, 8 b: KIND: 1 RoCEv2, 2 TCP, 3 Sett link, 4 management. -/
  kind : Nat := 0
  /-- R111, 1 b: FLAGS [0]. -/
  ipv6 : Bool := false
  /-- R111, 1 b: FLAGS [1]. -/
  pinned : Bool := false
  /-- R111, 1 b: FLAGS [2]. -/
  ecn : Bool := false
  /-- R111, 1 b: FLAGS [3]. -/
  hdgst : Bool := false
  /-- R111, 1 b: FLAGS [4]. -/
  ddgst : Bool := false
  /-- R111, 1 b: FLAGS [5]. -/
  sack : Bool := false
  /-- R111, 1 b: FLAGS [6]. -/
  tstamps : Bool := false
  /-- R111, 1 b: FLAGS [7]. -/
  adopted : Bool := false
  /-- R110, 8 b: CLASS. -/
  cls : Nat := 0
  /-- R92, 8 b: BUCKET. -/
  bucket : Nat := 0
  /-- R111, 8 b: EGRESS_SEL. -/
  egressSel : Nat := 0
  /-- R110, 6 b: DSCP sent. -/
  dscp : Nat := 0
  /-- R111, 16 b: TENANT. -/
  tenant : Nat := 0
  /-- R111, 16 b: HOST_ID. -/
  hostId : Nat := 0
  /-- R111, 16 b: CNTLID. -/
  cntlid : Nat := 0
  /-- R111, 16 b: QID. -/
  qid : Nat := 0
  /-- R111, 128 b: REMOTE_IP. -/
  remoteIp : Nat := 0
  /-- R111, 128 b: LOCAL_IP. -/
  localIp : Nat := 0
  /-- R111, 48 b: REMOTE_MAC. -/
  remoteMac : Nat := 0
  /-- R111, 16 b: VLAN_TAG. -/
  vlanTag : Nat := 0
  /-- R111, 16 b: REMOTE_L4. -/
  remoteL4 : Nat := 0
  /-- R111, 16 b: LOCAL_L4. -/
  localL4 : Nat := 0
  /-- R109, 32 b: CTX_GEN. -/
  ctxGen : Nat := 0
  /-- R111, 24 b: REMOTE_QPN. -/
  remoteQpn : Nat := 0
  /-- R111, 16 b: MTU. -/
  mtu : Nat := 0
  /-- R111, 8 b: WSCALE. -/
  wscale : Nat := 0
  /-- R111, 4 b: ORD [7:4]. -/
  ordMax : Nat := 0
  /-- R111, 4 b: ORD [3:0]. -/
  ordNow : Nat := 0
  /-- R111, 32 b: SND_NXT. -/
  sndNxt : BitVec 32 := 0
  /-- R111, 32 b: SND_UNA. -/
  sndUna : BitVec 32 := 0
  /-- R111, 32 b: RCV_NXT. -/
  rcvNxt : BitVec 32 := 0
  /-- R138, 32 b: RCV_ACKED. -/
  rcvAcked : BitVec 32 := 0
  /-- R111, 32 b: SND_WND. -/
  sndWnd : Nat := 0
  /-- R111, 32 b: RCV_WND. -/
  rcvWnd : Nat := 0
  /-- R111, 24 b: MSN. -/
  msn : Nat := 0
  /-- R111, 32 b: TS_RECENT. -/
  tsRecent : Nat := 0
  /-- R132, 32 b: CWND. -/
  cwnd : Nat := 0
  /-- R132, 32 b: SSTHRESH. -/
  ssthresh : Nat := 0
  /-- R132, 16 b: ALPHA. -/
  alpha : Nat := 0
  /-- R121, 8 b: RETRIES. -/
  retries : Nat := 0
  /-- R111, 1 b: NAK_STATE [0]. -/
  nakSent : Bool := false
  /-- R111, 1 b: NAK_STATE [1]. -/
  cwrToSend : Bool := false
  /-- R111, 1 b: NAK_STATE [2]. -/
  eceToSend : Bool := false
  /-- R132, ns: last RTT sample. -/
  lastRtt : Nat := 0
  /-- R132, 32 b: SRTT. -/
  srtt : Nat := 0
  /-- R132, 32 b: RTTVAR. -/
  rttvar : Nat := 0
  /-- R130, 32 b: RTO. -/
  rto : Nat := 0
  /-- R111, 3 b: TIMER kind. -/
  timerKind : Nat := 0
  /-- R111, 48 b: TIMER expiry. -/
  timerNs : Nat := 0
  /-- R132, 32 b: EPOCH_END. -/
  epochEnd : BitVec 32 := 0
  /-- R132, 32 b: EPOCH_ACKED. -/
  epochAcked : Nat := 0
  /-- R132, 32 b: EPOCH_MARKED. -/
  epochMarked : Nat := 0
  /-- R132, 1 b: on_loss has acted in this epoch. -/
  epochLoss : Bool := false
  /-- R133, 1 b: a CNP arrived in this epoch. -/
  epochCnp : Bool := false
  /-- R133, 32 b: LAST_CNP_US. -/
  lastCnpUs : Nat := 0
  /-- R133, 1 b: a CNP has been sent on the connection. -/
  cnpEver : Bool := false
  /-- R122, 8 b: push windows. -/
  pushCount : Nat := 0
  /-- R122, 8 b: push size code. -/
  pushSize : Nat := 0
  /-- R123, at most 64: window descriptors. -/
  windows : Tbl PushWin := []
  /-- R138, 32 b: ACK_HOLD, none for 0xFFFF_FFFF. -/
  ackHold : Option (BitVec 32) := none
  /-- R111, 4 ranges: SACK_SND. -/
  sackSnd : List (Nat × Nat) := []
  /-- R111, 4 ranges: SACK_RCV. -/
  sackRcv : List (Nat × Nat) := []
  /-- R130, count: consecutive duplicate ACKs. -/
  dupAcks : Nat := 0
  /-- R111, 8 b: PDU_STATE type. -/
  pduType : Nat := 0
  /-- R111, 32 b: PDU_STATE bytes remaining. -/
  pduLeft : Nat := 0
  /-- R111, 80 B: PDU_HDR. -/
  pduHdr : List Nat := []
  /-- R135, 4: CHAIN_0 to CHAIN_3. -/
  chains : Tbl Chain := []
  /-- R111, 64 b: SHADOW_SEQ. -/
  shadowSeq : Nat := 0
  /-- R111, 32 b: SHADOW_CONF receive position. -/
  confRcv : BitVec 32 := 0
  /-- R111, 32 b: SHADOW_CONF send position. -/
  confSnd : BitVec 32 := 0
  /-- R111, 8 x 32 b, saturating: CNT. -/
  counters : Tbl Nat := []
  /-- R121, bytes: (last position, bytes, send time) of what is sent and not acknowledged. -/
  flight : List (Nat × Nat × Nat) := []
  /-- R128, count: full segments received since the last ACK. -/
  unackedSegs : Nat := 0
  /-- R129, at most 2,048: outstanding R2Ts: index to (slot, generation). -/
  r2ts : Tbl (Nat × Nat) := []
  /-- R129, 5 b each: generation of each staging buffer. -/
  ttagGen : Tbl Nat := []
  /-- R129, 8 b: host's data alignment. -/
  hpda : Nat := 0
  /-- R109, 1 b: the controller has begun the close. -/
  closeSent : Bool := false
  /-- R138, positions: ends of messages or PDUs received and not yet acknowledged, oldest first. -/
  msgEnds : List (BitVec 32) := []
  /-- R109, 1 b: the host has begun or answered the close. -/
  hostClosed : Bool := false
  /-- R108, 1 b: the partner has confirmed the index claim. -/
  claimConf : Bool := false
  deriving DecidableEq, Repr

/-- R154: where an admin or Fabrics command came from. -/
structure AdminCmd where
  /-- context of the queue, unused for the local port. -/
  ctx : Nat := 0
  /-- fabric controller, 0 the local controller. -/
  cntlid : Nat := 0
  /-- command identifier. -/
  cid : Nat := 0
  /-- transport position of the capsule. -/
  pos : Nat := 0
  /-- CRC-32C of the submission entry. -/
  sqeCrc : Nat := 0
  deriving DecidableEq, Repr

/-- R144 to R147: one fabric controller. -/
structure FabCtrl where
  /-- R144, 1 b: exists. -/
  live : Bool := false
  /-- R143, 13 b: host identity. -/
  hostId : Nat := 0
  /-- R143, 12 b: tenant of the host. -/
  tenant : Nat := 0
  /-- R148, 21 b: context of the admin queue. -/
  adminCtx : Nat := 0
  /-- R142, 1 b: the discovery controller. -/
  discovery : Bool := false
  /-- R146, ms: keep-alive timeout, rounded up to 100 ms. -/
  katoMs : Nat := 0
  /-- R146, 64 b: time the keep-alive timer last restarted. -/
  katoNs : Nat := 0
  /-- R148, at most 64: queue id to (context, depth, SQHD). -/
  queues : Tbl (Nat × Nat × Nat) := []
  /-- R53, 2 b: power-state vote. -/
  vote : Nat := 0
  /-- R55, 2 b: last operational state set. -/
  lastOper : Nat := 0
  /-- R147, 1 b: CC.EN. -/
  ccEnabled : Bool := true
  /-- R154, 32 b: CC property as last set. -/
  ccValue : Nat := 0
  /-- R156, 32 b: Arbitration feature as last set. -/
  arbitration : Nat := 0
  /-- R156, 32 b: Asynchronous Event Configuration. -/
  aerMask : Nat := 0
  /-- R155, at most 4: command ids of Asynchronous Event Requests held. -/
  aers : List Nat := []
  /-- R158, at most 4: command ids of Aborts outstanding. -/
  aborts : List Nat := []
  /-- R154, NSIDs: Changed Namespace List. -/
  changedNs : List Nat := []
  /-- R152, R164, slots: admin commands whose slot is in use: taken, and not yet completed. -/
  held : List AdminCmd := []
  /-- R155, 1 b: a namespace attribute notice has been reported and its log page not yet read. -/
  noticed : Bool := false
  deriving DecidableEq, Repr

/-- R166: one replay record. -/
structure Replay where
  /-- R166, 21 b: CTX_INDEX [20:0]. -/
  ctx : Nat := 0
  /-- R166, 32 b: CTX_GEN. -/
  ctxGen : Nat := 0
  /-- R166, 16 b: QID. -/
  qid : Nat := 0
  /-- R166, 16 b: CID. -/
  cid : Nat := 0
  /-- R166, 32 b: CAPSULE_POS. -/
  pos : Nat := 0
  /-- R166, 64 b: ADMISSION_STAMP. -/
  stamp : BitVec 64 := 0
  /-- R166, 32 b: SQE_CRC. -/
  sqeCrc : Nat := 0
  /-- R166, 8 b: STATE. -/
  isOpen : Bool := true
  /-- R166, 8 b: OPCODE. -/
  opcode : Nat := 0
  /-- R164, 1 b: an admin or Fabrics command. -/
  admin : Bool := false
  /-- R166, 14 b: NS_HANDLE. -/
  handle : Nat := 0
  /-- R166, 16 b: status field of CQE. -/
  status : Nat := 0
  /-- R166, 32 b: Dword 0 of CQE. -/
  dw0 : Nat := 0
  /-- R166, 64 b: SLBA of a Read or Compare. -/
  slba : Nat := 0
  /-- R166, 11 b: NLB of a Read or Compare. -/
  nlb : Nat := 0
  /-- R166, 64 b: OPENED_NS. -/
  openedNs : Nat := 0
  /-- R166, 32 b: RESP_POS. -/
  respPos : Nat := 0
  deriving DecidableEq, Repr

/-- R150: a decoded command capsule. -/
structure HostCmd where
  /-- connection. -/
  ctx : Nat := 0
  /-- fetched by the local host port. -/
  localPort : Bool := false
  /-- submission queue. -/
  qid : Nat := 0
  /-- command identifier. -/
  cid : Nat := 0
  /-- fabric controller. -/
  cntlid : Nat := 0
  /-- NVMe opcode. -/
  opcode : Nat := 0
  /-- FUSE field. -/
  fuse : Nat := 0
  /-- NSID. -/
  nsid : Nat := 0
  /-- starting LBA. -/
  slba : Nat := 0
  /-- logical blocks, 1-based. -/
  nlb : Nat := 1
  /-- FUA. -/
  fua : Bool := false
  /-- PRACT and PRCHK. -/
  prinfo : Nat := 0
  /-- LBAT or ELBAT. -/
  appTag : Nat := 0
  /-- LBATM or ELBATM. -/
  appMask : Nat := 65535
  /-- ILBRT or EILBRT. -/
  refTag : Nat := 0
  /-- AD of Dataset Management. -/
  deallocate : Bool := true
  /-- ranges of Dataset Management: (SLBA, NLB). -/
  ranges : List (Nat × Nat) := []
  /-- in-capsule data. -/
  inCapsule : Bytes := []
  /-- push key and length of a Keyed SGL naming a window. -/
  window : Option (Nat × Nat) := none
  /-- carries a host key to invalidate. -/
  invalidate : Bool := false
  /-- transport position of the capsule's last byte. -/
  pos : Nat := 0
  /-- CRC-32C of the submission entry. -/
  sqeCrc : Nat := 0
  deriving DecidableEq, Repr

/-- R181, R188: a stamp request held or in progress at an admission point. -/
structure StampReq where
  /-- R186, 18 b: command slot at the holding controller. -/
  slot : Nat := 0
  /-- R186, 1 b: controller index holding the slot. -/
  holder : Nat := 0
  /-- R186, code: 1 read, 2 write, 3 Deallocate piece, 4 reservation, 5 fix, 6 release of a reservation. -/
  kind : Nat := 1
  /-- R186, 14 b: namespace handle. -/
  handle : Nat := 0
  /-- R181, 64 b: SLBA. -/
  slba : Nat := 0
  /-- R181, 32 b: NLB. -/
  nlb : Nat := 0
  /-- R184, 64 b: stamp of a fix. -/
  stamp : BitVec 64 := 0
  /-- R184, code: kind of the crossing command of a reservation or fix. -/
  asKind : Nat := 1
  deriving DecidableEq, Repr

/-- R230: one journal record. -/
structure JRec where
  /-- R230, 64 b: SEQ. -/
  seqNo : Nat := 0
  /-- R230, 8 b: KIND. -/
  kind : Nat := 1
  /-- R230, 8 b: FLAGS. -/
  flags : Nat := 0
  /-- R230, 16 b: BLOCK_ROWS. -/
  rows : Nat := 0
  /-- R230, 32 b: POS_MASK. -/
  mask : Nat := 0
  /-- R230, 64 b: STRIPE. -/
  stripe : Nat := 0
  /-- R230, 64 b: HIGH_STAMP. -/
  high : Nat := 0
  /-- R230, 64 b: ARG. -/
  arg : Nat := 0
  /-- R230, 64 b: ARG2. -/
  arg2 : Nat := 0
  /-- R229, 24 b: EPOCH of its journal block. -/
  epoch : Nat := 0
  /-- R228, block: its ring block, counted without wrapping. -/
  ringBlk : Nat := 0
  deriving DecidableEq, Repr

/-- R384: the record of a quorum block. -/
structure QBlock where
  /-- R384, 8 b: STATE: 1 paired, 2 claimed, 3 solo. -/
  qState : Nat := 0
  /-- R384, 8 b: HOLDER. -/
  holder : Nat := 0
  /-- R384, 24 b: PAIR_EPOCH. -/
  epoch : Nat := 0
  /-- R384, 64 b: TERM. -/
  term : Nat := 0
  /-- R384, 64 b: DEVICE_ID_0. -/
  dev0 : Nat := 0
  /-- R384, 64 b: DEVICE_ID_1. -/
  dev1 : Nat := 0
  deriving DecidableEq, Repr

/-- R377, R380: a connection shadow of the partner. -/
structure ConnShadow where
  /-- R377, 64 B: the fields the shadow carries. -/
  ctx : Ctx := { }
  /-- R377, 8 b: LOCAL_IP_IDX. -/
  localIpIdx : Nat := 0
  /-- R377, 32 b: RCV_POS. -/
  rcvPos : BitVec 32 := 0
  /-- R377, 32 b: SND_POS. -/
  sndPos : BitVec 32 := 0
  /-- R375, 8 b: push shadow: window count. -/
  pushCount : Nat := 0
  /-- R375, 8 b: push shadow: size code. -/
  pushSize : Nat := 0
  deriving DecidableEq, Repr

/-- R379: a send record. -/
structure SendRec where
  /-- R379, 32 b: FIRST_POS. -/
  first : Nat := 0
  /-- R379, 32 b: END_POS. -/
  last : Nat := 0
  /-- R379, 4 b: PLAN: 1 read data and response, 2 data fetch, 3 response only. -/
  plan : Nat := 0
  deriving DecidableEq, Repr

/-- R378: a command shadow of the partner. -/
structure CmdShadow where
  /-- R378, 32 b: CTX_GEN. -/
  ctxGen : Nat := 0
  /-- R378, 64 B: SQE, with CTX_INDEX and CAPSULE_POS. -/
  cmd : HostCmd := { }
  /-- R378, 64 b: ADMISSION_STAMP. -/
  stamp : BitVec 64 := 0
  /-- R378, 8 b: STATE. -/
  state : Nat := 1
  /-- R378, 16 b: TENANT. -/
  tenant : Nat := 0
  /-- R378, 14 b: namespace of its NSID. -/
  handle : Nat := 0
  /-- R378, 16 b: PUSH_WIN. -/
  push : Option (Nat × Nat) := none
  /-- R379, 16 B each: confirmed send records. -/
  send : List SendRec := []
  /-- R391, 1 b: its mirror record has been applied here. -/
  mirrored : Bool := false
  /-- R391, model's own: order of arrival of the shadow. -/
  order : Nat := 0
  deriving DecidableEq, Repr

/-- R372: a pairing hello. -/
structure HelloMsg where
  /-- DEVICE_ID. -/
  deviceId : Nat := 0
  /-- controller index. -/
  index : Nat := 0
  /-- mode. -/
  mode : Nat := 1
  /-- journal epoch. -/
  epoch : Nat := 0
  /-- PAIR_EN at the sender. -/
  pairEn : Bool := true
  /-- PARTNER_ID at the sender. -/
  partnerId : Nat := 0
  /-- unicast addresses. -/
  addrs : List AddrEntry := []
  /-- MAC addresses of its logical ports. -/
  macs : List Nat := []
  /-- time-base sample. -/
  timeNs : Nat := 0
  /-- every pool member has the reservation and fused-command support of R371. -/
  drivesOk : Bool := true
  deriving DecidableEq, Repr

/-- R482: the fields of a CCP request that its checks read. -/
structure CcpHdr where
  /-- SESSION. -/
  session : Nat := 0
  /-- carrier of R478: 0 mailbox, 1 management VLAN, 2 SMBus, 3 I3C. -/
  transport : Nat := 0
  /-- relayed here over the Sett link by the partner, which received it on that carrier (R481). -/
  viaSett : Bool := false
  /-- a change of shared state that the partner has executed, applied here over class 1 (R561). -/
  applied : Bool := false
  /-- for an applied change, what the partner's enclave drew or wrapped (R561). -/
  results : List Nat := []
  /-- source address and UDP port on the management VLAN. -/
  src : Nat := 0
  /-- TAG. -/
  tag : Nat := 0
  /-- ALIVE. -/
  alive : Nat := 0
  /-- CRC. -/
  crc : Nat := 0
  /-- VERSION is 0x01 and the reserved fields are 0. -/
  versionGood : Bool := true
  /-- FLAGS [2]. -/
  macPresent : Bool := false
  /-- the MAC matches the one computed under K_REQ. -/
  macGood : Bool := false
  /-- FLAGS [4]. -/
  staged : Bool := false
  /-- FLAGS [3]. -/
  relay : Bool := false
  deriving DecidableEq, Repr

/-- R62: a frame seen by the Den wake listener. -/
structure WakeFrame where
  /-- frame check sequence. -/
  fcsGood : Bool := false
  /-- addressed to a unicast MAC address of the controller. -/
  unicastToUs : Bool := false
  /-- EtherType. -/
  etherType : Nat := 0
  /-- first two payload bytes. -/
  code : Nat := 0
  deriving DecidableEq, Repr

/-- R73: a received Ethernet frame, by what its checks read. -/
structure Frame where
  /-- logical port. -/
  port : Nat := 0
  /-- length in bytes, FCS included. -/
  len : Nat := 0
  /-- frame check sequence. -/
  fcsGood : Bool := true
  /-- destination MAC address. -/
  dst : Nat := 0
  /-- EtherType. -/
  etherType : Nat := 0
  /-- VLAN identifier, 0 untagged. -/
  vid : Nat := 0
  /-- priority, 0 when untagged. -/
  pcp : Nat := 0
  /-- DSCP of an IP frame. -/
  dscp : Nat := 0
  /-- class field of EtherType 0x88B6 (R366). -/
  owlClass : Nat := 7
  /-- an ECN-capable IP frame. -/
  ecnCapable : Bool := false
  /-- EtherType 0x88B6 names the partner and its MAC is good (R367). -/
  settIndexOk : Bool := true
  deriving DecidableEq, Repr

/-- R105, R119: an RDMA CM message for QPN 1. -/
structure CmMsg where
  /-- 0 connection request, 1 ready-to-use, 2 disconnect request, 3 disconnect reply, 4 other. -/
  kind : Nat := 0
  /-- logical port it arrived on. -/
  port : Nat := 0
  /-- class of the frame (R110). -/
  cls : Nat := 0
  /-- context named by a message other than a request. -/
  index : Nat := 0
  /-- host address. -/
  remoteIp : Nat := 0
  /-- controller address. -/
  localIp : Nat := 0
  /-- next hop. -/
  remoteMac : Nat := 0
  /-- VLAN tag. -/
  vlanTag : Nat := 0
  /-- DSCP of the frame. -/
  dscp : Nat := 0
  /-- UDP source port received. -/
  remoteL4 : Nat := 0
  /-- host queue pair. -/
  remoteQpn : Nat := 0
  /-- host starting PSN. -/
  psn : Nat := 0
  /-- path MTU. -/
  mtu : Nat := 4096
  /-- host responder resources. -/
  resources : Nat := 15
  deriving DecidableEq, Repr

/-- R120: a RoCEv2 request packet. -/
structure RocePkt where
  /-- logical port it arrived on. -/
  port : Nat := 0
  /-- destination queue pair. -/
  qpn : Nat := 0
  /-- ICRC. -/
  icrcGood : Bool := true
  /-- 0 SEND, 1 RDMA WRITE, 2 RDMA READ request, 3 atomic or unsupported. -/
  opcode : Nat := 0
  /-- 24-bit PSN. -/
  psn : Nat := 0
  /-- last packet of its message. -/
  last : Bool := true
  /-- marked Congestion Experienced. -/
  ce : Bool := false
  /-- command capsule a SEND completes. -/
  capsule : Option HostCmd := none
  deriving DecidableEq, Repr

/-- R128: a TCP SYN. -/
structure TcpSyn where
  /-- logical port. -/
  port : Nat := 0
  /-- class of the frame. -/
  cls : Nat := 0
  /-- host address. -/
  remoteIp : Nat := 0
  /-- controller address. -/
  localIp : Nat := 0
  /-- next hop. -/
  remoteMac : Nat := 0
  /-- VLAN tag. -/
  vlanTag : Nat := 0
  /-- DSCP. -/
  dscp : Nat := 0
  /-- source port. -/
  remotePort : Nat := 0
  /-- destination port. -/
  localPort : Nat := 4420
  /-- initial sequence number. -/
  isn : Nat := 0
  /-- MSS option. -/
  mss : Nat := 1460
  /-- window scale option. -/
  wscale : Nat := 0
  /-- SACK-permitted. -/
  sackOk : Bool := false
  /-- timestamps offered. -/
  tsOk : Bool := false
  /-- timestamp. -/
  tsVal : Nat := 0
  /-- ECN offered. -/
  ecnOk : Bool := false
  deriving DecidableEq, Repr

/-- R128: a TCP segment that is not a SYN. -/
structure TcpSeg where
  /-- logical port. -/
  port : Nat := 0
  /-- an IP fragment. -/
  fragment : Bool := false
  /-- host address. -/
  remoteIp : Nat := 0
  /-- controller address. -/
  localIp : Nat := 0
  /-- source port. -/
  remotePort : Nat := 0
  /-- destination port. -/
  localPort : Nat := 4420
  /-- sequence number. -/
  seqNo : Nat := 0
  /-- data bytes. -/
  len : Nat := 0
  /-- acknowledgement number. -/
  ackNo : Nat := 0
  /-- window field. -/
  wnd : Nat := 0
  /-- FIN. -/
  fin : Bool := false
  /-- RST. -/
  rst : Bool := false
  /-- URG. -/
  urg : Bool := false
  /-- ECE. -/
  ece : Bool := false
  /-- CWR. -/
  cwr : Bool := false
  /-- marked Congestion Experienced. -/
  ce : Bool := false
  /-- timestamp value. -/
  tsVal : Nat := 0
  /-- SACK ranges. -/
  sackRanges : List (Nat × Nat) := []
  /-- its last byte ends an NVMe/TCP PDU. -/
  pduEnd : Bool := false
  /-- command capsules its data completes. -/
  capsules : List HostCmd := []
  deriving DecidableEq, Repr

/-- R143 to R149: a Connect. -/
structure ConnectCmd where
  /-- connection it arrived on. -/
  ctx : Nat := 0
  /-- command identifier. -/
  cid : Nat := 0
  /-- 0 for an admin queue. -/
  qid : Nat := 0
  /-- fabric controller of an I/O queue. -/
  cntlid : Nat := 0
  /-- queue depth asked for. -/
  depth : Nat := 32
  /-- KATO. -/
  katoMs : Nat := 0
  /-- asks to disable SQ flow control. -/
  disableFlow : Bool := false
  /-- names the discovery NQN. -/
  discovery : Bool := false
  /-- names the subsystem NQN. -/
  subsysMatch : Bool := true
  /-- Host Identifier. -/
  hostid : Nat := 0
  /-- host NQN. -/
  nqn : Bytes := []
  /-- transport position of the capsule. -/
  pos : Nat := 0
  /-- CRC-32C of the submission entry. -/
  sqeCrc : Nat := 0
  deriving DecidableEq, Repr

/-- R180, R394: a handover message. -/
structure HandoverMsg where
  /-- a lease handover rather than that of a leaving controller. -/
  isLease : Bool := true
  /-- namespace. -/
  handle : Nat := 0
  /-- extent. -/
  extNo : Nat := 0
  /-- LAST_STAMP of the extent. -/
  lastStamp : Nat := 0
  /-- read entries: (slot, stamp, first block, blocks). -/
  reads : List (Nat × Nat × Nat × Nat) := []
  /-- final positions: (context, receive, send). -/
  positions : List (Nat × Nat × Nat) := []
  deriving DecidableEq, Repr

/-- R224, R246, R263: a stored block read from a drive for a stripe operation. -/
structure PosBlock where
  /-- position in the stripe: D0 to D(K-1), then C1 to CM. -/
  pos : Nat := 0
  /-- block row 0 to 15. -/
  row : Nat := 0
  /-- the drive returned it. -/
  readable : Bool := true
  /-- its 4,160 bytes. -/
  bytes : Bytes := []
  /-- its GCM tag, where it was checked. -/
  tagGood : Bool := true
  deriving DecidableEq, Repr

/-- R182, R220: versions carried over the Sett link. -/
structure MirrorMsg where
  /-- command slot of the write at its receiving controller. -/
  slot : Nat := 0
  /-- controller index holding that slot. -/
  holder : Nat := 0
  /-- namespace. -/
  handle : Nat := 0
  /-- admission stamp. -/
  stamp : Nat := 0
  /-- the send record it carries, of the write's response or data fetch. -/
  send : List SendRec := []
  /-- a synchronisation copy rather than a mirror record. -/
  copy : Bool := false
  /-- (larder slot, stored block, block, trailer). -/
  blocks : List (Nat × Nat × Bytes × Bytes) := []
  deriving DecidableEq, Repr

/-- R255: one candidate copy of a journal. -/
structure JCopy where
  /-- 0 own HBM, 1 partner HBM, 2 to 4 the journal drives A to C. -/
  src : Nat := 0
  /-- its records with good CRCs, oldest first. -/
  recs : List JRec := []
  deriving DecidableEq, Repr

/-- R384, R387: a quorum block as read from a quorum drive. -/
structure QuorumRead where
  /-- quorum drive 0 to 2. -/
  drive : Nat := 0
  /-- its drive slot. -/
  slot : Nat := 0
  /-- it answered and QB_CRC is good. -/
  good : Bool := true
  /-- the record. -/
  block : QBlock := { }
  deriving DecidableEq, Repr

/-- R311, R530: what the drives of one pool hold at import. -/
structure PoolImport where
  /-- pool number of the labels. -/
  pool : Nat := 0
  /-- POOL_CFG_n of the labels. -/
  cfg : Nat := 0
  /-- POOL_MEMBERS_n of the labels. -/
  members : Nat := 0
  /-- SHELF_ID of the key directory header. -/
  shelfId : Nat := 0
  /-- SHELF_KEY unwraps under DEVICE_WRAP. -/
  unwraps : Bool := true
  /-- SHELF_KEY wrapped under DEVICE_WRAP, of the current shelf generation. -/
  wrapped : Nat := 0
  /-- current shelf generation. -/
  shelfGen : Nat := 0
  /-- the same of the previous shelf generation, while a rotation runs. -/
  oldWrapped : Option Nat := none
  /-- DIR_SEQ of the best key directory header. -/
  dirSeq : Nat := 0
  /-- permutation table. -/
  perm : Bytes := []
  /-- journal candidates. -/
  copies : List JCopy := []
  /-- slab map. -/
  slabMap : List (Nat × Nat) := []
  /-- bits set in the newer valid checkpoint. -/
  bitmap : List Nat := []
  /-- SEQ that checkpoint is tagged with. -/
  bitmapSeq : Nat := 0
  /-- (namespace handle, stored block) found to fail its trailer. -/
  badData : List (Nat × Nat) := []
  deriving DecidableEq, Repr

/-- R530: one configuration copy. -/
structure ConfCopy where
  /-- pool it was read from. -/
  pool : Nat := 0
  /-- CONF_SEQ. -/
  confSeq : Nat := 0
  /-- its CMAC under DIR_KEY. -/
  cmacGood : Bool := true
  /-- object identifiers and contents. -/
  objects : List (Nat × Bytes) := []
  deriving DecidableEq, Repr

/-- R253, R254: blocks read from one stripe of a row. -/
structure StripeRead where
  /-- pool stripe number, with bit [63] for the new geometry of a reshape. -/
  stripe : Nat := 0
  /-- blocks read. -/
  blocks : List PosBlock := []
  deriving DecidableEq, Repr

/-- R295: blocks that a failed lane processed since its last clean known-answer block, already placed or sent. -/
structure Suspect where
  /-- namespace handle. -/
  handle : Nat := 0
  /-- first stored block. -/
  first : Nat := 0
  /-- stored blocks. -/
  count : Nat := 0
  deriving DecidableEq, Repr

/-- R321: what a fuse load finds. -/
structure FuseRead where
  /-- every cell's margin is good. -/
  marginOk : Bool := true
  /-- the cells of LIFE_CYCLE agree. -/
  lifeCycleOk : Bool := true
  /-- the cells of every mask, ceiling and hash field agree. -/
  masksOk : Bool := true
  deriving DecidableEq, Repr

/-- R63: what the restore of a Den wake finds. -/
structure DenRestore where
  /-- the CRC-64 of the SRAM tables matches Den SRAM. -/
  sramGood : Bool := true
  /-- the CRC-64 of the resident image matches Den SRAM. -/
  imageGood : Bool := true
  /-- the enclave self-test passes. -/
  selfTestGood : Bool := true
  deriving DecidableEq, Repr

/-- R314: a tenant capsule. -/
structure Capsule where
  /-- KIND. -/
  kind : Nat := 0
  /-- VERSION. -/
  version : Nat := 1
  /-- TENANT. -/
  tenant : Nat := 0
  /-- NS_HANDLE. -/
  handle : Nat := 0
  /-- GEN. -/
  gen : Nat := 0
  /-- the reserved byte is 0. -/
  reservedZero : Bool := true
  /-- CAPSULE_SEQ. -/
  seqNo : Nat := 0
  /-- SHELF_ID. -/
  shelfId : Nat := 0
  /-- the MAC under TAK is good. -/
  macGood : Bool := true
  /-- KEY_IMPORT: the wrapped key of BODY. -/
  wrappedKey : Nat := 0
  /-- KEY_IMPORT: its unwrap passes its integrity check. -/
  unwrapGood : Bool := true
  /-- ATTACH: host identity. -/
  host : Nat := 0
  /-- ATTACH: action 0x01. -/
  attachIt : Bool := true
  /-- ATTACH: HOSTID. -/
  hostid : Nat := 0
  /-- ATTACH: the digest equals that of the entry's HOSTNQN. -/
  nqnDigestGood : Bool := true
  deriving DecidableEq, Repr

/-- R499: the parameters of a step to PROVISIONED. -/
structure Provisioning where
  /-- ROLE_MASK_SHELF. -/
  maskShelf : Nat := 0
  /-- ROLE_MASK_TENANT. -/
  maskTenant : Nat := 0
  /-- ROLE_MASK_SERVICE. -/
  maskService : Nat := 0
  /-- ENERGY_CEILING_J. -/
  energyCeilJ : Nat := 0
  /-- SLOT_CLASS_CEIL. -/
  slotCeil : Nat := 0
  /-- DEBUG_LOCK. -/
  debugLock : Nat := 0
  /-- OWNER_KEY_HASH. -/
  ownerHash : Nat := 0
  deriving DecidableEq, Repr

/-- R328: an unlock token. -/
structure UnlockToken where
  /-- 1 ECDSA P-384, 2 ML-DSA-87. -/
  kind : Nat := 1
  /-- the challenge it signs. -/
  challenge : Nat := 0
  /-- the DEVICE_ID it signs. -/
  deviceId : Nat := 0
  /-- it verifies against UHLETH_KEY_HASH. -/
  sigGood : Bool := true
  deriving DecidableEq, Repr

/-- R381: a beat as received. -/
structure BeatMsg where
  /-- on the network path rather than a Sett bundle. -/
  network : Bool := false
  /-- FRAME_CRC good. -/
  crcGood : Bool := true
  /-- SENDER [0]. -/
  sender : Nat := 0
  /-- PAIR_EPOCH. -/
  epoch : Nat := 0
  /-- MODE. -/
  mode : Nat := 3
  deriving DecidableEq, Repr

/-- R331: the partner's evidence. -/
structure EvidenceMsg where
  /-- both signatures and the certificates verify. -/
  sigGood : Bool := true
  /-- LIFE_CYCLE [3:0]. -/
  lifeCycle : Nat := 0
  /-- FUSE_MAP bytes 16 to 159 equal this controller's. -/
  fusesEqual : Bool := true
  /-- DEBUG_LOCK. -/
  debugLock : Nat := 0
  /-- SVN of its image. -/
  svn : Nat := 0
  /-- ANTIROLLBACK. -/
  antiRollback : Nat := 0
  deriving DecidableEq, Repr

/-- R373: the partner's part of the shelf key exchange. -/
structure KeyExMsg where
  /-- both alias signatures verify. -/
  sigGood : Bool := true
  /-- ephemeral public key. -/
  pubKey : Nat := 0
  /-- SHELF_KEY under SETT_KEK, where the partner holds one. -/
  wrapped : Option Nat := none
  /-- its shelf generation. -/
  shelfGen : Nat := 0
  deriving DecidableEq, Repr

/-- R405, R406: what a bring-up step finds at the drive. -/
structure EnumInfo where
  /-- the step succeeded. -/
  good : Bool := true
  /-- link speed code trained. -/
  speed : Nat := 5
  /-- lanes trained. -/
  width : Nat := 4
  /-- the lanes of the group were found reversed. -/
  reversed : Bool := false
  /-- the requirements of R406 hold. -/
  usable : Bool := true
  /-- NSQA. -/
  nsqa : Nat := 15
  /-- NCQA. -/
  ncqa : Nat := 15
  /-- CAP.MQES. -/
  mqes : Nat := 1023
  /-- capacity of namespace 1 in blocks. -/
  blocks : Nat := 1048576
  /-- deepest non-operational state with exit latency at most 100 us. -/
  deepState : Nat := 0
  /-- a reservation is already held. -/
  resHeld : Bool := false
  /-- the partner's key is still registered. -/
  partnerReg : Bool := false
  /-- pool label: (pool, member slot). -/
  label : Option (Nat × Nat) := none
  /-- the label is the member's own under R241. -/
  labelCurrent : Bool := true
  /-- formatted as R202 requires. -/
  formatOk : Bool := true
  deriving DecidableEq, Repr

/-- R407, R412: a completion of a drive command. -/
structure DriveCpl where
  /-- 0 success, 1 media error, 2 compare failure, 3 reservation conflict, 4 aborted, 5 other error. -/
  status : Nat := 0
  /-- stored blocks of 4,160 bytes a read returned. -/
  blocks : List Bytes := []
  /-- the GCM tags of the blocks verify. -/
  tagGood : Bool := true
  /-- the record a read of a quorum block returned. -/
  qblock : QBlock := { }
  deriving DecidableEq, Repr

/-- R329: how an SPDM request arrived. -/
structure SpdmSrc where
  /-- carried by CCP opcode 0x08 on the mailbox rather than as MCTP type 0x05. -/
  overMailbox : Bool := false
  /-- its CCP header when it came over the mailbox. -/
  h : CcpHdr := { }
  deriving DecidableEq, Repr

/-- R480: an NVMe-MI command. -/
structure NvmeMi where
  /-- command. -/
  opcode : Nat := 0
  /-- data structure type, configuration identifier or value. -/
  arg : Nat := 0
  /-- value of Configuration Set. -/
  value : Nat := 0
  deriving DecidableEq, Repr

/-- R501: the namespace descriptor of a request. -/
structure NsDescReq where
  /-- NS_HANDLE. -/
  handle : Nat := 0
  /-- TENANT. -/
  tenant : Nat := 0
  /-- POOL. -/
  pool : Nat := 0
  /-- KEYING. -/
  keying : Nat := 0
  /-- FORMAT. -/
  format : Nat := 0
  /-- EXTENTS. -/
  extents : Nat := 0
  /-- the reserved bytes are 0. -/
  reservedZero : Bool := true
  deriving DecidableEq, Repr

/-- R326: what the check of an image finds. -/
structure ImageCheck where
  /-- image length. -/
  length : Nat := 0
  /-- ECDSA P-384 signature. -/
  ecdsaGood : Bool := false
  /-- ML-DSA-87 signature. -/
  mlDsaGood : Bool := false
  /-- security version. -/
  svn : Nat := 0
  /-- SHA-384 digest. -/
  digest : Nat := 0
  /-- settings block: (object key, value). -/
  settings : List (Nat × Nat) := []
  deriving DecidableEq, Repr

/-- R481: a CCP packet relayed by the partner, or the partner's reply to one. -/
structure Relay where
  /-- a reply coming back. -/
  isReply : Bool := false
  /-- opcode. -/
  opcode : Nat := 0
  /-- header. -/
  h : CcpHdr := { }
  /-- status of a reply. -/
  status : Nat := 0
  /-- bytes of a reply. -/
  packet : Bytes := []
  deriving DecidableEq, Repr

end Sys2Proof
end

