-- ==== Sys2Proof/Syntax.lean ====
section
/-! DEFINITION. The commands of the block: one constructor for each row of spec/opcode_table.json. -/
namespace Sys2Proof

/-- A command. The docstring of each constructor names its row and the rule that gives its effect. -/
inductive Instr where
  /-- FLIT_ARRIVAL (R29). -/
  | flitArrival (island : Nat) (flit : Nat) (crcGood : Bool)
  /-- ISLAND_IDLE_EXPIRY (R50). -/
  | islandIdleExpiry (island : Nat)
  /-- ARBITER_GRANT (R42). -/
  | arbiterGrant (resource : Nat)
  /-- IDLE_LEVEL_TIMER (R65). -/
  | idleLevelTimer (level : Nat)
  /-- DEN_ENTRY_START (R57). -/
  | denEntryStart (partnerIdle : Bool)
  /-- DEN_COMMIT_TIMEOUT (R58). -/
  | denCommitTimeout
  /-- DRIVE_SHUTDOWN_COMPLETE (R58). -/
  | driveShutdownComplete (slot : Nat)
  /-- DRIVE_SHUTDOWN_TIMEOUT (R421). -/
  | driveShutdownTimeout (slot : Nat)
  /-- DEN_COMMIT (R58). -/
  | denCommit
  /-- WAKE_FRAME (R62). -/
  | wakeFrame (frame : WakeFrame)
  /-- DEN_WAKE_TIMER_EXPIRY (R61). -/
  | denWakeTimerExpiry
  /-- SETT_WAKE_IN_ASSERT (R61). -/
  | settWakeInAssert
  /-- SET_FEATURES_POWER_MGMT (R53). -/
  | setFeaturesPowerMgmt (q : AdminCmd) (ps : Nat)
  /-- POWER_STATE_ENTRY_END (R54). -/
  | powerStateEntryEnd
  /-- FRAME_RECEIVE (R73). -/
  | frameReceive (f : Frame)
  /-- PFC_XOFF_REFRESH (R354). -/
  | pfcXoffRefresh (port : Nat) (cls : Nat)
  /-- PFC_FRAME_RECEIVE (R83). -/
  | pfcFrameReceive (port : Nat) (quanta : List Nat) (enable : Nat)
  /-- PFC_PAUSE_EXPIRY (R83). -/
  | pfcPauseExpiry (port : Nat) (cls : Nat)
  /-- PFC_WD_TRIP (R84). -/
  | pfcWdTrip (port : Nat) (cls : Nat)
  /-- PFC_WD_RESTORE (R84). -/
  | pfcWdRestore (port : Nat) (cls : Nat)
  /-- LLDP_RECEIVE (R77). -/
  | lldpReceive (port : Nat)
  /-- LLDP_TRANSMIT (R77). -/
  | lldpTransmit
  /-- LACPDU_RECEIVE (R95). -/
  | lacpduReceive (port : Nat) (sync : Bool) (collecting : Bool) (distributing : Bool)
  /-- LACP_PERIODIC (R91). -/
  | lacpPeriodic (lag : Nat)
  /-- GATE_INTERVAL_END (R88). -/
  | gateIntervalEnd (port : Nat)
  /-- EGRESS_DISPATCH (R339). -/
  | egressDispatch (port : Nat)
  /-- FRAME_TRANSMIT_END (R352). -/
  | frameTransmitEnd (port : Nat) (item : Nat)
  /-- PORT_LINK_UP (R71). -/
  | portLinkUp (port : Nat) (rate : Nat)
  /-- PORT_LINK_DOWN (R94). -/
  | portLinkDown (port : Nat)
  /-- BUCKET_MOVE_COMMIT (R94). -/
  | bucketMoveCommit (lag : Nat) (bucket : Nat)
  /-- BUCKET_MOVE_TIMEOUT (R94). -/
  | bucketMoveTimeout (lag : Nat) (bucket : Nat)
  /-- STEP_WINDOW_END (R98). -/
  | stepWindowEnd (lag : Nat)
  /-- STEP_UP_EVAL (R100). -/
  | stepUpEval (lag : Nat)
  /-- STEP_PHASE_TIMEOUT (R99). -/
  | stepPhaseTimeout (lag : Nat)
  /-- STEP_DRAIN_COMPLETE (R99). -/
  | stepDrainComplete (lag : Nat)
  /-- ATTACH_RETRY_TIMER (R99). -/
  | attachRetryTimer (lag : Nat)
  /-- CM_DATAGRAM (R105). -/
  | cmDatagram (m : CmMsg)
  /-- ROCE_REQUEST_PACKET (R120). -/
  | roceRequestPacket (p : RocePkt)
  /-- CONTEXT_WRITEBACK_COMMIT (R116). -/
  | contextWritebackCommit (index : Nat)
  /-- CONTEXT_FILL_COMPLETE (R118). -/
  | contextFillComplete (index : Nat) (crcGood : Bool)
  /-- PUSH_WRITE_PACKET (R124). -/
  | pushWritePacket (index : Nat) (psn : Nat) (key : Nat) (addr : Nat) (bytes : Bytes) (last : Bool) (ce : Bool)
  /-- ROCE_ACK_RECEIVE (R121). -/
  | roceAckReceive (index : Nat) (psn : Nat) (kind : Nat)
  /-- ROCE_READ_RESPONSE (R121). -/
  | roceReadResponse (index : Nat) (slot : Nat) (bytes : Bytes) (last : Bool)
  /-- ROCE_CNP_RECEIVE (R133). -/
  | roceCnpReceive (index : Nat)
  /-- ROCE_ACK_TIMEOUT (R121). -/
  | roceAckTimeout (index : Nat)
  /-- ROCE_RNR_DELAY_END (R121). -/
  | roceRnrDelayEnd (index : Nat)
  /-- TCP_SYN_RECEIVE (R128). -/
  | tcpSynReceive (y : TcpSyn)
  /-- TCP_SEGMENT_RECEIVE (R128). -/
  | tcpSegmentReceive (g : TcpSeg)
  /-- ICREQ_RECEIVE (R129). -/
  | icreqReceive (index : Nat) (hpda : Nat) (hdgst : Bool) (ddgst : Bool)
  /-- H2CDATA_RECEIVE (R129). -/
  | h2cdataReceive (index : Nat) (ttag : Nat) (bytes : Bytes) (last : Bool) (hdrDigestGood : Bool) (dataDigestGood : Bool)
  /-- H2CTERMREQ_RECEIVE (R129). -/
  | h2ctermreqReceive (index : Nat)
  /-- TCP_RTO_EXPIRY (R130). -/
  | tcpRtoExpiry (index : Nat)
  /-- DELAYED_ACK_TIMER (R128). -/
  | delayedAckTimer (index : Nat)
  /-- OPENING_TIMEOUT (R109). -/
  | openingTimeout (index : Nat)
  /-- DRAINING_CLOSE_TIMEOUT (R109). -/
  | drainingCloseTimeout (index : Nat)
  /-- QUARANTINE_END (R109). -/
  | quarantineEnd (index : Nat)
  /-- PUSH_HOLD_EXPIRY (R127). -/
  | pushHoldExpiry (index : Nat) (window : Nat)
  /-- CONNECT (R144). -/
  | connect (c : ConnectCmd)
  /-- PROPERTY_GET (R154). -/
  | propertyGet (q : AdminCmd) (offset : Nat)
  /-- PROPERTY_SET (R147). -/
  | propertySet (q : AdminCmd) (offset : Nat) (value : Nat)
  /-- DISCONNECT (R147). -/
  | disconnect (q : AdminCmd)
  /-- IDENTIFY (R155). -/
  | identify (q : AdminCmd) (cns : Nat) (nsid : Nat)
  /-- GET_LOG_PAGE (R154). -/
  | getLogPage (q : AdminCmd) (lid : Nat) (nsid : Nat)
  /-- SET_FEATURES_ARBITRATION (R156). -/
  | setFeaturesArbitration (q : AdminCmd) (value : Nat) (save : Bool)
  /-- SET_FEATURES_NUM_QUEUES (R156). -/
  | setFeaturesNumQueues (q : AdminCmd) (value : Nat) (save : Bool)
  /-- SET_FEATURES_WRITE_ATOMICITY (R156). -/
  | setFeaturesWriteAtomicity (q : AdminCmd) (value : Nat) (save : Bool)
  /-- SET_FEATURES_ASYNC_EVENT_CFG (R156). -/
  | setFeaturesAsyncEventCfg (q : AdminCmd) (value : Nat) (save : Bool)
  /-- SET_FEATURES_PUSH_WINDOWS (R122). -/
  | setFeaturesPushWindows (q : AdminCmd) (qid : Nat) (count : Nat) (size : Nat)
  /-- GET_FEATURES (R156). -/
  | getFeatures (q : AdminCmd) (fid : Nat) (select : Nat)
  /-- ABORT (R158). -/
  | abort (q : AdminCmd) (sqid : Nat) (cid : Nat)
  /-- ASYNC_EVENT_REQUEST (R155). -/
  | asyncEventRequest (q : AdminCmd)
  /-- KEEP_ALIVE (R146). -/
  | keepAlive (q : AdminCmd)
  /-- KEEP_ALIVE_EXPIRY (R146). -/
  | keepAliveExpiry (cntlid : Nat)
  /-- COMMAND_CAPSULE (R150). -/
  | commandCapsule (c : HostCmd)
  /-- READ (R35). -/
  | read (slot : Nat)
  /-- WRITE (R38). -/
  | write (slot : Nat)
  /-- FLUSH (R162). -/
  | flush (slot : Nat)
  /-- COMPARE (R277). -/
  | compare (slot : Nat)
  /-- WRITE_ZEROES (R174). -/
  | writeZeroes (slot : Nat)
  /-- DATASET_MANAGEMENT (R560). -/
  | datasetManagement (slot : Nat)
  /-- VERIFY (R277). -/
  | verify (slot : Nat)
  /-- SLOT_RELEASE (R153). -/
  | slotRelease (slot : Nat)
  /-- REPLAY_RECORD_EXPIRY (R165). -/
  | replayRecordExpiry (rec : Nat)
  /-- SATURATION_SAMPLE (R168). -/
  | saturationSample (dispatchShort : Bool) (worst : Nat) (p50 : Nat) (p99 : Nat)
  /-- DEFER_RELEASE_SCAN (R348). -/
  | deferReleaseScan
  /-- STAMP_REQUEST (R188). -/
  | stampRequest (r : StampReq) (send : List SendRec)
  /-- STAMP_REPLY (R181). -/
  | stampReply (slot : Nat) (stamp : BitVec 64) (waits : Nat) (part : Nat) (moved : Bool) (lslots : List Nat)
  /-- GO (R181). -/
  | go (slot : Nat) (part : Nat)
  /-- WITHDRAWAL (R159). -/
  | withdrawal (slot : Nat) (handle : Nat) (slba : Nat)
  /-- WITHDRAWAL_REPLY (R159). -/
  | withdrawalReply (slot : Nat) (withdrawn : Bool)
  /-- STAMP_RECORD (R183). -/
  | stampRecord (slot : Nat) (stamp : BitVec 64) (handle : Nat) (slba : Nat) (nlb : Nat) (send : List SendRec)
  /-- STAMP_RECORD_CONFIRMATION (R183). -/
  | stampRecordConfirmation (slot : Nat)
  /-- FENCE_EXPIRY (R178). -/
  | fenceExpiry
  /-- READ_PIN_EXPIRY (R194). -/
  | readPinExpiry (entry : Nat)
  /-- AUTO_BALANCE_MOVE (R177). -/
  | autoBalanceMove (partnerMoving : Bool)
  /-- LEASE_DRAIN_COMPLETE (R180). -/
  | leaseDrainComplete
  /-- LEASE_MOVE_TIMEOUT (R180). -/
  | leaseMoveTimeout
  /-- LEASE_PHASE (R180). -/
  | leasePhase (phase : Nat) (handle : Nat) (extNo : Nat) (target : Nat)
  /-- HANDOVER (R394). -/
  | handover (v : HandoverMsg)
  /-- EPOCH_RAISE (R173). -/
  | epochRaise (epoch : Nat)
  /-- LARDER_SLOT_RESERVE (R216). -/
  | larderSlotReserve
  /-- LARDER_PLACEMENT (R218). -/
  | larderPlacement (slot : Nat)
  /-- MIRROR_RECORD (R220). -/
  | mirrorRecord (m : MirrorMsg)
  /-- MIRROR_CONFIRMATION (R219). -/
  | mirrorConfirmation (slot : Nat)
  /-- RELEASE (R220). -/
  | release (slots : List Nat)
  /-- RELEASE_BATCH_TIMER (R220). -/
  | releaseBatchTimer
  /-- SYNCHRONISATION_COPY (R374). -/
  | synchronisationCopy (lslot : Nat)
  /-- FORWARDED_DATA (R182). -/
  | forwardedData (m : MirrorMsg)
  /-- PLACEMENT_CONFIRMATION (R182). -/
  | placementConfirmation (slot : Nat)
  /-- DESTAGE_PICK (R223). -/
  | destagePick (pool : Nat)
  /-- COALESCE_TIMEOUT (R223). -/
  | coalesceTimeout (pool : Nat) (stripe : Nat)
  /-- DESTAGE_AGE_EXPIRY (R223). -/
  | destageAgeExpiry (lslot : Nat)
  /-- DESTAGE_INTENT_DURABLE (R225). -/
  | destageIntentDurable (pool : Nat) (stripe : Nat) (reads : List PosBlock)
  /-- DESTAGE_WRITES_COMPLETE (R225). -/
  | destageWritesComplete (pool : Nat) (stripe : Nat) (failed : List Nat)
  /-- BITMAP_CLEAN_TIMER (R227). -/
  | bitmapCleanTimer (pool : Nat) (bit : Nat)
  /-- JOURNAL_BLOCK (R228). -/
  | journalBlock (pool : Nat) (recs : List JRec) (crcGood : Bool)
  /-- JOURNAL_DRIVE_REPLACE (R232). -/
  | journalDriveReplace (pool : Nat) (slot : Nat) (copies : List JCopy)
  /-- BOTH_FEEDS_LOST (R440). -/
  | bothFeedsLost
  /-- HOLDUP_COMPLETE (R563). -/
  | holdupComplete
  /-- MISSING_WAIT_EXPIRY (R239). -/
  | missingWaitExpiry (pool : Nat) (slot : Nat)
  /-- REBUILD_STRIPE (R246). -/
  | rebuildStripe (pool : Nat) (stripe : Nat) (reads : List PosBlock)
  /-- RESYNC_ROW_GROUP (R253). -/
  | resyncRowGroup (pool : Nat) (slot : Nat) (bit : Nat) (reads : List StripeRead)
  /-- COPYBACK_ROW (R254). -/
  | copybackRow (pool : Nat) (slot : Nat) (row : Nat) (reads : List StripeRead)
  /-- STRIPE_LOCK_GRANT (R245). -/
  | stripeLockGrant (pool : Nat) (stripe : Nat)
  /-- RESHAPE_STEP (R258). -/
  | reshapeStep (pool : Nat) (reads : List StripeRead)
  /-- BADGER_STRIPE (R263). -/
  | badgerStripe (pool : Nat) (stripe : Nat) (reads : List PosBlock)
  /-- SWEEP_START (R288). -/
  | sweepStart (handle : Nat) (gen : Nat)
  /-- KEY_UNWRAP_COMPLETE (R319). -/
  | keyUnwrapComplete (handle : Nat) (gen : Nat)
  /-- CTR_STEP_DURABLE (R283). -/
  | ctrStepDurable (handle : Nat) (gen : Nat)
  /-- GENERATION_ACTIVATION (R286). -/
  | generationActivation (handle : Nat) (gen : Nat) (what : Nat)
  /-- DUP_WINDOW (R294). -/
  | dupWindow (mismatch : List Nat) (badKat : List Nat) (suspects : List Suspect)
  /-- KNOWN_ANSWER_CHECK (R298). -/
  | knownAnswerCheck (badRealigners : List Nat) (badEngines : List Nat)
  /-- SECURITY_FAULT (R332). -/
  | securityFault (code : Nat)
  /-- KEY_ERASURE (R333). -/
  | keyErasure
  /-- DEBUG_ACCESS_ATTEMPT (R328). -/
  | debugAccessAttempt
  /-- CORE_LOCKSTEP_MISMATCH (R395). -/
  | coreLockstepMismatch (pair : Nat)
  /-- KEY_DERIVATION_COMPLETE (R286). -/
  | keyDerivationComplete (handle : Nat)
  /-- DRIVE_DISPATCH (R339). -/
  | driveDispatch (slot : Nat)
  /-- BACKGROUND_DISPATCH (R339). -/
  | backgroundDispatch (pool : Nat)
  /-- SHAPER_SLOT_FIRE (R342). -/
  | shaperSlotFire (point : Nat) (us : Nat)
  /-- SETT_ACK_RECEIVE (R369). -/
  | settAckReceive (cls : Nat) (ack : Nat)
  /-- SETT_RESEND_TIMEOUT (R369). -/
  | settResendTimeout (cls : Nat) (seqNo : Nat)
  /-- SETT_ALIGNMENT_LOSS (R369). -/
  | settAlignmentLoss (bundle : Nat)
  /-- OWL_BEAT_TIMER (R381). -/
  | owlBeatTimer
  /-- BEAT (R381). -/
  | beat (b : BeatMsg)
  /-- PARTNER_SILENCE_EXPIRY (R382). -/
  | partnerSilenceExpiry
  /-- SETT_SILENCE_EXPIRY (R382). -/
  | settSilenceExpiry
  /-- NETWORK_SILENCE_EXPIRY (R382). -/
  | networkSilenceExpiry
  /-- CUT_LINK_NOTICE (R382). -/
  | cutLinkNotice
  /-- QUORUM_WINDOW_EXPIRY (R385). -/
  | quorumWindowExpiry
  /-- TAKEOVER_CLAIM (R179). -/
  | takeoverClaim
  /-- CONNECTION_ADOPT (R139). -/
  | connectionAdopt (index : Nat)
  /-- HELLO (R372). -/
  | hello (m : HelloMsg)
  /-- EVIDENCE (R331). -/
  | evidence (e : EvidenceMsg)
  /-- KEY_EXCHANGE (R373). -/
  | keyExchange (k : KeyExMsg)
  /-- SYNCHRONISATION_END (R374). -/
  | synchronisationEnd (block : QBlock)
  /-- CONNECTION_SHADOW (R377). -/
  | connectionShadow (index : Nat) (shadow : ConnShadow)
  /-- POSITION_UPDATE (R380). -/
  | positionUpdate (index : Nat) (msn : Nat) (rcvPos : Nat) (sndPos : Nat)
  /-- COMMAND_SHADOW (R378). -/
  | commandShadow (slot : Nat) (shadow : CmdShadow)
  /-- STAMP_UPDATE (R375). -/
  | stampUpdate (slot : Nat) (stamp : BitVec 64) (send : SendRec)
  /-- SEND_RECORD (R379). -/
  | sendRecord (slot : Nat) (send : SendRec)
  /-- COMMAND_END (R375). -/
  | commandEnd (slot : Nat) (rec : Replay)
  /-- FABRIC_CONTROLLER_SHADOW (R375). -/
  | fabricControllerShadow (cntlid : Nat) (fab : FabCtrl)
  /-- PUSH_SHADOW (R375). -/
  | pushShadow (index : Nat) (count : Nat) (size : Nat)
  /-- SETT_LINK_UP (R365). -/
  | settLinkUp (bundle : Nat)
  /-- DRIVE_PORT_BRINGUP (R405). -/
  | drivePortBringup (slot : Nat)
  /-- DRIVE_ENUM_STEP_COMPLETE (R405). -/
  | driveEnumStepComplete (slot : Nat) (info : EnumInfo)
  /-- DRIVE_ENUM_STEP_TIMEOUT (R405). -/
  | driveEnumStepTimeout (slot : Nat)
  /-- DRIVE_INBOUND_REQUEST (R409). -/
  | driveInboundRequest (slot : Nat) (write : Bool) (addr : Nat) (len : Nat)
  /-- DRIVE_COMPLETION (R412). -/
  | driveCompletion (slot : Nat) (tag : Nat) (cpl : DriveCpl)
  /-- DRIVE_DEADLINE_SCAN (R411). -/
  | driveDeadlineScan (slot : Nat)
  /-- DRIVE_STALL_EXPIRY (R413). -/
  | driveStallExpiry (slot : Nat)
  /-- CSTS_POLL (R415). -/
  | cstsPoll (slot : Nat) (cfs : Bool)
  /-- PCIE_READ_TIMEOUT (R415). -/
  | pcieReadTimeout (slot : Nat)
  /-- DRIVE_UNCORR_ERROR (R415). -/
  | driveUncorrError (slot : Nat)
  /-- DRIVE_LINK_DOWN (R415). -/
  | driveLinkDown (slot : Nat)
  /-- DRIVE_CORR_ERROR (R415). -/
  | driveCorrError (slot : Nat)
  /-- RELEASE_PERST_END (R418). -/
  | releasePerstEnd (slot : Nat)
  /-- DRIVE_L1_IDLE (R421). -/
  | driveL1Idle (slot : Nat)
  /-- RESERVATION_WAIT_EXPIRY (R559). -/
  | reservationWaitExpiry (slot : Nat) (held : Bool)
  /-- SLOT_PRESENCE_ASSERT (R429). -/
  | slotPresenceAssert (slot : Nat)
  /-- SLOT_SEATED (R429). -/
  | slotSeated (slot : Nat)
  /-- SLOT_PRESENCE_LOST (R429). -/
  | slotPresenceLost (slot : Nat)
  /-- SLOT_SAMPLE (R432). -/
  | slotSample (slot : Nat) (current : Nat) (vOut : Nat) (vBus : Nat) (limiter : Bool)
  /-- SLOT_FAULT_TIMER (R432). -/
  | slotFaultTimer (slot : Nat)
  /-- SLOT_OVERCURRENT_TIMER (R434). -/
  | slotOvercurrentTimer (slot : Nat)
  /-- SLOT_TRIP (R435). -/
  | slotTrip (slot : Nat)
  /-- SLOT_COOLDOWN_END (R437). -/
  | slotCooldownEnd (slot : Nat)
  /-- SLOT_EMPTY_CLEAR (R437). -/
  | slotEmptyClear (slot : Nat)
  /-- SLOT_POWERED_CLEAR (R437). -/
  | slotPoweredClear (slot : Nat)
  /-- DRV_PERST_DEASSERT (R432). -/
  | drvPerstDeassert (slot : Nat)
  /-- FOLLOWER_GATE_CLOSE (R427). -/
  | followerGateClose (slot : Nat)
  /-- CYCLE_OFF_END (R452). -/
  | cycleOffEnd (slot : Nat)
  /-- FEED_LOSS (R439). -/
  | feedLoss (feed : Nat) (volt : Nat)
  /-- FEED_REVERSE_CURRENT (R439). -/
  | feedReverseCurrent (feed : Nat)
  /-- FEED_GOOD (R439). -/
  | feedGood (feed : Nat) (volt : Nat)
  /-- ESTORE_TEST_START (R442). -/
  | estoreTestStart (vNow : Nat)
  /-- ESTORE_TEST_MEASURE_END (R442). -/
  | estoreTestMeasureEnd (cMeas : Nat) (esrMeas : Nat)
  /-- ESTORE_TEST_TIMEOUT (R442). -/
  | estoreTestTimeout
  /-- ESTORE_CHARGE_TIMEOUT (R443). -/
  | estoreChargeTimeout
  /-- ESTORE_OVER_CEILING (R441). -/
  | estoreOverCeiling (vNow : Nat)
  /-- LARDER_LIMIT_RECOMPUTE (R446). -/
  | larderLimitRecompute (vNow : Nat) (rate : List Nat)
  /-- PARTNER_NCOVER_POLL (R445). -/
  | partnerNcoverPoll (ncover : Nat)
  /-- EYE_SAMPLE (R448). -/
  | eyeSample (heights : List (Nat × Nat))
  /-- HBM_CE_SAMPLE (R448). -/
  | hbmCeSample (counts : List Nat)
  /-- DRIVE_RISK_SAMPLE (R448). -/
  | driveRiskSample (latency : List (Nat × Nat))
  /-- FUSE_MARGIN_CHECK (R448). -/
  | fuseMarginCheck (belowHalf : Bool) (failed : Bool)
  /-- LP_PERST_ASSERT (R466). -/
  | lpPerstAssert
  /-- LP_PERST_DEASSERT (R466). -/
  | lpPerstDeassert
  /-- LP_BME_CLEAR (R467). -/
  | lpBmeClear
  /-- LP_D3HOT_ENTRY (R467). -/
  | lpD3hotEntry
  /-- LP_CC_ENABLE (R463). -/
  | lpCcEnable (adminSq : Nat) (adminCq : Nat) (intMode : Nat) (vectors : Nat) (relaxed : Bool) (ltr : Bool) (maxSnoop : Nat)
  /-- LP_CC_DISABLE (R468). -/
  | lpCcDisable
  /-- LP_CC_SHUTDOWN (R463). -/
  | lpCcShutdown (shn : Nat)
  /-- LP_DOORBELL (R462). -/
  | lpDoorbell (qid : Nat) (isCq : Bool) (value : Nat)
  /-- LP_BAR_BAD_ACCESS (R461). -/
  | lpBarBadAccess
  /-- LP_MBOX_DOORBELL (R465). -/
  | lpMboxDoorbell (len : Nat) (irqEn : Bool) (vector : Nat)
  /-- LP_VECTOR_UNMASK (R469). -/
  | lpVectorUnmask (vector : Nat)
  /-- LP_UNCORR_ERROR (R472). -/
  | lpUncorrError
  /-- LP_HOT_RESET (R472). -/
  | lpHotReset
  /-- LP_LINK_DOWN (R472). -/
  | lpLinkDown
  /-- LP_AUTO_RELEASE (R473). -/
  | lpAutoRelease
  /-- LP_IDLE_TIMER (R471). -/
  | lpIdleTimer
  /-- LP_LTR_HOLD_END (R471). -/
  | lpLtrHoldEnd
  /-- LOCAL_LINK_UP (R466). -/
  | localLinkUp (speed : Nat) (width : Nat)
  /-- HOST_MEMORY_READ_COMPLETION (R464). -/
  | hostMemoryReadCompletion (qid : Nat) (cmds : List HostCmd) (slot : Nat) (bytes : Bytes)
  /-- CCP_PACKET_DISCARD (R483). -/
  | ccpPacketDiscard (transport : Nat)
  /-- GET_INFO (R499). -/
  | getInfo (h : CcpHdr)
  /-- SESSION_OPEN (R487). -/
  | sessionOpen (h : CcpHdr) (role : Nat) (tenant : Nat) (nonce : Nat) (pubKey : Nat) (chainGood : Bool)
  /-- SESSION_AUTH (R487). -/
  | sessionAuth (h : CcpHdr) (credGood : Bool)
  /-- SESSION_AUTH_TIMEOUT (R487). -/
  | sessionAuthTimeout (session : Nat)
  /-- SESSION_HOLDOFF_END (R487). -/
  | sessionHoldoffEnd (transport : Nat)
  /-- SESSION_CLOSE (R489). -/
  | sessionClose (h : CcpHdr)
  /-- SESSION_IDLE_EXPIRY (R489). -/
  | sessionIdleExpiry (session : Nat)
  /-- NOP (R499). -/
  | nop (h : CcpHdr)
  /-- GET_EVIDENCE (R330). -/
  | getEvidence (h : CcpHdr) (nonce : Nat)
  /-- GET_CERT (R329). -/
  | getCert (h : CcpHdr) (certSlot : Nat)
  /-- SPDM_GET_VERSION (R329). -/
  | spdmGetVersion (src : SpdmSrc)
  /-- SPDM_GET_CAPABILITIES (R329). -/
  | spdmGetCapabilities (src : SpdmSrc)
  /-- SPDM_NEGOTIATE_ALGORITHMS (R329). -/
  | spdmNegotiateAlgorithms (src : SpdmSrc) (sha384 : Bool)
  /-- SPDM_GET_DIGESTS (R329). -/
  | spdmGetDigests (src : SpdmSrc)
  /-- SPDM_GET_CERTIFICATE (R329). -/
  | spdmGetCertificate (src : SpdmSrc) (certSlot : Nat) (offset : Nat) (length : Nat)
  /-- SPDM_CHALLENGE (R329). -/
  | spdmChallenge (src : SpdmSrc) (certSlot : Nat) (nonce : Nat)
  /-- SPDM_GET_MEASUREMENTS (R329). -/
  | spdmGetMeasurements (src : SpdmSrc) (index : Nat) (nonce : Nat)
  /-- NVME_MI_COMMAND (R480). -/
  | nvmeMiCommand (mi : NvmeMi)
  /-- EVENT_SUBSCRIBE (R495). -/
  | eventSubscribe (h : CcpHdr) (mask : Nat)
  /-- READ_LONG (R492). -/
  | readLong (h : CcpHdr) (offset : Nat)
  /-- READ_OBJ (R503). -/
  | readObj (h : CcpHdr) (obj : Nat) (offset : Nat) (length : Nat)
  /-- WRITE_OBJ (R503). -/
  | writeObj (h : CcpHdr) (obj : Nat) (offset : Nat) (bytes : Bytes)
  /-- STAGE (R492). -/
  | stage (h : CcpHdr) (offset : Nat) (bytes : Bytes)
  /-- CVU_CLAIM (R510). -/
  | cvuClaim (h : CcpHdr) (alg : Nat)
  /-- CVU_FEED (R509). -/
  | cvuFeed (h : CcpHdr) (unit : Nat) (bytes : Bytes)
  /-- CVU_RELEASE (R510). -/
  | cvuRelease (h : CcpHdr) (unit : Nat)
  /-- CVU_INIT (R510). -/
  | cvuInit (h : CcpHdr) (unit : Nat) (alg : Nat)
  /-- POOL_CREATE (R500). -/
  | poolCreate (h : CcpHdr) (pool : Nat)
  /-- POOL_DELETE (R500). -/
  | poolDelete (h : CcpHdr) (pool : Nat)
  /-- DRIVE_FORMAT (R500). -/
  | driveFormat (h : CcpHdr) (slot : Nat)
  /-- NS_CREATE (R501). -/
  | nsCreate (h : CcpHdr) (desc : NsDescReq)
  /-- NS_CREATE_PLAIN (R501). -/
  | nsCreatePlain (h : CcpHdr) (desc : NsDescReq)
  /-- NS_DELETE (R500). -/
  | nsDelete (h : CcpHdr) (handle : Nat)
  /-- NS_DELETE_PLAIN (R500). -/
  | nsDeletePlain (h : CcpHdr) (handle : Nat)
  /-- CRYPTO_ERASE (R337). -/
  | cryptoErase (h : CcpHdr) (handle : Nat) (copies : Nat)
  /-- TENANT_CREATE (R313). -/
  | tenantCreate (h : CcpHdr) (tenant : Nat)
  /-- TENANT_REMOVE (R336). -/
  | tenantRemove (h : CcpHdr) (tenant : Nat)
  /-- ENROL_OPEN (R313). -/
  | enrolOpen (h : CcpHdr) (tenant : Nat)
  /-- ENROL (R313). -/
  | enrol (h : CcpHdr) (tenant : Nat) (pubKey : Nat)
  /-- KEY_IMPORT (R314). -/
  | keyImport (h : CcpHdr) (cap : Capsule)
  /-- ATTACH (R315). -/
  | attach (h : CcpHdr) (cap : Capsule)
  /-- ACTIVATE (R314). -/
  | activate (h : CcpHdr) (cap : Capsule)
  /-- SWEEP (R314). -/
  | sweep (h : CcpHdr) (cap : Capsule)
  /-- ERASE_NS (R314). -/
  | eraseNs (h : CcpHdr) (cap : Capsule)
  /-- RE_ENROL (R313). -/
  | reEnrol (h : CcpHdr) (cap : Capsule)
  /-- GEN_CREATE (R285). -/
  | genCreate (h : CcpHdr) (handle : Nat)
  /-- GEN_ACTIVATE (R286). -/
  | genActivate (h : CcpHdr) (handle : Nat) (gen : Nat)
  /-- GEN_SWEEP (R288). -/
  | genSweep (h : CcpHdr) (handle : Nat) (gen : Nat)
  /-- SHELF_ROTATE (R317). -/
  | shelfRotate (h : CcpHdr)
  /-- FW_LOAD (R499). -/
  | fwLoad (h : CcpHdr) (offset : Nat) (bytes : Bytes)
  /-- FW_COMMIT (R500). -/
  | fwCommit (h : CcpHdr) (length : Nat) (image : ImageCheck)
  /-- ROLLBACK_ADVANCE (R327). -/
  | rollbackAdvance (h : CcpHdr) (count : Nat)
  /-- RESET (R499). -/
  | reset (h : CcpHdr)
  /-- DIAG_RUN (R499). -/
  | diagRun (h : CcpHdr) (test : Nat)
  /-- LIFECYCLE_STEP (R323). -/
  | lifecycleStep (h : CcpHdr) (target : Nat) (prov : Provisioning)
  /-- ROOT_BIRTH (R324). -/
  | rootBirth (h : CcpHdr)
  /-- UNLOCK_CHALLENGE (R328). -/
  | unlockChallenge (h : CcpHdr)
  /-- DEBUG_UNLOCK (R328). -/
  | debugUnlock (h : CcpHdr) (token : UnlockToken)
  /-- LOCKDOWN_CLEAR (R335). -/
  | lockdownClear (h : CcpHdr)
  /-- DELEGATE (R524). -/
  | delegate (h : CcpHdr) (tenant : Nat) (groups : Nat)
  /-- JOB_COMPLETE (R494). -/
  | jobComplete (job : Nat) (status : Nat)
  /-- BW_WINDOW_WRITE (R518). -/
  | bwWindowWrite (h : CcpHdr) (port : Nat) (windowUs : Nat)
  /-- BW_WINDOW_END (R518). -/
  | bwWindowEnd (port : Nat)
  /-- CCP_RELAY (R481). -/
  | ccpRelay (packet : Relay)
  /-- CONTAIN (R423). -/
  | contain (h : CcpHdr) (slot : Nat)
  /-- DRIVE_PORT_RELEASE (R418). -/
  | drivePortRelease (h : CcpHdr) (slot : Nat)
  /-- CLEAR_RETRY (R452). -/
  | clearRetry (h : CcpHdr) (slot : Nat)
  /-- CYCLE (R452). -/
  | cycle (h : CcpHdr) (slot : Nat)
  /-- FREEZE (R476). -/
  | freeze (h : CcpHdr)
  /-- LOCAL_PORT_RELEASE (R473). -/
  | localPortRelease (h : CcpHdr)
  /-- LEASE_MOVE (R200). -/
  | leaseMove (h : CcpHdr) (value : Nat)
  /-- MEMBER_FAIL (R239). -/
  | memberFail (h : CcpHdr) (slot : Nat)
  /-- RESHAPE_START (R256). -/
  | reshapeStart (h : CcpHdr) (pool : Nat)
  /-- RESHAPE_PAUSE (R268). -/
  | reshapePause (h : CcpHdr) (pool : Nat)
  /-- SHAPER_CONFIG_WRITE (R343). -/
  | shaperConfigWrite (h : CcpHdr) (obj : Nat) (value : Nat)
  /-- METER_CONFIG_WRITE (R347). -/
  | meterConfigWrite (h : CcpHdr) (obj : Nat) (value : Nat)
  /-- ESTORE_CFG_WRITE (R443). -/
  | estoreCfgWrite (h : CcpHdr) (bytes : Bytes)
  /-- UNPAIR (R394). -/
  | unpair (h : CcpHdr) (leaving : Nat)
  /-- RETIRE_PARTNER (R394). -/
  | retirePartner (h : CcpHdr)
  /-- QUORUM_OVERRIDE (R399). -/
  | quorumOverride (h : CcpHdr) (force : Bool) (blocks : List QuorumRead)
  /-- ALWAYS_ON_SUPPLY_RISE (R538). -/
  | alwaysOnSupplyRise (strapIdx : Bool) (strapTest : Bool)
  /-- ALWAYS_ON_SUPPLY_LOSS (R540). -/
  | alwaysOnSupplyLoss
  /-- HBM_PG_ASSERT (R538). -/
  | hbmPgAssert
  /-- CORE_PG_ASSERT (R538). -/
  | corePgAssert (fuses : FuseRead) (restore : DenRestore)
  /-- POWER_GOOD_TIMEOUT (R539). -/
  | powerGoodTimeout
  /-- POWER_RETRY_TIMER (R539). -/
  | powerRetryTimer
  /-- RESET_N_ASSERT (R541). -/
  | resetNAssert
  /-- RESET_N_RISE (R538). -/
  | resetNRise (strapIdx : Bool) (strapTest : Bool)
  /-- RAIL_EXCURSION (R537). -/
  | railExcursion (rail : Nat)
  /-- CLOCK_FAULT (R543). -/
  | clockFault
  /-- INTERNAL_FAULT (R392). -/
  | internalFault
  /-- CONTROL_WATCHDOG_EXPIRY (R45). -/
  | controlWatchdogExpiry
  /-- HBM_TRAINING_COMPLETE (R527). -/
  | hbmTrainingComplete (good : Bool)
  /-- RESET_WIPE_COMPLETE (R33). -/
  | resetWipeComplete (selfTestGood : Bool)
  /-- IMAGE_LOAD_COMPLETE (R528). -/
  | imageLoadComplete (slotB : Bool) (image : ImageCheck)
  /-- FIRMWARE_START_TIMEOUT (R529). -/
  | firmwareStartTimeout
  /-- IMPORT_START (R531). -/
  | importStart (pools : List PoolImport) (conf : List ConfCopy) (quorum : List QuorumRead)
  /-- MODE_DECISION (R532). -/
  | modeDecision
  /-- PAIR_WAIT_EXPIRY (R387). -/
  | pairWaitExpiry (blocks : List QuorumRead)
  /-- CONFIG_IMAGE_WRITE (R530). -/
  | configImageWrite
  /-- CPM_SAMPLE (R448). -/
  | cpmSample (slackPs : Nat) (avsAcked : Bool)
  /-- AVS_RETRY_TIMER (R536). -/
  | avsRetryTimer (acked : Bool)
  /-- THERMAL_SAMPLE (R555). -/
  | thermalSample (dieTemps : List Nat) (stackTemps : List Nat)
  /-- TIME_SAMPLE (R544). -/
  | timeSample (partnerNs : Nat)
  deriving DecidableEq, Repr

end Sys2Proof
end

