-- ==== Sys2Proof/Decode.lean ====
section
/-! DEFINITION. Reading a command from a word of the opcode table. -/
namespace Sys2Proof

/-- The command that a word of `nbits` bits spells by the opcode table's bits. No row of this table gives bits, so no word
spells a command (log 16). -/
def decodeTableWord (_nbits _w : Nat) : Option Instr := none

end Sys2Proof
end

