-- ==== Sys2Proof/Config.lean ====
section
/-! DEFINITION. What the spec leaves open: values that are drawn, and results of the cryptographic algorithms it
names. Each is a constant with no body, so that no proof can rest on a value of it (log 5). -/
namespace Sys2Proof

/-- The draw numbered by its argument, of the entropy source (R318) or of a seeded generator (R350, R519). -/
opaque Config.entropy : Nat → Nat

/-- The key that R310 derives from a key, with a label (by its number in the docstrings of its users) and a context. -/
opaque Config.kdf : Nat → Nat → List Nat → Nat

/-- AES-KW of R311: the wrapping key and the key wrapped. -/
opaque Config.wrap : Nat → Nat → Nat

/-- The unwrap of R311: the wrapping key and the wrapped key. -/
opaque Config.unwrap : Nat → Nat → Nat

/-- AES-256-GCM ciphertext of a block (R276): key, initialisation vector, plaintext. -/
opaque Config.gcmEncrypt : Nat → Nat → List (BitVec 8) → List (BitVec 8)

/-- AES-256-GCM plaintext of a block (R276): key, initialisation vector, ciphertext. -/
opaque Config.gcmDecrypt : Nat → Nat → List (BitVec 8) → List (BitVec 8)

/-- AES-256-GCM tag of a block (R276): key, initialisation vector, additional data, ciphertext. -/
opaque Config.gcmTag : Nat → Nat → List (BitVec 8) → List (BitVec 8) → Nat

/-- SHA-384 (R321, R330) of a byte string. -/
opaque Config.sha384 : List (BitVec 8) → Nat

/-- The public key of an elliptic-curve private key (R313, R487). -/
opaque Config.pubKey : Nat → Nat

/-- The shared secret of a private and a public key (R313, R373, R487). -/
opaque Config.shared : Nat → Nat → Nat

/-- A signature or MAC: kind (1 ECDSA P-384, 2 ML-DSA-87, 3 AES-256-CMAC), key, message (R330, R482, R487). -/
opaque Config.sign : Nat → Nat → List Nat → Nat

/-- Certificate chain bytes in a certificate slot, issued outside the controller (R329). -/
opaque Config.certChain : Nat → List (BitVec 8)

/-- The SHA-384 of the boot ROM (R330). -/
opaque Config.bootRomDigest : Nat

/-- Whether staging for capsules that wait for a slot is full with that many waiting: the spec gives no size (R150). -/
opaque Config.stagingFull : Nat → Bool

/-- What lies at an address of a slot's queue area, by queue pairs Q and entries D: 1 a submission queue, 2 a completion queue, else neither
(R407, R408 give no addresses within the area). -/
opaque Config.queuePart : Nat → Nat → Nat → Nat

end Sys2Proof
end

