-- ==== Sys2Proof/Machine/State.lean ====
section
/-! DEFINITION. The state of the controller: everything the spec gives the machine, as plain data, and the
machine right after reset. Each structure names the rules it follows; INVENTORY.md lists every field. -/
namespace Sys2Proof.Machine

/-- Why the model stops with a fault. -/
inductive Fault where
  /-- A command names a unit the hardware does not have (a slot above 63, a logical port above 15, a pool above 7 ...).
  Raised by the meanings of commands with such an operand, through `bounded`. Safe: no sender of the hardware can send it. -/
  | noSuchUnit
  deriving DecidableEq, Repr

/-- Why the model refuses a command. -/
inductive Refusal where
  /-- The command has no meaning yet. Raised by `exec` alone. Safe: the model stops where the hardware goes on. -/
  | notModelled (mnemonic : String)
  deriving DecidableEq, Repr

/-- R6 the six operating modes: Den, Waking, Solo, Paired, Survivor, Lockdown. -/
inductive Mode where
  | m0
  | m1
  | m2
  | m3
  | m4
  | m5
  deriving DecidableEq, Repr, Inhabited

/-- R41, R44: run-time arbitration of one shared resource. -/
structure ArbRes where
  /-- R44, 16 b, saturating: configuration requests refused with CONFLICT. -/
  conflictCount : Nat := 0
  /-- R44, 16 b, saturating: run-time grants delayed. -/
  deferCount : Nat := 0
  deriving DecidableEq, Repr

/-- R27 to R30, R42: island gates, crossbar ports and the arbiter of the shared resources. -/
structure Spine where
  /-- R66, 16 b: bit n is 1 while island n is open. -/
  islandsOpen : BitVec 16 := 0
  /-- R29, 16 x 64 flits: flits held at the port of a gated island, in arrival order. -/
  holdQueue : Tbl (List Nat) := []
  /-- R30, flit names: flits that failed their CRC once and were resent. -/
  resent : List Nat := []
  /-- R30, 16 b: crossbar ports marked failed. -/
  portFailed : BitVec 16 := 0
  /-- R41, 22 entries: one entry per resource number that is not idle. -/
  arb : Tbl ArbRes := []
  /-- R395, 12 b: control core pairs taken out after a lockstep mismatch. -/
  coreFailed : BitVec 12 := 0
  deriving DecidableEq, Repr

/-- R54: an entry into a deeper device power state that is running. -/
structure PsEntry where
  /-- R54, 2 b: the device power state being entered. -/
  target : Nat := 0
  /-- R54, pairs: (fabric controller, command id) of the Set Features waiting for the end of entry. -/
  waiting : List (Nat × Nat) := []
  deriving DecidableEq, Repr

/-- R58: a Den entry that is running. -/
structure DenEntry where
  /-- R58, 1 to 6: the step now running. -/
  entryStep : Nat := 1
  /-- R58, 3 b: the mode being left. -/
  fromMode : Mode := .m2
  /-- R58, slots: drives not yet reported shut down (DRIVE_OFF = 1). -/
  drivesWaiting : List Nat := []
  deriving DecidableEq, Repr

/-- R45 to R66: mode and power state. -/
structure Modes where
  /-- R66, 3 b: current mode (MODE_STATUS.MODE, reset 0b001). -/
  mode : Mode := .m1
  /-- R66, 3 b: KEEP; 0b001 after loss of the always-on supply. -/
  prevMode : Mode := .m1
  /-- R66, 2 b: device power state. -/
  nvmePs : Nat := 0
  /-- R66, 8 b: KEEP; 0x00 after supply loss. -/
  lastCause : Nat := 0
  /-- R66, 8 b: KEEP; 0x00 after supply loss. -/
  wakeSource : Nat := 0
  /-- R65, 2 b: idle level in M1 or M5: 0 none, 1 to 3 (MODE_STATUS.IDLE_EXLAT). -/
  idleLevel : Nat := 0
  /-- R66, 16 b, saturating: KEEP; 0 after supply loss. -/
  transitions : Nat := 0
  /-- R54, option: power-state entry now running. -/
  psEntry : Option PsEntry := none
  /-- R58, option: Den entry now running. -/
  denEntry : Option DenEntry := none
  /-- R63, option: mode left at the last Den entry, until the restore ends. -/
  denLeft : Option Mode := none
  /-- R58, 1 b: step 2's copies and CRC-64s are held in Den SRAM. -/
  denSaved : Bool := false
  /-- R59, option: wake code latched after the commit point. -/
  wakeLatched : Option Nat := none
  /-- R52, 1 b: Badger and reshape paused by PS2. -/
  psBadgerPaused : Bool := false
  deriving DecidableEq, Repr

/-- R83, R84: PFC state of one class of one port. -/
structure ClassState where
  /-- R83, 64 b: time the pause ends, 0 when not paused. -/
  pausedUntil : Nat := 0
  /-- R84, 64 b: time the present unbroken pause began. -/
  pausedSince : Nat := 0
  /-- R84, 1 b: watchdog tripped: the class is treated as lossy. -/
  wdTripped : Bool := false
  /-- R84, 64 b: last pause request seen while tripped. -/
  wdLastReq : Nat := 0
  /-- R354, 1 b: XOFF sent and not released. -/
  xoffSent : Bool := false
  deriving DecidableEq, Repr

/-- R69 to R101: one logical port. -/
structure Port where
  /-- R71, 1 b: link up. -/
  linkUp : Bool := false
  /-- R69, Gb/s: current rate. -/
  rate : Nat := 0
  /-- R95, 1 b: LACP collecting. -/
  collecting : Bool := false
  /-- R93, 1 b: LACP distributing. -/
  distributing : Bool := false
  /-- R99, 1 b: link partner reports synchronised. -/
  partnerSync : Bool := false
  /-- R99, 1 b: Synchronization bit of the LACPDUs sent. -/
  syncSent : Bool := true
  /-- R79, 8 classes: classes whose PFC state is not idle. -/
  classes : Tbl ClassState := []
  /-- R88, 6 b: entry of the schedule now running, counted from BASE. -/
  gateEntry : Nat := 0
  /-- R89, 6 b: BASE of the schedule now running. -/
  gateBase : Nat := 0
  /-- R89, 7 b: COUNT of the schedule now running, 0 before the first interval ends. -/
  gateCount : Nat := 0
  /-- R90, 64 b: time the present interval began. -/
  gateOpenedNs : Nat := 0
  /-- R88, 16 b, saturating: OWL_LATE. -/
  owlLate : Nat := 0
  /-- R77, frames: LLDP frames passed to control firmware. -/
  lldpSeen : Nat := 0
  deriving DecidableEq, Repr

/-- R99: a rate step in progress. -/
structure LagStep where
  /-- R103, 4 b: port now stepping. -/
  member : Nat := 0
  /-- R103, 3 b: phase 1 to 5. -/
  phase : Nat := 1
  /-- R103, 1 b: direction. -/
  up : Bool := false
  /-- R99, Gb/s: rate to reach. -/
  target : Nat := 0
  /-- R99, 1 b: phase 3 has had its one retry. -/
  retried : Bool := false
  deriving DecidableEq, Repr

/-- R91 to R103: one aggregation group. -/
structure Lag where
  /-- R92, 256 x 4 b: member each bucket maps to. -/
  owners : Tbl Nat := []
  /-- R94, buckets: buckets being moved and the member they go to. -/
  moving : Tbl Nat := []
  /-- R99, option: step in progress. -/
  lagStep : Option LagStep := none
  /-- R99, ports: members left out of distribution by phase 4, attach retried. -/
  stayedOut : List Nat := []
  /-- R98, 64 b: time of the group's last step. -/
  lastStepNs : Nat := 0
  /-- R98, bytes: bytes received in the window. -/
  winRx : Nat := 0
  /-- R98, bytes: bytes transmitted in the window. -/
  winTx : Nat := 0
  /-- R100, bytes: bytes received in the present 1 ms. -/
  msRx : Nat := 0
  /-- R100, bytes: bytes transmitted in the present 1 ms. -/
  msTx : Nat := 0
  /-- R103, 16 b, saturating: STEP_COUNT. -/
  stepCount : Nat := 0
  /-- R103, 16 b, saturating: ABANDON_COUNT. -/
  abandonCount : Nat := 0
  deriving DecidableEq, Repr

/-- R69 to R104: Ethernet cages. -/
structure Net where
  /-- R69, 16: logical ports not at their reset state. -/
  ports : Tbl Port := []
  /-- R91, 8: aggregation groups in use. -/
  lags : Tbl Lag := []
  /-- R506, 4 x 64 entries: ADDR_TABLE entries not zero, keyed 64 x cage + entry. -/
  addr : Tbl AddrEntry := []
  /-- R76, 4,096 b per port: hash bits set, per logical port. -/
  groupHash : Tbl (List Nat) := []
  /-- R76, 32 entries per cage: exact group table, per cage. -/
  groupExact : Tbl (List Nat) := []
  deriving DecidableEq, Repr

/-- R114 to R116: one entry of the context cache. -/
structure CacheWay where
  /-- R114, 21 b: context held. -/
  index : Nat := 0
  /-- R114, 1 b: not yet written back. -/
  dirty : Bool := false
  /-- R116, 1 b: write-back issued, eviction not committed. -/
  evicting : Bool := false
  /-- R116, 1 b: held by a fill. -/
  filling : Bool := false
  /-- R116, 21 b: missing context waiting for this eviction. -/
  forCtx : Nat := 0
  deriving DecidableEq, Repr

/-- R118: a packet that waits in the miss buffer, or in its receive queue. -/
structure MissPkt where
  /-- R118, 21 b: context. -/
  ctx : Nat := 0
  /-- R118, bytes: length. -/
  len : Nat := 0
  /-- R118, 4 b: logical port it arrived on. -/
  port : Nat := 0
  /-- R118, 1 b: left in its receive queue, the miss buffer being full. -/
  inRx : Bool := false
  /-- R118, command: the packet. -/
  cmd : Instr := .denCommit
  deriving DecidableEq, Repr

/-- what kind of thing an entry of the output log is. -/
inductive OutKind where
  | frame
  | pfc
  | lacpdu
  | lldp
  | egress
  | ack
  | nak
  | cnp
  | reset
  | synAck
  | finish
  | retransmit
  | r2t
  | icResp
  | termReq
  | cmReply
  | readReq
  | hostData
  | completion
  | ccpReply
  | event
  | relay
  | sett
  | beat
  | driveCmd
  | driveAdmin
  | driveReg
  | urReply
  | interrupt
  | ltr
  | pcieErr
  | hostFetch
  | wakePulse
  | avs
  | imageWrite
  | spdm
  | nvmeMi
  | drivePoll
  deriving DecidableEq, Repr, Inhabited

/-- one thing the controller has sent to the outside (the model's own record). -/
structure Out where
  /-- R1, kind: what it is. -/
  kind : OutKind := .frame
  /-- R1, numbers: its numbers, in the order its sender's docstring gives. -/
  args : List Nat := []
  /-- R1, bytes: its bytes. -/
  data : Bytes := []
  deriving DecidableEq, Repr

/-- R379: PDUs of one send record. -/
structure SendPlan where
  /-- R379, 18 b: command slot. -/
  slot : Nat := 0
  /-- R379, 32 b: FIRST_POS. -/
  first : Nat := 0
  /-- R379, 32 b: END_POS. -/
  last : Nat := 0
  /-- R379, 4 b: PLAN. -/
  plan : Nat := 0
  /-- R379, 1 b: the partner has confirmed the send record. -/
  conf : Bool := false
  /-- R379, messages: payload bytes and contents, once known. -/
  msgs : Option (List (Nat × Out)) := none
  deriving DecidableEq, Repr

/-- R105 to R141: transports. -/
structure Xport where
  /-- R111, 2,097,152 x 512 B: context records that are not FREE at generation 0. -/
  ctx : Tbl Ctx := []
  /-- R114, 8,192 sets x 8 ways: cached contexts, most recently used first, keyed 4096 x engine + set. -/
  cache : Tbl (List CacheWay) := []
  /-- R118, 4 MiB: packets waiting, in arrival order. -/
  missBuf : List MissPkt := []
  /-- R106, 2,097,152 x 4 b: 4-bit tags that are not 0. -/
  flowTags : Tbl Nat := []
  /-- R379, PDUs: PDUs with positions assigned and not yet transmitted, in position order, by context. -/
  sendQ : Tbl (List SendPlan) := []
  /-- R108, indices: index claims not yet confirmed. -/
  claims : List Nat := []
  deriving DecidableEq, Repr

/-- R190, R225: the reading of one stored block. -/
structure BlkRead where
  /-- R186, 44 b: stored block of the namespace. -/
  blk : Nat := 0
  /-- R190, code: 0 drive, 1 own larder version, 2 owner's larder, 3 reconstruction, 4 deallocated, 5 lost. -/
  src : Nat := 0
  /-- R410, drive tags: (slot, tag) outstanding for it. -/
  tags : List (Nat × Nat) := []
  /-- R37, chunks: (role, block bytes) read so far. -/
  got : List (Nat × Bytes) := []
  /-- R35, 1 b: read, checked and decrypted. -/
  done : Bool := false
  /-- R35, 4 KiB: plaintext. -/
  plain : Bytes := []
  deriving DecidableEq, Repr

/-- R218, R282: one stored block being written. -/
structure BlkWrite where
  /-- R186, 44 b: stored block of the namespace. -/
  blk : Nat := 0
  /-- R216, larder slot: larder slot reserved. -/
  lslot : Nat := 0
  /-- R182, 1 b: the block lies in an extent the partner owns: its data is forwarded. -/
  far : Bool := false
  /-- R218, 1 b: inserted in the directory. -/
  placed : Bool := false
  /-- R276, 4 KiB: ciphertext. -/
  cipher : Bytes := []
  /-- R273, 64 B: trailer. -/
  trailer : Bytes := []
  deriving DecidableEq, Repr

/-- R152: one command slot. -/
structure Slot where
  /-- R153, 8 b: 0 FREE, 1 DECODED, 2 DEFERRED, 3 ADMITTING, 4 ADMITTED, 5 ENDING. -/
  state : Nat := 0
  /-- R152, 8 b: OPCODE. -/
  opcode : Nat := 0
  /-- R152, 1 b: FLAGS [0]. -/
  admin : Bool := false
  /-- R152, 1 b: FLAGS [1]. -/
  localPort : Bool := false
  /-- R152, 1 b: FLAGS [2]. -/
  fromPartner : Bool := false
  /-- R152, 1 b: FLAGS [3]. -/
  toPartner : Bool := false
  /-- R160, 1 b: FLAGS [4]. -/
  pfAtomic : Bool := false
  /-- R162, 1 b: FLAGS [5]. -/
  fua : Bool := false
  /-- R158, option: FLAGS [6]: (fabric controller, command id) of the Abort waiting. -/
  abortPending : Option (Nat × Nat) := none
  /-- R166, 1 b: FLAGS [7]. -/
  replay : Bool := false
  /-- R276, 4 b: PRACT and PRCHK. -/
  prinfo : Nat := 0
  /-- R276, 16 b: expected application tag. -/
  appTag : Nat := 0
  /-- R276, 16 b: application tag mask. -/
  appMask : Nat := 65535
  /-- R276, 48 b: initial reference tag. -/
  refTag : Nat := 0
  /-- R137, 4 b: TRIG_SEEN [3:0]. -/
  seen : BitVec 4 := 0
  /-- R137, 4 b: TRIG_SEEN [7:4]. -/
  fired : BitVec 4 := 0
  /-- R152, 21 b: CTX_INDEX. -/
  ctx : Nat := 0
  /-- R152, 16 b: QID. -/
  qid : Nat := 0
  /-- R152, 16 b: CID. -/
  cid : Nat := 0
  /-- R152, 16 b: CNTLID. -/
  cntlid : Nat := 0
  /-- R152, 14 b: NS_HANDLE. -/
  handle : Nat := 0
  /-- R152, 64 b: SLBA. -/
  slba : Nat := 0
  /-- R152, 32 b: NLB, 1-based. -/
  nlb : Nat := 0
  /-- R152, 16 b: TENANT. -/
  tenant : Nat := 0
  /-- R152, 16 b: PUSH_WIN: (window, generation). -/
  pushWin : Option (Nat × Nat) := none
  /-- R152, 64 b: ADMISSION_STAMP. -/
  stamp : BitVec 64 := 0
  /-- R152, 32 b: STAGING_OFF. -/
  stagingOff : Nat := 0
  /-- R152, 32 b: CAPSULE_POS. -/
  pos : Nat := 0
  /-- R152, 32 b: ARRIVAL_US. -/
  arrivalUs : Nat := 0
  /-- R152, 16 b: STATUS. -/
  status : Nat := 0
  /-- R152, 32 b: SQE_CRC. -/
  sqeCrc : Nat := 0
  /-- R126, 32 b: completion Dword 0. -/
  dw0 : Nat := 0
  /-- R188, per owner: WAIT_COUNT of each part, by the owner's controller index. -/
  waits : Tbl Nat := []
  /-- R182, 1 b: its data has been asked of the host. -/
  asked : Bool := false
  /-- R35, 1 b: its reads, or its data fetch, have begun. -/
  begun : Bool := false
  /-- R188, 1 b: released to stage 7. -/
  gone : Bool := false
  /-- R183, 1 b: the partner has confirmed the stamp record. -/
  recordConf : Bool := true
  /-- R38, staging: data fetched from the host, or data to send. -/
  data : Bytes := []
  /-- R138, 1 b: the data came in the capsule. -/
  inCapsule : Bool := false
  /-- R38, bytes: bytes still to be fetched. -/
  need : Nat := 0
  /-- R35, blocks: stored blocks of the read. -/
  reads : List BlkRead := []
  /-- R38, blocks: stored blocks of the write. -/
  writes : List BlkWrite := []
  /-- R560, ranges: pieces of a Deallocate not yet admitted: (SLBA, NLB). -/
  ranges : List (Nat × Nat) := []
  /-- R560, 64 b: stamp of the piece in progress. -/
  pieceStamp : BitVec 64 := 0
  /-- R216, larder slots: larder slots reserved. -/
  reserved : Nat := 0
  /-- R219, 1 b: mirror confirmed. -/
  mirrored : Bool := false
  /-- R182, 1 b: the owner has confirmed the placement of what was forwarded. -/
  farPlaced : Bool := false
  /-- R218, 1 b: data placed. -/
  placed : Bool := false
  /-- R147, 1 b: ends internally: no completion is posted. -/
  ended : Bool := false
  /-- R222, 1 b: written through to the drives. -/
  writeThrough : Bool := false
  /-- R521, 1 b: was deferred red. -/
  deferRed : Bool := false
  /-- R347, 2 b: colour given: 0 green, 1 yellow, 2 red. -/
  colour : Nat := 0
  deriving DecidableEq, Repr

/-- R143: one entry of the host identity table. -/
structure HostEntry where
  /-- R143, 1 b: ENABLE. -/
  enable : Bool := false
  /-- R143, 16 b: TENANT. -/
  tenant : Nat := 0
  /-- R143, 128 b: HOSTID. -/
  hostid : Nat := 0
  /-- R143, 224 B: HOSTNQN. -/
  nqn : Bytes := []
  deriving DecidableEq, Repr

/-- R142 to R170: host command layer. -/
structure Cmds where
  /-- R144, 32,768: fabric controllers by CNTLID. -/
  fab : Tbl FabCtrl := []
  /-- R152, 262,144 x 64 B: command slots that are not FREE. -/
  slots : Tbl Slot := []
  /-- R150, staging: capsules waiting for a slot, in arrival order. -/
  waiting : List HostCmd := []
  /-- R150, queue: queue after which the round-robin offer of free slots goes on. -/
  rrNext : Nat := 0
  /-- R165, 4,194,304 x 64 B: replay records, oldest first. -/
  replays : Tbl Replay := []
  /-- R165, 22 b: number of the next replay record. -/
  nextReplay : Nat := 0
  /-- R143, 8,192 x 256 B: HOST_ENTRY_n not zero. -/
  hosts : Tbl HostEntry := []
  /-- R145, 16,384 x 1,024 B: NS_HOSTS words not zero, keyed 128 x handle + word. -/
  nsHosts : Tbl Nat := []
  /-- R505, 256 B: SUBSYS_NQN. -/
  subsysNqn : Bytes := []
  /-- R168, count: consecutive saturated intervals. -/
  saturatedRun : Nat := 0
  /-- R168, count: consecutive clear intervals. -/
  clearRun : Nat := 0
  /-- R168, 1 b: OVERLOAD_STATUS.ACTIVE. -/
  overload : Bool := false
  /-- R168, 12 b: WORST_TENANT. -/
  worstTenant : Nat := 0
  /-- R168, 16 b: P50_DELAY_US. -/
  p50 : Nat := 0
  /-- R168, 16 b: P99_DELAY_US. -/
  p99 : Nat := 0
  /-- R168, 16 b, saturating: EVENTS. -/
  overloadEvents : Nat := 0
  deriving DecidableEq, Repr

/-- R186: one entry of the overlap table. -/
structure OvlEntry where
  /-- R186, 8 b: KIND: 1 read, 2 write, 3 region, 4 reservation. -/
  kind : Nat := 1
  /-- R186, 1 b: FLAGS [0]. -/
  placed : Bool := false
  /-- R186, 1 b: FLAGS [1]. -/
  remote : Bool := false
  /-- R186, 1 b: FLAGS [2]. -/
  partialBlk : Bool := false
  /-- R186, 1 b: FLAGS [3]. -/
  crossing : Bool := false
  /-- R186, 1 b: FLAGS [4]. -/
  retired : Bool := false
  /-- R186, 14 b: NS_HANDLE. -/
  handle : Nat := 0
  /-- R186, 18 b: SLOT_REF [17:0]. -/
  slot : Nat := 0
  /-- R186, 1 b: SLOT_REF [18]. -/
  holder : Nat := 0
  /-- R186, 64 b: ADMISSION_STAMP. -/
  stamp : BitVec 64 := 0
  /-- R186, 44 b: FIRST_BLK. -/
  first : Nat := 0
  /-- R186, 16 b: NBLK. -/
  nblk : Nat := 1
  /-- R188, blocks: stored blocks the command covers only in part. -/
  partials : List Nat := []
  /-- R186, 16 b: WAIT_COUNT. -/
  waitCount : Nat := 0
  /-- R188, entries: numbers of the write entries it has counted. -/
  counted : List Nat := []
  /-- R194, 64 b: time its read's completion was handed to egress, 0 before. -/
  doneNs : Nat := 0
  deriving DecidableEq, Repr

/-- R176: one record of the ownership map. -/
structure Extent where
  /-- R176, 64 b: LAST_STAMP. -/
  lastStamp : BitVec 64 := 0
  /-- R176, 8 b: STATE: 0 none, 1 owned, 2 moving, 3 fenced. -/
  state : Nat := 0
  /-- R176, 1 b: OWNER. -/
  owner : Nat := 0
  /-- R176, 14 b: NS_HANDLE. -/
  handle : Nat := 0
  /-- R176, 22 b: EXT_NO. -/
  extNo : Nat := 0
  /-- R184, option: (slot, holder) of the crossing command whose reservation closes the gate. -/
  gate : Option (Nat × Nat) := none
  /-- R184, requests: crossing commands that wait for the reserve of their upper extent. -/
  crossing : List StampReq := []
  /-- R389, 1 b: claimed at a takeover: destage waits for the preempt of the members concerned. -/
  claimed : Bool := false
  /-- R188, requests: requests held in arrival order. -/
  held : List StampReq := []
  deriving DecidableEq, Repr

/-- R180, R200: the lease move in progress or the last one. -/
structure LeaseOp where
  /-- R200, 2 b: STATE: 0 idle, 1 phase 1, 2 phase 2 or 3, 3 abandoned. -/
  lState : Nat := 0
  /-- R200, 14 b: NS_HANDLE. -/
  handle : Nat := 0
  /-- R200, 22 b: EXT_NO. -/
  extNo : Nat := 0
  /-- R200, 1 b: TARGET. -/
  target : Nat := 0
  deriving DecidableEq, Repr

/-- R171 to R201: consistency engine. -/
structure Cons where
  /-- R199, 24 b: STAMP_EPOCH. -/
  epoch : Nat := 0
  /-- R176, 4,194,304 x 16 B: ownership map records in use. -/
  extents : Tbl Extent := []
  /-- R186, 262,144 x 32 B: overlap table entries that are not free. -/
  ovl : Tbl OvlEntry := []
  /-- R178, 64 b: time the fence timer last restarted. -/
  fenceNs : Nat := 0
  /-- R178, 1 b: the fence timer has expired. -/
  fenced : Bool := false
  /-- R200, 64 b: lease move. -/
  lease : LeaseOp := { }
  /-- R183, records: partner's stamp records by slot: (stamp, handle, SLBA, NLB). -/
  stampRecs : Tbl (BitVec 64 × Nat × Nat × Nat) := []
  deriving DecidableEq, Repr

/-- R215: one stored-block version in a larder slot. -/
structure Version where
  /-- R215, 14 b: namespace handle. -/
  handle : Nat := 0
  /-- R215, 44 b: stored block. -/
  blk : Nat := 0
  /-- R215, 64 b: admission stamp of the write. -/
  stamp : BitVec 64 := 0
  /-- R215, 4,096 B: the block as it will stand on the drives. -/
  cipher : Bytes := []
  /-- R215, 64 B: its trailer. -/
  trailer : Bytes := []
  /-- R218, 1 b: inserted in the directory. -/
  placed : Bool := false
  /-- R219, 1 b: confirmed in the partner's mirror larder. -/
  mirrored : Bool := false
  /-- R222, 1 b: held in a write-through slot. -/
  through : Bool := false
  /-- R221, 1 b: in the region adopted at takeover. -/
  adoptedV : Bool := false
  /-- R223, 64 b: time of placement. -/
  bornNs : Nat := 0
  /-- R174, 1 b: the deallocated state. -/
  dealloc : Bool := false
  deriving DecidableEq, Repr

/-- R225: a destage of one stripe in progress. -/
structure Destage where
  /-- R224, code: 0 full, 1 read-modify-write, 2 reconstruct-write. -/
  method : Nat := 0
  /-- R230, 16 b: BLOCK_ROWS. -/
  rows : BitVec 16 := 0
  /-- R230, 32 b: POS_MASK. -/
  mask : BitVec 32 := 0
  /-- R230, 64 b: HIGH_STAMP. -/
  high : BitVec 64 := 0
  /-- R225, 64 b: SEQ of the intent in force. -/
  seqNo : Nat := 0
  /-- R562, 64 b: SEQ of the first intent when a replacement was made. -/
  firstSeq : Nat := 0
  /-- R225, step: 2 intent not yet durable, 5 writes issued. -/
  stage : Nat := 2
  /-- R225, larder slots: versions being written. -/
  vers : List Nat := []
  /-- R230, 1 b: hold-up destage. -/
  holdup : Bool := false
  deriving DecidableEq, Repr

/-- R256 to R261: a reshape in progress. -/
structure ReshapeOp where
  /-- R269, 2 b: 1 running, 2 paused, 3 waiting. -/
  rState : Nat := 1
  /-- R269, 22 b: STEP. -/
  stepNo : Nat := 0
  /-- R257, steps: (ownership-map record, old slab, new slab). -/
  plan : List (Nat × Nat × Nat) := []
  /-- R258, 0 to 4: phase of the current step. -/
  phase : Nat := 0
  /-- R269, count: new stripes of the current extent copied, from which SLAB_PROGRESS is reported. -/
  stripes : Nat := 0
  deriving DecidableEq, Repr

/-- R202 to R271: one pool. -/
structure Pool where
  /-- R203, 2 b: POOL_CFG_n.STATE. -/
  pState : Nat := 0
  /-- R238, 64 x 2 b: member states by slot that are not PRESENT. -/
  members : Tbl Nat := []
  /-- R239, 64 x 64 b: time each MISSING member went missing, while its timer runs. -/
  missingNs : Tbl Nat := []
  /-- R253, slots: members being resynchronised. -/
  returning : List Nat := []
  /-- R254, slots: members being filled by copy-back or rebuild. -/
  replacing : List Nat := []
  /-- R239, errors: (slot, time in ns) of the unreadable blocks found within the last 60 min. -/
  mediaErrs : List (Nat × Nat) := []
  /-- R210, at most 3: relocation list, by slot. -/
  reloc : List Nat := []
  /-- R239, slots: failed members waiting for a place in the list. -/
  unlisted : List Nat := []
  /-- R243, chunks: (slot, stripe) rebuilt into their targets. -/
  rebuilt : List (Nat × Nat) := []
  /-- R243, bits: (slot, row group) whose rebuild is complete. -/
  progress : List (Nat × Nat) := []
  /-- R208, slab map: ownership-map record to slab. -/
  slabs : Tbl Nat := []
  /-- R227, 4,194,304 b: bits set. -/
  bitmap : List Nat := []
  /-- R227, 64 b each: time of the last destage of each set bit. -/
  lastDestage : Tbl Nat := []
  /-- R228, 4,096 blocks: own HBM copy, newest first. -/
  journal : List JRec := []
  /-- R228, 4,096 blocks: copy held for the partner, newest first. -/
  partnerJournal : List JRec := []
  /-- R228, block: next ring block, counted without wrapping. -/
  ringNext : Nat := 0
  /-- R230, 64 b: SEQ of the next record. -/
  nextSeq : Nat := 1
  /-- R231, blocks: ring blocks written since the last header. -/
  sinceHeader : Nat := 0
  /-- R240, changes: (relocation list, members not PRESENT) after each change, newest first. -/
  relocLog : List (List Nat × List Nat) := []
  /-- R258, records: ownership-map records whose slab lies in the new geometry of a reshape. -/
  migrated : List Nat := []
  /-- R227, 1 b: the newer bitmap checkpoint lies in the second area. -/
  cpB : Bool := false
  /-- R231, 1 b: a header with CLEAN = 0 has been written in this start of service. -/
  opened : Bool := false
  /-- R254, rows: rows copied back, as 64 x row + slot. -/
  copied : List Nat := []
  /-- R253, groups: row groups resynchronised, as 64 x group + slot. -/
  resynced : List Nat := []
  /-- R269, option: reshape in progress. -/
  reshape : Option ReshapeOp := none
  /-- R265, at most 256: hot row groups, oldest first. -/
  hot : List Nat := []
  /-- R270, 32 b: BADGER_STATUS_n.ROW_CURSOR (KEEP). -/
  badgerRow : Nat := 0
  /-- R262, stripe: next stripe within the row of the cursor. -/
  badgerNext : Nat := 0
  /-- R270, 16 b, saturating: BADGER_STATUS_n.PASSES (KEEP). -/
  badgerPasses : Nat := 0
  /-- R530, 64 b: CONF_SEQ last written to this pool. -/
  confCopy : Nat := 0
  deriving DecidableEq, Repr

/-- R233: a hold-up destage in progress. -/
structure HoldUp where
  /-- R233, command slots: commands done whose completions wait for the hold-up destage to end. -/
  owed : List Nat := []
  /-- R233, 1 to 5: step. -/
  hStep : Nat := 1
  /-- R233, 3 b: mode to resume when a feed returns. -/
  fromMode : Mode := .m2
  deriving DecidableEq, Repr

/-- R249: one entry of the lost-block list. -/
structure LostEntry where
  /-- R249, 8 b: POOL. -/
  pool : Nat := 0
  /-- R249, 8 b: STATE: 1 lost, 2 healing. -/
  lState : Nat := 1
  /-- R249, 32 b: FOUND_S. -/
  foundS : Nat := 0
  deriving DecidableEq, Repr

/-- R245: one stripe lock. -/
structure Lock where
  /-- R245, code: claimant code of the unit holding it. -/
  holder : Nat := 0
  /-- R245, codes: claimant codes waiting, in arrival order. -/
  waiters : List Nat := []
  deriving DecidableEq, Repr

/-- R202 to R271: layout, larder, destage and rebuild. -/
structure Layout where
  /-- R202, 8: pools configured. -/
  pools : Tbl Pool := []
  /-- R215, 16,384,000 slots: own larder, by slot. -/
  larder : Tbl Version := []
  /-- R215, 16,384,000 slots: mirror larder, by slot. -/
  mirror : Tbl Version := []
  /-- R236, 24 b: LARDER_LIMIT. -/
  limit : Nat := 0
  /-- R236, 1 b: LARDER_LOST. -/
  lost : Bool := false
  /-- R236, 1 b: REPLAY. -/
  replaying : Bool := false
  /-- R233, option: hold-up destage in progress. -/
  holdup : Option HoldUp := none
  /-- R223, 1 b: destage by age has started and not yet stopped. -/
  rule3 : Bool := false
  /-- R223, larder slots: versions older than DESTAGE_AGE_MS. -/
  eligible : List Nat := []
  /-- R223, larder slots: versions of stripes whose COALESCE_US has passed. -/
  coalesced : List Nat := []
  /-- R216, command slots: writes waiting for larder slots, in arrival order. -/
  waiting : List Nat := []
  /-- R220, larder slots: releases not yet sent to the partner. -/
  releases : List Nat := []
  /-- R225, stripes: destages in progress, keyed by pool and stripe. -/
  destages : Tbl Destage := []
  /-- R245, stripes: stripe locks held. -/
  locks : Tbl Lock := []
  /-- R249, 1,048,576 x 16 B: lost-block list, keyed by handle and stored block. -/
  lostList : Tbl LostEntry := []
  /-- R234, 64 b: token in the larder header. -/
  larderToken : Nat := 0
  /-- R220, larder slots: reserved for forwarded writes, by the partner's command slot. -/
  remoteRes : Tbl (List Nat) := []
  /-- R374, larder slots: versions still to be copied in synchronisation. -/
  syncLeft : List Nat := []
  deriving DecidableEq, Repr

/-- R285, R301, R311: one key generation of a namespace. -/
structure KeyGen where
  /-- R285, 8 b: STATE: 0 EMPTY, 1 PENDING, 2 ACTIVE, 3 RETAINED, 4 SWEEPING. -/
  gState : Nat := 1
  /-- R301, 8 b: ORIGIN: 1 enclave, 2 tenant capsule. -/
  origin : Nat := 1
  /-- R301, 1 b: FLAGS [0]. -/
  warned : Bool := false
  /-- R301, 1 b: FLAGS [1]. -/
  exhausted : Bool := false
  /-- R301, 1 b: FLAGS [2]. -/
  sweepWait : Bool := false
  /-- R301, 32 b: SWEEP_ROW. -/
  sweepRow : Nat := 0
  /-- R288, 1 b: the sweep has started. -/
  sweeping : Bool := false
  /-- R288, 1 b: the cursor has passed the last row since the sweep began. -/
  sweepWrapped : Bool := false
  /-- R288, 1 b: the sweep has visited every row here. -/
  sweepHere : Bool := false
  /-- R288, 1 b: the partner has visited every row whose locks it holds. -/
  sweepThere : Bool := false
  /-- R301, 48 b: CTR_NEXT of this controller's index. -/
  ctrNext : Nat := 0
  /-- R283, 48 b: CTR_HIGH_0. -/
  ctrHigh0 : Nat := 16777216
  /-- R283, 48 b: CTR_HIGH_1. -/
  ctrHigh1 : Nat := 16777216
  /-- R283, 1 b: a reservation step has been requested and is not yet durable. -/
  stepAsked : Bool := false
  /-- R280, 32 b: salt. -/
  salt : Nat := 0
  /-- R311, 320 b: WRAPPED. -/
  wrapped : Nat := 0
  /-- R317, 1 b: shelf generation of the wrap. -/
  shelfGen : Nat := 0
  /-- R285, model's own: order of creation, by which the newest live generation is known. -/
  born : Nat := 0
  /-- R310, 256 b: the unwrapped key, while it is in the enclave key cache. -/
  key : Option Nat := none
  deriving DecidableEq, Repr

/-- R501: one namespace. -/
structure Ns where
  /-- R501, 16 b: TENANT. -/
  tenant : Nat := 0
  /-- R501, 8 b: POOL. -/
  pool : Nat := 0
  /-- R501, 8 b: KEYING: 0 PLAIN, 1 ENCLAVE, 2 TENANT. -/
  keying : Nat := 0
  /-- R501, 8 b: FORMAT. -/
  format : Nat := 0
  /-- R501, 8 b: STATE: 0 free, 1 creating, 2 online, 3 locked, 4 deleting. -/
  nState : Nat := 0
  /-- R501, 32 b: EXTENTS. -/
  extents : Nat := 0
  /-- R501, 32 b: MAP_BASE. -/
  mapBase : Nat := 0
  /-- R310, 64 b: NS_SERIAL. -/
  serial : Nat := 0
  /-- R285, at most 16: generations by number. -/
  gens : Tbl KeyGen := []
  deriving DecidableEq, Repr

/-- R272 to R303: namespaces, generations and cipher lanes. -/
structure Cipher where
  /-- R501, 16,384: namespaces by handle. -/
  ns : Tbl Ns := []
  /-- R302, 24 b: LANE_OUT. -/
  laneOut : BitVec 24 := 0
  /-- R302, 3 b: DUP_GROUP. -/
  dupGroup : Nat := 0
  /-- R302, 8 b: ENGINE_OUT. -/
  engineOut : BitVec 8 := 0
  /-- R302, 4 b: REALIGN_OUT. -/
  realignOut : BitVec 4 := 0
  /-- R302, 16 b, saturating: DUP_MISMATCH. -/
  dupMismatch : Nat := 0
  /-- R333, 1 b: the key bus is open. -/
  keyBusOpen : Bool := true
  /-- R293, command slots: writes waiting for a key or a counter reservation. -/
  keyWaiting : List Nat := []
  deriving DecidableEq, Repr

/-- R321: FUSE_MAP and the fused root. -/
structure Fuses where
  /-- R321, 64 b: DEVICE_ID. -/
  deviceId : Nat := 0
  /-- R324, 4 b: LIFE_CYCLE [3:0]: 0 BLANK, 1 PROVISIONED, 3 FIELD, 7 RETURN, 15 SCRAPPED. -/
  lifeCycle : Nat := 0
  /-- R321, 1 b: ROOT_PRESENT. -/
  rootPresent : Bool := false
  /-- R321, 1 b: ROOT_DISABLED. -/
  rootDisabled : Bool := false
  /-- R321, 2 b: DEBUG_LOCK. -/
  debugLock : Nat := 0
  /-- R321, 8 b: ANTIROLLBACK. -/
  antiRollback : Nat := 0
  /-- R321, 32 b: ROLE_MASK_SHELF. -/
  maskShelf : BitVec 32 := 0
  /-- R321, 32 b: ROLE_MASK_TENANT. -/
  maskTenant : BitVec 32 := 0
  /-- R321, 32 b: ROLE_MASK_SERVICE. -/
  maskService : BitVec 32 := 0
  /-- R321, 16 b: ENERGY_CEILING_J. -/
  energyCeilJ : Nat := 0
  /-- R321, 256 b: SLOT_CLASS_CEIL. -/
  slotCeil : Nat := 0
  /-- R321, 384 b: OWNER_KEY_HASH. -/
  ownerHash : Nat := 0
  /-- R321, 384 b: UHLETH_KEY_HASH. -/
  uhlethHash : Nat := 0
  /-- R310, 256 b: DEVICE_ROOT. -/
  deviceRoot : Nat := 0
  /-- R323, 1 b: a cell reads as marginal after an interrupted step. -/
  marginal : Bool := false
  deriving DecidableEq, Repr

/-- R311, R313: one entry of the tenant table. -/
structure Tenant where
  /-- R313, 1 b: the tenant exists. -/
  created : Bool := false
  /-- R313, 1 b: enrolment open. -/
  windowOpen : Bool := false
  /-- R313, 1 b: enrolled. -/
  enrolled : Bool := false
  /-- R310, 32 b: ENROL_COUNT. -/
  enrolCount : Nat := 0
  /-- R314, 64 b: last accepted CAPSULE_SEQ. -/
  capsuleSeq : Nat := 0
  /-- R313, 256 b: TTK, in the enclave. -/
  ttk : Nat := 0
  /-- R313, 256 b: TAK, in the enclave. -/
  tak : Nat := 0
  deriving DecidableEq, Repr

/-- R304 to R337: key enclave and life cycle. -/
structure Enclave where
  /-- R312, 256 b: SHELF_KEY in the enclave. -/
  shelfKey : Option Nat := none
  /-- R310, 64 b: SHELF_ID. -/
  shelfId : Nat := 0
  /-- R337, 1 b: SHELF_GEN. -/
  shelfGen : Nat := 0
  /-- R317, 256 b: previous shelf key, until a rotation ends. -/
  oldShelfKey : Option Nat := none
  /-- R337, 1 b: ROTATING. -/
  rotating : Bool := false
  /-- R310, 256 b: CTX_KEY. -/
  ctxKey : Nat := 0
  /-- R310, 256 b: alias seeds. -/
  aliasSeed : Nat := 0
  /-- R311, 4,096: tenants. -/
  tenants : Tbl Tenant := []
  /-- R337, 1 b: ENTROPY_OK. -/
  entropyOk : Bool := false
  /-- R337, 1 b: DEBUG_OPEN. -/
  debugOpen : Bool := false
  /-- R337, 12 b, saturating: DEBUG_ATTEMPTS. -/
  debugAttempts : Nat := 0
  /-- R337, 9 b: PINNED. -/
  pinned : Nat := 0
  /-- R333, 1 b: key erasure has run since entry into M5. -/
  erased : Bool := false
  /-- R328, 256 b: challenge last drawn for a debug unlock. -/
  challenge : Option Nat := none
  /-- R319, requests: (handle, generation) of unwraps asked and not complete. -/
  unwraps : List (Nat × Nat) := []
  /-- R41, R319, at most 2,048: (handle, generation) of the keys cached, most recently used first. -/
  recent : List (Nat × Nat) := []
  /-- R320, 64: chaining state saved between steps. -/
  saveSlots : Tbl Nat := []
  deriving DecidableEq, Repr

/-- R335, R337, R311: enclave records in Den SRAM. -/
structure EnclaveKeep where
  /-- R337, 8 b: LOCKDOWN_CAUSE. -/
  cause : Nat := 0
  /-- R337, 8 b, saturating: LOCKDOWN_COUNT. -/
  count : Nat := 0
  /-- R337, 1 b: LATCH. -/
  latch : Bool := false
  /-- R311, 8: highest header DIR_SEQ written for each pool. -/
  dirSeq : Tbl Nat := []
  deriving DecidableEq, Repr

/-- R410: a command to a drive. -/
structure DriveCmd where
  /-- R410, 6 b: drive slot. -/
  slot : Nat := 0
  /-- R410, code: 0 read, 1 write with FUA, 2 write zeroes, 3 compare and write, 4 reservation, 5 other. -/
  op : Nat := 0
  /-- R209, 64 b: drive LBA. -/
  lba : Nat := 0
  /-- R209, count: stored blocks. -/
  blocks : Nat := 1
  /-- R339, code: 0 host read, 1 reconstruction, 2 destage, 3 journal, 4 quorum, 5 preempt, 6 rebuild, 7 other, 8 partial-write source. -/
  owner : Nat := 0
  /-- R152, 18 b: command slot of a host read. -/
  cslot : Nat := 0
  /-- R186, 44 b: stored block of the namespace. -/
  blk : Nat := 0
  /-- R224, position: position in the stripe. -/
  pos : Nat := 0
  /-- R408, bytes: staging buffer of a write. -/
  data : Bytes := []
  deriving DecidableEq, Repr

/-- R338, R341: one item waiting at a scheduling point. -/
structure QItem where
  /-- R338, number: name of the item, unique while it lives. -/
  num : Nat := 0
  /-- R341, bytes: its cost. -/
  cost : Nat := 0
  /-- R338, 12 b: tenant of the weighted group. -/
  tenant : Nat := 0
  /-- R338, 3 b: traffic class at egress; 0 at the other points. -/
  cls : Nat := 0
  /-- R340, 21 b: connection at egress. -/
  ctx : Nat := 0
  /-- R131, bytes: payload bytes it carries, or bytes a READ request asks for. -/
  payload : Nat := 0
  /-- R94, option: aggregation group and bucket at egress. -/
  bucket : Option (Nat × Nat) := none
  /-- R350, 1 b: ECN-capable frame. -/
  ecnCapable : Bool := false
  /-- R410, command: the drive command at points 1 and 2. -/
  cmd : DriveCmd := { }
  /-- R356, 64 b: time of enqueue. -/
  atNs : Nat := 0
  deriving DecidableEq, Repr

/-- R341: one tenant queue of an instance. -/
structure TQueue where
  /-- R341, items: items, head first. -/
  items : List QItem := []
  /-- R340, 21 b: connection served last. -/
  lastCtx : Option Nat := none
  /-- R341, bytes / weight: S(q). -/
  startTag : Rat := 0
  /-- R341, bytes / weight: F(q). -/
  finishTag : Rat := 0
  deriving DecidableEq, Repr

/-- R338: one instance of a scheduling point. -/
structure Sched where
  /-- R338, 4 FIFOs: strict classes that hold items. -/
  strict : Tbl (List QItem) := []
  /-- R341, 4,096: tenant queues, with their tags. -/
  tenants : Tbl TQueue := []
  /-- R341, bytes / weight: virtual time V. -/
  vtime : Rat := 0
  deriving DecidableEq, Repr

/-- R342: one shaper. -/
structure Shaper where
  /-- R342, bytes: tokens. -/
  tokens : Int := 0
  /-- R342, 64 b: time the tokens were last brought up to date. -/
  atNs : Nat := 0
  /-- R342, option: wheel slot (us) it is parked in. -/
  parked : Option Nat := none
  deriving DecidableEq, Repr

/-- R347: the state of one meter. -/
structure Meter where
  /-- R347, bytes: committed bucket. -/
  tc : Nat := 0
  /-- R347, bytes: peak bucket. -/
  tp : Nat := 0
  /-- R347, 64 b: time the buckets were last filled. -/
  atNs : Nat := 0
  deriving DecidableEq, Repr

/-- R74, R353: a frame held in the packet buffer. -/
structure StoredFrame where
  /-- R338, number: name of the frame. -/
  num : Nat := 0
  /-- R353, cells: cells charged to the minimum. -/
  minCells : Nat := 0
  /-- R353, cells: cells taken from the shared pool. -/
  sharedCells : Nat := 0
  /-- R353, cells: cells taken from headroom. -/
  headCells : Nat := 0
  deriving DecidableEq, Repr

/-- R353: use of one (port, class, direction). -/
structure BufUse where
  /-- R353, cells: cells charged to its minimum. -/
  minUse : Nat := 0
  /-- R353, cells: cells taken from the shared pool. -/
  shared : Nat := 0
  /-- R353, cells: cells taken from its headroom. -/
  headroom : Nat := 0
  /-- R354, cells: use at which it entered headroom. -/
  limitAt : Nat := 0
  /-- R353, frames: frames held, newest first. -/
  stored : List StoredFrame := []
  deriving DecidableEq, Repr

/-- R356: samples of one queue. -/
structure QSample where
  /-- R356, bytes: greatest depth in the last 1 ms. -/
  depthMax : Nat := 0
  /-- R356, ms: interval of the greatest depth. -/
  depthMs : Nat := 0
  /-- R356, items: greatest depth in items. -/
  depthItems : Nat := 0
  /-- R356, bytes: sum of the depths sampled in the interval, for their mean. -/
  depthSum : Nat := 0
  /-- R356, count: depths sampled in the interval. -/
  depthCount : Nat := 0
  /-- R356, 10 x 18 buckets: delays of the last ten intervals of 1 ms, keyed 18 x interval + bucket. -/
  hist : Tbl Nat := []
  deriving DecidableEq, Repr

/-- R338 to R364: scheduling, policing and buffers. -/
structure Qos where
  /-- R338, 16: network egress, by logical port. -/
  egress : Tbl Sched := []
  /-- R338, 64: drive dispatch, by slot. -/
  drive : Tbl Sched := []
  /-- R338, 8: background, by pool. -/
  background : Tbl Sched := []
  /-- R94, frames: frames of moving buckets, keyed 256 x group + bucket. -/
  held : Tbl (List QItem) := []
  /-- R342, shapers: shapers not idle, keyed 8192 x point + tenant or 4096 + class. -/
  shapers : Tbl Shaper := []
  /-- R345, 3: device shapers while PS1 or a throttle is in force. -/
  device : Tbl Shaper := []
  /-- R347, 4,096: tenant meters. -/
  meterT : Tbl Meter := []
  /-- R347, contexts: connection meters. -/
  meterC : Tbl Meter := []
  /-- R348, FIFOs: deferred command slots by context. -/
  deferred : Tbl (List Nat) := []
  /-- R348, contexts: connection of each tenant after which the scan of deferred FIFOs goes on. -/
  deferNext : Tbl Nat := []
  /-- R353, 128: receive objects in use. -/
  bufRx : Tbl BufUse := []
  /-- R353, 128: transmit objects in use. -/
  bufTx : Tbl BufUse := []
  /-- R356, queues: sampled queues. -/
  samples : Tbl QSample := []
  /-- R338, number: name of the next item. -/
  nextItem : Nat := 1
  /-- R352, 16: frame now being transmitted, by port. -/
  sending : Tbl QItem := []
  deriving DecidableEq, Repr

/-- R385: a run of quorum confirmation. -/
structure Quorum where
  /-- R385, 64 b: start of the run. -/
  startNs : Nat := 0
  /-- R385, drives: quorum drives won. -/
  wins : List Nat := []
  /-- R385, drives: quorum drives lost. -/
  losses : List Nat := []
  /-- R387, 1 b: a run from M1. -/
  fromM1 : Bool := false
  /-- R385, 64 B: claim(i). -/
  claim : QBlock := { }
  deriving DecidableEq, Repr

/-- R369: a frame kept by its sender. -/
structure SettFrame where
  /-- R366, 64 b: SEQ. -/
  seqNo : Nat := 0
  /-- R368, 8 b: KIND. -/
  kind : Nat := 0
  /-- R369, 1 b: bundle it was last sent on. -/
  bundle : Nat := 0
  /-- R369, 1 b: bundle that first carried it. -/
  firstBundle : Nat := 0
  /-- R369, count: times sent. -/
  sends : Nat := 1
  /-- R368, numbers: numbers of its message, its slot or context first. -/
  args : List Nat := []
  /-- R369, bytes: bytes of its message. -/
  data : Bytes := []
  deriving DecidableEq, Repr

/-- R366, R369: one class of the Sett link. -/
structure SettClass where
  /-- R366, 64 b: SEQ of the next frame sent. -/
  nextSeq : Nat := 1
  /-- R369, 64 b: highest SEQ applied. -/
  applied : Nat := 0
  /-- R369, frames: frames kept until an ACK covers them, oldest first. -/
  unacked : List SettFrame := []
  deriving DecidableEq, Repr

/-- R365 to R401: the redundant pair. -/
structure Pair where
  /-- R400, 1 b: bundle A up. -/
  settA : Bool := false
  /-- R400, 1 b: bundle B up. -/
  settB : Bool := false
  /-- R367, 6: classes that have carried a frame. -/
  classes : Tbl SettClass := []
  /-- R400, 4 b: PAIR_STATE. -/
  state : Nat := 0
  /-- R372, 0 to 6: pairing step reached. -/
  pairStep : Nat := 0
  /-- R372, 1 b: this controller is S. -/
  serving : Bool := false
  /-- R400, 8 b: LAST_FAULT (KEEP). -/
  lastFault : Nat := 0
  /-- R400, 16 b, saturating: TAKEOVERS (KEEP). -/
  takeovers : Nat := 0
  /-- R400, 3 b: QB_HELD. -/
  qbHeld : BitVec 3 := 0
  /-- R400, 3 x 6 b: QB_SLOT_A to QB_SLOT_C. -/
  qbSlots : List Nat := []
  /-- R385, 3 x 64 B: qb_known, or the blocks as read, by quorum drive. -/
  qbKnown : Tbl QBlock := []
  /-- R385, option: quorum confirmation in progress. -/
  quorum : Option Quorum := none
  /-- R385, 1 b: beats stopped. -/
  beatsStopped : Bool := false
  /-- R381, 64 b: BEAT_SEQ. -/
  beatSeq : Nat := 0
  /-- R179, 64 b: time of the last beat sent. -/
  lastBeatSent : Nat := 0
  /-- R382, 64 b: partner silence timer: last beat received. -/
  lastBeat : Nat := 0
  /-- R382, 64 b: Sett silence timer: last valid frame received. -/
  lastSett : Nat := 0
  /-- R382, 64 b: network silence timer: last network beat. -/
  lastNet : Nat := 0
  /-- R372, 3 b: mode in the partner's last hello or beat. -/
  partnerMode : Nat := 0
  /-- R372, 64 b: partner's DEVICE_ID. -/
  partnerId : Nat := 0
  /-- R372, 24 b: partner's journal epoch. -/
  partnerEpoch : Nat := 0
  /-- R372, addresses: partner's unicast addresses. -/
  partnerAddr : List AddrEntry := []
  /-- R372, addresses: MAC addresses of the partner's logical ports. -/
  partnerMacs : List Nat := []
  /-- R544, ns: offset to the partner's time base. -/
  timeOffset : Int := 0
  /-- R372, message: hello received in the pairing that runs. -/
  hello : Option HelloMsg := none
  /-- R373, 384 b: own ephemeral private key while the exchange runs. -/
  ephemeral : Option Nat := none
  /-- R373, 256 b: SETT_KEK while the exchange runs. -/
  settKek : Option Nat := none
  /-- R375, 2,097,152: connection shadows. -/
  conns : Tbl ConnShadow := []
  /-- R375, 262,144: command shadows by slot. -/
  cmds : Tbl CmdShadow := []
  /-- R375, 32,768: fabric controller shadows. -/
  fabs : Tbl FabCtrl := []
  /-- R375, records: partner's replay records. -/
  replays : List Replay := []
  /-- R400, count: versions present at the start of synchronisation. -/
  syncTotal : Nat := 0
  /-- R388, 1 b: partner loss confirmed, claim not yet made. -/
  lost : Bool := false
  /-- R389, slots: members whose preempt has not completed. -/
  preempts : List Nat := []
  /-- R391, slots: adopted commands waiting for a free command slot. -/
  adoptWaiting : List Nat := []
  deriving DecidableEq, Repr

/-- R410: one entry of the drive tag table. -/
structure Tag where
  /-- R410, 8 b: STATE: 1 outstanding, 2 quarantined (a free tag has no entry). -/
  tState : Nat := 1
  /-- R410, 4 b: CLAIMANT. -/
  claimant : Nat := 1
  /-- R410, 3 b: kind: 0 read, 1 write, 2 Compare and Write, 3 reservation, 4 other. -/
  kind : Nat := 0
  /-- R410, command: the command, with its length and its issuer (OP_LEN, OWNER). -/
  cmd : DriveCmd := { }
  /-- R410, 32 b: STAGING_OFF. -/
  stagingOff : Nat := 0
  /-- R410, 32 b: DEADLINE. -/
  deadlineUs : Nat := 0
  /-- R411, 64 b: time its submission entry was made visible. -/
  issuedNs : Nat := 0
  deriving DecidableEq, Repr

/-- R402 to R424: one root port and its drive queue engine. -/
structure DrivePort where
  /-- R417, 4 b: STATE: 0 DISABLED, 1 EMPTY, 2 TRAINING, 3 ENUMERATING, 4 UP, 5 CONTAINED, 6 RELEASING, 7 HELD, 8 ENUM_FAILED. -/
  dState : Nat := 1
  /-- R424, 3 b: SPEED. -/
  speed : Nat := 0
  /-- R424, 4 b: WIDTH. -/
  width : Nat := 0
  /-- R424, 4 b: LAST_CAUSE. -/
  lastCause : Nat := 0
  /-- R407, 13 b: tags T. -/
  tagCount : Nat := 0
  /-- R407, 5 b: I/O queue pairs Q. -/
  queueCount : Nat := 0
  /-- R407, 9 b: entries per queue D. -/
  queueDepth : Nat := 0
  /-- R410, 4,096 x 16 B: drive tag table entries that are not free. -/
  tags : Tbl Tag := []
  /-- R408, at most 32: outstanding admin commands: (CID, the drive writes the buffer). -/
  adminCids : List (Nat × Bool) := []
  /-- R418, times: start times of the releases begun within the last 10 min. -/
  releases : List Nat := []
  /-- R405, 4 b: bring-up step now running, 0 none. -/
  enumStep : Nat := 0
  /-- R421, 1 b: the link is in L1. -/
  inL1 : Bool := false
  /-- R421, 64 b: time the link was last used. -/
  lastUseNs : Nat := 0
  /-- R406, 64 b: capacity of namespace 1 in blocks, as identified. -/
  blocks : Nat := 0
  /-- R421, 5 b: deepest non-operational power state of the drive with exit latency at most 100 us. -/
  deepState : Nat := 0
  /-- R421, 5 b: power state set in the drive. -/
  drivePs : Nat := 0
  /-- R559, 1 b: this controller is registered at the drive. -/
  registered : Bool := false
  /-- R559, 1 b: this controller acquired the reservation. -/
  reserved : Bool := false
  /-- R413, 1 b: marked unresponsive (fault 0x0C). -/
  unresponsive : Bool := false
  /-- R202, 1 b: the drive has the LBA format of R202. -/
  formatted : Bool := false
  /-- R241, option: (pool, member slot) of the label read at step 8. -/
  label : Option (Nat × Nat) := none
  deriving DecidableEq, Repr

/-- R402 to R425: drive ports. -/
structure Drives where
  /-- R402, 64: root ports not at their reset state. -/
  ports : Tbl DrivePort := []
  /-- R403, 16 b: LANE_REVERSE of each lane group. -/
  laneReverse : BitVec 16 := 0
  deriving DecidableEq, Repr

/-- R426 to R438: one slot supervisor. -/
structure SlotPwr where
  /-- R436, 3 b: STATE, KEEP: 0 OFF, 1 EMPTY, 2 SEATING, 3 WAITING, 4 STARTING, 5 POWERED, 6 LOCKED_OUT. -/
  pState : Nat := 1
  /-- R453, 3 b: RETRY_CNT, KEEP. -/
  retryCnt : Nat := 0
  /-- R453, 3 b: LAST_FAULT, KEEP: 0 none, 1 TRIP, 2 START, 3 OVERCURRENT, 4 cancelled. -/
  lastFault : Nat := 0
  /-- R437, 1 b: marked after-fault. -/
  marked : Bool := false
  /-- R429, 1 b: both presence pins asserted. -/
  present : Bool := false
  /-- R429, 64 b: time both pins were asserted. -/
  seatSince : Nat := 0
  /-- R437, 64 b: time presence was lost. -/
  emptySince : Nat := 0
  /-- R437, 64 b: end of the running cooldown. -/
  coolUntil : Nat := 0
  /-- R437, 1 b: a cooldown is running. -/
  cooling : Bool := false
  /-- R426, 1 b: SLOT_GATE driven. -/
  gateOn : Bool := false
  /-- R432, 1 b: gate fully enhanced. -/
  enhanced : Bool := false
  /-- R430, 1 b: limiter active at the last sample. -/
  limiter : Bool := false
  /-- R434, 64 b: time the limiter became active without a break. -/
  limiterSince : Nat := 0
  /-- R432, 64 b: time the fault timer of the start-up started. -/
  timerStart : Option Nat := none
  /-- R432, 64 b: time of gate turn-on. -/
  gateSince : Nat := 0
  /-- R432, 0 to 2: consecutive qualifying samples. -/
  pgSamples : Nat := 0
  /-- R437, 64 b: time it became POWERED or last had a fault there. -/
  poweredSince : Nat := 0
  /-- R432, 1 b: DRV_PERST_N deasserted. -/
  perstHigh : Bool := false
  /-- R453, 12 b: I_NOW in 10 mA. -/
  iNow : Nat := 0
  /-- R453, 11 b: V_OUT in 20 mV. -/
  vOut : Nat := 0
  /-- R430, 20 mV: shelf bus voltage at the last sample. -/
  vBus : Nat := 0
  /-- R453, 1 b: FOLLOW. -/
  follower : Bool := false
  /-- R451, 64 b: SLOT_PWR_CFG as taken at the last start-up. -/
  taken : Option Nat := none
  /-- R452, 1 b: gate off for the 1 s of a CYCLE. -/
  cycling : Bool := false
  deriving DecidableEq, Repr

/-- R439, R440, R454: the two shelf feeds. -/
structure Feeds where
  /-- R454, 1 b: A_GOOD. -/
  aGood : Bool := false
  /-- R454, 1 b: B_GOOD. -/
  bGood : Bool := false
  /-- R454, 1 b: A_CONDUCT. -/
  aConduct : Bool := false
  /-- R454, 1 b: B_CONDUCT. -/
  bConduct : Bool := false
  /-- R454, 12 b: A_VOLT. -/
  aVolt : Nat := 0
  /-- R454, 12 b: B_VOLT. -/
  bVolt : Nat := 0
  deriving DecidableEq, Repr

/-- R441 to R447: the energy store and the larder sizing. -/
structure Estore where
  /-- R456, 3 b: HEALTH: 0 absent, 1 not yet tested, 2 GOOD, 3 DEGRADED, 4 UNHEALTHY. -/
  health : Nat := 0
  /-- R456, 1 b: TESTING. -/
  testing : Bool := false
  /-- R443, 1 b: a test has completed since power-on. -/
  tested : Bool := false
  /-- R443, 1 b: the last test failed, or the store did not charge in time. -/
  testFailed : Bool := false
  /-- R456, 13 b: C_MEAS in mF. -/
  cMeas : Nat := 0
  /-- R456, 14 b: ESR_MEAS in 10 micro-ohm. -/
  esrMeas : Nat := 0
  /-- R456, 11 b: V_NOW in 100 mV. -/
  vNow : Nat := 0
  /-- R441, 1 b: ESTORE_CHG. -/
  charging : Bool := false
  /-- R441, 1 b: ESTORE_DISCH. -/
  discharging : Bool := false
  /-- R456, 64 b: time the last test began. -/
  lastTestNs : Nat := 0
  /-- R443, 64 b: time charging began. -/
  chargeSince : Nat := 0
  /-- R444, at most 16: last destage rates measured, newest first, slots/s. -/
  rates : List Nat := []
  /-- R457, slots/s: destage rate b. -/
  bRate : Nat := 4096000
  /-- R457, 24 b: N_COVER. -/
  nCover : Nat := 0
  /-- R457, 10 b: T_MAX_MS. -/
  tMaxMs : Nat := 0
  /-- R457, 12 b: P_HOLD_W. -/
  pHoldW : Nat := 0
  /-- R456, 12 b: E_EFF_J. -/
  eEffJ : Nat := 0
  /-- R445, 24 b: partner's N_COVER as last read. -/
  partnerN : Nat := 0
  /-- R447, 1 b: the condition of R447 holds. -/
  deficit : Bool := false
  deriving DecidableEq, Repr

/-- R448, R449: re-planned values and the conditions they wait for. -/
structure Margins where
  /-- R448, 64 b: time since when slack is above CPM_TARGET_PS + 20 ps. -/
  slackHighSince : Option Nat := none
  /-- R448, counts: consecutive low eye measurements, by logical port. -/
  eyeLow : Tbl Nat := []
  /-- R448, Gb/s: rate ceilings in force, by logical port. -/
  ceiling : Tbl Nat := []
  /-- R448, 64 b each: time each ceiling was set or last raised. -/
  ceilingSince : Tbl Nat := []
  /-- R448, ports: ceilings held until management software clears them. -/
  ceilingHeld : List Nat := []
  /-- R448, 64 b each: time a rung was tried again, by logical port. -/
  raisedNs : Tbl Nat := []
  /-- R448, 64 b: time since when corrected errors are below HBM_CE_HI / 4. -/
  ceQuiet : Option Nat := none
  /-- R448, 64 b each: time a member of each pool was last at risk. -/
  riskSince : Tbl Nat := []
  deriving DecidableEq, Repr

/-- R426 to R459: the Den supervisors of slots, feeds and energy store. -/
structure PowerKeep where
  /-- R436, 64: slot supervisors not at their value after supply loss. -/
  slots : Tbl SlotPwr := []
  /-- R454, group: shelf feeds. -/
  feeds : Feeds := { }
  /-- R456, group: energy store. -/
  estore : Estore := { }
  deriving DecidableEq, Repr

/-- R462: one queue of the local NVMe controller. -/
structure LQueue where
  /-- R462, 11 b: entries. -/
  size : Nat := 0
  /-- R462, 16 b: head. -/
  head : Nat := 0
  /-- R462, 16 b: tail. -/
  tail : Nat := 0
  /-- R469, 11 b: interrupt vector of a completion queue. -/
  iv : Nat := 0
  /-- R462, 16 b: completion queue of a submission queue. -/
  cq : Nat := 0
  deriving DecidableEq, Repr

/-- R464, R465: the CCP mailbox. -/
structure Mbox where
  /-- R465, 1 b: IRQ_EN. -/
  irqEn : Bool := false
  /-- R465, 11 b: VECTOR. -/
  vector : Nat := 0
  /-- R465, 13 b: REQ_LEN. -/
  reqLen : Nat := 0
  /-- R465, 1 b: BUSY. -/
  busy : Bool := false
  /-- R465, 1 b: DONE. -/
  done : Bool := false
  /-- R465, 1 b: REJECTED. -/
  rejected : Bool := false
  /-- R465, 13 b: REPLY_LEN. -/
  replyLen : Nat := 0
  /-- R461, 4 KiB: CCP request buffer. -/
  req : Bytes := []
  /-- R461, 4 KiB: CCP reply buffer. -/
  reply : Bytes := []
  deriving DecidableEq, Repr

/-- R460 to R477: the local host port. -/
structure LocalPort where
  /-- R476, 2 b: STATE: 0 PERST# asserted, 1 link down or training, 2 up, 3 frozen. -/
  lState : Nat := 0
  /-- R472, 1 b: frozen, whatever PERST# holds. -/
  frozen : Bool := false
  /-- R476, 3 b: SPEED. -/
  speed : Nat := 0
  /-- R476, 5 b: WIDTH. -/
  width : Nat := 0
  /-- R476, 3 b: CAUSE. -/
  cause : Nat := 0
  /-- R476, 1 b: BME. -/
  bme : Bool := false
  /-- R476, 2 b: INT_MODE. -/
  intMode : Nat := 0
  /-- R469, 12 b: vectors enabled. -/
  vectors : Nat := 0
  /-- R476, 1 b: D3HOT. -/
  d3hot : Bool := false
  /-- R476, 16 b: LTR_LAST. -/
  ltrLast : Nat := 0
  /-- R476, 16 b, saturating: FREEZES. -/
  freezes : Nat := 0
  /-- R471, 1 b: LTR Mechanism Enable. -/
  ltrEnable : Bool := false
  /-- R471, 16 b: host's Max Snoop Latency. -/
  maxSnoop : Nat := 0
  /-- R471, 64 b: time of the last LTR message. -/
  ltrSentNs : Nat := 0
  /-- R471, 16 b: change that fell within the 10 us hold. -/
  ltrHeld : Option Nat := none
  /-- R471, 64 b: time the port was last active. -/
  lastActiveNs : Nat := 0
  /-- R460, 16 b: Subsystem Vendor ID as loaded. -/
  ssvid : Nat := 7548
  /-- R460, 16 b: Subsystem ID as loaded. -/
  ssid : Nat := 38500
  /-- R462, 1 b: CC.EN. -/
  enabled : Bool := false
  /-- R463, 1 b: a CC.EN = 1 written outside the service modes. -/
  heldEnable : Bool := false
  /-- R463, 1 b: CSTS.RDY. -/
  rdy : Bool := false
  /-- R463, 1 b: CSTS.CFS. -/
  cfs : Bool := false
  /-- R463, 2 b: CC.SHN. -/
  shn : Nat := 0
  /-- R468, 1 b: CC.EN = 0 written and a command slot of the port not yet FREE. -/
  disabling : Bool := false
  /-- R462, option: asynchronous error event not yet reported. -/
  errEvent : Option Nat := none
  /-- R470, 1 b: Enable Relaxed Ordering of Device Control. -/
  relaxed : Bool := false
  /-- R463, 2 b: CSTS.SHST. -/
  shst : Nat := 0
  /-- R469, 32 b: INTMS. -/
  intms : BitVec 32 := 0
  /-- R462, at most 1,025: submission queues. -/
  sqs : Tbl LQueue := []
  /-- R462, at most 1,025: completion queues. -/
  cqs : Tbl LQueue := []
  /-- R469, vectors: MSI-X vectors whose table mask bit the host has cleared. -/
  unmasked : List Nat := []
  /-- R469, 1 b: MSI-X Function Mask. -/
  fnMask : Bool := false
  /-- R469, vectors: pending bits. -/
  pendingVec : List Nat := []
  /-- R465, group: CCP mailbox. -/
  mbox : Mbox := { }
  /-- R53, 2 b: power-state vote of the local controller. -/
  vote : Nat := 0
  /-- R55, 2 b: last operational state set. -/
  lastOper : Nat := 0
  /-- R473, 64 b: time the link last came up. -/
  linkUpNs : Nat := 0
  /-- R464, command slots: write-kind commands whose data fetch is incomplete. -/
  fetching : List Nat := []
  deriving DecidableEq, Repr

/-- R491: one reply kept for a repeat. -/
structure CachedReply where
  /-- R490, 32 b: ALIVE of the request. -/
  alive : Nat := 0
  /-- R482, 16 b: TAG of the request. -/
  tag : Nat := 0
  /-- R482, 32 b: CRC of the request. -/
  crc : Nat := 0
  /-- R497, 16 b: status sent. -/
  status : Nat := 0
  /-- R482, bytes: reply data sent. -/
  data : Bytes := []
  deriving DecidableEq, Repr

/-- R485 to R492: one CCP session. -/
structure Session where
  /-- R508, 2 b: 0 free, 1 pending, 2 open. -/
  sState : Nat := 0
  /-- R486, 3 b: role 1 to 4. -/
  role : Nat := 0
  /-- R508, 3 b: transport it is bound to. -/
  transport : Nat := 0
  /-- R485, address and port: source bound on the management VLAN. -/
  src : Nat := 0
  /-- R508, 12 b: tenant of a role 0x02 session. -/
  tenant : Nat := 0
  /-- R489, 64 b: time of the last accepted packet. -/
  lastNs : Nat := 0
  /-- R490, 32 b: highest ALIVE accepted. -/
  high : Nat := 0
  /-- R490, 64 b: bit i is 1 when HIGH - i was accepted. -/
  map : BitVec 64 := 0
  /-- R491, at most 16: replies of the most recent accepted requests, newest first. -/
  cache : List CachedReply := []
  /-- R490, requests: (ALIVE, TAG, CRC) of requests accepted and not yet answered. -/
  running : List (Nat × Nat × Nat) := []
  /-- R495, 16 b: EVENT_SUBSCRIBE mask. -/
  eventMask : Nat := 0
  /-- R490, 32 b: event sequence. -/
  eventSeq : Nat := 0
  /-- R495, at most 64: (code, instance, data) of events not yet sent. -/
  eventQueue : List (Nat × Nat × Nat) := []
  /-- R495, 16 b, saturating: events dropped since the last event sent. -/
  lost : Nat := 0
  /-- R492, 256 KiB: bytes staged, by offset. -/
  staging : Tbl (BitVec 8) := []
  /-- R492, bytes: long reply held for READ_LONG. -/
  longReply : Bytes := []
  /-- R487, 256 b: K_REQ, in the enclave. -/
  kReq : Nat := 0
  /-- R487, 256 b: K_RSP, in the enclave. -/
  kRsp : Nat := 0
  /-- R481, 1 b: opened over the Sett relay. -/
  viaSett : Bool := false
  /-- R487, 384 b: transcript hash of the session's opening. -/
  transcript : Nat := 0
  deriving DecidableEq, Repr

/-- R494, R508: one job. -/
structure Job where
  /-- R508, 2 b: 0 free, 1 running, 2 ended. -/
  jState : Nat := 0
  /-- R508, 8 b: opcode of the job. -/
  opcode : Nat := 0
  /-- R508, 16 b: final status. -/
  result : Nat := 0
  /-- R508, 10 b: 0 to 1000. -/
  progress : Nat := 0
  /-- R508, 7 b: session that started it. -/
  session : Nat := 0
  /-- R494, 32 b: pool, slot, handle or other operand of the job. -/
  arg : Nat := 0
  deriving DecidableEq, Repr

/-- R509, R510: one check-value unit. -/
structure Cvu where
  /-- R510, 2 b: 0 free, 1 firmware, 2 management. -/
  holder : Nat := 0
  /-- R510, 1 b: 0 CRC-32C, 1 the 64-bit CRC. -/
  alg : Nat := 0
  /-- R510, 6 b: holding session. -/
  session : Nat := 0
  /-- R510, 48 b, saturating: bytes fed since INIT. -/
  bytes : Nat := 0
  /-- R510, 64 b: value before the final XOR. -/
  running : BitVec 64 := 0
  deriving DecidableEq, Repr

/-- R561: a reply that waits until the partner has applied the change. -/
structure Owed where
  /-- R482, header: header of the request. -/
  h : CcpHdr := { }
  /-- R482, 8 b: OPCODE. -/
  opcode : Nat := 0
  /-- R482, bytes: reply data. -/
  data : Bytes := []
  /-- R313, 1 b: the reply is followed by the end of the tenant's sessions. -/
  ends : Bool := false
  deriving DecidableEq, Repr

/-- R528: one image slot of the external store. -/
structure ImageSlot where
  /-- R326, 1 b: the image in the slot passes R326. -/
  valid : Bool := false
  /-- R326, 8 b: security version of the image. -/
  svn : Nat := 0
  /-- R326, 384 b: SHA-384 digest of the image. -/
  digest : Nat := 0
  /-- R529, 0 to 2: consecutive resets at which firmware from this slot failed to start. -/
  startFails : Nat := 0
  deriving DecidableEq, Repr

/-- R478 to R510: management. -/
structure Ccp where
  /-- R485, 64 entries: sessions 1 to 64. -/
  sessions : Tbl Session := []
  /-- R487, per transport: consecutive 0x0204 replies. -/
  credFails : Tbl Nat := []
  /-- R487, transports: transports refusing SESSION_OPEN for 10 s. -/
  holdOff : List Nat := []
  /-- R494, 64 entries: jobs. -/
  jobs : Tbl Job := []
  /-- R510, 8 entries: check-value units. -/
  cvus : Tbl Cvu := []
  /-- R510, claims: management claims waiting for a unit, oldest first; data: the algorithm. -/
  cvuWaiting : List Owed := []
  /-- R481, requests: requests relayed to the partner and not yet answered. -/
  relayed : List Owed := []
  /-- R561, replies: replies owed, by the SEQ of the class 1 frame that carries the change. -/
  owed : Tbl Owed := []
  /-- R492, per carrier: long reply of session 0 held for READ_LONG. -/
  zeroLong : Tbl Bytes := []
  /-- R499, at most 32 MiB: image bytes taken by FW_LOAD, by offset. -/
  fwImage : Tbl Bytes := []
  /-- R500, group: image that the running FW_COMMIT writes. -/
  fwCommit : Option ImageSlot := none
  /-- R479, 1 b: a CCP packet accepted in M0 and not yet answered. -/
  m0Packet : Bool := false
  /-- R480, kHz: NVMe-MI SMBus frequency. -/
  smbusFreq : Nat := 100
  /-- R480, bytes: NVMe-MI MCTP transmission unit. -/
  mctpMtu : Nat := 64
  /-- R329, 1 b: GET_VERSION answered on this connection. -/
  spdmVersion : Bool := false
  /-- R329, 1 b: algorithms negotiated. -/
  spdmAlg : Bool := false
  deriving DecidableEq, Repr

/-- R517, R518: one bandwidth window. -/
structure BwWin where
  /-- R517, 32 b: WINDOW_US. -/
  windowUs : Nat := 1000
  /-- R517, 64 b: bytes received in the last completed window. -/
  rxBytes : Nat := 0
  /-- R517, 64 b: bytes transmitted in the last completed window. -/
  txBytes : Nat := 0
  /-- R517, 32 b: RX_PEAK_MBPS. -/
  rxPeak : Nat := 0
  /-- R517, 32 b: TX_PEAK_MBPS. -/
  txPeak : Nat := 0
  /-- R518, 64 b: bytes received in the window in progress. -/
  rxNow : Nat := 0
  /-- R518, 64 b: bytes transmitted in the window in progress. -/
  txNow : Nat := 0
  /-- R518, 1 b: the window in progress was discarded by a write of WINDOW_US. -/
  discard : Bool := false
  deriving DecidableEq, Repr

/-- R519, R520: times and fields of a tagged command, and its record (R521). -/
structure FoxTag where
  /-- R521, 64 b: T0_NS. -/
  t0 : Nat := 0
  /-- R521, 11 x 32 b: offset of each stage reached, in ns after T0_NS. -/
  stages : Tbl Nat := []
  /-- R521, 12 b: tenant. -/
  tenant : Nat := 0
  /-- R521, 14 b: namespace handle. -/
  handle : Nat := 0
  /-- R521, 21 b: context index. -/
  ctx : Nat := 0
  /-- R521, 16 b: submission queue. -/
  qid : Nat := 0
  /-- R521, 16 b: command identifier. -/
  cid : Nat := 0
  /-- R521, 64 b: admission stamp, 0 if none. -/
  stamp : Nat := 0
  /-- R521, 64 b: starting LBA. -/
  slba : Nat := 0
  /-- R521, 32 b: logical blocks. -/
  nlb : Nat := 0
  /-- R521, 8 b: NVMe opcode. -/
  opcode : Nat := 0
  /-- R521, 8 b: FLAGS. -/
  flags : Nat := 0
  /-- R521, 16 b: completion status. -/
  status : Nat := 0
  /-- R521, 8 b: MODE. -/
  mode : Nat := 0
  /-- R521, 32 b: record sequence number. -/
  seq : Nat := 0
  deriving DecidableEq, Repr

/-- R511 to R526: counters, windows and the Fox-tag sampler. -/
structure Telem where
  /-- R511, 64 b each, saturating: counters that are not 0, keyed by group, instance and place. -/
  cnt : Tbl Nat := []
  /-- R459, 64 b each, saturating: counters of groups 15 to 17, in Den SRAM (KEEP). -/
  denCnt : Tbl Nat := []
  /-- R517, 16 x 32 B: bandwidth windows not at their reset value. -/
  bw : Tbl BwWin := []
  /-- R519, at most 4,096: tagged commands in flight, by slot. -/
  foxLive : Tbl FoxTag := []
  /-- R522, 1,048,576 records: FOX_RING, by entry. -/
  foxRing : Tbl FoxTag := []
  /-- R522, 20 b: HEAD. -/
  foxHead : Nat := 0
  /-- R522, 8 b, saturating: WRAPS. -/
  foxWraps : Nat := 0
  /-- R521, 32 b: SEQ of the next record. -/
  foxSeq : Nat := 0
  deriving DecidableEq, Repr

/-- R538, R539: where the Den domain's power-up sequence stands. -/
inductive PwrSeq where
  | off
  | denRunning
  | hbmWait
  | coreWait
  | coreOn
  | retryWait
  | halted
  | heldInReset
  deriving DecidableEq, Repr, Inhabited

/-- R545: the control pins the Den domain drives or latches. -/
structure Pins where
  /-- R535, 1 b: CORE_PWR_EN. -/
  corePwrEn : Bool := false
  /-- R535, 1 b: HBM_PWR_EN. -/
  hbmPwrEn : Bool := false
  /-- R535, 1 b: CORE_PG as last seen. -/
  corePg : Bool := false
  /-- R535, 1 b: HBM_PG as last seen. -/
  hbmPg : Bool := false
  /-- R541, 1 b: RESET_N recognised low. -/
  resetNLow : Bool := false
  /-- R545, 1 b: FAULT_N asserted. -/
  faultN : Bool := false
  /-- R545, 1 b: THERM_TRIP_N asserted. -/
  thermTripN : Bool := false
  /-- R63, 1 b: SETT_WAKE_OUT pulse driven. -/
  settWakeOut : Bool := false
  /-- R542, 1 b: controller index sampled. -/
  strapIdx : Bool := false
  /-- R542, 1 b: STRAP_TEST sampled. -/
  strapTest : Bool := false
  /-- R466, 1 b: LP_PERST_N asserted. -/
  lpPerst : Bool := true
  deriving DecidableEq, Repr

/-- R538 to R556: Den domain, all of it kept across every reset but the loss of the always-on supply. -/
structure Den where
  /-- R545, group: control pins. -/
  pins : Pins := { }
  /-- R538, 3 b: power-up sequence. -/
  seq : PwrSeq := .off
  /-- R539, 0 to 3: failed power-up attempts. -/
  seqFails : Nat := 0
  /-- R544, 64 b: controller time base in ns; 0 when the always-on supply rises. -/
  timeNs : Nat := 0
  /-- R67, 64 b: DEN_CFG, KEEP; supply-loss values. -/
  denCfg : Nat := 1878775100799451136
  /-- R556, 1 b: KEEP; 0 after supply loss. -/
  hbmRetained : Bool := false
  /-- R556, 4 b: KEEP; 0 after supply loss. -/
  railFault : Nat := 0
  /-- R556, 8 b, saturating: KEEP; thermal trips. -/
  trips : Nat := 0
  /-- R563, 1 b: the stop that ends a hold-up destage holds the controller in reset until a feed is good. -/
  stopped : Bool := false
  /-- R541, 1 b: a RESET_N deferred until the hold-up destage has written its header. -/
  resetDeferred : Bool := false
  /-- R234, 64 b: the larder header's token, as kept in Den SRAM. -/
  larderToken : Nat := 0
  /-- R457, 256 x 128 b: MARGIN_LOG entries, newest first (KEEP). -/
  marginLog : List Nat := []
  deriving DecidableEq, Repr

/-- R536, R554, R555: setpoint, temperatures and throttle, cleared by reset. -/
structure Elec where
  /-- R556, 10 b: VDD_CORE setpoint in mV. -/
  vcoreMv : Nat := 820
  /-- R556, 8 b: hottest die sensor. -/
  dieC : Nat := 0
  /-- R556, 8 b: hottest stack. -/
  stackC : Nat := 0
  /-- R555, 1 b: throttle in force. -/
  throttle : Bool := false
  /-- R556, 16 b, saturating: throttles entered. -/
  throttles : Nat := 0
  /-- R536, 1 b: regulator did not acknowledge. -/
  avsFault : Bool := false
  /-- R536, 0 to 3: resends of the pending AVSBus command. -/
  avsRetries : Nat := 0
  /-- R536, option: setpoint sent and not yet acknowledged. -/
  avsPending : Option Nat := none
  /-- R555, 1 b: a stack above 85 degrees asks for twice the refresh. -/
  refreshHot : Bool := false
  /-- R555, option: time since when the throttle's end condition holds. -/
  coolSince : Option Nat := none
  /-- R448, 1, 2 or 4: refresh multiple the corrected-error rule asks for. -/
  ceLevel : Nat := 1
  /-- R536, option: time since when slack is below CPM_TARGET_PS with AVS_FAULT. -/
  slackLowSince : Option Nat := none
  /-- R392, 1 b: the controller is stopped and has not yet reset. -/
  halted : Bool := false
  deriving DecidableEq, Repr

/-- R527 to R533: bring-up. -/
structure Boot where
  /-- R533, 4 b: step reached, 15 after step 12. -/
  bootStep : Nat := 1
  /-- R533, 1 b: STEP failed. -/
  failed : Bool := false
  /-- R533, 1 b: in recovery. -/
  recovery : Bool := false
  /-- R533, 1 b: image slot running. -/
  slotB : Bool := false
  /-- R533, 8 b: SVN of the running image. -/
  svn : Nat := 0
  /-- R529, 1 b: the slot that failed first: true for B. -/
  failedFirst : Bool := false
  /-- R318, 1 b: enclave self-test of this reset passed. -/
  selfTestOk : Bool := false
  /-- R530, pools: pools imported. -/
  imported : List Nat := []
  /-- R532, 1 b: step 11 ended. -/
  storeTestDone : Bool := false
  /-- R234, R537, 1 b: HBM_RETAINED as it stood before this entry into M1. -/
  larderKept : Bool := false
  /-- R528, 0 to 2: image slots that failed R326 in this bring-up. -/
  loadFails : Nat := 0
  /-- R532, 1 b: ports up or 300 ms passed. -/
  linksWaited : Bool := false
  /-- R530, 64 b: CONF_SEQ of the newest configuration copy. -/
  confSeq : Nat := 0
  /-- R530, 1 b: a configuration write is owed since the last accepted WRITE_OBJ. -/
  confDue : Bool := false
  /-- R387, R399, 1 b: QUORUM_OVERRIDE permits one run of R385. -/
  overridden : Bool := false
  /-- R527, 0 to 2: consecutive failures of HBM training. -/
  trainingFails : Nat := 0
  deriving DecidableEq, Repr

/-- The whole machine. Plain data: every field is a number, a bit vector, a name, a list or a structure of those. -/
structure State where
  /-- the Den domain (R538 to R556), kept over every reset but the loss of the always-on supply. -/
  den : Den := {}
  /-- slot supervisors, feeds and energy store (R426 to R459), kept likewise. -/
  power : PowerKeep := {}
  /-- Lockdown latch and counts (R335, R337), kept likewise. -/
  keep : EnclaveKeep := {}
  /-- the fuse array (R321). -/
  fuses : Fuses := {}
  /-- the image store: 0 slot A, 1 slot B (R528). -/
  images : Tbl ImageSlot := []
  /-- setpoint, temperatures, throttle (R536, R555). -/
  elec : Elec := {}
  /-- bring-up (R527 to R533). -/
  boot : Boot := {}
  /-- mode and power state (R45 to R66). -/
  modes : Modes := {}
  /-- islands, crossbar ports, arbiter (R27 to R44). -/
  spine : Spine := {}
  /-- Ethernet cages and aggregation (R69 to R104). -/
  net : Net := {}
  /-- transports (R105 to R141). -/
  xport : Xport := {}
  /-- host command layer (R142 to R170). -/
  cmds : Cmds := {}
  /-- consistency engine (R171 to R201). -/
  cons : Cons := {}
  /-- layout, larder, destage, rebuild (R202 to R271). -/
  layout : Layout := {}
  /-- namespaces, generations, cipher lanes (R272 to R303). -/
  cipher : Cipher := {}
  /-- key enclave (R304 to R337). -/
  enclave : Enclave := {}
  /-- scheduling, policing, buffers (R338 to R364). -/
  qos : Qos := {}
  /-- the redundant pair (R365 to R401). -/
  pair : Pair := {}
  /-- drive ports (R402 to R425). -/
  drives : Drives := {}
  /-- re-planned margins (R448, R449). -/
  margins : Margins := {}
  /-- local host port (R460 to R477). -/
  localPort : LocalPort := {}
  /-- management sessions, jobs, check-value units (R478 to R510). -/
  ccp : Ccp := {}
  /-- counters, windows, Fox tags (R511 to R526). -/
  telem : Telem := {}
  /-- RW word objects that do not hold their reset value, by object identifier (R502). -/
  regs : Tbl (BitVec 64) := []
  /-- the other RW objects that have been written, by object identifier (R502). -/
  blobs : Tbl Bytes := []
  /-- free values drawn so far; the model's own, DESIGN CHOICE, log 5. -/
  fresh : Nat := 0
  /-- what the controller has sent to the outside, newest first; the model's own, DESIGN CHOICE, log 4. -/
  sent : List Out := []
  /-- the commands that are waiting, first in, first out. -/
  pending : List Instr := []
  deriving DecidableEq, Repr

/-- The machine right after reset: every field at the value its declaration gives, which is the spec's reset
value where the spec states one and a value named in the assumption log (6, 9) where it states none. -/
def State.reset : State := {}

end Sys2Proof.Machine
end

