-- ==== Sys2Proof/Machine/Fields.lean ====
section
/-! DEFINITION. One update function for each field of State: apply a function to that field and leave the rest. -/
namespace Sys2Proof.Machine

/-- Change the field `den` alone. -/
def State.updDen (f : Den → Den) (s : State) : State := { s with den := f s.den }

/-- Change the field `power` alone. -/
def State.updPower (f : PowerKeep → PowerKeep) (s : State) : State := { s with power := f s.power }

/-- Change the field `keep` alone. -/
def State.updKeep (f : EnclaveKeep → EnclaveKeep) (s : State) : State := { s with keep := f s.keep }

/-- Change the field `fuses` alone. -/
def State.updFuses (f : Fuses → Fuses) (s : State) : State := { s with fuses := f s.fuses }

/-- Change the field `images` alone. -/
def State.updImages (f : Tbl ImageSlot → Tbl ImageSlot) (s : State) : State := { s with images := f s.images }

/-- Change the field `elec` alone. -/
def State.updElec (f : Elec → Elec) (s : State) : State := { s with elec := f s.elec }

/-- Change the field `boot` alone. -/
def State.updBoot (f : Boot → Boot) (s : State) : State := { s with boot := f s.boot }

/-- Change the field `modes` alone. -/
def State.updModes (f : Modes → Modes) (s : State) : State := { s with modes := f s.modes }

/-- Change the field `spine` alone. -/
def State.updSpine (f : Spine → Spine) (s : State) : State := { s with spine := f s.spine }

/-- Change the field `net` alone. -/
def State.updNet (f : Net → Net) (s : State) : State := { s with net := f s.net }

/-- Change the field `xport` alone. -/
def State.updXport (f : Xport → Xport) (s : State) : State := { s with xport := f s.xport }

/-- Change the field `cmds` alone. -/
def State.updCmds (f : Cmds → Cmds) (s : State) : State := { s with cmds := f s.cmds }

/-- Change the field `cons` alone. -/
def State.updCons (f : Cons → Cons) (s : State) : State := { s with cons := f s.cons }

/-- Change the field `layout` alone. -/
def State.updLayout (f : Layout → Layout) (s : State) : State := { s with layout := f s.layout }

/-- Change the field `cipher` alone. -/
def State.updCipher (f : Cipher → Cipher) (s : State) : State := { s with cipher := f s.cipher }

/-- Change the field `enclave` alone. -/
def State.updEnclave (f : Enclave → Enclave) (s : State) : State := { s with enclave := f s.enclave }

/-- Change the field `qos` alone. -/
def State.updQos (f : Qos → Qos) (s : State) : State := { s with qos := f s.qos }

/-- Change the field `pair` alone. -/
def State.updPair (f : Pair → Pair) (s : State) : State := { s with pair := f s.pair }

/-- Change the field `drives` alone. -/
def State.updDrives (f : Drives → Drives) (s : State) : State := { s with drives := f s.drives }

/-- Change the field `margins` alone. -/
def State.updMargins (f : Margins → Margins) (s : State) : State := { s with margins := f s.margins }

/-- Change the field `localPort` alone. -/
def State.updLocalPort (f : LocalPort → LocalPort) (s : State) : State := { s with localPort := f s.localPort }

/-- Change the field `ccp` alone. -/
def State.updCcp (f : Ccp → Ccp) (s : State) : State := { s with ccp := f s.ccp }

/-- Change the field `telem` alone. -/
def State.updTelem (f : Telem → Telem) (s : State) : State := { s with telem := f s.telem }

/-- Change the field `regs` alone. -/
def State.updRegs (f : Tbl (BitVec 64) → Tbl (BitVec 64)) (s : State) : State := { s with regs := f s.regs }

/-- Change the field `blobs` alone. -/
def State.updBlobs (f : Tbl Bytes → Tbl Bytes) (s : State) : State := { s with blobs := f s.blobs }

/-- Change the field `fresh` alone. -/
def State.updFresh (f : Nat → Nat) (s : State) : State := { s with fresh := f s.fresh }

/-- Change the field `sent` alone. -/
def State.updSent (f : List Out → List Out) (s : State) : State := { s with sent := f s.sent }

/-- Change the field `pending` alone. -/
def State.updPending (f : List Instr → List Instr) (s : State) : State := { s with pending := f s.pending }

end Sys2Proof.Machine
end

