-- ==== Sys2Proof/Machine/Operands.lean ====
section
/-! DEFINITION. The operand forms of the block: little-endian fields (R13), the check values the spec names, the
arithmetic of the parity engines and small exact arithmetic. -/
namespace Sys2Proof.Machine

/-- The number a little-endian byte string holds (R13). -/
def leNat : Bytes → Nat
  | [] => 0
  | b :: t => b.toNat + 256 * leNat t

/-- The `n` low bytes of a number, little-endian (R13). -/
def leBytes : Nat → Nat → Bytes
  | 0, _ => []
  | n + 1, x => BitVec.ofNat 8 x :: leBytes n (x / 256)

/-- The field of `n` bytes at offset `off` of a record (R14). -/
def leField (b : Bytes) (off n : Nat) : Nat := leNat ((b.drop off).take n)

/-- `n` zero bytes. -/
def zeros (n : Nat) : Bytes := List.replicate n 0

/-- The first `n` bytes of a record that may be held short, its missing bytes zero. -/
def padTo (n : Nat) (b : Bytes) : Bytes := b.take n ++ zeros (n - b.length)

/-- A record with the bytes from offset `off` replaced by `new`. -/
def overwrite (b : Bytes) (off : Nat) (new : Bytes) : Bytes :=
  b.take off ++ new ++ b.drop (off + new.length)

/-- One bit of a reflected CRC with polynomial `poly`. -/
def crcBit (poly x : Nat) : Nat := if x % 2 = 1 then Nat.xor (x / 2) poly else x / 2

/-- One byte of a reflected CRC. -/
def crcByte (poly x : Nat) (b : BitVec 8) : Nat :=
  let y := Nat.xor x b.toNat
  crcBit poly (crcBit poly (crcBit poly (crcBit poly (crcBit poly (crcBit poly (crcBit poly (crcBit poly y)))))))

/-- A reflected CRC's running value after a byte string. -/
def crcRun (poly start : Nat) (bs : Bytes) : Nat := bs.foldl (crcByte poly) start

/-- Reflected polynomial of CRC-32C (R509). -/
def polyCrc32c : Nat := 0x82F63B78

/-- Reflected polynomial of the 64-bit CRC of the NVMe guard (R509). -/
def polyCrc64 : Nat := 0x9A6C9329AC4BC9B5

/-- CRC-32C (R509): initial value and final XOR all ones. -/
def crc32c (bs : Bytes) : Nat := Nat.xor (crcRun polyCrc32c 0xFFFFFFFF bs) 0xFFFFFFFF

/-- The 64-bit CRC (R509): initial value and final XOR all ones. -/
def crc64 (bs : Bytes) : Nat := Nat.xor (crcRun polyCrc64 0xFFFFFFFFFFFFFFFF bs) 0xFFFFFFFFFFFFFFFF

/-- One bit of the T10 16-bit guard CRC, polynomial 0x8BB7, not reflected. -/
def t10Bit (x : Nat) : Nat := if x / 32768 % 2 = 1 then Nat.xor (x * 2 % 65536) 0x8BB7 else x * 2 % 65536

/-- The T10 16-bit guard of protection information (R277). -/
def crcT10 (bs : Bytes) : Nat :=
  bs.foldl (fun x b => t10Bit (t10Bit (t10Bit (t10Bit (t10Bit (t10Bit (t10Bit (t10Bit (Nat.xor x (b.toNat * 256)))))))))) 0

/-- Doubling in GF(2^8) with polynomial 0x11D (R204). -/
def gfDouble (a : Nat) : Nat := if a ≥ 128 then Nat.xor (a * 2) 0x11D else a * 2

/-- Multiplication in GF(2^8) by the bits of `b` from the lowest, `n` of them. -/
def gfMulBits : Nat → Nat → Nat → Nat
  | 0, _, _ => 0
  | n + 1, a, b => Nat.xor (if b % 2 = 1 then a else 0) (gfMulBits n (gfDouble a) (b / 2))

/-- Multiplication in GF(2^8) with polynomial 0x11D (R204). -/
def gfMul (a b : Nat) : Nat := gfMulBits 8 a b

/-- The power α^n of α = 2 in GF(2^8) (R204). -/
def gfPow : Nat → Nat
  | 0 => 1
  | n + 1 => gfDouble (gfPow n)

/-- The inverse in GF(2^8): the 254th power, by square and multiply; 0 for 0. -/
def gfInv (a : Nat) : Nat :=
  let a2 := gfMul a a
  let a4 := gfMul a2 a2
  let a8 := gfMul a4 a4
  let a16 := gfMul a8 a8
  let a32 := gfMul a16 a16
  let a64 := gfMul a32 a32
  let a128 := gfMul a64 a64
  gfMul a2 (gfMul a4 (gfMul a8 (gfMul a16 (gfMul a32 (gfMul a64 a128)))))

/-- Byte-wise sum in GF(2^8) of two blocks. -/
def gfAdd (a b : Bytes) : Bytes := List.zipWith (fun x y => x ^^^ y) a b

/-- A block scaled by `c` in GF(2^8). -/
def gfScale (c : Nat) (a : Bytes) : Bytes := a.map fun x => BitVec.ofNat 8 (gfMul c x.toNat)

/-- The integer square root by bisection, `n` bits. -/
def isqrtBits : Nat → Nat → Nat → Nat
  | 0, _, r => r
  | n + 1, x, r => if (r + 2 ^ n) * (r + 2 ^ n) ≤ x then isqrtBits n x (r + 2 ^ n) else isqrtBits n x r

/-- The integer square root of a number below 2^96. -/
def isqrt (x : Nat) : Nat := isqrtBits 48 x 0

/-- Division rounding up. -/
def ceilDiv (a b : Nat) : Nat := (a + b - 1) / b

/-- A number saturated at `m`. -/
def sat (m x : Nat) : Nat := if x ≤ m then x else m

/-- Take the first occurrence of `x` out of a list. -/
def dropOne {α : Type} [BEq α] (x : α) (l : List α) : List α := l.erase x

/-- Append `x` unless it is in the list. -/
def addOne {α : Type} [BEq α] (x : α) (l : List α) : List α := if l.contains x then l else l ++ [x]

end Sys2Proof.Machine
end

