-- ==== Sys2Proof/Machine/Tables.lean ====
section
/-! DEFINITION. Operations on tables of numbered entries: look up, put, delete, change one entry. -/
namespace Sys2Proof.Machine

/-- The entry numbered `k`, if it is listed. -/
def tfind {α : Type} : Tbl α → Nat → Option α
  | [], _ => none
  | (k', v) :: t, k => if k = k' then some v else tfind t k

/-- The entry numbered `k`, or `d` where it is not listed. -/
def tget {α : Type} (d : α) (t : Tbl α) (k : Nat) : α := (tfind t k).getD d

/-- Whether entry `k` is listed. -/
def thas {α : Type} (t : Tbl α) (k : Nat) : Bool := (tfind t k).isSome

/-- List entry `k` with contents `v`, in place. -/
def tput {α : Type} : Tbl α → Nat → α → Tbl α
  | [], k, v => [(k, v)]
  | (k', v') :: t, k, v =>
    if k < k' then (k, v) :: (k', v') :: t
    else if k = k' then (k, v) :: t
    else (k', v') :: tput t k v

/-- Take entry `k` out of the list. -/
def tdel {α : Type} : Tbl α → Nat → Tbl α
  | [], _ => []
  | (k', v') :: t, k => if k = k' then tdel t k else (k', v') :: tdel t k

/-- Give entry `k` the contents `v`, where an entry equal to `d` is not listed. -/
def tset {α : Type} [DecidableEq α] (d : α) (t : Tbl α) (k : Nat) (v : α) : Tbl α :=
  if v = d then tdel t k else tput t k v

/-- Change entry `k` by `f`, where an entry equal to `d` is not listed. -/
def tmod {α : Type} [DecidableEq α] (d : α) (k : Nat) (f : α → α) (t : Tbl α) : Tbl α :=
  tset d t k (f (tget d t k))

/-- Change entry `k` by `f` where it is listed. -/
def tadj {α : Type} (k : Nat) (f : α → α) (t : Tbl α) : Tbl α :=
  match tfind t k with
  | some v => tput t k (f v)
  | none => t

/-- Change every listed entry. -/
def tmap {α : Type} (f : Nat → α → α) (t : Tbl α) : Tbl α := t.map fun e => (e.1, f e.1 e.2)

/-- Keep the entries that satisfy `p`. -/
def tkeep {α : Type} (p : Nat → α → Bool) (t : Tbl α) : Tbl α := t.filter fun e => p e.1 e.2

/-- How many entries satisfy `p`. -/
def tcount {α : Type} (p : Nat → α → Bool) (t : Tbl α) : Nat := (t.filter fun e => p e.1 e.2).length

/-- The numbers listed. -/
def tkeys {α : Type} (t : Tbl α) : List Nat := t.map (·.1)

/-- The canonical form of a table: numbers strictly rising. -/
def twf {α : Type} : Tbl α → Bool
  | [] => true
  | [_] => true
  | (k, _) :: (k', v') :: t => decide (k < k') && twf ((k', v') :: t)

/-- The lowest number of `lo, lo + 1, …` (`n` of them) at which entry is not listed. -/
def tfreeFrom {α : Type} (t : Tbl α) (lo : Nat) : Nat → Option Nat
  | 0 => none
  | n + 1 => if thas t lo then tfreeFrom t (lo + 1) n else some lo

end Sys2Proof.Machine
end

