-- ==== Sys2Proof/Machine/Counters.lean ====
section
/-! DEFINITION. The counters of R513: where each one stands, and how it counts (R511). -/
namespace Sys2Proof.Machine

/-- The place of a counter: its group of R513, its instance, its number in the record. -/
def cntKey (g i k : Nat) : Nat := g * 2 ^ 29 + i * 2 ^ 5 + k

/-- Where groups 15 to 17 live: Den SRAM, kept across resets (R511). -/
def denGroup (g : Nat) : Bool := decide (15 ≤ g) && decide (g ≤ 17)

/-- The value of a counter. -/
def State.counter (s : State) (c : Nat × Nat) (i : Nat) : Nat :=
  tget 0 (if denGroup c.1 then s.telem.denCnt else s.telem.cnt) (cntKey c.1 i c.2)

/-- Add `n` to counter `c` of instance `i`; it stops at its maximum and never wraps (R511). -/
def State.bumpN (c : Nat × Nat) (i n : Nat) (s : State) : State :=
  if denGroup c.1 then
    s.updTelem fun t => { t with denCnt := tmod 0 (cntKey c.1 i c.2) (fun v => sat (2 ^ 64 - 1) (v + n)) t.denCnt }
  else
    s.updTelem fun t => { t with cnt := tmod 0 (cntKey c.1 i c.2) (fun v => sat (2 ^ 64 - 1) (v + n)) t.cnt }

/-- Set counter `c` of instance `i`: of the one count that can fall (R240). -/
def State.setCounter (c : Nat × Nat) (i v : Nat) (s : State) : State :=
  s.updTelem fun t => { t with cnt := tmod 0 (cntKey c.1 i c.2) (fun _ => sat (2 ^ 64 - 1) v) t.cnt }

/-- Add 1 to counter `c` of instance `i`. -/
def State.bump (c : Nat × Nat) (i : Nat) (s : State) : State := s.bumpN c i 1

/-- RX_FRAMES, group 0 of R513. -/
def cRxFrames : Nat × Nat := (0, 0)

/-- RX_BYTES, group 0 of R513. -/
def cRxBytes : Nat × Nat := (0, 1)

/-- RX_OVF_FRAMES, group 0 of R513. -/
def cRxOvfFrames : Nat × Nat := (0, 2)

/-- RX_OVF_BYTES, group 0 of R513. -/
def cRxOvfBytes : Nat × Nat := (0, 3)

/-- RX_PFC_FRAMES, group 0 of R513. -/
def cRxPfcFrames : Nat × Nat := (0, 4)

/-- TX_PFC_FRAMES, group 0 of R513. -/
def cTxPfcFrames : Nat × Nat := (0, 5)

/-- RX_PFC_IGNORED, group 0 of R513. -/
def cRxPfcIgnored : Nat × Nat := (0, 6)

/-- PFC_WD_TRIPS, group 0 of R513. -/
def cPfcWdTrips : Nat × Nat := (0, 7)

/-- RX_WRED_DROP, group 0 of R513. -/
def cRxWredDrop : Nat × Nat := (0, 8)

/-- ECN_MARK_RX, group 0 of R513. -/
def cEcnMarkRx : Nat × Nat := (0, 9)

/-- ECN_MARK_TX, group 0 of R513. -/
def cEcnMarkTx : Nat × Nat := (0, 10)

/-- PUSHOUT_FRAMES, group 0 of R513. -/
def cPushoutFrames : Nat × Nat := (0, 11)

/-- PFC_HEADROOM_ENTRY, group 0 of R513. -/
def cPfcHeadroomEntry : Nat × Nat := (0, 12)

/-- TX_FRAMES, group 0 of R513. -/
def cTxFrames : Nat × Nat := (0, 13)

/-- TX_BYTES, group 0 of R513. -/
def cTxBytes : Nat × Nat := (0, 14)

/-- RX_FCS_ERR, group 1 of R513. -/
def cRxFcsErr : Nat × Nat := (1, 0)

/-- RX_LEN_ERR, group 1 of R513. -/
def cRxLenErr : Nat × Nat := (1, 1)

/-- RX_FILTER_DROP, group 1 of R513. -/
def cRxFilterDrop : Nat × Nat := (1, 2)

/-- RX_GRP_FALSE, group 1 of R513. -/
def cRxGrpFalse : Nat × Nat := (1, 3)

/-- TX_LINK_DROP, group 1 of R513. -/
def cTxLinkDrop : Nat × Nat := (1, 4)

/-- RX_NOT_COLLECTING, group 1 of R513. -/
def cRxNotCollecting : Nat × Nat := (1, 5)

/-- LOOKUP_NONE, group 1 of R513. -/
def cLookupNone : Nat × Nat := (1, 6)

/-- SETT_NET_DISCARD, group 1 of R513. -/
def cSettNetDiscard : Nat × Nat := (1, 7)

/-- CTX_MISS, group 2 of R513. -/
def cCtxMiss : Nat × Nat := (2, 0)

/-- CTX_EVICT_CANCEL, group 2 of R513. -/
def cCtxEvictCancel : Nat × Nat := (2, 1)

/-- CTX_CRC_ERR, group 2 of R513. -/
def cCtxCrcErr : Nat × Nat := (2, 2)

/-- TCP_SYN_REFUSED, group 2 of R513. -/
def cTcpSynRefused : Nat × Nat := (2, 3)

/-- CLASS_REFUSED, group 2 of R513. -/
def cClassRefused : Nat × Nat := (2, 4)

/-- ROCE_SEQ_NAK_TX, group 2 of R513. -/
def cRoceSeqNakTx : Nat × Nat := (2, 5)

/-- ROCE_DUP_RX, group 2 of R513. -/
def cRoceDupRx : Nat × Nat := (2, 6)

/-- ROCE_RETX, group 2 of R513. -/
def cRoceRetx : Nat × Nat := (2, 7)

/-- TCP_RETX, group 2 of R513. -/
def cTcpRetx : Nat × Nat := (2, 8)

/-- URG_IGNORED, group 2 of R513. -/
def cUrgIgnored : Nat × Nat := (2, 9)

/-- IP_FRAG_DROP, group 2 of R513. -/
def cIpFragDrop : Nat × Nat := (2, 10)

/-- CNP_TX, group 2 of R513. -/
def cCnpTx : Nat × Nat := (2, 11)

/-- CNP_RX, group 2 of R513. -/
def cCnpRx : Nat × Nat := (2, 12)

/-- ECE_RX, group 2 of R513. -/
def cEceRx : Nat × Nat := (2, 13)

/-- PUSH_STALE, group 2 of R513. -/
def cPushStale : Nat × Nat := (2, 14)

/-- PUSH_HOLD_EXPIRED, group 2 of R513. -/
def cPushHoldExpired : Nat × Nat := (2, 15)

/-- DIGEST_ERR, group 2 of R513. -/
def cDigestErr : Nat × Nat := (2, 16)

/-- MISS_BUF_DROP, group 3 of R513. -/
def cMissBufDrop : Nat × Nat := (3, 0)

/-- CMD_RX, group 4 of R513. -/
def cCmdRx : Nat × Nat := (4, 0)

/-- CMD_DONE, group 4 of R513. -/
def cCmdDone : Nat × Nat := (4, 1)

/-- SLOT_WAIT, group 4 of R513. -/
def cSlotWait : Nat × Nat := (4, 2)

/-- ABORT_DONE, group 4 of R513. -/
def cAbortDone : Nat × Nat := (4, 3)

/-- ABORT_NOT, group 4 of R513. -/
def cAbortNot : Nat × Nat := (4, 4)

/-- KATO_EXPIRED, group 4 of R513. -/
def cKatoExpired : Nat × Nat := (4, 5)

/-- CONNECT_REJECT, group 4 of R513. -/
def cConnectReject : Nat × Nat := (4, 6)

/-- CMD_GREEN, group 4 of R513. -/
def cCmdGreen : Nat × Nat := (4, 7)

/-- CMD_YELLOW, group 4 of R513. -/
def cCmdYellow : Nat × Nat := (4, 8)

/-- CMD_RED, group 4 of R513. -/
def cCmdRed : Nat × Nat := (4, 9)

/-- DEFER_RELEASED, group 4 of R513. -/
def cDeferReleased : Nat × Nat := (4, 10)

/-- LARDER_WAIT, group 4 of R513. -/
def cLarderWait : Nat × Nat := (4, 11)

/-- CAPSULE_RNR, group 5 of R513. -/
def cCapsuleRnr : Nat × Nat := (5, 0)

/-- REPLAY_HIT, group 5 of R513. -/
def cReplayHit : Nat × Nat := (5, 1)

/-- REPLAY_MISMATCH, group 5 of R513. -/
def cReplayMismatch : Nat × Nat := (5, 2)

/-- REPLAY_EVICT, group 5 of R513. -/
def cReplayEvict : Nat × Nat := (5, 3)

/-- CONNECT_REJECT_NONE, group 5 of R513. -/
def cConnectRejectNone : Nat × Nat := (5, 4)

/-- SHAPER_PARKS, group 6 of R513. -/
def cShaperParks : Nat × Nat := (6, 0)

/-- STAMPS_ISSUED, group 7 of R513. -/
def cStampsIssued : Nat × Nat := (7, 0)

/-- STAMP_REMOTE, group 7 of R513. -/
def cStampRemote : Nat × Nat := (7, 1)

/-- READ_WAIT, group 7 of R513. -/
def cReadWait : Nat × Nat := (7, 2)

/-- PARTIAL_WAIT, group 7 of R513. -/
def cPartialWait : Nat × Nat := (7, 3)

/-- STAMPS_RETIRED, group 7 of R513. -/
def cStampsRetired : Nat × Nat := (7, 4)

/-- TRAILER_CRC_ERR, group 7 of R513. -/
def cTrailerCrcErr : Nat × Nat := (7, 5)

/-- LOC_TAG_ERR, group 7 of R513. -/
def cLocTagErr : Nat × Nat := (7, 6)

/-- CONFIG_MISMATCH, group 7 of R513. -/
def cConfigMismatch : Nat × Nat := (7, 7)

/-- TAG_FAIL, group 7 of R513. -/
def cTagFail : Nat × Nat := (7, 8)

/-- PI_GUARD_IN, group 7 of R513. -/
def cPiGuardIn : Nat × Nat := (7, 9)

/-- PI_APP_IN, group 7 of R513. -/
def cPiAppIn : Nat × Nat := (7, 10)

/-- PI_REF_IN, group 7 of R513. -/
def cPiRefIn : Nat × Nat := (7, 11)

/-- PI_GUARD_OUT, group 7 of R513. -/
def cPiGuardOut : Nat × Nat := (7, 12)

/-- PI_APP_OUT, group 7 of R513. -/
def cPiAppOut : Nat × Nat := (7, 13)

/-- PI_REF_OUT, group 7 of R513. -/
def cPiRefOut : Nat × Nat := (7, 14)

/-- CTR_STEPS, group 7 of R513. -/
def cCtrSteps : Nat × Nat := (7, 15)

/-- KEYGEN_ACTIVATIONS, group 7 of R513. -/
def cKeygenActivations : Nat × Nat := (7, 16)

/-- KEYGEN_EXHAUSTED_WRITES, group 7 of R513. -/
def cKeygenExhaustedWrites : Nat × Nat := (7, 17)

/-- SWEEP_BLOCKS, group 7 of R513. -/
def cSweepBlocks : Nat × Nat := (7, 18)

/-- READ_CMDS, group 8 of R513. -/
def cReadCmds : Nat × Nat := (8, 0)

/-- WRITE_CMDS, group 8 of R513. -/
def cWriteCmds : Nat × Nat := (8, 1)

/-- OTHER_CMDS, group 8 of R513. -/
def cOtherCmds : Nat × Nat := (8, 2)

/-- READ_BYTES, group 8 of R513. -/
def cReadBytes : Nat × Nat := (8, 3)

/-- WRITE_BYTES, group 8 of R513. -/
def cWriteBytes : Nat × Nat := (8, 4)

/-- ERROR_CMDS, group 8 of R513. -/
def cErrorCmds : Nat × Nat := (8, 5)

/-- URE_CMDS, group 8 of R513. -/
def cUreCmds : Nat × Nat := (8, 6)

/-- LAT_0, group 8 of R513. -/
def cLat0 : Nat × Nat := (8, 7)

/-- CROSS_CMDS, group 9 of R513. -/
def cCrossCmds : Nat × Nat := (9, 0)

/-- OVL_FULL_WAIT, group 9 of R513. -/
def cOvlFullWait : Nat × Nat := (9, 1)

/-- VERSIONS_RELEASED, group 9 of R513. -/
def cVersionsReleased : Nat × Nat := (9, 2)

/-- PIN_EXPIRED, group 9 of R513. -/
def cPinExpired : Nat × Nat := (9, 3)

/-- STAMP_READ_LATE, group 9 of R513. -/
def cStampReadLate : Nat × Nat := (9, 4)

/-- FENCE_TRIPS, group 9 of R513. -/
def cFenceTrips : Nat × Nat := (9, 5)

/-- EPOCH_RAISES, group 9 of R513. -/
def cEpochRaises : Nat × Nat := (9, 6)

/-- LEASE_MOVES, group 9 of R513. -/
def cLeaseMoves : Nat × Nat := (9, 7)

/-- LEASE_ABANDON, group 9 of R513. -/
def cLeaseAbandon : Nat × Nat := (9, 8)

/-- DESTAGE_FULL (R237), group 10 of R513. -/
def cDestageFull : Nat × Nat := (10, 0)

/-- DESTAGE_RMW, group 10 of R513. -/
def cDestageRmw : Nat × Nat := (10, 1)

/-- DESTAGE_RCW, group 10 of R513. -/
def cDestageRcw : Nat × Nat := (10, 2)

/-- DESTAGE_BYTES, group 10 of R513. -/
def cDestageBytes : Nat × Nat := (10, 3)

/-- WT_UNITS, group 10 of R513. -/
def cWtUnits : Nat × Nat := (10, 4)

/-- JRNL_RECORDS, group 10 of R513. -/
def cJrnlRecords : Nat × Nat := (10, 5)

/-- JRNL_RING_WAIT, group 10 of R513. -/
def cJrnlRingWait : Nat × Nat := (10, 6)

/-- BITMAP_SETS, group 10 of R513. -/
def cBitmapSets : Nat × Nat := (10, 7)

/-- BITMAP_CLEARS, group 10 of R513. -/
def cBitmapClears : Nat × Nat := (10, 8)

/-- HOLDUP_RUNS, group 10 of R513. -/
def cHoldupRuns : Nat × Nat := (10, 9)

/-- REPLAY_STRIPES, group 10 of R513. -/
def cReplayStripes : Nat × Nat := (10, 10)

/-- RESYNC_STRIPES, group 10 of R513. -/
def cResyncStripes : Nat × Nat := (10, 11)

/-- REBUILD_STRIPES, group 10 of R513. -/
def cRebuildStripes : Nat × Nat := (10, 12)

/-- REBUILD_BYTES, group 10 of R513. -/
def cRebuildBytes : Nat × Nat := (10, 13)

/-- RESYNC_ROWS, group 10 of R513. -/
def cResyncRows : Nat × Nat := (10, 14)

/-- COPYBACK_ROWS, group 10 of R513. -/
def cCopybackRows : Nat × Nat := (10, 15)

/-- DEGRADED_STRIPES, group 10 of R513. -/
def cDegradedStripes : Nat × Nat := (10, 16)

/-- LOST_BLOCKS, group 10 of R513. -/
def cLostBlocks : Nat × Nat := (10, 17)

/-- LOST_HEALED, group 10 of R513. -/
def cLostHealed : Nat × Nat := (10, 18)

/-- RESHAPE_STRIPES, group 10 of R513. -/
def cReshapeStripes : Nat × Nat := (10, 19)

/-- RESHAPE_ABANDONED, group 10 of R513. -/
def cReshapeAbandoned : Nat × Nat := (10, 20)

/-- BADGER_BLOCKS, group 10 of R513. -/
def cBadgerBlocks : Nat × Nat := (10, 21)

/-- BADGER_REPAIRED, group 10 of R513. -/
def cBadgerRepaired : Nat × Nat := (10, 22)

/-- BADGER_CHECK_FIXED, group 10 of R513. -/
def cBadgerCheckFixed : Nat × Nat := (10, 23)

/-- LOST_LIST_FULL, group 11 of R513. -/
def cLostListFull : Nat × Nat := (11, 0)

/-- BADGER_HOT_DROP, group 11 of R513. -/
def cBadgerHotDrop : Nat × Nat := (11, 1)

/-- KEY_WAIT, group 12 of R513. -/
def cKeyWait : Nat × Nat := (12, 0)

/-- CIPHER_SUSPECT, group 12 of R513. -/
def cCipherSuspect : Nat × Nat := (12, 1)

/-- DRV_CMDS, group 13 of R513. -/
def cDrvCmds : Nat × Nat := (13, 0)

/-- DRV_BYTES_RD, group 13 of R513. -/
def cDrvBytesRd : Nat × Nat := (13, 1)

/-- DRV_BYTES_WR, group 13 of R513. -/
def cDrvBytesWr : Nat × Nat := (13, 2)

/-- CMD_TIMEOUT, group 13 of R513. -/
def cCmdTimeout : Nat × Nat := (13, 3)

/-- LATE_CPL, group 13 of R513. -/
def cLateCpl : Nat × Nat := (13, 4)

/-- MEDIA_ERR, group 13 of R513. -/
def cMediaErr : Nat × Nat := (13, 5)

/-- CORR_ERR, group 13 of R513. -/
def cCorrErr : Nat × Nat := (13, 6)

/-- ACCESS_DENIED, group 13 of R513. -/
def cAccessDenied : Nat × Nat := (13, 7)

/-- RELEASES, group 13 of R513. -/
def cReleases : Nat × Nat := (13, 8)

/-- ENUM_FAIL, group 13 of R513. -/
def cEnumFail : Nat × Nat := (13, 9)

/-- L1_ENTRIES, group 13 of R513. -/
def cL1Entries : Nat × Nat := (13, 10)

/-- CONTAIN_EVENTS, group 14 of R513. -/
def cContainEvents : Nat × Nat := (14, 0)

/-- SLOT_TRIPS, group 15 of R513. -/
def cSlotTrips : Nat × Nat := (15, 0)

/-- SLOT_START_FAULTS, group 15 of R513. -/
def cSlotStartFaults : Nat × Nat := (15, 1)

/-- SLOT_OVERCURRENT, group 15 of R513. -/
def cSlotOvercurrent : Nat × Nat := (15, 2)

/-- SLOT_RETRIES, group 15 of R513. -/
def cSlotRetries : Nat × Nat := (15, 3)

/-- SLOT_CANCELLED, group 15 of R513. -/
def cSlotCancelled : Nat × Nat := (15, 4)

/-- SLOT_LOCKOUTS, group 15 of R513. -/
def cSlotLockouts : Nat × Nat := (15, 5)

/-- FEED_LOSS, group 16 of R513. -/
def cFeedLoss : Nat × Nat := (16, 0)

/-- FEED_REVERSE, group 16 of R513. -/
def cFeedReverse : Nat × Nat := (16, 1)

/-- BOTH_FEEDS_LOST, group 17 of R513. -/
def cBothFeedsLost : Nat × Nat := (17, 0)

/-- ESTORE_TESTS, group 17 of R513. -/
def cEstoreTests : Nat × Nat := (17, 1)

/-- ESTORE_TEST_FAIL, group 17 of R513. -/
def cEstoreTestFail : Nat × Nat := (17, 2)

/-- ESTORE_DISCHARGES, group 17 of R513. -/
def cEstoreDischarges : Nat × Nat := (17, 3)

/-- LARDER_DEFICITS, group 17 of R513. -/
def cLarderDeficits : Nat × Nat := (17, 4)

/-- MARGIN_CHANGES, group 17 of R513. -/
def cMarginChanges : Nat × Nat := (17, 5)

/-- SETT_RESENT, group 18 of R513. -/
def cSettResent : Nat × Nat := (18, 0)

/-- SETT_BUNDLE_FAIL, group 19 of R513. -/
def cSettBundleFail : Nat × Nat := (19, 0)

/-- OWL_SILENCE, group 20 of R513. -/
def cOwlSilence : Nat × Nat := (20, 0)

/-- QUORUM_RUNS, group 21 of R513. -/
def cQuorumRuns : Nat × Nat := (21, 0)

/-- QUORUM_LOST, group 21 of R513. -/
def cQuorumLost : Nat × Nat := (21, 1)

/-- ADOPTED_CONNS, group 21 of R513. -/
def cAdoptedConns : Nat × Nat := (21, 2)

/-- ADOPTED_CMDS, group 21 of R513. -/
def cAdoptedCmds : Nat × Nat := (21, 3)

/-- TAKEOVER_RETIRED, group 21 of R513. -/
def cTakeoverRetired : Nat × Nat := (21, 4)

/-- SEND_HOLD, group 21 of R513. -/
def cSendHold : Nat × Nat := (21, 5)

/-- LP_CPL_DISCARDED, group 22 of R513. -/
def cLpCplDiscarded : Nat × Nat := (22, 0)

/-- LP_CQE_LOST, group 22 of R513. -/
def cLpCqeLost : Nat × Nat := (22, 1)

/-- LP_CORR_ERR, group 22 of R513. -/
def cLpCorrErr : Nat × Nat := (22, 2)

/-- LP_BAD_ACCESS, group 22 of R513. -/
def cLpBadAccess : Nat × Nat := (22, 3)

/-- LP_DOORBELL_INVALID, group 22 of R513. -/
def cLpDoorbellInvalid : Nat × Nat := (22, 4)

/-- LP_MBOX_REQS, group 22 of R513. -/
def cLpMboxReqs : Nat × Nat := (22, 5)

/-- LP_MBOX_REJECTED, group 22 of R513. -/
def cLpMboxRejected : Nat × Nat := (22, 6)

/-- LP_LTR_MSGS, group 22 of R513. -/
def cLpLtrMsgs : Nat × Nat := (22, 7)

/-- LP_FREEZE_EVENTS, group 23 of R513. -/
def cLpFreezeEvents : Nat × Nat := (23, 0)

/-- CCP_DISCARD, group 24 of R513. -/
def cCcpDiscard : Nat × Nat := (24, 0)

/-- CCP_ACCEPTED, group 24 of R513. -/
def cCcpAccepted : Nat × Nat := (24, 1)

/-- CCP_ERR_REPLY, group 24 of R513. -/
def cCcpErrReply : Nat × Nat := (24, 2)

/-- FOX_TAGGED, group 25 of R513. -/
def cFoxTagged : Nat × Nat := (25, 0)

/-- FOX_SKIPPED, group 25 of R513. -/
def cFoxSkipped : Nat × Nat := (25, 1)

/-- LOGPAGE_READS, group 25 of R513. -/
def cLogpageReads : Nat × Nat := (25, 2)

/-- LOGPAGE_REFUSED, group 25 of R513. -/
def cLogpageRefused : Nat × Nat := (25, 3)

end Sys2Proof.Machine
end

