-- ==== Sys2Proof/Machine/Objects.lean ====
section
/-! DEFINITION. The management objects that are one 64-bit word with fields software can write: their identifiers
(R502, R504), their fields with ranges and reset values, and one accessor for each field. -/
namespace Sys2Proof.Machine

/-- The object identifier of subsystem `sub`, type `ty`, number `n` (R502). -/
def oid (sub ty n : Nat) : Nat := sub * 16777216 + ty * 16384 + n

/-- Bits [hi:lo] of a word (R12). -/
def bits (w hi lo : Nat) : Nat := w / 2 ^ lo % 2 ^ (hi - lo + 1)

/-- A field of a word object: its place, its range, its reset value, and whether its access is RW (else WO, W1C or RO). -/
structure Fld where
  /-- highest bit -/
  hi : Nat
  /-- lowest bit -/
  lo : Nat
  /-- least value a write may give -/
  least : Nat
  /-- greatest value a write may give -/
  greatest : Nat
  /-- reset value -/
  resetVal : Nat
  /-- access RW -/
  rw : Bool := true
  deriving DecidableEq, Repr

/-- The fields of the word objects of a subsystem and type, reserved fields left out (the Bits, Access and Reset
columns of each object's own rule). -/
def objFields (sub ty : Nat) : List Fld :=
  match sub, ty with
  | 14, 3 => [⟨63, 63, 0, 1, 0, true⟩,
      ⟨62, 62, 0, 1, 0, true⟩,
      ⟨61, 61, 0, 1, 0, true⟩,
      ⟨60, 60, 0, 1, 1, true⟩,
      ⟨59, 59, 0, 1, 1, true⟩,
      ⟨58, 58, 0, 1, 0, true⟩,
      ⟨57, 57, 0, 1, 1, true⟩,
      ⟨55, 44, 1, 3600, 300, true⟩,
      ⟨43, 28, 0, 65535, 0, true⟩,
      ⟨27, 12, 0, 65535, 0, true⟩]
  | 14, 4 => [⟨63, 54, 1, 1000, 20, true⟩,
      ⟨53, 52, 0, 2, 2, true⟩,
      ⟨51, 42, 1, 1000, 1, true⟩,
      ⟨41, 32, 1, 1000, 100, true⟩,
      ⟨31, 16, 1, 600, 30, true⟩]
  | 1, 1 => [⟨63, 61, 0, 4, 0, true⟩,
      ⟨60, 57, 0, 15, 1, true⟩,
      ⟨56, 56, 0, 1, 1, true⟩]
  | 1, 2 => [⟨63, 59, 0, 31, 0, true⟩,
      ⟨58, 58, 0, 1, 0, true⟩,
      ⟨55, 32, 0, 16777215, 0, true⟩,
      ⟨31, 18, 1522, 9216, 9216, true⟩,
      ⟨17, 8, 1, 1000, 100, true⟩]
  | 1, 5 => [⟨63, 58, 0, 63, 0, true⟩,
      ⟨57, 51, 1, 64, 2, true⟩,
      ⟨50, 36, 0, 32767, 20000, false⟩,
      ⟨31, 16, 0, 65535, 0, false⟩]
  | 1, 6 => [⟨63, 48, 0, 65535, 0, true⟩,
      ⟨47, 47, 0, 1, 1, true⟩,
      ⟨46, 46, 0, 1, 0, true⟩,
      ⟨45, 44, 0, 1, 0, true⟩,
      ⟨43, 38, 5, 40, 25, true⟩,
      ⟨37, 31, 40, 95, 70, true⟩,
      ⟨30, 21, 10, 1000, 100, true⟩,
      ⟨20, 9, 1, 3600, 10, true⟩]
  | 2, 1 => [⟨63, 54, 4, 1000, 64, true⟩,
      ⟨53, 46, 1, 255, 4, true⟩,
      ⟨45, 32, 64, 16383, 4096, true⟩,
      ⟨31, 28, 1, 10, 4, true⟩,
      ⟨27, 22, 1, 63, 4, true⟩,
      ⟨21, 12, 1, 1000, 20, true⟩,
      ⟨11, 6, 1, 50, 10, true⟩]
  | 2, 2 => [⟨63, 54, 1, 1000, 50, true⟩,
      ⟨53, 38, 100, 60000, 1000, true⟩,
      ⟨37, 34, 1, 15, 8, true⟩,
      ⟨33, 31, 0, 7, 7, true⟩,
      ⟨30, 26, 1, 24, 10, true⟩,
      ⟨25, 16, 10, 1000, 500, true⟩,
      ⟨15, 12, 0, 14, 9, true⟩,
      ⟨11, 2, 1, 1000, 100, true⟩]
  | 3, 3 => [⟨63, 45, 0, 262143, 0, true⟩,
      ⟨44, 26, 1, 262143, 65536, true⟩,
      ⟨25, 7, 0, 524287, 0, false⟩]
  | 3, 4 => [⟨63, 54, 1, 1000, 50, true⟩,
      ⟨53, 48, 1, 63, 63, true⟩,
      ⟨47, 37, 2, 1024, 1024, true⟩,
      ⟨36, 24, 0, 8191, 0, true⟩]
  | 4, 1 => [⟨63, 54, 1, 1000, 50, true⟩,
      ⟨53, 44, 1, 1000, 20, true⟩,
      ⟨43, 26, 65536, 229376, 196608, true⟩,
      ⟨25, 25, 0, 1, 1, true⟩]
  | 5, 1 => [⟨63, 59, 4, 28, 0, true⟩,
      ⟨58, 57, 1, 3, 0, true⟩,
      ⟨56, 50, 5, 64, 0, true⟩,
      ⟨49, 48, 0, 3, 1, true⟩,
      ⟨47, 44, 0, 12, 0, true⟩,
      ⟨43, 38, 0, 63, 0, true⟩,
      ⟨37, 32, 0, 63, 0, true⟩,
      ⟨31, 26, 0, 63, 0, true⟩,
      ⟨25, 24, 0, 3, 0, false⟩]
  | 5, 5 => [⟨63, 57, 10, 95, 60, true⟩,
      ⟨56, 50, 0, 90, 20, true⟩,
      ⟨49, 40, 1, 1000, 200, true⟩,
      ⟨39, 30, 0, 1000, 100, true⟩,
      ⟨29, 18, 100, 4000, 1000, true⟩]
  | 5, 7 => [⟨63, 48, 100, 65535, 2000, true⟩,
      ⟨47, 36, 1, 3600, 300, true⟩,
      ⟨35, 26, 1, 1000, 64, true⟩,
      ⟨25, 10, 10, 65535, 1000, true⟩]
  | 5, 10 => [⟨63, 59, 4, 28, 0, true⟩,
      ⟨58, 57, 1, 3, 0, true⟩,
      ⟨56, 50, 5, 64, 0, true⟩,
      ⟨49, 48, 0, 3, 1, true⟩,
      ⟨47, 44, 0, 12, 0, true⟩,
      ⟨43, 43, 0, 1, 0, true⟩,
      ⟨42, 42, 0, 1, 0, false⟩]
  | 5, 14 => [⟨63, 55, 1, 365, 14, true⟩,
      ⟨54, 39, 10, 65535, 4000, true⟩,
      ⟨38, 38, 0, 1, 1, true⟩,
      ⟨37, 37, 0, 1, 1, true⟩]
  | 6, 1 => [⟨63, 63, 0, 1, 1, true⟩,
      ⟨62, 47, 10, 65535, 1000, true⟩]
  | 8, 1 => [⟨63, 48, 1, 65535, 1, true⟩,
      ⟨47, 28, 0, 1000000, 0, true⟩,
      ⟨27, 14, 4, 16383, 256, true⟩]
  | 8, 2 => [⟨63, 48, 1, 65535, 1, true⟩,
      ⟨47, 28, 0, 1000000, 0, true⟩,
      ⟨27, 14, 4, 16383, 256, true⟩]
  | 8, 3 => [⟨63, 48, 1, 65535, 1, true⟩,
      ⟨47, 28, 0, 1000000, 0, true⟩,
      ⟨27, 14, 4, 16383, 256, true⟩]
  | 8, 4 => [⟨63, 44, 0, 1000000, 0, true⟩,
      ⟨43, 30, 4, 16383, 256, true⟩]
  | 8, 5 => [⟨63, 44, 0, 1000000, 0, true⟩,
      ⟨43, 24, 0, 1000000, 0, true⟩,
      ⟨23, 12, 4, 4095, 1024, true⟩,
      ⟨11, 0, 1024, 4095, 2048, true⟩]
  | 8, 6 => [⟨63, 44, 0, 1000000, 0, true⟩,
      ⟨43, 24, 0, 1000000, 0, true⟩,
      ⟨23, 12, 4, 4095, 1024, true⟩,
      ⟨11, 0, 1024, 4095, 2048, true⟩]
  | 8, 7 => [⟨63, 50, 0, 16383, 64, true⟩,
      ⟨49, 40, 0, 1023, 0, true⟩,
      ⟨39, 37, 0, 7, 4, true⟩,
      ⟨36, 27, 1, 1023, 64, true⟩,
      ⟨26, 24, 0, 7, 0, true⟩,
      ⟨23, 4, 0, 1048575, 0, false⟩]
  | 8, 8 => [⟨63, 50, 0, 16383, 64, true⟩,
      ⟨49, 40, 0, 1023, 0, true⟩,
      ⟨39, 37, 0, 7, 4, true⟩,
      ⟨36, 27, 1, 1023, 64, true⟩,
      ⟨26, 24, 0, 7, 0, true⟩,
      ⟨23, 4, 0, 1048575, 0, false⟩]
  | 8, 9 => [⟨63, 44, 0, 1048575, 415368, true⟩,
      ⟨43, 24, 0, 1048575, 250256, true⟩,
      ⟨23, 4, 0, 1048575, 84512, true⟩]
  | 8, 10 => [⟨63, 62, 0, 3, 0, true⟩,
      ⟨61, 56, 0, 63, 0, true⟩,
      ⟨55, 55, 0, 1, 0, true⟩,
      ⟨54, 43, 0, 4095, 0, true⟩,
      ⟨42, 33, 1, 1000, 10, true⟩]
  | 9, 1 => [⟨63, 63, 0, 1, 0, true⟩,
      ⟨62, 58, 0, 23, 0, true⟩,
      ⟨57, 46, 0, 4094, 0, true⟩]
  | 10, 1 => [⟨63, 61, 0, 4, 4, true⟩,
      ⟨60, 60, 0, 1, 0, false⟩]
  | 10, 2 => [⟨63, 63, 0, 1, 1, true⟩,
      ⟨62, 62, 0, 1, 1, true⟩,
      ⟨61, 61, 0, 1, 1, true⟩,
      ⟨60, 45, 50, 64000, 150, true⟩,
      ⟨44, 35, 1, 1000, 100, true⟩,
      ⟨34, 24, 1, 1024, 256, true⟩,
      ⟨23, 20, 1, 15, 3, true⟩]
  | 11, 1 => [⟨63, 63, 0, 1, 1, true⟩,
      ⟨62, 59, 0, 15, 0, true⟩,
      ⟨58, 58, 0, 1, 0, true⟩,
      ⟨57, 51, 1, 75, 20, true⟩,
      ⟨50, 44, 1, 100, 20, true⟩,
      ⟨43, 37, 4, 100, 60, true⟩,
      ⟨36, 30, 1, 100, 20, true⟩,
      ⟨29, 27, 0, 7, 3, true⟩,
      ⟨26, 11, 100, 60000, 2000, true⟩,
      ⟨10, 1, 1, 1000, 50, true⟩]
  | 11, 8 => [⟨63, 57, 10, 120, 40, true⟩,
      ⟨56, 49, 5, 255, 20, true⟩,
      ⟨48, 37, 4, 4095, 100, true⟩,
      ⟨36, 33, 2, 15, 4, true⟩,
      ⟨32, 32, 0, 1, 1, true⟩,
      ⟨31, 31, 0, 1, 1, true⟩,
      ⟨30, 30, 0, 1, 1, true⟩]
  | 12, 1 => [⟨63, 48, 0, 65535, 7548, true⟩,
      ⟨47, 32, 0, 65535, 38500, true⟩,
      ⟨31, 31, 0, 1, 1, true⟩,
      ⟨30, 30, 0, 1, 1, true⟩,
      ⟨29, 20, 1, 1000, 8, true⟩,
      ⟨19, 6, 1, 16383, 1000, true⟩]
  | 14, 5 => [⟨63, 62, 0, 2, 1, true⟩,
      ⟨61, 55, 8, 119, 29, true⟩,
      ⟨54, 43, 0, 4094, 0, true⟩,
      ⟨42, 27, 1024, 65535, 9664, true⟩,
      ⟨26, 15, 10, 3600, 300, true⟩,
      ⟨14, 14, 0, 1, 1, true⟩]
  | 13, 3 => [⟨63, 63, 0, 1, 0, true⟩,
      ⟨62, 62, 0, 1, 0, true⟩,
      ⟨61, 50, 0, 4095, 0, true⟩,
      ⟨49, 48, 0, 2, 0, true⟩,
      ⟨47, 28, 1, 1048575, 4096, true⟩,
      ⟨27, 8, 0, 1048575, 0, false⟩,
      ⟨7, 0, 0, 255, 0, false⟩]
  | 13, 5 => [⟨63, 63, 0, 1, 0, true⟩,
      ⟨62, 62, 0, 1, 0, true⟩]
  | _, _ => []

/-- How many instances a word object with writable fields has, 0 for a type that is no such object (R504). -/
def wordCount (sub ty : Nat) : Nat :=
  match sub, ty with
  | 14, 3 => 1
  | 14, 4 => 1
  | 1, 1 => 4
  | 1, 2 => 16
  | 1, 5 => 16
  | 1, 6 => 8
  | 2, 1 => 8
  | 2, 2 => 1
  | 3, 3 => 4096
  | 3, 4 => 1
  | 4, 1 => 1
  | 5, 1 => 8
  | 5, 5 => 1
  | 5, 7 => 1
  | 5, 10 => 8
  | 5, 14 => 1
  | 6, 1 => 1
  | 8, 1 => 4096
  | 8, 2 => 4096
  | 8, 3 => 4096
  | 8, 4 => 8
  | 8, 5 => 4096
  | 8, 6 => 4096
  | 8, 7 => 128
  | 8, 8 => 128
  | 8, 9 => 8
  | 8, 10 => 1
  | 9, 1 => 1
  | 10, 1 => 16
  | 10, 2 => 64
  | 11, 1 => 64
  | 11, 8 => 1
  | 12, 1 => 1
  | 14, 5 => 1
  | 13, 3 => 1
  | 13, 5 => 4096
  | 5, 2 => 8
  | 5, 11 => 8
  | 9, 2 => 1
  | _, _ => 0

/-- The reset value of a word object from its fields alone. -/
def fieldsReset (fs : List Fld) : Nat := fs.foldl (fun a f => a + f.resetVal * 2 ^ f.lo) 0

/-- The reset value of a word object. GATE_PORT_n.BASE is 2 × (n mod 4) (R88); MIN_KIB of BUF_RX_n and BUF_TX_n is 16
for class 7 and 64 for every other class (R361). -/
def objReset (id : Nat) : Nat :=
  let sub := id / 16777216
  let ty := id / 16384 % 1024
  let n := id % 16384
  let base := fieldsReset (objFields sub ty)
  if sub = 1 ∧ ty = 5 then base + 2 * (n % 4) * 2 ^ 58
  else if sub = 8 ∧ (ty = 7 ∨ ty = 8) ∧ n % 8 = 7 then base - 48 * 2 ^ 50
  else base

/-- The word a RW object holds: as last written, or its reset value (R15). DEN_CFG is held in the Den domain (R67). -/
def State.word (s : State) (id : Nat) : Nat :=
  if id = oid 14 3 0 then s.den.denCfg
  else match tfind s.regs id with
    | some v => v.toNat
    | none => objReset id

/-- Give a RW word object the value `v`. -/
def State.setWord (id v : Nat) (s : State) : State :=
  if id = oid 14 3 0 then s.updDen fun d => { d with denCfg := v % 2 ^ 64 }
  else s.updRegs fun r => tset (BitVec.ofNat 64 (objReset id)) r id (BitVec.ofNat 64 v)

/-- A field of a RW word object. -/
def State.fld (s : State) (id hi lo : Nat) : Nat := bits (s.word id) hi lo

/-- The word `w` with bits [hi:lo] replaced by `v`. -/
def setBits (w hi lo v : Nat) : Nat :=
  w - bits w hi lo * 2 ^ lo + (v % 2 ^ (hi - lo + 1)) * 2 ^ lo

/-- DenCfg.DEN_EN (R67). -/
def State.denCfgDenEn (s : State) : Nat := s.fld (oid 14 3 0) 63 63

/-- DenCfg.DRIVE_OFF (R67). -/
def State.denCfgDriveOff (s : State) : Nat := s.fld (oid 14 3 0) 62 62

/-- DenCfg.WAKE_ANY_UNICAST (R67). -/
def State.denCfgWakeAnyUnicast (s : State) : Nat := s.fld (oid 14 3 0) 61 61

/-- DenCfg.WAKE_MGMT (R67). -/
def State.denCfgWakeMgmt (s : State) : Nat := s.fld (oid 14 3 0) 60 60

/-- DenCfg.WAKE_LOCAL (R67). -/
def State.denCfgWakeLocal (s : State) : Nat := s.fld (oid 14 3 0) 59 59

/-- DenCfg.WAKE_SLOT (R67). -/
def State.denCfgWakeSlot (s : State) : Nat := s.fld (oid 14 3 0) 58 58

/-- DenCfg.WAKE_ESTORE (R67). -/
def State.denCfgWakeEstore (s : State) : Nat := s.fld (oid 14 3 0) 57 57

/-- DenCfg.DEN_IDLE_S (R67). -/
def State.denCfgDenIdleS (s : State) : Nat := s.fld (oid 14 3 0) 55 44

/-- DenCfg.WAKE_TIMER_MIN (R67). -/
def State.denCfgWakeTimerMin (s : State) : Nat := s.fld (oid 14 3 0) 43 28

/-- DenCfg.WAKE_CODE (R67). -/
def State.denCfgWakeCode (s : State) : Nat := s.fld (oid 14 3 0) 27 12

/-- PowerCfg.ISLAND_IDLE_US (R68). -/
def State.powerCfgIslandIdleUs (s : State) : Nat := s.fld (oid 14 4 0) 63 54

/-- PowerCfg.PS_FLOOR (R68). -/
def State.powerCfgPsFloor (s : State) : Nat := s.fld (oid 14 4 0) 53 52

/-- PowerCfg.IDLE_L2_MS (R68). -/
def State.powerCfgIdleL2Ms (s : State) : Nat := s.fld (oid 14 4 0) 51 42

/-- PowerCfg.IDLE_L3_MS (R68). -/
def State.powerCfgIdleL3Ms (s : State) : Nat := s.fld (oid 14 4 0) 41 32

/-- PowerCfg.PAIR_WAIT_S (R68). -/
def State.powerCfgPairWaitS (s : State) : Nat := s.fld (oid 14 4 0) 31 16

/-- CageCfg.BREAKOUT (R72). -/
def State.cageCfgBreakout (s : State) (n : Nat) : Nat := s.fld (oid 1 1 n) 63 61

/-- CageCfg.PORT_EN (R72). -/
def State.cageCfgPortEn (s : State) (n : Nat) : Nat := s.fld (oid 1 1 n) 60 57

/-- CageCfg.AN_EN (R72). -/
def State.cageCfgAnEn (s : State) (n : Nat) : Nat := s.fld (oid 1 1 n) 56 56

/-- PortClassCfg.LOSSLESS_TC (R81). -/
def State.portClassCfgLosslessTc (s : State) (n : Nat) : Nat := s.fld (oid 1 2 n) 63 59

/-- PortClassCfg.TRUST (R81). -/
def State.portClassCfgTrust (s : State) (n : Nat) : Nat := s.fld (oid 1 2 n) 58 58

/-- PortClassCfg.PCP_MAP (R81). -/
def State.portClassCfgPcpMap (s : State) (n : Nat) : Nat := s.fld (oid 1 2 n) 55 32

/-- PortClassCfg.MAX_FRAME (R81). -/
def State.portClassCfgMaxFrame (s : State) (n : Nat) : Nat := s.fld (oid 1 2 n) 31 18

/-- PortClassCfg.PFC_WD_MS (R81). -/
def State.portClassCfgPfcWdMs (s : State) (n : Nat) : Nat := s.fld (oid 1 2 n) 17 8

/-- GatePort.BASE (R88). -/
def State.gatePortBase (s : State) (n : Nat) : Nat := s.fld (oid 1 5 n) 63 58

/-- GatePort.COUNT (R88). -/
def State.gatePortCount (s : State) (n : Nat) : Nat := s.fld (oid 1 5 n) 57 51

/-- LagCfg.MEMBERS (R102). -/
def State.lagCfgMembers (s : State) (n : Nat) : Nat := s.fld (oid 1 6 n) 63 48

/-- LagCfg.LACP_FAST (R102). -/
def State.lagCfgLacpFast (s : State) (n : Nat) : Nat := s.fld (oid 1 6 n) 47 47

/-- LagCfg.STEP_EN (R102). -/
def State.lagCfgStepEn (s : State) (n : Nat) : Nat := s.fld (oid 1 6 n) 46 46

/-- LagCfg.STEP_FLOOR (R102). -/
def State.lagCfgStepFloor (s : State) (n : Nat) : Nat := s.fld (oid 1 6 n) 45 44

/-- LagCfg.DOWN_PCT (R102). -/
def State.lagCfgDownPct (s : State) (n : Nat) : Nat := s.fld (oid 1 6 n) 43 38

/-- LagCfg.UP_PCT (R102). -/
def State.lagCfgUpPct (s : State) (n : Nat) : Nat := s.fld (oid 1 6 n) 37 31

/-- LagCfg.STEP_WIN_MS (R102). -/
def State.lagCfgStepWinMs (s : State) (n : Nat) : Nat := s.fld (oid 1 6 n) 30 21

/-- LagCfg.STEP_DWELL_S (R102). -/
def State.lagCfgStepDwellS (s : State) (n : Nat) : Nat := s.fld (oid 1 6 n) 20 9

/-- CcProfile.CWND_INIT (R134). -/
def State.ccProfileCwndInit (s : State) (n : Nat) : Nat := s.fld (oid 2 1 n) 63 54

/-- CcProfile.CWND_MIN (R134). -/
def State.ccProfileCwndMin (s : State) (n : Nat) : Nat := s.fld (oid 2 1 n) 53 46

/-- CcProfile.CWND_MAX (R134). -/
def State.ccProfileCwndMax (s : State) (n : Nat) : Nat := s.fld (oid 2 1 n) 45 32

/-- CcProfile.G_SHIFT (R134). -/
def State.ccProfileGShift (s : State) (n : Nat) : Nat := s.fld (oid 2 1 n) 31 28

/-- CcProfile.AI (R134). -/
def State.ccProfileAi (s : State) (n : Nat) : Nat := s.fld (oid 2 1 n) 27 22

/-- CcProfile.RTT_TARGET (R134). -/
def State.ccProfileRttTarget (s : State) (n : Nat) : Nat := s.fld (oid 2 1 n) 21 12

/-- CcProfile.BETA (R134). -/
def State.ccProfileBeta (s : State) (n : Nat) : Nat := s.fld (oid 2 1 n) 11 6

/-- TransportCfg.CNP_INTERVAL_US (R140). -/
def State.transportCfgCnpIntervalUs (s : State) : Nat := s.fld (oid 2 2 0) 63 54

/-- TransportCfg.TCP_MIN_RTO_US (R140). -/
def State.transportCfgTcpMinRtoUs (s : State) : Nat := s.fld (oid 2 2 0) 53 38

/-- TransportCfg.TCP_RETRIES (R140). -/
def State.transportCfgTcpRetries (s : State) : Nat := s.fld (oid 2 2 0) 37 34

/-- TransportCfg.ROCE_RETRY (R140). -/
def State.transportCfgRoceRetry (s : State) : Nat := s.fld (oid 2 2 0) 33 31

/-- TransportCfg.ROCE_ACK_TO (R140). -/
def State.transportCfgRoceAckTo (s : State) : Nat := s.fld (oid 2 2 0) 30 26

/-- TransportCfg.PUSH_HOLD_US (R140). -/
def State.transportCfgPushHoldUs (s : State) : Nat := s.fld (oid 2 2 0) 25 16

/-- TransportCfg.TCP_WSCALE (R140). -/
def State.transportCfgTcpWscale (s : State) : Nat := s.fld (oid 2 2 0) 15 12

/-- TransportCfg.QUAR_MS (R140). -/
def State.transportCfgQuarMs (s : State) : Nat := s.fld (oid 2 2 0) 11 2

/-- TenantSlots.SLOT_MIN (R151). -/
def State.tenantSlotsSlotMin (s : State) (n : Nat) : Nat := s.fld (oid 3 3 n) 63 45

/-- TenantSlots.SLOT_MAX (R151). -/
def State.tenantSlotsSlotMax (s : State) (n : Nat) : Nat := s.fld (oid 3 3 n) 44 26

/-- CmdCfg.REPLAY_MS (R169). -/
def State.cmdCfgReplayMs (s : State) : Nat := s.fld (oid 3 4 0) 63 54

/-- CmdCfg.IOQ_MAX (R169). -/
def State.cmdCfgIoqMax (s : State) : Nat := s.fld (oid 3 4 0) 53 48

/-- CmdCfg.SQ_MAX (R169). -/
def State.cmdCfgSqMax (s : State) : Nat := s.fld (oid 3 4 0) 47 37

/-- CmdCfg.LOCAL_HOST_ID (R169). -/
def State.cmdCfgLocalHostId (s : State) : Nat := s.fld (oid 3 4 0) 36 24

/-- ConsCfg.READ_PIN_MS (R198). -/
def State.consCfgReadPinMs (s : State) : Nat := s.fld (oid 4 1 0) 63 54

/-- ConsCfg.LEASE_MOVE_MS (R198). -/
def State.consCfgLeaseMoveMs (s : State) : Nat := s.fld (oid 4 1 0) 53 44

/-- ConsCfg.REGION_MAX (R198). -/
def State.consCfgRegionMax (s : State) : Nat := s.fld (oid 4 1 0) 43 26

/-- ConsCfg.AUTO_BALANCE (R198). -/
def State.consCfgAutoBalance (s : State) : Nat := s.fld (oid 4 1 0) 25 25

/-- PoolCfg.K (R203). -/
def State.poolCfgK (s : State) (n : Nat) : Nat := s.fld (oid 5 1 n) 63 59

/-- PoolCfg.M (R203). -/
def State.poolCfgM (s : State) (n : Nat) : Nat := s.fld (oid 5 1 n) 58 57

/-- PoolCfg.WIDTH (R203). -/
def State.poolCfgWidth (s : State) (n : Nat) : Nat := s.fld (oid 5 1 n) 56 50

/-- PoolCfg.SPARE_MIN (R203). -/
def State.poolCfgSpareMin (s : State) (n : Nat) : Nat := s.fld (oid 5 1 n) 49 48

/-- PoolCfg.PERM_LOG2 (R203). -/
def State.poolCfgPermLog2 (s : State) (n : Nat) : Nat := s.fld (oid 5 1 n) 47 44

/-- PoolCfg.JRNL_A (R203). -/
def State.poolCfgJrnlA (s : State) (n : Nat) : Nat := s.fld (oid 5 1 n) 43 38

/-- PoolCfg.JRNL_B (R203). -/
def State.poolCfgJrnlB (s : State) (n : Nat) : Nat := s.fld (oid 5 1 n) 37 32

/-- PoolCfg.JRNL_C (R203). -/
def State.poolCfgJrnlC (s : State) (n : Nat) : Nat := s.fld (oid 5 1 n) 31 26

/-- LayoutCfg.DESTAGE_HI_PCT (R235). -/
def State.layoutCfgDestageHiPct (s : State) : Nat := s.fld (oid 5 5 0) 63 57

/-- LayoutCfg.DESTAGE_LO_PCT (R235). -/
def State.layoutCfgDestageLoPct (s : State) : Nat := s.fld (oid 5 5 0) 56 50

/-- LayoutCfg.DESTAGE_AGE_MS (R235). -/
def State.layoutCfgDestageAgeMs (s : State) : Nat := s.fld (oid 5 5 0) 49 40

/-- LayoutCfg.COALESCE_US (R235). -/
def State.layoutCfgCoalesceUs (s : State) : Nat := s.fld (oid 5 5 0) 39 30

/-- LayoutCfg.BITMAP_CLEAN_MS (R235). -/
def State.layoutCfgBitmapCleanMs (s : State) : Nat := s.fld (oid 5 5 0) 29 18

/-- RebuildCfg.RATE_MBPS (R266). -/
def State.rebuildCfgRateMbps (s : State) : Nat := s.fld (oid 5 7 0) 63 48

/-- RebuildCfg.MISSING_WAIT_S (R266). -/
def State.rebuildCfgMissingWaitS (s : State) : Nat := s.fld (oid 5 7 0) 47 36

/-- RebuildCfg.MEDIA_ERR_MAX (R266). -/
def State.rebuildCfgMediaErrMax (s : State) : Nat := s.fld (oid 5 7 0) 35 26

/-- RebuildCfg.RESHAPE_MBPS (R266). -/
def State.rebuildCfgReshapeMbps (s : State) : Nat := s.fld (oid 5 7 0) 25 10

/-- ReshapeCfg.K (R268). -/
def State.reshapeCfgK (s : State) (n : Nat) : Nat := s.fld (oid 5 10 n) 63 59

/-- ReshapeCfg.M (R268). -/
def State.reshapeCfgM (s : State) (n : Nat) : Nat := s.fld (oid 5 10 n) 58 57

/-- ReshapeCfg.WIDTH (R268). -/
def State.reshapeCfgWidth (s : State) (n : Nat) : Nat := s.fld (oid 5 10 n) 56 50

/-- ReshapeCfg.SPARE_MIN (R268). -/
def State.reshapeCfgSpareMin (s : State) (n : Nat) : Nat := s.fld (oid 5 10 n) 49 48

/-- ReshapeCfg.PERM_LOG2 (R268). -/
def State.reshapeCfgPermLog2 (s : State) (n : Nat) : Nat := s.fld (oid 5 10 n) 47 44

/-- ReshapeCfg.PAUSE (R268). -/
def State.reshapeCfgPause (s : State) (n : Nat) : Nat := s.fld (oid 5 10 n) 43 43

/-- BadgerCfg.PASS_DAYS (R270). -/
def State.badgerCfgPassDays (s : State) : Nat := s.fld (oid 5 14 0) 63 55

/-- BadgerCfg.MAX_MBPS (R270). -/
def State.badgerCfgMaxMbps (s : State) : Nat := s.fld (oid 5 14 0) 54 39

/-- BadgerCfg.TAG_CHECK (R270). -/
def State.badgerCfgTagCheck (s : State) : Nat := s.fld (oid 5 14 0) 38 38

/-- BadgerCfg.BADGER_EN (R270). -/
def State.badgerCfgBadgerEn (s : State) : Nat := s.fld (oid 5 14 0) 37 37

/-- CipherCfg.AUTO_ROTATE (R300). -/
def State.cipherCfgAutoRotate (s : State) : Nat := s.fld (oid 6 1 0) 63 63

/-- CipherCfg.REKEY_MBPS (R300). -/
def State.cipherCfgRekeyMbps (s : State) : Nat := s.fld (oid 6 1 0) 62 47

/-- EgTenant.WEIGHT (R358). -/
def State.egTenantWeight (s : State) (n : Nat) : Nat := s.fld (oid 8 1 n) 63 48

/-- EgTenant.RATE_MBPS (R358). -/
def State.egTenantRateMbps (s : State) (n : Nat) : Nat := s.fld (oid 8 1 n) 47 28

/-- EgTenant.BURST_KIB (R358). -/
def State.egTenantBurstKib (s : State) (n : Nat) : Nat := s.fld (oid 8 1 n) 27 14

/-- DdTenant.WEIGHT (R358). -/
def State.ddTenantWeight (s : State) (n : Nat) : Nat := s.fld (oid 8 2 n) 63 48

/-- DdTenant.RATE_MBPS (R358). -/
def State.ddTenantRateMbps (s : State) (n : Nat) : Nat := s.fld (oid 8 2 n) 47 28

/-- DdTenant.BURST_KIB (R358). -/
def State.ddTenantBurstKib (s : State) (n : Nat) : Nat := s.fld (oid 8 2 n) 27 14

/-- BgTenant.WEIGHT (R358). -/
def State.bgTenantWeight (s : State) (n : Nat) : Nat := s.fld (oid 8 3 n) 63 48

/-- BgTenant.RATE_MBPS (R358). -/
def State.bgTenantRateMbps (s : State) (n : Nat) : Nat := s.fld (oid 8 3 n) 47 28

/-- BgTenant.BURST_KIB (R358). -/
def State.bgTenantBurstKib (s : State) (n : Nat) : Nat := s.fld (oid 8 3 n) 27 14

/-- StrictShape.RATE_MBPS (R359). -/
def State.strictShapeRateMbps (s : State) (n : Nat) : Nat := s.fld (oid 8 4 n) 63 44

/-- StrictShape.BURST_KIB (R359). -/
def State.strictShapeBurstKib (s : State) (n : Nat) : Nat := s.fld (oid 8 4 n) 43 30

/-- MeterTenant.CIR_MBPS (R360). -/
def State.meterTenantCirMbps (s : State) (n : Nat) : Nat := s.fld (oid 8 5 n) 63 44

/-- MeterTenant.PIR_MBPS (R360). -/
def State.meterTenantPirMbps (s : State) (n : Nat) : Nat := s.fld (oid 8 5 n) 43 24

/-- MeterTenant.CBS_KIB (R360). -/
def State.meterTenantCbsKib (s : State) (n : Nat) : Nat := s.fld (oid 8 5 n) 23 12

/-- MeterTenant.PBS_KIB (R360). -/
def State.meterTenantPbsKib (s : State) (n : Nat) : Nat := s.fld (oid 8 5 n) 11 0

/-- ConnMeter.CIR_MBPS (R360). -/
def State.connMeterCirMbps (s : State) (n : Nat) : Nat := s.fld (oid 8 6 n) 63 44

/-- ConnMeter.PIR_MBPS (R360). -/
def State.connMeterPirMbps (s : State) (n : Nat) : Nat := s.fld (oid 8 6 n) 43 24

/-- ConnMeter.CBS_KIB (R360). -/
def State.connMeterCbsKib (s : State) (n : Nat) : Nat := s.fld (oid 8 6 n) 23 12

/-- ConnMeter.PBS_KIB (R360). -/
def State.connMeterPbsKib (s : State) (n : Nat) : Nat := s.fld (oid 8 6 n) 11 0

/-- BufRx.MIN_KIB (R361). -/
def State.bufRxMinKib (s : State) (n : Nat) : Nat := s.fld (oid 8 7 n) 63 50

/-- BufRx.HEADROOM_KIB (R361). -/
def State.bufRxHeadroomKib (s : State) (n : Nat) : Nat := s.fld (oid 8 7 n) 49 40

/-- BufRx.ALPHA (R361). -/
def State.bufRxAlpha (s : State) (n : Nat) : Nat := s.fld (oid 8 7 n) 39 37

/-- BufRx.XON_DELTA_KIB (R361). -/
def State.bufRxXonDeltaKib (s : State) (n : Nat) : Nat := s.fld (oid 8 7 n) 36 27

/-- BufRx.WRED_PROF (R361). -/
def State.bufRxWredProf (s : State) (n : Nat) : Nat := s.fld (oid 8 7 n) 26 24

/-- BufTx.MIN_KIB (R361). -/
def State.bufTxMinKib (s : State) (n : Nat) : Nat := s.fld (oid 8 8 n) 63 50

/-- BufTx.HEADROOM_KIB (R361). -/
def State.bufTxHeadroomKib (s : State) (n : Nat) : Nat := s.fld (oid 8 8 n) 49 40

/-- BufTx.ALPHA (R361). -/
def State.bufTxAlpha (s : State) (n : Nat) : Nat := s.fld (oid 8 8 n) 39 37

/-- BufTx.XON_DELTA_KIB (R361). -/
def State.bufTxXonDeltaKib (s : State) (n : Nat) : Nat := s.fld (oid 8 8 n) 36 27

/-- BufTx.WRED_PROF (R361). -/
def State.bufTxWredProf (s : State) (n : Nat) : Nat := s.fld (oid 8 8 n) 26 24

/-- WredProf.GREEN (R362). -/
def State.wredProfGreen (s : State) (n : Nat) : Nat := s.fld (oid 8 9 n) 63 44

/-- WredProf.YELLOW (R362). -/
def State.wredProfYellow (s : State) (n : Nat) : Nat := s.fld (oid 8 9 n) 43 24

/-- WredProf.RED (R362). -/
def State.wredProfRed (s : State) (n : Nat) : Nat := s.fld (oid 8 9 n) 23 4

/-- QueueSampleSel.POINT (R363). -/
def State.queueSampleSelPoint (s : State) : Nat := s.fld (oid 8 10 0) 63 62

/-- QueueSampleSel.INSTANCE (R363). -/
def State.queueSampleSelInstance (s : State) : Nat := s.fld (oid 8 10 0) 61 56

/-- QueueSampleSel.STRICT (R363). -/
def State.queueSampleSelStrict (s : State) : Nat := s.fld (oid 8 10 0) 55 55

/-- QueueSampleSel.QUEUE (R363). -/
def State.queueSampleSelQueue (s : State) : Nat := s.fld (oid 8 10 0) 54 43

/-- QueueSampleSel.DEPTH_SAMPLE_US (R363). -/
def State.queueSampleSelDepthSampleUs (s : State) : Nat := s.fld (oid 8 10 0) 42 33

/-- PairCfg.PAIR_EN (R398). -/
def State.pairCfgPairEn (s : State) : Nat := s.fld (oid 9 1 0) 63 63

/-- PairCfg.OWL_SEL (R398). -/
def State.pairCfgOwlSel (s : State) : Nat := s.fld (oid 9 1 0) 62 58

/-- PairCfg.PAIR_VID (R398). -/
def State.pairCfgPairVid (s : State) : Nat := s.fld (oid 9 1 0) 57 46

/-- LaneGrp.BIFUR (R403). -/
def State.laneGrpBifur (s : State) (n : Nat) : Nat := s.fld (oid 10 1 n) 63 61

/-- DrivePortCfg.PORT_EN (R422). -/
def State.drivePortCfgPortEn (s : State) (n : Nat) : Nat := s.fld (oid 10 2 n) 63 63

/-- DrivePortCfg.AUTO_RELEASE (R422). -/
def State.drivePortCfgAutoRelease (s : State) (n : Nat) : Nat := s.fld (oid 10 2 n) 62 62

/-- DrivePortCfg.ASPM_L1 (R422). -/
def State.drivePortCfgAspmL1 (s : State) (n : Nat) : Nat := s.fld (oid 10 2 n) 61 61

/-- DrivePortCfg.CMD_TO_US (R422). -/
def State.drivePortCfgCmdToUs (s : State) (n : Nat) : Nat := s.fld (oid 10 2 n) 60 45

/-- DrivePortCfg.STALL_MS (R422). -/
def State.drivePortCfgStallMs (s : State) (n : Nat) : Nat := s.fld (oid 10 2 n) 44 35

/-- DrivePortCfg.QUAR_MAX (R422). -/
def State.drivePortCfgQuarMax (s : State) (n : Nat) : Nat := s.fld (oid 10 2 n) 34 24

/-- DrivePortCfg.RELEASE_MAX (R422). -/
def State.drivePortCfgReleaseMax (s : State) (n : Nat) : Nat := s.fld (oid 10 2 n) 23 20

/-- SlotPwrCfg.SLOT_EN (R451). -/
def State.slotPwrCfgSlotEn (s : State) (n : Nat) : Nat := s.fld (oid 11 1 n) 63 63

/-- SlotPwrCfg.CLASS (R451). -/
def State.slotPwrCfgClass (s : State) (n : Nat) : Nat := s.fld (oid 11 1 n) 62 59

/-- SlotPwrCfg.KZ74 (R451). -/
def State.slotPwrCfgKz74 (s : State) (n : Nat) : Nat := s.fld (oid 11 1 n) 58 58

/-- SlotPwrCfg.I_INRUSH (R451). -/
def State.slotPwrCfgIInrush (s : State) (n : Nat) : Nat := s.fld (oid 11 1 n) 57 51

/-- SlotPwrCfg.P_FET (R451). -/
def State.slotPwrCfgPFet (s : State) (n : Nat) : Nat := s.fld (oid 11 1 n) 50 44

/-- SlotPwrCfg.TRIP_A (R451). -/
def State.slotPwrCfgTripA (s : State) (n : Nat) : Nat := s.fld (oid 11 1 n) 43 37

/-- SlotPwrCfg.FAULT_MS (R451). -/
def State.slotPwrCfgFaultMs (s : State) (n : Nat) : Nat := s.fld (oid 11 1 n) 36 30

/-- SlotPwrCfg.RETRY_MAX (R451). -/
def State.slotPwrCfgRetryMax (s : State) (n : Nat) : Nat := s.fld (oid 11 1 n) 29 27

/-- SlotPwrCfg.COOL_MS (R451). -/
def State.slotPwrCfgCoolMs (s : State) (n : Nat) : Nat := s.fld (oid 11 1 n) 26 11

/-- SlotPwrCfg.SEAT_MS (R451). -/
def State.slotPwrCfgSeatMs (s : State) (n : Nat) : Nat := s.fld (oid 11 1 n) 10 1

/-- MarginCfg.CPM_TARGET_PS (R458). -/
def State.marginCfgCpmTargetPs (s : State) : Nat := s.fld (oid 11 8 0) 63 57

/-- MarginCfg.EYE_MIN_MV (R458). -/
def State.marginCfgEyeMinMv (s : State) : Nat := s.fld (oid 11 8 0) 56 49

/-- MarginCfg.HBM_CE_HI (R458). -/
def State.marginCfgHbmCeHi (s : State) : Nat := s.fld (oid 11 8 0) 48 37

/-- MarginCfg.SLOW_X (R458). -/
def State.marginCfgSlowX (s : State) : Nat := s.fld (oid 11 8 0) 36 33

/-- MarginCfg.AUTO_RATE (R458). -/
def State.marginCfgAutoRate (s : State) : Nat := s.fld (oid 11 8 0) 32 32

/-- MarginCfg.AUTO_SCRUB (R458). -/
def State.marginCfgAutoScrub (s : State) : Nat := s.fld (oid 11 8 0) 31 31

/-- MarginCfg.AUTO_REBUILD (R458). -/
def State.marginCfgAutoRebuild (s : State) : Nat := s.fld (oid 11 8 0) 30 30

/-- LocalPortCfg.SSVID (R475). -/
def State.localPortCfgSsvid (s : State) : Nat := s.fld (oid 12 1 0) 63 48

/-- LocalPortCfg.SSID (R475). -/
def State.localPortCfgSsid (s : State) : Nat := s.fld (oid 12 1 0) 47 32

/-- LocalPortCfg.RO_DATA (R475). -/
def State.localPortCfgRoData (s : State) : Nat := s.fld (oid 12 1 0) 31 31

/-- LocalPortCfg.AUTO_RELEASE (R475). -/
def State.localPortCfgAutoRelease (s : State) : Nat := s.fld (oid 12 1 0) 30 30

/-- LocalPortCfg.LTR_ACTIVE_US (R475). -/
def State.localPortCfgLtrActiveUs (s : State) : Nat := s.fld (oid 12 1 0) 29 20

/-- LocalPortCfg.LTR_IDLE_US (R475). -/
def State.localPortCfgLtrIdleUs (s : State) : Nat := s.fld (oid 12 1 0) 19 6

/-- CcpCfg.MGMT_BUS (R507). -/
def State.ccpCfgMgmtBus (s : State) : Nat := s.fld (oid 14 5 0) 63 62

/-- CcpCfg.SMBUS_ADDR (R507). -/
def State.ccpCfgSmbusAddr (s : State) : Nat := s.fld (oid 14 5 0) 61 55

/-- CcpCfg.MGMT_VID (R507). -/
def State.ccpCfgMgmtVid (s : State) : Nat := s.fld (oid 14 5 0) 54 43

/-- CcpCfg.CCP_UDP_PORT (R507). -/
def State.ccpCfgCcpUdpPort (s : State) : Nat := s.fld (oid 14 5 0) 42 27

/-- CcpCfg.SESSION_IDLE_S (R507). -/
def State.ccpCfgSessionIdleS (s : State) : Nat := s.fld (oid 14 5 0) 26 15

/-- CcpCfg.MBOX_EN (R507). -/
def State.ccpCfgMboxEn (s : State) : Nat := s.fld (oid 14 5 0) 14 14

/-- FoxCfg.FOX_EN (R522). -/
def State.foxCfgFoxEn (s : State) : Nat := s.fld (oid 13 3 0) 63 63

/-- FoxCfg.TENANT_FILT_EN (R522). -/
def State.foxCfgTenantFiltEn (s : State) : Nat := s.fld (oid 13 3 0) 62 62

/-- FoxCfg.TENANT (R522). -/
def State.foxCfgTenant (s : State) : Nat := s.fld (oid 13 3 0) 61 50

/-- FoxCfg.KIND (R522). -/
def State.foxCfgKind (s : State) : Nat := s.fld (oid 13 3 0) 49 48

/-- FoxCfg.RATE_N (R522). -/
def State.foxCfgRateN (s : State) : Nat := s.fld (oid 13 3 0) 47 28

/-- Delegation.NS_INTEG (R524). -/
def State.delegationNsInteg (s : State) (n : Nat) : Nat := s.fld (oid 13 5 n) 63 63

/-- Delegation.NS_IO (R524). -/
def State.delegationNsIo (s : State) (n : Nat) : Nat := s.fld (oid 13 5 n) 62 62

end Sys2Proof.Machine
end

