-- ==== Sys2Proof/Machine/Ops.lean ====
section
/-! DEFINITION. The operations that many commands share: outcomes, time, outputs, free values, events, single faults,
the larder limit, changes of mode, entry into Lockdown, and reset. -/
namespace Sys2Proof.Machine

/-- The outcome of a command. -/
abbrev Res := Host.Outcome State Fault Refusal

/-- The next state `t` where the command names units the hardware has; a fault where it does not (R20, log 8). -/
def bounded (ok : Bool) (t : State) : Res := if ok then .next t else .fault .noSuchUnit

/-- Apply `f` where `b` holds. -/
def State.when (b : Bool) (f : State → State) (s : State) : State := if b then f s else s

/-! ### Time (R544) -/

/-- The controller time base, ns. -/
def State.now (s : State) : Nat := s.den.timeNs

/-- The controller time base in µs. -/
def State.nowUs (s : State) : Nat := s.den.timeNs / 1000

/-- Nanoseconds in a number of µs. -/
def us (n : Nat) : Nat := n * 1000

/-- Nanoseconds in a number of ms. -/
def ms (n : Nat) : Nat := n * 1000000

/-- Nanoseconds in a number of s. -/
def sec (n : Nat) : Nat := n * 1000000000

/-! ### Outputs and free values -/

/-- Send something to the outside: its kind, numbers and bytes. -/
def State.send (k : OutKind) (args : List Nat) (data : Bytes) (s : State) : State :=
  s.updSent fun l => { kind := k, args := args, data := data } :: l

/-- The free value drawn next, of `w` bits (log 5). -/
def State.drawn (s : State) (w : Nat) : Nat := Config.entropy s.fresh % 2 ^ w

/-- Take the next free value as used. -/
def State.draw (s : State) : State := s.updFresh (· + 1)

/-! ### Mode -/

/-- The number of a mode (R66). -/
def Mode.num : Mode → Nat
  | .m0 => 0
  | .m1 => 1
  | .m2 => 2
  | .m3 => 3
  | .m4 => 4
  | .m5 => 5

/-- The current mode. -/
def State.mode (s : State) : Mode := s.modes.mode

/-- In a service mode: M2, M3 or M4. -/
def State.inService (s : State) : Bool :=
  match s.modes.mode with
  | .m2 => true
  | .m3 => true
  | .m4 => true
  | _ => false

/-- In M3. -/
def State.paired (s : State) : Bool := decide (s.modes.mode = .m3)

/-- The extents have two owners: in M3, and after a confirmed partner loss until the claim (R175, R179). -/
def State.split (s : State) : Bool := s.paired || s.pair.lost

/-- The controller index the straps gave (R542). -/
def State.self (s : State) : Nat := if s.den.pins.strapIdx then 1 else 0

/-- The partner's controller index. -/
def State.other (s : State) : Nat := if s.den.pins.strapIdx then 0 else 1

/-- A Sett bundle is up. -/
def State.settUp (s : State) : Bool := s.pair.settA || s.pair.settB

/-- The exit latency code of the idle level (R66): 2 µs, 20 µs and 300 µs have codes 1 to 3. -/
def State.idleExlat (s : State) : Nat := s.modes.idleLevel

/-- MODE_STATUS (R66). -/
def State.modeStatusWord (s : State) : Nat :=
  s.modes.mode.num * 2 ^ 61 + s.modes.prevMode.num * 2 ^ 58 + s.modes.nvmePs * 2 ^ 56 + s.modes.lastCause * 2 ^ 48 +
  s.modes.wakeSource * 2 ^ 40 + s.idleExlat * 2 ^ 32 + s.modes.transitions * 2 ^ 16 + s.spine.islandsOpen.toNat

/-! ### Events (R495, R496) -/

/-- Whether a CCP transport can carry a packet now (R478): 0 the mailbox, 1 the management VLAN, 2 SMBus, 3 I3C. -/
def State.carrierUp (s : State) (transport : Nat) : Bool :=
  match transport with
  | 0 => decide (s.localPort.lState = 2) && !s.localPort.frozen
  | 1 => s.net.ports.any fun p => p.2.linkUp
  | _ => true

/-- A packet can go to a session now: over its carrier, or over the Sett link where it was opened through the relay (R481). -/
def State.reaches (s : State) (e : Session) : Bool := if e.viaSett then s.settUp else s.carrierUp e.transport

/-- Give a session one event: sent at once where its transport carries it, else queued, the oldest of 64 dropped and
counted in LOST of the next event sent (R495). -/
def Session.offer (e : Session) (up : Bool) (code n data : Nat) : Session :=
  if up then { e with eventSeq := (e.eventSeq + e.eventQueue.length + 1) % 2 ^ 32, eventQueue := [], lost := 0 }
  else if e.eventQueue.length < 64 then { e with eventQueue := e.eventQueue ++ [(code, n, data)] }
  else { e with eventQueue := e.eventQueue.drop 1 ++ [(code, n, data)], lost := sat 65535 (e.lost + 1) }

/-- The event packets a session sends when it is offered an event: those queued first. Numbers: session, transport,
EVENT_CODE, INSTANCE, LOST, TIME_US, DATA. -/
def Session.eventsOut (e : Session) (id nowUs : Nat) (up : Bool) (code n data : Nat) : List Out :=
  if up then
    ((e.eventQueue ++ [(code, n, data)]).mapIdx fun i q =>
      { kind := .event, args := [id, e.transport, q.1, q.2.1, if i = 0 then e.lost else 0, nowUs, q.2.2] }).reverse
  else []

/-- A session is subscribed to the subsystem of an event code (R495). -/
def Session.wants (e : Session) (code : Nat) : Bool :=
  decide (e.sState = 2) && e.eventMask.testBit (code / 256)

/-- Raise an event: offer it to every open session subscribed to its subsystem (R495). -/
def State.raise (code n data : Nat) (s : State) : State :=
  let outs := (s.ccp.sessions.map fun p =>
    if p.2.wants code then p.2.eventsOut p.1 s.nowUs (s.reaches p.2) code n data else []).flatten
  (s.updCcp fun c => { c with sessions := tmap (fun _ e =>
      if e.wants code then e.offer (s.reaches e) code n data else e) c.sessions }).updSent (outs ++ ·)

/-- The INSTANCE of an event of the whole controller (R495). -/
def whole : Nat := 0xFFFF

/-- Record a single fault of R395: LAST_FAULT and event 0x0901. -/
def State.singleFault (code : Nat) (s : State) : State :=
  (s.updPair fun p => { p with lastFault := code }).raise 0x0901 whole code

/-! ### Margin records (R450) -/

/-- Write one record to MARGIN_LOG, count it and raise event 0x0B03. The record is 16 bytes, least byte first. -/
def State.marginRecord (kind cause n old new : Nat) (s : State) : State :=
  let r := (s.now / 1000000000) % 2 ^ 32 + kind * 2 ^ 32 + cause * 2 ^ 40 + n % 2 ^ 16 * 2 ^ 48 +
    old % 2 ^ 32 * 2 ^ 64 + new % 2 ^ 32 * 2 ^ 96
  ((s.updDen fun d => { d with marginLog := (r :: d.marginLog).take 256 }).bump cMarginChanges 0).raise 0x0B03 n r

/-! ### The energy store and the larder limit (R441 to R447) -/

/-- The reset value of ESTORE_CFG: EFF_PCT 90, AGE_PCT 8, I_TEST 20, else 0 (R455). -/
def estoreReset : Bytes := [0, 0, 0, 0, 0, 0, 0, 0, 90, 8, 20, 0, 0, 0, 0, 0]

/-- ESTORE_CFG as held. -/
def State.estoreCfg (s : State) : Bytes := (tfind s.blobs (oid 11 5 0)).getD estoreReset

/-- The fields of ESTORE_CFG (R455): offset and size. -/
def State.esField (s : State) (off n : Nat) : Nat := leField s.estoreCfg off n

/-- A store is present: FLAGS [1]. -/
def State.storePresent (s : State) : Bool := s.esField 11 1 / 2 % 2 == 1

/-- The store is a battery: FLAGS [0]. -/
def State.storeBattery (s : State) : Bool := s.esField 11 1 % 2 == 1

/-- The charge target V_CHG_EFF in mV: V_CHG_V, and for an ultracapacitor at most √(2 × ENERGY_CEILING_J ÷ C_CEIL),
rounded down to 1 mV (R441, log 20). -/
def State.vChgEffMv (s : State) : Nat :=
  let vchg := s.esField 6 1 * 1000
  let c := max (s.esField 0 2) s.power.estore.cMeas
  if s.storeBattery || c == 0 then vchg
  else min vchg (isqrt (2 * s.fuses.energyCeilJ * 1000000000 / c))

/-- The power class the supervisor applies to a slot: CLASS, clamped to the fused ceiling (R428). -/
def State.appliedClass (s : State) (slot : Nat) : Nat :=
  min (s.slotPwrCfgClass slot) (bits s.fuses.slotCeil (4 * slot + 3) (4 * slot))

/-- Hold-up load before conversion: p_ctrl_hold + ext_w + 6 W × class of each powered slot (R444). -/
def State.holdLoadW (s : State) : Nat :=
  144 + s.esField 12 2 + (s.power.slots.map fun p => if p.2.pState = 5 then 6 * s.appliedClass p.1 else 0).sum

/-- The destage rate b: the lower of 40,960,000 slots/s and the lowest of the rates measured, 4,096,000 before any (R444). -/
def State.rateB (s : State) : Nat :=
  match s.power.estore.rates with
  | [] => 4096000
  | r :: rs => min 40960000 (rs.foldl min r)

/-- The store gives no usable energy: none present, UNHEALTHY, or not tested yet (R443). -/
def State.storeUnusable (s : State) : Bool :=
  !s.storePresent || !s.power.estore.tested || s.power.estore.health == 4 || s.power.estore.health == 0

/-- Energy for sizing after the ageing margin, in J (R444). -/
def State.energyJ (s : State) : Rat :=
  let e := s.power.estore
  let raw : Rat :=
    if s.storeBattery then
      (s.esField 4 2 : Rat) * min 1 ((s.esField 2 2 : Rat) / (e.esrMeas : Rat))
    else
      let v : Rat := min ((e.vNow : Rat) / 10) ((s.vChgEffMv : Rat) / 1000 - 2)
      let cut : Rat := (s.esField 7 1 : Rat)
      (1 : Rat) / 2 * ((e.cMeas : Rat) / 1000) * (v * v - cut * cut)
  max raw 0 / (1 + (s.esField 9 1 : Rat) / 100)

/-- The draw at the store, in W: the load over the efficiency, and the loss in the ESR at V_CUT_V (R444). -/
def State.storeDrawW (s : State) : Rat :=
  let pin : Rat := (s.holdLoadW : Rat) / ((s.esField 8 1 : Rat) / 100)
  let i : Rat := pin / (s.esField 7 1 : Rat)
  pin + i * i * ((s.power.estore.esrMeas : Rat) / 100000)

/-- t_max, in s (R444). -/
def State.tMaxS (s : State) : Rat := if s.storeUnusable then 0 else s.energyJ / s.storeDrawW

/-- N: the larder slots this controller could destage on its own from stored energy (R444, size()). -/
def State.coverN (s : State) : Nat :=
  if s.storeUnusable then 0
  else (max 0 (((s.tMaxS - 5 / 1000) * (s.rateB : Rat)).floor)).toNat

/-- LARDER_LIMIT by mode (R445). -/
def State.larderLimit (s : State) (own : Nat) : Nat :=
  let p := s.power.estore.partnerN
  match s.modes.mode with
  | .m2 => min 16384000 own
  | .m4 => min 16384000 own
  | .m3 => if own = 0 then 0 else if p = 0 then min 16384000 own else min 16384000 (min own p / 2)
  | _ => 0

/-- Slots holding or reserved for versions (R236). -/
def State.usedSlots (s : State) : Nat :=
  s.layout.larder.length + (s.cmds.slots.map fun p => p.2.reserved).sum + (s.layout.remoteRes.map fun r => r.2.length).sum

/-- The limited slots of R216: USED_SLOTS less the write-through slots of R222. -/
def State.limitedSlots (s : State) : Nat :=
  tcount (fun _ v => !v.through) s.layout.larder +
  (s.cmds.slots.map fun p => if p.2.writeThrough then 0 else p.2.reserved).sum + (s.layout.remoteRes.map fun r => r.2.length).sum

/-- Recompute N and LARDER_LIMIT, enter or leave the deficit of R447, and raise event 0x0B06 where both limits are 0
in M3 (R444 to R447). `note` says that a change of the limit is to be recorded under R450 (a test, a health change). -/
def State.recomputeLimit (note : Bool) (s : State) : State :=
  let n := s.coverN
  let old := s.layout.limit
  let new := s.larderLimit n
  let s1 := s.updPower fun p => { p with estore := { p.estore with
    nCover := sat (2 ^ 24 - 1) n, bRate := s.rateB, pHoldW := sat 4095 s.holdLoadW,
    tMaxMs := sat 1023 (s.tMaxS * 1000).floor.toNat,
    eEffJ := if s.storeUnusable then 0 else sat 4095 s.energyJ.floor.toNat } }
  let s2 := s1.updLayout fun l => { l with limit := new }
  let short := decide (new < s.limitedSlots)
  let entering := short && !s.power.estore.deficit
  let s3 := s2.updPower fun p => { p with estore := { p.estore with deficit := short } }
  let s4 := s3.when entering fun t => (t.bump cLarderDeficits 0).raise 0x0B04 whole (new * 2 ^ 32 + s.usedSlots)
  let s5 := s4.when ((entering || (note && decide (old ≠ new)))) fun t => t.marginRecord 0x04 0x04 whole old new
  s5.when (s.paired && new == 0 && s.power.estore.partnerN == 0 && old != 0) fun t => t.raise 0x0B06 whole 0

/-! ### Changes of mode (R45, R66) -/

/-- A service mode holds: step 12 of R527 is done, and a CC.EN = 1 that was held makes the local controller ready (R463, R533). -/
def State.serviceOpens (s : State) : State :=
  if s.inService then
    (s.updBoot fun b => { b with bootStep := 15 }).updLocalPort fun l => { l with rdy := l.rdy || l.enabled, heldEnable := false }
  else s

/-- The islands a change from mode `old` to mode `m` leaves open (R48): island 14 opens with M3; in M5 there stay 0 to 3, 6 and 15, and 7 and 11 to 13
for the destage of R49, which runs where M5 is entered from M2 or M4. -/
def modeIslands (old m : Mode) (isl : BitVec 16) : BitVec 16 :=
  match m with
  | .m3 => isl ||| 0x4000
  | .m5 => isl &&& (if old = .m2 ∨ old = .m4 then 0xB8CF else 0x804F)
  | _ => isl

/-- Enter mode `m` for the cause coded `cause`: MODE_STATUS, the islands, event 0x0E02 and the larder limit (R45, R48, R66, R446). -/
def State.enterMode (m : Mode) (cause : Nat) (s : State) : State :=
  let t := ((s.updModes fun q => { q with
    mode := m, prevMode := q.mode, lastCause := cause, transitions := sat 65535 (q.transitions + 1), idleLevel := 0 }).updSpine fun p => { p with
    islandsOpen := modeIslands s.modes.mode m p.islandsOpen }).serviceOpens
  (t.recomputeLimit false).raise 0x0E02 whole t.modeStatusWord

/-- Any activity returns an idle controller to full operation (R65). -/
def State.wakeIdle (s : State) : State := s.updModes fun q => { q with idleLevel := 0 }

/-! ### Device shapers (R345, R555) -/

/-- The three device shapers with tokens 0: read bytes, read commands, write bytes. -/
def State.freshShapers (s : State) : Tbl Shaper :=
  let shaper : Shaper := { tokens := 0, atNs := s.now }
  [(0, shaper), (1, shaper), (2, shaper)]

/-- The device shapers are in force, or are not: in PS1, and while a throttle holds (R345, R555). -/
def State.shapersAs (on : Bool) (s : State) : State :=
  s.updQos fun q => { q with device := if on then (if q.device = [] then s.freshShapers else q.device) else [] }

/-! ### Den entry cancelled, service stopped -/

/-- The Den entry running has not reached its commit point: steps 1 to 3 of R58. -/
def State.denCancellable (s : State) : Bool :=
  match s.modes.denEntry with
  | some e => decide (e.entryStep < 4)
  | none => false

/-- Cancel a Den entry that has not reached its commit point; the saved copies are discarded (R58, R59). -/
def State.cancelDen (s : State) : State :=
  if s.denCancellable then s.updModes fun q => { q with denEntry := none, denSaved := false } else s

/-- Every CCP session ends (R489); its keys are destroyed, its unit claims dropped. -/
def State.endSessions (s : State) : State :=
  s.updCcp fun c => { c with
    sessions := [], cvuWaiting := [], relayed := [], owed := [], zeroLong := []
    cvus := tkeep (fun _ u => u.holder != 2) c.cvus }

/-- Stop host service: no further completion is sent, every fabric connection is closed, commands end without effect
on the media, and admission stops (R49, R386). Versions already in the larder stay. -/
def State.stopService (s : State) : State :=
  ((((s.updCmds fun c => { c with fab := [], slots := [], waiting := [] }).updXport fun x => { x with
      ctx := [], cache := [], missBuf := [], claims := [] }).updCons fun c => { c with ovl := [], stampRecs := [] }).updQos
      fun q => { q with deferred := [], egress := [], held := [], sending := [] }).updLayout fun l => { l with waiting := [] }

/-! ### Pairing abandoned (R47, R372) -/

/-- What the receiver of a pairing has taken from its partner is discarded (R372). -/
def State.dropReceived (s : State) : State :=
  (s.updLayout fun l => { l with mirror := [] }).updPair fun p => { p with conns := [], cmds := [], fabs := [], replays := [] }

/-- A pairing that has not reached its switch is abandoned: S stays in its mode, and J discards what it has received (R372); so
it is for every cause that outranks pairing (R47). -/
def State.abandonPairing (s : State) : State :=
  if s.pair.pairStep = 0 then s
  else
    let t := if s.pair.serving then s.updLayout fun l => { l with syncLeft := [], larder := tmap (fun _ v => { v with mirrored := false }) l.larder }
      else s.dropReceived
    t.updPair fun p => { p with
      pairStep := 0, serving := false, hello := none, ephemeral := none, settKek := none, syncTotal := 0
      state := if p.state = 1 ∨ p.state = 2 then (if s.modes.mode = .m4 then 4 else if s.modes.mode = .m1 then 1 else 0) else p.state }

/-! ### Lockdown (R49, R332 to R335) -/

/-- A life-cycle fault, rather than a security fault (R332). -/
def lifeCycleFault (code : Nat) : Bool := code == 0x10 || code == 0x11

/-- Enter M5 on the security or life-cycle fault coded `code`, which outranks every cause but reset and abandons a Den entry and a pairing (R47): the latch and counts of R337, the key bus closed and
running key work discarded (R333), a security fault reported as single fault 0x10 (R395), host service stopped (R49), sessions ended (R489), Owl beats stopped where the
controller leaves M3, CSTS.CFS of the local controller set (R463), FAULT_N low (R545). Key erasure follows as its own
command, once the destage of R49 has ended. -/
def State.enterM5 (code : Nat) (s : State) : State :=
  let s1 := s.updKeep fun k => { k with cause := code, count := sat 255 (k.count + 1), latch := true }
  match s.modes.mode with
  | .m0 => s1
  | .m5 => s1
  | _ =>
    let wasPaired := s.paired
    let s2 := (((s1.when (!lifeCycleFault code) fun t => t.singleFault 0x10).updCipher fun c => { c with
      keyBusOpen := false, keyWaiting := [] }).updEnclave fun e => { e with
      unwraps := [], erased := false }).stopService.endSessions
    let s3 := (s2.abandonPairing.updModes fun q => { q with denEntry := none, psEntry := none }).updPair fun p => { p with
      beatsStopped := p.beatsStopped || wasPaired, quorum := none }
    let s4 := (s3.updLocalPort fun l => { l with cfs := l.cfs || l.enabled }).updDen fun d => { d with
      pins := { d.pins with faultN := true } }
    s4.enterMode .m5 (if lifeCycleFault code then 0x31 else 0x30)

/-! ### Fuses and reset (R16, R31 to R33, R321, R336) -/

/-- LIFE_CYCLE [3:0] holds one of the codes of R324. -/
def legalLifeCycle (n : Nat) : Bool := n == 0 || n == 1 || n == 3 || n == 7 || n == 15

/-- Load SLOT_PWR_CFG_s.CLASS of every slot from its fused ceiling (R428). -/
def State.loadClasses (s : State) : State :=
  (List.range 64).foldl (fun t slot =>
    let c := bits s.fuses.slotCeil (4 * slot + 3) (4 * slot)
    if c = 0 then t else t.setWord (oid 11 1 slot) (setBits (t.word (oid 11 1 slot)) 62 59 c)) s

/-- Step 2 of R527: the fuse load. A marginal or disagreeing cell, or an illegal LIFE_CYCLE, is a life-cycle fault
(R332); in SCRAPPED the controller stays in M5 (R324). Otherwise step 3 begins. -/
def State.fuseLoad (f : FuseRead) (s : State) : State :=
  let s1 := (s.loadClasses.updBoot fun b => { b with bootStep := 2 })
  if !f.marginOk || !f.lifeCycleOk || s.fuses.marginal || !legalLifeCycle s.fuses.lifeCycle then
    (s1.updBoot fun b => { b with failed := true }).enterM5 0x10
  else if !f.masksOk then (s1.updBoot fun b => { b with failed := true }).enterM5 0x11
  else s1.updBoot fun b => { b with bootStep := 3 }

/-- What of a pool outlives a reset: what stands on its drives and in the retained HBM region (R31, R32). -/
def Pool.overReset (p : Pool) : Pool :=
  { p with pState := 0, missingNs := [], mediaErrs := [], hot := [], lastDestage := [], opened := false
           reshape := p.reshape.map fun r => { r with phase := 0, stripes := 0 } }

/-- What of the layout outlives a reset (R32): larder, mirror larder, journal and bitmap, lost-block list. -/
def Layout.overReset (l : Layout) : Layout :=
  { pools := tmap (fun _ p => p.overReset) l.pools, larder := l.larder, mirror := l.mirror,
    lostList := l.lostList, larderToken := l.larderToken }

/-- A slot supervisor over a reset: its KEEP state, with the sampled values 0 until the next sample (R453). -/
def SlotPwr.overReset (p : SlotPwr) : SlotPwr := { p with iNow := 0, vOut := 0 }

/-- Reset with the cause coded `cause` (R16, R33, R45): SRAM and the secret HBM regions are wiped, enclave keys and key
cache destroyed (R336), every object returns to its reset value, KEEP state, fuses, image store and the retained HBM
regions stay, sessions and jobs end. The controller is then in M1 of R45, with bring-up at step 1. -/
def State.wiped (cause : Nat) (s : State) : State :=
  { (({} : State)) with
    den := { s.den with resetDeferred := false, pins := { s.den.pins with faultN := false, thermTripN := false } }
    power := { s.power with
      slots := tmap (fun _ p => p.overReset) s.power.slots
      estore := { lastTestNs := s.power.estore.lastTestNs } }
    keep := s.keep
    fuses := s.fuses
    images := s.images
    boot := { trainingFails := s.boot.trainingFails, failedFirst := s.boot.failedFirst, slotB := s.boot.slotB }
    modes := { mode := .m1, prevMode := s.modes.mode, lastCause := cause, wakeSource := s.modes.wakeSource,
               transitions := sat 65535 (s.modes.transitions + 1) }
    layout := s.layout.overReset
    cipher := { ns := tmap (fun _ n => { n with gens := tmap (fun _ g => { g with key := none, stepAsked := false }) n.gens })
                  s.cipher.ns }
    enclave := { shelfId := s.enclave.shelfId, shelfGen := s.enclave.shelfGen, tenants := s.enclave.tenants }
    pair := { lastFault := s.pair.lastFault, takeovers := s.pair.takeovers, settA := false, settB := false }
    telem := { denCnt := s.telem.denCnt }
    localPort := { lState := if s.den.pins.lpPerst then 0 else 1 }
    fresh := s.fresh + 1
    sent := s.sent
    pending := s.pending }

/-- Reset with the core powered: the wipe, then the fuse load of step 2 of R527 with the cells as they stand. CTX_KEY is
drawn anew; the alias seeds follow from the image that runs (R310, R528). -/
def State.resetController (cause : Nat) (s : State) : State :=
  ((s.wiped cause).updEnclave fun e => { e with
    ctxKey := Config.entropy s.fresh % 2 ^ 256 }).fuseLoad {}

/-- Stop as R386 lays down and reset through the control watchdog, cause 0x03 (R392): no further stamp, PDU, drive
command or beat, then the reset. LAST_FAULT is kept. -/
def State.stopAndReset (s : State) : State := s.stopService.resetController 0x03

end Sys2Proof.Machine
end

