-- ==== Sys2Proof/Machine/QosOps.lean ====
section
/-! DEFINITION. Operations of scheduling, policing and buffers (R338 to R364): queues and tags, shapers, meters, WRED
and the packet buffer. -/
namespace Sys2Proof.Machine

/-! ### Weighted fair queuing (R341) -/

/-- The first item of each connection in a list, connections in rising order. -/
def connHeads (l : List QItem) : List QItem :=
  (l.foldl (fun t it => if thas t it.ctx then t else tput t it.ctx it) ([] : Tbl QItem)).map (·.2)

/-- The items a tenant queue may issue next, in its order: reads before destage commands, and among connections in turn
after the one served last, one item each (R340). -/
def TQueue.candidates (q : TQueue) : List QItem :=
  let turn (l : List QItem) : List QItem :=
    match q.lastCtx with
    | none => l
    | some c => (l.filter fun x => decide (c < x.ctx)) ++ (l.filter fun x => decide (x.ctx ≤ c))
  turn (connHeads (q.items.filter fun x => x.cmd.owner ≠ 2)) ++ turn (connHeads (q.items.filter fun x => x.cmd.owner = 2))

/-- The cost of the item at the head of a tenant queue, 0 of an empty one. -/
def TQueue.headCost (q : TQueue) : Nat := ((q.candidates.head?).map (·.cost)).getD 0

/-- Put an item into tenant queue `t` of weight `w`: a queue that was empty starts at V, else at its finish tag (R341, log 91). -/
def Sched.enqueueTenant (w t : Nat) (it : QItem) (c : Sched) : Sched :=
  let q := tget {} c.tenants t
  let start := if q.items.isEmpty then c.vtime else q.finishTag
  let q' : TQueue := { q with items := q.items ++ [it], startTag := start }
  { c with tenants := tput c.tenants t { q' with finishTag := start + (q'.headCost : Rat) / (w : Rat) } }

/-- Put an item into strict class `k`, in FIFO order (R338). -/
def Sched.enqueueStrict (k : Nat) (it : QItem) (c : Sched) : Sched :=
  { c with strict := tput c.strict k (tget [] c.strict k ++ [it]) }

/-- V after a dispatch: the greater of V and the lowest start tag over queues that hold items (R341). -/
def Sched.advanceV (c : Sched) : Sched :=
  match (c.tenants.filter fun p => !p.2.items.isEmpty).map fun p => p.2.startTag with
  | [] => c
  | x :: xs => { c with vtime := max c.vtime (xs.foldl min x) }

/-- Take item `it` from tenant queue `t` and bring the tags up to date (R341). -/
def Sched.issueTenant (w t : Nat) (it : QItem) (c : Sched) : Sched :=
  let q := tget {} c.tenants t
  let q' : TQueue := { q with items := q.items.filter fun x => x.num ≠ it.num, lastCtx := some it.ctx }
  let q2 : TQueue := if q'.items.isEmpty then q'
    else { q' with startTag := q.finishTag, finishTag := q.finishTag + (q'.headCost : Rat) / (w : Rat) }
  { c with tenants := tput c.tenants t q2 }.advanceV

/-- Take item `it` from strict class `k`. -/
def Sched.issueStrict (k : Nat) (it : QItem) (c : Sched) : Sched :=
  let l := (tget [] c.strict k).filter fun x => x.num ≠ it.num
  { c with strict := if l.isEmpty then tdel c.strict k else tput c.strict k l }

/-- The head of the first strict class that has an eligible head (R339). -/
def Sched.pickStrict (ok : Nat → QItem → Bool) (c : Sched) : Option (Nat × QItem) :=
  [0, 1, 2, 3].findSome? fun k =>
    match tget [] c.strict k with
    | it :: _ => if ok k it then some (k, it) else none
    | [] => none

/-- The eligible tenant queue with the lowest finish tag, ties to the lower tenant, and its item that goes next; `item t q`
answers the item that queue `q` of tenant `t` may issue (R340, R341). -/
def Sched.pickTenant (item : Nat → TQueue → Option QItem) (c : Sched) : Option (Nat × QItem) :=
  let cands := c.tenants.filterMap fun p => (item p.1 p.2).map fun it => (p.1, p.2.finishTag, it)
  match cands with
  | [] => none
  | x :: xs =>
    let best := xs.foldl (fun a b => if b.2.1 < a.2.1 then b else a) x
    some (best.1, best.2.2)

/-- The three scheduling points of R338, by their codes. -/
def State.sched (s : State) (point inst : Nat) : Sched :=
  tget {} (if point = 0 then s.qos.egress else if point = 1 then s.qos.drive else s.qos.background) inst

/-- Change one instance of a scheduling point. -/
def State.updSched (point inst : Nat) (f : Sched → Sched) (s : State) : State :=
  s.updQos fun q =>
    if point = 0 then { q with egress := tmod {} inst f q.egress }
    else if point = 1 then { q with drive := tmod {} inst f q.drive }
    else { q with background := tmod {} inst f q.background }

/-- The weight of a tenant at a point (R358). -/
def State.weight (s : State) (point t : Nat) : Nat :=
  if point = 0 then s.egTenantWeight t else if point = 1 then s.ddTenantWeight t else s.bgTenantWeight t

/-! ### Shapers (R342 to R345) -/

/-- The shaper of tenant `t` at a point. -/
def shaperOfTenant (point t : Nat) : Nat := 8192 * point + t

/-- The shaper of strict class `k` of the egress or drive dispatch point (R359). -/
def shaperOfClass (point k : Nat) : Nat := 8192 * point + 4096 + k

/-- The shaper of class `k` of the background point in a pool, 4 for its weighted group (R344). -/
def shaperOfPool (pool k : Nat) : Nat := 8192 * 2 + 4096 + 8 * pool + k

/-- PASS_DAYS in force for a pool: halved while a member is at risk and AUTO_SCRUB is 1 (R448). -/
def State.passDays (s : State) (pool : Nat) : Nat :=
  if thas s.margins.riskSince pool && s.marginCfgAutoScrub == 1 then max 1 (s.badgerCfgPassDays / 2) else s.badgerCfgPassDays

/-- RATE_MBPS of rebuild in force for a pool: doubled while a member is at risk and AUTO_REBUILD is 1 (R448). -/
def State.rebuildRate (s : State) (pool : Nat) : Nat :=
  if thas s.margins.riskSince pool && s.marginCfgAutoRebuild == 1 then min 65535 (2 * s.rebuildCfgRateMbps)
  else s.rebuildCfgRateMbps

/-- The rate in MB/s at which Badger completes a pass in PASS_DAYS, capped by MAX_MBPS (R262). -/
def State.badgerRate (s : State) (pool : Nat) : Nat :=
  let k := s.poolCfgK pool
  let stripes := (tget {} s.layout.pools pool).slabs.length * ceilDiv 16384 k
  let bytes := stripes * (k + s.poolCfgM pool) * 16 * 4160
  max 1 (min s.badgerCfgMaxMbps (ceilDiv bytes (s.passDays pool * 86400000000)))

/-- The rate of a shaper in bytes per µs (MB/s), 0 unshaped (R344, R358, R359). -/
def State.shaperRate (s : State) (key : Nat) : Nat :=
  let point := key / 8192
  let r := key % 8192
  if r < 4096 then
    if point = 0 then s.egTenantRateMbps r
    else if point = 1 then s.ddTenantRateMbps r
    else s.bgTenantRateMbps r
  else if point < 2 then s.strictShapeRateMbps (4 * point + (r - 4096))
  else
    let pool := (r - 4096) / 8
    let k := (r - 4096) % 8
    if k = 1 then s.rebuildRate pool
    else if k = 2 then s.rebuildCfgReshapeMbps
    else if k = 3 then s.badgerRate pool
    else if k = 4 then s.cipherCfgRekeyMbps
    else 0

/-- The burst of a shaper in bytes. The spec gives none for the shapers of R344: 256 KiB, the reset burst of the others
(log 21). -/
def State.shaperBurst (s : State) (key : Nat) : Nat :=
  let point := key / 8192
  let r := key % 8192
  1024 * (if r < 4096 then
      if point = 0 then s.egTenantBurstKib r else if point = 1 then s.ddTenantBurstKib r else s.bgTenantBurstKib r
    else if point < 2 then s.strictShapeBurstKib (4 * point + (r - 4096)) else 256)

/-- A shaper's tokens at a time, in thousandths of a byte: they rise at the rate up to the burst (R342). -/
def Shaper.tokensAt (rate burst now : Nat) (h : Shaper) : Int :=
  min (h.tokens + (rate : Int) * ((now - h.atNs : Nat) : Int)) ((burst * 1000 : Nat) : Int)

/-- A shaper lets its queue be eligible: unshaped, or not parked and its tokens at 0 or more (R342). -/
def State.shaperOk (s : State) (key : Nat) : Bool :=
  let rate := s.shaperRate key
  rate == 0 ||
    (let h := tget {} s.qos.shapers key
     h.parked.isNone && decide (0 ≤ h.tokensAt rate (s.shaperBurst key) s.now))

/-- The wheel slot, in µs, at which negative tokens reach 0: at most 16,383 µs ahead (R342). -/
def parkSlot (rate : Nat) (tokens : Int) (nowUs : Nat) : Nat :=
  nowUs + min 16383 (max 1 (ceilDiv tokens.natAbs (rate * 1000)))

/-- Park a shaper whose tokens are negative (R342, R364: SHAPER_PARKS counts tenants' shapers). -/
def State.parkIf (key : Nat) (tokens : Int) (s : State) : State :=
  let rate := s.shaperRate key
  let h : Shaper :=
    { tokens := tokens, atNs := s.now, parked := if tokens < 0 then some (parkSlot rate tokens s.nowUs) else none }
  let t := s.updQos fun q => { q with shapers := tput q.shapers key h }
  t.when (decide (tokens < 0) && decide (key % 8192 < 4096)) fun u => u.bump cShaperParks (3 * (key % 8192) + key / 8192)

/-- Charge an issued item to a shaper; a shaper left negative is parked (R342). -/
def State.charge (key cost : Nat) (s : State) : State :=
  let rate := s.shaperRate key
  if rate = 0 then s
  else s.parkIf key ((tget {} s.qos.shapers key).tokensAt rate (s.shaperBurst key) s.now - ((cost * 1000 : Nat) : Int))

/-- A shaper is reconfigured: tokens 0, its pending slot cancelled (R343). -/
def State.resetShaper (key : Nat) (s : State) : State :=
  s.updQos fun q => { q with shapers := tput q.shapers key { tokens := 0, atNs := s.now, parked := none } }

/-- The rates of the three device shapers per µs: read bytes, read commands, write bytes (R345). -/
def deviceRate (i : Nat) : Nat := if i = 0 then 190000 else if i = 1 then 45 else 90000

/-- A device shaper permits a command: it is not in force, or its tokens are at 0. Its tokens never rise above 0, so that
the ceilings of R52 hold over every interval (R345, log 21). -/
def State.deviceOk (s : State) (i : Nat) : Bool :=
  match tfind s.qos.device i with
  | none => true
  | some h => decide (0 ≤ h.tokensAt (deviceRate i) 0 s.now)

/-- Charge a device shaper that is in force. -/
def State.deviceCharge (i cost : Nat) (s : State) : State :=
  s.updQos fun q => { q with device := tadj i (fun h =>
    { tokens := h.tokensAt (deviceRate i) 0 s.now - ((cost * 1000 : Nat) : Int), atNs := s.now, parked := none }) q.device }

/-! ### Meters (R346, R347) -/

/-- The charge of a command in bytes (R346): opcode, transfer length. -/
def meterCharge (opcode len : Nat) : Nat :=
  if opcode = 0x00 then 0
  else if opcode = 0x08 ∨ opcode = 0x09 then 4096
  else max 4096 (ceilDiv len 4096 * 4096)

/-- The parameters of a meter object: CIR, PIR in bytes per µs, CBS, PBS in bytes (R360). -/
structure MeterCfg where
  /-- committed rate -/
  cir : Nat
  /-- peak rate -/
  pir : Nat
  /-- committed burst -/
  cbs : Nat
  /-- peak burst -/
  pbs : Nat

/-- METER_TENANT_t (R360). -/
def State.meterTenant (s : State) (t : Nat) : MeterCfg :=
  { cir := s.meterTenantCirMbps t, pir := s.meterTenantPirMbps t, cbs := 1024 * s.meterTenantCbsKib t,
    pbs := 1024 * s.meterTenantPbsKib t }

/-- CONN_METER_t (R360). -/
def State.meterConn (s : State) (t : Nat) : MeterCfg :=
  { cir := s.connMeterCirMbps t, pir := s.connMeterPirMbps t, cbs := 1024 * s.connMeterCbsKib t,
    pbs := 1024 * s.connMeterPbsKib t }

/-- The buckets of a meter at a time, in thousandths of a byte: full where the meter has no entry yet (R347, RFC 2698). -/
def meterAt (c : MeterCfg) (now : Nat) (m : Option Meter) : Meter :=
  match m with
  | none => { tc := c.cbs * 1000, tp := c.pbs * 1000, atNs := now }
  | some x => { tc := min (c.cbs * 1000) (x.tc + c.cir * (now - x.atNs)),
                tp := min (c.pbs * 1000) (x.tp + c.pir * (now - x.atNs)), atNs := now }

/-- The colour a meter gives to `n` bytes with a pre-colour (0 green, 1 yellow, 2 red), without taking tokens: a disabled
meter adds nothing to the pre-colour (R347, log 22). -/
def meterColour (c : MeterCfg) (m : Meter) (pre n : Nat) : Nat :=
  if c.pir = 0 then pre
  else if pre = 2 ∨ m.tp < n * 1000 then 2
  else if pre = 1 ∨ m.tc < n * 1000 then 1
  else 0

/-- The tokens a meter takes for the colour it gave (RFC 2698): yellow from Tp, green from both. -/
def meterTake (c : MeterCfg) (m : Meter) (colour n : Nat) : Meter :=
  if c.pir = 0 then m
  else if colour = 0 then { m with tc := m.tc - n * 1000, tp := m.tp - n * 1000 }
  else { m with tp := m.tp - n * 1000 }

/-- The final colour of a command of `n` bytes on connection `ctx` of tenant `t`, and the meters after it: a red command
takes tokens from neither meter (R347). -/
def State.meter (s : State) (ctx t n : Nat) : Nat × State :=
  let cc := s.meterConn t
  let ct := s.meterTenant t
  let mc := meterAt cc s.now (tfind s.qos.meterC ctx)
  let mt := meterAt ct s.now (tfind s.qos.meterT t)
  let c1 := meterColour cc mc 0 n
  let c2 := meterColour ct mt c1 n
  if c2 = 2 then (2, s)
  else (c2, s.updQos fun q => { q with
    meterC := if cc.pir = 0 then q.meterC else tput q.meterC ctx (meterTake cc mc c1 n)
    meterT := if ct.pir = 0 then q.meterT else tput q.meterT t (meterTake ct mt c2 n) })

/-- The colour a connection's meter would give a frame, taking no tokens (R349). -/
def State.frameColour (s : State) (ctx t n : Nat) : Nat :=
  let cc := s.meterConn t
  meterColour cc (meterAt cc s.now (tfind s.qos.meterC ctx)) 0 n

/-- A write of a meter object fills both buckets (R347). For CONN_METER_t it fills those of the tenant's connections. -/
def State.fillTenantMeter (t : Nat) (s : State) : State :=
  s.updQos fun q => { q with meterT := tdel q.meterT t }

/-- The connection meters of a tenant at full buckets (R347). -/
def State.fillConnMeters (t : Nat) (s : State) : State :=
  s.updQos fun q => { q with meterC := tkeep (fun i _ => (tget {} s.xport.ctx i).tenant ≠ t) q.meterC }

/-! ### The packet buffer (R352 to R355) -/

/-- Whether class `c` of port `p` is lossless by LOSSLESS_TC. -/
def State.losslessCfg (s : State) (p c : Nat) : Bool := decide (c < 5) && (s.portClassCfgLosslessTc p).testBit c

/-- Whether class `c` of port `p` is treated as lossless now: not while the PFC watchdog has tripped (R84). -/
def State.lossless (s : State) (p c : Nat) : Bool :=
  s.losslessCfg p c && !(tget {} (tget {} s.net.ports p).classes c).wdTripped

/-- Guaranteed space in KiB: MIN_KIB and HEADROOM_KIB of all 256 objects (R352). -/
def State.guaranteedKib (s : State) : Nat :=
  ((List.range 128).map fun n => s.bufRxMinKib n + s.bufRxHeadroomKib n + s.bufTxMinKib n + s.bufTxHeadroomKib n).sum

/-- Cells of the shared pool: 124 MiB less the guaranteed space (R352). -/
def State.sharedCells (s : State) : Nat := (126976 - s.guaranteedKib) * 4

/-- Shared cells now free. -/
def State.sharedFree (s : State) : Nat :=
  s.sharedCells - ((s.qos.bufRx.map fun p => p.2.shared).sum + (s.qos.bufTx.map fun p => p.2.shared).sum)

/-- The shared allowance α × free shared cells of an ALPHA code: 1/16 to 8 (R353). -/
def sharedAllowance (alpha free : Nat) : Nat := 2 ^ alpha * free / 16

/-- Grant one cell under rules 1 to 3 of R353, or none: the source is 0 minimum, 1 shared, 2 headroom. -/
def cellSource (minCells allowance headCells : Nat) (b : BufUse) : Option Nat :=
  if b.minUse < minCells then some 0
  else if b.shared < allowance then some 1
  else if b.headroom < headCells then some 2
  else none

/-- Take `n` cells one after another (R353), the shared ones while the use is below α × the free shared cells; none where one is refused. The free shared cells fall with each one taken. -/
def takeCells (minCells alpha headCells : Nat) : Nat → Nat → BufUse → StoredFrame → Option (BufUse × StoredFrame)
  | 0, _, b, f => some (b, f)
  | n + 1, free, b, f =>
    match cellSource minCells (ceilDiv (2 ^ alpha * free) 16) headCells b with
    | none => none
    | some 0 => takeCells minCells alpha headCells n free { b with minUse := b.minUse + 1 } { f with minCells := f.minCells + 1 }
    | some 1 => if free = 0 then none else
        takeCells minCells alpha headCells n (free - 1) { b with shared := b.shared + 1 } { f with sharedCells := f.sharedCells + 1 }
    | some _ => takeCells minCells alpha headCells n free
        { b with headroom := b.headroom + 1, limitAt := if b.headroom = 0 then b.minUse + b.shared else b.limitAt }
        { f with headCells := f.headCells + 1 }

/-- The receive or transmit objects. -/
def State.bufs (s : State) (rx : Bool) : Tbl BufUse := if rx then s.qos.bufRx else s.qos.bufTx

/-- Put a buffer object. -/
def State.setBuf (rx : Bool) (n : Nat) (b : BufUse) (s : State) : State :=
  s.updQos fun q => if rx then { q with bufRx := tset {} q.bufRx n b } else { q with bufTx := tset {} q.bufTx n b }

/-- Store a frame of `len` bytes under the name `num` for (port, class, direction) n = 8p + c: all of its cells or none (R74,
R353). -/
def State.storeFrame (rx : Bool) (n num len : Nat) (s : State) : Option State :=
  let minC := 4 * (if rx then s.bufRxMinKib n else s.bufTxMinKib n)
  let alpha := if rx then s.bufRxAlpha n else s.bufTxAlpha n
  let head := if rx && s.lossless (n / 8) (n % 8) then 4 * s.bufRxHeadroomKib n else 0
  match takeCells minC alpha head (ceilDiv len 256) s.sharedFree (tget {} (s.bufs rx) n) { num := num } with
  | none => none
  | some (b, f) => some (s.setBuf rx n { b with stored := f :: b.stored })

/-- Free a stored frame's cells. -/
def BufUse.release (num : Nat) (b : BufUse) : BufUse :=
  match b.stored.find? fun f => f.num = num with
  | none => b
  | some f => { b with minUse := b.minUse - f.minCells, shared := b.shared - f.sharedCells, headroom := b.headroom - f.headCells,
                       stored := b.stored.filter fun x => x.num ≠ num }

/-- Free a transmitted frame's cells, whichever transmit object it was stored under. -/
def State.freeTx (num : Nat) (s : State) : State :=
  s.updQos fun q => { q with bufTx := (tmap (fun _ b => b.release num) q.bufTx).filter fun p => decide (p.2 ≠ {}) }

/-- The victim of a push-out: the most recently stored frame held in the shared pool by the object with the largest shared
use, among objects of lossy classes 0 to 4 while any holds such a frame, else of lossless ones. A frame being sent is no
victim (R355). Answers (receive, object, frame). -/
def State.victim (s : State) : Option (Bool × Nat × Nat) :=
  let sendingNums := s.qos.sending.map fun p => p.2.num
  let pick (b : BufUse) : Option StoredFrame := b.stored.find? fun f => decide (0 < f.sharedCells) && !sendingNums.contains f.num
  let all := (s.qos.bufRx.map fun p => (true, p.1, p.2)) ++ (s.qos.bufTx.map fun p => (false, p.1, p.2))
  let host := all.filter fun x => decide (x.2.1 % 8 < 5) && (pick x.2.2).isSome
  let lossy := host.filter fun x => !s.losslessCfg (x.2.1 / 8) (x.2.1 % 8)
  match (if lossy.isEmpty then host else lossy) with
  | [] => none
  | x :: xs =>
    let best := xs.foldl (fun a b => if a.2.2.shared < b.2.2.shared then b else a) x
    (pick best.2.2).map fun f => (best.1, best.2.1, f.num)

/-- Drop an item from the egress queues of a port. -/
def Sched.dropItem (num : Nat) (c : Sched) : Sched :=
  { c with
    strict := (tmap (fun _ l => l.filter fun x => x.num ≠ num) c.strict).filter fun p => !p.2.isEmpty
    tenants := tmap (fun _ q => { q with items := q.items.filter fun x => x.num ≠ num }) c.tenants }

/-- Push out one frame (R355, R364). -/
def State.pushOut (v : Bool × Nat × Nat) (s : State) : State :=
  let t := s.setBuf v.1 v.2.1 ((tget {} (s.bufs v.1) v.2.1).release v.2.2)
  let u := if v.1 then t
    else (t.updSched 0 (v.2.1 / 8) (Sched.dropItem v.2.2)).updQos fun q => { q with
      held := tmap (fun _ l => l.filter fun x => x.num ≠ v.2.2) q.held }
  u.bump cPushoutFrames v.2.1

/-- Store a frame of class 5 to 7, pushing out others until its cells are granted, at most `fuel` of them (R355). -/
def State.storePush (rx : Bool) (n num len : Nat) (fuel : Nat) (s : State) : Option State :=
  match fuel with
  | 0 => s.storeFrame rx n num len
  | fuel + 1 =>
    match s.storeFrame rx n num len with
    | some t => some t
    | none =>
      match s.victim with
      | none => none
      | some v => State.storePush rx n num len fuel (s.pushOut v)

/-- Store a frame under R353, with push-out for classes 5 to 7. A frame of at most 9,216 bytes has at most 36 cells, and
each victim frees at least one. -/
def State.store (rx : Bool) (n num len : Nat) (s : State) : Option State :=
  if n % 8 < 5 then s.storeFrame rx n num len else s.storePush rx n num len 36

/-! ### WRED and ECN (R350) -/

/-- The use of a (port, class, direction) and its current limit, in cells (R350). -/
def State.bufLoad (s : State) (rx : Bool) (n : Nat) : Nat × Nat :=
  let b := tget {} (s.bufs rx) n
  let minC := 4 * (if rx then s.bufRxMinKib n else s.bufTxMinKib n)
  let alpha := if rx then s.bufRxAlpha n else s.bufTxAlpha n
  (b.minUse + b.shared + b.headroom, minC + sharedAllowance alpha s.sharedFree)

/-- The probability of R350 for a load and a curve MIN_PCT [19:13], MAX_PCT [12:6], PMAX [5:0] (R362). -/
def wredProb (use limit curve : Nat) : Rat :=
  let d : Rat := (100 * use : Nat) / (limit : Rat)
  let lo : Rat := (bits curve 19 13 : Nat)
  let hi : Rat := (bits curve 12 6 : Nat)
  if limit = 0 ∨ hi ≤ d then 1
  else if d < lo then 0
  else (d - lo) / (hi - lo) * ((bits curve 5 0 : Nat) : Rat) / 64

/-- Whether a draw of 32 bits falls under a probability. -/
def under (draw : Nat) (p : Rat) : Bool := decide ((draw : Rat) / 4294967296 < p)

/-- The curve of a colour in the profile of a receive or transmit object (R361, R362). -/
def State.wredCurve (s : State) (rx : Bool) (n colour : Nat) : Nat :=
  let p := if rx then s.bufRxWredProf n else s.bufTxWredProf n
  if colour = 0 then s.wredProfGreen p else if colour = 1 then s.wredProfYellow p else s.wredProfRed p

/-! ### Depth and delay (R356) -/

/-- The bucket of a delay in ns: 0 below 1 µs, i from 2^(i-1) µs to below 2^i µs, 17 from 65,536 µs (R356). -/
def delayBucket (ns : Nat) : Nat :=
  let u := ns / 1000
  if u = 0 then 0 else min 17 (Nat.log2 u + 1)

/-- The key of a sampled queue: point, instance, strict, queue (R363); point 3 is a tenant's admission delay. -/
def sampleKey (point inst : Nat) (strict : Bool) (queue : Nat) : Nat :=
  point * 2 ^ 20 + inst * 2 ^ 14 + (if strict then 2 ^ 13 else 0) + queue

/-- Record the delay of an item (R356): histograms are kept for the present and the nine earlier intervals of 1 ms. -/
def State.sampleDelay (key ns : Nat) (s : State) : State :=
  let m := s.now / 1000000
  s.updQos fun q => { q with samples := tmod {} key (fun x =>
    { x with hist := tmod 0 (18 * m + delayBucket ns) (· + 1) (tkeep (fun k _ => decide (m < k / 18 + 10)) x.hist) }) q.samples }

/-- Record the depth of a queue (R356), at each change of it (log 23). -/
def State.sampleDepth (key bytes items : Nat) (s : State) : State :=
  let m := s.now / 1000000
  s.updQos fun q => { q with samples := tmod {} key (fun x =>
    if x.depthMs = m then { x with
      depthMax := max x.depthMax bytes, depthItems := max x.depthItems items, depthSum := x.depthSum + bytes, depthCount := x.depthCount + 1 }
    else { x with depthMs := m, depthMax := bytes, depthItems := items, depthSum := bytes, depthCount := 1 }) q.samples }

/-- The upper bound of a bucket, capped at 65,535 µs (R356). -/
def bucketBound (b : Nat) : Nat := min 65535 (2 ^ b)

/-- The percentile `pct` of a histogram over the last ten intervals, in µs; 0 with no sample (R356). -/
def QSample.percentile (x : QSample) (nowMs pct : Nat) : Nat :=
  let live := tkeep (fun k _ => decide (nowMs < k / 18 + 10)) x.hist
  let count (b : Nat) : Nat := (live.map fun p => if p.1 % 18 = b then p.2 else 0).sum
  let total := (live.map fun p => p.2).sum
  if total = 0 then 0
  else
    let upTo (b : Nat) : Nat := ((List.range (b + 1)).map count).sum
    match (List.range 18).find? fun b => decide (pct * total ≤ 100 * upTo b) with
    | some b => bucketBound b
    | none => 65535

/-- Put an item into a point: its strict class, or none for the weighted group. Its depth is sampled. -/
def State.enqueue (point inst : Nat) (strictClass : Option Nat) (it : QItem) (s : State) : State :=
  let it := { it with atNs := s.now }
  match strictClass with
  | some k =>
    let t := s.updSched point inst (Sched.enqueueStrict k it)
    let l := tget [] (t.sched point inst).strict k
    t.sampleDepth (sampleKey point inst true k) ((l.map (·.cost)).sum) l.length
  | none =>
    let t := s.updSched point inst (Sched.enqueueTenant (s.weight point it.tenant) it.tenant it)
    let l := (tget {} (t.sched point inst).tenants it.tenant).items
    t.sampleDepth (sampleKey point inst false it.tenant) ((l.map (·.cost)).sum) l.length

/-- Take an item out of a point as it is issued; its delay is sampled (R356). -/
def State.issue (point inst : Nat) (strictClass : Option Nat) (it : QItem) (s : State) : State :=
  match strictClass with
  | some k => (s.updSched point inst (Sched.issueStrict k it)).sampleDelay (sampleKey point inst true k) (s.now - it.atNs)
  | none => (s.updSched point inst (Sched.issueTenant (s.weight point it.tenant) it.tenant it)).sampleDelay
      (sampleKey point inst false it.tenant) (s.now - it.atNs)

end Sys2Proof.Machine
end

