-- ==== Sys2Proof/Machine/NetOps.lean ====
section
/-! DEFINITION. Operations of the Ethernet cages and aggregation groups (R69 to R104): ports, classes, gates, buckets, and
the way of a frame to an egress queue. -/
namespace Sys2Proof.Machine

/-! ### Ports (R69 to R72) -/

/-- The configured rates of a breakout code's ports, in Gb/s (R69). -/
def breakoutRates (code : Nat) : List Nat :=
  match code with
  | 0 => [800]
  | 1 => [400, 400]
  | 2 => [400, 200, 200]
  | 3 => [200, 200, 400]
  | 4 => [200, 200, 200, 200]
  | _ => []

/-- The configured rate of a logical port, 0 where it does not exist (R70). -/
def State.cfgRate (s : State) (p : Nat) : Nat := (breakoutRates (s.cageCfgBreakout (p / 4))).getD (p % 4) 0

/-- The port exists and is enabled (R70, R72). -/
def State.portEnabled (s : State) (p : Nat) : Bool := decide (s.cfgRate p ≠ 0) && (s.cageCfgPortEn (p / 4)).testBit (p % 4)

/-- One logical port. -/
def State.port (s : State) (p : Nat) : Port := tget {} s.net.ports p

/-- Change one logical port. -/
def State.updPort (p : Nat) (f : Port → Port) (s : State) : State :=
  s.updNet fun n => { n with ports := tmod {} p f n.ports }

/-- The PFC state of a class of a port. -/
def State.portClass (s : State) (p c : Nat) : ClassState := tget {} (s.port p).classes c

/-- Change the PFC state of a class of a port. -/
def State.updClass (p c : Nat) (f : ClassState → ClassState) (s : State) : State :=
  s.updPort p fun q => { q with classes := tmod {} c f q.classes }

/-- Count bytes of a frame in the bandwidth window of its port (R517, R518). -/
def State.bwAdd (p rx tx : Nat) (s : State) : State :=
  s.updTelem fun t => { t with bw := tmod {} p (fun w => { w with rxNow := w.rxNow + rx, txNow := w.txNow + tx }) t.bw }

/-! ### Classes (R79 to R82) -/

/-- The class DSCP_MAP_n gives a DSCP (R82). -/
def State.dscpClass (s : State) (p d : Nat) : Nat :=
  leNat ((tfind s.blobs (oid 1 3 p)).getD []) / 2 ^ (3 * d) % 8

/-- The class of a received frame (R80): Owl and partner-journal by their class field, management VLAN 6, else by PCP or DSCP. -/
def State.frameClass (s : State) (f : Frame) : Nat :=
  if f.etherType = 0x88B6 then (if f.owlClass = 7 then 7 else 5)
  else if s.ccpCfgMgmtVid ≠ 0 ∧ f.vid = s.ccpCfgMgmtVid then 6
  else if s.portClassCfgTrust f.port = 1 then s.dscpClass f.port f.dscp
  else s.portClassCfgPcpMap f.port / 2 ^ (3 * f.pcp) % 8

/-! ### Destination addresses (R75, R76) -/

/-- IEEE 802.3 CRC-32 of the six address bytes in transmission order, bits [11:0] (R76). -/
def groupHashIndex (mac : Nat) : Nat :=
  Nat.xor (crcRun 0xEDB88320 0xFFFFFFFF (leBytes 6 mac).reverse) 0xFFFFFFFF % 4096

/-- The solicited-node group of an IPv6 address, whose byte 0 is its first (log 62). -/
def solicitedNode (ip : Nat) : Nat := 0x3333FF000000 + ip / 256 ^ 13 % 256 * 65536 + ip / 256 ^ 14 % 256 * 256 + ip / 256 ^ 15 % 256

/-- Control firmware lists the groups of a cage's valid IPv6 entries, at most 32, in its exact table, and sets the hash bits of those alone at the cage's ports
(R76, log 62). -/
def State.groupTables (cage : Nat) (s : State) : State :=
  let ips := (s.net.addr.filter fun e => decide (e.1 / 64 = cage) && e.2.flags.testBit 0 && e.2.flags.testBit 1).map fun e => e.2.ip
  let groups := if ips = [] then [] else ((0x333300000001 :: ips.map solicitedNode).eraseDups).take 32
  s.updNet fun n => { n with
    groupExact := tset [] n.groupExact cage groups
    groupHash := (List.range 4).foldl (fun m j => tset [] m (4 * cage + j) ((groups.map groupHashIndex).eraseDups)) n.groupHash }

/-- A valid unicast entry of the cage holds the address (R75, R506). -/
def State.ownAddress (s : State) (cage mac : Nat) : Bool :=
  s.net.addr.any fun e => decide (e.1 / 64 = cage) && e.2.flags.testBit 0 && decide (e.2.mac = mac)

/-- Any valid entry of the controller with an IP address. -/
def State.addrOfIp (s : State) (ip : Nat) : Option (Nat × AddrEntry) :=
  s.net.addr.find? fun e => e.2.flags.testBit 0 && decide (e.2.ip = ip)

/-- What check 3 of R73 finds: 0 accepted, 1 discarded by the filter, 2 hash matched but the exact table did not, 3 consumed
by the MAC, LACP or LLDP. -/
def State.destination (s : State) (p mac etherType : Nat) : Nat :=
  if mac = 0x0180C2000001 ∨ mac = 0x0180C2000002 ∨ mac = 0x0180C200000E then 3
  else if mac = 0xFFFFFFFFFFFF then (if etherType = 0x0806 then 0 else 1)
  else if mac.testBit 40 then
    if (tget [] s.net.groupHash p).contains (groupHashIndex mac) then
      if (tget [] s.net.groupExact (p / 4)).contains mac then 0 else 2
    else 1
  else if s.ownAddress (p / 4) mac then 0
  else 1

/-! ### PFC (R83, R354) -/

/-- Send a PFC frame for one class: quanta 0xFFFF is XOFF, 0 is XON (R354). -/
def State.sendPfc (p c quanta : Nat) (s : State) : State :=
  ((s.updClass p c fun q => { q with xoffSent := decide (quanta ≠ 0) }).send .pfc [p, c, quanta] []).bump cTxPfcFrames (8 * p + c)

/-- The first headroom cell of a lossless class sends XOFF (R354, R364). -/
def State.headroomCheck (p c before : Nat) (s : State) : State :=
  s.when (decide (before = 0) && decide (0 < (tget {} s.qos.bufRx (8 * p + c)).headroom) && s.lossless p c)
    fun t => (t.sendPfc p c 0xFFFF).bump cPfcHeadroomEntry (8 * p + c)

/-- XON once use has fallen to XON_DELTA_KIB below the limit at which the class entered headroom (R354). -/
def State.xonCheck (p c : Nat) (s : State) : State :=
  let b := tget {} s.qos.bufRx (8 * p + c)
  s.when ((s.portClass p c).xoffSent &&
      decide (b.minUse + b.shared + b.headroom + 4 * s.bufRxXonDeltaKib (8 * p + c) ≤ b.limitAt)) fun t => t.sendPfc p c 0

/-- Free the oldest received frame of a (port, class): the transport engine has taken it (R352, log 24). -/
def State.takeFrame (p c : Nat) (s : State) : State :=
  let b := tget {} s.qos.bufRx (8 * p + c)
  match b.stored.getLast? with
  | none => s
  | some f => (s.setBuf true (8 * p + c) (b.release f.num)).xonCheck p c

/-- The lowest port that holds a received frame of a class. -/
def State.portHolding (s : State) (c : Nat) : Option Nat :=
  (s.qos.bufRx.find? fun e => decide (e.1 % 8 = c) && !e.2.stored.isEmpty).map fun e => e.1 / 8

/-! ### Gates (R86 to R90) -/

/-- The GATE_LIST entry `e` of a cage: as written, or the default schedule (R87, R89). -/
def State.gateWord (s : State) (cage e : Nat) : Nat :=
  match tfind s.blobs (oid 1 4 cage) with
  | some b => leField b (4 * e) 4
  | none => if 8 ≤ e then 0 else if e % 2 = 0 then 0xFF * 2 ^ 24 + 19800 else 0x80 * 2 ^ 24 + 200

/-- BASE and COUNT of the schedule running at a port (R88, R89). -/
def State.gateRange (s : State) (p : Nat) : Nat × Nat :=
  let q := s.port p
  if q.gateCount = 0 then (s.gatePortBase p, s.gatePortCount p) else (q.gateBase, q.gateCount)

/-- The entry `i` places after the one now running. -/
def State.gateAhead (s : State) (p i : Nat) : Nat :=
  let r := s.gateRange p
  s.gateWord (p / 4) (r.1 + ((s.port p).gateEntry + i) % (max 1 r.2))

/-- The time until which class `c` stays open from now on: 0 where its gate is closed now (R90). -/
def gateOpenUntil (word : Nat → Nat) (c : Nat) : Nat → Nat → Nat → Nat
  | 0, _, t => t
  | n + 1, i, t => if (word i / 2 ^ 24).testBit c then gateOpenUntil word c n (i + 1) (t + word i % 2 ^ 24) else t

/-- The CYCLE_NS of a schedule (R88). -/
def State.cycleNs (s : State) (cage base count : Nat) : Nat :=
  ((List.range count).map fun i => s.gateWord cage (base + i) % 2 ^ 24).sum

/-- Whether a frame of `len` bytes of class `c` may start now: its transmission with preamble and inter-frame gap ends
before the gate of its class closes (R90). -/
def State.gateFits (s : State) (p c len : Nat) : Bool :=
  let q := s.port p
  let open' := (s.gateAhead p 0 / 2 ^ 24).testBit c
  let until' := gateOpenUntil (s.gateAhead p) c (max 1 (s.gateRange p).2) 0 q.gateOpenedNs
  open' && decide (s.now * q.rate + (len + 20) * 8 ≤ until' * q.rate)

/-! ### Aggregation (R91 to R97) -/

/-- The group a port belongs to. -/
def State.lagOf (s : State) (p : Nat) : Option Nat := (List.range 8).find? fun g => (s.lagCfgMembers g).testBit p

/-- The members of a group, lowest first. -/
def State.lagMembers (s : State) (g : Nat) : List Nat := (List.range 16).filter fun p => (s.lagCfgMembers g).testBit p

/-- The members that are distributing. -/
def State.distMembers (s : State) (g : Nat) : List Nat := (s.lagMembers g).filter fun p => (s.port p).distributing

/-- One group. -/
def State.lag (s : State) (g : Nat) : Lag := tget {} s.net.lags g

/-- Change one group. -/
def State.updLag (g : Nat) (f : Lag → Lag) (s : State) : State :=
  s.updNet fun n => { n with lags := tmod {} g f n.lags }

/-- The anchor: the lowest-numbered member up at its configured rate and distributing (R97); a member under
a lower rate ceiling is not at its configured rate (R448). -/
def State.anchor (s : State) (g : Nat) : Option Nat :=
  (s.distMembers g).find? fun p => (s.port p).linkUp && decide ((s.port p).rate = s.cfgRate p)

/-- C_now: the current rates of the distributing members (R98). -/
def State.cNow (s : State) (g : Nat) : Nat := ((s.distMembers g).map fun p => (s.port p).rate).sum

/-- Frames of bucket `b` of group `g` in the egress queues of a port. -/
def State.bucketQueued (s : State) (p g b : Nat) : Bool :=
  let c := s.sched 0 p
  let mine (it : QItem) : Bool := it.bucket == some (g, b)
  (c.strict.any fun e => e.2.any mine) || (c.tenants.any fun e => e.2.items.any mine) ||
  (match tfind s.qos.sending p with
   | some it => mine it
   | none => false)

/-- The targets of R93: shares in proportion to rates, the remainder to the first members in ascending order. -/
def shareTargets (rates : List (Nat × Nat)) : Tbl Nat :=
  let total := (rates.map (·.2)).sum
  let base := rates.map fun r => (r.1, if total = 0 then 0 else 256 * r.2 / total)
  let rest := 256 - (base.map (·.2)).sum
  base.mapIdx fun i e => (e.1, if i < rest then e.2 + 1 else e.2)

/-- One turn of the loop of R93 for bucket `b`: moves ordered so far, buckets held per member. -/
def shareStep (dist : List Nat) (targets : Tbl Nat) (owner : Nat → Option Nat) (acc : List (Nat × Nat) × Tbl Nat) (b : Nat) :
    List (Nat × Nat) × Tbl Nat :=
  let held := acc.2
  let above : Bool :=
    match owner b with
    | none => true
    | some o => !dist.contains o || decide (tget 0 targets o < tget 0 held o)
  if above then
    let held1 :=
      match owner b with
      | some o => if dist.contains o then tput held o (tget 0 held o - 1) else held
      | none => held
    match dist.find? fun m => decide (tget 0 held1 m < tget 0 targets m) with
    | some n => (acc.1 ++ [(b, n)], tput held1 n (tget 0 held1 n + 1))
    | none => (acc.1, held1)
  else acc

/-- The moves R93 orders for distributing members with their rates and present owners. -/
def shareMoves (rates : List (Nat × Nat)) (owner : Nat → Option Nat) : List (Nat × Nat) :=
  let dist := rates.map (·.1)
  let targets := shareTargets rates
  let held : Tbl Nat := dist.foldl (fun t m => tput t m
    ((List.range 256).filter fun b => owner b = some m).length) []
  ((List.range 256).foldl (shareStep dist targets owner) ([], held)).1

/-- The member a bucket is to be on: the target of a running move, else its owner. -/
def Lag.ownerOf (l : Lag) (b : Nat) : Option Nat :=
  match tfind l.moving b with
  | some n => some n
  | none => tfind l.owners b

/-- Queue a frame at a port: its strict class or its tenant queue (R338). -/
def State.queueFrame (p : Nat) (it : QItem) (strictClass : Option Nat) (s : State) : State := s.enqueue 0 p strictClass it

/-- The strict class of a frame at egress: 0 Owl, 1 management, 2 partner-journal, 3 a transport control frame (R338). -/
def egressClass (cls : Nat) (control : Bool) : Option Nat :=
  if cls = 7 then some 0 else if cls = 6 then some 1 else if cls = 5 then some 2 else if control then some 3 else none

/-- Frames held for a bucket go to its member (R94). -/
def State.flushHeld (g b p : Nat) (s : State) : State :=
  let key := 256 * g + b
  let l := tget [] s.qos.held key
  l.foldl (fun t it => t.queueFrame p it (egressClass it.cls (it.payload == 0)))
    (s.updQos fun q => { q with held := tdel q.held key })

/-- Commit the move of bucket `b` to member `n` (R94). -/
def State.commitMove (g b n : Nat) (s : State) : State :=
  (s.updLag g fun l => { l with owners := tput l.owners b n, moving := tdel l.moving b }).flushHeld g b n

/-- Begin the move of bucket `b` to member `n`: at once where it had no owner or its owner's link is down, else it waits for
the owner to hold no frame of it (R94). -/
def State.beginMove (g b n : Nat) (s : State) : State :=
  match tfind (s.lag g).owners b with
  | none => s.commitMove g b n
  | some o =>
    if o = n then (s.updLag g fun l => { l with moving := tdel l.moving b }).flushHeld g b o
    else if (s.port o).linkUp then s.updLag g fun l => { l with moving := tput l.moving b n }
    else s.commitMove g b n

/-- The moves of a group that a failed link settles: a bucket on its way from the port moves at once, one on its way to it stays with its owner (R94). -/
def State.settleMoves (g port : Nat) (s : State) : State :=
  (s.lag g).moving.foldl (fun t m =>
    match tfind (t.lag g).owners m.1 with
    | some o => if m.2 = port then t.beginMove g m.1 o else if o = port then t.commitMove g m.1 m.2 else t
    | none => t) s

/-- Share the buckets among members with the given rates (R93). -/
def State.shareAmong (g : Nat) (rates : List (Nat × Nat)) (s : State) : State :=
  (shareMoves rates (s.lag g).ownerOf).foldl (fun t m => t.beginMove g m.1 m.2) s

/-- Share the buckets among the distributing members at their current rates (R93). -/
def State.rebalance (g : Nat) (s : State) : State :=
  s.shareAmong g ((s.distMembers g).map fun p => (p, (s.port p).rate))

/-- Send an LACPDU on a port: Synchronization, collecting and distributing as they are (R91, R99). -/
def State.sendLacp (p : Nat) (s : State) : State :=
  let q := s.port p
  s.send .lacpdu [p, q.syncSent.toNat, q.collecting.toNat, q.distributing.toNat] []

/-- Drop every frame in the egress queues of a port whose link failed (R94). -/
def State.dropQueued (p : Nat) (s : State) : State :=
  let c := s.sched 0 p
  let items := (c.strict.map (·.2)).flatten ++ (c.tenants.map fun e => e.2.items).flatten ++
    (match tfind s.qos.sending p with
     | some it => [it]
     | none => [])
  let t := items.foldl (fun u it => u.freeTx it.num) s
  ((t.updQos fun q => { q with sending := tdel q.sending p }).updSched 0 p fun c =>
    { c with strict := [], tenants := tmap (fun _ x => { x with items := [] }) c.tenants }).bumpN cTxLinkDrop p items.length

/-! ### The way of a frame to an egress queue -/

/-- The member a frame of a connection leaves on: EGRESS_SEL of R111 and the bucket's owner (R92). -/
def State.egressPort (s : State) (sel bucket : Nat) : Option Nat :=
  if sel < 16 then some sel
  else
    let g := sel % 8
    match tfind (s.lag g).owners bucket with
    | some o => some o
    | none => (s.distMembers g).head?

/-- Bytes of headers and check sequences of a frame of a connection: Ethernet 18, VLAN tag 4, IPv4 20 or IPv6 40, then TCP 20
(32 with timestamps) or UDP, BTH and ICRC 24 (log 25). -/
def ctxOverhead (c : Ctx) : Nat :=
  18 + (if c.vlanTag = 0 then 0 else 4) + (if c.ipv6 then 40 else 20) +
  (if c.kind = 2 then (if c.tstamps then 32 else 20) else 24)

/-- Store one frame of a connection, ECN-capable where the connection is (R85), and queue it at egress; one that is refused a cell is dropped (R74, R94, R353). -/
def State.emitFrame (i : Nat) (c : Ctx) (control : Bool) (payload : Nat) (s : State) : State :=
  match s.egressPort c.egressSel c.bucket with
  | none => s
  | some p =>
    let num := s.qos.nextItem
    let len := max 64 (ctxOverhead c + payload)
    let it : QItem := { num := num, cost := len, tenant := c.tenant, cls := c.cls, ctx := i, payload := payload,
                        bucket := if c.egressSel < 16 then none else some (c.egressSel % 8, c.bucket), ecnCapable := c.ecn }
    match (s.updQos fun q => { q with nextItem := q.nextItem + 1 }).store false (8 * p + c.cls) num len with
    | none => s
    | some t =>
      if 16 ≤ c.egressSel ∧ thas (s.lag (c.egressSel % 8)).moving c.bucket then
        let key := 256 * (c.egressSel % 8) + c.bucket
        t.updQos fun q => { q with held := tput q.held key (tget [] q.held key ++ [it]) }
      else t.queueFrame p it (egressClass c.cls control)

/-- Queue a message of `payload` bytes as frames of at most `mtu` bytes. -/
def State.emitMessage (i : Nat) (c : Ctx) (payload : Nat) (s : State) : State :=
  let mtu := max 1 c.mtu
  let n := max 1 (ceilDiv payload mtu)
  (List.range n).foldl (fun t k => t.emitFrame i c false (min mtu (payload - k * mtu))) s

/-- Bytes of a connection that still wait in egress queues. -/
def State.queuedPayload (s : State) (i : Nat) : Nat :=
  let all := (s.qos.egress.map fun e => (e.2.tenants.map fun x => x.2.items).flatten ++ (e.2.strict.map (·.2)).flatten).flatten ++
    (s.qos.held.map (·.2)).flatten
  ((all.filter fun it => it.ctx = i).map (·.payload)).sum

/-- Bytes in flight: sent and not acknowledged, with the requested lengths of READ requests (R131). -/
def State.inFlight (s : State) (i : Nat) : Nat :=
  ((tget {} s.xport.ctx i).flight.map fun f => f.2.1).sum - s.queuedPayload i

/-- R131: the connection may start a packet within CWND, or with nothing in flight. -/
def State.cwndOk (s : State) (it : QItem) : Bool :=
  it.payload == 0 ||
    (let fl := s.inFlight it.ctx
     fl == 0 || decide (fl + it.payload ≤ (tget {} s.xport.ctx it.ctx).cwnd))

end Sys2Proof.Machine
end

