-- ==== Sys2Proof/Machine/SettOps.lean ====
section
/-! DEFINITION. Sending a message to the partner over the Sett link (R365 to R369). -/
namespace Sys2Proof.Machine

/-- The class of a message kind (R368): the high digit of KIND. -/
def settClassOf (kind : Nat) : Nat := kind / 16

/-- The bundle a frame is sent on: A while it is up, else B. -/
def State.settBundle (s : State) : Nat := if s.pair.settA then 0 else 1

/-- Send a message of a kind to the partner: it takes the next SEQ of its class and is kept until an ACK covers it (R366,
R369). With no bundle up it is kept and waits for a bundle; once partner loss is confirmed nothing is sent. Numbers sent: class, kind, flags, SEQ, ACK, then the
message's own. -/
def State.settSend (kind : Nat) (args : List Nat) (data : Bytes) (s : State) : State :=
  if s.pair.lost then s
  else
  let cls := settClassOf kind
  let c := tget {} s.pair.classes cls
  let f : SettFrame := { seqNo := c.nextSeq, kind := kind, bundle := s.settBundle, firstBundle := s.settBundle, args := args, data := data }
  let c' : SettClass := { c with nextSeq := c.nextSeq + 1, unacked := c.unacked ++ [f] }
  let t := s.updPair fun p => { p with classes := tput p.classes cls c' }
  t.when s.settUp fun u => u.send .sett ([cls, kind, 0, c.nextSeq, c.applied] ++ args) data

/-- Larder synchronisation is running and this controller serves (R374). -/
def State.syncing (s : State) : Bool := decide (s.pair.pairStep = 5) && s.pair.serving

/-- Send where the controller is in M3; the shadows of class 4 also go out while this controller serves in synchronisation (R374). -/
def State.settIfPaired (kind : Nat) (args : List Nat) (data : Bytes) (s : State) : State :=
  s.when (s.paired || (s.syncing && decide (settClassOf kind = 4))) fun t => t.settSend kind args data

/-- A frame of a kind has arrived in order and is applied: the highest SEQ applied rises, an acknowledgement-only frame reports it, and the
Sett silence timer restarts (R369, R382). -/
def State.settGot (kind : Nat) (s : State) : State :=
  let cls := settClassOf kind
  let c := tget {} s.pair.classes cls
  let c' : SettClass := { c with applied := c.applied + 1 }
  (s.updPair fun p => { p with classes := tput p.classes cls c', lastSett := s.now }).send .sett [cls, 0, 2, 0, c.applied + 1] []

/-- A message of a kind arrives from the partner over the Sett link; with no bundle up none can. -/
def State.settIn (kind : Nat) (f : State → State) (s : State) : State := if s.settUp then f (s.settGot kind) else s


end Sys2Proof.Machine
end

