-- ==== Sys2Proof/Machine/XportOps.lean ====
section
/-! DEFINITION. Operations of the transport engines (R105 to R141): contexts and their states, positions, sending and
acknowledging, congestion windows, push windows, the context cache. -/
namespace Sys2Proof.Machine

/-! ### Contexts -/

/-- One context. -/
def State.ctx (s : State) (i : Nat) : Ctx := tget {} s.xport.ctx i

/-- Change one context. -/
def State.updCtx (i : Nat) (f : Ctx → Ctx) (s : State) : State :=
  s.updXport fun x => { x with ctx := tmod {} i f x.ctx }

/-- The transport engine of a context: 0 for even indices, 1 for odd ones. -/
def engineOf (i : Nat) : Nat := i % 2

/-- The number of bits of a position: 24 of a PSN, 32 of a TCP sequence. -/
def posBits (c : Ctx) : Nat := if c.kind = 2 then 32 else 24

/-- A position advanced by `n`. -/
def posAdd (c : Ctx) (p : BitVec 32) (n : Nat) : BitVec 32 := BitVec.ofNat 32 ((p.toNat + n) % 2 ^ posBits c)

/-- The distance from position `a` forward to position `b`. -/
def posDist (c : Ctx) (a b : Nat) : Nat := (b % 2 ^ posBits c + 2 ^ posBits c - a % 2 ^ posBits c) % 2 ^ posBits c

/-- Position `a` is at or before position `b`, in modular arithmetic (R120). -/
def posLe (c : Ctx) (a b : Nat) : Bool := decide (posDist c a b < 2 ^ (posBits c - 1))

/-! ### Buckets and indices (R92, R106, R107) -/

/-- The low `n` bytes of a number in network byte order. -/
def beBytes (n x : Nat) : Bytes := (leBytes n x).reverse

/-- An IP address in network byte order: 4 bytes of an IPv4 address, 16 of an IPv6 address (log 27). -/
def ipBytes (ip : Nat) : Bytes := if ip / 2 ^ 32 = 0xFFFF then beBytes 4 ip else beBytes 16 ip

/-- The address is an IPv6 address: not an IPv4-mapped one. -/
def isIpv6 (ip : Nat) : Bool := decide (ip / 2 ^ 32 ≠ 0xFFFF)

/-- The CRC of R106 over the remote and local address and port. -/
def tcpHash (remoteIp localIp remotePort localPort : Nat) : Nat :=
  crc32c (ipBytes remoteIp ++ ipBytes localIp ++ beBytes 2 remotePort ++ beBytes 2 localPort)

/-- The index bucket of a TCP connection: bits [20:4] of the CRC (R106). -/
def tcpBucket (h : Nat) : Nat := bits h 20 4

/-- The fingerprint of a TCP connection: bits [3:0] mod 14, plus 1 (R106). -/
def tcpTag (h : Nat) : Nat := h % 16 % 14 + 1

/-- The aggregation bucket of a connection: bits [7:0] of the CRC-32C of the addresses, protocol and ports of the frames the
controller sends, and for RoCEv2 the destination QPN (R92). -/
def lagBucket (localIp remoteIp proto srcPort dstPort : Nat) (qpn : Option Nat) : Nat :=
  crc32c (ipBytes localIp ++ ipBytes remoteIp ++ beBytes 1 proto ++ beBytes 2 srcPort ++ beBytes 2 dstPort ++
    (match qpn with
     | some q => beBytes 3 q
     | none => [])) % 256

/-- The index is free: its context is FREE, and neither this controller nor the partner holds it (R106, R108). -/
def State.indexFree (s : State) (i : Nat) : Bool := decide ((s.ctx i).state = 0) && decide (tget 0 s.xport.flowTags i = 0)

/-- Search direction of R107: from the lowest index for controller 0 or in M2, from the highest for controller 1. -/
def State.searchUp (s : State) : Bool := decide (s.self = 0) || decide (s.modes.mode = .m2)

/-- The first index that passes a test among `n` from `i` on, upward or downward. -/
def firstIndex (ok : Nat → Bool) (up : Bool) : Nat → Nat → Option Nat
  | 0, _ => none
  | n + 1, i => if ok i then some i else firstIndex ok up n (if up then i + 1 else i - 1)

/-- A free index for a RoCEv2 connection (R107). At most as many indices are taken as entries are listed. -/
def State.roceIndex (s : State) : Option Nat :=
  let n := min 2097152 (s.xport.ctx.length + s.xport.flowTags.length + 1)
  firstIndex s.indexFree s.searchUp n (if s.searchUp then 0 else 2097151)

/-- A free index of a TCP bucket (R107). -/
def State.tcpIndex (s : State) (b : Nat) : Option Nat :=
  firstIndex s.indexFree s.searchUp 16 (if s.searchUp then 16 * b else 16 * b + 15)

/-- The context of a TCP segment: the full 4-tuple of every context of the bucket whose tag matches (R106). -/
def State.tcpLookup (s : State) (remoteIp localIp remotePort localPort : Nat) : Option Nat :=
  let h := tcpHash remoteIp localIp remotePort localPort
  ((List.range 16).map fun k => 16 * tcpBucket h + k).find? fun i =>
    let c := s.ctx i
    decide (tget 0 s.xport.flowTags i = tcpTag h) && decide (c.kind = 2) && decide (c.state ≠ 0) &&
    decide (c.remoteIp = remoteIp) && decide (c.localIp = localIp) && decide (c.remoteL4 = remotePort) && decide (c.localL4 = localPort)

/-! ### Shadows (R375) -/

/-- Send the connection shadow of a context in M3 (R375). Numbers: index, state, CTX_GEN. -/
def State.shadowConn (i : Nat) (s : State) : State :=
  s.settIfPaired 0x40 [i, (s.ctx i).state, (s.ctx i).ctxGen] []

/-- Send a position update in M3 (R375, R380). Numbers: index, MSN, RCV_POS, SND_POS. -/
def State.shadowPos (i : Nat) (rcv snd : BitVec 32) (s : State) : State :=
  s.settIfPaired 0x41 [i, (s.ctx i).msn, rcv.toNat, snd.toNat] []

/-! ### Changes of state (R109) -/

/-- The four templates of a host connection (R136). -/
def hostChains : Tbl Chain :=
  [(0, { triggerMask := 1, threshPaired := 1, threshAlone := 0, action := 2, next := 255 }),
   (1, { triggerMask := 3, threshPaired := 2, threshAlone := 1, action := 1, next := 3 }),
   (2, { triggerMask := 12, threshPaired := 1, threshAlone := 1, action := 1, next := 3 }),
   (3, { triggerMask := 0, threshPaired := 0, threshAlone := 0, action := 4, next := 255 })]

/-- The templates of the local host port: action 3 in place of 1 (R136). -/
def localChains : Tbl Chain := tmap (fun _ c => if c.action = 1 then { c with action := 3 } else c) hostChains

/-- The context enters OPEN: its templates are written (R135) and its shadow goes to the partner (R375). -/
def State.enterOpen (i : Nat) (s : State) : State :=
  (s.updCtx i fun c => { c with state := 2, chains := hostChains, timerKind := 0, timerNs := 0 }).shadowConn i

/-- Frames and plans of a connection that are not yet sent are dropped. -/
def State.dropUnsent (i : Nat) (s : State) : State :=
  let t := s.updXport fun x => { x with sendQ := tdel x.sendQ i, missBuf := x.missBuf.filter fun m => m.ctx ≠ i }
  let nums := (t.qos.egress.map fun e => ((e.2.tenants.map fun x => x.2.items).flatten ++ (e.2.strict.map (·.2)).flatten).filterMap
    fun it => if it.ctx = i then some (e.1, it.num) else none).flatten
  nums.foldl (fun u x => (u.updSched 0 x.1 (Sched.dropItem x.2)).freeTx x.2) t

/-- The context enters QUARANTINE (R109). -/
def State.enterQuarantine (i : Nat) (s : State) : State :=
  ((s.dropUnsent i).updCtx i fun c => { c with
    state := 6, timerKind := 5, timerNs := s.now + ms s.transportCfgQuarMs, flight := [], r2ts := [], windows := [], pushCount := 0
    ackHold := none, msgEnds := [] }).shadowConn i

/-- The context is FREE again; its allocation generation stays (R109). -/
def State.freeCtx (i : Nat) (s : State) : State :=
  let g := (s.ctx i).ctxGen
  s.updXport fun x => { x with
    ctx := tset {} x.ctx i { ctxGen := g }, flowTags := tdel x.flowTags i, sendQ := tdel x.sendQ i, claims := dropOne i x.claims }

/-- A command slot of the context is in use. -/
def State.ctxBusy (s : State) (i : Nat) : Bool := s.cmds.slots.any fun p => decide (p.2.ctx = i) && !p.2.localPort

/-- What follows once no slot of a context is in use: from ERROR QUARANTINE, from DRAINING the close (R109). -/
def State.settleCtx (i : Nat) (s : State) : State :=
  let c := s.ctx i
  if s.ctxBusy i then s
  else if c.state = 4 then s.enterQuarantine i
  else if c.state = 3 then
    if c.hostClosed then (s.when (!c.closeSent) fun t => t.send .finish [i] []).enterQuarantine i
    else if c.closeSent then s
    else (s.send .finish [i] []).updCtx i fun x => { x with closeSent := true }
  else s

/-- The context enters DRAINING (R109); its replay records close with it, for it leaves OPEN (R165). -/
def State.enterDraining (i : Nat) (s : State) : State :=
  let c := s.ctx i
  if c.state = 2 ∨ c.state = 5 then
    (((s.updCtx i fun x => { x with state := 3 }).updCmds fun m => { m with
      replays := tmap (fun _ r => if r.ctx = i ∧ r.ctxGen = c.ctxGen then { r with isOpen := false } else r) m.replays }).shadowConn i).settleCtx i
  else s

/-! ### Sending (R121, R128 to R131, R379) -/

/-- How many units of position a message takes: packets of a RoCEv2 message, bytes of a TCP one. -/
def posUnits (c : Ctx) (payload : Nat) : Nat :=
  if c.kind = 2 then payload else max 1 (ceilDiv payload (max 1 c.mtu))

/-- The retransmission timeout of a connection in ns (R121, R130). -/
def State.rtoOf (s : State) (c : Ctx) : Nat :=
  if c.kind = 2 then max (us s.transportCfgTcpMinRtoUs) (c.srtt + 4 * c.rttvar) else 4096 * 2 ^ s.transportCfgRoceAckTo

/-- Take positions for a message: answers FIRST_POS and END_POS, the position after its last unit less 1. -/
def State.takePos (i payload : Nat) (s : State) : (Nat × Nat) × State :=
  let c := s.ctx i
  let n := posUnits c payload
  ((c.sndNxt.toNat, (posAdd c c.sndNxt (n - 1)).toNat), s.updCtx i fun x => { x with sndNxt := posAdd x x.sndNxt n })

/-- Put a message with its positions on the way: it is kept until acknowledged, its frames are queued at egress, and the
retransmission timer runs (R121, R131). -/
def State.launch (i last payload : Nat) (o : Out) (s : State) : State :=
  let c := s.ctx i
  let t := s.updCtx i fun x => { x with
    flight := x.flight ++ [(last, payload, s.now)]
    timerKind := if x.timerKind = 0 then 1 else x.timerKind
    timerNs := if x.timerKind = 0 then s.now + s.rtoOf x else x.timerNs }
  (t.emitMessage i c payload).send o.kind o.args o.data

/-- Send a message on a connection at the next position, behind the planned messages that have not gone out yet; on a context in ADOPTING it
waits for the prompt to resume (R139, R379). A message that waits belongs to no slot. -/
def State.sendMsg (i payload : Nat) (o : Out) (s : State) : State :=
  let p := s.takePos i payload
  if (tget [] s.xport.sendQ i).isEmpty ∧ (s.ctx i).state ≠ 5 then p.2.launch i p.1.2 payload o
  else p.2.updXport fun x => { x with
    sendQ := tput x.sendQ i (tget [] x.sendQ i ++ [{ slot := 2 ^ 20, first := p.1.1, last := p.1.2, conf := true, msgs := some [(payload, o)] }]) }

/-- Send a transport control frame of a connection: it takes no position (R338). -/
def State.sendControl (i : Nat) (k : OutKind) (args : List Nat) (s : State) : State :=
  (s.emitFrame i (s.ctx i) true 0).send k (i :: args) []

/-- Transmit the plans at the head of a connection's list whose contents are known and whose send records are confirmed, in
position order (R379); of a context in ADOPTING none. -/
def State.flushPlans (i : Nat) (s : State) : State :=
  if (s.ctx i).state = 5 then s
  else
  let l := tget [] s.xport.sendQ i
  let ready := l.takeWhile fun p => p.conf && p.msgs.isSome
  let rest := l.drop ready.length
  let t := s.updXport fun x => { x with sendQ := if rest.isEmpty then tdel x.sendQ i else tput x.sendQ i rest }
  ready.foldl (fun u p => ((p.msgs.getD []).foldl (fun v m => v.launch i p.last m.1 m.2) u)) t

/-- Assign positions to the PDUs of a command, `payload` bytes in `n` messages (R379). -/
def State.plan (i slot planKind : Nat) (sizes : List Nat) (s : State) : State :=
  let c := s.ctx i
  let units := (sizes.map (posUnits c)).sum
  let first := c.sndNxt.toNat
  let last := (posAdd c c.sndNxt (units - 1)).toNat
  let p : SendPlan := { slot := slot, first := first, last := last, plan := planKind }
  (s.updCtx i fun x => { x with sndNxt := posAdd x x.sndNxt units }).updXport fun x => { x with
    sendQ := tput x.sendQ i (tget [] x.sendQ i ++ [p]) }

/-- The send record of a slot's plan: first, last and plan, none where it has none. -/
def State.planOf (s : State) (i slot : Nat) : Option SendPlan := (tget [] s.xport.sendQ i).find? fun p => p.slot = slot

/-- Change the plans of a slot. -/
def State.updPlan (i slot : Nat) (f : SendPlan → SendPlan) (s : State) : State :=
  s.updXport fun x => { x with sendQ := tadj i (fun l => l.map fun p => if p.slot = slot then f p else p) x.sendQ }

/-! ### Acknowledging (R120, R128, R138) -/

/-- Send an acknowledgement at RCV_ACKED: RoCEv2 ACK, or TCP ACK (R120, R128). Numbers: index, position, ECE. -/
def State.sendAck (i : Nat) (s : State) : State :=
  let c := s.ctx i
  (s.sendControl i .ack [c.rcvAcked.toNat, c.eceToSend.toNat]).updCtx i fun x => { x with unackedSegs := 0 }

/-- The positions that condition 3 of R138 blocks: in-capsule and push-window data of writes not yet placed on both
controllers, and push-window data that waits for its capsule (R127). -/
def State.holdPoints (s : State) (i : Nat) : List Nat :=
  (s.cmds.slots.filterMap fun p =>
    if p.2.ctx = i ∧ p.2.localPort = false ∧ p.2.opcode = 1 ∧ p.2.admin = false ∧ (p.2.pushWin.isSome ∨ p.2.inCapsule) ∧
      (p.2.placed = false ∨ p.2.mirrored = false) ∧ p.2.state < 5 then some p.2.pos else none) ++
  ((s.ctx i).windows.filterMap fun w => if w.2.data then some w.2.firstPos else none)

/-- Position `e` is allowed by condition 3 of R138: it lies at or before every blocked point. -/
def State.ackAllowed (s : State) (i e : Nat) : Bool :=
  (s.holdPoints i).all fun h => posLe (s.ctx i) e h

/-- RCV_ACKED moves to position `e` and the host is told. -/
def State.setAcked (i : Nat) (e : BitVec 32) (s : State) : State :=
  (s.updCtx i fun x => { x with rcvAcked := e, msgEnds := x.msgEnds.filter fun m => !posLe x m.toNat e.toNat }).sendAck i

/-- The furthest message end that the rules of R138 let RCV_ACKED reach. -/
def State.ackCandidate (s : State) (i : Nat) : Option (BitVec 32) :=
  ((s.ctx i).msgEnds.takeWhile fun e => !s.paired || s.ackAllowed i e.toNat).getLast?

/-- Advance RCV_ACKED as far as R138 lets it: at once in M2 and M4; in M3 a position update goes to the partner first, and
its confirmation moves RCV_ACKED (R380). ACK_HOLD records the first position condition 3 blocks. -/
def State.advanceAck (i : Nat) (s : State) : State :=
  let c := s.ctx i
  let held := (c.msgEnds.find? fun e => s.paired && !s.ackAllowed i e.toNat)
  let t := s.updCtx i fun x => { x with ackHold := held }
  match s.ackCandidate i with
  | none => t
  | some e => if s.paired then t.shadowPos i e c.sndUna else (t.setAcked i e).shadowPos i e c.sndUna

/-- A message or PDU has been received in full: its end becomes a candidate for RCV_ACKED. -/
def State.messageEnd (i : Nat) (s : State) : State :=
  (s.updCtx i fun x => { x with msgEnds := x.msgEnds ++ [x.rcvNxt] }).advanceAck i

/-! ### Errors -/

/-- Capsules of a connection that wait are dropped, and its replay records close (R147, R165). Its commands are stopped by what follows
(R147, `State.afterError`). -/
def State.endSlotsOf (i : Nat) (s : State) : State :=
  s.updCmds fun m => { m with
    waiting := m.waiting.filter fun w => w.localPort || decide (w.ctx ≠ i)
    replays := tmap (fun _ r => if r.ctx = i ∧ r.ctxGen = (s.ctx i).ctxGen then { r with isOpen := false } else r) m.replays }

/-- A fatal transport error: the context enters ERROR, its commands end, and where it carried an admin queue its fabric
controller is deleted by its own rule (R109, R147). -/
def State.ctxError (i : Nat) (s : State) : State :=
  let c := s.ctx i
  if c.state = 0 ∨ c.state = 4 ∨ c.state = 6 then s
  else
    (((((s.dropUnsent i).updCtx i fun x => { x with state := 4, timerKind := 0, timerNs := 0, flight := [] }).endSlotsOf i).shadowConn i).settleCtx i)

/-- Answer with a NAK (R120, R124): kind 1 PSN Sequence Error, 2 Invalid Request, 3 Remote Access Error, 4 receiver not
ready with delay code 0x0C. Numbers: index, kind, position. -/
def State.sendNak (i kind pos : Nat) (s : State) : State := s.sendControl i .nak [kind, pos]

/-- Send RST on a connection. -/
def State.sendRst (i : Nat) (s : State) : State := s.sendControl i .reset []

/-! ### Congestion control (R131 to R134) -/

/-- The window after a loss (R132): at most once per epoch. -/
def State.onLoss (i : Nat) (timeout : Bool) (s : State) : State :=
  let c := s.ctx i
  if c.epochLoss then s
  else
    let lo := 1024 * s.ccProfileCwndMin c.cls
    let half := max (c.cwnd / 2) lo
    s.updCtx i fun x => { x with ssthresh := half, cwnd := if timeout then lo else half, epochLoss := true,
                                 cwrToSend := x.cwrToSend || decide (x.kind = 2) }

/-- SRTT and RTTVAR after a sample, gains 1/8 and 1/4 (R132, RFC 6298). -/
def rttUpdate (c : Ctx) (r : Nat) : Ctx :=
  if c.srtt = 0 then { c with srtt := r, rttvar := r / 2, lastRtt := r }
  else { c with
    rttvar := (3 * c.rttvar + (if c.srtt < r then r - c.srtt else c.srtt - r)) / 4
    srtt := (7 * c.srtt + r) / 8
    lastRtt := r }

/-- ALPHA moved towards the marked fraction by 2^-G_SHIFT of the difference (R132). -/
def alphaStep (alpha marked acked g : Nat) : Nat :=
  let f : Int := if acked = 0 then 0 else ((65535 * marked / acked : Nat) : Int)
  ((alpha : Int) + (f - (alpha : Int)) / (2 : Int) ^ g).toNat

/-- The end of an epoch (R132). -/
def State.epochEnd (i : Nat) (s : State) : State :=
  let c := s.ctx i
  let p := c.cls
  let marked := if c.epochCnp then c.epochAcked else c.epochMarked
  let alpha := alphaStep c.alpha marked c.epochAcked (s.ccProfileGShift p)
  let target := us (s.ccProfileRttTarget p)
  let w :=
    if 0 < marked then c.cwnd - c.cwnd * alpha / (2 * 65535)
    else if target < c.lastRtt then c.cwnd - c.cwnd * s.ccProfileBeta p * (c.lastRtt - target) / (100 * c.lastRtt)
    else if c.cwnd < c.ssthresh then 2 * c.cwnd
    else c.cwnd + 1024 * s.ccProfileAi p
  s.updCtx i fun x => { x with
    alpha := alpha, cwnd := min (1024 * s.ccProfileCwndMax p) (max (1024 * s.ccProfileCwndMin p) w)
    epochEnd := x.sndNxt, epochAcked := 0, epochMarked := 0, epochLoss := false, epochCnp := false
    cwrToSend := x.cwrToSend || (decide (x.kind = 2) && decide (0 < marked)) }

/-- An acknowledgement that covers every position before `una` (R121, R130, R132): what it covers leaves flight, RETRIES
returns to 0, an RTT sample is taken of what was not retransmitted, and an epoch may end. `ece`: a TCP ACK with ECE. -/
def State.onAck (i una : Nat) (ece : Bool) (s : State) : State :=
  let c := s.ctx i
  let covered (f : Nat × Nat × Nat) : Bool := posLe c f.1 una && decide (f.1 ≠ una)
  let gone := c.flight.filter covered
  let left := c.flight.filter fun f => !covered f
  let bytes := (gone.map fun f => f.2.1).sum
  let advanced := decide (c.sndUna.toNat ≠ una) && posLe c c.sndUna.toNat una
  let rtt := (gone.getLast?.map fun f => if f.2.2 = 0 then 0 else s.now - f.2.2).getD 0
  if !advanced then s
  else
    let t := s.updCtx i fun x =>
      let y := { x with
        sndUna := BitVec.ofNat 32 una, flight := left, retries := 0, dupAcks := 0, epochAcked := x.epochAcked + bytes
        epochMarked := x.epochMarked + (if ece then bytes else 0)
        timerKind := if left.isEmpty then (if x.timerKind = 1 then 0 else x.timerKind) else 1
        timerNs := if left.isEmpty then (if x.timerKind = 1 then 0 else x.timerNs) else s.now + s.rtoOf x
        rto := s.rtoOf x }
      if rtt = 0 then y else rttUpdate y rtt
    let u := if posLe c c.epochEnd.toNat una then t.epochEnd i else t
    -- a response acknowledged closes its replay record once RCV_ACKED has passed its capsule (R165)
    let v := u.updCmds fun m => { m with replays := tmap (fun _ r =>
      if r.ctx = i ∧ r.ctxGen = c.ctxGen ∧ r.isOpen ∧ posLe c r.respPos una ∧ r.respPos ≠ una ∧
        posLe c r.pos c.rcvAcked.toNat ∧ r.pos ≠ c.rcvAcked.toNat then { r with isOpen := false } else r) m.replays }
    v.shadowPos i c.rcvAcked (BitVec.ofNat 32 una)

/-- Send again everything from position `from'` on (R121, R130): what is sent again takes no RTT sample. -/
def State.resendFrom (i from' : Nat) (s : State) : State :=
  let c := s.ctx i
  let again := c.flight.filter fun f => posLe c from' f.1
  let n := if c.kind = 2 then again.length else posDist c from' c.sndNxt.toNat
  let t := s.updCtx i fun x => { x with
    flight := x.flight.map fun f => if posLe x from' f.1 then (f.1, f.2.1, 0) else f
    counters := tmod 0 0 (fun k => sat 0xFFFFFFFF (k + n)) x.counters }
  let u := again.foldl (fun v f => v.emitMessage i c f.2.1) t
  (u.bumpN (if c.kind = 2 then cTcpRetx else cRoceRetx) (engineOf i) n).send .retransmit [i, from'] []

/-- One more retransmission of the oldest position: RETRIES rises; past the limit the context goes to ERROR, a TCP connection
with RST (R121, R130). -/
def State.retry (i from' : Nat) (limit : Nat) (timeout : Bool) (s : State) : State :=
  let c := s.ctx i
  if limit < c.retries + 1 then
    (if c.kind = 2 then s.sendRst i else s).ctxError i
  else
    let t := (s.updCtx i fun x => { x with retries := x.retries + 1, timerKind := 1, timerNs := s.now + s.rtoOf x }).onLoss i timeout
    t.resendFrom i from'

/-! ### Marks received (R133) and the WRED of received frames (R349, R350) -/

/-- A packet marked Congestion Experienced: RoCEv2 sends a CNP, no sooner than CNP_INTERVAL_US after the last; TCP sets ECE
until CWR arrives (R133). -/
def State.onMark (i : Nat) (s : State) : State :=
  let c := s.ctx i
  let t := s.updCtx i fun x => { x with counters := tmod 0 3 (fun k => sat 0xFFFFFFFF (k + 1)) x.counters }
  if c.kind = 2 then t.updCtx i fun x => { x with eceToSend := true }
  else if c.cnpEver = false ∨ c.lastCnpUs + s.transportCfgCnpIntervalUs ≤ s.nowUs then
    ((t.sendControl i .cnp []).bump cCnpTx (engineOf i)).updCtx i fun x => { x with
      cnpEver := true, lastCnpUs := s.nowUs % 2 ^ 32, counters := tmod 0 4 (fun k => sat 0xFFFFFFFF (k + 1)) x.counters }
  else t

/-- What WRED does with a received frame of a connection (R349, R350): dropped, and marked. -/
def State.wredRx (i port len : Nat) (s : State) : (Bool × Bool) × State :=
  let c := s.ctx i
  if 5 ≤ c.cls then ((false, false), s)
  else
    let n := 8 * port + c.cls
    let colour := s.frameColour i c.tenant len
    let load := s.bufLoad true n
    let hit := under (s.drawn 32) (wredProb load.1 load.2 (s.wredCurve true n colour))
    let t := s.draw
    if s.losslessCfg port c.cls then
      let m := decide (colour = 2) || hit
      ((false, m), t.when m fun u => u.bump cEcnMarkRx n)
    else if c.ecn && decide (colour ≠ 2) then ((false, hit), t.when hit fun u => u.bump cEcnMarkRx n)
    else ((hit, false), t.when hit fun u => u.bump cRxWredDrop n)

/-! ### Push windows (R122 to R127) -/

/-- The bytes of one window of a size code: 4 KiB × 2^c (R122). -/
def windowBytes (code : Nat) : Nat := 4096 * 2 ^ code

/-- The key of a window: context index, window, generation (R123). -/
def pushKey (i w gen : Nat) : Nat := i * 2 ^ 11 + w * 2 ^ 5 + gen

/-- One window of a context. -/
def ctxWindow (c : Ctx) (w : Nat) : PushWin := tget {} c.windows w

/-- Revoke a window: its generation rises by 1 modulo 32, nothing is zeroed, and it reopens as OPEN (R126). Its descriptor is
kept in the list, for the generation must be. -/
def State.revoke (i w : Nat) (s : State) : State :=
  s.updCtx i fun c => { c with windows := tput c.windows w { wState := 0, gen := ((ctxWindow c w).gen + 1) % 32 } }

/-- Bytes of all push windows of the controller (R122). -/
def State.pushTotal (s : State) : Nat :=
  (s.xport.ctx.map fun e => e.2.pushCount * windowBytes e.2.pushSize).sum

/-! ### The context cache (R114 to R118) -/

/-- The key of a context's set: engine and bits [12:1] of the index (R114). -/
def cacheSet (i : Nat) : Nat := 4096 * (i % 2) + i / 2 % 4096

/-- The ways of a set, most recently used first. -/
def State.ways (s : State) (k : Nat) : List CacheWay := tget [] s.xport.cache k

/-- Put the ways of a set. -/
def State.setWays (k : Nat) (l : List CacheWay) (s : State) : State :=
  s.updXport fun x => { x with cache := if l.isEmpty then tdel x.cache k else tput x.cache k l }

/-- The context is in the cache and its fill has completed. -/
def State.cached (s : State) (i : Nat) : Bool := (s.ways (cacheSet i)).any fun w => decide (w.index = i) && !w.filling

/-- A packet of a cached context: its entry becomes the most recently used, dirty; a pending eviction of it is cancelled and
the miss that waited for it takes the next way (R117). -/
def State.touchHit (i : Nat) (s : State) : State :=
  let k := cacheSet i
  match (s.ways k).find? fun w => w.index = i with
  | none => s
  | some w =>
    let t := s.setWays k ({ w with dirty := true, evicting := false, forCtx := 0 } :: (s.ways k).filter fun v => v.index ≠ i)
    t.when w.evicting fun u => u.bump cCtxEvictCancel (engineOf i)

/-- Give a way of the set to a missing context: a free way, else the least recently used that is neither pinned, filling nor
being evicted: at once where it is clean, by a write-back where it is dirty (R116). Nothing where no way qualifies, or the
context already has a way or a write-back on its behalf. -/
def State.serveMiss (i : Nat) (s : State) : State :=
  let k := cacheSet i
  let l := s.ways k
  if l.any fun w => decide (w.index = i) || (w.evicting && decide (w.forCtx = i)) then s
  else if l.length < 8 then s.setWays k ({ index := i, filling := true } :: l)
  else
    match (l.filter fun w => !w.filling && !w.evicting && !(s.ctx w.index).pinned).getLast? with
    | none => s
    | some w =>
      if w.dirty then s.setWays k (l.map fun v => if v.index = w.index then { v with evicting := true, forCtx := i } else v)
      else s.setWays k ({ index := i, filling := true } :: l.filter fun v => v.index ≠ w.index)

/-- Every context with packets waiting whose set is `k` takes a way where one qualifies. -/
def State.serveSet (k : Nat) (s : State) : State :=
  ((s.xport.missBuf.map (·.ctx)).eraseDups.filter fun i => cacheSet i = k).foldl (fun t i => t.serveMiss i) s

/-- Bytes held in the miss buffer. -/
def State.missBytes (s : State) : Nat := ((s.xport.missBuf.filter fun m => !m.inRx).map (·.len)).sum

/-- A packet of a context arrives (R116 to R118): answers whether it is processed now, and the state after. A packet of a
context that is not cached, or behind others of its context, waits: at most 8 per context; when the buffer is full, with
64 KiB of it kept for pinned contexts, a lossless class's packet stays in its receive queue and a lossy one's is dropped. -/
def State.cacheGate (i port len : Nat) (cmd : Instr) (s : State) : Bool × State :=
  let c := s.ctx i
  let n := (s.xport.missBuf.filter fun m => m.ctx = i).length
  if s.cached i ∧ n = 0 ∧ c.state ≠ 5 then (true, (s.touchHit i).takeFrame port c.cls)
  else
    let s1 := if s.cached i then s else s.bump cCtxMiss (engineOf i)
    let room := if c.pinned then 4194304 else 4194304 - 65536
    let full := decide (room < s.missBytes + len)
    if 8 ≤ n ∨ (full ∧ s.lossless port c.cls = false) then
      (false, (s1.takeFrame port c.cls).bump cMissBufDrop (8 * engineOf i + c.cls))
    else
      let m : MissPkt := { ctx := i, len := len, port := port, inRx := full, cmd := cmd }
      let s2 := if full then s1 else s1.takeFrame port c.cls
      (false, ((s2.updXport fun x => { x with missBuf := x.missBuf ++ [m] }).updCtx i fun x => { x with
        counters := tmod 0 6 (fun k => sat 0xFFFFFFFF (k + 1)) x.counters }).serveMiss i)

end Sys2Proof.Machine
end

