-- ==== Sys2Proof/Machine/LocalOps.lean ====
section
/-! DEFINITION. Operations of the local host port (R460 to R477): DMA, interrupts, completion entries, LTR. -/
namespace Sys2Proof.Machine

/-- The port may start requests to host memory (R467): link up, Bus Master Enable set, not frozen, not in D3hot. -/
def State.lpDma (s : State) : Bool :=
  decide (s.localPort.lState = 2) && s.localPort.bme && !s.localPort.frozen && !s.localPort.d3hot

/-- Signal a vector (R467, R469): nothing once DMA has stopped; under MSI-X a masked vector sets its pending bit, under MSI INTMS masks; otherwise nothing. -/
def State.lpSignal (v : Nat) (s : State) : State :=
  let l := s.localPort
  if s.lpDma = false then s
  else if l.intMode = 2 then
    if l.fnMask ∨ l.unmasked.contains v = false then s.updLocalPort fun x => { x with pendingVec := addOne v x.pendingVec }
    else s.send .interrupt [v] []
  else if l.intMode = 1 then
    if l.intms.toNat.testBit v then s.updLocalPort fun x => { x with pendingVec := addOne v x.pendingVec }
    else s.send .interrupt [v] []
  else s

/-- Write a completion entry of submission queue `qid` into its completion queue, then its interrupt (R469, R470); where DMA
has stopped the entry is lost and counted (R467). Numbers: 0 for the local port, completion queue, CID, status, Dword 0, head of the submission queue. -/
def State.lpPost (qid cid status dw0 : Nat) (s : State) : State :=
  if s.lpDma ∧ s.localPort.cfs = false then
    let sq := tget {} s.localPort.sqs qid
    let cq := tget {} s.localPort.cqs sq.cq
    let t := (s.send .completion [0, sq.cq, cid, status, dw0, sq.head] []).updLocalPort fun x => { x with
      cqs := tadj sq.cq (fun q => { q with tail := (q.tail + 1) % max 1 q.size }) x.cqs }
    t.lpSignal cq.iv
  else s.bump cLpCqeLost 0

/-- The port is active: a command slot of it in use, or a mailbox request BUSY (R471). -/
def State.lpActive (s : State) : Bool := s.localPort.mbox.busy || s.cmds.slots.any fun p => p.2.localPort

/-- A latency in ns as LTR encodes it: the largest value that LTR can represent without exceeding it, scale in [12:10]. -/
def ltrEncode (ns : Nat) : Nat :=
  match (List.range 6).find? fun k => decide (ns / 32 ^ k < 1024) with
  | some k => 2 ^ 15 + k * 2 ^ 10 + ns / 32 ^ k
  | none => 2 ^ 15 + 5 * 2 ^ 10 + 1023

/-- The latency an LTR field stands for. -/
def ltrDecode (f : Nat) : Nat := f % 1024 * 32 ^ (bits f 12 10)

/-- The Snoop field the conditions of R471 ask for now. -/
def State.ltrWanted (s : State) : Nat :=
  let recent := decide (s.now < s.localPort.lastActiveNs + 100000) && decide (s.localPort.lastActiveNs ≠ 0)
  let ns := us (if s.lpActive || recent then s.localPortCfgLtrActiveUs else s.localPortCfgLtrIdleUs)
  ltrEncode (min ns (ltrDecode s.localPort.maxSnoop))

/-- Send an LTR message. -/
def State.ltrSend (f : Nat) (s : State) : State :=
  ((s.send .ltr [f] []).updLocalPort fun l => { l with ltrLast := f, ltrSentNs := s.now, ltrHeld := none }).bump cLpLtrMsgs 0

/-- The value of R471 may have changed: a change is sent, or held to the end of the 10 µs hold. -/
def State.ltrUpdate (s : State) : State :=
  if s.localPort.ltrEnable then
    let f := s.ltrWanted
    if f = s.localPort.ltrLast then s.updLocalPort fun l => { l with ltrHeld := none }
    else if s.localPort.ltrLast = 0 ∨ s.localPort.ltrSentNs + 10000 ≤ s.now then s.ltrSend f
    else s.updLocalPort fun l => { l with ltrHeld := some f }
  else s

/-- The port is used: the 100 µs idle period starts again (R471). -/
def State.lpUsed (s : State) : State := (s.updLocalPort fun l => { l with lastActiveNs := s.now }).ltrUpdate

/-- A memory access of the local host reaches BAR 0: link up, not frozen (R466, R472). It shows the function in D0. -/
def State.lpReached (s : State) : Bool := decide (s.localPort.lState = 2) && !s.localPort.frozen

/-- A CCP session ends (R489): its keys, staging, cache and held long reply go with it, and its units are freed (R510). -/
def State.dropSession (id : Nat) (s : State) : State :=
  s.updCcp fun c => { c with
    sessions := tdel c.sessions id
    cvuWaiting := c.cvuWaiting.filter fun w => w.h.session ≠ id
    cvus := tkeep (fun _ u => !(decide (u.holder = 2) && decide (u.session = id))) c.cvus }

/-- Every session of a transport ends (R466). -/
def State.dropTransport (transport : Nat) (s : State) : State :=
  (tkeys (s.ccp.sessions.filter fun e => decide (e.2.transport = transport))).foldl (fun t id => t.dropSession id) s

end Sys2Proof.Machine
end

