-- ==== Sys2Proof/Machine/CmdOps.lean ====
section
/-! DEFINITION. Operations of the host command layer (R142 to R170): status codes, command slots, completions, triggered
chains, replay records, Fox tags, fabric controllers and votes. -/
namespace Sys2Proof.Machine

/-! ### Status codes: status code type × 256 + status code (log 28) -/

/-- Successful Completion. -/
def stOk : Nat := 0x000
/-- Invalid Command Opcode. -/
def stBadOpcode : Nat := 0x001
/-- Invalid Field in Command. -/
def stBadField : Nat := 0x002
/-- Command Abort Requested. -/
def stAborted : Nat := 0x007
/-- Invalid Namespace or Format. -/
def stBadNs : Nat := 0x00B
/-- Command Sequence Error. -/
def stSequence : Nat := 0x00C
/-- Transient Transport Error. -/
def stTransport : Nat := 0x022
/-- LBA Out of Range. -/
def stRange : Nat := 0x080
/-- Namespace Not Ready. -/
def stNotReady : Nat := 0x082
/-- Abort Command Limit Exceeded. -/
def stAbortLimit : Nat := 0x103
/-- Asynchronous Event Request Limit Exceeded. -/
def stAerLimit : Nat := 0x105
/-- Invalid Log Page. -/
def stBadLog : Nat := 0x109
/-- Connect Invalid Parameters. -/
def stConnParam : Nat := 0x182
/-- Connect Invalid Host. -/
def stConnHost : Nat := 0x184
/-- Write Fault. -/
def stWriteFault : Nat := 0x280
/-- Unrecovered Read Error. -/
def stUre : Nat := 0x281
/-- End-to-end Guard Check Error. -/
def stGuard : Nat := 0x282
/-- End-to-end Application Tag Check Error. -/
def stAppTag : Nat := 0x283
/-- End-to-end Reference Tag Check Error. -/
def stRefTag : Nat := 0x284
/-- Compare Failure. -/
def stCompare : Nat := 0x285
/-- Access Denied. -/
def stDenied : Nat := 0x286
/-- CONFLICT of R43: type 7h, code 0xC1. -/
def stConflict : Nat := 0x7C1

/-! ### Slots -/

/-- One command slot. -/
def State.slot (s : State) (n : Nat) : Slot := tget {} s.cmds.slots n

/-- The slot is in use. -/
def State.slotUsed (s : State) (n : Nat) : Bool := thas s.cmds.slots n

/-- Change a slot that is in use. -/
def State.updSlot (n : Nat) (f : Slot → Slot) (s : State) : State :=
  s.updCmds fun m => { m with slots := tadj n f m.slots }

/-- Read-kind commands: Read, Compare, Verify (R174). -/
def readKind (op : Nat) : Bool := op == 0x02 || op == 0x05 || op == 0x0C

/-- Write-kind commands: Write, Write Zeroes, Dataset Management (R174). -/
def writeKind (op : Nat) : Bool := op == 0x01 || op == 0x08 || op == 0x09

/-- One fabric controller. -/
def State.fab (s : State) (c : Nat) : FabCtrl := tget {} s.cmds.fab c

/-- Change a fabric controller that exists. -/
def State.updFab (c : Nat) (f : FabCtrl → FabCtrl) (s : State) : State :=
  s.updCmds fun m => { m with fab := tadj c f m.fab }

/-- Slots a tenant holds now (R151). -/
def State.tenantSlots (s : State) (t : Nat) : Nat := tcount (fun _ p => decide (p.tenant = t)) s.cmds.slots

/-- Tenants whose TENANT_SLOTS object has been written. -/
def State.slotTenants (s : State) : List Nat :=
  (s.regs.filter fun r => decide (r.1 / 16384 = 3 * 1024 + 3)).map fun r => r.1 % 16384

/-- Unused guarantees of the tenants other than `t` (R151). -/
def State.guaranteesLeft (s : State) (t : Nat) : Nat :=
  ((s.slotTenants.filter fun u => u ≠ t).map fun u => s.tenantSlotsSlotMin u - s.tenantSlots u).sum

/-- Slots that are free and not reserved for an admin queue (R151). -/
def State.slotsFree (s : State) : Nat := 262144 - s.cmds.slots.length - s.cmds.fab.length

/-- A tenant may take a slot now (R151). -/
def State.slotAllowed (s : State) (t : Nat) : Bool :=
  let used := s.tenantSlots t
  if used < s.tenantSlotsSlotMin t then decide (0 < s.slotsFree)
  else decide (used < s.tenantSlotsSlotMax t) && decide (s.guaranteesLeft t < s.slotsFree)

/-- The lowest free slot number. -/
def State.freeSlot (s : State) : Option Nat := tfreeFrom s.cmds.slots 0 (min 262144 (s.cmds.slots.length + 1))

/-! ### Namespaces as a host sees them (R145) -/

/-- One namespace. -/
def State.ns (s : State) (h : Nat) : Ns := tget {} s.cipher.ns h

/-- Change a namespace that exists. -/
def State.updNs (h : Nat) (f : Ns → Ns) (s : State) : State :=
  s.updCipher fun c => { c with ns := tadj h f c.ns }

/-- The namespace is attached to a host identity (R145). -/
def State.attached (s : State) (h host : Nat) : Bool :=
  (tget 0 s.cmds.nsHosts (128 * h + host / 64)).testBit (host % 64)

/-- Data bytes of a host block: FORMAT [0] (R275, R501). -/
def hostData (fmt : Nat) : Nat := if fmt % 2 = 1 then 4096 else 512

/-- Metadata bytes of a host block: FORMAT [2:1] (R275, R501). -/
def hostMeta (fmt : Nat) : Nat := 8 * bits fmt 2 1

/-- Bytes of a host block as transferred: an extended LBA (R275). -/
def hostBlock (fmt : Nat) : Nat := hostData fmt + hostMeta fmt

/-- Host blocks of a stored block. -/
def hostPerBlk (fmt : Nat) : Nat := 4096 / hostData fmt

/-- Stored blocks of a namespace: 262,144 of each extent (R208). -/
def Ns.blocks (n : Ns) : Nat := n.extents * 262144

/-! ### Fox tags (R519 to R522) -/

/-- Record the time of stage `k` of a tagged command, once (R520, R521). -/
def State.stage (n k : Nat) (s : State) : State :=
  s.updTelem fun t => { t with foxLive := tadj n (fun f =>
    if thas f.stages k then f
    else { f with stages := tput f.stages k (let d := s.now - f.t0; if 4290000000 ≤ d then 0xFFFFFFFE else d) }) t.foxLive }

/-- Write a record into FOX_RING (R522). -/
def State.foxWrite (f : FoxTag) (s : State) : State :=
  s.updTelem fun t => { t with
    foxRing := tput t.foxRing t.foxHead { f with seq := t.foxSeq }, foxHead := (t.foxHead + 1) % 1048576
    foxWraps := if t.foxHead + 1 = 1048576 then sat 255 (t.foxWraps + 1) else t.foxWraps
    foxSeq := (t.foxSeq + 1) % 2 ^ 32 }

/-- The key under which the tag of a write waits for its larder versions to go, its slot being free (R520 stage 11). -/
def foxKey (stamp : Nat) : Nat := 262144 + stamp

/-- The slot of a tagged command is released: its record is written, or, of a write with versions in the larder, waits for
them (R520, R522). -/
def State.foxEnd (n : Nat) (s : State) : State :=
  match tfind s.telem.foxLive n with
  | none => s
  | some f =>
    let p := s.slot n
    let g : FoxTag := { f with
      stamp := p.stamp.toNat, status := p.status
      flags := f.flags + (if p.deferRed then 2 else 0) + (if p.writeThrough then 16 else 0) + (if p.status ≠ 0 then 64 else 0) }
    let t := s.updTelem fun x => { x with foxLive := tdel x.foxLive n }
    if writeKind p.opcode ∧ s.layout.larder.any (fun e => e.2.stamp == p.stamp) then
      t.updTelem fun x => { x with foxLive := tput x.foxLive (foxKey p.stamp.toNat) g }
    else
      let d := s.now - g.t0
      let st := if writeKind p.opcode then g.stages else tput g.stages 11 (if 4290000000 ≤ d then 0xFFFFFFFE else d)
      t.foxWrite { g with stages := st }

/-- The last larder version of a stamp has gone: the record of its tagged write is written (R520, R522). -/
def State.foxStamp (stamp : Nat) (s : State) : State :=
  match tfind s.telem.foxLive (foxKey stamp) with
  | none => s
  | some _ =>
    let t := s.stage (foxKey stamp) 11
    match tfind t.telem.foxLive (foxKey stamp) with
    | none => t
    | some g => (t.updTelem fun x => { x with foxLive := tdel x.foxLive (foxKey stamp) }).foxWrite g

/-! ### Completions -/

/-- The head pointer a completion of a queue carries (R149). -/
def State.sqhd (s : State) (cntlid qid : Nat) : Nat := (tget (0, 0, 0) (s.fab cntlid).queues qid).2.2

/-- The bytes of a completion entry; `dw0` fills Dwords 0 and 1. -/
def cqeBytes (dw0 sqhd qid cid status : Nat) : Bytes :=
  leBytes 8 dw0 ++ leBytes 2 sqhd ++ leBytes 2 qid ++ leBytes 2 cid ++ leBytes 2 (2 * status)

/-- A response capsule. Numbers: 1 for a fabric connection, context, CID, status, Dword 0, SQHD. -/
def respOut (i qid cid status dw0 sqhd : Nat) : Out :=
  { kind := .completion, args := [1, i, cid, status, dw0, sqhd], data := cqeBytes dw0 sqhd qid cid status }

/-- Send a response on a connection whose PDUs need no earlier plan: at once in M2 and M4; in M3 its send record goes to the
partner first (R379). -/
def State.respond (i slot : Nat) (o : Out) (s : State) : State :=
  if s.paired then
    let t := s.plan i slot 3 [16]
    let t1 := t.updPlan i slot fun p => if p.plan = 3 then { p with msgs := some [(16, o)] } else p
    match t1.planOf i slot with
    | some p => t1.settSend 0x44 [slot, p.first, p.last, 3, i] []
    | none => t1
  else s.sendMsg i 16 o

/-- Count a completion (R170, R515): by tenant, and by namespace for an I/O command. -/
def State.countDone (n : Nat) (s : State) : State :=
  let p := s.slot n
  let s1 := s.bump cCmdDone p.tenant
  if p.admin then s1
  else
    let h := p.handle
    let bytes := p.nlb * hostBlock (s.ns h).format
    let lat := delayBucket (1000 * ((s.nowUs + 2 ^ 32 - p.arrivalUs) % 2 ^ 32))
    let s2 :=
      if readKind p.opcode then ((s1.bump cReadCmds h).bumpN cReadBytes h bytes).bump (cLat0.1, cLat0.2 + lat) h
      else if writeKind p.opcode then ((s1.bump cWriteCmds h).bumpN cWriteBytes h bytes).bump (cLat0.1, cLat0.2 + lat) h
      else s1.bump cOtherCmds h
    let s3 := if p.status = 0 then s2 else s2.bump cErrorCmds h
    if p.status = stUre then s3.bump cUreCmds h else s3

/-- Revoke the window a command names (R126). -/
def State.revokeOf (n : Nat) (s : State) : State :=
  match (s.slot n).pushWin with
  | some (w, _) => s.revoke (s.slot n).ctx w
  | none => s

/-- The key that follows the window of a command, for Dword 0 (R126). -/
def State.nextKey (s : State) (n : Nat) : Nat :=
  match (s.slot n).pushWin with
  | some (w, g) => pushKey (s.slot n).ctx w ((g + 1) % 32)
  | none => 0

/-- Post the completion of a slot: the slot is ENDING, and the completion is handed to egress unless the command ends
internally; a stamped write of a local port whose DMA has stopped loses its entry (R467). A command whose PDUs were planned completes its
plan (R153, R379). -/
def State.postNow (n : Nat) (s : State) : State :=
  let p0 := s.slot n
  let dw0 := if p0.pushWin.isSome then s.nextKey n else p0.dw0
  let s1 := (s.stage n 10).updSlot n fun p => { p with state := 5, dw0 := dw0 }
  if p0.ended then s1.when (p0.localPort && s.localPort.cfs && decide (p0.stamp ≠ 0) && writeKind p0.opcode) fun t => t.bump cLpCqeLost 0
  else
    let s2 := s1.countDone n
    if p0.localPort then s2.lpPost p0.qid p0.cid p0.status dw0
    else
      let o := respOut p0.ctx p0.qid p0.cid p0.status dw0 (s.sqhd p0.cntlid p0.qid)
      match s2.planOf p0.ctx n with
      | some q =>
        if q.plan = 2 then s2.respond p0.ctx n o
        else (s2.updPlan p0.ctx n fun x => if x.plan = 2 then x else
          { x with msgs := some ((x.msgs.getD []) ++ [(16, o)]) }).flushPlans p0.ctx
      | none => s2.respond p0.ctx n o

/-- Post the completion of a slot, or during a hold-up destage keep it until that ends (R233). -/
def State.postCompletion (n : Nat) (s : State) : State :=
  match s.layout.holdup with
  | some h => s.updLayout fun l => { l with holdup := some { h with owed := addOne n h.owed } }
  | none => s.postNow n

/-- The threshold of a template in force (R135, R137). -/
def State.threshold (s : State) (c : Chain) : Nat := if s.paired then c.threshPaired else c.threshAlone

/-- How many of the masked event kinds a command has seen (R137). -/
def seenCount (seen : BitVec 4) (mask : Nat) : Nat := ((List.range 4).filter fun k => seen.toNat.testBit k && mask.testBit k).length

/-- Send the mirror record of what a write placed in the own larder (R220, R375): its slot, stamp and versions. The positions of its response
are planned, and the confirmation of the record confirms them (R379). -/
def State.sendMirror (n : Nat) (s : State) : State :=
  let p := s.slot n
  let near := p.writes.filter fun w => !w.far
  if near = [] then s
  else
    let t := if !s.paired || p.localPort || !p.ranges.isEmpty || (s.planOf p.ctx n).isSome then s else s.plan p.ctx n 3 [16]
    t.settSend 0x20 ([n, s.self, p.handle, p.pieceStamp.toNat, near.length] ++ (near.map fun v => [v.lslot, v.blk]).flatten)
      ((near.map fun w => w.cipher ++ w.trailer).flatten)

/-- Carry out the action of a template for a command (R135). -/
def State.chainAction (n action : Nat) (s : State) : State :=
  if action = 1 ∨ action = 3 then s.postCompletion n
  else if action = 2 then s.sendMirror n
  else if action = 4 then s.revokeOf n
  else s

/-- Fire template `t` of a command and the one it names in NEXT (R135, R137). -/
def State.fireChain (n t : Nat) (cs : Tbl Chain) (s : State) : State :=
  let c := tget {} cs t
  let p := s.slot n
  let s1 := s.updSlot n fun x => { x with fired := x.fired ||| BitVec.ofNat 4 (2 ^ t) }
  let s2 := if p.localPort then s1 else s1.updCtx p.ctx fun x => { x with
    chains := tadj t (fun y => { y with fireCount := sat 0xFFFFFFFF (y.fireCount + 1) }) x.chains }
  let s3 := s2.chainAction n c.action
  if c.next < 4 then s3.chainAction n (tget {} cs c.next).action else s3

/-- Evaluate the templates of a command: each fires once, when its count first reaches the threshold in force (R137). -/
def State.evalChains (n : Nat) (s : State) : State :=
  let p := s.slot n
  let cs := if p.localPort then localChains else (s.ctx p.ctx).chains
  [0, 1, 2, 3].foldl (fun u t =>
    let c := tget {} cs t
    let th := u.threshold c
    let q := u.slot n
    if u.slotUsed n ∧ th ≠ 0 ∧ c.triggerMask ≠ 0 ∧ q.fired.toNat.testBit t = false ∧ th ≤ seenCount q.seen c.triggerMask then u.fireChain n t cs
    else u) s

/-- An event of a command: each kind counts once (R137). Kinds: 0 placed, 1 mirrored, 2 last read data handed to egress, 3
ended with an error. -/
def State.trigger (n kind : Nat) (s : State) : State :=
  let p := s.slot n
  if s.slotUsed n ∧ p.seen.toNat.testBit kind = false then
    (s.updSlot n fun x => { x with seen := x.seen ||| BitVec.ofNat 4 (2 ^ kind) }).evalChains n
  else s

/-- A command ends with an error status (R135, event [3]). -/
def State.failCmd (n status : Nat) (s : State) : State :=
  if s.slotUsed n ∧ (s.slot n).state < 5 then (s.updSlot n fun p => { p with status := status }).trigger n 3 else s

/-- A command ends internally: no completion is posted; its window is revoked (R126, R147). -/
def State.endCmd (n : Nat) (s : State) : State :=
  (s.updSlot n fun p => { p with ended := true, state := 5 }).revokeOf n

/-! ### Replay records (R163 to R166) -/

/-- Put a replay record: a free or closed record, else the oldest open one, closed early and counted (R165). -/
def State.putReplay (r : Replay) (s : State) : State :=
  if s.cmds.replays.length < 4194304 then
    s.updCmds fun m => { m with replays := tput m.replays m.nextReplay r, nextReplay := m.nextReplay + 1 }
  else
    match s.cmds.replays.find? fun e => !e.2.isOpen with
    | some e => s.updCmds fun m => { m with replays := tput m.replays e.1 r }
    | none =>
      let oldest := s.cmds.replays.foldl (fun (a : Nat × Nat × Nat) e => if e.2.openedNs < a.2.1 then (e.1, e.2.openedNs, e.2.ctx) else a) (0, 2 ^ 64, 0)
      (s.updCmds fun m => { m with replays := tput m.replays oldest.1 r }).bump cReplayEvict (engineOf oldest.2.2)

/-- The five fields that identify a capsule (R163). -/
def replayMatch (r : Replay) (ctx gen qid cid pos : Nat) : Bool :=
  decide (r.ctx = ctx) && decide (r.ctxGen = gen) && decide (r.qid = qid) && decide (r.cid = cid) && decide (r.pos = pos)

/-- The drive tags of a slot have all been returned (R153): no outstanding tag reads for it. -/
def State.tagsBack (s : State) (n : Nat) : Bool :=
  s.drives.ports.all fun p => p.2.tags.all fun t =>
    !(decide (t.2.tState = 1) && decide (t.2.cmd.cslot = n) && (t.2.cmd.owner == 0 || t.2.cmd.owner == 1 || t.2.cmd.owner == 8))

/-! ### Admin commands -/

/-- The queue of an admin command exists: the local controller while enabled, or a live fabric controller on its own
connection. -/
def State.adminOk (s : State) (q : AdminCmd) : Bool :=
  if q.cntlid = 0 then s.localPort.enabled && s.localPort.rdy
  else s.inService && (s.fab q.cntlid).live && decide ((s.fab q.cntlid).adminCtx = q.ctx) && decide ((s.ctx q.ctx).state = 2)

/-- Any command or Keep Alive restarts the keep-alive timer of its fabric controller (R146). -/
def State.katoRestart (c : Nat) (s : State) : State := s.updFab c fun f => { f with katoNs := s.now }

/-- One entry of the host identity table. -/
def State.host (s : State) (h : Nat) : HostEntry := tget {} s.cmds.hosts h

/-- The tenant of a fabric controller, or of the local port's host identity. -/
def State.adminTenant (s : State) (c : Nat) : Nat :=
  if c = 0 then (s.host s.cmdCfgLocalHostId).tenant else (s.fab c).tenant

/-- Write the replay record of an admin or Fabrics command whose completion has been posted; in M3 the partner gets it too (R165, R375). -/
def State.adminReplay (ctx qid cid pos crc status dw0 : Nat) (s : State) : State :=
  let c := s.ctx ctx
  let r : Replay := {
    ctx := ctx, ctxGen := c.ctxGen, qid := qid, cid := cid, pos := pos, sqeCrc := crc, isOpen := decide (c.state = 2), admin := true
    status := status, dw0 := dw0, openedNs := s.now, respPos := (c.sndNxt.toNat + 2 ^ 32 - 1) % 2 ^ 32 }
  (s.putReplay r).settIfPaired 0x45 [262144 + cid, ctx, r.ctxGen, qid, cid, pos, 0, r.isOpen.toNat, status, dw0] []

/-- Post the completion of an admin or Fabrics command: its slot is free, and its replay record is written (R165, R170). -/
def State.adminDone (q : AdminCmd) (status dw0 : Nat) (s0 : State) : State :=
  let s := s0.bump cCmdDone (s0.adminTenant q.cntlid)
  if q.cntlid = 0 then s.lpPost 0 q.cid status dw0
  else
    let own := ((s.fab q.cntlid).held.find? fun h => h.cid = q.cid).getD q
    let t := s.updFab q.cntlid fun f => { f with held := f.held.filter fun h => h.cid ≠ q.cid }
    (t.respond q.ctx (262144 + q.cid) (respOut q.ctx 0 q.cid status dw0 (s.sqhd q.cntlid 0))).adminReplay q.ctx 0 q.cid own.pos own.sqeCrc status dw0

/-- Send data of an admin command to the host before its completion: an RDMA WRITE, a C2HData PDU, or a write to host memory.
Numbers: context or 0, CID, then what the data reports. -/
def State.adminData (q : AdminCmd) (report : List Nat) (data : Bytes) (s : State) : State :=
  if q.cntlid = 0 then s.when s.lpDma fun t => t.send .hostData ([0, q.cid] ++ report) data
  else s.sendMsg q.ctx data.length { kind := .hostData, args := [q.ctx, q.cid] ++ report, data := data }

/-- Send data of an admin command whose contents are reported by number rather than by byte: `len` bytes on the wire (log 36). -/
def State.adminReport (q : AdminCmd) (len : Nat) (report : List Nat) (s : State) : State :=
  if q.cntlid = 0 then s.when s.lpDma fun t => t.send .hostData ([0, q.cid] ++ report) []
  else s.sendMsg q.ctx len { kind := .hostData, args := [q.ctx, q.cid] ++ report }

/-! ### Power-state votes (R53 to R55) -/

/-- The votes held: fabric controllers with at least one I/O queue, and the local controller while CC.EN = 1 (R53). -/
def State.votes (s : State) : List Nat :=
  (s.cmds.fab.filterMap fun f => if f.2.live && decide (1 < f.2.queues.length) then some f.2.vote else none) ++
  (if s.localPort.enabled then [s.localPort.vote] else [])

/-- The device power state the votes ask for: the shallowest of all, no deeper than PS_FLOOR, which is it with no votes (R53). -/
def State.votedPs (s : State) : Nat :=
  match s.votes with
  | [] => s.powerCfgPsFloor
  | v :: vs => min (vs.foldl min v) s.powerCfgPsFloor

/-- The effects of a device power state (R52, R345): on entry into PS1 the device shapers are in force, from tokens 0; out of it they stay only for
a throttle; in PS2 Badger and reshape pause. -/
def State.psEffects (ps : Nat) (s : State) : State :=
  ((if ps = 1 ∧ s.modes.nvmePs ≠ 1 then s.updQos fun q => { q with device := s.freshShapers } else s.shapersAs (decide (ps = 1) || s.elec.throttle)).updModes
    fun m => { m with psEntry := none, nvmePs := ps, psBadgerPaused := decide (ps = 2) })

/-- On leaving PS2 every drive that is in a non-operational state is set to power state 0 (R421). -/
def State.drivesAwake (s : State) : State :=
  (tkeys (s.drives.ports.filter fun p => p.2.drivePs ≠ 0)).foldl (fun u n =>
    (u.updDrives fun d => { d with ports := tadj n (fun p => { p with drivePs := 0 }) d.ports }).send .driveAdmin [n, 2, 0] []) s

/-- A shallower device power state takes effect; an entry that is running is cancelled and its waiting Set Features complete
(R54, R55). -/
def State.psNow (ps : Nat) (s : State) : State :=
  let waiting := match s.modes.psEntry with
    | some e => e.waiting
    | none => []
  let t := (s.psEffects ps).when (decide (ps < 2) && decide (s.modes.nvmePs = 2)) State.drivesAwake
  waiting.foldl (fun u w => u.adminDone { ctx := (u.fab w.1).adminCtx, cntlid := w.1, cid := w.2 } stOk 0) t

/-- Recompute the device power state from the votes (R53, R54): a deeper one begins an entry, a shallower one takes effect and
cancels a running entry. Outside the service modes no vote is held. -/
def State.recomputePs (s : State) : State :=
  if s.inService then
    let v := s.votedPs
    if s.modes.nvmePs < v then
      match s.modes.psEntry with
      | some e => if e.target = v then s else
          s.updModes fun m => { m with psEntry := some { e with target := v } }
      | none => s.updModes fun m => { m with psEntry := some { target := v, waiting := [] } }
    else if v < s.modes.nvmePs ∨ s.modes.psEntry.isSome then s.psNow v
    else s
  else s

/-- An I/O command at a fabric controller whose vote is PS2 returns that vote to its last operational state (R55). -/
def State.ioVote (cntlid : Nat) (s : State) : State :=
  if cntlid = 0 then
    if s.localPort.vote = 2 then (s.updLocalPort fun l => { l with vote := l.lastOper }).recomputePs else s
  else if (s.fab cntlid).vote = 2 then
    (s.updFab cntlid fun f => { f with vote := f.lastOper }).recomputePs
  else s

/-- The NVMe controller registers return to their reset values: queues deleted, CC, CSTS and INTMS as after reset, and with them the
port's power vote and the entry of its controller (R53, R466, R468, R473). -/
def State.lpNvmeReset (s : State) : State :=
  ((s.updLocalPort fun l => { l with
    enabled := false, heldEnable := false, rdy := false, cfs := false, disabling := false, errEvent := none, shn := 0, shst := 0
    intms := 0, sqs := [], cqs := [], vote := 0, lastOper := 0 }).updCmds fun c => { c with fab := tdel c.fab 0 }).recomputePs

/-- Every command slot of the port is FREE. -/
def State.lpQuiet (s : State) : Bool := s.cmds.slots.all fun p => !p.2.localPort

/-- What waits for the port's last command: CC.EN = 0 deletes the queues (R468), CC.SHN reports shutdown complete (R463). -/
def State.lpDrained (s : State) : State :=
  if s.lpQuiet then
    if s.localPort.disabling then s.lpNvmeReset
    else if s.localPort.shn ≠ 0 then s.updLocalPort fun l => { l with shst := 2 }
    else s
  else s

/-- A slot returns to FREE (R153, R165): its replay record is written, and in M3 sent to the partner; its connection may now
leave ERROR or DRAINING (R109). -/
def State.releaseSlot (n : Nat) (s : State) : State :=
  let p := s.slot n
  let c := s.ctx p.ctx
  let r : Replay := {
    ctx := p.ctx, ctxGen := c.ctxGen, qid := p.qid, cid := p.cid, pos := p.pos, stamp := p.stamp, sqeCrc := p.sqeCrc
    isOpen := !p.ended && decide (c.state = 2), opcode := p.opcode, admin := p.admin, handle := p.handle, status := p.status
    dw0 := p.dw0, slba := if p.opcode = 2 ∨ p.opcode = 5 then p.slba else 0
    nlb := if p.opcode = 2 ∨ p.opcode = 5 then p.nlb - 1 else 0, openedNs := s.now, respPos := (c.sndNxt.toNat + 2 ^ 32 - 1) % 2 ^ 32 }
  let s1 := if p.localPort ∨ p.replay then s else s.putReplay r
  let s2 := if p.localPort ∨ p.replay then s1
    else s1.settIfPaired 0x45 [n, r.ctx, r.ctxGen, r.qid, r.cid, r.pos, r.stamp.toNat, r.isOpen.toNat, r.status, r.dw0] []
  let s3 := s2.foxEnd n
  let s4 := s3.updCmds fun m => { m with slots := tdel m.slots n }
  (if p.localPort then s4.lpUsed.lpDrained else s4.settleCtx p.ctx)

end Sys2Proof.Machine
end

