-- ==== Sys2Proof/Machine/DriveOps.lean ====
section
/-! DEFINITION. Operations of the drive ports (R402 to R424): which ports exist, handing a command to drive dispatch, tags. -/
namespace Sys2Proof.Machine

/-- One root port. -/
def State.dport (s : State) (n : Nat) : DrivePort := tget {} s.drives.ports n

/-- Change one root port. -/
def State.updDport (n : Nat) (f : DrivePort → DrivePort) (s : State) : State :=
  s.updDrives fun d => { d with ports := tmod {} n f d.ports }

/-- The ports of a bifurcation code within its group, with their widths (R402). -/
def groupPorts (code : Nat) : List (Nat × Nat) :=
  match code with
  | 0 => [(0, 8)]
  | 1 => [(0, 4), (2, 4)]
  | 2 => [(0, 2), (1, 2), (2, 4)]
  | 3 => [(0, 4), (2, 2), (3, 2)]
  | _ => [(0, 2), (1, 2), (2, 2), (3, 2)]

/-- The lanes of root port `n`, 0 where it does not exist (R402). -/
def State.portLanes (s : State) (n : Nat) : Nat :=
  match (groupPorts (s.laneGrpBifur (n / 4))).find? fun p => p.1 = n % 4 with
  | some p => p.2
  | none => 0

/-- Root port `n` exists (R402). -/
def State.portExists (s : State) (n : Nat) : Bool := decide (0 < s.portLanes n)

/-- The drive of a slot is in use: its port is UP (R417). -/
def State.driveUp (s : State) (n : Nat) : Bool := decide ((s.dport n).dState = 4)

/-- The strict class of a command at drive dispatch by its owner, none for the weighted group and the background point (R338). -/
def driveClass (c : DriveCmd) : Option Nat :=
  if c.owner = 4 ∨ c.owner = 5 then some 0 else if c.owner = 3 then some 1 else if c.owner = 7 then some 3 else none

/-- The cost of a drive command: its transfer length, 4,096 bytes for one that moves no data (R341). -/
def driveCost (c : DriveCmd) : Nat := if c.op < 2 ∨ c.op = 3 then 4160 * c.blocks else 4096

/-- Hand a command to drive dispatch of its slot: a strict class, or the weighted group of a tenant (R338). -/
def State.submitAs (cls : Option Nat) (tenant : Nat) (c : DriveCmd) (s : State) : State :=
  let it : QItem := { num := s.qos.nextItem, cost := driveCost c, tenant := tenant, cmd := c }
  (s.updQos fun q => { q with nextItem := q.nextItem + 1 }).enqueue 1 c.slot cls it

/-- Hand a command to drive dispatch in the class its owner gives. -/
def State.submit (tenant : Nat) (c : DriveCmd) (s : State) : State := s.submitAs (driveClass c) tenant c

/-- The commands of at most 16 stored blocks that move a longer run (R408). -/
def splitCmd (c : DriveCmd) : List DriveCmd :=
  (List.range (ceilDiv c.blocks 16)).map fun i =>
    { c with lba := c.lba + 16 * i, blocks := min 16 (c.blocks - 16 * i), data := (c.data.drop (16 * i * 4160)).take (16 * 4160) }

/-- Hand a run of blocks to drive dispatch in a strict class. -/
def State.submitRun (cls : Option Nat) (tenant : Nat) (c : DriveCmd) (s : State) : State :=
  (splitCmd c).foldl (fun t x => t.submitAs cls tenant x) s

/-- A command that the background point has issued waits at drive dispatch of its slot, after the strict classes and the weighted group (R339): the
FIFO numbered 4. Its background class is kept, 4 for the weighted group. -/
def State.submitIssued (cls : Nat) (it : QItem) (s : State) : State := s.enqueue 1 it.cmd.slot (some 4) { it with cls := cls }

/-- Bytes of the staging region that background commands hold: issued by the background point and not complete (resource 10 of R41). -/
def State.backStaging (s : State) : Nat :=
  (s.qos.drive.map fun d => ((tget [] d.2.strict 4).map (·.cost)).sum).sum +
  (s.drives.ports.map fun p => (p.2.tags.map fun t => if 3 ≤ t.2.claimant ∧ t.2.claimant ≤ 5 then driveCost t.2.cmd else 0).sum).sum

/-- Hand a command to the background point of a pool: classes of R338, or the weighted group of a tenant (class none). -/
def State.submitBack (pool : Nat) (cls : Option Nat) (tenant : Nat) (c : DriveCmd) (s : State) : State :=
  let it : QItem := { num := s.qos.nextItem, cost := driveCost c, tenant := tenant, cmd := c }
  (s.updQos fun q => { q with nextItem := q.nextItem + 1 }).enqueue 2 pool cls it

/-- The kind of a tag by its command (R410). -/
def tagKind (op : Nat) : Nat := if op = 0 then 0 else if op = 1 then 1 else if op = 3 then 2 else if op = 4 then 3 else 4

/-- The claimant of resource 14 of a command (R410). -/
def tagClaimant (background : Option Nat) (c : DriveCmd) : Nat :=
  match background with
  | some 2 => 4
  | some 3 => 5
  | some 4 => 5
  | some _ => 3
  | none => if c.owner = 0 ∨ c.owner = 1 ∨ c.owner = 8 then 1 else if c.owner = 2 then 2 else 6

/-- Tags outstanding or quarantined. -/
def DrivePort.tagsIn (p : DrivePort) (st : Nat) : Nat := tcount (fun _ t => decide (t.tState = st)) p.tags

/-- Background tags outstanding: claimants 3 to 5 (R41). -/
def DrivePort.backTags (p : DrivePort) : Nat :=
  tcount (fun _ t => decide (t.tState = 1) && decide (3 ≤ t.claimant) && decide (t.claimant ≤ 5)) p.tags

/-- The background limit of a drive: 1,024, or T / 4 where it holds fewer tags than 1,024 (R41, R407). -/
def DrivePort.backLimit (p : DrivePort) : Nat := if p.tagCount < 1024 then p.tagCount / 4 else 1024

/-- The lowest free tag: queue pair q holds tags (q - 1) × 256 to (q - 1) × 256 + D - 2 (R407). -/
def DrivePort.freeTag (p : DrivePort) : Option Nat :=
  if p.tagCount ≤ p.tags.length then none
  else (List.range (256 * p.queueCount)).find? fun t => decide (t % 256 + 1 < p.queueDepth) && !thas p.tags t

/-- The root port can carry a command: UP, not contained; a link in L1 returns to L0 for it (R340, R421). -/
def DrivePort.ready (p : DrivePort) : Bool := decide (p.dState = 4)

/-- Make a command visible to its drive under a free tag (R410, R411). Numbers sent: slot, tag, operation, LBA, blocks,
owner. -/
def State.visible (c : DriveCmd) (background : Option Nat) (s : State) : State :=
  match (s.dport c.slot).freeTag with
  | none => s
  | some t =>
    let g : Tag := { tState := 1, claimant := tagClaimant background c, kind := tagKind c.op, cmd := c,
                     deadlineUs := if c.op = 0 then (s.nowUs + s.drivePortCfgCmdToUs c.slot) % 2 ^ 32 else 0, issuedNs := s.now }
    let u := (s.updDport c.slot fun p => { p with tags := tput p.tags t g, inL1 := false, lastUseNs := s.now, drivePs := 0 }).send .driveCmd
      [c.slot, t, c.op, c.lba, c.blocks, c.owner] c.data
    u.when (c.owner == 0) fun v => v.stage c.cslot 7

/-- Free a tag. -/
def State.freeTagOf (slot t : Nat) (s : State) : State := s.updDport slot fun p => { p with tags := tdel p.tags t }

/-- A command to a drive's admin queue or registers: it takes no tag (R339). Numbers: slot, then what is done. -/
def State.driveAdmin (slot : Nat) (what : List Nat) (s : State) : State := s.send .driveAdmin (slot :: what) []

end Sys2Proof.Machine
end

