-- ==== Sys2Proof/Machine/LayoutOps.lean ====
section
/-! DEFINITION. Operations of the layout (R202 to R232): pools and placement, check arithmetic, stripe locks, the larder's
versions, the intent journal and the bitmap. -/
namespace Sys2Proof.Machine

/-! ### Pools and members (R202 to R210, R238) -/

/-- One pool. -/
def State.pool (s : State) (n : Nat) : Pool := tget {} s.layout.pools n

/-- Change one pool. -/
def State.updPool (n : Nat) (f : Pool → Pool) (s : State) : State :=
  s.updLayout fun l => { l with pools := tmod {} n f l.pools }

/-- A geometry of a pool (R203, R207): the one in force, or the target of a reshape (R268). -/
structure Geom where
  /-- data chunks of a stripe -/
  k : Nat
  /-- check chunks of a stripe -/
  m : Nat
  /-- members -/
  width : Nat
  /-- least spare positions of a row -/
  spareMin : Nat
  /-- permutations, as a power of 2 -/
  permLog2 : Nat
  /-- member slots by member index -/
  slots : List Nat
  /-- the permutation table -/
  perm : Bytes
  deriving DecidableEq, Repr

/-- A stripe number with bit [63] set names the new geometry of a reshape (R258). -/
def inNew (stripe : Nat) : Bool := decide (2 ^ 63 ≤ stripe)

/-- W = K + M. -/
def Geom.w (g : Geom) : Nat := g.k + g.m

/-- G, the stripes of a row: (WIDTH - SPARE_MIN) / W. -/
def Geom.g (g : Geom) : Nat := (g.width - g.spareMin) / max 1 g.w

/-- SLAB_STRIPES = 16,384 / K rounded up (R208). -/
def Geom.slabStripes (g : Geom) : Nat := ceilDiv 16384 (max 1 g.k)

/-- Slots of a 64-bit member mask, ascending: member index i is the i-th (R204). -/
def maskSlots (mask : Nat) : List Nat := (List.range 64).filter fun i => mask.testBit i

/-- The member slots of a pool by member index (R204). -/
def State.memberSlots (s : State) (n : Nat) : List Nat := maskSlots (s.word (oid 5 2 n))

/-- The geometry of a pool that a stripe number belongs to. -/
def State.geom (s : State) (n : Nat) (new : Bool) : Geom :=
  if new then { k := s.reshapeCfgK n, m := s.reshapeCfgM n, width := s.reshapeCfgWidth n, spareMin := s.reshapeCfgSpareMin n
                permLog2 := s.reshapeCfgPermLog2 n, slots := maskSlots (s.word (oid 5 11 n)), perm := (tfind s.blobs (oid 5 12 n)).getD [] }
  else { k := s.poolCfgK n, m := s.poolCfgM n, width := s.poolCfgWidth n, spareMin := s.poolCfgSpareMin n
         permLog2 := s.poolCfgPermLog2 n, slots := s.memberSlots n, perm := (tfind s.blobs (oid 5 4 n)).getD [] }

/-- The pool a slot belongs to. -/
def State.poolOfSlot (s : State) (slot : Nat) : Option Nat := (List.range 8).find? fun n =>
  (s.word (oid 5 2 n)).testBit slot || ((s.pool n).reshape.isSome && (s.word (oid 5 11 n)).testBit slot)

/-- The state of a member: 0 PRESENT, 1 MISSING, 2 LISTED, 3 FAILED_UNLISTED (R238). -/
def State.memberState (s : State) (n slot : Nat) : Nat := tget 0 (s.pool n).members slot

/-- The failure domain of a slot (R204). -/
def State.domainOf (s : State) (slot : Nat) : Nat :=
  match tfind s.blobs (oid 5 3 0) with
  | some b => leNat b / 16 ^ slot % 16
  | none => slot / 4

/-- The slot at row position p of row r (R207, R209). -/
def Geom.slotAt (g : Geom) (r p : Nat) : Nat := g.slots.getD ((g.perm.getD (64 * (r % 2 ^ g.permLog2) + p) 0).toNat) 0

/-- The relocation targets of a row after one more change (R210, R240): an assignment stands while its member is listed and its target
PRESENT; the other listed members that hold stripe positions take, in list order, the PRESENT spare members left, lowest position first. -/
def rowAssign (held spares : List Nat) (old : List (Nat × Nat)) (change : List Nat × List Nat) : List (Nat × Nat) :=
  let kept := old.filter fun e => change.1.contains e.1 && !change.2.contains e.2
  change.1.foldl (fun acc x =>
    if !held.contains x || acc.any (fun e => e.1 = x) then acc
    else match spares.find? fun y => !change.2.contains y && !(acc.any fun e => e.2 = y) with
      | some y => acc ++ [(x, y)]
      | none => acc) kept

/-- The relocation targets of a row: (listed member, target) pairs, every change since the list was last empty applied in turn. -/
def State.rowTargets (s : State) (n r : Nat) (new : Bool) : List (Nat × Nat) :=
  let g := s.geom n new
  let used := g.g * g.w
  let held := (List.range used).map (g.slotAt r)
  let spares := (List.range (g.width - used)).map fun e => g.slotAt r (used + e)
  (s.pool n).relocLog.foldr (fun c acc => rowAssign held spares acc c) []

/-- The relocation target of a member's chunk in a row. -/
def State.relocTarget (s : State) (n r : Nat) (new : Bool) (slot : Nat) : Option Nat :=
  ((s.rowTargets n r new).find? fun x => x.1 = slot).map (·.2)

/-- The row of a stripe and its place in the row (R209). -/
def State.rowOf (s : State) (n stripe : Nat) : Nat × Nat :=
  let g := max 1 (s.geom n (inNew stripe)).g
  (stripe % 2 ^ 63 / g, stripe % 2 ^ 63 % g)

/-- The member slot that stripe position p has by the permutation alone. -/
def State.homeOf (s : State) (n stripe p : Nat) : Nat :=
  let ri := s.rowOf n stripe
  let g := s.geom n (inNew stripe)
  g.slotAt ri.1 (ri.2 * g.w + p)

/-- A row group of a returning member holds current contents: its bit is clear, or it has been resynchronised (R253). -/
def State.groupCurrent (s : State) (n slot group : Nat) : Bool :=
  (s.pool n).returning.contains slot && (!(s.pool n).bitmap.contains group || (s.pool n).resynced.contains (64 * group + slot))

/-- The slot that holds stripe position p now: its PRESENT member, the target of a LISTED member's rebuilt chunk, a returning member where
its contents are current, or the replacement of an unlisted member where its chunk has been rebuilt; none where the position is missing
(R238, R242, R253, R254). -/
def State.chunkSlot (s : State) (n stripe p : Nat) : Option Nat :=
  let home := s.homeOf n stripe p
  let r := (s.rowOf n stripe).1
  match s.memberState n home with
  | 0 => some home
  | 1 => if s.groupCurrent n home (r / 1024) then some home else none
  | 2 => if (s.pool n).rebuilt.contains (home, stripe) then s.relocTarget n r (inNew stripe) home else none
  | _ => if (s.pool n).replacing.contains home && (s.pool n).rebuilt.contains (home, stripe) then some home else none

/-- The drive LBA of block b of the chunks of a row (R209). -/
def rowLba (r b : Nat) : Nat := 262144 + 16 * r + b

/-- Stripe, data chunk and block row of stored block o of slab q (R209). -/
def State.place (s : State) (n : Nat) (new : Bool) (q o : Nat) : Nat × Nat × Nat :=
  let g := s.geom n new
  let k := max 1 g.k
  ((if new then 2 ^ 63 else 0) + q * g.slabStripes + o / 16 / k, o / 16 % k, o % 16)

/-- The ownership-map record of a stored block of a namespace (R176, R208). -/
def State.recordOf (s : State) (h blk : Nat) : Nat := (s.ns h).mapBase + blk / 262144

/-- The slab of a stored block, none where the slab map has none. -/
def State.slabOf (s : State) (h blk : Nat) : Option Nat := tfind (s.pool (s.ns h).pool).slabs (s.recordOf h blk)

/-- Stripe, data chunk and block row of a stored block of a namespace: in the new geometry once a reshape has committed its extent. -/
def State.placeBlk (s : State) (h blk : Nat) : Option (Nat × Nat × Nat) :=
  let n := (s.ns h).pool
  (s.slabOf h blk).map fun q => s.place n ((s.pool n).migrated.contains (s.recordOf h blk)) q (blk % 262144)

/-- The record whose slab holds a stripe, and the extent's namespace and number. -/
def State.stripeExtent (s : State) (n stripe : Nat) : Option (Nat × Extent) :=
  let q := stripe % 2 ^ 63 / max 1 (s.geom n (inNew stripe)).slabStripes
  ((s.pool n).slabs.find? fun e => decide (e.2 = q) && ((s.pool n).migrated.contains e.1 == inNew stripe)).map fun e =>
    (e.1, tget {} s.cons.extents e.1)

/-- The stored block at data chunk j, block row b of a stripe that extent `x` has in its slab, none for a chunk beyond the 16,384th of
the slab (R208). -/
def State.blkOfExtent (s : State) (n : Nat) (x : Extent) (stripe j b : Nat) : Option (Nat × Nat) :=
  let g := s.geom n (inNew stripe)
  let d := stripe % 2 ^ 63 % max 1 g.slabStripes * g.k + j
  if d < 16384 ∧ j < g.k then some (x.handle, x.extNo * 262144 + 16 * d + b) else none

/-- The stored block at data chunk j, block row b of a stripe: namespace handle and stored block, none where the slab holds no extent. -/
def State.blkAt (s : State) (n stripe j b : Nat) : Option (Nat × Nat) :=
  match s.stripeExtent n stripe with
  | some (_, x) => s.blkOfExtent n x stripe j b
  | none => none

/-- The stripes of the pool's slabs that hold extents. -/
def State.stripesOf (s : State) (n : Nat) : List Nat :=
  ((s.pool n).slabs.map fun e =>
    let new := (s.pool n).migrated.contains e.1
    let ss := (s.geom n new).slabStripes
    (List.range ss).map fun i => (if new then 2 ^ 63 else 0) + e.2 * ss + i).flatten

/-- A pool is online: POOL_CFG.STATE 0b10 or 0b11 (R203). -/
def State.poolOnline (s : State) (n : Nat) : Bool := decide (2 ≤ (s.pool n).pState)

/-- POOL_CFG_n.STATE follows the members: 0b11 while one is missing (R203, R232). -/
def State.refreshPool (n : Nat) (s : State) : State :=
  s.updPool n fun p => if p.pState < 2 then p else
    { p with pState := if p.members.isEmpty then 2 else 3 }

/-- Stripes left degraded for want of a spare: a listed member's chunk has no target (R240). -/
def State.degraded (s : State) (n : Nat) : Nat :=
  ((s.stripesOf n).filter fun st =>
    (List.range (s.geom n (inNew st)).w).any fun p =>
      let home := s.homeOf n st p
      (s.pool n).reloc.contains home && (s.relocTarget n (s.rowOf n st).1 (inNew st) home).isNone).length

/-- The members or the relocation list have changed since `old`: the change is recorded, a chunk whose target changed counts as missing
until it is rebuilt there, and DEGRADED_STRIPES is counted anew (R240). -/
def State.relist (n : Nat) (old s : State) : State :=
  let t := s.updPool n fun p => { p with relocLog := if p.reloc.isEmpty then [] else (p.reloc, tkeys p.members) :: p.relocLog }
  let keep (e : Nat × Nat) : Bool :=
    decide (t.memberState n e.1 = 3) ||
    (decide (t.memberState n e.1 = 2) && (t.relocTarget n (t.rowOf n e.2).1 (inNew e.2) e.1 == old.relocTarget n (old.rowOf n e.2).1 (inNew e.2) e.1))
  let lostNow := (t.pool n).rebuilt.filter fun e => !keep e
  let u := t.updPool n fun p => { p with
    rebuilt := p.rebuilt.filter keep
    progress := p.progress.filter fun g => !(lostNow.any fun e => decide (e.1 = g.1) && decide ((t.rowOf n e.2).1 / 1024 = g.2)) }
  (u.refreshPool n).setCounter cDegradedStripes n (u.degraded n)

/-! ### Check arithmetic (R211 to R214) -/

/-- coef(i, j): 1, α^j, α^(2j) for checks 1 to 3 (R212, R224). -/
def coef (i j : Nat) : Nat := if i = 1 then 1 else if i = 2 then gfPow j else gfPow (2 * j)

/-- The 4,152 bytes of a stored block that the checks cover (R211). -/
def covered (b : Bytes) : Bytes := padTo 4152 b

/-- Check bytes of check i over data blocks given with their chunk numbers; chunks not given contribute 0 (R211). -/
def checkBytes (i : Nat) (ds : List (Nat × Bytes)) : Bytes :=
  ds.foldl (fun a d => gfAdd a (gfScale (coef i d.1) (covered d.2))) (zeros 4152)

/-- A stored block from its 4,152 covered bytes: CRC-32C and stripe generation added (R213). -/
def sealBlock (c : Bytes) (gen : Nat) : Bytes := covered c ++ leBytes 4 (crc32c (covered c)) ++ leBytes 4 gen

/-- All 4,160 bytes of a block are zero: the unwritten form (R206, R273). -/
def unwritten (b : Bytes) : Bool := b.all fun x => x == 0

/-- A data block as destage writes it: with the stripe generation, but the unwritten form all zero (R225, R273). -/
def withGen (b : Bytes) (gen : Nat) : Bytes := if unwritten b then zeros 4160 else padTo 4156 b ++ leBytes 4 gen

/-- TRAILER_CRC of a stored block is good (R272). -/
def crcGood (b : Bytes) : Bool := decide (leField b 4152 4 = crc32c (covered b))

/-- LOC_TAG of a stored block (R272): namespace handle and stored block. -/
def locTag (h blk : Nat) : Nat := h * 2 ^ 44 + blk

/-- A marker of R248: LOST set, the location tag, all else zero but CRC and generation (R273). -/
def marker (h blk gen : Nat) : Bytes :=
  sealBlock (zeros 4096 ++ zeros 16 ++ leBytes 8 (2 ^ 57) ++ zeros 8 ++ leBytes 8 (locTag h blk) ++ zeros 16) gen

/-- A stored block is a marker: CRC and LOC_TAG good and the LOST flag set (R274). -/
def isMarker (h blk : Nat) (b : Bytes) : Bool :=
  crcGood b && decide (leField b 4128 8 = locTag h blk) && (leField b 4112 8).testBit 57

/-- Solve for n unknown blocks: rows of coefficients with their sums in GF(2^8); none where the rows are not independent
(R214). -/
def gfSolve : Nat → List (List Nat × Bytes) → Option (List Bytes)
  | 0, _ => some []
  | n + 1, rows =>
    match rows.find? fun r => r.1.headD 0 ≠ 0 with
    | none => none
    | some p =>
      let c := gfInv (p.1.headD 0)
      let pr := (p.1.tail.map (gfMul c), gfScale c p.2)
      let rest := (rows.erase p).map fun r =>
        let h := r.1.headD 0
        (List.zipWith (fun x y => Nat.xor x (gfMul h y)) r.1.tail pr.1, gfAdd r.2 (gfScale h pr.2))
      match gfSolve n rest with
      | none => none
      | some xs => some ((pr.1.zip xs).foldl (fun a x => gfAdd a (gfScale x.1 x.2)) pr.2 :: xs)

/-- Rebuild the data chunks `lost` of a block row from the other data blocks and the checks (R214): their covered bytes, none
where too few blocks are there. -/
def rebuildData (lost : List Nat) (data checks : List (Nat × Bytes)) : Option (List (Nat × Bytes)) :=
  if checks.length < lost.length then none
  else
    let rows := checks.map fun c => (lost.map (coef c.1), gfAdd (covered c.2) (checkBytes c.1 data))
    (gfSolve lost.length rows).map fun xs => lost.zip xs

/-- The blocks of one block row that were read and pass their CRC, data then checks with check numbers from 1, for a stripe of
K data chunks (R242, R262). -/
def rowBlocks (k row : Nat) (reads : List PosBlock) : List (Nat × Bytes) × List (Nat × Bytes) :=
  let good := reads.filter fun r => decide (r.row = row) && r.readable && r.tagGood && (unwritten r.bytes || crcGood r.bytes)
  ((good.filter fun r => r.pos < k).map fun r => (r.pos, r.bytes),
   (good.filter fun r => k ≤ r.pos).map fun r => (r.pos - k + 1, r.bytes))

/-- Every data block of a block row of K data chunks, the missing ones rebuilt; none where they are beyond the checks. -/
def fullRow (k row : Nat) (reads : List PosBlock) : Option (List (Nat × Bytes)) :=
  let b := rowBlocks k row reads
  let lost := (List.range k).filter fun j => !(b.1.any fun d => d.1 = j)
  (rebuildData lost b.1 b.2).map fun xs => b.1 ++ xs.map fun x => (x.1, sealBlock x.2 0)

/-! ### Stripe locks (R245) -/

/-- The key of a stripe. -/
def stripeKey (n stripe : Nat) : Nat := n * 2 ^ 64 + stripe

/-- The controller that holds a stripe's lock: the owner of the slab's extent, controller 0 for a slab with none; itself in M2
and M4 (R245). -/
def State.lockHere (s : State) (n stripe : Nat) : Bool :=
  !s.split || (match s.stripeExtent n stripe with
    | some (_, x) => decide (x.owner = s.self)
    | none => decide (s.self = 0))

/-- Take a stripe's lock for a claimant code, or wait for it in arrival order: answers whether it was granted. -/
def State.takeLock (n stripe who : Nat) (s : State) : Bool × State :=
  let key := stripeKey n stripe
  match tfind s.layout.locks key with
  | none => (true, s.updLayout fun l => { l with locks := tput l.locks key { holder := who } })
  | some k =>
    if k.holder = who then (true, s)
    else (false, s.updLayout fun l => { l with locks := tput l.locks key { k with waiters := addOne who k.waiters } })

/-- Release a stripe's lock: the next waiter has it, and takes it up by STRIPE_LOCK_GRANT (R245). -/
def State.freeLock (n stripe : Nat) (s : State) : State :=
  let key := stripeKey n stripe
  match tfind s.layout.locks key with
  | none => s
  | some k =>
    s.updLayout fun l =>
      match k.waiters with
      | w :: ws => { l with locks := tput l.locks key { holder := w, waiters := ws } }
      | [] => { l with locks := tdel l.locks key }

/-! ### Larder versions (R215 to R223) -/

/-- Placed versions of a stored block, with their slots. -/
def State.versionsOf (s : State) (h blk : Nat) : Tbl Version :=
  s.layout.larder.filter fun e => e.2.placed && decide (e.2.handle = h) && decide (e.2.blk = blk)

/-- The version with the highest stamp of a list. -/
def newest (l : Tbl Version) : Option (Nat × Version) :=
  match l with
  | [] => none
  | x :: xs => some (xs.foldl (fun a b => if a.2.stamp.toNat < b.2.stamp.toNat then b else a) x)

/-- The newest placed version of a stored block. -/
def State.newestVersion (s : State) (h blk : Nat) : Option (Nat × Version) := newest (s.versionsOf h blk)

/-- Larder slots reserved by writes and not yet filled. -/
def State.reservedSlots (s : State) : List Nat :=
  (s.cmds.slots.map fun p => if p.2.toPartner then [] else p.2.writes.map (·.lslot)).flatten ++ (s.layout.remoteRes.map (·.2)).flatten

/-- `n` free larder slots, lowest first. -/
def State.freeLarder (s : State) (n : Nat) : List Nat :=
  let taken := s.reservedSlots
  let most := min 16384000 (s.layout.larder.length + taken.length + n)
  ((List.range most).filter fun i => !thas s.layout.larder i && !taken.contains i).take n

/-- Insert versions with their larder slots in one step (R218). -/
def State.insertVersions (vs : Tbl Version) (s : State) : State :=
  s.updLayout fun l => { l with larder := vs.foldl (fun t v => tput t v.1 v.2) l.larder }

/-- The stripe of a version: pool and stripe. -/
def State.stripeOfVersion (s : State) (v : Version) : Option (Nat × Nat) :=
  (s.placeBlk v.handle v.blk).map fun p => ((s.ns v.handle).pool, p.1)

/-- The fill of R223: rule 3 starts above DESTAGE_HI_PCT of LARDER_LIMIT and runs while above DESTAGE_LO_PCT. -/
def State.rule3Update (s : State) : State :=
  let used := s.limitedSlots
  let above (pct : Nat) : Bool := decide (s.layout.limit * pct < used * 100)
  let r := if above s.layoutCfgDestageHiPct then true else if above s.layoutCfgDestageLoPct then s.layout.rule3 else false
  s.updLayout fun l => { l with rule3 := r }

/-- A read pinned by the overlap table needs a version: a read entry of the same block with a stamp above it and below that of
the next version (R192, R193). -/
def State.pinned (s : State) (v : Version) : Bool :=
  let later := (s.versionsOf v.handle v.blk).filter fun e => v.stamp.toNat < e.2.stamp.toNat
  s.cons.ovl.any fun e => decide (e.2.kind = 1) && decide (e.2.handle = v.handle) && decide (e.2.first ≤ v.blk) &&
    decide (v.blk < e.2.first + e.2.nblk) && decide (v.stamp.toNat < e.2.stamp.toNat) &&
    !(later.any fun w => w.2.stamp.toNat < e.2.stamp.toNat)

/-- Send the releases that have gathered to the partner: batches of at most 256 (R220). -/
def State.flushReleases (s : State) : State :=
  let l := s.layout.releases
  if l.isEmpty then s
  else (s.settSend 0x22 (l.take 256) []).updLayout fun x => { x with releases := l.drop 256 }

/-- Release larder slots: freed here, and named to the partner in a batch (R192, R220). The Fox records of the writes whose
last version goes are written (R39, R522). -/
def State.releaseVersions (slots : List Nat) (s : State) : State :=
  let gone := s.layout.larder.filter fun e => slots.contains e.1
  let t := (s.updLayout fun l => { l with
    larder := l.larder.filter fun e => !slots.contains e.1
    eligible := l.eligible.filter fun e => !slots.contains e
    coalesced := l.coalesced.filter fun e => !slots.contains e
    syncLeft := l.syncLeft.filter fun e => !slots.contains e
    releases := if s.paired || s.syncing then l.releases ++ gone.map (·.1) else [] })
  let ended := ((gone.map fun e => e.2.stamp.toNat).eraseDups).filter fun x => !(t.layout.larder.any fun e => e.2.stamp.toNat = x)
  let v := ended.foldl (fun w x => w.foxStamp x) t
  v.when (decide (256 ≤ v.layout.releases.length)) State.flushReleases

/-! ### The intent journal and the bitmap (R227 to R232) -/

/-- The 64 bytes of a journal record (R230). -/
def jrecBytes (r : JRec) : Bytes :=
  let b := leBytes 8 r.seqNo ++ leBytes 1 r.kind ++ leBytes 1 r.flags ++ leBytes 2 r.rows ++ leBytes 4 r.mask ++
    leBytes 8 r.stripe ++ leBytes 8 r.high ++ leBytes 8 r.arg ++ leBytes 8 r.arg2 ++ zeros 12
  b ++ leBytes 4 (crc32c b)

/-- A journal block of records (R229). -/
def jblock (pool writer epoch : Nat) (rs : List JRec) : Bytes :=
  let first := (rs.head?.map (·.seqNo)).getD 0
  let head := leBytes 8 first ++ leBytes 2 rs.length ++ leBytes 1 pool ++ leBytes 1 writer ++ leBytes 3 epoch ++ zeros 45
  let body := padTo 4032 ((rs.map jrecBytes).flatten)
  head ++ leBytes 4 (crc32c (head ++ zeros 4 ++ body)) ++ body

/-- The three journal drives of a pool (R203). -/
def State.journalDrives (s : State) (n : Nat) : List Nat := [s.poolCfgJrnlA n, s.poolCfgJrnlB n, s.poolCfgJrnlC n]

/-- The journal drives that are up (R228). -/
def State.journalUp (s : State) (n : Nat) : List Nat :=
  (s.journalDrives n).filter fun d => s.driveUp d && decide (s.memberState n d = 0)

/-- Numbers of a journal record as a message carries them. -/
def jargs (r : JRec) : List Nat := [r.seqNo, r.kind, r.flags, r.rows, r.mask, r.stripe, r.high, r.arg, r.arg2, r.epoch]

/-- The drive LBA of a ring block (R205, R228). -/
def ringLba (b : Nat) : Nat := 16720 + b % 4096

/-- Append one record: its SEQ rises by 1, it goes into the own copy, in M3 to the partner's (0x18), and with FUA to each
journal drive that is up, in the next ring block; `data` further ring blocks follow a data intent (R228, R230, log 31). -/
def State.journalData (n : Nat) (r0 : JRec) (data : Nat) (s : State) : State :=
  let r : JRec := { r0 with seqNo := (s.pool n).nextSeq, epoch := s.cons.epoch, ringBlk := (s.pool n).ringNext }
  let t := (s.updPool n fun p => { p with
    journal := (r :: p.journal).take 4096, nextSeq := p.nextSeq + 1, ringNext := p.ringNext + 1 + data
    sinceHeader := if r.kind = 6 then 0 else p.sinceHeader + 1 + data }).bump cJrnlRecords n
  let u := t.settIfPaired 0x18 (n :: jargs r) []
  (s.journalUp n).foldl (fun v d => v.submit 0
    { slot := d, op := 1, lba := ringLba r.ringBlk, blocks := 1, owner := 3, data := jblock n s.self s.cons.epoch [r] }) u

/-- Append one record with no data behind it. -/
def State.journal (n : Nat) (r0 : JRec) (s : State) : State := s.journalData n r0 0

/-- A header record: CLEAN and the epoch, with the bitmap checkpoint written by the same step (R227, R231). -/
def State.journalHeader (n : Nat) (clean : Bool) (s : State) : State :=
  let t := s.journal n { kind := 6, flags := if clean then 16 else 0, high := s.cons.epoch * 2 ^ 40 }
  let u := t.updPool n fun p => { p with cpB := !p.cpB, opened := !clean }
  (u.journalUp n).foldl (fun v d => v.submitRun (some 1) 0
    { slot := d, op := 1, lba := if (u.pool n).cpB then 16592 else 16464, blocks := 128, owner := 3, blk := (t.pool n).nextSeq - 1 }) u

/-- A header where 1,024 ring blocks have been written since the last (R231). -/
def State.headerDue (n : Nat) (s : State) : State := s.when (decide (1024 ≤ (s.pool n).sinceHeader)) fun t => t.journalHeader n false

/-- Intents of a journal that no close record names. -/
def openIntents (l : List JRec) : List JRec :=
  l.filter fun r => decide (r.kind = 1) && !(l.any fun c => decide (c.kind = 2) && decide (c.arg = r.seqNo))

/-- Data intents whose versions still stand in the larder, or in write-through at all (R222, R231). -/
def State.openData (s : State) (n : Nat) : List JRec :=
  (s.pool n).journal.filter fun r => decide (r.kind = 3) && s.layout.larder.any fun e => e.2.through && decide (e.2.stamp.toNat = r.high)

/-- The ring has room for a record with `data` blocks behind it: it overwrites no open intent, not the most recent header and no live
data (R231). -/
def State.ringRoom (s : State) (n data : Nat) : Bool :=
  let p := s.pool n
  let header := (p.journal.find? fun r => r.kind = 6).toList
  (openIntents p.journal ++ s.openData n ++ header).all fun r => decide (p.ringNext + data < r.ringBlk + 4096)

/-- A new intent can be written: at least two journal drives up, and room in the ring (R228, R231). -/
def State.journalReady (s : State) (n : Nat) : Bool := decide (2 ≤ (s.journalUp n).length) && s.ringRoom n 0

/-- Set the bitmap bit of a row by a bitmap-set record, where it is 0 (R225, R227). -/
def State.bitmapSet (n row : Nat) (s : State) : State :=
  let bit := row / 1024
  if (s.pool n).bitmap.contains bit then s
  else ((s.journal n { kind := 4, stripe := bit }).updPool n fun p => { p with
    bitmap := p.bitmap ++ [bit], resynced := p.resynced ++ p.returning.map fun m => 64 * bit + m }).bump cBitmapSets n

/-! ### The lost-block list (R249) -/

/-- The key of a lost block. -/
def lostKey (h blk : Nat) : Nat := h * 2 ^ 44 + blk

/-- The block is in the lost-block list. -/
def State.isLost (s : State) (h blk : Nat) : Bool := thas s.layout.lostList (lostKey h blk)

/-- Enter a block in the lost-block list; when it is full the entry is counted instead (R249, R271). -/
def State.enterLost (n h blk : Nat) (s : State) : State :=
  if s.isLost h blk then s
  else if 1048576 ≤ s.layout.lostList.length then s.bump cLostListFull 0
  else ((s.updLayout fun l => { l with lostList := tput l.lostList (lostKey h blk) { pool := n, lState := 1, foundS := s.now / 1000000000 % 2 ^ 32 } }).bump
    cLostBlocks n).raise 0x0505 n (n + 256)

/-- A row group becomes hot: at most 256, the oldest dropped and counted (R265). -/
def State.markHot (n group : Nat) (s : State) : State :=
  let hot := (s.pool n).hot
  if hot.contains group then s
  else if hot.length < 256 then s.updPool n fun p => { p with hot := p.hot ++ [group] }
  else (s.updPool n fun p => { p with hot := p.hot.drop 1 ++ [group] }).bump cBadgerHotDrop 0

end Sys2Proof.Machine
end

