-- ==== Sys2Proof/Machine/CipherOps.lean ====
section
/-! DEFINITION. Operations of the integrity chain and the bulk cipher (R272 to R293): protection information, trailers,
encryption, the checks of a read, counters and generations. -/
namespace Sys2Proof.Machine

/-! ### Protection information (R275 to R278) -/

/-- PI type of a FORMAT: bits [4:3] (R501). -/
def piType (fmt : Nat) : Nat := bits fmt 4 3

/-- Bytes of the protection information: 16 with a 64-bit guard, else 8. -/
def piSize (fmt : Nat) : Nat := if fmt.testBit 5 then 16 else 8

/-- A combination R275 permits. -/
def formatOk (fmt : Nat) : Bool :=
  let m := bits fmt 2 1
  let t := piType fmt
  decide (fmt < 128) &&
  (if fmt % 2 = 1 then
    (m == 0 && t == 0 && !fmt.testBit 5 && !fmt.testBit 6) ||
    (m == 1 && !fmt.testBit 5 && !fmt.testBit 6) ||
    (m == 2 && (!fmt.testBit 5 || (decide (t ≠ 0) && !fmt.testBit 6)) && (!fmt.testBit 6 || decide (t ≠ 0)))
  else
    (m == 0 && t == 0 && !fmt.testBit 5 && !fmt.testBit 6) ||
    (m == 1 && t == 1 && !fmt.testBit 5 && !fmt.testBit 6) ||
    (m == 2 && t == 1 && fmt.testBit 5 && !fmt.testBit 6))

/-- A number of n bytes, most significant byte first, as protection information stores its fields (log 32). -/
def beNat (b : Bytes) : Nat := leNat b.reverse

/-- The bytes of a protection-information field: guard, application tag, reference tag (log 32). -/
def piBytes (fmt guard app ref : Nat) : Bytes :=
  if fmt.testBit 5 then (leBytes 8 guard).reverse ++ (leBytes 2 app).reverse ++ (leBytes 6 ref).reverse
  else (leBytes 2 guard).reverse ++ (leBytes 2 app).reverse ++ (leBytes 4 ref).reverse

/-- Guard, application tag and reference tag of a protection-information field. -/
def piFields (fmt : Nat) (b : Bytes) : Nat × Nat × Nat :=
  if fmt.testBit 5 then (beNat (b.take 8), beNat ((b.drop 8).take 2), beNat ((b.drop 10).take 6))
  else (beNat (b.take 2), beNat ((b.drop 2).take 2), beNat ((b.drop 4).take 4))

/-- The guard of host data: the 16-bit or 64-bit CRC (R276). -/
def piGuard (fmt : Nat) (data : Bytes) : Nat := if fmt.testBit 5 then crc64 data else crcT10 data

/-- Where the protection information of a 4,096-byte format lies in its metadata: the first or last bytes (R275). -/
def piOff (fmt : Nat) : Nat := if fmt.testBit 6 then 0 else hostMeta fmt - piSize fmt

/-- The bytes the guard covers: the data, and metadata that stands before the protection information. -/
def guardCover (fmt : Nat) (data mt : Bytes) : Bytes := data ++ mt.take (piOff fmt)

/-- What the tags of a command ask for: PRINFO, expected application tag and mask, initial reference tag, and the first LBA. -/
structure PiAsk where
  /-- PRACT [3] and PRCHK [2:0]: guard, application tag, reference tag. -/
  prinfo : Nat
  /-- expected application tag -/
  app : Nat
  /-- application tag mask -/
  mask : Nat
  /-- initial reference tag -/
  ref : Nat
  /-- first LBA -/
  slba : Nat

/-- The tags of a command slot. -/
def Slot.ask (p : Slot) : PiAsk := { prinfo := p.prinfo, app := p.appTag, mask := p.appMask, ref := p.refTag, slba := p.slba }

/-- The reference tag of the i-th host block of a command: it rises with the block except in type 3; on 512-byte formats it is the
low bits of the LBA (R276). -/
def refOf (fmt : Nat) (a : PiAsk) (i : Nat) : Nat :=
  let w := if fmt.testBit 5 then 48 else 32
  if fmt % 2 = 0 then (a.slba + i) % 2 ^ w else if piType fmt = 3 then a.ref % 2 ^ w else (a.ref + i) % 2 ^ w

/-- Check the protection information of the i-th host block in the order guard, application tag, reference tag: the status, 0 where
all pass. `always` checks the guard whatever PRCHK says (R276, R277). -/
def piCheck (fmt : Nat) (a : PiAsk) (i : Nat) (data mt : Bytes) (always : Bool) : Nat :=
  if piType fmt = 0 then stOk
  else
    let f := piFields fmt (mt.drop (piOff fmt))
    let small := decide (fmt % 2 = 0)
    let escape := !small && decide (f.2.1 = 0xFFFF) && (decide (piType fmt ≠ 3) || decide (f.2.2 = 2 ^ (if fmt.testBit 5 then 48 else 32) - 1))
    if (small || always || (a.prinfo.testBit 2 && !escape)) ∧ f.1 ≠ piGuard fmt (guardCover fmt data mt) then stGuard
    else if a.prinfo.testBit 1 ∧ escape = false ∧ Nat.land f.2.1 a.mask ≠ Nat.land a.app a.mask then stAppTag
    else if (small || (a.prinfo.testBit 0 && !escape && decide (piType fmt ≠ 3))) ∧ f.2.2 ≠ refOf fmt a i then stRefTag
    else stOk

/-- PRACT set on a metadata size equal to the protection information's: the host moves no metadata (R276). -/
def stripped (fmt prinfo : Nat) : Bool := prinfo.testBit 3 && decide (piType fmt ≠ 0) && decide (hostMeta fmt = piSize fmt)

/-- Bytes of a host block on the wire for a PRINFO (R275, R276). -/
def wireBlock (fmt prinfo : Nat) : Nat := if stripped fmt prinfo then hostData fmt else hostBlock fmt

/-- The metadata of a host block with the protection information generated (R276). -/
def piMake (fmt : Nat) (a : PiAsk) (i : Nat) (data mt : Bytes) : Bytes :=
  if piType fmt = 0 then mt
  else
    let m := padTo (hostMeta fmt) mt
    overwrite m (piOff fmt) (piBytes fmt (piGuard fmt (guardCover fmt data m)) a.app (refOf fmt a i))

/-- Take the i-th host block of a write from its bytes: data, metadata and status (R276). -/
def hostIn (fmt : Nat) (a : PiAsk) (i : Nat) (wire : Bytes) : Bytes × Bytes × Nat :=
  let data := padTo (hostData fmt) wire
  let mt := if stripped fmt a.prinfo then [] else padTo (hostMeta fmt) (wire.drop (hostData fmt))
  if a.prinfo.testBit 3 then (data, piMake fmt a i data mt, stOk) else (data, mt, piCheck fmt a i data mt false)

/-- HOST_META of a stored block from the metadata of its host blocks (R275). -/
def hostMetaBytes (fmt : Nat) (ms : List Bytes) : Bytes :=
  if fmt % 2 = 1 then padTo 16 (ms.headD [])
  else padTo 16 ((ms.map fun m => if piType fmt = 0 then zeros 2 else ((m.drop (if fmt.testBit 5 then 8 else 2)).take 2)).flatten)

/-- The metadata of host block k of a stored block, from its data and HOST_META (R275, R277). -/
def metaOut (fmt : Nat) (a : PiAsk) (i k : Nat) (data hm : Bytes) : Bytes :=
  if fmt % 2 = 1 then hm.take (hostMeta fmt)
  else if piType fmt = 0 then []
  else piBytes fmt (piGuard fmt data) (beNat ((hm.drop (2 * k)).take 2)) (refOf fmt a i)

/-- Host block k of a stored block as it goes to the host: its bytes and the status of R277. The i-th block of the command. -/
def hostOut (fmt : Nat) (a : PiAsk) (i k : Nat) (plain : Bytes) : Bytes × Nat :=
  let data := (plain.drop (k * hostData fmt)).take (hostData fmt)
  if unwritten plain then (zeros (wireBlock fmt a.prinfo), stOk)
  else
    let m := metaOut fmt a i k data (plain.drop 4096)
    let st := piCheck fmt a i data m (decide (fmt % 2 = 1))
    (if stripped fmt a.prinfo then data else data ++ padTo (hostMeta fmt) m, st)

/-- Count a protection-information failure: at ingress or egress, by kind (R303). -/
def State.countPi (h st : Nat) (out : Bool) (s : State) : State :=
  if st = stGuard then s.bump (if out then cPiGuardOut else cPiGuardIn) h
  else if st = stAppTag then s.bump (if out then cPiAppOut else cPiAppIn) h
  else if st = stRefTag then s.bump (if out then cPiRefOut else cPiRefIn) h
  else s

/-! ### Trailers (R272, R273, R279, R280) -/

/-- NONCE_WORD (R272). -/
def nonceWord (idx gen ctr : Nat) : Nat := idx * 2 ^ 56 + gen * 2 ^ 48 + ctr

/-- NONCE_WORD of a plain namespace's block: PLAIN and CTRL_IDX (R273). -/
def plainWord (idx : Nat) : Nat := 2 ^ 58 + idx * 2 ^ 56

/-- The 96-bit initialisation vector (R280). -/
def ivOf (salt idx ctr : Nat) : Nat := salt * 2 ^ 64 + idx * 2 ^ 56 + ctr

/-- The additional authenticated data: trailer bytes 24 to 39, STAMP and LOC_TAG (R279). -/
def aadOf (stamp h blk : Nat) : Bytes := leBytes 8 stamp ++ leBytes 8 (locTag h blk)

/-- A stored block from its parts (R272): 4,096 bytes of data, tag, NONCE_WORD, STAMP, LOC_TAG, HOST_META; TRAILER_CRC over
all of it, STRIPE_GEN 0 (R289). -/
def storedBlock (data : Bytes) (tag word stamp h blk : Nat) (hm : Bytes) : Bytes :=
  sealBlock (padTo 4096 data ++ leBytes 16 tag ++ leBytes 8 word ++ aadOf stamp h blk ++ padTo 16 hm) 0

/-- NONCE_WORD of a stored block. -/
def wordOf (b : Bytes) : Nat := leField b 4112 8

/-- STAMP of a stored block. -/
def stampOf (b : Bytes) : Nat := leField b 4120 8

/-- KEY_GEN of a stored block. -/
def genOf (b : Bytes) : Nat := bits (wordOf b) 55 48

/-! ### Generations and counters (R282 to R287) -/

/-- Change a generation of a namespace. -/
def State.updGen (h g : Nat) (f : KeyGen → KeyGen) (s : State) : State := s.updNs h fun n => { n with gens := tadj g f n.gens }

/-- The generation in a state, if there is one. -/
def Ns.genIn (n : Ns) (st : Nat) : Option (Nat × KeyGen) := n.gens.find? fun e => e.2.gState = st

/-- Apply an activation: the PENDING generation becomes ACTIVE and the ACTIVE one RETAINED (R286). -/
def State.applyActivate (h g : Nat) (s : State) : State :=
  (s.updNs h fun n => { n with gens := tmap (fun k x =>
    if k = g then { x with gState := 2 } else if x.gState = 2 then { x with gState := 3 } else x) n.gens }).bump cKeygenActivations h

/-- Activate a generation; in M3 the partner is told (R286). -/
def State.activate (h g : Nat) (s : State) : State := (s.applyActivate h g).settIfPaired 0x1A [h, g, 0] []

/-- This controller's reservation mark (R283). -/
def KeyGen.ctrHigh (g : KeyGen) (idx : Nat) : Nat := if idx = 0 then g.ctrHigh0 else g.ctrHigh1

/-- What the assignment of a counter finds. -/
inductive CtrRes where
  /-- a plain namespace: no counter -/
  | plain
  /-- generation and counter -/
  | ready (gen ctr : Nat)
  /-- the key of the generation is not in the key cache -/
  | waitKey (gen : Nat)
  /-- the counter reaches CTR_HIGH -/
  | waitStep (gen : Nat)
  /-- exhausted with no PENDING generation, or no generation -/
  | exhausted
  deriving DecidableEq, Repr

/-- A generation is exhausted (R284, R286, R287): it becomes RETAINED, in M3 the partner is told, and a PENDING generation is activated. -/
def State.exhaust (h g : Nat) (s : State) : State :=
  let t := (s.updGen h g fun x => { x with exhausted := true, gState := 3 }).settIfPaired 0x1A [h, g, 1] []
  match (t.ns h).genIn 1 with
  | some (g2, _) => t.activate h g2
  | none => t

/-- No further counter may be taken (R284). -/
def KeyGen.spent (k : KeyGen) : Bool := k.exhausted || decide (2 ^ 48 - 2 ^ 32 ≤ k.ctrNext)

/-- The generation that the next block takes: the ACTIVE one, or at exhaustion the PENDING one, activated first (R286, R287). -/
def State.activeGen (h : Nat) (s : State) : Option (Nat × KeyGen) × State :=
  match (s.ns h).genIn 2 with
  | some (g, k) =>
    if k.spent then
      let t := s.exhaust h g
      ((t.ns h).genIn 2, t)
    else (some (g, k), s)
  | none => (none, s)

/-- A key of the cache is used: it becomes the most recent (R41). -/
def State.touchKey (h g : Nat) (s : State) : State :=
  if s.enclave.recent.contains (h, g) then s.updEnclave fun e => { e with recent := (h, g) :: e.recent.filter fun x => x ≠ (h, g) } else s

/-- Ask for the unwrap of a key that is not in the cache (R293, R319). -/
def State.askKey (h g : Nat) (s : State) : State :=
  (s.updEnclave fun e => { e with unwraps := addOne (h, g) e.unwraps }).bump cKeyWait 0

/-- Write the directory entry of a generation to the journal drives that are up, in strict class 1 (R283, R311). -/
def State.dirWrite (h g : Nat) (s : State) : State :=
  let n := (s.ns h).pool
  (s.journalUp n).foldl (fun t d => t.submit 0 { slot := d, op := 1, lba := 131202 + h / 4, blocks := 1, owner := 3, blk := h * 256 + g }) s

/-- Request the next reservation step where 2^23 or fewer reserved values remain (R283). -/
def State.askStep (h g : Nat) (s : State) : State :=
  match tfind (s.ns h).gens g with
  | some k =>
    if k.stepAsked = false ∧ k.ctrHigh s.self ≤ k.ctrNext + 2 ^ 23 ∧ k.ctrHigh s.self < 2 ^ 48 - 2 ^ 32 then
      (s.updGen h g fun x => { x with stepAsked := true }).dirWrite h g
    else s
  | none => s

/-- The warning of a generation: event, flag, and under AUTO_ROTATE a PENDING successor is activated (R284, R286). -/
def State.warn (h g : Nat) (s : State) : State :=
  match tfind (s.ns h).gens g with
  | some k =>
    if 2 ^ 47 ≤ k.ctrNext ∧ k.warned = false then
      let t := (s.updGen h g fun x => { x with warned := true }).raise 0x0601 h g
      if s.cipherCfgAutoRotate = 1 then
        match (t.ns h).genIn 1 with
        | some (g2, _) => t.activate h g2
        | none => t
      else t
    else s
  | none => s

/-- Assign the counter of the next block of a namespace (R282 to R287). -/
def State.takeCtr (h : Nat) (s : State) : CtrRes × State :=
  if (s.ns h).keying = 0 then (.plain, s)
  else
    match s.activeGen h with
    | (none, t) => (.exhausted, t)
    | (some (g, k), t) =>
      if k.key.isNone then (.waitKey g, t.askKey h g)
      else if k.ctrHigh s.self ≤ k.ctrNext then (.waitStep g, t.askStep h g)
      else
        let u := (((t.touchKey h g).updGen h g fun x => { x with ctrNext := x.ctrNext + 1 }).askStep h g).warn h g
        (.ready g k.ctrNext, if { k with ctrNext := k.ctrNext + 1 }.spent then u.exhaust h g else u)

/-- The ciphertext and trailer of a block under a counter: 4,160 bytes (R279, R289). `plain` is 4,096 bytes of data and 16 of
HOST_META. -/
def State.encryptAt (s : State) (h blk stamp gen ctr : Nat) (plain : Bytes) : Bytes :=
  match tfind (s.ns h).gens gen with
  | none => zeros 4160
  | some k =>
    let iv := ivOf k.salt s.self ctr
    let ct := Config.gcmEncrypt (k.key.getD 0) iv (padTo 4112 plain)
    storedBlock (ct.take 4096) (Config.gcmTag (k.key.getD 0) iv (aadOf stamp h blk) ct) (nonceWord s.self gen ctr) stamp h blk (ct.drop 4096)

/-- A block of a plain namespace (R273, R281). -/
def State.plainBlock (s : State) (h blk stamp : Nat) (plain : Bytes) : Bytes :=
  storedBlock (plain.take 4096) 0 (plainWord s.self) stamp h blk (plain.drop 4096)

/-! ### The checks of a read (R290, R291) -/

/-- What the checks of R290 find in a stored block. -/
inductive ReadRes where
  /-- the unwritten form -/
  | unwritten
  /-- the plaintext: 4,096 bytes of data and 16 of HOST_META -/
  | good (plain : Bytes)
  /-- TRAILER_CRC, configuration, location tag -/
  | trailer
  /-- a marker: the block is lost -/
  | marked
  /-- its stamp does not lie below the read's -/
  | late
  /-- the GCM tag differs -/
  | tagBad
  /-- its key is not in the key cache -/
  | waitKey (gen : Nat)
  deriving DecidableEq, Repr

/-- A live generation: PENDING to SWEEPING (R274, R285). -/
def liveGen (n : Ns) (g : Nat) : Bool :=
  match tfind n.gens g with
  | some k => decide (k.gState ≠ 0)
  | none => false

/-- NONCE_WORD agrees with the namespace (R274). -/
def wordOk (n : Ns) (w : Nat) : Bool :=
  decide (w / 2 ^ 59 = 0) && (w.testBit 58 == (n.keying == 0)) && (n.keying == 0 || liveGen n (bits w 55 48))

/-- Decrypt a stored block whose trailer is good: the key of the generation it names, and its tag. -/
def State.openBlock (s : State) (h blk : Nat) (b : Bytes) : ReadRes :=
  let n := s.ns h
  if n.keying = 0 then .good (b.take 4096 ++ (b.drop 4136).take 16)
  else
    match (tfind n.gens (genOf b)).bind (·.key), tfind n.gens (genOf b) with
    | some key, some k =>
      let w := wordOf b
      let iv := ivOf k.salt (bits w 56 56) (bits w 47 0)
      let ct := b.take 4096 ++ (b.drop 4136).take 16
      if Config.gcmTag key iv (aadOf (stampOf b) h blk) ct = leField b 4096 16 then .good (Config.gcmDecrypt key iv ct) else .tagBad
    | _, _ => .waitKey (genOf b)

/-- Check a stored block of a read in the order of R290. `below` is the read's stamp where the block came from a drive. -/
def State.checkBlock (s : State) (h blk : Nat) (below : Option Nat) (b : Bytes) : ReadRes :=
  if unwritten b then .unwritten
  else if !crcGood b then .trailer
  else if (wordOf b).testBit 57 ∧ leField b 4128 8 = locTag h blk then .marked
  else if !wordOk (s.ns h) (wordOf b) then .trailer
  else if leField b 4128 8 ≠ locTag h blk then .trailer
  else if (match below with
    | some x => decide (x ≤ stampOf b)
    | none => false) then .late
  else s.openBlock h blk b

/-- Count a failed check of R290 by namespace (R303). -/
def State.countCheck (h blk : Nat) (r : ReadRes) (b : Bytes) (s : State) : State :=
  match r with
  | .trailer =>
    if !crcGood b then s.bump cTrailerCrcErr h
    else if leField b 4128 8 ≠ locTag h blk ∧ wordOk (s.ns h) (wordOf b) then s.bump cLocTagErr h
    else s.bump cConfigMismatch h
  | .tagBad => s.bump cTagFail h
  | _ => s

end Sys2Proof.Machine
end

