-- ==== Sys2Proof/Machine/ConsOps.lean ====
section
/-! DEFINITION. Operations of the consistency engine (R171 to R196): extents and stamps, the overlap table, admission,
placement, read entries, stamp messages. -/
namespace Sys2Proof.Machine

/-! ### Ranges (R181, R185) -/

/-- The stored blocks of a host range: first, count, and those covered only in part (R181, R188). -/
def span (fmt slba nlb : Nat) : Nat × Nat × List Nat :=
  let per := hostPerBlk fmt
  let first := slba / per
  let last := (slba + max 1 nlb - 1) / per
  let lo := if slba % per = 0 then [] else [first]
  let hi := if (slba + max 1 nlb) % per = 0 then [] else [last]
  (first, last + 1 - first, (lo ++ hi).eraseDups)

/-- The stored blocks that a range covers whole: first and count (R174). -/
def wholeSpan (fmt slba nlb : Nat) : Nat × Nat :=
  let per := hostPerBlk fmt
  let first := ceilDiv slba per
  (first, (slba + nlb) / per - first)

/-- The parts of a block range in each extent: extent number, first block, count (R184). -/
def extentParts (first n : Nat) : List (Nat × Nat × Nat) :=
  let x := first / 262144
  let m := min n ((x + 1) * 262144 - first)
  if m < n then [(x, first, m), (x + 1, first + m, n - m)] else [(x, first, n)]

/-- The parts of a block range in each 1 MiB region, at most two (R185). -/
def regionParts (first n : Nat) : List (Nat × Nat) :=
  let m := min n ((first / 256 + 1) * 256 - first)
  if m < n then [(first, m), (first + m, n - m)] else [(first, n)]

/-! ### Extents (R172 to R177) -/

/-- One record of the ownership map. -/
def State.extent (s : State) (rec : Nat) : Extent := tget {} s.cons.extents rec

/-- Change one record. -/
def State.updExtent (rec : Nat) (f : Extent → Extent) (s : State) : State :=
  s.updCons fun c => { c with extents := tmod {} rec f c.extents }

/-- The record of extent x of a namespace (R176). -/
def State.extRec (s : State) (h x : Nat) : Nat := (s.ns h).mapBase + x

/-- The owner of an extent: as the map says in M3 and until a claim, this controller in M2 and M4 (R175, R179). -/
def State.ownerOf (s : State) (rec : Nat) : Nat := if s.split then (s.extent rec).owner else s.self

/-- Raise the pair epoch: every extent's LAST_STAMP becomes epoch × 2^40, and the epoch goes into the journal header of every
pool (R173). -/
def State.applyEpoch (e : Nat) (s : State) : State :=
  let t := (s.updCons fun c => { c with
    epoch := e % 2 ^ 24, extents := tmap (fun _ x => { x with lastStamp := BitVec.ofNat 64 (e % 2 ^ 24 * 2 ^ 40) }) c.extents }).bump cEpochRaises 0
  (tkeys (t.layout.pools.filter fun p => decide (p.2.pState ≠ 0))).foldl (fun u n => u.journalHeader n false) t

/-- Raise the pair epoch by 1; in M3 it is agreed with the partner (R173). -/
def State.raiseEpoch (s : State) : State :=
  (s.applyEpoch (s.cons.epoch + 1)).settIfPaired 0x19 [(s.cons.epoch + 1) % 2 ^ 24] []

/-- Issue the next stamp of an extent (R172); where its sequence would pass its end the epoch is raised first (R173). -/
def State.issueStamp (rec h : Nat) (s : State) : BitVec 64 × State :=
  let t := if (s.extent rec).lastStamp.toNat % 2 ^ 40 = 2 ^ 40 - 1 then s.raiseEpoch else s
  let x := (t.extent rec).lastStamp + 1
  (x, (t.updExtent rec fun e => { e with lastStamp := x }).bump cStampsIssued h)

/-- No stamp may be issued for an extent now: fenced (R178), moving (R180), or its gate is closed (R184). -/
def State.admissionShut (s : State) (rec : Nat) : Bool :=
  (s.split && (s.cons.fenced || decide ((s.extent rec).state ≠ 1))) || (s.extent rec).gate.isSome || s.layout.holdup.isSome

/-! ### The overlap table (R186 to R189) -/

/-- Two block ranges have a block in common. -/
def overlaps (f1 n1 f2 n2 : Nat) : Bool := decide (f1 < f2 + n2) && decide (f2 < f1 + n1)

/-- Entries of a kind. -/
def State.ovlCount (s : State) (kind : Nat) : Nat := tcount (fun _ e => decide (e.kind = kind)) s.cons.ovl

/-- Put an entry at the lowest free number; nothing where none is free. -/
def State.addOvl (e : OvlEntry) (s : State) : State :=
  match tfreeFrom s.cons.ovl 0 (min 262144 (s.cons.ovl.length + 1)) with
  | some k => s.updCons fun c => { c with ovl := tput c.ovl k e }
  | none => s

/-- The write entries an arriving entry waits for (R188): unplaced writes that overlap a read, or touch a block a partial write
covers in part. -/
def State.awaited (s : State) (e : OvlEntry) : List Nat :=
  tkeys (s.cons.ovl.filter fun f => decide (f.2.kind = 2) && !f.2.placed && decide (f.2.handle = e.handle) &&
    decide (f.2.stamp ≠ e.stamp) &&
    (if e.kind = 1 then overlaps e.first e.nblk f.2.first f.2.nblk else e.partials.any fun b => overlaps b 1 f.2.first f.2.nblk))

/-- Enter the part of a command in one extent under a stamp: one entry for each region (R185, R188). Answers its WAIT_COUNT. -/
def State.enterPart (kind slot holder h : Nat) (stamp : BitVec 64) (first n : Nat) (partials : List Nat) (crossing : Bool) (s : State) :
    Nat × State :=
  (regionParts first n).foldl (fun (a : Nat × State) r =>
    let mine := partials.filter fun b => overlaps b 1 r.1 r.2
    let e : OvlEntry := { kind := if kind = 1 then 1 else 2, remote := decide (holder ≠ s.self), partialBlk := !mine.isEmpty, crossing := crossing
                          handle := h, slot := slot, holder := holder, stamp := stamp, first := r.1, nblk := r.2, partials := mine }
    let w := a.2.awaited e
    (a.1 + w.length, a.2.addOvl { e with waitCount := w.length, counted := w })) (0, s)

/-- Count the wait of a command just stamped (R201). -/
def State.countWait (kind h waits : Nat) (s : State) : State :=
  s.when (decide (0 < waits)) fun t => t.bump (if kind = 1 then cReadWait else cPartialWait) h

/-! ### Stamps reach their commands (R181 to R184) -/

/-- Bytes a host sends or receives for a command. -/
def State.wireBytes (s : State) (p : Slot) : Nat := p.nlb * wireBlock (s.ns p.handle).format p.prinfo

/-- The record of the PDUs a read makes certain, and its stamp record to the partner (R183, R376, R379). -/
def State.sendStampRecord (n : Nat) (s : State) : State :=
  let p := s.slot n
  if p.localPort then (s.updSlot n fun x => { x with recordConf := false }).settSend 0x15 [n, p.stamp.toNat, p.handle, p.slba, p.nlb] []
  else
    let sizes := if p.opcode = 2 then [s.wireBytes p, 16] else [16]
    let t := (s.when (s.planOf p.ctx n).isNone fun u => u.plan p.ctx n 1 sizes).updSlot n fun x => { x with recordConf := false }
    match t.planOf p.ctx n with
    | some q => t.settSend 0x15 [n, p.stamp.toNat, p.handle, p.slba, p.nlb, p.ctx, q.first, q.last, 1] []
    | none => t

/-- The stamp of a command held here has been given, with the WAIT_COUNT of one owner's part: the slot is ADMITTED (R153), and in M3
at the owner its stamp record or stamp update goes to the partner (R183, R375). -/
def State.giveStamp (n : Nat) (stamp : BitVec 64) (owner waits : Nat) (s : State) : State :=
  let p := s.slot n
  let first := decide (p.stamp = 0) || decide (p.pieceStamp ≠ stamp)
  let t := (s.updSlot n fun x => { x with
    state := if x.state < 5 then 4 else x.state, stamp := if x.stamp = 0 then stamp else x.stamp, pieceStamp := stamp
    waits := tput x.waits owner waits }).stage n 4
  if s.paired ∧ first ∧ owner = s.self then
    t.when (readKind p.opcode) fun u => u.sendStampRecord n
  else t

/-- The owners of the extents that a command's range lies in (R184). -/
def State.ownersOf (s : State) (p : Slot) : List Nat :=
  let x := span (s.ns p.handle).format p.slba p.nlb
  ((extentParts x.1 x.2.1).map fun e => s.ownerOf (s.extRec p.handle e.1)).eraseDups

/-- Every part of a command may go: it is released to stage 7 (R184, R188). -/
def State.goCheck (n : Nat) (s : State) : State :=
  let p := s.slot n
  if s.slotUsed n ∧ p.stamp ≠ 0 ∧ p.gone = false ∧ p.waits.all (fun w => w.2 = 0) ∧ (s.ownersOf p).all (fun o => thas p.waits o) then
    (s.updSlot n fun x => { x with gone := true }).stage n 5
  else s

/-- A command's part at owner `owner` may go: here, or by a go message (R181). -/
def State.sendGo (slot holder part : Nat) (s : State) : State :=
  if holder = s.self then (s.updSlot slot fun x => { x with waits := tput x.waits s.self 0 }).goCheck slot
  else s.settSend 0x12 [slot, part] []

/-- Tell the holder of a command its stamp and WAIT_COUNT from this owner's part (R181); for a forwarded write also the larder
slots reserved for its `blocks` stored blocks here (R220). -/
def State.tellStamp (slot holder : Nat) (stamp : BitVec 64) (waits part blocks : Nat) (s : State) : State :=
  if holder = s.self then (s.giveStamp slot stamp s.self waits).goCheck slot
  else
    let ls := s.freeLarder blocks
    (s.updLayout fun l => { l with remoteRes := if ls.isEmpty then l.remoteRes else tput l.remoteRes slot (tget [] l.remoteRes slot ++ ls) }).settSend
      0x11 ([slot, stamp.toNat, waits, part, 0] ++ ls) []

/-- The larder has room for `blocks` more slots of a forwarded write (R216, log 34). -/
def State.larderRoom (s : State) (blocks : Nat) : Bool := decide (s.limitedSlots + blocks ≤ s.layout.limit)

/-! ### Admission (R184, R188) -/

/-- The kind of overlap entry of a request kind. -/
def reqWrites (kind : Nat) : Bool := decide (kind ≠ 1)

/-- The blocks and partial blocks of a request: a Deallocate piece has no partial block (R174). -/
def State.reqSpan (s : State) (r : StampReq) : Nat × Nat × List Nat :=
  let x := span (s.ns r.handle).format r.slba r.nlb
  if r.kind = 3 ∨ r.asKind = 3 then (x.1, x.2.1, []) else x

/-- Room in the overlap table for a request's entries. -/
def State.ovlRoom (s : State) (r : StampReq) : Bool :=
  decide (s.cons.ovl.length + (regionParts (s.reqSpan r).1 (s.reqSpan r).2.1).length ≤ 262144)

/-- Stamp both parts of a crossing command at this controller, which owns both (R184). -/
def State.admitBoth (lo up : Nat) (r : StampReq) (s : State) : State :=
  let x := s.reqSpan r
  let t0 := if (s.extent up).lastStamp.toNat > (s.extent lo).lastStamp.toNat then
    s.updExtent lo fun e => { e with lastStamp := (s.extent up).lastStamp } else s
  let a := t0.issueStamp lo r.handle
  let t1 := a.2.updExtent up fun e => { e with lastStamp := a.1 }
  let w := (extentParts x.1 x.2.1).foldl (fun (b : Nat × State) p =>
    let c := b.2.enterPart r.kind r.slot r.holder r.handle a.1 p.2.1 p.2.2 x.2.2 true
    (b.1 + c.1, c.2)) (0, t1)
  ((w.2.countWait r.kind r.handle w.1).bump cCrossCmds 0).tellStamp r.slot r.holder a.1 w.1 0 (if r.kind = 1 then 0 else x.2.1)

/-- Stamp a request at extent `rec` whose blocks there are `first`, `n` (R188). -/
def State.admitOne (rec : Nat) (r : StampReq) (first n : Nat) (partials : List Nat) (s : State) : State :=
  let a := s.issueStamp rec r.handle
  let w := a.2.enterPart r.kind r.slot r.holder r.handle a.1 first n partials false
  (w.2.countWait r.kind r.handle w.1).tellStamp r.slot r.holder a.1 w.1 0 (if r.kind = 1 then 0 else n)

/-- Reserve this upper extent for a crossing command: its gate closes and p goes back to the owner of the lower one (R184). -/
def State.reserveUpper (rec : Nat) (r : StampReq) (s : State) : State :=
  let p := (s.extent rec).lastStamp + 1
  let x := s.reqSpan r
  let e : OvlEntry := { kind := 4, remote := true, crossing := true, handle := r.handle, slot := r.slot, holder := r.holder
                        first := x.1, nblk := min 256 x.2.1 }
  ((s.updExtent rec fun y => { y with gate := some (r.slot, r.holder) }).addOvl e).settSend 0x11 [r.slot, p.toNat, 0, 2, 0] []

/-- Admit a request at the admission point of extent `rec`: none where it must be held (R159, R178, R180, R184, R189). -/
def State.admitReq (rec : Nat) (r : StampReq) (s : State) : Option State :=
  if s.admissionShut rec ∨ s.ovlRoom r = false ∨
    (r.holder ≠ s.self ∧ (r.kind = 2 ∨ r.kind = 3) ∧ s.larderRoom (s.reqSpan r).2.1 = false) then none
  else if r.kind = 4 then some (s.reserveUpper rec r)
  else
    let x := s.reqSpan r
    match extentParts x.1 x.2.1 with
    | [_, u] =>
      let up := s.extRec r.handle u.1
      if s.ownerOf up = s.self then
        if s.admissionShut up ∨ (s.extent up).held ≠ [] then none else some (s.admitBoth rec up r)
      else
        some ((s.updExtent rec fun e => { e with crossing := e.crossing ++ [r] }).settSend 0x10
          [r.slot, r.holder, 4, r.handle, r.slba, r.nlb, 0, r.kind] [])
    | _ => some (s.admitOne rec r x.1 x.2.1 x.2.2)

/-- A request at the admission point of extent `rec`: admitted, or held in arrival order (R188). A request of a retired or ended
command that is held is admitted in its turn all the same. -/
def State.request (rec : Nat) (r : StampReq) (s : State) : State :=
  let hold (t : State) : State := t.updExtent rec fun e => { e with held := e.held ++ [r] }
  if (s.extent rec).held ≠ [] then hold s
  else
    match s.admitReq rec r with
    | some t => t
    | none => hold (s.when (!s.ovlRoom r) fun t => t.bump cOvlFullWait 0)

/-- Admit the requests held at an extent while they can be, in arrival order. -/
def State.drainHeld (rec : Nat) : Nat → State → State
  | 0, s => s
  | n + 1, s =>
    match (s.extent rec).held with
    | [] => s
    | r :: rs =>
      match (s.updExtent rec fun e => { e with held := [] }).admitReq rec r with
      | some t => State.drainHeld rec n (t.updExtent rec fun e => { e with held := rs ++ e.held })
      | none => s

/-- Admit what is held anywhere this controller owns, while it can be. -/
def State.drainAll (s : State) : State :=
  (tkeys (s.cons.extents.filter fun e => !e.2.held.isEmpty)).foldl (fun t rec =>
    if t.ownerOf rec = t.self then State.drainHeld rec (t.extent rec).held.length t else t) s

/-- The request kind of an opcode. -/
def reqKind (op : Nat) : Nat := if readKind op then 1 else if op = 9 then 3 else 2

/-- Stage 5 for a command held here (R181, R182, R188): the request goes to the admission point of its lower extent, at this
controller or at the partner; the slot is ADMITTING. -/
def State.stageFive (n : Nat) (slba nlb : Nat) (s : State) : State :=
  let p := s.slot n
  let r : StampReq := { slot := n, holder := s.self, kind := reqKind p.opcode, handle := p.handle, slba := slba, nlb := nlb }
  let rec' := s.extRec p.handle ((span (s.ns p.handle).format slba nlb).1 / 262144)
  let t := s.updSlot n fun x => { x with state := 3 }
  if s.ownerOf rec' = s.self then t.request rec' r
  else ((t.updSlot n fun x => { x with toPartner := true }).settSend 0x10 [n, s.self, r.kind, r.handle, slba, nlb, 0, 1] []).bump
    cStampRemote p.handle

/-! ### Placement and retirement (R187, R188, R195) -/

/-- Fold a placed write entry into its region entry; where REGION_MAX is reached it stays, marked placed (R187, R189). -/
def State.foldWrite (k : Nat) (e : OvlEntry) (s : State) : State :=
  let rfirst := e.first / 256 * 256
  match s.cons.ovl.find? fun f => decide (f.2.kind = 3) && decide (f.2.handle = e.handle) && decide (f.2.first = rfirst) with
  | some f =>
    s.updCons fun c => { c with ovl := tput (tdel c.ovl k) f.1 { f.2 with stamp := if f.2.stamp.toNat < e.stamp.toNat then e.stamp else f.2.stamp } }
  | none =>
    if s.ovlCount 3 < s.consCfgRegionMax then
      s.updCons fun c => { c with ovl := tput c.ovl k { kind := 3, handle := e.handle, stamp := e.stamp, first := rfirst, nblk := 256 } }
    else s.updCons fun c => { c with ovl := tput c.ovl k { e with placed := true } }

/-- The write of (slot, holder) with this stamp is placed, or retired: commands that counted its entries count down and may go
(R188, R195). -/
def State.placedOvl (slot holder : Nat) (stamp : BitVec 64) (retired : Bool) (s : State) : State :=
  let mine := s.cons.ovl.filter fun e => decide (e.2.kind = 2) && !e.2.placed && decide (e.2.slot = slot) && decide (e.2.holder = holder) &&
    decide (e.2.stamp = stamp)
  let keys := tkeys mine
  let touched := s.cons.ovl.filter fun e => e.2.counted.any fun k => keys.contains k
  let t := s.updCons fun c => { c with ovl := tmap (fun _ e =>
    let left := e.counted.filter fun k => !keys.contains k
    if left.length = e.counted.length then e else { e with counted := left, waitCount := left.length }) c.ovl }
  let t1 := mine.foldl (fun u e => if retired then u.updCons fun c => { c with ovl := tdel c.ovl e.1 } else u.foldWrite e.1 e.2) t
  let ready := ((touched.map fun e => (e.2.slot, e.2.holder, e.2.crossing, e.2.first)).eraseDups).filter fun x =>
    !(t1.cons.ovl.any fun e => decide (e.2.kind ≤ 2) && decide (e.2.slot = x.1) && decide (e.2.holder = x.2.1) && decide (0 < e.2.waitCount))
  (ready.foldl (fun u x => u.sendGo x.1 x.2.1 (if x.2.2.1 && decide (x.2.2.2 % 262144 = 0) then 1 else 0)) t1).drainAll

/-- Retire the stamp of a write-kind command (R195). At a non-owner the owner is told by forwarded data that holds no block (log 38). -/
def State.retire (n : Nat) (s : State) : State :=
  let p := s.slot n
  if p.pieceStamp = 0 ∨ p.placed then s
  else
    let t := (s.bump cStampsRetired p.handle).when p.toPartner fun u => u.settSend 0x30 [n, s.self, p.handle, p.pieceStamp.toNat, 0] []
    t.placedOvl n s.self p.pieceStamp true

/-! ### Read entries and versions (R190 to R194) -/

/-- Remove the read entries of a stamp (R194); versions they pinned may now be released or destaged. -/
def State.dropReads (h : Nat) (stamp : BitVec 64) (s : State) : State :=
  if stamp = 0 then s
  else s.updCons fun c => { c with ovl := c.ovl.filter fun e => !(decide (e.2.kind = 1) && decide (e.2.handle = h) && decide (e.2.stamp = stamp)) }

/-- Region entries whose last larder version has gone leave the table (R187). -/
def State.trimRegions (s : State) : State :=
  s.updCons fun c => { c with ovl := c.ovl.filter fun e =>
    !(decide (e.2.kind = 3) || (decide (e.2.kind = 2) && e.2.placed)) ||
    (s.layout.larder.any fun v => decide (v.2.handle = e.2.handle) && overlaps v.2.blk 1 e.2.first e.2.nblk) }

/-- A read entry needs a version: it covers the block at a stamp above the version's and not above `w` (R192). -/
def State.readBetween (s : State) (h blk v w : Nat) : Bool :=
  s.cons.ovl.any fun e => decide (e.2.kind = 1) && decide (e.2.handle = h) && overlaps blk 1 e.2.first e.2.nblk &&
    decide (v < e.2.stamp.toNat) && decide (e.2.stamp.toNat < w)

/-- Release without destage every placed version that a later one covers and no read needs (R192). -/
def State.releaseCovered (s : State) : State :=
  let gone := s.layout.larder.filter fun e => e.2.placed && (s.versionsOf e.2.handle e.2.blk).any fun w =>
    decide (e.2.stamp.toNat < w.2.stamp.toNat) && !(s.readBetween e.2.handle e.2.blk e.2.stamp.toNat w.2.stamp.toNat)
  if gone.isEmpty then s else ((s.releaseVersions (tkeys gone)).bumpN cVersionsReleased 0 gone.length).trimRegions

/-- Destage may take a version: it is the highest of its block and no read entry below it covers the block (R193). -/
def State.destageable (s : State) (e : Nat × Version) : Bool :=
  e.2.placed && !((s.versionsOf e.2.handle e.2.blk).any fun w => decide (e.2.stamp.toNat < w.2.stamp.toNat)) &&
  !(s.readBetween e.2.handle e.2.blk 0 e.2.stamp.toNat)

/-- The placed version of a block with the highest stamp below S: in the own larder, or for the partner's extents in the mirror
larder, which holds the same versions (R36, R190). -/
def State.versionBelow (s : State) (h blk stamp : Nat) : Option (Nat × Nat × Version) :=
  let ok (e : Nat × Version) : Bool := e.2.placed && decide (e.2.handle = h) && decide (e.2.blk = blk) && decide (e.2.stamp.toNat < stamp)
  match newest (s.layout.larder.filter ok), newest (s.layout.mirror.filter ok) with
  | some a, some b => if a.2.stamp.toNat < b.2.stamp.toNat then some (2, b) else some (1, a)
  | some a, none => some (1, a)
  | none, some b => if s.split then some (2, b) else none
  | none, none => none

end Sys2Proof.Machine
end

