-- ==== Sys2Proof/Machine/IoOps.lean ====
section
/-! DEFINITION. The life of a read and of a write inside the controller (R35 to R40): intake of capsules, data fetch, stage 7,
placement, reads and reconstruction, completion, and the ends of commands that are stopped. -/
namespace Sys2Proof.Machine

/-! ### Ends of commands -/

/-- A drive read queued for command slot `n`. -/
def readFor (n : Nat) (it : QItem) : Bool :=
  (it.cmd.owner == 0 || it.cmd.owner == 1 || it.cmd.owner == 8) && decide (it.cmd.op = 0) && decide (it.cmd.cslot = n)

/-- A command that ends waits for nothing any more, and its drive reads that have not been issued are dropped. -/
def State.unqueue (n : Nat) (s : State) : State :=
  let keep (q : TQueue) : TQueue := { q with items := q.items.filter fun it => !readFor n it }
  ((s.updLayout fun l => { l with waiting := dropOne n l.waiting }).updCipher fun c => { c with keyWaiting := dropOne n c.keyWaiting }).updQos fun q =>
    { q with drive := tmap (fun _ d => { d with tenants := tmap (fun _ x => keep x) d.tenants }) q.drive }

/-- A command ends with an error status: a write's stamp is retired, a read's entries leave (R194, R195). -/
def State.endErr (n status : Nat) (s : State) : State :=
  let p := s.slot n
  if 5 ≤ p.state then s
  else
    let t := if writeKind p.opcode then s.retire n else s.dropReads p.handle p.stamp
    ((t.updSlot n fun x => { x with reserved := 0, writes := if x.placed then x.writes else [] }).unqueue n).failCmd n status

/-- A command ends internally, without completion or effect (R147): a write's stamp is retired, a read's entries leave. -/
def State.endQuiet (n : Nat) (s : State) : State :=
  let p := s.slot n
  let t := if writeKind p.opcode then s.retire n else s.dropReads p.handle p.stamp
  ((t.updSlot n fun x => { x with reserved := 0, writes := if x.placed then x.writes else [] }).unqueue n).endCmd n

/-! ### Data from the host (R38 stage 6, R121, R129, R182, R464) -/

/-- A command that takes data from the host. -/
def takesData (op : Nat) : Bool := op == 1 || op == 5

/-- READ requests of a connection that are outstanding are below its ORD limit (R111, R121). -/
def State.ordFree (s : State) (i : Nat) : Bool := decide ((s.ctx i).ordNow < max 1 (s.ctx i).ordMax)

/-- The lowest free R2T index of a connection, at most 2,048 (R129). -/
def freeR2t (c : Ctx) : Option Nat := tfreeFrom c.r2ts 0 (min 2048 (c.r2ts.length + 1))

/-- Ask the host for a command's data: an RDMA READ request, or an R2T (R121, R129). In M3 its positions are planned, and go out
when the partner has confirmed the send record (R379, log 35). Numbers: context, slot or TTAG, CID, bytes. -/
def State.askHost (n : Nat) (s : State) : State :=
  let p := s.slot n
  let c := s.ctx p.ctx
  if p.need = 0 ∨ p.asked ∨ p.localPort then s
  else if c.kind = 2 then
    match freeR2t c with
    | none => s
    | some k =>
      let g := (tget 0 c.ttagGen k + 1) % 32
      let t := (s.updCtx p.ctx fun x => { x with r2ts := tput x.r2ts k (n, g), ttagGen := tput x.ttagGen k g }).updSlot n fun x => { x with asked := true }
      let o : Out := { kind := .r2t, args := [p.ctx, g * 2048 + k, p.cid, p.need] }
      if s.paired then
        let u := (t.plan p.ctx n 2 [24]).updPlan p.ctx n fun q => if q.plan = 2 then { q with msgs := some [(24, o)], conf := p.toPartner } else q
        u.flushPlans p.ctx
      else t.sendMsg p.ctx 24 o
  else if s.ordFree p.ctx then
    let t := (s.updCtx p.ctx fun x => { x with ordNow := x.ordNow + 1 }).updSlot n fun x => { x with asked := true }
    let o : Out := { kind := .readReq, args := [p.ctx, n, p.cid, p.need] }
    if s.paired then
      let u := (t.plan p.ctx n 2 [p.need]).updPlan p.ctx n fun q =>
        if q.plan = 2 then { q with msgs := some [(p.need, o)], conf := p.toPartner } else q
      u.flushPlans p.ctx
    else t.sendMsg p.ctx p.need o
  else s

/-- The stamp update of a write at the owner, with the send record of its data fetch (R375). -/
def State.sendStampUpdate (n : Nat) (s : State) : State :=
  let p := s.slot n
  if s.paired ∧ p.toPartner = false then
    match s.planOf p.ctx n with
    | some q => s.settSend 0x43 [n, p.stamp.toNat, q.first, q.last, q.plan, p.ctx] []
    | none => s.settSend 0x43 [n, p.stamp.toNat] []
  else s

/-- The bytes that a window holds. -/
def windowData (w : PushWin) (n : Nat) : Bytes := (List.range n).map fun i => tget 0 w.bytes i

/-! ### Larder slots (R216, R222) -/

/-- The stored blocks a write-kind command, or its piece, gives versions to (R174). -/
def State.versionSpan (s : State) (p : Slot) : Nat × Nat :=
  let f := (s.ns p.handle).format
  if p.opcode = 9 then wholeSpan f p.slba p.nlb else let x := span f p.slba p.nlb; (x.1, x.2.1)

/-- Larder slots in write-through use (R222). -/
def State.throughSlots (s : State) : Nat :=
  tcount (fun _ v => v.through) s.layout.larder + (s.cmds.slots.map fun p => if p.2.writeThrough then p.2.reserved else 0).sum

/-- The stored blocks of a write that lie in extents this controller owns (R184, R216). -/
def State.nearBlks (s : State) (p : Slot) : List Nat :=
  let b := s.versionSpan p
  ((List.range b.2).map fun i => b.1 + i).filter fun k => decide (s.ownerOf (s.recordOf p.handle k) = s.self)

/-- Reserve one larder slot for each stored block of a write that this controller owns (R216): in a larder mode within LARDER_LIMIT, in
write-through at most 65,536 in use with two journal drives up (R222); else it waits in arrival order. For the partner's blocks the owner
has reserved (R220). -/
def State.reserve (n : Nat) (s : State) : State :=
  let p := s.slot n
  let mine := s.nearBlks p
  let through := !s.paired && decide (s.layout.limit = 0)
  let room := if through then decide (s.throughSlots + mine.length ≤ 65536) && decide (2 ≤ (s.journalUp (s.ns p.handle).pool).length)
    else decide (s.limitedSlots + mine.length ≤ s.layout.limit)
  let free := s.freeLarder mine.length
  if p.writes.any (fun w => !w.far) ∨ mine = [] then s
  else if s.layout.waiting.contains n ∧ s.layout.waiting.head? ≠ some n then s
  else if room ∧ free.length = mine.length ∧ (s.layout.waiting = [] ∨ s.layout.waiting.head? = some n) then
    ((s.updSlot n fun x => { x with
      reserved := mine.length, writeThrough := through
      writes := x.writes ++ (mine.zip free).map fun e => { blk := e.1, lslot := e.2 } }).updLayout fun l =>
        { l with waiting := dropOne n l.waiting }).stage n 6
  else if s.layout.waiting.contains n then s
  else (s.updLayout fun l => { l with waiting := l.waiting ++ [n] }).bump cLarderWait p.tenant

/-- A write holds the larder slots it needs. -/
def Slot.hasRoom (p : Slot) (need : Nat) : Bool := decide (p.writes.length = need)

/-- A write that has its stamp reserves its slots, then fetches its data (R38, R216). -/
def State.beginWrite (n : Nat) (s : State) : State :=
  let t := s.reserve n
  let p := t.slot n
  if p.hasRoom (s.versionSpan p).2 then
    (((t.updSlot n fun x => { x with begun := true }).askHost n).sendStampUpdate n).when (p.need == 0) fun u => u.stage n 7
  else t

/-! ### Reading stored blocks (R35 stages 7 to 10, R37, R190) -/

/-- Change the reading of one stored block of a command. -/
def State.updRead (n blk : Nat) (f : BlkRead → BlkRead) (s : State) : State :=
  s.updSlot n fun p => { p with reads := p.reads.map fun r => if r.blk = blk then f r else r }

/-- One stored block has its plaintext: 4,112 bytes. -/
def State.blkDone (n blk : Nat) (plain : Bytes) (s : State) : State :=
  s.updRead n blk fun r => { r with done := true, plain := plain, got := [] }

/-- A lost or unreadable block ends a read with Unrecovered Read Error, and a write that needs it as its source with Write Fault
(R250, R251, R289). -/
def State.blkFailed (n : Nat) (s : State) : State := s.endErr n (if writeKind (s.slot n).opcode then stWriteFault else stUre)

/-- Send the drive read of one position of a block row for a command. -/
def State.readPos (n blk owner pool stripe pos b : Nat) (s : State) : State :=
  match s.chunkSlot pool stripe pos with
  | some d => s.submit (s.slot n).tenant
      { slot := d, op := 0, lba := rowLba (s.rowOf pool stripe).1 b, owner := owner, cslot := n, blk := blk, pos := pos }
  | none => s

/-- Reconstruct a stored block under the stripe's lock (R37, R245): every other position of its block row that is there is read.
Where fewer than K are there the block is lost (R242). -/
def State.reconstruct (n blk : Nat) (s : State) : State :=
  let h := (s.slot n).handle
  let pool := (s.ns h).pool
  match s.placeBlk h blk with
  | none => s.blkFailed n
  | some (stripe, j, b) =>
    let avail := (List.range (s.geom pool (inNew stripe)).w).filter fun p => p ≠ j && (s.chunkSlot pool stripe p).isSome
    if avail.length < (s.geom pool (inNew stripe)).k then s.blkFailed n
    else
      let g := s.takeLock pool stripe 4
      let t := g.2.updRead n blk fun r => { r with src := 3, got := [] }
      if g.1 then
        let t1 := t.updRead n blk fun r => { r with tags := avail.map fun p => (p, 0) }
        (avail.foldl (fun u p => u.readPos n blk 1 pool stripe p b) t1).updTelem fun x => { x with
          foxLive := tadj n (fun f => { f with flags := if f.flags.testBit 2 then f.flags else f.flags + 4 }) x.foxLive }
      else t

/-- No command still reconstructs in a stripe: its lock is released (R245). -/
def State.reconDone (pool stripe : Nat) (s : State) : State :=
  let busy := s.cmds.slots.any fun p => decide (p.2.state < 5) && p.2.reads.any fun r => decide (r.src = 3) && !r.done &&
    decide ((s.ns p.2.handle).pool = pool) && ((s.placeBlk p.2.handle r.blk).map (·.1) == some stripe)
  match tfind s.layout.locks (stripeKey pool stripe) with
  | some k => if k.holder = 4 ∧ busy = false then s.freeLock pool stripe else s
  | none => s

/-- The row group of a stored block becomes hot for Badger (R265, R290). -/
def State.hotBlk (h blk : Nat) (s : State) : State :=
  let pool := (s.ns h).pool
  match s.placeBlk h blk with
  | some (stripe, _, _) => s.markHot pool ((s.rowOf pool stripe).1 / 1024)
  | none => s

/-- A stored block of a command has been read from the drives or rebuilt: the checks of R290 in order; a marker enters its lost-list entry (R252). `again` is a rebuilt block,
whose second failure ends the read. -/
def State.blockIn (n blk : Nat) (again : Bool) (bytes : Bytes) (s : State) : State :=
  let p := s.slot n
  let r := s.checkBlock p.handle blk (if writeKind p.opcode then none else some p.stamp.toNat) bytes
  let t := s.countCheck p.handle blk r bytes
  let bad (u : State) : State := if again then (u.hotBlk p.handle blk).blkFailed n else (u.hotBlk p.handle blk).reconstruct n blk
  match r with
  | .unwritten => t.blkDone n blk (zeros 4112)
  | .good plain => (t.touchKey p.handle (genOf bytes)).blkDone n blk plain
  | .trailer => bad t
  | .late => if p.replay then (t.bump cStampReadLate 0).ctxError p.ctx else bad t
  | .marked => (t.enterLost (s.ns p.handle).pool p.handle blk).blkFailed n
  | .tagBad => (t.hotBlk p.handle blk).blkFailed n
  | .waitKey g => (t.updRead n blk fun x => { x with got := [(if again then 1 else 0, bytes)], tags := [] }).askKey p.handle g

/-- A version of the larder or mirror larder serves a block: its trailer and tag are checked like a drive block's (R190, R217). -/
def State.versionIn (n blk : Nat) (v : Version) (s : State) : State :=
  let h := (s.slot n).handle
  if v.dealloc then s.blkDone n blk (zeros 4112)
  else
    let bytes := v.cipher ++ v.trailer
    match s.checkBlock h blk none bytes with
    | .unwritten => s.blkDone n blk (zeros 4112)
    | .good plain => (s.touchKey h (genOf bytes)).blkDone n blk plain
    | .waitKey g => (s.updRead n blk fun x => { x with got := [(2, bytes)] }).askKey h g
    | r => (s.countCheck h blk r bytes).blkFailed n

/-- Begin the reading of one stored block at a command's stamp (R190): a version, else the lost-block list, else the drives, by
reconstruction where its position is missing. -/
def State.readBlk (n blk owner : Nat) (s : State) : State :=
  let p := s.slot n
  if 5 ≤ p.state then s
  else
    match s.versionBelow p.handle blk p.stamp.toNat with
    | some (src, _, v) => (s.updRead n blk fun r => { r with src := src }).versionIn n blk v
    | none =>
      if s.isLost p.handle blk then s.blkFailed n
      else
        match s.placeBlk p.handle blk with
        | none => s.blkFailed n
        | some (stripe, j, b) =>
          let pool := (s.ns p.handle).pool
          if (s.chunkSlot pool stripe j).isSome then s.readPos n blk owner pool stripe j b else s.reconstruct n blk

/-- Stage 7 of a read: the placement of every stored block is computed and its reading begins (R35). -/
def State.beginRead (n : Nat) (s : State) : State :=
  let p := s.slot n
  let x := span (s.ns p.handle).format p.slba p.nlb
  let blks := (List.range x.2.1).map fun i => x.1 + i
  let t := (s.updSlot n fun q => { q with begun := true, reads := blks.map fun b => { blk := b } }).stage n 6
  (blks.foldl (fun u b => u.readBlk n b 0) t).when (p.opcode == 5) fun u => u.askHost n

/-! ### Data to the host (R35 stages 11 to 13) -/

/-- The host blocks of a range from the plaintext of its stored blocks, in order: wire bytes, and the first failed status. -/
def hostBytes (fmt : Nat) (a : PiAsk) (nlb : Nat) (plain : Nat → Bytes) : Bytes × Nat :=
  (List.range nlb).foldl (fun (acc : Bytes × Nat) i =>
    if acc.2 ≠ 0 then acc
    else
      let lba := a.slba + i
      let o := hostOut fmt a i (lba % hostPerBlk fmt) (plain (lba / hostPerBlk fmt))
      if o.2 = 0 then (acc.1 ++ o.1, 0) else (acc.1, o.2)) ([], 0)

/-- The plaintext of a stored block read for a command. -/
def Slot.plainOf (p : Slot) (blk : Nat) : Bytes := ((p.reads.find? fun r => r.blk = blk).map (·.plain)).getD []

/-- Mark the entries of a read whose completion has been handed to egress (R194). -/
def State.pinReads (h : Nat) (stamp : BitVec 64) (s : State) : State :=
  s.updCons fun c => { c with ovl := tmap (fun _ e =>
    if e.kind = 1 ∧ e.handle = h ∧ e.stamp = stamp ∧ e.doneNs = 0 then { e with doneNs := max 1 s.now } else e) c.ovl }

/-- Hand a read's data to egress, or to host memory, then its last-data event (R135, R183). In M3 the data joins the PDUs planned
at its stamp. -/
def State.sendReadData (n : Nat) (bytes : Bytes) (s : State) : State :=
  let p := s.slot n
  if p.localPort then ((s.adminData { cid := p.cid } [if s.localPort.relaxed ∧ s.localPortCfgRoData = 1 then 2 else 1] bytes).trigger n 2).pinReads p.handle p.stamp
  else
    let o : Out := { kind := .hostData, args := [p.ctx, p.cid, bytes.length], data := bytes }
    match s.planOf p.ctx n with
    | some _ => ((s.updPlan p.ctx n fun q => { q with msgs := some [(bytes.length, o)], conf := true }).trigger n 2).pinReads p.handle p.stamp
    | none => ((s.sendMsg p.ctx bytes.length o).trigger n 2).pinReads p.handle p.stamp

/-- Stages 11 to 13 of a read-kind command whose blocks are all decrypted (R277): protection information, then Read sends its data,
Verify none, Compare compares with the host's. -/
def State.finishRead (n : Nat) (s : State) : State :=
  let p := s.slot n
  let fmt := (s.ns p.handle).format
  let out := hostBytes fmt p.ask p.nlb p.plainOf
  let t := (s.stage n 8).stage n 9
  if p.recordConf = false then s
  else if out.2 ≠ 0 then (t.countPi p.handle out.2 true).endErr n out.2
  else if p.opcode = 2 then t.sendReadData n out.1
  else if p.opcode = 5 ∧ out.1 ≠ p.data then t.endErr n stCompare
  else
    let u := if p.localPort then t else t.updPlan p.ctx n fun q => if q.plan = 1 then { q with msgs := some [], conf := true } else q
    (u.trigger n 2).pinReads p.handle p.stamp

/-! ### Stage 7 of a write (R276, R289) -/

/-- The host blocks of a write that lie in a stored block: (index in the command, place in the stored block). -/
def hostBlocksIn (fmt slba nlb blk : Nat) : List (Nat × Nat) :=
  let per := hostPerBlk fmt
  (List.range per).filterMap fun k =>
    let lba := blk * per + k
    if slba ≤ lba ∧ lba < slba + nlb then some (lba - slba, k) else none

/-- One host block of a write as it goes into a stored block: data, metadata, status of R276. Write Zeroes has zeros with generated
protection information. -/
def Slot.hostBlk (p : Slot) (fmt i : Nat) : Bytes × Bytes × Nat :=
  if p.opcode = 8 then
    let d := zeros (hostData fmt)
    (d, piMake fmt p.ask i d (zeros (hostMeta fmt)), stOk)
  else
    let w := wireBlock fmt p.prinfo
    hostIn fmt p.ask i ((p.data.drop (i * w)).take w)

/-- The plaintext of a stored block of a write: 4,096 bytes of data and HOST_META, from the host's blocks over the source where the
block is covered in part (R217, R275, R276). -/
def Slot.plainBlk (p : Slot) (fmt blk : Nat) (source : Bytes) : Bytes × Nat :=
  let parts := hostBlocksIn fmt p.slba p.nlb blk
  let base := padTo 4112 source
  parts.foldl (fun (acc : Bytes × Nat) x =>
    if acc.2 ≠ 0 then acc
    else
      let h := p.hostBlk fmt x.1
      if h.2.2 ≠ 0 then (acc.1, h.2.2)
      else
        let d := overwrite acc.1 (x.2 * hostData fmt) h.1
        let m := hostMetaBytes fmt [h.2.1]
        (if fmt % 2 = 1 then overwrite d 4096 m else if hostMeta fmt = 0 then d else overwrite d (4096 + 2 * x.2) (m.take 2), 0)) (base, stOk)

/-- Stored blocks of a write that it covers only in part. -/
def State.partialBlks (s : State) (p : Slot) : List Nat :=
  if p.opcode = 9 then [] else (span (s.ns p.handle).format p.slba p.nlb).2.2

/-- Encrypt one stored block of a write (R289): protection information, counter, ciphertext and trailer. A block that waits for a
key or a counter leaves the rest for later. -/
def State.encryptBlk (n : Nat) (w : BlkWrite) (s : State) : State :=
  let p := s.slot n
  let fmt := (s.ns p.handle).format
  let put (b : Bytes) (u : State) : State := u.updSlot n fun x => { x with
    writes := x.writes.map fun y => if y.blk = w.blk then { y with cipher := b.take 4096, trailer := b.drop 4096 } else y }
  if w.trailer ≠ [] ∨ 5 ≤ p.state ∨ s.cipher.keyWaiting.contains n then s
  else if p.opcode = 9 then put (zeros 4160) s
  else
    let x := p.plainBlk fmt w.blk (p.plainOf w.blk)
    if x.2 ≠ 0 then (s.countPi p.handle x.2 false).endErr n x.2
    else
      let wait (u : State) : State := u.updCipher fun c => { c with keyWaiting := addOne n c.keyWaiting }
      match s.takeCtr p.handle with
      | (.plain, t) => put (t.plainBlock p.handle w.blk p.pieceStamp.toNat x.1) t
      | (.ready g k, t) => put (t.encryptAt p.handle w.blk p.pieceStamp.toNat g k x.1) t
      | (.waitKey _, t) => wait t
      | (.waitStep _, t) => wait t
      | (.exhausted, t) => (t.bump cKeygenExhaustedWrites p.handle).endErr n 0x120

/-- Stage 7 of a write (R38): the sources of its partial blocks are read first (R217), then every block is encrypted. -/
def State.stageSeven (n : Nat) (s : State) : State :=
  let p := s.slot n
  let parts := s.partialBlks p
  if p.reads = [] ∧ parts ≠ [] then
    parts.foldl (fun u b => u.readBlk n b 8) (s.updSlot n fun x => { x with reads := parts.map fun b => { blk := b } })
  else if p.reads.any (fun r => !r.done) then s
  else p.writes.foldl (fun u w => u.encryptBlk n w) s

/-- A write whose blocks are all encrypted. -/
def Slot.sealed (p : Slot) : Bool := p.writes.all fun w => w.trailer ≠ []

/-! ### Progress of the commands that hold stamps -/

/-- Take a slot's command as far as it can go now: data fetch, stage 7, reads, data to the host. -/
def State.advance (n : Nat) (s : State) : State :=
  let p := s.slot n
  if p.state ≠ 4 ∨ p.admin then s
  else if writeKind p.opcode then
    if p.begun = false then s.beginWrite n
    else if 0 < p.need ∧ p.asked = false then s.askHost n
    else if p.gone ∧ p.need = 0 ∧ p.placed = false ∧ p.sealed = false then s.stageSeven n
    else s
  else if readKind p.opcode then
    if p.gone ∧ p.begun = false then s.beginRead n
    else if p.begun ∧ 0 < p.need ∧ p.asked = false then s.askHost n
    else if p.begun ∧ p.reads.all (fun r => r.done) ∧ p.need = 0 ∧ p.seen.toNat.testBit 2 = false then s.finishRead n
    else s
  else s

/-- Read entries whose replay record has closed leave the table (R194); what they held back may be released (R192). -/
def State.pruneReads (s : State) : State :=
  let closed (e : OvlEntry) : Bool := decide (e.kind = 1) && decide (0 < e.doneNs) && decide (e.holder = s.self) &&
    s.cmds.replays.any fun r => !r.2.isOpen && decide (r.2.handle = e.handle) && decide (r.2.stamp = e.stamp)
  if s.cons.ovl.any fun e => closed e.2 then
    (s.updCons fun c => { c with ovl := c.ovl.filter fun e => !closed e.2 }).releaseCovered
  else s

/-- Take every command as far as it can go, `k` rounds over the slots. -/
def State.rounds : Nat → State → State
  | 0, s => s
  | k + 1, s => State.rounds k ((tkeys s.cmds.slots).foldl (fun t n => t.advance n) s)

/-- Let every command that can go on do so: five rounds reach each one's next wait from any stage. -/
def State.settle (s : State) : State := (s.rounds 5).pruneReads

/-! ### Placement (R174, R218, R219, R222, R251) -/

/-- Placed versions that cover lost blocks heal them (R251). -/
def State.heal (h : Nat) (blks : List Nat) (s : State) : State :=
  s.updLayout fun l => { l with lostList := blks.foldl (fun t b => tadj (lostKey h b) (fun e => { e with lState := 2 }) t) l.lostList }

/-- The versions of some blocks of a write. -/
def State.versionsFrom (s : State) (p : Slot) (ws : List BlkWrite) (mirrored : Bool) : Tbl Version :=
  ws.map fun w => (w.lslot,
    { handle := p.handle, blk := w.blk, stamp := p.pieceStamp, cipher := w.cipher, trailer := w.trailer, placed := true, mirrored := mirrored
      through := p.writeThrough, bornNs := s.now, dealloc := decide (p.opcode = 9) })

/-- The units of a write-through: at most 64 stored blocks, within one 1 MiB region (R222). -/
def units : Nat → Nat → Nat → List (Nat × Nat)
  | 0, _, _ => []
  | fuel + 1, first, n =>
    if n = 0 then []
    else
      let m := min (min n 64) ((first / 256 + 1) * 256 - first)
      (first, m) :: units fuel (first + m) (n - m)

/-- Write the units of a write through to the journal: a data intent and its blocks to every journal drive that is up (R222). -/
def State.journalUnits (n : Nat) (s : State) : State :=
  let p := s.slot n
  let pool := (s.ns p.handle).pool
  let b := s.versionSpan p
  (units b.2 b.1 b.2).foldl (fun t u =>
    let at' := (t.pool pool).ringNext + 1
    let t1 := (t.journalData pool { kind := 3, high := p.pieceStamp.toNat, arg := u.2, arg2 := p.handle * 2 ^ 50 + u.1 } u.2).bump cWtUnits pool
    let data := ((p.writes.filter fun w => u.1 ≤ w.blk && w.blk < u.1 + u.2).map fun w => w.cipher ++ w.trailer)
    (t1.journalUp pool).foldl (fun v d => (List.range u.2).foldl (fun x i => x.submitAs (some 1) p.tenant
      { slot := d, op := 1, lba := ringLba (at' + i), blocks := 1, owner := 3, data := data.getD i [] }) v) t1) s

/-- A command, or one piece of a Dataset Management, has passed stage 8: the write it was is placed in the table (R188); a further
piece is admitted, else the event is raised (R135, R560). -/
def State.stageEight (n : Nat) (s : State) : State :=
  let p := s.slot n
  let t := (s.placedOvl n s.self p.pieceStamp false).releaseCovered
  match p.ranges with
  | r :: rs =>
    (t.updSlot n fun x => { x with
      ranges := rs, slba := r.1, nlb := r.2, waits := [], gone := false, begun := false, writes := [], reads := [], reserved := 0
      placed := false, mirrored := false, farPlaced := false, toPartner := false, pieceStamp := 0 }).stageFive n r.1 r.2
  | [] => if s.paired then (t.trigger n 0).trigger n 1 else t.trigger n 0

/-- The last piece, or the whole command: its placement is the event of R135; earlier pieces only go on (R560). -/
def Slot.lastPiece (p : Slot) : Bool := p.ranges.isEmpty

/-- Forward a write's blocks to the owner's larder, and keep the mirror copy (R182, R220). -/
def State.forward (n : Nat) (s : State) : State :=
  let p := s.slot n
  let far := p.writes.filter (·.far)
  let t := if p.localPort || !p.ranges.isEmpty || (s.planOf p.ctx n).isSome then s else s.plan p.ctx n 3 [16]
  let args := [n, s.self, p.handle, p.pieceStamp.toNat, far.length] ++ (far.map fun w => [w.lslot, w.blk]).flatten
  (t.updLayout fun l => { l with mirror := (s.versionsFrom p far true).foldl (fun m v => tput m v.1 v.2) l.mirror }).settSend 0x30 args
    ((far.map fun w => w.cipher ++ w.trailer).flatten)

/-- The parts of a write that have passed stage 8 so far, here and at the owner (R184, R219): the whole of it, or not yet. -/
def State.partsDone (n : Nat) (s : State) : State :=
  let p := s.slot n
  let near := p.writes.any fun w => !w.far
  let far := p.toPartner || p.writes.any (·.far)
  if p.placed = false ∨ (near ∧ p.mirrored = false) ∨ (far ∧ p.farPlaced = false) then s
  else
    let t := (if p.localPort then s else s.updPlan p.ctx n fun q => if q.plan = 3 then { q with conf := true } else q).stage n 9
    let u := t.stageEight n
    if p.localPort then u else u.advanceAck p.ctx

/-- Placement of a write whose blocks are all encrypted, in one step (R218): the owner's blocks into the larder, and in M3 their mirror
record goes out by CHAIN_0; the partner's blocks are forwarded. In write-through the units go to the journal first (R222). Between
the loss of the partner and the claim no write of its extents is placed (R179). -/
def State.placeWrite (n : Nat) (s : State) : State :=
  let p := s.slot n
  if p.state ≠ 4 ∨ writeKind p.opcode = false ∨ (s.pair.lost ∧ (s.ownersOf p).contains s.other) ∨ p.gone = false ∨ p.begun = false ∨ 0 < p.need ∨ p.placed ∨ p.sealed = false then s
  else
    let near := p.writes.filter fun w => !w.far
    let t := (s.when p.writeThrough fun u => u.journalUnits n)
    let t1 := (((t.insertVersions (s.versionsFrom p near false)).updSlot n fun x => { x with placed := true, reserved := 0 }).heal p.handle
      (p.writes.map (·.blk))).rule3Update.stage n 8
    let t2 := t1.when (p.toPartner || p.writes.any (·.far)) fun u => u.forward n
    if s.paired = false then (((t2.when s.syncing fun u => u.sendMirror n).updSlot n fun x => { x with writes := [] }).stage n 9).stageEight n
    else if near = [] then t2.partsDone n
    else if p.lastPiece then t2.trigger n 0
    else t2.sendMirror n

/-- The partner confirms the mirror of a write (R219). -/
def State.mirrorDone (n : Nat) (s : State) : State :=
  let p := s.slot n
  if p.placed = false ∨ p.mirrored then s
  else
    let ks := (p.writes.filter fun w => !w.far).map (·.lslot)
    ((s.updLayout fun l => { l with larder := ks.foldl (fun m k => tadj k (fun v => { v with mirrored := true }) m) l.larder }).updSlot n
      fun x => { x with mirrored := true }).partsDone n

/-- The owner confirms the placement of a forwarded write (R182): its data is in both larders. -/
def State.forwardDone (n : Nat) (s : State) : State :=
  let p := s.slot n
  if p.placed = false ∨ p.farPlaced then s else (s.updSlot n fun x => { x with farPlaced := true }).partsDone n

/-! ### Intake of capsules (R150, R151, R163, R164, R519) -/

/-- Draw the Fox tag of a command that takes a slot (R519). -/
def State.foxDraw (n : Nat) (p : Slot) (s : State) : State :=
  let pass := decide (s.foxCfgFoxEn = 1) && (s.foxCfgTenantFiltEn == 0 || p.tenant == s.foxCfgTenant) &&
    (s.foxCfgKind == 0 || (s.foxCfgKind == 1 && readKind p.opcode) || (s.foxCfgKind == 2 && writeKind p.opcode))
  if !pass ∨ p.admin ∨ p.replay then s
  else
    let hit := decide (s.drawn 32 < 2 ^ 32 / max 1 s.foxCfgRateN)
    let t := s.draw
    if !hit then t
    else if 4096 ≤ s.telem.foxLive.length then t.bump cFoxSkipped 0
    else
      let f : FoxTag := {
        t0 := s.now, tenant := p.tenant, handle := p.handle, ctx := p.ctx, qid := p.qid, cid := p.cid, slba := p.slba, nlb := p.nlb
        opcode := p.opcode, flags := if p.localPort then 32 else 0, mode := s.modes.mode.num + 8 * s.self }
      ((t.updTelem fun x => { x with foxLive := tput x.foxLive n f }).bump cFoxTagged 0).stage n 1 |>.stage n 2

/-- The status a decoded I/O command ends with at stage 3, 0 where it goes on (R145, R154, R155, R560). -/
def State.decodeStatus (s : State) (c : HostCmd) (host : Nat) : Nat :=
  let h := c.nsid - 1
  let n := s.ns h
  let known := readKind c.opcode || writeKind c.opcode || c.opcode == 0
  let bytes := c.nlb * wireBlock n.format c.prinfo
  let cap := n.blocks * hostPerBlk n.format
  if !known then stBadOpcode
  else if c.fuse ≠ 0 then stBadField
  else if c.nsid = 0 ∨ s.attached h host = false ∨ n.nState = 0 then stBadNs
  else if n.nState ≠ 2 ∨ s.poolOnline n.pool = false then stNotReady
  else if c.opcode = 0 then stOk
  else if c.opcode = 9 then
    (if c.deallocate = false ∨ c.ranges = [] ∨ 256 < c.ranges.length then stBadField
     else if c.ranges.any fun r => decide (cap < r.1 + r.2) then stRange else stOk)
  else if c.nlb = 0 ∨ 1048576 < c.nlb * hostData n.format ∨ ((c.opcode = 1 ∨ c.opcode = 2 ∨ c.opcode = 5) ∧ 1048576 < bytes) then stBadField
  else if cap < c.slba + c.nlb then stRange
  else stOk

/-- What a capsule finds of the window it names: (window, generation) where it is bound, none where the command ends with Invalid Field
(R125). -/
def windowFor (c : Ctx) (i key len : Nat) : Option (Nat × Nat) :=
  let w := bits key 10 5
  let g := key % 32
  let d := ctxWindow c w
  if key / 2048 = i ∧ w < c.pushCount ∧ len ≤ windowBytes c.pushSize ∧ (d.wState = 2 ∨ (d.wState = 0 ∧ d.gen = g)) then some (w, g) else none

/-- The pieces of a Dataset Management: each range, divided at every 1 MiB boundary (R560). -/
def piecesOf (perMib : Nat) : Nat → Nat → Nat → List (Nat × Nat)
  | 0, _, _ => []
  | fuel + 1, lba, n =>
    if n = 0 then []
    else
      let m := min n ((lba / perMib + 1) * perMib - lba)
      (lba, m) :: piecesOf perMib fuel (lba + m) (n - m)

/-- The tenant and host identity of a capsule's sender. -/
def State.senderOf (s : State) (c : HostCmd) : Nat × Nat :=
  if c.localPort then
    let host := s.cmdCfgLocalHostId
    ((tget {} s.cmds.hosts host).tenant, host)
  else ((s.fab c.cntlid).tenant, (s.fab c.cntlid).hostId)

/-- Stage 4 of a command (R346 to R348): its colour is counted; red is DEFERRED in the FIFO of its connection, else it goes on to
stage 5 by its own row. A connection with deferred commands defers the next behind them. -/
def State.police (n : Nat) (s : State) : State :=
  let p := s.slot n
  let bytes := meterCharge p.opcode (s.wireBytes p)
  let fifo := tget [] s.qos.deferred p.ctx
  let m := if fifo = [] then s.meter p.ctx p.tenant bytes else (2, s)
  let t := m.2.updSlot n fun x => { x with colour := m.1 }
  if m.1 = 2 then
    ((t.updSlot n fun x => { x with state := 2, deferRed := true }).updQos fun q => { q with deferred := tput q.deferred p.ctx (fifo ++ [n]) }).bump
      cCmdRed p.tenant
  else (t.bump (if m.1 = 1 then cCmdYellow else cCmdGreen) p.tenant).stage n 3

/-- A capsule takes slot `n`: the slot is DECODED, the head pointer moves, the shadow goes to the partner, and a command that fails its
checks ends (R149, R150, R375). -/
def State.takeSlot (n : Nat) (c : HostCmd) (s : State) : State :=
  let who := s.senderOf c
  let h := c.nsid - 1
  let fmt := (s.ns h).format
  let st := s.decodeStatus c who.2
  let wire := wireBlock fmt c.prinfo
  let bytes := c.nlb * wire
  let win := match c.window with
    | some (key, len) => windowFor (s.ctx c.ctx) c.ctx key len
    | none => none
  let data := match win with
    | some (w, _) => windowData (ctxWindow (s.ctx c.ctx) w) bytes
    | none => c.inCapsule
  let pieces := if c.opcode = 9 then
      (c.ranges.map fun r => piecesOf (1048576 / hostData fmt) (r.2 / (1048576 / hostData fmt) + 2) r.1 r.2).flatten else []
  let slba := if c.opcode = 9 then (pieces.head?.map (·.1)).getD 0 else c.slba
  let nlb := if c.opcode = 9 then (pieces.head?.map (·.2)).getD 0 else c.nlb
  let p : Slot := {
    state := 1, opcode := c.opcode, localPort := c.localPort, fua := c.fua, ctx := c.ctx, qid := c.qid, cid := c.cid, cntlid := c.cntlid
    handle := if st = stBadNs then 0 else h, slba := slba, nlb := nlb, tenant := who.1, pushWin := win, pos := c.pos, arrivalUs := s.nowUs % 2 ^ 32
    sqeCrc := c.sqeCrc, prinfo := c.prinfo, appTag := c.appTag, appMask := c.appMask, refTag := c.refTag
    pfAtomic := writeKind c.opcode && decide (nlb * hostData fmt ≤ 262144) &&
      decide (slba * hostData fmt / 1048576 = (slba * hostData fmt + max 1 (nlb * hostData fmt) - 1) / 1048576)
    data := if takesData c.opcode then data else [], inCapsule := !c.inCapsule.isEmpty
    need := if takesData c.opcode && data.isEmpty then bytes else 0, ranges := pieces.drop 1 }
  let t := (s.updCmds fun m => { m with slots := tput m.slots n p }).bump cCmdRx who.1
  let t1 := if c.localPort then t.lpUsed else
    (t.updFab c.cntlid fun f => { f with queues := tadj c.qid (fun q => (q.1, q.2.1, (q.2.2 + 1) % max 1 q.2.1)) f.queues }).settIfPaired
      0x42 [n, c.ctx, c.cid, 1] []
  let t2 := (match win with
    | some (w, g) => t1.updCtx c.ctx fun x => { x with windows := tput x.windows w { ctxWindow x w with wState := 1, gen := g, data := false } }
    | none => t1).foxDraw n p
  if st ≠ 0 then t2.failCmd n st
  else if c.window.isSome ∧ win = none then t2.failCmd n stBadField
  else if c.opcode ≠ 9 ∧ takesData c.opcode ∧ data ≠ [] ∧ data.length ≠ bytes then t2.failCmd n stBadField
  else if c.localPort ∧ takesData c.opcode ∧ data = [] then
    (t2.updLocalPort fun l => { l with fetching := addOne n l.fetching }).send .hostFetch [n, bytes] []
  else t2.police n

/-- The open replay record that a capsule matches (R163). -/
def State.replayFor (s : State) (c : HostCmd) : Option Replay :=
  (s.cmds.replays.find? fun e => e.2.isOpen && !e.2.admin && replayMatch e.2 c.ctx (s.ctx c.ctx).ctxGen c.qid c.cid c.pos).map (·.2)

/-- Answer a repeated capsule from its record (R164): a Read or Compare that returned data reads its range again at the record's stamp,
under a slot of its own; any other has its stored completion posted again. -/
def State.answerReplay (r : Replay) (c : HostCmd) (s : State) : State :=
  let t := s.bump cReplayHit (engineOf c.ctx)
  match (if (r.opcode = 2 ∨ r.opcode = 5) ∧ r.status = 0 then s.freeSlot else none) with
  | some n =>
    let p : Slot := {
      state := 4, opcode := 2, replay := true, ctx := c.ctx, qid := c.qid, cid := c.cid, cntlid := c.cntlid, handle := r.handle, slba := r.slba
      nlb := r.nlb + 1, tenant := (s.senderOf c).1, stamp := r.stamp, pieceStamp := r.stamp, pos := c.pos, arrivalUs := s.nowUs % 2 ^ 32, gone := true
      dw0 := r.dw0, prinfo := c.prinfo, appTag := c.appTag, appMask := c.appMask, refTag := c.refTag }
    let x := span (s.ns r.handle).format r.slba (r.nlb + 1)
    let held := s.cons.ovl.any fun e => decide (e.2.kind = 1) && decide (e.2.handle = r.handle) && decide (e.2.stamp = r.stamp)
    let t1 := t.updCmds fun m => { m with slots := tput m.slots n p }
    if held then t1 else (t1.enterPart 1 n s.self r.handle r.stamp x.1 x.2.1 [] false).2
  | none => t.respond c.ctx (262144 + c.cid) (respOut c.ctx c.qid c.cid r.status r.dw0 (s.sqhd c.cntlid c.qid))

/-- A capsule is in (stage 3 of R35): an earlier delivery is recognised (R163, R164); else it takes a slot or waits behind its queue for
one (R150). -/
def State.capsuleIn (c : HostCmd) (s : State) : State :=
  let who := s.senderOf c
  let live := if c.localPort then s.localPort.enabled && s.localPort.rdy
    else s.inService && (s.fab c.cntlid).live && decide ((s.ctx c.ctx).state = 2) && thas (s.fab c.cntlid).queues c.qid
  if live = false ∨ s.layout.holdup.isSome then s
  else
    let t := ((if c.localPort then s else s.katoRestart c.cntlid).ioVote c.cntlid)
    let same := !c.localPort && s.cmds.slots.any fun p => !p.2.localPort && decide (p.2.ctx = c.ctx) && decide (p.2.qid = c.qid) &&
      decide (p.2.cid = c.cid) && decide (p.2.pos = c.pos)
    if same then t
    else
      match (if c.localPort then none else s.replayFor c) with
      | some r => if r.sqeCrc = c.sqeCrc then t.answerReplay r c else (t.bump cReplayMismatch (engineOf c.ctx)).ctxError c.ctx
      | none =>
        let behind := s.cmds.waiting.any fun w => w.localPort == c.localPort && decide (w.ctx = c.ctx) && decide (w.qid = c.qid)
        match (if behind ∨ s.slotAllowed who.1 = false then none else s.freeSlot) with
        | some n => t.takeSlot n c
        | none => (t.updCmds fun m => { m with waiting := m.waiting ++ [c] }).bump cSlotWait who.1

/-- Staging for waiting capsules is full: the transport takes no further capsule in (R150; a free value of the spec, log 5). -/
def State.capsuleShut (s : State) : Bool := decide (s.cmds.waiting ≠ []) && Config.stagingFull s.cmds.waiting.length

/-- The queue name of a waiting capsule. -/
def queueName (c : HostCmd) : Nat := (if c.localPort then 2 ^ 40 else 0) + c.ctx * 65536 + c.qid

/-- Offer free slots round-robin among the queues that have capsules waiting (R150). -/
def State.offerSlots : Nat → State → State
  | 0, s => s
  | k + 1, s =>
    let heads := (s.cmds.waiting.foldl (fun (t : Tbl HostCmd) c => if thas t (queueName c) then t else tput t (queueName c) c) []).filter fun e =>
      s.slotAllowed (s.senderOf e.2).1
    let order := (heads.filter fun e => s.cmds.rrNext < e.1) ++ heads.filter fun e => e.1 ≤ s.cmds.rrNext
    match order, s.freeSlot with
    | e :: _, some n =>
      State.offerSlots k (((s.updCmds fun m => { m with waiting := m.waiting.erase e.2, rrNext := e.1 })).takeSlot n e.2)
    | _, _ => s

/-! ### Deletion and stopping (R147, R159, R467) -/

/-- Withdraw an ADMITTING command: 0 withdrawn here, 1 stamped already, 2 the partner decides (R159). -/
def State.withdrawHere (n : Nat) (s : State) : Nat × State :=
  let p := s.slot n
  if p.stamp ≠ 0 then (1, s)
  else if p.toPartner then (2, s.settSend 0x13 [n, p.handle, p.slba] [])
  else
    let mine (r : StampReq) : Bool := decide (r.slot = n) && decide (r.holder = s.self)
    let waited := s.cons.extents.any fun e => e.2.crossing.any mine
    let t := s.updCons fun c => { c with extents := tmap (fun _ e => { e with held := e.held.filter fun r => !mine r, crossing := e.crossing.filter fun r => !mine r }) c.extents }
    (0, t.when waited fun u => u.settSend 0x10 [n, s.self, 6, p.handle, p.slba, p.nlb, 0, 0] [])

/-- Drop a command from the deferred FIFOs. -/
def State.dropDeferred (n : Nat) (s : State) : State :=
  s.updQos fun q => { q with deferred := (tmap (fun _ l => l.filter fun k => k ≠ n) q.deferred).filter fun e => !e.2.isEmpty }

/-- The end of one command whose controller is deleted, or whose port's DMA has stopped (R147, R467): `reads` are ended internally, and
a write that holds a stamp goes on where its data is here or can still be fetched. -/
def State.stopCmd (n : Nat) (fetchable : Bool) (s : State) : State :=
  let p := s.slot n
  if p.state ≤ 2 then (s.dropDeferred n).endQuiet n
  else if p.state = 3 then
    let w := s.withdrawHere n
    if w.1 = 0 then w.2.endQuiet n else w.2.updSlot n fun x => { x with ended := true }
  else if p.state = 4 then
    if writeKind p.opcode then
      if fetchable ∨ p.need = 0 then s.updSlot n fun x => { x with ended := true } else s.endQuiet n
    else s.endQuiet n
  else s

/-- Delete a fabric controller (R147): its connections drain, its commands end, and its vote and shadows go. -/
def State.deleteFab (c : Nat) (s : State) : State :=
  let f := s.fab c
  if f.live = false then s
  else
    let ctxs := (f.adminCtx :: f.queues.map fun q => q.2.1).eraseDups
    let t := s.updCmds fun m => { m with
      waiting := m.waiting.filter fun w => w.localPort || decide (w.cntlid ≠ c)
      replays := tmap (fun _ r => if ctxs.contains r.ctx then { r with isOpen := false } else r) m.replays }
    let mine := tkeys (s.cmds.slots.filter fun p => !p.2.localPort && decide (p.2.cntlid = c))
    let t1 := mine.foldl (fun u n => u.stopCmd n (decide ((u.ctx (u.slot n).ctx).state = 2))) t
    let t2 := t1.updCmds fun m => { m with fab := tdel m.fab c }
    let t3 := ctxs.foldl (fun u i => u.enterDraining i) t2
    ((t3.settIfPaired 0x46 [c, 0] []).recomputePs).settle

/-- A connection has failed: its commands stop, and where it carried an admin queue its fabric controller is deleted (R109, R147). -/
def State.afterError (i : Nat) (s : State) : State :=
  if (s.ctx i).state = 4 ∨ (s.ctx i).state = 6 then
    let mine := tkeys (s.cmds.slots.filter fun p => !p.2.localPort && decide (p.2.ctx = i) && !p.2.ended && decide (p.2.state < 5))
    let t := mine.foldl (fun u n => u.stopCmd n false) s
    match t.cmds.fab.find? fun f => f.2.live && decide (f.2.adminCtx = i) with
    | some f => t.deleteFab f.1
    | none => t
  else s

/-- An admin command is taken in: counted, it holds its slot, and the head of its queue moves (R149, R152, R170). -/
def State.adminTake (q : AdminCmd) (s : State) : State :=
  let t := s.bump cCmdRx (s.adminTenant q.cntlid)
  if q.cntlid = 0 then t.updLocalPort fun l => { l with sqs := tadj 0 (fun x => { x with head := (x.head + 1) % max 1 x.size }) l.sqs }
  else t.updFab q.cntlid fun f => { f with
    held := f.held ++ [q], queues := tadj 0 (fun x => (x.1, x.2.1, (x.2.2 + 1) % max 1 x.2.1)) f.queues }

/-- The admin command already holds a slot: this is a repeat of its capsule (R164). -/
def State.adminHeld (s : State) (q : AdminCmd) : Bool :=
  (s.fab q.cntlid).held.any fun h => decide (h.ctx = q.ctx) && decide (h.cid = q.cid) && decide (h.pos = q.pos)

/-- The open replay record that an admin or Fabrics capsule matches (R163). -/
def State.adminRecord (s : State) (ctx qid cid pos : Nat) : Option Replay :=
  (s.cmds.replays.find? fun e => e.2.isOpen && e.2.admin && replayMatch e.2 ctx (s.ctx ctx).ctxGen qid cid pos).map (·.2)

/-- Answer an admin or Fabrics capsule from its record: the stored completion is posted again; where the submission entry differs the
context goes to ERROR (R163, R164). -/
def State.adminAgain (r : Replay) (crc sqhd : Nat) (s : State) : State :=
  if r.sqeCrc = crc then (s.bump cReplayHit (engineOf r.ctx)).respond r.ctx (262144 + r.cid) (respOut r.ctx r.qid r.cid r.status r.dw0 sqhd)
  else (((s.bump cReplayMismatch (engineOf r.ctx)).ctxError r.ctx).afterError r.ctx).settle

/-- Run an admin command whose queue exists: its keep-alive timer restarts; a repeat of a command that holds its slot is discarded, and one
of a command that has ended is answered from its replay record (R146, R164). -/
def State.adminRun (q : AdminCmd) (f : State → State) (s : State) : State :=
  if s.adminOk q then
    let s1 := s.katoRestart q.cntlid
    if q.cntlid = 0 then f (s1.adminTake q)
    else if s1.adminHeld q then s1
    else
      match s1.adminRecord q.ctx 0 q.cid q.pos with
      | some r => s1.adminAgain r q.sqeCrc (s1.sqhd q.cntlid 0)
      | none => f (s1.adminTake q)
  else s

/-- Stop the local port's DMA (R467): its commands end as its table says, and CSTS.CFS is set while CC.EN = 1 (R468). -/
def State.stopDma (s : State) : State :=
  let mine := tkeys (s.cmds.slots.filter fun p => p.2.localPort)
  let t := mine.foldl (fun u n => if u.localPort.fetching.contains n then u.endQuiet n else u.stopCmd n true) s
  let u := t.updCmds fun m => { m with waiting := m.waiting.filter fun w => !w.localPort }
  let v := u.updLocalPort fun l => { l with fetching := [], cfs := l.cfs || l.enabled }
  v.settle

end Sys2Proof.Machine
end

