-- ==== Sys2Proof/Machine/Consistency.lean ====
section
/-! DEFINITION. Meanings of the commands of the consistency engine and of the messages between the two larders (R159, R171 to R200, R216 to
R220, R374). -/
namespace Sys2Proof.Machine

/-! ### Stamp messages (R159, R181 to R184) -/

/-- The lower extent of a request. -/
def State.lowerRec (s : State) (r : StampReq) : Nat := s.extRec r.handle ((s.reqSpan r).1 / 262144)

/-- The upper extent of a crossing request, its first block and count there. -/
def State.upperPart (s : State) (r : StampReq) : Option (Nat × Nat × Nat) :=
  match extentParts (s.reqSpan r).1 (s.reqSpan r).2.1 with
  | [_, u] => some (s.extRec r.handle u.1, u.2.1, u.2.2)
  | _ => none

/-- Take the reservation of a crossing command out of the table and open the gate; a reserve that is still held is removed (R184, R187). -/
def State.dropReservation (rec slot holder : Nat) (s : State) : State :=
  (s.updExtent rec fun e => { e with
    gate := if e.gate = some (slot, holder) then none else e.gate
    held := e.held.filter fun r => !(decide (r.kind = 4) && decide (r.slot = slot) && decide (r.holder = holder)) }).updCons fun c => { c with
    ovl := c.ovl.filter fun e => !(decide (e.2.kind = 4) && decide (e.2.slot = slot) && decide (e.2.holder = holder)) }

/-- The fix of a crossing command at its upper extent: its part is entered at the stamp, the gate opens, and the holder learns of the waits
there (R184). -/
def State.fixUpper (r : StampReq) (s : State) : State :=
  match s.upperPart r with
  | none => s
  | some (rec, first, n) =>
    let t := (s.dropReservation rec r.slot r.holder).updExtent rec fun e => { e with
      lastStamp := if e.lastStamp.toNat < r.stamp.toNat then r.stamp else e.lastStamp }
    let w := t.enterPart r.asKind r.slot r.holder r.handle r.stamp first n (s.reqSpan r).2.2 true
    ((w.2.tellStamp r.slot r.holder r.stamp w.1 1 (if r.asKind = 1 then 0 else n)).drainAll)

/-- STAMP_REQUEST (R181, R184, R188): of a command held by the partner; where the extent is no longer owned here the answer is MOVED
(R180). It carries the send record of a write's data fetch (R376). -/
def execStampRequest (r : StampReq) (send : List SendRec) (s : State) : Res :=
  .next (if s.paired = false then s else s.settIn 0x10 fun t0 =>
    let t := t0.updPair fun p => { p with cmds := tadj r.slot (fun x => { x with send := x.send ++ send }) p.cmds }
    (if r.kind = 5 then t.fixUpper r
    else if r.kind = 6 then
      (match t.upperPart r with
      | some u => (t.dropReservation u.1 r.slot r.holder).drainAll
      | none => t)
    else if r.kind = 4 then
      (match t.upperPart r with
      | some u => t.request u.1 r
      | none => t)
    else if t.ownerOf (t.lowerRec r) = t.self then t.request (t.lowerRec r) r
    else t.settSend 0x11 [r.slot, 0, 0, 0, 1] []).settle)

/-- The reserve of a crossing command has been granted with p: the stamp is issued at the lower extent and the fix follows (R184). -/
def State.admitLower (slot : Nat) (p : Nat) (s : State) : State :=
  match s.cons.extents.find? fun e => e.2.crossing.any fun r => decide (r.slot = slot) with
  | none => s
  | some e =>
    match e.2.crossing.find? fun r => decide (r.slot = slot) with
    | none => s
    | some r =>
      let t := s.updExtent e.1 fun x => { x with
        crossing := x.crossing.erase r, lastStamp := if x.lastStamp.toNat + 1 < p then BitVec.ofNat 64 (p - 1) else x.lastStamp }
      let a := t.issueStamp e.1 r.handle
      match extentParts (s.reqSpan r).1 (s.reqSpan r).2.1 with
      | l :: _ =>
        let w := a.2.enterPart r.kind r.slot r.holder r.handle a.1 l.2.1 l.2.2 (s.reqSpan r).2.2 true
        (((w.2.countWait r.kind r.handle w.1).bump cCrossCmds 0).tellStamp r.slot r.holder a.1 w.1 0 (if r.kind = 1 then 0 else l.2.2)).settSend
          0x10 [r.slot, r.holder, 5, r.handle, r.slba, r.nlb, a.1.toNat, r.kind] []
      | [] => a.2

/-- The larder slots an owner names go to the blocks of a write that lie in its extents, in order (R220). -/
def State.takeLslots (slot : Nat) (ls : List Nat) (s : State) : State :=
  let p := s.slot slot
  let b := s.versionSpan p
  let far := ((List.range b.2).map fun i => b.1 + i).filter fun k => decide (s.ownerOf (s.recordOf p.handle k) ≠ s.self)
  let have' := (p.writes.filter (·.far)).length
  s.updSlot slot fun x => { x with writes := x.writes ++ ((far.drop have').zip ls).map fun e => { blk := e.1, lslot := e.2, far := true } }

/-- STAMP_REPLY (R180 to R184): the stamp and WAIT_COUNT of one part of a command, the p of a reservation (part 2), or MOVED. -/
def execStampReply (slot : Nat) (stamp : BitVec 64) (waits : Nat) (part : Nat) (moved : Bool) (lslots : List Nat) (s : State) : Res :=
  bounded (decide (slot < 262144) && decide (part < 3)) (if s.paired = false then s else s.settIn 0x11 fun t =>
    (if part = 2 then t.admitLower slot stamp.toNat
    else if t.slotUsed slot = false then t
    else if moved then
      (if (t.slot slot).state = 3 then
        (t.updSlot slot fun x => { x with toPartner := false }).stageFive slot (t.slot slot).slba (t.slot slot).nlb else t)
    else
      let u := ((t.giveStamp slot stamp t.other waits).takeLslots slot lslots).goCheck slot
      if (u.slot slot).ended ∧ writeKind (u.slot slot).opcode = false then u.endQuiet slot else u).settle)

/-- GO (R181, R188). -/
def execGo (slot : Nat) (_part : Nat) (s : State) : Res :=
  bounded (decide (slot < 262144)) (if s.paired = false then s else s.settIn 0x12 fun t =>
    (if t.slotUsed slot then (t.updSlot slot fun x => { x with waits := tput x.waits t.other 0 }).goCheck slot else t).settle)

/-- WITHDRAWAL (R159): at the admission point an unstamped request is removed; a stamp stands. -/
def execWithdrawal (slot : Nat) (handle : Nat) (slba : Nat) (s : State) : Res :=
  bounded (decide (slot < 262144)) (if s.paired = false then s else s.settIn 0x13 fun t =>
    let mine (r : StampReq) : Bool := decide (r.slot = slot) && decide (r.holder = t.other) && decide (r.kind ≤ 3)
    let here := t.cons.extents.find? fun e => e.2.held.any mine || e.2.crossing.any mine
    match here with
    | none => t.settSend 0x14 [slot, 0] []
    | some e =>
      let crossed := e.2.crossing.find? mine
      let u := t.updExtent e.1 fun x => { x with held := x.held.filter fun r => !mine r, crossing := x.crossing.filter fun r => !mine r }
      let v := match crossed with
        | some r => u.settSend 0x10 [slot, t.other, 6, handle, slba, r.nlb, 0, 0] []
        | none => u
      (v.settSend 0x14 [slot, 1] []).drainAll)

/-- WITHDRAWAL_REPLY (R158, R159): the Abort that waits completes, and a command withdrawn ends. -/
def execWithdrawalReply (slot : Nat) (withdrawn : Bool) (s : State) : Res :=
  bounded (decide (slot < 262144)) (if s.paired = false then s else s.settIn 0x14 fun t =>
    let p := t.slot slot
    if t.slotUsed slot = false then t
    else
      let u := t.updSlot slot fun x => { x with abortPending := none }
      let v := if withdrawn ∧ p.state = 3 then (if p.ended then u.endQuiet slot else u.endErr slot stAborted) else u
      let w := match p.abortPending with
        | some (c, cid) =>
          if (v.fab c).live then
            ((v.updFab c fun f => { f with aborts := dropOne cid f.aborts }).bump (if withdrawn then cAbortDone else cAbortNot)
              (v.fab c).tenant).adminDone { ctx := (v.fab c).adminCtx, cntlid := c, cid := cid } stOk (if withdrawn then 0 else 1)
          else v
        | none => v
      w.settle)

/-- STAMP_RECORD (R183): the partner's read record is kept, and confirmed. -/
def execStampRecord (slot : Nat) (stamp : BitVec 64) (handle : Nat) (slba : Nat) (nlb : Nat) (send : List SendRec) (s : State) : Res :=
  bounded (decide (slot < 262144)) (if s.paired = false then s else s.settIn 0x15 fun t =>
    ((t.updCons fun c => { c with stampRecs := tput c.stampRecs slot (stamp, handle, slba, nlb) }).updPair fun p => { p with
      cmds := tadj slot (fun x => { x with stamp := stamp, state := 4, send := x.send ++ send }) p.cmds }).settSend 0x16 [slot] [])

/-- STAMP_RECORD_CONFIRMATION (R183): the read's data may go to egress. -/
def execStampRecordConfirmation (slot : Nat) (s : State) : Res :=
  bounded (decide (slot < 262144)) (if s.paired = false then s else s.settIn 0x16 fun t =>
    (t.updSlot slot fun x => { x with recordConf := true }).settle)

/-! ### The fence, read entries, the epoch (R173, R178, R194) -/

/-- FENCE_EXPIRY (R178): no further stamp is issued for any extent owned here. -/
def execFenceExpiry (s : State) : Res :=
  .next (if s.paired ∧ s.cons.fenced = false then
    (s.updCons fun c => { c with
      fenced := true
      extents := tmap (fun _ e => if e.owner = s.self ∧ e.state = 1 then { e with state := 3 } else e) c.extents }).bump cFenceTrips 0
  else s)

/-- The next beat restarts the fence timer and releases what was held (R178). -/
def State.fenceRestart (s : State) : State :=
  let t := s.updCons fun c => { c with fenceNs := s.now }
  if s.cons.fenced then
    ((t.updCons fun c => { c with
      fenced := false, extents := tmap (fun _ e => if e.state = 3 then { e with state := 1 } else e) c.extents }).drainAll).settle
  else t

/-- READ_PIN_EXPIRY (R194): a read entry whose completion was handed over READ_PIN_MS ago leaves the table. -/
def execReadPinExpiry (entry : Nat) (s : State) : Res :=
  bounded (decide (entry < 262144)) (match tfind s.cons.ovl entry with
    | some e => if e.kind = 1 ∧ 0 < e.doneNs then
        (((s.updCons fun c => { c with ovl := tdel c.ovl entry }).bump cPinExpired 0).releaseCovered).drainAll.settle else s
    | none => s)

/-- EPOCH_RAISE (R173): agreed with the partner, and written to every journal header. -/
def execEpochRaise (epoch : Nat) (s : State) : Res :=
  bounded (decide (epoch < 2 ^ 24)) (if s.paired = false then s else s.settIn 0x19 fun t =>
    if t.cons.epoch < epoch then t.applyEpoch epoch else t)

/-! ### Lease moves (R177, R180, R200) -/

/-- Phase 1 of a lease move begins at the owner: the extent is moving in both copies (R180). -/
def State.startMove (handle extNo target : Nat) (s : State) : State :=
  ((s.updExtent (s.extRec handle extNo) fun e => { e with state := 2 }).updCons fun c => { c with
    lease := { lState := 1, handle := handle, extNo := extNo, target := target } }).settSend 0x17 [1, handle, extNo, target] []

/-- No lease move is in progress here. -/
def State.leaseIdle (s : State) : Bool := decide (s.cons.lease.lState = 0) || decide (s.cons.lease.lState = 3)

/-- AUTO_BALANCE_MOVE (R177): the next extent owned here whose default owner is the partner. -/
def execAutoBalanceMove (partnerMoving : Bool) (s : State) : Res :=
  .next (if s.paired ∧ s.consCfgAutoBalance = 1 ∧ s.leaseIdle ∧ partnerMoving = false ∧ s.power.estore.partnerN ≠ 0 then
    match s.cons.extents.find? fun e => decide (e.2.state = 1) && decide (e.2.owner = s.self) && decide ((e.2.handle + e.2.extNo) % 2 = s.other) with
    | some e => s.startMove e.2.handle e.2.extNo s.other
    | none => s
  else s)

/-- Phase 1 has ended at this owner: no write of the extent is short of stage 12, no reservation stands, and no stripe lock of its slab is
held here (R180). -/
def State.leaseDrained (s : State) : Bool :=
  let l := s.cons.lease
  let rec' := s.extRec l.handle l.extNo
  let inside (h blk : Nat) : Bool := decide (h = l.handle) && decide (blk / 262144 = l.extNo)
  let pool := (s.ns l.handle).pool
  !(s.cons.ovl.any fun e => decide (e.2.kind = 2) && inside e.2.handle e.2.first) && !(s.layout.larder.any fun v => inside v.2.handle v.2.blk) &&
  (s.extent rec').gate.isNone && (s.extent rec').crossing.isEmpty &&
  !(s.layout.locks.any fun k => decide (k.1 / 2 ^ 64 = pool) && ((s.stripeExtent pool (k.1 % 2 ^ 64)).map (·.1) == some rec'))

/-- The read entries of an extent as a handover carries them: (SLOT_REF, stamp, first block, blocks). -/
def State.handoverReads (s : State) (h x : Nat) : List (Nat × Nat × Nat × Nat) :=
  (s.cons.ovl.filter fun e => decide (e.2.kind = 1) && decide (e.2.handle = h) && decide (e.2.first / 262144 = x)).map fun e =>
    (e.2.slot + 262144 * e.2.holder, e.2.stamp.toNat, e.2.first, e.2.nblk)

/-- The requests held at an extent are answered MOVED: the partner's over the link, this controller's own sent again (R180). -/
def State.answerMoved (rec : Nat) (s : State) : State :=
  let held := (s.extent rec).held
  held.foldl (fun t r =>
    if r.holder = s.self then (if t.slotUsed r.slot then t.stageFive r.slot r.slba r.nlb else t)
    else t.settSend 0x11 [r.slot, 0, 0, 0, 1] []) (s.updExtent rec fun e => { e with held := [] })

/-- LEASE_DRAIN_COMPLETE (R180): phases 2 and 3 at the owner. -/
def execLeaseDrainComplete (s : State) : Res :=
  let l := s.cons.lease
  let rec' := s.extRec l.handle l.extNo
  .next (if s.paired ∧ l.lState = 1 ∧ (s.extent rec').owner = s.self ∧ s.leaseDrained then
    let reads := s.handoverReads l.handle l.extNo
    let t := s.settSend 0x1D ([1, l.handle, l.extNo, (s.extent rec').lastStamp.toNat] ++ (reads.map fun r => [r.1, r.2.1, r.2.2.1, r.2.2.2]).flatten) []
    let u := (t.settSend 0x17 [3, l.handle, l.extNo, l.target] []).updCons fun c => { c with
      lease := { l with lState := 0 }
      ovl := c.ovl.filter fun e => !(decide (e.2.handle = l.handle) && decide (e.2.first / 262144 = l.extNo)) }
    (((u.updExtent rec' fun e => { e with owner := l.target, state := 1 }).bump cLeaseMoves 0).answerMoved rec').settle
  else s)

/-- LEASE_MOVE_TIMEOUT (R180): the move is abandoned and the old owner stamps what is held. -/
def execLeaseMoveTimeout (s : State) : Res :=
  let l := s.cons.lease
  let rec' := s.extRec l.handle l.extNo
  .next (if s.paired ∧ l.lState = 1 ∧ (s.extent rec').owner = s.self then
    let t := ((s.updExtent rec' fun e => { e with state := 1 }).updCons fun c => { c with lease := { l with lState := 3 } }).bump cLeaseAbandon 0
    ((t.settSend 0x17 [4, l.handle, l.extNo, l.target] []).drainAll).settle
  else s)

/-- LEASE_PHASE (R180): phase 0 asks the owner to begin a move (log 39), 1 the drain has begun, 3 commit, 4 abandoned. -/
def execLeasePhase (phase : Nat) (handle : Nat) (extNo : Nat) (target : Nat) (s : State) : Res :=
  .next (if s.paired = false then s else s.settIn 0x17 fun t =>
    let rec' := t.extRec handle extNo
    let note (st : Nat) (u : State) : State := u.updCons fun c => { c with
      lease := { lState := st, handle := handle, extNo := extNo, target := target } }
    if phase = 0 then (if t.leaseIdle ∧ (t.extent rec').owner = t.self ∧ (t.extent rec').state = 1 then t.startMove handle extNo target else t)
    else if phase = 1 then note 1 (t.updExtent rec' fun e => { e with state := 2 })
    else if phase = 3 then ((note 0 (t.updExtent rec' fun e => { e with owner := target, state := 1 })).drainAll).settle
    else if phase = 4 then note 3 (t.updExtent rec' fun e => { e with state := 1 })
    else t)

/-! ### The two larders (R182, R216 to R220, R374) -/

/-- LARDER_SLOT_RESERVE (R216): the write at the head of those that wait takes its slots and fetches its data. -/
def execLarderSlotReserve (s : State) : Res :=
  .next (match s.layout.waiting with
  | n :: _ => (s.beginWrite n).settle
  | [] => s)

/-- LARDER_PLACEMENT (R218). -/
def execLarderPlacement (slot : Nat) (s : State) : Res :=
  bounded (decide (slot < 262144)) (s.placeWrite slot).settle

/-- The versions of a message, as the receiver lists them. -/
def msgVersions (m : MirrorMsg) (now : Nat) : Tbl Version :=
  m.blocks.map fun b => (b.1,
    { handle := m.handle, blk := b.2.1, stamp := BitVec.ofNat 64 m.stamp, cipher := b.2.2.1, trailer := b.2.2.2, placed := true, mirrored := true
      bornNs := now })

/-- The partner's mirror records are taken: in M3, and by the controller that is being synchronised (R374, R375). -/
def State.mirrorsIn (s : State) : Bool := s.paired || (decide (s.pair.pairStep = 5) && !s.pair.serving)

/-- MIRROR_RECORD (R220, R374): the versions go into the same slots of the mirror larder in one step, and are confirmed; a synchronisation copy is
confirmed by the acknowledgement of its frame. -/
def execMirrorRecord (m : MirrorMsg) (s : State) : Res :=
  .next (if s.mirrorsIn = false then s else s.settIn (if m.copy then 0x23 else 0x20) fun t =>
    let u := t.updLayout fun l => { l with mirror := (msgVersions m t.now).foldl (fun x v => tput x v.1 v.2) l.mirror }
    u.when (!m.copy) fun w => (w.updPair fun p => { p with
      cmds := tadj m.slot (fun x => { x with stamp := BitVec.ofNat 64 m.stamp, state := 4, mirrored := true, send := x.send ++ m.send }) p.cmds }).settSend 0x21 [m.slot] [])

/-- MIRROR_CONFIRMATION (R219): counted for CHAIN_1. -/
def execMirrorConfirmation (slot : Nat) (s : State) : Res :=
  bounded (decide (slot < 262144)) (s.settIn 0x21 fun t => if t.paired then (t.mirrorDone slot).settle else t)

/-- RELEASE (R220): the mirror copies named are freed. -/
def execRelease (slots : List Nat) (s : State) : Res :=
  .next (if s.mirrorsIn = false then s else s.settIn 0x22 fun t =>
    t.updLayout fun l => { l with mirror := l.mirror.filter fun e => !slots.contains e.1 })

/-- RELEASE_BATCH_TIMER (R220): every 20 µs pending releases go to the partner. -/
def execReleaseBatchTimer (s : State) : Res := .next s.flushReleases

/-- SYNCHRONISATION_COPY (R374): a version that was in the larder at the start of synchronisation is copied to the other controller. -/
def execSynchronisationCopy (lslot : Nat) (s : State) : Res :=
  bounded (decide (lslot < 16384000)) (if s.syncing ∧ s.layout.syncLeft.contains lslot then
    match tfind s.layout.larder lslot with
    | some v =>
      (s.settSend 0x23 [lslot, v.handle, v.blk, v.stamp.toNat] (v.cipher ++ v.trailer)).updLayout fun l => { l with
        syncLeft := dropOne lslot l.syncLeft, larder := tadj lslot (fun x => { x with mirrored := true }) l.larder }
    | none => s.updLayout fun l => { l with syncLeft := dropOne lslot l.syncLeft }
  else s)

/-- FORWARDED_DATA (R182, R195): the owner places the ciphertext forwarded to it and confirms placement; data that holds no block retires
the stamp, or is of a piece that covers no whole block (log 38). -/
def execForwardedData (m : MirrorMsg) (s : State) : Res :=
  .next (if s.paired = false then s else s.settIn 0x30 fun t =>
    let u := (t.insertVersions (msgVersions m t.now)).updLayout fun l => { l with remoteRes := tdel l.remoteRes m.slot }
    let v := ((u.heal m.handle (m.blocks.map fun b => b.2.1)).rule3Update).placedOvl m.slot m.holder (BitVec.ofNat 64 m.stamp) m.blocks.isEmpty
    ((v.settSend 0x31 [m.slot] []).releaseCovered).settle)

/-- PLACEMENT_CONFIRMATION (R182): stage 8 of a forwarded write is complete at the owner. -/
def execPlacementConfirmation (slot : Nat) (s : State) : Res :=
  bounded (decide (slot < 262144)) (if s.paired = false then s else s.settIn 0x31 fun t => (t.forwardDone slot).settle)

end Sys2Proof.Machine
end

