-- ==== Sys2Proof/Machine/EnclaveOps.lean ====
section
/-! DEFINITION. Operations of the key enclave (R310 to R320): derivations, the key cache, generations, erasure. The labels of R310 are
numbered: 1 KZ-DWRAP, 2 KZ-IDENT, 3 KZ-ALIAS, 4 KZ-DIRMC, 5 KZ-TKEK, 6 KZ-NSKEK, 7 KZ-GEN, 8 KZ-SHELF, 9 KZ-TTRAN, 10 KZ-TAUTH,
11 KZ-SESSQ, 12 KZ-SESSR, 13 the label of SETT_KEK. -/
namespace Sys2Proof.Machine

/-! ### Derivations (R310) -/

/-- SHELF_ID of a shelf key. -/
def shelfIdOf (key : Nat) : Nat := Config.kdf key 8 [] % 2 ^ 64

/-- DEVICE_WRAP. -/
def State.deviceWrap (s : State) : Nat := Config.kdf s.fuses.deviceRoot 1 [s.fuses.deviceId, s.fuses.lifeCycle]

/-- The shelf key of a shelf generation: the current one, or until a rotation ends the previous one (R317). -/
def State.shelfKeyOf (s : State) (gen : Nat) : Option Nat := if gen = s.enclave.shelfGen then s.enclave.shelfKey else s.enclave.oldShelfKey

/-- NS_KEK of a namespace under a shelf key. -/
def State.nsKek (s : State) (shelfKey h : Nat) : Nat := Config.kdf shelfKey 6 [h, (s.ns h).serial, shelfIdOf shelfKey]

/-- TENANT_KEK of a tenant under the present shelf key. -/
def State.tenantKek (s : State) (t : Nat) : Nat :=
  Config.kdf (s.enclave.shelfKey.getD 0) 5 [t, (tget {} s.enclave.tenants t).enrolCount]

/-! ### The key cache (R319, resource 16 of R41) -/

/-- Keys cached: the generation keys, and the NS_KEK of each namespace that has one (R319, KEY_CACHE_USED of R337). -/
def State.keysCached (s : State) : Nat := s.enclave.recent.length + (s.enclave.recent.map (·.1)).eraseDups.length

/-- A key leaves the cache. -/
def State.dropKey (h g : Nat) (s : State) : State :=
  (s.updGen h g fun x => { x with key := none }).updEnclave fun e => { e with recent := e.recent.filter fun x => x ≠ (h, g) }

/-- While the cache holds more than 2,048 keys, the one least recently used leaves it; two at most make room for a key and its NS_KEK
(resource 16 of R41). -/
def State.makeRoom (s : State) : State :=
  let one (t : State) : State := if t.keysCached ≤ 2048 then t
    else match t.enclave.recent.getLast? with
      | some (h, g) => t.dropKey h g
      | none => t
  one (one s)

/-- Install a key in the cache and load it where the lanes ask for it (R293, R319). -/
def State.installKey (h g key : Nat) (s : State) : State :=
  ((s.updGen h g fun x => { x with key := some key }).updEnclave fun e => { e with
    recent := (h, g) :: e.recent.filter (fun x => x ≠ (h, g)), unwraps := dropOne (h, g) e.unwraps }).makeRoom

/-- What waits for a namespace's key goes on: blocks read, then writes (R293). -/
def State.keyReady (h : Nat) (s : State) : State :=
  let again (t : State) (n : Nat) (r : BlkRead) : State :=
    match r.got with
    | [(1, b)] => t.blockIn n r.blk true b
    | [(2, b)] => t.versionIn n r.blk { cipher := b.take 4096, trailer := b.drop 4096 }
    | [(_, b)] => t.blockIn n r.blk false b
    | _ => t
  let mine := s.cmds.slots.filter fun p => decide (p.2.handle = h) && decide (p.2.state < 5)
  let t := mine.foldl (fun u p => (p.2.reads.filter fun r => !r.done && r.tags.isEmpty && decide (r.got.length = 1)).foldl
    (fun v r => again v p.1 r) u) s
  (t.updCipher fun c => { c with keyWaiting := c.keyWaiting.filter fun n => (t.slot n).handle ≠ h }).settle

/-- Write the header of a pool's key directory: the other of two alternating blocks, DIR_SEQ up by 1, which Den SRAM records (R311). -/
def State.dirHeader (n : Nat) (s : State) : State :=
  let q := tget 0 s.keep.dirSeq n + 1
  (s.journalUp n).foldl (fun t d => t.submit 0 { slot := d, op := 1, lba := 131072 + q % 2, blocks := 1, owner := 3 })
    (s.updKeep fun k => { k with dirSeq := tput k.dirSeq n q })

/-- The shelf key comes into use: SHELF_ID follows from it, and the headers of every pool take it, wrapped under DEVICE_WRAP (R310 to R312). -/
def State.takeShelfKey (key gen : Nat) (s : State) : State :=
  let t := s.updEnclave fun e => { e with shelfKey := some key, shelfId := shelfIdOf key, shelfGen := gen }
  (tkeys (t.layout.pools.filter fun p => decide (p.2.pState ≠ 0))).foldl (fun u n => u.dirHeader n) t

/-! ### Generations (R285, R286, R310, R311) -/

/-- Live generations of a namespace. -/
def Ns.live (n : Ns) : List (Nat × KeyGen) := n.gens.filter fun e => e.2.gState ≠ 0

/-- The number a new generation takes: the lowest above that of the newest live one, counting modulo 256 and skipping live ones; 0 where none is
live (R285). None where 16 are live. -/
def Ns.nextGen (n : Ns) : Option Nat :=
  let l := n.live
  if 16 ≤ l.length then none
  else
    match l with
    | [] => some 0
    | e :: es =>
      let newest := es.foldl (fun (b : Nat × KeyGen) x => if b.2.born < x.2.born then x else b) e
      ((List.range 256).map fun i => (newest.1 + 1 + i) % 256).find? fun g => !(l.any fun x => x.1 = g)

/-- List a generation as PENDING with its key wrapped, its salt and both reservation marks at 2^24, in the store and in the directory copies
(R283, R285, R311). -/
def State.putGen (h g origin wrapped salt : Nat) (s : State) : State :=
  let last := (s.ns h).gens.foldl (fun m e => max m e.2.born) 0
  let k : KeyGen := { gState := 1, origin := origin, wrapped := wrapped, salt := salt, shelfGen := s.enclave.shelfGen, born := last + 1 }
  (s.updNs h fun n => { n with gens := tput n.gens g k }).dirWrite h g

/-- A new PENDING generation keyed by the enclave: derived from the shelf key and fresh entropy, its salt drawn, its key kept in the cache
(R285, R310). -/
def State.deriveGen (h g : Nat) (s : State) : State :=
  match s.enclave.shelfKey with
  | none => s
  | some sk =>
    let key := Config.kdf sk 7 [h, (s.ns h).serial, g, s.drawn 256]
    let salt := s.draw.drawn 32
    (s.draw.draw.putGen h g 1 (Config.wrap (s.nsKek sk h) key) salt).installKey h g key

/-- A generation of a tenant's key: PENDING, wrapped under NS_KEK (R314). -/
def State.importGen (h g key : Nat) (s : State) : State :=
  match s.enclave.shelfKey with
  | none => s
  | some sk => (s.draw.putGen h g 2 (Config.wrap (s.nsKek sk h) key) (s.drawn 32)).installKey h g key

/-- A generation becomes SWEEPING (R288); the sweep waits for the larder until SWEEP_START. -/
def State.sweepGen (h g : Nat) (s : State) : State := s.updGen h g fun x => { x with gState := 4, sweepWait := true }

/-- Crypto-erase a namespace (R336, R337): every generation, its NS_KEK and its entries are gone; what waited for a key ends. -/
def State.eraseNsKeys (h : Nat) (s : State) : State :=
  let gens := tkeys (s.ns h).gens
  let t := (s.updNs h fun n => { n with gens := [] }).updEnclave fun e => { e with
    recent := e.recent.filter (fun x => x.1 ≠ h), unwraps := e.unwraps.filter fun x => x.1 ≠ h }
  gens.foldl (fun u g => u.dirWrite h g) t

/-- A namespace whose keys cannot be read is locked (R325): encrypted, and its pool came with no usable shelf key. -/
def State.nsLocked (s : State) (h : Nat) : Bool := decide ((s.ns h).nState = 3)

/-- The debug port is open (R328): in BLANK, and in RETURN once a token has been accepted. -/
def State.debugIsOpen (s : State) : Bool := decide (s.fuses.lifeCycle = 0) || (decide (s.fuses.lifeCycle = 7) && s.enclave.debugOpen)

/-- Key erasure (R333): the key cache, SHELF_KEY, DIR_KEY, CTX_KEY and every derived key in the enclave. -/
def State.eraseKeys (s : State) : State :=
  (s.updCipher fun c => { c with ns := tmap (fun _ n => { n with gens := tmap (fun _ g => { g with key := none }) n.gens }) c.ns
                                 keyWaiting := [] }).updEnclave fun e => { e with
    shelfKey := none, oldShelfKey := none, ctxKey := 0, aliasSeed := 0, challenge := none, unwraps := [], recent := [], saveSlots := []
    erased := true }

end Sys2Proof.Machine
end

