-- ==== Sys2Proof/Machine/DestageOps.lean ====
section
/-! DEFINITION. Operations of destage and rebuild (R223 to R247): member changes, the solving of a block row, repairs under intents,
destage of a stripe, rebuild order, the patrol cursor. -/
namespace Sys2Proof.Machine

/-! ### Member states (R238 to R241, R260) -/

/-- A reshape stops at the next new-stripe boundary when a member fails or goes missing: the copy of the extent in phase 1 or 2 is
abandoned (R260). -/
def State.reshapeStop (n : Nat) (s : State) : State :=
  match (s.pool n).reshape with
  | some r =>
    let t := s.updPool n fun p => { p with reshape := some { r with
      rState := 3, phase := if r.phase = 1 ∨ r.phase = 2 then 0 else r.phase, stripes := if r.phase = 1 ∨ r.phase = 2 then 0 else r.stripes } }
    t.when (r.phase == 1 || r.phase == 2) fun u => u.bump cReshapeAbandoned n
  | none => s

/-- Nothing in the pool is being rebuilt, resynchronised or copied back. -/
def State.quietPool (s : State) (n : Nat) : Bool :=
  (s.pool n).returning.isEmpty && (s.pool n).replacing.isEmpty && (s.pool n).unlisted.isEmpty && (tkeys (s.pool n).members).isEmpty

/-- A reshape that waits under R260 resumes once the pool is quiet. -/
def State.reshapeResume (n : Nat) (s : State) : State :=
  match (s.pool n).reshape with
  | some r =>
    if r.rState = 3 ∧ s.quietPool n then
      s.updPool n fun p => { p with reshape := some { r with rState := if s.reshapeCfgPause n = 1 then 2 else 1 } }
    else s
  | none => s

/-- What is kept of a member's progress is dropped. -/
def Pool.forget (p : Pool) (slot : Nat) : Pool :=
  { p with
    missingNs := tdel p.missingNs slot, mediaErrs := p.mediaErrs.filter fun e => e.1 ≠ slot
    returning := p.returning.filter fun x => x ≠ slot, replacing := p.replacing.filter fun x => x ≠ slot
    rebuilt := p.rebuilt.filter fun e => e.1 ≠ slot, progress := p.progress.filter fun e => e.1 ≠ slot
    copied := p.copied.filter fun x => x % 64 ≠ slot, resynced := p.resynced.filter fun x => x % 64 ≠ slot }

/-- A member fails (R239): it joins the relocation list, or waits for a place in it; event 0x0504. Causes: 1 write, 2 MISSING_WAIT_S, 3 Drive
Ports, 4 MEDIA_ERR_MAX, 5 management. -/
def State.failMember (n slot cause : Nat) (s : State) : State :=
  if 2 ≤ s.memberState n slot ∨ s.poolOfSlot slot ≠ some n then s
  else
    let listed := decide ((s.pool n).reloc.length < 3)
    let t := s.updPool n fun p => { p.forget slot with
      members := tput p.members slot (if listed then 2 else 3)
      reloc := if listed then p.reloc ++ [slot] else p.reloc, unlisted := if listed then p.unlisted else p.unlisted ++ [slot] }
    ((State.relist n s t).raise 0x0504 n (n + 256 * slot + 65536 * cause)).reshapeStop n

/-- A member's drive is out of reach: link down, removal or containment (R238). Its timer of MISSING_WAIT_S starts. -/
def State.memberMissing (slot : Nat) (s : State) : State :=
  match s.poolOfSlot slot with
  | some n =>
    if s.memberState n slot = 0 ∧ s.poolOnline n then
      let t := s.updPool n fun p => { p.forget slot with members := tput p.members slot 1, missingNs := tput p.missingNs slot s.now }
      (State.relist n s t).reshapeStop n
    else if s.memberState n slot = 1 then
      s.updPool n fun p => { p.forget slot with missingNs := if thas p.missingNs slot then p.missingNs else tput p.missingNs slot s.now }
    else s.updPool n fun p => { p.forget slot with mediaErrs := p.mediaErrs }
  | none => s

/-- A member becomes PRESENT: it leaves the list, the first unlisted member takes the free place, and targets are found again (R239, R240,
R253, R254). -/
def State.memberPresent (n slot : Nat) (s : State) : State :=
  let t := s.updPool n fun p =>
    let q := p.forget slot
    let reloc := q.reloc.filter fun x => x ≠ slot
    let unl := q.unlisted.filter fun x => x ≠ slot
    match unl.find? fun x => !q.replacing.contains x with
    | some y =>
      if reloc.length < 3 then { q with members := tput (tdel q.members slot) y 2, reloc := reloc ++ [y], unlisted := unl.filter fun x => x ≠ y }
      else { q with members := tdel q.members slot, reloc := reloc, unlisted := unl }
    | none => { q with members := tdel q.members slot, reloc := reloc, unlisted := unl }
  (State.relist n s t).reshapeResume n

/-- A MISSING member's own drive is back: resynchronisation of the set row groups, at once PRESENT where none is set (R241, R253). -/
def State.memberReturns (n slot : Nat) (s : State) : State :=
  let t := s.updPool n fun p => { p with missingNs := tdel p.missingNs slot, returning := addOne slot p.returning }
  if (t.pool n).bitmap.isEmpty then t.memberPresent n slot else t

/-- A replacement stands in the slot of a failed member: its label is written, and it is filled by copy-back or rebuild (R241, R254). -/
def State.memberReplaced (n slot : Nat) (s : State) : State :=
  let t := (s.updPool n fun p => { p with replacing := addOne slot p.replacing, copied := p.copied.filter fun x => x % 64 ≠ slot }).submit 0
    { slot := slot, op := 1, lba := 0, blocks := 16, owner := 7 }
  if (t.pool n).slabs.isEmpty then t.memberPresent n slot else t

/-! ### Block rows (R211 to R214, R242) -/

/-- A stored block as the parity engines give it: the unwritten form, or sealed with generation 0. -/
def formOf (c : Bytes) : Bytes := if unwritten (covered c) then zeros 4160 else sealBlock c 0

/-- The check blocks of a block row, by position, from its data blocks. -/
def checksOf (g : Geom) (data : List (Nat × Bytes)) : List (Nat × Bytes) :=
  (List.range g.m).map fun i => (g.k + i, formOf (checkBytes (i + 1) data))

/-- A block read passes CRC and location tag, and where asked its GCM tag; a marker passes without one (R242, R248, R263). -/
def readGood (k : Nat) (named : Option (Nat × Nat)) (useTag : Bool) (r : PosBlock) : Bool :=
  r.readable && (unwritten r.bytes || (crcGood r.bytes && (decide (k ≤ r.pos) ||
    (match named with
      | some (h, b) => decide (leField r.bytes 4128 8 = locTag h b) && (!useTag || r.tagGood || isMarker h b r.bytes)
      | none => true))))

/-- What the reads of one block row give. -/
structure RowOut where
  /-- positions still to be read -/
  ask : List Nat
  /-- blocks known: read good, or computed -/
  known : List (Nat × Bytes)
  /-- positions read whose block is unreadable or fails its checks -/
  bad : List Nat
  /-- data positions that are beyond the checks -/
  lost : List Nat
  deriving DecidableEq, Repr

/-- The block known at a position. -/
def RowOut.at (o : RowOut) (p : Nat) : Option Bytes := (o.known.find? fun e => e.1 = p).map (·.2)

/-- The known data blocks of a row. -/
def RowOut.data (o : RowOut) (k : Nat) : List (Nat × Bytes) := o.known.filter fun e => e.1 < k

/-- Solve one block row for the positions `need`; `skip` are the data positions whose old contents no longer matter (R242, R246, R247).
Blocks are asked for until K are known; a row with fewer than K is beyond its checks. -/
def State.rowSolve (s : State) (n stripe row : Nat) (reads : List PosBlock) (need skip : List Nat) (useTag : Bool) : RowOut :=
  let g := s.geom n (inNew stripe)
  let here := reads.filter fun r => r.row = row
  let present := (List.range g.w).filter fun p => (s.chunkSlot n stripe p).isSome
  let entry (p : Nat) : Option PosBlock := here.find? fun r => r.pos = p
  let good := present.filterMap fun p => match entry p with
    | some r => if readGood g.k (s.blkAt n stripe p row) useTag r then some (p, r.bytes) else none
    | none => none
  let has (p : Nat) : Bool := good.any fun e => e.1 = p
  let bad := present.filter fun p => (entry p).isSome && !has p
  let unread := present.filter fun p => (entry p).isNone
  let first := need.filter fun p => unread.contains p
  if first ≠ [] then { ask := first, known := good, bad := bad, lost := [] }
  else if need.all has then { ask := [], known := good, bad := bad, lost := [] }
  else if g.k ≤ good.length then
    let missing := (List.range g.k).filter fun j => !has j
    let checks := (good.filter fun e => g.k ≤ e.1).map fun e => (e.1 - g.k + 1, e.2)
    match rebuildData missing (good.filter fun e => e.1 < g.k) checks with
    | some xs =>
      let all := (good.filter fun e => e.1 < g.k) ++ xs.map fun x => (x.1, formOf x.2)
      let more := (checksOf g all).filter fun c => !has c.1
      { ask := [], known := good ++ (xs.map fun x => (x.1, formOf x.2)) ++ more, bad := bad, lost := [] }
    | none => { ask := [], known := good, bad := bad, lost := missing.filter fun j => !skip.contains j }
  else if g.k ≤ good.length + unread.length then { ask := unread.take (g.k - good.length), known := good, bad := bad, lost := [] }
  else
    let data := unread.filter fun p => decide (p < g.k) && !skip.contains p
    if data ≠ [] then { ask := data, known := good, bad := bad, lost := [] }
    else { ask := [], known := good, bad := bad, lost := (List.range g.k).filter fun j => !has j && !skip.contains j }

/-- The generation of a stored block (R213). -/
def stripeGen (b : Bytes) : Nat := leField b 4156 4

/-- `a` lies before `b` in 32-bit serial-number arithmetic (R213, R234). -/
def genBefore (a b : Nat) : Bool := decide (0 < (b + 2 ^ 32 - a) % 2 ^ 32) && decide ((b + 2 ^ 32 - a) % 2 ^ 32 < 2 ^ 31)

/-- The stripe generation of the newest check block known of a row (R246). -/
def RowOut.newestGen (o : RowOut) (k : Nat) : Nat :=
  (o.known.filter fun e => k ≤ e.1 && !unwritten e.2).foldl (fun a e => if genBefore a (stripeGen e.2) || a == 0 then stripeGen e.2 else a) 0

/-! ### Drive commands of a stripe -/

/-- The slots that a write of position p goes to: its place, and while copy-back runs the replacement too (R254). -/
def State.destSlots (s : State) (n stripe p : Nat) : List Nat :=
  let home := s.homeOf n stripe p
  let place := (s.chunkSlot n stripe p).toList
  if s.memberState n home = 2 ∧ (s.pool n).replacing.contains home then addOne home place else place

/-- Where the chunk of a missing position is rebuilt: the relocation target, or the replacement of an unlisted member (R246, R254). -/
def State.rebuildSlot (s : State) (n stripe p : Nat) : Option Nat :=
  let home := s.homeOf n stripe p
  if s.memberState n home = 2 then s.relocTarget n (s.rowOf n stripe).1 (inNew stripe) home
  else if s.memberState n home = 3 ∧ (s.pool n).replacing.contains home then some home
  else none

/-- How a unit's drive commands are scheduled: at drive dispatch under a tenant, or in strict class 2 (hold-up, replay), or in a class of
the pool's background point (R338). -/
inductive DPath where
  /-- drive dispatch, weighted group of a tenant -/
  | tenant (t : Nat)
  /-- drive dispatch, strict class 2 -/
  | holdup
  /-- background point, strict class -/
  | back (cls : Nat)
  /-- background point, weighted group of a tenant -/
  | sweep (t : Nat)
  deriving DecidableEq, Repr

/-- Hand a drive command to its scheduling point. -/
def State.route (n : Nat) (d : DPath) (c : DriveCmd) (s : State) : State :=
  match d with
  | .tenant t => s.submitAs none t c
  | .holdup => s.submitAs (some 2) 0 c
  | .back k => s.submitBack n (some k) 0 c
  | .sweep t => s.submitBack n none t c

/-- Read block `row` of position p. -/
def State.readStripe (n stripe p row owner : Nat) (d : DPath) (s : State) : State :=
  match s.chunkSlot n stripe p with
  | some slot => s.route n d { slot := slot, op := 0, lba := rowLba (s.rowOf n stripe).1 row, owner := owner, pos := p }
  | none => s

/-- A block write of a stripe operation: position, block row, contents with generation 0, a slot where it does not go to its own place, and
a stripe generation where it is not the intent's. -/
structure PosWrite where
  /-- position -/
  pos : Nat
  /-- block row -/
  row : Nat
  /-- contents -/
  bytes : Bytes
  /-- the slot it goes to, where not its own place -/
  dest : Option Nat := none
  /-- stripe generation -/
  gen : Option Nat := none
  deriving DecidableEq, Repr

/-- The slots that take a block write. -/
def State.slotsFor (s : State) (n stripe : Nat) (w : PosWrite) : List Nat :=
  match w.dest with
  | some d => [d]
  | none => s.destSlots n stripe w.pos

/-- The bits of a list of numbers. -/
def bitMask (l : List Nat) : Nat := (l.eraseDups.map fun p => 2 ^ p).sum

/-- Issue the writes of a stripe under a generation. -/
def State.writeAll (n stripe owner gen : Nat) (d : DPath) (ws : List PosWrite) (s : State) : State :=
  ws.foldl (fun t w => (s.slotsFor n stripe w).foldl (fun u slot =>
    u.route n d { slot := slot, op := 1, lba := rowLba (s.rowOf n stripe).1 w.row, owner := owner, pos := w.pos, data := withGen w.bytes (w.gen.getD gen) }) t) s

/-- The marker of a stored block at a data position, zeros where the slab has none there (R248). -/
def State.markAt (s : State) (n stripe row j : Nat) : Bytes :=
  match s.blkAt n stripe j row with
  | some (h, b) => marker h b 0
  | none => zeros 4160

/-- The slot that takes a block of a position that may be missing: none for its own place, else where it is rebuilt (R248). -/
def State.destOr (s : State) (n stripe p : Nat) : Option Nat :=
  if (s.chunkSlot n stripe p).isSome then none else s.rebuildSlot n stripe p

/-- The markers and checks of a block row beyond its checks (R247, R248, R250): markers at the lost positions, and the checks over what is
there; `dst` names the slots of positions that do not go to their own place. -/
def State.lostRow (s : State) (n stripe row : Nat) (data : List (Nat × Bytes)) (lost : List Nat) (dst : Nat → Option Nat) : List PosWrite :=
  let g := s.geom n (inNew stripe)
  let marks := lost.map fun j => (j, s.markAt n stripe row j)
  (marks ++ checksOf g (data ++ marks)).map fun m => { pos := m.1, row := row, bytes := m.2, dest := dst m.1 }

/-- Enter the lost blocks of a row in the lost-block list (R249). -/
def State.enterRow (n stripe row : Nat) (lost : List Nat) (s : State) : State :=
  lost.foldl (fun t j => match s.blkAt n stripe j row with
    | some (h, b) => t.enterLost n h b
    | none => t) s

/-- Append the intent of a repair and its close record, and write its blocks with the intent's generation (R246, R248, R264). -/
def State.repairUnder (n stripe owner : Nat) (d : DPath) (ws : List PosWrite) (s : State) : State :=
  if ws.isEmpty then s
  else
    let seq := (s.pool n).nextSeq
    let t := s.journal n { kind := 1, flags := 2, rows := bitMask (ws.map (·.row)), mask := bitMask (ws.map (·.pos)), stripe := stripe }
    (t.writeAll n stripe owner (seq % 2 ^ 32) d ws).journal n { kind := 2, arg := seq }

/-- What the recomputing of chunks finds. -/
structure Restored where
  /-- blocks still to be read: block row and position -/
  ask : List (Nat × Nat) := []
  /-- writes that reproduce contents -/
  again : List PosWrite := []
  /-- writes of rows beyond their checks -/
  under : List PosWrite := []
  /-- lost blocks: block row and data position -/
  lost : List (Nat × Nat) := []
  deriving DecidableEq, Repr

/-- Recompute the chunks at positions `need` of a stripe, block row by block row, for the slots that `dst` names (R246, R253, R254). -/
def State.restore (s : State) (n stripe : Nat) (need : List Nat) (dst : Nat → Option Nat) (reads : List PosBlock) : Restored :=
  let k := (s.geom n (inNew stripe)).k
  (List.range 16).foldl (fun acc row =>
    let o := s.rowSolve n stripe row reads need [] false
    if o.ask ≠ [] then { acc with ask := acc.ask ++ o.ask.map fun p => (row, p) }
    else if o.lost ≠ [] then
      { acc with under := acc.under ++ s.lostRow n stripe row (o.data k) o.lost dst, lost := acc.lost ++ o.lost.map fun j => (row, j) }
    else
      let gen := o.newestGen k
      let out := (need ++ o.bad).eraseDups.filterMap fun p => (o.at p).map fun b =>
        ({ pos := p, row := row, bytes := b, dest := if need.contains p then dst p else none, gen := some gen } : PosWrite)
      { acc with again := acc.again ++ out }) {}

/-- Reads of a stripe have met an unreadable block or a failed check: its row group is hot (R265). -/
def State.hotIfBad (n stripe : Nat) (reads : List PosBlock) (s : State) : State :=
  let k := (s.geom n (inNew stripe)).k
  s.when (reads.any fun r => !readGood k (s.blkAt n stripe r.pos r.row) false r) fun t => t.markHot n ((s.rowOf n stripe).1 / 1024)

/-- Carry out what a recomputing found: the blocks still to be read are asked for, or the writes are issued. -/
def State.doRestore (n stripe owner : Nat) (d : DPath) (reads : List PosBlock) (r : Restored) (s : State) : State :=
  if r.ask ≠ [] then r.ask.foldl (fun t a => t.readStripe n stripe a.2 a.1 owner d) s
  else
    let t := ((s.hotIfBad n stripe reads).writeAll n stripe owner 0 d r.again).repairUnder n stripe owner d r.under
    r.lost.foldl (fun u l => u.enterRow n stripe l.1 [l.2]) t

/-! ### Destage (R223 to R226, R562) -/

/-- Destage runs: in a service mode, during a hold-up destage, in replay, and in Lockdown entered from M2 or M4 (R49, R233, R234). -/
def State.mayDestage (s : State) : Bool :=
  s.inService || s.layout.replaying || s.layout.holdup.isSome ||
  (decide (s.modes.mode = .m5) && (decide (s.modes.prevMode = .m2) || decide (s.modes.prevMode = .m4)))

/-- A version is held by phase 1 or 2 of a reshape; a hold-up destage releases the hold (R258, R261). -/
def State.heldByReshape (s : State) (n : Nat) (v : Version) : Bool :=
  match (s.pool n).reshape with
  | some r => decide (1 ≤ r.phase) && decide (r.phase ≤ 2) && s.layout.holdup.isNone &&
      ((r.plan.drop r.stepNo).head?.map (·.1) == some (s.recordOf v.handle v.blk))
  | none => false

/-- A stripe of a claimed extent has a position on a member whose preempt has not completed: destage waits (R389). -/
def State.awaitsPreempt (s : State) (n stripe : Nat) : Bool :=
  s.pair.preempts ≠ [] &&
  (match s.stripeExtent n stripe with
  | some (_, x) => x.claimed
  | none => false) &&
  (List.range (s.geom n (inNew stripe)).w).any fun p => s.pair.preempts.contains ((s.chunkSlot n stripe p).getD 64)

/-- The versions of a pool that destage may take, with their stripes. -/
def State.candidates (s : State) (n : Nat) : List (Nat × Nat × Version) :=
  s.layout.larder.filterMap fun e =>
    if s.destageable e ∧ (s.ns e.2.handle).pool = n ∧ s.heldByReshape n e.2 = false then
      match s.placeBlk e.2.handle e.2.blk with
      | some (st, _, _) => if s.lockHere n st ∧ s.awaitsPreempt n st = false ∧ thas s.layout.destages (stripeKey n st) = false then some (st, e.1, e.2) else none
      | none => none
    else none

/-- The stripe of the oldest version of some candidates. -/
def oldestStripe (l : List (Nat × Nat × Version)) : Option Nat :=
  match l with
  | [] => none
  | x :: xs => some (xs.foldl (fun a b => if b.2.2.bornNs < a.2.2.bornNs then b else a) x).1

/-- Every block of every data chunk of a stripe is covered by a version (R223, R224). -/
def State.fullStripe (s : State) (n stripe : Nat) : Bool :=
  let have' := ((s.candidates n).filter fun c => c.1 = stripe).filterMap fun c => (s.placeBlk c.2.2.handle c.2.2.blk).map (·.2)
  (List.range (s.geom n (inNew stripe)).k).all fun j => (List.range 16).all fun b => have'.contains (j, b) || (s.blkAt n stripe j b).isNone

/-- Partner loss was confirmed while the hold-up destage ran: the mirror larder adopted then comes after the own larder (R233). -/
def State.adoptedLast (s : State) : Bool :=
  match s.layout.holdup with
  | some h => decide (h.fromMode = .m3)
  | none => false

/-- The candidates of a pool from which the next stripe is picked. -/
def State.pickFrom (s : State) (n : Nat) : List (Nat × Nat × Version) :=
  let c := s.candidates n
  if s.adoptedLast && c.any fun x => !x.2.2.adoptedV then c.filter fun x => !x.2.2.adoptedV else c

/-- The stripe that destage picks next in a pool, by the priorities of R223: replay takes the stripes of open intents (R234), the hold-up destage and that of
M5 take every version whatever the fill (R49, R233). -/
def State.pickStripe (s : State) (n : Nat) : Option Nat :=
  let c := s.pickFrom n
  if s.layout.replaying then oldestStripe (c.filter fun x => (openIntents (s.pool n).journal).any fun r => r.stripe = x.1)
  else if c.any fun x => x.2.2.adoptedV then oldestStripe (c.filter fun x => x.2.2.adoptedV)
  else if c.any fun x => x.2.2.through then oldestStripe (c.filter fun x => x.2.2.through)
  else if s.layout.rule3 ∨ s.layout.holdup.isSome ∨ s.modes.mode = .m5 then oldestStripe c
  else oldestStripe (c.filter fun x => s.layout.eligible.contains x.2.1 &&
    (s.fullStripe n x.1 || (c.filter fun y => y.1 = x.1).all fun y => s.layout.coalesced.contains y.2.1))

/-- The place of a version in its stripe: data chunk and block row. -/
def State.cellOf (s : State) (v : Version) : Nat × Nat :=
  match s.placeBlk v.handle v.blk with
  | some (_, j, b) => (j, b)
  | none => (0, 0)

/-- The bytes a version writes: its stored block, or the unwritten form of a Deallocate (R225). -/
def Version.block (v : Version) : Bytes := if v.dealloc then zeros 4160 else v.cipher ++ v.trailer

/-- The method of R224 for the cells (chunk, block row) that have versions: 0 full, 1 read-modify-write, 2 reconstruct-write. A row with a
missing position is written by reconstruct-write (R242). -/
def State.methodOf (s : State) (n stripe : Nat) (cells : List (Nat × Nat)) : Nat :=
  let g := s.geom n (inNew stripe)
  let whole := (List.range g.k).all fun j => (List.range 16).all fun b => cells.contains (j, b) || (s.blkAt n stripe j b).isNone
  let missing := (List.range g.w).any fun p => (s.chunkSlot n stripe p).isNone
  if whole then 0
  else if !missing && decide (2 * ((cells.map (·.1)).eraseDups).length ≤ g.k) then 1 else 2

/-- The tenant of a stripe: that of the namespace whose extent it holds (R338). -/
def State.stripeTenant (s : State) (n stripe : Nat) : Nat :=
  match s.stripeExtent n stripe with
  | some (_, x) => (s.ns x.handle).tenant
  | none => 0

/-- Where the drive commands of a destage go (R338). -/
def State.destagePath (s : State) (n stripe : Nat) : DPath :=
  if s.layout.holdup.isSome ∨ s.layout.replaying then .holdup else .tenant (s.stripeTenant n stripe)

/-- The positions of a stripe that a destage writes: the changed chunks and the checks that are there (R226). -/
def State.destageMask (s : State) (n stripe : Nat) (cells : List (Nat × Nat)) : List Nat :=
  let g := s.geom n (inNew stripe)
  ((cells.map (·.1)).eraseDups ++ (List.range g.m).map fun i => g.k + i).filter fun p => !(s.destSlots n stripe p).isEmpty

/-- The positions whose old contents a block row needs under a method, and those whose old contents do not matter (R224). -/
def rowNeeds (g : Geom) (method : Nat) (changed present : List Nat) : List Nat :=
  if method = 0 then []
  else if method = 1 then changed ++ present.filter fun p => g.k ≤ p
  else (List.range g.k).filter fun j => !changed.contains j

/-- Steps 1 to 3 of R225 for a stripe whose lock destage holds: the bitmap bit, the intent and the reads. -/
def State.startDestage (n stripe : Nat) (s : State) : State :=
  let vs := (s.candidates n).filter fun c => c.1 = stripe
  let cells := vs.map fun c => s.cellOf c.2.2
  let g := s.geom n (inNew stripe)
  let m := s.methodOf n stripe cells
  let high := vs.foldl (fun a c => max a c.2.2.stamp.toNat) 0
  let flags := (if m = 0 then 1 else 0) + (if m = 2 then 2 else 0) + (if s.layout.holdup.isSome then 4 else 0) + (if s.layout.replaying then 8 else 0)
  let t0 := s.when (!(s.pool n).opened) fun u => u.journalHeader n false
  let t := t0.bitmapSet n (s.rowOf n stripe).1
  let rows := bitMask (cells.map (·.2))
  let mask := bitMask (s.destageMask n stripe cells)
  let d : Destage := {
    method := m, rows := BitVec.ofNat 16 rows, mask := BitVec.ofNat 32 mask, high := BitVec.ofNat 64 high, seqNo := (t.pool n).nextSeq
    stage := 2, vers := vs.map (·.2.1), holdup := s.layout.holdup.isSome }
  let u := (t.journal n { kind := 1, flags := flags, rows := rows, mask := mask, stripe := stripe, high := high }).updLayout fun l => { l with
    destages := tput l.destages (stripeKey n stripe) d }
  let present := (List.range g.w).filter fun p => (s.chunkSlot n stripe p).isSome
  ((cells.map (·.2)).eraseDups).foldl (fun v b =>
    let changed := (cells.filter fun c => c.2 = b).map (·.1)
    ((rowNeeds g m changed present).filter present.contains).foldl (fun w p => w.readStripe n stripe p b 2 (s.destagePath n stripe)) v) u

/-- Destage takes up a stripe: it waits for the journal (R228, R231) or for the stripe's lock (R245), else begins. -/
def State.takeStripe (n stripe : Nat) (s : State) : State :=
  if (s.journalUp n).length < 2 then s
  else if s.journalReady n = false then s.bump cJrnlRingWait n
  else
    let g := s.takeLock n stripe 3
    if g.1 then g.2.startDestage n stripe else g.2

/-- One block row of a destage whose reads are in: what it must still read, else its writes, the survivors rewritten and the lost
positions (R224, R225, R562). -/
def State.destageRow (s : State) (n stripe row method : Nat) (vs : List Version) (reads : List PosBlock) :
    List Nat × List PosWrite × List PosWrite × List Nat :=
  let g := s.geom n (inNew stripe)
  let news := (vs.filter fun v => (s.cellOf v).2 = row).map fun v => ((s.cellOf v).1, v.block)
  let changed := news.map (·.1)
  let present := (List.range g.w).filter fun p => (s.chunkSlot n stripe p).isSome
  let put (e : Nat × Bytes) : PosWrite := { pos := e.1, row := row, bytes := e.2 }
  let tag := decide (s.modes.mode ≠ .m5)
  let rmw := s.rowSolve n stripe row reads (rowNeeds g 1 changed present) [] tag
  if method = 1 ∧ rmw.ask ≠ [] then (rmw.ask, [], [], [])
  else if method = 1 ∧ rmw.bad = [] ∧ rmw.lost = [] then
    let old (p : Nat) : Bytes := (rmw.at p).getD []
    let checks := (present.filter fun p => g.k ≤ p).map fun p =>
      (p, formOf (news.foldl (fun a e => gfAdd a (gfScale (coef (p - g.k + 1) e.1) (gfAdd (covered (old e.1)) (covered e.2)))) (covered (old p))))
    ([], (news ++ checks).map put, [], [])
  else
    let o := s.rowSolve n stripe row reads (rowNeeds g (if method = 0 then 0 else 2) changed present) changed tag
    if o.ask ≠ [] then (o.ask, [], [], [])
    else
      let kept := (o.data g.k).filter fun e => !changed.contains e.1
      let marks := o.lost.map fun j => (j, s.markAt n stripe row j)
      let checks := checksOf g (news ++ kept ++ marks)
      let fixed := (o.bad.filter fun p => decide (p < g.k) && !changed.contains p && !o.lost.contains p).filterMap fun p => (o.at p).map fun b => put (p, b)
      ([], (news ++ checks).map put, fixed ++ marks.map (fun m => { put m with dest := s.destOr n stripe m.1 }), o.lost)

/-- The versions of a destage. -/
def State.versOf (s : State) (d : Destage) : List Version := d.vers.filterMap fun k => tfind s.layout.larder k

/-- The numbers of the bits set in a word. -/
def bitsSet (w : Nat) (x : Nat) : List Nat := (List.range w).filter x.testBit

/-- Steps 4 and 5 of R225, and R562: the reads are checked, the checks computed, and the writes issued; where blocks are rewritten or lost, a
replacement intent goes first. Blocks still to be read are asked for. -/
def State.destageWrites (n stripe : Nat) (reads : List PosBlock) (d : Destage) (s : State) : State :=
  let vs := s.versOf d
  let path := s.destagePath n stripe
  let rows := bitsSet 16 d.rows.toNat
  let outs := rows.map fun b => (b, s.destageRow n stripe b d.method vs reads)
  if outs.any fun o => o.2.1 ≠ [] then
    outs.foldl (fun t o => o.2.1.foldl (fun u p => u.readStripe n stripe p o.1 2 path) t) s
  else
    let ws := (outs.map fun o => o.2.2.1).flatten
    let extra := (outs.map fun o => o.2.2.2.1).flatten
    let t := outs.foldl (fun u o => u.enterRow n stripe o.1 o.2.2.2.2) (s.hotIfBad n stripe reads)
    let seq := (t.pool n).nextSeq
    let t1 := if extra = [] then t else t.journal n {
      kind := 1, flags := 2 + (if d.holdup then 4 else 0), rows := bitMask ((ws ++ extra).map (·.row))
      mask := Nat.lor d.mask.toNat (bitMask (extra.map (·.pos))), stripe := stripe, high := d.high.toNat }
    let use := if extra = [] then d.seqNo else seq
    let t2 := (t1.writeAll n stripe 2 (use % 2 ^ 32) path (ws ++ extra)).bumpN cDestageBytes n
      (4160 * ((ws ++ extra).map fun w => (s.slotsFor n stripe w).length).sum)
    let d2 : Destage := { d with stage := 5, seqNo := use, firstSeq := if extra = [] then 0 else d.seqNo, method := if extra = [] then d.method else 2 }
    t2.updLayout fun l => { l with destages := tput l.destages (stripeKey n stripe) d2 }

/-- Lost blocks that a destaged version covers are healed: their entries leave the list (R251). -/
def State.healed (n : Nat) (vs : List Version) (s : State) : State :=
  vs.foldl (fun t v =>
    if t.isLost v.handle v.blk then
      (t.updLayout fun l => { l with lostList := tdel l.lostList (lostKey v.handle v.blk) }).bump cLostHealed n
    else t) s

/-- Replay (R234): an open intent whose stripe holds no version in the larder, and no destage, is closed; replay has ended once no intent is open. -/
def State.replayCheck (s : State) : State :=
  if s.layout.replaying = false then s
  else
    let done (t : State) (n : Nat) : List JRec := (openIntents (t.pool n).journal).filter fun r =>
      !(thas t.layout.destages (stripeKey n r.stripe)) && !(t.layout.larder.any fun e => t.stripeOfVersion e.2 == some (n, r.stripe))
    let t := (tkeys s.layout.pools).foldl (fun u n => (done u n).foldl (fun v r => v.journal n { kind := 2, arg := r.seqNo }) u) s
    t.updLayout fun l => { l with replaying := l.pools.any fun p => !(openIntents p.2.journal).isEmpty }

/-- Steps 6 and 7 of R225: the close records, and the release of the destaged versions and every older version of their blocks. -/
def State.destageEnd (n stripe : Nat) (d : Destage) (s : State) : State :=
  let vs := s.versOf d
  let t := (s.journal n { kind := 2, arg := d.seqNo }).when (decide (d.firstSeq ≠ 0)) fun u => u.journal n { kind := 2, arg := d.firstSeq }
  let older := (t.layout.larder.filter fun e => vs.any fun v => decide (v.handle = e.2.handle) && decide (v.blk = e.2.blk) &&
    decide (e.2.stamp.toNat ≤ v.stamp.toNat)).map (·.1)
  let meth := if d.method = 0 then cDestageFull else if d.method = 1 then cDestageRmw else cDestageRcw
  let t1 := (((t.healed n vs).releaseVersions older).trimRegions).bump meth n
  let t2 := t1.updLayout fun l => { l with destages := tdel l.destages (stripeKey n stripe) }
  let t3 := t2.updPool n fun p => { p with lastDestage := tput p.lastDestage ((s.rowOf n stripe).1 / 1024) s.now }
  ((((t3.freeLock n stripe).rule3Update).headerDue n).replayCheck).drainAll

/-! ### Rebuild order (R242 to R244) -/

/-- The chunks of a stripe that rebuild can write now: position and member, of listed members with a target, and of unlisted members with a
replacement (R243, R254). -/
def State.rebuildChunks (s : State) (n stripe : Nat) : List (Nat × Nat) :=
  let r := (s.rowOf n stripe).1
  ((List.range (s.geom n (inNew stripe)).w).map fun p => (p, s.homeOf n stripe p)).filter fun e =>
    !(s.pool n).rebuilt.contains (e.2, stripe) &&
    ((decide (s.memberState n e.2 = 2) && (s.relocTarget n r (inNew stripe) e.2).isSome) ||
     (decide (s.memberState n e.2 = 3) && (s.pool n).replacing.contains e.2))

/-- The class of a stripe: M less the members missing from it, plus 1; M + 1 where none is (R242). -/
def State.stripeClass (s : State) (n stripe : Nat) : Nat :=
  let g := s.geom n (inNew stripe)
  g.m + 1 - ((List.range g.w).filter fun p => (s.chunkSlot n stripe p).isNone).length

/-- A class 1 stripe remains in the pool (R244). -/
def State.urgent (s : State) (n : Nat) : Bool :=
  !(tkeys (s.pool n).members).isEmpty && (s.stripesOf n).any fun st => decide (s.stripeClass n st ≤ 1)

/-- The stripe that the pass takes next: lowest class, then lowest number, of those with a chunk to rebuild whose locks are here
(R243, R245). -/
def State.nextRebuild (s : State) (n : Nat) : Option Nat :=
  let c := ((s.stripesOf n).filter fun st => s.lockHere n st && !(s.rebuildChunks n st).isEmpty).map fun st => (s.stripeClass n st, st)
  match c with
  | [] => none
  | x :: xs => some (xs.foldl (fun a b => if b.1 < a.1 ∨ (b.1 = a.1 ∧ b.2 < a.2) then b else a) x).2

/-- Background work may run in a pool: in a service mode, the pool online and no hold-up destage (R233, R243). -/
def State.mayWork (s : State) (n : Nat) : Bool := s.inService && s.poolOnline n && s.layout.holdup.isNone

/-- The stripes of a member's row group: those with a chunk of it whose locks are here. -/
def State.groupStripes (s : State) (n slot group : Nat) : List Nat :=
  (s.stripesOf n).filter fun st => decide ((s.rowOf n st).1 / 1024 = group) && s.lockHere n st &&
    (List.range (s.geom n (inNew st)).w).any fun p => decide (s.homeOf n st p = slot)

/-- The positions of a stripe that a slot holds by the permutation. -/
def State.posOfSlot (s : State) (n stripe slot : Nat) : List Nat :=
  (List.range (s.geom n (inNew stripe)).w).filter fun p => decide (s.homeOf n stripe p = slot)

/-! ### The patrol (R262 to R265) -/

/-- The patrol order of two stripes: by row, then by stripe. -/
def State.patrolBefore (s : State) (n a b : Nat) : Bool :=
  let ra := (s.rowOf n a).1
  let rb := (s.rowOf n b).1
  decide (ra < rb) || (decide (ra = rb) && decide (a < b))

/-- The first of some stripes in patrol order. -/
def State.firstPatrol (s : State) (n : Nat) (l : List Nat) : Option Nat :=
  match l with
  | [] => none
  | x :: xs => some (xs.foldl (fun a b => if s.patrolBefore n b a then b else a) x)

/-- The stripes at or after the cursor whose locks are here. -/
def State.ahead (s : State) (n : Nat) : List Nat :=
  (s.stripesOf n).filter fun st => s.lockHere n st &&
    (decide ((s.pool n).badgerRow < (s.rowOf n st).1) || (decide ((s.pool n).badgerRow = (s.rowOf n st).1) && decide ((s.pool n).badgerNext ≤ st)))

/-- The stripe at the cursor; past the last row the patrol begins again at row 0. -/
def State.cursorStripe (s : State) (n : Nat) : Option Nat :=
  match s.firstPatrol n (s.ahead n) with
  | some st => some st
  | none => s.firstPatrol n ((s.stripesOf n).filter (s.lockHere n))

/-- End the sweeps of a pool whose cursor has come back to the row where they began: with the partner's part done too the generation is EMPTY
and its key erased (R288). -/
def State.sweepEnds (n : Nat) (s : State) : State :=
  s.cipher.ns.foldl (fun t e =>
    if e.2.pool ≠ n then t
    else e.2.gens.foldl (fun u g =>
      if g.2.sweeping ∧ g.2.sweepWrapped ∧ g.2.sweepHere = false ∧ g.2.sweepRow ≤ (s.pool n).badgerRow then
        let v := (u.updGen e.1 g.1 fun x => { x with sweepHere := true }).settIfPaired 0x1A [e.1, g.1, 2] []
        if s.paired = false ∨ g.2.sweepThere then
          ((v.updNs e.1 fun x => { x with gens := tdel x.gens g.1 }).dirWrite e.1 g.1).raise 0x0602 e.1 g.1
        else v
      else u) t) s

/-- Move the cursor past a stripe; past the last row it returns to row 0 and PASSES rises by 1 (R262). -/
def State.cursorPast (n stripe : Nat) (s : State) : State :=
  let row := (s.rowOf n stripe).1
  let t := s.updPool n fun p => { p with badgerRow := row, badgerNext := stripe + 1 }
  let u := match s.firstPatrol n (t.ahead n) with
    | some nx => if (s.rowOf n nx).1 = row then t else t.updPool n fun p => { p with badgerRow := row + 1, badgerNext := 0 }
    | none =>
      let v := t.updPool n fun p => { p with badgerRow := 0, badgerNext := 0, badgerPasses := sat 65535 (p.badgerPasses + 1) }
      let wrap (g : KeyGen) : KeyGen := { g with sweepWrapped := g.sweepWrapped || g.sweeping }
      let wrapNs (x : Ns) : Ns := if x.pool = n then { x with gens := tmap (fun _ g => wrap g) x.gens } else x
      v.updCipher fun c => { c with ns := tmap (fun _ x => wrapNs x) c.ns }
  u.sweepEnds n

end Sys2Proof.Machine
end

