-- ==== Sys2Proof/Machine/Electrical.lean ====
section
/-! DEFINITION. Commands of the Den domain's supplies, resets, clocks, core voltage and temperatures (R534 to R556). -/
namespace Sys2Proof.Machine

/-- Change the control pins. -/
def State.updPins (f : Pins → Pins) (s : State) : State := s.updDen fun d => { d with pins := f d.pins }

/-- Put the power-up sequence at a point. -/
def State.setSeq (q : PwrSeq) (s : State) : State := s.updDen fun d => { d with seq := q }

/-- Steps 4 to 6 of R538: HBM_PWR_EN is asserted; where the HBM group is already good, CORE_PWR_EN follows. -/
def State.powerUpFrom4 (s : State) : State :=
  let t := s.updPins fun p => { p with hbmPwrEn := true }
  if t.den.pins.hbmPg then (t.updPins fun p => { p with corePwrEn := true }).setSeq .coreWait
  else t.setSeq .hbmWait

/-- Straps sampled (R542): with STRAP_TEST at 1 the controller stays in reset and asserts FAULT_N. -/
def State.sampleStraps (idx test : Bool) (s : State) : State :=
  let t := s.updPins fun p => { p with strapIdx := idx, strapTest := test }
  if test then (t.updPins fun p => { p with faultN := true }).setSeq .halted else t.powerUpFrom4

/-- ALWAYS_ON_SUPPLY_RISE (R538): steps 1 to 4. The time base starts at 0 and KEEP fields hold their supply-loss values. -/
def execAlwaysOnSupplyRise (strapIdx strapTest : Bool) (s : State) : Res :=
  .next (if s.den.seq = .off then (s.updDen fun d => { d with timeNs := 0 }).sampleStraps strapIdx strapTest else s)

/-- What of a pool outlives the loss of all power: what stands on its drives. -/
def Pool.overPowerLoss (p : Pool) : Pool :=
  { p.overReset with
    journal := [], partnerJournal := [], rebuilt := [], progress := [], copied := [], resynced := []
    badgerRow := 0, badgerNext := 0, badgerPasses := 0 }

/-- Everything after the loss of the always-on supply: KEEP fields at their supply-loss values (R16), HBM lost; fuses,
image store and drives as they are; CORE_PWR_EN and HBM_PWR_EN deasserted (R540). -/
def State.powerLost (s : State) : State :=
  { (({} : State)) with
    fuses := s.fuses, images := s.images
    layout := { pools := tmap (fun _ p => p.overPowerLoss) s.layout.pools }
    cipher := { ns := tmap (fun _ n => { n with gens := tmap (fun _ g => { g with key := none, stepAsked := false }) n.gens })
                  s.cipher.ns }
    enclave := { shelfId := s.enclave.shelfId, shelfGen := s.enclave.shelfGen, tenants := s.enclave.tenants }
    fresh := s.fresh, sent := s.sent, pending := s.pending }

/-- ALWAYS_ON_SUPPLY_LOSS (R540). -/
def execAlwaysOnSupplyLoss (s : State) : Res := .next s.powerLost

/-- HBM_PG_ASSERT (R538): step 6 follows, unless RESET_N is low, when the sequence stops after step 5. -/
def execHbmPgAssert (s : State) : Res :=
  .next (if s.den.seq = .hbmWait then
    let t := s.updPins fun p => { p with hbmPg := true }
    if t.den.pins.resetNLow then t.setSeq .heldInReset
    else (t.updPins fun p => { p with corePwrEn := true }).setSeq .coreWait
  else if s.den.seq = .heldInReset ∧ s.den.pins.hbmPwrEn then s.updPins fun p => { p with hbmPg := true }
  else s)

/-- The Den restore of R63: a CRC-64 mismatch is a reset, cause 0x03; the enclave self-test ends in M1, or in M5 when it
fails; HBM_RETAINED is set at the entry into M1 (R537). -/
def State.denRestore (f : FuseRead) (r : DenRestore) (s : State) : State :=
  if !r.sramGood || !r.imageGood then
    ((s.wiped 0x03).updEnclave fun e => { e with
      ctxKey := Config.entropy s.fresh % 2 ^ 256 }).fuseLoad f
  else
    let t := ((s.updDen fun d => { d with hbmRetained := true }).updModes fun q => { q with denSaved := false }).enterMode .m1 0x21
    if r.selfTestGood then t.updEnclave fun e => { e with entropyOk := true } else t.enterM5 0x04

/-- CORE_PG_ASSERT (R538): the spine powers up; then the fuse load of step 2 of R527, or after a wake the restore of R63. -/
def execCorePgAssert (fuses : FuseRead) (restore : DenRestore) (s : State) : Res :=
  .next (if s.den.seq = .coreWait then
    let t := (s.updPins fun p => { p with corePg := true }).updDen fun d => { d with seq := .coreOn, seqFails := 0 }
    if t.modes.mode = .m0 then t.denRestore fuses restore
    else t.fuseLoad fuses
  else s)

/-- POWER_GOOD_TIMEOUT (R539): the group and every later group are disabled and a retry waits 100 ms; after the third
failed attempt FAULT_N is asserted and the sequence halts. -/
def execPowerGoodTimeout (s : State) : Res :=
  .next (if s.den.seq = .hbmWait ∨ s.den.seq = .coreWait then
    let hbm := decide (s.den.seq = .hbmWait)
    let t := s.updPins fun p => { p with
      hbmPwrEn := p.hbmPwrEn && !hbm, hbmPg := p.hbmPg && !hbm, corePwrEn := false, corePg := false }
    if s.den.seqFails + 1 ≥ 3 then
      (t.updPins fun p => { p with faultN := true }).updDen fun d => { d with seq := .halted, seqFails := 3 }
    else t.updDen fun d => { d with seq := .retryWait, seqFails := d.seqFails + 1 }
  else s)

/-- POWER_RETRY_TIMER (R539): the sequence starts again from step 4. -/
def execPowerRetryTimer (s : State) : Res :=
  .next (if s.den.seq = .retryWait then s.powerUpFrom4 else s)

/-- A thermal trip holds the controller until the die is below 95 °C (R555). -/
def State.tripHolds (s : State) : Bool := s.den.pins.thermTripN && decide (95 ≤ s.elec.dieC)

/-- Reset by RESET_N: cause 0x01, the core group off while it stays low (R538, R541). -/
def State.resetByPin (s : State) : State :=
  ((s.wiped 0x01).updPins fun p => { p with resetNLow := true, corePwrEn := false, corePg := false }).updDen fun d =>
    { d with seq := .heldInReset, seqFails := 0 }

/-- RESET_N_ASSERT (R541): a reset with cause 0x01, deferred while the hold-up destage runs. -/
def execResetNAssert (s : State) : Res :=
  .next (if s.den.seq = .off ∨ s.den.pins.resetNLow then s
  else if s.layout.holdup.isSome then
    (s.updPins fun p => { p with resetNLow := true }).updDen fun d => { d with resetDeferred := true }
  else if s.tripHolds then s.updPins fun p => { p with resetNLow := true }
  else s.resetByPin)

/-- RESET_N_RISE (R538, R542): the straps are sampled again and step 6 begins. -/
def execResetNRise (strapIdx strapTest : Bool) (s : State) : Res :=
  .next (if s.den.pins.resetNLow then
    let t := s.updPins fun p => { p with resetNLow := false }
    if t.den.seq = .heldInReset ∧ t.den.stopped = false then t.sampleStraps strapIdx strapTest else t
  else s)

/-- RAIL_EXCURSION (R537) of the rail numbered in R534. -/
def execRailExcursion (rail : Nat) (s : State) : Res :=
  bounded (decide (1 ≤ rail) && decide (rail ≤ 14))
    (if rail ≤ 2 then s.powerLost
    else if rail ≤ 5 then
      if s.den.pins.hbmPwrEn then
        (s.updDen fun d => { d with hbmRetained := false, railFault := rail }).stopAndReset
      else s
    else if s.den.pins.corePwrEn then (s.updDen fun d => { d with railFault := rail }).stopAndReset
    else s)

/-- CLOCK_FAULT (R543): the controller stops under R392 and resets. -/
def execClockFault (s : State) : Res := .next s.stopAndReset

/-- INTERNAL_FAULT (R392): the controller stops and resets; LAST_FAULT 0x0B is kept (R395). -/
def execInternalFault (s : State) : Res := .next (s.singleFault 0x0B).stopAndReset

/-- CONTROL_WATCHDOG_EXPIRY (R45): reset with cause 0x03. -/
def execControlWatchdogExpiry (s : State) : Res := .next (s.resetController 0x03)

/-! ### Core voltage (R448, R536) -/

/-- A new setpoint has been acknowledged: VDD_CORE changes and the change is recorded (R450). -/
def State.setVcore (mv cause : Nat) (s : State) : State :=
  (s.updElec fun e => { e with vcoreMv := mv, avsPending := none, avsRetries := 0 }).marginRecord 0x01 cause whole s.elec.vcoreMv mv

/-- Send one setpoint step; where the regulator does not acknowledge, it waits to be sent again (R536). -/
def State.stepVcore (mv : Nat) (acked : Bool) (s : State) : State :=
  let t := s.send .avs [mv] []
  if acked then t.setVcore mv 0x01 else t.updElec fun e => { e with avsPending := some mv, avsRetries := 0 }

/-- CPM_SAMPLE (R448, R536): below CPM_TARGET_PS, 5 mV up to 0.860 V; above it by 20 ps for 10 ms, 5 mV down to 0.700 V;
one step at a time; after an AVSBus fault no decrease, and 10 ms below target stop the controller. -/
def execCpmSample (slackPs : Nat) (avsAcked : Bool) (s : State) : Res :=
  let target := s.marginCfgCpmTargetPs
  let low := decide (slackPs < target)
  let high := decide (slackPs > target + 20)
  let since := s.elec.slackLowSince.getD s.now
  if s.elec.avsFault && low && decide (s.now ≥ since + ms 10) && s.elec.slackLowSince.isSome then .next s.stopAndReset
  else
    let s1 := s.updElec fun e => { e with slackLowSince := if e.avsFault && low then some since else none }
    let hs := s.margins.slackHighSince.getD s.now
    let due := high && s.margins.slackHighSince.isSome && decide (s.now ≥ hs + ms 10)
    let s2 := s1.updMargins fun m => { m with
      slackHighSince := if high then some (if due then s.now else hs) else none }
    if s.elec.avsPending.isSome then .next s2
    else if low then
      if s.elec.vcoreMv < 860 then .next (s2.stepVcore (s.elec.vcoreMv + 5) avsAcked)
      else .next (s2.raise 0x0B03 whole s.elec.vcoreMv)
    else if due && !s.elec.avsFault && decide (s.elec.vcoreMv > 700) then .next (s2.stepVcore (s.elec.vcoreMv - 5) avsAcked)
    else .next s2

/-- AVS_RETRY_TIMER (R536): the command is sent again; after 3 retries AVS_FAULT is set and event 0x0E03 raised. -/
def execAvsRetryTimer (acked : Bool) (s : State) : Res :=
  match s.elec.avsPending with
  | none => .next s
  | some mv =>
    let t := s.send .avs [mv] []
    if acked then .next (t.setVcore mv 0x01)
    else if s.elec.avsRetries + 1 ≥ 3 then
      .next ((t.updElec fun e => { e with avsPending := none, avsRetries := 3, avsFault := true }).raise 0x0E03 whole
        (s.elec.vcoreMv + mv * 2 ^ 16 + 3 * 2 ^ 32))
    else .next (t.updElec fun e => { e with avsRetries := e.avsRetries + 1 })

/-! ### Temperatures (R554, R555) -/

/-- The greatest of a list of numbers, 0 for none. -/
def greatest (l : List Nat) : Nat := l.foldl max 0

/-- The trip thresholds in force: raised during the hold-up destage (R555). -/
def State.tripDie (s : State) : Nat := if s.layout.holdup.isSome then 115 else 110

/-- The stack trip threshold in force (R555). -/
def State.tripStack (s : State) : Nat := if s.layout.holdup.isSome then 105 else 100

/-- A thermal trip (R555): stop under R392, THERM_TRIP_N and FAULT_N asserted, CORE_PWR_EN deasserted, until a reset. -/
def State.thermalTrip (s : State) : State :=
  let t := (s.updDen fun d => { d with trips := sat 255 (d.trips + 1) }).stopService
  (((t.wiped 0x03).updElec fun e => { e with dieC := s.elec.dieC, stackC := s.elec.stackC }).updPins fun p => { p with
    thermTripN := true, faultN := true, corePwrEn := false, corePg := false }).setSeq .halted

/-- The throttle begins, with the device shapers in force, or ends after 10 ms below its thresholds; each raises event 0x0E04 (R345, R555). -/
def State.throttleStep (hottest : Nat) (s : State) : State :=
  let die := s.elec.dieC
  let st := s.elec.stackC
  let data := fun (on : Nat) => on + die * 2 ^ 8 + st * 2 ^ 16 + hottest * 2 ^ 24
  if die ≥ 100 ∨ st ≥ 92 then
    if s.elec.throttle then s.updElec fun e => { e with coolSince := none }
    else ((s.updElec fun e => { e with throttle := true, throttles := sat 65535 (e.throttles + 1), coolSince := none }).shapersAs true).raise 0x0E04 whole (data 1)
  else if s.elec.throttle && decide (die < 95) && decide (st < 88) then
    match s.elec.coolSince with
    | none => s.updElec fun e => { e with coolSince := some s.now }
    | some t0 =>
      if s.now ≥ t0 + ms 10 then ((s.updElec fun e => { e with throttle := false, coolSince := none }).shapersAs (decide (s.modes.nvmePs = 1))).raise 0x0E04
        whole (data 0)
      else s
  else s.updElec fun e => { e with coolSince := none }

/-- THERMAL_SAMPLE (R554, R555): the hottest die sensor and stack, the refresh rate, the throttle and the trip. -/
def execThermalSample (dieTemps stackTemps : List Nat) (s : State) : Res :=
  let die := sat 255 (greatest dieTemps)
  let st := sat 255 (greatest stackTemps)
  let s1 := s.updElec fun e => { e with
    dieC := die, stackC := st
    refreshHot := if st > 85 then true else if st < 82 then false else e.refreshHot }
  if s.den.pins.thermTripN then .next s1
  else if die ≥ s.tripDie ∨ st ≥ s.tripStack then .next s1.thermalTrip
  else .next (s1.throttleStep (stackTemps.findIdx (· == greatest stackTemps)))

/-- The refresh multiple in force: the larger of the temperature rule and the corrected-error rule (R555). -/
def State.hbmRefresh (s : State) : Nat := max s.elec.ceLevel (if s.elec.refreshHot then 2 else 1)

end Sys2Proof.Machine
end

