-- ==== Sys2Proof/Machine/Modes.lean ====
section
/-! DEFINITION. Island gates and crossbar flits (R27 to R30, R50, R51), idle levels (R65), Den entry and wake (R57 to R64). -/
namespace Sys2Proof.Machine

/-! ### Islands -/

/-- Island `i` is open. -/
def State.islandOpen (s : State) (i : Nat) : Bool := s.spine.islandsOpen.toNat.testBit i

/-- Open island `i`; it accepts the flits held at its port (R29). -/
def State.openIsland (i : Nat) (s : State) : State :=
  s.updSpine fun p => { p with islandsOpen := p.islandsOpen ||| BitVec.ofNat 16 (2 ^ i), holdQueue := tdel p.holdQueue i }

/-- Close island `i`. -/
def State.closeIsland (i : Nat) (s : State) : State :=
  s.updSpine fun p => { p with islandsOpen := p.islandsOpen &&& ~~~ BitVec.ofNat 16 (2 ^ i) }

/-- A root port of island 12 or 13 has its link in L0 (R51). -/
def State.rootPortL0 (s : State) (i : Nat) : Bool :=
  s.drives.ports.any fun p => decide (p.1 / 32 + 12 = i) && decide (p.2.speed ≠ 0) && !p.2.inL1

/-- The island must stay open because arrivals from outside cannot be held at a crossbar port (R51). -/
def State.islandPinned (s : State) (i : Nat) : Bool :=
  if i < 4 then s.net.ports.any fun p => decide (p.1 / 4 = i) && p.2.linkUp
  else if i = 6 then decide (s.localPort.lState = 2)
  else if i = 12 ∨ i = 13 then s.rootPortL0 i
  else if i = 14 then s.paired
  else if i = 15 then true
  else false

/-- FLIT_ARRIVAL (R29, R30): a flit for a gated island is held at the port, the island opens and accepts it. A flit that
fails its CRC is resent once; a second failure of the same flit marks the port failed, which is fault 0x06, and the
controller stops under R392. -/
def execFlitArrival (island flit : Nat) (crcGood : Bool) (s : State) : Res :=
  bounded (decide (island < 16))
    (if s.modes.mode = .m0 then s
    else if crcGood then
      let t := if s.islandOpen island then s
        else s.updSpine fun p => { p with holdQueue := tput p.holdQueue island ((tget [] p.holdQueue island ++ [flit]).take 64) }
      (t.openIsland island).updSpine fun p => { p with resent := dropOne flit p.resent }
    else if s.spine.resent.contains flit then
      ((s.updSpine fun p => { p with portFailed := p.portFailed ||| BitVec.ofNat 16 (2 ^ island) }).singleFault 0x06).stopAndReset
    else s.updSpine fun p => { p with resent := flit :: p.resent })

/-- ISLAND_IDLE_EXPIRY (R50, R51): a closable island with no flit held closes. -/
def execIslandIdleExpiry (island : Nat) (s : State) : Res :=
  bounded (decide (island < 16))
    (if s.modes.mode = .m0 ∨ s.islandPinned island ∨ thas s.spine.holdQueue island then s else s.closeIsland island)

/-! ### Idle levels in M1 and M5 (R65) -/

/-- Work that keeps the controller from idling in M1 or M5 (R65): a start-up or test step, a destage, key erasure. -/
def State.busyIdle (s : State) : Bool :=
  s.power.estore.testing || !s.layout.destages.isEmpty || s.layout.holdup.isSome ||
  (decide (s.modes.mode = .m5) && !s.enclave.erased) ||
  (decide (s.modes.mode = .m1) && decide (s.boot.bootStep < 12) && !s.boot.recovery)

/-- IDLE_LEVEL_TIMER (R65): descend to level 1, 2 or 3; level 1 closes every island whose work is done. -/
def execIdleLevelTimer (level : Nat) (s : State) : Res :=
  .next (if (s.modes.mode = .m1 ∨ s.modes.mode = .m5) ∧ s.modes.idleLevel < level ∧ level ≤ 3 ∧ s.busyIdle = false then
    ((List.range 16).foldl (fun t i => if t.islandPinned i ∨ thas t.spine.holdQueue i then t else t.closeIsland i) s).updModes
      fun q => { q with idleLevel := level }
  else s)

/-! ### Wake (R61 to R64) -/

/-- A wake with source `code` (R61, R63): CORE_PWR_EN and SETT_WAKE_OUT asserted. After the commit point of a Den entry
it is latched (R59), and so it is while a power fault keeps the core group off (R539). -/
def State.wakeBy (code : Nat) (s : State) : State :=
  if s.modes.mode = .m0 then
    if s.den.seq = .denRunning then
      (((s.updModes fun q => { q with wakeSource := code, wakeLatched := none }).updPins fun p => { p with
        corePwrEn := true, settWakeOut := true }).setSeq .coreWait).send .wakePulse [code] []
    else s.updModes fun q => { q with wakeSource := code, wakeLatched := some code }
  else if s.modes.denEntry.isSome ∧ s.denCancellable = false then
    s.updModes fun q => { q with wakeLatched := some code }
  else s

/-! ### Den entry (R57 to R59) -/

/-- No rebuild or reshape is running in any pool (R57). -/
def State.noRebuild (s : State) : Bool :=
  s.layout.pools.all fun p => p.2.reshape.isNone && p.2.returning.isEmpty && p.2.replacing.isEmpty && (s.nextRebuild p.1).isNone

/-- The conditions of R57, which have held for DEN_IDLE_S when the command arrives. -/
def State.denReady (s : State) (partnerIdle : Bool) : Bool :=
  decide (s.denCfgDenEn = 1) && (decide (s.modes.mode = .m2) || (s.paired && partnerIdle)) &&
  decide (s.modes.nvmePs = 2) && s.cmds.slots.isEmpty && s.layout.larder.isEmpty && s.noRebuild &&
  decide (s.localPort.lState ≤ 1) && s.modes.denEntry.isNone

/-- Step 6 of R58: HBM in self-refresh, key cache wiped, enclave, cores, islands and spine off, CORE_PWR_EN deasserted; the
controller is in M0. A wake latched during entry follows at once (R59). -/
def State.denFinish (left : Mode) (s : State) : State :=
  let t := (s.updCipher fun c => { c with ns := tmap (fun _ n => { n with
      gens := tmap (fun _ g => { g with key := none }) n.gens }) c.ns }).updSpine fun p => { p with islandsOpen := 0, holdQueue := [] }
  let u := (t.updDen fun d => { d with seq := .denRunning, pins := { d.pins with corePwrEn := false, corePg := false } }).updModes
    fun q => { q with denEntry := none, denLeft := some left, denSaved := true }
  let v := u.enterMode .m0 0x20
  match v.modes.wakeLatched with
  | some code => v.wakeBy code
  | none => v

/-- The slots whose drives are to be shut down: those of the ports that are UP (R58 step 5). -/
def State.upSlots (s : State) : List Nat := (s.drives.ports.filter fun p => decide (p.2.dState = 4)).map (·.1)

/-- Steps 4 and 5 of R58: the commit point. Ethernet links, Sett link and beats stop; with DRIVE_OFF = 1 each drive is sent
a normal shutdown notification and step 6 waits for them. A pairing under way is abandoned (R47). -/
def State.denCommitPoint (left : Mode) (s : State) : State :=
  let t := (s.abandonPairing.updNet fun n => { n with ports := tmap (fun _ p => { p with linkUp := false }) n.ports }).updPair fun p => { p with
    settA := false, settB := false, beatsStopped := true }
  let slots := t.upSlots
  if s.denCfgDriveOff = 1 ∧ slots ≠ [] then
    slots.foldl (fun u slot => u.send .driveAdmin [slot, 1] [])
      (t.updModes fun q => { q with denEntry := some { entryStep := 5, fromMode := left, drivesWaiting := slots } })
  else t.denFinish left

/-- DEN_ENTRY_START (R57, R58): steps 1 and 2; in M3 the commit message of step 3 is sent and its answer awaited. -/
def execDenEntryStart (partnerIdle : Bool) (s : State) : Res :=
  .next (if s.denReady partnerIdle then
    let t := (s.updXport fun x => { x with cache := [] }).updModes fun q => { q with denSaved := true }
    if s.paired then
      (t.updModes fun q => { q with denEntry := some { entryStep := 3, fromMode := .m3 } }).settSend 0x1B [] []
    else t.denCommitPoint s.modes.mode
  else s)

/-- DEN_COMMIT (R58): the partner's commit message completes step 3, and the commit point follows. -/
def execDenCommit (s : State) : Res :=
  .next (match s.modes.denEntry with
  | some e => if e.entryStep = 3 then s.denCommitPoint e.fromMode else s
  | none => s)

/-- DEN_COMMIT_TIMEOUT (R58): the entry is cancelled; the mode stays as it was. -/
def execDenCommitTimeout (s : State) : Res :=
  .next (match s.modes.denEntry with
  | some e => if e.entryStep = 3 then s.cancelDen else s
  | none => s)

/-- One drive has been shut down, or its time is over: its slot power is removed; the last one ends the entry (R58, R421). -/
def State.driveShut (slot : Nat) (s : State) : State :=
  match s.modes.denEntry with
  | some e =>
    if e.entryStep = 5 ∧ e.drivesWaiting.contains slot then
      let t := (s.updPower fun p => { p with slots := tmod {} slot (fun q => { q with
          pState := 0, gateOn := false, enhanced := false, perstHigh := false }) p.slots }).updDrives fun d => { d with
          ports := tmod {} slot (fun q => { q with dState := 1, speed := 0, width := 0, tags := [], enumStep := 0 }) d.ports }
      let left := dropOne slot e.drivesWaiting
      if left = [] then t.denFinish e.fromMode
      else t.updModes fun q => { q with denEntry := some { e with drivesWaiting := left } }
    else s
  | none => s

/-- DRIVE_SHUTDOWN_COMPLETE (R58). -/
def execDriveShutdownComplete (slot : Nat) (s : State) : Res := bounded (decide (slot < 64)) (s.driveShut slot)

/-- DRIVE_SHUTDOWN_TIMEOUT (R421): the wait ends after RTD3E, at most 10 s. -/
def execDriveShutdownTimeout (slot : Nat) (s : State) : Res := bounded (decide (slot < 64)) (s.driveShut slot)

/-- WAKE_FRAME (R62): judged in M0 alone. -/
def execWakeFrame (frame : WakeFrame) (s : State) : Res :=
  .next (if s.modes.mode = .m0 ∧ frame.fcsGood ∧ frame.unicastToUs then
    if frame.etherType = 0x88B5 ∧ frame.code = s.denCfgWakeCode then s.wakeBy 0x01
    else if s.denCfgWakeAnyUnicast = 1 then s.wakeBy 0x02 else s
  else s)

/-- DEN_WAKE_TIMER_EXPIRY (R61). -/
def execDenWakeTimerExpiry (s : State) : Res :=
  .next (if s.modes.mode = .m0 ∧ s.denCfgWakeTimerMin ≠ 0 then s.wakeBy 0x05 else s)

/-- SETT_WAKE_IN_ASSERT (R61): always honoured. -/
def execSettWakeInAssert (s : State) : Res :=
  .next (s.wakeBy 0x07)

end Sys2Proof.Machine
end

