-- ==== Sys2Proof/Machine/CcpOps.lean ====
section
/-! DEFINITION. Cheix Command Packets (R478 to R497, R561): the packet, its checks in the order of R483, sessions, replies, staging, jobs,
and the replies that wait for the partner. -/
namespace Sys2Proof.Machine

/-! ### Status codes (R497) -/

/-- Bad version or reserved field. -/
def ccBadVersion : Nat := 0x0101
/-- Bad length. -/
def ccBadLength : Nat := 0x0102
/-- Field out of range or rule broken. -/
def ccRange : Nat := 0x0105
/-- Reserved field not zero. -/
def ccReserved : Nat := 0x0106
/-- Unknown object or offset. -/
def ccUnknown : Nat := 0x0107
/-- No such session. -/
def ccNoSession : Nat := 0x0201
/-- Bad MAC. -/
def ccBadMac : Nat := 0x0202
/-- Alive counter rejected. -/
def ccAlive : Nat := 0x0203
/-- Credential rejected. -/
def ccCredential : Nat := 0x0204
/-- Session set-up held off. -/
def ccHeldOff : Nat := 0x0207
/-- Wrong mode. -/
def ccMode : Nat := 0x0301
/-- Object state forbids the request. -/
def ccState : Nat := 0x0302
/-- Partner not reachable. -/
def ccPartner : Nat := 0x0303
/-- Wrong life-cycle state. -/
def ccLifeCycle : Nat := 0x0304
/-- Another operation in progress. -/
def ccBusy : Nat := 0x0305
/-- CONFLICT. -/
def ccConflict : Nat := 0x0401
/-- Table full. -/
def ccFull : Nat := 0x0402
/-- No migration plan. -/
def ccNoPlan : Nat := 0x0403
/-- Drive format. -/
def ccFormat : Nat := 0x0501
/-- Permission group not granted. -/
def ccGroup : Nat := 0x0601
/-- Other tenant. -/
def ccTenant : Nat := 0x0602
/-- Fused ceiling. -/
def ccCeiling : Nat := 0x0603
/-- Evidence check failed. -/
def ccEvidence : Nat := 0x0604
/-- Capsule or enrolment refused. -/
def ccCapsule : Nat := 0x0605
/-- Anti-rollback bounds. -/
def ccRollback : Nat := 0x0606

/-! ### Sessions -/

/-- A session by its ID. -/
def State.session (s : State) (id : Nat) : Session := tget {} s.ccp.sessions id

/-- Change a session. -/
def State.updSession (id : Nat) (f : Session → Session) (s : State) : State :=
  s.updCcp fun c => { c with sessions := tadj id f c.sessions }

/-- A packet with this header comes by way of the session's binding (R485). -/
def Session.bound (e : Session) (h : CcpHdr) : Bool :=
  e.viaSett == h.viaSett && decide (e.transport = h.transport) && (decide (h.transport ≠ 1) || decide (e.src = h.src))

/-- The fused mask of a role (R486). -/
def State.roleMask (s : State) (role : Nat) : BitVec 32 :=
  match role with
  | 1 => s.fuses.maskShelf
  | 2 => s.fuses.maskTenant
  | 3 => s.fuses.maskService
  | 4 => 0x00032001
  | _ => 0

/-- A life-cycle state accepts a role (R486). -/
def roleAccepted (lifeCycle role : Nat) : Bool :=
  match role with
  | 1 => lifeCycle == 1 || lifeCycle == 3
  | 2 => lifeCycle == 1 || lifeCycle == 3
  | 3 => lifeCycle == 7
  | 4 => lifeCycle == 0
  | _ => false

/-- A group is in the mask of a session's role (R307, R308). -/
def State.grants (s : State) (e : Session) (group : Nat) : Bool := (s.roleMask e.role).toNat.testBit group

/-- The status of check 8 for a group: 0 where it is granted; opcodes of group 0 pass `none` (R483). -/
def State.groupStatus (s : State) (group : Option Nat) (e : Option Session) : Nat :=
  match group, e with
  | none, _ => 0
  | some g, some x => if s.grants x g then 0 else ccGroup
  | some _, none => ccGroup

/-! ### Replies (R482, R483, R491, R492) -/

/-- The packet bytes up to its CRC and MAC (R482). -/
def ccpBytes (h : CcpHdr) (op session status flags : Nat) (data : Bytes) (key : Option Nat) : Bytes :=
  let head := leBytes 1 1 ++ leBytes 1 op ++ leBytes 2 h.tag ++ leBytes 4 h.alive ++ leBytes 4 session ++ leBytes 2 status ++
    leBytes 1 flags ++ leBytes 1 0 ++ leBytes 2 data.length ++ leBytes 2 0 ++ data
  let body := head ++ leBytes 4 (crc32c head)
  match key with
  | some k => body ++ leBytes 16 (Config.sign 3 k (body.map fun b => b.toNat))
  | none => body

/-- Put a reply on the way it came: the mailbox (R465), the Sett relay (R481), or its carrier. Numbers: carrier, source, OPCODE, STATUS. -/
def State.ccpCarry (h : CcpHdr) (op status : Nat) (packet : Bytes) (s : State) : State :=
  let out := s.when (decide (status ≠ 0)) fun t => t.bump cCcpErrReply 0
  if h.viaSett then out.settSend 0x50 [1, op, h.transport, h.tag, h.alive, status] packet
  else if h.transport = 0 then
    let b := out.localPort.mbox
    let t := (out.updLocalPort fun l => { l with mbox := { l.mbox with
      busy := false, done := true, replyLen := packet.length, reply := packet } }).bump cLpMboxReqs 0
    (if b.irqEn then t.lpSignal b.vector else t).lpUsed
  else out.send .ccpReply [h.transport, h.src, op, status] packet

/-- FLAGS of a reply: reply, MAC present, relay. -/
def replyFlags (h : CcpHdr) (mac : Bool) : Nat := 1 + (if mac then 4 else 0) + (if h.relay then 8 else 0)

/-- A reply to a failure at checks 3 to 5: SESSION 0 and no MAC (R483). -/
def State.ccpRefuse (h : CcpHdr) (op status : Nat) (s : State) : State :=
  s.ccpCarry h op status (ccpBytes h op 0 status (replyFlags h false) [] none)

/-- Reply data as it goes into one packet: a reply longer than that begins with its total length (R492). -/
def firstSlice (room : Nat) (data : Bytes) : Bytes :=
  if data.length ≤ room then data else leBytes 4 data.length ++ data.take (room - 4)

/-- Answer a request: a reply in a session carries a MAC under K_RSP and stays in the cache of 16; a long one is held for READ_LONG
(R483, R491, R492). A session that has ended meanwhile gets none (R484). -/
def State.ccpReply (h : CcpHdr) (op status : Nat) (data : Bytes) (s : State) : State :=
  if h.applied then s
  else if h.session = 0 then
    let t := if 4072 < data.length then s.updCcp fun c => { c with zeroLong := tput c.zeroLong h.transport data } else s
    t.ccpCarry h op status (ccpBytes h op 0 status (replyFlags h false) (firstSlice 4072 data) none)
  else
    match tfind s.ccp.sessions h.session with
    | none => s
    | some e =>
      let d := firstSlice 4056 data
      let t := s.updSession h.session fun x => { x with
        cache := ({ alive := h.alive, tag := h.tag, crc := h.crc, status := status, data := d } :: x.cache).take 16
        running := x.running.filter fun r => r ≠ (h.alive, h.tag, h.crc)
        longReply := if 4056 < data.length then data else x.longReply }
      t.ccpCarry h op status (ccpBytes h op h.session status (replyFlags h true) d (some e.kRsp))

/-- A request is refused and changes no state. -/
def State.ccpFail (h : CcpHdr) (op status : Nat) (s : State) : State := s.ccpReply h op status []

/-- A request is refused with CONFLICT: the resource and the claimant that holds it, and its count (R43, R44, R497). -/
def State.ccpConflict (h : CcpHdr) (op res claimant : Nat) (s : State) : State :=
  ((s.updSpine fun p => { p with arb := tmod {} res (fun a => { a with conflictCount := sat 65535 (a.conflictCount + 1) }) p.arb }).ccpReply
    h op ccConflict (leBytes 1 res ++ leBytes 1 claimant))

/-- A mailbox packet that gets no reply leaves the mailbox with DONE and a reply of length 0 (R465, R483). -/
def State.mboxSilent (h : CcpHdr) (s : State) : State :=
  if h.transport = 0 ∧ h.viaSett = false then
    s.updLocalPort fun l => { l with mbox := { l.mbox with busy := false, done := true, replyLen := 0, reply := [] } }
  else s

/-! ### The checks of a packet (R483, R484, R490) -/

/-- A packet can arrive on its carrier (R478, R507): the mailbox in M1 to M5 while a request is BUSY there and MBOX_EN is 1; the management
VLAN where MGMT_VID is not 0; SMBus or I3C where MGMT_BUS selects it; the relay while a bundle is up. In recovery there is no VLAN
(R529). -/
def State.ccpArrives (s : State) (h : CcpHdr) : Bool :=
  if h.viaSett then s.settUp
  else
    match h.transport with
    | 0 => s.carrierUp 0 && s.localPort.mbox.busy && decide (s.ccpCfgMboxEn = 1)
    | 1 => s.carrierUp 1 && decide (s.ccpCfgMgmtVid ≠ 0) && !s.boot.recovery
    | 2 => decide (s.ccpCfgMgmtBus = 1)
    | 3 => decide (s.ccpCfgMgmtBus = 2)
    | _ => false

/-- A packet in M0 (R479): the Den domain takes one, on SMBus or I3C, as wake source 0x03 where DEN_CFG allows it; any other is NACKed. It is
answered once M1 is reached. -/
def State.ccpWake (h : CcpHdr) (s : State) : State :=
  if s.ccp.m0Packet = false ∧ s.ccpArrives h ∧ (h.transport = 2 ∨ h.transport = 3) ∧ h.viaSett = false ∧ s.denCfgWakeMgmt = 1 then
    (s.updCcp fun c => { c with m0Packet := true }).wakeBy 0x03
  else s

/-- alive_check (R490): the session with the value accepted, or none. -/
def Session.aliveTake (e : Session) (a : Nat) : Option Session :=
  if e.high < a ∧ a ≤ e.high + 65536 then some { e with high := a, map := (e.map <<< (a - e.high)) ||| 1#64 }
  else if e.high ≤ a + 63 ∧ a ≤ e.high ∧ e.map.toNat.testBit (e.high - a) = false then
    some { e with map := e.map ||| (1#64 <<< (e.high - a)) }
  else none

/-- A value was accepted before: its bit in the map is set. -/
def Session.seen (e : Session) (a : Nat) : Bool := decide (e.high ≤ a + 63) && decide (a ≤ e.high) && e.map.toNat.testBit (e.high - a)

/-- The opcodes that session 0 may use (R486, R488, R499). -/
def zeroOpcode (op : Nat) : Bool := (decide (1 ≤ op) && decide (op ≤ 8)) || decide (op = 0x0A) || decide (op = 0x33)

/-- Opcodes that recovery offers (R529). -/
def recoveryOpcode (op : Nat) : Bool :=
  (decide (1 ≤ op) && decide (op ≤ 6)) || decide (op = 0x12) || decide (op = 0x40) || decide (op = 0x41) || decide (op = 0x50)

/-- Groups that M5 still serves (R334); group 0 is `none`. -/
def lockdownGroup (group : Option Nat) : Bool :=
  match group with
  | none => true
  | some g => [0, 1, 9, 16, 17, 21].contains g

/-- Checks 8 and 9, then the request itself (R483). -/
def State.ccpRun (h : CcpHdr) (op : Nat) (group : Option Nat) (e : Option Session) (perm : Nat) (run : State → State) (s : State) : State :=
  if s.groupStatus group e ≠ 0 ∧ (e.isSome ∨ op ≠ 0x33) then s.ccpFail h op (s.groupStatus group e)
  else if perm ≠ 0 then s.ccpFail h op perm
  else if s.modes.mode = .m5 ∧ lockdownGroup group = false then s.ccpFail h op ccMode
  else if s.boot.recovery ∧ recoveryOpcode op = false then s.ccpFail h op ccMode
  else run (s.bump cCcpAccepted 0)

/-- A request of a session whose ALIVE is accepted: it restarts the idle timer, lets go a long reply, and runs; the session ends where ALIVE
has reached its last value (R489, R490, R492). -/
def State.ccpAccepted (h : CcpHdr) (op : Nat) (group : Option Nat) (perm : Session → Nat) (e : Session) (run : State → State) (s : State) : State :=
  let e1 := { e with lastNs := s.now, running := (h.alive, h.tag, h.crc) :: e.running, longReply := if op = 0x0A then e.longReply else [] }
  let t := (s.updSession h.session fun _ => e1).ccpRun h op group (some e1) (perm e1) run
  if h.alive = 0xFFFFFFFF then t.dropSession h.session else t

/-- Send a cached reply again, byte for byte (R491). -/
def State.ccpResend (h : CcpHdr) (op : Nat) (e : Session) (r : CachedReply) (s : State) : State :=
  s.ccpCarry h op r.status (ccpBytes h op h.session r.status (replyFlags h true) r.data (some e.kRsp))

/-- Refuse an ALIVE value: in the session, with a MAC, and not kept in the cache (R483, R490). -/
def State.ccpNotAlive (h : CcpHdr) (op : Nat) (e : Session) (s : State) : State :=
  s.ccpCarry h op ccAlive (ccpBytes h op h.session ccAlive (replyFlags h true) [] (some e.kRsp))

/-- Checks 4 to 6 of a packet in a session (R483, R490). -/
def State.ccpInSession (h : CcpHdr) (op : Nat) (group : Option Nat) (perm : Session → Nat) (run : State → State) (s : State) : State :=
  match tfind s.ccp.sessions h.session with
  | none => s.ccpRefuse h op ccNoSession
  | some e =>
    if e.bound h = false ∨ (e.sState ≠ 2 ∧ op ≠ 0x03) ∨ (e.sState ≠ 1 ∧ op = 0x03) then s.ccpRefuse h op ccNoSession
    else if h.macPresent = false ∨ h.macGood = false then s.ccpRefuse h op ccBadMac
    else
      match e.aliveTake h.alive with
      | some e1 => s.ccpAccepted h op group perm e1 run
      | none =>
        if e.seen h.alive then
          match e.cache.find? fun r => decide (r.alive = h.alive) && decide (r.tag = h.tag) && decide (r.crc = h.crc) with
          | some r => s.ccpResend h op e r
          | none => if e.running.contains (h.alive, h.tag, h.crc) then s.mboxSilent h else s.ccpNotAlive h op e
        else s.ccpNotAlive h op e

/-- Relay a packet to the partner (R481), or answer 0x0303 with no bundle up. -/
def State.ccpForward (h : CcpHdr) (op : Nat) (s : State) : State :=
  if s.settUp then
    (s.updCcp fun c => { c with relayed := c.relayed ++ [{ h := h, opcode := op }] }).settSend 0x50
      [0, op, h.transport, h.src, h.session, h.tag, h.alive] []
  else s.ccpRefuse h op ccPartner

/-- A CCP request: the checks of R483 in their order, then `run`. `group` is its permission group, `perm` a further check of the session
(tenant scope). A change of shared state that the partner has executed is applied without them (R561). -/
def State.ccpTake (h : CcpHdr) (op : Nat) (group : Option Nat) (perm : Session → Nat) (run : State → State) (s : State) : State :=
  if h.applied then s.settIn 0x1E run
  else if s.modes.mode = .m0 then s.ccpWake h
  else if s.ccpArrives h = false then s
  else
    let t := (s.updCcp fun c => { c with m0Packet := false }).wakeIdle.cancelDen
    if h.relay ∧ h.viaSett = false then t.ccpForward h op
    else if h.versionGood = false then t.ccpRefuse h op ccBadVersion
    else if h.session = 0 then
      if zeroOpcode op = false then t.ccpRefuse h op ccNoSession
      else if h.macPresent then t.ccpRefuse h op ccBadMac
      else
        let u := if op = 0x0A then t else t.updCcp fun c => { c with zeroLong := tdel c.zeroLong h.transport }
        u.ccpRun h op group none 0 run
    else t.ccpInSession h op group perm run

/-- A request whose only permission check is its group. -/
def State.ccpSimple (h : CcpHdr) (op : Nat) (group : Option Nat) (run : State → State) (s : State) : State :=
  s.ccpTake h op group (fun _ => 0) run

/-! ### Staged parameters (R492) -/

/-- The variable field of a request: its own bytes, or those staged from offset 0 for the length the request names. None where staged bytes lie
outside that length or leave a gap. -/
def State.ccpField (s : State) (h : CcpHdr) (bytes : Bytes) : Option Bytes :=
  if h.staged then
    let area := (s.session h.session).staging
    if tkeys area = List.range bytes.length then some (area.map (·.2)) else none
  else some bytes

/-- A staged request clears the staging area, whether it succeeds or fails. -/
def State.ccpUnstage (h : CcpHdr) (s : State) : State :=
  if h.staged then s.updSession h.session fun e => { e with staging := [] } else s

/-! ### Shared state (R561) -/

/-- The partner cannot be reached for a change of shared state. -/
def State.sharedCut (s : State) (h : CcpHdr) : Bool := !h.applied && s.paired && !s.settUp

/-- A change of shared state has been made here. In M3 it goes to the partner over class 1, and the reply waits until the partner has applied
it; otherwise the reply is sent at once. -/
def State.sharedDone (h : CcpHdr) (op : Nat) (args : List Nat) (data : Bytes) (s : State) : State :=
  if h.applied then s
  else if s.paired then
    let q := (tget {} s.pair.classes 1).nextSeq
    (s.updCcp fun c => { c with owed := tput c.owed q { h := h, opcode := op, data := data } }).settSend 0x1E (op :: args) []
  else s.ccpReply h op 0 data

/-- The frame of class 1 with this SEQ has been applied at the partner: the reply that waited for it is sent; after a RE_ENROL the tenant's sessions
end (R489). -/
def State.sharedApplied (q : Nat) (s : State) : State :=
  match tfind s.ccp.owed q with
  | some w =>
    let t := (s.updCcp fun c => { c with owed := tdel c.owed q }).ccpReply w.h w.opcode 0 w.data
    if w.ends then
      let tenant := (t.session w.h.session).tenant
      (tkeys (t.ccp.sessions.filter fun e => decide (e.2.role = 2) && decide (e.2.tenant = tenant))).foldl (fun u id => u.dropSession id) t
    else t
  | none => s

/-- With the partner gone no reply waits for it any more: the change stands here alone. -/
def State.sharedAlone (s : State) : State := (tkeys s.ccp.owed).foldl (fun t q => t.sharedApplied q) s

/-- The Sett link has failed: requests relayed and not answered get 0x0303 (R481). -/
def State.relaysFail (s : State) : State :=
  s.ccp.relayed.foldl (fun t w => t.ccpRefuse w.h w.opcode ccPartner) (s.updCcp fun c => { c with relayed := [] })

/-! ### Jobs (R494, R508) -/

/-- The job entry a new job takes: the lowest free, else the lowest ended. -/
def State.jobFree (s : State) : Option Nat :=
  match tfreeFrom s.ccp.jobs 0 64 with
  | some j => some j
  | none => (s.ccp.jobs.find? fun j => j.2.jState = 2).map (·.1)

/-- A job starts, running; `none` where 64 run. -/
def State.jobStart (h : CcpHdr) (op arg : Nat) (s : State) : Option (Nat × State) :=
  match s.jobFree with
  | some j => some (j, s.updCcp fun c => { c with jobs := tput c.jobs j { jState := 1, opcode := op, session := h.session, arg := arg } })
  | none => none

/-- A job's reply data: its number. -/
def jobData (j : Nat) : Bytes := leBytes 2 j

/-- A job of the opcode runs. -/
def State.jobRunning (s : State) (op : Nat) : Bool := s.ccp.jobs.any fun j => decide (j.2.jState = 1) && decide (j.2.opcode = op)

end Sys2Proof.Machine
end

