-- ==== Sys2Proof/Machine/Layout.lean ====
section
/-! DEFINITION. Meanings of the commands of destage, the intent journal and the hold-up destage (R223 to R234, R563). -/
namespace Sys2Proof.Machine

/-! ### Destage (R223 to R227, R562) -/

/-- DESTAGE_PICK (R223 to R225): the stripe of highest priority is taken up, where destage runs. -/
def execDestagePick (pool : Nat) (s : State) : Res :=
  bounded (decide (pool < 8))
    (if s.mayDestage then
      (match s.pickStripe pool with
      | some st => s.takeStripe pool st
      | none => s)
    else s)

/-- COALESCE_TIMEOUT (R223): COALESCE_US has passed since the newest version of a stripe. -/
def execCoalesceTimeout (pool stripe : Nat) (s : State) : Res :=
  bounded (decide (pool < 8))
    (let mine := (s.candidates pool).filter fun c => c.1 = stripe
    s.updLayout fun l => { l with coalesced := mine.foldl (fun a c => addOne c.2.1 a) l.coalesced })

/-- DESTAGE_AGE_EXPIRY (R223): a version is older than DESTAGE_AGE_MS. -/
def execDestageAgeExpiry (lslot : Nat) (s : State) : Res :=
  bounded (decide (lslot < 16384000))
    (match tfind s.layout.larder lslot with
    | some v => if v.placed then s.updLayout fun l => { l with eligible := addOne lslot l.eligible } else s
    | none => s)

/-- DESTAGE_INTENT_DURABLE (R225 steps 4 and 5, R562): the intent is durable and `reads` holds the blocks read. -/
def execDestageIntentDurable (pool stripe : Nat) (reads : List PosBlock) (s : State) : Res :=
  bounded (decide (pool < 8))
    (match tfind s.layout.destages (stripeKey pool stripe) with
    | some d => if d.stage = 2 then s.destageWrites pool stripe reads d else s
    | none => s)

/-- DESTAGE_WRITES_COMPLETE (R225 steps 6 and 7, R226): the members whose writes failed fail, and the destage completes without them. -/
def execDestageWritesComplete (pool stripe : Nat) (failed : List Nat) (s : State) : Res :=
  bounded (decide (pool < 8))
    (match tfind s.layout.destages (stripeKey pool stripe) with
    | some d =>
      if d.stage = 5 then ((failed.foldl (fun t m => t.failMember pool m 1) s).destageEnd pool stripe d).settle else s
    | none => s)

/-- BITMAP_CLEAN_TIMER (R227): the rows of a bit have been quiet for BITMAP_CLEAN_MS; with every member present the bit is cleared. -/
def execBitmapCleanTimer (pool bit : Nat) (s : State) : Res :=
  bounded (decide (pool < 8))
    (let p := s.pool pool
    let busy := s.layout.destages.any fun d => decide (d.1 / 2 ^ 64 = pool) && decide ((s.rowOf pool (d.1 % 2 ^ 64)).1 / 1024 = bit)
    if p.bitmap.contains bit ∧ p.members = [] ∧ busy = false ∧ 2 ≤ (s.journalUp pool).length then
      (((s.journal pool { kind := 5, stripe := bit }).updPool pool fun q => { q with
        bitmap := q.bitmap.filter fun b => b ≠ bit, lastDestage := tdel q.lastDestage bit }).bump cBitmapClears pool).headerDue pool
    else s)

/-! ### The journal (R228, R232, R255) -/

/-- The field of POOL_CFG_n that names a journal drive: A, B or C. -/
def jrnlField (k : Nat) : Nat × Nat := if k = 0 then (43, 38) else if k = 1 then (37, 32) else (31, 26)

/-- POOL_CFG_n names `new` where it named `old` as a journal drive (R232). -/
def State.renameJournal (n old new : Nat) (s : State) : State :=
  let k := (s.journalDrives n).findIdx (· == old)
  if 3 ≤ k then s
  else s.setWord (oid 5 1 n) (setBits (s.word (oid 5 1 n)) (jrnlField k).1 (jrnlField k).2 new)

/-- JOURNAL_BLOCK (R228): a journal block of the partner is kept in the copy held for it; its confirmation is the acknowledgement of the
frame. A drive change it records applies here too. -/
def execJournalBlock (pool : Nat) (recs : List JRec) (crcGood : Bool) (s : State) : Res :=
  bounded (decide (pool < 8))
    (if s.paired = false then s
    else s.settIn 0x18 fun t =>
      if crcGood then
        let u := t.updPool pool fun p => { p with partnerJournal := (recs.reverse ++ p.partnerJournal).take 4096 }
        recs.foldl (fun v r => if r.kind = 7 then v.renameJournal pool (r.arg % 64) (r.arg / 256 % 64) else v) u
      else t)

/-- The run of a journal copy from its newest header: the highest SEQ reached by records whose numbers rise by 1 and whose epochs do not
fall (R255). -/
def runHigh : List JRec → Nat → Nat → Nat
  | [], q, _ => q
  | r :: rs, q, e => if r.seqNo = q + 1 ∧ e ≤ r.epoch then runHigh rs r.seqNo r.epoch else runHigh rs q e

/-- choose_copy of R255: the highest SEQ a candidate reaches, 0 where it has no header. Records stand oldest first. -/
def copyHigh (c : JCopy) : Nat :=
  match (c.recs.filter fun r => r.kind = 6).getLast? with
  | some h => runHigh (c.recs.filter fun r => h.seqNo < r.seqNo) h.seqNo h.epoch
  | none => 0

/-- The freshest valid copy; ties go to the earlier in the list (R255). -/
def chooseCopy (l : List JCopy) : Option JCopy :=
  match l.filter fun c => c.recs.any fun r => r.kind = 6 with
  | [] => none
  | x :: xs => some (xs.foldl (fun a b => if copyHigh a < copyHigh b then b else a) x)

/-- JOURNAL_DRIVE_REPLACE (R232, R255): the lowest present member in a failure domain of neither other journal drive takes the failed one's
place: the ring is copied to it from the freshest of the copies, and POOL_CFG_n names it. None: STATE 0b11 and event 0x0502. -/
def execJournalDriveReplace (pool slot : Nat) (copies : List JCopy) (s : State) : Res :=
  bounded (decide (pool < 8) && decide (slot < 64))
    (let js := s.journalDrives pool
    if js.contains slot = false ∨ (s.journalUp pool).contains slot ∨ s.poolOnline pool = false then s
    else
      let others := js.filter fun d => d ≠ slot
      let ok (m : Nat) : Bool := decide (s.memberState pool m = 0) && s.driveUp m && !js.contains m &&
        others.all fun d => decide (s.domainOf d ≠ s.domainOf m)
      match (s.memberSlots pool).find? ok with
      | some m =>
        let t := match chooseCopy ({ src := 0, recs := (s.pool pool).journal.reverse } :: copies) with
          | some c => s.updPool pool fun p => { p with journal := c.recs.reverse.take 4096, nextSeq := max p.nextSeq (copyHigh c + 1) }
          | none => s
        let u := (t.submitRun (some 3) 0 { slot := m, op := 1, lba := 16720, blocks := 4096, owner := 7 }).renameJournal pool slot m
        u.journal pool { kind := 7, arg := slot + 256 * m }
      | none => (s.updPool pool fun p => { p with pState := 3 }).raise 0x0502 pool (pool + 256 * slot))

/-! ### The hold-up destage (R233, R261, R440, R563) -/

/-- A command that holds a stamp and has not placed its data, or not yet sent it, goes back to the admission point: its stamp is retired, or its
read entries leave, and it is admitted anew when admission resumes (R233 step 2, R195). -/
def State.readmit (n : Nat) (s : State) : State :=
  let p := s.slot n
  if p.state ≠ 4 ∨ p.admin then s
  else if p.replay then s.endQuiet n
  else if (writeKind p.opcode ∧ p.placed) ∨ (readKind p.opcode ∧ p.seen.toNat.testBit 2) then s
  else
    let t := if writeKind p.opcode then s.retire n else s.dropReads p.handle p.stamp
    ((t.updSlot n fun x => { x with
      stamp := if x.stamp = x.pieceStamp then 0 else x.stamp, pieceStamp := 0, waits := [], gone := false, begun := false, writes := [], reads := []
      reserved := 0, toPartner := false, recordConf := true }).unqueue n).stageFive n p.slba p.nlb

/-- Both feeds are lost in a mode that serves or destages: steps 1 to 3 of R233. Admission and intake stop, what is not placed is retired, the
islands close, and the hold of a reshape is released (R261). -/
def State.startHoldup (s : State) : State :=
  if s.layout.holdup.isSome ∨ (s.inService = false ∧ s.modes.mode ≠ .m5) then s
  else
    let t := s.updLayout fun l => { l with holdup := some { hStep := 4, fromMode := s.modes.mode } }
    let t1 := (tkeys t.cmds.slots).foldl (fun u n => u.readmit n) t
    let t2 := t1.updCons fun c => { c with ovl := c.ovl.filter fun e => e.2.kind ≠ 1 }
    let t3 := (List.range 7 ++ (if s.paired then [] else [14])).foldl (fun u i => State.closeIsland i u) t2
    let pools := tkeys (t3.layout.pools.filter fun p => decide (2 ≤ p.2.pState))
    (pools.foldl (fun u n =>
      (u.updPool n fun p => { p with reshape := p.reshape.map fun r => if r.phase = 1 ∨ r.phase = 2 then { r with phase := 0, stripes := 0 } else r }).bump
        cHoldupRuns n) t3).releaseCovered

/-- Both feeds are lost during a test of the energy store: the discharge path opens at once, and the test ends without a result (R442). -/
def State.testBroken (s : State) : State :=
  if s.power.estore.testing then s.updPower fun p => { p with estore := { p.estore with testing := false, discharging := false } } else s

/-- A shelf feed is lost, 0 A and 1 B: event 0x0B01 with the feed and its voltage, fault 0x0F, wake source 0x08; with the second the hold-up
destage begins (R439, R440, R395). -/
def State.feedDown (feed volt : Nat) (s : State) : State :=
  let good := if feed = 0 then s.power.feeds.aGood else s.power.feeds.bGood
  if good = false then s
  else
    let t := s.updPower fun p => { p with feeds :=
      if feed = 0 then { p.feeds with aGood := false, aConduct := false, aVolt := volt } else { p.feeds with bGood := false, bConduct := false, bVolt := volt } }
    let u := ((t.bump cFeedLoss feed).raise 0x0B01 feed (feed + 256 * volt)).singleFault 0x0F
    let v := if t.power.feeds.aGood = false ∧ t.power.feeds.bGood = false then (u.bump cBothFeedsLost 0).testBroken.startHoldup else u
    v.when (decide (s.denCfgWakeEstore = 1)) fun w => w.wakeBy 0x08

/-- BOTH_FEEDS_LOST (R440, R233): the feed that was still good is lost too. -/
def execBothFeedsLost (s : State) : Res := .next ((s.feedDown 0 0).feedDown 1 0)

/-- Every slot is off (R233 step 5, R563). -/
def State.allSlotsOff (s : State) : State :=
  s.updPower fun p => { p with slots := tmap (fun _ q => { q with pState := 0, gateOn := false, enhanced := false, perstHigh := false }) p.slots }

/-- The stop of R563: CORE_PWR_EN and HBM_PWR_EN are deasserted, HBM_RETAINED is cleared, the controller holds itself in reset and every slot
is OFF. The reset that follows has cause 0x04. -/
def State.holdupStop (s : State) : State :=
  (((s.stopService.wiped 0x04).allSlotsOff).updPins fun p => { p with
    corePwrEn := false, corePg := false, hbmPwrEn := false, hbmPg := false }).updDen fun d => { d with
      hbmRetained := false, seq := .heldInReset, seqFails := 0, stopped := true }

/-- The hold-up destage ends in its mode: the completions kept are sent, islands open and admission resumes; a deferred RESET_N follows
(R233, R541). -/
def State.holdupResume (owed : List Nat) (s : State) : State :=
  let t := (s.updLayout fun l => { l with holdup := none })
  let u := (List.range 7 ++ [14]).foldl (fun v i => State.openIsland i v) t
  let w := owed.foldl (fun v n => v.postCompletion n) u
  let x := w.drainAll.settle
  if s.den.resetDeferred then x.resetByPin else x

/-- HOLDUP_COMPLETE (R233 step 5, R563): with no placed version left and no destage running, each pool's journal gets a CLEAN header; with both
feeds still lost the controller stops, else it resumes. -/
def execHoldupComplete (s : State) : Res :=
  .next (match s.layout.holdup with
  | some h =>
    if s.layout.destages ≠ [] ∨ s.layout.larder.any (fun e => e.2.placed) then s
    else
      let pools := tkeys (s.layout.pools.filter fun p => decide (2 ≤ p.2.pState))
      let t := pools.foldl (fun u n => u.journalHeader n true) s
      if s.power.feeds.aGood ∨ s.power.feeds.bGood then t.holdupResume h.owed else t.holdupStop
  | none => s)

end Sys2Proof.Machine
end

