-- ==== Sys2Proof/Machine/Net.lean ====
section
/-! DEFINITION. Commands of the Ethernet cages, of link aggregation and of the network egress point (R69 to R104, R338 to
R340, R352). -/
namespace Sys2Proof.Machine

/-- A frame has arrived on a link: an idle controller returns to full operation, a Den entry before its commit point is
cancelled (R59, R65). -/
def State.frameSeen (s : State) : State := s.wakeIdle.cancelDen

/-- Count a received frame in the load windows of its group (R98, R100). -/
def State.lagRx (p len : Nat) (s : State) : State :=
  match s.lagOf p with
  | none => s
  | some g => s.updLag g fun l => { l with winRx := l.winRx + len, msRx := l.msRx + len }

/-- Checks 4 and 5 of R73 for an accepted frame, and its storing. -/
def State.acceptFrame (f : Frame) (s : State) : State :=
  let p := f.port
  if f.etherType = 0x88B6 ∧ f.settIndexOk = false then s.bump cSettNetDiscard p
  else if (s.lagOf p).isSome ∧ (s.port p).collecting = false then s.bump cRxNotCollecting p
  else
    let c := s.frameClass f
    let n := 8 * p + c
    let num := s.qos.nextItem
    let before := (tget {} s.qos.bufRx n).headroom
    match (s.updQos fun q => { q with nextItem := q.nextItem + 1 }).store true n num f.len with
    | none => (s.bump cRxOvfFrames n).bumpN cRxOvfBytes n f.len
    | some t => ((t.headroomCheck p c before).bump cRxFrames n).bumpN cRxBytes n f.len

/-- FRAME_RECEIVE (R73, R78): the checks in their order; a frame that fails one is discarded and counted. A group frame whose
hash bit is set and which the exact table does not hold is counted in RX_GRP_FALSE as well (R76, log 26). -/
def execFrameReceive (f : Frame) (s : State) : Res :=
  bounded (decide (f.port < 16))
    (if (s.port f.port).linkUp = false ∨ s.layout.holdup.isSome then s
    else
      let s0 := s.frameSeen
      if f.fcsGood = false then s0.bump cRxFcsErr f.port
      else
        let s1 := (s0.bwAdd f.port f.len 0).lagRx f.port f.len
        if f.len < 64 ∨ s.portClassCfgMaxFrame f.port < f.len then s1.bump cRxLenErr f.port
        else
          match s.destination f.port f.dst f.etherType with
          | 3 => s1
          | 0 => s1.acceptFrame f
          | 2 => (s1.bump cRxFilterDrop f.port).bump cRxGrpFalse f.port
          | _ => s1.bump cRxFilterDrop f.port)

/-! ### PFC (R83, R84, R354) -/

/-- PFC_XOFF_REFRESH (R354): a lossless class still in headroom sends XOFF again. -/
def execPfcXoffRefresh (port cls : Nat) (s : State) : Res :=
  bounded (decide (port < 16) && decide (cls < 8))
    (if (s.portClass port cls).xoffSent ∧ s.lossless port cls then s.sendPfc port cls 0xFFFF else s)

/-- One class of a received PFC frame: a lossless class is paused or released, another is ignored and counted (R83). -/
def State.pfcClass (p rate t quanta : Nat) (s : State) : State :=
  let s1 := s.bump cRxPfcFrames (8 * p + t)
  if s.lossless p t then
    s1.updClass p t fun q =>
      if quanta = 0 then { q with pausedUntil := 0, pausedSince := 0 }
      else { q with pausedUntil := s.now + quanta * 512 / (max 1 rate),
                    pausedSince := if q.pausedUntil = 0 then s.now else q.pausedSince }
  else
    (s1.bump cRxPfcIgnored (8 * p + t)).updClass p t fun q => if q.wdTripped then { q with wdLastReq := s.now } else q

/-- PFC_FRAME_RECEIVE (R83): quanta of the eight classes, and the enable vector. -/
def execPfcFrameReceive (port : Nat) (quanta : List Nat) (enable : Nat) (s : State) : Res :=
  bounded (decide (port < 16))
    (if (s.port port).linkUp = false then s
    else (List.range 8).foldl (fun t c => if enable.testBit c then t.pfcClass port (s.port port).rate c (quanta.getD c 0) else t)
      s.frameSeen)

/-- PFC_PAUSE_EXPIRY (R83). -/
def execPfcPauseExpiry (port cls : Nat) (s : State) : Res :=
  bounded (decide (port < 16) && decide (cls < 8))
    (s.updClass port cls fun q => { q with pausedUntil := 0, pausedSince := 0 })

/-- PFC_WD_TRIP (R84): a lossless class paused without a break for PFC_WD_MS is treated as lossy. -/
def execPfcWdTrip (port cls : Nat) (s : State) : Res :=
  bounded (decide (port < 16) && decide (cls < 8))
    (if s.lossless port cls ∧ (s.portClass port cls).pausedUntil ≠ 0 then
      ((s.updClass port cls fun q => { q with
        wdTripped := true, wdLastReq := s.now, pausedUntil := 0, pausedSince := 0, xoffSent := false }).bump
          cPfcWdTrips (8 * port + cls)).raise 0x0101 port cls
    else s)

/-- PFC_WD_RESTORE (R84): PFC_WD_MS has passed with no pause request, and the class is lossless again. -/
def execPfcWdRestore (port cls : Nat) (s : State) : Res :=
  bounded (decide (port < 16) && decide (cls < 8))
    (if (s.portClass port cls).wdTripped then
      s.updClass port cls fun q => { q with wdTripped := false, wdLastReq := 0 }
    else s)

/-! ### LLDP and LACP (R77, R91, R95) -/

/-- LLDP_RECEIVE (R77): passed to control firmware, no class configuration taken from it. -/
def execLldpReceive (port : Nat) (s : State) : Res :=
  bounded (decide (port < 16))
    (if (s.port port).linkUp = false then s
    else s.frameSeen.updPort port fun q => { q with lldpSeen := q.lldpSeen + 1 })

/-- LLDP_TRANSMIT (R77, R351): on each port with its link up; willing 0, PFC classes, the ETS shares of classes 0 to 4, the
priority map. Numbers: port, willing, LOSSLESS_TC, ETS percentage of classes 0 to 4, TRUST, PCP_MAP. -/
def execLldpTransmit (s : State) : Res :=
  .next (s.net.ports.foldl (fun t p => if p.2.linkUp then
      t.send .lldp [p.1, 0, s.portClassCfgLosslessTc p.1, 20, 20, 20, 20, 20, s.portClassCfgTrust p.1, s.portClassCfgPcpMap p.1] []
    else t) s)

/-- A member starts to collect and distribute (R99 phase 4), and the buckets are shared anew (R93). -/
def State.attachMember (g p : Nat) (s : State) : State :=
  (s.updPort p fun q => { q with collecting := true, distributing := true }).rebalance g

/-- The rate a member may step up to: its configured rate, or its rate ceiling (R100, R448). -/
def State.topRate (s : State) (p : Nat) : Nat := min (s.cfgRate p) (tget (s.cfgRate p) s.margins.ceiling p)

/-- Begin a step of a member: phase 1 moves its buckets to the other members (R99). -/
def State.beginStep (g p target : Nat) (s : State) : State :=
  let up := decide ((s.port p).rate < target)
  let s1 := s.updLag g fun l => { l with
    lagStep := some { member := p, phase := 1, up := up, target := target, retried := false }, lastStepNs := s.now }
  s1.shareAmong g (((s.distMembers g).filter fun m => m ≠ p).map fun m => (m, (s.port m).rate))

/-- A step has ended: STEP_COUNT rises (R103). -/
def State.stepDone (g : Nat) (s : State) : State :=
  let t := s.updLag g fun l => { l with lagStep := none, lastStepNs := s.now, stepCount := sat 65535 (l.stepCount + 1) }
  match (s.lag g).lagStep with
  | some st =>
    if s.modes.mode = .m4 ∧ st.up = false ∧ (t.port st.member).rate < t.topRate st.member then t.beginStep g st.member (t.topRate st.member) else t
  | none => t

/-- A step is abandoned: ABANDON_COUNT rises (R103). -/
def State.stepAbandoned (g : Nat) (s : State) : State :=
  s.updLag g fun l => { l with lagStep := none, lastStepNs := s.now, abandonCount := sat 65535 (l.abandonCount + 1) }

/-- Phase 5 has ended once no bucket is moving. -/
def State.stepCheck (g : Nat) (s : State) : State :=
  match (s.lag g).lagStep with
  | some st => if st.phase = 5 ∧ (s.lag g).moving = [] then s.stepDone g else s
  | none => s

/-- Phase 4 ends: the partner reports synchronised; phase 5 begins (R99). -/
def State.stepAttach (g p : Nat) (s : State) : State :=
  ((s.attachMember g p).updLag g fun l => { l with lagStep := l.lagStep.map fun st => { st with phase := 5 } }).stepCheck g

/-- LACPDU_RECEIVE (R91, R95, R99): a member that has left distribution collects until the partner reports that it no longer distributes. -/
def execLacpduReceive (port : Nat) (sync _collecting distributing : Bool) (s : State) : Res :=
  bounded (decide (port < 16))
    (if (s.port port).linkUp = false then s
    else
      let s1 := s.frameSeen.updPort port fun q => { q with partnerSync := sync }
      match s.lagOf port with
      | none => s1
      | some g =>
        let q := s1.port port
        match (s1.lag g).lagStep with
        | some st =>
          if st.member = port ∧ st.phase = 2 then
            if distributing = false then
              -- collecting ends and the link is taken down for phase 3
              (s1.updPort port fun x => { x with collecting := false, linkUp := false }).updLag g fun l => { l with
                lagStep := some { st with phase := 3 } }
            else s1
          else if st.member = port ∧ st.phase = 4 then (if sync then s1.stepAttach g port else s1)
          else if sync ∧ q.syncSent ∧ q.distributing = false then s1.attachMember g port
          else s1
        | none =>
          if sync ∧ q.syncSent ∧ q.distributing = false then
            let t := s1.attachMember g port
            if (s1.lag g).stayedOut.contains port then
              (t.updLag g fun l => { l with stayedOut := dropOne port l.stayedOut }).stepDone g
            else t
          else if sync = false ∧ q.distributing then
            (s1.updPort port fun x => { x with distributing := false, collecting := x.collecting && distributing }).rebalance g
          else if q.distributing = false ∧ distributing = false then
            s1.updPort port fun x => { x with collecting := false }
          else s1)

/-- LACP_PERIODIC (R91): an LACPDU on every member whose link is up. -/
def execLacpPeriodic (lag : Nat) (s : State) : Res :=
  bounded (decide (lag < 8)) ((s.lagMembers lag).foldl (fun t p => if (t.port p).linkUp then t.sendLacp p else t) s)

/-! ### Gates and egress (R86 to R90, R338 to R340, R352) -/

/-- An Owl frame still waits that was queued before the present interval opened (R86). -/
def State.owlWaiting (s : State) (p : Nat) : Bool :=
  (tget [] (s.sched 0 p).strict 0).any fun it => decide (it.atNs ≤ (s.port p).gateOpenedNs)

/-- GATE_INTERVAL_END (R87 to R89): the next entry takes effect; at the end of a cycle the schedule now configured starts.
A cycle in which a queued Owl frame did not start in its window is counted in OWL_LATE (R88). -/
def execGateIntervalEnd (port : Nat) (s : State) : Res :=
  bounded (decide (port < 16))
    (if (s.port port).linkUp = false then s
    else
      let owlWindow := decide (s.gateAhead port 0 / 2 ^ 24 = 0x80)
      let late := owlWindow && s.owlWaiting port
      let r := s.gateRange port
      s.updPort port fun q =>
        let q1 := { q with gateOpenedNs := s.now, owlLate := if late then sat 65535 (q.owlLate + 1) else q.owlLate }
        if q.gateEntry + 1 < r.2 then { q1 with gateEntry := q.gateEntry + 1, gateBase := r.1, gateCount := r.2 }
        else { q1 with gateEntry := 0, gateBase := s.gatePortBase port, gateCount := s.gatePortCount port })

/-- A frame may start: not paused, its gate open and long enough, within CWND (R340). -/
def State.frameEligible (s : State) (p : Nat) (it : QItem) : Bool :=
  !(s.lossless p it.cls && decide ((s.portClass p it.cls).pausedUntil ≠ 0)) && s.gateFits p it.cls it.cost && s.cwndOk it

/-- Put an item on the wire: it is marked Congestion Experienced with the probability of the green curve if it is ECN-capable
(R350), charged to its shaper, and held until its transmission ends. Numbers sent: port, item, marked. -/
def State.startFrame (p : Nat) (strictClass : Option Nat) (it : QItem) (s : State) : State :=
  let n := 8 * p + it.cls
  let load := s.bufLoad false n
  let marked := it.ecnCapable && under (s.drawn 32) (wredProb load.1 load.2 (s.wredCurve false n 0))
  let s1 := s.issue 0 p strictClass it
  let s2 := s1.charge (match strictClass with
    | some k => shaperOfClass 0 k
    | none => shaperOfTenant 0 it.tenant) it.cost
  let late := decide (strictClass = some 0) && decide (it.atNs ≤ (s.port p).gateOpenedNs) &&
    decide ((s.port p).gateOpenedNs + 10 < s.now)
  let s3 := s2.when late fun t => t.updPort p fun q => { q with owlLate := sat 65535 (q.owlLate + 1) }
  let s4 := if it.ecnCapable then s3.draw else s3
  ((s4.when marked fun t => t.bump cEcnMarkTx n).updQos fun q => { q with sending := tput q.sending p it }).send .egress
    [p, it.num, marked.toNat] []

/-- EGRESS_DISPATCH (R339, R340): the first eligible item of the strict classes, then of the weighted group. -/
def execEgressDispatch (port : Nat) (s : State) : Res :=
  bounded (decide (port < 16))
    (if (s.port port).linkUp = false ∨ thas s.qos.sending port then s
    else
      let c := s.sched 0 port
      match c.pickStrict fun k it => s.frameEligible port it && s.shaperOk (shaperOfClass 0 k) with
      | some (k, it) => s.startFrame port (some k) it
      | none =>
        match c.pickTenant fun t q => if s.shaperOk (shaperOfTenant 0 t) then q.candidates.find? (s.frameEligible port) else none with
        | some (_, it) => s.startFrame port none it
        | none => s)

/-- FRAME_TRANSMIT_END (R352): the cells of the frame are freed and it is counted. -/
def execFrameTransmitEnd (port item : Nat) (s : State) : Res :=
  bounded (decide (port < 16))
    (match tfind s.qos.sending port with
    | none => s
    | some it =>
      if it.num = item then
        let t := (((s.updQos fun q => { q with sending := tdel q.sending port }).freeTx item).bump cTxFrames (8 * port + it.cls)).bumpN
          cTxBytes (8 * port + it.cls) it.cost
        let u := t.bwAdd port 0 it.cost
        match s.lagOf port with
        | none => u
        | some g => u.updLag g fun l => { l with winTx := l.winTx + it.cost, msTx := l.msTx + it.cost }
      else s)

/-! ### Links (R71, R94) -/

/-- PORT_LINK_UP (R71, R298): a port of its breakout that is enabled, of a cage whose realigner has not failed. A port in no group carries frames at once; a member sends
LACPDUs, and the member of a step in phase 3 goes on to phase 4 (R99). -/
def execPortLinkUp (port rate : Nat) (s : State) : Res :=
  bounded (decide (port < 16))
    (if s.portEnabled port = false ∨ s.modes.mode = .m0 ∨ rate = 0 ∨ s.cfgRate port < rate ∨ s.cipher.realignOut.toNat.testBit (port / 4) then s
    else
      let single := (s.lagOf port).isNone
      let s1 := s.wakeIdle.updPort port fun q => { q with
        linkUp := true, rate := rate, collecting := single, distributing := single, syncSent := true, partnerSync := false
        classes := [], gateEntry := 0, gateCount := 0, gateOpenedNs := s.now }
      match s.lagOf port with
      | none => s1
      | some g =>
        let s2 := s1.sendLacp port
        s2.updLag g fun l => { l with lagStep := l.lagStep.map fun st =>
          if st.member = port ∧ st.phase = 3 then { st with phase := 4 } else st })

/-- A port's link goes down (R94, R104): the buckets of a failed member move at once and the frames in its egress queues are discarded; a step of the
member ends; where the anchor fails while another member is in phase 3 of a step-down, the retrain restarts at the configured rate. -/
def State.linkGone (port : Nat) (s : State) : State :=
  if (s.port port).linkUp = false then s
  else
    let s1 := s.updPort port fun q => { q with linkUp := false, collecting := false, distributing := false, classes := [] }
    match s.lagOf port with
    | none => s1
    | some g =>
      let wasAnchor := decide (s.anchor g = some port)
      let s2 := ((s1.dropQueued port).settleMoves g port).updLag g fun l => { l with
        stayedOut := dropOne port l.stayedOut
        lagStep :=
          match l.lagStep with
          | none => none
          | some st =>
            if st.member = port then none
            else if wasAnchor ∧ st.phase = 3 ∧ st.up = false then some { st with target := s.cfgRate st.member }
            else some st }
      s2.rebalance g

/-- A port's link fails: for a member of a group that is fault 0x0A of R395. -/
def State.linkLost (port : Nat) (s : State) : State :=
  (s.linkGone port).when ((s.port port).linkUp && (s.lagOf port).isSome) fun t => t.singleFault 0x0A

/-- PORT_LINK_DOWN (R94, R104, R395). -/
def execPortLinkDown (port : Nat) (s : State) : Res := bounded (decide (port < 16)) (s.linkLost port)

/-! ### Bucket moves (R94) -/

/-- BUCKET_MOVE_COMMIT (R94): the owner holds no frame of the bucket, and the ownership changes. -/
def execBucketMoveCommit (lag bucket : Nat) (s : State) : Res :=
  bounded (decide (lag < 8) && decide (bucket < 256))
    (match tfind (s.lag lag).moving bucket with
    | none => s
    | some n =>
      let still := match tfind (s.lag lag).owners bucket with
        | some o => s.bucketQueued o lag bucket
        | none => false
      if still then s else (s.commitMove lag bucket n).stepCheck lag)

/-- BUCKET_MOVE_TIMEOUT (R94): the move is abandoned after 1 ms; the bucket and its held frames stay with the owner. -/
def execBucketMoveTimeout (lag bucket : Nat) (s : State) : Res :=
  bounded (decide (lag < 8) && decide (bucket < 256))
    (if thas (s.lag lag).moving bucket then
      let s1 := s.updLag lag fun l => { l with moving := tdel l.moving bucket }
      match tfind (s.lag lag).owners bucket with
      | some o => (s1.flushHeld lag bucket o).stepCheck lag
      | none => s1.stepCheck lag
    else s)

/-! ### Rate stepping (R97 to R104) -/

/-- The rung below a rate (R97). -/
def rungBelow (rate : Nat) : Nat := if rate = 800 then 400 else 200

/-- The rate of STEP_FLOOR (R102). -/
def State.floorRate (s : State) (g : Nat) : Nat := if s.lagCfgStepFloor g = 1 then 400 else 200

/-- Members that may step down: not the anchor, up, distributing, above STEP_FLOOR, with STEP_EN = 1 (R97). -/
def State.stepDownEligible (s : State) (g : Nat) : List Nat :=
  if s.lagCfgStepEn g = 1 then (s.distMembers g).filter fun p =>
    decide (s.anchor g ≠ some p) && (s.port p).linkUp && decide (s.floorRate g < (s.port p).rate)
  else []

/-- The highest-numbered member at the highest current rate (R98). -/
def State.stepDownPick (s : State) (l : List Nat) : Option Nat :=
  let top := l.foldl (fun m p => max m (s.port p).rate) 0
  (l.filter fun p => (s.port p).rate = top).getLast?

/-- STEP_WINDOW_END (R98, R101): a step-down begins where the load is at most DOWN_PCT of C_now, the dwell has passed and the
controller is not in M4; in PS1 the dwell, in PS2 the load and the dwell, are no condition. -/
def execStepWindowEnd (lag : Nat) (s : State) : Res :=
  bounded (decide (lag < 8))
    (let l := s.lag lag
    let s1 := s.updLag lag fun x => { x with winRx := 0, winTx := 0 }
    let lowLoad := decide (max l.winRx l.winTx * 800 ≤ s.lagCfgDownPct lag * s.cNow lag * (s.lagCfgStepWinMs lag * 1000000))
    let dwell := decide (l.lastStepNs + sec (s.lagCfgStepDwellS lag) ≤ s.now) || decide (l.lastStepNs = 0)
    let go := l.lagStep.isNone && decide (s.modes.mode ≠ .m4) &&
      (decide (s.modes.nvmePs = 2) || (lowLoad && (dwell || decide (s.modes.nvmePs = 1))))
    if go then
      match s.stepDownPick (s.stepDownEligible lag) with
      | some p => s1.beginStep lag p (max (s.floorRate lag) (rungBelow (s.port p).rate))
      | none => s1
    else s1)

/-- STEP_UP_EVAL (R100): the load of the last 1 ms above UP_PCT of C_now begins a step-up of the lowest-numbered member below
its configured rate, straight to it. -/
def execStepUpEval (lag : Nat) (s : State) : Res :=
  bounded (decide (lag < 8))
    (let l := s.lag lag
    let s1 := s.updLag lag fun x => { x with msRx := 0, msTx := 0 }
    let high := decide (s.lagCfgUpPct lag * s.cNow lag * 1000000 < max l.msRx l.msTx * 800)
    if high && l.lagStep.isNone then
      match (s.distMembers lag).find? fun p => (s.port p).linkUp && decide ((s.port p).rate < s.topRate p) with
      | some p => s1.beginStep lag p (s.topRate p)
      | none => s1
    else s1)

/-- The member of a step in phase 1 or 2 returns to distribution at its current rate (R99, R104). -/
def State.stepBack (g : Nat) (st : LagStep) (s : State) : State :=
  let s1 := s.updPort st.member fun q => { q with syncSent := true, distributing := q.linkUp, collecting := q.linkUp }
  let s2 := if st.phase = 2 then s1.sendLacp st.member else s1
  (s2.rebalance g).stepAbandoned g

/-- STEP_PHASE_TIMEOUT (R99). -/
def execStepPhaseTimeout (lag : Nat) (s : State) : Res :=
  bounded (decide (lag < 8))
    (match (s.lag lag).lagStep with
    | none => s
    | some st =>
      if st.phase = 1 ∨ st.phase = 2 then s.stepBack lag st
      else if st.phase = 3 then
        if st.retried then s.updLag lag fun l => { l with lagStep := none, lastStepNs := s.now }
        else s.updLag lag fun l => { l with lagStep := some { st with retried := true, target := (s.port st.member).rate } }
      else if st.phase = 4 then
        s.updLag lag fun l => { l with lagStep := none, lastStepNs := s.now, stayedOut := addOne st.member l.stayedOut }
      else s.stepDone lag)

/-- STEP_DRAIN_COMPLETE (R99): every bucket of the stepping member has moved; it detaches, Synchronization 0. -/
def execStepDrainComplete (lag : Nat) (s : State) : Res :=
  bounded (decide (lag < 8))
    (match (s.lag lag).lagStep with
    | none => s
    | some st =>
      if st.phase = 1 ∧ (s.lag lag).owners.all (fun o => decide (o.2 ≠ st.member)) then
        ((s.updPort st.member fun q => { q with distributing := false, syncSent := false }).updLag lag fun l => { l with
          lagStep := some { st with phase := 2 } }).sendLacp st.member
      else s)

/-- ATTACH_RETRY_TIMER (R99): the attach of the members that stayed out is tried again. -/
def execAttachRetryTimer (lag : Nat) (s : State) : Res :=
  bounded (decide (lag < 8))
    ((s.lag lag).stayedOut.foldl (fun t p =>
      if (t.port p).linkUp then (t.updPort p fun q => { q with syncSent := true }).sendLacp p else t) s)

/-- Loss of the partner is confirmed (R104): step-downs in phase 1 or 2 are abandoned, phase 3 restarts at the configured
rate, phase 4 completes and a step-up follows: its target becomes the configured rate. -/
def State.stepsAtPartnerLoss (s : State) : State :=
  (List.range 8).foldl (fun t g =>
    match (t.lag g).lagStep with
    | none => t
    | some st =>
      if st.up then t
      else if st.phase = 1 ∨ st.phase = 2 then t.stepBack g st
      else if st.phase = 3 then t.updLag g fun l => { l with lagStep := some { st with target := t.cfgRate st.member } }
      else t) s

end Sys2Proof.Machine
end

