-- ==== Sys2Proof/Machine/PairOps.lean ====
section
/-! DEFINITION. Operations of the redundant pair (R365 to R395): quorum blocks and confirmation, the loss of the partner, the claim and the
adoption of the partner's work. -/
namespace Sys2Proof.Machine

/-! ### Quorum blocks (R383, R384) -/

/-- The drive LBA of the quorum block (R383). -/
def quorumLba : Nat := 20816

/-- The 4,160 bytes of a quorum block (R384). -/
def State.qbBytes (s : State) (b : QBlock) : Bytes :=
  let h := leBytes 4 1 ++ zeros 4 ++ leBytes 8 s.enclave.shelfId ++ leBytes 3 b.epoch ++ leBytes 1 b.qState ++ leBytes 1 b.holder ++ zeros 3 ++
    leBytes 8 b.term ++ leBytes 8 b.dev0 ++ leBytes 8 b.dev1 ++ zeros 12
  padTo 4160 (h ++ leBytes 4 (crc32c h))

/-- The block content known of quorum drive `d`. -/
def State.qbOf (s : State) (d : Nat) : QBlock := tget {} s.pair.qbKnown d

/-- The known block with the highest TERM, on which a claim is built (R385, R387). -/
def State.qbTop (s : State) : QBlock :=
  s.pair.qbKnown.foldl (fun a e => if a.term < e.2.term then e.2 else a) (s.qbOf 0)

/-- claim(i): STATE 0x02, HOLDER i, TERM + 1 (R385). -/
def State.claimBlock (s : State) : QBlock := { s.qbTop with qState := 2, holder := s.self, term := (s.qbTop.term + 1) % 2 ^ 64 }

/-- Write one content to all three quorum drives, without compare (R385, R394); it is what both controllers last agreed. -/
def State.writeQuorum (b : QBlock) (s : State) : State :=
  let t := s.updPair fun p => { p with qbKnown := [(0, b), (1, b), (2, b)] }
  (s.pair.qbSlots.mapIdx fun d slot => (d, slot)).foldl (fun u e =>
    u.submit 0 { slot := e.2, op := 1, lba := quorumLba, owner := 4, pos := e.1, data := u.qbBytes b }) t

/-! ### Quorum confirmation (R385 to R387) -/

/-- Begin quorum confirmation: beats stop on every path, and a fused Compare and Write goes to each quorum drive (R385). `code` is the single
fault of R395 in M3; a run from M1 has none. -/
def State.beginQuorum (code : Nat) (s : State) : State :=
  if s.pair.quorum.isSome ∨ s.pair.lost then s
  else
    let c := s.claimBlock
    let t := ((s.when s.paired fun u => (u.cancelDen).singleFault code).updPair fun p => { p with
      beatsStopped := true, quorum := some { startNs := s.now, fromM1 := decide (s.modes.mode = .m1), claim := c } }).bump cQuorumRuns 0
    (s.pair.qbSlots.mapIdx fun d slot => (d, slot)).foldl (fun u e =>
      u.submit 0 { slot := e.2, op := 3, lba := quorumLba, owner := 4, pos := e.1, data := u.qbBytes (s.qbOf e.1) ++ u.qbBytes c }) t

/-- A controller in M3 that has lost, or has been fenced, stops and resets through its control watchdog; with no majority PAIR_STATE reports 6
(R386). -/
def State.stopLoser (noMajority : Bool) (s : State) : State :=
  s.stopAndReset.updPair fun p => { p with state := if noMajority then 6 else p.state }

/-- A run of R385 is lost: in M3 the controller stops; in M1 it stays, with PAIR_STATE 5 (R386). -/
def State.quorumLost (noMajority : Bool) (s : State) : State :=
  match s.pair.quorum with
  | none => s
  | some q =>
    let t := s.bump cQuorumLost 0
    if q.fromM1 then t.updPair fun p => { p with quorum := none, beatsStopped := false, state := 5 }
    else t.stopLoser noMajority

/-- Preempt and Abort to every member of every pool, in strict class 0, naming the partner's key (R389). -/
def State.preemptAll (s : State) : State :=
  let members := ((tkeys (s.layout.pools.filter fun p => decide (2 ≤ p.2.pState))).map s.memberSlots).flatten.eraseDups.filter s.driveUp
  members.foldl (fun t m => t.submit 0 { slot := m, op := 4, owner := 5 }) (s.updPair fun p => { p with preempts := members })

/-- A host connection's PDUs that wait for the partner are released, and its acknowledgements follow the rule of M4 (R138, R391). -/
def State.releaseWaits (s : State) : State :=
  let t := s.updXport fun x => { x with sendQ := tmap (fun _ l => l.map fun p => { p with conf := true }) x.sendQ }
  let u := t.updCmds fun m => { m with slots := tmap (fun _ p => { p with recordConf := true }) m.slots }
  let v := (tkeys u.xport.sendQ).foldl (fun w i => w.flushPlans i) u
  (tkeys v.xport.ctx).foldl (fun w i => w.advanceAck i) v

/-- The own writes placed here that wait for a mirror confirmation count as mirrored, and their templates are evaluated again (R137, R391); one
with a part at the partner completes at the claim. -/
def State.releaseMirrors (s : State) : State :=
  let mine := tkeys (s.cmds.slots.filter fun p => writeKind p.2.opcode && p.2.placed && !p.2.mirrored && p.2.state == 4)
  mine.foldl (fun t n => ((t.updSlot n fun x => { x with mirrored := true }).partsDone n).when
    (!(t.slot n).toPartner && !((t.slot n).writes.any (·.far))) fun u => u.evalChains n) s

/-- The partner is gone, and this controller goes on in mode `m`: no fence, steps in progress as R104 says, what waited for the partner released
(R104, R108, R388, R391). Until the claim the extents keep their owners. -/
def State.partnerGone (m : Mode) (cause : Nat) (s : State) : State :=
  let t := s.updPair fun p => { p with lost := true, quorum := none, classes := [], pairStep := 0, settKek := none }
  let u := (t.updCons fun c => { c with
    fenced := false, extents := tmap (fun _ e => if e.state = 3 then { e with state := 1 } else e) c.extents }).enterMode m cause
  let v := (u.stepsAtPartnerLoss).updXport fun x => { x with claims := [] }
  let w := s.xport.claims.foldl (fun y i => (y.updCtx i fun c => { c with claimConf := true }).sendControl i
    (if (y.ctx i).kind = 2 then .synAck else .cmReply) [1, (y.ctx i).sndNxt.toNat, (y.ctx i).rcvNxt.toNat]) v
  w.sharedAlone.releaseWaits.releaseMirrors

/-- Partner loss is confirmed in M3: M4 with cause 0x12, and the preempts go out (R388, R389). The claim follows at 180 µs after the last beat. -/
def State.confirmLoss (s : State) : State :=
  (((s.partnerGone .m4 0x12).updPair fun p => { p with state := 4 }).preemptAll).drainAll.settle

/-- A run of R385 is won: the claim is written to all three drives. In M3 partner loss is confirmed; from M1 the controller enters M4 and the
pair epoch rises (R45, R173, R385). -/
def State.quorumWon (s : State) : State :=
  match s.pair.quorum with
  | none => s
  | some q =>
    if q.fromM1 then
      let t := ((s.updPair fun p => { p with quorum := none, state := 4 }).enterMode .m4 0x10).recomputePs
      ((t.raiseEpoch).writeQuorum { q.claim with epoch := t.raiseEpoch.cons.epoch }).preemptAll
    else (s.writeQuorum q.claim).confirmLoss

/-- The outcome of one Compare and Write: a success wins the drive, a Compare Failure loses it, anything else is no answer (R385, R416). -/
def State.quorumAnswer (d status : Nat) (s : State) : State :=
  match s.pair.quorum with
  | none => s
  | some q =>
    let q' : Quorum := if status = 0 then { q with wins := addOne d q.wins } else if status = 2 then { q with losses := addOne d q.losses } else q
    let t := s.updPair fun p => { p with
      quorum := some q', qbHeld := if status = 0 then p.qbHeld ||| BitVec.ofNat 3 (2 ^ d) else p.qbHeld }
    if 2 ≤ q'.wins.length then t.quorumWon else if 2 ≤ q'.losses.length then t.quorumLost false else t

/-! ### Adoption (R139, R388 to R391) -/

/-- The address of an entry a shadow names (R75, R377). -/
def State.shadowAddr (s : State) (idx : Nat) : AddrEntry := s.pair.partnerAddr.getD idx {}

/-- The record of an adopted connection, built from its shadow (R113, R139): ADOPTING, with the confirmed positions. What a shadow does not carry
is as at a fresh start. -/
def State.adoptedCtx (s : State) (i : Nat) (h : ConnShadow) : Ctx :=
  let c := h.ctx
  let a := s.shadowAddr h.localIpIdx
  let ip := if c.localIp = 0 then a.ip else c.localIp
  let l4 := if c.kind = 1 then 0xC000 + i % 16384 else c.localL4
  { kind := c.kind, ipv6 := c.ipv6, ecn := c.ecn, hdgst := c.hdgst, ddgst := c.ddgst, sack := c.sack, tstamps := c.tstamps, cls := c.cls
    dscp := c.dscp, tenant := c.tenant, hostId := c.hostId, cntlid := c.cntlid, qid := c.qid, remoteIp := c.remoteIp, remoteMac := c.remoteMac
    vlanTag := c.vlanTag, remoteL4 := c.remoteL4, ctxGen := c.ctxGen, remoteQpn := c.remoteQpn, mtu := c.mtu, wscale := c.wscale, msn := c.msn
    state := 5, adopted := true, localIp := ip, localL4 := l4, egressSel := a.egress
    bucket := lagBucket ip c.remoteIp (if c.kind = 1 then 17 else 6) l4 (if c.kind = 1 then 4791 else c.remoteL4) (if c.kind = 1 then some c.remoteQpn else none)
    rcvNxt := h.rcvPos, rcvAcked := h.rcvPos, sndUna := h.sndPos, sndNxt := h.sndPos, epochEnd := h.sndPos, ordMax := max 1 c.ordMax
    cwnd := 1024 * s.ccProfileCwndInit c.cls, ssthresh := 1024 * s.ccProfileCwndMax c.cls, claimConf := true, chains := hostChains
    pushCount := h.pushCount, pushSize := h.pushSize
    windows := (List.range h.pushCount).map fun w => (w, { wState := 2 }) }

/-- The shadow is of a connection the survivor adopts: OPEN or DRAINING (R139), or ADOPTING, which counts as OPEN (R194). -/
def adoptableShadow (h : ConnShadow) : Bool := decide (h.ctx.state = 2) || decide (h.ctx.state = 3) || decide (h.ctx.state = 5)

/-- Adopt the partner's connections at their own indices; the others go to QUARANTINE (R139). -/
def State.adoptConns (s : State) : State :=
  s.pair.conns.foldl (fun t e =>
    let i := e.1
    let h := e.2
    if h.ctx.state = 0 ∨ h.ctx.state = 6 then t.updXport fun x => { x with flowTags := tdel x.flowTags i }
    else if adoptableShadow h then
      let c := t.adoptedCtx i h
      let tag := if c.kind = 2 then tcpTag (tcpHash c.remoteIp c.localIp c.remoteL4 c.localL4) else 0
      (t.updXport fun x => { x with
        ctx := tput x.ctx i c, flowTags := if tag = 0 then tdel x.flowTags i else tput x.flowTags i tag }).bump cAdoptedConns 0
    else
      let c : Ctx := { h.ctx with state := 1 }
      (t.updXport fun x => { x with ctx := tput x.ctx i c, flowTags := tdel x.flowTags i }).enterQuarantine i) s

/-- The command slot of an adopted command, from its shadow (R152, R378): without stamp, its data still to be fetched. -/
def State.shadowSlot (s : State) (e : CmdShadow) : Slot :=
  let c := e.cmd
  let h := c.nsid - 1
  let fmt := (s.ns h).format
  let pieces := if c.opcode = 9 then
      (c.ranges.map fun r => piecesOf (1048576 / hostData fmt) (r.2 / (1048576 / hostData fmt) + 2) r.1 r.2).flatten else []
  let slba := if c.opcode = 9 then (pieces.head?.map (·.1)).getD 0 else c.slba
  let nlb := if c.opcode = 9 then (pieces.head?.map (·.2)).getD 0 else c.nlb
  { state := 3, opcode := c.opcode, fua := c.fua, ctx := c.ctx, qid := c.qid, cid := c.cid, cntlid := c.cntlid, handle := h, slba := slba, nlb := nlb
    tenant := e.tenant, pushWin := e.push, pos := c.pos, arrivalUs := s.nowUs % 2 ^ 32, sqeCrc := c.sqeCrc, prinfo := c.prinfo, appTag := c.appTag
    appMask := c.appMask, refTag := c.refTag, ranges := pieces.drop 1
    need := if takesData c.opcode then c.nlb * wireBlock fmt c.prinfo else 0 }

/-- The confirmed send record of a plan kind among those of a command, as a plan of its new slot (R376, R379). -/
def shadowPlan (e : CmdShadow) (n kind : Nat) : Option SendPlan :=
  (e.send.find? fun r => r.plan = kind).map fun r => { slot := n, first := r.first, last := r.last, plan := kind, conf := true }

/-- Put a plan into a connection's list in position order; the next position lies past it (R379). -/
def State.putPlan (i : Nat) (p : SendPlan) (s : State) : State :=
  let c := s.ctx i
  let l := tget [] s.xport.sendQ i
  let before := l.filter fun q => posLe c q.first p.first
  let later := l.filter fun q => !posLe c q.first p.first
  let past := posAdd c (BitVec.ofNat 32 p.last) 1
  (s.updXport fun x => { x with sendQ := tput x.sendQ i (before ++ [p] ++ later) }).updCtx i fun x => { x with
    sndNxt := if posLe x x.sndNxt.toNat past.toNat then past else x.sndNxt }

/-- The fetch PDU of a write's confirmed send record, regenerated at its original position (R139). -/
def State.refetch (n : Nat) (p : SendPlan) (s : State) : State :=
  let x := s.slot n
  let c := s.ctx x.ctx
  if c.kind = 2 then
    match freeR2t c with
    | some k =>
      let g := (tget 0 c.ttagGen k + 1) % 32
      let t := (s.updCtx x.ctx fun y => { y with r2ts := tput y.r2ts k (n, g), ttagGen := tput y.ttagGen k g }).updSlot n fun y => { y with asked := true }
      t.putPlan x.ctx { p with msgs := some [(24, { kind := .r2t, args := [x.ctx, g * 2048 + k, x.cid, x.need] })] }
    | none => s
  else
    let t := (s.updCtx x.ctx fun y => { y with ordNow := y.ordNow + 1 }).updSlot n fun y => { y with asked := true }
    t.putPlan x.ctx { p with msgs := some [(x.need, { kind := .readReq, args := [x.ctx, n, x.cid, x.need] })] }

/-- What becomes of one command of the partner on an adopted connection (R391). -/
inductive Adoption where
  /-- its mirrored write is larder data: the completion is sent -/
  | complete
  /-- a read with a confirmed stamp record: its data is read again at its stamp -/
  | reread
  /-- admitted here, a stamp it held being retired -/
  | letThrough
  /-- discarded: the host sends it again, or nothing of it may go on -/
  | discard
  deriving DecidableEq, Repr

/-- The settlement of a command shadow (R391); on a connection adopted in DRAINING the commands end as R147 says, where a stamped write whose data
can still be fetched goes on. Admin commands are executed again as commands of their own. A Dataset Management of several pieces is admitted again
whole. -/
def State.settlement (s : State) (e : CmdShadow) : Adoption :=
  let c := s.ctx e.cmd.ctx
  let draining : Bool := match tfind s.pair.conns e.cmd.ctx with
    | some h => decide (h.ctx.state = 3)
    | none => true
  let whole' := decide (e.cmd.opcode ≠ 9) || decide (e.cmd.ranges.length ≤ 1)
  let received := posLe c e.cmd.pos c.rcvAcked.toNat
  if c.state ≠ 5 ∨ e.ctxGen ≠ c.ctxGen then .discard
  else if writeKind e.cmd.opcode ∧ e.mirrored ∧ whole' then (if draining then .discard else .complete)
  else if readKind e.cmd.opcode ∧ e.stamp ≠ 0 then (if draining then .discard else .reread)
  else if received = false ∨ e.push.isSome then .discard
  else if draining ∧ (e.stamp = 0 ∨ writeKind e.cmd.opcode = false) then .discard
  else .letThrough

/-- Adopt one command into command slot `n` (R391). -/
def State.adoptCmd (n : Nat) (e : CmdShadow) (a : Adoption) (s : State) : State :=
  let p := s.shadowSlot e
  let put (x : Slot) (t : State) : State := (t.updCmds fun m => { m with slots := tput m.slots n x }).bump cAdoptedCmds 0
  let plans (k : Nat) (t : State) : State := match shadowPlan e n k with
    | some q => t.putPlan p.ctx q
    | none => t
  match a with
  | .complete =>
    (plans 3 (put { p with state := 4, stamp := e.stamp, pieceStamp := e.stamp, need := 0, gone := true, begun := true, asked := true, placed := true,
                           mirrored := true, ranges := [] } s)).trigger n 0
  | .reread =>
    let t := plans 1 (put { p with state := 4, stamp := e.stamp, pieceStamp := e.stamp, gone := true } s)
    t.updCons fun c => { c with ovl := tmap (fun _ o => if o.kind = 1 ∧ o.handle = p.handle ∧ o.stamp = e.stamp then { o with slot := n, holder := s.self } else o) c.ovl }
  | .letThrough =>
    let draining : Bool := match tfind s.pair.conns p.ctx with
      | some h => decide (h.ctx.state = 3)
      | none => false
    let t := put { p with ended := draining } s
    let u := match shadowPlan e n 2 with
      | some q => if 0 < p.need then t.refetch n q else t
      | none => t
    if p.opcode = 0 then u.trigger n 2 else u.stageFive n p.slba p.nlb
  | .discard => s

/-- Adopt the commands that wait for a free command slot, in the order of their shadows, ahead of every waiting capsule (R391). -/
def State.adoptWaiting : Nat → State → State
  | 0, s => s
  | k + 1, s =>
    match s.pair.adoptWaiting, (if 0 < s.slotsFree then s.freeSlot else none) with
    | m :: rest, some n =>
      let t := s.updPair fun p => { p with adoptWaiting := rest, cmds := tdel p.cmds m }
      State.adoptWaiting k (match tfind s.pair.cmds m with
        | some e => t.adoptCmd n e (s.settlement e)
        | none => t)
    | _, _ => s

/-- Insert a slot number by the order of its shadow. -/
def insertShadow (x : Nat × CmdShadow) : List (Nat × CmdShadow) → List (Nat × CmdShadow)
  | [] => [x]
  | y :: ys => if x.2.order < y.2.order then x :: y :: ys else y :: insertShadow x ys

/-- The partner's commands in the order of their shadows. -/
def State.shadowOrder (s : State) : List (Nat × CmdShadow) := s.pair.cmds.foldl (fun l x => insertShadow x l) []

/-- Settle the partner's commands: stamps without larder data are retired, and what goes on takes a slot or waits for one (R391). -/
def State.adoptCmds (s : State) : State :=
  let l := s.shadowOrder
  let retired := (l.filter fun x => writeKind x.2.cmd.opcode && x.2.stamp != 0 && !x.2.mirrored).length
  let go := (l.filter fun x => s.settlement x.2 ≠ .discard).map (·.1)
  let t := (s.bumpN cTakeoverRetired 0 retired).updPair fun p => { p with adoptWaiting := go, cmds := p.cmds.filter fun e => go.contains e.1 }
  State.adoptWaiting go.length t

/-- The partner's replay records and fabric controllers are adopted; the keep-alive timers restart (R164, R391). -/
def State.adoptRecords (s : State) : State :=
  let t := s.pair.replays.foldl (fun u r => u.putReplay r) s
  t.updCmds fun m => { m with fab := s.pair.fabs.foldl (fun f e => if e.2.live then tput f e.1 { e.2 with katoNs := s.now } else f) m.fab }

/-- Install the partner's unicast addresses as TAKEN entries, in free entries of their cages, and announce each on every port that is up (R75,
R390, R506). An announcement numbers 0 gratuitous ARP or 1 neighbour advertisement, port, source MAC, address. -/
def State.takeAddresses (s : State) : State :=
  let put (t : State) (a : AddrEntry) : State :=
    let cage := if a.egress < 16 then a.egress / 4 else
      match ((List.range 4).find? fun c => (tfreeFrom t.net.addr (64 * c) 64).isSome) with
      | some c => c
      | none => 0
    match tfreeFrom t.net.addr (64 * cage) 64 with
    | some k => t.updNet fun n => { n with addr := tput n.addr k { a with flags := a.flags % 16 + 16 } }
    | none => t
  let t := (List.range 4).foldl (fun u c => u.groupTables c) (s.pair.partnerAddr.foldl put s)
  let ports := tkeys (s.net.ports.filter fun p => p.2.linkUp)
  (s.pair.partnerAddr.filter fun a => a.ip ≠ 0).foldl (fun u a =>
    ports.foldl (fun v p => v.send .frame [if isIpv6 a.ip then 1 else 0, p, a.mac, a.ip] []) u) t

/-! ### The claim (R179, R388) -/

/-- Step 2 of R179: the mirror larder becomes a second larder region, with region entries for its versions (R187, R221). Its slots are numbered
after those of the own larder. -/
def State.adoptMirror (s : State) : State :=
  let vs := s.layout.mirror.map fun e => (e.1 + 16384000, { e.2 with adoptedV := true, mirrored := false })
  let t := s.updLayout fun l => { l with larder := vs.foldl (fun m v => tput m v.1 v.2) l.larder, mirror := [], remoteRes := [] }
  vs.foldl (fun u v =>
    let first := v.2.blk / 256 * 256
    match u.cons.ovl.find? fun f => decide (f.2.kind = 3) && decide (f.2.handle = v.2.handle) && decide (f.2.first = first) with
    | some f => u.updCons fun c => { c with ovl := tput c.ovl f.1 { f.2 with stamp := if f.2.stamp.toNat < v.2.stamp.toNat then v.2.stamp else f.2.stamp } }
    | none => u.addOvl { kind := 3, handle := v.2.handle, stamp := v.2.stamp, first := first, nblk := 256 }) t

/-- Enter a read at its stamp over the blocks of its range (R179 step 4). Answers its WAIT_COUNT. -/
def State.enterReadAt (slot holder h : Nat) (stamp : BitVec 64) (slba nlb : Nat) (s : State) : Nat × State :=
  let x := span (s.ns h).format slba nlb
  s.enterPart 1 slot holder h stamp x.1 x.2.1 [] false

/-- Step 4 of R179: read entries for the partner's stamp records and for its reads whose command end has come, and for the own reads the partner
stamped, whose WAIT_COUNT is counted again (R188, R194). -/
def State.claimReads (old : State) (s : State) : State :=
  let t := s.cons.stampRecs.foldl (fun u r =>
    if thas s.pair.cmds r.1 then (u.enterReadAt r.1 s.other r.2.2.1 r.2.1 r.2.2.2.1 r.2.2.2.2).2 else u) s
  let ended := s.pair.replays.filter fun r => r.isOpen && (r.opcode == 2 || r.opcode == 5) && r.stamp != 0 && r.status == 0
  let t1 := ended.foldl (fun u r => ((u.enterReadAt 0 s.self r.handle r.stamp r.slba (r.nlb + 1)).2).pinReads r.handle r.stamp) t
  let far (p : Slot) : Bool := (old.ownersOf p).contains old.other
  let mine := s.cmds.slots.filter fun p => readKind p.2.opcode && p.2.stamp != 0 && p.2.state == 4 && far p.2
  mine.foldl (fun u p =>
    let w := u.enterReadAt p.1 s.self p.2.handle p.2.stamp p.2.slba p.2.nlb
    (w.2.updSlot p.1 fun x => { x with toPartner := false, waits := [(s.self, (tget 0 x.waits s.self) + w.1)] }).goCheck p.1) t1

/-- Own commands by age, oldest first: their arrival times count in µs modulo 2^32. -/
def insertAge (now : Nat) (x : Nat × Slot) : List (Nat × Slot) → List (Nat × Slot)
  | [] => [x]
  | y :: ys =>
    let age (p : Slot) : Nat := (now + 2 ^ 32 - p.arrivalUs) % 2 ^ 32
    if age y.2 < age x.2 then x :: y :: ys else y :: insertAge now x ys

/-- Step 5 of R179: requests to the partner without reply, and crossing commands that wait for it, are admitted again here in arrival order; a
stamped forwarded write that is not in the mirror larder is retired and admitted again. -/
def State.claimRequests (old : State) (s : State) : State :=
  let crossing (n : Nat) : Bool := old.cons.extents.any fun e =>
    (e.2.crossing ++ e.2.held).any fun r => decide (r.slot = n) && decide (r.holder = old.self)
  let asking (p : Nat × Slot) : Bool := p.2.state == 3 && (p.2.toPartner || crossing p.1)
  let forwarded (p : Nat × Slot) : Bool := p.2.state == 4 && writeKind p.2.opcode && !p.2.placed && (old.ownersOf p.2).contains old.other
  let l := ((s.cmds.slots.filter fun p => asking p || forwarded p).foldl (fun acc x => insertAge (s.nowUs % 2 ^ 32) x acc) [])
  l.foldl (fun t p =>
    if p.2.state = 3 then (t.updSlot p.1 fun x => { x with toPartner := false }).stageFive p.1 p.2.slba p.2.nlb
    else (t.bump cTakeoverRetired 0).readmit p.1) s

/-- Every extent is owned here; gates and crossings end, what the partner had held is dropped, and a lease move in progress is over (R179,
R388). -/
def State.claimExtents (s : State) : State :=
  s.updCons fun c => { c with
    extents := tmap (fun _ e => { e with
      owner := s.self, state := if e.state = 0 then 0 else 1, gate := none, crossing := [], held := [], claimed := decide (e.owner = s.other) }) c.extents
    ovl := c.ovl.filter fun e => !(decide (e.2.kind = 4) || (decide (e.2.holder = s.other) && decide (e.2.kind ≤ 2)))
    lease := if c.lease.lState = 1 ∨ c.lease.lState = 2 then { c.lease with lState := 0 } else c.lease }

/-- Counters and sweeps after a takeover: a controller resumes at the CTR_HIGH of its index, and a sweep starts again at the cursor (R283, R288). -/
def State.takeoverGens (s : State) : State :=
  let keys := (s.cipher.ns.map fun n => n.2.gens.map fun g => (n.1, g.1)).flatten
  keys.foldl (fun t k => (t.updGen k.1 k.2 fun g => { g with
    ctrNext := max g.ctrNext (g.ctrHigh s.self)
    sweepRow := if g.sweeping then (t.pool (t.ns k.1).pool).badgerRow else g.sweepRow
    sweepWrapped := g.sweepWrapped && !g.sweeping, sweepHere := g.sweepHere && !g.sweeping }).askStep k.1 k.2) s

/-- The writes forwarded to the partner whose ciphertext is in the mirror larder are placed, and complete (R179 step 3). -/
def State.claimForwarded (s : State) : State :=
  let mine := tkeys (s.cmds.slots.filter fun p => writeKind p.2.opcode && p.2.placed && !p.2.farPlaced && (p.2.toPartner || p.2.writes.any (·.far)))
  mine.foldl (fun t n => ((t.updSlot n fun x => { x with mirrored := true }).forwardDone n).evalChains n) s

/-- The claim (R179 steps 1 to 5, R388, R390, R391). -/
def State.claim (s : State) : State :=
  let t := s.raiseEpoch.claimExtents.adoptMirror.claimForwarded
  let u := (State.claimReads s t)
  let v := State.claimRequests s u
  let w := (v.updPair fun p => { p with lost := false, takeovers := sat 65535 (p.takeovers + 1) }).updCons fun c => { c with stampRecs := [] }
  let x := w.adoptConns.adoptRecords.adoptCmds.takeAddresses.takeoverGens
  let y := x.updPair fun p => { p with fabs := [], replays := [], conns := p.conns.filter fun e => adoptableShadow e.2 }
  (y.recomputePs.drainAll.releaseCovered.rule3Update).settle

/-- The quorum blocks as written after a claim: the block last written, with the new epoch (R385). -/
def State.claimedBlock (s : State) : QBlock := { s.qbTop with epoch := s.cons.epoch, term := (s.qbTop.term + 1) % 2 ^ 64 }

end Sys2Proof.Machine
end

