-- ==== Sys2Proof/Machine/Transports.lean ====
section
/-! DEFINITION. Meanings of the transport commands (R105 to R141): connection management, RoCEv2, TCP and NVMe/TCP, push windows, the
context cache. -/
namespace Sys2Proof.Machine

/-- Count in counter `k` of a context's CNT (R111). -/
def State.ctxCount (i k : Nat) (s : State) : State :=
  s.updCtx i fun x => { x with counters := tmod 0 k (fun v => sat 0xFFFFFFFF (v + 1)) x.counters }

/-- What follows a transport event on a context: an admin queue that failed takes its fabric controller with it, and waiting commands go
on. -/
def State.after (i : Nat) (s : State) : State := (s.afterError i).settle

/-! ### Opening a connection (R105 to R110) -/

/-- The first answer of a handshake: SYN-ACK, or an RDMA CM reply with the starting PSN (R109). Numbers: index, 1 for a reply, send
position, receive position. -/
def State.handshakeReply (i : Nat) (s : State) : State :=
  let c := s.ctx i
  s.sendControl i (if c.kind = 2 then .synAck else .cmReply) [1, c.sndNxt.toNat, c.rcvNxt.toNat]

/-- The partner has confirmed an index claim: the index is used (R108). -/
def State.claimConfirmed (i : Nat) (s : State) : State :=
  if s.xport.claims.contains i then
    ((s.updXport fun x => { x with claims := dropOne i x.claims }).updCtx i fun c => { c with claimConf := true }).handshakeReply i
  else s

/-- Allocate an index to a new connection: OPENING, CTX_GEN up by 1, the window of its class; in M3 the claim goes to the partner and the
answer waits for its confirmation (R108, R109, R132). -/
def State.openCtx (i tag : Nat) (c : Ctx) (s : State) : State :=
  let g := ((s.ctx i).ctxGen + 1) % 2 ^ 32
  let x : Ctx := { c with
    state := 1, ctxGen := g, cwnd := 1024 * s.ccProfileCwndInit c.cls, ssthresh := 1024 * s.ccProfileCwndMax c.cls
    sndUna := c.sndNxt, epochEnd := c.sndNxt, rcvAcked := c.rcvNxt, timerKind := 4, timerNs := s.now + ms 1000, claimConf := !s.paired }
  let t := s.updXport fun u => { u with ctx := tset {} u.ctx i x, flowTags := if tag = 0 then u.flowTags else tput u.flowTags i tag }
  if s.paired then (t.updXport fun u => { u with claims := addOne i u.claims }).shadowConn i else t.handshakeReply i

/-- Refuse an RDMA CM request (R110). Numbers: 2 for a reject, remote QPN. -/
def State.cmReject (m : CmMsg) (s : State) : State := s.send .cmReply [2, m.remoteQpn] []

/-- A connection request of RDMA CM (R105, R107, R110, R119). -/
def State.cmRequest (m : CmMsg) (s : State) : State :=
  if s.inService = false then s.cmReject m
  else if s.losslessCfg m.port m.cls = false then (s.bump cClassRefused 0).cmReject m
  else if m.mtu ≠ 1024 ∧ m.mtu ≠ 2048 ∧ m.mtu ≠ 4096 then s.cmReject m
  else
    match s.addrOfIp m.localIp, s.roceIndex with
    | some a, some i =>
      let psn := s.drawn 24
      let sport := 0xC000 + i % 16384
      let c : Ctx := {
        kind := 1, ipv6 := isIpv6 m.remoteIp, ecn := true, cls := m.cls, dscp := m.dscp, remoteIp := m.remoteIp, localIp := m.localIp
        remoteMac := m.remoteMac, vlanTag := m.vlanTag, remoteL4 := m.remoteL4, localL4 := sport, remoteQpn := m.remoteQpn, mtu := m.mtu
        ordMax := max 1 (min m.resources 15), egressSel := a.2.egress
        bucket := lagBucket m.localIp m.remoteIp 17 sport 4791 (some m.remoteQpn)
        sndNxt := BitVec.ofNat 32 psn, rcvNxt := BitVec.ofNat 32 (m.psn % 2 ^ 24) }
      s.draw.openCtx i 0 c
    | _, _ => s.cmReject m

/-- CM_DATAGRAM (R105, R109): a request, the ready-to-use, a disconnect request or its reply. -/
def execCmDatagram (m : CmMsg) (s : State) : Res :=
  let t := s.takeFrame m.port m.cls
  let c := t.ctx m.index
  .next (if m.kind = 0 then t.cmRequest m
  else if c.kind ≠ 1 then t
  else if m.kind = 1 then (if c.state = 1 ∧ c.claimConf then t.enterOpen m.index else t)
  else if m.kind = 2 ∨ m.kind = 3 then
    let u := t.updCtx m.index fun x => { x with hostClosed := true }
    (if c.state = 2 then u.enterDraining m.index else if c.state = 1 then u.enterQuarantine m.index else u.settleCtx m.index).settle
  else t)

/-! ### RoCEv2 packets (R119 to R121, R133) -/

/-- A sequence NAK for the current gap, once (R120). -/
def State.gapNak (i : Nat) (s : State) : State :=
  let c := s.ctx i
  if c.nakSent then s
  else (((s.sendNak i 1 c.rcvNxt.toNat).updCtx i fun x => { x with nakSent := true }).bump cRoceSeqNakTx (engineOf i)).ctxCount i 2

/-- A duplicate request: acknowledged at RCV_ACKED, and nothing else (R120). -/
def State.roceDup (i : Nat) (s : State) : State := ((s.sendAck i).bump cRoceDupRx (engineOf i)).ctxCount i 1

/-- The place of a PSN: 0 equal to RCV_NXT, 1 ahead, 2 duplicate (R120). -/
def psnPlace (c : Ctx) (psn : Nat) : Nat :=
  let d := posDist c c.rcvNxt.toNat psn
  if d = 0 then 0 else if d < 2 ^ 23 then 1 else 2

/-- A request packet is taken: RCV_NXT moves past it (R120). -/
def State.roceTaken (i : Nat) (last : Bool) (s : State) : State :=
  let t := s.updCtx i fun x => { x with rcvNxt := posAdd x x.rcvNxt 1, nakSent := false, msn := if last then (x.msn + 1) % 2 ^ 24 else x.msn }
  t.when last fun u => u.messageEnd i

/-- A RoCEv2 request packet of a cached context (R120, R349). An RDMA WRITE that names no push window fails check 3 of R124. -/
def State.roceCore (i : Nat) (p : RocePkt) (s : State) : State :=
  let c := s.ctx i
  let w := s.wredRx i p.port (ctxOverhead c + 64)
  if c.kind ≠ 1 ∨ (c.state ≠ 2 ∧ c.state ≠ 3) then s
  else if w.1.1 then w.2
  else
    let t := w.2.when (p.ce || w.1.2) fun u => u.onMark i
    if 2 ≤ p.opcode then (t.sendNak i 2 p.psn).ctxError i
    else
      match psnPlace c p.psn with
      | 0 =>
        if p.opcode = 1 then (((t.sendNak i 3 p.psn).bump cPushStale (engineOf i)).ctxCount i 7).ctxError i
        else
          match p.capsule with
          | some k =>
            if t.capsuleShut then (t.sendNak i 4 p.psn).bump cCapsuleRnr (engineOf i)
            else (t.capsuleIn { k with ctx := i, localPort := false, cntlid := c.cntlid, qid := c.qid, pos := p.psn }).roceTaken i p.last
          | none => t.roceTaken i p.last
      | 1 => t.gapNak i
      | _ => t.roceDup i

/-- WRED of a frame of a connection, before any transport check: whether it is dropped, and the state after, with its mark acted on
(R349). -/
def State.wredPass (i port len : Nat) (s : State) : Bool × State :=
  let w := s.wredRx i port (ctxOverhead (s.ctx i) + len)
  (w.1.1, w.2.when (!w.1.1 && w.1.2) fun u => u.onMark i)

/-- An RDMA WRITE packet to a push window of a cached context: the checks of R124 in order. -/
def State.pushCore (i psn key addr : Nat) (bytes : Bytes) (last ce : Bool) (s : State) : State :=
  let c := s.ctx i
  let w := bits key 10 5
  let d := ctxWindow c w
  if c.kind ≠ 1 ∨ (c.state ≠ 2 ∧ c.state ≠ 3) then s
  else
    let t := s.when ce fun u => u.onMark i
    match psnPlace c psn with
    | 0 =>
      if key / 2048 ≠ i ∨ c.pushCount ≤ w ∨ d.wState = 1 ∨ (d.wState = 0 ∧ d.gen ≠ key % 32) ∨ windowBytes c.pushSize < addr + bytes.length then
        (((t.sendNak i 3 psn).bump cPushStale (engineOf i)).ctxCount i 7).ctxError i
      else
        let written := (List.range bytes.length).foldl (fun b k => tput b (addr + k) (bytes.getD k 0)) d.bytes
        let d2 : PushWin := { d with bytes := written, data := true, firstPos := if d.data then d.firstPos else psn }
        (t.updCtx i fun x => { x with windows := tput x.windows w d2 }).roceTaken i last
    | 1 => t.gapNak i
    | _ => t.roceDup i

/-- An ACK or NAK of a cached context (R121): kind 0 ACK, 1 PSN Sequence Error, 2 Invalid Request, 3 Remote Access Error, 4 receiver not
ready. -/
def State.ackCore (i psn kind : Nat) (s : State) : State :=
  let c := s.ctx i
  if c.kind ≠ 1 ∨ (c.state ≠ 2 ∧ c.state ≠ 3) then s
  else if kind = 0 then s.onAck i ((psn + 1) % 2 ^ 24) false
  else if kind = 1 then (s.onAck i (psn % 2 ^ 24) false).retry i psn s.transportCfgRoceRetry false
  else if kind = 4 then (s.onAck i (psn % 2 ^ 24) false).updCtx i fun x => { x with timerKind := 0, timerNs := 0 }
  else s.ctxError i

/-- Data of a host arrives for a command (R38 stage 6): when it is all there stage 7 begins. -/
def State.dataIn (n : Nat) (bytes : Bytes) (last : Bool) (s : State) : State :=
  let p := s.slot n
  let data := p.data ++ bytes
  if last ∧ p.need ≤ data.length then
    (s.updSlot n fun x => { x with data := data.take x.need, need := 0, asked := false }).stage n 7
  else s.updSlot n fun x => { x with data := data }

/-- An RDMA READ response of a cached context (R121). -/
def State.readRespCore (i slot : Nat) (bytes : Bytes) (last : Bool) (s : State) : State :=
  let c := s.ctx i
  let p := s.slot slot
  if c.kind ≠ 1 ∨ (c.state ≠ 2 ∧ c.state ≠ 3) ∨ s.slotUsed slot = false ∨ p.ctx ≠ i ∨ p.localPort ∨ p.asked = false ∨ p.need = 0 then s
  else (s.dataIn slot bytes last).when (last && decide (p.need ≤ (p.data ++ bytes).length)) fun t =>
    t.updCtx i fun x => { x with ordNow := x.ordNow - 1 }

/-- A CNP of a cached context (R133). -/
def State.cnpCore (i : Nat) (s : State) : State :=
  if (s.ctx i).kind ≠ 1 then s
  else ((s.updCtx i fun x => { x with epochCnp := true }).bump cCnpRx (engineOf i)).ctxCount i 5

/-! ### TCP segments (R128, R130) -/

/-- Acknowledge what R138 lets be acknowledged (R128). -/
def State.ackNow (i : Nat) (s : State) : State := (s.advanceAck i).updCtx i fun x => { x with unackedSegs := 0 }

/-- Join the ranges received out of order that RCV_NXT has reached (R128). -/
def joinRanges : Nat → Ctx → Ctx
  | 0, c => c
  | n + 1, c =>
    match c.sackRcv.find? fun r => posLe c r.1 c.rcvNxt.toNat && posLe c c.rcvNxt.toNat r.2 with
    | some r => joinRanges n { c with rcvNxt := BitVec.ofNat 32 r.2, sackRcv := c.sackRcv.erase r }
    | none => c

/-- Data in order at RCV_NXT: it is delivered, and what it joins with it; a PDU that ends with it may be acknowledged; an ACK follows two
segments, or the delayed-ACK timer (R128, R138). -/
def State.tcpDeliver (i : Nat) (g : TcpSeg) (s : State) : State :=
  let c := s.ctx i
  let t := (g.capsules.foldl (fun u k => u.capsuleIn { k with ctx := i, localPort := false, cntlid := c.cntlid, qid := c.qid }) s)
  let u := t.updCtx i fun x =>
    let y := joinRanges 4 { x with rcvNxt := x.rcvNxt + BitVec.ofNat 32 (posDist x x.rcvNxt.toNat (g.seqNo + g.len)) }
    { y with msgEnds := if g.pduEnd then y.msgEnds ++ [y.rcvNxt] else y.msgEnds, unackedSegs := y.unackedSegs + 1 }
  u.when (decide (2 ≤ (u.ctx i).unackedSegs)) fun v => v.ackNow i

/-- The data of a segment (R128): in order, ahead within 4 ranges and 256 KiB, or already received. -/
def State.tcpData (i : Nat) (g : TcpSeg) (s : State) : State :=
  let c := s.ctx i
  let d := posDist c c.rcvNxt.toNat g.seqNo
  if g.len = 0 then s
  else if d = 0 ∨ (2 ^ 31 ≤ d ∧ posDist c g.seqNo c.rcvNxt.toNat < g.len) then
    if g.capsules ≠ [] ∧ s.capsuleShut then s else s.tcpDeliver i g
  else if d < 2 ^ 31 then
    let held := (c.sackRcv.map fun r => posDist c r.1 r.2).sum
    let r := (g.seqNo % 2 ^ 32, (g.seqNo + g.len) % 2 ^ 32)
    (if c.sackRcv.length < 4 ∧ held + g.len ≤ 262144 then s.updCtx i fun x => { x with sackRcv := addOne r x.sackRcv } else s).sendAck i
  else (s.sendAck i).ctxCount i 1

/-- Fast retransmission of the hole between SND_UNA and the first range the host holds, or of the oldest segment (R130). -/
def State.fastRetransmit (i : Nat) (s : State) : State :=
  let c := s.ctx i
  let una := c.sndUna.toNat
  let top := match c.sackSnd with
    | [] => una + max 1 c.mtu
    | r :: rs => una + rs.foldl (fun m x => min m (posDist c una x.1)) (posDist c una r.1)
  let hole (f : Nat × Nat × Nat) : Bool := decide (posDist c una f.1 < top - una)
  if s.transportCfgTcpRetries < c.retries + 1 then (s.sendRst i).ctxError i
  else
    let t := (s.updCtx i fun x => { x with
      retries := x.retries + 1, timerKind := 1, timerNs := s.now + s.rtoOf x
      flight := x.flight.map fun f => if hole f then (f.1, f.2.1, 0) else f }).onLoss i false
    let again := c.flight.filter hole
    let u := again.foldl (fun v f => v.emitMessage i c f.2.1) t
    ((u.bumpN cTcpRetx (engineOf i) again.length).ctxCount i 0).send .retransmit [i, una] []

/-- The acknowledgement of a segment (R128, R130). -/
def State.tcpAck (i : Nat) (g : TcpSeg) (s : State) : State :=
  let c := s.ctx i
  let dup := decide (g.ackNo % 2 ^ 32 = c.sndUna.toNat) && decide (g.len = 0) && !c.flight.isEmpty && decide (g.wnd * 2 ^ c.wscale = c.sndWnd)
  let t := s.updCtx i fun x => { x with
    sndWnd := g.wnd * 2 ^ x.wscale, sackSnd := if x.sack then g.sackRanges.take 4 else [], dupAcks := if dup then x.dupAcks + 1 else x.dupAcks
    cwrToSend := x.cwrToSend, eceToSend := x.eceToSend && !g.cwr }
  let wide := c.sack && g.sackRanges.any fun r => decide (3 * max 1 c.mtu ≤ posDist c c.sndUna.toNat r.1) && decide (posDist c c.sndUna.toNat r.1 < 2 ^ 31)
  let u := t.onAck i (g.ackNo % 2 ^ 32) g.ece
  if (dup ∧ c.dupAcks + 1 = 3) ∨ (wide ∧ c.sackSnd = []) then u.fastRetransmit i else u

/-- A segment of a cached TCP context (R128, R130, R133, R349). -/
def State.tcpCore (i : Nat) (g : TcpSeg) (s : State) : State :=
  let c := s.ctx i
  let w := s.wredRx i g.port (ctxOverhead c + g.len)
  if c.kind ≠ 2 ∨ c.state = 0 ∨ c.state = 6 then s
  else if c.state = 4 then (if c.closeSent then s else (s.sendRst i).updCtx i fun x => { x with closeSent := true })
  else if w.1.1 then w.2
  else if g.rst then w.2.ctxError i
  else
    let t := ((w.2.when g.urg fun u => u.bump cUrgIgnored (engineOf i)).when g.ece fun u => u.bump cEceRx (engineOf i)).when (g.ce || w.1.2) fun u =>
      u.onMark i
    if c.tstamps ∧ g.tsVal < c.tsRecent then t.sendAck i
    else
      let u := (t.updCtx i fun x => { x with
        tsRecent := if x.tstamps && posLe x g.seqNo x.rcvNxt.toNat then g.tsVal else x.tsRecent }).tcpAck i g
      if (u.ctx i).state = 4 then u
      else
        let v := if c.state = 2 ∨ c.state = 3 then u.tcpData i g else u
        if g.fin ∧ posDist c (v.ctx i).rcvNxt.toNat (g.seqNo + g.len) = 0 then
          let x := (v.updCtx i fun y => { y with hostClosed := true, rcvNxt := y.rcvNxt + 1, msgEnds := y.msgEnds ++ [y.rcvNxt + 1] }).ackNow i
          if (x.ctx i).state = 1 then x.enterQuarantine i
          else if (x.ctx i).state = 2 then x.enterDraining i else x.settleCtx i
        else v

/-! ### The cache gate (R116 to R118) -/

/-- A RoCEv2 frame passes WRED and is processed (R349). -/
def State.runPassed (i port : Nat) (cmd : Instr) (s : State) : State :=
  let payload := match cmd with
    | .pushWritePacket _ _ _ _ bytes _ _ => bytes.length
    | .roceReadResponse _ _ bytes _ => bytes.length
    | _ => 0
  let w := s.wredPass i port payload
  if w.1 then w.2
  else
    match cmd with
    | .pushWritePacket _ psn key addr bytes last ce => w.2.pushCore i psn key addr bytes last ce
    | .roceAckReceive _ psn kind => w.2.ackCore i psn kind
    | .roceReadResponse _ slot bytes last => w.2.readRespCore i slot bytes last
    | .roceCnpReceive _ => w.2.cnpCore i
    | _ => s

/-- Process a packet of a cached context that arrived on a port. -/
def State.runPacket (i port : Nat) (cmd : Instr) (s : State) : State :=
  match cmd with
  | .roceRequestPacket p => s.roceCore i p
  | .tcpSegmentReceive g => s.tcpCore i g
  | _ => s.runPassed i port cmd

/-- A packet of a context arrives: processed now, or it waits for the fill (R116 to R118). -/
def State.packet (i port len : Nat) (cmd : Instr) (s : State) : State :=
  let g := s.cacheGate i port len cmd
  if s.layout.holdup.isSome then s
  else if g.1 then (g.2.runPacket i port cmd).after i else g.2

/-- The packets of a context that wait are processed in arrival order (R118). -/
def State.runWaiting (i : Nat) (s : State) : State :=
  let mine := s.xport.missBuf.filter fun m => m.ctx = i
  let t := s.updXport fun x => { x with missBuf := x.missBuf.filter fun m => m.ctx ≠ i }
  mine.foldl (fun u m => ((u.when m.inRx fun v => v.takeFrame m.port (v.ctx i).cls).runPacket i m.port m.cmd).after i) t

/-- The port a packet of a context arrived on where its command does not say. -/
def State.portOf (s : State) (i : Nat) : Nat := (s.portHolding (s.ctx i).cls).getD 0

/-- A RoCEv2 packet of an index: a context that is FREE, in OPENING, ERROR or QUARANTINE accepts none (R109). -/
def State.rocePacket (i port len : Nat) (cmd : Instr) (s : State) : State :=
  let c := s.ctx i
  if c.kind = 1 ∧ (c.state = 2 ∨ c.state = 3 ∨ c.state = 5) then s.packet i port len cmd else s.takeFrame port c.cls

/-- ROCE_REQUEST_PACKET (R105, R120): a QPN outside the range of the indices is counted in LOOKUP_NONE. -/
def execRoceRequestPacket (p : RocePkt) (s : State) : Res :=
  let i := p.qpn - 0x200000
  .next (if p.qpn < 0x200000 ∨ 0x400000 ≤ p.qpn then s.bump cLookupNone p.port
  else if p.icrcGood = false then s.takeFrame p.port (s.ctx i).cls
  else s.rocePacket i p.port 128 (.roceRequestPacket p))

/-- CONTEXT_WRITEBACK_COMMIT (R115, R116): the eviction commits and the way goes to the missing context. -/
def execContextWritebackCommit (index : Nat) (s : State) : Res :=
  let k := cacheSet index
  bounded (decide (index < 2097152)) (if (s.ways k).any fun w => decide (w.index = index) && w.evicting then
    s.setWays k ((s.ways k).map fun w => if w.index = index ∧ w.evicting then { index := w.forCtx, filling := true } else w)
  else s)

/-- CONTEXT_FILL_COMPLETE (R112, R115, R118): the packets waiting are processed in arrival order; a record whose CRC is bad puts the context into
ERROR. -/
def execContextFillComplete (index : Nat) (crcGood : Bool) (s : State) : Res :=
  let k := cacheSet index
  bounded (decide (index < 2097152)) (if (s.ways k).any fun w => decide (w.index = index) && w.filling then
    let t := s.setWays k ((s.ways k).map fun w => if w.index = index then { w with filling := false } else w)
    let u := if crcGood then t else ((t.bump cCtxCrcErr (engineOf index)).ctxError index).after index
    (if (u.ctx index).state = 5 then u else u.runWaiting index).serveSet k
  else s)

/-- PUSH_WRITE_PACKET (R124). -/
def execPushWritePacket (index : Nat) (psn : Nat) (key : Nat) (addr : Nat) (bytes : Bytes) (last : Bool) (ce : Bool) (s : State) : Res :=
  bounded (decide (index < 2097152)) (s.rocePacket index (s.portOf index) (bytes.length + 64) (.pushWritePacket index psn key addr bytes last ce))

/-- ROCE_ACK_RECEIVE (R121). -/
def execRoceAckReceive (index : Nat) (psn : Nat) (kind : Nat) (s : State) : Res :=
  bounded (decide (index < 2097152)) (s.rocePacket index (s.portOf index) 64 (.roceAckReceive index psn kind))

/-- ROCE_READ_RESPONSE (R121). -/
def execRoceReadResponse (index : Nat) (slot : Nat) (bytes : Bytes) (last : Bool) (s : State) : Res :=
  bounded (decide (index < 2097152)) (s.rocePacket index (s.portOf index) (bytes.length + 64) (.roceReadResponse index slot bytes last))

/-- ROCE_CNP_RECEIVE (R133). -/
def execRoceCnpReceive (index : Nat) (s : State) : Res :=
  bounded (decide (index < 2097152)) (s.rocePacket index (s.portOf index) 64 (.roceCnpReceive index))

/-- ROCE_ACK_TIMEOUT (R121): go back N. -/
def execRoceAckTimeout (index : Nat) (s : State) : Res :=
  let c := s.ctx index
  bounded (decide (index < 2097152)) (if c.kind = 1 ∧ (c.state = 2 ∨ c.state = 3) ∧ c.flight ≠ [] then
    (s.retry index c.sndUna.toNat s.transportCfgRoceRetry true).after index else s)

/-- ROCE_RNR_DELAY_END (R121): the request is retried, not counted in RETRIES. -/
def execRoceRnrDelayEnd (index : Nat) (s : State) : Res :=
  let c := s.ctx index
  bounded (decide (index < 2097152)) (if c.kind = 1 ∧ (c.state = 2 ∨ c.state = 3) ∧ c.flight ≠ [] then
    (s.updCtx index fun x => { x with timerKind := 1, timerNs := s.now + s.rtoOf x }).resendFrom index c.sndUna.toNat else s)

/-! ### Opening a TCP connection (R106, R107, R110, R128) -/

/-- Answer a segment or SYN that has no context with RST. Numbers: remote address and port. -/
def State.rstTo (ip port : Nat) (s : State) : State := s.send .reset [ip, port] []

/-- The MSS sent: the lesser of the host's and MAX_FRAME of the class less headers (R128). -/
def State.mssFor (s : State) (c : Ctx) (port offered : Nat) : Nat := min offered (s.portClassCfgMaxFrame port - ctxOverhead c)

/-- Accept a SYN on an index (R109, R128): the initial send sequence number is not stated, and is a free value. -/
def State.acceptSyn (i : Nat) (y : TcpSyn) (egress : Nat) (s : State) : State :=
  let c0 : Ctx := {
    kind := 2, ipv6 := isIpv6 y.remoteIp, cls := y.cls, dscp := y.dscp, remoteIp := y.remoteIp, localIp := y.localIp, remoteMac := y.remoteMac
    vlanTag := y.vlanTag, remoteL4 := y.remotePort, localL4 := y.localPort, ecn := y.ecnOk, sack := y.sackOk, tstamps := y.tsOk
    tsRecent := y.tsVal, wscale := min y.wscale 14, egressSel := egress
    bucket := lagBucket y.localIp y.remoteIp 6 y.localPort y.remotePort none
    sndNxt := BitVec.ofNat 32 (s.drawn 32 + 1), rcvNxt := BitVec.ofNat 32 (y.isn + 1), rcvWnd := 65535 * 2 ^ s.transportCfgTcpWscale }
  s.draw.openCtx i (tcpTag (tcpHash y.remoteIp y.localIp y.remotePort y.localPort)) { c0 with mtu := s.mssFor c0 y.port y.mss }

/-- TCP_SYN_RECEIVE (R106, R107, R109, R110, R128). A SYN of a context still OPENING is answered again; one that lies beyond the old RCV_NXT
of a context in QUARANTINE opens a new connection on its index. -/
def execTcpSynReceive (y : TcpSyn) (s : State) : Res :=
  let t := s.takeFrame y.port y.cls
  let b := tcpBucket (tcpHash y.remoteIp y.localIp y.remotePort y.localPort)
  .next (match t.tcpLookup y.remoteIp y.localIp y.remotePort y.localPort with
  | some i =>
    let c := t.ctx i
    if c.state = 6 then
      (match t.addrOfIp y.localIp with
      | some a => if posLe c c.rcvNxt.toNat y.isn && decide (c.rcvNxt.toNat ≠ y.isn) then t.acceptSyn i y a.2.egress else t
      | none => t)
    else if c.state = 1 then t.when c.claimConf fun u => u.handshakeReply i
    else if c.state = 4 then t.tcpCore i { port := y.port }
    else t.sendAck i
  | none =>
    if t.inService = false ∨ (y.localPort ≠ 4420 ∧ y.localPort ≠ 8009) then t.rstTo y.remoteIp y.remotePort
    else if t.losslessCfg y.port y.cls then (t.bump cClassRefused 0).rstTo y.remoteIp y.remotePort
    else
      match t.addrOfIp y.localIp, t.tcpIndex b with
      | some a, some i => t.acceptSyn i y a.2.egress
      | none, _ => t.rstTo y.remoteIp y.remotePort
      | some _, none => (t.bump cTcpSynRefused 0).rstTo y.remoteIp y.remotePort)

/-- TCP_SEGMENT_RECEIVE (R106, R128): an IP fragment is discarded; a segment that matches no context is answered with RST. -/
def execTcpSegmentReceive (g : TcpSeg) (s : State) : Res :=
  .next (if g.fragment then s.bump cIpFragDrop 0
  else
    match s.tcpLookup g.remoteIp g.localIp g.remotePort g.localPort with
    | none => s.rstTo g.remoteIp g.remotePort
    | some i => s.packet i g.port (ctxOverhead (s.ctx i) + g.len) (.tcpSegmentReceive g))

/-! ### NVMe/TCP (R129) -/

/-- End a connection with C2HTermReq. Numbers: index, status: 1 Invalid PDU Header Field, 3 Header Digest Error. -/
def State.termReq (i status : Nat) (s : State) : State :=
  ((s.sendControl i .termReq [status]).ctxError i).after i

/-- ICREQ_RECEIVE (R109, R129): digests and alignment are set, ICResp with CPDA 0 and MAXH2CDATA is sent, and the context is OPEN. -/
def execIcreqReceive (index : Nat) (hpda : Nat) (hdgst : Bool) (ddgst : Bool) (s : State) : Res :=
  let c := s.ctx index
  bounded (decide (index < 2097152)) (if c.kind ≠ 2 ∨ c.claimConf = false ∨ (c.state ≠ 1 ∧ c.state ≠ 2 ∧ c.state ≠ 3) then s
  else if c.state ≠ 1 ∨ 31 < hpda then s.termReq index 1
  else
    let t := s.updCtx index fun x => { x with hpda := hpda, hdgst := hdgst, ddgst := ddgst }
    (t.sendMsg index 128 { kind := .icResp, args := [index, 0, hdgst.toNat, ddgst.toNat, 131072] }).enterOpen index)

/-- H2CDATA_RECEIVE (R129): a TTAG that names no outstanding R2T, or a stale generation, ends the connection; a data-digest error completes
the command and leaves it open. -/
def execH2cdataReceive (index : Nat) (ttag : Nat) (bytes : Bytes) (last : Bool) (hdrDigestGood : Bool) (dataDigestGood : Bool) (s : State) : Res :=
  let c := s.ctx index
  let k := ttag % 2048
  bounded (decide (index < 2097152)) (if c.kind ≠ 2 ∨ (c.state ≠ 2 ∧ c.state ≠ 3) then s
  else if hdrDigestGood = false then (s.bump cDigestErr (engineOf index)).termReq index 3
  else
    match tfind c.r2ts k with
    | none => s.termReq index 1
    | some (n, g) =>
      if g ≠ ttag / 2048 ∨ 131072 < bytes.length then s.termReq index 1
      else
        let done := last && decide ((s.slot n).need ≤ ((s.slot n).data ++ bytes).length)
        let free (t : State) : State := t.updCtx index fun x => { x with r2ts := tdel x.r2ts k }
        if dataDigestGood = false then ((free (s.bump cDigestErr (engineOf index))).endErr n stTransport).settle
        else ((s.dataIn n bytes last).when done free).settle)

/-- H2CTERMREQ_RECEIVE (R129): the connection has failed. -/
def execH2ctermreqReceive (index : Nat) (s : State) : Res :=
  bounded (decide (index < 2097152)) (if (s.ctx index).kind = 2 then (s.ctxError index).after index else s)

/-- TCP_RTO_EXPIRY (R130): the RTO doubles, up to 64 × TCP_MIN_RTO_US. -/
def execTcpRtoExpiry (index : Nat) (s : State) : Res :=
  let c := s.ctx index
  bounded (decide (index < 2097152)) (if c.kind = 2 ∧ (c.state = 2 ∨ c.state = 3) ∧ c.flight ≠ [] then
    let base := if c.retries = 0 then s.rtoOf c else max c.rto (s.rtoOf c)
    let next := min (2 * base) (max base (us (64 * s.transportCfgTcpMinRtoUs)))
    let t := s.retry index c.sndUna.toNat s.transportCfgTcpRetries true
    (if (t.ctx index).state = 2 ∨ (t.ctx index).state = 3 then
      t.updCtx index fun x => { x with rto := next, timerNs := s.now + next } else t).after index
  else s)

/-- DELAYED_ACK_TIMER (R128, R138). -/
def execDelayedAckTimer (index : Nat) (s : State) : Res :=
  let c := s.ctx index
  bounded (decide (index < 2097152)) (if c.kind = 2 ∧ (c.state = 2 ∨ c.state = 3) ∧ 0 < c.unackedSegs then s.ackNow index else s)

/-! ### Ends of the states of a context (R109, R127) -/

/-- OPENING_TIMEOUT (R109). -/
def execOpeningTimeout (index : Nat) (s : State) : Res :=
  bounded (decide (index < 2097152)) (if (s.ctx index).state = 1 then s.enterQuarantine index else s)

/-- DRAINING_CLOSE_TIMEOUT (R109): the controller has begun the close and the host has not answered. -/
def execDrainingCloseTimeout (index : Nat) (s : State) : Res :=
  bounded (decide (index < 2097152)) (if (s.ctx index).state = 3 ∧ (s.ctx index).closeSent then s.enterQuarantine index else s)

/-- QUARANTINE_END (R109): the index is free at both controllers. -/
def execQuarantineEnd (index : Nat) (s : State) : Res :=
  bounded (decide (index < 2097152)) (if (s.ctx index).state = 6 then (s.freeCtx index).shadowConn index else s)

/-- PUSH_HOLD_EXPIRY (R127): the window is revoked and its data discarded. -/
def execPushHoldExpiry (index : Nat) (window : Nat) (s : State) : Res :=
  let w := ctxWindow (s.ctx index) window
  bounded (decide (index < 2097152) && decide (window < 64)) (if w.data ∧ w.wState ≠ 1 then
    ((s.revoke index window).bump cPushHoldExpired (engineOf index)).advanceAck index else s)

end Sys2Proof.Machine
end

