-- ==== Sys2Proof/Machine/Pairing.lean ====
section
/-! DEFINITION. The commands of the redundant pair (R365 to R393): the Sett link, Owl, quorum confirmation, the claim, pairing and
synchronisation, and the shadows kept for the partner. -/
namespace Sys2Proof.Machine

/-! ### Sett bundles (R365, R369, R382) -/

/-- A bundle is up. -/
def State.bundleUp (s : State) (b : Nat) : Bool := if b = 0 then s.pair.settA else s.pair.settB

/-- The logical port of the Owl network path (R96, R381): the port OWL_SEL names, or the anchor of the group it names, while its link is up. -/
def State.owlPort (s : State) : Option Nat :=
  let sel := s.pairCfgOwlSel
  (if sel < 16 then some sel else s.anchor (sel - 16)).filter fun p => (s.port p).linkUp

/-- Queue a frame of the network path at its port, in the strict class of its traffic class (R367, R381); its length is that of a Sett frame with
`n` payload bytes. -/
def State.owlFrame (cls n : Nat) (s : State) : State :=
  match s.owlPort with
  | some p =>
    let it : QItem := { num := s.qos.nextItem, cost := max 64 ((if s.pairCfgPairVid = 0 then 50 else 54) + n), cls := cls }
    (s.updQos fun q => { q with nextItem := q.nextItem + 1 }).queueFrame p it (egressClass cls true)
  | none => s

/-- Three cut-link notices go out on the network path, 1 µs apart, and quorum confirmation begins at once (R382). -/
def State.cutLink (s : State) : State :=
  let one (t : State) : State := (t.owlFrame 5 0).send .sett [1, 0x1C, 0, 0, 0] []
  (one (one (one s))).beginQuorum 0x03

/-- The last bundle has failed: requests relayed get 0x0303 (R481); in M3, while beats still arrive on the network path, the cut is announced (R382); before the switch the
pairing is abandoned (R372). -/
def State.settGone (s : State) : State :=
  if s.settUp then s
  else if s.paired then
    if s.now < s.pair.lastNet + us 120 ∧ s.pair.quorum.isNone then s.relaysFail.cutLink else s.relaysFail
  else s.relaysFail.abandonPairing

/-- Fail a bundle: fault 0x02 (R369, R395). -/
def State.failBundle (b : Nat) (s : State) : State :=
  if s.bundleUp b then
    let t := s.updPair fun p => if b = 0 then { p with settA := false } else { p with settB := false }
    ((t.bump cSettBundleFail b).singleFault 0x02).settGone
  else s

/-- Send a kept frame again, with FLAGS [0] set. -/
def State.resendFrame (cls bundle : Nat) (f : SettFrame) (s : State) : State :=
  let c := tget {} s.pair.classes cls
  let t := s.updPair fun p => { p with classes := tadj cls (fun k => { k with
    unacked := k.unacked.map fun g => if g.seqNo = f.seqNo then { g with bundle := bundle, sends := g.sends + 1 } else g }) p.classes }
  ((t.send .sett ([cls, f.kind, 1, f.seqNo, c.applied] ++ f.args) f.data).bump cSettResent cls)

/-- The other bundle where it is up, else the same. -/
def State.otherBundle (s : State) (b : Nat) : Nat := if s.bundleUp (1 - b) then 1 - b else b

/-- SETT_RESEND_TIMEOUT (R369): no ACK covers a frame 12 µs after it was sent. It is resent on the other bundle; a second time, the bundle that first
carried it is failed; then every 12 µs on the bundle that remains, which fails after two such sends in a row. -/
def execSettResendTimeout (cls : Nat) (seqNo : Nat) (s : State) : Res :=
  bounded (decide (cls < 6))
    (match (tget {} s.pair.classes cls).unacked.find? fun f => f.seqNo = seqNo with
    | none => s
    | some f =>
      if s.settUp = false then s
      else if f.sends = 1 then s.resendFrame cls (s.otherBundle f.bundle) f
      else
        let t := if f.sends = 2 then s.failBundle f.firstBundle else if f.sends % 2 = 0 then s.failBundle f.bundle else s
        if t.settUp then t.resendFrame cls t.settBundle f else t)

/-- SETT_ALIGNMENT_LOSS (R369): the PCS of a bundle has lost alignment for 10 µs. -/
def execSettAlignmentLoss (bundle : Nat) (s : State) : Res := bounded (decide (bundle < 2)) (s.failBundle bundle)

/-- A frame of class 4 has been confirmed (R108, R376, R379, R380): an index claim, a position update, or the send record of a plan. -/
def State.shadowConfirmed (f : SettFrame) (s : State) : State :=
  let i := f.args.head?.getD 0
  if f.kind = 0x40 then s.claimConfirmed i
  else if f.kind = 0x41 then
    match f.args with
    | [_, _, rcv, snd] =>
      let t := s.updCtx i fun c => { c with confRcv := BitVec.ofNat 32 rcv, confSnd := BitVec.ofNat 32 snd }
      if s.paired ∧ (s.ctx i).state = 2 then t.setAcked i (BitVec.ofNat 32 rcv) else t
    | _ => s
  else if f.kind = 0x43 ∨ f.kind = 0x44 then
    let c : Nat := if f.kind = 0x44 then f.args.getD 4 0 else (s.slot i).ctx
    match s.planOf c i with
    | some q => ((s.when (q.msgs.isSome && !q.conf) fun t => t.bump cSendHold 0).updPlan c i fun p => { p with conf := true }).flushPlans c
    | none => s
  else s

/-- SETT_ACK_RECEIVE (R369): the frames that an ACK covers are released; what each carried is confirmed. -/
def execSettAckReceive (cls : Nat) (ack : Nat) (s : State) : Res :=
  bounded (decide (cls < 6))
    (if s.settUp = false then s
    else
      let c := tget {} s.pair.classes cls
      let done := c.unacked.filter fun f => f.seqNo ≤ ack
      let t := s.updPair fun p => { p with
        lastSett := s.now, classes := tadj cls (fun k => { k with unacked := k.unacked.filter fun f => ack < f.seqNo }) p.classes }
      (done.foldl (fun u f => if f.kind = 0x1E then u.sharedApplied f.seqNo else u.shadowConfirmed f) t).settle)

/-! ### Owl (R381, R382) -/

/-- The STATUS byte of a beat. -/
def State.beatStatus (s : State) : Nat :=
  s.pair.settA.toNat + 2 * s.pair.settB.toNat + (if s.now < s.pair.lastNet + us 120 then 4 else 0)

/-- Send one beat: on a Sett bundle a frame of class 0, on the network path (2) an Owl frame. Numbers of a network beat: path, BEAT_SEQ, MODE, STATUS. -/
def State.sendBeat (path : Nat) (s : State) : State :=
  let t := s.updPair fun p => { p with beatSeq := p.beatSeq + 1, lastBeatSent := s.now }
  let args := [t.pair.beatSeq, t.modes.mode.num, t.beatStatus]
  if path = 2 then (t.owlFrame 7 16).send .beat (2 :: args) []
  else
    let c := tget {} t.pair.classes 0
    let f : SettFrame := { seqNo := c.nextSeq, kind := 0x01, bundle := path, firstBundle := path, args := args }
    (t.updPair fun p => { p with classes := tput p.classes 0 { c with nextSeq := c.nextSeq + 1, unacked := c.unacked ++ [f] } }).send .sett
      ([0, 0x01, 0, c.nextSeq, c.applied] ++ args) []

/-- OWL_BEAT_TIMER (R381): every 20 µs in M3 a beat goes out on each Sett bundle that is up and on the network path; none once beats are stopped
(R179, R385). -/
def execOwlBeatTimer (s : State) : Res :=
  .next (if s.paired = false ∨ s.pair.beatsStopped then s
  else
    let t := s.when s.pair.settA fun u => u.sendBeat 0
    let u := t.when s.pair.settB fun v => v.sendBeat 1
    u.when s.owlPort.isSome fun v => v.sendBeat 2)

/-- BEAT (R381, R382, R178): a beat that counts restarts the silence timers of its path and the fence timer; a good frame on a bundle restarts the Sett
silence timer. -/
def execBeat (b : BeatMsg) (s : State) : Res :=
  .next (if s.paired = false ∨ b.crcGood = false ∨ (b.network = false ∧ s.settUp = false) then s
  else
    let t := if b.network then s else s.settGot 0x01
    if b.sender = s.other ∧ b.epoch = s.cons.epoch then
      (t.updPair fun p => { p with lastBeat := s.now, lastNet := if b.network then s.now else p.lastNet, partnerMode := b.mode }).fenceRestart
    else t)

/-- PARTNER_SILENCE_EXPIRY (R382): no beat on any path for 120 µs: fault 0x01, and quorum confirmation. -/
def execPartnerSilenceExpiry (s : State) : Res := .next (if s.paired then (s.bump cOwlSilence 0).beginQuorum 0x01 else s)

/-- SETT_SILENCE_EXPIRY (R382): no valid Sett frame for 120 µs: fault 0x03, and quorum confirmation. -/
def execSettSilenceExpiry (s : State) : Res := .next (if s.paired then (s.bump cOwlSilence 1).beginQuorum 0x03 else s)

/-- NETWORK_SILENCE_EXPIRY (R382): no beat on the network path for 120 µs: fault 0x04 as an event; service goes on. -/
def execNetworkSilenceExpiry (s : State) : Res := .next (if s.paired then (s.bump cOwlSilence 2).singleFault 0x04 else s)

/-- CUT_LINK_NOTICE (R382): quorum confirmation begins at once. -/
def execCutLinkNotice (s : State) : Res := .next (if s.paired then s.beginQuorum 0x03 else s)

/-! ### Quorum and claim (R179, R385, R386, R388) -/

/-- QUORUM_WINDOW_EXPIRY (R385): 70 µs have passed without a majority: the run is lost. -/
def execQuorumWindowExpiry (s : State) : Res :=
  .next (match s.pair.quorum with
  | some q => if q.wins.length < 2 then s.quorumLost (decide (q.losses.length < 2)) else s
  | none => s)

/-- TAKEOVER_CLAIM (R179, R385, R388): 180 µs after the last beat sent, a survivor whose loss of the partner is confirmed claims its extents; the quorum
blocks are written with the new epoch. -/
def execTakeoverClaim (s : State) : Res :=
  .next (if s.modes.mode = .m4 ∧ s.pair.lost ∧ s.pair.lastBeatSent + us 180 ≤ s.now then
    let t := s.claim
    t.writeQuorum t.claimedBlock
  else s)

/-- CONNECTION_ADOPT (R109, R139): an adopted connection leaves ADOPTING: for OPEN, with the NAK or the three duplicate ACKs that make the host resume, or
for DRAINING; its PDUs go out and the packets held for it are processed. -/
def execConnectionAdopt (index : Nat) (s : State) : Res :=
  bounded (decide (index < 2097152))
    (if (s.ctx index).state ≠ 5 then s
    else
      let draining : Bool := match tfind s.pair.conns index with
        | some h => decide (h.ctx.state = 3)
        | none => false
      let t := s.updPair fun p => { p with conns := tdel p.conns index }
      let u := if draining then t.enterDraining index
        else
          let v := t.updCtx index fun c => { c with state := 2 }
          let c := v.ctx index
          if c.kind = 2 then ((v.sendAck index).sendAck index).sendAck index else v.sendNak index 1 c.rcvAcked.toNat
      ((u.flushPlans index).runWaiting index).settle)

/-! ### Pairing (R371 to R374) -/

/-- Refuse to pair: event 0x0902 with the status (R371). -/
def State.refusePair (status : Nat) (s : State) : State := (s.abandonPairing).raise 0x0902 whole status

/-- The unicast addresses of both controllers fit in the 64 entries of each cage (R75, R371). -/
def State.addressesFit (s : State) (theirs : List AddrEntry) : Bool :=
  let mine (c : Nat) : Nat := tcount (fun k a => decide (k / 64 = c) && a.flags.testBit 0) s.net.addr
  let them (c : Nat) : Nat := (theirs.filter fun a => decide (a.egress < 16) && decide (a.egress / 4 = c)).length
  (List.range 4).all (fun c => decide (mine c + them c ≤ 64)) && decide (((List.range 4).map mine).sum + theirs.length ≤ 256)

/-- A controller that may pair now: PAIR_EN = 1, a bundle up, pools read, in M1, M2 or M4. -/
def State.mayPair (s : State) : Bool :=
  decide (s.pairCfgPairEn = 1) && s.settUp && !s.boot.recovery &&
  (match s.modes.mode with
  | .m1 => decide (9 < s.boot.bootStep)
  | .m2 => true
  | .m4 => !s.pair.lost
  | _ => false)

/-- Step 2 begins where the partner's hello allows it: the conditions of R371, the choice of S, and this controller's evidence (R331, R372). -/
def State.pairGo (s : State) : State :=
  match s.pair.hello with
  | none => s
  | some m =>
    if s.pair.pairStep ≠ 1 then s
    else
      let want := s.word (oid 9 2 0)
      let serves := decide (s.modes.mode = .m2) || decide (s.modes.mode = .m4)
      let theirs := decide (m.mode = 2) || decide (m.mode = 4)
      let online := (List.range 8).any s.poolOnline
      if m.pairEn = false ∨ (want ≠ 0 ∧ want ≠ m.deviceId) ∨ (m.partnerId ≠ 0 ∧ m.partnerId ≠ s.fuses.deviceId) ∨ online = false ∨ (serves && theirs) then
        s.abandonPairing
      else if m.drivesOk = false then s.refusePair 0x0502
      else if s.addressesFit m.addrs = false then s.refusePair 0x0402
      else
        let first := serves || (!theirs && (decide (m.epoch < s.cons.epoch) || (decide (m.epoch = s.cons.epoch) && decide (s.self = 0))))
        let t := s.updPair fun p => { p with
          pairStep := 2, serving := first, partnerMode := m.mode, partnerId := m.deviceId, partnerEpoch := m.epoch, partnerAddr := m.addrs
          partnerMacs := m.macs, timeOffset := (m.timeNs : Int) - (s.now : Int) }
        let u := t.when (!first) fun v => (v.updLayout fun l => { l with larder := [], mirror := [], destages := [] }).dropReceived
        u.settSend 0x52 [s.fuses.lifeCycle, s.fuses.debugLock, s.boot.svn, s.fuses.antiRollback] []

/-- Step 1: send the hello (R372). Its numbers: DEVICE_ID, index, mode, epoch, PARTNER_ID, time, then the unicast addresses. -/
def State.startPairing (s : State) : State :=
  if s.mayPair ∧ s.pair.pairStep = 0 then
    let t := s.updPair fun p => { p with pairStep := 1, state := if p.state = 0 then 1 else p.state }
    (t.settSend 0x51 ([s.fuses.deviceId, s.self, s.modes.mode.num, s.cons.epoch, s.word (oid 9 2 0), s.now] ++
      (s.net.addr.filter fun a => a.2.flags.testBit 0).map fun a => a.2.mac) []).pairGo
  else s

/-- HELLO (R371, R372, R544): the partner's hello; one that comes while a pairing runs begins it anew. -/
def execHello (m : HelloMsg) (s : State) : Res :=
  .next (if s.paired ∨ s.settUp = false then s
  else
    let t := if 2 ≤ s.pair.pairStep then s.abandonPairing else s
    let u := (t.settGot 0x51).updPair fun p => { p with hello := some m }
    if u.pair.pairStep = 1 then u.pairGo else u.startPairing)

/-- Begin the key exchange: an ephemeral key pair is drawn and its public key sent, signed by both alias keys (R373). -/
def State.startExchange (s : State) : State :=
  let d := s.drawn 384
  let pub := Config.pubKey d
  (s.draw.updPair fun p => { p with ephemeral := some d }).settSend 0x53
    [pub, Config.sign 1 s.enclave.aliasSeed [pub], Config.sign 2 s.enclave.aliasSeed [pub]] []

/-- EVIDENCE (R331): the partner's evidence is checked; a failure refuses the pairing with 0x0604. -/
def execEvidence (e : EvidenceMsg) (s : State) : Res :=
  .next (if s.pair.pairStep ≠ 2 then s
  else s.settIn 0x52 fun t =>
    let low := max e.antiRollback s.fuses.antiRollback
    if e.sigGood ∧ e.lifeCycle = s.fuses.lifeCycle ∧ (e.lifeCycle = 1 ∨ e.lifeCycle = 3) ∧ e.fusesEqual ∧ e.debugLock = s.fuses.debugLock ∧
      low ≤ e.svn ∧ low ≤ s.boot.svn then (t.updPair fun p => { p with pairStep := 3 }).startExchange
    else t.refusePair 0x0604)

/-- SETT_KEK (R310, R373): from the shared secret, both DEVICE_IDs, and the first 16 bytes of the SHA-384 of both public keys, controller 0 first. -/
def State.deriveKek (s : State) (priv pub : Nat) : Nat :=
  let mine := Config.pubKey priv
  let pubs := if s.self = 0 then leBytes 97 mine ++ leBytes 97 pub else leBytes 97 pub ++ leBytes 97 mine
  let ids := if s.self = 0 then [s.fuses.deviceId, s.pair.partnerId] else [s.pair.partnerId, s.fuses.deviceId]
  Config.kdf (Config.shared priv pub) 13 (ids ++ [Config.sha384 pubs / 2 ^ 256])

/-- Step 4 of R372: registration at every pool member under R559; S acquires the reservation. -/
def State.registerAll (s : State) : State :=
  let members := ((tkeys (s.layout.pools.filter fun p => decide (2 ≤ p.2.pState))).map s.memberSlots).flatten.eraseDups.filter s.driveUp
  members.foldl (fun t m =>
    let u := (t.updDport m fun p => { p with registered := true }).submit 0 { slot := m, op := 4, owner := 7, pos := 1 }
    u.when (s.pair.serving && !(s.dport m).reserved) fun v =>
      (v.updDport m fun p => { p with reserved := true }).submit 0 { slot := m, op := 4, owner := 7, pos := 2 }) s

/-- Step 5 of R372: S notes the versions to copy, and sends the shadows, the open replay records and its journal (R374). -/
def State.startSync (s : State) : State :=
  let t := s.registerAll.updPair fun p => { p with
    pairStep := 5, ephemeral := none, settKek := none, state := 2, syncTotal := if p.serving then s.layout.larder.length else 0 }
  if t.pair.serving = false then t
  else
    let u := t.updLayout fun l => { l with syncLeft := tkeys l.larder }
    let u1 := (tkeys (u.xport.ctx.filter fun c => c.2.state ≠ 0)).foldl (fun v i =>
      (v.shadowConn i).settIfPaired 0x47 [i, (v.ctx i).pushCount, (v.ctx i).pushSize] []) u
    let u2 := u.cmds.slots.foldl (fun v p => v.when (!p.2.localPort) fun w => w.settIfPaired 0x42 [p.1, p.2.ctx, p.2.cid, p.2.state] []) u1
    let u3 := u.cmds.fab.foldl (fun v f => v.settIfPaired 0x46 [f.1, f.2.live.toNat] []) u2
    let u4 := u.cmds.replays.foldl (fun v r => v.when r.2.isOpen fun w =>
      w.settIfPaired 0x45 [r.1, r.2.ctx, r.2.ctxGen, r.2.qid, r.2.cid, r.2.pos, r.2.stamp.toNat, 1, r.2.status, r.2.dw0] []) u3
    u.layout.pools.foldl (fun v p => p.2.journal.reverse.foldl (fun w r => w.settSend 0x18 (p.1 :: jargs r) []) v) u4

/-- A new shelf key comes into use beside the old one (R317). -/
def State.startRotation (key : Nat) (s : State) : State :=
  ((s.updEnclave fun e => { e with oldShelfKey := e.shelfKey, rotating := true }).takeShelfKey key (1 - s.enclave.shelfGen % 2)).updPair fun p =>
    { p with ephemeral := none, settKek := none }

/-- A rotation of the partner's runs here as a job of firmware's own: no session started it (R317). -/
def State.ownRotation (s : State) : State :=
  match tfreeFrom s.ccp.jobs 0 64 with
  | some j => s.updCcp fun c => { c with jobs := tput c.jobs j { jState := 1, opcode := 0x3B } }
  | none => s

/-- The exchange during pairing (R373): a shelf key that either side holds goes to the other under SETT_KEK; where neither holds one, controller 0
draws it. With the key at both, registration and synchronisation follow. -/
def State.exchangeKey (kek : Nat) (k : KeyExMsg) (s : State) : State :=
  match s.enclave.shelfKey, k.wrapped with
  | some own, none => (s.settSend 0x53 [Config.wrap kek own, s.enclave.shelfGen] []).startSync
  | some _, some _ => s.startSync
  | none, some w => (s.takeShelfKey (Config.unwrap kek w) k.shelfGen).startSync
  | none, none =>
    if s.self = 0 then
      let key := s.drawn 256
      ((s.draw.takeShelfKey key 0).settSend 0x53 [Config.wrap kek key, 0] []).startSync
    else s.updPair fun p => { p with settKek := some kek }

/-- The exchange during a rotation in M3 (R317, R373): controller 0 draws the new key, and sends it under SETT_KEK. -/
def State.rotateKey (kek : Nat) (k : KeyExMsg) (own : Bool) (s : State) : State :=
  let follow (t : State) : State := t.when (!own) fun u => u.ownRotation
  match k.wrapped with
  | some w => follow (s.startRotation (Config.unwrap kek w))
  | none =>
    if s.self = 0 then
      let key := s.drawn 256
      follow ((s.draw.settSend 0x53 [Config.wrap kek key, 1 - s.enclave.shelfGen % 2] []).startRotation key)
    else s.updPair fun p => { p with settKek := some kek }

/-- KEY_EXCHANGE (R317, R373): the partner's part of the exchange. A bad signature refuses the pairing. -/
def execKeyExchange (k : KeyExMsg) (s : State) : Res :=
  .next (if s.pair.pairStep = 3 then
    s.settIn 0x53 fun t =>
      if k.sigGood = false then t.refusePair 0x0604
      else
        let kek := match t.pair.settKek with
          | some x => x
          | none => t.deriveKek (t.pair.ephemeral.getD 0) k.pubKey
        t.exchangeKey kek k
  else if s.paired ∧ s.enclave.rotating = false then
    s.settIn 0x53 fun t =>
      if k.sigGood = false then t.updPair fun p => { p with ephemeral := none, settKek := none }
      else
        let own := t.ccp.jobs.any fun j => decide (j.2.jState = 1) && decide (j.2.opcode = 0x3B)
        let u := if t.pair.ephemeral.isNone then t.startExchange else t
        let kek := match u.pair.settKek with
          | some x => x
          | none => u.deriveKek (u.pair.ephemeral.getD 0) k.pubKey
        u.rotateKey kek k own
  else s)

/-- The quorum drives: the journal drives of the lowest-numbered pool online (R383). -/
def State.quorumSlots (s : State) : List Nat :=
  match (List.range 8).find? s.poolOnline with
  | some n => s.journalDrives n
  | none => []

/-- The block written at the switch: STATE 0x01, the new epoch and TERM + 1, both DEVICE_IDs (R372, R384). -/
def State.pairedBlock (s : State) (epoch : Nat) : QBlock :=
  { qState := 1, holder := 0, epoch := epoch, term := (s.qbTop.term + 1) % 2 ^ 64
    dev0 := if s.self = 0 then s.fuses.deviceId else s.pair.partnerId, dev1 := if s.self = 0 then s.pair.partnerId else s.fuses.deviceId }

/-- Both controllers enter M3 with one epoch, above both journal epochs; beats and silence timers begin (R45, R173, R372, R381). -/
def State.enterPaired (epoch : Nat) (b : QBlock) (s : State) : State :=
  let t := ((s.applyEpoch epoch).enterMode .m3 0x11).recomputePs
  (t.updPair fun p => { p with
    state := 3, pairStep := 0, hello := none, lost := false, quorum := none, beatsStopped := false, beatSeq := 0, lastBeatSent := s.now
    lastBeat := s.now, lastSett := s.now, lastNet := s.now, qbHeld := 0, qbSlots := s.quorumSlots, qbKnown := [(0, b), (1, b), (2, b)] }).updCons
    fun c => { c with fenced := false, fenceNs := s.now }

/-- This controller has passed what R532 asks of M1 before a service mode; in M2 and M4 it has. -/
def State.switchReady (s : State) : Bool :=
  match s.modes.mode with
  | .m1 => s.boot.storeTestDone && s.boot.linksWaited
  | .m2 => true
  | .m4 => true
  | _ => false

/-- SYNCHRONISATION_END (R372 step 6, R374): every version present at the start has been copied or released and the last copies are confirmed: the
quorum blocks are written by S with STATE 0x01, S owns every extent, and both enter M3. `block` is what S wrote, as J learns it. -/
def execSynchronisationEnd (block : QBlock) (s : State) : Res :=
  .next (if s.pair.pairStep ≠ 5 ∨ s.switchReady = false then s
  else
    let e := max s.cons.epoch s.pair.partnerEpoch + 1
    if s.pair.serving then
      if s.layout.syncLeft ≠ [] ∨ s.pair.classes.any (fun c => decide (c.1 = 2 ∨ c.1 = 4) && !c.2.unacked.isEmpty) then s
      else
        let b := s.pairedBlock e
        ((s.enterPaired e b).writeQuorum b).settle
    else
      (s.enterPaired e block).updCons fun c => { c with extents := tmap (fun _ x => { x with owner := s.other }) c.extents })

/-- SETT_LINK_UP (R365, R372): a bundle is up; with the first, sequence numbers begin at 1 where no frame is kept for a partner in M3, and the pairing
hello goes out. -/
def execSettLinkUp (bundle : Nat) (s : State) : Res :=
  bounded (decide (bundle < 2))
    (if s.modes.mode = .m0 ∨ s.bundleUp bundle then s
    else
      let t := s.when (!s.settUp && !s.paired) fun u => u.updPair fun p => { p with classes := [] }
      let u := t.updPair fun p => if bundle = 0 then { p with settA := true, lastSett := s.now } else { p with settB := true, lastSett := s.now }
      u.wakeIdle.startPairing)

/-! ### Shadows kept for the partner (R375 to R380) -/

/-- Time fields that come from the partner are converted into the own time base (R544). -/
def State.fromPartnerNs (s : State) (t : Nat) : Nat := ((t : Int) - s.pair.timeOffset).toNat

/-- CONNECTION_SHADOW (R375, R377): kept by index; a push shadow and positions already held of the same life of the index stay. -/
def execConnectionShadow (index : Nat) (shadow : ConnShadow) (s : State) : Res :=
  bounded (decide (index < 2097152))
    (if s.mirrorsIn = false then s else s.settIn 0x40 fun t =>
      t.updPair fun p =>
        let held : ConnShadow := match tfind p.conns index with
          | some h => if h.ctx.ctxGen = shadow.ctx.ctxGen then { shadow with pushCount := h.pushCount, pushSize := h.pushSize } else shadow
          | none => shadow
        { p with conns := tput p.conns index held })

/-- Read entries of the partner's reads whose replay records have closed leave the overlap table (R165, R194). -/
def State.closeReplays (gone : List Replay) (s : State) : State :=
  if gone.isEmpty then s
  else
    let t := s.updCons fun c => { c with ovl := c.ovl.filter fun e => !(decide (e.2.kind = 1) && decide (e.2.holder = s.other) &&
      gone.any fun r => decide (r.handle = e.2.handle) && decide (r.stamp = e.2.stamp)) }
    (t.releaseCovered).drainAll.settle

/-- POSITION_UPDATE (R375, R380, R165): the confirmed positions of a connection of the partner; replay records whose response it acknowledges close. -/
def execPositionUpdate (index : Nat) (msn : Nat) (rcvPos : Nat) (sndPos : Nat) (s : State) : Res :=
  bounded (decide (index < 2097152))
    (if s.mirrorsIn = false then s else s.settIn 0x41 fun t =>
      let h := tget {} t.pair.conns index
      let c := h.ctx
      let closes (r : Replay) : Bool := decide (r.ctx = index) && decide (r.ctxGen = c.ctxGen) && posLe c r.respPos sndPos && decide (r.respPos ≠ sndPos) &&
        posLe c r.pos rcvPos && decide (r.pos ≠ rcvPos)
      let gone := t.pair.replays.filter closes
      (t.updPair fun p => { p with
        conns := tadj index (fun x => { x with ctx := { x.ctx with msn := msn }, rcvPos := BitVec.ofNat 32 rcvPos, sndPos := BitVec.ofNat 32 sndPos }) p.conns
        replays := p.replays.filter fun r => !closes r }).closeReplays gone)

/-- COMMAND_SHADOW (R375, R378): kept by the partner's slot, in the order of arrival. -/
def execCommandShadow (slot : Nat) (shadow : CmdShadow) (s : State) : Res :=
  bounded (decide (slot < 262144))
    (if s.mirrorsIn = false then s else s.settIn 0x42 fun t =>
      t.updPair fun p => { p with cmds := tput p.cmds slot { shadow with order := (p.cmds.foldl (fun m e => max m e.2.order) 0) + 1 } })

/-- STAMP_UPDATE (R375, R376): a write's stamp and the send record of its data fetch. -/
def execStampUpdate (slot : Nat) (stamp : BitVec 64) (send : SendRec) (s : State) : Res :=
  bounded (decide (slot < 262144))
    (if s.mirrorsIn = false then s else s.settIn 0x43 fun t =>
      t.updPair fun p => { p with cmds := tadj slot (fun x => { x with stamp := stamp, state := 4, send := x.send ++ [send] }) p.cmds })

/-- SEND_RECORD (R375, R379). -/
def execSendRecord (slot : Nat) (send : SendRec) (s : State) : Res :=
  bounded (decide (slot < 262144))
    (if s.mirrorsIn = false then s else s.settIn 0x44 fun t =>
      t.updPair fun p => { p with cmds := tadj slot (fun x => { x with send := x.send ++ [send] }) p.cmds })

/-- COMMAND_END (R165, R194, R375, R544): the replay record takes the place of the command's shadow and stamp record; READ_PIN_MS of the read's entry here
runs from now, or the entry leaves where no data was returned. -/
def execCommandEnd (slot : Nat) (rec : Replay) (s : State) : Res :=
  bounded (decide (slot < 262144))
    (if s.mirrorsIn = false then s else s.settIn 0x45 fun t =>
      let r : Replay := { rec with openedNs := t.fromPartnerNs rec.openedNs }
      let u := (t.updPair fun p => { p with cmds := tdel p.cmds slot, replays := if rec.isOpen then p.replays ++ [r] else p.replays }).updCons fun c =>
        { c with stampRecs := tdel c.stampRecs slot }
      if readKind rec.opcode ∧ rec.stamp ≠ 0 then
        if rec.isOpen ∧ rec.status = 0 then u.pinReads rec.handle rec.stamp else u.closeReplays [r]
      else u)

/-- FABRIC_CONTROLLER_SHADOW (R375): kept by CNTLID; one that is not live is deleted. -/
def execFabricControllerShadow (cntlid : Nat) (fab : FabCtrl) (s : State) : Res :=
  bounded (decide (cntlid < 32769))
    (if s.mirrorsIn = false then s else s.settIn 0x46 fun t =>
      t.updPair fun p => { p with fabs := if fab.live then tput p.fabs cntlid fab else tdel p.fabs cntlid })

/-- PUSH_SHADOW (R375): the window configuration of a connection. -/
def execPushShadow (index : Nat) (count : Nat) (size : Nat) (s : State) : Res :=
  bounded (decide (index < 2097152))
    (if s.mirrorsIn = false then s else s.settIn 0x47 fun t =>
      t.updPair fun p => { p with conns := tadj index (fun x => { x with pushCount := count, pushSize := size }) p.conns })

end Sys2Proof.Machine
end

