-- ==== Sys2Proof/Machine/Rebuild.lean ====
section
/-! DEFINITION. Meanings of the commands of rebuild, resynchronisation, copy-back, reshape and the Badger patrol (R238 to R271, R288). -/
namespace Sys2Proof.Machine

/-! ### Members, rebuild, resynchronisation, copy-back (R239, R243 to R254) -/

/-- MISSING_WAIT_EXPIRY (R239): a member whose timer runs fails. -/
def execMissingWaitExpiry (pool slot : Nat) (s : State) : Res :=
  bounded (decide (pool < 8) && decide (slot < 64))
    (if s.memberState pool slot = 1 ∧ thas (s.pool pool).missingNs slot then s.failMember pool slot 2 else s)

/-- A stripe has been rebuilt: its chunks count as rebuilt, and the progress bit of a group follows its last stripe held here (R243). -/
def State.markRebuilt (n stripe : Nat) (slots : List Nat) (s : State) : State :=
  let group := (s.rowOf n stripe).1 / 1024
  let t := s.updPool n fun p => { p with rebuilt := slots.foldl (fun l m => addOne (m, stripe) l) p.rebuilt }
  slots.foldl (fun u m =>
    if (u.groupStripes n m group).all fun st => (u.pool n).rebuilt.contains (m, st) then
      u.updPool n fun p => { p with progress := addOne (m, group) p.progress }
    else u) t

/-- A replacement of an unlisted member has every chunk: it becomes PRESENT (R254). -/
def State.unlistedDone (n slot : Nat) (s : State) : State :=
  if s.memberState n slot = 3 ∧ (s.pool n).replacing.contains slot ∧
    (s.stripesOf n).all (fun st => !s.lockHere n st || (s.posOfSlot n st slot).isEmpty || (s.pool n).rebuilt.contains (slot, st)) then
    s.memberPresent n slot
  else s

/-- REBUILD_STRIPE (R243 to R247, R250): the stripe the pass takes next, its lock taken; the survivors still to be read are asked for,
else its missing chunks are computed and written to their targets. -/
def execRebuildStripe (pool stripe : Nat) (reads : List PosBlock) (s : State) : Res :=
  bounded (decide (pool < 8))
    (if s.mayWork pool = false ∨ s.nextRebuild pool ≠ some stripe then s
    else
      let g := s.takeLock pool stripe 5
      if !g.1 then g.2
      else
        let chunks := s.rebuildChunks pool stripe
        let path := DPath.back (if s.urgent pool then 0 else 1)
        let r := s.restore pool stripe (chunks.map (·.1)) (s.rebuildSlot pool stripe) reads
        let t := g.2.doRestore pool stripe 6 path reads r
        if r.ask ≠ [] then t
        else
          let t1 := (t.markRebuilt pool stripe (chunks.map (·.2))).freeLock pool stripe
          let t2 := (t1.bump cRebuildStripes pool).bumpN cRebuildBytes pool (4160 * (r.again.length + r.under.length))
          (chunks.map (·.2)).foldl (fun u m => u.unlistedDone pool m) t2)

/-- Take the locks of several stripes for a claimant: whether all were granted. -/
def State.takeLocks (n who : Nat) (l : List Nat) (s : State) : Bool × State :=
  l.foldl (fun a st => let g := a.2.takeLock n st who; (a.1 && g.1, g.2)) (true, s)

/-- Release the locks of several stripes. -/
def State.freeLocks (n : Nat) (l : List Nat) (s : State) : State := l.foldl (fun t st => t.freeLock n st) s

/-- Recompute the chunks that a slot holds in some stripes and write them to it (R253, R254): none where locks are waited for or blocks must
still be read. -/
def State.fillSlot (n slot : Nat) (stripes : List Nat) (reads : List StripeRead) (s : State) : Bool × State :=
  let g := s.takeLocks n 5 stripes
  if !g.1 then (false, g.2)
  else
    let of' (st : Nat) : List PosBlock := ((reads.find? fun r => r.stripe = st).map (·.blocks)).getD []
    let rs := stripes.map fun st => (st, s.restore n st (s.posOfSlot n st slot) (fun _ => some slot) (of' st))
    let asked := rs.any fun r => decide (r.2.ask ≠ [])
    let t := (if asked then rs.filter fun r => r.2.ask ≠ [] else rs).foldl (fun u r => u.doRestore n r.1 6 (.back 1) (of' r.1) r.2) g.2
    if asked then (false, t) else (true, t.freeLocks n stripes)

/-- RESYNC_ROW_GROUP (R253): a set row group of a returned member is recomputed; after the last the member is PRESENT. -/
def execResyncRowGroup (pool slot bit : Nat) (reads : List StripeRead) (s : State) : Res :=
  bounded (decide (pool < 8) && decide (slot < 64))
    (let p := s.pool pool
    if s.mayWork pool = false ∨ p.returning.contains slot = false ∨ p.bitmap.contains bit = false ∨ p.resynced.contains (64 * bit + slot) then s
    else
      let stripes := s.groupStripes pool slot bit
      let f := s.fillSlot pool slot stripes reads
      if !f.1 then f.2
      else
        let rows := ((stripes.map fun st => (s.rowOf pool st).1).eraseDups).length
        let t := (f.2.updPool pool fun q => { q with resynced := addOne (64 * bit + slot) q.resynced }).bumpN cResyncRows pool rows
        if (t.pool pool).bitmap.all fun b => (t.pool pool).resynced.contains (64 * b + slot) then t.memberPresent pool slot else t)

/-- The rows in which a member has chunks whose locks are here. -/
def State.memberRows (s : State) (n slot : Nat) : List Nat :=
  (((s.stripesOf n).filter fun st => s.lockHere n st && !(s.posOfSlot n st slot).isEmpty).map fun st => (s.rowOf n st).1).eraseDups

/-- COPYBACK_ROW (R254): a listed member's chunks of a row are copied to its replacement; after the last row it is PRESENT. -/
def execCopybackRow (pool slot row : Nat) (reads : List StripeRead) (s : State) : Res :=
  bounded (decide (pool < 8) && decide (slot < 64))
    (let p := s.pool pool
    if s.mayWork pool = false ∨ s.memberState pool slot ≠ 2 ∨ p.replacing.contains slot = false ∨ p.copied.contains (64 * row + slot) then s
    else
      let stripes := (s.stripesOf pool).filter fun st => decide ((s.rowOf pool st).1 = row) && s.lockHere pool st && !(s.posOfSlot pool st slot).isEmpty
      let f := s.fillSlot pool slot stripes reads
      if !f.1 then f.2
      else
        let t := (f.2.updPool pool fun q => { q with copied := addOne (64 * row + slot) q.copied }).bump cCopybackRows pool
        if (t.memberRows pool slot).all fun r => (t.pool pool).copied.contains (64 * r + slot) then t.memberPresent pool slot else t)

/-- Read reconstructions that wait for a stripe's lock begin (R245). -/
def State.reconBegin (pool stripe : Nat) (s : State) : State :=
  s.cmds.slots.foldl (fun t p =>
    p.2.reads.foldl (fun u r =>
      if r.src = 3 ∧ r.done = false ∧ r.tags = [] ∧ r.got = [] ∧ (s.ns p.2.handle).pool = pool ∧
        (s.placeBlk p.2.handle r.blk).map (·.1) = some stripe then u.reconstruct p.1 r.blk
      else u) t) s

/-- STRIPE_LOCK_GRANT (R245): the unit that has the lock now takes the stripe up; a lock that its unit no longer needs goes on. -/
def execStripeLockGrant (pool stripe : Nat) (s : State) : Res :=
  bounded (decide (pool < 8))
    (match tfind s.layout.locks (stripeKey pool stripe) with
    | some k =>
      if k.holder = 3 then
        (if thas s.layout.destages (stripeKey pool stripe) then s
        else if s.mayDestage ∧ (s.candidates pool).any (fun c => c.1 = stripe) then s.takeStripe pool stripe
        else s.freeLock pool stripe)
      else if k.holder = 4 then ((s.reconBegin pool stripe).reconDone pool stripe).settle
      else s
    | none => s)

/-! ### Reshape (R256 to R261, R268) -/

/-- The rows of a slab in a geometry: first and last. -/
def Geom.slabRows (g : Geom) (q : Nat) : Nat × Nat := (q * g.slabStripes / max 1 g.g, ((q + 1) * g.slabStripes - 1) / max 1 g.g)

/-- Two runs of rows meet. -/
def rowsMeet (a b : Nat × Nat) : Bool := decide (a.1 ≤ b.2) && decide (b.1 ≤ a.2)

/-- The rows that the members of a geometry hold, by their capacities (R206, R227). -/
def State.rowsOf (s : State) (g : Geom) : Nat := g.slots.foldl (fun a m => min a (((s.dport m).blocks - 262144) / 16)) (2 ^ 32)

/-- The lowest slab whose rows meet none of some runs, within `rows`. -/
def Geom.freeSlab (g : Geom) (rows : Nat) (taken : List (Nat × Nat)) : Option Nat :=
  let tries := 0 :: taken.map fun t => ceilDiv ((t.2 + 1) * g.g) (max 1 g.slabStripes)
  let ok (q : Nat) : Bool := decide ((g.slabRows q).2 < rows) && !(taken.any (rowsMeet (g.slabRows q)))
  match tries.filter ok with
  | [] => none
  | x :: xs => some (xs.foldl min x)

/-- The migration plan over the extents not yet moved, in ascending order of old slab, after the new slabs already chosen (R257). -/
def planSteps (og ng : Geom) (rows : Nat) : List (Nat × Nat) → List Nat → Option (List (Nat × Nat × Nat))
  | [], _ => some []
  | e :: rest, chosen =>
    match ng.freeSlab rows (((e :: rest).map fun x => og.slabRows x.2) ++ chosen.map ng.slabRows) with
    | none => none
    | some q => (planSteps og ng rows rest (chosen ++ [q])).map fun l => (e.1, e.2, q) :: l

/-- Insert by slab number. -/
def insertSlab (e : Nat × Nat) : List (Nat × Nat) → List (Nat × Nat)
  | [] => [e]
  | x :: xs => if e.2 ≤ x.2 then e :: x :: xs else x :: insertSlab e xs

/-- The migration plan of a pool (R257). -/
def State.reshapePlan (s : State) (n : Nat) : Option (List (Nat × Nat × Nat)) :=
  let ng := s.geom n true
  planSteps (s.geom n false) ng (s.rowsOf ng) ((s.pool n).slabs.foldr insertSlab []) []

/-- A permutation table holds permutations of the member indexes (R207). -/
def permOk (width log2 : Nat) (perm : Bytes) : Bool :=
  (List.range (2 ^ log2)).all fun q =>
    let row := (perm.drop (64 * q)).take 64
    (List.range width).all (fun m => (row.take width).any fun b => b.toNat == m) && (row.drop width).all fun b => b == 0

/-- The status that a RESHAPE_START finds, 0 where the reshape begins (R256). -/
def State.reshapeStatus (s : State) (n : Nat) : Nat :=
  let g := s.geom n true
  let p := s.pool n
  if g.k < 4 ∨ g.m = 0 ∨ g.width < g.k + g.m + g.spareMin ∨ g.slots.length ≠ g.width ∨ permOk g.width g.permLog2 g.perm = false ∨
    (s.journalDrives n).any (fun d => !g.slots.contains d) then 0x0105
  else if p.pState ≠ 2 ∨ p.reloc ≠ [] ∨ s.quietPool n = false ∨ p.reshape.isSome then 0x0302
  else if (s.reshapePlan n).isNone then 0x0403
  else 0

/-- A reshape begins with its plan (R256, R257). -/
def State.reshapeBegin (n : Nat) (s : State) : State :=
  match s.reshapePlan n with
  | some plan => s.updPool n fun p => { p with
      migrated := [], reshape := some { rState := if s.reshapeCfgPause n = 1 then 2 else 1, stepNo := 0, plan := plan } }
  | none => s

/-- A write of PAUSE reaches a reshape: it stops at the next new-stripe boundary, or goes on (R268). -/
def State.reshapeSetPause (n : Nat) (on : Bool) (s : State) : State :=
  s.updPool n fun p => { p with reshape := p.reshape.map fun r =>
    if r.rState = 3 then r else { r with rState := if on then 2 else 1 } }

/-- The old stripes, with positions and block rows, that the new stripe at index `i` of a slab draws from (R258). -/
def State.drawsFrom (s : State) (n oldSlab i : Nat) : List (Nat × Nat × Nat) :=
  let g := s.geom n true
  ((List.range g.k).map fun j =>
    let d := i * g.k + j
    if d < 16384 then (List.range 16).map fun b => let p := s.place n false oldSlab (16 * d + b); (p.1, p.2.1, b) else []).flatten

/-- The data chunk j, block row b of a new stripe from the old stripes read: what must still be read, or the block (R258). -/
def State.drawBlock (s : State) (n oldSlab i j b : Nat) (reads : List StripeRead) : List (Nat × Nat × Nat) × Bytes × Bool :=
  let d := i * (s.geom n true).k + j
  if d < 16384 then
    let p := s.place n false oldSlab (16 * d + b)
    let blocks := ((reads.find? fun r => r.stripe = p.1).map (·.blocks)).getD []
    let o := s.rowSolve n p.1 b blocks [p.2.1] [] false
    if o.ask ≠ [] then (o.ask.map fun x => (p.1, x, b), [], false)
    else match o.at p.2.1 with
      | some bytes => ([], bytes, false)
      | none => ([], s.markAt n p.1 b p.2.1, true)
  else ([], zeros 4160, false)

/-- Copy one new stripe of the extent (R258 phase 2): its locks and those of the stripes it draws from, the old chunks, the checks, and the
whole stripe under an intent that names the new geometry. False where it waits. -/
def State.copyStripe (n oldSlab newSlab i : Nat) (reads : List StripeRead) (s : State) : Bool × State :=
  let g := s.geom n true
  let stripe := 2 ^ 63 + newSlab * g.slabStripes + i
  let locks := stripe :: ((s.drawsFrom n oldSlab i).map (·.1)).eraseDups
  let l := s.takeLocks n 6 locks
  if !l.1 then (false, l.2)
  else
    let cells := ((List.range 16).map fun b => (List.range g.k).map fun j => (b, j, s.drawBlock n oldSlab i j b reads)).flatten
    let asks := (cells.map fun c => c.2.2.1).flatten
    if asks ≠ [] then (false, asks.foldl (fun t a => t.readStripe n a.1 a.2.1 a.2.2 6 (.back 2)) l.2)
    else
      let data (b : Nat) : List (Nat × Bytes) := (cells.filter fun c => c.1 = b).map fun c => (c.2.1, c.2.2.2.1)
      let ws := ((List.range 16).map fun b => (data b ++ checksOf g (data b)).map fun e => ({ pos := e.1, row := b, bytes := e.2 } : PosWrite)).flatten
      let t := (cells.filter fun c => c.2.2.2.2).foldl (fun u c =>
        let p := s.place n false oldSlab (16 * (i * g.k + c.2.1) + c.1)
        u.enterRow n p.1 c.1 [p.2.1]) l.2
      let seq := (t.pool n).nextSeq
      let t1 := t.journal n { kind := 1, flags := 1, rows := 0xFFFF, mask := bitMask (List.range g.w), stripe := stripe }
      let t2 := ((t1.writeAll n stripe 6 (seq % 2 ^ 32) (.back 2) ws).journal n { kind := 2, arg := seq }).bump cReshapeStripes n
      (true, t2.freeLocks n locks)

/-- Phase 3 of R258: the extent's slab-map entry names its new slab, and is written to every present member. -/
def State.commitSlab (n rec newSlab : Nat) (s : State) : State :=
  let t := s.updPool n fun p => { p with slabs := tput p.slabs rec newSlab, migrated := addOne rec p.migrated }
  ((s.geom n false).slots.filter fun m => s.memberState n m = 0).foldl (fun u m =>
    u.route n (.back 2) { slot := m, op := 1, lba := 80 + rec / 256, blocks := 1, owner := 7, blk := rec }) t

/-- Phase 4 of R258: zeros over the chunks of the old slab. -/
def State.zeroSlab (n slab : Nat) (s : State) : State :=
  let g := s.geom n false
  (List.range g.slabStripes).foldl (fun t i =>
    let st := slab * g.slabStripes + i
    (List.range g.w).foldl (fun u p => match s.chunkSlot n st p with
      | some m => u.route n (.back 2) { slot := m, op := 2, lba := rowLba (s.rowOf n st).1 0, blocks := 16, owner := 6, pos := p }
      | none => u) t) s

/-- A reshape has ended: the target geometry is the pool's, labels are written to its members and wiped on those that left, and the reshape
objects are clear (R259). -/
def State.reshapeEnd (n : Nat) (s : State) : State :=
  let old := s.geom n false
  let new := s.geom n true
  let cfg := setBits (setBits (setBits (setBits (setBits (s.word (oid 5 1 n)) 63 59 new.k) 58 57 new.m) 56 50 new.width) 49 48 new.spareMin) 47 44 new.permLog2
  let left := old.slots.filter fun m => !new.slots.contains m
  let t := (((s.setWord (oid 5 1 n) cfg).setWord (oid 5 2 n) (s.word (oid 5 11 n))).setWord (oid 5 10 n) 0x0001000000000000).setWord (oid 5 11 n) 0
  let t1 := t.updBlobs fun b => tdel (tput b (oid 5 4 n) new.perm) (oid 5 12 n)
  let t2 := t1.updPool n fun p => { p with
    reshape := none, migrated := [], members := tkeep (fun m _ => !left.contains m) p.members
    rebuilt := p.rebuilt.map fun e => (e.1, e.2 % 2 ^ 63) }
  let t3 := new.slots.foldl (fun u m => u.submit 0 { slot := m, op := 1, lba := 0, blocks := 16, owner := 7 }) t2
  let t4 := left.foldl (fun u m => (u.submit 0 { slot := m, op := 2, lba := 0, blocks := 16, owner := 7 }).updDport m fun d => { d with label := none }) t3
  t4.raise 0x0506 n n

/-- Change the reshape of a pool. -/
def State.updReshape (n : Nat) (f : ReshapeOp → ReshapeOp) (s : State) : State :=
  s.updPool n fun p => { p with reshape := p.reshape.map f }

/-- One advance of a reshape (R258, R259): hold, copy the next new stripe, commit, release; after the last step the end. False where it
waits. -/
def State.reshapeAdvance (n : Nat) (reads : List StripeRead) (s : State) : Bool × State :=
  match (s.pool n).reshape with
  | none => (false, s)
  | some r =>
    if r.rState ≠ 1 ∨ s.mayWork n = false ∨ s.modes.psBadgerPaused then (false, s)
    else match (r.plan.drop r.stepNo).head? with
      | none =>
        let busy := s.layout.destages.any (fun d => decide (d.1 / 2 ^ 64 = n)) || s.layout.locks.any fun k => decide (k.1 / 2 ^ 64 = n)
        if busy then (false, s) else (false, s.reshapeEnd n)
      | some (rec, old, new) =>
        let inOld (st : Nat) : Bool := decide (inNew st = false) && decide (st / max 1 (s.geom n false).slabStripes = old)
        if s.ownerOf rec ≠ s.self then (false, (s.commitSlab n rec new).updReshape n fun x => { x with stepNo := x.stepNo + 1, phase := 0, stripes := 0 })
        else if r.phase = 0 then (true, s.updReshape n fun x => { x with phase := 1, stripes := 0 })
        else if r.phase = 1 then
          (if s.layout.destages.any fun d => decide (d.1 / 2 ^ 64 = n) && inOld (d.1 % 2 ^ 64) then (false, s)
          else (true, s.updReshape n fun x => { x with phase := 2 }))
        else if r.phase = 2 then
          (if r.stripes < (s.geom n true).slabStripes then
            let c := s.copyStripe n old new r.stripes reads
            if c.1 then (true, c.2.updReshape n fun x => { x with stripes := x.stripes + 1 }) else c
          else (true, (s.commitSlab n rec new).updReshape n fun x => { x with phase := 3 }))
        else (false, (s.zeroSlab n old).updReshape n fun x => { x with stepNo := x.stepNo + 1, phase := 0, stripes := 0 })

/-- Advance a reshape until it waits, at most `k` times. -/
def State.reshapeRun (n : Nat) (reads : List StripeRead) : Nat → State → State
  | 0, s => s
  | k + 1, s => let a := s.reshapeAdvance n reads; if a.1 then State.reshapeRun n reads k a.2 else a.2

/-- RESHAPE_STEP (R258 to R260): the current extent goes as far as the old stripes read allow; what must still be read is asked for. At a
controller that does not own the extent the step is its owner's commit, which has reached this copy of the slab map. -/
def execReshapeStep (pool : Nat) (reads : List StripeRead) (s : State) : Res :=
  bounded (decide (pool < 8)) (s.reshapeRun pool reads ((s.geom pool true).slabStripes + 4))

/-! ### Badger (R262 to R265, R288) -/

/-- The patrol may run in a pool (R52, R262). -/
def State.badgerRuns (s : State) (n : Nat) : Bool :=
  s.mayWork n && decide (s.badgerCfgBadgerEn = 1) && !s.modes.psBadgerPaused && !s.urgent n

/-- The block needs re-encryption: its generation is being swept and its namespace has an ACTIVE one (R288). -/
def State.sweepsBlock (s : State) (h : Nat) (b : Bytes) : Bool :=
  !unwritten b && decide ((s.ns h).keying ≠ 0) && !(wordOf b).testBit 57 && ((s.ns h).genIn 2).isSome &&
    (match tfind (s.ns h).gens (genOf b) with
    | some g => g.sweeping
    | none => false)

/-- Re-encrypt a block under the ACTIVE generation with a new counter; STAMP and LOC_TAG stay (R288). None where its key or a counter is not
at hand, or its tag fails. -/
def State.reEncrypt (h blk : Nat) (b : Bytes) (s : State) : Option Bytes × State :=
  match s.openBlock h blk b with
  | .good plain =>
    match s.takeCtr h with
    | (.ready g c, t) => (some (t.encryptAt h blk (stampOf b) g c plain), t.bump cSweepBlocks h)
    | (_, t) => (none, t)
  | .waitKey g => (none, s.askKey h g)
  | _ => (none, s)

/-- What Badger does with one block row: writes that need an intent, writes in place, lost positions, and how many blocks it repaired and how
many checks it fixed (R263, R264). -/
structure Patrolled where
  /-- blocks still to be read -/
  ask : List Nat := []
  /-- repairs in place -/
  inPlace : List PosWrite := []
  /-- repairs and rewrites under an intent -/
  under : List PosWrite := []
  /-- lost data positions -/
  lost : List Nat := []
  /-- markers found -/
  marked : List Nat := []
  /-- blocks repaired -/
  repaired : Nat := 0
  /-- checks recomputed -/
  fixed : Nat := 0
  deriving DecidableEq, Repr

/-- Badger's checks of one block row, and its repairs (R263, R264): every block that is there is read and checked; checks 6 and 7 follow where
every data block is good. -/
def State.patrolRow (s : State) (n stripe row : Nat) (reads : List PosBlock) : Patrolled :=
  let g := s.geom n (inNew stripe)
  let here := reads.filter fun r => r.row = row
  let present := (List.range g.w).filter fun p => (s.chunkSlot n stripe p).isSome
  let unread := present.filter fun p => !(here.any fun r => r.pos = p)
  if unread ≠ [] then { ask := unread }
  else
    let tags := decide (s.badgerCfgTagCheck = 1)
    let named (p : Nat) := s.blkAt n stripe p row
    let entry (p : Nat) : Option PosBlock := here.find? fun r => r.pos = p
    let untagged := here.map fun r => { r with tagGood := true }
    let tagBad := present.filter fun p => decide (p < g.k) && (match entry p with
      | some r => tags && readGood g.k (named p) false r && !readGood g.k (named p) true r
      | none => false)
    let kept := untagged.filter fun r => !tagBad.contains r.pos
    let failed := kept.map fun r => r
    let dropped := (here.filter fun r => tagBad.contains r.pos).map fun r => { r with readable := false }
    let o := s.rowSolve n stripe row (failed ++ dropped) present [] false
    let marked := present.filter fun p => decide (p < g.k) && (match entry p, named p with
      | some r, some (h, b) => r.readable && isMarker h b r.bytes
      | _, _ => false)
    let wrong := tagBad.filter fun p => match entry p, o.at p with
      | some r, some b => decide (covered r.bytes = covered b)
      | _, _ => false
    let lost := (o.lost ++ wrong).eraseDups
    if lost ≠ [] then
      { under := s.lostRow n stripe row ((o.data g.k).filter fun e => !lost.contains e.1) lost (s.destOr n stripe), lost := lost, marked := marked }
    else
      let gen := o.newestGen g.k
      let fixes := o.bad.filterMap fun p => (o.at p).map fun b => ({ pos := p, row := row, bytes := b, gen := some gen } : PosWrite)
      let whole := (List.range g.k).all fun j => o.bad.contains j = false && present.contains j
      let want := checksOf g (o.data g.k)
      let off := if whole then want.filter fun c => match entry c.1 with
          | some r => decide (covered r.bytes ≠ covered c.2) || ((o.data g.k).any fun d => !unwritten d.2 && genBefore (stripeGen r.bytes) (stripeGen d.2))
          | none => false
        else []
      if off.any fun c => !o.bad.contains c.1 then
        { under := off.map (fun c => { pos := c.1, row := row, bytes := c.2 }), marked := marked, repaired := 0
          fixed := (off.filter fun c => !o.bad.contains c.1).length, inPlace := fixes.filter fun w => !(off.any fun c => c.1 = w.pos) }
      else { inPlace := fixes, marked := marked, repaired := fixes.length }

/-- The blocks of a row that a sweep rewrites: position, namespace, stored block and bytes. -/
def State.sweepRowBlocks (s : State) (n stripe row : Nat) (reads : List PosBlock) : List (Nat × Nat × Nat × Bytes) :=
  let k := (s.geom n (inNew stripe)).k
  (reads.filter fun r => decide (r.row = row) && decide (r.pos < k)).filterMap fun r =>
    match s.blkAt n stripe r.pos row with
    | some (h, b) => if readGood k (some (h, b)) true r && s.sweepsBlock h r.bytes then some (r.pos, h, b, r.bytes) else none
    | none => none

/-- Re-encrypt the swept blocks of a good row and write them back with the row's checks under an intent (R288). False where a key or a counter is
waited for. -/
def State.sweepRowNow (n stripe row : Nat) (reads : List PosBlock) (s : State) : Bool × State :=
  let g := s.geom n (inNew stripe)
  let todo := s.sweepRowBlocks n stripe row reads
  if todo = [] then (true, s)
  else
    let r := todo.foldl (fun (a : List (Nat × Bytes) × State) x =>
      let e := a.2.reEncrypt x.2.1 x.2.2.1 x.2.2.2
      match e.1 with
      | some b => (a.1 ++ [(x.1, b)], e.2)
      | none => (a.1, e.2)) ([], s)
    let o := s.rowSolve n stripe row reads (List.range g.k) [] false
    let data := (o.data g.k).map fun d => ((r.1.find? fun e => e.1 = d.1).getD d)
    let ws := (r.1 ++ checksOf g data).map fun e => ({ pos := e.1, row := row, bytes := e.2 } : PosWrite)
    let h := (todo.head?.map fun x => x.2.1).getD 0
    (decide (r.1.length = todo.length), if r.1 = [] then r.2 else r.2.repairUnder n stripe 6 (.sweep (s.ns h).tenant) ws)

/-- Badger has done with a stripe: a hot group leaves the list after its last stripe, and the cursor moves past a stripe at it (R262, R265). -/
def State.patrolled (n stripe : Nat) (hot : Bool) (s : State) : State :=
  let group := (s.rowOf n stripe).1 / 1024
  let last := (s.stripesOf n).all fun st => !(decide ((s.rowOf n st).1 / 1024 = group) && s.lockHere n st && s.patrolBefore n stripe st)
  let t := s.when (hot && last) fun u => u.updPool n fun p => { p with hot := dropOne group p.hot }
  if s.cursorStripe n = some stripe then t.cursorPast n stripe else t

/-- BADGER_STRIPE (R262 to R265, R288): a stripe of a hot row group or the stripe at the cursor, under its lock; its blocks are checked and
repaired, and blocks of a swept generation re-encrypted. -/
def execBadgerStripe (pool stripe : Nat) (reads : List PosBlock) (s : State) : Res :=
  bounded (decide (pool < 8))
    (let group := (s.rowOf pool stripe).1 / 1024
    let hot := (s.pool pool).hot.contains group && (s.stripesOf pool).contains stripe && s.lockHere pool stripe
    if s.badgerRuns pool = false ∨ (hot = false ∧ s.cursorStripe pool ≠ some stripe) then s
    else
      let g := s.takeLock pool stripe 7
      if !g.1 then g.2
      else
        let rows := (List.range 16).map fun b => (b, s.patrolRow pool stripe b reads)
        if rows.any fun r => r.2.ask ≠ [] then
          rows.foldl (fun t r => r.2.ask.foldl (fun u p => u.readStripe pool stripe p r.1 6 (.back 3)) t) g.2
        else
          let t := rows.foldl (fun u r =>
            let u1 := (u.enterRow pool stripe r.1 (r.2.marked ++ r.2.lost)).writeAll pool stripe 6 0 (.back 3) r.2.inPlace
            ((u1.repairUnder pool stripe 6 (.back 3) r.2.under).bumpN cBadgerRepaired pool r.2.repaired).bumpN cBadgerCheckFixed pool r.2.fixed)
              ((g.2.hotIfBad pool stripe reads).bumpN cBadgerBlocks pool reads.length)
          let clean (r : Nat × Patrolled) : Bool := r.2.inPlace.isEmpty && r.2.under.isEmpty
          let w := (rows.filter clean).foldl (fun (a : Bool × State) r =>
            let x := a.2.sweepRowNow pool stripe r.1 reads
            (a.1 && x.1, x.2)) (rows.all fun r => clean r || (s.sweepRowBlocks pool stripe r.1 reads).isEmpty, t)
          let u := w.2.freeLock pool stripe
          if w.1 then u.patrolled pool stripe hot else u)

/-- SWEEP_START (R288): no version of the larder or mirror larder carries the generation, and the namespace has an ACTIVE one: the sweep begins
at the patrol cursor. -/
def execSweepStart (handle gen : Nat) (s : State) : Res :=
  bounded (decide (handle < 16384) && decide (gen < 256))
    (let n := s.ns handle
    let carries (t : Tbl Version) : Bool := t.any fun v => decide (v.2.handle = handle) && !v.2.dealloc && decide (bits (leField v.2.trailer 16 8) 55 48 = gen)
    match tfind n.gens gen with
    | some g =>
      if g.gState = 4 ∧ g.sweeping = false ∧ (n.genIn 2).isSome ∧ carries s.layout.larder = false ∧ carries s.layout.mirror = false then
        s.updGen handle gen fun x => { x with
          sweeping := true, sweepWait := false, sweepRow := (s.pool n.pool).badgerRow, sweepWrapped := false, sweepHere := false }
      else s
    | none => s)

end Sys2Proof.Machine
end

