-- ==== Sys2Proof/Machine/Drives.lean ====
section
/-! DEFINITION. The commands of the drive ports (R402 to R425, R559): bring-up, the inbound filter, completions and timeouts, containment and
release. -/
namespace Sys2Proof.Machine

/-! ### Faults and failed reads -/

/-- A drive is a journal drive of a pool or a quorum drive (R232, R383). -/
def State.keyDrive (s : State) (slot : Nat) : Bool :=
  s.pair.qbSlots.contains slot || match s.poolOfSlot slot with
    | some n => (s.journalDrives n).contains slot
    | none => false

/-- Report a drive fault of R395: 0x0E where it is a journal or quorum drive. -/
def State.driveFault (slot code : Nat) (s : State) : State := s.singleFault (if s.keyDrive slot then 0x0E else code)

/-- The reading of a stored block by a command, while it is still wanted. -/
def State.readOf (s : State) (n blk : Nat) : Option BlkRead :=
  if 5 ≤ (s.slot n).state then none else (s.slot n).reads.find? fun r => r.blk = blk && !r.done

/-- The read of one position for a reconstruction has ended, with nothing where it failed; with the last one in, the block is computed from
the others of its row (R37, R290). A read that could not be read again is beyond its checks. -/
def State.partIn (n blk pos : Nat) (bytes : Bytes) (s : State) : State :=
  match s.readOf n blk, s.placeBlk (s.slot n).handle blk with
  | some r, some (stripe, j, row) =>
    if r.src ≠ 3 ∨ r.tags.any (fun e => e.1 = pos) = false then s
    else
      let pool := (s.ns (s.slot n).handle).pool
      let tags := r.tags.filter fun e => e.1 ≠ pos
      let got := r.got ++ [(pos, bytes)]
      let t := s.updRead n blk fun x => { x with tags := tags, got := got }
      if tags ≠ [] then t
      else
        let reads : List PosBlock := got.map fun e => { pos := e.1, row := row, readable := decide (e.2 ≠ []), bytes := e.2 }
        let o := t.rowSolve pool stripe row ({ pos := j, row := row, readable := false } :: reads) [j] [] false
        let u := t.hotIfBad pool stripe reads
        let v := match o.at j with
          | some b => u.blockIn n blk true b
          | none => u.blkFailed n
        v.reconDone pool stripe
  | _, _ => s

/-- A drive command has failed, timed out or been contained (R411, R416): a host read or partial-write source is reconstructed, a read
reconstruction goes on without the block, and a preempt is waited for no longer. The issuer of any other command learns it from the drive's
state. -/
def State.cmdLost (c : DriveCmd) (s : State) : State :=
  if c.owner = 0 ∨ c.owner = 8 then
    match s.readOf c.cslot c.blk with
    | some r => if r.src = 0 then s.reconstruct c.cslot c.blk else s
    | none => s
  else if c.owner = 1 then s.partIn c.cslot c.blk c.pos []
  else if c.owner = 5 then s.updPair fun p => { p with preempts := dropOne c.slot p.preempts }
  else s

/-! ### Containment and release (R414 to R418) -/

/-- Change one slot supervisor. -/
def State.updSlotPwr (n : Nat) (f : SlotPwr → SlotPwr) (s : State) : State :=
  s.updPower fun p => { p with slots := tmod {} n f p.slots }

/-- One slot supervisor. -/
def State.slotPwr (s : State) (n : Nat) : SlotPwr := tget {} s.power.slots n

/-- The releases of a port begun within the last 10 min. -/
def State.recentReleases (s : State) (slot : Nat) : List Nat := (s.dport slot).releases.filter fun t => decide (s.now < t + sec 600)

/-- Event 0x0A01: slot, state and cause (R496). -/
def State.portEvent (slot : Nat) (s : State) : State :=
  s.raise 0x0A01 slot (slot + 256 * (s.dport slot).dState + 65536 * (s.dport slot).lastCause)

/-- Begin a release: DRV_PERST_N asserted for 1 ms (R418). -/
def State.startRelease (slot : Nat) (s : State) : State :=
  let t := (s.updDport slot fun p => { p with dState := 6, releases := s.now :: s.recentReleases slot, speed := 0, width := 0, enumStep := 0 }).bump
    cReleases slot
  t.updSlotPwr slot fun p => { p with perstHigh := false }

/-- The commands of a drive: those outstanding, then those that wait at its dispatch point. -/
def State.cmdsOf (s : State) (slot : Nat) : List DriveCmd :=
  let d := s.sched 1 slot
  ((s.dport slot).tags.filter fun t => t.2.tState = 1).map (fun t => t.2.cmd) ++
    ((d.strict.map fun q => q.2.map (·.cmd)).flatten ++ (d.tenants.map fun q => q.2.items.map (·.cmd)).flatten)

/-- The queues of a drive's dispatch point are emptied: what a contained port had waiting is taken like what was outstanding. -/
def State.clearDispatch (slot : Nat) (s : State) : State :=
  s.updSched 1 slot fun d => { d with strict := [], tenants := tmap (fun _ q => { q with items := [] }) d.tenants }

/-- The actions of R416: every command of the port fails or is not done, every tag is freed, and the member becomes MISSING. -/
def State.dropDrive (slot : Nat) (s : State) : State :=
  let lost := s.cmdsOf slot
  let t := (s.updDport slot fun p => { p with tags := [], adminCids := [], inL1 := false, unresponsive := false }).clearDispatch slot
  (lost.foldl (fun u c => u.cmdLost c) t).memberMissing slot

/-- What follows a containment: the port is declared failed where RELEASE_MAX releases have begun within 10 min; firmware releases it where R418
permits, else it is HELD. A drive removed is left to the slot supervisor. -/
def State.afterContain (slot cause : Nat) (s : State) : State :=
  let spent := decide (s.drivePortCfgReleaseMax slot ≤ (s.recentReleases slot).length)
  let t := s.when spent fun u => match u.poolOfSlot slot with
    | some n => u.failMember n slot 3
    | none => u
  if cause = 7 then t
  else if spent = false ∧ s.drivePortCfgAutoRelease slot = 1 ∧ cause ≠ 2 ∧ cause ≠ 8 then t.startRelease slot
  else (t.updDport slot fun p => { p with dState := 7 }).portEvent slot

/-- Contain a port that is UP (R415, R416), then decide on its release (R418). -/
def State.contain (slot cause : Nat) (s : State) : State :=
  if (s.dport slot).dState ≠ 4 then s
  else
    let t := (s.updDport slot fun p => { p with dState := 5, lastCause := cause, speed := 0, width := 0 }).bump cContainEvents (8 * slot + cause - 1)
    let u := (t.dropDrive slot).when (decide (cause = 6) || decide (cause = 7)) fun v => v.driveFault slot 0x0D
    (u.afterContain slot cause).settle

/-- A step of bring-up has failed: ENUM_FAILED and event 0x0A01 (R405). -/
def State.enumFail (slot : Nat) (s : State) : State :=
  (((s.updDport slot fun p => { p with dState := 8, enumStep := 0, tags := [], adminCids := [] }).clearDispatch slot).bump cEnumFail slot).portEvent slot

/-! ### Bring-up (R405 to R407, R241, R559) -/

/-- DRIVE_PORT_BRINGUP (R405 step 1, R420): an enabled port whose slot has power and whose DRV_PERST_N is deasserted begins link training. -/
def execDrivePortBringup (slot : Nat) (s : State) : Res :=
  bounded (decide (slot < 64))
    (let p := s.dport slot
    if s.portExists slot ∧ s.drivePortCfgPortEn slot = 1 ∧ p.dState ≤ 1 ∧ (s.slotPwr slot).pState = 5 ∧ (s.slotPwr slot).perstHigh then
      s.updDport slot fun q => { q with dState := 2, enumStep := 2 }
    else s)

/-- What the controller asks of a drive's reservation at step 7 (R559): 1 register with DEVICE_ID, 2 acquire, 3 preempt and abort. -/
def State.resCmd (slot what : Nat) (s : State) : State := s.driveAdmin slot [7, what, s.fuses.deviceId]

/-- Whether R559 makes the registration of step 7. -/
def State.registers (s : State) : Bool := decide (s.pairCfgPairEn = 1) || decide (s.modes.mode = .m4)

/-- The reservation is acquired. -/
def State.acquire (slot : Nat) (s : State) : State := (s.updDport slot fun p => { p with reserved := true }).resCmd slot 2

/-- R559 at step 7; answers whether the step ends now. In M3 controller 1 waits for controller 0 where no reservation is held. -/
def State.register (slot : Nat) (i : EnumInfo) (s : State) : Bool × State :=
  if s.registers = false then (true, s)
  else
    let t := (s.updDport slot fun p => { p with registered := true }).resCmd slot 1
    if s.paired then
      if i.resHeld then (true, t) else if s.self = 0 then (true, t.acquire slot) else (false, t)
    else if s.modes.mode = .m4 then
      (true, (t.when (!i.resHeld) fun u => u.acquire slot).when i.partnerReg fun u => u.resCmd slot 3)
    else (true, t)

/-- The drive found in a slot (R241): its own label brings a MISSING member back, or fills a failed one like a replacement; no label and a good
format fill a failed member; any other drive is not used, and an event says so. -/
def State.driveFound (slot : Nat) (i : EnumInfo) (s : State) : State :=
  match s.poolOfSlot slot with
  | some n =>
    let m := s.memberState n slot
    let own := i.labelCurrent && i.label == some (n, slot)
    if m = 1 ∧ own then s.memberReturns n slot
    else if 2 ≤ m ∧ (own ∨ (i.label = none ∧ i.formatOk)) then s.memberReplaced n slot
    else s.when (s.poolOnline n && !(own && decide (m = 0))) fun t => t.raise 0x0503 slot slot
  | none => s.when s.inService fun t => t.raise 0x0503 slot slot

/-- DRIVE_ENUM_STEP_COMPLETE (R404 to R407): the step running ends, and the next begins; after step 8 the port is UP. -/
def execDriveEnumStepComplete (slot : Nat) (info : EnumInfo) (s : State) : Res :=
  bounded (decide (slot < 64))
    (let p := s.dport slot
    if p.dState ≠ 2 ∧ p.dState ≠ 3 then s
    else if info.good = false then s.enumFail slot
    else match p.enumStep with
      | 2 => (s.updDport slot fun q => { q with dState := 3, enumStep := 3, speed := info.speed, width := info.width }).updDrives fun d =>
          { d with laneReverse := if info.reversed then d.laneReverse ||| BitVec.ofNat 16 (2 ^ (slot / 4)) else d.laneReverse &&& ~~~BitVec.ofNat 16 (2 ^ (slot / 4)) }
      | 3 => s.updDport slot fun q => { q with enumStep := 4 }
      | 4 => s.updDport slot fun q => { q with enumStep := 5 }
      | 5 => s.updDport slot fun q => { q with enumStep := 6, adminCids := [(0, true), (1, true)] }
      | 6 =>
        if info.usable then s.updDport slot fun q => { q with enumStep := 7, adminCids := [], blocks := info.blocks, deepState := info.deepState, drivePs := 0 }
        else s.enumFail slot
      | 7 =>
        let qn := min 16 (min (info.nsqa + 1) (info.ncqa + 1))
        let dn := min 257 (info.mqes + 1)
        let t := s.updDport slot fun q => { q with queueCount := qn, queueDepth := dn, tagCount := min 4096 (qn * (dn - 1)) }
        let g := t.register slot info
        if g.1 then g.2.updDport slot fun q => { q with enumStep := 8 } else g.2
      | _ =>
        let t := s.updDport slot fun q => { q with dState := 4, enumStep := 0, label := info.label, formatted := info.formatOk, lastUseNs := s.now, inL1 := false }
        (t.driveFound slot info).settle)

/-- DRIVE_ENUM_STEP_TIMEOUT (R405): the bound of the step running has passed. -/
def execDriveEnumStepTimeout (slot : Nat) (s : State) : Res :=
  bounded (decide (slot < 64)) (if (s.dport slot).dState = 2 ∨ (s.dport slot).dState = 3 then s.enumFail slot else s)

/-- RESERVATION_WAIT_EXPIRY (R559): controller 1 in M3 has waited 10 ms at step 7, and acquires the reservation itself if it is still not held. -/
def execReservationWaitExpiry (slot : Nat) (held : Bool) (s : State) : Res :=
  bounded (decide (slot < 64))
    (let p := s.dport slot
    if p.dState = 3 ∧ p.enumStep = 7 ∧ p.registered ∧ s.paired ∧ s.self = 1 then
      (s.when (!held) fun t => t.acquire slot).updDport slot fun q => { q with enumStep := 8 }
    else s)

/-! ### The inbound filter (R408, R409) -/

/-- The bytes a command moves through its window: a Compare and Write carries the old and the new contents. -/
def windowLen (c : DriveCmd) : Nat := if c.op = 3 then 8320 * c.blocks else if c.op < 2 then 4160 * c.blocks else 0

/-- A memory request that R409 allows. -/
def DrivePort.allows (p : DrivePort) (write : Bool) (addr len : Nat) : Bool :=
  if addr + len ≤ 2 ^ 20 then
    (List.range len).all fun i => decide (Config.queuePart p.queueCount p.queueDepth (addr + i) = if write then 2 else 1)
  else if 0x80000000 ≤ addr ∧ addr + len ≤ 0x80040000 then
    let cid := (addr - 0x80000000) / 8192
    decide ((addr - 0x80000000) % 8192 + len ≤ 8192) && p.adminCids.contains (cid, write)
  else
    match tfind p.tags ((addr - 2 ^ 32) / 0x20000) with
    | some t =>
      let off := (addr - 2 ^ 32) % 0x20000
      let inside := decide (2 ^ 32 ≤ addr) && decide (off + len ≤ windowLen t.cmd)
      if write then decide (t.kind = 0) && inside
      else decide (t.tState = 1) && (decide (t.kind = 1) || decide (t.kind = 2)) &&
        (inside || (decide (2 ^ 32 ≤ addr) && decide (0x1F000 ≤ off) && decide (off + len ≤ 0x20000)))
    | none => false

/-- DRIVE_INBOUND_REQUEST (R409): a request that R409 does not allow is discarded, a read answered with Unsupported Request, and the port contained
with cause ACCESS; during enumeration the step fails. -/
def execDriveInboundRequest (slot : Nat) (write : Bool) (addr len : Nat) (s : State) : Res :=
  bounded (decide (slot < 64))
    (let p := s.dport slot
    if (p.dState ≠ 3 ∧ p.dState ≠ 4) ∨ p.allows write addr len then s
    else
      let t := (s.bump cAccessDenied slot).when (!write) fun u => u.send .urReply [slot, addr, len] []
      if p.dState = 4 then t.contain slot 2
      else (t.updDport slot fun q => { q with lastCause := 2 }).enumFail slot)

/-! ### Completions (R410 to R412) -/

/-- Count a completed drive command (R425). -/
def State.countDrive (c : DriveCmd) (ok : Bool) (s : State) : State :=
  let t := s.bump cDrvCmds c.slot
  if ok then if c.op = 0 then t.bumpN cDrvBytesRd c.slot (4160 * c.blocks)
    else if c.op = 1 ∨ c.op = 3 then t.bumpN cDrvBytesWr c.slot (4160 * c.blocks) else t else t

/-- A completion with a media error: counted, and for a read held against the member, which fails at MEDIA_ERR_MAX within 60 min (R239, R425). -/
def State.mediaError (c : DriveCmd) (s : State) : State :=
  let t := s.bump cMediaErr c.slot
  match s.poolOfSlot c.slot with
  | some n =>
    if c.op ≠ 0 then t
    else
      let recent := (s.pool n).mediaErrs.filter fun e => decide (s.now < e.2 + sec 3600)
      let u := t.updPool n fun p => { p with mediaErrs := recent ++ [(c.slot, s.now)] }
      let count := (recent.filter fun e => e.1 = c.slot).length + 1
      if s.rebuildCfgMediaErrMax ≤ count then u.failMember n c.slot 4 else u
  | none => t

/-- A quorum drive's command has completed (R385): the outcome of a Compare and Write; a write of the agreed block leaves the state it wrote. -/
def State.quorumDone (c : DriveCmd) (status : Nat) (s : State) : State :=
  if c.op = 3 then s.quorumAnswer c.pos status
  else if c.op = 1 ∧ status = 0 then
    let b := s.qbOf c.pos
    let mine := decide (b.qState ≠ 1) && decide (b.holder = s.self)
    s.updPair fun p => { p with qbHeld := if mine then p.qbHeld ||| BitVec.ofNat 3 (2 ^ c.pos) else p.qbHeld &&& ~~~BitVec.ofNat 3 (2 ^ c.pos) }
  else s

/-- What the completion of a command does for its issuer. -/
def State.cmdDone (c : DriveCmd) (r : DriveCpl) (s : State) : State :=
  let bytes := (r.blocks.head?.getD []).take 4160
  if c.owner = 0 ∨ c.owner = 8 then
    if r.status = 0 then
      match s.readOf c.cslot c.blk with
      | some x => if x.src = 0 then s.blockIn c.cslot c.blk false (padTo 4160 bytes) else s
      | none => s
    else ((s.when (s.readOf c.cslot c.blk).isSome fun t => t.hotBlk (t.slot c.cslot).handle c.blk)).cmdLost c
  else if c.owner = 1 then s.partIn c.cslot c.blk c.pos (if r.status = 0 then padTo 4160 bytes else [])
  else if c.owner = 4 then s.quorumDone c r.status
  else if c.owner = 5 then s.cmdLost c
  else s

/-- DRIVE_COMPLETION (R407, R411, R412, R386): the completion of a tag. A quarantined tag's is discarded and counted; in M3 a command to a pool
member that ends with Reservation Conflict or aborted means that the partner has fenced this controller. -/
def execDriveCompletion (slot tag : Nat) (cpl : DriveCpl) (s : State) : Res :=
  bounded (decide (slot < 64) && decide (tag < 4096))
    (match tfind (s.dport slot).tags tag with
    | none => s
    | some t =>
      let u := (s.freeTagOf slot tag).updDport slot fun p => { p with unresponsive := false }
      if t.tState = 2 then (u.bump cLateCpl slot).when (decide (cpl.status = 1)) fun v => v.bump cMediaErr slot
      else if s.paired ∧ (cpl.status = 3 ∨ cpl.status = 4) ∧ (s.poolOfSlot slot).isSome then u.stopLoser false
      else
        let v := (u.countDrive t.cmd (decide (cpl.status = 0))).when (decide (cpl.status = 1)) fun w => w.mediaError t.cmd
        let i := (v.slot t.cmd.cslot).ctx
        (((v.cmdDone t.cmd cpl).when (decide (t.cmd.owner ≤ 1) || decide (t.cmd.owner = 8)) fun w => w.afterError i)).settle)

/-! ### Timeouts and triggers of containment (R411, R413, R415) -/

/-- A drive does not answer: marked, and fault 0x0C raised once (R413). -/
def State.slowDrive (slot : Nat) (s : State) : State :=
  if (s.dport slot).unresponsive then s else (s.updDport slot fun p => { p with unresponsive := true }).driveFault slot 0x0C

/-- A read timeout of a tag: it is quarantined, and its issuer takes the read as failed (R411). -/
def State.readTimeout (slot tag : Nat) (c : DriveCmd) (s : State) : State :=
  let t := (s.updDport slot fun p => { p with tags := tadj tag (fun g => { g with tState := 2 }) p.tags }).bump cCmdTimeout slot
  (t.slowDrive slot).cmdLost c

/-- QUAR_MAX tags of a port are quarantined (R413). -/
def State.quarFull (s : State) (slot : Nat) : Bool := decide (s.drivePortCfgQuarMax slot ≤ (s.dport slot).tagsIn 2)

/-- DRIVE_DEADLINE_SCAN (R411, R413): reads past their deadline are quarantined and rebuilt from the other members; another command outstanding for
CMD_TO_US marks the drive unresponsive; QUAR_MAX quarantined tags contain the port. -/
def execDriveDeadlineScan (slot : Nat) (s : State) : Res :=
  bounded (decide (slot < 64))
    (if (s.dport slot).dState ≠ 4 then s
    else
      let out := (s.dport slot).tags.filter fun t => t.2.tState = 1
      let late := out.filter fun t => decide (t.2.kind = 0) && decide ((s.nowUs + 2 ^ 32 - t.2.deadlineUs) % 2 ^ 32 < 2 ^ 31)
      let slow := out.any fun t => decide (t.2.kind ≠ 0) && decide (t.2.issuedNs + us (s.drivePortCfgCmdToUs slot) ≤ s.now)
      let t := (late.foldl (fun u e => u.readTimeout slot e.1 e.2.cmd) s).when slow fun u => u.slowDrive slot
      (if t.quarFull slot then t.contain slot 3 else t).settle)

/-- DRIVE_STALL_EXPIRY (R413): a command other than a read has been outstanding for STALL_MS, or QUAR_MAX tags are quarantined: cause STALL. -/
def execDriveStallExpiry (slot : Nat) (s : State) : Res :=
  bounded (decide (slot < 64))
    (if s.quarFull slot || (s.dport slot).tags.any fun t => decide (t.2.tState = 1) && decide (t.2.kind ≠ 0) then s.contain slot 3 else s)

/-- CSTS_POLL (R415): the CSTS read every 1 ms; CFS = 1 contains the port. -/
def execCstsPoll (slot : Nat) (cfs : Bool) (s : State) : Res :=
  bounded (decide (slot < 64))
    (if (s.dport slot).dState ≠ 4 then s else (s.send .drivePoll [slot] []).when cfs fun t => t.contain slot 4)

/-- PCIE_READ_TIMEOUT (R415): no completion of a configuration or memory read within 10 ms: cause PCIE_TO. -/
def execPcieReadTimeout (slot : Nat) (s : State) : Res := bounded (decide (slot < 64)) (s.contain slot 5)

/-- DRIVE_UNCORR_ERROR (R415): cause UNCORR. -/
def execDriveUncorrError (slot : Nat) (s : State) : Res := bounded (decide (slot < 64)) (s.contain slot 1)

/-- DRIVE_LINK_DOWN (R415, R419): the link has gone down while UP: cause LINK. -/
def execDriveLinkDown (slot : Nat) (s : State) : Res := bounded (decide (slot < 64)) (s.contain slot 6)

/-- DRIVE_CORR_ERROR (R415): counted; it does not contain the port. -/
def execDriveCorrError (slot : Nat) (s : State) : Res := bounded (decide (slot < 64)) (s.bump cCorrErr slot)

/-- RELEASE_PERST_END (R418): 1 ms after the release began the port retrains from step 2. -/
def execReleasePerstEnd (slot : Nat) (s : State) : Res :=
  bounded (decide (slot < 64))
    (if (s.dport slot).dState = 6 then
      (s.updDport slot fun p => { p with dState := 2, enumStep := 2 }).updSlotPwr slot fun p => { p with perstHigh := true }
    else s)

/-- DRIVE_L1_IDLE (R421): with ASPM_L1 = 1 a link idle for 10 µs enters L1. -/
def execDriveL1Idle (slot : Nat) (s : State) : Res :=
  bounded (decide (slot < 64))
    (let p := s.dport slot
    if p.dState = 4 ∧ s.drivePortCfgAspmL1 slot = 1 ∧ p.inL1 = false ∧ p.tagsIn 1 = 0 then
      (s.updDport slot fun q => { q with inL1 := true }).bump cL1Entries slot
    else s)

end Sys2Proof.Machine
end

