-- ==== Sys2Proof/Machine/Flags.lean ====
section
/-! DEFINITION. The status words: every register that reports state, with the flags and fields its rule lays out (R44, R66, R103, R168,
R199, R200, R236, R267 to R270, R302, R337, R363, R400, R424, R453 to R457, R476, R508, R510, R533, R556). -/
namespace Sys2Proof.Machine

/-- A flag as a bit. -/
def flag (b : Bool) : Nat := if b then 1 else 0

/-- Pack fields into a word: (lowest bit, value) each. -/
def pack (fs : List (Nat × Nat)) : Nat := (fs.map fun f => f.2 * 2 ^ f.1).sum

/-! ### Arbitration (R41, R42, R44) -/

/-- The claimant code that holds the largest share of a resource now, 0 where it is free (R44, log 40). -/
def State.arbHolder (s : State) (res : Nat) : Nat :=
  match res with
  | 0 => if s.ccpCfgMgmtBus = 0 then 0 else 9
  | 1 => if s.modes.mode = .m0 then 0x0B else if (s.port 0).linkUp then 1 else 0
  | 2 => if s.power.estore.testing then 0x0B else 0
  | 4 => if s.power.estore.testing then 0x0B else if s.modes.mode = .m0 then 0x0B else 0
  | 5 => if s.qos.shapers.any (fun x => x.2.parked.isSome) then 1 else 0
  | 6 => 2
  | 7 => 1
  | 8 => if s.xport.cache.isEmpty then 0 else 1
  | 9 => if s.xport.missBuf.isEmpty then 0 else 1
  | 10 => if s.cmds.slots.any (fun p => p.2.data ≠ []) then 1 else 0
  | 11 => if s.layout.larder.any (fun v => !v.2.adoptedV) then 1 else if s.layout.larder.isEmpty then 0 else 2
  | 13 => if s.layout.destages.isEmpty then 0 else 3
  | 14 => if s.drives.ports.any (fun p => !p.2.tags.isEmpty) then 1 else 0
  | 15 => if s.cmds.slots.isEmpty then 0 else 1
  | 16 => if s.enclave.recent.isEmpty then 0 else 0x0A
  | 17 => if s.enclave.unwraps.isEmpty then 0 else 0x0A
  | 18 => if s.ccp.cvus.any (fun u => u.2.holder = 2) then 9 else if s.ccp.cvus.isEmpty then 0 else 8
  | 19 => if s.settUp then 2 else 0
  | 20 => if s.localPort.cqs.isEmpty then 0 else 1
  | 21 => 8
  | _ => 0

/-- The number of claimant codes that wait for a resource now (R44, log 40). -/
def State.arbWaiters (s : State) (res : Nat) : Nat :=
  match res with
  | 9 => if s.xport.missBuf.any (fun m => m.inRx) then 1 else 0
  | 11 => if s.layout.waiting.isEmpty then 0 else 1
  | 13 => if s.layout.locks.any (fun l => !l.2.waiters.isEmpty) then 1 else 0
  | 15 => if s.cmds.waiting.isEmpty then 0 else 1
  | 17 => if s.enclave.unwraps.length ≤ 1 then 0 else 1
  | 18 => if s.ccp.cvuWaiting.isEmpty then 0 else 1
  | _ => 0

/-- ARB_STATUS_n (R44). -/
def State.arbStatus (s : State) (n : Nat) : Nat :=
  let a := tget {} s.spine.arb n
  pack [(56, n), (48, s.arbHolder n), (40, s.arbWaiters n), (16, a.conflictCount), (0, a.deferCount)]

/-! ### Ports and transports -/

/-- LAG_STATUS_n (R103). -/
def State.lagStatus (s : State) (n : Nat) : Nat :=
  let l := s.lag n
  let st := match l.lagStep with
    | some x => [(56, x.member), (53, x.phase), (52, flag x.up)]
    | none => []
  pack ([(60, (s.anchor n).getD 0), (16, l.stepCount), (0, l.abandonCount)] ++ st)

/-- CYCLE_NS of the schedule GATE_PORT_n selects: the sum of its intervals (R88). -/
def State.gateCycle (s : State) (p : Nat) : Nat :=
  ((List.range (s.gatePortCount p)).map fun i => s.gateWord (p / 4) (s.gatePortBase p + i) % 2 ^ 24).sum

/-! ### Host commands and consistency -/

/-- OVERLOAD_STATUS (R168). -/
def State.overloadStatus (s : State) : Nat :=
  let c := s.cmds
  pack [(63, flag c.overload), (51, c.worstTenant), (32, c.p50), (16, c.p99), (0, c.overloadEvents)]

/-- STAMP_STATUS (R199). -/
def State.stampStatus (s : State) : Nat :=
  pack [(40, s.cons.epoch), (22, sat (2 ^ 18 - 1) (s.ovlCount 1 + s.ovlCount 2 + s.ovlCount 4)), (4, s.ovlCount 3)]

/-- LEASE_STATUS (R200). -/
def State.leaseStatus (s : State) : Nat :=
  let l := s.cons.lease
  pack [(62, l.lState), (48, l.handle), (26, l.extNo), (25, l.target)]

/-! ### Layout, larder, rebuild -/

/-- ACK_MODE (R221, R236): none outside the service modes, write-through with a limit of 0, else the larder, with the mirror in M3. -/
def State.ackMode (s : State) : Nat :=
  if s.inService = false then 0 else if s.layout.limit = 0 then 3 else if s.paired then 2 else 1

/-- LARDER_STATUS (R236). -/
def State.larderStatus (s : State) : Nat :=
  let l := s.layout
  pack [(40, l.limit), (16, s.usedSlots), (14, s.ackMode), (13, flag l.holdup.isSome), (12, flag l.replaying), (11, flag l.lost)]

/-- The lowest class present in a pool, 0 when every stripe has full redundancy (R267). -/
def State.worstClass (s : State) (n : Nat) : Nat :=
  let cs := (s.stripesOf n).filterMap fun st => if s.stripeClass n st ≤ (s.geom n (inNew st)).m then some (max 1 (s.stripeClass n st)) else none
  match cs with
  | [] => 0
  | c :: rest => rest.foldl min c

/-- The chunks of listed members of a pool, and those of them rebuilt. -/
def State.rebuildShare (s : State) (n : Nat) : Nat × Nat :=
  let chunks := ((s.stripesOf n).map fun st => ((List.range (s.geom n (inNew st)).w).filter fun p =>
    (s.pool n).reloc.contains (s.homeOf n st p)).length).sum
  (chunks, ((s.pool n).rebuilt.filter fun x => (s.pool n).reloc.contains x.1).length)

/-- ACTIVITY of a pool (R244, R267). -/
def State.poolActivity (s : State) (n : Nat) : Nat :=
  let p := s.pool n
  if p.returning ≠ [] then 1
  else if p.reloc ≠ [] ∧ (s.rebuildShare n).2 < (s.rebuildShare n).1 then (if s.urgent n then 3 else 2)
  else if p.replacing ≠ [] then 4 else 0

/-- PROGRESS of a pool's activity, in ‰ (R267). -/
def State.poolProgress (s : State) (n : Nat) : Nat :=
  let p := s.pool n
  match s.poolActivity n with
  | 0 => 0
  | 1 => 1000 * p.resynced.length / max 1 (p.bitmap.length * p.returning.length)
  | 4 => min 1000 (1000 * p.copied.length / max 1 ((p.replacing.map fun m => (s.memberRows n m).length).sum))
  | _ => 1000 * (s.rebuildShare n).2 / max 1 (s.rebuildShare n).1

/-- POOL_HEALTH_n (R267). -/
def State.poolHealth (s : State) (n : Nat) : Nat :=
  let r := (s.pool n).reloc
  pack [(58, r.getD 0 0), (52, r.getD 1 0), (46, r.getD 2 0), (44, r.length), (41, s.poolActivity n), (31, s.poolProgress n),
    (29, s.worstClass n), (0, sat (2 ^ 29 - 1) (tcount (fun _ e => decide (e.pool = n)) s.layout.lostList))]

/-- MEMBER_STATE_n (R267): two bits for each slot. -/
def State.memberStates (s : State) (n : Nat) : Bytes :=
  leBytes 16 (((List.range 64).map fun slot => if (s.word (oid 5 2 n)).testBit slot then s.memberState n slot * 4 ^ slot else 0).sum)

/-- RESHAPE_STATUS_n (R269). -/
def State.reshapeWord (s : State) (n : Nat) : Nat :=
  match (s.pool n).reshape with
  | none => 0
  | some r => pack [(62, r.rState), (40, r.stepNo), (18, r.plan.length),
      (8, min 1000 (1000 * r.stripes / max 1 (s.geom n true).slabStripes))]

/-- BADGER_STATUS_n (R270). -/
def State.badgerStatus (s : State) (n : Nat) : Nat := pack [(32, (s.pool n).badgerRow), (16, (s.pool n).badgerPasses)]

/-! ### Cipher, enclave, queues, pair -/

/-- INTEG_STATUS (R302). -/
def State.integStatus (s : State) : Nat :=
  let c := s.cipher
  pack [(40, c.laneOut.toNat), (37, c.dupGroup), (29, c.engineOut.toNat), (25, c.realignOut.toNat), (0, c.dupMismatch)]

/-- ENCLAVE_STATUS (R337). -/
def State.enclaveStatus (s : State) : Nat :=
  let e := s.enclave
  pack [(56, s.keep.cause), (48, s.keep.count), (47, flag s.keep.latch), (46, flag s.debugIsOpen), (45, flag e.entropyOk),
    (44, flag e.shelfKey.isSome), (43, e.shelfGen), (42, flag e.rotating), (30, s.keysCached), (21, e.pinned), (9, e.debugAttempts)]

/-- QUEUE_SAMPLE of the queue that QUEUE_SAMPLE_SEL names (R363). -/
def State.queueSample (s : State) : Nat :=
  let w := s.word (oid 8 10 0)
  let x := tget {} s.qos.samples (sampleKey (bits w 63 62) (bits w 61 56) (bits w 55 55 == 1) (bits w 54 43))
  let ms := s.now / 1000000
  let live := decide (x.depthMs + 1 ≥ ms)
  pack [(48, x.percentile ms 50), (32, x.percentile ms 99), (12, if live then sat (2 ^ 20 - 1) (x.depthMax / 1024) else 0),
    (0, if live then sat 4095 x.depthItems else 0)]

/-- SYNC_PCT: what larder synchronisation has copied (R400). -/
def State.syncPct (s : State) : Nat :=
  if s.pair.syncTotal = 0 then (if s.paired then 100 else 0)
  else 100 * (s.pair.syncTotal - s.layout.syncLeft.length) / s.pair.syncTotal

/-- PAIR_STATUS (R400). -/
def State.pairStatus (s : State) : Nat :=
  let p := s.pair
  pack [(60, p.state), (59, flag p.settA), (58, flag p.settB), (57, flag (s.paired && decide (s.now < p.lastSett + us 120))),
    (56, flag (s.paired && decide (s.now < p.lastNet + us 120))), (48, p.lastFault), (45, p.qbHeld.toNat), (39, p.qbSlots.getD 0 0),
    (33, p.qbSlots.getD 1 0), (27, p.qbSlots.getD 2 0), (20, s.syncPct), (0, p.takeovers)]

/-! ### Drives, slots, store -/

/-- DRIVE_PORT_STATUS_n (R424). -/
def State.drivePortStatus (s : State) (n : Nat) : Nat :=
  let p := s.dport n
  pack [(60, p.dState), (57, p.speed), (53, p.width), (49, p.lastCause), (36, p.tagCount), (23, tcount (fun _ t => decide (t.tState = 1)) p.tags),
    (12, tcount (fun _ t => decide (t.tState = 2)) p.tags), (8, sat 15 (p.releases.filter fun t => decide (s.now < t + sec 600)).length)]

/-- SLOT_PWR_STATUS_s (R453). -/
def State.slotPwrStatus (s : State) (n : Nat) : Nat :=
  let p := s.slotPwr n
  pack [(61, p.pState), (58, p.retryCnt), (55, p.lastFault), (43, p.iNow), (32, p.vOut),
    (16, if p.cooling then min 60000 ((p.coolUntil - s.now) / 1000000) else 0), (15, flag p.follower)]

/-- FEED_STATUS (R454). -/
def State.feedStatus (s : State) : Nat :=
  let f := s.power.feeds
  pack [(63, flag f.aGood), (62, flag f.bGood), (61, flag f.aConduct), (60, flag f.bConduct), (48, f.aVolt), (36, f.bVolt)]

/-- ESTORE_STATUS (R456). -/
def State.estoreStatus (s : State) : Nat :=
  let e := s.power.estore
  pack [(61, e.health), (60, flag e.testing), (47, e.cMeas), (33, e.esrMeas), (22, e.vNow), (10, e.eEffJ),
    (0, if e.tested then sat 1023 ((s.now - e.lastTestNs) / 1000000000) else 0)]

/-- LARDER_PLAN (R457). -/
def State.larderPlan (s : State) : Nat :=
  let e := s.power.estore
  pack [(52, e.pHoldW), (36, sat 65535 (e.bRate / 1000)), (12, e.nCover), (2, e.tMaxMs)]

/-! ### Local port, management, system -/

/-- LOCAL_PORT_STATUS (R476). -/
def State.localPortStatus (s : State) : Nat :=
  let l := s.localPort
  pack [(62, l.lState), (59, l.speed), (54, l.width), (51, l.cause), (50, flag l.bme), (48, l.intMode), (47, flag l.d3hot),
    (16, l.ltrLast), (0, l.freezes)]

/-- SESSION_STATUS_n: the session with ID n + 1 (R508). -/
def State.sessionStatus (s : State) (n : Nat) : Nat :=
  match tfind s.ccp.sessions (n + 1) with
  | none => 0
  | some e => pack [(62, e.sState), (59, e.role), (56, e.transport), (44, if e.role = 2 then e.tenant else 0),
      (32, sat 4095 ((s.now - e.lastNs) / 1000000000)), (0, e.high)]

/-- JOB_STATUS_n (R508). -/
def State.jobStatus (s : State) (n : Nat) : Nat :=
  let j := tget {} s.ccp.jobs n
  pack [(62, j.jState), (54, j.opcode), (38, j.result), (28, j.progress), (21, j.session)]

/-- A check-value unit. -/
def State.cvu (s : State) (n : Nat) : Cvu := tget {} s.ccp.cvus n

/-- CVU_CTL_n (R510). -/
def State.cvuCtl (s : State) (n : Nat) : Nat :=
  let u := s.cvu n
  pack [(62, u.holder), (61, u.alg), (53, if u.holder = 2 then u.session else 0), (0, u.bytes)]

/-- CVU_RESULT_n: RUNNING XORed with the final value (R509, R510). -/
def State.cvuResult (s : State) (n : Nat) : Nat :=
  let u := s.cvu n
  if u.holder = 0 then 0 else Nat.xor u.running.toNat (if u.alg = 0 then 0xFFFFFFFF else 2 ^ 64 - 1)

/-- BOOT_STATUS (R533). -/
def State.bootStatus (s : State) : Nat :=
  let b := s.boot
  pack [(60, b.bootStep), (59, flag b.failed), (58, flag b.recovery), (57, flag b.slotB), (49, b.svn)]

/-- ELEC_STATUS (R556). -/
def State.elecStatus (s : State) : Nat :=
  let e := s.elec
  pack [(52, e.vcoreMv), (44, e.dieC), (36, e.stackC), (35, flag e.throttle), (34, flag e.avsFault), (33, flag s.den.hbmRetained),
    (29, s.den.railFault), (24, s.hbmRefresh), (16, s.den.trips), (0, e.throttles)]

/-- FUSE_MAP (R321). -/
def State.fuseMap (s : State) : Bytes :=
  let f := s.fuses
  leBytes 8 f.deviceId ++ leBytes 1 (pack [(0, f.lifeCycle), (4, flag f.rootPresent), (5, flag f.rootDisabled)]) ++ leBytes 1 f.debugLock ++
  leBytes 1 f.antiRollback ++ zeros 5 ++ leBytes 4 f.maskShelf.toNat ++ leBytes 4 f.maskTenant.toNat ++ leBytes 4 f.maskService.toNat ++
  leBytes 2 f.energyCeilJ ++ zeros 2 ++ leBytes 32 f.slotCeil ++ leBytes 48 f.ownerHash ++ leBytes 48 f.uhlethHash

end Sys2Proof.Machine
end

