-- ==== Sys2Proof/Machine/Commands.lean ====
section
/-! DEFINITION. Meanings of the host commands (R142 to R170): Fabrics and admin commands, the capsules and the stages of the I/O
commands, slots, replay records, overload. -/
namespace Sys2Proof.Machine

/-! ### Connect (R142 to R149) -/

/-- The host identity that matches a host NQN and Host Identifier (R143). -/
def State.hostMatch (s : State) (nqn : Bytes) (hostid : Nat) : Option Nat :=
  (s.cmds.hosts.find? fun e => e.2.enable && e.2.nqn == nqn && decide (e.2.hostid = hostid)).map (·.1)

/-- A CNTLID is free at both controllers (R144). -/
def State.cntlidFree (s : State) (c : Nat) : Bool := !thas s.cmds.fab c && !thas s.pair.fabs c

/-- The CNTLID a Connect gets: the lowest free from 0x0001 at controller 0 or in M2, the highest from 0x8000 down at controller 1
(R144). -/
def State.freeCntlid (s : State) : Option Nat :=
  let n := min 32768 (s.cmds.fab.length + s.pair.fabs.length + 1)
  firstIndex s.cntlidFree s.searchUp n (if s.searchUp then 1 else 32768)

/-- Answer a Connect: it is the first submission entry of its queue, so that the head pointer is one past entry 0 (R149); its replay record
is written (R165). -/
def State.connectReply (c : ConnectCmd) (status dw0 : Nat) (s : State) : State :=
  (s.respond c.ctx (262144 + c.cid) (respOut c.ctx c.qid c.cid status dw0 (1 % max 1 c.depth))).adminReplay c.ctx c.qid c.cid c.pos c.sqeCrc
    status dw0

/-- Refuse a Connect, counted by tenant or as none for an unknown host (R170). -/
def State.connectRefuse (c : ConnectCmd) (status : Nat) (host : Option Nat) (s : State) : State :=
  (match host with
  | some h => s.bump cConnectReject (s.host h).tenant
  | none => s.bump cConnectRejectNone 0).connectReply c status 0

/-- The connection carries no queue yet: a queue's context names its fabric controller (R148). -/
def State.carriesNone (s : State) (i : Nat) : Bool :=
  s.cmds.fab.all fun f => f.2.queues.all fun q => decide (q.2.1 ≠ i)

/-- The context of a new queue, and its shadow (R111, R375). -/
def State.bindQueue (c : ConnectCmd) (cntlid host : Nat) (s : State) : State :=
  (s.updCtx c.ctx fun x => { x with
    cntlid := cntlid, qid := c.qid, hostId := host, tenant := (s.host host).tenant }).shadowConn c.ctx

/-- A Connect for an admin queue creates a fabric controller (R144, R146). -/
def State.connectAdmin (c : ConnectCmd) (host : Nat) (s : State) : State :=
  if c.katoMs = 0 ∨ 300000 < c.katoMs ∨ c.disableFlow ∨ c.depth = 0 ∨ 32 < c.depth ∨ s.carriesNone c.ctx = false ∨
      (c.subsysMatch = false ∧ c.discovery = false) then
    s.connectRefuse c stConnParam (some host)
  else
    match s.freeCntlid with
    | none => s.connectRefuse c stConnParam (some host)
    | some n =>
      let f : FabCtrl := {
        live := true, hostId := host, tenant := (s.host host).tenant, adminCtx := c.ctx, discovery := c.discovery
        katoMs := ceilDiv c.katoMs 100 * 100, katoNs := s.now, queues := [(0, (c.ctx, c.depth, 1 % c.depth))] }
      let t := s.updCmds fun m => { m with fab := tput m.fab n f }
      ((t.bindQueue c n host).settIfPaired 0x46 [n, 1] []).connectReply c stOk n

/-- A Connect for an I/O queue of a fabric controller (R148). -/
def State.connectIo (c : ConnectCmd) (host : Nat) (s : State) : State :=
  let f := s.fab c.cntlid
  if f.live = false ∨ f.hostId ≠ host ∨ f.discovery ∨ c.disableFlow ∨ s.cmdCfgIoqMax < c.qid ∨ thas f.queues c.qid ∨
      s.cmdCfgIoqMax + 1 ≤ f.queues.length ∨ c.depth < 2 ∨ s.cmdCfgSqMax < c.depth ∨ s.carriesNone c.ctx = false ∨ c.subsysMatch = false then
    s.connectRefuse c stConnParam (some host)
  else
    let t := (s.katoRestart c.cntlid).updFab c.cntlid fun x => { x with queues := tput x.queues c.qid (c.ctx, c.depth, 1 % c.depth) }
    (((t.bindQueue c c.cntlid host).settIfPaired 0x46 [c.cntlid, 1] []).recomputePs).connectReply c stOk c.cntlid

/-- CONNECT (R143, R144, R146, R148, R149): in a service mode, on an OPEN connection. A repeat of a Connect that has ended is answered from
its replay record (R164). -/
def execConnect (c : ConnectCmd) (s : State) : Res :=
  .next (if s.inService = false ∨ (s.ctx c.ctx).state ≠ 2 then s
  else
    match s.adminRecord c.ctx c.qid c.cid c.pos with
    | some r => s.adminAgain r c.sqeCrc (1 % max 1 c.depth)
    | none =>
      match s.hostMatch c.nqn c.hostid with
      | none => s.connectRefuse c stConnHost none
      | some host => if c.qid = 0 then s.connectAdmin c host else s.connectIo c host)

/-! ### Properties and Disconnect (R147, R154) -/

/-- PROPERTY_GET (R154): CAP, VS, CC and CSTS of a fabric controller. CAP holds MQES = SQ_MAX - 1 and MPSMIN = 0; its other bits and VS
are not stated, and are free values. Any other offset completes with Invalid Field in Command. -/
def execPropertyGet (q : AdminCmd) (offset : Nat) (s : State) : Res :=
  .next (s.adminRun q fun t =>
    let f := t.fab q.cntlid
    if q.cntlid = 0 then t.adminDone q stBadOpcode 0
    else if offset = 0x00 then t.draw.adminDone q stOk (t.cmdCfgSqMax - 1 + 65536 * (t.drawn 32))
    else if offset = 0x08 then t.draw.adminDone q stOk (t.drawn 32)
    else if offset = 0x14 then t.adminDone q stOk f.ccValue
    else if offset = 0x1C then t.adminDone q stOk f.ccEnabled.toNat
    else t.adminDone q stBadField 0)

/-- PROPERTY_SET (R147): CC alone can be set; CC.EN = 0 completes first and then deletes the fabric controller. -/
def execPropertySet (q : AdminCmd) (offset : Nat) (value : Nat) (s : State) : Res :=
  .next (s.adminRun q fun t =>
    if q.cntlid = 0 then t.adminDone q stBadOpcode 0
    else if offset ≠ 0x14 then t.adminDone q stBadField 0
    else if value % 2 = 0 then (t.adminDone q stOk 0).deleteFab q.cntlid
    else (t.updFab q.cntlid fun f => { f with ccEnabled := true, ccValue := value % 2 ^ 32 }).adminDone q stOk 0)

/-- DISCONNECT (R147): its completion is handed to egress first, and then the fabric controller is deleted. -/
def execDisconnect (q : AdminCmd) (s : State) : Res :=
  .next (s.adminRun q fun t =>
    if q.cntlid = 0 then t.adminDone q stBadOpcode 0 else (t.adminDone q stOk 0).deleteFab q.cntlid)

/-! ### Identify and log pages (R145, R154, R155, R525) -/

/-- The host identity of the sender of an admin command. -/
def State.adminHost (s : State) (q : AdminCmd) : Nat := if q.cntlid = 0 then s.cmdCfgLocalHostId else (s.fab q.cntlid).hostId

/-- The NSIDs attached to a host, ascending (R145). -/
def State.attachedNsids (s : State) (host : Nat) : List Nat :=
  (s.cipher.ns.filter fun e => decide (0 < e.2.nState) && s.attached e.1 host).map fun e => e.1 + 1

/-- The Identify Controller values of R155 in the order of its table, the fabric-only ones last: MDTS, SQES, CQES, NN, ONCS, WZSL, VSL,
DMRL, DMRSL, DMSL, VWC, ACL, AERL, AWUN, AWUPF, KAS, TBKAS, NPSS, then CNTLID, MAXCMD, IOCCSZ, IORCSZ, ICDOFF, MSDBD, FCATT. -/
def State.identCtrl (s : State) (cntlid : Nat) : List Nat :=
  [8, 0x66, 0x44, 16384, 0x008D, 8, 8, 256, 0, 0, 0, 3, 3, 255, 63, 1, 1, 2, cntlid] ++
  (if cntlid = 0 then [] else [s.cmdCfgSqMax, 260, 1, 0, 1, 0])

/-- The Identify Namespace values of R155 and R161: NSID, size in blocks, FORMAT, NSFEAT bit 1, NAWUN, NAWUPF, NABSN, NABO, NABSPF,
DLFEAT. -/
def State.identNs (s : State) (nsid : Nat) : List Nat :=
  let n := s.ns (nsid - 1)
  let big := decide (n.format % 2 = 1)
  [nsid, n.blocks * hostPerBlk n.format, n.format, 1, if big then 255 else 2047, if big then 63 else 511, 0, 0, if big then 255 else 2047, 1]

/-- IDENTIFY (R145, R154, R155): CNS 0x00 namespace, 0x01 controller, 0x02 active NSIDs above NSID, 0x03 namespace descriptors, 0x06
controller data of the command set. -/
def execIdentify (q : AdminCmd) (cns : Nat) (nsid : Nat) (s : State) : Res :=
  .next (s.adminRun q fun t =>
    let host := t.adminHost q
    let mine := (t.attachedNsids host).contains nsid
    if cns = 0x01 ∨ cns = 0x06 then (t.adminReport q 4096 (cns :: t.identCtrl q.cntlid)).adminDone q stOk 0
    else if cns = 0x02 then
      (t.adminReport q 4096 (cns :: ((t.attachedNsids host).filter fun x => nsid < x).take 1024)).adminDone q stOk 0
    else if cns = 0x00 ∨ cns = 0x03 then
      (if mine then (t.adminReport q 4096 (cns :: t.identNs nsid)).adminDone q stOk 0 else t.adminDone q stBadNs 0)
    else t.adminDone q stBadField 0)

/-- The record of counter group 7 or 8 of a namespace, little-endian (R513). -/
def State.groupRecord (s : State) (g n h : Nat) : Bytes := ((List.range n).map fun k => leBytes 8 (s.counter (g, k) h)).flatten

/-- The delegated counter page of a namespace (R525). -/
def State.delegatedPage (s : State) (nsid : Nat) : Bytes :=
  let h := nsid - 1
  let t := (s.ns h).tenant
  let a := s.delegationNsInteg t
  let b := s.delegationNsIo t
  leBytes 1 1 ++ leBytes 1 (a + 2 * b + 4 * s.self) ++ zeros 2 ++ leBytes 4 nsid ++ leBytes 8 s.now ++
  (if a = 1 then s.groupRecord 7 19 h else zeros 152) ++ (if b = 1 then s.groupRecord 8 25 h else zeros 200)

/-- GET_LOG_PAGE (R154, R525): pages 0x01, 0x02, 0x04, 0x05, for a discovery controller 0x70, and the delegated counters 0xC0. Reading the
Changed Namespace List clears it. -/
def execGetLogPage (q : AdminCmd) (lid : Nat) (nsid : Nat) (s : State) : Res :=
  .next (s.adminRun q fun t =>
    let f := t.fab q.cntlid
    let n := t.ns (nsid - 1)
    if lid = 0x04 then
      ((t.adminReport q 4096 (lid :: f.changedNs)).updFab q.cntlid fun x => { x with changedNs := [], noticed := false }).adminDone q stOk 0
    else if lid = 0x02 then
      (t.adminReport q 512 (lid :: t.elec.dieC :: t.attachedNsids (t.adminHost q))).adminDone q stOk 0
    else if lid = 0x01 ∨ lid = 0x05 then (t.adminReport q (if lid = 0x01 then 64 else 4096) [lid]).adminDone q stOk 0
    else if lid = 0x70 ∧ f.discovery then
      (t.adminReport q 4096 (lid :: (t.net.addr.filter fun a => decide (a.2.ip ≠ 0)).map (·.1))).adminDone q stOk 0
    else if lid = 0xC0 then
      (if nsid = 0 ∨ (t.attachedNsids (t.adminHost q)).contains nsid = false then (t.bump cLogpageRefused 0).adminDone q stBadNs 0
       else if t.delegationNsInteg n.tenant = 0 ∧ t.delegationNsIo n.tenant = 0 then (t.bump cLogpageRefused 0).adminDone q stBadLog 0
       else ((t.adminData q [lid] (t.delegatedPage nsid)).bump cLogpageReads 0).adminDone q stOk 0)
    else t.adminDone q stBadLog 0)

/-! ### Features (R53, R122, R156) -/

/-- A Set Features of a fabric controller: in M3 its shadow goes to the partner (R375). -/
def State.shadowFab (q : AdminCmd) (s : State) : State := s.when (decide (q.cntlid ≠ 0)) fun t => t.settIfPaired 0x46 [q.cntlid, 1] []

/-- SET_FEATURES_POWER_MGMT (R53, R54): the vote of the fabric controller or of the local controller. A command that deepens the device
power state completes when entry ends. -/
def execSetFeaturesPowerMgmt (q : AdminCmd) (ps : Nat) (s : State) : Res :=
  .next (s.adminRun q fun t =>
    if 2 < ps then t.adminDone q stBadField 0
    else
      let last (old : Nat) : Nat := if ps < 2 then ps else old
      let u := if q.cntlid = 0 then t.updLocalPort fun l => { l with vote := ps, lastOper := last l.lastOper }
        else t.updFab q.cntlid fun f => { f with vote := ps, lastOper := last f.lastOper }
      let before := (t.modes.psEntry.map (·.target)).getD t.modes.nvmePs
      let v := (u.shadowFab q).recomputePs
      match v.modes.psEntry with
      | some e => if before < e.target then
          v.updModes fun m => { m with psEntry := some { e with waiting := e.waiting ++ [(q.cntlid, q.cid)] } }
        else v.adminDone q stOk 0
      | none => v.adminDone q stOk 0)

/-- POWER_STATE_ENTRY_END (R54): entry into PS2 ends only once no command is in flight; the drives then go to their deepest state (R52).
The Set Features that wait complete. -/
def execPowerStateEntryEnd (s : State) : Res :=
  .next (match s.modes.psEntry with
  | none => s
  | some e =>
    if e.target = 2 ∧ (s.cmds.slots ≠ [] ∨ s.cmds.waiting ≠ []) then s
    else
      let t := s.psNow e.target
      if e.target = 2 then
        (tkeys (t.drives.ports.filter fun p => p.2.dState = 4)).foldl (fun u n =>
          (u.updDport n fun p => { p with drivePs := p.deepState }).driveAdmin n [2, (u.dport n).deepState]) t
      else t)

/-- SET_FEATURES_ARBITRATION (R156): accepted and reported, without effect. -/
def execSetFeaturesArbitration (q : AdminCmd) (value : Nat) (save : Bool) (s : State) : Res :=
  .next (s.adminRun q fun t =>
    if save then t.adminDone q stBadField 0
    else ((t.updFab q.cntlid fun f => { f with arbitration := value % 2 ^ 32 }).shadowFab q).adminDone q stOk 0)

/-- The I/O queue pairs of the local controller (R148, R156; log 37): pair n is submission queue n and completion queue n with vector n,
of 1,024 entries. -/
def localPairs (n : Nat) : Tbl LQueue := (List.range n).map fun k => (k + 1, { size := 1024, iv := k + 1, cq := k + 1 })

/-- SET_FEATURES_NUM_QUEUES (R156): applied on the local controller; a fabric controller reports IOQ_MAX - 1 in both halves. -/
def execSetFeaturesNumQueues (q : AdminCmd) (value : Nat) (save : Bool) (s : State) : Res :=
  .next (s.adminRun q fun t =>
    if save then t.adminDone q stBadField 0
    else if q.cntlid ≠ 0 then (t.shadowFab q).adminDone q stOk ((t.cmdCfgIoqMax - 1) * 65537)
    else
      let n := min 1024 (min (value % 65536) (value / 65536 % 65536) + 1)
      (t.updLocalPort fun l => { l with
        sqs := (l.sqs.filter fun x => x.1 = 0) ++ localPairs n, cqs := (l.cqs.filter fun x => x.1 = 0) ++ localPairs n }).adminDone q stOk
          ((n - 1) * 65537))

/-- SET_FEATURES_WRITE_ATOMICITY (R156): ignored, since every write is atomic against concurrent commands. -/
def execSetFeaturesWriteAtomicity (q : AdminCmd) (_value : Nat) (save : Bool) (s : State) : Res :=
  .next (s.adminRun q fun t => if save then t.adminDone q stBadField 0 else (t.shadowFab q).adminDone q stOk 0)

/-- SET_FEATURES_ASYNC_EVENT_CFG (R156): namespace attribute notices only, bit 8. -/
def execSetFeaturesAsyncEventCfg (q : AdminCmd) (value : Nat) (save : Bool) (s : State) : Res :=
  .next (s.adminRun q fun t =>
    if save then t.adminDone q stBadField 0
    else ((t.updFab q.cntlid fun f => { f with aerMask := value / 256 % 2 * 256 }).shadowFab q).adminDone q stOk 0)

/-- Count a configuration request refused with CONFLICT for a resource (R43, R44). -/
def State.conflictAt (res : Nat) (s : State) : State :=
  s.updSpine fun p => { p with arb := tmod {} res (fun a => { a with conflictCount := sat 65535 (a.conflictCount + 1) }) p.arb }

/-- SET_FEATURES_PUSH_WINDOWS (R122, R123): the windows of an I/O queue on a RoCEv2 connection are set up anew; past 4 GiB the request is
refused with CONFLICT of resource 10, held by host I/O, unless it adds nothing. -/
def execSetFeaturesPushWindows (q : AdminCmd) (qid : Nat) (count : Nat) (size : Nat) (s : State) : Res :=
  .next (s.adminRun q fun t =>
    match tfind (t.fab q.cntlid).queues qid with
    | none => t.adminDone q stBadField 0
    | some (i, _, _) =>
      let c := t.ctx i
      let old := c.pushCount * windowBytes c.pushSize
      let new := count * windowBytes size
      if qid = 0 ∨ c.kind ≠ 1 ∨ 64 < count ∨ 6 < size then t.adminDone q stBadField 0
      else if c.windows.any fun w => w.2.wState = 1 then t.adminDone q stSequence 0
      else if 2 ^ 32 < t.pushTotal - old + new ∧ old < new then (t.conflictAt 10).adminDone q stConflict (10 * 256 + 1)
      else
        (((t.updCtx i fun x => { x with pushCount := count, pushSize := size, windows := [] }).settIfPaired 0x47 [i, count, size] []).shadowFab q).adminDone
          q stOk (pushKey i 0 0))

/-- GET_FEATURES (R53, R56, R156): the current value of a supported feature; every other, the power features of R56 among them, is an
invalid field. The spec does not say what Get Features returns for push
windows: a free value. -/
def execGetFeatures (q : AdminCmd) (fid : Nat) (select : Nat) (s : State) : Res :=
  .next (s.adminRun q fun t =>
    let f := t.fab q.cntlid
    if select ≠ 0 then t.adminDone q stBadField 0
    else if fid = 0x01 then t.adminDone q stOk f.arbitration
    else if fid = 0x02 then t.adminDone q stOk (if q.cntlid = 0 then t.localPort.vote else f.vote)
    else if fid = 0x07 then
      t.adminDone q stOk ((if q.cntlid = 0 then t.localPort.sqs.length - 2 else t.cmdCfgIoqMax - 1) * 65537)
    else if fid = 0x0A then t.adminDone q stOk 0
    else if fid = 0x0B then t.adminDone q stOk f.aerMask
    else if fid = 0x0F ∧ q.cntlid ≠ 0 then t.adminDone q stOk f.katoMs
    else if fid = 0x81 then
      (t.adminData q [fid] (leBytes 16 (t.host (t.adminHost q)).hostid)).adminDone q stOk 0
    else if fid = 0xC1 ∧ q.cntlid ≠ 0 then t.draw.adminDone q stOk (t.drawn 32)
    else t.adminDone q stBadField 0)

/-! ### Abort, asynchronous events, keep-alive (R146, R155, R158) -/

/-- The slot an Abort names. -/
def State.abortTarget (s : State) (q : AdminCmd) (sqid cid : Nat) : Option Nat :=
  (s.cmds.slots.find? fun p => decide (p.2.cid = cid) && decide (p.2.qid = sqid) && decide (p.2.state < 5) &&
    (if q.cntlid = 0 then p.2.localPort else !p.2.localPort && decide (p.2.cntlid = q.cntlid))).map (·.1)

/-- An Abort reports: bit 0 of Dword 0 is 1 where nothing was aborted (R158, R170). -/
def State.abortReport (q : AdminCmd) (aborted : Bool) (s : State) : State :=
  (s.bump (if aborted then cAbortDone else cAbortNot) (s.adminTenant q.cntlid)).adminDone q stOk (if aborted then 0 else 1)

/-- ABORT (R158, R159): decided by the admission stamp. -/
def execAbort (q : AdminCmd) (sqid : Nat) (cid : Nat) (s : State) : Res :=
  .next (s.adminRun q fun t =>
    let f := t.fab q.cntlid
    if 4 ≤ f.aborts.length then t.adminDone q stAbortLimit 0
    else if sqid = 0 then
      (if f.aers.contains cid then
        ((t.updFab q.cntlid fun x => { x with aers := dropOne cid x.aers }).adminDone { q with cid := cid } stAborted 0).abortReport q true
      else t.abortReport q false)
    else
      match t.abortTarget q sqid cid with
      | none => t.abortReport q false
      | some n =>
        let p := t.slot n
        if p.state ≤ 2 ∧ t.localPort.fetching.contains n = false then (((t.dropDeferred n).endErr n stAborted).abortReport q true).settle
        else if p.state = 3 then
          let w := t.withdrawHere n
          if w.1 = 0 then ((w.2.endErr n stAborted).abortReport q true).settle
          else if w.1 = 1 then t.abortReport q false
          else (w.2.updSlot n fun x => { x with abortPending := some (q.cntlid, q.cid) }).updFab q.cntlid fun x => { x with
            aborts := x.aborts ++ [q.cid] }
        else t.abortReport q false)

/-- Report an asynchronous event that waits for an Asynchronous Event Request: an error event of the local port (R462), or a
namespace attribute notice where the host has enabled it (R155). -/
def State.notice (c : Nat) (s : State) : State :=
  let f := s.fab c
  match f.aers with
  | a :: rest =>
    match (if c = 0 then s.localPort.errEvent else none) with
    | some d => ((s.updFab c fun x => { x with aers := rest }).updLocalPort fun l => { l with errEvent := none }).adminDone
        { ctx := f.adminCtx, cntlid := c, cid := a } stOk d
    | none =>
      if f.changedNs ≠ [] ∧ f.noticed = false ∧ f.aerMask = 256 then
        (s.updFab c fun x => { x with aers := rest, noticed := true }).adminDone { ctx := f.adminCtx, cntlid := c, cid := a } stOk 0x040002
      else s
  | [] => s

/-- ASYNC_EVENT_REQUEST (R155): at most 4 are held. -/
def execAsyncEventRequest (q : AdminCmd) (s : State) : Res :=
  .next (s.adminRun q fun t =>
    if 4 ≤ (t.fab q.cntlid).aers.length then t.adminDone q stAerLimit 0
    else (t.updFab q.cntlid fun f => { f with aers := f.aers ++ [q.cid] }).notice q.cntlid)

/-- KEEP_ALIVE (R146): the keep-alive timer restarts. -/
def execKeepAlive (q : AdminCmd) (s : State) : Res := .next (s.adminRun q fun t => t.adminDone q stOk 0)

/-- KEEP_ALIVE_EXPIRY (R146, R147): the fabric controller is deleted. -/
def execKeepAliveExpiry (cntlid : Nat) (s : State) : Res :=
  .next (if (s.fab cntlid).live then (s.bump cKatoExpired (s.fab cntlid).tenant).deleteFab cntlid else s)

/-! ### I/O commands (R35, R38, R150 to R166) -/

/-- COMMAND_CAPSULE (R150, R163, R164): where staging for waiting capsules is full a RoCEv2 SEND is answered with a receiver-not-ready NAK,
and a TCP connection takes no more in. -/
def execCommandCapsule (c : HostCmd) (s : State) : Res :=
  .next (if s.capsuleShut then
    (if c.localPort = false ∧ (s.ctx c.ctx).kind = 1 then
      (s.sendNak c.ctx 4 (s.ctx c.ctx).rcvNxt.toNat).bump cCapsuleRnr (engineOf c.ctx) else s)
  else ((s.capsuleIn c).afterError c.ctx).settle)

/-- A slot holds a command of an opcode that has passed admission policing and waits for stage 5. -/
def State.readyFor (s : State) (n op : Nat) : Bool :=
  s.slotUsed n && decide ((s.slot n).state = 1) && decide ((s.slot n).opcode = op) && !(s.localPort.fetching.contains n)

/-- Stage 5 for the command of a slot: a Flush completes, for every write completed before it is stable (R162); any other asks for
its stamp. -/
def State.goOn (n : Nat) (s : State) : State :=
  let p := s.slot n
  if p.opcode = 0 then s.trigger n 2 else (s.stageFive n p.slba p.nlb).settle

/-- READ (R35, R181, R191): the slot's Read goes on to its admission stamp. -/
def execRead (slot : Nat) (s : State) : Res :=
  bounded (decide (slot < 262144)) (s.when (s.readyFor slot 2) fun t => (t.stageFive slot (t.slot slot).slba (t.slot slot).nlb).settle)

/-- WRITE (R38, R181). -/
def execWrite (slot : Nat) (s : State) : Res :=
  bounded (decide (slot < 262144)) (s.when (s.readyFor slot 1) fun t => (t.stageFive slot (t.slot slot).slba (t.slot slot).nlb).settle)

/-- FLUSH (R162): no drive activity and no stamp; it completes. -/
def execFlush (slot : Nat) (s : State) : Res :=
  bounded (decide (slot < 262144)) (s.when (s.readyFor slot 0) fun t => t.trigger slot 2)

/-- COMPARE (R277). -/
def execCompare (slot : Nat) (s : State) : Res :=
  bounded (decide (slot < 262144)) (s.when (s.readyFor slot 5) fun t => (t.stageFive slot (t.slot slot).slba (t.slot slot).nlb).settle)

/-- WRITE_ZEROES (R174). -/
def execWriteZeroes (slot : Nat) (s : State) : Res :=
  bounded (decide (slot < 262144)) (s.when (s.readyFor slot 8) fun t => (t.stageFive slot (t.slot slot).slba (t.slot slot).nlb).settle)

/-- DATASET_MANAGEMENT (R560): its first piece goes on to its stamp; the others follow one by one. -/
def execDatasetManagement (slot : Nat) (s : State) : Res :=
  bounded (decide (slot < 262144)) (s.when (s.readyFor slot 9) fun t => (t.stageFive slot (t.slot slot).slba (t.slot slot).nlb).settle)

/-- VERIFY (R277). -/
def execVerify (slot : Nat) (s : State) : Res :=
  bounded (decide (slot < 262144)) (s.when (s.readyFor slot 0x0C) fun t => (t.stageFive slot (t.slot slot).slba (t.slot slot).nlb).settle)

/-- SLOT_RELEASE (R153, R165): a slot that is ENDING and has its drive tags back becomes FREE; an adopted command that waits takes
one first, then waiting capsules may (R150, R391). -/
def execSlotRelease (slot : Nat) (s : State) : Res :=
  bounded (decide (slot < 262144)) (if s.slotUsed slot ∧ (s.slot slot).state = 5 ∧ s.tagsBack slot then
    (((s.releaseSlot slot).adoptWaiting s.pair.adoptWaiting.length).offerSlots s.cmds.waiting.length).settle else s)

/-- REPLAY_RECORD_EXPIRY (R165): a record closes after REPLAY_MS. -/
def execReplayRecordExpiry (rec : Nat) (s : State) : Res :=
  .next (s.updCmds fun m => { m with replays := tadj rec (fun r => { r with isOpen := false }) m.replays }).pruneReads

/-- OVERLOAD_STATUS (R168). -/
def State.overloadWord (s : State) : Nat :=
  s.cmds.overload.toNat * 2 ^ 63 + s.cmds.worstTenant * 2 ^ 51 + s.cmds.p50 * 2 ^ 32 + s.cmds.p99 * 2 ^ 16 + s.cmds.overloadEvents

/-- SATURATION_SAMPLE (R168): `dispatchShort` says that drive dispatch held eligible commands it could not dispatch; the delays are those
of the sampling. -/
def execSaturationSample (dispatchShort : Bool) (worst : Nat) (p50 : Nat) (p99 : Nat) (s : State) : Res :=
  let full := decide (262144 - s.cmds.slots.length < 2621) || dispatchShort
  let t := s.updCmds fun m => { m with
    saturatedRun := if full then m.saturatedRun + 1 else 0, clearRun := if full then 0 else m.clearRun + 1
    worstTenant := worst % 4096, p50 := sat 65535 p50, p99 := sat 65535 p99 }
  .next (if t.cmds.overload = false ∧ 100 ≤ t.cmds.saturatedRun then
    let u := t.updCmds fun m => { m with overload := true, overloadEvents := sat 65535 (m.overloadEvents + 1) }
    u.raise 0x0301 whole u.overloadWord
  else if t.cmds.overload ∧ 100 ≤ t.cmds.clearRun then
    let u := t.updCmds fun m => { m with overload := false }
    u.raise 0x0302 whole u.overloadWord
  else t)

/-- The heads of the deferred FIFOs of a tenant, in the order of the scan (R348): (context, slot). -/
def State.deferredHeads (s : State) (t : Nat) : List (Nat × Nat) :=
  let heads := s.qos.deferred.filterMap fun e => e.2.head?.bind fun n => if (s.slot n).tenant = t then some (e.1, n) else none
  let c := tget 0 s.qos.deferNext t
  (heads.filter fun e => c < e.1) ++ heads.filter fun e => e.1 ≤ c

/-- One head of a deferred FIFO is examined: released and charged where its colour is no longer red (R348). -/
def State.deferTry (t : Nat) (e : Nat × Nat) (s : State) : State :=
  let p := s.slot e.2
  let m := s.meter e.1 p.tenant (meterCharge p.opcode (s.wireBytes p))
  if m.1 = 2 then s
  else
    let u := (m.2.dropDeferred e.2).updQos fun q => { q with deferNext := tput q.deferNext t e.1 }
    let v := ((u.updSlot e.2 fun x => { x with state := 1, colour := m.1 }).bump cDeferReleased p.tenant).stage e.2 3
    v.goOn e.2

/-- DEFER_RELEASE_SCAN (R348): the head of each deferred FIFO, the connections of a tenant in turn. -/
def execDeferReleaseScan (s : State) : Res :=
  let tenants := (s.qos.deferred.filterMap fun e => e.2.head?.map fun n => (s.slot n).tenant).eraseDups
  .next (tenants.foldl (fun t x => (t.deferredHeads x).foldl (fun u e => u.deferTry x e) t) s)

end Sys2Proof.Machine
end

