-- ==== Sys2Proof/Machine/LocalPort.lean ====
section
/-! DEFINITION. Meanings of the commands of the local host port (R460 to R477): resets, the NVMe registers, doorbells, the mailbox,
interrupts, LTR messages, freezes and their release. -/
namespace Sys2Proof.Machine

/-- What PERST# returns to reset (R466): configuration space, BAR 0, MSI and MSI-X, NVMe registers and mailbox; its CCP sessions end.
The freeze and its record, FREEZES, and the identifiers loaded are kept. -/
def State.lpConfigReset (s : State) : State :=
  let t := (s.lpNvmeReset.updLocalPort fun l => { l with
    bme := false, intMode := 0, vectors := 0, d3hot := false, ltrEnable := false, maxSnoop := 0, ltrHeld := none, relaxed := false
    unmasked := [], fnMask := false, pendingVec := [], mbox := {}, speed := 0, width := 0, lState := if l.frozen then 3 else 0 }).dropTransport 0
  t.updCcp fun c => { c with relayed := c.relayed.filter fun r => r.h.transport ≠ 0 }

/-- LP_PERST_ASSERT (R466, R467): DMA stops, and the port returns to reset; a freeze stays. -/
def execLpPerstAssert (s : State) : Res :=
  .next ((s.stopDma.updPins fun p => { p with lpPerst := true }).lpConfigReset)

/-- LP_PERST_DEASSERT (R466, R475): SSVID and SSID are loaded and training begins; in M0 it is wake source 0x04 where enabled (R61). -/
def execLpPerstDeassert (s : State) : Res :=
  let t := s.updPins fun p => { p with lpPerst := false }
  .next (if s.modes.mode = .m0 then (if s.denCfgWakeLocal = 1 then t.wakeBy 0x04 else t)
    else (if s.denCfgWakeLocal = 1 then t.wakeBy 0x04 else t).updLocalPort fun l => { l with
      ssvid := s.localPortCfgSsvid, ssid := s.localPortCfgSsid, lState := if l.frozen then 3 else 1 })

/-- LP_BME_CLEAR (R467): DMA stops. -/
def execLpBmeClear (s : State) : Res :=
  .next (if s.localPort.bme then s.stopDma.updLocalPort fun l => { l with bme := false } else s)

/-- LP_D3HOT_ENTRY (R467): the function is in D3hot; DMA stops where CC.EN = 1. -/
def execLpD3hotEntry (s : State) : Res :=
  .next ((s.when s.localPort.enabled State.stopDma).updLocalPort fun l => { l with d3hot := true })

/-- LP_CC_ENABLE (R463, R468): the host has configured the function (Bus Master Enable set, D0, interrupts, LTR, relaxed ordering, admin
queue sizes 0-based) and writes CC.EN = 1. In a service mode the controller becomes ready, elsewhere the enable is held. A write that
finds the controller enabled, or its queues not yet deleted, changes only the configuration (log 37). -/
def execLpCcEnable (adminSq adminCq intMode vectors : Nat) (relaxed ltr : Bool) (maxSnoop : Nat) (s : State) : Res :=
  .next (if s.lpReached = false then s
  else
    let t := s.updLocalPort fun l => { l with
      bme := true, d3hot := false, intMode := intMode, vectors := vectors, relaxed := relaxed, ltrEnable := ltr, maxSnoop := maxSnoop }
    if s.localPort.enabled ∨ s.localPort.disabling then t.ltrUpdate
    else
      let host := s.cmdCfgLocalHostId
      let f : FabCtrl := { hostId := host, tenant := (s.host host).tenant }
      let u := (t.updLocalPort fun l => { l with
        enabled := true, rdy := s.inService, heldEnable := !s.inService, cfs := decide (s.modes.mode = .m5)
        sqs := [(0, { size := adminSq + 1 })], cqs := [(0, { size := adminCq + 1 })] }).updCmds fun c => { c with fab := tput c.fab 0 f }
      u.recomputePs.ltrUpdate)

/-- LP_CC_DISABLE (R468): CC.EN = 0 ends the commands, and once every slot of the port is FREE the queues are deleted and CSTS.RDY is 0. -/
def execLpCcDisable (s : State) : Res :=
  .next (if s.lpReached = false ∨ s.localPort.enabled = false then s
  else
    let mine := tkeys (s.cmds.slots.filter fun p => p.2.localPort)
    let t := mine.foldl (fun u n => if u.localPort.fetching.contains n then u.endQuiet n else u.stopCmd n true) s
    let u := (t.updCmds fun m => { m with waiting := m.waiting.filter fun w => !w.localPort }).updLocalPort fun l => { l with
      fetching := [], enabled := false, disabling := true, d3hot := false }
    (u.recomputePs.settle).lpDrained)

/-- LP_CC_SHUTDOWN (R463): CC.SHN is written; SHST becomes 10b after the controller's last command. -/
def execLpCcShutdown (shn : Nat) (s : State) : Res :=
  .next (if s.lpReached = false ∨ s.localPort.enabled = false ∨ shn = 0 then s
  else (s.updLocalPort fun l => { l with shn := shn, shst := max 1 l.shst, d3hot := false }).lpDrained)

/-- LP_DOORBELL (R461, R462): a submission doorbell has its entries fetched, a completion doorbell frees entries. A queue that does not
exist or a value past its size is counted, raises the NVMe error event (Dword 0: log page 1, information 0 or 1) and is ignored. -/
def execLpDoorbell (qid : Nat) (isCq : Bool) (value : Nat) (s : State) : Res :=
  .next (if s.lpReached = false then s
  else
    let l := s.localPort
    let q := tget {} (if isCq then l.cqs else l.sqs) qid
    let exists' := thas (if isCq then l.cqs else l.sqs) qid
    if exists' = false ∨ q.size ≤ value then
      ((s.bump cLpDoorbellInvalid 0).updLocalPort fun x => { x with
        errEvent := some (if exists' then 0x010100 else 0x010000) }).notice 0
    else if isCq then s.updLocalPort fun x => { x with cqs := tadj qid (fun y => { y with head := value }) x.cqs }
    else
      let t := s.updLocalPort fun x => { x with sqs := tadj qid (fun y => { y with tail := value }) x.sqs }
      let n := (value + q.size - q.head) % q.size
      (t.when (s.lpDma && l.rdy && decide (n ≠ 0)) fun u => u.send .hostFetch [262144 + qid, 64 * n] []).lpUsed)

/-- LP_BAR_BAD_ACCESS (R461, R472): an access to BAR 0 that is not 4 or 8 bytes naturally aligned is answered Unsupported Request. -/
def execLpBarBadAccess (s : State) : Res :=
  .next (if decide (s.localPort.lState = 2) || s.localPort.frozen then (s.bump cLpBadAccess 0).send .urReply [] [] else s)

/-- LP_MBOX_DOORBELL (R465): MBOX_CTL is written with DOORBELL = 1. While BUSY, or with a length outside 1 to 4,096, it is REJECTED and
the packet is not read; else the request buffer is submitted, and the packet in it is the next packet of the mailbox. -/
def execLpMboxDoorbell (len : Nat) (irqEn : Bool) (vector : Nat) (s : State) : Res :=
  .next (if s.lpReached = false ∨ s.modes.mode = .m0 then s
  else
    let t := s.updLocalPort fun l => { l with mbox := { l.mbox with irqEn := irqEn, vector := vector, reqLen := len } }
    if s.localPort.mbox.busy ∨ len = 0 ∨ 4096 < len then
      (t.updLocalPort fun l => { l with mbox := { l.mbox with rejected := true } }).bump cLpMboxRejected 0
    else (t.updLocalPort fun l => { l with mbox := { l.mbox with busy := true } }).lpUsed)

/-- LP_VECTOR_UNMASK (R469): a vector is unmasked, in the MSI-X table or through INTMC; where it is pending its interrupt is sent. -/
def execLpVectorUnmask (vector : Nat) (s : State) : Res :=
  .next (if s.lpReached = false then s
  else
    let l := s.localPort
    let t := s.updLocalPort fun x => if l.intMode = 1 then { x with intms := BitVec.ofNat 32 (setBits x.intms.toNat (vector % 32) (vector % 32) 0) }
      else { x with unmasked := addOne vector x.unmasked }
    if l.pendingVec.contains vector ∧ (l.intMode = 1 ∨ (l.intMode = 2 ∧ l.fnMask = false)) ∧ s.lpDma then
      (t.updLocalPort fun x => { x with pendingVec := dropOne vector x.pendingVec }).send .interrupt [vector] []
    else t)

/-! ### Containment (R472, R473) -/

/-- The port freezes (R472): the error message, DMA stopped, CSTS.CFS set, and from then on no memory access served. -/
def State.lpFreeze (cause : Nat) (s : State) : State :=
  if s.localPort.frozen then s
  else
    ((s.stopDma.updLocalPort fun l => { l with
      frozen := true, lState := 3, cause := cause, freezes := sat 65535 (l.freezes + 1), cfs := true }).bump cLpFreezeEvents (cause - 1)).send
        .pcieErr [cause] []

/-- A frozen port is released (R473): the NVMe registers, the mailbox and the MSI-X masks return to reset, the configuration stays. -/
def State.lpRelease (s : State) : State :=
  s.lpNvmeReset.updLocalPort fun l => { l with
    frozen := false, mbox := {}, unmasked := [], pendingVec := []
    lState := if s.den.pins.lpPerst then 0 else if l.speed = 0 then 1 else 2 }

/-- LP_UNCORR_ERROR (R472, R473): cause 0x1. -/
def execLpUncorrError (s : State) : Res := .next (if s.localPort.lState = 2 then s.lpFreeze 1 else s)

/-- LP_HOT_RESET (R472): cause 0x2 while PERST# is deasserted; the link trains again. -/
def execLpHotReset (s : State) : Res :=
  .next (if s.den.pins.lpPerst ∨ s.localPort.speed = 0 then s
    else (s.lpFreeze 2).updLocalPort fun l => { l with speed := 0, width := 0 })

/-- LP_LINK_DOWN (R472): cause 0x3 while PERST# is deasserted. -/
def execLpLinkDown (s : State) : Res :=
  .next (if s.den.pins.lpPerst ∨ s.localPort.speed = 0 then s
    else (s.lpFreeze 3).updLocalPort fun l => { l with speed := 0, width := 0 })

/-- LP_AUTO_RELEASE (R473): the link has been up again for 10 ms, and a freeze of cause HOT_RESET or LINK is released where AUTO_RELEASE
allows it. -/
def execLpAutoRelease (s : State) : Res :=
  let l := s.localPort
  .next (if l.frozen ∧ (l.cause = 2 ∨ l.cause = 3) ∧ s.localPortCfgAutoRelease = 1 ∧ l.speed ≠ 0 ∧ s.den.pins.lpPerst = false then s.lpRelease
    else s)

/-! ### LTR and the link (R466, R471) -/

/-- LP_IDLE_TIMER (R471): 100 µs have passed since the port was last used. -/
def execLpIdleTimer (s : State) : Res :=
  .next (if s.lpActive then s else (s.updLocalPort fun l => { l with lastActiveNs := 0 }).ltrUpdate)

/-- LP_LTR_HOLD_END (R471): the change held is sent. -/
def execLpLtrHoldEnd (s : State) : Res :=
  .next (match s.localPort.ltrHeld with
  | some f => if s.localPort.ltrEnable then s.ltrSend f else s.updLocalPort fun l => { l with ltrHeld := none }
  | none => s)

/-- LOCAL_LINK_UP (R466, R476): the link reaches L0 with a speed and a width. -/
def execLocalLinkUp (speed width : Nat) (s : State) : Res :=
  .next (if s.den.pins.lpPerst ∨ s.modes.mode = .m0 ∨ speed = 0 then s
    else s.updLocalPort fun l => { l with speed := speed, width := width, linkUpNs := s.now, lState := if l.frozen then 3 else 2 })

/-! ### Reads of host memory (R464) -/

/-- A piece of the data of a write-kind command arrives; the last piece sends the command on. -/
def State.lpDataIn (slot : Nat) (bytes : Bytes) (s : State) : State :=
  let p := s.slot slot
  let d := bytes.take p.need
  let t := s.updSlot slot fun x => { x with data := x.data ++ d, need := x.need - d.length }
  if p.need ≤ bytes.length then (t.updLocalPort fun l => { l with fetching := dropOne slot l.fetching }).police slot else t

/-- HOST_MEMORY_READ_COMPLETION (R464, R467): submission entries of a queue, or data of a write-kind command. After DMA has stopped the
completion is accepted, discarded and counted. -/
def execHostMemoryReadCompletion (qid : Nat) (cmds : List HostCmd) (slot : Nat) (bytes : Bytes) (s : State) : Res :=
  .next (if s.lpDma = false ∨ s.localPort.cfs then s.bump cLpCplDiscarded 0
  else
    let t := cmds.foldl (fun u c => u.capsuleIn { c with localPort := true, qid := qid, cntlid := 0 }) s
    let t1 := t.updLocalPort fun l => { l with sqs := tadj qid (fun q => { q with head := (q.head + cmds.length) % max 1 q.size }) l.sqs }
    (if t1.localPort.fetching.contains slot ∧ bytes ≠ [] then t1.lpDataIn slot bytes else t1).settle)

end Sys2Proof.Machine
end

