-- ==== Sys2Proof/Machine/SlotPower.lean ====
section
/-! DEFINITION. The commands of slot power, shelf feeds, the energy store and margins (R426 to R459). -/
namespace Sys2Proof.Machine

/-! ### Slot supervisors (R426 to R438) -/

/-- A field of SLOT_PWR_CFG as taken at the last start-up, or as it stands before any (R451). -/
def State.slotTaken (s : State) (slot hi lo : Nat) : Nat := bits ((s.slotPwr slot).taken.getD (s.word (oid 11 1 slot))) hi lo

/-- COOL_MS in force, in ns. -/
def State.coolNs (s : State) (slot : Nat) : Nat := ms (s.slotTaken slot 26 11)

/-- Drives are held off: M0 with DRIVE_OFF = 1 (R429, R436). -/
def State.drivesOff (s : State) : Bool := decide (s.modes.mode = .m0) && decide (s.denCfgDriveOff = 1)

/-- A slot may be powered: SLOT_EN = 1, a class above 0, drives not held off, and the controller not stopped by a hold-up destage (R428, R436, R563). -/
def State.slotMayRun (s : State) (slot : Nat) : Bool :=
  decide (s.slotPwrCfgSlotEn slot = 1) && decide (0 < s.appliedClass slot) && !s.drivesOff && !s.den.stopped

/-- The output stood within the power-good window at the last sample: at least 90 % of the bus voltage (R427, R432). -/
def SlotPwr.outputGood (p : SlotPwr) : Bool := decide (0 < p.vBus) && decide (9 * p.vBus ≤ 10 * p.vOut)

/-- This controller leads a slot: in M3 by slot number, in every other mode where the other path is off (R427). -/
def State.leads (s : State) (slot : Nat) : Bool :=
  if s.paired then decide (slot % 2 = s.self) else (s.slotPwr slot).gateOn || !(s.slotPwr slot).outputGood

/-- What the limiter lets through, in units of 10 mA: constant power fold-back, or the inrush limit alone in KZ74 mode; never above I_LIM
(R430, R431, R451). -/
def State.iAllow (s : State) (slot : Nat) : Nat :=
  let inrush := min (10 * s.slotTaken slot 57 51) (50 * s.appliedClass slot)
  let p := s.slotPwr slot
  if s.slotTaken slot 58 58 = 1 ∨ p.vBus ≤ p.vOut then inrush else min inrush (s.slotTaken slot 50 44 * 100 * 1000 / ((p.vBus - p.vOut) * 20))

/-- Turn a gate on and start the slot (R432). -/
def State.startSlot (slot : Nat) (s : State) : State :=
  let w := s.word (oid 11 1 slot)
  s.updSlotPwr slot fun p => { p with
    pState := 4, gateOn := true, enhanced := false, gateSince := s.now, timerStart := none, pgSamples := 0, limiter := false, follower := false
    taken := some w }

/-- Start a seated slot: as a retry where it is marked after-fault, LOCKED_OUT past RETRY_MAX; a follower waits for the output (R427, R437). -/
def State.tryStart (slot : Nat) (s : State) : State :=
  let p := s.slotPwr slot
  if s.slotMayRun slot = false then s.updSlotPwr slot fun q => { q with pState := 0 }
  else if s.leads slot = false then s.updSlotPwr slot fun q => { q with pState := 2, follower := true }
  else if p.marked = false then s.startSlot slot
  else if s.slotPwrCfgRetryMax slot < p.retryCnt + 1 then
    ((s.updSlotPwr slot fun q => { q with pState := 6 }).bump cSlotLockouts slot).raise 0x0B05 slot slot
  else ((s.updSlotPwr slot fun q => { q with retryCnt := q.retryCnt + 1 }).bump cSlotRetries slot).startSlot slot

/-- A gate is turned off: the path carries nothing, and DRV_PERST_N is asserted. -/
def SlotPwr.off (p : SlotPwr) : SlotPwr :=
  { p with gateOn := false, enhanced := false, limiter := false, timerStart := none, pgSamples := 0, perstHigh := false }

/-- A fault of R432 to R435: gate off, the fault recorded, the slot marked, a cooldown begun (R437). -/
def State.slotFault (slot code : Nat) (counter : Nat × Nat) (s : State) : State :=
  let t := s.updSlotPwr slot fun p => { p.off with
    pState := 3, lastFault := code, marked := true, cooling := true, coolUntil := s.now + s.coolNs slot, cycling := false }
  (t.bump counter slot).recomputeLimit false

/-- SLOT_PRESENCE_ASSERT (R429): both pins are asserted; SEAT_MS runs. -/
def execSlotPresenceAssert (slot : Nat) (s : State) : Res :=
  bounded (decide (slot < 64))
    (s.updSlotPwr slot fun p => { p with present := true, seatSince := s.now, pState := if p.pState = 1 then (if s.slotMayRun slot then 2 else 0) else p.pState })

/-- SLOT_SEATED (R429, R437, R438): the drive is seated: it starts, or waits for a running cooldown; with the drives held off it may wake the
controller (R61). -/
def execSlotSeated (slot : Nat) (s : State) : Res :=
  bounded (decide (slot < 64))
    (let p := s.slotPwr slot
    if p.present = false then s
    else if s.drivesOff then (s.updSlotPwr slot fun q => { q with pState := 0 }).when (decide (s.denCfgWakeSlot = 1)) fun t => t.wakeBy 0x06
    else if p.pState ≠ 2 ∧ p.pState ≠ 0 then s
    else
      let t := if p.cooling then s.updSlotPwr slot fun q => { q with pState := if s.slotMayRun slot then 3 else 0 } else s.tryStart slot
      t.when (decide (s.modes.mode = .m0) && decide (s.denCfgWakeSlot = 1)) fun u => u.wakeBy 0x06)

/-- Drive Ports hears of a removal (R415, R418 to R420): a port that is UP is contained with cause REMOVED; a release or a step of bring-up is abandoned;
then the port is EMPTY. -/
def State.portEmptied (slot : Nat) (s : State) : State :=
  let t := s.contain slot 7
  t.updDport slot fun p => { p with
    dState := if p.dState = 0 then 0 else 1, enumStep := 0, speed := 0, width := 0, adminCids := [], label := none, registered := false, reserved := false }

/-- SLOT_PRESENCE_LOST (R429, R437): the gate is off and Drive Ports is told; in STARTING the attempt is cancelled, and a cooldown starts where none
runs. -/
def execSlotPresenceLost (slot : Nat) (s : State) : Res :=
  bounded (decide (slot < 64))
    (let p := s.slotPwr slot
    let cancelled := decide (p.pState = 4)
    let t := s.updSlotPwr slot fun q => { q.off with
      present := false, emptySince := s.now, follower := false, cycling := false
      pState := if q.pState = 6 then 6 else if q.pState = 0 then 0 else 1
      lastFault := if cancelled then 4 else q.lastFault, marked := q.marked || cancelled
      cooling := q.cooling || cancelled, coolUntil := if cancelled && !q.cooling then s.now + s.coolNs slot else q.coolUntil }
    ((t.when cancelled fun u => u.bump cSlotCancelled slot).portEmptied slot).recomputeLimit false)

/-- Power-good is qualified: the gate is fully enhanced and the slot POWERED (R432); the larder limit follows (R446). -/
def State.slotPowered (slot : Nat) (s : State) : State :=
  (s.updSlotPwr slot fun p => { p with pState := 5, enhanced := true, timerStart := none, poweredSince := s.now }).recomputeLimit false

/-- The fault timer of a start-up has expired: from the first limiter engagement, or from gate turn-on where the limiter never engages (R432). -/
def State.startExpired (s : State) (slot : Nat) : Bool :=
  decide ((s.slotPwr slot).timerStart.getD (s.slotPwr slot).gateSince + ms (s.slotTaken slot 36 30) ≤ s.now)

/-- SLOT_SAMPLE (R426, R432 to R434): in STARTING the first limiter engagement starts the fault timer, and two samples in a row with the output at 90 % of
the bus and the limiter inactive qualify power-good, unless the timer has expired (R433). -/
def execSlotSample (slot : Nat) (current : Nat) (vOut : Nat) (vBus : Nat) (limiter : Bool) (s : State) : Res :=
  bounded (decide (slot < 64))
    (let s1 := s.updSlotPwr slot fun p => { p with
      iNow := min 4095 current, vOut := min 2047 vOut, vBus := vBus, limiterSince := if limiter && !p.limiter then s.now else p.limiterSince, limiter := limiter }
    let p := s1.slotPwr slot
    if p.pState ≠ 4 then s1
    else
      let n := if p.outputGood && !limiter then p.pgSamples + 1 else 0
      let s2 := s1.updSlotPwr slot fun q => { q with pgSamples := n, timerStart := if limiter && q.timerStart.isNone then some s.now else q.timerStart }
      if n < 2 then s2 else if s2.startExpired slot then s2.slotFault slot 2 cSlotStartFaults else s2.slotPowered slot)

/-- SLOT_FAULT_TIMER (R432): the fault timer has expired before power-good: fault START. -/
def execSlotFaultTimer (slot : Nat) (s : State) : Res :=
  bounded (decide (slot < 64)) (if (s.slotPwr slot).pState = 4 then s.slotFault slot 2 cSlotStartFaults else s)

/-- SLOT_OVERCURRENT_TIMER (R434): the limiter has been active for FAULT_MS in service; a release seen by now wins. -/
def execSlotOvercurrentTimer (slot : Nat) (s : State) : Res :=
  bounded (decide (slot < 64))
    (if (s.slotPwr slot).pState = 5 ∧ (s.slotPwr slot).limiter then s.slotFault slot 3 cSlotOvercurrent else s)

/-- SLOT_TRIP (R435): the path current has crossed TRIP_A. -/
def execSlotTrip (slot : Nat) (s : State) : Res :=
  bounded (decide (slot < 64)) (if (s.slotPwr slot).gateOn then s.slotFault slot 1 cSlotTrips else s)

/-- SLOT_COOLDOWN_END (R437): a drive that waits retries, or the slot locks out past RETRY_MAX. -/
def execSlotCooldownEnd (slot : Nat) (s : State) : Res :=
  bounded (decide (slot < 64))
    (if (s.slotPwr slot).cooling then
      let t := s.updSlotPwr slot fun p => { p with cooling := false }
      if (s.slotPwr slot).pState = 3 then t.tryStart slot else t
    else s)

/-- RETRY_CNT and the mark are cleared; a slot locked out leaves that state, and starts where its drive has been seated for SEAT_MS (R429, R437, R438). -/
def State.clearRetry (slot : Nat) (s : State) : State :=
  let t := s.updSlotPwr slot fun p => { p with retryCnt := 0, marked := false, pState := if p.pState = 6 then (if p.present then 2 else 1) else p.pState }
  if (s.slotPwr slot).pState = 6 ∧ (s.slotPwr slot).present ∧ (s.slotPwr slot).seatSince + ms (s.slotPwrCfgSeatMs slot) ≤ s.now then
    (if (s.slotPwr slot).cooling then t.updSlotPwr slot fun p => { p with pState := 3 } else t.tryStart slot)
  else t

/-- SLOT_EMPTY_CLEAR (R437, R438): the slot has been empty for COOL_MS; an insertion seen by now wins. -/
def execSlotEmptyClear (slot : Nat) (s : State) : Res :=
  bounded (decide (slot < 64)) (if (s.slotPwr slot).present then s else s.clearRetry slot)

/-- SLOT_POWERED_CLEAR (R437): POWERED for 60 s with no fault. -/
def execSlotPoweredClear (slot : Nat) (s : State) : Res :=
  bounded (decide (slot < 64)) (if (s.slotPwr slot).pState = 5 then s.clearRetry slot else s)

/-- DRV_PERST_DEASSERT (R432): 100 ms after power-good, which completes step 1 of R405. -/
def execDrvPerstDeassert (slot : Nat) (s : State) : Res :=
  bounded (decide (slot < 64)) (if (s.slotPwr slot).pState = 5 then s.updSlotPwr slot fun p => { p with perstHigh := true } else s)

/-- FOLLOWER_GATE_CLOSE (R427): the output has stayed within the power-good window for 1 ms and the drain-source voltage is low: the follower closes
its gate and carries no inrush. -/
def execFollowerGateClose (slot : Nat) (s : State) : Res :=
  bounded (decide (slot < 64))
    (let p := s.slotPwr slot
    if p.present ∧ p.pState = 2 ∧ p.outputGood ∧ p.cooling = false ∧ s.slotMayRun slot ∧ s.leads slot = false then
      (s.updSlotPwr slot fun q => { q with gateOn := true, follower := true, gateSince := s.now, taken := some (s.word (oid 11 1 slot)) }).slotPowered slot
    else s)

/-- CYCLE_OFF_END (R452): the 1 s off period of CYCLE has ended: the slot starts, which is not counted as a retry. -/
def execCycleOffEnd (slot : Nat) (s : State) : Res :=
  bounded (decide (slot < 64))
    (if (s.slotPwr slot).cycling then
      let t := s.updSlotPwr slot fun p => { p with cycling := false }
      if s.slotMayRun slot then t.startSlot slot else t.updSlotPwr slot fun p => { p with pState := 0 }
    else s)

/-! ### Shelf feeds (R439, R440, R563) -/

/-- FEED_LOSS (R439, R440): below 10.2 V for 1 µs. -/
def execFeedLoss (feed : Nat) (volt : Nat) (s : State) : Res := bounded (decide (feed < 2)) (s.feedDown feed volt)

/-- FEED_REVERSE_CURRENT (R439): the feed is turned off. -/
def execFeedReverseCurrent (feed : Nat) (s : State) : Res :=
  bounded (decide (feed < 2))
    ((s.updPower fun p => { p with feeds := if feed = 0 then { p.feeds with aConduct := false } else { p.feeds with bConduct := false } }).bump cFeedReverse feed)

/-- FEED_GOOD (R439, R563): 10 ms above 10.8 V; event 0x0B01. A controller stopped at the end of a hold-up destage powers up again from step 4 of R538. -/
def execFeedGood (feed : Nat) (volt : Nat) (s : State) : Res :=
  bounded (decide (feed < 2))
    (let good := if feed = 0 then s.power.feeds.aGood else s.power.feeds.bGood
    let t := s.updPower fun p => { p with feeds :=
      if feed = 0 then { p.feeds with aGood := true, aConduct := true, aVolt := volt } else { p.feeds with bGood := true, bConduct := true, bVolt := volt } }
    if good then t
    else
      let u := t.raise 0x0B01 feed (feed + 256 * volt)
      if s.den.stopped then
        let v := u.updDen fun d => { d with stopped := false }
        if s.den.pins.resetNLow then v else v.powerUpFrom4
      else u)

/-! ### The energy store (R441 to R447) -/

/-- Change the energy store. -/
def State.updEstore (f : Estore → Estore) (s : State) : State := s.updPower fun p => { p with estore := f p.estore }

/-- HEALTH by the last test against the nominal values (R443). -/
def State.gradeOf (s : State) : Nat :=
  let e := s.power.estore
  if !s.storePresent then 0
  else if e.testFailed then 4
  else if !e.tested then 1
  else
    let c := s.esField 0 2
    let r := s.esField 2 2
    let low (pct : Nat) : Bool := !s.storeBattery && decide (100 * e.cMeas < pct * c)
    let high (pct : Nat) : Bool := decide (pct * r < 100 * e.esrMeas)
    if low 50 || high 250 then 4 else if low 80 || high 150 then 3 else 2

/-- Grade HEALTH again; a change raises event 0x0B02, a margin record and wake source 0x08 (R443, R450); then the limit is recomputed (R446). -/
def State.gradeStore (cause : Nat) (s : State) : State :=
  let old := s.power.estore.health
  let new := s.gradeOf
  let t := s.updEstore fun e => { e with health := new }
  let u := if old = new then t
    else ((t.raise 0x0B02 whole (old + 256 * new)).marginRecord 0x07 cause whole old new).when (decide (s.denCfgWakeEstore = 1)) fun v => v.wakeBy 0x08
  u.recomputeLimit true

/-- The first energy-store test of this bring-up has ended (R527 step 11). -/
def State.storeTestEnds (s : State) : State :=
  s.updBoot fun b => { b with storeTestDone := true, bootStep := if b.bootStep = 10 ∨ b.bootStep = 11 then 11 else b.bootStep }

/-- ESTORE_TEST_START (R60, R442), in every mode: the test begins once the store is charged; until then it is deferred. -/
def execEstoreTestStart (vNow : Nat) (s : State) : Res :=
  .next (let t := s.updEstore fun e => { e with vNow := vNow }
  if !s.storePresent || s.power.estore.testing || decide (100 * vNow + 100 < s.vChgEffMv) then t
  else (t.updEstore fun e => { e with testing := true, charging := false, discharging := true, lastTestNs := s.now }).bump cEstoreTests 0)

/-- ESTORE_TEST_MEASURE_END (R442, R443): the measurements are in, the charger is restored and HEALTH graded; a battery's test measures the ESR alone. -/
def execEstoreTestMeasureEnd (cMeas : Nat) (esrMeas : Nat) (s : State) : Res :=
  .next (if s.power.estore.testing then
    ((s.updEstore fun e => { e with
      testing := false, discharging := false, charging := true, chargeSince := s.now, tested := true, testFailed := false
      cMeas := if s.storeBattery then e.cMeas else cMeas, esrMeas := esrMeas }).storeTestEnds).gradeStore 0x04
  else s)

/-- ESTORE_TEST_TIMEOUT (R442, R443): the fall has taken more than 10 s: the test has failed. -/
def execEstoreTestTimeout (s : State) : Res :=
  .next (if s.power.estore.testing then
    (((s.updEstore fun e => { e with testing := false, discharging := false, charging := true, chargeSince := s.now, tested := true, testFailed := true }).bump
      cEstoreTestFail 0).storeTestEnds).gradeStore 0x04
  else s)

/-- ESTORE_CHARGE_TIMEOUT (R443): V_CHG_EFF not reached within 600 s: UNHEALTHY. -/
def execEstoreChargeTimeout (s : State) : Res :=
  .next (if s.storePresent then ((s.updEstore fun e => { e with testFailed := true }).storeTestEnds).gradeStore 0x04 else s)

/-- ESTORE_OVER_CEILING (R441): the stored energy is more than 2 % above the fused ceiling: the discharge path is on until it is back at it. -/
def execEstoreOverCeiling (vNow : Nat) (s : State) : Res :=
  .next (let t := s.updEstore fun e => { e with vNow := vNow }
  let e2 := s.power.estore.cMeas * vNow * vNow
  if s.storeBattery then t
  else if s.fuses.energyCeilJ * 204000 < e2 then
    (t.updEstore fun e => { e with charging := false, discharging := true }).when (!s.power.estore.discharging) fun u => u.bump cEstoreDischarges 0
  else if e2 ≤ s.fuses.energyCeilJ * 200000 ∧ s.power.estore.testing = false then t.updEstore fun e => { e with discharging := false, charging := s.storePresent, chargeSince := if e.charging then e.chargeSince else s.now }
  else t)

/-- A controller in M3 whose limit is 0 moves its extents to its partner, one at a time (R445). -/
def State.shedExtents (s : State) : State :=
  if s.paired ∧ s.layout.limit = 0 ∧ s.power.estore.partnerN ≠ 0 ∧ s.leaseIdle then
    match s.cons.extents.find? fun e => decide (e.2.state = 1) && decide (e.2.owner = s.self) with
    | some e => s.startMove e.2.handle e.2.extNo s.other
    | none => s
  else s

/-- LARDER_LIMIT_RECOMPUTE (R444 to R447): from V_NOW, and a new destage rate where one was measured. -/
def execLarderLimitRecompute (vNow : Nat) (rate : List Nat) (s : State) : Res :=
  .next ((((s.updEstore fun e => { e with vNow := vNow, rates := (rate ++ e.rates).take 16 }).recomputeLimit false).shedExtents).settle)

/-- PARTNER_NCOVER_POLL (R445): the partner's N_COVER is read over the CCP relay. -/
def execPartnerNcoverPoll (ncover : Nat) (s : State) : Res :=
  .next (if s.paired then ((s.updEstore fun e => { e with partnerN := ncover }).recomputeLimit false).settle else s)

/-! ### Margins (R448 to R450) -/

/-- The rung above a rate (R97). -/
def rungAbove (rate : Nat) : Nat := if rate = 200 then 400 else 800

/-- A margin that is only reported (R448). -/
def State.marginEvent (kind n : Nat) (s : State) : State := s.raise 0x0B03 n (kind * 2 ^ 32 + n % 2 ^ 16 * 2 ^ 48)

/-- Lower the rate ceiling of a member by one rung; the step-down begins where its group is free for one (R448, R449). -/
def State.lowerCeiling (p : Nat) (s : State) : State :=
  let old := s.topRate p
  match s.lagOf p with
  | some g =>
    if s.marginCfgAutoRate = 1 ∧ 200 < old then
      let new := rungBelow old
      let again := decide (s.now < tget 0 s.margins.raisedNs p + sec 3600) && thas s.margins.raisedNs p
      let t := (s.updMargins fun m => { m with
        ceiling := tput m.ceiling p new, ceilingSince := tput m.ceilingSince p s.now, eyeLow := tdel m.eyeLow p
        ceilingHeld := if again then addOne p m.ceilingHeld else m.ceilingHeld }).marginRecord 0x02 0x02 p old new
      if (t.lag g).lagStep.isNone ∧ (t.port p).linkUp ∧ new < (t.port p).rate then t.beginStep g p new else t
    else s.marginEvent 0x02 p
  | none => s.marginEvent 0x02 p

/-- 24 h after a ceiling was set one rung is tried again, unless a renewed fall holds it (R448). -/
def State.raiseCeiling (p : Nat) (s : State) : State :=
  let c := s.topRate p
  if thas s.margins.ceiling p ∧ s.margins.ceilingHeld.contains p = false ∧ tget 0 s.margins.ceilingSince p + sec 86400 ≤ s.now ∧ s.marginCfgAutoRate = 1 then
    let new := min (s.cfgRate p) (rungAbove c)
    (s.updMargins fun m => { m with
      ceiling := if new = s.cfgRate p then tdel m.ceiling p else tput m.ceiling p new
      ceilingSince := tput m.ceilingSince p s.now, raisedNs := tput m.raisedNs p s.now }).marginRecord 0x02 0x08 p c new
  else s

/-- Management software writes AUTO_RATE = 0: the ceilings held after a renewed fall are cleared, each with its record (R448, R450, log 93). -/
def State.clearHeld (s : State) : State :=
  if s.marginCfgAutoRate = 1 then s
  else s.margins.ceilingHeld.foldl (fun t p =>
    (t.updMargins fun m => { m with ceiling := tdel m.ceiling p, ceilingHeld := dropOne p m.ceilingHeld }).marginRecord 0x02 0x09 p (t.topRate p) (t.cfgRate p)) s

/-- EYE_SAMPLE (R448): (logical port, eye height in mV) of each link; other links under numbers from 16 raise an event alone. -/
def execEyeSample (heights : List (Nat × Nat)) (s : State) : Res :=
  .next (heights.foldl (fun t h =>
    if h.2 < s.marginCfgEyeMinMv then
      let n := tget 0 t.margins.eyeLow h.1 + 1
      if n < 3 then t.updMargins fun m => { m with eyeLow := tput m.eyeLow h.1 n }
      else if h.1 < 16 then (t.updMargins fun m => { m with eyeLow := tput m.eyeLow h.1 n }).lowerCeiling h.1
      else (t.updMargins fun m => { m with eyeLow := tput m.eyeLow h.1 n }).marginEvent 0x02 h.1
    else (t.updMargins fun m => { m with eyeLow := tdel m.eyeLow h.1 }).raiseCeiling h.1) s)

/-- The stack with the greatest of some counts: (stack, count). -/
def worstStack (counts : List Nat) : Nat × Nat :=
  (counts.mapIdx fun i c => (i, c)).foldl (fun a e => if a.2 < e.2 then e else a) (0, 0)

/-- HBM_CE_SAMPLE (R448): corrected errors of each stack in the last hour: above HBM_CE_HI the refresh rate doubles, up to 4 times; below a quarter of it for
24 h it halves. -/
def execHbmCeSample (counts : List Nat) (s : State) : Res :=
  .next (let w := worstStack counts
  let hi := s.marginCfgHbmCeHi
  let level := s.elec.ceLevel
  let set (n : Nat) (t : State) : State := t.updElec fun e => { e with ceLevel := n }
  if hi < w.2 then
    let t := s.updMargins fun m => { m with ceQuiet := none }
    if level < 4 then (set (2 * level) t).marginRecord 0x03 0x03 w.1 level (2 * level) else t.marginEvent 0x03 w.1
  else if 4 * w.2 < hi then
    match s.margins.ceQuiet with
    | none => s.updMargins fun m => { m with ceQuiet := some s.now }
    | some q =>
      if q + sec 86400 ≤ s.now ∧ 1 < level then
        (set (level / 2) (s.updMargins fun m => { m with ceQuiet := some s.now })).marginRecord 0x03 0x08 w.1 level (level / 2)
      else s
  else s.updMargins fun m => { m with ceQuiet := none })

/-- A member is at risk: its latency, in percent of the pool's median, exceeds SLOW_X, or it has a quarter of MEDIA_ERR_MAX within 60 min. Answers the
cause, 5 or 6. -/
def State.riskCause (s : State) (pool slot : Nat) (latency : List (Nat × Nat)) : Option Nat :=
  let slow := latency.any fun e => decide (e.1 = slot) && decide (100 * s.marginCfgSlowX < e.2)
  let errs := ((s.pool pool).mediaErrs.filter fun e => decide (e.1 = slot) && decide (s.now < e.2 + sec 3600)).length
  if slow then some 5 else if s.rebuildCfgMediaErrMax ≤ 4 * errs then some 6 else none

/-- The Badger period and rebuild rate of a pool change: each is recorded where its bit permits it, else only reported (R448 to R450). -/
def State.riskRecords (pool cause : Nat) (old s : State) : State :=
  let t := if s.marginCfgAutoScrub = 1 then s.marginRecord 0x05 cause pool (old.passDays pool) (s.passDays pool) else s.marginEvent 0x05 pool
  if s.marginCfgAutoRebuild = 1 then t.marginRecord 0x06 cause pool (old.rebuildRate pool) (s.rebuildRate pool) else t.marginEvent 0x06 pool

/-- DRIVE_RISK_SAMPLE (R448): (slot, 99th percentile of read latency in percent of the pool's median). -/
def execDriveRiskSample (latency : List (Nat × Nat)) (s : State) : Res :=
  .next ((tkeys (s.layout.pools.filter fun p => decide (2 ≤ p.2.pState))).foldl (fun t n =>
    match (t.memberSlots n).filterMap fun m => t.riskCause n m latency with
    | cause :: _ =>
      let u := t.updMargins fun m => { m with riskSince := tput m.riskSince n s.now }
      if thas t.margins.riskSince n then u else State.riskRecords n cause t u
    | [] =>
      if thas t.margins.riskSince n ∧ tget 0 t.margins.riskSince n + sec 86400 ≤ s.now then
        State.riskRecords n 0x08 t (t.updMargins fun m => { m with riskSince := tdel m.riskSince n })
      else t) s)

/-- FUSE_MARGIN_CHECK (R448): a sense margin below half its value at provisioning raises an event; a failed one is a life-cycle fault. -/
def execFuseMarginCheck (belowHalf : Bool) (failed : Bool) (s : State) : Res :=
  .next (if failed then s.enterM5 0x10 else s.when belowHalf fun t => t.marginEvent 0x08 whole)

end Sys2Proof.Machine
end

