-- ==== Sys2Proof/Machine/Registers.lean ====
section
/-! DEFINITION. The management objects as bytes (R502 to R506): which exist, what a read of them returns, and whether a write is accepted. -/
namespace Sys2Proof.Machine

/-! ### The object map (R502, R504) -/

/-- The instances of a subsystem's types, by type number; 0 where a type does not exist (R504). -/
def objCounts (sub : Nat) : List Nat :=
  match sub with
  | 1 => [0, 4, 16, 16, 4, 16, 8, 8, 4]
  | 2 => [0, 8, 1]
  | 3 => [0, 8192, 16384, 4096, 1, 1, 1, 16384]
  | 4 => [0, 1, 1, 1, 1]
  | 5 => [0, 8, 8, 1, 8, 1, 1, 1, 8, 8, 8, 8, 8, 8, 1, 8, 1]
  | 6 => [0, 1, 16384, 1]
  | 7 => [0, 1, 1]
  | 8 => [0, 4096, 4096, 4096, 8, 4096, 4096, 128, 128, 8, 1, 1]
  | 9 => [0, 1, 1, 1, 1]
  | 10 => [0, 16, 64, 64, 64]
  | 11 => [0, 64, 64, 64, 1, 1, 1, 1, 1, 1]
  | 12 => [0, 1, 1, 1]
  | 13 => [0, 27, 16, 1, 1, 4096]
  | 14 => [0, 22, 1, 1, 1, 1, 64, 8, 8, 8, 64, 1, 1]
  | _ => []

/-- The subsystem, type and instance of an object identifier (R502). -/
def idSub (id : Nat) : Nat := id / 16777216
/-- The type of an object identifier. -/
def idType (id : Nat) : Nat := id / 16384 % 1024
/-- The instance of an object identifier. -/
def idInst (id : Nat) : Nat := id % 16384

/-- An object exists. -/
def objExists (id : Nat) : Bool := decide (idInst id < (objCounts (idSub id)).getD (idType id) 0)

/-- The group a write of an object needs (R504). -/
def writeGroup (id : Nat) : Option Nat :=
  if objExists id = false then none
  else
    match idSub id, idType id with
    | 1, _ => some 3
    | 2, _ => some 3
    | 3, _ => some 4
    | 4, _ => some 5
    | 5, _ => some 5
    | 6, 3 => some 17
    | 6, _ => some 8
    | 7, _ => some 17
    | 8, _ => some 3
    | 9, _ => some 15
    | 10, _ => some 5
    | 11, _ => some 12
    | 12, _ => some 3
    | 13, 5 => some 19
    | 13, _ => some 17
    | 14, 3 => some 12
    | 14, 4 => some 12
    | 14, 5 => some 3
    | _, _ => some 17

/-- The group a read of an object needs (R504): a tenant administrator reads the key generations and descriptors of its own namespaces under CAPSULE. -/
def readGroup (id role : Nat) : Option Nat :=
  if objExists id = false then none
  else
    match idSub id, idType id with
    | 13, 1 => some 1
    | 13, 4 => some 2
    | 6, 2 => if role = 2 then some 11 else some 0
    | 3, 7 => if role = 2 then some 11 else some 0
    | _, _ => some 0

/-! ### Contents (R503 to R506, R512, R513, R517, R521) -/

/-- Bytes without the zeros that pad them. -/
def trimZeros (b : Bytes) : Bytes := (b.reverse.dropWhile fun x => x == 0).reverse

/-- A word object as read: what was written, with the fields that report state put in (R88, R151, R203, R361, R403, R522). -/
def State.wordRead (s : State) (id : Nat) : Nat :=
  let w := s.word id
  let n := idInst id
  match idSub id, idType id with
  | 1, 5 => setBits (setBits w 50 36 (s.gateCycle n)) 31 16 (s.port n).owlLate
  | 3, 3 => setBits w 25 7 (sat (2 ^ 19 - 1) (s.tenantSlots n))
  | 5, 1 =>
    let p := s.pool n
    setBits w 25 24 (if 2 ≤ p.pState ∧ p.members.any (fun m => m.2 = 1) then 3 else p.pState)
  | 8, 7 => setBits w 23 4 (ceilDiv (s.bufLoad true n).1 4)
  | 8, 8 => setBits w 23 4 (ceilDiv (s.bufLoad false n).1 4)
  | 10, 1 => setBits w 60 60 (flag (s.drives.laneReverse.toNat.testBit n))
  | 13, 3 => setBits (setBits w 27 8 s.telem.foxHead) 7 0 s.telem.foxWraps
  | _, _ => w

/-- An entry of ADDR_TABLE_n (R506). -/
def addrBytes (a : AddrEntry) : Bytes :=
  leBytes 6 a.mac ++ leBytes 2 a.vlan ++ leBytes 1 a.egress ++ leBytes 1 a.flags ++ zeros 6 ++ leBytes 16 a.ip

/-- HOST_ENTRY_n (R143). -/
def State.hostBytes (s : State) (n : Nat) : Bytes :=
  let e := tget {} s.cmds.hosts n
  leBytes 1 (flag e.enable) ++ zeros 1 ++ leBytes 2 e.tenant ++ zeros 12 ++ leBytes 16 e.hostid ++ padTo 224 e.nqn

/-- NS_DESC_h (R501). -/
def State.nsDescBytes (s : State) (h : Nat) : Bytes :=
  let n := s.ns h
  leBytes 2 h ++ leBytes 2 n.tenant ++ leBytes 1 n.pool ++ leBytes 1 n.keying ++ leBytes 1 n.format ++ leBytes 1 n.nState ++
    leBytes 4 n.extents ++ leBytes 4 n.mapBase ++ zeros 16

/-- Entry i of LOST_LIST (R249, R505). -/
def State.lostBytes (s : State) (i : Nat) : Bytes :=
  match s.layout.lostList[i]? with
  | some (k, e) => leBytes 6 (k % 2 ^ 44) ++ leBytes 2 (k / 2 ^ 44) ++ leBytes 1 e.pool ++ leBytes 1 e.lState ++ zeros 2 ++ leBytes 4 e.foundS
  | none => zeros 16

/-- Entry i of KEYGEN_TABLE_h (R301). -/
def State.keygenBytes (s : State) (h i : Nat) : Bytes :=
  match (s.ns h).gens[i]? with
  | some (g, k) => leBytes 1 g ++ leBytes 1 k.gState ++ leBytes 1 k.origin ++
      leBytes 1 (pack [(0, flag k.warned), (1, flag k.exhausted), (2, flag k.sweepWait)]) ++ leBytes 4 k.sweepRow ++
      leBytes 8 k.ctrNext ++ leBytes 8 k.ctrHigh0 ++ leBytes 8 k.ctrHigh1
  | none => zeros 32

/-- Record size, and instances, of a counter group (R513). -/
def cntShape (g : Nat) : Nat × Nat :=
  [(120, 128), (64, 16), (136, 2), (8, 16), (96, 4096), (40, 1), (8, 12288), (152, 16384), (200, 16384), (72, 1), (192, 8), (16, 1), (16, 1),
    (88, 64), (8, 512), (48, 64), (16, 2), (48, 1), (8, 6), (8, 2), (8, 3), (48, 1), (64, 1), (8, 4), (24, 1), (32, 1), (32, 2097152)].getD g (0, 0)

/-- Record i of a counter group (R512, R513). -/
def State.cntBytes (s : State) (g i : Nat) : Bytes :=
  if g = 26 then ((List.range 8).map fun k => leBytes 4 (tget 0 (tget {} s.xport.ctx i).counters k)).flatten
  else ((List.range ((cntShape g).1 / 8)).map fun k => leBytes 8 (s.counter (g, k) i)).flatten

/-- BW_WIN_n (R517). -/
def State.bwBytes (s : State) (n : Nat) : Bytes :=
  let b := tget {} s.telem.bw n
  leBytes 4 b.windowUs ++ zeros 4 ++ leBytes 8 b.rxBytes ++ leBytes 8 b.txBytes ++ leBytes 4 b.rxPeak ++ leBytes 4 b.txPeak

/-- Record i of FOX_RING (R521, R522). -/
def State.foxBytes (s : State) (i : Nat) : Bytes :=
  match tfind s.telem.foxRing i with
  | none => zeros 128
  | some f =>
    let b := leBytes 8 f.t0 ++ ((List.range 11).map fun k => leBytes 4 (tget 0xFFFFFFFF f.stages (k + 1))).flatten ++ leBytes 2 f.tenant ++
      leBytes 2 f.handle ++ leBytes 4 f.ctx ++ leBytes 2 f.qid ++ leBytes 2 f.cid ++ leBytes 8 f.stamp ++ leBytes 8 f.slba ++ leBytes 4 f.nlb ++
      leBytes 1 f.opcode ++ leBytes 1 f.flags ++ leBytes 2 f.status ++ leBytes 1 f.mode ++ zeros 3 ++ leBytes 4 f.seq ++ zeros 28
    b ++ leBytes 4 (crc32c b)

/-- Record size, number of records and the i-th record of an object that is not one word (R503, R504). -/
def State.objRecords (s : State) (id : Nat) : Option (Nat × Nat × (Nat → Bytes)) :=
  let n := idInst id
  let blob (size : Nat) : Bytes := padTo size ((tfind s.blobs id).getD [])
  match idSub id, idType id with
  | 1, 3 => some (24, 1, fun _ => blob 24)
  | 1, 4 => some (4, 64, fun i => leBytes 4 (s.gateWord n i))
  | 1, 8 => some (32, 64, fun i => addrBytes (tget {} s.net.addr (64 * n + i)))
  | 3, 1 => some (256, 1, fun _ => s.hostBytes n)
  | 3, 2 => some (8, 128, fun i => leBytes 8 (tget 0 s.cmds.nsHosts (128 * n + i)))
  | 3, 6 => some (256, 1, fun _ => padTo 256 s.cmds.subsysNqn)
  | 3, 7 => some (32, 1, fun _ => s.nsDescBytes n)
  | 5, 3 => some (32, 1, fun _ => leBytes 32 (((List.range 64).map fun slot => s.domainOf slot * 16 ^ slot).sum))
  | 5, 4 => some (64 * 2 ^ s.poolCfgPermLog2 n, 1, fun _ => blob (64 * 2 ^ s.poolCfgPermLog2 n))
  | 5, 8 => some (16, 1, fun _ => s.memberStates n)
  | 5, 12 => some (64 * 2 ^ s.reshapeCfgPermLog2 n, 1, fun _ => blob (64 * 2 ^ s.reshapeCfgPermLog2 n))
  | 5, 16 => some (16, 1048576, s.lostBytes)
  | 6, 2 => some (32, 16, s.keygenBytes n)
  | 7, 1 => some (160, 1, fun _ => s.fuseMap)
  | 11, 5 => some (16, 1, fun _ => s.estoreCfg)
  | 11, 9 => some (16, 256, fun i => leBytes 16 (s.den.marginLog.getD i 0))
  | 13, 1 => some ((cntShape n).1, (cntShape n).2, s.cntBytes n)
  | 13, 2 => some (32, 1, fun _ => s.bwBytes n)
  | 13, 4 => some (128, 1048576, s.foxBytes)
  | _, _ => none

/-- A one-word object as read: a register with fields to write, or a status word (R504). WO objects read 0 (R15). -/
def State.wordOf (s : State) (id : Nat) : Nat :=
  let n := idInst id
  if 0 < wordCount (idSub id) (idType id) then s.wordRead id
  else
    match idSub id, idType id with
    | 1, 7 => s.lagStatus n
    | 3, 5 => s.overloadStatus
    | 4, 2 => s.stampStatus
    | 4, 4 => s.leaseStatus
    | 5, 6 => s.larderStatus
    | 5, 9 => s.poolHealth n
    | 5, 13 => s.reshapeWord n
    | 5, 15 => s.badgerStatus n
    | 6, 3 => s.integStatus
    | 7, 2 => s.enclaveStatus
    | 8, 11 => s.queueSample
    | 9, 4 => s.pairStatus
    | 10, 4 => s.drivePortStatus n
    | 11, 3 => s.slotPwrStatus n
    | 11, 4 => s.feedStatus
    | 11, 6 => s.estoreStatus
    | 11, 7 => s.larderPlan
    | 12, 3 => s.localPortStatus
    | 14, 1 => s.arbStatus n
    | 14, 2 => s.modeStatusWord
    | 14, 6 => s.sessionStatus n
    | 14, 7 => s.cvuCtl n
    | 14, 8 => (s.cvu n).running.toNat
    | 14, 9 => s.cvuResult n
    | 14, 10 => s.jobStatus n
    | 14, 11 => s.bootStatus
    | 14, 12 => s.elecStatus
    | _, _ => 0

/-- The size of an object in bytes (R504). -/
def State.objSize (s : State) (id : Nat) : Nat :=
  match s.objRecords id with
  | some r => r.1 * r.2.1
  | none => 8

/-- Bytes [off, off + len) of an object (R503). -/
def State.objRead (s : State) (id off len : Nat) : Bytes :=
  match s.objRecords id with
  | some (size, count, rec') =>
    let first := off / max 1 size
    let last := min count (ceilDiv (off + len) (max 1 size))
    ((((List.range (last - first)).map fun i => rec' (first + i)).flatten).drop (off - first * size)).take len
  | none => ((leBytes 8 (s.wordOf id)).drop off).take len

/-! ### Whether a write is accepted (R15, R17, R43, R498, R503) -/

/-- What the check of a write finds: a status, 0 where it is accepted, and for CONFLICT the resource and its holder. -/
structure Verdict where
  /-- status of R497 -/
  code : Nat := 0
  /-- resource of R41 -/
  res : Nat := 0
  /-- claimant code of R44 -/
  holder : Nat := 0
  deriving DecidableEq, Repr

/-- A write that is rejected with a status. -/
def reject (code : Nat) : Verdict := { code := code }

/-- The first of two checks that rejects. -/
def Verdict.thenCheck (a b : Verdict) : Verdict := if a.code = 0 then b else a

/-- Reject with `code` where `b` holds. -/
def rejectIf (b : Bool) (code : Nat) : Verdict := if b then reject code else {}

/-- The fields of a one-word object with fields to write: PARTNER_ID, POOL_MEMBERS_n and RESHAPE_MEMBERS_n are one field (R204, R268, R399). -/
def wordFields (sub ty : Nat) : List Fld :=
  if (sub = 9 ∧ ty = 2) ∨ (sub = 5 ∧ (ty = 2 ∨ ty = 11)) then [⟨63, 0, 0, 2 ^ 64 - 1, 0, true⟩] else objFields sub ty

/-- What of a word its fields cover. -/
def fieldBits (fs : List Fld) (w : Nat) : Nat := fs.foldl (fun a f => a + bits w f.hi f.lo * 2 ^ f.lo) 0

/-- The word a RW object holds after a write: its RW fields (R15). -/
def rwPart (fs : List Fld) (w : Nat) : Nat := fieldBits (fs.filter fun f => f.rw) w

/-- Reserved fields are 0, RW fields in range (R15, R17, R498). -/
def fieldsCheck (fs : List Fld) (w : Nat) : Verdict :=
  (rejectIf (decide (fieldBits fs w ≠ w)) ccReserved).thenCheck
    (rejectIf (fs.any fun f => f.rw && !(decide (f.least ≤ bits w f.hi f.lo) && decide (bits w f.hi f.lo ≤ f.greatest))) ccRange)

/-- The bits that clear a counting field of a status object: the bit written and the field's range (R15). -/
def w1cBits (sub ty : Nat) : List (Nat × Nat) :=
  match sub, ty with
  | 14, 1 => [(31, 16), (15, 0)]
  | 14, 2 => [(31, 16)]
  | 14, 12 => [(15, 0)]
  | 1, 7 => [(31, 16), (15, 0)]
  | 3, 5 => [(15, 0)]
  | 5, 6 => [(11, 11)]
  | 5, 15 => [(31, 16)]
  | 6, 3 => [(15, 0)]
  | 7, 2 => [(20, 9)]
  | 9, 4 => [(15, 0)]
  | 12, 3 => [(15, 0)]
  | _, _ => []

/-- The reserved bits of a status object that software writes. -/
def statusReserved (sub ty w : Nat) : Nat :=
  match sub, ty with
  | 14, 1 => bits w 39 32
  | 1, 7 => bits w 51 32
  | 3, 5 => bits w 50 48
  | 5, 6 => bits w 10 0
  | 5, 15 => bits w 15 0
  | 6, 3 => bits w 24 16
  | 7, 2 => bits w 8 0
  | 9, 4 => bits w 19 16
  | 12, 3 => bits w 46 32
  | _, _ => 0

/-- The controls, all of whose fields are WO: their reserved bits must be 0 (R200, R399, R423, R452, R476). -/
def controlCheck (sub ty w : Nat) : Option Verdict :=
  match sub, ty with
  | 4, 3 => some (rejectIf (decide (bits w 26 0 ≠ 0)) ccReserved)
  | 9, 3 => some (rejectIf (decide (bits w 62 0 ≠ 0)) ccReserved)
  | 10, 3 => some (rejectIf (decide (bits w 61 0 ≠ 0)) ccReserved)
  | 11, 2 => some (rejectIf (decide (bits w 61 0 ≠ 0)) ccReserved)
  | 12, 2 => some (rejectIf (decide (bits w 61 0 ≠ 0)) ccReserved)
  | _, _ => none

/-- The schedule of a port inside its cage's list breaks a rule of R88: entry ranges overlap, more than 64 entries, no Owl window, a cycle out
of range. -/
def State.gateConflict (s : State) (p base count : Nat) : Bool :=
  let c := p / 4
  let others := (List.range 4).filterMap fun j =>
    let q := 4 * c + j
    if q ≠ p ∧ s.cfgRate q ≠ 0 then some (s.gatePortBase q, s.gatePortCount q) else none
  let words := (List.range count).map fun i => s.gateWord c (base + i)
  let cycle := (words.map fun w => w % 2 ^ 24).sum
  decide (64 < base + count) || decide (64 < count + (others.map (·.2)).sum) ||
    (others.any fun o => decide (base < o.1 + o.2) && decide (o.1 < base + count)) ||
    !(words.any fun w => decide (w / 2 ^ 24 = 0x80) && decide (100 ≤ w % 2 ^ 24)) || decide (cycle < 2000) || decide (20000 < cycle)

/-- Three journal drives, members in three different failure domains (R203). -/
def State.journalOk (s : State) (members a b c : Nat) : Bool :=
  members.testBit a && members.testBit b && members.testBit c && decide (s.domainOf a ≠ s.domainOf b) &&
    decide (s.domainOf a ≠ s.domainOf c) && decide (s.domainOf b ≠ s.domainOf c)

/-- A WRED curve MIN_PCT [19:13], MAX_PCT [12:6], PMAX [5:0] is in range (R362). -/
def curveOk (c : Nat) : Bool := decide (bits c 12 6 ≤ 100) && decide (bits c 19 13 < bits c 12 6)

/-- The reserved slots of admin queues (R151): one for each, the local port's among them. -/
def State.adminSlots (s : State) : Nat := s.cmds.fab.length

/-- The rules stated with a word object, beyond the ranges of its fields. -/
def State.wordRule (s : State) (id w : Nat) : Verdict :=
  let n := idInst id
  let old := s.word id
  match idSub id, idType id with
  | 1, 1 =>
    let rates := breakoutRates (bits w 63 61)
    (rejectIf ((List.range 4).any fun j => (bits w 60 57).testBit j && decide (rates.getD j 0 = 0)) ccRange).thenCheck
      (rejectIf (decide (bits w 63 61 ≠ bits old 63 61) && decide (bits old 60 57 ≠ 0)) ccState)
  | 1, 2 =>
    rejectIf (decide (3 < ((List.range 5).filter fun t => (bits w 63 59).testBit t).length) ||
      (List.range 8).any fun p => decide (4 < bits w (32 + 3 * p + 2) (32 + 3 * p))) ccRange
  | 1, 5 => if s.gateConflict n (bits w 63 58) (bits w 57 51) then { code := ccConflict, res := 6, holder := s.arbHolder 6 } else {}
  | 1, 6 =>
    let mem := bits w 63 48
    let ports := (List.range 16).filter fun p => mem.testBit p
    rejectIf (decide (bits w 37 31 < 2 * bits w 43 38 + 10) ||
      ((List.range 8).any fun g => decide (g ≠ n) && ports.any fun p => (s.lagCfgMembers g).testBit p) ||
      ports.any (fun p => decide (s.cfgRate p ≠ s.cfgRate (ports.headD 0)))) ccRange
  | 2, 1 => rejectIf (decide (bits w 63 54 < bits w 53 46) || decide (bits w 45 32 < bits w 63 54)) ccRange
  | 3, 3 =>
    (rejectIf (decide (bits w 44 26 < bits w 63 45)) ccRange).thenCheck
      (if 262144 < (s.slotTenants.map s.tenantSlotsSlotMin).sum - s.tenantSlotsSlotMin n + bits w 63 45 + s.adminSlots then
        { code := ccConflict, res := 15, holder := 1 } else {})
  | 3, 4 =>
    let queues := (s.cmds.fab.map fun f => f.2.queues.filter fun q => decide (q.1 ≠ 0)).map fun q => (q.length, q.map fun e => e.2.2.1)
    rejectIf (queues.any fun q => decide (bits w 53 48 < q.1) || q.2.any fun d => decide (bits w 47 37 < d)) ccState
  | 4, 1 => rejectIf (decide (bits w 43 26 < s.ovlCount 3)) ccState
  | 5, 1 =>
    (rejectIf (decide ((s.pool n).pState ≠ 0)) ccState).thenCheck
      (rejectIf (decide (bits w 56 50 < bits w 63 59 + bits w 58 57 + bits w 49 48) ||
        decide ((s.memberSlots n).length ≠ bits w 56 50) ||
        !s.journalOk (s.word (oid 5 2 n)) (bits w 43 38) (bits w 37 32) (bits w 31 26)) ccRange)
  | 5, 2 =>
    (rejectIf (decide ((s.pool n).pState ≠ 0)) ccState).thenCheck
      (rejectIf ((maskSlots w).any fun slot => (List.range 8).any fun m => decide (m ≠ n) && (s.word (oid 5 2 m)).testBit slot) ccRange)
  | 5, 5 => rejectIf (decide (bits w 63 57 ≤ bits w 56 50)) ccRange
  | 5, 10 =>
    if (s.pool n).reshape.isSome then rejectIf (decide (setBits w 43 43 0 ≠ setBits old 43 43 0)) ccState
    else if w.testBit 42 then reject ((s.setWord id (rwPart (objFields 5 10) w)).reshapeStatus n) else {}
  | 5, 11 => rejectIf (s.pool n).reshape.isSome ccState
  | 8, 4 => rejectIf (decide (n = 0) && decide (bits w 63 44 ≠ 0)) ccRange
  | 8, 5 => rejectIf (decide (bits w 43 24 ≠ 0) && decide (bits w 43 24 < bits w 63 44)) ccRange
  | 8, 6 => rejectIf (decide (bits w 43 24 ≠ 0) && decide (bits w 43 24 < bits w 63 44)) ccRange
  | 8, 7 =>
    (rejectIf (decide (bits w 49 40 ≠ 0) && !s.losslessCfg (n / 8) (n % 8)) ccRange).thenCheck
      (if 98304 < (s.setWord id w).guaranteedKib then { code := ccConflict, res := 7, holder := 1 } else {})
  | 8, 8 =>
    (rejectIf (decide (bits w 49 40 ≠ 0)) ccRange).thenCheck
      (if 98304 < (s.setWord id w).guaranteedKib then { code := ccConflict, res := 7, holder := 1 } else {})
  | 8, 9 => rejectIf (!(curveOk (bits w 63 44) && curveOk (bits w 43 24) && curveOk (bits w 23 4))) ccRange
  | 8, 10 =>
    let inst := bits w 61 56
    let strict := w.testBit 55
    rejectIf ((decide (bits w 63 62 = 0) && decide (16 ≤ inst)) || (decide (bits w 63 62 = 2) && decide (8 ≤ inst)) ||
      (strict && decide (4 ≤ bits w 54 43))) ccRange
  | 9, 1 => rejectIf (decide (s.modes.mode = .m3) || decide (s.modes.mode = .m4)) ccState
  | 10, 1 =>
    rejectIf (decide (bits w 63 61 ≠ bits old 63 61) && (List.range 4).any fun j =>
      (s.portExists (4 * n + j) && decide (1 < (s.dport (4 * n + j)).dState)) || (s.poolOfSlot (4 * n + j)).isSome) ccState
  | 10, 2 => rejectIf (!s.portExists n) ccRange
  | 11, 1 =>
    let cls := bits w 62 59
    (rejectIf (decide (5 * cls < bits w 57 51) || decide (bits w 43 37 < 3 * cls)) ccRange).thenCheck
      (rejectIf (decide (bits s.fuses.slotCeil (4 * n + 3) (4 * n) < cls)) ccCeiling)
  | 14, 4 => rejectIf (decide (bits w 41 32 < bits w 51 42)) ccRange
  | 14, 5 =>
    let bound (ts : List Nat) : Bool := s.ccp.sessions.any fun e => !e.2.viaSett && ts.contains e.2.transport
    (rejectIf ([4420, 4791, 8009].contains (bits w 42 27)) ccRange).thenCheck
      (rejectIf ((decide (bits w 63 62 ≠ bits old 63 62) && bound [2, 3]) ||
        ((decide (bits w 54 43 ≠ bits old 54 43) || decide (bits w 42 27 ≠ bits old 42 27)) && bound [1])) ccState)
  | _, _ => {}

/-- The check of ESTORE_CFG: only the fields the store uses (R441, R455). -/
def State.estoreCheck (s : State) (b : Bytes) : Verdict :=
  let f := leField b
  let flags := f 11 1
  let out (v lo hi : Nat) : Bool := decide (v < lo) || decide (hi < v)
  (rejectIf (decide (flags / 4 ≠ 0) || decide (f 14 2 ≠ 0)) ccReserved).thenCheck
    (if flags.testBit 1 = false then {}
    else
      (rejectIf ((!flags.testBit 0 && out (f 0 2) 1 8191) || out (f 2 2) 1 16383 || (flags.testBit 0 && out (f 4 2) 10 4000) || out (f 6 1) 10 100 ||
        out (f 7 1) 5 90 || out (f 8 1) 50 99 || out (f 9 1) 0 30 || out (f 10 1) 5 100 || out (f 12 2) 0 2000 ||
        decide (f 6 1 < f 7 1 + 4)) ccRange).thenCheck
      (rejectIf (flags.testBit 0 && decide (s.fuses.energyCeilJ < f 4 2)) ccCeiling))

/-- The check of one entry of ADDR_TABLE_n (R506). -/
def addrCheck (cage : Nat) (b : Bytes) : Verdict :=
  let vlan := leField b 6 2
  let egress := leField b 8 1
  (rejectIf (decide (vlan / 4096 ≠ 0) || decide (leField b 9 1 / 32 ≠ 0) || decide (leField b 10 6 ≠ 0)) ccReserved).thenCheck
    (rejectIf (decide (vlan = 4095) || !(decide (egress / 4 = cage) || (decide (16 ≤ egress) && decide (egress < 24)))) ccRange)

/-- Bytes in records of `n`. -/
def chunksOf (n : Nat) : Nat → Bytes → List Bytes
  | 0, _ => []
  | fuel + 1, b => if b = [] then [] else b.take n :: chunksOf n fuel (b.drop n)

/-- The check of a record object written from record `first` on: HOST_ENTRY_n (R143), NS_HOSTS_h (R145, R315), SUBSYS_NQN (R505),
GATE_LIST_n (R87, R89), ADDR_TABLE_n (R506), DSCP_MAP_n (R82), PERM_TABLE_n (R207), RESHAPE_PERM_n (R268), ESTORE_CFG (R455). -/
def State.recordRule (s : State) (id first : Nat) (b : Bytes) : Verdict :=
  let n := idInst id
  match idSub id, idType id with
  | 1, 3 => rejectIf ((List.range 64).any fun d => decide (4 < leNat b / 8 ^ d % 8)) ccRange
  | 1, 4 =>
    let es := chunksOf 4 64 b
    (rejectIf (es.any fun e => decide (leField e 0 3 < 10) || decide (20000 < leField e 0 3)) ccRange).thenCheck
      (rejectIf ((List.range 4).any fun j =>
        let p := 4 * n + j
        let r := s.gateRange p
        (s.port p).linkUp && decide (first < r.1 + r.2) && decide (r.1 < first + es.length)) ccState)
  | 1, 8 =>
    let es := chunksOf 32 64 b
    (es.foldl (fun (v : Verdict) e => v.thenCheck (addrCheck n e)) {}).thenCheck
      (rejectIf ((List.range es.length).any fun i => (tget {} s.net.addr (64 * n + first + i)).flags.testBit 4) ccState)
  | 3, 1 =>
    let nqn := trimZeros (b.drop 32)
    (rejectIf (decide (leField b 0 1 / 2 ≠ 0) || decide (leField b 1 1 ≠ 0) || decide (leField b 4 12 ≠ 0)) ccReserved).thenCheck
      (rejectIf (decide (4095 < leField b 2 2) || decide (223 < nqn.length) || nqn.contains 0 ||
        (decide (nqn = []) && (leField b 0 1).testBit 0)) ccRange)
  | 3, 2 =>
    let ws := chunksOf 8 128 b
    (rejectIf (decide ((s.ns n).keying = 2)) ccGroup).thenCheck
      (rejectIf ((List.range ws.length).any fun i => (List.range 64).any fun k =>
        (leNat (ws.getD i [])).testBit k && decide ((tget {} s.cmds.hosts (64 * (first + i) + k)).tenant ≠ (s.ns n).tenant)) ccTenant)
  | 3, 6 =>
    let nqn := trimZeros b
    (rejectIf (decide (nqn = []) || decide (223 < nqn.length) || nqn.contains 0) ccRange).thenCheck
      (rejectIf (decide (s.cmds.fab ≠ [])) ccState)
  | 5, 3 => {}
  | 5, 4 =>
    (rejectIf (decide ((s.pool n).pState ≠ 0)) ccState).thenCheck (rejectIf (!permOk (s.poolCfgWidth n) (s.poolCfgPermLog2 n) b) ccRange)
  | 5, 12 =>
    (rejectIf (s.pool n).reshape.isSome ccState).thenCheck (rejectIf (!permOk (s.reshapeCfgWidth n) (s.reshapeCfgPermLog2 n) b) ccRange)
  | 11, 5 => s.estoreCheck b
  | _, _ => reject ccState

/-- Record objects that software writes. -/
def recordWritable (sub ty : Nat) : Bool :=
  match sub, ty with
  | 1, 3 => true
  | 1, 4 => true
  | 1, 8 => true
  | 3, 1 => true
  | 3, 2 => true
  | 3, 6 => true
  | 5, 3 => true
  | 5, 4 => true
  | 5, 12 => true
  | 11, 5 => true
  | _, _ => false

/-- The check of a BW_WIN_n write: bytes 0 to 7, WINDOW_US in range (R517). -/
def bwCheck (off : Nat) (b : Bytes) : Verdict :=
  rejectIf (decide (off ≠ 0) || decide (b.length ≠ 8) || decide (leField b 4 4 ≠ 0) || decide (leField b 0 4 = 0) || decide (1000000 < leField b 0 4)) ccRange

/-- The state a control acts on permits the action (R200, R423, R452, R476). -/
def State.controlRule (s : State) (id w : Nat) : Verdict :=
  let n := idInst id
  match idSub id, idType id with
  | 4, 3 =>
    let e := s.extRec (bits w 63 50) (bits w 49 28)
    rejectIf (decide (s.modes.mode ≠ .m3) || !s.leaseIdle || decide ((s.ns (bits w 63 50)).nState = 0) ||
      decide ((s.ns (bits w 63 50)).extents ≤ bits w 49 28) || decide ((tget {} s.cons.extents e).owner = bits w 27 27) ||
      (decide (bits w 27 27 = s.self) && decide (s.layout.limit = 0)) ||
      (decide (bits w 27 27 = s.other) && decide (s.power.estore.partnerN = 0))) ccState
  | 10, 3 =>
    rejectIf ((w.testBit 63 && decide ((s.dport n).dState ≠ 4)) ||
      (w.testBit 62 && decide ((s.dport n).dState ≠ 7) && decide ((s.dport n).dState ≠ 8))) ccState
  | 11, 2 => rejectIf (w.testBit 62 && decide ((s.slotPwr n).pState ≠ 5)) ccState
  | 12, 2 => rejectIf ((w.testBit 63 && s.localPort.frozen) || (w.testBit 62 && !s.localPort.frozen)) ccState
  | _, _ => {}

/-- Whether a session holds a unit, for access to its objects (R510); otherwise CONFLICT on resource 18. -/
def State.cvuCheck (s : State) (session n : Nat) : Verdict :=
  let u := s.cvu n
  if u.holder = 2 ∧ u.session = session ∧ session ≠ 0 then {}
  else { code := ccConflict, res := 18, holder := if n < 4 then 8 else if u.holder = 0 then 0 else if u.holder = 1 then 8 else 9 }

/-- The check of a write by a session (0 for control firmware) of `b` at `off` of an object (R503). -/
def State.writeCheck (s : State) (session id off : Nat) (b : Bytes) : Verdict :=
  let sub := idSub id
  let ty := idType id
  let n := idInst id
  let w := leNat b
  let whole8 : Verdict := rejectIf (decide (off ≠ 0) || decide (b.length ≠ 8)) ccBadLength
  if objExists id = false then reject ccUnknown
  else if sub = 13 ∧ ty = 2 then bwCheck off b
  else if s.objSize id < off + b.length then reject ccUnknown
  else if sub = 14 ∧ ty = 7 then
    (s.cvuCheck session n).thenCheck (whole8.thenCheck (rejectIf (decide (bits w 52 48 ≠ 0)) ccReserved))
  else if sub = 14 ∧ ty = 8 then
    (s.cvuCheck session n).thenCheck (whole8.thenCheck (rejectIf (decide ((s.cvu n).alg = 0) && decide (2 ^ 32 ≤ w)) ccReserved))
  else if sub = 14 ∧ ty = 9 then (s.cvuCheck session n).thenCheck (reject ccState)
  else if 0 < wordCount sub ty then whole8.thenCheck ((fieldsCheck (wordFields sub ty) w).thenCheck (s.wordRule id w))
  else if w1cBits sub ty ≠ [] then whole8.thenCheck (rejectIf (decide (statusReserved sub ty w ≠ 0)) ccReserved)
  else
    match controlCheck sub ty w with
    | some v => whole8.thenCheck (v.thenCheck (s.controlRule id w))
    | none =>
      match s.objRecords id with
      | none => reject ccState
      | some (size, _, _) =>
        if recordWritable sub ty = false then reject ccState
        else if b = [] ∨ off % max 1 size ≠ 0 ∨ b.length % max 1 size ≠ 0 then reject ccBadLength
        else s.recordRule id (off / max 1 size) b

/-! ### What an accepted write does -/

/-- The hosts whose bits differ between two words of NS_HOSTS_h learn of the change (R145, R155). -/
def State.nsChanged (h : Nat) (hosts : List Nat) (s : State) : State :=
  let cs := tkeys (s.cmds.fab.filter fun f => hosts.contains f.2.hostId)
  cs.foldl (fun t c => (t.updFab c fun f => { f with changedNs := addOne (h + 1) f.changedNs }).notice c) s

/-- Word w of NS_HOSTS_h takes the value v (R145). -/
def State.setNsHosts (h w v : Nat) (s : State) : State :=
  let old := tget 0 s.cmds.nsHosts (128 * h + w)
  let moved := (List.range 64).filterMap fun k => if old.testBit k = v.testBit k then none else some (64 * w + k)
  (s.updCmds fun m => { m with nsHosts := tset 0 m.nsHosts (128 * h + w) v }).nsChanged h moved

/-- HOST_ENTRY_n takes new contents; a change clears the host's bit in every TENANT namespace (R315). -/
def State.setHost (n : Nat) (b : Bytes) (s : State) : State :=
  let e : HostEntry := { enable := (leField b 0 1).testBit 0, tenant := leField b 2 2, hostid := leField b 16 16, nqn := trimZeros (b.drop 32) }
  let t := s.updCmds fun m => { m with hosts := tset {} m.hosts n e }
  if tget {} s.cmds.hosts n = e then t
  else
    (tkeys (s.cipher.ns.filter fun x => decide (x.2.keying = 2))).foldl (fun u h =>
      let w := tget 0 u.cmds.nsHosts (128 * h + n / 64)
      if w.testBit (n % 64) then u.setNsHosts h (n / 64) (w - 2 ^ (n % 64)) else u) t

/-- An enabled port that is not up any more loses its link (R72). -/
def State.cageWritten (cage : Nat) (s : State) : State :=
  (List.range 4).foldl (fun t j => if t.portEnabled (4 * cage + j) then t else t.linkGone (4 * cage + j)) s

/-- A change of members of a group: ports that left stop collecting and distributing, and the buckets are shared anew (R91, R93). -/
def State.lagWritten (g old : Nat) (s : State) : State :=
  let gone := (List.range 16).filter fun p => old.testBit p && !(s.lagCfgMembers g).testBit p
  let t := gone.foldl (fun u p => u.updPort p fun q => { q with collecting := false, distributing := false, partnerSync := false }) s
  if old = s.lagCfgMembers g then s else t.rebalance g

/-- A port of Drive Ports is enabled or disabled (R416, R417). -/
def State.portSwitched (slot : Nat) (on : Bool) (s : State) : State :=
  if on then s.updDport slot fun p => { p with dState := if p.dState = 0 then 1 else p.dState }
  else (s.contain slot 8).updDport slot fun p => { p with dState := 0, enumStep := 0, speed := 0, width := 0, adminCids := [] }

/-- SLOT_PWR_CFG_s takes effect at once where it concerns SLOT_EN and CLASS (R436, R446, R451). -/
def State.slotWritten (slot : Nat) (s : State) : State :=
  let p := s.slotPwr slot
  let t :=
    if s.slotMayRun slot = false then
      if p.pState = 1 then s else s.updSlotPwr slot fun q => { q.off with pState := 0, cycling := false }
    else if p.pState = 0 then
      s.updSlotPwr slot fun q => { q with pState := if q.present then (if q.cooling then 3 else 2) else 1, seatSince := s.now }
    else s
  t.recomputeLimit false

/-- PAIR_CFG is written (R371): without PAIR_EN a pairing that runs is abandoned, with it one begins where a bundle is up. -/
def State.pairSwitched (s : State) : State := if s.pairCfgPairEn = 1 then s.startPairing else s.abandonPairing

/-- A RW word object takes a new value, and what follows from it at once (R53, R343, R347, R371, R446, R471). -/
def State.wordWritten (id w : Nat) (s : State) : State :=
  let n := idInst id
  let old := s.word id
  let t := s.setWord id (rwPart (wordFields (idSub id) (idType id)) w)
  match idSub id, idType id with
  | 1, 1 => t.cageWritten n
  | 1, 5 => t.updPort n fun p => { p with
      owlLate := if w.testBit 31 then 0 else p.owlLate
      gateBase := if p.linkUp && p.gateCount == 0 then bits old 63 58 else p.gateBase
      gateCount := if p.linkUp && p.gateCount == 0 then bits old 57 51 else p.gateCount }
  | 1, 6 => t.lagWritten n (bits old 63 48)
  | 5, 10 =>
    if (s.pool n).reshape.isSome then t.reshapeSetPause n (w.testBit 43)
    else if w.testBit 42 then t.reshapeBegin n else t
  | 8, 1 => t.resetShaper (shaperOfTenant 0 n)
  | 8, 2 => t.resetShaper (shaperOfTenant 1 n)
  | 8, 3 => t.resetShaper (shaperOfTenant 2 n)
  | 8, 4 => t.resetShaper (shaperOfClass (n / 4) (n % 4))
  | 8, 5 => t.fillTenantMeter n
  | 8, 6 => t.fillConnMeters n
  | 9, 1 => t.pairSwitched
  | 10, 2 => if bits old 63 63 = bits w 63 63 then t else t.portSwitched n (w.testBit 63)
  | 11, 1 => t.slotWritten n
  | 11, 8 => t.clearHeld
  | 12, 1 => t.ltrUpdate
  | 14, 4 => t.recomputePs
  | _, _ => t

/-- The W1C bits of a status object act (R15). -/
def State.cleared (id w : Nat) (s : State) : State :=
  let n := idInst id
  match idSub id, idType id with
  | 14, 1 => s.updSpine fun p => { p with arb := tmod {} n (fun a => { a with
      conflictCount := if w.testBit 31 then 0 else a.conflictCount, deferCount := if w.testBit 15 then 0 else a.deferCount }) p.arb }
  | 14, 2 => s.when (w.testBit 31) fun t => t.updModes fun q => { q with transitions := 0 }
  | 14, 12 => s.when (w.testBit 15) fun t => t.updElec fun e => { e with throttles := 0 }
  | 1, 7 => s.updLag n fun l => { l with
      stepCount := if w.testBit 31 then 0 else l.stepCount, abandonCount := if w.testBit 15 then 0 else l.abandonCount }
  | 3, 5 => s.when (w.testBit 15) fun t => t.updCmds fun c => { c with overloadEvents := 0 }
  | 5, 6 => s.when (w.testBit 11) fun t => t.updLayout fun l => { l with lost := false }
  | 5, 15 => s.when (w.testBit 31) fun t => t.updPool n fun p => { p with badgerPasses := 0 }
  | 6, 3 => s.when (w.testBit 15) fun t => t.updCipher fun c => { c with dupMismatch := 0 }
  | 7, 2 => s.when (w.testBit 20) fun t => t.updEnclave fun e => { e with debugAttempts := 0 }
  | 9, 4 => s.when (w.testBit 15) fun t => t.updPair fun p => { p with takeovers := 0 }
  | 12, 3 => s.when (w.testBit 15) fun t => t.updLocalPort fun l => { l with freezes := 0 }
  | _, _ => s

/-- The power path of a slot is cycled (R452). -/
def State.cycleSlot (slot : Nat) (s : State) : State :=
  (s.updSlotPwr slot fun q => { q.off with pState := 3, cycling := true }).recomputeLimit false

/-- A lease move is asked for (R180, R200): the owner begins it; a controller that is the target asks the owner. -/
def State.askMove (handle extNo target : Nat) (s : State) : State :=
  if (tget {} s.cons.extents (s.extRec handle extNo)).owner = s.self then s.startMove handle extNo target
  else (s.updCons fun c => { c with lease := { lState := 1, handle := handle, extNo := extNo, target := target } }).settSend 0x17 [0, handle, extNo, target] []

/-- A control acts (R200, R399, R423, R452, R476). -/
def State.controlled (id w : Nat) (s : State) : State :=
  let n := idInst id
  match idSub id, idType id with
  | 4, 3 => s.askMove (bits w 63 50) (bits w 49 28) (bits w 27 27)
  | 9, 3 => s.when (w.testBit 63) fun t => t.updBoot fun b => { b with overridden := true }
  | 10, 3 => (s.when (w.testBit 63) fun t => t.contain n 8).when (w.testBit 62) fun t => t.startRelease n
  | 11, 2 => (s.when (w.testBit 63) fun t => t.clearRetry n).when (w.testBit 62) fun t => t.cycleSlot n
  | 12, 2 => (s.when (w.testBit 63) fun t => t.lpFreeze 4).when (w.testBit 62) fun t => t.lpRelease
  | _, _ => s

/-- The initial value of a unit's RUNNING: all ones of its width (R509). -/
def cvuInitial (alg : Nat) : BitVec 64 := if alg = 0 then 0xFFFFFFFF else BitVec.allOnes 64

/-- CVU_CTL_n is written: ALG, and INIT loads the initial value and clears BYTES (R510). -/
def State.cvuWritten (n w : Nat) (s : State) : State :=
  s.updCcp fun c => { c with cvus := tadj n (fun u =>
    let alg := bits w 61 61
    if w.testBit 60 then { u with alg := alg, running := cvuInitial alg, bytes := 0 } else { u with alg := alg }) c.cvus }

/-- BW_WIN_n.WINDOW_US is written: the window in progress is discarded and both peaks are 0 (R518). -/
def State.bwWritten (n us : Nat) (s : State) : State :=
  s.updTelem fun t => { t with bw := tmod {} n (fun b => { b with
    windowUs := us, rxPeak := 0, txPeak := 0, rxNow := 0, txNow := 0, discard := true }) t.bw }

/-- Records are written from record `first` on. -/
def State.recordWritten (id off : Nat) (b : Bytes) (s : State) : State :=
  let n := idInst id
  match idSub id, idType id with
  | 1, 4 => s.updBlobs fun t => tput t id (overwrite ((List.range 64).map fun i => leBytes 4 (s.gateWord n i)).flatten off b)
  | 1, 8 =>
    ((List.range (b.length / 32)).foldl (fun t i =>
      let e := (b.drop (32 * i)).take 32
      let a : AddrEntry := { mac := leField e 0 6, vlan := leField e 6 2, egress := leField e 8 1, flags := leField e 9 1 % 16, ip := leField e 16 16 }
      t.updNet fun q => { q with addr := tset {} q.addr (64 * n + off / 32 + i) a }) s).groupTables n
  | 3, 1 => s.setHost n b
  | 3, 2 => (List.range (b.length / 8)).foldl (fun t i => t.setNsHosts n (off / 8 + i) (leField b (8 * i) 8)) s
  | 3, 6 => s.updCmds fun c => { c with subsysNqn := trimZeros b }
  | 11, 5 => (s.updBlobs fun t => tput t id b).gradeStore 9
  | _, _ => s.updBlobs fun t => tput t id b

/-- The objects of the configuration image: every RW object but those with FUSE or KEEP reset values (R530). -/
def configObject (id : Nat) : Bool :=
  let sub := idSub id
  let ty := idType id
  !(decide (sub = 11) && decide (ty = 1)) && !(decide (sub = 14) && decide (ty = 3)) &&
    (decide (0 < wordCount sub ty) || recordWritable sub ty || (decide (sub = 13) && decide (ty = 2)))

/-- An accepted write is applied (R493, R503); one of the configuration image makes a new copy due within 1 s (R530). -/
def State.writeApply (id off : Nat) (b : Bytes) (s : State) : State :=
  let sub := idSub id
  let ty := idType id
  let w := leNat b
  let t :=
    if sub = 13 ∧ ty = 2 then s.bwWritten (idInst id) (leField b 0 4)
    else if sub = 14 ∧ ty = 7 then s.cvuWritten (idInst id) w
    else if sub = 14 ∧ ty = 8 then s.updCcp fun c => { c with cvus := tadj (idInst id) (fun u => { u with running := BitVec.ofNat 64 w }) c.cvus }
    else if 0 < wordCount sub ty then s.wordWritten id w
    else if w1cBits sub ty ≠ [] then s.cleared id w
    else if (controlCheck sub ty w).isSome then s.controlled id w
    else s.recordWritten id off b
  t.when (configObject id) fun u => u.updBoot fun x => { x with confDue := true }

/-- The objects held alike at both controllers (R561). -/
def sharedObject (id : Nat) : Bool :=
  match idSub id, idType id with
  | 3, 6 => true
  | 3, 1 => true
  | 3, 2 => true
  | 4, 1 => true
  | 5, 1 => true
  | 5, 2 => true
  | 5, 3 => true
  | 5, 4 => true
  | 5, 5 => true
  | 5, 7 => true
  | 5, 10 => true
  | 5, 11 => true
  | 5, 12 => true
  | 5, 14 => true
  | 6, 1 => true
  | 13, 5 => true
  | _, _ => false

/-- A WRITE_OBJ once its group is granted: checked whole, then applied; shared objects at both controllers before the reply, or with no partner to
be reached rejected (R43, R493, R561). -/
def State.objWrite (h : CcpHdr) (id off : Nat) (b : Bytes) (s : State) : State :=
  let v := s.writeCheck h.session id off b
  if sharedObject id then
    if s.sharedCut h then s.ccpFail h 0x11 ccPartner
    else if h.applied then if v.code = 0 then s.writeApply id off b else s
    else if v.code = ccConflict then s.ccpConflict h 0x11 v.res v.holder
    else if v.code ≠ 0 then s.ccpFail h 0x11 v.code
    else (s.writeApply id off b).sharedDone h 0x11 (id :: off :: b.map fun x => x.toNat) []
  else if v.code = ccConflict then s.ccpConflict h 0x11 v.res v.holder
  else if v.code ≠ 0 then s.ccpFail h 0x11 v.code
  else (s.writeApply id off b).ccpReply h 0x11 0 []

/-- A command that writes a value to a one-word object. -/
def State.wordWrite (h : CcpHdr) (id w : Nat) (s : State) : State :=
  s.ccpSimple h 0x11 (writeGroup id) fun t => t.objWrite h id 0 (leBytes 8 w)

end Sys2Proof.Machine
end

