-- ==== Sys2Proof/Machine/Sessions.lean ====
section
/-! DEFINITION. The commands of CCP sessions, attestation, NVMe-MI, events, object access, staging and check-value units (R329, R330, R478 to R495,
R503 to R510). -/
namespace Sys2Proof.Machine

/-! ### Packets, information and sessions (R478 to R492, R499) -/

/-- CCP_PACKET_DISCARD (R483): length or CRC bad: counted, no reply. `transport` 4 is the relay. -/
def execCcpPacketDiscard (transport : Nat) (s : State) : Res :=
  bounded (decide (transport < 5))
    (if s.modes.mode = .m0 ∨ s.ccpArrives { transport := transport % 4, viaSett := decide (transport = 4) } = false then s
    else (s.bump cCcpDiscard 0).mboxSilent { transport := transport % 4, viaSett := decide (transport = 4) })

/-- GET_INFO (R499): DEVICE_ID, LIFE_CYCLE, MODE, controller index, SVN, CCP version. -/
def execGetInfo (h : CcpHdr) (s : State) : Res :=
  .next (s.ccpSimple h 0x01 none fun t => t.ccpReply h 0x01 0 (leBytes 8 t.fuses.deviceId ++ leBytes 1 t.fuses.lifeCycle ++
    leBytes 1 t.modes.mode.num ++ leBytes 1 t.self ++ leBytes 1 t.boot.svn ++ leBytes 1 1))

/-- The digest of the running image, 0 in recovery (R310, R330). -/
def State.imageDigest (s : State) : Nat := if s.boot.recovery then 0 else (tget {} s.images (if s.boot.slotB then 1 else 0)).digest

/-- The alias key of R310: from DEVICE_ROOT with the running image's digest, its SVN and the life-cycle code; held in the enclave, and after a key
erasure derived again. -/
def State.aliasKey (s : State) : Nat :=
  if s.enclave.aliasSeed ≠ 0 then s.enclave.aliasSeed
  else Config.kdf s.fuses.deviceRoot 3 [s.imageDigest % 2 ^ 128, s.boot.svn, s.fuses.lifeCycle]

/-- The carrier a packet came by, as the hold-off of R487 counts them: 4 for the relay. -/
def carrierOf (h : CcpHdr) : Nat := if h.viaSett then 4 else h.transport

/-- Reject a credential: 0x0204, and after 8 in a row on one carrier the hold-off of 10 s (R487). -/
def State.credentialBad (h : CcpHdr) (op : Nat) (s : State) : State :=
  let n := tget 0 s.ccp.credFails (carrierOf h) + 1
  (s.updCcp fun c => { c with
    credFails := tset 0 c.credFails (carrierOf h) (if 8 ≤ n then 0 else n)
    holdOff := if 8 ≤ n then addOne (carrierOf h) c.holdOff else c.holdOff }).ccpFail h op ccCredential

/-- SESSION_OPEN (R487): the checks of role, life cycle, hold-off and credential, then a pending session with its keys. `chainGood`: for roles 1, 3 and
4 the chain verifies to the key hash of R486. -/
def execSessionOpen (h : CcpHdr) (role tenant nonce pubKey : Nat) (chainGood : Bool) (s : State) : Res :=
  .next (s.ccpSimple h 0x02 none fun t =>
    if t.ccp.holdOff.contains (carrierOf h) then t.ccpFail h 0x02 ccHeldOff
    else if role = 0 ∨ 4 < role ∨ (role = 2 ∧ 4095 < tenant) then t.ccpFail h 0x02 ccRange
    else if roleAccepted t.fuses.lifeCycle role = false then t.ccpFail h 0x02 ccLifeCycle
    else if (role = 2 ∧ (tget {} t.enclave.tenants tenant).enrolled = false) ∨ (role ≠ 2 ∧ chainGood = false) then t.credentialBad h 0x02
    else
      match tfreeFrom t.ccp.sessions 1 64 with
      | none => t.ccpFail h 0x02 ccFull
      | some id =>
        let ctlNonce := t.drawn 256
        let priv := t.draw.drawn 384
        let z := Config.shared priv pubKey
        let first := leBytes 4 id ++ leBytes 32 ctlNonce ++ leBytes 97 (Config.pubKey priv)
        let hash := Config.sha384 (leBytes 1 role ++ leBytes 2 tenant ++ zeros 1 ++ leBytes 32 nonce ++ leBytes 97 pubKey ++ first)
        let e : Session := { sState := 1, role := role, transport := h.transport, src := h.src, viaSett := h.viaSett, tenant := tenant, lastNs := t.now,
                             transcript := hash, kReq := Config.kdf z 11 [id, nonce, ctlNonce], kRsp := Config.kdf z 12 [id, nonce, ctlNonce] }
        (t.draw.draw.updCcp fun c => { c with sessions := tput c.sessions id e }).ccpReply h 0x02 0
          (first ++ leBytes 96 (Config.sign 1 t.aliasKey [hash])))

/-- SESSION_AUTH (R487): a good credential opens the pending session. -/
def execSessionAuth (h : CcpHdr) (credGood : Bool) (s : State) : Res :=
  .next (s.ccpSimple h 0x03 none fun t =>
    if h.session = 0 then t.ccpFail h 0x03 ccNoSession
    else if credGood then
      ((t.updSession h.session fun e => { e with sState := 2 }).updCcp fun c => { c with credFails := tdel c.credFails (carrierOf h) }).ccpReply h 0x03 0 []
    else t.credentialBad h 0x03)

/-- SESSION_AUTH_TIMEOUT (R487): a session still pending after 1 s is discarded. -/
def execSessionAuthTimeout (session : Nat) (s : State) : Res :=
  bounded (decide (session < 65)) (if (s.session session).sState = 1 then s.dropSession session else s)

/-- SESSION_HOLDOFF_END (R487). -/
def execSessionHoldoffEnd (transport : Nat) (s : State) : Res :=
  bounded (decide (transport < 5)) (s.updCcp fun c => { c with holdOff := dropOne transport c.holdOff })

/-- SESSION_CLOSE (R489): its reply is the session's last packet. -/
def execSessionClose (h : CcpHdr) (s : State) : Res :=
  .next (s.ccpSimple h 0x04 none fun t => (t.ccpReply h 0x04 0 []).dropSession h.session)

/-- SESSION_IDLE_EXPIRY (R489). -/
def execSessionIdleExpiry (session : Nat) (s : State) : Res :=
  bounded (decide (session < 65)) (if (s.session session).sState = 2 then s.dropSession session else s)

/-- NOP (R499): an accepted packet, which restarts the idle timer. -/
def execNop (h : CcpHdr) (s : State) : Res := .next (s.ccpSimple h 0x05 none fun t => t.ccpReply h 0x05 0 [])

/-- EVENT_SUBSCRIBE (R495): bit s of the mask, 1 to 14, stands for a subsystem. -/
def execEventSubscribe (h : CcpHdr) (mask : Nat) (s : State) : Res :=
  .next (s.ccpSimple h 0x09 (some 0) fun t =>
    if mask % 2 = 1 ∨ 32768 ≤ mask then t.ccpFail h 0x09 ccReserved
    else (t.updSession h.session fun e => { e with eventMask := mask }).ccpReply h 0x09 0 [])

/-- READ_LONG (R492): a further slice of the last long reply. -/
def execReadLong (h : CcpHdr) (offset : Nat) (s : State) : Res :=
  .next (s.ccpSimple h 0x0A none fun t =>
    let long := if h.session = 0 then tget [] t.ccp.zeroLong h.transport else (t.session h.session).longReply
    if long = [] then t.ccpFail h 0x0A ccState
    else if long.length < offset then t.ccpFail h 0x0A ccRange
    else t.ccpReply h 0x0A 0 ((long.drop offset).take 4056))

/-- STAGE (R492): bytes into the session's staging area of 256 KiB. -/
def execStage (h : CcpHdr) (offset : Nat) (bytes : Bytes) (s : State) : Res :=
  .next (s.ccpSimple h 0x12 none fun t =>
    if 262144 < offset + bytes.length then t.ccpFail h 0x12 ccRange
    else (t.updSession h.session fun e => { e with
      staging := (List.range bytes.length).foldl (fun a i => tput a (offset + i) (bytes.getD i 0)) e.staging }).ccpReply h 0x12 0 [])

/-- CCP_RELAY (R481): a relayed request arrives at the partner, where its command follows; or the reply to one goes back to its requester. -/
def execCcpRelay (packet : Relay) (s : State) : Res :=
  .next (s.settIn 0x50 fun t =>
    if packet.isReply then
      match t.ccp.relayed.find? fun w => decide (w.opcode = packet.opcode) && decide (w.h.transport = packet.h.transport) &&
          decide (w.h.tag = packet.h.tag) && decide (w.h.alive = packet.h.alive) with
      | some w => (t.updCcp fun c => { c with relayed := dropOne w c.relayed }).ccpCarry w.h packet.opcode packet.status packet.packet
      | none => t
    else t)

/-! ### Attestation (R329, R330) -/

/-- An entry of the tenant table: TTK and TAK wrapped, ENROL_COUNT, the last CAPSULE_SEQ, state (R311). -/
def State.tenantBytes (s : State) (t : Nat) : Bytes :=
  let e := tget {} s.enclave.tenants t
  leBytes 40 (Config.wrap (s.tenantKek t) e.ttk) ++ leBytes 40 (Config.wrap (s.tenantKek t) e.tak) ++ leBytes 4 e.enrolCount ++ leBytes 8 e.capsuleSeq ++
    leBytes 1 (pack [(0, flag e.created), (1, flag e.windowOpen), (2, flag e.enrolled)])

/-- Measurement i (R330). -/
def State.measurement (s : State) (i : Nat) : Bytes :=
  match i with
  | 1 => leBytes 48 Config.bootRomDigest
  | 2 => leBytes 48 s.imageDigest ++ leBytes 1 s.boot.svn
  | 3 => leBytes 1 s.fuses.antiRollback
  | 4 => leBytes 1 s.fuses.lifeCycle ++ leBytes 1 s.fuses.debugLock ++ leBytes 1 (flag s.debugIsOpen)
  | 5 => leBytes 48 (Config.sha384 (s.fuseMap.drop 16))
  | 6 => leBytes 8 (if s.enclave.shelfKey.isSome then s.enclave.shelfId else 0) ++ leBytes 1 (if s.enclave.shelfKey.isSome then s.enclave.shelfGen else 0)
  | 7 => leBytes 1 s.keep.count
  | 8 => leBytes 48 (Config.sha384 (((List.range 4096).map s.tenantBytes).flatten ++
      ((s.cipher.ns.filter fun n => decide (n.2.keying = 2)).map fun n => s.objRead (oid 3 2 n.1) 0 1024).flatten))
  | _ => []

/-- Every measurement, in order. -/
def State.measurements (s : State) : Bytes := ((List.range 8).map fun i => s.measurement (i + 1)).flatten

/-- A signature by the alias key over numbers: ECDSA P-384 of 96 bytes, ML-DSA-87 of 4,627 (R330). -/
def State.aliasSign (s : State) (kind : Nat) (msg : List Nat) : Bytes := leBytes (if kind = 1 then 96 else 4627) (Config.sign kind s.aliasKey msg)

/-- GET_EVIDENCE (R330): the measurements and both signatures over the nonce and them. -/
def execGetEvidence (h : CcpHdr) (nonce : Nat) (s : State) : Res :=
  .next (s.ccpSimple h 0x06 none fun t =>
    let m := t.measurements
    let msg := nonce :: m.map fun b => b.toNat
    t.ccpReply h 0x06 0 (m ++ t.aliasSign 1 msg ++ t.aliasSign 2 msg))

/-- GET_CERT (R329): slot 0 holds the ECDSA P-384 chain, slot 1 the ML-DSA-87 chain. -/
def execGetCert (h : CcpHdr) (certSlot : Nat) (s : State) : Res :=
  .next (s.ccpSimple h 0x07 none fun t =>
    if certSlot < 2 then t.ccpReply h 0x07 0 (Config.certChain certSlot) else t.ccpFail h 0x07 ccRange)

/-- An SPDM request is taken (R329): over the CCP mailbox as opcode 0x08, or as MCTP type 0x05 on the bus MGMT_BUS selects, outside M0. The answer is
an SPDM response code of DMTF DSP0274 and its data. -/
def State.spdm (src : SpdmSrc) (run : State → Nat × Bytes × State) (s : State) : State :=
  if src.overMailbox then
    s.ccpSimple src.h 0x08 none fun t =>
      if src.h.transport ≠ 0 ∨ src.h.viaSett then t.ccpFail src.h 0x08 ccState
      else
        let r := run t
        r.2.2.ccpReply src.h 0x08 0 (leBytes 1 r.1 ++ r.2.1)
  else if s.modes.mode = .m0 ∨ s.ccpCfgMgmtBus = 0 then s
  else
    let r := run s.wakeIdle.cancelDen
    r.2.2.send .spdm [r.1] r.2.1

/-- The SPDM ERROR response with an error code: 0x01 invalid request, 0x04 unexpected request. -/
def spdmError (code : Nat) (t : State) : Nat × Bytes × State := (0x7F, leBytes 1 code, t)

/-- SPDM_GET_VERSION (R329): VERSION, which starts the negotiation again. -/
def execSpdmGetVersion (src : SpdmSrc) (s : State) : Res :=
  .next (s.spdm src fun t => (0x04, [], t.updCcp fun c => { c with spdmVersion := true, spdmAlg := false }))

/-- SPDM_GET_CAPABILITIES (R329): CAPABILITIES; no session is offered. -/
def execSpdmGetCapabilities (src : SpdmSrc) (s : State) : Res :=
  .next (s.spdm src fun t => if t.ccp.spdmVersion then (0x61, [], t) else spdmError 0x04 t)

/-- SPDM_NEGOTIATE_ALGORITHMS (R329): SHA-384 is selected; a requester without it is refused. -/
def execSpdmNegotiateAlgorithms (src : SpdmSrc) (sha384 : Bool) (s : State) : Res :=
  .next (s.spdm src fun t =>
    if t.ccp.spdmVersion = false then spdmError 0x04 t
    else if sha384 then (0x63, [], t.updCcp fun c => { c with spdmAlg := true })
    else spdmError 0x01 t)

/-- SPDM_GET_DIGESTS (R329): the SHA-384 of the chains of slots 0 and 1. -/
def execSpdmGetDigests (src : SpdmSrc) (s : State) : Res :=
  .next (s.spdm src fun t =>
    if t.ccp.spdmAlg = false then spdmError 0x04 t
    else (0x01, leBytes 48 (Config.sha384 (Config.certChain 0)) ++ leBytes 48 (Config.sha384 (Config.certChain 1)), t))

/-- SPDM_GET_CERTIFICATE (R329): a portion of a chain and the length that remains. -/
def execSpdmGetCertificate (src : SpdmSrc) (certSlot offset length : Nat) (s : State) : Res :=
  .next (s.spdm src fun t =>
    let chain := Config.certChain certSlot
    if t.ccp.spdmAlg = false then spdmError 0x04 t
    else if 2 ≤ certSlot ∨ chain.length ≤ offset then spdmError 0x01 t
    else
      let part := (chain.drop offset).take length
      (0x02, leBytes 1 certSlot ++ leBytes 2 part.length ++ leBytes 2 (chain.length - offset - part.length) ++ part, t))

/-- SPDM_CHALLENGE (R329): the chain's digest, a nonce, and a signature of the alias key of the slot's algorithm. -/
def execSpdmChallenge (src : SpdmSrc) (certSlot nonce : Nat) (s : State) : Res :=
  .next (s.spdm src fun t =>
    if t.ccp.spdmAlg = false then spdmError 0x04 t
    else if 2 ≤ certSlot then spdmError 0x01 t
    else
      let own := t.drawn 256
      let digest := Config.sha384 (Config.certChain certSlot)
      (0x03, leBytes 1 certSlot ++ leBytes 48 digest ++ leBytes 32 own ++ t.aliasSign (certSlot + 1) [digest, own, nonce], t.draw))

/-- SPDM_GET_MEASUREMENTS (R329, R330): index 0 asks for their number, 255 for all; the answer is signed by the alias key. -/
def execSpdmGetMeasurements (src : SpdmSrc) (index nonce : Nat) (s : State) : Res :=
  .next (s.spdm src fun t =>
    if t.ccp.spdmAlg = false then spdmError 0x04 t
    else if index = 0 then (0x60, leBytes 1 8, t)
    else if 8 < index ∧ index ≠ 255 then spdmError 0x01 t
    else
      let m := if index = 255 then t.measurements else t.measurement index
      (0x60, m ++ t.aliasSign 1 (nonce :: m.map fun b => b.toNat), t))

/-! ### NVMe-MI (R480) -/

/-- A reply to an NVMe-MI command: numbers opcode, status and values. -/
def State.miReply (mi : NvmeMi) (status : Nat) (vals : List Nat) (s : State) : State := s.send .nvmeMi (mi.opcode :: status :: vals) []

/-- NVME_MI_COMMAND (R480): the five commands supported; any other is answered with an invalid-opcode status, an unsupported structure or value with an
invalid-parameter status. Opcodes: 0 Read NVMe-MI Data Structure, 1 Subsystem Health Status Poll, 2 Controller Health Status Poll, 3 Configuration
Set, 4 Configuration Get. -/
def execNvmeMiCommand (mi : NvmeMi) (s : State) : Res :=
  .next (if s.modes.mode = .m0 ∨ s.ccpCfgMgmtBus = 0 then s
  else
    let t := s.wakeIdle.cancelDen
    match mi.opcode with
    | 0 =>
      if mi.arg = 0 then t.miReply mi 0 [1]
      else if mi.arg = 1 then t.miReply mi 0 [t.ccpCfgMgmtBus, t.ccp.mctpMtu, t.ccp.smbusFreq]
      else if mi.arg = 2 then t.miReply mi 0 (0 :: tkeys t.cmds.fab)
      else t.miReply mi 4 []
    | 1 => t.miReply mi 0 [t.modes.mode.num, t.pair.lastFault, t.elec.dieC]
    | 2 => t.miReply mi 0 [flag t.localPort.rdy, flag t.localPort.cfs, t.localPort.shst]
    | 3 =>
      if mi.arg = 1 then
        match mi.value with
        | 1 => (t.updCcp fun c => { c with smbusFreq := 100 }).miReply mi 0 []
        | 2 => (t.updCcp fun c => { c with smbusFreq := 400 }).miReply mi 0 []
        | 3 => (t.updCcp fun c => { c with smbusFreq := 1000 }).miReply mi 0 []
        | _ => t.miReply mi 4 []
      else if mi.arg = 3 ∧ 64 ≤ mi.value ∧ mi.value < 65536 then (t.updCcp fun c => { c with mctpMtu := mi.value }).miReply mi 0 []
      else t.miReply mi 4 []
    | 4 =>
      if mi.arg = 1 then t.miReply mi 0 [if t.ccp.smbusFreq = 100 then 1 else if t.ccp.smbusFreq = 400 then 2 else 3]
      else if mi.arg = 3 then t.miReply mi 0 [t.ccp.mctpMtu]
      else t.miReply mi 4 []
    | _ => t.miReply mi 3 [])

/-! ### Objects (R503 to R505, R526) -/

/-- What a tenant administrator may read (R307, R504, R526): its own namespaces' key generations and descriptors; delegated records of groups 7 and 8
of its own namespaces. -/
def State.readScope (s : State) (id off len : Nat) (e : Session) : Nat :=
  if e.role ≠ 2 then 0
  else
    match idSub id, idType id with
    | 6, 2 => if (s.ns (idInst id)).tenant = e.tenant ∧ (s.ns (idInst id)).nState ≠ 0 then 0 else ccTenant
    | 3, 7 => if (s.ns (idInst id)).tenant = e.tenant ∧ (s.ns (idInst id)).nState ≠ 0 then 0 else ccTenant
    | 13, 1 =>
      let g := idInst id
      if g ≠ 7 ∧ g ≠ 8 then ccGroup
      else if (s.word (oid 13 5 e.tenant)).testBit (if g = 7 then 63 else 62) = false then ccGroup
      else
        let size := (cntShape g).1
        let first := off / size
        if (List.range (ceilDiv (off + len) size - first)).all fun i =>
            decide ((s.ns (first + i)).nState ≠ 0) && decide ((s.ns (first + i)).tenant = e.tenant) then 0 else ccTenant
    | _, _ => 0

/-- READ_OBJ (R503 to R505, R514): bytes of an object; reading an ended job frees its entry (R508). -/
def execReadObj (h : CcpHdr) (obj offset length : Nat) (s : State) : Res :=
  .next (s.ccpTake h 0x10 (readGroup obj (s.session h.session).role) (fun e => s.readScope obj offset length e) fun t =>
    if objExists obj = false ∨ t.objSize obj < offset + length then t.ccpFail h 0x10 ccUnknown
    else
      let v : Verdict := if idSub obj = 14 ∧ 7 ≤ idType obj ∧ idType obj ≤ 9 then t.cvuCheck h.session (idInst obj) else {}
      if v.code ≠ 0 then t.ccpConflict h 0x10 v.res v.holder
      else
        let u := t.ccpReply h 0x10 0 (t.objRead obj offset length)
        if idSub obj = 14 ∧ idType obj = 10 ∧ (tget {} t.ccp.jobs (idInst obj)).jState = 2 then
          u.updCcp fun c => { c with jobs := tdel c.jobs (idInst obj) }
        else u)

/-- WRITE_OBJ (R503): `bytes` are the data of the packet, or for a staged request as many staged bytes. -/
def execWriteObj (h : CcpHdr) (obj offset : Nat) (bytes : Bytes) (s : State) : Res :=
  .next (s.ccpSimple h 0x11 (writeGroup obj) fun t =>
    match t.ccpField h bytes with
    | none => (t.ccpUnstage h).ccpFail h 0x11 ccBadLength
    | some b => (t.ccpUnstage h).objWrite h obj offset b)

/-! ### Check-value units (R509, R510) -/

/-- A unit is given to a session with its initial value, and the claim is answered. -/
def State.cvuGrant (w : Owed) (unit : Nat) (s : State) : State :=
  let alg := leNat w.data
  (s.updCcp fun c => { c with
    cvus := tput c.cvus unit { holder := 2, alg := alg, session := w.h.session, bytes := 0, running := cvuInitial alg } }).ccpReply w.h 0x18 0 (leBytes 1 unit)

/-- CVU_CLAIM (R510): the lowest free unit of 4 to 7, or a place in the queue of R42. -/
def execCvuClaim (h : CcpHdr) (alg : Nat) (s : State) : Res :=
  .next (s.ccpSimple h 0x18 (some 17) fun t =>
    if 1 < alg then t.ccpFail h 0x18 ccRange
    else
      let w : Owed := { h := h, opcode := 0x18, data := leBytes 1 alg }
      match tfreeFrom t.ccp.cvus 4 4 with
      | some u => t.cvuGrant w u
      | none => t.updCcp fun c => { c with cvuWaiting := c.cvuWaiting ++ [w] })

/-- A request that names a unit runs where the session holds it (R510). -/
def State.cvuHeld (h : CcpHdr) (op unit : Nat) (run : State → State) (s : State) : State :=
  if 8 ≤ unit then s.ccpFail h op ccRange
  else
    let v := s.cvuCheck h.session unit
    if v.code ≠ 0 then s.ccpConflict h op v.res v.holder else run s

/-- CVU_FEED (R509): data go into the running value, which is the reply. -/
def execCvuFeed (h : CcpHdr) (unit : Nat) (bytes : Bytes) (s : State) : Res :=
  .next (s.ccpSimple h 0x19 (some 17) fun t =>
    match t.ccpField h bytes with
    | none => (t.ccpUnstage h).ccpFail h 0x19 ccBadLength
    | some b => (t.ccpUnstage h).cvuHeld h 0x19 unit fun u =>
      let x := u.cvu unit
      let v := crcRun (if x.alg = 0 then polyCrc32c else polyCrc64) x.running.toNat b
      (u.updCcp fun c => { c with cvus := tput c.cvus unit { x with
        running := BitVec.ofNat 64 v, bytes := sat (2 ^ 48 - 1) (x.bytes + b.length) } }).ccpReply h 0x19 0 (leBytes 8 v))

/-- CVU_RELEASE (R510). -/
def execCvuRelease (h : CcpHdr) (unit : Nat) (s : State) : Res :=
  .next (s.ccpSimple h 0x1A (some 17) fun t => t.cvuHeld h 0x1A unit fun u =>
    (u.updCcp fun c => { c with cvus := tdel c.cvus unit }).ccpReply h 0x1A 0 [])

/-- CVU_INIT (R510): CVU_CTL_n is written with INIT. -/
def execCvuInit (h : CcpHdr) (unit alg : Nat) (s : State) : Res :=
  bounded (decide (unit < 8) && decide (alg < 2)) (s.wordWrite h (oid 14 7 unit) (alg * 2 ^ 61 + 2 ^ 60))

end Sys2Proof.Machine
end

