-- ==== Sys2Proof/Machine/MgmtOps.lean ====
section
/-! DEFINITION. Operations of the management commands (R494, R499 to R501, R561): changes of shared state, jobs and their effects on pools, drives,
namespaces, keys and images. -/
namespace Sys2Proof.Machine

/-! ### Shared changes and jobs (R494, R561) -/

/-- A request that changes shared state: with the partner not to be reached it is rejected; else it is checked, made, and owed to the partner before
its reply (R561). `code` is the status of its checks. -/
def State.sharedDo (h : CcpHdr) (op code : Nat) (args : List Nat) (data : Bytes) (f : State → State) (s : State) : State :=
  if s.sharedCut h then s.ccpFail h op ccPartner
  else if code ≠ 0 then s.ccpFail h op code
  else (f s).sharedDone h op args data

/-- A request that is a job of this controller alone (R494). -/
def State.localJob (h : CcpHdr) (op code arg : Nat) (f : State → State) (s : State) : State :=
  if code ≠ 0 then s.ccpFail h op code
  else
    match s.jobStart h op arg with
    | none => s.ccpFail h op ccFull
    | some (j, t) => (f t).ccpReply h op 0 (jobData j)

/-- A request that is a job on shared state: it runs here, and each change it commits is applied at the partner (R494, R561). -/
def State.sharedJob (h : CcpHdr) (op code arg : Nat) (f : State → State) (s : State) : State :=
  if h.applied then s.when (decide (code = 0)) f
  else if s.sharedCut h then s.ccpFail h op ccPartner
  else if code ≠ 0 then s.ccpFail h op code
  else
    match s.jobStart h op arg with
    | none => s.ccpFail h op ccFull
    | some (j, t) => (f t).sharedDone h op [arg] (jobData j)

/-- The partner reports that its job on shared state has ended. -/
def jobEnded (h : CcpHdr) : Bool := h.applied && decide (h.results.head? = some 1)

/-- The long work of a job at a drive goes out as one order: what, and its argument. Orders: 8 zero the data area of a pool, 9 format, 10 zero a slab,
11 wipe the label. Its end is the job's end. -/
def State.orderDrives (slots : List Nat) (what arg : Nat) (s : State) : State := slots.foldl (fun t slot => t.driveAdmin slot [what, arg]) s

/-! ### Pools (R202 to R208, R500) -/

/-- The configuration objects of a pool obey R203 and R207 as they stand. -/
def State.poolCfgOk (s : State) (n : Nat) : Bool :=
  let g := s.geom n false
  decide (4 ≤ g.k) && decide (g.k ≤ 28) && decide (1 ≤ g.m) && decide (5 ≤ g.width) && decide (g.width ≤ 64) &&
    decide (g.k + g.m + g.spareMin ≤ g.width) && decide (g.slots.length = g.width) && decide (g.permLog2 ≤ 12) &&
    s.journalOk (s.word (oid 5 2 n)) (s.poolCfgJrnlA n) (s.poolCfgJrnlB n) (s.poolCfgJrnlC n) && permOk g.width g.permLog2 g.perm

/-- A pool holds a namespace. -/
def State.poolHolds (s : State) (n : Nat) : Bool := s.cipher.ns.any fun e => decide (e.2.pool = n) && decide (e.2.nState ≠ 0)

/-- The status of POOL_CREATE. -/
def State.poolCreateStatus (s : State) (n : Nat) : Nat :=
  if 8 ≤ n then ccRange
  else if (s.pool n).pState ≠ 0 then ccState
  else if s.poolCfgOk n = false then ccRange
  else if (s.memberSlots n).any fun d => decide ((s.dport d).dState ≠ 4) then ccState
  else if (s.memberSlots n).any fun d => !(s.dport d).formatted then ccFormat
  else 0

/-- A pool is being created: STATE 0b01; what an earlier pool of that number left is gone, but the KEEP fields of Badger (R270, R500). -/
def State.poolBegin (n : Nat) (s : State) : State :=
  s.updPool n fun p => { pState := 1, badgerRow := p.badgerRow, badgerPasses := p.badgerPasses }

/-- A pool's creation has ended: online, its labels written, and the shelf key in its directory header (R205, R311, R500). -/
def State.poolCreated (n : Nat) (s : State) : State :=
  if (s.pool n).pState ≠ 1 then s
  else
    let t := (s.memberSlots n).foldl (fun u d => u.updDport d fun p => { p with label := some (n, d) }) s
    (t.updPool n fun p => { p with pState := 2 }).dirHeader n

/-- A pool's creation has failed. -/
def State.poolFailed (n : Nat) (s : State) : State := s.updPool n fun p => { p with pState := 0 }

/-- The status of POOL_DELETE. -/
def State.poolDeleteStatus (s : State) (n : Nat) : Nat :=
  if 8 ≤ n then ccRange
  else if s.poolOnline n = false ∨ s.poolHolds n ∨ (s.pool n).reshape.isSome then ccState
  else 0

/-- A pool is deleted: not configured, its labels wiped. -/
def State.poolDeleted (n : Nat) (s : State) : State :=
  let t := (s.memberSlots n).foldl (fun u d => u.updDport d fun p => { p with label := none }) s
  t.updPool n fun p => { badgerRow := p.badgerRow, badgerPasses := p.badgerPasses }

/-- A drive has been formatted to the format of R202; it carries no label. -/
def State.driveFormatted (slot : Nat) (s : State) : State := s.updDport slot fun p => { p with formatted := true, label := none }

/-! ### Namespaces (R175, R176, R208, R500, R501) -/

/-- Where a new namespace goes: its handle, first record and slabs. -/
structure NsPlan where
  /-- handle -/
  handle : Nat
  /-- MAP_BASE -/
  base : Nat
  /-- slab of each extent -/
  slabs : List Nat
  deriving DecidableEq, Repr

/-- The lowest free handle (R501). -/
def State.freeHandle (s : State) : Option Nat := tfreeFrom s.cipher.ns 0 (min 16384 (s.cipher.ns.length + 1))

/-- The lowest run of n free ownership-map records (R176, R501): it begins at 0 or where a namespace's records end. -/
def State.freeRecords (s : State) (n : Nat) : Option Nat :=
  let runs := s.cipher.ns.map fun e => (e.2.mapBase, e.2.extents)
  let ok (b : Nat) : Bool := decide (b + n ≤ 4194304) && !(runs.any fun r => overlaps b n r.1 r.2)
  match ((0 :: runs.map fun r => r.1 + r.2).filter ok) with
  | [] => none
  | x :: xs => some (xs.foldl min x)

/-- Slabs that a pool's members hold (R206 to R209). -/
def State.slabTotal (s : State) (n : Nat) : Nat :=
  let g := s.geom n false
  s.rowsOf g * g.g / max 1 g.slabStripes

/-- The n lowest free slabs of a pool (R208, R501). -/
def State.freeSlabs (s : State) (pool n : Nat) : Option (List Nat) :=
  let used := (s.pool pool).slabs.map (·.2)
  let l := ((List.range (min (s.slabTotal pool) (used.length + n))).filter fun q => !used.contains q).take n
  if l.length = n then some l else none

/-- The plan of a new namespace; none where handles, records or slabs run short. -/
def State.nsPlan (s : State) (d : NsDescReq) : Option NsPlan :=
  match (if d.handle = 0xFFFF then s.freeHandle else some d.handle), s.freeRecords d.extents, s.freeSlabs d.pool d.extents with
  | some h, some b, some q => some { handle := h, base := b, slabs := q }
  | _, _, _ => none

/-- The status of NS_CREATE, or of NS_CREATE_PLAIN. -/
def State.nsCreateStatus (s : State) (d : NsDescReq) (plain : Bool) : Nat :=
  if d.reservedZero = false then ccReserved
  else if 2 < d.keying ∨ (d.keying = 0) ≠ plain ∨ 8 ≤ d.pool ∨ 4095 < d.tenant ∨ formatOk d.format = false ∨ d.extents = 0 ∨ 4194304 < d.extents ∨
    (16384 ≤ d.handle ∧ d.handle ≠ 0xFFFF) then ccRange
  else if s.poolOnline d.pool = false ∨ (s.pool d.pool).reshape.isSome ∨ (d.handle ≠ 0xFFFF ∧ thas s.cipher.ns d.handle) ∨
    (plain = false ∧ s.enclave.shelfKey.isNone) then ccState
  else if (s.nsPlan d).isNone then ccFull
  else 0

/-- A namespace is created where its plan says. An extent's owner in M3 is its default owner (R177); its LAST_STAMP begins with the epoch. -/
def State.nsCreated (d : NsDescReq) (p : NsPlan) (serial : Nat) (s : State) : State :=
  let n : Ns := { tenant := d.tenant, pool := d.pool, keying := d.keying, format := d.format, nState := 2, extents := d.extents, mapBase := p.base
                  serial := serial }
  let t := (s.updCipher fun c => { c with ns := tput c.ns p.handle n }).updPool d.pool fun q => { q with
    slabs := (p.slabs.mapIdx fun x slab => (p.base + x, slab)).foldl (fun m e => tput m e.1 e.2) q.slabs }
  t.updCons fun c => { c with extents := (List.range d.extents).foldl (fun m x =>
    tput m (p.base + x) { lastStamp := BitVec.ofNat 64 (s.cons.epoch * 2 ^ 40), state := 1, handle := p.handle, extNo := x
                          owner := if s.paired then (p.handle + x) % 2 else s.self }) c.extents }

/-- The results of a new generation, as they travel: wrapped key and salt. -/
def State.genResults (s : State) (h g : Nat) : List Nat :=
  match tfind (s.ns h).gens g with
  | some k => [k.wrapped, k.salt]
  | none => []

/-- The numbers of a namespace request as they travel. -/
def nsArgs (d : NsDescReq) (h : Nat) : List Nat := [h, d.tenant, d.pool, d.keying, d.format, d.extents]

/-- Create an encrypted namespace (R501): NS_SERIAL drawn, for an ENCLAVE namespace generation 0 derived and ACTIVE. At the partner both come with the
change. -/
def State.makeNs (h : CcpHdr) (d : NsDescReq) (p : NsPlan) (s : State) : State :=
  let t := s.draw.nsCreated d p (if h.applied then h.results.getD 0 0 else s.drawn 64)
  if d.keying ≠ 1 then t
  else
    let u := if h.applied then t.putGen p.handle 0 1 (h.results.getD 1 0) (h.results.getD 2 0) else t.deriveGen p.handle 0
    u.applyActivate p.handle 0

/-- A host bit is set in NS_HOSTS_h. -/
def State.nsAttachedAny (s : State) (h : Nat) : Bool := s.cmds.nsHosts.any fun e => decide (e.1 / 128 = h) && decide (e.2 ≠ 0)

/-- The status of NS_DELETE, or of NS_DELETE_PLAIN. -/
def State.nsDeleteStatus (s : State) (h : Nat) (plain : Bool) : Nat :=
  if 16384 ≤ h then ccRange
  else if thas s.cipher.ns h = false then ccState
  else if ((s.ns h).keying = 0) ≠ plain then ccRange
  else if s.nsAttachedAny h ∨ (s.ccp.jobs.any fun j => decide (j.2.jState = 1) && (decide (j.2.opcode = 0x2A) || decide (j.2.opcode = 0x2B)) &&
    decide (j.2.arg = h)) then ccState
  else 0

/-- A namespace is being deleted: crypto-erased first (R337, R500). -/
def State.nsDeleting (h : Nat) (s : State) : State :=
  let t := s.updNs h fun n => { n with nState := 4 }
  t.when (decide ((s.ns h).keying ≠ 0)) fun u => u.eraseNsKeys h

/-- The slabs of a namespace. -/
def State.nsSlabs (s : State) (h : Nat) : List Nat :=
  let n := s.ns h
  ((s.pool n.pool).slabs.filter fun e => decide (n.mapBase ≤ e.1) && decide (e.1 < n.mapBase + n.extents)).map (·.2)

/-- A namespace is gone: its records, slabs, versions, lost blocks and entries are free. -/
def State.nsDeleted (h : Nat) (s : State) : State :=
  let n := s.ns h
  let inside (r : Nat) : Bool := decide (n.mapBase ≤ r) && decide (r < n.mapBase + n.extents)
  let t := s.releaseVersions (tkeys (s.layout.larder.filter fun e => decide (e.2.handle = h)))
  let u := (t.updPool n.pool fun p => { p with
    slabs := p.slabs.filter fun e => !inside e.1, migrated := p.migrated.filter fun r => !inside r }).updLayout fun l => { l with
      mirror := l.mirror.filter fun e => decide (e.2.handle ≠ h), lostList := l.lostList.filter fun e => decide (e.1 / 2 ^ 44 ≠ h) }
  (u.updCons fun c => { c with
    extents := c.extents.filter fun e => !inside e.1, ovl := c.ovl.filter fun e => decide (e.2.handle ≠ h) }).updCipher fun c => { c with ns := tdel c.ns h }

/-! ### Shelf key rotation (R317) -/

/-- Every entry has been rewrapped under the new shelf key: the old one is erased, and the headers written (R317). -/
def State.rotationDone (s : State) : State :=
  match s.enclave.shelfKey, s.enclave.oldShelfKey with
  | some new, some old =>
    let rewrap (h : Nat) (g : KeyGen) : KeyGen := if g.shelfGen = s.enclave.shelfGen then g
      else { g with wrapped := Config.wrap (s.nsKek new h) (Config.unwrap (s.nsKek old h) g.wrapped), shelfGen := s.enclave.shelfGen }
    let t := (s.updCipher fun c => { c with ns := tmap (fun h n => { n with gens := tmap (fun _ g => rewrap h g) n.gens }) c.ns }).updEnclave fun e =>
      { e with oldShelfKey := none, rotating := false }
    let keys := (t.cipher.ns.map fun n => n.2.gens.map fun g => (n.1, g.1)).flatten
    let u := keys.foldl (fun v k => v.dirWrite k.1 k.2) t
    (tkeys (u.layout.pools.filter fun p => decide (2 ≤ p.2.pState))).foldl (fun v n => v.dirHeader n) u
  | _, _ => s

/-! ### The image store (R326, R528, R529) -/

/-- An image passes R326. -/
def State.imageOk (s : State) (i : ImageCheck) : Bool :=
  i.ecdsaGood && i.mlDsaGood && decide (s.fuses.antiRollback ≤ i.svn) && decide (i.svn ≤ 128)

/-- The slot that FW_COMMIT writes: the one not running; in recovery the one that failed first (R528, R529). True is B. -/
def State.commitSlot (s : State) : Bool := if s.boot.recovery then s.boot.failedFirst else !s.boot.slotB

/-- The store's number of a slot. -/
def slotNum (b : Bool) : Nat := if b then 1 else 0

/-- The staged image covers its length without a gap. -/
def State.imageWhole (s : State) (length : Nat) : Bool :=
  decide (0 < length) && decide (length ≤ s.ccp.fwImage.foldl (fun a e => if e.1 ≤ a then max a (e.1 + e.2.length) else a) 0)

/-- The image of a FW_COMMIT is in the store; an image that failed R326 leaves it unchanged (R500). Answers the job's result. -/
def State.imageWritten (s : State) : Nat × State :=
  let t := s.updCcp fun c => { c with fwCommit := none, fwImage := [] }
  match s.ccp.fwCommit with
  | some i => (0, (t.updImages fun m => tput m (slotNum s.commitSlot) { i with startFails := 0 }).send .imageWrite [slotNum s.commitSlot, i.svn, i.digest] [])
  | none => (ccEvidence, t)

end Sys2Proof.Machine
end

