-- ==== Sys2Proof/Machine/Actions.lean ====
section
/-! DEFINITION. The commands that write one object or control (R180, R200, R256, R268, R343, R347, R418, R423, R443, R452, R472, R473, R476, R518). -/
namespace Sys2Proof.Machine

/-- CONTAIN (R423): DRIVE_PORT_CTL_s bit 63. -/
def execContain (h : CcpHdr) (slot : Nat) (s : State) : Res := bounded (decide (slot < 64)) (s.wordWrite h (oid 10 3 slot) (2 ^ 63))

/-- DRIVE_PORT_RELEASE (R418, R423): DRIVE_PORT_CTL_s bit 62. -/
def execDrivePortRelease (h : CcpHdr) (slot : Nat) (s : State) : Res := bounded (decide (slot < 64)) (s.wordWrite h (oid 10 3 slot) (2 ^ 62))

/-- CLEAR_RETRY (R452): SLOT_PWR_CTL_s bit 63. -/
def execClearRetry (h : CcpHdr) (slot : Nat) (s : State) : Res := bounded (decide (slot < 64)) (s.wordWrite h (oid 11 2 slot) (2 ^ 63))

/-- CYCLE (R452): SLOT_PWR_CTL_s bit 62. -/
def execCycle (h : CcpHdr) (slot : Nat) (s : State) : Res := bounded (decide (slot < 64)) (s.wordWrite h (oid 11 2 slot) (2 ^ 62))

/-- FREEZE (R472, R476): LOCAL_PORT_CTL bit 63. -/
def execFreeze (h : CcpHdr) (s : State) : Res := .next (s.wordWrite h (oid 12 2 0) (2 ^ 63))

/-- LOCAL_PORT_RELEASE (R473, R476): LOCAL_PORT_CTL bit 62. -/
def execLocalPortRelease (h : CcpHdr) (s : State) : Res := .next (s.wordWrite h (oid 12 2 0) (2 ^ 62))

/-- LEASE_MOVE (R180, R200): a write of LEASE_MOVE. -/
def execLeaseMove (h : CcpHdr) (value : Nat) (s : State) : Res := .next (s.wordWrite h (oid 4 3 0) value)

/-- RESHAPE_START (R256, R268): RESHAPE_CFG_n as it stands, with START. -/
def execReshapeStart (h : CcpHdr) (pool : Nat) (s : State) : Res :=
  bounded (decide (pool < 8)) (s.wordWrite h (oid 5 10 pool) (setBits (s.word (oid 5 10 pool)) 42 42 1))

/-- RESHAPE_PAUSE (R268): RESHAPE_CFG_n as it stands, with PAUSE. -/
def execReshapePause (h : CcpHdr) (pool : Nat) (s : State) : Res :=
  bounded (decide (pool < 8)) (s.wordWrite h (oid 5 10 pool) (setBits (s.word (oid 5 10 pool)) 43 43 1))

/-- SHAPER_CONFIG_WRITE (R343, R357): a write of a shaper object: TENANT_SHAPER of the three points, or a class shaper. -/
def execShaperConfigWrite (h : CcpHdr) (obj value : Nat) (s : State) : Res :=
  bounded (objExists obj && decide (idSub obj = 8) && decide (1 ≤ idType obj) && decide (idType obj ≤ 4)) (s.wordWrite h obj value)

/-- METER_CONFIG_WRITE (R347): a write of a meter object. -/
def execMeterConfigWrite (h : CcpHdr) (obj value : Nat) (s : State) : Res :=
  bounded (objExists obj && decide (idSub obj = 8) && (decide (idType obj = 5) || decide (idType obj = 6))) (s.wordWrite h obj value)

/-- ESTORE_CFG_WRITE (R443, R455): a write of ESTORE_CFG; HEALTH is graded again and the larder limit recomputed. -/
def execEstoreCfgWrite (h : CcpHdr) (bytes : Bytes) (s : State) : Res :=
  .next (s.ccpSimple h 0x11 (writeGroup (oid 11 5 0)) fun t =>
    match t.ccpField h bytes with
    | none => (t.ccpUnstage h).ccpFail h 0x11 ccBadLength
    | some b => (t.ccpUnstage h).objWrite h (oid 11 5 0) 0 b)

/-- BW_WINDOW_WRITE (R517, R518): a write of BW_WIN_n.WINDOW_US. -/
def execBwWindowWrite (h : CcpHdr) (port windowUs : Nat) (s : State) : Res :=
  bounded (decide (port < 16)) (s.ccpSimple h 0x11 (writeGroup (oid 13 2 port)) fun t => t.objWrite h (oid 13 2 port) 0 (leBytes 8 windowUs))

/-- BW_WINDOW_END (R517, R518): a window ends at a multiple of its length: its bytes and rates are the last completed ones, the peaks follow. The window
in which WINDOW_US was written is discarded. A port whose link is down reports 0 bytes. -/
def execBwWindowEnd (port : Nat) (s : State) : Res :=
  bounded (decide (port < 16))
    (s.updTelem fun t => { t with bw := tmod {} port (fun b =>
      if b.discard then { b with discard := false, rxNow := 0, txNow := 0 }
      else
        let rx := if (s.port port).linkUp then b.rxNow else 0
        let tx := if (s.port port).linkUp then b.txNow else 0
        let rate (n : Nat) : Nat := n / max 1 b.windowUs
        { b with rxBytes := rx, txBytes := tx, rxPeak := max b.rxPeak (rate rx), txPeak := max b.txPeak (rate tx), rxNow := 0, txNow := 0 }) t.bw })

end Sys2Proof.Machine
end

