-- ==== Sys2Proof/Machine/Arbiter.lean ====
section
/-! DEFINITION. The grant of a shared resource at run time (R41, R42). -/
namespace Sys2Proof.Machine

/-- Packets left in their receive queues go into the miss buffer, in arrival order, while it has room: 64 KiB of it is kept for pinned contexts
(resource 9 of R41, R118). -/
def State.fillMiss (s : State) : State :=
  s.xport.missBuf.foldl (fun t m =>
    let room := if (t.ctx m.ctx).pinned then 4194304 else 4194304 - 65536
    if m.inRx ∧ t.missBytes + m.len ≤ room then
      (t.takeFrame m.port (t.ctx m.ctx).cls).updXport fun x => { x with missBuf := x.missBuf.map fun k => if k = m then { k with inRx := false } else k }
    else t) s

/-- What waits for a resource takes it: packets for the miss buffer, the write at the head of those that wait for the larder, capsules for command
slots, the oldest claim for a check-value unit (R42, R118, R150, R216, R510). Other resources are taken where they are used. -/
def State.grantNext (res : Nat) (s : State) : State :=
  match res with
  | 9 => s.fillMiss
  | 11 =>
    match s.layout.waiting with
    | n :: _ => (s.beginWrite n).settle
    | [] => s
  | 15 => (s.offerSlots s.cmds.waiting.length).settle
  | 18 =>
    match s.ccp.cvuWaiting, tfreeFrom s.ccp.cvus 4 4 with
    | w :: ws, some u => (s.updCcp fun c => { c with cvuWaiting := ws }).cvuGrant w u
    | _, _ => s
  | _ => s

/-- ARBITER_GRANT (R42, R44): a resource reaches the boundary of its use and passes to what waits with the highest priority; a claimant that still waits is
counted in DEFER_COUNT. -/
def execArbiterGrant (resource : Nat) (s : State) : Res :=
  bounded (decide (resource < 22))
    (let t := s.grantNext resource
    t.when (decide (0 < t.arbWaiters resource)) fun u => u.updSpine fun p => { p with
      arb := tmod {} resource (fun a => { a with deferCount := sat 65535 (a.deferCount + 1) }) p.arb })

end Sys2Proof.Machine
end

