-- ==== Sys2Proof/Machine/Unpairing.lean ====
section
/-! DEFINITION. Unpairing, the retirement of a lost partner, and the quorum override (R180, R387, R394, R399). -/
namespace Sys2Proof.Machine

/-- The members of the pools online. -/
def State.onlineMembers (s : State) : List Nat :=
  ((tkeys (s.layout.pools.filter fun p => decide (2 ≤ p.2.pState))).map s.memberSlots).flatten.eraseDups

/-- The final positions of every connection, as a handover carries them (R394). -/
def State.finalPositions (s : State) : List Nat :=
  (s.xport.ctx.map fun c => if c.2.state = 0 ∨ c.2.state = 6 then [] else [c.1, c.2.rcvAcked.toNat, c.2.sndNxt.toNat]).flatten

/-- This controller leaves the pair (R386, R394): it stops without a reset, hands over its final positions, withdraws its registrations and enters M1
with cause 0x13. What it held in its larder and for its partner stands at the partner. -/
def State.leavePair (s : State) : State :=
  let t := (s.settSend 0x1D (0 :: s.finalPositions) []).stopService
  let members := s.onlineMembers.filter fun m => (s.dport m).registered
  let u := members.foldl (fun v m => (v.updDport m fun p => { p with registered := false, reserved := false }).driveAdmin m [7, 4, s.fuses.deviceId]) t
  let v := u.updLayout fun l => { l with larder := [], mirror := [], destages := [], locks := [], releases := [], remoteRes := [], eligible := [], coalesced := [] }
  let w := v.updPair fun p => { p with
    beatsStopped := true, state := 0, serving := false, conns := [], cmds := [], fabs := [], replays := [], quorum := none }
  (w.updBoot fun b => { b with bootStep := 12 }).enterMode .m1 0x13

/-- This controller remains (R394): M2 with cause 0x13; it claims at once, without R385, adopts what the leaving controller served, and writes the quorum
blocks with STATE 0x03. -/
def State.remainPair (s : State) : State :=
  let t := (s.updPair fun p => { p with beatsStopped := true }).partnerGone .m2 0x13
  let u := t.claim
  let v := u.updPair fun p => { p with takeovers := s.pair.takeovers, state := 0, serving := false }
  v.writeQuorum { v.claimedBlock with qState := 3, holder := v.self }

/-- HANDOVER (R180, R394): of a lease, its LAST_STAMP and read entries are installed; of a leaving controller, its final positions, and this controller
remains. -/
def execHandover (v : HandoverMsg) (s : State) : Res :=
  .next (if s.paired = false then s else s.settIn 0x1D fun t =>
    if v.isLease then
      let u := t.updExtent (t.extRec v.handle v.extNo) fun e => { e with lastStamp := BitVec.ofNat 64 v.lastStamp }
      v.reads.foldl (fun w r =>
        let holder := r.1 / 262144 % 2
        w.addOvl { kind := 1, remote := decide (holder ≠ t.self), handle := v.handle, slot := r.1 % 262144, holder := holder
                   stamp := BitVec.ofNat 64 r.2.1, first := r.2.2.1, nblk := r.2.2.2 }) u
    else
      (t.updPair fun p => { p with
        conns := v.positions.foldl (fun m x => tadj x.1 (fun c => { c with rcvPos := BitVec.ofNat 32 x.2.1, sndPos := BitVec.ofNat 32 x.2.2 }) m) p.conns }).remainPair)

/-- UNPAIR (R46, R394): names the controller that leaves. Here it leaves at once, or its partner is told over class 1 and hands over. -/
def execUnpair (h : CcpHdr) (leaving : Nat) (s : State) : Res :=
  .next (s.ccpSimple h 0x48 (some 15) fun t =>
    let code := if 2 ≤ leaving then ccRange else if t.paired = false then ccMode else 0
    if h.applied then (if t.paired ∧ leaving = t.self then t.leavePair else t)
    else if code = 0 ∧ t.settUp = false then t.ccpFail h 0x48 ccPartner
    else if code ≠ 0 then t.ccpFail h 0x48 code
    else if leaving = t.self then (t.ccpReply h 0x48 0 []).leavePair
    else t.sharedDone h 0x48 [leaving] [])

/-- RETIRE_PARTNER (R46, R394): the survivor writes quorum blocks with STATE 0x03 and directory headers with its own wrapped shelf key only, and enters M2. -/
def execRetirePartner (h : CcpHdr) (s : State) : Res :=
  .next (s.ccpSimple h 0x49 (some 15) fun t =>
    if t.modes.mode ≠ .m4 then t.ccpFail h 0x49 ccMode
    else if t.pair.lost then t.ccpFail h 0x49 ccState
    else
      let u := t.writeQuorum { t.qbTop with qState := 3, holder := t.self, epoch := t.cons.epoch, term := (t.qbTop.term + 1) % 2 ^ 64 }
      let v := (tkeys (u.layout.pools.filter fun p => decide (2 ≤ p.2.pState))).foldl (fun w n => w.dirHeader n) u
      (((v.abandonPairing.updPair fun p => { p with state := 0 }).enterMode .m2 0x14).ccpReply h 0x49 0 []))

/-- What the blocks read from the quorum drives hold, by drive, with their slots (R387). -/
def State.blocksRead (blocks : List QuorumRead) (s : State) : State :=
  let good := blocks.filter fun b => b.good && decide (b.drive < 3)
  s.updPair fun p => { p with
    qbKnown := good.foldl (fun m b => tput m b.drive b.block) [], qbSlots := s.quorumSlots }

/-- The blocks permit a run of R385 from M1: two with STATE 0x01, or 0x02 or 0x03 and this controller as HOLDER, and no epoch above its own (R387). -/
def State.blocksPermit (s : State) : Bool :=
  let own := s.pair.qbKnown.filter fun e =>
    decide (e.2.qState = 1) || ((decide (e.2.qState = 2) || decide (e.2.qState = 3)) && decide (e.2.holder = s.self))
  decide (2 ≤ own.length) && own.all fun e => decide (e.2.epoch ≤ s.cons.epoch)

/-- At least two blocks name the partner as holder (R387). -/
def State.blocksOther (s : State) : Bool :=
  decide (2 ≤ (s.pair.qbKnown.filter fun e => (decide (e.2.qState = 2) || decide (e.2.qState = 3)) && decide (e.2.holder = s.other)).length)

/-- PAIR_WAIT_S has passed in M1: R385 is run where the blocks permit it or QUORUM_OVERRIDE was written, once (R387). -/
def State.waitEnded (s : State) : State :=
  if s.blocksPermit then s.beginQuorum 0
  else if s.boot.overridden then (s.updBoot fun b => { b with overridden := false }).beginQuorum 0
  else s.updPair fun p => { p with state := 5 }

/-- QUORUM_OVERRIDE (R387, R399): FORCE permits one run of R385 in M1; where PAIR_WAIT_S has passed already, it runs with the blocks as read now. -/
def execQuorumOverride (h : CcpHdr) (force : Bool) (blocks : List QuorumRead) (s : State) : Res :=
  .next (s.ccpSimple h 0x11 (some 15) fun t =>
    let u := (t.updBoot fun b => { b with overridden := b.overridden || force }).ccpReply h 0x11 0 []
    if force ∧ t.modes.mode = .m1 ∧ t.pair.state = 5 then (u.blocksRead blocks).waitEnded else u)

end Sys2Proof.Machine
end

