-- ==== Sys2Proof/Machine/Bringup.lean ====
section
/-! DEFINITION. Bring-up: HBM training, the wipe, images, the import of pools, the mode decision (R234, R527 to R533), and time samples (R544). -/
namespace Sys2Proof.Machine

/-! ### Steps 3 to 6 of R527: training, the wipe, images -/

/-- HBM_TRAINING_COMPLETE (R527 step 3): trained, step 4 begins; a first failure is a reset with cause 0x03, a second one halts in the boot ROM. -/
def execHbmTrainingComplete (good : Bool) (s : State) : Res :=
  .next (if s.boot.bootStep ≠ 3 ∨ s.elec.halted then s
  else if good then s.updBoot fun b => { b with bootStep := 4, trainingFails := 0 }
  else if s.boot.trainingFails = 0 then (s.updBoot fun b => { b with trainingFails := 1 }).resetController 0x03
  else (((s.updBoot fun b => { b with failed := true, trainingFails := 2 }).updElec fun e => { e with halted := true }).updDen fun d =>
    { d with pins := { d.pins with faultN := true } }))

/-- The resets at which firmware of a slot failed to start. -/
def State.slotFails (s : State) (b : Bool) : Nat := (tget {} s.images (slotNum b)).startFails

/-- Recovery is due: firmware of one slot has failed to start twice, and that of the other as well (R529). -/
def State.recoveryDue (s : State) : Bool :=
  decide (2 ≤ max (s.slotFails false) (s.slotFails true)) && decide (1 ≤ min (s.slotFails false) (s.slotFails true))

/-- The slot that the boot ROM tries next: in this bring-up, the one not tried yet; after a failure to start, the one with fewer failures; else the one with the
higher SVN, or A (R528, R529). True is B. -/
def State.dueSlot (s : State) : Bool :=
  let a := s.slotFails false
  let b := s.slotFails true
  if s.boot.loadFails = 1 then !s.boot.failedFirst
  else if b < a then true
  else if a < b then false
  else decide ((tget {} s.images 0).svn < (tget {} s.images 1).svn)

/-- RESET_WIPE_COMPLETE (R33, R234, R318, R527 step 4): whether the larder counts as retained is settled, HBM_RETAINED is set with the entry into M1 and a new
token marks the larder; a failed self-test, the latch of Lockdown and SCRAPPED lead to M5. -/
def execResetWipeComplete (selfTestGood : Bool) (s : State) : Res :=
  .next (if s.boot.bootStep ≠ 4 then s
  else
    let kept := s.den.hbmRetained && decide (s.layout.larderToken = s.den.larderToken)
    let token := s.drawn 64
    let t := ((s.draw.updBoot fun b => { b with larderKept := kept, selfTestOk := selfTestGood }).updDen fun d => { d with
      hbmRetained := true, larderToken := token }).updLayout fun l => { l with larderToken := token }
    let u := t.updEnclave fun e => { e with entropyOk := selfTestGood }
    if selfTestGood = false then (u.updBoot fun b => { b with failed := true }).enterM5 0x04
    else if u.keep.latch then u.enterMode .m5 0x30
    else if u.fuses.lifeCycle = 15 then u.enterMode .m5 0x31
    else if u.recoveryDue then u.updBoot fun b => { b with bootStep := 5, failed := true, recovery := true }
    else u.updBoot fun b => { b with bootStep := 5 })

/-- Write objects as control firmware does: whole, one by one; one that is rejected is skipped and reported (R530, log 61). -/
def State.writeObjects (l : List (Nat × Bytes)) (s : State) : State :=
  l.foldl (fun t o =>
    let v := t.writeCheck 0 o.1 0 o.2
    if configObject o.1 = false ∧ idSub o.1 ≠ 11 then t
    else if v.code = 0 then t.writeApply o.1 0 o.2
    else t.raise (256 * idSub o.1) (idInst o.1) v.code) s

/-- The objects that a settings block may hold: LANE_GRP_n, DRIVE_PORT_CFG_n, SLOT_PWR_CFG_n (R531). -/
def settingsObject (id : Nat) : Bool :=
  (decide (idSub id = 10) && (decide (idType id = 1) || decide (idType id = 2))) || (decide (idSub id = 11) && decide (idType id = 1))

/-- Firmware of a slot starts: step 6, with the alias seeds derived from its image and the values of its settings block (R310, R527, R528, R531). -/
def State.startFirmware (slotB : Bool) (i : ImageCheck) (s : State) : State :=
  let t := s.updBoot fun b => { b with bootStep := 6, slotB := slotB, svn := i.svn }
  let u := t.updEnclave fun e => { e with aliasSeed := Config.kdf s.fuses.deviceRoot 3 [i.digest % 2 ^ 128, i.svn, s.fuses.lifeCycle] }
  (u.writeObjects ((i.settings.filter fun e => settingsObject e.1).map fun e => (e.1, leBytes 8 e.2))).updBoot fun b => { b with confDue := false }

/-- IMAGE_LOAD_COMPLETE (R326, R528, R529): the image of the slot due runs where it passes; else the other slot is tried, and with neither the controller is
in recovery. -/
def execImageLoadComplete (slotB : Bool) (image : ImageCheck) (s : State) : Res :=
  .next (if s.boot.bootStep ≠ 5 ∨ s.boot.recovery ∨ s.modes.mode ≠ .m1 ∨ slotB ≠ s.dueSlot then s
  else if s.imageOk image then s.startFirmware slotB image
  else if s.boot.loadFails = 0 then s.updBoot fun b => { b with loadFails := 1, failedFirst := slotB }
  else s.updBoot fun b => { b with loadFails := 2, failed := true, recovery := true })

/-- FIRMWARE_START_TIMEOUT (R529): firmware has not started within 1 s of step 6: the failure is kept, and the control watchdog resets. -/
def execFirmwareStartTimeout (s : State) : Res :=
  .next (if s.boot.bootStep ≠ 6 ∨ s.modes.mode ≠ .m1 then s
  else
    let b := s.boot.slotB
    let first := decide (s.slotFails (!b) = 0) && decide (s.slotFails b = 0)
    ((s.updImages fun m => tmod {} (slotNum b) (fun i => { i with startFails := min 2 (i.startFails + 1) }) m).updBoot fun x => { x with
      failedFirst := if first then b else x.failedFirst }).resetController 0x03)

/-! ### Step 9 of R527: the import of pools (R234, R255, R530) -/

/-- The pool whose SHELF_ID the shelf has: the lowest-numbered one that unwraps (R530). -/
def refPool (pools : List PoolImport) : Option PoolImport :=
  match pools.filter fun p => p.unwraps with
  | [] => none
  | x :: xs => some (xs.foldl (fun a b => if b.pool < a.pool then b else a) x)

/-- Step 2 of R530: SHELF_KEY comes out of its wrap, and with a rotation running the previous one beside it, whose rotation goes on (R312, R317). -/
def State.importShelfKey (p : PoolImport) (s : State) : State :=
  let t := s.updEnclave fun e => { e with
    shelfKey := some (Config.unwrap s.deviceWrap p.wrapped), shelfId := p.shelfId, shelfGen := p.shelfGen
    oldShelfKey := p.oldWrapped.map (Config.unwrap s.deviceWrap), rotating := p.oldWrapped.isSome }
  t.when p.oldWrapped.isSome State.ownRotation

/-- Steps 3 and 4 of R530: of the valid configuration copies the one with the highest CONF_SEQ, a tie to the lower pool, is applied. -/
def State.importConf (conf : List ConfCopy) (s : State) : State :=
  match conf.filter fun c => c.cmacGood with
  | [] => s
  | x :: xs =>
    let c := xs.foldl (fun a b => if a.confSeq < b.confSeq ∨ (a.confSeq = b.confSeq ∧ b.pool < a.pool) then b else a) x
    (s.writeObjects (c.objects.filter fun o => configObject o.1)).updBoot fun b => { b with confSeq := c.confSeq, confDue := false }

/-- The bitmap in force: the newer checkpoint with every later set and clear record applied (R227). -/
def bitmapNow (start : List Nat) (tagged : Nat) (recs : List JRec) : List Nat :=
  (recs.filter fun r => tagged < r.seqNo).foldl (fun m r =>
    if r.kind = 4 then addOne r.stripe m else if r.kind = 5 then m.filter (fun x => x ≠ r.stripe) else m) start

/-- Where the larder does not count as retained, nothing that stood in HBM alone is used (R234, R255). -/
def State.dropLarder (s : State) : State :=
  s.updLayout fun l => { l with
    larder := [], mirror := [], lostList := []
    pools := tmap (fun _ p => { p with journal := [], partnerJournal := [], rebuilt := [], progress := [], copied := [], resynced := [] }) l.pools }

/-- A pool comes online as its labels, slab map and journal say; the geometry objects take the labels' values. -/
def State.poolOpens (p : PoolImport) (c : Option JCopy) (s : State) : State :=
  let n := p.pool
  let recs := (c.map (·.recs)).getD []
  let t := ((s.setWord (oid 5 1 n) (rwPart (wordFields 5 1) p.cfg)).setWord (oid 5 2 n) p.members).updBlobs fun b => tput b (oid 5 4 n) p.perm
  (t.updPool n fun q => { q with
    pState := 2, slabs := p.slabMap, journal := recs.reverse.take 4096, bitmap := bitmapNow p.bitmap p.bitmapSeq recs
    nextSeq := max 1 ((c.map copyHigh).getD 0 + 1), ringNext := recs.foldl (fun a r => max a (r.ringBlk + 1)) 0
    sinceHeader := 0, opened := false }).updBoot fun b => { b with imported := addOne n b.imported }

/-- The members of an imported pool: one whose drive is not up with its own label is MISSING; one that was MISSING and is back is resynchronised (R238, R253). -/
def State.importMembers (n : Nat) (s : State) : State :=
  (s.memberSlots n).foldl (fun t m =>
    let own := decide ((t.dport m).dState = 4) && (t.dport m).label == some (n, m)
    if own then (if t.memberState n m = 1 then t.memberReturns n m else t)
    else if t.memberState n m < 2 then t.memberMissing m else t) s

/-- The extents of a pool's namespaces, owned here, with LAST_STAMP at the epoch (R173, R176). -/
def State.importExtents (n epoch : Nat) (s : State) : State :=
  s.updCons fun c => { c with extents := s.cipher.ns.foldl (fun m e =>
    if e.2.pool ≠ n then m
    else (List.range e.2.extents).foldl (fun q x => tput q (e.2.mapBase + x) {
      lastStamp := BitVec.ofNat 64 (epoch * 2 ^ 40), state := 1, handle := e.1, extNo := x, owner := s.self }) m) c.extents }

/-- Encrypted namespaces of a pool with no usable shelf key are locked (R325). -/
def State.importLocks (n : Nat) (s : State) : State :=
  s.updCipher fun c => { c with ns := tmap (fun _ x =>
    if x.pool = n ∧ (x.nState = 2 ∨ x.nState = 3) then { x with nState := if x.keying ≠ 0 ∧ s.enclave.shelfKey.isNone then 3 else 2 } else x) c.ns }

/-- Work on the media of a pool that import asks for, as an order to its members: 12 resynchronise a stripe, 13 replay a data intent, 14 resynchronise a bitmap
region, 15 write a marker (R234). -/
def State.importOrder (what a b : Nat) (s : State) : State := s.send .driveAdmin [64, what, a, b] []

/-- Close an open intent at import. -/
def State.closeIntent (n : Nat) (r : JRec) (s : State) : State := s.journal n { kind := 2, arg := r.seqNo }

/-- CLEAN = 0 with the larder retained (R234): versions of the stripes of open intents that fail their trailer or tag are discarded, their blocks lost where no newer
version stands; an intent with no version left is resynchronised and closed; the others are replayed. -/
def State.replayKept (n : Nat) (bad : List (Nat × Nat)) (intents : List JRec) (s : State) : State :=
  let mine (v : Version) : Bool := match s.stripeOfVersion v with
    | some (m, st) => decide (m = n) && intents.any fun r => r.stripe = st
    | none => false
  let fails (v : Version) : Bool := mine v && !v.dealloc && (bad.contains (v.handle, v.blk) || !crcGood v.block)
  let gone := s.layout.larder.filter fun e => fails e.2
  let t := s.updLayout fun l => { l with larder := l.larder.filter fun e => !fails e.2 }
  let newer (v : Version) : Bool := t.layout.larder.any fun e =>
    decide (e.2.handle = v.handle) && decide (e.2.blk = v.blk) && decide (v.stamp.toNat < e.2.stamp.toNat)
  let u := gone.foldl (fun w e => if newer e.2 then w else (w.importOrder 15 e.2.handle e.2.blk).enterLost n e.2.handle e.2.blk) t
  let held (r : JRec) : Bool := u.layout.larder.any fun e => u.stripeOfVersion e.2 == some (n, r.stripe)
  let v := intents.foldl (fun w r => if held r then w else (w.importOrder 12 n r.stripe).closeIntent n r) u
  v.when (intents.any held) fun w => w.updLayout fun l => { l with replaying := true }

/-- LARDER_LOST (R234, R236). -/
def State.larderLost (n : Nat) (s : State) : State := (s.updLayout fun l => { l with lost := true }).raise 0x0501 n n

/-- CLEAN = 0 with the larder not retained (R234): data intents are replayed from the journal, the stripes of open intents resynchronised, blocks that fail their
trailer are lost. -/
def State.replayLost (n : Nat) (bad : List (Nat × Nat)) (intents data : List JRec) (s : State) : State :=
  let t := data.foldl (fun u r => u.importOrder 13 n r.seqNo) s
  let u := intents.foldl (fun v r => (v.importOrder 12 n r.stripe).closeIntent n r) t
  (bad.foldl (fun v b => v.enterLost n b.1 b.2) u).larderLost n

/-- A partner in M4 reports an epoch above the journal's (R234). -/
def State.partnerAhead (s : State) (epoch : Nat) : Bool :=
  match s.pair.hello with
  | some m => decide (m.mode = 4) && decide (epoch < m.epoch)
  | none => false

/-- What R234 has done with a pool whose freshest journal copy is `c`; the intents of a reshape's uncommitted extents are closed without action (R261). -/
def State.importReplay (p : PoolImport) (c : Option JCopy) (s : State) : State :=
  let n := p.pool
  match c with
  | none =>
    let t := (s.pool n).bitmap.foldl (fun u b => u.importOrder 14 n b) s
    t.when (!s.boot.larderKept) (State.larderLost n)
  | some j =>
    match (j.recs.filter fun r => r.kind = 6).getLast? with
    | none => s
    | some h =>
      if h.flags.testBit 4 then s
      else if s.partnerAhead (h.high / 2 ^ 40) then s.updLayout fun l => { l with larder := [], mirror := [] }
      else
        let intents := openIntents (s.pool n).journal
        let idle := intents.filter fun r => inNew r.stripe && (s.stripeExtent n r.stripe).isNone
        let t := idle.foldl (fun u r => u.closeIntent n r) s
        let live := intents.filter fun r => !idle.contains r
        if s.boot.larderKept then t.replayKept n p.badData live
        else t.replayLost n p.badData live ((j.recs.filter fun r => r.kind = 3))

/-- The journal copies of a pool at import (R255): the own HBM copy where the larder counts as retained, and those of the partner and the drives. -/
def State.importCopies (p : PoolImport) (s : State) : List JCopy :=
  (if s.boot.larderKept then [{ src := 0, recs := (s.pool p.pool).journal.reverse }] else []) ++ p.copies.filter fun c => c.src ≠ 0

/-- The epoch of the newest header of a copy (R173, R230). -/
def copyEpoch (c : JCopy) : Nat :=
  match (c.recs.filter fun r => r.kind = 6).getLast? with
  | some h => h.high / 2 ^ 40
  | none => 0

/-- Import one pool. -/
def State.importPool (p : PoolImport) (s : State) : State :=
  let c := chooseCopy (s.importCopies p)
  let t := (s.poolOpens p c).importLocks p.pool
  (t.importMembers p.pool).importReplay p c

/-- The directory header is older than the Den record of what this controller wrote: a security fault (R311, R335). -/
def State.dirOlder (s : State) (pools : List PoolImport) : Bool := pools.any fun p => decide (p.dirSeq < tget 0 s.keep.dirSeq p.pool)

/-- Import of the pools found (R530): pools of another shelf are left out, their members reported. -/
def State.importAll (pools : List PoolImport) (s : State) : State :=
  let mine : List PoolImport := match refPool pools with
    | some q => pools.filter fun (p : PoolImport) => p.shelfId = q.shelfId
    | none => pools
  let others := pools.filter fun p => !mine.contains p
  let t := others.foldl (fun u p => (maskSlots p.members).foldl (fun v m => v.raise 0x0503 m m) u) s
  let u := t.when (!t.boot.larderKept) State.dropLarder
  let epoch := mine.foldl (fun a p => match chooseCopy (u.importCopies p) with
    | some c => max a (copyEpoch c)
    | none => a) 0
  let v := u.updCons fun c => { c with epoch := epoch % 2 ^ 24 }
  mine.foldl (fun w p => w.importPool p) (mine.foldl (fun w p => w.importExtents p.pool (epoch % 2 ^ 24)) v)

/-- IMPORT_START (R234, R255, R387, R530, R531): firmware runs and the drive ports have settled: shelf key, configuration, pools, quorum blocks; then pairing where a
partner is there. -/
def execImportStart (pools : List PoolImport) (conf : List ConfCopy) (quorum : List QuorumRead) (s : State) : Res :=
  .next (if s.modes.mode ≠ .m1 ∨ s.boot.bootStep < 6 ∨ 8 < s.boot.bootStep ∨ s.boot.recovery then s
  else
    let found := pools.filter fun p => decide (p.pool < 8)
    let t := (s.updImages fun m => tadj (slotNum s.boot.slotB) (fun i => { i with startFails := 0 }) m).updBoot fun b => { b with bootStep := 9 }
    if t.dirOlder found then (t.updBoot fun b => { b with failed := true }).enterM5 0x07
    else
      let u := t.updKeep fun k => { k with dirSeq := found.foldl (fun m p => tput m p.pool (max p.dirSeq (tget 0 m p.pool))) k.dirSeq }
      let v := match refPool found with
        | some p => u.importShelfKey p
        | none => u
      let w := (((v.importConf conf).importAll found).replayCheck).blocksRead quorum
      let x := w.when (decide (w.pairCfgPairEn = 1) && w.blocksOther) fun y => y.updPair fun p => { p with state := 5 }
      ((x.updBoot fun b => { b with bootStep := if b.storeTestDone then 11 else 10 }).startPairing).settle)

/-! ### Step 12 of R527: the mode decision (R387, R532) -/

/-- What step 12 waits for: step 11 ended or no store, and every open intent closed (R234, R532). -/
def State.decisionReady (s : State) : Bool :=
  decide (10 ≤ s.boot.bootStep) && (s.boot.storeTestDone || !s.storePresent) && !s.layout.replaying

/-- Enter M2 from M1: the pair epoch is raised; where no shelf key came with a pool one is drawn (R173, R312, R532). -/
def State.enterSolo (s : State) : State :=
  let t := if s.enclave.shelfKey.isNone then (s.draw).takeShelfKey (s.drawn 256) s.enclave.shelfGen else s
  ((t.raiseEpoch.enterMode .m2 0x10).recomputePs).settle

/-- MODE_DECISION (R63, R532): the links are up or 300 ms have passed; with PAIR_EN = 0 the controller enters M2, with PAIR_EN = 1 it pairs; after a Den wake it
enters the mode it had left, under an epoch raised by 1, at both controllers alike (R173). -/
def execModeDecision (s : State) : Res :=
  .next (if s.modes.mode ≠ .m1 ∨ s.boot.recovery then s
  else
    match s.modes.denLeft with
    | some m => (((s.updModes fun q => { q with denLeft := none }).applyEpoch (s.cons.epoch + 1)).enterMode m 0x21).recomputePs
    | none =>
      if s.decisionReady = false then s
      else
        let t := s.updBoot fun b => { b with linksWaited := true, storeTestDone := true, bootStep := 12 }
        if t.pairCfgPairEn = 0 then t.enterSolo else t.startPairing)

/-- PAIR_WAIT_EXPIRY (R45, R387): no partner has answered within PAIR_WAIT_S: the quorum blocks as read now decide whether R385 is run. -/
def execPairWaitExpiry (blocks : List QuorumRead) (s : State) : Res :=
  .next (if s.modes.mode = .m1 ∧ s.pairCfgPairEn = 1 ∧ s.boot.bootStep = 12 ∧ s.boot.recovery = false ∧ s.pair.pairStep < 2 then
    (s.blocksRead blocks).waitEnded
  else s)

/-! ### The configuration image and time samples -/

/-- CONFIG_IMAGE_WRITE (R530): a new copy with CONF_SEQ raised by 1 goes to the journal drives of every pool online, to the other of two alternating areas. -/
def execConfigImageWrite (s : State) : Res :=
  .next (if s.boot.confDue = false then s
  else
    let seq := s.boot.confSeq + 1
    let pools := (List.range 8).filter s.poolOnline
    let t := s.updBoot fun b => { b with confSeq := seq, confDue := false }
    pools.foldl (fun u n =>
      (u.journalUp n).foldl (fun v d => v.submitRun (some 1) 0
        { slot := d, op := 1, lba := 135298 + seq % 2 * 8192, blocks := 8192, owner := 3 }) (u.updPool n fun p => { p with confCopy := seq })) t)

/-- TIME_SAMPLE (R544): in M3 the offset to the partner's time base follows the samples exchanged over class 5. -/
def execTimeSample (partnerNs : Nat) (s : State) : Res :=
  .next (if s.paired ∧ s.settUp then s.updPair fun p => { p with timeOffset := (partnerNs : Int) - (s.now : Int) } else s)

end Sys2Proof.Machine
end

