-- ==== Sys2Proof/Machine/Cipher.lean ====
section
/-! DEFINITION. The meanings of the integrity and cipher commands (R282 to R303), and of the enclave's faults and erasure (R328 to R335). -/
namespace Sys2Proof.Machine

/-! ### Keys and counters -/

/-- KEY_UNWRAP_COMPLETE (R319, R333): an unwrap that was asked for installs its key, and what waited for it goes on. One that ends after Lockdown was
entered finds its request discarded. -/
def execKeyUnwrapComplete (handle gen : Nat) (s : State) : Res :=
  bounded (decide (handle < 16384) && decide (gen < 256))
    (match tfind (s.ns handle).gens gen with
    | some g =>
      match s.shelfKeyOf g.shelfGen with
      | some sk =>
        if s.enclave.unwraps.contains (handle, gen) ∧ s.cipher.keyBusOpen then
          (s.installKey handle gen (Config.unwrap (s.nsKek sk handle) g.wrapped)).keyReady handle
        else s
      | none => s
    | none => s)

/-- CTR_STEP_DURABLE (R283): a step that was asked for raises this controller's CTR_HIGH by 2^24, and blocks that waited for it go on. -/
def execCtrStepDurable (handle gen : Nat) (s : State) : Res :=
  bounded (decide (handle < 16384) && decide (gen < 256))
    (match tfind (s.ns handle).gens gen with
    | some g =>
      if g.stepAsked then
        let up (v : Nat) : Nat := min (2 ^ 48 - 2 ^ 32) (v + 2 ^ 24)
        ((s.updGen handle gen fun x => if s.self = 0 then { x with stepAsked := false, ctrHigh0 := up x.ctrHigh0 }
          else { x with stepAsked := false, ctrHigh1 := up x.ctrHigh1 }).bump cCtrSteps handle).keyReady handle
      else s
    | none => s)

/-- GENERATION_ACTIVATION (R284, R286, R288): the partner reports an activation (0), an exhaustion (1), or that its part of a sweep is done (2). -/
def execGenerationActivation (handle gen what : Nat) (s : State) : Res :=
  bounded (decide (handle < 16384) && decide (gen < 256))
    (if s.paired = false then s
    else s.settIn 0x1A fun t =>
      match tfind (t.ns handle).gens gen with
      | none => t
      | some g =>
        if what = 0 then (if g.gState = 1 then (t.applyActivate handle gen).keyReady handle else t)
        else if what = 1 then t.updGen handle gen fun x => { x with exhausted := true, gState := if x.gState = 2 then 3 else x.gState }
        else
          let u := t.updGen handle gen fun x => { x with sweepThere := true }
          if g.sweepHere then ((u.updNs handle fun x => { x with gens := tdel x.gens gen }).dirWrite handle gen).raise 0x0602 handle gen
          else u)

/-- KEY_DERIVATION_COMPLETE (R286): the enclave has derived the successor of a generation that has reached its warning; it is PENDING, in M3 at
both controllers (R561), and is activated. -/
def execKeyDerivationComplete (handle : Nat) (s : State) : Res :=
  bounded (decide (handle < 16384))
    (let n := s.ns handle
    match n.genIn 2, n.nextGen with
    | some (_, k), some g =>
      if s.cipherCfgAutoRotate = 1 ∧ n.keying = 1 ∧ k.warned ∧ (n.genIn 1).isNone ∧ s.enclave.shelfKey.isSome ∧ s.cipher.keyBusOpen then
        let t := s.deriveGen handle g
        let r := match tfind (t.ns handle).gens g with
          | some x => [x.wrapped, x.salt]
          | none => []
        ((t.settIfPaired 0x1E ([0x38, handle, g] ++ r) []).activate handle g).keyReady handle
      else s
    | _, _ => s)

/-! ### Lanes, realigners and engines (R294, R295, R298) -/

/-- A lane fails (R295): out of service, and fault 0x07. -/
def State.laneFails (lane : Nat) (s : State) : State :=
  if 24 ≤ lane ∨ s.cipher.laneOut.toNat.testBit lane then s
  else (s.updCipher fun c => { c with laneOut := c.laneOut ||| BitVec.ofNat 24 (2 ^ lane) }).singleFault 0x07

/-- Name the blocks that a failed lane may have spoilt (R295): event 0x0603 and CIPHER_SUSPECT. -/
def State.suspect (x : Suspect) (s : State) : State :=
  (s.raise 0x0603 x.handle (x.handle + 2 ^ 16 * x.first + 2 ^ 64 * x.count)).bumpN cCipherSuspect 0 x.count

/-- DUP_WINDOW (R294, R295): the window of a group ends with the mismatches found in its lanes, one entry for each; a lane with two has failed. The
next group begins with its known-answer blocks, and a lane that gives a wrong one has failed. -/
def execDupWindow (mismatch badKat : List Nat) (suspects : List Suspect) (s : State) : Res :=
  .next (
    let k := s.cipher.dupGroup
    let next := (k + 1) % 8
    let mine := mismatch.filter fun l => l < 24 ∧ l % 8 = k ∧ s.cipher.laneOut.toNat.testBit l = false
    let failed := (mine.filter fun l => 2 ≤ mine.count l).eraseDups ++ badKat.filter fun l => l < 24 ∧ l % 8 = next
    let t := s.updCipher fun c => { c with dupGroup := next, dupMismatch := sat 65535 (c.dupMismatch + mine.length) }
    let u := failed.foldl (fun v l => v.laneFails l) t
    if u.cipher.laneOut = t.cipher.laneOut then u else suspects.foldl (fun v x => v.suspect x) u)

/-- A cage's realigner fails (R298): its links go down, fault 0x09. -/
def State.realignFails (cage : Nat) (s : State) : State :=
  if 4 ≤ cage ∨ s.cipher.realignOut.toNat.testBit cage then s
  else
    let t := (s.updCipher fun c => { c with realignOut := c.realignOut ||| BitVec.ofNat 4 (2 ^ cage) }).singleFault 0x09
    (List.range 4).foldl (fun u i => u.linkLost (4 * cage + i)) t

/-- A Reed–Solomon engine fails (R298): out of service, fault 0x08. -/
def State.engineFails (e : Nat) (s : State) : State :=
  if 8 ≤ e ∨ s.cipher.engineOut.toNat.testBit e then s
  else (s.updCipher fun c => { c with engineOut := c.engineOut ||| BitVec.ofNat 8 (2 ^ e) }).singleFault 0x08

/-- KNOWN_ANSWER_CHECK (R298): realigners and engines that gave a wrong answer leave service. -/
def execKnownAnswerCheck (badRealigners badEngines : List Nat) (s : State) : Res :=
  .next (badEngines.foldl (fun t e => t.engineFails e) (badRealigners.foldl (fun t c => t.realignFails c) s))

/-! ### Enclave faults and erasure (R328, R332, R333, R395) -/

/-- The fault codes of R332. -/
def faultCodes : List Nat := [0x01, 0x02, 0x03, 0x04, 0x05, 0x06, 0x07, 0x08, 0x10, 0x11]

/-- SECURITY_FAULT (R309, R332, R333): a fault of the table enters M5. -/
def execSecurityFault (code : Nat) (s : State) : Res := .next (if faultCodes.contains code then s.enterM5 code else s)

/-- The destage of R49 has ended, or that rule requires none: M5 was not entered from M2 or M4, or the larder is empty. -/
def State.m5Destaged (s : State) : Bool :=
  (decide (s.modes.prevMode ≠ .m2) && decide (s.modes.prevMode ≠ .m4)) || (s.layout.larder.isEmpty && s.layout.destages.isEmpty)

/-- KEY_ERASURE (R333): in M5, once, after the destage of R49, whose islands close (R48). -/
def execKeyErasure (s : State) : Res :=
  .next (if s.modes.mode = .m5 ∧ s.enclave.erased = false ∧ s.m5Destaged then
      s.eraseKeys.updSpine fun p => { p with islandsOpen := modeIslands .m5 .m5 p.islandsOpen } else s)

/-- DEBUG_ACCESS_ATTEMPT (R328): an access to the closed port is ignored and counted. -/
def execDebugAccessAttempt (s : State) : Res :=
  .next (if s.debugIsOpen then s else s.updEnclave fun e => { e with debugAttempts := sat 4095 (e.debugAttempts + 1) })

/-- CORE_LOCKSTEP_MISMATCH (R395): fault 0x05, masked: the pair is out and its work moves to another pair of its group. -/
def execCoreLockstepMismatch (pair : Nat) (s : State) : Res :=
  bounded (decide (pair < 12)) ((s.updSpine fun p => { p with coreFailed := p.coreFailed ||| BitVec.ofNat 12 (2 ^ pair) }).singleFault 0x05)

end Sys2Proof.Machine
end

