-- ==== Sys2Proof/Machine/Jobs.lean ====
section
/-! DEFINITION. The end of a job (R494, R500, R508). -/
namespace Sys2Proof.Machine

/-- An event to one session (R494, R495): sent or queued as for a subscriber. -/
def State.raiseTo (id code n data : Nat) (s : State) : State :=
  match tfind s.ccp.sessions id with
  | none => s
  | some e =>
    let up := s.reaches e
    let outs := e.eventsOut id s.nowUs up code n data
    (s.updSession id fun x => x.offer up code n data).updSent (outs ++ ·)

/-- The event of a job's end: to every session subscribed, and to the one that started it even where it is not (R494). -/
def State.jobEvent (j session data : Nat) (s : State) : State :=
  let t := s.raise 0x0E01 j data
  match tfind s.ccp.sessions session with
  | some e => if e.sState = 2 ∧ e.wants 0x0E01 = false then t.raiseTo session 0x0E01 j data else t
  | none => t

/-- What the end of a job commits here, by its opcode, and at the partner (R500, R561). Answers the final status. -/
def State.jobCommit (op arg status : Nat) (s : State) : Nat × State :=
  let tell (what : Nat) (t : State) : State := t.settIfPaired 0x1E [op, arg, what] []
  if op = 0x41 then if status = 0 then s.imageWritten else (status, s.updCcp fun c => { c with fwCommit := none })
  else if status ≠ 0 then
    if op = 0x20 then (status, (s.poolFailed arg).when true (tell 2)) else (status, s)
  else
    match op with
    | 0x20 => (0, tell 1 (s.poolCreated arg))
    | 0x21 => if s.poolDeleteStatus arg ≠ 0 then (s.poolDeleteStatus arg, s) else (0, tell 1 (s.poolDeleted arg))
    | 0x23 => (0, tell 1 (s.driveFormatted arg))
    | 0x2A => (0, tell 1 (s.nsDeleted arg))
    | 0x2B => (0, tell 1 (s.nsDeleted arg))
    | 0x3B => (0, s.rotationDone)
    | _ => (0, s)

/-- JOB_COMPLETE (R494, R508): a running job ends with a status; the session that started it gets event 0x0E01 if it is still open. A rotation ends
only once its new key is in use (R317). -/
def execJobComplete (job status : Nat) (s : State) : Res :=
  bounded (decide (job < 64))
    (match tfind s.ccp.jobs job with
    | none => s
    | some j =>
      if j.jState ≠ 1 ∨ (j.opcode = 0x3B ∧ status = 0 ∧ s.enclave.rotating = false) then s
      else
        let r := s.jobCommit j.opcode j.arg status
        (r.2.updCcp fun c => { c with jobs := tput c.jobs job { j with jState := 2, result := r.1, progress := 1000 } }).jobEvent job j.session
          (j.opcode + 256 * r.1))

end Sys2Proof.Machine
end

