-- ==== Sys2Proof/Machine/LifeCycle.lean ====
section
/-! DEFINITION. The commands of images, reset, diagnostics, life cycle and debug lock (R323 to R328, R335, R499, R500). -/
namespace Sys2Proof.Machine

/-! ### Images and resets (R327, R499, R500) -/

/-- FW_LOAD (R499): staged image data at an offset of the image region, 32 MiB. -/
def execFwLoad (h : CcpHdr) (offset : Nat) (bytes : Bytes) (s : State) : Res :=
  .next (s.ccpSimple h 0x40 (some 13) fun t =>
    match t.ccpField h bytes with
    | none => (t.ccpUnstage h).ccpFail h 0x40 ccBadLength
    | some b =>
      let u := t.ccpUnstage h
      if 33554432 < offset + b.length then u.ccpFail h 0x40 ccRange
      else (u.updCcp fun c => { c with fwImage := tput c.fwImage offset b }).ccpReply h 0x40 0 [])

/-- FW_COMMIT (R326, R500, R528): a job; an image that passes R326 is written to the slot not running, which is no valid image until the job ends. `image`
is what the check of the staged image finds. -/
def execFwCommit (h : CcpHdr) (length : Nat) (image : ImageCheck) (s : State) : Res :=
  .next (s.ccpSimple h 0x41 (some 13) fun t =>
    let code := if 33554432 < length then ccRange else if t.imageWhole length = false then ccBadLength else if t.jobRunning 0x41 then ccBusy else 0
    t.localJob h 0x41 code length fun u =>
      if u.imageOk image ∧ image.length = length then
        (u.updCcp fun c => { c with fwCommit := some { valid := true, svn := image.svn, digest := image.digest, startFails := 0 } }).updImages fun m =>
          tmod {} (slotNum u.commitSlot) (fun x => { x with valid := false }) m
      else u.updCcp fun c => { c with fwCommit := none })

/-- ROLLBACK_ADVANCE (R327): the anti-rollback count rises to one above it and not above the SVN of the running image. -/
def execRollbackAdvance (h : CcpHdr) (count : Nat) (s : State) : Res :=
  .next (s.ccpSimple h 0x42 (some 14) fun t =>
    if t.fuses.antiRollback < count ∧ count ≤ t.boot.svn ∧ count ≤ 128 then
      (t.updFuses fun f => { f with antiRollback := count }).ccpReply h 0x42 0 []
    else t.ccpFail h 0x42 ccRollback)

/-- RESET (R499): the reply, then a reset with cause 0x02. -/
def execReset (h : CcpHdr) (s : State) : Res :=
  .next (s.ccpSimple h 0x50 (some 17) fun t => (t.ccpReply h 0x50 0 []).resetController 0x02)

/-- DIAG_RUN (R499): a diagnostic test runs as a job. -/
def execDiagRun (h : CcpHdr) (test : Nat) (s : State) : Res :=
  .next (s.ccpSimple h 0x51 (some 17) fun t => t.localJob h 0x51 0 test id)

/-! ### Life cycle (R323, R324) -/

/-- A step of R324 that a role may ask for. -/
def stepAllowed (f : Fuses) (role target : Nat) : Bool :=
  match f.lifeCycle, target with
  | 0, 1 => decide (role = 4) && f.rootPresent
  | 1, 3 => decide (role = 1)
  | 1, 7 => decide (role = 1)
  | 3, 7 => decide (role = 1)
  | 0, 15 => decide (role = 4)
  | 1, 15 => decide (role = 1)
  | 3, 15 => decide (role = 1)
  | 7, 15 => decide (role = 3)
  | _, _ => false

/-- The status of a step: the parameters of one to PROVISIONED are in range, no reserved mask bit set (R308, R321, R324). -/
def State.stepStatus (s : State) (role target : Nat) (p : Provisioning) : Nat :=
  if s.modes.mode ≠ .m1 ∧ s.modes.mode ≠ .m5 then ccMode
  else if stepAllowed s.fuses role target = false then ccLifeCycle
  else if target ≠ 1 then 0
  else if 2 ^ 22 ≤ p.maskShelf ∨ 2 ^ 22 ≤ p.maskTenant ∨ 2 ^ 22 ≤ p.maskService ∨ 4 ≤ p.debugLock then ccReserved
  else if p.debugLock = 0 ∨ p.energyCeilJ < 10 ∨ 4000 < p.energyCeilJ then ccRange
  else 0

/-- The fuses after a step (R324). -/
def Fuses.step (f : Fuses) (target : Nat) (p : Provisioning) : Fuses :=
  if target = 1 then { f with
    lifeCycle := 1, maskShelf := BitVec.ofNat 32 p.maskShelf, maskTenant := BitVec.ofNat 32 p.maskTenant, maskService := BitVec.ofNat 32 p.maskService
    energyCeilJ := p.energyCeilJ, slotCeil := p.slotCeil % 2 ^ 256, debugLock := p.debugLock, ownerHash := p.ownerHash, marginal := false }
  else { f with lifeCycle := target, rootDisabled := f.rootDisabled || decide (target = 15), marginal := false }

/-- All memory is wiped: of the larders, journals and bitmaps nothing remains (R323, R336). -/
def State.wipeAll (s : State) : State :=
  (s.updLayout fun l => { l with
    larder := [], mirror := [], larderToken := 0
    pools := tmap (fun _ p => { p with journal := [], partnerJournal := [], bitmap := [], lastDestage := [], hot := [] }) l.pools }).updDen fun d =>
    { d with hbmRetained := false }

/-- LIFECYCLE_STEP (R323, R324): in M1 or M5: the reply, service stopped, all memory wiped, the fuses of the step blown, reset. -/
def execLifecycleStep (h : CcpHdr) (target : Nat) (prov : Provisioning) (s : State) : Res :=
  .next (s.ccpSimple h 0x58 (some 16) fun t =>
    let code := t.stepStatus (t.session h.session).role target prov
    if code ≠ 0 then t.ccpFail h 0x58 code
    else (((t.ccpReply h 0x58 0 []).stopService.wipeAll).updFuses fun f => f.step target prov).resetController 0x02)

/-- ROOT_BIRTH (R324): in BLANK, DEVICE_ROOT from the entropy source; the identity public keys are the reply. -/
def execRootBirth (h : CcpHdr) (s : State) : Res :=
  .next (s.ccpSimple h 0x59 (some 16) fun t =>
    if t.fuses.lifeCycle ≠ 0 then t.ccpFail h 0x59 ccLifeCycle
    else if t.fuses.rootPresent then t.ccpFail h 0x59 ccState
    else
      let root := t.drawn 256
      let seed := Config.kdf root 2 [t.fuses.deviceId]
      (t.draw.updFuses fun f => { f with rootPresent := true, deviceRoot := root }).ccpReply h 0x59 0
        (leBytes 97 (Config.pubKey seed) ++ leBytes 2592 (Config.sign 2 seed [])))

/-! ### Debug lock and Lockdown (R328, R335) -/

/-- UNLOCK_CHALLENGE (R328): a fresh challenge. -/
def execUnlockChallenge (h : CcpHdr) (s : State) : Res :=
  .next (s.ccpSimple h 0x5A (some 18) fun t =>
    if t.fuses.lifeCycle ≠ 7 then t.ccpFail h 0x5A ccLifeCycle
    else
      let c := t.drawn 256
      (t.draw.updEnclave fun e => { e with challenge := some c }).ccpReply h 0x5A 0 (leBytes 32 c))

/-- DEBUG_UNLOCK (R328): in RETURN with DEBUG_LOCK 0b01, a token over DEVICE_ID and the challenge drawn for it opens the debug port until the next
reset. A challenge serves one token. -/
def execDebugUnlock (h : CcpHdr) (token : UnlockToken) (s : State) : Res :=
  .next (s.ccpSimple h 0x5B (some 18) fun t =>
    let u := (t.ccpUnstage h).updEnclave fun e => { e with challenge := none }
    if t.fuses.lifeCycle ≠ 7 then (t.ccpUnstage h).ccpFail h 0x5B ccLifeCycle
    else if t.fuses.debugLock ≠ 1 then (t.ccpUnstage h).ccpFail h 0x5B ccState
    else if token.kind = 0 ∨ 2 < token.kind then (t.ccpUnstage h).ccpFail h 0x5B ccRange
    else if t.enclave.challenge = some token.challenge ∧ token.deviceId = t.fuses.deviceId ∧ token.sigGood then
      (u.updEnclave fun e => { e with debugOpen := true }).ccpReply h 0x5B 0 []
    else u.credentialBad h 0x5B)

/-- LOCKDOWN_CLEAR (R335): the latch is clear; the next reset starts normally. -/
def execLockdownClear (h : CcpHdr) (s : State) : Res :=
  .next (s.ccpSimple h 0x5C (some 21) fun t => (t.updKeep fun k => { k with latch := false }).ccpReply h 0x5C 0 [])

end Sys2Proof.Machine
end

