-- ==== Sys2Proof/Machine/Pools.lean ====
section
/-! DEFINITION. The commands that create and delete pools and namespaces, format drives, fail members and erase keys (R239, R337, R499 to R501). -/
namespace Sys2Proof.Machine

/-! ### Pools and drives (R499, R500) -/

/-- POOL_CREATE (R203, R206, R500): a job that zeroes the pool's data area and brings it online. At the partner the start, the end and a failure of the
job are applied (R561). -/
def execPoolCreate (h : CcpHdr) (pool : Nat) (s : State) : Res :=
  .next (s.ccpSimple h 0x20 (some 5) fun t =>
    if jobEnded h then t.poolCreated pool
    else if h.applied ∧ h.results.head? = some 2 then t.poolFailed pool
    else t.sharedJob h 0x20 (t.poolCreateStatus pool) pool fun u =>
      (u.poolBegin pool).when (!h.applied) fun v => v.orderDrives (v.memberSlots pool) 8 pool)

/-- POOL_DELETE (R500): a job; rejected while the pool holds a namespace. -/
def execPoolDelete (h : CcpHdr) (pool : Nat) (s : State) : Res :=
  .next (s.ccpSimple h 0x21 (some 5) fun t =>
    if jobEnded h then t.poolDeleted pool
    else t.sharedJob h 0x21 (t.poolDeleteStatus pool) pool fun u =>
      u.when (!h.applied) fun v => v.orderDrives (v.memberSlots pool) 11 pool)

/-- MEMBER_FAIL (R239): a pool member fails by request of management software. -/
def execMemberFail (h : CcpHdr) (slot : Nat) (s : State) : Res :=
  .next (s.ccpSimple h 0x22 (some 5) fun t =>
    match t.poolOfSlot slot with
    | some n =>
      let code := if 64 ≤ slot then ccRange else if 2 ≤ t.memberState n slot ∨ t.poolOnline n = false then ccState else 0
      t.sharedDo h 0x22 code [slot] [] fun u => u.failMember n slot 5
    | none => t.sharedDo h 0x22 (if 64 ≤ slot then ccRange else ccState) [] [] id)

/-- DRIVE_FORMAT (R202, R500): a job; only for a drive that is UP and whose slot belongs to no pool. -/
def execDriveFormat (h : CcpHdr) (slot : Nat) (s : State) : Res :=
  .next (s.ccpSimple h 0x23 (some 5) fun t =>
    if jobEnded h then t.driveFormatted slot
    else
      let code := if 64 ≤ slot then ccRange else if (t.poolOfSlot slot).isSome ∨ (t.dport slot).dState ≠ 4 then ccState else 0
      t.sharedJob h 0x23 code slot fun u => u.when (!h.applied) fun v => v.orderDrives [slot] 9 0)

/-! ### Namespaces (R500, R501) -/

/-- NS_CREATE (R501): an encrypted namespace, KEYING 1 or 2; the reply names its handle. -/
def execNsCreate (h : CcpHdr) (desc : NsDescReq) (s : State) : Res :=
  .next (s.ccpSimple h 0x28 (some 6) fun t =>
    let code := t.nsCreateStatus desc false
    match t.nsPlan desc with
    | some p =>
      if code = 0 ∧ t.sharedCut h = false then
        let u := t.makeNs h desc p
        u.sharedDone h 0x28 (nsArgs desc p.handle ++ (u.ns p.handle).serial :: u.genResults p.handle 0) (leBytes 2 p.handle)
      else t.sharedDo h 0x28 code [] [] id
    | none => t.sharedDo h 0x28 (if code = 0 then ccFull else code) [] [] id)

/-- NS_CREATE_PLAIN (R501): a plain namespace, KEYING 0. -/
def execNsCreatePlain (h : CcpHdr) (desc : NsDescReq) (s : State) : Res :=
  .next (s.ccpSimple h 0x29 (some 7) fun t =>
    let code := t.nsCreateStatus desc true
    match t.nsPlan desc with
    | some p => t.sharedDo h 0x29 code (nsArgs desc p.handle) (leBytes 2 p.handle) fun u => u.nsCreated desc p 0
    | none => t.sharedDo h 0x29 (if code = 0 then ccFull else code) [] [] id)

/-- NS_DELETE (R500): a job that crypto-erases an encrypted namespace and then zeroes its slabs. -/
def execNsDelete (h : CcpHdr) (handle : Nat) (s : State) : Res :=
  .next (s.ccpSimple h 0x2A (some 6) fun t =>
    if jobEnded h then t.nsDeleted handle
    else t.sharedJob h 0x2A (t.nsDeleteStatus handle false) handle fun u =>
      (u.nsDeleting handle).when (!h.applied) fun v =>
        (v.nsSlabs handle).foldl (fun w q => w.orderDrives (w.memberSlots (w.ns handle).pool) 10 q) v)

/-- NS_DELETE_PLAIN (R500): a job that zeroes the slabs of a plain namespace. -/
def execNsDeletePlain (h : CcpHdr) (handle : Nat) (s : State) : Res :=
  .next (s.ccpSimple h 0x2B (some 7) fun t =>
    if jobEnded h then t.nsDeleted handle
    else t.sharedJob h 0x2B (t.nsDeleteStatus handle true) handle fun u =>
      (u.nsDeleting handle).when (!h.applied) fun v =>
        (v.nsSlabs handle).foldl (fun w q => w.orderDrives (w.memberSlots (w.ns handle).pool) 10 q) v)

/-- The status of a crypto-erase: an encrypted namespace, its zeroed entries durable in at least two directory copies (R337). -/
def State.eraseStatus (s : State) (handle copies : Nat) : Nat :=
  if 16384 ≤ handle then ccRange
  else if thas s.cipher.ns handle = false ∨ (s.ns handle).keying = 0 ∨ copies < 2 then ccState
  else 0

/-- CRYPTO_ERASE (R337): every key of the namespace is gone; `copies` directory copies hold the zeroed entries durably. -/
def execCryptoErase (h : CcpHdr) (handle copies : Nat) (s : State) : Res :=
  .next (s.ccpSimple h 0x2C (some 9) fun t =>
    t.sharedDo h 0x2C (t.eraseStatus handle copies) [handle] [] fun u => u.eraseNsKeys handle)

end Sys2Proof.Machine
end

