-- ==== Sys2Proof/Machine/Scheduling.lean ====
section
/-! DEFINITION. The meanings of the scheduling commands of the drive dispatch and background points (R338 to R345). -/
namespace Sys2Proof.Machine

/-- A drive can take a command of a kind: its port is UP and holds a free tag; for a background command, fewer than 1,024 background tags (R340). -/
def State.driveTakes (s : State) (slot : Nat) (background : Bool) : Bool :=
  let p := s.dport slot
  p.ready && p.freeTag.isSome && (!background || decide (p.backTags < p.backLimit))

/-- A read of the weighted group that the device shapers limit: every read but destage's (R345). -/
def deviceRead (it : QItem) : Bool := decide (it.cmd.op = 0) && decide (it.cmd.owner ≠ 2)

/-- Issue an item at drive dispatch: it leaves its queue, is charged and becomes visible to the drive (R341, R342, R345, R410). -/
def State.issueDrive (slot : Nat) (k : Option Nat) (it : QItem) (s : State) : State :=
  let t := s.issue 1 slot k it
  match k with
  | some 4 => t.visible it.cmd (some it.cls)
  | some c => (t.charge (shaperOfClass 1 c) it.cost).visible it.cmd none
  | none =>
    (((t.charge (shaperOfTenant 1 it.tenant) it.cost).when (deviceRead it) fun u => (u.deviceCharge 0 it.cost).deviceCharge 1 1)).visible it.cmd none

/-- DRIVE_DISPATCH (R339 to R341, R345): the first eligible item of the strict classes, then of the weighted group, then a command that the background point
has issued. -/
def execDriveDispatch (slot : Nat) (s : State) : Res :=
  bounded (decide (slot < 64))
    (let c := s.sched 1 slot
    if s.driveTakes slot false = false then s
    else
      match c.pickStrict fun k _ => s.shaperOk (shaperOfClass 1 k) with
      | some (k, it) => s.issueDrive slot (some k) it
      | none =>
        let ok (it : QItem) : Bool := !deviceRead it || (s.deviceOk 0 && s.deviceOk 1)
        match c.pickTenant fun t q => if s.shaperOk (shaperOfTenant 1 t) then q.candidates.find? ok else none with
        | some (_, it) => s.issueDrive slot none it
        | none =>
          match tget [] c.strict 4 with
          | it :: _ => if s.driveTakes slot true then s.issueDrive slot (some 4) it else s
          | [] => s)

/-- A background item is eligible (R340, R344): the background share of staging, 2 GiB, has room for it, and its class or group rate permits it. -/
def State.backEligible (s : State) (pool k : Nat) (it : QItem) : Bool :=
  decide (s.backStaging + it.cost ≤ 2 ^ 31) && s.shaperOk (shaperOfPool pool k)

/-- BACKGROUND_DISPATCH (R338, R339, R344): the first eligible item of the strict classes, then of the weighted group of sweeps; it goes on to its drive's
dispatch point. -/
def execBackgroundDispatch (pool : Nat) (s : State) : Res :=
  bounded (decide (pool < 8))
    (let c := s.sched 2 pool
    match c.pickStrict fun k it => s.backEligible pool k it with
    | some (k, it) => ((s.issue 2 pool (some k) it).charge (shaperOfPool pool k) it.cost).submitIssued k it
    | none =>
      match c.pickTenant fun t q => if s.shaperOk (shaperOfTenant 2 t) then q.items.head?.filter (s.backEligible pool 4) else none with
      | some (t, it) =>
        (((s.issue 2 pool none it).charge (shaperOfPool pool 4) it.cost).charge (shaperOfTenant 2 t) it.cost).submitIssued 4 it
      | none => s)

/-- SHAPER_SLOT_FIRE (R342): the shapers of a point parked in a wheel slot are examined: eligible where their tokens have reached 0, else parked again. -/
def execShaperSlotFire (point us : Nat) (s : State) : Res :=
  bounded (decide (point < 3))
    (s.qos.shapers.foldl (fun t e =>
      if e.1 / 8192 = point ∧ e.2.parked = some us then t.parkIf e.1 (e.2.tokensAt (t.shaperRate e.1) (t.shaperBurst e.1) t.now) else t) s)

end Sys2Proof.Machine
end

