-- ==== Sys2Proof/Machine/Tenants.lean ====
section
/-! DEFINITION. The commands of tenants, capsules, generations, delegation and the shelf key (R285 to R288, R313 to R317, R336, R524). -/
namespace Sys2Proof.Machine

/-! ### The tenant table (R311, R313) -/

/-- One entry of the tenant table. -/
def State.tenant (s : State) (t : Nat) : Tenant := tget {} s.enclave.tenants t

/-- An entry changes, in the store and in the directory copies of every pool: 32 entries in a directory block (R311). -/
def State.updTenant (t : Nat) (f : Tenant → Tenant) (s : State) : State :=
  let u := s.updEnclave fun e => { e with tenants := tmod {} t f e.tenants }
  (tkeys (u.layout.pools.filter fun p => decide (2 ≤ p.2.pState))).foldl (fun v n =>
    (v.journalUp n).foldl (fun w d => w.submit 0 { slot := d, op := 1, lba := 131074 + t / 32, blocks := 1, owner := 3 }) v) u

/-- The role 0x02 sessions of a tenant end (R489). -/
def State.endTenantSessions (t : Nat) (s : State) : State :=
  (tkeys (s.ccp.sessions.filter fun e => decide (e.2.role = 2) && decide (e.2.tenant = t))).foldl (fun u id => u.dropSession id) s

/-- The status of a request that names an existing tenant. -/
def State.tenantStatus (s : State) (t : Nat) : Nat := if 4095 < t then ccRange else if (s.tenant t).created = false then ccState else 0

/-- TENANT_CREATE (R313). -/
def execTenantCreate (h : CcpHdr) (tenant : Nat) (s : State) : Res :=
  .next (s.ccpSimple h 0x30 (some 10) fun t =>
    let code := if 4095 < tenant then ccRange else if (t.tenant tenant).created then ccState else 0
    t.sharedDo h 0x30 code [tenant] [] fun u => u.updTenant tenant fun _ => { created := true })

/-- TENANT_REMOVE (R336, R489, R524): the entry is zeroed, every TENANT namespace of the tenant crypto-erased, its sessions end and its delegation is
cleared. -/
def execTenantRemove (h : CcpHdr) (tenant : Nat) (s : State) : Res :=
  .next (s.ccpSimple h 0x31 (some 10) fun t =>
    t.sharedDo h 0x31 (t.tenantStatus tenant) [tenant] [] fun u =>
      let mine := tkeys (u.cipher.ns.filter fun n => decide (n.2.keying = 2) && decide (n.2.tenant = tenant))
      (((mine.foldl (fun v x => v.eraseNsKeys x) u).updTenant tenant fun _ => {}).endTenantSessions tenant).setWord (oid 13 5 tenant) 0)

/-- ENROL_OPEN (R313): the window of a tenant not yet enrolled opens. -/
def execEnrolOpen (h : CcpHdr) (tenant : Nat) (s : State) : Res :=
  .next (s.ccpSimple h 0x32 (some 10) fun t =>
    let code := if t.tenantStatus tenant ≠ 0 then t.tenantStatus tenant else if (t.tenant tenant).enrolled then ccCapsule else 0
    t.sharedDo h 0x32 code [tenant] [] fun u => u.updTenant tenant fun e => { e with windowOpen := true })

/-- The status of ENROL (R313, R488). -/
def State.enrolStatus (s : State) (tenant : Nat) : Nat :=
  if 4095 < tenant then ccRange
  else if s.fuses.maskTenant.toNat.testBit 11 = false then ccGroup
  else if (s.tenant tenant).windowOpen = false then ccCapsule
  else if s.enclave.shelfKey.isNone then ccState
  else 0

/-- A tenant is enrolled: the window closes (R313). -/
def Tenant.enrol (e : Tenant) (ttk tak : Nat) : Tenant :=
  { e with windowOpen := false, enrolled := true, enrolCount := (e.enrolCount + 1) % 2 ^ 32, ttk := ttk, tak := tak }

/-- ENROL (R310, R313, R488): an ephemeral key answers the tenant's, and TTK and TAK follow from both; they travel to the partner wrapped under
TENANT_KEK. The answer is signed by both alias keys. -/
def execEnrol (h : CcpHdr) (tenant pubKey : Nat) (s : State) : Res :=
  .next (s.ccpTake h 0x33 (some 11) (fun e => if e.role = 2 ∧ e.tenant ≠ tenant then ccTenant else 0) fun t =>
    let priv := t.drawn 384
    let pub := Config.pubKey priv
    let count := ((t.tenant tenant).enrolCount + 1) % 2 ^ 32
    let z := Config.shared priv pubKey
    let ctx := [tenant, count, Config.sha384 (leBytes 97 pubKey ++ leBytes 97 pub) / 2 ^ 256]
    let kek := Config.kdf (t.enclave.shelfKey.getD 0) 5 [tenant, count]
    let ttk := if h.applied then Config.unwrap kek (h.results.getD 0 0) else Config.kdf z 9 ctx
    let tak := if h.applied then Config.unwrap kek (h.results.getD 1 0) else Config.kdf z 10 ctx
    let body := [pub, tenant, count, t.enclave.shelfId]
    t.sharedDo h 0x33 (t.enrolStatus tenant) [tenant, Config.wrap kek ttk, Config.wrap kek tak]
      (leBytes 97 pub ++ leBytes 2 tenant ++ leBytes 4 count ++ leBytes 8 t.enclave.shelfId ++ t.aliasSign 1 body ++ t.aliasSign 2 body)
      fun u => u.draw.updTenant tenant fun e => e.enrol ttk tak)

/-! ### Capsules (R314, R315) -/

/-- The checks of a capsule of the kind that its row names: each failure is 0x0605 and changes no state. -/
def State.capsuleStatus (s : State) (kind : Nat) (c : Capsule) : Nat :=
  let e := s.tenant c.tenant
  if c.kind ≠ kind ∨ c.version ≠ 1 ∨ c.reservedZero = false ∨ e.enrolled = false ∨ c.macGood = false ∨ c.shelfId ≠ s.enclave.shelfId ∨
    c.seqNo ≤ e.capsuleSeq ∨ (kind = 6 ∧ c.handle ≠ 0xFFFF) then ccCapsule
  else if kind = 6 then 0
  else if thas s.cipher.ns c.handle = false ∨ (s.ns c.handle).keying ≠ 2 then ccState
  else if (s.ns c.handle).tenant ≠ c.tenant then ccTenant
  else 0

/-- CAPSULE_SEQ is stored (R314). -/
def State.capsuleTaken (c : Capsule) (s : State) : State := s.updTenant c.tenant fun e => { e with capsuleSeq := c.seqNo }

/-- The numbers of a capsule as they travel. -/
def capsuleArgs (c : Capsule) : List Nat := [c.kind, c.tenant, c.handle, c.gen, c.seqNo]

/-- A capsule in a session of its tenant: its checks, then those of its kind, then its effect (R314). -/
def State.capsule (h : CcpHdr) (kind : Nat) (c : Capsule) (more : State → Nat) (f : State → State) (results : State → List Nat) (s : State) : State :=
  s.ccpTake h 0x34 (some 11) (fun e => if e.role = 2 ∧ e.tenant = c.tenant then 0 else ccTenant) fun t =>
    let code := if t.capsuleStatus kind c ≠ 0 then t.capsuleStatus kind c else more t
    if t.sharedCut h then t.ccpFail h 0x34 ccPartner
    else if code ≠ 0 then t.ccpFail h 0x34 code
    else
      let u := (f t).capsuleTaken c
      u.sharedDone h 0x34 (capsuleArgs c ++ results u) []

/-- KEY_IMPORT (R285, R314): the tenant's key, as the next generation, PENDING. -/
def execKeyImport (h : CcpHdr) (cap : Capsule) (s : State) : Res :=
  .next (s.capsule h 1 cap
    (fun t => match (t.ns cap.handle).nextGen with
      | none => ccFull
      | some g => if t.enclave.shelfKey.isNone then ccState else if cap.unwrapGood = false ∨ g ≠ cap.gen then ccCapsule else 0)
    (fun t => if h.applied then t.putGen cap.handle cap.gen 2 (h.results.getD 0 0) (h.results.getD 1 0)
      else t.importGen cap.handle cap.gen (Config.unwrap (t.tenant cap.tenant).ttk cap.wrappedKey))
    (fun t => t.genResults cap.handle cap.gen))

/-- ATTACH (R315): the host's bit in NS_HOSTS_h, where its HOST_ENTRY is enabled, belongs to the tenant and matches the capsule. -/
def execAttach (h : CcpHdr) (cap : Capsule) (s : State) : Res :=
  .next (s.capsule h 2 cap
    (fun t =>
      let e := tget {} t.cmds.hosts cap.host
      if 8192 ≤ cap.host ∨ e.enable = false ∨ e.tenant ≠ cap.tenant ∨ e.hostid ≠ cap.hostid ∨ cap.nqnDigestGood = false then ccCapsule else 0)
    (fun t =>
      let w := tget 0 t.cmds.nsHosts (128 * cap.handle + cap.host / 64)
      t.setNsHosts cap.handle (cap.host / 64) (if cap.attachIt then Nat.lor w (2 ^ (cap.host % 64))
        else if w.testBit (cap.host % 64) then w - 2 ^ (cap.host % 64) else w))
    (fun _ => [cap.host, flag cap.attachIt]))

/-- The status of an activation by request: the generation is PENDING (R286). -/
def State.activateStatus (s : State) (h g : Nat) : Nat :=
  match tfind (s.ns h).gens g with
  | some k => if k.gState = 1 then 0 else ccState
  | none => ccState

/-- The status of a sweep by request: the generation is RETAINED; of the ACTIVE one the sweep is rejected (R288). -/
def State.sweepStatus (s : State) (h g : Nat) : Nat :=
  match tfind (s.ns h).gens g with
  | some k => if k.gState = 3 then 0 else ccState
  | none => ccState

/-- ACTIVATE (R286, R314). -/
def execActivate (h : CcpHdr) (cap : Capsule) (s : State) : Res :=
  .next (s.capsule h 3 cap (fun t => t.activateStatus cap.handle cap.gen) (fun t => (t.applyActivate cap.handle cap.gen).keyReady cap.handle) fun _ => [])

/-- SWEEP (R288, R314). -/
def execSweep (h : CcpHdr) (cap : Capsule) (s : State) : Res :=
  .next (s.capsule h 4 cap (fun t => t.sweepStatus cap.handle cap.gen) (fun t => t.sweepGen cap.handle cap.gen) fun _ => [])

/-- ERASE_NS (R314, R337). -/
def execEraseNs (h : CcpHdr) (cap : Capsule) (s : State) : Res :=
  .next (s.capsule h 5 cap (fun _ => 0) (fun t => t.eraseNsKeys cap.handle) fun _ => [])

/-- RE_ENROL (R313, R489): the window opens again; the tenant's sessions end once the reply has gone. -/
def execReEnrol (h : CcpHdr) (cap : Capsule) (s : State) : Res :=
  .next (s.ccpTake h 0x34 (some 11) (fun e => if e.role = 2 ∧ e.tenant = cap.tenant then 0 else ccTenant) fun t =>
    if t.sharedCut h then t.ccpFail h 0x34 ccPartner
    else if t.capsuleStatus 6 cap ≠ 0 then t.ccpFail h 0x34 (t.capsuleStatus 6 cap)
    else
      let u := (t.capsuleTaken cap).updTenant cap.tenant fun e => { e with windowOpen := true }
      let q := (tget {} u.pair.classes 1).nextSeq
      let v := u.sharedDone h 0x34 (capsuleArgs cap) []
      if thas v.ccp.owed q ∧ h.applied = false ∧ u.paired then v.updCcp fun c => { c with owed := tadj q (fun w => { w with ends := true }) c.owed }
      else v.endTenantSessions cap.tenant)

/-! ### Generations (R285 to R288) -/

/-- The status of a request on the generations of an enclave-keyed namespace. -/
def State.enclaveNsStatus (s : State) (h : Nat) : Nat :=
  if 16384 ≤ h then ccRange else if thas s.cipher.ns h = false ∨ (s.ns h).keying ≠ 1 then ccState else 0

/-- GEN_CREATE (R285): a new PENDING generation of an enclave-keyed namespace; the reply names it. -/
def execGenCreate (h : CcpHdr) (handle : Nat) (s : State) : Res :=
  .next (s.ccpSimple h 0x38 (some 8) fun t =>
    let base := if t.enclaveNsStatus handle ≠ 0 then t.enclaveNsStatus handle else if t.enclave.shelfKey.isNone then ccState else 0
    match (t.ns handle).nextGen with
    | none => t.sharedDo h 0x38 (if base = 0 then ccFull else base) [] [] id
    | some g =>
      if base = 0 ∧ t.sharedCut h = false then
        let u := if h.applied then t.putGen handle g 1 (h.results.getD 0 0) (h.results.getD 1 0) else t.deriveGen handle g
        u.sharedDone h 0x38 (handle :: g :: u.genResults handle g) (leBytes 1 g)
      else t.sharedDo h 0x38 base [] [] id)

/-- GEN_ACTIVATE (R286). -/
def execGenActivate (h : CcpHdr) (handle gen : Nat) (s : State) : Res :=
  .next (s.ccpSimple h 0x39 (some 8) fun t =>
    let base := t.enclaveNsStatus handle
    t.sharedDo h 0x39 (if base = 0 then t.activateStatus handle gen else base) [handle, gen] [] fun u => (u.applyActivate handle gen).keyReady handle)

/-- GEN_SWEEP (R288). -/
def execGenSweep (h : CcpHdr) (handle gen : Nat) (s : State) : Res :=
  .next (s.ccpSimple h 0x3A (some 8) fun t =>
    let base := t.enclaveNsStatus handle
    t.sharedDo h 0x3A (if base = 0 then t.sweepStatus handle gen else base) [handle, gen] [] fun u => u.sweepGen handle gen)

/-! ### The shelf key and delegation (R317, R524) -/

/-- SHELF_ROTATE (R317): a job; in M2 the new shelf key is drawn, in M3 the pair agrees it. -/
def execShelfRotate (h : CcpHdr) (s : State) : Res :=
  .next (s.ccpSimple h 0x3B (some 20) fun t =>
    let code := if t.modes.mode ≠ .m2 ∧ t.modes.mode ≠ .m3 then ccMode
      else if t.enclave.rotating ∨ t.jobRunning 0x3B then ccBusy
      else if t.enclave.shelfKey.isNone then ccState
      else 0
    t.localJob h 0x3B code 0 fun u => if u.paired then u.startExchange else (u.draw).startRotation (u.drawn 256))

/-- DELEGATE (R322, R524): bit 0 of the groups stands for group 7, bit 1 for group 8. -/
def execDelegate (h : CcpHdr) (tenant groups : Nat) (s : State) : Res :=
  .next (s.ccpSimple h 0x60 (some 19) fun t =>
    let code := if 4095 < tenant then ccRange else if 4 ≤ groups then ccReserved else 0
    t.sharedDo h 0x60 code [tenant, groups] [] fun u =>
      u.setWord (oid 13 5 tenant) (flag (groups.testBit 0) * 2 ^ 63 + flag (groups.testBit 1) * 2 ^ 62))

end Sys2Proof.Machine
end

