-- ==== Sys2Proof/Machine/Dispatch.lean ====
section
/-! DEFINITION. Which meaning each command has: one arm per constructor of Instr, each one direct call. -/
namespace Sys2Proof.Machine

def exec (i : Instr) (s : State) : Host.Outcome State Fault Refusal :=
  match i with
  | .flitArrival island flit crcGood => Sys2Proof.Machine.execFlitArrival island flit crcGood s
  | .islandIdleExpiry island => Sys2Proof.Machine.execIslandIdleExpiry island s
  | .arbiterGrant resource => Sys2Proof.Machine.execArbiterGrant resource s
  | .idleLevelTimer level => Sys2Proof.Machine.execIdleLevelTimer level s
  | .denEntryStart partnerIdle => Sys2Proof.Machine.execDenEntryStart partnerIdle s
  | .denCommitTimeout => Sys2Proof.Machine.execDenCommitTimeout s
  | .driveShutdownComplete slot => Sys2Proof.Machine.execDriveShutdownComplete slot s
  | .driveShutdownTimeout slot => Sys2Proof.Machine.execDriveShutdownTimeout slot s
  | .denCommit => Sys2Proof.Machine.execDenCommit s
  | .wakeFrame frame => Sys2Proof.Machine.execWakeFrame frame s
  | .denWakeTimerExpiry => Sys2Proof.Machine.execDenWakeTimerExpiry s
  | .settWakeInAssert => Sys2Proof.Machine.execSettWakeInAssert s
  | .setFeaturesPowerMgmt q ps => Sys2Proof.Machine.execSetFeaturesPowerMgmt q ps s
  | .powerStateEntryEnd => Sys2Proof.Machine.execPowerStateEntryEnd s
  | .frameReceive f => Sys2Proof.Machine.execFrameReceive f s
  | .pfcXoffRefresh port cls => Sys2Proof.Machine.execPfcXoffRefresh port cls s
  | .pfcFrameReceive port quanta enable => Sys2Proof.Machine.execPfcFrameReceive port quanta enable s
  | .pfcPauseExpiry port cls => Sys2Proof.Machine.execPfcPauseExpiry port cls s
  | .pfcWdTrip port cls => Sys2Proof.Machine.execPfcWdTrip port cls s
  | .pfcWdRestore port cls => Sys2Proof.Machine.execPfcWdRestore port cls s
  | .lldpReceive port => Sys2Proof.Machine.execLldpReceive port s
  | .lldpTransmit => Sys2Proof.Machine.execLldpTransmit s
  | .lacpduReceive port sync collecting distributing => Sys2Proof.Machine.execLacpduReceive port sync collecting distributing s
  | .lacpPeriodic lag => Sys2Proof.Machine.execLacpPeriodic lag s
  | .gateIntervalEnd port => Sys2Proof.Machine.execGateIntervalEnd port s
  | .egressDispatch port => Sys2Proof.Machine.execEgressDispatch port s
  | .frameTransmitEnd port item => Sys2Proof.Machine.execFrameTransmitEnd port item s
  | .portLinkUp port rate => Sys2Proof.Machine.execPortLinkUp port rate s
  | .portLinkDown port => Sys2Proof.Machine.execPortLinkDown port s
  | .bucketMoveCommit lag bucket => Sys2Proof.Machine.execBucketMoveCommit lag bucket s
  | .bucketMoveTimeout lag bucket => Sys2Proof.Machine.execBucketMoveTimeout lag bucket s
  | .stepWindowEnd lag => Sys2Proof.Machine.execStepWindowEnd lag s
  | .stepUpEval lag => Sys2Proof.Machine.execStepUpEval lag s
  | .stepPhaseTimeout lag => Sys2Proof.Machine.execStepPhaseTimeout lag s
  | .stepDrainComplete lag => Sys2Proof.Machine.execStepDrainComplete lag s
  | .attachRetryTimer lag => Sys2Proof.Machine.execAttachRetryTimer lag s
  | .cmDatagram m => Sys2Proof.Machine.execCmDatagram m s
  | .roceRequestPacket p => Sys2Proof.Machine.execRoceRequestPacket p s
  | .contextWritebackCommit index => Sys2Proof.Machine.execContextWritebackCommit index s
  | .contextFillComplete index crcGood => Sys2Proof.Machine.execContextFillComplete index crcGood s
  | .pushWritePacket index psn key addr bytes last ce => Sys2Proof.Machine.execPushWritePacket index psn key addr bytes last ce s
  | .roceAckReceive index psn kind => Sys2Proof.Machine.execRoceAckReceive index psn kind s
  | .roceReadResponse index slot bytes last => Sys2Proof.Machine.execRoceReadResponse index slot bytes last s
  | .roceCnpReceive index => Sys2Proof.Machine.execRoceCnpReceive index s
  | .roceAckTimeout index => Sys2Proof.Machine.execRoceAckTimeout index s
  | .roceRnrDelayEnd index => Sys2Proof.Machine.execRoceRnrDelayEnd index s
  | .tcpSynReceive y => Sys2Proof.Machine.execTcpSynReceive y s
  | .tcpSegmentReceive g => Sys2Proof.Machine.execTcpSegmentReceive g s
  | .icreqReceive index hpda hdgst ddgst => Sys2Proof.Machine.execIcreqReceive index hpda hdgst ddgst s
  | .h2cdataReceive index ttag bytes last hdrDigestGood dataDigestGood => Sys2Proof.Machine.execH2cdataReceive index ttag bytes last hdrDigestGood dataDigestGood s
  | .h2ctermreqReceive index => Sys2Proof.Machine.execH2ctermreqReceive index s
  | .tcpRtoExpiry index => Sys2Proof.Machine.execTcpRtoExpiry index s
  | .delayedAckTimer index => Sys2Proof.Machine.execDelayedAckTimer index s
  | .openingTimeout index => Sys2Proof.Machine.execOpeningTimeout index s
  | .drainingCloseTimeout index => Sys2Proof.Machine.execDrainingCloseTimeout index s
  | .quarantineEnd index => Sys2Proof.Machine.execQuarantineEnd index s
  | .pushHoldExpiry index window => Sys2Proof.Machine.execPushHoldExpiry index window s
  | .connect c => Sys2Proof.Machine.execConnect c s
  | .propertyGet q offset => Sys2Proof.Machine.execPropertyGet q offset s
  | .propertySet q offset value => Sys2Proof.Machine.execPropertySet q offset value s
  | .disconnect q => Sys2Proof.Machine.execDisconnect q s
  | .identify q cns nsid => Sys2Proof.Machine.execIdentify q cns nsid s
  | .getLogPage q lid nsid => Sys2Proof.Machine.execGetLogPage q lid nsid s
  | .setFeaturesArbitration q value save => Sys2Proof.Machine.execSetFeaturesArbitration q value save s
  | .setFeaturesNumQueues q value save => Sys2Proof.Machine.execSetFeaturesNumQueues q value save s
  | .setFeaturesWriteAtomicity q value save => Sys2Proof.Machine.execSetFeaturesWriteAtomicity q value save s
  | .setFeaturesAsyncEventCfg q value save => Sys2Proof.Machine.execSetFeaturesAsyncEventCfg q value save s
  | .setFeaturesPushWindows q qid count size => Sys2Proof.Machine.execSetFeaturesPushWindows q qid count size s
  | .getFeatures q fid select => Sys2Proof.Machine.execGetFeatures q fid select s
  | .abort q sqid cid => Sys2Proof.Machine.execAbort q sqid cid s
  | .asyncEventRequest q => Sys2Proof.Machine.execAsyncEventRequest q s
  | .keepAlive q => Sys2Proof.Machine.execKeepAlive q s
  | .keepAliveExpiry cntlid => Sys2Proof.Machine.execKeepAliveExpiry cntlid s
  | .commandCapsule c => Sys2Proof.Machine.execCommandCapsule c s
  | .read slot => Sys2Proof.Machine.execRead slot s
  | .write slot => Sys2Proof.Machine.execWrite slot s
  | .flush slot => Sys2Proof.Machine.execFlush slot s
  | .compare slot => Sys2Proof.Machine.execCompare slot s
  | .writeZeroes slot => Sys2Proof.Machine.execWriteZeroes slot s
  | .datasetManagement slot => Sys2Proof.Machine.execDatasetManagement slot s
  | .verify slot => Sys2Proof.Machine.execVerify slot s
  | .slotRelease slot => Sys2Proof.Machine.execSlotRelease slot s
  | .replayRecordExpiry rec => Sys2Proof.Machine.execReplayRecordExpiry rec s
  | .saturationSample dispatchShort worst p50 p99 => Sys2Proof.Machine.execSaturationSample dispatchShort worst p50 p99 s
  | .deferReleaseScan => Sys2Proof.Machine.execDeferReleaseScan s
  | .stampRequest r send => Sys2Proof.Machine.execStampRequest r send s
  | .stampReply slot stamp waits part moved lslots => Sys2Proof.Machine.execStampReply slot stamp waits part moved lslots s
  | .go slot part => Sys2Proof.Machine.execGo slot part s
  | .withdrawal slot handle slba => Sys2Proof.Machine.execWithdrawal slot handle slba s
  | .withdrawalReply slot withdrawn => Sys2Proof.Machine.execWithdrawalReply slot withdrawn s
  | .stampRecord slot stamp handle slba nlb send => Sys2Proof.Machine.execStampRecord slot stamp handle slba nlb send s
  | .stampRecordConfirmation slot => Sys2Proof.Machine.execStampRecordConfirmation slot s
  | .fenceExpiry => Sys2Proof.Machine.execFenceExpiry s
  | .readPinExpiry entry => Sys2Proof.Machine.execReadPinExpiry entry s
  | .autoBalanceMove partnerMoving => Sys2Proof.Machine.execAutoBalanceMove partnerMoving s
  | .leaseDrainComplete => Sys2Proof.Machine.execLeaseDrainComplete s
  | .leaseMoveTimeout => Sys2Proof.Machine.execLeaseMoveTimeout s
  | .leasePhase phase handle extNo target => Sys2Proof.Machine.execLeasePhase phase handle extNo target s
  | .handover v => Sys2Proof.Machine.execHandover v s
  | .epochRaise epoch => Sys2Proof.Machine.execEpochRaise epoch s
  | .larderSlotReserve => Sys2Proof.Machine.execLarderSlotReserve s
  | .larderPlacement slot => Sys2Proof.Machine.execLarderPlacement slot s
  | .mirrorRecord m => Sys2Proof.Machine.execMirrorRecord m s
  | .mirrorConfirmation slot => Sys2Proof.Machine.execMirrorConfirmation slot s
  | .release slots => Sys2Proof.Machine.execRelease slots s
  | .releaseBatchTimer => Sys2Proof.Machine.execReleaseBatchTimer s
  | .synchronisationCopy lslot => Sys2Proof.Machine.execSynchronisationCopy lslot s
  | .forwardedData m => Sys2Proof.Machine.execForwardedData m s
  | .placementConfirmation slot => Sys2Proof.Machine.execPlacementConfirmation slot s
  | .destagePick pool => Sys2Proof.Machine.execDestagePick pool s
  | .coalesceTimeout pool stripe => Sys2Proof.Machine.execCoalesceTimeout pool stripe s
  | .destageAgeExpiry lslot => Sys2Proof.Machine.execDestageAgeExpiry lslot s
  | .destageIntentDurable pool stripe reads => Sys2Proof.Machine.execDestageIntentDurable pool stripe reads s
  | .destageWritesComplete pool stripe failed => Sys2Proof.Machine.execDestageWritesComplete pool stripe failed s
  | .bitmapCleanTimer pool bit => Sys2Proof.Machine.execBitmapCleanTimer pool bit s
  | .journalBlock pool recs crcGood => Sys2Proof.Machine.execJournalBlock pool recs crcGood s
  | .journalDriveReplace pool slot copies => Sys2Proof.Machine.execJournalDriveReplace pool slot copies s
  | .bothFeedsLost => Sys2Proof.Machine.execBothFeedsLost s
  | .holdupComplete => Sys2Proof.Machine.execHoldupComplete s
  | .missingWaitExpiry pool slot => Sys2Proof.Machine.execMissingWaitExpiry pool slot s
  | .rebuildStripe pool stripe reads => Sys2Proof.Machine.execRebuildStripe pool stripe reads s
  | .resyncRowGroup pool slot bit reads => Sys2Proof.Machine.execResyncRowGroup pool slot bit reads s
  | .copybackRow pool slot row reads => Sys2Proof.Machine.execCopybackRow pool slot row reads s
  | .stripeLockGrant pool stripe => Sys2Proof.Machine.execStripeLockGrant pool stripe s
  | .reshapeStep pool reads => Sys2Proof.Machine.execReshapeStep pool reads s
  | .badgerStripe pool stripe reads => Sys2Proof.Machine.execBadgerStripe pool stripe reads s
  | .sweepStart handle gen => Sys2Proof.Machine.execSweepStart handle gen s
  | .keyUnwrapComplete handle gen => Sys2Proof.Machine.execKeyUnwrapComplete handle gen s
  | .ctrStepDurable handle gen => Sys2Proof.Machine.execCtrStepDurable handle gen s
  | .generationActivation handle gen what => Sys2Proof.Machine.execGenerationActivation handle gen what s
  | .dupWindow mismatch badKat suspects => Sys2Proof.Machine.execDupWindow mismatch badKat suspects s
  | .knownAnswerCheck badRealigners badEngines => Sys2Proof.Machine.execKnownAnswerCheck badRealigners badEngines s
  | .securityFault code => Sys2Proof.Machine.execSecurityFault code s
  | .keyErasure => Sys2Proof.Machine.execKeyErasure s
  | .debugAccessAttempt => Sys2Proof.Machine.execDebugAccessAttempt s
  | .coreLockstepMismatch pair => Sys2Proof.Machine.execCoreLockstepMismatch pair s
  | .keyDerivationComplete handle => Sys2Proof.Machine.execKeyDerivationComplete handle s
  | .driveDispatch slot => Sys2Proof.Machine.execDriveDispatch slot s
  | .backgroundDispatch pool => Sys2Proof.Machine.execBackgroundDispatch pool s
  | .shaperSlotFire point us => Sys2Proof.Machine.execShaperSlotFire point us s
  | .settAckReceive cls ack => Sys2Proof.Machine.execSettAckReceive cls ack s
  | .settResendTimeout cls seqNo => Sys2Proof.Machine.execSettResendTimeout cls seqNo s
  | .settAlignmentLoss bundle => Sys2Proof.Machine.execSettAlignmentLoss bundle s
  | .owlBeatTimer => Sys2Proof.Machine.execOwlBeatTimer s
  | .beat b => Sys2Proof.Machine.execBeat b s
  | .partnerSilenceExpiry => Sys2Proof.Machine.execPartnerSilenceExpiry s
  | .settSilenceExpiry => Sys2Proof.Machine.execSettSilenceExpiry s
  | .networkSilenceExpiry => Sys2Proof.Machine.execNetworkSilenceExpiry s
  | .cutLinkNotice => Sys2Proof.Machine.execCutLinkNotice s
  | .quorumWindowExpiry => Sys2Proof.Machine.execQuorumWindowExpiry s
  | .takeoverClaim => Sys2Proof.Machine.execTakeoverClaim s
  | .connectionAdopt index => Sys2Proof.Machine.execConnectionAdopt index s
  | .hello m => Sys2Proof.Machine.execHello m s
  | .evidence e => Sys2Proof.Machine.execEvidence e s
  | .keyExchange k => Sys2Proof.Machine.execKeyExchange k s
  | .synchronisationEnd block => Sys2Proof.Machine.execSynchronisationEnd block s
  | .connectionShadow index shadow => Sys2Proof.Machine.execConnectionShadow index shadow s
  | .positionUpdate index msn rcvPos sndPos => Sys2Proof.Machine.execPositionUpdate index msn rcvPos sndPos s
  | .commandShadow slot shadow => Sys2Proof.Machine.execCommandShadow slot shadow s
  | .stampUpdate slot stamp send => Sys2Proof.Machine.execStampUpdate slot stamp send s
  | .sendRecord slot send => Sys2Proof.Machine.execSendRecord slot send s
  | .commandEnd slot rec => Sys2Proof.Machine.execCommandEnd slot rec s
  | .fabricControllerShadow cntlid fab => Sys2Proof.Machine.execFabricControllerShadow cntlid fab s
  | .pushShadow index count size => Sys2Proof.Machine.execPushShadow index count size s
  | .settLinkUp bundle => Sys2Proof.Machine.execSettLinkUp bundle s
  | .drivePortBringup slot => Sys2Proof.Machine.execDrivePortBringup slot s
  | .driveEnumStepComplete slot info => Sys2Proof.Machine.execDriveEnumStepComplete slot info s
  | .driveEnumStepTimeout slot => Sys2Proof.Machine.execDriveEnumStepTimeout slot s
  | .driveInboundRequest slot write addr len => Sys2Proof.Machine.execDriveInboundRequest slot write addr len s
  | .driveCompletion slot tag cpl => Sys2Proof.Machine.execDriveCompletion slot tag cpl s
  | .driveDeadlineScan slot => Sys2Proof.Machine.execDriveDeadlineScan slot s
  | .driveStallExpiry slot => Sys2Proof.Machine.execDriveStallExpiry slot s
  | .cstsPoll slot cfs => Sys2Proof.Machine.execCstsPoll slot cfs s
  | .pcieReadTimeout slot => Sys2Proof.Machine.execPcieReadTimeout slot s
  | .driveUncorrError slot => Sys2Proof.Machine.execDriveUncorrError slot s
  | .driveLinkDown slot => Sys2Proof.Machine.execDriveLinkDown slot s
  | .driveCorrError slot => Sys2Proof.Machine.execDriveCorrError slot s
  | .releasePerstEnd slot => Sys2Proof.Machine.execReleasePerstEnd slot s
  | .driveL1Idle slot => Sys2Proof.Machine.execDriveL1Idle slot s
  | .reservationWaitExpiry slot held => Sys2Proof.Machine.execReservationWaitExpiry slot held s
  | .slotPresenceAssert slot => Sys2Proof.Machine.execSlotPresenceAssert slot s
  | .slotSeated slot => Sys2Proof.Machine.execSlotSeated slot s
  | .slotPresenceLost slot => Sys2Proof.Machine.execSlotPresenceLost slot s
  | .slotSample slot current vOut vBus limiter => Sys2Proof.Machine.execSlotSample slot current vOut vBus limiter s
  | .slotFaultTimer slot => Sys2Proof.Machine.execSlotFaultTimer slot s
  | .slotOvercurrentTimer slot => Sys2Proof.Machine.execSlotOvercurrentTimer slot s
  | .slotTrip slot => Sys2Proof.Machine.execSlotTrip slot s
  | .slotCooldownEnd slot => Sys2Proof.Machine.execSlotCooldownEnd slot s
  | .slotEmptyClear slot => Sys2Proof.Machine.execSlotEmptyClear slot s
  | .slotPoweredClear slot => Sys2Proof.Machine.execSlotPoweredClear slot s
  | .drvPerstDeassert slot => Sys2Proof.Machine.execDrvPerstDeassert slot s
  | .followerGateClose slot => Sys2Proof.Machine.execFollowerGateClose slot s
  | .cycleOffEnd slot => Sys2Proof.Machine.execCycleOffEnd slot s
  | .feedLoss feed volt => Sys2Proof.Machine.execFeedLoss feed volt s
  | .feedReverseCurrent feed => Sys2Proof.Machine.execFeedReverseCurrent feed s
  | .feedGood feed volt => Sys2Proof.Machine.execFeedGood feed volt s
  | .estoreTestStart vNow => Sys2Proof.Machine.execEstoreTestStart vNow s
  | .estoreTestMeasureEnd cMeas esrMeas => Sys2Proof.Machine.execEstoreTestMeasureEnd cMeas esrMeas s
  | .estoreTestTimeout => Sys2Proof.Machine.execEstoreTestTimeout s
  | .estoreChargeTimeout => Sys2Proof.Machine.execEstoreChargeTimeout s
  | .estoreOverCeiling vNow => Sys2Proof.Machine.execEstoreOverCeiling vNow s
  | .larderLimitRecompute vNow rate => Sys2Proof.Machine.execLarderLimitRecompute vNow rate s
  | .partnerNcoverPoll ncover => Sys2Proof.Machine.execPartnerNcoverPoll ncover s
  | .eyeSample heights => Sys2Proof.Machine.execEyeSample heights s
  | .hbmCeSample counts => Sys2Proof.Machine.execHbmCeSample counts s
  | .driveRiskSample latency => Sys2Proof.Machine.execDriveRiskSample latency s
  | .fuseMarginCheck belowHalf failed => Sys2Proof.Machine.execFuseMarginCheck belowHalf failed s
  | .lpPerstAssert => Sys2Proof.Machine.execLpPerstAssert s
  | .lpPerstDeassert => Sys2Proof.Machine.execLpPerstDeassert s
  | .lpBmeClear => Sys2Proof.Machine.execLpBmeClear s
  | .lpD3hotEntry => Sys2Proof.Machine.execLpD3hotEntry s
  | .lpCcEnable adminSq adminCq intMode vectors relaxed ltr maxSnoop => Sys2Proof.Machine.execLpCcEnable adminSq adminCq intMode vectors relaxed ltr maxSnoop s
  | .lpCcDisable => Sys2Proof.Machine.execLpCcDisable s
  | .lpCcShutdown shn => Sys2Proof.Machine.execLpCcShutdown shn s
  | .lpDoorbell qid isCq value => Sys2Proof.Machine.execLpDoorbell qid isCq value s
  | .lpBarBadAccess => Sys2Proof.Machine.execLpBarBadAccess s
  | .lpMboxDoorbell len irqEn vector => Sys2Proof.Machine.execLpMboxDoorbell len irqEn vector s
  | .lpVectorUnmask vector => Sys2Proof.Machine.execLpVectorUnmask vector s
  | .lpUncorrError => Sys2Proof.Machine.execLpUncorrError s
  | .lpHotReset => Sys2Proof.Machine.execLpHotReset s
  | .lpLinkDown => Sys2Proof.Machine.execLpLinkDown s
  | .lpAutoRelease => Sys2Proof.Machine.execLpAutoRelease s
  | .lpIdleTimer => Sys2Proof.Machine.execLpIdleTimer s
  | .lpLtrHoldEnd => Sys2Proof.Machine.execLpLtrHoldEnd s
  | .localLinkUp speed width => Sys2Proof.Machine.execLocalLinkUp speed width s
  | .hostMemoryReadCompletion qid cmds slot bytes => Sys2Proof.Machine.execHostMemoryReadCompletion qid cmds slot bytes s
  | .ccpPacketDiscard transport => Sys2Proof.Machine.execCcpPacketDiscard transport s
  | .getInfo h => Sys2Proof.Machine.execGetInfo h s
  | .sessionOpen h role tenant nonce pubKey chainGood => Sys2Proof.Machine.execSessionOpen h role tenant nonce pubKey chainGood s
  | .sessionAuth h credGood => Sys2Proof.Machine.execSessionAuth h credGood s
  | .sessionAuthTimeout session => Sys2Proof.Machine.execSessionAuthTimeout session s
  | .sessionHoldoffEnd transport => Sys2Proof.Machine.execSessionHoldoffEnd transport s
  | .sessionClose h => Sys2Proof.Machine.execSessionClose h s
  | .sessionIdleExpiry session => Sys2Proof.Machine.execSessionIdleExpiry session s
  | .nop h => Sys2Proof.Machine.execNop h s
  | .getEvidence h nonce => Sys2Proof.Machine.execGetEvidence h nonce s
  | .getCert h certSlot => Sys2Proof.Machine.execGetCert h certSlot s
  | .spdmGetVersion src => Sys2Proof.Machine.execSpdmGetVersion src s
  | .spdmGetCapabilities src => Sys2Proof.Machine.execSpdmGetCapabilities src s
  | .spdmNegotiateAlgorithms src sha384 => Sys2Proof.Machine.execSpdmNegotiateAlgorithms src sha384 s
  | .spdmGetDigests src => Sys2Proof.Machine.execSpdmGetDigests src s
  | .spdmGetCertificate src certSlot offset length => Sys2Proof.Machine.execSpdmGetCertificate src certSlot offset length s
  | .spdmChallenge src certSlot nonce => Sys2Proof.Machine.execSpdmChallenge src certSlot nonce s
  | .spdmGetMeasurements src index nonce => Sys2Proof.Machine.execSpdmGetMeasurements src index nonce s
  | .nvmeMiCommand mi => Sys2Proof.Machine.execNvmeMiCommand mi s
  | .eventSubscribe h mask => Sys2Proof.Machine.execEventSubscribe h mask s
  | .readLong h offset => Sys2Proof.Machine.execReadLong h offset s
  | .readObj h obj offset length => Sys2Proof.Machine.execReadObj h obj offset length s
  | .writeObj h obj offset bytes => Sys2Proof.Machine.execWriteObj h obj offset bytes s
  | .stage h offset bytes => Sys2Proof.Machine.execStage h offset bytes s
  | .cvuClaim h alg => Sys2Proof.Machine.execCvuClaim h alg s
  | .cvuFeed h unit bytes => Sys2Proof.Machine.execCvuFeed h unit bytes s
  | .cvuRelease h unit => Sys2Proof.Machine.execCvuRelease h unit s
  | .cvuInit h unit alg => Sys2Proof.Machine.execCvuInit h unit alg s
  | .poolCreate h pool => Sys2Proof.Machine.execPoolCreate h pool s
  | .poolDelete h pool => Sys2Proof.Machine.execPoolDelete h pool s
  | .driveFormat h slot => Sys2Proof.Machine.execDriveFormat h slot s
  | .nsCreate h desc => Sys2Proof.Machine.execNsCreate h desc s
  | .nsCreatePlain h desc => Sys2Proof.Machine.execNsCreatePlain h desc s
  | .nsDelete h handle => Sys2Proof.Machine.execNsDelete h handle s
  | .nsDeletePlain h handle => Sys2Proof.Machine.execNsDeletePlain h handle s
  | .cryptoErase h handle copies => Sys2Proof.Machine.execCryptoErase h handle copies s
  | .tenantCreate h tenant => Sys2Proof.Machine.execTenantCreate h tenant s
  | .tenantRemove h tenant => Sys2Proof.Machine.execTenantRemove h tenant s
  | .enrolOpen h tenant => Sys2Proof.Machine.execEnrolOpen h tenant s
  | .enrol h tenant pubKey => Sys2Proof.Machine.execEnrol h tenant pubKey s
  | .keyImport h cap => Sys2Proof.Machine.execKeyImport h cap s
  | .attach h cap => Sys2Proof.Machine.execAttach h cap s
  | .activate h cap => Sys2Proof.Machine.execActivate h cap s
  | .sweep h cap => Sys2Proof.Machine.execSweep h cap s
  | .eraseNs h cap => Sys2Proof.Machine.execEraseNs h cap s
  | .reEnrol h cap => Sys2Proof.Machine.execReEnrol h cap s
  | .genCreate h handle => Sys2Proof.Machine.execGenCreate h handle s
  | .genActivate h handle gen => Sys2Proof.Machine.execGenActivate h handle gen s
  | .genSweep h handle gen => Sys2Proof.Machine.execGenSweep h handle gen s
  | .shelfRotate h => Sys2Proof.Machine.execShelfRotate h s
  | .fwLoad h offset bytes => Sys2Proof.Machine.execFwLoad h offset bytes s
  | .fwCommit h length image => Sys2Proof.Machine.execFwCommit h length image s
  | .rollbackAdvance h count => Sys2Proof.Machine.execRollbackAdvance h count s
  | .reset h => Sys2Proof.Machine.execReset h s
  | .diagRun h test => Sys2Proof.Machine.execDiagRun h test s
  | .lifecycleStep h target prov => Sys2Proof.Machine.execLifecycleStep h target prov s
  | .rootBirth h => Sys2Proof.Machine.execRootBirth h s
  | .unlockChallenge h => Sys2Proof.Machine.execUnlockChallenge h s
  | .debugUnlock h token => Sys2Proof.Machine.execDebugUnlock h token s
  | .lockdownClear h => Sys2Proof.Machine.execLockdownClear h s
  | .delegate h tenant groups => Sys2Proof.Machine.execDelegate h tenant groups s
  | .jobComplete job status => Sys2Proof.Machine.execJobComplete job status s
  | .bwWindowWrite h port windowUs => Sys2Proof.Machine.execBwWindowWrite h port windowUs s
  | .bwWindowEnd port => Sys2Proof.Machine.execBwWindowEnd port s
  | .ccpRelay packet => Sys2Proof.Machine.execCcpRelay packet s
  | .contain h slot => Sys2Proof.Machine.execContain h slot s
  | .drivePortRelease h slot => Sys2Proof.Machine.execDrivePortRelease h slot s
  | .clearRetry h slot => Sys2Proof.Machine.execClearRetry h slot s
  | .cycle h slot => Sys2Proof.Machine.execCycle h slot s
  | .freeze h => Sys2Proof.Machine.execFreeze h s
  | .localPortRelease h => Sys2Proof.Machine.execLocalPortRelease h s
  | .leaseMove h value => Sys2Proof.Machine.execLeaseMove h value s
  | .memberFail h slot => Sys2Proof.Machine.execMemberFail h slot s
  | .reshapeStart h pool => Sys2Proof.Machine.execReshapeStart h pool s
  | .reshapePause h pool => Sys2Proof.Machine.execReshapePause h pool s
  | .shaperConfigWrite h obj value => Sys2Proof.Machine.execShaperConfigWrite h obj value s
  | .meterConfigWrite h obj value => Sys2Proof.Machine.execMeterConfigWrite h obj value s
  | .estoreCfgWrite h bytes => Sys2Proof.Machine.execEstoreCfgWrite h bytes s
  | .unpair h leaving => Sys2Proof.Machine.execUnpair h leaving s
  | .retirePartner h => Sys2Proof.Machine.execRetirePartner h s
  | .quorumOverride h force blocks => Sys2Proof.Machine.execQuorumOverride h force blocks s
  | .alwaysOnSupplyRise strapIdx strapTest => Sys2Proof.Machine.execAlwaysOnSupplyRise strapIdx strapTest s
  | .alwaysOnSupplyLoss => Sys2Proof.Machine.execAlwaysOnSupplyLoss s
  | .hbmPgAssert => Sys2Proof.Machine.execHbmPgAssert s
  | .corePgAssert fuses restore => Sys2Proof.Machine.execCorePgAssert fuses restore s
  | .powerGoodTimeout => Sys2Proof.Machine.execPowerGoodTimeout s
  | .powerRetryTimer => Sys2Proof.Machine.execPowerRetryTimer s
  | .resetNAssert => Sys2Proof.Machine.execResetNAssert s
  | .resetNRise strapIdx strapTest => Sys2Proof.Machine.execResetNRise strapIdx strapTest s
  | .railExcursion rail => Sys2Proof.Machine.execRailExcursion rail s
  | .clockFault => Sys2Proof.Machine.execClockFault s
  | .internalFault => Sys2Proof.Machine.execInternalFault s
  | .controlWatchdogExpiry => Sys2Proof.Machine.execControlWatchdogExpiry s
  | .hbmTrainingComplete good => Sys2Proof.Machine.execHbmTrainingComplete good s
  | .resetWipeComplete selfTestGood => Sys2Proof.Machine.execResetWipeComplete selfTestGood s
  | .imageLoadComplete slotB image => Sys2Proof.Machine.execImageLoadComplete slotB image s
  | .firmwareStartTimeout => Sys2Proof.Machine.execFirmwareStartTimeout s
  | .importStart pools conf quorum => Sys2Proof.Machine.execImportStart pools conf quorum s
  | .modeDecision => Sys2Proof.Machine.execModeDecision s
  | .pairWaitExpiry blocks => Sys2Proof.Machine.execPairWaitExpiry blocks s
  | .configImageWrite => Sys2Proof.Machine.execConfigImageWrite s
  | .cpmSample slackPs avsAcked => Sys2Proof.Machine.execCpmSample slackPs avsAcked s
  | .avsRetryTimer acked => Sys2Proof.Machine.execAvsRetryTimer acked s
  | .thermalSample dieTemps stackTemps => Sys2Proof.Machine.execThermalSample dieTemps stackTemps s
  | .timeSample partnerNs => Sys2Proof.Machine.execTimeSample partnerNs s

end Sys2Proof.Machine
end

