-- ==== Sys2Proof/Machine/Step.lean ====
section
/-! DEFINITION. One step: the command at the front of the queue runs with the queue's rest. -/
namespace Sys2Proof.Machine

/-- The length of one clock of the controller time base, 40 ns (R544). -/
def tickNs : Nat := 40

/-- One step (log 1): the command at the front of the queue runs on the state with the queue's rest; on an empty queue the
time base advances by one clock, and nothing else changes. -/
def step (s : State) : Host.Outcome State Fault Refusal :=
  match s.pending with
  | [] => .next (s.updDen fun d => { d with timeNs := d.timeNs + tickNs })
  | c :: rest => exec c (s.updPending fun _ => rest)

/-- The state with the command that a word spells put at the front of its queue; unchanged where it spells none. -/
def State.withFetchWord (s : State) (nbits w : Nat) : State :=
  match decodeTableWord nbits w with
  | some c => s.updPending fun p => c :: p
  | none => s

end Sys2Proof.Machine
end

