-- ==== Sys2Proof/WellFormed.lean ====
section
/-! DEFINITION. Which commands are well formed: every operand that names a unit names one the hardware has,
and every operand that is a field of a packet fits the field. -/
namespace Sys2Proof

/-- A command is well formed when its operands lie within the widths and unit counts of the spec (R5, R402, R499). -/
def wellFormed (c : Instr) : Bool :=
  match c with
  | .flitArrival island _ _ => decide (island < 16)
  | .islandIdleExpiry island => decide (island < 16)
  | .arbiterGrant resource => decide (resource < 22)
  | .idleLevelTimer level => decide (level < 4)
  | .denEntryStart _ => true
  | .denCommitTimeout => true
  | .driveShutdownComplete slot => decide (slot < 64)
  | .driveShutdownTimeout slot => decide (slot < 64)
  | .denCommit => true
  | .wakeFrame _ => true
  | .denWakeTimerExpiry => true
  | .settWakeInAssert => true
  | .setFeaturesPowerMgmt _ ps => decide (ps < 32)
  | .powerStateEntryEnd => true
  | .frameReceive f => decide (f.port < 16)
  | .pfcXoffRefresh port cls => decide (port < 16) && decide (cls < 8)
  | .pfcFrameReceive port _ enable => decide (port < 16) && decide (enable < 256)
  | .pfcPauseExpiry port cls => decide (port < 16) && decide (cls < 8)
  | .pfcWdTrip port cls => decide (port < 16) && decide (cls < 8)
  | .pfcWdRestore port cls => decide (port < 16) && decide (cls < 8)
  | .lldpReceive port => decide (port < 16)
  | .lldpTransmit => true
  | .lacpduReceive port _ _ _ => decide (port < 16)
  | .lacpPeriodic lag => decide (lag < 8)
  | .gateIntervalEnd port => decide (port < 16)
  | .egressDispatch port => decide (port < 16)
  | .frameTransmitEnd port _ => decide (port < 16)
  | .portLinkUp port _ => decide (port < 16)
  | .portLinkDown port => decide (port < 16)
  | .bucketMoveCommit lag bucket => decide (lag < 8) && decide (bucket < 256)
  | .bucketMoveTimeout lag bucket => decide (lag < 8) && decide (bucket < 256)
  | .stepWindowEnd lag => decide (lag < 8)
  | .stepUpEval lag => decide (lag < 8)
  | .stepPhaseTimeout lag => decide (lag < 8)
  | .stepDrainComplete lag => decide (lag < 8)
  | .attachRetryTimer lag => decide (lag < 8)
  | .cmDatagram _ => true
  | .roceRequestPacket _ => true
  | .contextWritebackCommit index => decide (index < 2097152)
  | .contextFillComplete index _ => decide (index < 2097152)
  | .pushWritePacket index psn key _ _ _ _ => decide (index < 2097152) && decide (psn < 16777216) && decide (key < 4294967296)
  | .roceAckReceive index psn kind => decide (index < 2097152) && decide (psn < 16777216) && decide (kind < 4)
  | .roceReadResponse index slot _ _ => decide (index < 2097152) && decide (slot < 262144)
  | .roceCnpReceive index => decide (index < 2097152)
  | .roceAckTimeout index => decide (index < 2097152)
  | .roceRnrDelayEnd index => decide (index < 2097152)
  | .tcpSynReceive _ => true
  | .tcpSegmentReceive _ => true
  | .icreqReceive index hpda _ _ => decide (index < 2097152) && decide (hpda < 256)
  | .h2cdataReceive index ttag _ _ _ _ => decide (index < 2097152) && decide (ttag < 65536)
  | .h2ctermreqReceive index => decide (index < 2097152)
  | .tcpRtoExpiry index => decide (index < 2097152)
  | .delayedAckTimer index => decide (index < 2097152)
  | .openingTimeout index => decide (index < 2097152)
  | .drainingCloseTimeout index => decide (index < 2097152)
  | .quarantineEnd index => decide (index < 2097152)
  | .pushHoldExpiry index window => decide (index < 2097152) && decide (window < 64)
  | .connect _ => true
  | .propertyGet _ _ => true
  | .propertySet _ _ _ => true
  | .disconnect _ => true
  | .identify _ cns _ => decide (cns < 256)
  | .getLogPage _ lid _ => decide (lid < 256)
  | .setFeaturesArbitration _ _ _ => true
  | .setFeaturesNumQueues _ _ _ => true
  | .setFeaturesWriteAtomicity _ _ _ => true
  | .setFeaturesAsyncEventCfg _ _ _ => true
  | .setFeaturesPushWindows _ qid count size => decide (qid < 65536) && decide (count < 256) && decide (size < 256)
  | .getFeatures _ fid select => decide (fid < 256) && decide (select < 8)
  | .abort _ sqid cid => decide (sqid < 65536) && decide (cid < 65536)
  | .asyncEventRequest _ => true
  | .keepAlive _ => true
  | .keepAliveExpiry cntlid => decide (cntlid < 32769)
  | .commandCapsule _ => true
  | .read slot => decide (slot < 262144)
  | .write slot => decide (slot < 262144)
  | .flush slot => decide (slot < 262144)
  | .compare slot => decide (slot < 262144)
  | .writeZeroes slot => decide (slot < 262144)
  | .datasetManagement slot => decide (slot < 262144)
  | .verify slot => decide (slot < 262144)
  | .slotRelease slot => decide (slot < 262144)
  | .replayRecordExpiry rec => decide (rec < 4194304)
  | .saturationSample _ worst _ _ => decide (worst < 4096)
  | .deferReleaseScan => true
  | .stampRequest _ _ => true
  | .stampReply slot _ _ part _ _ => decide (slot < 262144) && decide (part < 3)
  | .go slot part => decide (slot < 262144) && decide (part < 2)
  | .withdrawal slot handle _ => decide (slot < 262144) && decide (handle < 16384)
  | .withdrawalReply slot _ => decide (slot < 262144)
  | .stampRecord slot _ handle _ _ _ => decide (slot < 262144) && decide (handle < 16384)
  | .stampRecordConfirmation slot => decide (slot < 262144)
  | .fenceExpiry => true
  | .readPinExpiry entry => decide (entry < 262144)
  | .autoBalanceMove _ => true
  | .leaseDrainComplete => true
  | .leaseMoveTimeout => true
  | .leasePhase phase handle extNo target => decide (phase < 4) && decide (handle < 16384) && decide (extNo < 4194304) && decide (target < 2)
  | .handover _ => true
  | .epochRaise epoch => decide (epoch < 16777216)
  | .larderSlotReserve => true
  | .larderPlacement slot => decide (slot < 262144)
  | .mirrorRecord _ => true
  | .mirrorConfirmation slot => decide (slot < 262144)
  | .release _ => true
  | .releaseBatchTimer => true
  | .synchronisationCopy lslot => decide (lslot < 16384000)
  | .forwardedData _ => true
  | .placementConfirmation slot => decide (slot < 262144)
  | .destagePick pool => decide (pool < 8)
  | .coalesceTimeout pool _ => decide (pool < 8)
  | .destageAgeExpiry lslot => decide (lslot < 16384000)
  | .destageIntentDurable pool _ _ => decide (pool < 8)
  | .destageWritesComplete pool _ _ => decide (pool < 8)
  | .bitmapCleanTimer pool _ => decide (pool < 8)
  | .journalBlock pool _ _ => decide (pool < 8)
  | .journalDriveReplace pool slot _ => decide (pool < 8) && decide (slot < 64)
  | .bothFeedsLost => true
  | .holdupComplete => true
  | .missingWaitExpiry pool slot => decide (pool < 8) && decide (slot < 64)
  | .rebuildStripe pool _ _ => decide (pool < 8)
  | .resyncRowGroup pool slot _ _ => decide (pool < 8) && decide (slot < 64)
  | .copybackRow pool slot _ _ => decide (pool < 8) && decide (slot < 64)
  | .stripeLockGrant pool _ => decide (pool < 8)
  | .reshapeStep pool _ => decide (pool < 8)
  | .badgerStripe pool _ _ => decide (pool < 8)
  | .sweepStart handle gen => decide (handle < 16384) && decide (gen < 256)
  | .keyUnwrapComplete handle gen => decide (handle < 16384) && decide (gen < 256)
  | .ctrStepDurable handle gen => decide (handle < 16384) && decide (gen < 256)
  | .generationActivation handle gen what => decide (handle < 16384) && decide (gen < 256) && decide (what < 3)
  | .dupWindow _ _ _ => true
  | .knownAnswerCheck _ _ => true
  | .securityFault code => decide (code < 256)
  | .keyErasure => true
  | .debugAccessAttempt => true
  | .coreLockstepMismatch pair => decide (pair < 12)
  | .keyDerivationComplete handle => decide (handle < 16384)
  | .driveDispatch slot => decide (slot < 64)
  | .backgroundDispatch pool => decide (pool < 8)
  | .shaperSlotFire point _ => decide (point < 3)
  | .settAckReceive cls _ => decide (cls < 6)
  | .settResendTimeout cls _ => decide (cls < 6)
  | .settAlignmentLoss bundle => decide (bundle < 2)
  | .owlBeatTimer => true
  | .beat _ => true
  | .partnerSilenceExpiry => true
  | .settSilenceExpiry => true
  | .networkSilenceExpiry => true
  | .cutLinkNotice => true
  | .quorumWindowExpiry => true
  | .takeoverClaim => true
  | .connectionAdopt index => decide (index < 2097152)
  | .hello _ => true
  | .evidence _ => true
  | .keyExchange _ => true
  | .synchronisationEnd _ => true
  | .connectionShadow index _ => decide (index < 2097152)
  | .positionUpdate index _ _ _ => decide (index < 2097152)
  | .commandShadow slot _ => decide (slot < 262144)
  | .stampUpdate slot _ _ => decide (slot < 262144)
  | .sendRecord slot _ => decide (slot < 262144)
  | .commandEnd slot _ => decide (slot < 262144)
  | .fabricControllerShadow cntlid _ => decide (cntlid < 32769)
  | .pushShadow index count size => decide (index < 2097152) && decide (count < 65) && decide (size < 7)
  | .settLinkUp bundle => decide (bundle < 2)
  | .drivePortBringup slot => decide (slot < 64)
  | .driveEnumStepComplete slot _ => decide (slot < 64)
  | .driveEnumStepTimeout slot => decide (slot < 64)
  | .driveInboundRequest slot _ _ _ => decide (slot < 64)
  | .driveCompletion slot tag _ => decide (slot < 64) && decide (tag < 4096)
  | .driveDeadlineScan slot => decide (slot < 64)
  | .driveStallExpiry slot => decide (slot < 64)
  | .cstsPoll slot _ => decide (slot < 64)
  | .pcieReadTimeout slot => decide (slot < 64)
  | .driveUncorrError slot => decide (slot < 64)
  | .driveLinkDown slot => decide (slot < 64)
  | .driveCorrError slot => decide (slot < 64)
  | .releasePerstEnd slot => decide (slot < 64)
  | .driveL1Idle slot => decide (slot < 64)
  | .reservationWaitExpiry slot _ => decide (slot < 64)
  | .slotPresenceAssert slot => decide (slot < 64)
  | .slotSeated slot => decide (slot < 64)
  | .slotPresenceLost slot => decide (slot < 64)
  | .slotSample slot current vOut vBus _ => decide (slot < 64) && decide (current < 4096) && decide (vOut < 2048) && decide (vBus < 2048)
  | .slotFaultTimer slot => decide (slot < 64)
  | .slotOvercurrentTimer slot => decide (slot < 64)
  | .slotTrip slot => decide (slot < 64)
  | .slotCooldownEnd slot => decide (slot < 64)
  | .slotEmptyClear slot => decide (slot < 64)
  | .slotPoweredClear slot => decide (slot < 64)
  | .drvPerstDeassert slot => decide (slot < 64)
  | .followerGateClose slot => decide (slot < 64)
  | .cycleOffEnd slot => decide (slot < 64)
  | .feedLoss feed volt => decide (feed < 2) && decide (volt < 4096)
  | .feedReverseCurrent feed => decide (feed < 2)
  | .feedGood feed volt => decide (feed < 2) && decide (volt < 4096)
  | .estoreTestStart vNow => decide (vNow < 2048)
  | .estoreTestMeasureEnd cMeas esrMeas => decide (cMeas < 8192) && decide (esrMeas < 16384)
  | .estoreTestTimeout => true
  | .estoreChargeTimeout => true
  | .estoreOverCeiling vNow => decide (vNow < 2048)
  | .larderLimitRecompute vNow _ => decide (vNow < 2048)
  | .partnerNcoverPoll ncover => decide (ncover < 16777216)
  | .eyeSample _ => true
  | .hbmCeSample _ => true
  | .driveRiskSample _ => true
  | .fuseMarginCheck _ _ => true
  | .lpPerstAssert => true
  | .lpPerstDeassert => true
  | .lpBmeClear => true
  | .lpD3hotEntry => true
  | .lpCcEnable adminSq adminCq intMode vectors _ _ maxSnoop => decide (adminSq < 4096) && decide (adminCq < 4096) && decide (intMode < 3) && decide (vectors < 2049) && decide (maxSnoop < 65536)
  | .lpCcDisable => true
  | .lpCcShutdown shn => decide (shn < 4)
  | .lpDoorbell qid _ value => decide (qid < 1025) && decide (value < 65536)
  | .lpBarBadAccess => true
  | .lpMboxDoorbell len _ vector => decide (len < 8192) && decide (vector < 2048)
  | .lpVectorUnmask vector => decide (vector < 2048)
  | .lpUncorrError => true
  | .lpHotReset => true
  | .lpLinkDown => true
  | .lpAutoRelease => true
  | .lpIdleTimer => true
  | .lpLtrHoldEnd => true
  | .localLinkUp speed width => decide (speed < 6) && decide (width < 17)
  | .hostMemoryReadCompletion qid _ slot _ => decide (qid < 1025) && decide (slot < 262144)
  | .ccpPacketDiscard transport => decide (transport < 5)
  | .getInfo _ => true
  | .sessionOpen _ role tenant _ _ _ => decide (role < 256) && decide (tenant < 65536)
  | .sessionAuth _ _ => true
  | .sessionAuthTimeout session => decide (session < 65)
  | .sessionHoldoffEnd transport => decide (transport < 5)
  | .sessionClose _ => true
  | .sessionIdleExpiry session => decide (session < 65)
  | .nop _ => true
  | .getEvidence _ _ => true
  | .getCert _ certSlot => decide (certSlot < 256)
  | .spdmGetVersion _ => true
  | .spdmGetCapabilities _ => true
  | .spdmNegotiateAlgorithms _ _ => true
  | .spdmGetDigests _ => true
  | .spdmGetCertificate _ certSlot _ _ => decide (certSlot < 256)
  | .spdmChallenge _ certSlot _ => decide (certSlot < 256)
  | .spdmGetMeasurements _ index _ => decide (index < 256)
  | .nvmeMiCommand _ => true
  | .eventSubscribe _ mask => decide (mask < 65536)
  | .readLong _ _ => true
  | .readObj _ _ _ _ => true
  | .writeObj _ _ _ _ => true
  | .stage _ _ _ => true
  | .cvuClaim _ alg => decide (alg < 256)
  | .cvuFeed _ unit _ => decide (unit < 256)
  | .cvuRelease _ unit => decide (unit < 256)
  | .cvuInit _ unit alg => decide (unit < 8) && decide (alg < 2)
  | .poolCreate _ pool => decide (pool < 256)
  | .poolDelete _ pool => decide (pool < 256)
  | .driveFormat _ slot => decide (slot < 256)
  | .nsCreate _ _ => true
  | .nsCreatePlain _ _ => true
  | .nsDelete _ handle => decide (handle < 65536)
  | .nsDeletePlain _ handle => decide (handle < 65536)
  | .cryptoErase _ handle copies => decide (handle < 65536) && decide (copies < 9)
  | .tenantCreate _ tenant => decide (tenant < 65536)
  | .tenantRemove _ tenant => decide (tenant < 65536)
  | .enrolOpen _ tenant => decide (tenant < 65536)
  | .enrol _ tenant _ => decide (tenant < 65536)
  | .keyImport _ _ => true
  | .attach _ _ => true
  | .activate _ _ => true
  | .sweep _ _ => true
  | .eraseNs _ _ => true
  | .reEnrol _ _ => true
  | .genCreate _ handle => decide (handle < 65536)
  | .genActivate _ handle gen => decide (handle < 65536) && decide (gen < 256)
  | .genSweep _ handle gen => decide (handle < 65536) && decide (gen < 256)
  | .shelfRotate _ => true
  | .fwLoad _ _ _ => true
  | .fwCommit _ _ _ => true
  | .rollbackAdvance _ count => decide (count < 256)
  | .reset _ => true
  | .diagRun _ test => decide (test < 256)
  | .lifecycleStep _ target _ => decide (target < 256)
  | .rootBirth _ => true
  | .unlockChallenge _ => true
  | .debugUnlock _ _ => true
  | .lockdownClear _ => true
  | .delegate _ tenant groups => decide (tenant < 65536) && decide (groups < 256)
  | .jobComplete job status => decide (job < 64) && decide (status < 65536)
  | .bwWindowWrite _ port _ => decide (port < 16)
  | .bwWindowEnd port => decide (port < 16)
  | .ccpRelay _ => true
  | .contain _ slot => decide (slot < 64)
  | .drivePortRelease _ slot => decide (slot < 64)
  | .clearRetry _ slot => decide (slot < 64)
  | .cycle _ slot => decide (slot < 64)
  | .freeze _ => true
  | .localPortRelease _ => true
  | .leaseMove _ _ => true
  | .memberFail _ slot => decide (slot < 256)
  | .reshapeStart _ pool => decide (pool < 8)
  | .reshapePause _ pool => decide (pool < 8)
  | .shaperConfigWrite _ obj _ => decide (obj / 16777216 = 8) && ((decide (1 ≤ obj / 16384 % 1024) && decide (obj / 16384 % 1024 ≤ 3) && decide (obj % 16384 < 4096)) ||
      (decide (obj / 16384 % 1024 = 4) && decide (obj % 16384 < 8)))
  | .meterConfigWrite _ obj _ => decide (obj / 16777216 = 8) && (decide (obj / 16384 % 1024 = 5) || decide (obj / 16384 % 1024 = 6)) && decide (obj % 16384 < 4096)
  | .estoreCfgWrite _ _ => true
  | .unpair _ leaving => decide (leaving < 256)
  | .retirePartner _ => true
  | .quorumOverride _ _ _ => true
  | .alwaysOnSupplyRise _ _ => true
  | .alwaysOnSupplyLoss => true
  | .hbmPgAssert => true
  | .corePgAssert _ _ => true
  | .powerGoodTimeout => true
  | .powerRetryTimer => true
  | .resetNAssert => true
  | .resetNRise _ _ => true
  | .railExcursion rail => decide (1 ≤ rail) && decide (rail < 15)
  | .clockFault => true
  | .internalFault => true
  | .controlWatchdogExpiry => true
  | .hbmTrainingComplete _ => true
  | .resetWipeComplete _ => true
  | .imageLoadComplete _ _ => true
  | .firmwareStartTimeout => true
  | .importStart _ _ _ => true
  | .modeDecision => true
  | .pairWaitExpiry _ => true
  | .configImageWrite => true
  | .cpmSample _ _ => true
  | .avsRetryTimer _ => true
  | .thermalSample _ _ => true
  | .timeSample _ => true

end Sys2Proof
end

