-- ==== Sys2Proof/Safety.lean ====
section
/-! DEFINITION. What the statements mean by a completed command, by a well-formed queue, and by the groups of state that a command leaves as
they were. -/
namespace Sys2Proof

/-- An outcome that is a next state. -/
def completes (r : Machine.Res) : Prop := ∃ t, r = .next t

/-- Every command waiting in the queue is well formed. -/
def queueWellFormed (s : Machine.State) : Bool := s.pending.all wellFormed

/-- The groups of state: one for each field of State. -/
inductive Grp where
  | den
  | power
  | keep
  | fuses
  | images
  | elec
  | boot
  | modes
  | spine
  | net
  | xport
  | cmds
  | cons
  | layout
  | cipher
  | enclave
  | qos
  | pair
  | drives
  | margins
  | localPort
  | ccp
  | telem
  | regs
  | blobs
  | fresh
  | sent
  | pending
  deriving DecidableEq, Repr

/-- The number of a group. -/
def Grp.num : Grp → Nat
  | .den => 0
  | .power => 1
  | .keep => 2
  | .fuses => 3
  | .images => 4
  | .elec => 5
  | .boot => 6
  | .modes => 7
  | .spine => 8
  | .net => 9
  | .xport => 10
  | .cmds => 11
  | .cons => 12
  | .layout => 13
  | .cipher => 14
  | .enclave => 15
  | .qos => 16
  | .pair => 17
  | .drives => 18
  | .margins => 19
  | .localPort => 20
  | .ccp => 21
  | .telem => 22
  | .regs => 23
  | .blobs => 24
  | .fresh => 25
  | .sent => 26
  | .pending => 27

/-- A group holds the same in both states. -/
def Grp.same (g : Grp) (s t : Machine.State) : Prop :=
  match g with
  | .den => t.den = s.den
  | .power => t.power = s.power
  | .keep => t.keep = s.keep
  | .fuses => t.fuses = s.fuses
  | .images => t.images = s.images
  | .elec => t.elec = s.elec
  | .boot => t.boot = s.boot
  | .modes => t.modes = s.modes
  | .spine => t.spine = s.spine
  | .net => t.net = s.net
  | .xport => t.xport = s.xport
  | .cmds => t.cmds = s.cmds
  | .cons => t.cons = s.cons
  | .layout => t.layout = s.layout
  | .cipher => t.cipher = s.cipher
  | .enclave => t.enclave = s.enclave
  | .qos => t.qos = s.qos
  | .pair => t.pair = s.pair
  | .drives => t.drives = s.drives
  | .margins => t.margins = s.margins
  | .localPort => t.localPort = s.localPort
  | .ccp => t.ccp = s.ccp
  | .telem => t.telem = s.telem
  | .regs => t.regs = s.regs
  | .blobs => t.blobs = s.blobs
  | .fresh => t.fresh = s.fresh
  | .sent => t.sent = s.sent
  | .pending => t.pending = s.pending

/-- Of all the state, only the groups listed may differ. -/
def onlyChanges (l : List Grp) (s t : Machine.State) : Prop := ∀ g, g ∉ l → g.same s t

/-- The register file is in its canonical form: object identifiers strictly rising, and no object listed that holds its reset value. -/
def regsCanonical (s : Machine.State) : Prop :=
  Machine.twf s.regs = true ∧ ∀ e ∈ s.regs, e.2 ≠ BitVec.ofNat 64 (Machine.objReset e.1)

/-- The image store is in its canonical form, and no slot counts more than two failures to start (R529). -/
def imagesSound (m : Tbl Machine.ImageSlot) : Prop := Machine.twf m = true ∧ ∀ e ∈ m, e.2.startFails ≤ 2

/-- LIFE_CYCLE holds one of the five codes of R324, and in SCRAPPED the device root is disabled. -/
def fusesSound (f : Machine.Fuses) : Prop :=
  Machine.legalLifeCycle f.lifeCycle = true ∧ (f.lifeCycle = 15 → f.rootDisabled = true)

/-- The invariant of the whole block: legal fuses, a sound image store and a canonical register file. -/
structure sound (s : Machine.State) : Prop where
  /-- the fuses are legal -/
  fuses : fusesSound s.fuses
  /-- the image store is sound -/
  images : imagesSound s.images
  /-- the register file is canonical -/
  regs : regsCanonical s

/-! ### What each command may change -/

/-- The groups that a command may change when it completes; it leaves every other group as it was. -/
def footprint (c : Instr) : List Grp :=
  match c with
  | .flitArrival _ _ _ => [.den, .power, .keep, .elec, .boot, .modes, .spine, .net, .xport, .cmds, .cons, .layout, .cipher, .enclave, .qos, .pair, .drives, .margins, .localPort, .ccp, .telem, .regs, .blobs, .fresh, .sent]
  | .islandIdleExpiry _ => [.spine]
  | .arbiterGrant _ => [.spine, .net, .xport, .cmds, .cons, .layout, .cipher, .enclave, .qos, .pair, .localPort, .ccp, .telem, .fresh, .sent]
  | .idleLevelTimer _ => [.modes, .spine]
  | .denEntryStart _ => [.den, .power, .boot, .modes, .spine, .net, .xport, .layout, .cipher, .pair, .localPort, .ccp, .telem, .sent]
  | .denCommitTimeout => [.modes]
  | .driveShutdownComplete _ => [.den, .power, .boot, .modes, .spine, .layout, .cipher, .drives, .localPort, .ccp, .telem, .sent]
  | .driveShutdownTimeout _ => [.den, .power, .boot, .modes, .spine, .layout, .cipher, .drives, .localPort, .ccp, .telem, .sent]
  | .denCommit => [.den, .power, .boot, .modes, .spine, .net, .layout, .cipher, .pair, .localPort, .ccp, .telem, .sent]
  | .wakeFrame _ => [.den, .modes, .sent]
  | .denWakeTimerExpiry => [.den, .modes, .sent]
  | .settWakeInAssert => [.den, .modes, .sent]
  | .setFeaturesPowerMgmt _ _ => [.modes, .xport, .cmds, .cons, .layout, .cipher, .enclave, .qos, .pair, .drives, .localPort, .ccp, .telem, .sent]
  | .powerStateEntryEnd => [.modes, .xport, .cmds, .qos, .pair, .drives, .localPort, .telem, .sent]
  | .frameReceive _ => [.modes, .net, .qos, .telem, .sent]
  | .pfcXoffRefresh _ _ => [.net, .telem, .sent]
  | .pfcFrameReceive _ _ _ => [.modes, .net, .telem]
  | .pfcPauseExpiry _ _ => [.net]
  | .pfcWdTrip _ _ => [.net, .ccp, .telem, .sent]
  | .pfcWdRestore _ _ => [.net]
  | .lldpReceive _ => [.modes, .net]
  | .lldpTransmit => [.sent]
  | .lacpduReceive _ _ _ _ => [.modes, .net, .qos]
  | .lacpPeriodic _ => [.sent]
  | .gateIntervalEnd _ => [.net]
  | .egressDispatch _ => [.net, .qos, .telem, .fresh, .sent]
  | .frameTransmitEnd _ _ => [.net, .qos, .telem]
  | .portLinkUp _ _ => [.modes, .net, .sent]
  | .portLinkDown _ => [.net, .qos, .pair, .ccp, .telem, .sent]
  | .bucketMoveCommit _ _ => [.net, .qos]
  | .bucketMoveTimeout _ _ => [.net, .qos]
  | .stepWindowEnd _ => [.net, .qos]
  | .stepUpEval _ => [.net, .qos]
  | .stepPhaseTimeout _ => [.net, .qos, .sent]
  | .stepDrainComplete _ => [.net, .sent]
  | .attachRetryTimer _ => [.net, .sent]
  | .cmDatagram _ => [.net, .xport, .cmds, .cons, .layout, .cipher, .enclave, .qos, .pair, .localPort, .ccp, .telem, .fresh, .sent]
  | .roceRequestPacket _ => [.den, .modes, .net, .xport, .cmds, .cons, .layout, .cipher, .enclave, .qos, .pair, .drives, .localPort, .ccp, .telem, .fresh, .sent]
  | .contextWritebackCommit _ => [.xport]
  | .contextFillComplete _ _ => [.den, .modes, .net, .xport, .cmds, .cons, .layout, .cipher, .enclave, .qos, .pair, .drives, .localPort, .ccp, .telem, .fresh, .sent]
  | .pushWritePacket _ _ _ _ _ _ _ => [.den, .modes, .net, .xport, .cmds, .cons, .layout, .cipher, .enclave, .qos, .pair, .drives, .localPort, .ccp, .telem, .fresh, .sent]
  | .roceAckReceive _ _ _ => [.den, .modes, .net, .xport, .cmds, .cons, .layout, .cipher, .enclave, .qos, .pair, .drives, .localPort, .ccp, .telem, .fresh, .sent]
  | .roceReadResponse _ _ _ _ => [.den, .modes, .net, .xport, .cmds, .cons, .layout, .cipher, .enclave, .qos, .pair, .drives, .localPort, .ccp, .telem, .fresh, .sent]
  | .roceCnpReceive _ => [.den, .modes, .net, .xport, .cmds, .cons, .layout, .cipher, .enclave, .qos, .pair, .drives, .localPort, .ccp, .telem, .fresh, .sent]
  | .roceAckTimeout _ => [.modes, .xport, .cmds, .cons, .layout, .cipher, .enclave, .qos, .pair, .drives, .localPort, .ccp, .telem, .sent]
  | .roceRnrDelayEnd _ => [.xport, .qos, .telem, .sent]
  | .tcpSynReceive _ => [.modes, .net, .xport, .cmds, .cons, .layout, .qos, .pair, .drives, .localPort, .telem, .fresh, .sent]
  | .tcpSegmentReceive _ => [.den, .modes, .net, .xport, .cmds, .cons, .layout, .cipher, .enclave, .qos, .pair, .drives, .localPort, .ccp, .telem, .fresh, .sent]
  | .icreqReceive _ _ _ _ => [.modes, .xport, .cmds, .cons, .layout, .cipher, .enclave, .qos, .pair, .drives, .localPort, .ccp, .telem, .sent]
  | .h2cdataReceive _ _ _ _ _ _ => [.modes, .xport, .cmds, .cons, .layout, .cipher, .enclave, .qos, .pair, .drives, .localPort, .ccp, .telem, .sent]
  | .h2ctermreqReceive _ => [.modes, .xport, .cmds, .cons, .layout, .cipher, .enclave, .qos, .pair, .drives, .localPort, .ccp, .telem, .sent]
  | .tcpRtoExpiry _ => [.modes, .xport, .cmds, .cons, .layout, .cipher, .enclave, .qos, .pair, .drives, .localPort, .ccp, .telem, .sent]
  | .delayedAckTimer _ => [.xport, .qos, .pair, .telem, .sent]
  | .openingTimeout _ => [.xport, .qos, .pair, .sent]
  | .drainingCloseTimeout _ => [.xport, .qos, .pair, .sent]
  | .quarantineEnd _ => [.xport, .pair, .sent]
  | .pushHoldExpiry _ _ => [.xport, .qos, .pair, .telem, .sent]
  | .connect _ => [.modes, .xport, .cmds, .cons, .layout, .cipher, .enclave, .qos, .pair, .drives, .localPort, .ccp, .telem, .sent]
  | .propertyGet _ _ => [.modes, .xport, .cmds, .cons, .layout, .cipher, .enclave, .qos, .pair, .drives, .localPort, .ccp, .telem, .fresh, .sent]
  | .propertySet _ _ _ => [.modes, .xport, .cmds, .cons, .layout, .cipher, .enclave, .qos, .pair, .drives, .localPort, .ccp, .telem, .sent]
  | .disconnect _ => [.modes, .xport, .cmds, .cons, .layout, .cipher, .enclave, .qos, .pair, .drives, .localPort, .ccp, .telem, .sent]
  | .identify _ _ _ => [.modes, .xport, .cmds, .cons, .layout, .cipher, .enclave, .qos, .pair, .drives, .localPort, .ccp, .telem, .sent]
  | .getLogPage _ _ _ => [.modes, .xport, .cmds, .cons, .layout, .cipher, .enclave, .qos, .pair, .drives, .localPort, .ccp, .telem, .sent]
  | .setFeaturesArbitration _ _ _ => [.modes, .xport, .cmds, .cons, .layout, .cipher, .enclave, .qos, .pair, .drives, .localPort, .ccp, .telem, .sent]
  | .setFeaturesNumQueues _ _ _ => [.modes, .xport, .cmds, .cons, .layout, .cipher, .enclave, .qos, .pair, .drives, .localPort, .ccp, .telem, .sent]
  | .setFeaturesWriteAtomicity _ _ _ => [.modes, .xport, .cmds, .cons, .layout, .cipher, .enclave, .qos, .pair, .drives, .localPort, .ccp, .telem, .sent]
  | .setFeaturesAsyncEventCfg _ _ _ => [.modes, .xport, .cmds, .cons, .layout, .cipher, .enclave, .qos, .pair, .drives, .localPort, .ccp, .telem, .sent]
  | .setFeaturesPushWindows _ _ _ _ => [.modes, .spine, .xport, .cmds, .cons, .layout, .cipher, .enclave, .qos, .pair, .drives, .localPort, .ccp, .telem, .sent]
  | .getFeatures _ _ _ => [.modes, .xport, .cmds, .cons, .layout, .cipher, .enclave, .qos, .pair, .drives, .localPort, .ccp, .telem, .fresh, .sent]
  | .abort _ _ _ => [.modes, .xport, .cmds, .cons, .layout, .cipher, .enclave, .qos, .pair, .drives, .localPort, .ccp, .telem, .sent]
  | .asyncEventRequest _ => [.modes, .xport, .cmds, .cons, .layout, .cipher, .enclave, .qos, .pair, .drives, .localPort, .ccp, .telem, .sent]
  | .keepAlive _ => [.modes, .xport, .cmds, .cons, .layout, .cipher, .enclave, .qos, .pair, .drives, .localPort, .ccp, .telem, .sent]
  | .keepAliveExpiry _ => [.modes, .xport, .cmds, .cons, .layout, .cipher, .enclave, .qos, .pair, .drives, .localPort, .ccp, .telem, .sent]
  | .commandCapsule _ => [.modes, .xport, .cmds, .cons, .layout, .cipher, .enclave, .qos, .pair, .drives, .localPort, .ccp, .telem, .fresh, .sent]
  | .read _ => [.xport, .cmds, .cons, .layout, .cipher, .enclave, .qos, .pair, .localPort, .ccp, .telem, .sent]
  | .write _ => [.xport, .cmds, .cons, .layout, .cipher, .enclave, .qos, .pair, .localPort, .ccp, .telem, .sent]
  | .flush _ => [.xport, .cmds, .layout, .qos, .pair, .localPort, .telem, .sent]
  | .compare _ => [.xport, .cmds, .cons, .layout, .cipher, .enclave, .qos, .pair, .localPort, .ccp, .telem, .sent]
  | .writeZeroes _ => [.xport, .cmds, .cons, .layout, .cipher, .enclave, .qos, .pair, .localPort, .ccp, .telem, .sent]
  | .datasetManagement _ => [.xport, .cmds, .cons, .layout, .cipher, .enclave, .qos, .pair, .localPort, .ccp, .telem, .sent]
  | .verify _ => [.xport, .cmds, .cons, .layout, .cipher, .enclave, .qos, .pair, .localPort, .ccp, .telem, .sent]
  | .slotRelease _ => [.modes, .xport, .cmds, .cons, .layout, .cipher, .enclave, .qos, .pair, .drives, .localPort, .ccp, .telem, .fresh, .sent]
  | .replayRecordExpiry _ => [.cmds, .cons, .layout, .pair, .telem, .sent]
  | .saturationSample _ _ _ _ => [.cmds, .ccp, .sent]
  | .deferReleaseScan => [.xport, .cmds, .cons, .layout, .cipher, .enclave, .qos, .pair, .localPort, .ccp, .telem, .sent]
  | .stampRequest _ _ => [.xport, .cmds, .cons, .layout, .cipher, .enclave, .qos, .pair, .localPort, .ccp, .telem, .sent]
  | .stampReply _ _ _ _ _ _ => [.xport, .cmds, .cons, .layout, .cipher, .enclave, .qos, .pair, .localPort, .ccp, .telem, .sent]
  | .go _ _ => [.xport, .cmds, .cons, .layout, .cipher, .enclave, .qos, .pair, .localPort, .ccp, .telem, .sent]
  | .withdrawal _ _ _ => [.xport, .cmds, .cons, .layout, .qos, .pair, .telem, .sent]
  | .withdrawalReply _ _ => [.xport, .cmds, .cons, .layout, .cipher, .enclave, .qos, .pair, .localPort, .ccp, .telem, .sent]
  | .stampRecord _ _ _ _ _ _ => [.cons, .pair, .sent]
  | .stampRecordConfirmation _ => [.xport, .cmds, .cons, .layout, .cipher, .enclave, .qos, .pair, .localPort, .ccp, .telem, .sent]
  | .fenceExpiry => [.cons, .telem]
  | .readPinExpiry _ => [.xport, .cmds, .cons, .layout, .cipher, .enclave, .qos, .pair, .localPort, .ccp, .telem, .sent]
  | .autoBalanceMove _ => [.cons, .pair, .sent]
  | .leaseDrainComplete => [.xport, .cmds, .cons, .layout, .cipher, .enclave, .qos, .pair, .localPort, .ccp, .telem, .sent]
  | .leaseMoveTimeout => [.xport, .cmds, .cons, .layout, .cipher, .enclave, .qos, .pair, .localPort, .ccp, .telem, .sent]
  | .leasePhase _ _ _ _ => [.xport, .cmds, .cons, .layout, .cipher, .enclave, .qos, .pair, .localPort, .ccp, .telem, .sent]
  | .handover _ => [.den, .power, .boot, .modes, .spine, .net, .xport, .cmds, .cons, .layout, .cipher, .enclave, .qos, .pair, .drives, .localPort, .ccp, .telem, .sent]
  | .epochRaise _ => [.cons, .layout, .qos, .pair, .telem, .sent]
  | .larderSlotReserve => [.xport, .cmds, .cons, .layout, .cipher, .enclave, .qos, .pair, .localPort, .ccp, .telem, .sent]
  | .larderPlacement _ => [.xport, .cmds, .cons, .layout, .cipher, .enclave, .qos, .pair, .localPort, .ccp, .telem, .sent]
  | .mirrorRecord _ => [.layout, .pair, .sent]
  | .mirrorConfirmation _ => [.xport, .cmds, .cons, .layout, .cipher, .enclave, .qos, .pair, .localPort, .ccp, .telem, .sent]
  | .release _ => [.layout, .pair, .sent]
  | .releaseBatchTimer => [.layout, .pair, .sent]
  | .synchronisationCopy _ => [.layout, .pair, .sent]
  | .forwardedData _ => [.xport, .cmds, .cons, .layout, .cipher, .enclave, .qos, .pair, .localPort, .ccp, .telem, .sent]
  | .placementConfirmation _ => [.xport, .cmds, .cons, .layout, .cipher, .enclave, .qos, .pair, .localPort, .ccp, .telem, .sent]
  | .destagePick _ => [.layout, .qos, .pair, .telem, .sent]
  | .coalesceTimeout _ _ => [.layout]
  | .destageAgeExpiry _ => [.layout]
  | .destageIntentDurable _ _ _ => [.layout, .qos, .pair, .ccp, .telem, .sent]
  | .destageWritesComplete _ _ _ => [.xport, .cmds, .cons, .layout, .cipher, .enclave, .qos, .pair, .localPort, .ccp, .telem, .sent]
  | .bitmapCleanTimer _ _ => [.layout, .qos, .pair, .telem, .sent]
  | .journalBlock _ _ _ => [.den, .layout, .pair, .regs, .sent]
  | .journalDriveReplace _ _ _ => [.den, .layout, .qos, .pair, .ccp, .telem, .regs, .sent]
  | .bothFeedsLost => [.den, .power, .modes, .spine, .xport, .cmds, .cons, .layout, .cipher, .qos, .pair, .ccp, .telem, .sent]
  | .holdupComplete => [.den, .power, .elec, .boot, .modes, .spine, .net, .xport, .cmds, .cons, .layout, .cipher, .enclave, .qos, .pair, .drives, .margins, .localPort, .ccp, .telem, .regs, .blobs, .fresh, .sent]
  | .missingWaitExpiry _ _ => [.layout, .ccp, .telem, .sent]
  | .rebuildStripe _ _ _ => [.layout, .qos, .pair, .ccp, .telem, .sent]
  | .resyncRowGroup _ _ _ _ => [.layout, .qos, .pair, .ccp, .telem, .sent]
  | .copybackRow _ _ _ _ => [.layout, .qos, .pair, .ccp, .telem, .sent]
  | .stripeLockGrant _ _ => [.xport, .cmds, .cons, .layout, .cipher, .enclave, .qos, .pair, .localPort, .ccp, .telem, .sent]
  | .reshapeStep _ _ => [.den, .xport, .layout, .qos, .pair, .drives, .ccp, .telem, .regs, .blobs, .sent]
  | .badgerStripe _ _ _ => [.layout, .cipher, .enclave, .qos, .pair, .ccp, .telem, .sent]
  | .sweepStart _ _ => [.cipher]
  | .keyUnwrapComplete _ _ => [.xport, .cmds, .cons, .layout, .cipher, .enclave, .qos, .pair, .localPort, .ccp, .telem, .sent]
  | .ctrStepDurable _ _ => [.xport, .cmds, .cons, .layout, .cipher, .enclave, .qos, .pair, .localPort, .ccp, .telem, .sent]
  | .generationActivation _ _ _ => [.xport, .cmds, .cons, .layout, .cipher, .enclave, .qos, .pair, .localPort, .ccp, .telem, .sent]
  | .dupWindow _ _ _ => [.cipher, .pair, .ccp, .telem, .sent]
  | .knownAnswerCheck _ _ => [.net, .cipher, .qos, .pair, .ccp, .telem, .sent]
  | .securityFault _ => [.den, .power, .keep, .boot, .modes, .spine, .xport, .cmds, .cons, .layout, .cipher, .enclave, .qos, .pair, .localPort, .ccp, .telem, .sent]
  | .keyErasure => [.spine, .cipher, .enclave]
  | .debugAccessAttempt => [.enclave]
  | .coreLockstepMismatch _ => [.spine, .pair, .ccp, .sent]
  | .keyDerivationComplete _ => [.xport, .cmds, .cons, .layout, .cipher, .enclave, .qos, .pair, .localPort, .ccp, .telem, .fresh, .sent]
  | .driveDispatch _ => [.qos, .drives, .telem, .sent]
  | .backgroundDispatch _ => [.qos, .telem]
  | .shaperSlotFire _ _ => [.qos, .telem]
  | .settAckReceive _ _ => [.xport, .cmds, .cons, .layout, .cipher, .enclave, .qos, .pair, .localPort, .ccp, .telem, .sent]
  | .settResendTimeout _ _ => [.modes, .layout, .qos, .pair, .localPort, .ccp, .telem, .sent]
  | .settAlignmentLoss _ => [.modes, .layout, .qos, .pair, .localPort, .ccp, .telem, .sent]
  | .owlBeatTimer => [.qos, .pair, .sent]
  | .beat _ => [.xport, .cmds, .cons, .layout, .cipher, .enclave, .qos, .pair, .localPort, .ccp, .telem, .sent]
  | .partnerSilenceExpiry => [.modes, .qos, .pair, .ccp, .telem, .sent]
  | .settSilenceExpiry => [.modes, .qos, .pair, .ccp, .telem, .sent]
  | .networkSilenceExpiry => [.pair, .ccp, .telem, .sent]
  | .cutLinkNotice => [.modes, .qos, .pair, .ccp, .telem, .sent]
  | .quorumWindowExpiry => [.den, .power, .keep, .elec, .boot, .modes, .spine, .net, .xport, .cmds, .cons, .layout, .cipher, .enclave, .qos, .pair, .drives, .margins, .localPort, .ccp, .telem, .regs, .blobs, .fresh, .sent]
  | .takeoverClaim => [.modes, .net, .xport, .cmds, .cons, .layout, .cipher, .enclave, .qos, .pair, .drives, .localPort, .ccp, .telem, .sent]
  | .connectionAdopt _ => [.den, .modes, .net, .xport, .cmds, .cons, .layout, .cipher, .enclave, .qos, .pair, .drives, .localPort, .ccp, .telem, .fresh, .sent]
  | .hello _ => [.layout, .pair, .ccp, .sent]
  | .evidence _ => [.layout, .pair, .ccp, .fresh, .sent]
  | .keyExchange _ => [.keep, .layout, .enclave, .qos, .pair, .drives, .ccp, .telem, .fresh, .sent]
  | .synchronisationEnd _ => [.den, .power, .boot, .modes, .spine, .xport, .cmds, .cons, .layout, .cipher, .enclave, .qos, .pair, .drives, .localPort, .ccp, .telem, .sent]
  | .connectionShadow _ _ => [.pair, .sent]
  | .positionUpdate _ _ _ _ => [.xport, .cmds, .cons, .layout, .cipher, .enclave, .qos, .pair, .localPort, .ccp, .telem, .sent]
  | .commandShadow _ _ => [.pair, .sent]
  | .stampUpdate _ _ _ => [.pair, .sent]
  | .sendRecord _ _ => [.pair, .sent]
  | .commandEnd _ _ => [.xport, .cmds, .cons, .layout, .cipher, .enclave, .qos, .pair, .localPort, .ccp, .telem, .sent]
  | .fabricControllerShadow _ _ => [.pair, .sent]
  | .pushShadow _ _ _ => [.pair, .sent]
  | .settLinkUp _ => [.modes, .layout, .pair, .ccp, .sent]
  | .drivePortBringup _ => [.drives]
  | .driveEnumStepComplete _ _ => [.xport, .cmds, .cons, .layout, .cipher, .enclave, .qos, .pair, .drives, .localPort, .ccp, .telem, .sent]
  | .driveEnumStepTimeout _ => [.qos, .drives, .ccp, .telem, .sent]
  | .driveInboundRequest _ _ _ _ => [.power, .xport, .cmds, .cons, .layout, .cipher, .enclave, .qos, .pair, .drives, .localPort, .ccp, .telem, .sent]
  | .driveCompletion _ _ _ => [.den, .power, .keep, .elec, .boot, .modes, .spine, .net, .xport, .cmds, .cons, .layout, .cipher, .enclave, .qos, .pair, .drives, .margins, .localPort, .ccp, .telem, .regs, .blobs, .fresh, .sent]
  | .driveDeadlineScan _ => [.power, .xport, .cmds, .cons, .layout, .cipher, .enclave, .qos, .pair, .drives, .localPort, .ccp, .telem, .sent]
  | .driveStallExpiry _ => [.power, .xport, .cmds, .cons, .layout, .cipher, .enclave, .qos, .pair, .drives, .localPort, .ccp, .telem, .sent]
  | .cstsPoll _ _ => [.power, .xport, .cmds, .cons, .layout, .cipher, .enclave, .qos, .pair, .drives, .localPort, .ccp, .telem, .sent]
  | .pcieReadTimeout _ => [.power, .xport, .cmds, .cons, .layout, .cipher, .enclave, .qos, .pair, .drives, .localPort, .ccp, .telem, .sent]
  | .driveUncorrError _ => [.power, .xport, .cmds, .cons, .layout, .cipher, .enclave, .qos, .pair, .drives, .localPort, .ccp, .telem, .sent]
  | .driveLinkDown _ => [.power, .xport, .cmds, .cons, .layout, .cipher, .enclave, .qos, .pair, .drives, .localPort, .ccp, .telem, .sent]
  | .driveCorrError _ => [.telem]
  | .releasePerstEnd _ => [.power, .drives]
  | .driveL1Idle _ => [.drives, .telem]
  | .reservationWaitExpiry _ _ => [.drives, .sent]
  | .slotPresenceAssert _ => [.power]
  | .slotSeated _ => [.den, .power, .modes, .ccp, .telem, .sent]
  | .slotPresenceLost _ => [.den, .power, .xport, .cmds, .cons, .layout, .cipher, .enclave, .qos, .pair, .drives, .localPort, .ccp, .telem, .sent]
  | .slotSample _ _ _ _ _ => [.den, .power, .layout, .ccp, .telem, .sent]
  | .slotFaultTimer _ => [.den, .power, .layout, .ccp, .telem, .sent]
  | .slotOvercurrentTimer _ => [.den, .power, .layout, .ccp, .telem, .sent]
  | .slotTrip _ => [.den, .power, .layout, .ccp, .telem, .sent]
  | .slotCooldownEnd _ => [.power, .ccp, .telem, .sent]
  | .slotEmptyClear _ => [.power, .ccp, .telem, .sent]
  | .slotPoweredClear _ => [.power, .ccp, .telem, .sent]
  | .drvPerstDeassert _ => [.power]
  | .followerGateClose _ => [.den, .power, .layout, .ccp, .telem, .sent]
  | .cycleOffEnd _ => [.power]
  | .feedLoss _ _ => [.den, .power, .modes, .spine, .xport, .cmds, .cons, .layout, .cipher, .qos, .pair, .ccp, .telem, .sent]
  | .feedReverseCurrent _ => [.power, .telem]
  | .feedGood _ _ => [.den, .power, .ccp, .sent]
  | .estoreTestStart _ => [.power, .telem]
  | .estoreTestMeasureEnd _ _ => [.den, .power, .boot, .modes, .layout, .ccp, .telem, .sent]
  | .estoreTestTimeout => [.den, .power, .boot, .modes, .layout, .ccp, .telem, .sent]
  | .estoreChargeTimeout => [.den, .power, .boot, .modes, .layout, .ccp, .telem, .sent]
  | .estoreOverCeiling _ => [.power, .telem]
  | .larderLimitRecompute _ _ => [.den, .power, .xport, .cmds, .cons, .layout, .cipher, .enclave, .qos, .pair, .localPort, .ccp, .telem, .sent]
  | .partnerNcoverPoll _ => [.den, .power, .xport, .cmds, .cons, .layout, .cipher, .enclave, .qos, .pair, .localPort, .ccp, .telem, .sent]
  | .eyeSample _ => [.den, .net, .qos, .margins, .ccp, .telem, .sent]
  | .hbmCeSample _ => [.den, .elec, .margins, .ccp, .telem, .sent]
  | .driveRiskSample _ => [.den, .margins, .ccp, .telem, .sent]
  | .fuseMarginCheck _ _ => [.den, .power, .keep, .boot, .modes, .spine, .xport, .cmds, .cons, .layout, .cipher, .enclave, .qos, .pair, .localPort, .ccp, .telem, .sent]
  | .lpPerstAssert => [.den, .modes, .xport, .cmds, .cons, .layout, .cipher, .enclave, .qos, .pair, .drives, .localPort, .ccp, .telem, .sent]
  | .lpPerstDeassert => [.den, .modes, .localPort, .sent]
  | .lpBmeClear => [.xport, .cmds, .cons, .layout, .cipher, .enclave, .qos, .pair, .localPort, .ccp, .telem, .sent]
  | .lpD3hotEntry => [.xport, .cmds, .cons, .layout, .cipher, .enclave, .qos, .pair, .localPort, .ccp, .telem, .sent]
  | .lpCcEnable _ _ _ _ _ _ _ => [.modes, .xport, .cmds, .qos, .pair, .drives, .localPort, .telem, .sent]
  | .lpCcDisable => [.modes, .xport, .cmds, .cons, .layout, .cipher, .enclave, .qos, .pair, .drives, .localPort, .ccp, .telem, .sent]
  | .lpCcShutdown _ => [.modes, .xport, .cmds, .qos, .pair, .drives, .localPort, .telem, .sent]
  | .lpDoorbell _ _ _ => [.xport, .cmds, .qos, .pair, .localPort, .telem, .sent]
  | .lpBarBadAccess => [.telem, .sent]
  | .lpMboxDoorbell _ _ _ => [.localPort, .telem, .sent]
  | .lpVectorUnmask _ => [.localPort, .sent]
  | .lpUncorrError => [.xport, .cmds, .cons, .layout, .cipher, .enclave, .qos, .pair, .localPort, .ccp, .telem, .sent]
  | .lpHotReset => [.xport, .cmds, .cons, .layout, .cipher, .enclave, .qos, .pair, .localPort, .ccp, .telem, .sent]
  | .lpLinkDown => [.xport, .cmds, .cons, .layout, .cipher, .enclave, .qos, .pair, .localPort, .ccp, .telem, .sent]
  | .lpAutoRelease => [.modes, .xport, .cmds, .qos, .pair, .drives, .localPort, .telem, .sent]
  | .lpIdleTimer => [.localPort, .telem, .sent]
  | .lpLtrHoldEnd => [.localPort, .telem, .sent]
  | .localLinkUp _ _ => [.localPort]
  | .hostMemoryReadCompletion _ _ _ _ => [.modes, .xport, .cmds, .cons, .layout, .cipher, .enclave, .qos, .pair, .drives, .localPort, .ccp, .telem, .fresh, .sent]
  | .ccpPacketDiscard _ => [.localPort, .telem]
  | .getInfo _ => [.den, .modes, .pair, .localPort, .ccp, .telem, .sent]
  | .sessionOpen _ _ _ _ _ _ => [.den, .modes, .pair, .localPort, .ccp, .telem, .fresh, .sent]
  | .sessionAuth _ _ => [.den, .modes, .pair, .localPort, .ccp, .telem, .sent]
  | .sessionAuthTimeout _ => [.ccp]
  | .sessionHoldoffEnd _ => [.ccp]
  | .sessionClose _ => [.den, .modes, .pair, .localPort, .ccp, .telem, .sent]
  | .sessionIdleExpiry _ => [.ccp]
  | .nop _ => [.den, .modes, .pair, .localPort, .ccp, .telem, .sent]
  | .getEvidence _ _ => [.den, .modes, .pair, .localPort, .ccp, .telem, .sent]
  | .getCert _ _ => [.den, .modes, .pair, .localPort, .ccp, .telem, .sent]
  | .spdmGetVersion _ => [.den, .modes, .pair, .localPort, .ccp, .telem, .sent]
  | .spdmGetCapabilities _ => [.den, .modes, .pair, .localPort, .ccp, .telem, .sent]
  | .spdmNegotiateAlgorithms _ _ => [.den, .modes, .pair, .localPort, .ccp, .telem, .sent]
  | .spdmGetDigests _ => [.den, .modes, .pair, .localPort, .ccp, .telem, .sent]
  | .spdmGetCertificate _ _ _ _ => [.den, .modes, .pair, .localPort, .ccp, .telem, .sent]
  | .spdmChallenge _ _ _ => [.den, .modes, .pair, .localPort, .ccp, .telem, .fresh, .sent]
  | .spdmGetMeasurements _ _ _ => [.den, .modes, .pair, .localPort, .ccp, .telem, .sent]
  | .nvmeMiCommand _ => [.modes, .ccp, .sent]
  | .eventSubscribe _ _ => [.den, .modes, .pair, .localPort, .ccp, .telem, .sent]
  | .readLong _ _ => [.den, .modes, .pair, .localPort, .ccp, .telem, .sent]
  | .readObj _ _ _ _ => [.den, .modes, .spine, .pair, .localPort, .ccp, .telem, .sent]
  | .writeObj _ _ _ _ => [.den, .power, .elec, .boot, .modes, .spine, .net, .xport, .cmds, .cons, .layout, .cipher, .enclave, .qos, .pair, .drives, .margins, .localPort, .ccp, .telem, .regs, .blobs, .sent]
  | .stage _ _ _ => [.den, .modes, .pair, .localPort, .ccp, .telem, .sent]
  | .cvuClaim _ _ => [.den, .modes, .pair, .localPort, .ccp, .telem, .sent]
  | .cvuFeed _ _ _ => [.den, .modes, .spine, .pair, .localPort, .ccp, .telem, .sent]
  | .cvuRelease _ _ => [.den, .modes, .spine, .pair, .localPort, .ccp, .telem, .sent]
  | .cvuInit _ _ _ => [.den, .power, .elec, .boot, .modes, .spine, .net, .xport, .cmds, .cons, .layout, .cipher, .enclave, .qos, .pair, .drives, .margins, .localPort, .ccp, .telem, .regs, .blobs, .sent]
  | .poolCreate _ _ => [.den, .keep, .modes, .layout, .qos, .pair, .drives, .localPort, .ccp, .telem, .sent]
  | .poolDelete _ _ => [.den, .modes, .layout, .pair, .drives, .localPort, .ccp, .telem, .sent]
  | .driveFormat _ _ => [.den, .modes, .pair, .drives, .localPort, .ccp, .telem, .sent]
  | .nsCreate _ _ => [.den, .modes, .cons, .layout, .cipher, .enclave, .qos, .pair, .localPort, .ccp, .telem, .fresh, .sent]
  | .nsCreatePlain _ _ => [.den, .modes, .cons, .layout, .cipher, .pair, .localPort, .ccp, .telem, .sent]
  | .nsDelete _ _ => [.den, .modes, .cons, .layout, .cipher, .enclave, .qos, .pair, .localPort, .ccp, .telem, .sent]
  | .nsDeletePlain _ _ => [.den, .modes, .cons, .layout, .cipher, .enclave, .qos, .pair, .localPort, .ccp, .telem, .sent]
  | .cryptoErase _ _ _ => [.den, .modes, .cipher, .enclave, .qos, .pair, .localPort, .ccp, .telem, .sent]
  | .tenantCreate _ _ => [.den, .modes, .enclave, .qos, .pair, .localPort, .ccp, .telem, .sent]
  | .tenantRemove _ _ => [.den, .modes, .cipher, .enclave, .qos, .pair, .localPort, .ccp, .telem, .regs, .sent]
  | .enrolOpen _ _ => [.den, .modes, .enclave, .qos, .pair, .localPort, .ccp, .telem, .sent]
  | .enrol _ _ _ => [.den, .modes, .enclave, .qos, .pair, .localPort, .ccp, .telem, .fresh, .sent]
  | .keyImport _ _ => [.den, .modes, .cipher, .enclave, .qos, .pair, .localPort, .ccp, .telem, .fresh, .sent]
  | .attach _ _ => [.den, .modes, .xport, .cmds, .enclave, .qos, .pair, .localPort, .ccp, .telem, .sent]
  | .activate _ _ => [.den, .modes, .xport, .cmds, .cons, .layout, .cipher, .enclave, .qos, .pair, .localPort, .ccp, .telem, .sent]
  | .sweep _ _ => [.den, .modes, .cipher, .enclave, .qos, .pair, .localPort, .ccp, .telem, .sent]
  | .eraseNs _ _ => [.den, .modes, .cipher, .enclave, .qos, .pair, .localPort, .ccp, .telem, .sent]
  | .reEnrol _ _ => [.den, .modes, .enclave, .qos, .pair, .localPort, .ccp, .telem, .sent]
  | .genCreate _ _ => [.den, .modes, .cipher, .enclave, .qos, .pair, .localPort, .ccp, .telem, .fresh, .sent]
  | .genActivate _ _ _ => [.den, .modes, .xport, .cmds, .cons, .layout, .cipher, .enclave, .qos, .pair, .localPort, .ccp, .telem, .sent]
  | .genSweep _ _ _ => [.den, .modes, .cipher, .pair, .localPort, .ccp, .telem, .sent]
  | .shelfRotate _ => [.den, .keep, .modes, .enclave, .qos, .pair, .localPort, .ccp, .telem, .fresh, .sent]
  | .fwLoad _ _ _ => [.den, .modes, .pair, .localPort, .ccp, .telem, .sent]
  | .fwCommit _ _ _ => [.den, .images, .modes, .pair, .localPort, .ccp, .telem, .sent]
  | .rollbackAdvance _ _ => [.den, .fuses, .modes, .pair, .localPort, .ccp, .telem, .sent]
  | .reset _ => [.den, .power, .keep, .elec, .boot, .modes, .spine, .net, .xport, .cmds, .cons, .layout, .cipher, .enclave, .qos, .pair, .drives, .margins, .localPort, .ccp, .telem, .regs, .blobs, .fresh, .sent]
  | .diagRun _ _ => [.den, .modes, .pair, .localPort, .ccp, .telem, .sent]
  | .lifecycleStep _ _ _ => [.den, .power, .keep, .fuses, .elec, .boot, .modes, .spine, .net, .xport, .cmds, .cons, .layout, .cipher, .enclave, .qos, .pair, .drives, .margins, .localPort, .ccp, .telem, .regs, .blobs, .fresh, .sent]
  | .rootBirth _ => [.den, .fuses, .modes, .pair, .localPort, .ccp, .telem, .fresh, .sent]
  | .unlockChallenge _ => [.den, .modes, .enclave, .pair, .localPort, .ccp, .telem, .fresh, .sent]
  | .debugUnlock _ _ => [.den, .modes, .enclave, .pair, .localPort, .ccp, .telem, .sent]
  | .lockdownClear _ => [.den, .keep, .modes, .pair, .localPort, .ccp, .telem, .sent]
  | .delegate _ _ _ => [.den, .modes, .pair, .localPort, .ccp, .telem, .regs, .sent]
  | .jobComplete _ _ => [.keep, .images, .cons, .layout, .cipher, .enclave, .qos, .pair, .drives, .ccp, .telem, .sent]
  | .bwWindowWrite _ _ _ => [.den, .power, .elec, .boot, .modes, .spine, .net, .xport, .cmds, .cons, .layout, .cipher, .enclave, .qos, .pair, .drives, .margins, .localPort, .ccp, .telem, .regs, .blobs, .sent]
  | .bwWindowEnd _ => [.telem]
  | .ccpRelay _ => [.den, .modes, .net, .xport, .cmds, .cons, .layout, .cipher, .enclave, .qos, .pair, .drives, .localPort, .ccp, .telem, .fresh, .sent]
  | .contain _ _ => [.den, .power, .elec, .boot, .modes, .spine, .net, .xport, .cmds, .cons, .layout, .cipher, .enclave, .qos, .pair, .drives, .margins, .localPort, .ccp, .telem, .regs, .blobs, .sent]
  | .drivePortRelease _ _ => [.den, .power, .elec, .boot, .modes, .spine, .net, .xport, .cmds, .cons, .layout, .cipher, .enclave, .qos, .pair, .drives, .margins, .localPort, .ccp, .telem, .regs, .blobs, .sent]
  | .clearRetry _ _ => [.den, .power, .elec, .boot, .modes, .spine, .net, .xport, .cmds, .cons, .layout, .cipher, .enclave, .qos, .pair, .drives, .margins, .localPort, .ccp, .telem, .regs, .blobs, .sent]
  | .cycle _ _ => [.den, .power, .elec, .boot, .modes, .spine, .net, .xport, .cmds, .cons, .layout, .cipher, .enclave, .qos, .pair, .drives, .margins, .localPort, .ccp, .telem, .regs, .blobs, .sent]
  | .freeze _ => [.den, .power, .elec, .boot, .modes, .spine, .net, .xport, .cmds, .cons, .layout, .cipher, .enclave, .qos, .pair, .drives, .margins, .localPort, .ccp, .telem, .regs, .blobs, .sent]
  | .localPortRelease _ => [.den, .power, .elec, .boot, .modes, .spine, .net, .xport, .cmds, .cons, .layout, .cipher, .enclave, .qos, .pair, .drives, .margins, .localPort, .ccp, .telem, .regs, .blobs, .sent]
  | .leaseMove _ _ => [.den, .power, .elec, .boot, .modes, .spine, .net, .xport, .cmds, .cons, .layout, .cipher, .enclave, .qos, .pair, .drives, .margins, .localPort, .ccp, .telem, .regs, .blobs, .sent]
  | .memberFail _ _ => [.den, .modes, .layout, .pair, .localPort, .ccp, .telem, .sent]
  | .reshapeStart _ _ => [.den, .power, .elec, .boot, .modes, .spine, .net, .xport, .cmds, .cons, .layout, .cipher, .enclave, .qos, .pair, .drives, .margins, .localPort, .ccp, .telem, .regs, .blobs, .sent]
  | .reshapePause _ _ => [.den, .power, .elec, .boot, .modes, .spine, .net, .xport, .cmds, .cons, .layout, .cipher, .enclave, .qos, .pair, .drives, .margins, .localPort, .ccp, .telem, .regs, .blobs, .sent]
  | .shaperConfigWrite _ _ _ => [.den, .power, .elec, .boot, .modes, .spine, .net, .xport, .cmds, .cons, .layout, .cipher, .enclave, .qos, .pair, .drives, .margins, .localPort, .ccp, .telem, .regs, .blobs, .sent]
  | .meterConfigWrite _ _ _ => [.den, .power, .elec, .boot, .modes, .spine, .net, .xport, .cmds, .cons, .layout, .cipher, .enclave, .qos, .pair, .drives, .margins, .localPort, .ccp, .telem, .regs, .blobs, .sent]
  | .estoreCfgWrite _ _ => [.den, .power, .elec, .boot, .modes, .spine, .net, .xport, .cmds, .cons, .layout, .cipher, .enclave, .qos, .pair, .drives, .margins, .localPort, .ccp, .telem, .regs, .blobs, .sent]
  | .unpair _ _ => [.den, .power, .boot, .modes, .spine, .xport, .cmds, .cons, .layout, .qos, .pair, .drives, .localPort, .ccp, .telem, .sent]
  | .retirePartner _ => [.den, .power, .keep, .boot, .modes, .spine, .layout, .qos, .pair, .localPort, .ccp, .telem, .sent]
  | .quorumOverride _ _ _ => [.den, .boot, .modes, .qos, .pair, .localPort, .ccp, .telem, .sent]
  | .alwaysOnSupplyRise _ _ => [.den]
  | .alwaysOnSupplyLoss => [.den, .power, .keep, .elec, .boot, .modes, .spine, .net, .xport, .cmds, .cons, .layout, .cipher, .enclave, .qos, .pair, .drives, .margins, .localPort, .ccp, .telem, .regs, .blobs]
  | .hbmPgAssert => [.den]
  | .corePgAssert _ _ => [.den, .power, .keep, .elec, .boot, .modes, .spine, .net, .xport, .cmds, .cons, .layout, .cipher, .enclave, .qos, .pair, .drives, .margins, .localPort, .ccp, .telem, .regs, .blobs, .fresh, .sent]
  | .powerGoodTimeout => [.den]
  | .powerRetryTimer => [.den]
  | .resetNAssert => [.den, .power, .elec, .boot, .modes, .spine, .net, .xport, .cmds, .cons, .layout, .cipher, .enclave, .qos, .pair, .drives, .margins, .localPort, .ccp, .telem, .regs, .blobs, .fresh]
  | .resetNRise _ _ => [.den]
  | .railExcursion _ => [.den, .power, .keep, .elec, .boot, .modes, .spine, .net, .xport, .cmds, .cons, .layout, .cipher, .enclave, .qos, .pair, .drives, .margins, .localPort, .ccp, .telem, .regs, .blobs, .fresh, .sent]
  | .clockFault => [.den, .power, .keep, .elec, .boot, .modes, .spine, .net, .xport, .cmds, .cons, .layout, .cipher, .enclave, .qos, .pair, .drives, .margins, .localPort, .ccp, .telem, .regs, .blobs, .fresh, .sent]
  | .internalFault => [.den, .power, .keep, .elec, .boot, .modes, .spine, .net, .xport, .cmds, .cons, .layout, .cipher, .enclave, .qos, .pair, .drives, .margins, .localPort, .ccp, .telem, .regs, .blobs, .fresh, .sent]
  | .controlWatchdogExpiry => [.den, .power, .keep, .elec, .boot, .modes, .spine, .net, .xport, .cmds, .cons, .layout, .cipher, .enclave, .qos, .pair, .drives, .margins, .localPort, .ccp, .telem, .regs, .blobs, .fresh, .sent]
  | .hbmTrainingComplete _ => [.den, .power, .keep, .elec, .boot, .modes, .spine, .net, .xport, .cmds, .cons, .layout, .cipher, .enclave, .qos, .pair, .drives, .margins, .localPort, .ccp, .telem, .regs, .blobs, .fresh, .sent]
  | .resetWipeComplete _ => [.den, .power, .keep, .boot, .modes, .spine, .xport, .cmds, .cons, .layout, .cipher, .enclave, .qos, .pair, .localPort, .ccp, .telem, .fresh, .sent]
  | .imageLoadComplete _ _ => [.den, .power, .elec, .boot, .modes, .spine, .net, .xport, .cmds, .cons, .layout, .cipher, .enclave, .qos, .pair, .drives, .margins, .localPort, .ccp, .telem, .regs, .blobs, .sent]
  | .firmwareStartTimeout => [.den, .power, .keep, .images, .elec, .boot, .modes, .spine, .net, .xport, .cmds, .cons, .layout, .cipher, .enclave, .qos, .pair, .drives, .margins, .localPort, .ccp, .telem, .regs, .blobs, .fresh, .sent]
  | .importStart _ _ _ => [.den, .power, .keep, .images, .elec, .boot, .modes, .spine, .net, .xport, .cmds, .cons, .layout, .cipher, .enclave, .qos, .pair, .drives, .margins, .localPort, .ccp, .telem, .regs, .blobs, .sent]
  | .modeDecision => [.den, .power, .keep, .boot, .modes, .spine, .xport, .cmds, .cons, .layout, .cipher, .enclave, .qos, .pair, .drives, .localPort, .ccp, .telem, .fresh, .sent]
  | .pairWaitExpiry _ => [.boot, .modes, .qos, .pair, .ccp, .telem, .sent]
  | .configImageWrite => [.boot, .layout, .qos]
  | .cpmSample _ _ => [.den, .power, .keep, .elec, .boot, .modes, .spine, .net, .xport, .cmds, .cons, .layout, .cipher, .enclave, .qos, .pair, .drives, .margins, .localPort, .ccp, .telem, .regs, .blobs, .fresh, .sent]
  | .avsRetryTimer _ => [.den, .elec, .ccp, .telem, .sent]
  | .thermalSample _ _ => [.den, .power, .elec, .boot, .modes, .spine, .net, .xport, .cmds, .cons, .layout, .cipher, .enclave, .qos, .pair, .drives, .margins, .localPort, .ccp, .telem, .regs, .blobs, .fresh, .sent]
  | .timeSample _ => [.pair]

end Sys2Proof

namespace Sys2Proof.Machine

/-! ### When a command runs -/

/-- An admin or Fabrics command is taken in: its queue exists and it is no second delivery of a capsule (R147, R164). -/
def State.takesAdmin (s : State) (q : AdminCmd) : Bool :=
  s.adminOk q && (decide (q.cntlid = 0) || !s.adminHeld q && (s.adminRecord q.ctx 0 q.cid q.pos).isNone)

/-- The command of a slot lies in the one extent `rec`, and this controller can stamp it at once: it owns the extent, nothing is held there,
and its admission is not shut (R172, R178, R184, R188, R189). -/
def State.stampsHere (s : State) (n rec : Nat) : Bool :=
  let p := s.slot n
  let x := span (s.ns p.handle).format p.slba p.nlb
  decide (s.extRec p.handle (x.1 / 262144) = rec) && decide ((extentParts x.1 x.2.1).length = 1) && decide (s.ownerOf rec = s.self) &&
    decide ((s.extent rec).held = []) && !s.admissionShut rec && decide ((s.extent rec).lastStamp.toNat % 2 ^ 40 ≠ 2 ^ 40 - 1) &&
    decide (s.cons.ovl.length + (regionParts x.1 x.2.1).length ≤ 262144) && decide (p.stamp = 0)

/-- A CCP request passes the checks of R483 that come before its session: it arrives on its carrier, outside M0, well formed, not to be relayed from
here, and the mode serves its group (R334, R478, R479, R481, R529). -/
def State.comesIn (s : State) (h : CcpHdr) (op : Nat) (group : Option Nat) : Bool :=
  !h.applied && (!h.relay || h.viaSett) && h.versionGood && decide (s.modes.mode ≠ .m0) && (decide (s.modes.mode ≠ .m5) || lockdownGroup group) &&
    (!s.boot.recovery || recoveryOpcode op) && s.ccpArrives h

/-- A CCP request in session `e` passes its checks up to the permission group: session, binding, MAC, ALIVE, group (R483 to R490). -/
def State.accepts (s : State) (h : CcpHdr) (op : Nat) (group : Option Nat) (e : Session) : Bool :=
  s.comesIn h op group && decide (h.session ≠ 0) && decide (tfind s.ccp.sessions h.session = some e) && e.bound h &&
    decide (e.sState = if op = 3 then 1 else 2) && h.macPresent && h.macGood && (e.aliveTake h.alive).isSome && decide (h.alive ≠ 0xFFFFFFFF) &&
    decide (s.groupStatus group (some e) = 0)

/-- A CCP request of session 0 passes its checks (R486, R488, R499). -/
def State.acceptsOpen (s : State) (h : CcpHdr) (op : Nat) (group : Option Nat) : Bool :=
  s.comesIn h op group && decide (h.session = 0) && zeroOpcode op && !h.macPresent && (decide (group = none) || decide (op = 0x33))

/-- A request has arrived: it ends a Den entry, restarts the idle descent and is no packet kept from M0 any more (R58, R65, R479). -/
def State.arrived (s : State) : State := (s.updCcp fun c => { c with m0Packet := false }).wakeIdle.cancelDen

/-- A session once it has taken a request: ALIVE accepted, the idle timer restarted, a long reply let go (R489 to R492). -/
def Session.taking (e : Session) (h : CcpHdr) (op now : Nat) : Session :=
  { (e.aliveTake h.alive).getD e with
    lastNs := now, running := (h.alive, h.tag, h.crc) :: e.running, longReply := if op = 0x0A then e.longReply else [] }

/-- The state in which the last checks of a request of session `e` are made. -/
def State.admitted (s : State) (h : CcpHdr) (op : Nat) (e : Session) : State := s.arrived.updSession h.session fun _ => e.taking h op s.now

/-- The state a request of session `e` runs in: it has passed every check, and is counted. -/
def State.entered (s : State) (h : CcpHdr) (op : Nat) (e : Session) : State := (s.admitted h op e).bump cCcpAccepted 0

/-- The state a request of session 0 runs in. -/
def State.enteredOpen (s : State) (h : CcpHdr) (op : Nat) : State :=
  (if op = 0x0A then s.arrived else s.arrived.updCcp fun c => { c with zeroLong := tdel c.zeroLong h.transport }).bump cCcpAccepted 0

/-- The newest reply kept in a request's session has this STATUS. -/
abbrev State.answered (s : State) (h : CcpHdr) (status : Nat) : Prop := (s.session h.session).cache.head?.map (·.status) = some status

/-- A job of this opcode runs under number `j`. -/
abbrev State.jobRuns (s : State) (h : CcpHdr) (j op arg : Nat) : Prop :=
  tfind s.ccp.jobs j = some { jState := 1, opcode := op, session := h.session, arg := arg }

end Sys2Proof.Machine
end

