-- ==== Sys2Proof/Certificates/Slice0/Obligations.lean ====
section
/-! DEFINITION. What is to be proved of the model. O1 to O21 are about every command or about one rule of the spec; the statements after them say, for each
command, where it completes and with which effect: one clause for each command, its hypotheses on the state and the operands alone. The hypotheses on a
CCP request say that it passes the checks of R483 (`accepts`, `acceptsOpen`) and run on the state that follows them (`entered`, `enteredOpen`). -/
section
open Sys2Proof Sys2Proof.Machine

/-- O1. A step runs the command at the front of the queue, on the state with the queue's rest. On an empty queue it answers the state one clock
later: the model's own choice (log 1). -/
def Obligations.StepTakesTheFront : Prop :=
  (∀ (c : Instr) (rest : List Instr) (s : State), s.pending = c :: rest → step s = exec c { s with pending := rest }) ∧
  (∀ s : State, s.pending = [] → step s = .next { s with den := { s.den with timeNs := s.den.timeNs + 40 } })

/-- O2. What reset leaves: MODE_STATUS at the reset values of R66, an empty queue, and the invariant of the block. The reset values that the spec does not
state are the model's own (log 6). -/
def Obligations.ResetState : Prop :=
  State.reset.modeStatusWord = 0x2400000000000000 ∧ State.reset.modes.mode = .m1 ∧ State.reset.pending = [] ∧ sound State.reset

/-- O3. Every step keeps the invariant: LIFE_CYCLE holds one of its five codes and in SCRAPPED the root is disabled; no image slot counts more than two
failures to start; the image store and the register file are in their canonical form. -/
def Obligations.StepKeepsSound : Prop := ∀ s t : State, sound s → step s = .next t → sound t

/-- O4. The frame of every command: of all the groups of the state, a completed command changes at most those its footprint lists. No footprint lists the
queue, so a command never changes it. -/
def Obligations.FrameOfEveryCommand : Prop :=
  (∀ (i : Instr) (s t : State), exec i s = .next t → onlyChanges (footprint i) s t) ∧ ∀ i : Instr, Grp.pending ∉ footprint i

/-- O5. Every well-formed command completes in every state: a well-formed command never ends in a fault or a refusal. -/
def Obligations.WellFormedCompletes : Prop := ∀ (i : Instr) (s : State), wellFormed i = true → ∃ t, exec i s = .next t

/-- O6. Only a life-cycle step, the birth of the root and an advance of the anti-rollback count change a fuse; only the end of a job, a commit, a failed
start of an image and an import change the image store. -/
def Obligations.FusesAndImagesChangeOnlyBy : Prop :=
  (∀ (i : Instr) (s t : State), exec i s = .next t → t.fuses ≠ s.fuses →
    (∃ h target prov, i = .lifecycleStep h target prov) ∨ (∃ h, i = .rootBirth h) ∨ ∃ h count, i = .rollbackAdvance h count) ∧
  (∀ (i : Instr) (s t : State), exec i s = .next t → t.images ≠ s.images →
    (∃ h length image, i = .fwCommit h length image) ∨ (∃ job status, i = .jobComplete job status) ∨ i = .firmwareStartTimeout ∨
      ∃ pools conf quorum, i = .importStart pools conf quorum)

/-- O7. A completed command leaves LIFE_CYCLE as it was, or takes one of the steps of R324. -/
def Obligations.LifeCycleFollowsTheTable : Prop := ∀ (i : Instr) (s t : State), exec i s = .next t →
  t.fuses.lifeCycle = s.fuses.lifeCycle ∨
    (s.fuses.lifeCycle, t.fuses.lifeCycle) ∈ [(0, 1), (1, 3), (1, 7), (3, 7), (0, 15), (1, 15), (3, 15), (7, 15)]

/-- O8. What fuses once blown stay: no completed command lowers the anti-rollback count, replaces a device root, re-enables a disabled one, or changes masks,
ceilings, DEBUG_LOCK or OWNER_KEY_HASH outside BLANK. -/
def Obligations.BlownFusesStay : Prop := ∀ (i : Instr) (s t : State), exec i s = .next t →
  s.fuses.antiRollback ≤ t.fuses.antiRollback ∧ t.fuses.deviceId = s.fuses.deviceId ∧
  (s.fuses.rootPresent = true → t.fuses.rootPresent = true ∧ t.fuses.deviceRoot = s.fuses.deviceRoot) ∧
  (s.fuses.rootDisabled = true → t.fuses.rootDisabled = true) ∧
  (s.fuses.lifeCycle ≠ 0 → t.fuses.maskShelf = s.fuses.maskShelf ∧ t.fuses.maskTenant = s.fuses.maskTenant ∧
    t.fuses.maskService = s.fuses.maskService ∧ t.fuses.energyCeilJ = s.fuses.energyCeilJ ∧ t.fuses.slotCeil = s.fuses.slotCeil ∧
    t.fuses.debugLock = s.fuses.debugLock ∧ t.fuses.ownerHash = s.fuses.ownerHash)

/-- O9. R327: an accepted ROLLBACK_ADVANCE with a count above ANTIROLLBACK and not above the SVN of the running image, which is at most 128, blows the fuses up
to that count; with any other it is rejected with 0x0606 and blows none. At 128 no further advance is possible, and images of SVN 128 still run. -/
def Obligations.RollbackAdvance : Prop :=
  (∀ (h : CcpHdr) (e : Session) (count : Nat) (s : State), s.accepts h 0x42 (some 14) e = true →
    ∃ t, exec (.rollbackAdvance h count) s = .next t ∧
      (if s.fuses.antiRollback < count ∧ count ≤ s.boot.svn ∧ count ≤ 128 then t.fuses = { s.fuses with antiRollback := count } ∧ t.answered h 0
      else t.fuses = s.fuses ∧ t.answered h 0x0606)) ∧
  (∀ (h : CcpHdr) (count : Nat) (s t : State), s.fuses.antiRollback = 128 → exec (.rollbackAdvance h count) s = .next t → t.fuses = s.fuses) ∧
  (∀ (i : ImageCheck) (s : State), i.ecdsaGood = true → i.mlDsaGood = true → i.svn = 128 → s.fuses.antiRollback ≤ 128 → s.imageOk i = true)

/-- O10. A CCP request that passes the checks of R483 runs, over every carrier: in a session, on the state with its ALIVE taken; in session 0, with the long
reply of its carrier let go. -/
def Obligations.AcceptedRequestRuns : Prop :=
  (∀ (h : CcpHdr) (op : Nat) (group : Option Nat) (e : Session) (perm : Session → Nat) (run : State → State) (s : State),
    s.accepts h op group e = true → perm (e.taking h op s.now) = 0 → s.ccpTake h op group perm run = run (s.entered h op e)) ∧
  (∀ (h : CcpHdr) (op : Nat) (group : Option Nat) (perm : Session → Nat) (run : State → State) (s : State),
    s.acceptsOpen h op group = true → s.ccpTake h op group perm run = run (s.enteredOpen h op))

/-- O11. A request whose permission group the role's fused mask does not grant is refused with 0x0601 and does not run, whatever it is. -/
def Obligations.UngrantedRequestRefused : Prop :=
  ∀ (h : CcpHdr) (op group : Nat) (e : Session) (perm : Session → Nat) (run : State → State) (s : State),
    s.accepts h op none e = true → s.grants e group = false →
    s.ccpTake h op (some group) perm run = (s.admitted h op e).ccpReply h op 0x0601 []

/-- O12. In M5 a request of a granted group runs where the group is one of STATUS_READ, COUNTER_READ, CRYPTO_ERASE, LIFECYCLE, DIAG and LOCKDOWN_CLEAR, or the
request needs no group; any other is refused with 0x0301. -/
def Obligations.LockdownServesOnly : Prop :=
  ∀ (h : CcpHdr) (op : Nat) (group : Option Nat) (e : Session) (perm : Session → Nat) (run : State → State) (s : State),
    s.modes.mode = .m5 → s.accepts h op none e = true → (∀ n, group = some n → s.grants e n = true) → perm (e.taking h op s.now) = 0 →
    s.ccpTake h op group perm run =
      if group = none ∨ ∃ n, group = some n ∧ n ∈ [0, 1, 9, 16, 17, 21] then run (s.entered h op e)
      else (s.admitted h op e).ccpReply h op 0x0301 []

/-- O13. No ALIVE value of a session is accepted twice: one accepted is seen and rejected from then on, HIGH never falls, and a value at or below HIGH that is
rejected stays rejected. -/
def Obligations.AliveTakenOnce : Prop := ∀ (e e1 : Session) (a : Nat), e.aliveTake a = some e1 →
  e1.aliveTake a = none ∧ e1.seen a = true ∧ e.high ≤ e1.high ∧ ∀ b, b ≤ e.high → e.aliveTake b = none → e1.aliveTake b = none

/-- O14. Sessions have the numbers 1 to 64 and are bound to their carrier: a SESSION_OPEN that finds none free is rejected with 0x0402; a request that does not come
by the session's carrier, or on the VLAN not from its source, is refused with 0x0201. -/
def Obligations.SessionsAreBounded : Prop :=
  (∀ (h : CcpHdr) (role tenant nonce pubKey : Nat) (s : State), s.acceptsOpen h 0x02 none = true → s.ccp.holdOff.contains (carrierOf h) = false →
    role = 1 ∨ role = 3 ∨ role = 4 → roleAccepted s.fuses.lifeCycle role = true → tfreeFrom s.ccp.sessions 1 64 = none →
    exec (.sessionOpen h role tenant nonce pubKey true) s = .next ((s.enteredOpen h 0x02).ccpReply h 0x02 0x0402 [])) ∧
  (∀ (t : Tbl Session) (id : Nat), tfreeFrom t 1 64 = some id → 1 ≤ id ∧ id ≤ 64 ∧ thas t id = false) ∧
  (∀ (h : CcpHdr) (op : Nat) (group : Option Nat) (e : Session) (perm : Session → Nat) (run : State → State) (s : State),
    s.comesIn h op group = true → h.session ≠ 0 → tfind s.ccp.sessions h.session = some e → e.bound h = false →
    s.ccpTake h op group perm run = s.arrived.ccpRefuse h op 0x0201) ∧
  (∀ (h : CcpHdr) (e : Session),
    e.bound h = true ↔ e.viaSett = h.viaSett ∧ e.transport = h.transport ∧ (h.transport = 1 → e.src = h.src))

/-- O15. R214: the powers of α are distinct for chunks 0 to 27, and so are their squares; the missing data chunks of a stripe are rebuilt from the others and as
many of its checks. -/
def Obligations.LostChunksRebuilt : Prop :=
  (∀ i j, i < 28 → j < 28 → (gfPow i = gfPow j → i = j) ∧ (gfPow (2 * i) = gfPow (2 * j) → i = j)) ∧
  ∀ (d : Nat → Bytes) (lost present checks : List Nat),
    (lost ++ present).Nodup → (∀ j ∈ lost ++ present, j < 28) → checks.Nodup → (∀ i ∈ checks, 1 ≤ i ∧ i ≤ 3) → lost.length ≤ checks.length →
    rebuildData lost (present.map fun j => (j, d j)) (checks.map fun i => (i, checkBytes i ((lost ++ present).map fun j => (j, d j)))) =
      some (lost.map fun j => (j, covered (d j)))

/-- O16. A WRITE_OBJ that its check rejects leaves every object as it was: of the state only the reply, the session's reply cache, counters and the arbiter's
CONFLICT_COUNT can differ. -/
def Obligations.RefusedWriteChangesNothing : Prop :=
  ∀ (h : CcpHdr) (id off : Nat) (b : Bytes) (s : State), (s.writeCheck h.session id off b).code ≠ 0 →
    onlyChanges [.spine, .localPort, .ccp, .pair, .telem, .sent] s (s.objWrite h id off b)

/-- O17. A word object reads back what was written, and no other word object changes, where the register file is canonical. -/
def Obligations.ObjectReadsBack : Prop :=
  ∀ (id v : Nat) (s : State), regsCanonical s → v < 2 ^ 64 → (s.setWord id v).word id = v ∧ ∀ j, j ≠ id → (s.setWord id v).word j = s.word j

/-- O18. A stamp issued has a STAMP_SEQ that is not 0, is the extent's LAST_STAMP from then on, and is one above the LAST_STAMP before, unless the sequence has
ended. -/
def Obligations.StampsRise : Prop := ∀ (rec handle : Nat) (s : State),
  (s.issueStamp rec handle).1.toNat % 2 ^ 40 ≠ 0 ∧
  ((s.issueStamp rec handle).2.extent rec).lastStamp = (s.issueStamp rec handle).1 ∧
  ((s.extent rec).lastStamp.toNat % 2 ^ 40 ≠ 2 ^ 40 - 1 → (s.issueStamp rec handle).1.toNat = (s.extent rec).lastStamp.toNat + 1)

/-- O19. R435: with the gate on, the trip comparator turns the gate off in every state of the slot and records fault TRIP, code 1. -/
def Obligations.TripTurnsTheGateOff : Prop := ∀ (slot : Nat) (s : State), slot < 64 → (s.slotPwr slot).gateOn = true →
  ∃ t, exec (.slotTrip slot) s = .next t ∧ (t.slotPwr slot).gateOn = false ∧ (t.slotPwr slot).lastFault = 1

/-- O20. The check values of the two CRCs over the bytes of "123456789"; a computation resumes where it stopped; and a number of `n` bytes reads back from its
little-endian bytes. -/
def Obligations.CheckValuesAndByteOrder : Prop :=
  crc32c [0x31, 0x32, 0x33, 0x34, 0x35, 0x36, 0x37, 0x38, 0x39] = 0xE3069283 ∧
  crc64 [0x31, 0x32, 0x33, 0x34, 0x35, 0x36, 0x37, 0x38, 0x39] = 0xAE8B14860A799888 ∧
  (∀ (poly start : Nat) (a b : Bytes), crcRun poly start (a ++ b) = crcRun poly (crcRun poly start a) b) ∧
  (∀ n v : Nat, leNat (leBytes n v) = v % 256 ^ n)

/-- O21. A command that names a unit the hardware does not have stops with the fault noSuchUnit: ports above 15, slots above 63, contexts above 2,097,151, groups above
7, pools above 7, check-value units above 7 (log 8). -/
def Obligations.MissingUnitsFault : Prop :=
  (∀ (slot : Nat) (s : State), 64 ≤ slot → exec (.slotTrip slot) s = .fault .noSuchUnit ∧ exec (.driveL1Idle slot) s = .fault .noSuchUnit) ∧
  (∀ (port : Nat) (s : State), 16 ≤ port → exec (.egressDispatch port) s = .fault .noSuchUnit ∧ exec (.bwWindowEnd port) s = .fault .noSuchUnit) ∧
  (∀ (lag : Nat) (s : State), 8 ≤ lag → exec (.stepWindowEnd lag) s = .fault .noSuchUnit) ∧
  (∀ (index : Nat) (s : State), 2097152 ≤ index → exec (.contextWritebackCommit index) s = .fault .noSuchUnit) ∧
  (∀ (h : CcpHdr) (pool : Nat) (s : State), 8 ≤ pool → exec (.reshapeStart h pool) s = .fault .noSuchUnit) ∧
  (∀ (h : CcpHdr) (unit alg : Nat) (s : State), 8 ≤ unit → exec (.cvuInit h unit alg) s = .fault .noSuchUnit)
/-- O22. Commands of the supplies, clocks, sensors and voltage settings, part 1 of 2: each of ALWAYS_ON_SUPPLY_RISE, ALWAYS_ON_SUPPLY_LOSS, HBM_PG_ASSERT, CORE_PG_ASSERT, POWER_GOOD_TIMEOUT, POWER_RETRY_TIMER, RESET_N_ASSERT, RESET_N_RISE completes in every state that meets the hypotheses of its clause, and the clause says what the next
state holds. -/
def Obligations.CompletesElectricalA : Prop :=
  -- ALWAYS_ON_SUPPLY_RISE
  (∀ (idx : Bool) (s : State), s.den.seq = .off → ∃ t, exec (.alwaysOnSupplyRise idx false) s = .next t ∧ t.den.timeNs = 0 ∧
      t.den.pins.strapIdx = idx ∧ t.den.pins.hbmPwrEn = true) ∧
  -- ALWAYS_ON_SUPPLY_LOSS
  (∀ (s : State), ∃ t, exec .alwaysOnSupplyLoss s = .next t ∧ t.den = {} ∧ t.keep = {} ∧ t.layout.larder = [] ∧ t.fuses = s.fuses ∧
      t.images = s.images) ∧
  -- HBM_PG_ASSERT
  (∀ (s : State), s.den.seq = .hbmWait → s.den.pins.resetNLow = false → ∃ t, exec .hbmPgAssert s = .next t ∧ t.den.pins.hbmPg = true ∧
      t.den.pins.corePwrEn = true ∧ t.den.seq = .coreWait) ∧
  -- CORE_PG_ASSERT
  (∀ (restore : DenRestore) (s : State), s.den.seq = .coreWait → s.modes.mode ≠ .m0 → legalLifeCycle s.fuses.lifeCycle = true →
      s.fuses.marginal = false → ∃ t, exec (.corePgAssert {} restore) s = .next t ∧ t.boot.bootStep = 3) ∧
  -- POWER_GOOD_TIMEOUT
  (∀ (s : State), (s.den.seq = .hbmWait ∨ s.den.seq = .coreWait) → s.den.seqFails < 2 → ∃ t, exec .powerGoodTimeout s = .next t ∧
      t.den.seq = .retryWait ∧ t.den.seqFails = s.den.seqFails + 1 ∧ t.den.pins.corePwrEn = false) ∧
  -- POWER_RETRY_TIMER
  (∀ (s : State), s.den.seq = .retryWait → ∃ t, exec .powerRetryTimer s = .next t ∧ t.den.pins.hbmPwrEn = true) ∧
  -- RESET_N_ASSERT
  (∀ (s : State), s.den.seq ≠ .off → s.den.pins.resetNLow = false → s.layout.holdup = none → s.tripHolds = false →
      ∃ t, exec .resetNAssert s = .next t ∧ t.modes.mode = .m1 ∧ t.modes.lastCause = 0x01 ∧ t.den.pins.corePwrEn = false ∧ t.ccp.sessions = []) ∧
  -- RESET_N_RISE
  (∀ (idx : Bool) (s : State), s.den.pins.resetNLow = true → s.den.seq = .heldInReset → s.den.stopped = false →
      ∃ t, exec (.resetNRise idx false) s = .next t ∧ t.den.pins.resetNLow = false ∧ t.den.pins.strapIdx = idx ∧ t.den.pins.hbmPwrEn = true)

/-- O23. Commands of the supplies, clocks, sensors and voltage settings, part 2 of 2: each of RAIL_EXCURSION, CLOCK_FAULT, INTERNAL_FAULT, CONTROL_WATCHDOG_EXPIRY, CPM_SAMPLE, AVS_RETRY_TIMER, THERMAL_SAMPLE completes in every state that meets the hypotheses of its clause, and the clause says what the next
state holds. -/
def Obligations.CompletesElectricalB : Prop :=
  -- RAIL_EXCURSION
  (∀ (rail : Nat) (s : State), 6 ≤ rail → rail ≤ 14 → s.den.pins.corePwrEn = true → legalLifeCycle s.fuses.lifeCycle = true →
      s.fuses.marginal = false → ∃ t, exec (.railExcursion rail) s = .next t ∧ t.modes.mode = .m1 ∧ t.modes.lastCause = 0x03 ∧ t.cmds = {} ∧
      t.xport = {}) ∧
  -- CLOCK_FAULT
  (∀ (s : State), legalLifeCycle s.fuses.lifeCycle = true → s.fuses.marginal = false → ∃ t, exec .clockFault s = .next t ∧ t.modes.mode = .m1 ∧
      t.modes.lastCause = 0x03 ∧ t.cmds = {} ∧ t.xport = {}) ∧
  -- INTERNAL_FAULT
  (∀ (s : State), legalLifeCycle s.fuses.lifeCycle = true → s.fuses.marginal = false → ∃ t, exec .internalFault s = .next t ∧ t.modes.mode = .m1 ∧
      t.modes.lastCause = 0x03 ∧ t.pair.lastFault = 0x0B ∧ t.cmds = {}) ∧
  -- CONTROL_WATCHDOG_EXPIRY
  (∀ (s : State), legalLifeCycle s.fuses.lifeCycle = true → s.fuses.marginal = false → ∃ t, exec .controlWatchdogExpiry s = .next t ∧
      t.modes.mode = .m1 ∧ t.modes.lastCause = 0x03 ∧ t.cmds = {}) ∧
  -- CPM_SAMPLE
  (∀ (slackPs : Nat) (acked : Bool) (s : State), slackPs < s.marginCfgCpmTargetPs → s.elec.avsFault = false → s.elec.avsPending = none →
      s.elec.vcoreMv < 860 → acked = true → ∃ t, exec (.cpmSample slackPs acked) s = .next t ∧ t.elec.vcoreMv = s.elec.vcoreMv + 5 ∧
      t.elec.avsRetries = 0) ∧
  -- AVS_RETRY_TIMER
  (∀ (mv : Nat) (s : State), s.elec.avsPending = some mv → ∃ t, exec (.avsRetryTimer true) s = .next t ∧ t.elec.vcoreMv = mv ∧
      t.elec.avsPending = none ∧ t.elec.avsRetries = 0) ∧
  -- THERMAL_SAMPLE
  (∀ (die stack : List Nat) (s : State), greatest die < 100 → greatest stack < 92 → ∃ t, exec (.thermalSample die stack) s = .next t ∧
      t.elec.dieC = greatest die ∧ t.elec.stackC = greatest stack ∧ (85 < greatest stack → t.elec.refreshHot = true) ∧ (greatest stack < 82 →
      t.elec.refreshHot = false))

/-- O24. Commands of bring-up, modes, islands and power states, part 1 of 2: each of HBM_TRAINING_COMPLETE, RESET_WIPE_COMPLETE, IMAGE_LOAD_COMPLETE, FIRMWARE_START_TIMEOUT, IMPORT_START, MODE_DECISION, PAIR_WAIT_EXPIRY, CONFIG_IMAGE_WRITE, FLIT_ARRIVAL, ISLAND_IDLE_EXPIRY completes in every state that meets the hypotheses of its clause, and the clause says what the next
state holds. -/
def Obligations.CompletesBringupAndModesA : Prop :=
  -- HBM_TRAINING_COMPLETE
  (∀ (s : State), s.boot.bootStep = 3 → s.elec.halted = false → ∃ t, exec (.hbmTrainingComplete true) s = .next t ∧ t.boot.bootStep = 4 ∧
      t.boot.trainingFails = 0) ∧
  -- RESET_WIPE_COMPLETE
  (∀ (s : State), s.boot.bootStep = 4 → s.keep.latch = false → s.fuses.lifeCycle ≠ 15 → s.recoveryDue = false →
      ∃ t, exec (.resetWipeComplete true) s = .next t ∧ t.boot.bootStep = 5 ∧ t.den.hbmRetained = true ∧
      t.boot.larderKept = (s.den.hbmRetained && decide (s.layout.larderToken = s.den.larderToken))) ∧
  -- IMAGE_LOAD_COMPLETE
  (∀ (slotB : Bool) (image : ImageCheck) (s : State), s.boot.bootStep = 5 → s.boot.recovery = false → s.modes.mode = .m1 → slotB = s.dueSlot →
      s.imageOk image = true → ∃ t, exec (.imageLoadComplete slotB image) s = .next t ∧ (image.settings = [] →
      t.enclave.aliasSeed = Config.kdf s.fuses.deviceRoot 3 [image.digest % 2 ^ 128, image.svn, s.fuses.lifeCycle] ∧ t.boot.bootStep = 6 ∧
      t.boot.slotB = slotB ∧ t.boot.svn = image.svn)) ∧
  -- FIRMWARE_START_TIMEOUT
  (∀ (s : State), s.boot.bootStep = 6 → s.modes.mode = .m1 → legalLifeCycle s.fuses.lifeCycle = true → s.fuses.marginal = false →
      ∃ t, exec .firmwareStartTimeout s = .next t ∧ t.modes.lastCause = 0x03 ∧ t.boot.bootStep = 3 ∧
      t.images = tmod {} (slotNum s.boot.slotB) (fun i => { i with startFails := min 2 (i.startFails + 1) }) s.images) ∧
  -- IMPORT_START
  (∀ (pools : List PoolImport) (conf : List ConfCopy) (quorum : List QuorumRead) (s : State), s.modes.mode = .m1 → s.boot.bootStep = 6 →
      s.boot.recovery = false → s.dirOlder (pools.filter fun p => decide (p.pool < 8)) = false →
      ∃ t, exec (.importStart pools conf quorum) s = .next t ∧
      t.keep.dirSeq = (pools.filter fun p => decide (p.pool < 8)).foldl (fun m p => tput m p.pool (max p.dirSeq (tget 0 m p.pool))) s.keep.dirSeq ∧
      t.images = tadj (slotNum s.boot.slotB) (fun i => { i with startFails := 0 }) s.images) ∧
  -- MODE_DECISION
  (∀ (s : State), s.modes.mode = .m1 → s.boot.recovery = false → s.modes.denLeft = none → s.decisionReady = true → s.pairCfgPairEn = 0 →
      s.layout.holdup = none → ∃ t, exec .modeDecision s = .next t ∧ t.modes.mode = .m2 ∧ t.modes.lastCause = 0x10) ∧
  -- PAIR_WAIT_EXPIRY
  (∀ (quorum : List QuorumRead) (s : State), s.modes.mode = .m1 → s.pairCfgPairEn = 1 → s.boot.bootStep = 12 → s.boot.recovery = false →
      s.pair.pairStep < 2 → (s.blocksRead quorum).blocksPermit = false → s.boot.overridden = false → ∃ t, exec (.pairWaitExpiry quorum) s = .next t ∧
      t.pair.state = 5 ∧ t.modes.mode = .m1) ∧
  -- CONFIG_IMAGE_WRITE
  (∀ (s : State), s.boot.confDue = true → ∃ t, exec .configImageWrite s = .next t ∧ t.boot.confSeq = s.boot.confSeq + 1 ∧ t.boot.confDue = false) ∧
  -- FLIT_ARRIVAL
  (∀ (island flit : Nat) (s : State), island < 16 → s.modes.mode ≠ .m0 → ∃ t, exec (.flitArrival island flit true) s = .next t ∧
      t.islandOpen island = true ∧ t.spine.resent = dropOne flit s.spine.resent) ∧
  -- ISLAND_IDLE_EXPIRY
  (∀ (island : Nat) (s : State), island < 16 → s.modes.mode ≠ .m0 → s.islandPinned island = false → thas s.spine.holdQueue island = false →
      ∃ t, exec (.islandIdleExpiry island) s = .next t ∧ t.islandOpen island = false)

/-- O25. Commands of bring-up, modes, islands and power states, part 2 of 2: each of IDLE_LEVEL_TIMER, DEN_ENTRY_START, DEN_COMMIT_TIMEOUT, DRIVE_SHUTDOWN_COMPLETE, WAKE_FRAME, DEN_WAKE_TIMER_EXPIRY, SETT_WAKE_IN_ASSERT, DEN_COMMIT, TIME_SAMPLE, DRIVE_SHUTDOWN_TIMEOUT completes in every state that meets the hypotheses of its clause, and the clause says what the next
state holds. -/
def Obligations.CompletesBringupAndModesB : Prop :=
  -- IDLE_LEVEL_TIMER
  (∀ (level : Nat) (s : State), (s.modes.mode = .m1 ∨ s.modes.mode = .m5) → s.modes.idleLevel < level → level ≤ 3 → s.busyIdle = false →
      ∃ t, exec (.idleLevelTimer level) s = .next t ∧ t.modes.idleLevel = level ∧ t.modes.mode = s.modes.mode) ∧
  -- DEN_ENTRY_START
  (∀ (partnerIdle : Bool) (s : State), s.denReady partnerIdle = true → s.modes.mode = .m2 → s.denCfgDriveOff = 0 → s.modes.wakeLatched = none →
      ∃ t, exec (.denEntryStart partnerIdle) s = .next t ∧ t.modes.mode = .m0 ∧ t.modes.lastCause = 0x20 ∧ t.modes.denLeft = some .m2 ∧
      t.pair.beatsStopped = true ∧ t.pair.settA = false) ∧
  -- DEN_COMMIT_TIMEOUT
  (∀ (e : DenEntry) (s : State), s.modes.denEntry = some e → e.entryStep = 3 → ∃ t, exec .denCommitTimeout s = .next t ∧ t.modes.denEntry = none ∧
      t.modes.denSaved = false ∧ t.modes.mode = s.modes.mode) ∧
  -- DRIVE_SHUTDOWN_COMPLETE
  (∀ (slot : Nat) (e : DenEntry) (s : State), slot < 64 → s.modes.denEntry = some e → e.entryStep = 5 → e.drivesWaiting.contains slot = true →
      dropOne slot e.drivesWaiting ≠ [] → ∃ t, exec (.driveShutdownComplete slot) s = .next t ∧
      t.modes.denEntry = some { e with drivesWaiting := dropOne slot e.drivesWaiting } ∧
      t.power.slots = tmod {} slot (fun q => { q with pState := 0, gateOn := false, enhanced := false, perstHigh := false }) s.power.slots) ∧
  -- WAKE_FRAME
  (∀ (f : WakeFrame) (s : State), s.modes.mode = .m0 → s.den.seq = .denRunning → f.fcsGood = true → f.unicastToUs = true → f.etherType = 0x88B5 →
      f.code = s.denCfgWakeCode → ∃ t, exec (.wakeFrame f) s = .next t ∧ t.modes.wakeSource = 1 ∧ t.den.pins.corePwrEn = true ∧
      t.den.pins.settWakeOut = true ∧ t.den.seq = .coreWait) ∧
  -- DEN_WAKE_TIMER_EXPIRY
  (∀ (s : State), s.modes.mode = .m0 → s.den.seq = .denRunning → s.denCfgWakeTimerMin ≠ 0 → ∃ t, exec .denWakeTimerExpiry s = .next t ∧
      t.modes.wakeSource = 5 ∧ t.den.pins.corePwrEn = true ∧ t.den.pins.settWakeOut = true ∧ t.den.seq = .coreWait) ∧
  -- SETT_WAKE_IN_ASSERT
  (∀ (s : State), s.modes.mode = .m0 → s.den.seq = .denRunning → ∃ t, exec .settWakeInAssert s = .next t ∧ t.modes.wakeSource = 7 ∧
      t.den.pins.corePwrEn = true ∧ t.den.pins.settWakeOut = true ∧ t.den.seq = .coreWait) ∧
  -- DEN_COMMIT
  (∀ (e : DenEntry) (s : State), s.modes.denEntry = some e → e.entryStep = 3 → s.denCfgDriveOff = 0 → s.modes.wakeLatched = none →
      ∃ t, exec .denCommit s = .next t ∧ t.modes.mode = .m0 ∧ t.modes.denLeft = some e.fromMode ∧ t.pair.beatsStopped = true) ∧
  -- TIME_SAMPLE
  (∀ (partnerNs : Nat) (s : State), s.paired = true → s.settUp = true → ∃ t, exec (.timeSample partnerNs) s = .next t ∧
      t.pair.timeOffset = (partnerNs : Int) - (s.now : Int) ∧ t.den = s.den) ∧
  -- DRIVE_SHUTDOWN_TIMEOUT
  (∀ (slot : Nat) (e : DenEntry) (s : State), slot < 64 → s.modes.denEntry = some e → e.entryStep = 5 → e.drivesWaiting.contains slot = true →
      dropOne slot e.drivesWaiting ≠ [] → ∃ t, exec (.driveShutdownTimeout slot) s = .next t ∧
      t.modes.denEntry = some { e with drivesWaiting := dropOne slot e.drivesWaiting } ∧
      t.power.slots = tmod {} slot (fun q => { q with pState := 0, gateOn := false, enhanced := false, perstHigh := false }) s.power.slots)

/-- O26. Commands of host commands and controllers, part 1 of 3: each of SET_FEATURES_POWER_MGMT, POWER_STATE_ENTRY_END, CONNECT, PROPERTY_GET, PROPERTY_SET, DISCONNECT, IDENTIFY, GET_LOG_PAGE, SET_FEATURES_ARBITRATION, SET_FEATURES_NUM_QUEUES completes in every state that meets the hypotheses of its clause, and the clause says what the next
state holds. -/
def Obligations.CompletesCommandsA : Prop :=
  -- SET_FEATURES_POWER_MGMT
  (∀ (q : AdminCmd) (ps : Nat) (s : State), s.takesAdmin q = true → q.cntlid ≠ 0 → ps ≤ 2 → s.modes.psEntry = none →
      (s.updFab q.cntlid fun f => { f with vote := ps }).votedPs = s.modes.nvmePs → ∃ t, exec (.setFeaturesPowerMgmt q ps) s = .next t ∧
      ∃ u : State, t = u.adminDone q stOk 0 ∧ (u.fab q.cntlid).vote = ps ∧ u.modes.nvmePs = s.modes.nvmePs) ∧
  -- POWER_STATE_ENTRY_END
  (∀ (e : PsEntry) (s : State), s.modes.psEntry = some e → e.target = 1 → ∃ t, exec .powerStateEntryEnd s = .next t ∧ t.modes.nvmePs = 1 ∧
      t.modes.psEntry = none) ∧
  -- CONNECT
  (∀ (q : ConnectCmd) (host n : Nat) (s : State), s.inService = true → (s.ctx q.ctx).state = 2 → s.adminRecord q.ctx q.qid q.cid q.pos = none →
      s.hostMatch q.nqn q.hostid = some host → q.qid = 0 → 0 < q.katoMs → q.katoMs ≤ 300000 → q.disableFlow = false → 0 < q.depth → q.depth ≤ 32 →
      s.carriesNone q.ctx = true → q.subsysMatch = true → s.freeCntlid = some n → ∃ t, exec (.connect q) s = .next t ∧
      ∃ u : State, t = u.connectReply q stOk n ∧
      tfind u.cmds.fab n = some { live := true, hostId := host, tenant := (s.host host).tenant, adminCtx := q.ctx, discovery := q.discovery, katoMs := ceilDiv q.katoMs 100 * 100, katoNs := s.now, queues := [(0, (q.ctx, q.depth, 1 % q.depth))] }) ∧
  -- PROPERTY_GET
  (∀ (q : AdminCmd) (offset : Nat) (s : State), s.takesAdmin q = true → q.cntlid ≠ 0 → (offset = 0x14 ∨ offset = 0x1C) →
      ∃ t, exec (.propertyGet q offset) s = .next t ∧
      ∃ u : State, t = u.adminDone q stOk (if offset = 0x14 then (s.fab q.cntlid).ccValue else (s.fab q.cntlid).ccEnabled.toNat)) ∧
  -- PROPERTY_SET
  (∀ (q : AdminCmd) (value : Nat) (s : State), s.takesAdmin q = true → q.cntlid ≠ 0 → value % 2 = 1 →
      ∃ t, exec (.propertySet q 0x14 value) s = .next t ∧ ∃ u : State, t = u.adminDone q stOk 0 ∧ (u.fab q.cntlid).ccEnabled = true ∧
      (u.fab q.cntlid).ccValue = value % 2 ^ 32) ∧
  -- DISCONNECT
  (∀ (q : AdminCmd) (s : State), s.takesAdmin q = true → q.cntlid ≠ 0 → ∃ t, exec (.disconnect q) s = .next t ∧
      ∃ u : State, t = (u.adminDone q stOk 0).deleteFab q.cntlid ∧ (u.fab q.cntlid).live = true) ∧
  -- IDENTIFY
  (∀ (q : AdminCmd) (nsid : Nat) (s : State), s.takesAdmin q = true → q.cntlid ≠ 0 → ∃ t, exec (.identify q 1 nsid) s = .next t ∧
      ∃ u : State, t = (u.adminReport q 4096 (1 :: s.identCtrl q.cntlid)).adminDone q stOk 0) ∧
  -- GET_LOG_PAGE
  (∀ (q : AdminCmd) (nsid : Nat) (s : State), s.takesAdmin q = true → q.cntlid ≠ 0 → ∃ t, exec (.getLogPage q 4 nsid) s = .next t ∧
      ∃ u : State, t = u.adminDone q stOk 0 ∧ (u.fab q.cntlid).changedNs = [] ∧ (u.fab q.cntlid).noticed = false) ∧
  -- SET_FEATURES_ARBITRATION
  (∀ (q : AdminCmd) (value : Nat) (s : State), s.takesAdmin q = true → q.cntlid ≠ 0 → ∃ t, exec (.setFeaturesArbitration q value false) s = .next t ∧
      ∃ u : State, t = u.adminDone q stOk 0 ∧ (u.fab q.cntlid).arbitration = value % 2 ^ 32) ∧
  -- SET_FEATURES_NUM_QUEUES
  (∀ (q : AdminCmd) (value : Nat) (s : State), s.takesAdmin q = true → q.cntlid ≠ 0 → ∃ t, exec (.setFeaturesNumQueues q value false) s = .next t ∧
      ∃ u : State, t = u.adminDone q stOk ((s.cmdCfgIoqMax - 1) * 65537))

/-- O27. Commands of host commands and controllers, part 2 of 3: each of SET_FEATURES_WRITE_ATOMICITY, SET_FEATURES_ASYNC_EVENT_CFG, SET_FEATURES_PUSH_WINDOWS, GET_FEATURES, ABORT, ASYNC_EVENT_REQUEST, KEEP_ALIVE, KEEP_ALIVE_EXPIRY, COMMAND_CAPSULE, READ completes in every state that meets the hypotheses of its clause, and the clause says what the next
state holds. -/
def Obligations.CompletesCommandsB : Prop :=
  -- SET_FEATURES_WRITE_ATOMICITY
  (∀ (q : AdminCmd) (value : Nat) (s : State), s.takesAdmin q = true → q.cntlid ≠ 0 →
      ∃ t, exec (.setFeaturesWriteAtomicity q value false) s = .next t ∧ ∃ u : State, t = u.adminDone q stOk 0) ∧
  -- SET_FEATURES_ASYNC_EVENT_CFG
  (∀ (q : AdminCmd) (value : Nat) (s : State), s.takesAdmin q = true → q.cntlid ≠ 0 →
      ∃ t, exec (.setFeaturesAsyncEventCfg q value false) s = .next t ∧ ∃ u : State, t = u.adminDone q stOk 0 ∧
      (u.fab q.cntlid).aerMask = value / 256 % 2 * 256) ∧
  -- SET_FEATURES_PUSH_WINDOWS
  (∀ (q : AdminCmd) (qid count size i d hd : Nat) (s : State), s.takesAdmin q = true → q.cntlid ≠ 0 → qid ≠ 0 →
      tfind (s.fab q.cntlid).queues qid = some (i, d, hd) → (s.ctx i).kind = 1 → count ≤ 64 → size ≤ 6 → (s.ctx i).windows = [] →
      s.pushTotal + count * windowBytes size ≤ 2 ^ 32 → ∃ t, exec (.setFeaturesPushWindows q qid count size) s = .next t ∧
      ∃ u : State, t = u.adminDone q stOk (pushKey i 0 0) ∧ (u.ctx i).pushCount = count ∧ (u.ctx i).pushSize = size ∧ (u.ctx i).windows = []) ∧
  -- GET_FEATURES
  (∀ (q : AdminCmd) (s : State), s.takesAdmin q = true → q.cntlid ≠ 0 → ∃ t, exec (.getFeatures q 1 0) s = .next t ∧
      ∃ u : State, t = u.adminDone q stOk (s.fab q.cntlid).arbitration) ∧
  -- ABORT
  (∀ (q : AdminCmd) (cid : Nat) (s : State), s.takesAdmin q = true → q.cntlid ≠ 0 → (s.fab q.cntlid).aborts.length < 4 →
      (s.fab q.cntlid).aers.contains cid = true → ∃ t, exec (.abort q 0 cid) s = .next t ∧ ∃ u : State, t = u.abortReport q true ∧
      (u.fab q.cntlid).aers = dropOne cid (s.fab q.cntlid).aers) ∧
  -- ASYNC_EVENT_REQUEST
  (∀ (q : AdminCmd) (s : State), s.takesAdmin q = true → q.cntlid ≠ 0 → (s.fab q.cntlid).aers.length < 4 → (s.fab q.cntlid).changedNs = [] →
      ∃ t, exec (.asyncEventRequest q) s = .next t ∧ (t.fab q.cntlid).aers = (s.fab q.cntlid).aers ++ [q.cid]) ∧
  -- KEEP_ALIVE
  (∀ (q : AdminCmd) (s : State), s.takesAdmin q = true → q.cntlid ≠ 0 → ∃ t, exec (.keepAlive q) s = .next t ∧
      ∃ u : State, t = u.adminDone q stOk 0 ∧ (u.fab q.cntlid).katoNs = s.now) ∧
  -- KEEP_ALIVE_EXPIRY
  (∀ (n : Nat) (s : State), (s.fab n).live = true → ∃ t, exec (.keepAliveExpiry n) s = .next t ∧ ∃ u : State, t = u.deleteFab n ∧ u.cmds = s.cmds ∧
      u.counter cKatoExpired (s.fab n).tenant = sat (2 ^ 64 - 1) (s.counter cKatoExpired (s.fab n).tenant + 1)) ∧
  -- COMMAND_CAPSULE
  (∀ (c : HostCmd) (n : Nat) (s : State), c.localPort = false → s.inService = true → (s.fab c.cntlid).live = true → (s.ctx c.ctx).state = 2 →
      thas (s.fab c.cntlid).queues c.qid = true → s.layout.holdup = none → s.cmds.waiting = [] → s.cmds.replays = [] →
      (s.cmds.slots.any fun p => !p.2.localPort && decide (p.2.ctx = c.ctx)) = false → s.slotAllowed (s.fab c.cntlid).tenant = true →
      s.freeSlot = some n → ∃ t, exec (.commandCapsule c) s = .next t ∧ ∃ u : State, t = (u.afterError c.ctx).settle ∧ u.slotUsed n = true ∧
      (u.slot n).cid = c.cid ∧ (u.slot n).opcode = c.opcode) ∧
  -- READ
  (∀ (slot rec : Nat) (s : State), slot < 262144 → s.readyFor slot 2 = true → s.stampsHere slot rec = true → ∃ t, exec (.read slot) s = .next t ∧
      ∃ u : State, t = u.settle ∧ (u.slot slot).state = 4 ∧ (u.slot slot).stamp = (s.extent rec).lastStamp + 1 ∧
      (u.extent rec).lastStamp = (s.extent rec).lastStamp + 1)

/-- O28. Commands of host commands and controllers, part 3 of 3: each of WRITE, FLUSH, COMPARE, WRITE_ZEROES, DATASET_MANAGEMENT, VERIFY, SLOT_RELEASE, REPLAY_RECORD_EXPIRY, SATURATION_SAMPLE, DEFER_RELEASE_SCAN completes in every state that meets the hypotheses of its clause, and the clause says what the next
state holds. -/
def Obligations.CompletesCommandsC : Prop :=
  -- WRITE
  (∀ (slot rec : Nat) (s : State), slot < 262144 → s.readyFor slot 1 = true → s.stampsHere slot rec = true → ∃ t, exec (.write slot) s = .next t ∧
      ∃ u : State, t = u.settle ∧ (u.slot slot).state = 4 ∧ (u.slot slot).stamp = (s.extent rec).lastStamp + 1 ∧
      (u.extent rec).lastStamp = (s.extent rec).lastStamp + 1) ∧
  -- FLUSH
  (∀ (slot : Nat) (s : State), slot < 262144 → s.readyFor slot 0 = true → (s.slot slot).seen = 0 → ∃ t, exec (.flush slot) s = .next t ∧
      ∃ u : State, t = u.evalChains slot ∧ (u.slot slot).seen = 4) ∧
  -- COMPARE
  (∀ (slot rec : Nat) (s : State), slot < 262144 → s.readyFor slot 5 = true → s.stampsHere slot rec = true → ∃ t, exec (.compare slot) s = .next t ∧
      ∃ u : State, t = u.settle ∧ (u.slot slot).state = 4 ∧ (u.slot slot).stamp = (s.extent rec).lastStamp + 1 ∧
      (u.extent rec).lastStamp = (s.extent rec).lastStamp + 1) ∧
  -- WRITE_ZEROES
  (∀ (slot rec : Nat) (s : State), slot < 262144 → s.readyFor slot 8 = true → s.stampsHere slot rec = true →
      ∃ t, exec (.writeZeroes slot) s = .next t ∧ ∃ u : State, t = u.settle ∧ (u.slot slot).state = 4 ∧
      (u.slot slot).stamp = (s.extent rec).lastStamp + 1 ∧ (u.extent rec).lastStamp = (s.extent rec).lastStamp + 1) ∧
  -- DATASET_MANAGEMENT
  (∀ (slot rec : Nat) (s : State), slot < 262144 → s.readyFor slot 9 = true → s.stampsHere slot rec = true →
      ∃ t, exec (.datasetManagement slot) s = .next t ∧ ∃ u : State, t = u.settle ∧ (u.slot slot).state = 4 ∧
      (u.slot slot).stamp = (s.extent rec).lastStamp + 1 ∧ (u.extent rec).lastStamp = (s.extent rec).lastStamp + 1) ∧
  -- VERIFY
  (∀ (slot rec : Nat) (s : State), slot < 262144 → s.readyFor slot 12 = true → s.stampsHere slot rec = true → ∃ t, exec (.verify slot) s = .next t ∧
      ∃ u : State, t = u.settle ∧ (u.slot slot).state = 4 ∧ (u.slot slot).stamp = (s.extent rec).lastStamp + 1 ∧
      (u.extent rec).lastStamp = (s.extent rec).lastStamp + 1) ∧
  -- SLOT_RELEASE
  (∀ (slot : Nat) (s : State), slot < 262144 → s.slotUsed slot = true → (s.slot slot).state = 5 → s.tagsBack slot = true → s.pair.adoptWaiting = [] →
      s.cmds.waiting = [] → ∃ t, exec (.slotRelease slot) s = .next t ∧ ∃ u : State, t = u.settle ∧ u.cmds.slots = tdel s.cmds.slots slot) ∧
  -- REPLAY_RECORD_EXPIRY
  (∀ (rec : Nat) (s : State), ∃ t, exec (.replayRecordExpiry rec) s = .next t ∧
      t.cmds.replays = tadj rec (fun r => { r with isOpen := false }) s.cmds.replays) ∧
  -- SATURATION_SAMPLE
  (∀ (worst p50 p99 : Nat) (s : State), s.cmds.overload = false → s.cmds.saturatedRun = 99 → p50 ≤ 65535 → p99 ≤ 65535 → worst < 4096 →
      ∃ t, exec (.saturationSample true worst p50 p99) s = .next t ∧ t.cmds.overload = true ∧
      t.cmds.overloadEvents = sat 65535 (s.cmds.overloadEvents + 1) ∧ t.cmds.worstTenant = worst ∧ t.cmds.p50 = p50 ∧ t.cmds.p99 = p99) ∧
  -- DEFER_RELEASE_SCAN
  (∀ (i n : Nat) (s : State), s.qos.deferred = [(i, [n])] →
      (s.meter i (s.slot n).tenant (meterCharge (s.slot n).opcode (s.wireBytes (s.slot n)))).1 ≠ 2 → ∃ t, exec .deferReleaseScan s = .next t ∧
      ∃ u : State, t = u.goOn n ∧ u.counter cDeferReleased (s.slot n).tenant = sat (2 ^ 64 - 1) (s.counter cDeferReleased (s.slot n).tenant + 1))

/-- O29. Commands of Ethernet ports, aggregation and admission of frames, part 1 of 3: each of FRAME_RECEIVE, PFC_XOFF_REFRESH, PFC_FRAME_RECEIVE, PFC_PAUSE_EXPIRY, PFC_WD_TRIP, PFC_WD_RESTORE, LLDP_RECEIVE, LACPDU_RECEIVE completes in every state that meets the hypotheses of its clause, and the clause says what the next
state holds. -/
def Obligations.CompletesFabricA : Prop :=
  -- FRAME_RECEIVE
  (∀ (f : Frame) (s : State), f.port < 16 → (s.port f.port).linkUp = true → s.layout.holdup = none → f.fcsGood = true → 64 ≤ f.len →
      f.len ≤ s.portClassCfgMaxFrame f.port → s.destination f.port f.dst f.etherType = 0 → f.etherType ≠ 0x88B6 → s.lagOf f.port = none →
      (((s.frameSeen.bwAdd f.port f.len 0).updQos fun q => { q with nextItem := q.nextItem + 1 }).store true (8 * f.port + s.frameClass f) s.qos.nextItem f.len).isSome = true →
      ∃ t, exec (.frameReceive f) s = .next t ∧
      t.counter cRxBytes (8 * f.port + s.frameClass f) = sat (2 ^ 64 - 1) (s.counter cRxBytes (8 * f.port + s.frameClass f) + f.len)) ∧
  -- PFC_XOFF_REFRESH
  (∀ (port cls : Nat) (s : State), port < 16 → cls < 8 → (s.portClass port cls).xoffSent = true → s.lossless port cls = true →
      ∃ t, exec (.pfcXoffRefresh port cls) s = .next t ∧ t.sent = { kind := .pfc, args := [port, cls, 0xFFFF], data := [] } :: s.sent ∧
      t.counter cTxPfcFrames (8 * port + cls) = sat (2 ^ 64 - 1) (s.counter cTxPfcFrames (8 * port + cls) + 1)) ∧
  -- PFC_FRAME_RECEIVE
  (∀ (port quanta cls : Nat) (s : State), port < 16 → cls < 8 → (s.port port).linkUp = true → s.lossless port cls = false →
      ∃ t, exec (.pfcFrameReceive port [quanta, quanta, quanta, quanta, quanta, quanta, quanta, quanta] (2 ^ cls)) s = .next t ∧
      t.counter cRxPfcFrames (8 * port + cls) = sat (2 ^ 64 - 1) (s.counter cRxPfcFrames (8 * port + cls) + 1) ∧
      t.counter cRxPfcIgnored (8 * port + cls) = sat (2 ^ 64 - 1) (s.counter cRxPfcIgnored (8 * port + cls) + 1)) ∧
  -- PFC_PAUSE_EXPIRY
  (∀ (port cls : Nat) (s : State), port < 16 → cls < 8 → ∃ t, exec (.pfcPauseExpiry port cls) s = .next t ∧
      t.net.ports = tmod {} port (fun x => { x with classes := tmod {} cls (fun q => { q with pausedUntil := 0, pausedSince := 0 }) x.classes }) s.net.ports) ∧
  -- PFC_WD_TRIP
  (∀ (port cls : Nat) (s : State), port < 16 → cls < 8 → s.lossless port cls = true → (s.portClass port cls).pausedUntil ≠ 0 →
      ∃ t, exec (.pfcWdTrip port cls) s = .next t ∧ (t.portClass port cls).wdTripped = true ∧ (t.portClass port cls).pausedUntil = 0 ∧
      t.counter cPfcWdTrips (8 * port + cls) = sat (2 ^ 64 - 1) (s.counter cPfcWdTrips (8 * port + cls) + 1)) ∧
  -- PFC_WD_RESTORE
  (∀ (port cls : Nat) (s : State), port < 16 → cls < 8 → (s.portClass port cls).wdTripped = true → ∃ t, exec (.pfcWdRestore port cls) s = .next t ∧
      t.net.ports = tmod {} port (fun x => { x with classes := tmod {} cls (fun q => { q with wdTripped := false, wdLastReq := 0 }) x.classes }) s.net.ports) ∧
  -- LLDP_RECEIVE
  (∀ (port : Nat) (s : State), port < 16 → (s.port port).linkUp = true → ∃ t, exec (.lldpReceive port) s = .next t ∧
      (t.port port).lldpSeen = (s.port port).lldpSeen + 1 ∧ t.regs = s.regs ∧ t.blobs = s.blobs) ∧
  -- LACPDU_RECEIVE
  (∀ (port : Nat) (sync coll dist : Bool) (s : State), port < 16 → (s.port port).linkUp = true → s.lagOf port = none →
      ∃ t, exec (.lacpduReceive port sync coll dist) s = .next t ∧ (t.port port).partnerSync = sync ∧ (t.port port).linkUp = true)

/-- O30. Commands of Ethernet ports, aggregation and admission of frames, part 2 of 3: each of LACP_PERIODIC, GATE_INTERVAL_END, EGRESS_DISPATCH, FRAME_TRANSMIT_END, PORT_LINK_UP, PORT_LINK_DOWN, BUCKET_MOVE_COMMIT completes in every state that meets the hypotheses of its clause, and the clause says what the next
state holds. -/
def Obligations.CompletesFabricB : Prop :=
  -- LACP_PERIODIC
  (∀ (lag p : Nat) (s : State), lag < 8 → s.lagMembers lag = [p] → (s.port p).linkUp = true → ∃ t, exec (.lacpPeriodic lag) s = .next t ∧
      t.sent = { kind := .lacpdu, args := [p, (s.port p).syncSent.toNat, (s.port p).collecting.toNat, (s.port p).distributing.toNat], data := [] } :: s.sent) ∧
  -- GATE_INTERVAL_END
  (∀ (port : Nat) (s : State), port < 16 → (s.port port).linkUp = true → ∃ t, exec (.gateIntervalEnd port) s = .next t ∧
      (t.port port).linkUp = true ∧ (t.port port).gateOpenedNs = s.now ∧
      (t.port port).gateEntry = (if (s.port port).gateEntry + 1 < (s.gateRange port).2 then (s.port port).gateEntry + 1 else 0)) ∧
  -- EGRESS_DISPATCH
  (∀ (port : Nat) (it : QItem) (rest : List QItem) (s : State), port < 16 → (s.port port).linkUp = true → thas s.qos.sending port = false →
      tfind (s.sched 0 port).strict 0 = some (it :: rest) → s.frameEligible port it = true → s.shaperOk (shaperOfClass 0 0) = true →
      ∃ t, exec (.egressDispatch port) s = .next t ∧ tfind t.qos.sending port = some it) ∧
  -- FRAME_TRANSMIT_END
  (∀ (port : Nat) (it : QItem) (s : State), port < 16 → tfind s.qos.sending port = some it → ∃ t, exec (.frameTransmitEnd port it.num) s = .next t ∧
      t.qos.sending = tdel s.qos.sending port) ∧
  -- PORT_LINK_UP
  (∀ (port rate : Nat) (s : State), port < 16 → s.portEnabled port = true → s.modes.mode ≠ .m0 → rate ≠ 0 → rate ≤ s.cfgRate port →
      s.cipher.realignOut.toNat.testBit (port / 4) = false → ∃ t, exec (.portLinkUp port rate) s = .next t ∧ (t.port port).linkUp = true ∧
      (t.port port).rate = rate ∧ (t.port port).syncSent = true) ∧
  -- PORT_LINK_DOWN
  (∀ (port : Nat) (s : State), port < 16 → (s.port port).linkUp = true → s.lagOf port = none → ∃ t, exec (.portLinkDown port) s = .next t ∧
      t.net.ports = tmod {} port (fun q => { q with linkUp := false, collecting := false, distributing := false, classes := [] }) s.net.ports) ∧
  -- BUCKET_MOVE_COMMIT
  (∀ (lag bucket n o : Nat) (s : State), lag < 8 → bucket < 256 → tfind (s.lag lag).moving bucket = some n →
      tfind (s.lag lag).owners bucket = some o → s.bucketQueued o lag bucket = false → (s.lag lag).lagStep = none →
      ∃ t, exec (.bucketMoveCommit lag bucket) s = .next t ∧
      t.net.lags = tmod {} lag (fun l => { l with owners := tput l.owners bucket n, moving := tdel l.moving bucket }) s.net.lags)

/-- O31. Commands of Ethernet ports, aggregation and admission of frames, part 3 of 3: each of BUCKET_MOVE_TIMEOUT, STEP_WINDOW_END, STEP_UP_EVAL, STEP_PHASE_TIMEOUT, STEP_DRAIN_COMPLETE, ATTACH_RETRY_TIMER, LLDP_TRANSMIT completes in every state that meets the hypotheses of its clause, and the clause says what the next
state holds. -/
def Obligations.CompletesFabricC : Prop :=
  -- BUCKET_MOVE_TIMEOUT
  (∀ (lag bucket : Nat) (s : State), lag < 8 → bucket < 256 → thas (s.lag lag).moving bucket = true → tfind (s.lag lag).owners bucket = none →
      (s.lag lag).lagStep = none → ∃ t, exec (.bucketMoveTimeout lag bucket) s = .next t ∧
      t.net.lags = tmod {} lag (fun l => { l with moving := tdel l.moving bucket }) s.net.lags) ∧
  -- STEP_WINDOW_END
  (∀ (lag p : Nat) (s : State), lag < 8 → (s.lag lag).lagStep = none → s.modes.mode ≠ .m4 → s.modes.nvmePs = 2 →
      s.stepDownPick (s.stepDownEligible lag) = some p → ∃ t, exec (.stepWindowEnd lag) s = .next t ∧
      (t.lag lag).lagStep = some { member := p, phase := 1, up := decide ((s.port p).rate < max (s.floorRate lag) (rungBelow (s.port p).rate)), target := max (s.floorRate lag) (rungBelow (s.port p).rate), retried := false }) ∧
  -- STEP_UP_EVAL
  (∀ (lag p : Nat) (s : State), lag < 8 → (s.lag lag).lagStep = none →
      s.lagCfgUpPct lag * s.cNow lag * 1000000 < max (s.lag lag).msRx (s.lag lag).msTx * 800 →
      ((s.distMembers lag).find? fun p => (s.port p).linkUp && decide ((s.port p).rate < s.topRate p)) = some p →
      ∃ t, exec (.stepUpEval lag) s = .next t ∧
      (t.lag lag).lagStep = some { member := p, phase := 1, up := decide ((s.port p).rate < s.topRate p), target := s.topRate p, retried := false }) ∧
  -- STEP_PHASE_TIMEOUT
  (∀ (lag : Nat) (st : LagStep) (s : State), lag < 8 → (s.lag lag).lagStep = some st → st.phase = 4 → ∃ t, exec (.stepPhaseTimeout lag) s = .next t ∧
      t.net.lags = tmod {} lag (fun l => { l with lagStep := none, lastStepNs := s.now, stayedOut := addOne st.member l.stayedOut }) s.net.lags) ∧
  -- STEP_DRAIN_COMPLETE
  (∀ (lag : Nat) (st : LagStep) (s : State), lag < 8 → (s.lag lag).lagStep = some st → st.phase = 1 →
      (s.lag lag).owners.all (fun o => decide (o.2 ≠ st.member)) = true → ∃ t, exec (.stepDrainComplete lag) s = .next t ∧
      t.net.ports = tmod {} st.member (fun q => { q with distributing := false, syncSent := false }) s.net.ports ∧
      t.net.lags = tmod {} lag (fun l => { l with lagStep := some { st with phase := 2 } }) s.net.lags) ∧
  -- ATTACH_RETRY_TIMER
  (∀ (lag p : Nat) (s : State), lag < 8 → (s.lag lag).stayedOut = [p] → (s.port p).linkUp = true → ∃ t, exec (.attachRetryTimer lag) s = .next t ∧
      t.net.ports = tmod {} p (fun q => { q with syncSent := true }) s.net.ports ∧ t.sent.length = s.sent.length + 1) ∧
  -- LLDP_TRANSMIT
  (∀ (port : Nat) (p : Port) (rest : Tbl Port) (s : State), s.net.ports = (port, p) :: rest → rest = [] → p.linkUp = true →
      ∃ t, exec .lldpTransmit s = .next t ∧
      t.sent = { kind := .lldp, args := [port, 0, s.portClassCfgLosslessTc port, 20, 20, 20, 20, 20, s.portClassCfgTrust port, s.portClassCfgPcpMap port], data := [] } :: s.sent)

/-- O32. Commands of RoCEv2 and TCP connections, part 1 of 3: each of CM_DATAGRAM, ROCE_REQUEST_PACKET, CONTEXT_WRITEBACK_COMMIT, CONTEXT_FILL_COMPLETE, PUSH_WRITE_PACKET, ROCE_ACK_RECEIVE, ROCE_READ_RESPONSE completes in every state that meets the hypotheses of its clause, and the clause says what the next
state holds. -/
def Obligations.CompletesTransportsA : Prop :=
  -- CM_DATAGRAM
  (∀ (m : CmMsg) (s : State), m.kind = 1 → (s.ctx m.index).kind = 1 → (s.ctx m.index).state = 1 → (s.ctx m.index).claimConf = true →
      ∃ t, exec (.cmDatagram m) s = .next t ∧ (t.ctx m.index).state = 2 ∧ (t.ctx m.index).chains = hostChains) ∧
  -- ROCE_REQUEST_PACKET
  (∀ (p : RocePkt) (i : Nat) (s : State), p.qpn = 0x200000 + i → i < 2097152 → (s.ctx i).kind = 1 → (s.ctx i).state = 2 → s.cached i = true →
      (s.xport.missBuf.filter fun m => m.ctx = i).length = 0 → s.layout.holdup = none → p.icrcGood = true → p.opcode = 0 → p.capsule = none →
      p.last = false → p.ce = false → 5 ≤ (s.ctx i).cls → psnPlace (s.ctx i) p.psn = 0 → ∃ t, exec (.roceRequestPacket p) s = .next t ∧
      ∃ u : State, t = u.after i ∧ (u.ctx i).rcvNxt = posAdd (s.ctx i) (s.ctx i).rcvNxt 1) ∧
  -- CONTEXT_WRITEBACK_COMMIT
  (∀ (i : Nat) (w : CacheWay) (s : State), i < 2097152 → s.ways (cacheSet i) = [w] → w.index = i → w.evicting = true →
      ∃ t, exec (.contextWritebackCommit i) s = .next t ∧ t.ways (cacheSet i) = [{ index := w.forCtx, filling := true }]) ∧
  -- CONTEXT_FILL_COMPLETE
  (∀ (i : Nat) (w : CacheWay) (s : State), i < 2097152 → s.ways (cacheSet i) = [w] → w.index = i → w.filling = true → (s.ctx i).state ≠ 5 →
      s.xport.missBuf = [] → ∃ t, exec (.contextFillComplete i true) s = .next t ∧ t.cached i = true) ∧
  -- PUSH_WRITE_PACKET
  (∀ (i psn key addr : Nat) (bytes : Bytes) (s : State), i < 2097152 → (s.ctx i).kind = 1 → (s.ctx i).state = 2 → s.cached i = true →
      (s.xport.missBuf.filter fun m => m.ctx = i).length = 0 → s.layout.holdup = none → psnPlace (s.ctx i) psn = 0 → key / 2048 = i →
      bits key 10 5 < (s.ctx i).pushCount → (ctxWindow (s.ctx i) (bits key 10 5)).wState = 0 → (ctxWindow (s.ctx i) (bits key 10 5)).gen = key % 32 →
      addr + bytes.length ≤ windowBytes (s.ctx i).pushSize → ∃ t, exec (.pushWritePacket i psn key addr bytes false false) s = .next t ∧
      ∃ u : State, t = u.after i ∧ (ctxWindow (u.ctx i) (bits key 10 5)).data = true ∧ (u.ctx i).rcvNxt = posAdd (s.ctx i) (s.ctx i).rcvNxt 1) ∧
  -- ROCE_ACK_RECEIVE
  (∀ (i psn : Nat) (s : State), i < 2097152 → (s.ctx i).kind = 1 → (s.ctx i).state = 2 → s.cached i = true →
      (s.xport.missBuf.filter fun m => m.ctx = i).length = 0 → s.layout.holdup = none → (s.ctx i).sndUna.toNat ≠ (psn + 1) % 2 ^ 24 →
      posLe (s.ctx i) (s.ctx i).sndUna.toNat ((psn + 1) % 2 ^ 24) = true → ∃ t, exec (.roceAckReceive i psn 0) s = .next t ∧
      ∃ u : State, t = u.after i ∧ (u.ctx i).sndUna = BitVec.ofNat 32 ((psn + 1) % 2 ^ 24) ∧ (u.ctx i).retries = 0) ∧
  -- ROCE_READ_RESPONSE
  (∀ (i slot : Nat) (bytes : Bytes) (p : Slot) (s : State), i < 2097152 → (s.ctx i).kind = 1 → (s.ctx i).state = 2 → s.cached i = true →
      (s.xport.missBuf.filter fun m => m.ctx = i).length = 0 → s.layout.holdup = none → tfind s.cmds.slots slot = some p → p.ctx = i →
      p.localPort = false → p.asked = true → p.need ≠ 0 → ∃ t, exec (.roceReadResponse i slot bytes false) s = .next t ∧ ∃ u : State, t = u.after i ∧
      (u.slot slot).data = p.data ++ bytes)

/-- O33. Commands of RoCEv2 and TCP connections, part 2 of 3: each of ROCE_CNP_RECEIVE, ROCE_ACK_TIMEOUT, ROCE_RNR_DELAY_END, TCP_SYN_RECEIVE, TCP_SEGMENT_RECEIVE, ICREQ_RECEIVE, H2CDATA_RECEIVE completes in every state that meets the hypotheses of its clause, and the clause says what the next
state holds. -/
def Obligations.CompletesTransportsB : Prop :=
  -- ROCE_CNP_RECEIVE
  (∀ (i : Nat) (s : State), i < 2097152 → (s.ctx i).kind = 1 → (s.ctx i).state = 2 → s.cached i = true →
      (s.xport.missBuf.filter fun m => m.ctx = i).length = 0 → s.layout.holdup = none → ∃ t, exec (.roceCnpReceive i) s = .next t ∧
      ∃ u : State, t = u.after i ∧ (u.ctx i).epochCnp = true) ∧
  -- ROCE_ACK_TIMEOUT
  (∀ (i : Nat) (s : State), i < 2097152 → (s.ctx i).kind = 1 → (s.ctx i).state = 2 → (s.ctx i).flight ≠ [] →
      (s.ctx i).retries < s.transportCfgRoceRetry → ∃ t, exec (.roceAckTimeout i) s = .next t ∧ ∃ u : State, t = u.after i ∧
      (u.ctx i).retries = (s.ctx i).retries + 1 ∧ (u.ctx i).timerKind = 1) ∧
  -- ROCE_RNR_DELAY_END
  (∀ (i : Nat) (s : State), i < 2097152 → (s.ctx i).kind = 1 → (s.ctx i).state = 2 → (s.ctx i).flight ≠ [] →
      ∃ t, exec (.roceRnrDelayEnd i) s = .next t ∧ (t.ctx i).retries = (s.ctx i).retries ∧ (t.ctx i).timerKind = 1) ∧
  -- TCP_SYN_RECEIVE
  (∀ (y : TcpSyn) (a : Nat × AddrEntry) (i : Nat) (s : State), s.tcpLookup y.remoteIp y.localIp y.remotePort y.localPort = none →
      s.inService = true → y.localPort = 4420 → s.losslessCfg y.port y.cls = false → s.addrOfIp y.localIp = some a →
      s.tcpIndex (tcpBucket (tcpHash y.remoteIp y.localIp y.remotePort y.localPort)) = some i → ∃ t, exec (.tcpSynReceive y) s = .next t ∧
      (t.ctx i).state = 1 ∧ (t.ctx i).kind = 2 ∧ (t.ctx i).remoteIp = y.remoteIp ∧ (t.ctx i).timerNs = s.now + ms 1000) ∧
  -- TCP_SEGMENT_RECEIVE
  (∀ (g : TcpSeg) (i : Nat) (s : State), g.fragment = false → s.tcpLookup g.remoteIp g.localIp g.remotePort g.localPort = some i →
      s.cached i = true → (s.xport.missBuf.filter fun m => m.ctx = i).length = 0 → s.layout.holdup = none → (s.ctx i).state = 2 → 5 ≤ (s.ctx i).cls →
      g.rst = false → (s.ctx i).tstamps = false → g.fin = false → g.len = 0 → ∃ t, exec (.tcpSegmentReceive g) s = .next t ∧
      ∃ u : State, t = u.after i ∧ (u.ctx i).sndWnd = g.wnd * 2 ^ (s.ctx i).wscale) ∧
  -- ICREQ_RECEIVE
  (∀ (i hpda : Nat) (hd dd : Bool) (s : State), i < 2097152 → (s.ctx i).kind = 2 → (s.ctx i).state = 1 → (s.ctx i).claimConf = true → hpda ≤ 31 →
      ∃ t, exec (.icreqReceive i hpda hd dd) s = .next t ∧ (t.ctx i).state = 2 ∧ (t.ctx i).hpda = hpda ∧ (t.ctx i).hdgst = hd ∧ (t.ctx i).ddgst = dd) ∧
  -- H2CDATA_RECEIVE
  (∀ (i ttag n : Nat) (bytes : Bytes) (p : Slot) (s : State), i < 2097152 → (s.ctx i).kind = 2 → (s.ctx i).state = 2 →
      tfind (s.ctx i).r2ts (ttag % 2048) = some (n, ttag / 2048) → bytes.length ≤ 131072 → tfind s.cmds.slots n = some p →
      ∃ t, exec (.h2cdataReceive i ttag bytes false true true) s = .next t ∧ ∃ u : State, t = u.settle ∧ (u.slot n).data = p.data ++ bytes)

/-- O34. Commands of RoCEv2 and TCP connections, part 3 of 3: each of H2CTERMREQ_RECEIVE, TCP_RTO_EXPIRY, DELAYED_ACK_TIMER, OPENING_TIMEOUT, DRAINING_CLOSE_TIMEOUT, QUARANTINE_END, PUSH_HOLD_EXPIRY completes in every state that meets the hypotheses of its clause, and the clause says what the next
state holds. -/
def Obligations.CompletesTransportsC : Prop :=
  -- H2CTERMREQ_RECEIVE
  (∀ (i : Nat) (s : State), i < 2097152 → (s.ctx i).kind = 2 → (s.ctx i).state = 2 → ∃ t, exec (.h2ctermreqReceive i) s = .next t ∧
      ∃ u : State, t = u.after i ∧ (u.ctx i).state = (if s.ctxBusy i then 4 else 6)) ∧
  -- TCP_RTO_EXPIRY
  (∀ (i : Nat) (s : State), i < 2097152 → (s.ctx i).kind = 2 → (s.ctx i).state = 2 → (s.ctx i).flight ≠ [] →
      (s.ctx i).retries < s.transportCfgTcpRetries → ∃ t, exec (.tcpRtoExpiry i) s = .next t ∧ ∃ u : State, t = u.after i ∧
      (u.ctx i).retries = (s.ctx i).retries + 1 ∧ (u.ctx i).timerNs = s.now + (u.ctx i).rto) ∧
  -- DELAYED_ACK_TIMER
  (∀ (i : Nat) (s : State), i < 2097152 → (s.ctx i).kind = 2 → (s.ctx i).state = 2 → 0 < (s.ctx i).unackedSegs →
      ∃ t, exec (.delayedAckTimer i) s = .next t ∧ (t.ctx i).unackedSegs = 0) ∧
  -- OPENING_TIMEOUT
  (∀ (i : Nat) (s : State), i < 2097152 → (s.ctx i).state = 1 → ∃ t, exec (.openingTimeout i) s = .next t ∧ (t.ctx i).state = 6 ∧
      (t.ctx i).timerNs = s.now + ms s.transportCfgQuarMs) ∧
  -- DRAINING_CLOSE_TIMEOUT
  (∀ (i : Nat) (s : State), i < 2097152 → (s.ctx i).state = 3 → (s.ctx i).closeSent = true → ∃ t, exec (.drainingCloseTimeout i) s = .next t ∧
      (t.ctx i).state = 6 ∧ (t.ctx i).timerNs = s.now + ms s.transportCfgQuarMs) ∧
  -- QUARANTINE_END
  (∀ (i : Nat) (s : State), i < 2097152 → (s.ctx i).state = 6 → ∃ t, exec (.quarantineEnd i) s = .next t ∧
      t.xport.ctx = tset {} s.xport.ctx i { ctxGen := (s.ctx i).ctxGen } ∧ t.xport.flowTags = tdel s.xport.flowTags i) ∧
  -- PUSH_HOLD_EXPIRY
  (∀ (i w : Nat) (s : State), i < 2097152 → w < 64 → (ctxWindow (s.ctx i) w).data = true → (ctxWindow (s.ctx i) w).wState ≠ 1 →
      ∃ t, exec (.pushHoldExpiry i w) s = .next t ∧ ctxWindow (t.ctx i) w = { wState := 0, gen := ((ctxWindow (s.ctx i) w).gen + 1) % 32 })

/-- O35. Commands of stamps, leases, mirrors and the larder between the pair, part 1 of 3: each of STAMP_REQUEST, STAMP_REPLY, GO, WITHDRAWAL, WITHDRAWAL_REPLY, STAMP_RECORD, STAMP_RECORD_CONFIRMATION, FENCE_EXPIRY completes in every state that meets the hypotheses of its clause, and the clause says what the next
state holds. -/
def Obligations.CompletesConsistencyA : Prop :=
  -- STAMP_REQUEST
  (∀ (r : StampReq) (send : List SendRec) (s : State), s.paired = true → s.settUp = true → r.kind = 1 → r.holder = s.other →
      s.ownerOf (s.lowerRec r) = s.self → (s.extent (s.lowerRec r)).held = [] → s.admissionShut (s.lowerRec r) = false → s.ovlRoom r = true →
      (extentParts (s.reqSpan r).1 (s.reqSpan r).2.1).length = 1 → (s.extent (s.lowerRec r)).lastStamp.toNat % 2 ^ 40 ≠ 2 ^ 40 - 1 →
      ∃ t, exec (.stampRequest r send) s = .next t ∧ ∃ u : State, t = u.settle ∧
      (u.extent (s.lowerRec r)).lastStamp = (s.extent (s.lowerRec r)).lastStamp + 1) ∧
  -- STAMP_REPLY
  (∀ (slot : Nat) (stamp : BitVec 64) (waits : Nat) (s : State), slot < 262144 → s.paired = true → s.settUp = true → s.slotUsed slot = true →
      (s.slot slot).state = 3 → (s.slot slot).ended = false → ∃ t, exec (.stampReply slot stamp waits 0 false []) s = .next t ∧
      ∃ u : State, t = u.settle ∧ (u.slot slot).state = 4 ∧ (u.slot slot).pieceStamp = stamp) ∧
  -- GO
  (∀ (slot part : Nat) (s : State), slot < 262144 → s.paired = true → s.settUp = true → s.slotUsed slot = true →
      ∃ t, exec (.go slot part) s = .next t ∧ ∃ u : State, t = u.settle ∧ tfind (u.slot slot).waits s.other = some 0) ∧
  -- WITHDRAWAL
  (∀ (slot handle slba rc : Nat) (e : Extent) (r : StampReq) (s : State), slot < 262144 → s.paired = true → s.settUp = true →
      s.cons.extents = [(rc, e)] → e.held = [r] → e.crossing = [] → r.slot = slot → r.holder = s.other → r.kind ≤ 3 →
      ∃ t, exec (.withdrawal slot handle slba) s = .next t ∧ ∃ u : State, t = u.drainAll ∧ (u.extent rc).held = []) ∧
  -- WITHDRAWAL_REPLY
  (∀ (slot c cid : Nat) (s : State), slot < 262144 → s.settUp = true → s.paired = true → s.slotUsed slot = true →
      (s.slot slot).abortPending = some (c, cid) → (s.fab c).live = true → ∃ t, exec (.withdrawalReply slot false) s = .next t ∧
      ∃ u : State, t = (u.adminDone { ctx := (s.fab c).adminCtx, cntlid := c, cid := cid } stOk 1).settle ∧ (u.slot slot).abortPending = none ∧
      (u.fab c).aborts = dropOne cid (s.fab c).aborts) ∧
  -- STAMP_RECORD
  (∀ (slot : Nat) (stamp : BitVec 64) (handle slba nlb : Nat) (send : List SendRec) (s : State), slot < 262144 → s.paired = true → s.settUp = true →
      ∃ t, exec (.stampRecord slot stamp handle slba nlb send) s = .next t ∧ t.cons.stampRecs = tput s.cons.stampRecs slot (stamp, handle, slba, nlb)) ∧
  -- STAMP_RECORD_CONFIRMATION
  (∀ (slot : Nat) (s : State), slot < 262144 → s.paired = true → s.settUp = true → s.slotUsed slot = true →
      ∃ t, exec (.stampRecordConfirmation slot) s = .next t ∧ ∃ u : State, t = u.settle ∧ (u.slot slot).recordConf = true) ∧
  -- FENCE_EXPIRY
  (∀ (s : State), s.paired = true → s.cons.fenced = false → ∃ t, exec .fenceExpiry s = .next t ∧ t.cons.fenced = true ∧
      t.cons.extents = tmap (fun _ e => if e.owner = s.self ∧ e.state = 1 then { e with state := 3 } else e) s.cons.extents)

/-- O36. Commands of stamps, leases, mirrors and the larder between the pair, part 2 of 3: each of READ_PIN_EXPIRY, AUTO_BALANCE_MOVE, LEASE_DRAIN_COMPLETE, LEASE_MOVE_TIMEOUT, LEASE_PHASE, EPOCH_RAISE, LARDER_SLOT_RESERVE, LARDER_PLACEMENT completes in every state that meets the hypotheses of its clause, and the clause says what the next
state holds. -/
def Obligations.CompletesConsistencyB : Prop :=
  -- READ_PIN_EXPIRY
  (∀ (entry : Nat) (e : OvlEntry) (s : State), entry < 262144 → tfind s.cons.ovl entry = some e → e.kind = 1 → 0 < e.doneNs →
      ∃ t, exec (.readPinExpiry entry) s = .next t ∧ ∃ u : State, t = u.releaseCovered.drainAll.settle ∧ u.cons.ovl = tdel s.cons.ovl entry) ∧
  -- AUTO_BALANCE_MOVE
  (∀ (e : Nat × Extent) (s : State), s.paired = true → s.consCfgAutoBalance = 1 → s.leaseIdle = true → s.power.estore.partnerN ≠ 0 →
      s.cons.extents.find? (fun e => decide (e.2.state = 1) && decide (e.2.owner = s.self) && decide ((e.2.handle + e.2.extNo) % 2 = s.other)) = some e →
      ∃ t, exec (.autoBalanceMove false) s = .next t ∧ t.cons.lease = { lState := 1, handle := e.2.handle, extNo := e.2.extNo, target := s.other }) ∧
  -- LEASE_DRAIN_COMPLETE
  (∀ (s : State), s.paired = true → s.cons.lease.lState = 1 → (s.extent (s.extRec s.cons.lease.handle s.cons.lease.extNo)).owner = s.self →
      s.leaseDrained = true → ∃ t, exec .leaseDrainComplete s = .next t ∧
      ∃ u : State, t = (u.answerMoved (s.extRec s.cons.lease.handle s.cons.lease.extNo)).settle ∧
      (u.extent (s.extRec s.cons.lease.handle s.cons.lease.extNo)).owner = s.cons.lease.target ∧
      (u.extent (s.extRec s.cons.lease.handle s.cons.lease.extNo)).state = 1 ∧ u.cons.lease.lState = 0) ∧
  -- LEASE_MOVE_TIMEOUT
  (∀ (s : State), s.paired = true → s.cons.lease.lState = 1 → (s.extent (s.extRec s.cons.lease.handle s.cons.lease.extNo)).owner = s.self →
      ∃ t, exec .leaseMoveTimeout s = .next t ∧ ∃ u : State, t = u.drainAll.settle ∧
      (u.extent (s.extRec s.cons.lease.handle s.cons.lease.extNo)).state = 1 ∧ u.cons.lease.lState = 3) ∧
  -- LEASE_PHASE
  (∀ (handle extNo target : Nat) (s : State), s.paired = true → s.settUp = true → ∃ t, exec (.leasePhase 1 handle extNo target) s = .next t ∧
      t.cons.lease = { lState := 1, handle := handle, extNo := extNo, target := target } ∧ (t.extent (s.extRec handle extNo)).state = 2) ∧
  -- EPOCH_RAISE
  (∀ (epoch : Nat) (s : State), epoch < 2 ^ 24 → s.paired = true → s.settUp = true → s.cons.epoch < epoch →
      ∃ t, exec (.epochRaise epoch) s = .next t ∧ t.cons.epoch = epoch) ∧
  -- LARDER_SLOT_RESERVE
  (∀ (n b l : Nat) (s : State), s.layout.waiting = [n] → s.slotUsed n = true → (s.slot n).writes = [] → s.nearBlks (s.slot n) = [b] →
      s.freeLarder 1 = [l] → 0 < s.layout.limit → s.limitedSlots + 1 ≤ s.layout.limit → ∃ t, exec .larderSlotReserve s = .next t ∧
      ∃ u : State, t = u.settle ∧ u.layout.waiting = [] ∧ (u.slot n).reserved = 1 ∧ (u.slot n).writes = [{ blk := b, lslot := l }]) ∧
  -- LARDER_PLACEMENT
  (∀ (slot : Nat) (w : BlkWrite) (s : State), slot < 262144 → (s.slot slot).state = 4 → writeKind (s.slot slot).opcode = true → s.paired = true →
      s.pair.lost = false → (s.slot slot).gone = true → (s.slot slot).begun = true → (s.slot slot).need = 0 → (s.slot slot).placed = false →
      (s.slot slot).sealed = true → (s.slot slot).writeThrough = false → (s.slot slot).writes = [w] → w.far = false →
      ∃ t, exec (.larderPlacement slot) s = .next t ∧ ∃ u : State, t = u.settle ∧
      (tfind u.layout.larder w.lslot).map (fun v => (v.blk, v.stamp, v.placed)) = some (w.blk, (s.slot slot).pieceStamp, true))

/-- O37. Commands of stamps, leases, mirrors and the larder between the pair, part 3 of 3: each of MIRROR_RECORD, MIRROR_CONFIRMATION, RELEASE, RELEASE_BATCH_TIMER, SYNCHRONISATION_COPY, FORWARDED_DATA, PLACEMENT_CONFIRMATION completes in every state that meets the hypotheses of its clause, and the clause says what the next
state holds. -/
def Obligations.CompletesConsistencyC : Prop :=
  -- MIRROR_RECORD
  (∀ (m : MirrorMsg) (s : State), s.mirrorsIn = true → s.settUp = true → ∃ t, exec (.mirrorRecord m) s = .next t ∧
      t.layout.mirror = (msgVersions m s.now).foldl (fun x v => tput x v.1 v.2) s.layout.mirror) ∧
  -- MIRROR_CONFIRMATION
  (∀ (slot : Nat) (w : BlkWrite) (s : State), slot < 262144 → s.settUp = true → s.paired = true → s.slotUsed slot = true →
      (s.slot slot).placed = true → (s.slot slot).mirrored = false → (s.slot slot).writes = [w] → w.far = false →
      ∃ t, exec (.mirrorConfirmation slot) s = .next t ∧ ∃ u : State, t = (u.partsDone slot).settle ∧ (u.slot slot).mirrored = true ∧
      u.layout.larder = tadj w.lslot (fun v => { v with mirrored := true }) s.layout.larder) ∧
  -- RELEASE
  (∀ (slots : List Nat) (s : State), s.mirrorsIn = true → s.settUp = true → ∃ t, exec (.release slots) s = .next t ∧
      t.layout.mirror = s.layout.mirror.filter fun e => !slots.contains e.1) ∧
  -- RELEASE_BATCH_TIMER
  (∀ (s : State), ∃ t, exec .releaseBatchTimer s = .next t ∧ t.layout.releases = s.layout.releases.drop 256) ∧
  -- SYNCHRONISATION_COPY
  (∀ (lslot : Nat) (s : State), lslot < 16384000 → s.syncing = true → s.layout.syncLeft.contains lslot = true →
      ∃ t, exec (.synchronisationCopy lslot) s = .next t ∧ t.layout.syncLeft = dropOne lslot s.layout.syncLeft) ∧
  -- FORWARDED_DATA
  (∀ (m : MirrorMsg) (l b : Nat) (x y : Bytes) (s : State), s.paired = true → s.settUp = true → m.blocks = [(l, b, x, y)] →
      ∃ t, exec (.forwardedData m) s = .next t ∧ ∃ u : State, t = u.releaseCovered.settle ∧
      (tfind u.layout.larder l).map (fun v => (v.blk, v.stamp, v.placed)) = some (b, BitVec.ofNat 64 m.stamp, true)) ∧
  -- PLACEMENT_CONFIRMATION
  (∀ (slot : Nat) (s : State), slot < 262144 → s.paired = true → s.settUp = true → s.slotUsed slot = true → (s.slot slot).placed = true →
      (s.slot slot).farPlaced = false → ∃ t, exec (.placementConfirmation slot) s = .next t ∧ ∃ u : State, t = (u.partsDone slot).settle ∧
      (u.slot slot).farPlaced = true)

/-- O38. Commands of placement, destage and journals: each of DESTAGE_PICK, COALESCE_TIMEOUT, DESTAGE_AGE_EXPIRY, DESTAGE_INTENT_DURABLE, DESTAGE_WRITES_COMPLETE, BITMAP_CLEAN_TIMER, JOURNAL_BLOCK, JOURNAL_DRIVE_REPLACE, BOTH_FEEDS_LOST, HOLDUP_COMPLETE completes in every state that meets the hypotheses of its clause, and the clause says what the next
state holds. -/
def Obligations.CompletesLayout : Prop :=
  -- DESTAGE_PICK
  (∀ (pool st : Nat) (s : State), pool < 8 → s.mayDestage = true → s.pickStripe pool = some st → s.journalReady pool = true →
      (s.takeLock pool st 3).1 = true → ∃ t, exec (.destagePick pool) s = .next t ∧
      (tfind t.layout.destages (stripeKey pool st)).map (·.stage) = some 2) ∧
  -- COALESCE_TIMEOUT
  (∀ (pool stripe : Nat) (x : Nat × Nat × Version) (s : State), pool < 8 → (s.candidates pool).filter (fun c => c.1 = stripe) = [x] →
      ∃ t, exec (.coalesceTimeout pool stripe) s = .next t ∧ t.layout.coalesced = addOne x.2.1 s.layout.coalesced) ∧
  -- DESTAGE_AGE_EXPIRY
  (∀ (lslot : Nat) (v : Version) (s : State), lslot < 16384000 → tfind s.layout.larder lslot = some v → v.placed = true →
      ∃ t, exec (.destageAgeExpiry lslot) s = .next t ∧ t.layout.eligible = addOne lslot s.layout.eligible) ∧
  -- DESTAGE_INTENT_DURABLE
  (∀ (pool stripe : Nat) (reads : List PosBlock) (d : Destage) (s : State), pool < 8 → tfind s.layout.destages (stripeKey pool stripe) = some d →
      d.stage = 2 → (∀ b ∈ bitsSet 16 d.rows.toNat, (s.destageRow pool stripe b d.method (s.versOf d) reads).1 = []) →
      ∃ t, exec (.destageIntentDurable pool stripe reads) s = .next t ∧ (tfind t.layout.destages (stripeKey pool stripe)).map (·.stage) = some 5) ∧
  -- DESTAGE_WRITES_COMPLETE
  (∀ (pool stripe : Nat) (d : Destage) (s : State), pool < 8 → tfind s.layout.destages (stripeKey pool stripe) = some d → d.stage = 5 →
      ∃ t, exec (.destageWritesComplete pool stripe []) s = .next t ∧ ∃ u : State, t = u.settle ∧
      u.layout.destages = tdel s.layout.destages (stripeKey pool stripe)) ∧
  -- BITMAP_CLEAN_TIMER
  (∀ (pool bit : Nat) (s : State), pool < 8 → (s.pool pool).bitmap.contains bit = true → (s.pool pool).members = [] →
      (s.layout.destages.any fun d => decide (d.1 / 2 ^ 64 = pool) && decide ((s.rowOf pool (d.1 % 2 ^ 64)).1 / 1024 = bit)) = false →
      2 ≤ (s.journalUp pool).length → ∃ t, exec (.bitmapCleanTimer pool bit) s = .next t ∧
      (t.pool pool).bitmap = (s.pool pool).bitmap.filter fun b => b ≠ bit) ∧
  -- JOURNAL_BLOCK
  (∀ (pool : Nat) (recs : List JRec) (s : State), pool < 8 → s.paired = true → s.settUp = true → recs ≠ [] → (∀ r ∈ recs, r.kind ≠ 7) →
      ∃ t, exec (.journalBlock pool recs true) s = .next t ∧ (t.pool pool).partnerJournal = (recs.reverse ++ (s.pool pool).partnerJournal).take 4096) ∧
  -- JOURNAL_DRIVE_REPLACE
  (∀ (pool slot m : Nat) (s : State), pool < 8 → slot < 64 → (s.journalDrives pool).contains slot = true → (s.journalUp pool).contains slot = false →
      s.poolOnline pool = true →
      (s.memberSlots pool).find? (fun m => decide (s.memberState pool m = 0) && s.driveUp m && !(s.journalDrives pool).contains m && ((s.journalDrives pool).filter fun d => d ≠ slot).all fun d => decide (s.domainOf d ≠ s.domainOf m)) = some m →
      ∃ t, exec (.journalDriveReplace pool slot []) s = .next t ∧
      (t.pool pool).journal.head?.map (fun r => (r.kind, r.arg)) = some (7, slot + 256 * m)) ∧
  -- BOTH_FEEDS_LOST
  (∀ (s : State), ∃ t, exec .bothFeedsLost s = .next t ∧ t.power.feeds.aGood = false ∧ t.power.feeds.bGood = false) ∧
  -- HOLDUP_COMPLETE
  (∀ (h : HoldUp) (s : State), s.layout.holdup = some h → h.owed = [] → s.layout.destages = [] → (s.layout.larder.any fun e => e.2.placed) = false →
      s.power.feeds.aGood = true → s.den.resetDeferred = false → ∃ t, exec .holdupComplete s = .next t ∧ ∃ u : State, t = u.drainAll.settle ∧
      u.layout.holdup = none)

/-- O39. Commands of rebuild, resynchronisation, reshape and Badger: each of MISSING_WAIT_EXPIRY, REBUILD_STRIPE, RESYNC_ROW_GROUP, COPYBACK_ROW, STRIPE_LOCK_GRANT, RESHAPE_STEP, BADGER_STRIPE, SWEEP_START completes in every state that meets the hypotheses of its clause, and the clause says what the next
state holds. -/
def Obligations.CompletesRebuild : Prop :=
  -- MISSING_WAIT_EXPIRY
  (∀ (pool slot : Nat) (s : State), pool < 8 → slot < 64 → s.memberState pool slot = 1 → thas (s.pool pool).missingNs slot = true →
      s.poolOfSlot slot = some pool → ∃ t, exec (.missingWaitExpiry pool slot) s = .next t ∧
      t.memberState pool slot = if (s.pool pool).reloc.length < 3 then 2 else 3) ∧
  -- REBUILD_STRIPE
  (∀ (pool stripe : Nat) (reads : List PosBlock) (s : State), pool < 8 → s.mayWork pool = true → s.nextRebuild pool = some stripe →
      (s.takeLock pool stripe 5).1 = true →
      (s.restore pool stripe ((s.rebuildChunks pool stripe).map (·.1)) (s.rebuildSlot pool stripe) reads).ask = [] →
      ∃ t, exec (.rebuildStripe pool stripe reads) s = .next t ∧
      t.counter cRebuildStripes pool = sat (2 ^ 64 - 1) (s.counter cRebuildStripes pool + 1)) ∧
  -- RESYNC_ROW_GROUP
  (∀ (pool slot bit : Nat) (reads : List StripeRead) (s : State), pool < 8 → slot < 64 → s.mayWork pool = true →
      (s.pool pool).returning.contains slot = true → (s.pool pool).bitmap.contains bit = true →
      (s.pool pool).resynced.contains (64 * bit + slot) = false → (s.fillSlot pool slot (s.groupStripes pool slot bit) reads).1 = true →
      ((s.pool pool).bitmap.any fun b => decide (b ≠ bit) && !(s.pool pool).resynced.contains (64 * b + slot)) = true →
      ∃ t, exec (.resyncRowGroup pool slot bit reads) s = .next t ∧ (t.pool pool).resynced = addOne (64 * bit + slot) (s.pool pool).resynced) ∧
  -- COPYBACK_ROW
  (∀ (pool slot row : Nat) (reads : List StripeRead) (s : State), pool < 8 → slot < 64 → s.mayWork pool = true → s.memberState pool slot = 2 →
      (s.pool pool).replacing.contains slot = true → (s.pool pool).copied.contains (64 * row + slot) = false →
      (s.fillSlot pool slot ((s.stripesOf pool).filter fun st => decide ((s.rowOf pool st).1 = row) && s.lockHere pool st && !(s.posOfSlot pool st slot).isEmpty) reads).1 = true →
      ∃ t, exec (.copybackRow pool slot row reads) s = .next t ∧ t.counter cCopybackRows pool = sat (2 ^ 64 - 1) (s.counter cCopybackRows pool + 1)) ∧
  -- STRIPE_LOCK_GRANT
  (∀ (pool stripe : Nat) (l : Lock) (s : State), pool < 8 → tfind s.layout.locks (stripeKey pool stripe) = some l → l.holder = 3 →
      thas s.layout.destages (stripeKey pool stripe) = false → s.mayDestage = true → ((s.candidates pool).any fun c => c.1 = stripe) = true →
      s.journalReady pool = true → ∃ t, exec (.stripeLockGrant pool stripe) s = .next t ∧
      (tfind t.layout.destages (stripeKey pool stripe)).map (·.stage) = some 2) ∧
  -- RESHAPE_STEP
  (∀ (pool rc old new : Nat) (r : ReshapeOp) (reads : List StripeRead) (s : State), pool < 8 → (s.pool pool).reshape = some r → r.rState = 1 →
      s.mayWork pool = true → s.modes.psBadgerPaused = false → (r.plan.drop r.stepNo).head? = some (rc, old, new) → s.ownerOf rc = s.self →
      r.phase = 3 → ∃ t, exec (.reshapeStep pool reads) s = .next t ∧
      (t.pool pool).reshape = some { r with stepNo := r.stepNo + 1, phase := 0, stripes := 0 }) ∧
  -- BADGER_STRIPE
  (∀ (pool stripe : Nat) (reads : List PosBlock) (s : State), pool < 8 → s.badgerRuns pool = true →
      (s.pool pool).hot.contains ((s.rowOf pool stripe).1 / 1024) = true → (s.stripesOf pool).contains stripe = true → s.lockHere pool stripe = true →
      (s.takeLock pool stripe 7).1 = true → ((List.range 16).any fun b => decide ((s.patrolRow pool stripe b reads).ask ≠ [])) = false → reads ≠ [] →
      ∃ t, exec (.badgerStripe pool stripe reads) s = .next t ∧
      t.counter cBadgerBlocks pool = sat (2 ^ 64 - 1) (s.counter cBadgerBlocks pool + reads.length)) ∧
  -- SWEEP_START
  (∀ (handle gen : Nat) (g : KeyGen) (s : State), handle < 16384 → gen < 256 → tfind (s.ns handle).gens gen = some g → g.gState = 4 →
      g.sweeping = false → ((s.ns handle).genIn 2).isSome = true →
      (s.layout.larder.any fun v => decide (v.2.handle = handle) && !v.2.dealloc && decide (bits (leField v.2.trailer 16 8) 55 48 = gen)) = false →
      (s.layout.mirror.any fun v => decide (v.2.handle = handle) && !v.2.dealloc && decide (bits (leField v.2.trailer 16 8) 55 48 = gen)) = false →
      ∃ t, exec (.sweepStart handle gen) s = .next t ∧ (tfind (t.ns handle).gens gen).map (fun g => (g.sweeping, g.sweepWait)) = some (true, false))

/-- O40. Commands of keys, counters, cipher checks and scheduling, part 1 of 2: each of KEY_UNWRAP_COMPLETE, CTR_STEP_DURABLE, GENERATION_ACTIVATION, DUP_WINDOW, KNOWN_ANSWER_CHECK, SECURITY_FAULT, KEY_ERASURE completes in every state that meets the hypotheses of its clause, and the clause says what the next
state holds. -/
def Obligations.CompletesCipherA : Prop :=
  -- KEY_UNWRAP_COMPLETE
  (∀ (handle gen sk : Nat) (g : KeyGen) (s : State), handle < 16384 → gen < 256 → tfind (s.ns handle).gens gen = some g →
      s.shelfKeyOf g.shelfGen = some sk → s.enclave.unwraps.contains (handle, gen) = true → s.cipher.keyBusOpen = true →
      ∃ t, exec (.keyUnwrapComplete handle gen) s = .next t ∧ ∃ u : State, t = u.keyReady handle ∧
      (tfind (u.ns handle).gens gen).map (·.key) = some (some (Config.unwrap (s.nsKek sk handle) g.wrapped))) ∧
  -- CTR_STEP_DURABLE
  (∀ (handle gen : Nat) (g : KeyGen) (s : State), handle < 16384 → gen < 256 → tfind (s.ns handle).gens gen = some g → g.stepAsked = true →
      ∃ t, exec (.ctrStepDurable handle gen) s = .next t ∧ ∃ u : State, t = u.keyReady handle ∧
      (tfind (u.ns handle).gens gen).map (fun x => (x.stepAsked, x.ctrHigh s.self)) = some (false, min (2 ^ 48 - 2 ^ 32) (g.ctrHigh s.self + 2 ^ 24))) ∧
  -- GENERATION_ACTIVATION
  (∀ (handle gen : Nat) (g : KeyGen) (s : State), handle < 16384 → gen < 256 → s.paired = true → s.settUp = true →
      tfind (s.ns handle).gens gen = some g → g.gState = 1 → ∃ t, exec (.generationActivation handle gen 0) s = .next t ∧
      ∃ u : State, t = u.keyReady handle ∧ (tfind (u.ns handle).gens gen).map (·.gState) = some 2) ∧
  -- DUP_WINDOW
  (∀ (mismatch badKat : List Nat) (suspects : List Suspect) (s : State), ∃ t, exec (.dupWindow mismatch badKat suspects) s = .next t ∧
      t.cipher.dupGroup = (s.cipher.dupGroup + 1) % 8) ∧
  -- KNOWN_ANSWER_CHECK
  (∀ (e : Nat) (s : State), e < 8 → s.cipher.engineOut.toNat.testBit e = false → ∃ t, exec (.knownAnswerCheck [] [e]) s = .next t ∧
      t.cipher.engineOut = s.cipher.engineOut ||| BitVec.ofNat 8 (2 ^ e)) ∧
  -- SECURITY_FAULT
  (∀ (code : Nat) (s : State), faultCodes.contains code = true → s.modes.mode ≠ .m0 → s.modes.mode ≠ .m5 →
      ∃ t, exec (.securityFault code) s = .next t ∧ t.modes.mode = .m5 ∧ t.keep.cause = code ∧ t.modes.prevMode = s.modes.mode) ∧
  -- KEY_ERASURE
  (∀ (s : State), s.modes.mode = .m5 → s.enclave.erased = false → s.m5Destaged = true → ∃ t, exec .keyErasure s = .next t ∧
      t.enclave.shelfKey = none ∧ t.enclave.erased = true ∧ t.enclave.unwraps = [])

/-- O41. Commands of keys, counters, cipher checks and scheduling, part 2 of 2: each of DEBUG_ACCESS_ATTEMPT, CORE_LOCKSTEP_MISMATCH, DRIVE_DISPATCH, BACKGROUND_DISPATCH, SHAPER_SLOT_FIRE, KEY_DERIVATION_COMPLETE completes in every state that meets the hypotheses of its clause, and the clause says what the next
state holds. -/
def Obligations.CompletesCipherB : Prop :=
  -- DEBUG_ACCESS_ATTEMPT
  (∀ (s : State), s.debugIsOpen = false → ∃ t, exec .debugAccessAttempt s = .next t ∧
      t.enclave.debugAttempts = sat 4095 (s.enclave.debugAttempts + 1)) ∧
  -- CORE_LOCKSTEP_MISMATCH
  (∀ (pair : Nat) (s : State), pair < 12 → ∃ t, exec (.coreLockstepMismatch pair) s = .next t ∧
      t.spine.coreFailed = s.spine.coreFailed ||| BitVec.ofNat 12 (2 ^ pair)) ∧
  -- DRIVE_DISPATCH
  (∀ (slot k tg : Nat) (it : QItem) (s : State), slot < 64 → s.driveTakes slot false = true →
      (s.sched 1 slot).pickStrict (fun k _ => s.shaperOk (shaperOfClass 1 k)) = some (k, it) → it.cmd.slot = slot → (s.dport slot).freeTag = some tg →
      ∃ t, exec (.driveDispatch slot) s = .next t ∧ (tfind (t.dport slot).tags tg).map (·.cmd) = some it.cmd) ∧
  -- BACKGROUND_DISPATCH
  (∀ (pool k : Nat) (it : QItem) (s : State), pool < 8 → (s.sched 2 pool).pickStrict (fun k it => s.backEligible pool k it) = some (k, it) →
      ∃ t, exec (.backgroundDispatch pool) s = .next t ∧
      ((tget [] (t.sched 1 it.cmd.slot).strict 4).any fun x => decide (x.cmd = it.cmd) && decide (x.cls = k)) = true) ∧
  -- SHAPER_SLOT_FIRE
  (∀ (point us key : Nat) (h : Shaper) (s : State), point < 3 → s.qos.shapers = [(key, h)] → key / 8192 = point → h.parked = some us →
      0 ≤ h.tokensAt (s.shaperRate key) (s.shaperBurst key) s.now → ∃ t, exec (.shaperSlotFire point us) s = .next t ∧
      (tget {} t.qos.shapers key).parked = none) ∧
  -- KEY_DERIVATION_COMPLETE
  (∀ (handle g k : Nat) (x : KeyGen) (s : State), handle < 16384 → (s.ns handle).genIn 2 = some (k, x) → (s.ns handle).nextGen = some g →
      s.cipherCfgAutoRotate = 1 → (s.ns handle).keying = 1 → x.warned = true → ((s.ns handle).genIn 1).isNone = true →
      s.enclave.shelfKey.isSome = true → s.cipher.keyBusOpen = true → ∃ t, exec (.keyDerivationComplete handle) s = .next t ∧
      ∃ u : State, t = u.keyReady handle ∧ (tfind (u.ns handle).gens g).map (·.gState) = some 2)

/-- O42. Commands of pairing, quorum, takeover and unpairing, part 1 of 3: each of HANDOVER, SETT_ACK_RECEIVE, SETT_RESEND_TIMEOUT, SETT_ALIGNMENT_LOSS, OWL_BEAT_TIMER, BEAT, PARTNER_SILENCE_EXPIRY, SETT_SILENCE_EXPIRY, NETWORK_SILENCE_EXPIRY, CUT_LINK_NOTICE completes in every state that meets the hypotheses of its clause, and the clause says what the next
state holds. -/
def Obligations.CompletesPairA : Prop :=
  -- HANDOVER
  (∀ (v : HandoverMsg) (s : State), s.paired = true → s.settUp = true → v.isLease = true → ∃ t, exec (.handover v) s = .next t ∧
      (t.extent (s.extRec v.handle v.extNo)).lastStamp = BitVec.ofNat 64 v.lastStamp ∧ t.cons.ovl.length = s.cons.ovl.length + v.reads.length) ∧
  -- SETT_ACK_RECEIVE
  (∀ (cls ack : Nat) (s : State), cls < 6 → s.settUp = true → (∀ f ∈ (tget {} s.pair.classes cls).unacked, f.kind ≠ 0x1E ∧ f.kind < 0x40) →
      ∃ t, exec (.settAckReceive cls ack) s = .next t ∧ ∃ u : State, t = u.settle ∧
      (tget {} u.pair.classes cls).unacked = ((tget {} s.pair.classes cls).unacked.filter fun f => ack < f.seqNo) ∧ u.pair.lastSett = s.now) ∧
  -- SETT_RESEND_TIMEOUT
  (∀ (cls seqNo : Nat) (f : SettFrame) (s : State), cls < 6 → (tget {} s.pair.classes cls).unacked.find? (fun f => f.seqNo = seqNo) = some f →
      s.settUp = true → f.sends = 1 → ∃ t, exec (.settResendTimeout cls seqNo) s = .next t ∧
      t.counter cSettResent cls = sat (2 ^ 64 - 1) (s.counter cSettResent cls + 1)) ∧
  -- SETT_ALIGNMENT_LOSS
  (∀ (bundle : Nat) (s : State), bundle < 2 → s.bundleUp bundle = true → ∃ t, exec (.settAlignmentLoss bundle) s = .next t ∧
      t.bundleUp bundle = false ∧ t.counter cSettBundleFail bundle = sat (2 ^ 64 - 1) (s.counter cSettBundleFail bundle + 1)) ∧
  -- OWL_BEAT_TIMER
  (∀ (s : State), s.paired = true → s.pair.beatsStopped = false → s.pair.settA = true → ∃ t, exec .owlBeatTimer s = .next t ∧
      t.pair.lastBeatSent = s.now ∧ s.pair.beatSeq < t.pair.beatSeq) ∧
  -- BEAT
  (∀ (b : BeatMsg) (s : State), s.paired = true → b.crcGood = true → (b.network = true ∨ s.settUp = true) → b.sender = s.other →
      b.epoch = s.cons.epoch → s.cons.fenced = false → ∃ t, exec (.beat b) s = .next t ∧ t.pair.lastBeat = s.now ∧ t.cons.fenceNs = s.now ∧
      t.pair.partnerMode = b.mode) ∧
  -- PARTNER_SILENCE_EXPIRY
  (∀ (s : State), s.paired = true → s.pair.quorum = none → s.pair.lost = false → ∃ t, exec .partnerSilenceExpiry s = .next t ∧
      t.pair.quorum.isSome = true ∧ t.pair.beatsStopped = true ∧ t.counter cQuorumRuns 0 = sat (2 ^ 64 - 1) (s.counter cQuorumRuns 0 + 1) ∧
      t.counter cOwlSilence 0 = sat (2 ^ 64 - 1) (s.counter cOwlSilence 0 + 1)) ∧
  -- SETT_SILENCE_EXPIRY
  (∀ (s : State), s.paired = true → s.pair.quorum = none → s.pair.lost = false → ∃ t, exec .settSilenceExpiry s = .next t ∧
      t.pair.quorum.isSome = true ∧ t.pair.beatsStopped = true ∧ t.counter cQuorumRuns 0 = sat (2 ^ 64 - 1) (s.counter cQuorumRuns 0 + 1) ∧
      t.counter cOwlSilence 1 = sat (2 ^ 64 - 1) (s.counter cOwlSilence 1 + 1)) ∧
  -- NETWORK_SILENCE_EXPIRY
  (∀ (s : State), s.paired = true → ∃ t, exec .networkSilenceExpiry s = .next t ∧ t.modes = s.modes ∧ t.pair.quorum = s.pair.quorum ∧
      t.counter cOwlSilence 2 = sat (2 ^ 64 - 1) (s.counter cOwlSilence 2 + 1)) ∧
  -- CUT_LINK_NOTICE
  (∀ (s : State), s.paired = true → s.pair.quorum = none → s.pair.lost = false → ∃ t, exec .cutLinkNotice s = .next t ∧ t.pair.quorum.isSome = true ∧
      t.pair.beatsStopped = true ∧ t.counter cQuorumRuns 0 = sat (2 ^ 64 - 1) (s.counter cQuorumRuns 0 + 1))

/-- O43. Commands of pairing, quorum, takeover and unpairing, part 2 of 3: each of QUORUM_WINDOW_EXPIRY, TAKEOVER_CLAIM, CONNECTION_ADOPT, HELLO, EVIDENCE, KEY_EXCHANGE, SYNCHRONISATION_END, CONNECTION_SHADOW, POSITION_UPDATE, COMMAND_SHADOW completes in every state that meets the hypotheses of its clause, and the clause says what the next
state holds. -/
def Obligations.CompletesPairB : Prop :=
  -- QUORUM_WINDOW_EXPIRY
  (∀ (q : Quorum) (s : State), s.pair.quorum = some q → q.wins.length < 2 → q.fromM1 = true → ∃ t, exec .quorumWindowExpiry s = .next t ∧
      t.pair.quorum = none ∧ t.pair.state = 5 ∧ t.modes = s.modes ∧ t.counter cQuorumLost 0 = sat (2 ^ 64 - 1) (s.counter cQuorumLost 0 + 1)) ∧
  -- TAKEOVER_CLAIM
  (∀ (s : State), s.modes.mode = .m4 → s.pair.lost = true → s.pair.lastBeatSent + us 180 ≤ s.now → ∃ t, exec .takeoverClaim s = .next t ∧
      ∃ u : State, t = u.writeQuorum u.claimedBlock ∧ u.pair.lost = false ∧ u.pair.takeovers = sat 65535 (s.pair.takeovers + 1)) ∧
  -- CONNECTION_ADOPT
  (∀ (index : Nat) (s : State), index < 2097152 → (s.ctx index).state = 5 → (tfind s.pair.conns index).isNone = true →
      ∃ t, exec (.connectionAdopt index) s = .next t ∧ ∃ u : State, t = ((u.flushPlans index).runWaiting index).settle ∧ (u.ctx index).state = 2) ∧
  -- HELLO
  (∀ (m : HelloMsg) (s : State), s.paired = false → s.settUp = true → s.pair.pairStep = 1 → m.pairEn = true → s.word (oid 9 2 0) = 0 →
      m.partnerId = 0 → (List.range 8).any s.poolOnline = true → m.mode = 1 → m.drivesOk = true → s.addressesFit m.addrs = true →
      ∃ t, exec (.hello m) s = .next t ∧ t.pair.pairStep = 2 ∧ t.pair.partnerId = m.deviceId) ∧
  -- EVIDENCE
  (∀ (e : EvidenceMsg) (s : State), s.pair.pairStep = 2 → s.settUp = true → e.sigGood = true → e.lifeCycle = s.fuses.lifeCycle →
      (e.lifeCycle = 1 ∨ e.lifeCycle = 3) → e.fusesEqual = true → e.debugLock = s.fuses.debugLock → max e.antiRollback s.fuses.antiRollback ≤ e.svn →
      max e.antiRollback s.fuses.antiRollback ≤ s.boot.svn → ∃ t, exec (.evidence e) s = .next t ∧ t.pair.pairStep = 3 ∧
      t.pair.ephemeral.isSome = true) ∧
  -- KEY_EXCHANGE
  (∀ (k : KeyExMsg) (own w : Nat) (s : State), s.pair.pairStep = 3 → s.settUp = true → k.sigGood = true → s.enclave.shelfKey = some own →
      k.wrapped = some w → ∃ t, exec (.keyExchange k) s = .next t ∧ t.pair.pairStep = 5 ∧ t.pair.state = 2) ∧
  -- SYNCHRONISATION_END
  (∀ (block : QBlock) (s : State), s.pair.pairStep = 5 → s.switchReady = true → s.pair.serving = false →
      ∃ t, exec (.synchronisationEnd block) s = .next t ∧ t.modes.mode = .m3 ∧ t.pair.state = 3 ∧
      t.cons.epoch = (max s.cons.epoch s.pair.partnerEpoch + 1) % 2 ^ 24 ∧ (∀ e ∈ t.cons.extents, e.2.owner = s.other)) ∧
  -- CONNECTION_SHADOW
  (∀ (index : Nat) (shadow : ConnShadow) (s : State), index < 2097152 → s.mirrorsIn = true → s.settUp = true → tfind s.pair.conns index = none →
      ∃ t, exec (.connectionShadow index shadow) s = .next t ∧ t.pair.conns = tput s.pair.conns index shadow) ∧
  -- POSITION_UPDATE
  (∀ (index msn rcvPos sndPos : Nat) (s : State), index < 2097152 → s.mirrorsIn = true → s.settUp = true → s.pair.replays = [] →
      ∃ t, exec (.positionUpdate index msn rcvPos sndPos) s = .next t ∧
      t.pair.conns = tadj index (fun x => { x with ctx := { x.ctx with msn := msn }, rcvPos := BitVec.ofNat 32 rcvPos, sndPos := BitVec.ofNat 32 sndPos }) s.pair.conns) ∧
  -- COMMAND_SHADOW
  (∀ (slot : Nat) (shadow : CmdShadow) (s : State), slot < 262144 → s.mirrorsIn = true → s.settUp = true →
      ∃ t, exec (.commandShadow slot shadow) s = .next t ∧ (tfind t.pair.cmds slot).map (·.cmd) = some shadow.cmd)

/-- O44. Commands of pairing, quorum, takeover and unpairing, part 3 of 3: each of STAMP_UPDATE, SEND_RECORD, COMMAND_END, FABRIC_CONTROLLER_SHADOW, PUSH_SHADOW, UNPAIR, RETIRE_PARTNER, QUORUM_OVERRIDE, SETT_LINK_UP completes in every state that meets the hypotheses of its clause, and the clause says what the next
state holds. -/
def Obligations.CompletesPairC : Prop :=
  -- STAMP_UPDATE
  (∀ (slot : Nat) (stamp : BitVec 64) (send : SendRec) (s : State), slot < 262144 → s.mirrorsIn = true → s.settUp = true →
      ∃ t, exec (.stampUpdate slot stamp send) s = .next t ∧
      t.pair.cmds = tadj slot (fun x => { x with stamp := stamp, state := 4, send := x.send ++ [send] }) s.pair.cmds) ∧
  -- SEND_RECORD
  (∀ (slot : Nat) (send : SendRec) (s : State), slot < 262144 → s.mirrorsIn = true → s.settUp = true →
      ∃ t, exec (.sendRecord slot send) s = .next t ∧ t.pair.cmds = tadj slot (fun x => { x with send := x.send ++ [send] }) s.pair.cmds) ∧
  -- COMMAND_END
  (∀ (slot : Nat) (r : Replay) (s : State), slot < 262144 → s.mirrorsIn = true → s.settUp = true → readKind r.opcode = false →
      ∃ t, exec (.commandEnd slot r) s = .next t ∧ t.pair.cmds = tdel s.pair.cmds slot ∧ t.cons.stampRecs = tdel s.cons.stampRecs slot ∧
      t.pair.replays.length = s.pair.replays.length + r.isOpen.toNat) ∧
  -- FABRIC_CONTROLLER_SHADOW
  (∀ (cntlid : Nat) (fab : FabCtrl) (s : State), cntlid < 32769 → s.mirrorsIn = true → s.settUp = true → fab.live = true →
      ∃ t, exec (.fabricControllerShadow cntlid fab) s = .next t ∧ t.pair.fabs = tput s.pair.fabs cntlid fab) ∧
  -- PUSH_SHADOW
  (∀ (index count size : Nat) (s : State), index < 2097152 → s.mirrorsIn = true → s.settUp = true →
      ∃ t, exec (.pushShadow index count size) s = .next t ∧
      t.pair.conns = tadj index (fun x => { x with pushCount := count, pushSize := size }) s.pair.conns) ∧
  -- UNPAIR
  (∀ (h : CcpHdr) (e : Session) (leaving : Nat) (s : State), s.accepts h 0x48 (some 15) e = true → (s.entered h 0x48 e).paired = true →
      (s.entered h 0x48 e).settUp = true → leaving = s.self → ∃ t, exec (.unpair h leaving) s = .next t ∧ t.modes.mode = .m1 ∧
      t.modes.lastCause = 0x13 ∧ t.pair.state = 0) ∧
  -- RETIRE_PARTNER
  (∀ (h : CcpHdr) (e : Session) (s : State), s.accepts h 0x49 (some 15) e = true → s.modes.mode = .m4 → s.pair.lost = false →
      ∃ t, exec (.retirePartner h) s = .next t ∧ t.modes.mode = .m2 ∧ t.modes.lastCause = 0x14 ∧ t.answered h 0) ∧
  -- QUORUM_OVERRIDE
  (∀ (h : CcpHdr) (e : Session) (force : Bool) (blocks : List QuorumRead) (s : State), s.accepts h 0x11 (some 15) e = true →
      (s.modes.mode ≠ .m1 ∨ s.pair.state ≠ 5) → ∃ t, exec (.quorumOverride h force blocks) s = .next t ∧
      t.boot.overridden = (s.boot.overridden || force) ∧ t.answered h 0) ∧
  -- SETT_LINK_UP
  (∀ (bundle : Nat) (s : State), bundle < 2 → s.modes.mode ≠ .m0 → s.bundleUp bundle = false → ∃ t, exec (.settLinkUp bundle) s = .next t ∧
      t.bundleUp bundle = true)

/-- O45. Commands of drive ports, part 1 of 2: each of DRIVE_PORT_BRINGUP, DRIVE_ENUM_STEP_COMPLETE, DRIVE_ENUM_STEP_TIMEOUT, DRIVE_INBOUND_REQUEST, DRIVE_COMPLETION, DRIVE_DEADLINE_SCAN, DRIVE_STALL_EXPIRY, CSTS_POLL completes in every state that meets the hypotheses of its clause, and the clause says what the next
state holds. -/
def Obligations.CompletesDrivesA : Prop :=
  -- DRIVE_PORT_BRINGUP
  (∀ (slot : Nat) (s : State), slot < 64 → s.portExists slot = true → s.drivePortCfgPortEn slot = 1 → (s.dport slot).dState ≤ 1 →
      (s.slotPwr slot).pState = 5 → (s.slotPwr slot).perstHigh = true → ∃ t, exec (.drivePortBringup slot) s = .next t ∧ (t.dport slot).dState = 2 ∧
      (t.dport slot).enumStep = 2) ∧
  -- DRIVE_ENUM_STEP_COMPLETE
  (∀ (slot : Nat) (info : EnumInfo) (s : State), slot < 64 → (s.dport slot).dState = 3 → (s.dport slot).enumStep = 8 → info.good = true →
      ∃ t, exec (.driveEnumStepComplete slot info) s = .next t ∧ ∃ u : State, t = u.settle ∧ (u.dport slot).dState = 4 ∧
      (u.dport slot).label = info.label) ∧
  -- DRIVE_ENUM_STEP_TIMEOUT
  (∀ (slot : Nat) (s : State), slot < 64 → (s.dport slot).dState = 2 ∨ (s.dport slot).dState = 3 →
      ∃ t, exec (.driveEnumStepTimeout slot) s = .next t ∧ (t.dport slot).dState = 8 ∧
      t.counter cEnumFail slot = sat (2 ^ 64 - 1) (s.counter cEnumFail slot + 1)) ∧
  -- DRIVE_INBOUND_REQUEST
  (∀ (slot : Nat) (write : Bool) (addr len : Nat) (s : State), slot < 64 → (s.dport slot).allows write addr len = true →
      ∃ t, exec (.driveInboundRequest slot write addr len) s = .next t ∧ t = s) ∧
  -- DRIVE_COMPLETION
  (∀ (slot tag : Nat) (cpl : DriveCpl) (g : Tag) (s : State), slot < 64 → tag < 4096 → (s.dport slot).dState = 4 →
      tfind (s.dport slot).tags tag = some g → g.tState = 1 → g.cmd.owner ≠ 4 → cpl.status = 0 →
      ∃ t, exec (.driveCompletion slot tag cpl) s = .next t ∧ ∃ u : State, t = u.settle ∧ (u.dport slot).tags = tdel (s.dport slot).tags tag ∧
      u.counter cDrvCmds g.cmd.slot = sat (2 ^ 64 - 1) (s.counter cDrvCmds g.cmd.slot + 1)) ∧
  -- DRIVE_DEADLINE_SCAN
  (∀ (slot tag : Nat) (g : Tag) (s : State), slot < 64 → (s.dport slot).dState = 4 → (s.dport slot).tags = [(tag, g)] → g.tState = 1 → g.kind = 0 →
      (s.nowUs + 2 ^ 32 - g.deadlineUs) % 2 ^ 32 < 2 ^ 31 → 1 < s.drivePortCfgQuarMax slot → ∃ t, exec (.driveDeadlineScan slot) s = .next t ∧
      ∃ u : State, t = u.settle ∧ (tfind (u.dport slot).tags tag).map (·.tState) = some 2 ∧
      u.counter cCmdTimeout slot = sat (2 ^ 64 - 1) (s.counter cCmdTimeout slot + 1)) ∧
  -- DRIVE_STALL_EXPIRY
  (∀ (slot : Nat) (s : State), slot < 64 → (s.dport slot).dState = 4 →
      (s.dport slot).tags.any (fun t => decide (t.2.tState = 1) && decide (t.2.kind ≠ 0)) = true → ∃ t, exec (.driveStallExpiry slot) s = .next t ∧
      ∃ u : State, t = u.settle ∧ (u.dport slot).lastCause = 3 ∧ (u.dport slot).dState ≠ 4 ∧
      u.counter cContainEvents (8 * slot + 2) = sat (2 ^ 64 - 1) (s.counter cContainEvents (8 * slot + 2) + 1)) ∧
  -- CSTS_POLL
  (∀ (slot : Nat) (s : State), slot < 64 → (s.dport slot).dState = 4 → ∃ t, exec (.cstsPoll slot false) s = .next t ∧ t = s.send .drivePoll [slot] [])

/-- O46. Commands of drive ports, part 2 of 2: each of PCIE_READ_TIMEOUT, DRIVE_UNCORR_ERROR, DRIVE_LINK_DOWN, DRIVE_CORR_ERROR, RELEASE_PERST_END, DRIVE_L1_IDLE, RESERVATION_WAIT_EXPIRY completes in every state that meets the hypotheses of its clause, and the clause says what the next
state holds. -/
def Obligations.CompletesDrivesB : Prop :=
  -- PCIE_READ_TIMEOUT
  (∀ (slot : Nat) (s : State), slot < 64 → (s.dport slot).dState = 4 → ∃ t, exec (.pcieReadTimeout slot) s = .next t ∧ ∃ u : State, t = u.settle ∧
      (u.dport slot).lastCause = 5 ∧ (u.dport slot).dState ≠ 4 ∧
      u.counter cContainEvents (8 * slot + 4) = sat (2 ^ 64 - 1) (s.counter cContainEvents (8 * slot + 4) + 1)) ∧
  -- DRIVE_UNCORR_ERROR
  (∀ (slot : Nat) (s : State), slot < 64 → (s.dport slot).dState = 4 → ∃ t, exec (.driveUncorrError slot) s = .next t ∧ ∃ u : State, t = u.settle ∧
      (u.dport slot).lastCause = 1 ∧ (u.dport slot).dState ≠ 4 ∧
      u.counter cContainEvents (8 * slot + 0) = sat (2 ^ 64 - 1) (s.counter cContainEvents (8 * slot + 0) + 1)) ∧
  -- DRIVE_LINK_DOWN
  (∀ (slot : Nat) (s : State), slot < 64 → (s.dport slot).dState = 4 → ∃ t, exec (.driveLinkDown slot) s = .next t ∧ ∃ u : State, t = u.settle ∧
      (u.dport slot).lastCause = 6 ∧ (u.dport slot).dState ≠ 4 ∧
      u.counter cContainEvents (8 * slot + 5) = sat (2 ^ 64 - 1) (s.counter cContainEvents (8 * slot + 5) + 1)) ∧
  -- DRIVE_CORR_ERROR
  (∀ (slot : Nat) (s : State), slot < 64 → ∃ t, exec (.driveCorrError slot) s = .next t ∧
      t.counter cCorrErr slot = sat (2 ^ 64 - 1) (s.counter cCorrErr slot + 1)) ∧
  -- RELEASE_PERST_END
  (∀ (slot : Nat) (s : State), slot < 64 → (s.dport slot).dState = 6 → ∃ t, exec (.releasePerstEnd slot) s = .next t ∧ (t.dport slot).dState = 2 ∧
      (t.slotPwr slot).perstHigh = true) ∧
  -- DRIVE_L1_IDLE
  (∀ (slot : Nat) (s : State), slot < 64 → (s.dport slot).dState = 4 → s.drivePortCfgAspmL1 slot = 1 → (s.dport slot).inL1 = false →
      (s.dport slot).tagsIn 1 = 0 → ∃ t, exec (.driveL1Idle slot) s = .next t ∧ (t.dport slot).inL1 = true ∧
      t.counter cL1Entries slot = sat (2 ^ 64 - 1) (s.counter cL1Entries slot + 1)) ∧
  -- RESERVATION_WAIT_EXPIRY
  (∀ (slot : Nat) (s : State), slot < 64 → (s.dport slot).dState = 3 → (s.dport slot).enumStep = 7 → (s.dport slot).registered = true →
      s.paired = true → s.self = 1 → ∃ t, exec (.reservationWaitExpiry slot false) s = .next t ∧ (t.dport slot).reserved = true ∧
      (t.dport slot).enumStep = 8)

/-- O47. Commands of slot power and the energy store, part 1 of 3: each of SLOT_PRESENCE_ASSERT, SLOT_SEATED, SLOT_PRESENCE_LOST, SLOT_SAMPLE, SLOT_FAULT_TIMER, SLOT_OVERCURRENT_TIMER, SLOT_TRIP, SLOT_COOLDOWN_END, SLOT_EMPTY_CLEAR completes in every state that meets the hypotheses of its clause, and the clause says what the next
state holds. -/
def Obligations.CompletesSlotPowerA : Prop :=
  -- SLOT_PRESENCE_ASSERT
  (∀ (slot : Nat) (s : State), slot < 64 → ∃ t, exec (.slotPresenceAssert slot) s = .next t ∧ (t.slotPwr slot).present = true ∧
      (t.slotPwr slot).seatSince = s.now) ∧
  -- SLOT_SEATED
  (∀ (slot : Nat) (s : State), slot < 64 → (s.slotPwr slot).present = true → s.drivesOff = false → s.modes.mode ≠ .m0 → (s.slotPwr slot).pState = 2 →
      (s.slotPwr slot).cooling = false → (s.slotPwr slot).marked = false → s.slotMayRun slot = true → s.leads slot = true →
      ∃ t, exec (.slotSeated slot) s = .next t ∧ (t.slotPwr slot).pState = 4 ∧ (t.slotPwr slot).gateOn = true) ∧
  -- SLOT_PRESENCE_LOST
  (∀ (slot : Nat) (s : State), slot < 64 → 0 < s.now → ∃ t, exec (.slotPresenceLost slot) s = .next t ∧ (t.slotPwr slot).present = false ∧
      (t.slotPwr slot).gateOn = false ∧ (t.slotPwr slot).emptySince = s.now) ∧
  -- SLOT_SAMPLE
  (∀ (slot : Nat) (current vOut vBus : Nat) (s : State), slot < 64 → (s.slotPwr slot).pState = 4 → 1 ≤ (s.slotPwr slot).pgSamples → 0 < vBus →
      9 * vBus ≤ 10 * min 2047 vOut → s.startExpired slot = false → ∃ t, exec (.slotSample slot current vOut vBus false) s = .next t ∧
      (t.slotPwr slot).pState = 5 ∧ (t.slotPwr slot).enhanced = true ∧ (t.slotPwr slot).poweredSince = s.now) ∧
  -- SLOT_FAULT_TIMER
  (∀ (slot : Nat) (s : State), slot < 64 → (s.slotPwr slot).pState = 4 → ∃ t, exec (.slotFaultTimer slot) s = .next t ∧ (t.slotPwr slot).pState = 3 ∧
      (t.slotPwr slot).lastFault = 2 ∧ (t.slotPwr slot).gateOn = false ∧
      t.counter cSlotStartFaults slot = sat (2 ^ 64 - 1) (s.counter cSlotStartFaults slot + 1)) ∧
  -- SLOT_OVERCURRENT_TIMER
  (∀ (slot : Nat) (s : State), slot < 64 → (s.slotPwr slot).pState = 5 → (s.slotPwr slot).limiter = true →
      ∃ t, exec (.slotOvercurrentTimer slot) s = .next t ∧ (t.slotPwr slot).pState = 3 ∧ (t.slotPwr slot).lastFault = 3 ∧
      (t.slotPwr slot).gateOn = false ∧ t.counter cSlotOvercurrent slot = sat (2 ^ 64 - 1) (s.counter cSlotOvercurrent slot + 1)) ∧
  -- SLOT_TRIP
  (∀ (slot : Nat) (s : State), slot < 64 → (s.slotPwr slot).gateOn = true → ∃ t, exec (.slotTrip slot) s = .next t ∧ (t.slotPwr slot).pState = 3 ∧
      (t.slotPwr slot).lastFault = 1 ∧ (t.slotPwr slot).gateOn = false ∧ t.counter cSlotTrips slot = sat (2 ^ 64 - 1) (s.counter cSlotTrips slot + 1)) ∧
  -- SLOT_COOLDOWN_END
  (∀ (slot : Nat) (s : State), slot < 64 → (s.slotPwr slot).cooling = true → (s.slotPwr slot).pState = 3 → (s.slotPwr slot).marked = true →
      (s.slotPwr slot).retryCnt + 1 ≤ s.slotPwrCfgRetryMax slot → s.slotMayRun slot = true → s.leads slot = true →
      ∃ t, exec (.slotCooldownEnd slot) s = .next t ∧ (t.slotPwr slot).pState = 4 ∧ (t.slotPwr slot).retryCnt = (s.slotPwr slot).retryCnt + 1 ∧
      (t.slotPwr slot).cooling = false) ∧
  -- SLOT_EMPTY_CLEAR
  (∀ (slot : Nat) (s : State), slot < 64 → (s.slotPwr slot).present = false → 0 < (s.slotPwr slot).emptySince →
      ∃ t, exec (.slotEmptyClear slot) s = .next t ∧ (t.slotPwr slot).retryCnt = 0 ∧ (t.slotPwr slot).marked = false)

/-- O48. Commands of slot power and the energy store, part 2 of 3: each of SLOT_POWERED_CLEAR, DRV_PERST_DEASSERT, FOLLOWER_GATE_CLOSE, CYCLE_OFF_END, FEED_LOSS, FEED_REVERSE_CURRENT, FEED_GOOD, ESTORE_TEST_START, ESTORE_TEST_MEASURE_END completes in every state that meets the hypotheses of its clause, and the clause says what the next
state holds. -/
def Obligations.CompletesSlotPowerB : Prop :=
  -- SLOT_POWERED_CLEAR
  (∀ (slot : Nat) (s : State), slot < 64 → (s.slotPwr slot).pState = 5 → ∃ t, exec (.slotPoweredClear slot) s = .next t ∧
      (t.slotPwr slot).retryCnt = 0 ∧ (t.slotPwr slot).marked = false) ∧
  -- DRV_PERST_DEASSERT
  (∀ (slot : Nat) (s : State), slot < 64 → (s.slotPwr slot).pState = 5 → ∃ t, exec (.drvPerstDeassert slot) s = .next t ∧
      (t.slotPwr slot).perstHigh = true) ∧
  -- FOLLOWER_GATE_CLOSE
  (∀ (slot : Nat) (s : State), slot < 64 → (s.slotPwr slot).present = true → (s.slotPwr slot).pState = 2 → (s.slotPwr slot).outputGood = true →
      (s.slotPwr slot).cooling = false → s.slotMayRun slot = true → s.leads slot = false → ∃ t, exec (.followerGateClose slot) s = .next t ∧
      (t.slotPwr slot).pState = 5 ∧ (t.slotPwr slot).gateOn = true ∧ (t.slotPwr slot).follower = true) ∧
  -- CYCLE_OFF_END
  (∀ (slot : Nat) (s : State), slot < 64 → (s.slotPwr slot).cycling = true → s.slotMayRun slot = true → ∃ t, exec (.cycleOffEnd slot) s = .next t ∧
      (t.slotPwr slot).pState = 4 ∧ (t.slotPwr slot).cycling = false) ∧
  -- FEED_LOSS
  (∀ (feed volt : Nat) (s : State), feed < 2 → (if feed = 0 then s.power.feeds.aGood else s.power.feeds.bGood) = true →
      ∃ t, exec (.feedLoss feed volt) s = .next t ∧ (if feed = 0 then t.power.feeds.aGood else t.power.feeds.bGood) = false ∧
      t.counter cFeedLoss feed = sat (2 ^ 64 - 1) (s.counter cFeedLoss feed + 1)) ∧
  -- FEED_REVERSE_CURRENT
  (∀ (feed : Nat) (s : State), feed < 2 → ∃ t, exec (.feedReverseCurrent feed) s = .next t ∧
      (if feed = 0 then t.power.feeds.aConduct else t.power.feeds.bConduct) = false ∧
      t.counter cFeedReverse feed = sat (2 ^ 64 - 1) (s.counter cFeedReverse feed + 1)) ∧
  -- FEED_GOOD
  (∀ (feed volt : Nat) (s : State), feed < 2 → s.den.stopped = false → ∃ t, exec (.feedGood feed volt) s = .next t ∧
      (if feed = 0 then t.power.feeds.aGood else t.power.feeds.bGood) = true ∧ (if feed = 0 then t.power.feeds.aVolt else t.power.feeds.bVolt) = volt) ∧
  -- ESTORE_TEST_START
  (∀ (vNow : Nat) (s : State), s.storePresent = true → s.power.estore.testing = false → s.vChgEffMv ≤ 100 * vNow + 100 →
      ∃ t, exec (.estoreTestStart vNow) s = .next t ∧ t.power.estore.testing = true ∧ t.power.estore.discharging = true ∧ t.power.estore.vNow = vNow ∧
      t.counter cEstoreTests 0 = sat (2 ^ 64 - 1) (s.counter cEstoreTests 0 + 1)) ∧
  -- ESTORE_TEST_MEASURE_END
  (∀ (cMeas esrMeas : Nat) (s : State), s.power.estore.testing = true → ∃ t, exec (.estoreTestMeasureEnd cMeas esrMeas) s = .next t ∧
      t.power.estore.testing = false ∧ t.power.estore.tested = true ∧
      t.power.estore.cMeas = (if s.storeBattery = true then s.power.estore.cMeas else cMeas) ∧ t.power.estore.esrMeas = esrMeas ∧
      t.boot.storeTestDone = true)

/-- O49. Commands of slot power and the energy store, part 3 of 3: each of ESTORE_TEST_TIMEOUT, ESTORE_CHARGE_TIMEOUT, ESTORE_OVER_CEILING, LARDER_LIMIT_RECOMPUTE, PARTNER_NCOVER_POLL, EYE_SAMPLE, HBM_CE_SAMPLE, DRIVE_RISK_SAMPLE, FUSE_MARGIN_CHECK completes in every state that meets the hypotheses of its clause, and the clause says what the next
state holds. -/
def Obligations.CompletesSlotPowerC : Prop :=
  -- ESTORE_TEST_TIMEOUT
  (∀ (s : State), s.power.estore.testing = true → ∃ t, exec .estoreTestTimeout s = .next t ∧ t.power.estore.testing = false ∧
      t.power.estore.testFailed = true ∧ t.boot.storeTestDone = true ∧
      t.counter cEstoreTestFail 0 = sat (2 ^ 64 - 1) (s.counter cEstoreTestFail 0 + 1)) ∧
  -- ESTORE_CHARGE_TIMEOUT
  (∀ (s : State), s.storePresent = true → ∃ t, exec .estoreChargeTimeout s = .next t ∧ t.power.estore.testFailed = true ∧ t.boot.storeTestDone = true) ∧
  -- ESTORE_OVER_CEILING
  (∀ (vNow : Nat) (s : State), s.storeBattery = false → s.fuses.energyCeilJ * 204000 < s.power.estore.cMeas * vNow * vNow →
      ∃ t, exec (.estoreOverCeiling vNow) s = .next t ∧ t.power.estore.discharging = true ∧ t.power.estore.charging = false ∧
      t.power.estore.vNow = vNow) ∧
  -- LARDER_LIMIT_RECOMPUTE
  (∀ (vNow : Nat) (rate : List Nat) (s : State), ∃ t, exec (.larderLimitRecompute vNow rate) s = .next t ∧ ∃ u : State, t = u.settle ∧
      u.power.estore.vNow = vNow ∧ u.power.estore.rates = (rate ++ s.power.estore.rates).take 16) ∧
  -- PARTNER_NCOVER_POLL
  (∀ (ncover : Nat) (s : State), s.paired = true → ∃ t, exec (.partnerNcoverPoll ncover) s = .next t ∧ ∃ u : State, t = u.settle ∧
      u.power.estore.partnerN = ncover) ∧
  -- EYE_SAMPLE
  (∀ (p h : Nat) (s : State), h < s.marginCfgEyeMinMv → tget 0 s.margins.eyeLow p < 2 → ∃ t, exec (.eyeSample [(p, h)]) s = .next t ∧
      t.margins.eyeLow = tput s.margins.eyeLow p (tget 0 s.margins.eyeLow p + 1)) ∧
  -- HBM_CE_SAMPLE
  (∀ (counts : List Nat) (s : State), s.marginCfgHbmCeHi < (worstStack counts).2 → s.elec.ceLevel < 4 → ∃ t, exec (.hbmCeSample counts) s = .next t ∧
      t.elec.ceLevel = 2 * s.elec.ceLevel ∧ t.margins.ceQuiet = none) ∧
  -- DRIVE_RISK_SAMPLE
  (∀ (latency : List (Nat × Nat)) (n m cause : Nat) (p : Pool) (s : State), s.layout.pools = [(n, p)] → 2 ≤ p.pState → s.memberSlots n = [m] →
      s.riskCause n m latency = some cause → ∃ t, exec (.driveRiskSample latency) s = .next t ∧ tget 0 t.margins.riskSince n = s.now) ∧
  -- FUSE_MARGIN_CHECK
  (∀ (s : State), ∃ t, exec (.fuseMarginCheck true false) s = .next t ∧ t = s.marginEvent 0x08 whole)

/-- O50. Commands of the local host port, part 1 of 2: each of LP_PERST_ASSERT, LP_PERST_DEASSERT, LP_BME_CLEAR, LP_D3HOT_ENTRY, LP_CC_ENABLE, LP_CC_DISABLE, LP_CC_SHUTDOWN, LP_DOORBELL, LP_BAR_BAD_ACCESS, LP_MBOX_DOORBELL completes in every state that meets the hypotheses of its clause, and the clause says what the next
state holds. -/
def Obligations.CompletesLocalPortA : Prop :=
  -- LP_PERST_ASSERT
  (∀ (s : State), ∃ t, exec .lpPerstAssert s = .next t ∧ t.den.pins.lpPerst = true ∧ t.localPort.bme = false ∧ t.localPort.mbox = {} ∧
      t.localPort.lState = (if s.localPort.frozen = true then 3 else 0)) ∧
  -- LP_PERST_DEASSERT
  (∀ (s : State), s.modes.mode ≠ .m0 → ∃ t, exec .lpPerstDeassert s = .next t ∧ t.localPort.ssvid = s.localPortCfgSsvid ∧
      t.localPort.ssid = s.localPortCfgSsid ∧ t.localPort.lState = (if s.localPort.frozen = true then 3 else 1) ∧ t.den.pins.lpPerst = false) ∧
  -- LP_BME_CLEAR
  (∀ (s : State), ∃ t, exec .lpBmeClear s = .next t ∧ t.localPort.bme = false) ∧
  -- LP_D3HOT_ENTRY
  (∀ (s : State), ∃ t, exec .lpD3hotEntry s = .next t ∧ t.localPort.d3hot = true) ∧
  -- LP_CC_ENABLE
  (∀ (adminSq adminCq intMode vectors maxSnoop : Nat) (relaxed ltr : Bool) (s : State), s.lpReached = true → s.localPort.enabled = false →
      s.localPort.disabling = false → ∃ t, exec (.lpCcEnable adminSq adminCq intMode vectors relaxed ltr maxSnoop) s = .next t ∧
      t.localPort.enabled = true ∧ t.localPort.rdy = s.inService ∧ t.localPort.heldEnable = (!s.inService) ∧
      t.localPort.sqs = [(0, { size := adminSq + 1 })]) ∧
  -- LP_CC_DISABLE
  (∀ (s : State), s.lpReached = true → s.localPort.enabled = true → ∃ t, exec .lpCcDisable s = .next t ∧
      ∃ u : State, t = (u.recomputePs.settle).lpDrained ∧ u.localPort.enabled = false ∧ u.localPort.disabling = true) ∧
  -- LP_CC_SHUTDOWN
  (∀ (shn : Nat) (s : State), s.lpReached = true → s.localPort.enabled = true → shn ≠ 0 → ∃ t, exec (.lpCcShutdown shn) s = .next t ∧
      ∃ u : State, t = u.lpDrained ∧ u.localPort.shn = shn ∧ u.localPort.shst = max 1 s.localPort.shst) ∧
  -- LP_DOORBELL
  (∀ (qid value : Nat) (q : LQueue) (s : State), s.lpReached = true → tfind s.localPort.sqs qid = some q → value < q.size →
      ∃ t, exec (.lpDoorbell qid false value) s = .next t ∧ t.localPort.sqs = tadj qid (fun y => { y with tail := value }) s.localPort.sqs) ∧
  -- LP_BAR_BAD_ACCESS
  (∀ (s : State), (decide (s.localPort.lState = 2) || s.localPort.frozen) = true → ∃ t, exec .lpBarBadAccess s = .next t ∧
      t.counter cLpBadAccess 0 = sat (2 ^ 64 - 1) (s.counter cLpBadAccess 0 + 1)) ∧
  -- LP_MBOX_DOORBELL
  (∀ (len vector : Nat) (irqEn : Bool) (s : State), s.lpReached = true → s.modes.mode ≠ .m0 → s.localPort.mbox.busy = false → 0 < len → len ≤ 4096 →
      ∃ t, exec (.lpMboxDoorbell len irqEn vector) s = .next t ∧ t.localPort.mbox.busy = true ∧ t.localPort.mbox.reqLen = len ∧
      t.localPort.mbox.vector = vector)

/-- O51. Commands of the local host port, part 2 of 2: each of LP_VECTOR_UNMASK, LP_UNCORR_ERROR, LP_HOT_RESET, LP_LINK_DOWN, LP_AUTO_RELEASE, LP_IDLE_TIMER, LP_LTR_HOLD_END, LOCAL_LINK_UP, HOST_MEMORY_READ_COMPLETION completes in every state that meets the hypotheses of its clause, and the clause says what the next
state holds. -/
def Obligations.CompletesLocalPortB : Prop :=
  -- LP_VECTOR_UNMASK
  (∀ (vector : Nat) (s : State), s.lpReached = true → s.localPort.intMode = 2 → s.localPort.pendingVec.contains vector = true →
      s.localPort.fnMask = false → s.lpDma = true → ∃ t, exec (.lpVectorUnmask vector) s = .next t ∧
      t.localPort.unmasked = addOne vector s.localPort.unmasked ∧ t.localPort.pendingVec = dropOne vector s.localPort.pendingVec) ∧
  -- LP_UNCORR_ERROR
  (∀ (s : State), s.localPort.lState = 2 → s.localPort.frozen = false → ∃ t, exec .lpUncorrError s = .next t ∧ t.localPort.frozen = true ∧
      t.localPort.cause = 1 ∧ t.localPort.cfs = true ∧ t.counter cLpFreezeEvents 0 = sat (2 ^ 64 - 1) (s.counter cLpFreezeEvents 0 + 1)) ∧
  -- LP_HOT_RESET
  (∀ (s : State), s.den.pins.lpPerst = false → s.localPort.speed ≠ 0 → s.localPort.frozen = false → ∃ t, exec .lpHotReset s = .next t ∧
      t.localPort.frozen = true ∧ t.localPort.cause = 2 ∧ t.localPort.cfs = true ∧
      t.counter cLpFreezeEvents 1 = sat (2 ^ 64 - 1) (s.counter cLpFreezeEvents 1 + 1) ∧ t.localPort.speed = 0) ∧
  -- LP_LINK_DOWN
  (∀ (s : State), s.den.pins.lpPerst = false → s.localPort.speed ≠ 0 → s.localPort.frozen = false → ∃ t, exec .lpLinkDown s = .next t ∧
      t.localPort.frozen = true ∧ t.localPort.cause = 3 ∧ t.localPort.cfs = true ∧
      t.counter cLpFreezeEvents 2 = sat (2 ^ 64 - 1) (s.counter cLpFreezeEvents 2 + 1) ∧ t.localPort.speed = 0) ∧
  -- LP_AUTO_RELEASE
  (∀ (s : State), s.localPort.frozen = true → (s.localPort.cause = 2 ∨ s.localPort.cause = 3) → s.localPortCfgAutoRelease = 1 →
      s.localPort.speed ≠ 0 → s.den.pins.lpPerst = false → ∃ t, exec .lpAutoRelease s = .next t ∧ t.localPort.frozen = false ∧
      t.localPort.lState = 2 ∧ t.localPort.cause = s.localPort.cause) ∧
  -- LP_IDLE_TIMER
  (∀ (s : State), s.lpActive = false → ∃ t, exec .lpIdleTimer s = .next t ∧ t.localPort.lastActiveNs = 0) ∧
  -- LP_LTR_HOLD_END
  (∀ (f : Nat) (s : State), s.localPort.ltrHeld = some f → s.localPort.ltrEnable = true → ∃ t, exec .lpLtrHoldEnd s = .next t ∧
      t.localPort.ltrLast = f ∧ t.localPort.ltrHeld = none ∧ t.counter cLpLtrMsgs 0 = sat (2 ^ 64 - 1) (s.counter cLpLtrMsgs 0 + 1)) ∧
  -- LOCAL_LINK_UP
  (∀ (speed width : Nat) (s : State), s.den.pins.lpPerst = false → s.modes.mode ≠ .m0 → speed ≠ 0 →
      ∃ t, exec (.localLinkUp speed width) s = .next t ∧ t.localPort.speed = speed ∧ t.localPort.width = width ∧
      t.localPort.lState = (if s.localPort.frozen = true then 3 else 2)) ∧
  -- HOST_MEMORY_READ_COMPLETION
  (∀ (qid slot : Nat) (bytes : Bytes) (s : State), s.lpDma = true → s.localPort.cfs = false → s.slotUsed slot = true →
      s.localPort.fetching.contains slot = true → bytes ≠ [] → bytes.length < (s.slot slot).need →
      ∃ t, exec (.hostMemoryReadCompletion qid [] slot bytes) s = .next t ∧ ∃ u : State, t = u.settle ∧
      (u.slot slot).data = (s.slot slot).data ++ bytes ∧ (u.slot slot).need = (s.slot slot).need - bytes.length)

/-- O52. Commands of sessions, attestation, objects, check values and the arbiter, part 1 of 3: each of ARBITER_GRANT, CCP_RELAY, CCP_PACKET_DISCARD, GET_INFO, SESSION_OPEN, SESSION_AUTH, SESSION_AUTH_TIMEOUT, SESSION_HOLDOFF_END, SESSION_CLOSE, SESSION_IDLE_EXPIRY completes in every state that meets the hypotheses of its clause, and the clause says what the next
state holds. -/
def Obligations.CompletesSessionsA : Prop :=
  -- ARBITER_GRANT
  (∀ (resource n : Nat) (w : Owed) (ws : List Owed) (s : State), resource = 18 → s.ccp.cvuWaiting = w :: ws → tfreeFrom s.ccp.cvus 4 4 = some n →
      ∃ t, exec (.arbiterGrant resource) s = .next t ∧ t.ccp.cvuWaiting = ws ∧ (t.cvu n).holder = 2 ∧ (t.cvu n).session = w.h.session) ∧
  -- CCP_RELAY
  (∀ (packet : Relay) (w : Owed) (s : State), s.settUp = true → packet.isReply = true → s.ccp.relayed = [w] → w.opcode = packet.opcode →
      w.h.transport = packet.h.transport → w.h.tag = packet.h.tag → w.h.alive = packet.h.alive → ∃ t, exec (.ccpRelay packet) s = .next t ∧
      ∃ u : State, t = u.ccpCarry w.h packet.opcode packet.status packet.packet ∧ u.ccp.relayed = []) ∧
  -- CCP_PACKET_DISCARD
  (∀ (transport : Nat) (s : State), transport < 5 → s.modes.mode ≠ .m0 →
      s.ccpArrives { transport := transport % 4, viaSett := decide (transport = 4) } = true → ∃ t, exec (.ccpPacketDiscard transport) s = .next t ∧
      t.counter cCcpDiscard 0 = sat (2 ^ 64 - 1) (s.counter cCcpDiscard 0 + 1)) ∧
  -- GET_INFO
  (∀ (h : CcpHdr) (s : State), s.acceptsOpen h 0x01 (none) = true → ∃ t, exec (.getInfo h) s = .next t ∧
      t = (s.enteredOpen h 0x01).ccpReply h 0x01 0 (leBytes 8 s.fuses.deviceId ++ leBytes 1 s.fuses.lifeCycle ++ leBytes 1 s.modes.mode.num ++ leBytes 1 s.self ++ leBytes 1 s.boot.svn ++ leBytes 1 1)) ∧
  -- SESSION_OPEN
  (∀ (h : CcpHdr) (role tenant nonce pubKey id : Nat) (chainGood : Bool) (s : State), s.acceptsOpen h 0x02 (none) = true →
      s.ccp.holdOff.contains (carrierOf h) = false → 1 ≤ role → role ≤ 4 → roleAccepted s.fuses.lifeCycle role = true → (role = 2 → tenant ≤ 4095 ∧
      (tget {} s.enclave.tenants tenant).enrolled = true) → (role ≠ 2 → chainGood = true) → tfreeFrom s.ccp.sessions 1 64 = some id →
      ∃ t, exec (.sessionOpen h role tenant nonce pubKey chainGood) s = .next t ∧ (t.session id).sState = 1 ∧ (t.session id).role = role ∧
      (t.session id).tenant = tenant ∧ (t.session id).transport = h.transport ∧ (t.session id).viaSett = h.viaSett) ∧
  -- SESSION_AUTH
  (∀ (h : CcpHdr) (e : Session) (s : State), s.accepts h 0x03 (none) e = true → ∃ t, exec (.sessionAuth h true) s = .next t ∧
      (t.session h.session).sState = 2 ∧ t.answered h 0) ∧
  -- SESSION_AUTH_TIMEOUT
  (∀ (session : Nat) (s : State), session < 65 → (s.session session).sState = 1 → ∃ t, exec (.sessionAuthTimeout session) s = .next t ∧
      thas t.ccp.sessions session = false) ∧
  -- SESSION_HOLDOFF_END
  (∀ (transport : Nat) (s : State), transport < 5 → ∃ t, exec (.sessionHoldoffEnd transport) s = .next t ∧
      t.ccp.holdOff = dropOne transport s.ccp.holdOff) ∧
  -- SESSION_CLOSE
  (∀ (h : CcpHdr) (e : Session) (s : State), s.accepts h 0x04 (none) e = true → ∃ t, exec (.sessionClose h) s = .next t ∧
      thas t.ccp.sessions h.session = false) ∧
  -- SESSION_IDLE_EXPIRY
  (∀ (session : Nat) (s : State), session < 65 → (s.session session).sState = 2 → ∃ t, exec (.sessionIdleExpiry session) s = .next t ∧
      thas t.ccp.sessions session = false)

/-- O53. Commands of sessions, attestation, objects, check values and the arbiter, part 2 of 3: each of NOP, GET_EVIDENCE, GET_CERT, SPDM_GET_VERSION, SPDM_GET_CAPABILITIES, SPDM_NEGOTIATE_ALGORITHMS, SPDM_GET_DIGESTS, SPDM_GET_CERTIFICATE, SPDM_CHALLENGE, SPDM_GET_MEASUREMENTS completes in every state that meets the hypotheses of its clause, and the clause says what the next
state holds. -/
def Obligations.CompletesSessionsB : Prop :=
  -- NOP
  (∀ (h : CcpHdr) (e : Session) (s : State), s.accepts h 0x05 (none) e = true → ∃ t, exec (.nop h) s = .next t ∧
      (t.session h.session).lastNs = s.now ∧ t.answered h 0) ∧
  -- GET_EVIDENCE
  (∀ (h : CcpHdr) (nonce : Nat) (s : State), s.acceptsOpen h 0x06 (none) = true → ∃ t, exec (.getEvidence h nonce) s = .next t ∧
      t = (s.enteredOpen h 0x06).ccpReply h 0x06 0 ((s.enteredOpen h 0x06).measurements ++ (s.enteredOpen h 0x06).aliasSign 1 (nonce :: (s.enteredOpen h 0x06).measurements.map fun b : BitVec 8 => b.toNat) ++ (s.enteredOpen h 0x06).aliasSign 2 (nonce :: (s.enteredOpen h 0x06).measurements.map fun b : BitVec 8 => b.toNat))) ∧
  -- GET_CERT
  (∀ (h : CcpHdr) (certSlot : Nat) (s : State), s.acceptsOpen h 0x07 (none) = true → certSlot < 2 → ∃ t, exec (.getCert h certSlot) s = .next t ∧
      t = (s.enteredOpen h 0x07).ccpReply h 0x07 0 (Config.certChain certSlot)) ∧
  -- SPDM_GET_VERSION
  (∀ (src : SpdmSrc) (s : State), src.overMailbox = false → s.modes.mode ≠ .m0 → s.ccpCfgMgmtBus ≠ 0 → ∃ t, exec (.spdmGetVersion src) s = .next t ∧
      t.ccp.spdmVersion = true ∧ t.ccp.spdmAlg = false ∧ (t.sent.head?.map fun m : Out => m.args) = some [0x04]) ∧
  -- SPDM_GET_CAPABILITIES
  (∀ (src : SpdmSrc) (s : State), src.overMailbox = false → s.modes.mode ≠ .m0 → s.ccpCfgMgmtBus ≠ 0 → s.ccp.spdmVersion = true →
      ∃ t, exec (.spdmGetCapabilities src) s = .next t ∧ t = s.wakeIdle.cancelDen.send .spdm [0x61] []) ∧
  -- SPDM_NEGOTIATE_ALGORITHMS
  (∀ (src : SpdmSrc) (s : State), src.overMailbox = false → s.modes.mode ≠ .m0 → s.ccpCfgMgmtBus ≠ 0 → s.ccp.spdmVersion = true →
      ∃ t, exec (.spdmNegotiateAlgorithms src true) s = .next t ∧ t.ccp.spdmAlg = true ∧ (t.sent.head?.map fun m : Out => m.args) = some [0x63]) ∧
  -- SPDM_GET_DIGESTS
  (∀ (src : SpdmSrc) (s : State), src.overMailbox = false → s.modes.mode ≠ .m0 → s.ccpCfgMgmtBus ≠ 0 → s.ccp.spdmAlg = true →
      ∃ t, exec (.spdmGetDigests src) s = .next t ∧
      t = s.wakeIdle.cancelDen.send .spdm [0x01] (leBytes 48 (Config.sha384 (Config.certChain 0)) ++ leBytes 48 (Config.sha384 (Config.certChain 1)))) ∧
  -- SPDM_GET_CERTIFICATE
  (∀ (src : SpdmSrc) (certSlot offset length : Nat) (s : State), src.overMailbox = false → s.modes.mode ≠ .m0 → s.ccpCfgMgmtBus ≠ 0 →
      s.ccp.spdmAlg = true → certSlot < 2 → ∃ t, exec (.spdmGetCertificate src certSlot offset length) s = .next t ∧
      t = if (Config.certChain certSlot).length ≤ offset then s.wakeIdle.cancelDen.send .spdm [0x7F] [1] else s.wakeIdle.cancelDen.send .spdm [0x02] (leBytes 1 certSlot ++ leBytes 2 (((Config.certChain certSlot).drop offset).take length).length ++ leBytes 2 ((Config.certChain certSlot).length - offset - (((Config.certChain certSlot).drop offset).take length).length) ++ ((Config.certChain certSlot).drop offset).take length)) ∧
  -- SPDM_CHALLENGE
  (∀ (src : SpdmSrc) (certSlot nonce : Nat) (s : State), src.overMailbox = false → s.modes.mode ≠ .m0 → s.ccpCfgMgmtBus ≠ 0 → s.ccp.spdmAlg = true →
      certSlot < 2 → ∃ t, exec (.spdmChallenge src certSlot nonce) s = .next t ∧ t.fresh = s.fresh + 1 ∧
      (t.sent.head?.map fun m : Out => (m.args, m.data)) = some ([0x03], leBytes 1 certSlot ++ leBytes 48 (Config.sha384 (Config.certChain certSlot)) ++ leBytes 32 (s.drawn 256) ++ s.aliasSign (certSlot + 1) [Config.sha384 (Config.certChain certSlot), s.drawn 256, nonce])) ∧
  -- SPDM_GET_MEASUREMENTS
  (∀ (src : SpdmSrc) (index nonce : Nat) (s : State), src.overMailbox = false → s.modes.mode ≠ .m0 → s.ccpCfgMgmtBus ≠ 0 → s.ccp.spdmAlg = true →
      1 ≤ index → index ≤ 8 → ∃ t, exec (.spdmGetMeasurements src index nonce) s = .next t ∧
      t = s.wakeIdle.cancelDen.send .spdm [0x60] (s.wakeIdle.cancelDen.measurement index ++ s.wakeIdle.cancelDen.aliasSign 1 (nonce :: (s.wakeIdle.cancelDen.measurement index).map fun b : BitVec 8 => b.toNat)))

/-- O54. Commands of sessions, attestation, objects, check values and the arbiter, part 3 of 3: each of NVME_MI_COMMAND, EVENT_SUBSCRIBE, READ_LONG, READ_OBJ, WRITE_OBJ, STAGE, CVU_CLAIM, CVU_FEED, CVU_RELEASE, CVU_INIT completes in every state that meets the hypotheses of its clause, and the clause says what the next
state holds. -/
def Obligations.CompletesSessionsC : Prop :=
  -- NVME_MI_COMMAND
  (∀ (mi : NvmeMi) (s : State), s.modes.mode ≠ .m0 → s.ccpCfgMgmtBus ≠ 0 → ∃ t, exec (.nvmeMiCommand mi) s = .next t ∧ (mi.opcode = 1 →
      t = s.wakeIdle.cancelDen.miReply mi 0 [s.modes.mode.num, s.pair.lastFault, s.elec.dieC]) ∧ (mi.opcode = 3 → mi.arg = 1 → mi.value = 2 →
      t.ccp.smbusFreq = 400) ∧ (mi.opcode = 3 → mi.arg = 3 → 64 ≤ mi.value → mi.value < 65536 → t.ccp.mctpMtu = mi.value)) ∧
  -- EVENT_SUBSCRIBE
  (∀ (h : CcpHdr) (e : Session) (mask : Nat) (s : State), s.accepts h 0x09 (some 0) e = true → mask % 2 = 0 → mask < 32768 →
      ∃ t, exec (.eventSubscribe h mask) s = .next t ∧ (t.session h.session).eventMask = mask ∧ t.answered h 0) ∧
  -- READ_LONG
  (∀ (h : CcpHdr) (e : Session) (offset : Nat) (s : State), s.accepts h 0x0A (none) e = true → e.longReply ≠ [] → offset ≤ e.longReply.length →
      ∃ t, exec (.readLong h offset) s = .next t ∧
      (t.session h.session).cache.head?.map (fun y => (y.status, y.data)) = some (0, (e.longReply.drop offset).take 4056)) ∧
  -- READ_OBJ
  (∀ (h : CcpHdr) (e : Session) (obj offset length : Nat) (s : State), s.accepts h 0x10 (readGroup obj e.role) e = true → objExists obj = true →
      offset + length ≤ (s.entered h 0x10 e).objSize obj → s.readScope obj offset length e = 0 → (idSub obj = 14 → 7 ≤ idType obj → idType obj ≤ 9 →
      ((s.entered h 0x10 e).cvuCheck h.session (idInst obj)).code = 0) → ∃ t, exec (.readObj h obj offset length) s = .next t ∧
      t.sent = ((s.entered h 0x10 e).ccpReply h 0x10 0 ((s.entered h 0x10 e).objRead obj offset length)).sent ∧
      t.ccp.sessions = ((s.entered h 0x10 e).ccpReply h 0x10 0 ((s.entered h 0x10 e).objRead obj offset length)).ccp.sessions ∧ (idSub obj = 14 →
      idType obj = 10 → (tfind s.ccp.jobs (idInst obj)).map (fun y : Job => y.jState) = some 2 → thas t.ccp.jobs (idInst obj) = false)) ∧
  -- WRITE_OBJ
  (∀ (h : CcpHdr) (e : Session) (obj offset : Nat) (bytes : Bytes) (s : State), s.accepts h 0x11 (writeGroup obj) e = true → h.staged = false →
      ((s.entered h 0x11 e).writeCheck h.session obj offset bytes).code = 0 → (sharedObject obj = true → (s.entered h 0x11 e).sharedCut h = false) →
      ∃ t, exec (.writeObj h obj offset bytes) s = .next t ∧
      t = if sharedObject obj then ((s.entered h 0x11 e).writeApply obj offset bytes).sharedDone h 0x11 (obj :: offset :: bytes.map fun x : BitVec 8 => x.toNat) [] else ((s.entered h 0x11 e).writeApply obj offset bytes).ccpReply h 0x11 0 []) ∧
  -- STAGE
  (∀ (h : CcpHdr) (e : Session) (offset : Nat) (bytes : Bytes) (s : State), s.accepts h 0x12 (none) e = true → offset + bytes.length ≤ 262144 →
      ∃ t, exec (.stage h offset bytes) s = .next t ∧ (∀ i, i < bytes.length → tfind (t.session h.session).staging (offset + i) = bytes[i]?) ∧
      t.answered h 0) ∧
  -- CVU_CLAIM
  (∀ (h : CcpHdr) (e : Session) (alg n : Nat) (s : State), s.accepts h 0x18 (some 17) e = true → alg ≤ 1 → tfreeFrom s.ccp.cvus 4 4 = some n →
      ∃ t, exec (.cvuClaim h alg) s = .next t ∧
      tfind t.ccp.cvus n = some { holder := 2, alg := alg, session := h.session, bytes := 0, running := cvuInitial alg } ∧ t.answered h 0) ∧
  -- CVU_FEED
  (∀ (h : CcpHdr) (e : Session) (unit : Nat) (bytes : Bytes) (s : State), s.accepts h 0x19 (some 17) e = true → h.staged = false → unit < 8 →
      ((s.entered h 0x19 e).cvuCheck h.session unit).code = 0 → ∃ t, exec (.cvuFeed h unit bytes) s = .next t ∧
      (t.cvu unit).running = BitVec.ofNat 64 (crcRun (if (s.cvu unit).alg = 0 then polyCrc32c else polyCrc64) (s.cvu unit).running.toNat bytes) ∧
      t.answered h 0) ∧
  -- CVU_RELEASE
  (∀ (h : CcpHdr) (e : Session) (unit : Nat) (s : State), s.accepts h 0x1A (some 17) e = true → unit < 8 →
      ((s.entered h 0x1A e).cvuCheck h.session unit).code = 0 → ∃ t, exec (.cvuRelease h unit) s = .next t ∧ thas t.ccp.cvus unit = false ∧
      t.answered h 0) ∧
  -- CVU_INIT
  (∀ (h : CcpHdr) (e : Session) (unit alg : Nat) (s : State), s.accepts h 0x11 (writeGroup (oid 14 7 unit)) e = true →
      ((s.entered h 0x11 e).writeCheck h.session (oid 14 7 unit) 0 (leBytes 8 (alg * 2 ^ 61 + 2 ^ 60))).code = 0 → unit < 8 → alg < 2 →
      ∃ t, exec (.cvuInit h unit alg) s = .next t ∧ (t.cvu unit).running = cvuInitial alg ∧ (t.cvu unit).bytes = 0 ∧ (t.cvu unit).alg = alg ∧
      t.answered h 0)

/-- O55. Commands of the controls and configuration writes, part 1 of 2: each of LEASE_MOVE, RESHAPE_START, RESHAPE_PAUSE, SHAPER_CONFIG_WRITE, METER_CONFIG_WRITE, CONTAIN, DRIVE_PORT_RELEASE completes in every state that meets the hypotheses of its clause, and the clause says what the next
state holds. -/
def Obligations.CompletesActionsA : Prop :=
  -- LEASE_MOVE
  (∀ (h : CcpHdr) (e : Session) (value : Nat) (s : State), s.accepts h 0x11 (writeGroup (oid 4 3 0)) e = true →
      ((s.entered h 0x11 e).writeCheck h.session (oid 4 3 0) 0 (leBytes 8 (value))).code = 0 → value < 2 ^ 64 →
      ∃ t, exec (.leaseMove h value) s = .next t ∧
      t.cons.lease = { lState := 1, handle := bits value 63 50, extNo := bits value 49 28, target := bits value 27 27 }) ∧
  -- RESHAPE_START
  (∀ (h : CcpHdr) (e : Session) (pool : Nat) (plan : List (Nat × Nat × Nat)) (s : State), s.accepts h 0x11 (writeGroup (oid 5 10 pool)) e = true →
      ((s.entered h 0x11 e).writeCheck h.session (oid 5 10 pool) 0 (leBytes 8 (setBits ((s.entered h 0x11 e).word (oid 5 10 pool)) 42 42 1))).code = 0 →
      pool < 8 → (s.pool pool).reshape = none →
      ((s.entered h 0x11 e).setWord (oid 5 10 pool) (rwPart (wordFields 5 10) (setBits ((s.entered h 0x11 e).word (oid 5 10 pool)) 42 42 1))).reshapePlan pool = some plan →
      (s.entered h 0x11 e).sharedCut h = false → ∃ t, exec (.reshapeStart h pool) s = .next t ∧
      (t.pool pool).reshape = some ({ rState := if t.reshapeCfgPause pool = 1 then 2 else 1, stepNo := 0, plan := plan } : ReshapeOp)) ∧
  -- RESHAPE_PAUSE
  (∀ (h : CcpHdr) (e : Session) (pool : Nat) (x : ReshapeOp) (s : State), s.accepts h 0x11 (writeGroup (oid 5 10 pool)) e = true →
      ((s.entered h 0x11 e).writeCheck h.session (oid 5 10 pool) 0 (leBytes 8 (setBits ((s.entered h 0x11 e).word (oid 5 10 pool)) 43 43 1))).code = 0 →
      pool < 8 → (s.pool pool).reshape = some x → x.rState ≠ 3 → (s.entered h 0x11 e).sharedCut h = false →
      ∃ t, exec (.reshapePause h pool) s = .next t ∧ (t.pool pool).reshape = some { x with rState := 2 }) ∧
  -- SHAPER_CONFIG_WRITE
  (∀ (h : CcpHdr) (e : Session) (obj value : Nat) (s : State), s.accepts h 0x11 (writeGroup (obj)) e = true →
      ((s.entered h 0x11 e).writeCheck h.session (obj) 0 (leBytes 8 (value))).code = 0 → idSub obj = 8 → 1 ≤ idType obj → idType obj ≤ 4 →
      objExists obj = true → value < 2 ^ 64 → ∃ t, exec (.shaperConfigWrite h obj value) s = .next t ∧
      t.word obj = rwPart (wordFields 8 (idType obj)) value ∧ t.answered h 0) ∧
  -- METER_CONFIG_WRITE
  (∀ (h : CcpHdr) (e : Session) (obj value : Nat) (s : State), s.accepts h 0x11 (writeGroup (obj)) e = true →
      ((s.entered h 0x11 e).writeCheck h.session (obj) 0 (leBytes 8 (value))).code = 0 → idSub obj = 8 → (idType obj = 5 ∨ idType obj = 6) →
      objExists obj = true → value < 2 ^ 64 → ∃ t, exec (.meterConfigWrite h obj value) s = .next t ∧
      t.word obj = rwPart (wordFields 8 (idType obj)) value ∧ t.answered h 0) ∧
  -- CONTAIN
  (∀ (h : CcpHdr) (e : Session) (slot : Nat) (s : State), s.accepts h 0x11 (writeGroup (oid 10 3 slot)) e = true →
      ((s.entered h 0x11 e).writeCheck h.session (oid 10 3 slot) 0 (leBytes 8 (2 ^ 63))).code = 0 → slot < 64 →
      ∃ t, exec (.contain h slot) s = .next t ∧ ∃ u : State, t = u.settle.ccpReply h 0x11 0 [] ∧ (u.dport slot).lastCause = 8 ∧
      (u.dport slot).dState ≠ 4) ∧
  -- DRIVE_PORT_RELEASE
  (∀ (h : CcpHdr) (e : Session) (slot : Nat) (s : State), s.accepts h 0x11 (writeGroup (oid 10 3 slot)) e = true →
      ((s.entered h 0x11 e).writeCheck h.session (oid 10 3 slot) 0 (leBytes 8 (2 ^ 62))).code = 0 → slot < 64 →
      ∃ t, exec (.drivePortRelease h slot) s = .next t ∧ (t.dport slot).dState = 6 ∧ (t.slotPwr slot).perstHigh = false ∧ t.answered h 0)

/-- O56. Commands of the controls and configuration writes, part 2 of 2: each of CLEAR_RETRY, CYCLE, ESTORE_CFG_WRITE, FREEZE, LOCAL_PORT_RELEASE, BW_WINDOW_WRITE, BW_WINDOW_END completes in every state that meets the hypotheses of its clause, and the clause says what the next
state holds. -/
def Obligations.CompletesActionsB : Prop :=
  -- CLEAR_RETRY
  (∀ (h : CcpHdr) (e : Session) (slot : Nat) (s : State), s.accepts h 0x11 (writeGroup (oid 11 2 slot)) e = true →
      ((s.entered h 0x11 e).writeCheck h.session (oid 11 2 slot) 0 (leBytes 8 (2 ^ 63))).code = 0 → slot < 64 → (s.slotPwr slot).pState ≠ 6 →
      ∃ t, exec (.clearRetry h slot) s = .next t ∧ t.slotPwr slot = { s.slotPwr slot with retryCnt := 0, marked := false } ∧ t.answered h 0) ∧
  -- CYCLE
  (∀ (h : CcpHdr) (e : Session) (slot : Nat) (s : State), s.accepts h 0x11 (writeGroup (oid 11 2 slot)) e = true →
      ((s.entered h 0x11 e).writeCheck h.session (oid 11 2 slot) 0 (leBytes 8 (2 ^ 62))).code = 0 → slot < 64 →
      ∃ t, exec (.cycle h slot) s = .next t ∧ ∃ u : State, t = (u.recomputeLimit false).ccpReply h 0x11 0 [] ∧ (u.slotPwr slot).pState = 3 ∧
      (u.slotPwr slot).cycling = true) ∧
  -- ESTORE_CFG_WRITE
  (∀ (h : CcpHdr) (e : Session) (bytes : Bytes) (s : State), s.accepts h 0x11 (writeGroup (oid 11 5 0)) e = true → h.staged = false →
      ((s.entered h 0x11 e).writeCheck h.session (oid 11 5 0) 0 bytes).code = 0 → ∃ t, exec (.estoreCfgWrite h bytes) s = .next t ∧
      tfind t.blobs (oid 11 5 0) = some bytes ∧ t.boot.confDue = true ∧ t.answered h 0) ∧
  -- FREEZE
  (∀ (h : CcpHdr) (e : Session) (s : State), s.accepts h 0x11 (writeGroup (oid 12 2 0)) e = true →
      ((s.entered h 0x11 e).writeCheck h.session (oid 12 2 0) 0 (leBytes 8 (2 ^ 63))).code = 0 → ∃ t, exec (.freeze h) s = .next t ∧
      ∃ u : State, t = u.ccpReply h 0x11 0 [] ∧ u.localPort.frozen = true ∧ u.localPort.cause = 4 ∧ u.localPort.cfs = true) ∧
  -- LOCAL_PORT_RELEASE
  (∀ (h : CcpHdr) (e : Session) (s : State), s.accepts h 0x11 (writeGroup (oid 12 2 0)) e = true →
      ((s.entered h 0x11 e).writeCheck h.session (oid 12 2 0) 0 (leBytes 8 (2 ^ 62))).code = 0 → ∃ t, exec (.localPortRelease h) s = .next t ∧
      ∃ u : State, t = u.ccpReply h 0x11 0 [] ∧ u.localPort.frozen = false ∧ u.localPort.mbox = {}) ∧
  -- BW_WINDOW_WRITE
  (∀ (h : CcpHdr) (e : Session) (port windowUs : Nat) (s : State), s.accepts h 0x11 (writeGroup (oid 13 2 port)) e = true → port < 16 →
      1 ≤ windowUs → windowUs ≤ 1000000 → ∃ t, exec (.bwWindowWrite h port windowUs) s = .next t ∧ ∃ u : State, t = u.ccpReply h 0x11 0 [] ∧
      (tget {} u.telem.bw port).windowUs = windowUs ∧ (tget {} u.telem.bw port).discard = true ∧ (tget {} u.telem.bw port).rxPeak = 0 ∧
      (tget {} u.telem.bw port).txPeak = 0) ∧
  -- BW_WINDOW_END
  (∀ (port : Nat) (s : State), port < 16 → (tget {} s.telem.bw port).discard = false → (s.port port).linkUp = true →
      ∃ t, exec (.bwWindowEnd port) s = .next t ∧ (tget {} t.telem.bw port).rxBytes = (tget {} s.telem.bw port).rxNow ∧
      (tget {} t.telem.bw port).txBytes = (tget {} s.telem.bw port).txNow ∧ (tget {} t.telem.bw port).rxNow = 0 ∧ (tget {} t.telem.bw port).txNow = 0)

/-- O57. Commands of pools, namespaces and jobs: each of MEMBER_FAIL, POOL_CREATE, POOL_DELETE, DRIVE_FORMAT, NS_CREATE, NS_CREATE_PLAIN, NS_DELETE, NS_DELETE_PLAIN, CRYPTO_ERASE, JOB_COMPLETE completes in every state that meets the hypotheses of its clause, and the clause says what the next
state holds. -/
def Obligations.CompletesPools : Prop :=
  -- MEMBER_FAIL
  (∀ (h : CcpHdr) (e : Session) (slot n : Nat) (s : State), s.accepts h 0x22 (some 5) e = true → slot < 64 →
      (s.entered h 0x22 e).poolOfSlot slot = some n → (s.entered h 0x22 e).memberState n slot < 2 → (s.entered h 0x22 e).poolOnline n = true →
      (s.entered h 0x22 e).sharedCut h = false → ∃ t, exec (.memberFail h slot) s = .next t ∧ 2 ≤ t.memberState n slot) ∧
  -- POOL_CREATE
  (∀ (h : CcpHdr) (e : Session) (pool j : Nat) (s : State), s.accepts h 0x20 (some 5) e = true → (s.entered h 0x20 e).poolCreateStatus pool = 0 →
      (s.entered h 0x20 e).sharedCut h = false → (s.entered h 0x20 e).jobFree = some j → ∃ t, exec (.poolCreate h pool) s = .next t ∧
      (t.pool pool).pState = 1 ∧ t.jobRuns h j 0x20 pool) ∧
  -- POOL_DELETE
  (∀ (h : CcpHdr) (e : Session) (pool j : Nat) (s : State), s.accepts h 0x21 (some 5) e = true → (s.entered h 0x21 e).poolDeleteStatus pool = 0 →
      (s.entered h 0x21 e).sharedCut h = false → (s.entered h 0x21 e).jobFree = some j → ∃ t, exec (.poolDelete h pool) s = .next t ∧
      t.jobRuns h j 0x21 pool) ∧
  -- DRIVE_FORMAT
  (∀ (h : CcpHdr) (e : Session) (slot j : Nat) (s : State), s.accepts h 0x23 (some 5) e = true → slot < 64 →
      (s.entered h 0x23 e).poolOfSlot slot = none → (s.dport slot).dState = 4 → (s.entered h 0x23 e).sharedCut h = false →
      (s.entered h 0x23 e).jobFree = some j → ∃ t, exec (.driveFormat h slot) s = .next t ∧ t.jobRuns h j 0x23 slot) ∧
  -- NS_CREATE
  (∀ (h : CcpHdr) (e : Session) (desc : NsDescReq) (p : NsPlan) (s : State), s.accepts h 0x28 (some 6) e = true →
      (s.entered h 0x28 e).nsCreateStatus desc false = 0 → (s.entered h 0x28 e).nsPlan desc = some p → (s.entered h 0x28 e).sharedCut h = false →
      ∃ t, exec (.nsCreate h desc) s = .next t ∧ ∃ u : State, u = (s.entered h 0x28 e).makeNs h desc p ∧
      t = u.sharedDone h 0x28 (nsArgs desc p.handle ++ (u.ns p.handle).serial :: u.genResults p.handle 0) (leBytes 2 p.handle)) ∧
  -- NS_CREATE_PLAIN
  (∀ (h : CcpHdr) (e : Session) (desc : NsDescReq) (p : NsPlan) (s : State), s.accepts h 0x29 (some 7) e = true →
      (s.entered h 0x29 e).nsCreateStatus desc true = 0 → (s.entered h 0x29 e).nsPlan desc = some p → (s.entered h 0x29 e).sharedCut h = false →
      ∃ t, exec (.nsCreatePlain h desc) s = .next t ∧
      t.ns p.handle = ({ tenant := desc.tenant, pool := desc.pool, keying := desc.keying, format := desc.format, nState := 2, extents := desc.extents, mapBase := p.base, serial := 0 } : Ns)) ∧
  -- NS_DELETE
  (∀ (h : CcpHdr) (e : Session) (handle j : Nat) (s : State), s.accepts h 0x2A (some 6) e = true →
      (s.entered h 0x2A e).nsDeleteStatus handle false = 0 → (s.entered h 0x2A e).sharedCut h = false → (s.entered h 0x2A e).jobFree = some j →
      ∃ t, exec (.nsDelete h handle) s = .next t ∧ (t.ns handle).gens = [] ∧ (t.ns handle).nState = 4 ∧ t.jobRuns h j 0x2A handle) ∧
  -- NS_DELETE_PLAIN
  (∀ (h : CcpHdr) (e : Session) (handle j : Nat) (s : State), s.accepts h 0x2B (some 7) e = true →
      (s.entered h 0x2B e).nsDeleteStatus handle true = 0 → (s.entered h 0x2B e).sharedCut h = false → (s.entered h 0x2B e).jobFree = some j →
      ∃ t, exec (.nsDeletePlain h handle) s = .next t ∧ (t.ns handle).nState = 4 ∧ t.jobRuns h j 0x2B handle) ∧
  -- CRYPTO_ERASE
  (∀ (h : CcpHdr) (e : Session) (handle copies : Nat) (s : State), s.accepts h 0x2C (some 9) e = true →
      (s.entered h 0x2C e).eraseStatus handle copies = 0 → (s.entered h 0x2C e).sharedCut h = false →
      ∃ t, exec (.cryptoErase h handle copies) s = .next t ∧ (t.ns handle).gens = []) ∧
  -- JOB_COMPLETE
  (∀ (job status : Nat) (x : Job) (s : State), job < 64 → tfind s.ccp.jobs job = some x → x.jState = 1 →
      (x.opcode ≠ 0x3B ∨ status ≠ 0 ∨ s.enclave.rotating = true) → ∃ t, exec (.jobComplete job status) s = .next t ∧
      (tfind t.ccp.jobs job).map (fun y => (y.jState, y.opcode, y.progress)) = some (2, x.opcode, 1000) ∧ (x.opcode = 0x51 →
      (tfind t.ccp.jobs job).map (·.result) = some status))

/-- O58. Commands of tenants, capsules and generations, part 1 of 2: each of TENANT_CREATE, TENANT_REMOVE, ENROL_OPEN, ENROL, KEY_IMPORT, ATTACH, ACTIVATE, SWEEP completes in every state that meets the hypotheses of its clause, and the clause says what the next
state holds. -/
def Obligations.CompletesTenantsA : Prop :=
  -- TENANT_CREATE
  (∀ (h : CcpHdr) (e : Session) (tenant : Nat) (s : State), s.accepts h 0x30 (some 10) e = true → tenant ≤ 4095 → (s.tenant tenant).created = false →
      (s.entered h 0x30 e).sharedCut h = false → ∃ t, exec (.tenantCreate h tenant) s = .next t ∧ t.tenant tenant = { created := true }) ∧
  -- TENANT_REMOVE
  (∀ (h : CcpHdr) (e : Session) (tenant : Nat) (s : State), s.accepts h 0x31 (some 10) e = true → tenant ≤ 4095 → (s.tenant tenant).created = true →
      (s.entered h 0x31 e).sharedCut h = false → ∃ t, exec (.tenantRemove h tenant) s = .next t ∧ t.tenant tenant = {} ∧ t.word (oid 13 5 tenant) = 0) ∧
  -- ENROL_OPEN
  (∀ (h : CcpHdr) (e : Session) (tenant : Nat) (s : State), s.accepts h 0x32 (some 10) e = true → tenant ≤ 4095 → (s.tenant tenant).created = true →
      (s.tenant tenant).enrolled = false → (s.entered h 0x32 e).sharedCut h = false → ∃ t, exec (.enrolOpen h tenant) s = .next t ∧
      t.tenant tenant = { s.tenant tenant with windowOpen := true }) ∧
  -- ENROL
  (∀ (h : CcpHdr) (tenant pubKey : Nat) (s : State), s.acceptsOpen h 0x33 (some 11) = true → tenant ≤ 4095 →
      s.fuses.maskTenant.toNat.testBit 11 = true → (s.tenant tenant).windowOpen = true → s.enclave.shelfKey.isSome = true →
      (s.enteredOpen h 0x33).sharedCut h = false → ∃ t, exec (.enrol h tenant pubKey) s = .next t ∧ (t.tenant tenant).enrolled = true ∧
      (t.tenant tenant).windowOpen = false ∧ (t.tenant tenant).enrolCount = ((s.tenant tenant).enrolCount + 1) % 2 ^ 32 ∧ t.fresh = s.fresh + 1) ∧
  -- KEY_IMPORT
  (∀ (h : CcpHdr) (e : Session) (cap : Capsule) (s : State), s.accepts h 0x34 (some 11) e = true → e.role = 2 → e.tenant = cap.tenant →
      (s.entered h 0x34 e).capsuleStatus 1 cap = 0 → ((s.entered h 0x34 e).ns cap.handle).nextGen = some cap.gen → s.enclave.shelfKey.isSome = true →
      cap.unwrapGood = true → (s.entered h 0x34 e).sharedCut h = false → ∃ t, exec (.keyImport h cap) s = .next t ∧
      t = (((s.entered h 0x34 e).importGen cap.handle cap.gen (Config.unwrap ((s.entered h 0x34 e).tenant cap.tenant).ttk cap.wrappedKey)).capsuleTaken cap).sharedDone h 0x34 (capsuleArgs cap ++ (((s.entered h 0x34 e).importGen cap.handle cap.gen (Config.unwrap ((s.entered h 0x34 e).tenant cap.tenant).ttk cap.wrappedKey) |>.capsuleTaken cap).genResults cap.handle cap.gen)) [] ∧
      (t.tenant cap.tenant).capsuleSeq = cap.seqNo) ∧
  -- ATTACH
  (∀ (h : CcpHdr) (e : Session) (cap : Capsule) (s : State), s.accepts h 0x34 (some 11) e = true → e.role = 2 → e.tenant = cap.tenant →
      (s.entered h 0x34 e).capsuleStatus 2 cap = 0 → cap.host < 8192 → (tget {} s.cmds.hosts cap.host).enable = true →
      (tget {} s.cmds.hosts cap.host).tenant = cap.tenant → (tget {} s.cmds.hosts cap.host).hostid = cap.hostid → cap.nqnDigestGood = true →
      cap.attachIt = true → (s.entered h 0x34 e).sharedCut h = false → ∃ t, exec (.attach h cap) s = .next t ∧
      t = (((s.entered h 0x34 e).setNsHosts cap.handle (cap.host / 64) (Nat.lor (tget 0 s.cmds.nsHosts (128 * cap.handle + cap.host / 64)) (2 ^ (cap.host % 64)))).capsuleTaken cap).sharedDone h 0x34 (capsuleArgs cap ++ ([cap.host, 1])) [] ∧
      (t.tenant cap.tenant).capsuleSeq = cap.seqNo) ∧
  -- ACTIVATE
  (∀ (h : CcpHdr) (e : Session) (cap : Capsule) (s : State), s.accepts h 0x34 (some 11) e = true → e.role = 2 → e.tenant = cap.tenant →
      (s.entered h 0x34 e).capsuleStatus 3 cap = 0 → (s.entered h 0x34 e).activateStatus cap.handle cap.gen = 0 →
      (s.entered h 0x34 e).sharedCut h = false → ∃ t, exec (.activate h cap) s = .next t ∧
      t = ((((s.entered h 0x34 e).applyActivate cap.handle cap.gen).keyReady cap.handle).capsuleTaken cap).sharedDone h 0x34 (capsuleArgs cap ++ ([])) [] ∧
      (t.tenant cap.tenant).capsuleSeq = cap.seqNo) ∧
  -- SWEEP
  (∀ (h : CcpHdr) (e : Session) (cap : Capsule) (s : State), s.accepts h 0x34 (some 11) e = true → e.role = 2 → e.tenant = cap.tenant →
      (s.entered h 0x34 e).capsuleStatus 4 cap = 0 → (s.entered h 0x34 e).sweepStatus cap.handle cap.gen = 0 →
      (s.entered h 0x34 e).sharedCut h = false → ∃ t, exec (.sweep h cap) s = .next t ∧
      t = (((s.entered h 0x34 e).sweepGen cap.handle cap.gen).capsuleTaken cap).sharedDone h 0x34 (capsuleArgs cap ++ ([])) [] ∧
      (t.tenant cap.tenant).capsuleSeq = cap.seqNo)

/-- O59. Commands of tenants, capsules and generations, part 2 of 2: each of ERASE_NS, RE_ENROL, GEN_CREATE, GEN_ACTIVATE, GEN_SWEEP, SHELF_ROTATE, DELEGATE completes in every state that meets the hypotheses of its clause, and the clause says what the next
state holds. -/
def Obligations.CompletesTenantsB : Prop :=
  -- ERASE_NS
  (∀ (h : CcpHdr) (e : Session) (cap : Capsule) (s : State), s.accepts h 0x34 (some 11) e = true → e.role = 2 → e.tenant = cap.tenant →
      (s.entered h 0x34 e).capsuleStatus 5 cap = 0 → (s.entered h 0x34 e).sharedCut h = false → ∃ t, exec (.eraseNs h cap) s = .next t ∧
      t = (((s.entered h 0x34 e).eraseNsKeys cap.handle).capsuleTaken cap).sharedDone h 0x34 (capsuleArgs cap ++ ([])) [] ∧
      (t.tenant cap.tenant).capsuleSeq = cap.seqNo) ∧
  -- RE_ENROL
  (∀ (h : CcpHdr) (e : Session) (cap : Capsule) (s : State), s.accepts h 0x34 (some 11) e = true → e.role = 2 → e.tenant = cap.tenant →
      (s.entered h 0x34 e).capsuleStatus 6 cap = 0 → (s.entered h 0x34 e).sharedCut h = false → ∃ t, exec (.reEnrol h cap) s = .next t ∧
      (t.tenant cap.tenant).windowOpen = true ∧ (t.tenant cap.tenant).capsuleSeq = cap.seqNo) ∧
  -- GEN_CREATE
  (∀ (h : CcpHdr) (e : Session) (handle g : Nat) (s : State), s.accepts h 0x38 (some 8) e = true → (s.entered h 0x38 e).enclaveNsStatus handle = 0 →
      s.enclave.shelfKey.isSome = true → (s.ns handle).nextGen = some g → (s.entered h 0x38 e).sharedCut h = false →
      ∃ t, exec (.genCreate h handle) s = .next t ∧ ∃ u : State, u = (s.entered h 0x38 e).deriveGen handle g ∧
      t = u.sharedDone h 0x38 (handle :: g :: u.genResults handle g) (leBytes 1 g)) ∧
  -- GEN_ACTIVATE
  (∀ (h : CcpHdr) (e : Session) (handle gen : Nat) (s : State), s.accepts h 0x39 (some 8) e = true →
      (s.entered h 0x39 e).enclaveNsStatus handle = 0 → (s.entered h 0x39 e).activateStatus handle gen = 0 →
      (s.entered h 0x39 e).sharedCut h = false → ∃ t, exec (.genActivate h handle gen) s = .next t ∧
      t = (((s.entered h 0x39 e).applyActivate handle gen).keyReady handle).sharedDone h 0x39 [handle, gen] []) ∧
  -- GEN_SWEEP
  (∀ (h : CcpHdr) (e : Session) (handle gen : Nat) (s : State), s.accepts h 0x3A (some 8) e = true →
      (s.entered h 0x3A e).enclaveNsStatus handle = 0 → (s.entered h 0x3A e).sweepStatus handle gen = 0 → (s.entered h 0x3A e).sharedCut h = false →
      ∃ t, exec (.genSweep h handle gen) s = .next t ∧ (tfind (t.ns handle).gens gen).map (·.gState) = some 4) ∧
  -- SHELF_ROTATE
  (∀ (h : CcpHdr) (e : Session) (j : Nat) (s : State), s.accepts h 0x3B (some 20) e = true → s.modes.mode = .m2 → s.enclave.rotating = false →
      (s.entered h 0x3B e).jobRunning 0x3B = false → s.enclave.shelfKey.isSome = true → (s.entered h 0x3B e).jobFree = some j →
      ∃ t, exec (.shelfRotate h) s = .next t ∧ t.enclave.rotating = true ∧ t.enclave.oldShelfKey = s.enclave.shelfKey ∧ t.jobRuns h j 0x3B 0) ∧
  -- DELEGATE
  (∀ (h : CcpHdr) (e : Session) (tenant groups : Nat) (s : State), s.accepts h 0x60 (some 19) e = true → tenant ≤ 4095 → groups < 4 →
      (s.entered h 0x60 e).sharedCut h = false → ∃ t, exec (.delegate h tenant groups) s = .next t ∧
      t.word (oid 13 5 tenant) = groups % 2 * 2 ^ 63 + groups / 2 * 2 ^ 62)

/-- O60. Commands of images, resets, life cycle and debug lock: each of FW_LOAD, FW_COMMIT, ROLLBACK_ADVANCE, RESET, DIAG_RUN, LIFECYCLE_STEP, ROOT_BIRTH, UNLOCK_CHALLENGE, DEBUG_UNLOCK, LOCKDOWN_CLEAR completes in every state that meets the hypotheses of its clause, and the clause says what the next
state holds. -/
def Obligations.CompletesLifeCycle : Prop :=
  -- FW_LOAD
  (∀ (h : CcpHdr) (e : Session) (offset : Nat) (bytes : Bytes) (s : State), s.accepts h 0x40 (some 13) e = true → h.staged = false →
      offset + bytes.length ≤ 33554432 → ∃ t, exec (.fwLoad h offset bytes) s = .next t ∧ tfind t.ccp.fwImage offset = some bytes ∧ t.answered h 0) ∧
  -- FW_COMMIT
  (∀ (h : CcpHdr) (e : Session) (length j : Nat) (image : ImageCheck) (s : State), s.accepts h 0x41 (some 13) e = true → length ≤ 33554432 →
      (s.entered h 0x41 e).imageWhole length = true → (s.entered h 0x41 e).jobRunning 0x41 = false → s.imageOk image = true → image.length = length →
      (s.entered h 0x41 e).jobFree = some j → ∃ t, exec (.fwCommit h length image) s = .next t ∧
      t.ccp.fwCommit = some { valid := true, svn := image.svn, digest := image.digest, startFails := 0 } ∧
      (tget {} t.images (slotNum s.commitSlot)).valid = false ∧ t.jobRuns h j 0x41 length) ∧
  -- ROLLBACK_ADVANCE
  (∀ (h : CcpHdr) (e : Session) (count : Nat) (s : State), s.accepts h 0x42 (some 14) e = true → s.fuses.antiRollback < count → count ≤ s.boot.svn →
      count ≤ 128 → ∃ t, exec (.rollbackAdvance h count) s = .next t ∧ t.fuses = { s.fuses with antiRollback := count } ∧ t.answered h 0) ∧
  -- RESET
  (∀ (h : CcpHdr) (e : Session) (s : State), s.accepts h 0x50 (some 17) e = true → legalLifeCycle s.fuses.lifeCycle = true →
      s.fuses.marginal = false → ∃ t, exec (.reset h) s = .next t ∧ t.modes.mode = .m1 ∧ t.modes.lastCause = 0x02 ∧ t.ccp = {} ∧ t.fuses = s.fuses) ∧
  -- DIAG_RUN
  (∀ (h : CcpHdr) (e : Session) (test j : Nat) (s : State), s.accepts h 0x51 (some 17) e = true → (s.entered h 0x51 e).jobFree = some j →
      ∃ t, exec (.diagRun h test) s = .next t ∧ t.jobRuns h j 0x51 test ∧ t.answered h 0) ∧
  -- LIFECYCLE_STEP
  (∀ (h : CcpHdr) (e : Session) (target : Nat) (prov : Provisioning) (s : State), s.accepts h 0x58 (some 16) e = true →
      s.stepStatus e.role target prov = 0 → ∃ t, exec (.lifecycleStep h target prov) s = .next t ∧ t.fuses = s.fuses.step target prov ∧
      t.modes.lastCause = 0x02) ∧
  -- ROOT_BIRTH
  (∀ (h : CcpHdr) (e : Session) (s : State), s.accepts h 0x59 (some 16) e = true → s.fuses.lifeCycle = 0 → s.fuses.rootPresent = false →
      ∃ t, exec (.rootBirth h) s = .next t ∧ t.fuses = { s.fuses with rootPresent := true, deviceRoot := s.drawn 256 } ∧ t.fresh = s.fresh + 1) ∧
  -- UNLOCK_CHALLENGE
  (∀ (h : CcpHdr) (e : Session) (s : State), s.accepts h 0x5A (some 18) e = true → s.fuses.lifeCycle = 7 →
      ∃ t, exec (.unlockChallenge h) s = .next t ∧ t.enclave.challenge = some (s.drawn 256) ∧ t.fresh = s.fresh + 1) ∧
  -- DEBUG_UNLOCK
  (∀ (h : CcpHdr) (e : Session) (token : UnlockToken) (s : State), s.accepts h 0x5B (some 18) e = true → h.staged = false → s.fuses.lifeCycle = 7 →
      s.fuses.debugLock = 1 → (token.kind = 1 ∨ token.kind = 2) → s.enclave.challenge = some token.challenge → token.deviceId = s.fuses.deviceId →
      token.sigGood = true → ∃ t, exec (.debugUnlock h token) s = .next t ∧ t.enclave.debugOpen = true ∧ t.enclave.challenge = none ∧ t.answered h 0) ∧
  -- LOCKDOWN_CLEAR
  (∀ (h : CcpHdr) (e : Session) (s : State), s.accepts h 0x5C (some 21) e = true → ∃ t, exec (.lockdownClear h) s = .next t ∧ t.keep.latch = false ∧
      t.answered h 0)

end
end

