-- ==== Sys2Proof/Laws/Tables.lean ====
section
/-! SUPPORT. Laws of tables: what is read after a write, and that every operation keeps the canonical form. -/
namespace Sys2Proof.Machine

variable {α : Type}

/-! ### Reading what was written -/

@[simp] theorem tfind_tput_same (t : Tbl α) (k : Nat) (v : α) : tfind (tput t k v) k = some v := by
  induction t with
  | nil => simp [tput, tfind]
  | cons e t ih =>
    obtain ⟨j, w⟩ := e
    unfold tput
    split
    · simp [tfind]
    · split
      · simp [tfind]
      · rename_i h1 h2
        simp [tfind, h2, ih]

theorem tfind_tput_other (t : Tbl α) {k j : Nat} (v : α) (h : j ≠ k) : tfind (tput t k v) j = tfind t j := by
  induction t with
  | nil => simp [tput, tfind, h]
  | cons e t ih =>
    obtain ⟨i, w⟩ := e
    unfold tput
    split
    · simp [tfind, h]
    · split
      · rename_i h1 h2
        subst h2
        simp [tfind, h]
      · simp [tfind, ih]

theorem tfind_tdel_other (t : Tbl α) {k j : Nat} (h : j ≠ k) : tfind (tdel t k) j = tfind t j := by
  induction t with
  | nil => rfl
  | cons e t ih =>
    obtain ⟨i, w⟩ := e
    unfold tdel
    split
    · rename_i h1
      subst h1
      simp [tfind, h, ih]
    · simp [tfind, ih]

@[simp] theorem tfind_tdel_same (t : Tbl α) (k : Nat) : tfind (tdel t k) k = none := by
  induction t with
  | nil => rfl
  | cons e t ih =>
    obtain ⟨i, w⟩ := e
    unfold tdel
    split
    · exact ih
    · rename_i h
      simp [tfind, h, ih]

/-- An entry reads as what it was changed to, in every table. -/
theorem tget_tmod_same [DecidableEq α] (d : α) (k : Nat) (f : α → α) (t : Tbl α) : tget d (tmod d k f t) k = f (tget d t k) := by
  unfold tmod tset
  split
  · rename_i h
    rw [h]
    simp [tget]
  · simp [tget]

/-- A change of one entry leaves every other. -/
theorem tget_tmod_other [DecidableEq α] (d : α) {k j : Nat} (f : α → α) (t : Tbl α) (h : j ≠ k) : tget d (tmod d k f t) j = tget d t j := by
  unfold tmod tset
  split <;> simp [tget, tfind_tdel_other _ h, tfind_tput_other _ _ h]

/-! ### The canonical form -/

/-- Every number listed is above `lo`. -/
def tabove (lo : Nat) (t : Tbl α) : Prop := ∀ e ∈ t, lo < e.1

theorem twf_cons {e : Nat × α} {t : Tbl α} : twf (e :: t) = true ↔ (tabove e.1 t ∧ twf t = true) := by
  induction t generalizing e with
  | nil => simp [twf, tabove]
  | cons d t ih =>
    obtain ⟨i, v⟩ := e
    obtain ⟨j, w⟩ := d
    have h := @ih (j, w)
    simp only [twf, Bool.and_eq_true, decide_eq_true_eq, tabove, List.mem_cons] at *
    constructor
    · rintro ⟨h1, h2⟩
      refine ⟨?_, h2⟩
      rintro x (rfl | hx)
      · exact h1
      · exact Nat.lt_trans h1 ((h.mp h2).1 x hx)
    · rintro ⟨h1, h2⟩
      exact ⟨h1 _ (Or.inl rfl), h2⟩

theorem mem_tput {t : Tbl α} {k : Nat} {v : α} {e : Nat × α} (h : e ∈ tput t k v) : e = (k, v) ∨ e ∈ t := by
  induction t with
  | nil => simpa [tput] using h
  | cons d t ih =>
    obtain ⟨j, w⟩ := d
    unfold tput at h
    split at h
    · simpa using h
    · split at h
      · simp only [List.mem_cons] at h ⊢
        exact h.imp id Or.inr
      · simp only [List.mem_cons] at h ⊢
        rcases h with h | h
        · exact Or.inr (Or.inl h)
        · rcases ih h with h | h
          · exact Or.inl h
          · exact Or.inr (Or.inr h)

theorem mem_tdel {t : Tbl α} {k : Nat} {e : Nat × α} (h : e ∈ tdel t k) : e ∈ t := by
  induction t with
  | nil => simp [tdel] at h
  | cons d t ih =>
    obtain ⟨j, w⟩ := d
    unfold tdel at h
    split at h
    · exact List.mem_cons_of_mem _ (ih h)
    · simp only [List.mem_cons] at h ⊢
      exact h.imp id ih

theorem twf_tput {t : Tbl α} (k : Nat) (v : α) (h : twf t = true) : twf (tput t k v) = true := by
  induction t with
  | nil => rfl
  | cons d t ih =>
    obtain ⟨j, w⟩ := d
    have h' := twf_cons.mp h
    unfold tput
    split
    · rename_i hk
      refine twf_cons.mpr ⟨?_, h⟩
      intro e he
      rcases List.mem_cons.mp he with rfl | he
      · exact hk
      · exact Nat.lt_trans hk (h'.1 e he)
    · split
      · rename_i hk
        subst hk
        exact twf_cons.mpr ⟨h'.1, h'.2⟩
      · rename_i h1 h2
        refine twf_cons.mpr ⟨?_, ih h'.2⟩
        intro e he
        rcases mem_tput he with rfl | he
        · simp only
          omega
        · exact h'.1 e he

theorem twf_tdel {t : Tbl α} (k : Nat) (h : twf t = true) : twf (tdel t k) = true := by
  induction t with
  | nil => rfl
  | cons d t ih =>
    obtain ⟨j, w⟩ := d
    have h' := twf_cons.mp h
    unfold tdel
    split
    · exact ih h'.2
    · exact twf_cons.mpr ⟨fun e he => h'.1 e (mem_tdel he), ih h'.2⟩

theorem twf_tset [DecidableEq α] {d : α} {t : Tbl α} (k : Nat) (v : α) (h : twf t = true) : twf (tset d t k v) = true := by
  unfold tset
  split
  · exact twf_tdel k h
  · exact twf_tput k v h

theorem mem_tset [DecidableEq α] {d : α} {t : Tbl α} {k : Nat} {v : α} {e : Nat × α} (h : e ∈ tset d t k v) :
    (e = (k, v) ∧ v ≠ d) ∨ e ∈ t := by
  unfold tset at h
  split at h
  · exact Or.inr (mem_tdel h)
  · rename_i hv
    rcases mem_tput h with h | h
    · exact Or.inl ⟨h, hv⟩
    · exact Or.inr h

theorem twf_tmod [DecidableEq α] {d : α} {t : Tbl α} (k : Nat) (f : α → α) (h : twf t = true) : twf (tmod d k f t) = true :=
  twf_tset k _ h

theorem twf_tadj {t : Tbl α} (k : Nat) (f : α → α) (h : twf t = true) : twf (tadj k f t) = true := by
  unfold tadj
  split
  · exact twf_tput k _ h
  · exact h

theorem tfind_mem {t : Tbl α} {k : Nat} {v : α} (h : tfind t k = some v) : (k, v) ∈ t := by
  induction t with
  | nil => simp [tfind] at h
  | cons d t ih =>
    obtain ⟨j, w⟩ := d
    unfold tfind at h
    split at h
    · rename_i hk
      subst hk
      cases h
      exact List.mem_cons_self
    · exact List.mem_cons_of_mem _ (ih h)

end Sys2Proof.Machine
end

