-- ==== Sys2Proof/Laws/Touch.lean ====
section
/-! SUPPORT. Frames: `Touch m b s` says that s differs from b at most in the groups whose bits are set in m. One lemma for each
update, and the rules for what is built from them. -/
namespace Sys2Proof.Machine

/-- `s` differs from `b` at most in the groups whose bits are set in `m`. -/
structure Touch (m : Nat) (b s : State) : Prop where
  /-- every other group is the same -/
  out : ∀ g : Grp, m.testBit g.num = false → g.same b s

theorem Touch.refl (m : Nat) (s : State) : Touch m s s := ⟨by intro g _; cases g <;> rfl⟩

theorem Touch.only {m : Nat} {l : List Grp} {b s : State} (h : Touch m b s) (hl : ∀ g : Grp, g ∉ l → m.testBit g.num = false) :
    onlyChanges l b s := fun g hg => h.out g (hl g hg)

theorem sub_trans {a b c : Nat} (h : Nat.land a b = a) (k : Nat.land b c = b) : Nat.land a c = a := by
  have h' : a &&& b = a := h
  have k' : b &&& c = b := k
  show a &&& c = a
  rw [← h', Nat.and_assoc, k']

theorem sub_bit {a m i : Nat} (h : Nat.land a m = a) (ha : a.testBit i = true) : m.testBit i = true := by
  have h' : a &&& m = a := h
  rw [← h', Nat.testBit_and] at ha
  simp_all

theorem foldl_touch {α : Type} {m : Nat} {b s : State} {f : State → α → State} {l : List α}
    (h : Touch m b s) (hf : ∀ t x, Touch m b t → Touch m b (f t x)) : Touch m b (l.foldl f s) := by
  induction l generalizing s with
  | nil => exact h
  | cons x xs ih => exact ih (hf s x h)

theorem foldl_snd_touch {α β : Type} {m : Nat} {b : State} {f : β × State → α → β × State} {p : β × State} {l : List α}
    (h : Touch m b p.2) (hf : ∀ (a : β × State) x, Touch m b a.2 → Touch m b (f a x).2) : Touch m b (l.foldl f p).2 := by
  induction l generalizing p with
  | nil => exact h
  | cons x xs ih => exact ih (hf p x h)

theorem id_touch {m : Nat} {b s : State} (h : Touch m b s) : Touch m b (id s) := h

theorem ite_touch {c : Prop} [Decidable c] {m : Nat} {b s t : State} (hs : Touch m b s) (ht : Touch m b t) : Touch m b (if c then s else t) := by
  split
  · exact hs
  · exact ht

theorem snd_touch {α : Type} {p : α × State} {a : α} {m : Nat} {b t : State} (h : p = (a, t)) (hp : Touch m b p.2) : Touch m b t := by
  rw [h] at hp
  exact hp

theorem next_inj {s t : State} (h : (Host.Outcome.next s : Res) = .next t) : s = t := by
  injection h

theorem bounded_next {ok : Bool} {s t : State} (h : bounded ok s = .next t) : s = t := by
  unfold bounded at h
  split at h
  · exact next_inj h
  · cases h

theorem State.when_touch {m : Nat} {b s : State} {c : Bool} {f : State → State}
    (h : Touch m b s) (hf : ∀ t, Touch m b t → Touch m b (f t)) : Touch m b (s.when c f) := by
  unfold State.when
  split
  · exact hf s h
  · exact h

theorem State.updDen_touch {f : _} {s : State} {m : Nat} {b : State} (hm : Nat.land 1 m = 1) (h : Touch m b s) :
    Touch m b (s.updDen f) := by
  have hb := sub_bit hm (i := 0) (by decide)
  constructor
  intro g hg
  cases g <;> first | exact h.out _ hg | (rw [show Grp.num .den = 0 from rfl, hb] at hg; cases hg)

theorem State.updPower_touch {f : _} {s : State} {m : Nat} {b : State} (hm : Nat.land 2 m = 2) (h : Touch m b s) :
    Touch m b (s.updPower f) := by
  have hb := sub_bit hm (i := 1) (by decide)
  constructor
  intro g hg
  cases g <;> first | exact h.out _ hg | (rw [show Grp.num .power = 1 from rfl, hb] at hg; cases hg)

theorem State.updKeep_touch {f : _} {s : State} {m : Nat} {b : State} (hm : Nat.land 4 m = 4) (h : Touch m b s) :
    Touch m b (s.updKeep f) := by
  have hb := sub_bit hm (i := 2) (by decide)
  constructor
  intro g hg
  cases g <;> first | exact h.out _ hg | (rw [show Grp.num .keep = 2 from rfl, hb] at hg; cases hg)

theorem State.updFuses_touch {f : _} {s : State} {m : Nat} {b : State} (hm : Nat.land 8 m = 8) (h : Touch m b s) :
    Touch m b (s.updFuses f) := by
  have hb := sub_bit hm (i := 3) (by decide)
  constructor
  intro g hg
  cases g <;> first | exact h.out _ hg | (rw [show Grp.num .fuses = 3 from rfl, hb] at hg; cases hg)

theorem State.updImages_touch {f : _} {s : State} {m : Nat} {b : State} (hm : Nat.land 16 m = 16) (h : Touch m b s) :
    Touch m b (s.updImages f) := by
  have hb := sub_bit hm (i := 4) (by decide)
  constructor
  intro g hg
  cases g <;> first | exact h.out _ hg | (rw [show Grp.num .images = 4 from rfl, hb] at hg; cases hg)

theorem State.updElec_touch {f : _} {s : State} {m : Nat} {b : State} (hm : Nat.land 32 m = 32) (h : Touch m b s) :
    Touch m b (s.updElec f) := by
  have hb := sub_bit hm (i := 5) (by decide)
  constructor
  intro g hg
  cases g <;> first | exact h.out _ hg | (rw [show Grp.num .elec = 5 from rfl, hb] at hg; cases hg)

theorem State.updBoot_touch {f : _} {s : State} {m : Nat} {b : State} (hm : Nat.land 64 m = 64) (h : Touch m b s) :
    Touch m b (s.updBoot f) := by
  have hb := sub_bit hm (i := 6) (by decide)
  constructor
  intro g hg
  cases g <;> first | exact h.out _ hg | (rw [show Grp.num .boot = 6 from rfl, hb] at hg; cases hg)

theorem State.updModes_touch {f : _} {s : State} {m : Nat} {b : State} (hm : Nat.land 128 m = 128) (h : Touch m b s) :
    Touch m b (s.updModes f) := by
  have hb := sub_bit hm (i := 7) (by decide)
  constructor
  intro g hg
  cases g <;> first | exact h.out _ hg | (rw [show Grp.num .modes = 7 from rfl, hb] at hg; cases hg)

theorem State.updSpine_touch {f : _} {s : State} {m : Nat} {b : State} (hm : Nat.land 256 m = 256) (h : Touch m b s) :
    Touch m b (s.updSpine f) := by
  have hb := sub_bit hm (i := 8) (by decide)
  constructor
  intro g hg
  cases g <;> first | exact h.out _ hg | (rw [show Grp.num .spine = 8 from rfl, hb] at hg; cases hg)

theorem State.updNet_touch {f : _} {s : State} {m : Nat} {b : State} (hm : Nat.land 512 m = 512) (h : Touch m b s) :
    Touch m b (s.updNet f) := by
  have hb := sub_bit hm (i := 9) (by decide)
  constructor
  intro g hg
  cases g <;> first | exact h.out _ hg | (rw [show Grp.num .net = 9 from rfl, hb] at hg; cases hg)

theorem State.updXport_touch {f : _} {s : State} {m : Nat} {b : State} (hm : Nat.land 1024 m = 1024) (h : Touch m b s) :
    Touch m b (s.updXport f) := by
  have hb := sub_bit hm (i := 10) (by decide)
  constructor
  intro g hg
  cases g <;> first | exact h.out _ hg | (rw [show Grp.num .xport = 10 from rfl, hb] at hg; cases hg)

theorem State.updCmds_touch {f : _} {s : State} {m : Nat} {b : State} (hm : Nat.land 2048 m = 2048) (h : Touch m b s) :
    Touch m b (s.updCmds f) := by
  have hb := sub_bit hm (i := 11) (by decide)
  constructor
  intro g hg
  cases g <;> first | exact h.out _ hg | (rw [show Grp.num .cmds = 11 from rfl, hb] at hg; cases hg)

theorem State.updCons_touch {f : _} {s : State} {m : Nat} {b : State} (hm : Nat.land 4096 m = 4096) (h : Touch m b s) :
    Touch m b (s.updCons f) := by
  have hb := sub_bit hm (i := 12) (by decide)
  constructor
  intro g hg
  cases g <;> first | exact h.out _ hg | (rw [show Grp.num .cons = 12 from rfl, hb] at hg; cases hg)

theorem State.updLayout_touch {f : _} {s : State} {m : Nat} {b : State} (hm : Nat.land 8192 m = 8192) (h : Touch m b s) :
    Touch m b (s.updLayout f) := by
  have hb := sub_bit hm (i := 13) (by decide)
  constructor
  intro g hg
  cases g <;> first | exact h.out _ hg | (rw [show Grp.num .layout = 13 from rfl, hb] at hg; cases hg)

theorem State.updCipher_touch {f : _} {s : State} {m : Nat} {b : State} (hm : Nat.land 16384 m = 16384) (h : Touch m b s) :
    Touch m b (s.updCipher f) := by
  have hb := sub_bit hm (i := 14) (by decide)
  constructor
  intro g hg
  cases g <;> first | exact h.out _ hg | (rw [show Grp.num .cipher = 14 from rfl, hb] at hg; cases hg)

theorem State.updEnclave_touch {f : _} {s : State} {m : Nat} {b : State} (hm : Nat.land 32768 m = 32768) (h : Touch m b s) :
    Touch m b (s.updEnclave f) := by
  have hb := sub_bit hm (i := 15) (by decide)
  constructor
  intro g hg
  cases g <;> first | exact h.out _ hg | (rw [show Grp.num .enclave = 15 from rfl, hb] at hg; cases hg)

theorem State.updQos_touch {f : _} {s : State} {m : Nat} {b : State} (hm : Nat.land 65536 m = 65536) (h : Touch m b s) :
    Touch m b (s.updQos f) := by
  have hb := sub_bit hm (i := 16) (by decide)
  constructor
  intro g hg
  cases g <;> first | exact h.out _ hg | (rw [show Grp.num .qos = 16 from rfl, hb] at hg; cases hg)

theorem State.updPair_touch {f : _} {s : State} {m : Nat} {b : State} (hm : Nat.land 131072 m = 131072) (h : Touch m b s) :
    Touch m b (s.updPair f) := by
  have hb := sub_bit hm (i := 17) (by decide)
  constructor
  intro g hg
  cases g <;> first | exact h.out _ hg | (rw [show Grp.num .pair = 17 from rfl, hb] at hg; cases hg)

theorem State.updDrives_touch {f : _} {s : State} {m : Nat} {b : State} (hm : Nat.land 262144 m = 262144) (h : Touch m b s) :
    Touch m b (s.updDrives f) := by
  have hb := sub_bit hm (i := 18) (by decide)
  constructor
  intro g hg
  cases g <;> first | exact h.out _ hg | (rw [show Grp.num .drives = 18 from rfl, hb] at hg; cases hg)

theorem State.updMargins_touch {f : _} {s : State} {m : Nat} {b : State} (hm : Nat.land 524288 m = 524288) (h : Touch m b s) :
    Touch m b (s.updMargins f) := by
  have hb := sub_bit hm (i := 19) (by decide)
  constructor
  intro g hg
  cases g <;> first | exact h.out _ hg | (rw [show Grp.num .margins = 19 from rfl, hb] at hg; cases hg)

theorem State.updLocalPort_touch {f : _} {s : State} {m : Nat} {b : State} (hm : Nat.land 1048576 m = 1048576) (h : Touch m b s) :
    Touch m b (s.updLocalPort f) := by
  have hb := sub_bit hm (i := 20) (by decide)
  constructor
  intro g hg
  cases g <;> first | exact h.out _ hg | (rw [show Grp.num .localPort = 20 from rfl, hb] at hg; cases hg)

theorem State.updCcp_touch {f : _} {s : State} {m : Nat} {b : State} (hm : Nat.land 2097152 m = 2097152) (h : Touch m b s) :
    Touch m b (s.updCcp f) := by
  have hb := sub_bit hm (i := 21) (by decide)
  constructor
  intro g hg
  cases g <;> first | exact h.out _ hg | (rw [show Grp.num .ccp = 21 from rfl, hb] at hg; cases hg)

theorem State.updTelem_touch {f : _} {s : State} {m : Nat} {b : State} (hm : Nat.land 4194304 m = 4194304) (h : Touch m b s) :
    Touch m b (s.updTelem f) := by
  have hb := sub_bit hm (i := 22) (by decide)
  constructor
  intro g hg
  cases g <;> first | exact h.out _ hg | (rw [show Grp.num .telem = 22 from rfl, hb] at hg; cases hg)

theorem State.updRegs_touch {f : _} {s : State} {m : Nat} {b : State} (hm : Nat.land 8388608 m = 8388608) (h : Touch m b s) :
    Touch m b (s.updRegs f) := by
  have hb := sub_bit hm (i := 23) (by decide)
  constructor
  intro g hg
  cases g <;> first | exact h.out _ hg | (rw [show Grp.num .regs = 23 from rfl, hb] at hg; cases hg)

theorem State.updBlobs_touch {f : _} {s : State} {m : Nat} {b : State} (hm : Nat.land 16777216 m = 16777216) (h : Touch m b s) :
    Touch m b (s.updBlobs f) := by
  have hb := sub_bit hm (i := 24) (by decide)
  constructor
  intro g hg
  cases g <;> first | exact h.out _ hg | (rw [show Grp.num .blobs = 24 from rfl, hb] at hg; cases hg)

theorem State.updFresh_touch {f : _} {s : State} {m : Nat} {b : State} (hm : Nat.land 33554432 m = 33554432) (h : Touch m b s) :
    Touch m b (s.updFresh f) := by
  have hb := sub_bit hm (i := 25) (by decide)
  constructor
  intro g hg
  cases g <;> first | exact h.out _ hg | (rw [show Grp.num .fresh = 25 from rfl, hb] at hg; cases hg)

theorem State.updSent_touch {f : _} {s : State} {m : Nat} {b : State} (hm : Nat.land 67108864 m = 67108864) (h : Touch m b s) :
    Touch m b (s.updSent f) := by
  have hb := sub_bit hm (i := 26) (by decide)
  constructor
  intro g hg
  cases g <;> first | exact h.out _ hg | (rw [show Grp.num .sent = 26 from rfl, hb] at hg; cases hg)

theorem State.updPending_touch {f : _} {s : State} {m : Nat} {b : State} (hm : Nat.land 134217728 m = 134217728) (h : Touch m b s) :
    Touch m b (s.updPending f) := by
  have hb := sub_bit hm (i := 27) (by decide)
  constructor
  intro g hg
  cases g <;> first | exact h.out _ hg | (rw [show Grp.num .pending = 27 from rfl, hb] at hg; cases hg)

end Sys2Proof.Machine
end

