-- ==== Sys2Proof/Laws/TouchCounters.lean ====
section
/-! SUPPORT. What the operations of Machine/Counters.lean can change: one lemma for each. -/
namespace Sys2Proof.Machine
set_option linter.all false

theorem State.bumpN_touch {c : Nat × Nat} {i n : Nat} {s : State} {m_ : Nat} {b_ : State} (hm_ : Nat.land 4194304 m_ = 4194304) (ht_ : Touch m_ b_ s) :
    Touch m_ b_ (State.bumpN c i n s) := by
  unfold State.bumpN
  try dsimp only
  repeat' (first | with_reducible assumption | (exact sub_trans (by decide) hm_) | (with_reducible refine State.updTelem_touch ?_ ?_) | (with_reducible refine ite_touch ?_ ?_) | (with_reducible refine id_touch ?_) | intro _ _ | intro _ | dsimp only | split)

theorem State.setCounter_touch {c : Nat × Nat} {i v : Nat} {s : State} {m_ : Nat} {b_ : State} (hm_ : Nat.land 4194304 m_ = 4194304) (ht_ : Touch m_ b_ s) :
    Touch m_ b_ (State.setCounter c i v s) := by
  unfold State.setCounter
  try dsimp only
  repeat' (first | with_reducible assumption | (exact sub_trans (by decide) hm_) | (with_reducible refine State.updTelem_touch ?_ ?_) | (with_reducible refine ite_touch ?_ ?_) | (with_reducible refine id_touch ?_) | intro _ _ | intro _ | dsimp only | split)

theorem State.bump_touch {c : Nat × Nat} {i : Nat} {s : State} {m_ : Nat} {b_ : State} (hm_ : Nat.land 4194304 m_ = 4194304) (ht_ : Touch m_ b_ s) :
    Touch m_ b_ (State.bump c i s) := by
  unfold State.bump
  try dsimp only
  repeat' (first | with_reducible assumption | (exact sub_trans (by decide) hm_) | (with_reducible refine State.bumpN_touch ?_ ?_ ) | (with_reducible refine ite_touch ?_ ?_) | (with_reducible refine id_touch ?_) | intro _ _ | intro _ | dsimp only | split)

end Sys2Proof.Machine
end

