-- ==== Sys2Proof/Laws/TouchObjects.lean ====
section
/-! SUPPORT. What the operations of Machine/Objects.lean can change: one lemma for each. -/
namespace Sys2Proof.Machine
set_option linter.all false

theorem State.setWord_touch {id v : Nat} {s : State} {m_ : Nat} {b_ : State} (hm_ : Nat.land 8388609 m_ = 8388609) (ht_ : Touch m_ b_ s) :
    Touch m_ b_ (State.setWord id v s) := by
  unfold State.setWord
  try dsimp only
  repeat' (first | with_reducible assumption | (exact sub_trans (by decide) hm_) | (with_reducible refine State.updDen_touch ?_ ?_) | (with_reducible refine State.updRegs_touch ?_ ?_) | (with_reducible refine ite_touch ?_ ?_) | (with_reducible refine id_touch ?_) | intro _ _ | intro _ | dsimp only | split)

end Sys2Proof.Machine
end

