-- ==== Sys2Proof/Laws/TouchOps.lean ====
section
/-! SUPPORT. What the operations of Machine/Ops.lean can change: one lemma for each. -/
namespace Sys2Proof.Machine
set_option linter.all false

theorem State.send_touch {k : OutKind} {args : List Nat} {data : Bytes} {s : State} {m_ : Nat} {b_ : State} (hm_ : Nat.land 67108864 m_ = 67108864) (ht_ : Touch m_ b_ s) :
    Touch m_ b_ (State.send k args data s) := by
  unfold State.send
  try dsimp only
  repeat' (first | with_reducible assumption | (exact sub_trans (by decide) hm_) | (with_reducible refine State.updSent_touch ?_ ?_) | (with_reducible refine ite_touch ?_ ?_) | (with_reducible refine id_touch ?_) | intro _ _ | intro _ | dsimp only | split)

theorem State.draw_touch {s : State} {m_ : Nat} {b_ : State} (hm_ : Nat.land 33554432 m_ = 33554432) (ht_ : Touch m_ b_ s) :
    Touch m_ b_ (State.draw s) := by
  unfold State.draw
  try dsimp only
  repeat' (first | with_reducible assumption | (exact sub_trans (by decide) hm_) | (with_reducible refine State.updFresh_touch ?_ ?_) | (with_reducible refine ite_touch ?_ ?_) | (with_reducible refine id_touch ?_) | intro _ _ | intro _ | dsimp only | split)

theorem State.raise_touch {code n data : Nat} {s : State} {m_ : Nat} {b_ : State} (hm_ : Nat.land 69206016 m_ = 69206016) (ht_ : Touch m_ b_ s) :
    Touch m_ b_ (State.raise code n data s) := by
  unfold State.raise
  try dsimp only
  repeat' (first | with_reducible assumption | (exact sub_trans (by decide) hm_) | (with_reducible refine State.updCcp_touch ?_ ?_) | (with_reducible refine State.updSent_touch ?_ ?_) | (with_reducible refine ite_touch ?_ ?_) | (with_reducible refine id_touch ?_) | intro _ _ | intro _ | dsimp only | split)

theorem State.singleFault_touch {code : Nat} {s : State} {m_ : Nat} {b_ : State} (hm_ : Nat.land 69337088 m_ = 69337088) (ht_ : Touch m_ b_ s) :
    Touch m_ b_ (State.singleFault code s) := by
  unfold State.singleFault
  try dsimp only
  repeat' (first | with_reducible assumption | (exact sub_trans (by decide) hm_) | (with_reducible refine State.raise_touch ?_ ?_ ) | (with_reducible refine State.updPair_touch ?_ ?_) | (with_reducible refine ite_touch ?_ ?_) | (with_reducible refine id_touch ?_) | intro _ _ | intro _ | dsimp only | split)

theorem State.marginRecord_touch {kind cause n old new : Nat} {s : State} {m_ : Nat} {b_ : State} (hm_ : Nat.land 73400321 m_ = 73400321) (ht_ : Touch m_ b_ s) :
    Touch m_ b_ (State.marginRecord kind cause n old new s) := by
  unfold State.marginRecord
  try dsimp only
  repeat' (first | with_reducible assumption | (exact sub_trans (by decide) hm_) | (with_reducible refine State.bump_touch ?_ ?_ ) | (with_reducible refine State.raise_touch ?_ ?_ ) | (with_reducible refine State.updDen_touch ?_ ?_) | (with_reducible refine ite_touch ?_ ?_) | (with_reducible refine id_touch ?_) | intro _ _ | intro _ | dsimp only | split)

theorem State.recomputeLimit_touch {note : Bool} {s : State} {m_ : Nat} {b_ : State} (hm_ : Nat.land 73408515 m_ = 73408515) (ht_ : Touch m_ b_ s) :
    Touch m_ b_ (State.recomputeLimit note s) := by
  unfold State.recomputeLimit
  try dsimp only
  repeat' (first | with_reducible assumption | (exact sub_trans (by decide) hm_) | (with_reducible refine State.bump_touch ?_ ?_ ) | (with_reducible refine State.marginRecord_touch ?_ ?_ ) | (with_reducible refine State.raise_touch ?_ ?_ ) | (with_reducible refine State.when_touch ?_ ?_) | (with_reducible refine State.updPower_touch ?_ ?_) | (with_reducible refine State.updLayout_touch ?_ ?_) | (with_reducible refine ite_touch ?_ ?_) | (with_reducible refine id_touch ?_) | intro _ _ | intro _ | dsimp only | split)

theorem State.serviceOpens_touch {s : State} {m_ : Nat} {b_ : State} (hm_ : Nat.land 1048640 m_ = 1048640) (ht_ : Touch m_ b_ s) :
    Touch m_ b_ (State.serviceOpens s) := by
  unfold State.serviceOpens
  try dsimp only
  repeat' (first | with_reducible assumption | (exact sub_trans (by decide) hm_) | (with_reducible refine State.updBoot_touch ?_ ?_) | (with_reducible refine State.updLocalPort_touch ?_ ?_) | (with_reducible refine ite_touch ?_ ?_) | (with_reducible refine id_touch ?_) | intro _ _ | intro _ | dsimp only | split)

theorem State.enterMode_touch {m : Mode} {cause : Nat} {s : State} {m_ : Nat} {b_ : State} (hm_ : Nat.land 74457539 m_ = 74457539) (ht_ : Touch m_ b_ s) :
    Touch m_ b_ (State.enterMode m cause s) := by
  unfold State.enterMode
  try dsimp only
  repeat' (first | with_reducible assumption | (exact sub_trans (by decide) hm_) | (with_reducible refine State.raise_touch ?_ ?_ ) | (with_reducible refine State.recomputeLimit_touch ?_ ?_ ) | (with_reducible refine State.serviceOpens_touch ?_ ?_ ) | (with_reducible refine State.updModes_touch ?_ ?_) | (with_reducible refine State.updSpine_touch ?_ ?_) | (with_reducible refine ite_touch ?_ ?_) | (with_reducible refine id_touch ?_) | intro _ _ | intro _ | dsimp only | split)

theorem State.wakeIdle_touch {s : State} {m_ : Nat} {b_ : State} (hm_ : Nat.land 128 m_ = 128) (ht_ : Touch m_ b_ s) :
    Touch m_ b_ (State.wakeIdle s) := by
  unfold State.wakeIdle
  try dsimp only
  repeat' (first | with_reducible assumption | (exact sub_trans (by decide) hm_) | (with_reducible refine State.updModes_touch ?_ ?_) | (with_reducible refine ite_touch ?_ ?_) | (with_reducible refine id_touch ?_) | intro _ _ | intro _ | dsimp only | split)

theorem State.shapersAs_touch {on : Bool} {s : State} {m_ : Nat} {b_ : State} (hm_ : Nat.land 65536 m_ = 65536) (ht_ : Touch m_ b_ s) :
    Touch m_ b_ (State.shapersAs on s) := by
  unfold State.shapersAs
  try dsimp only
  repeat' (first | with_reducible assumption | (exact sub_trans (by decide) hm_) | (with_reducible refine State.updQos_touch ?_ ?_) | (with_reducible refine ite_touch ?_ ?_) | (with_reducible refine id_touch ?_) | intro _ _ | intro _ | dsimp only | split)

theorem State.cancelDen_touch {s : State} {m_ : Nat} {b_ : State} (hm_ : Nat.land 128 m_ = 128) (ht_ : Touch m_ b_ s) :
    Touch m_ b_ (State.cancelDen s) := by
  unfold State.cancelDen
  try dsimp only
  repeat' (first | with_reducible assumption | (exact sub_trans (by decide) hm_) | (with_reducible refine State.updModes_touch ?_ ?_) | (with_reducible refine ite_touch ?_ ?_) | (with_reducible refine id_touch ?_) | intro _ _ | intro _ | dsimp only | split)

theorem State.endSessions_touch {s : State} {m_ : Nat} {b_ : State} (hm_ : Nat.land 2097152 m_ = 2097152) (ht_ : Touch m_ b_ s) :
    Touch m_ b_ (State.endSessions s) := by
  unfold State.endSessions
  try dsimp only
  repeat' (first | with_reducible assumption | (exact sub_trans (by decide) hm_) | (with_reducible refine State.updCcp_touch ?_ ?_) | (with_reducible refine ite_touch ?_ ?_) | (with_reducible refine id_touch ?_) | intro _ _ | intro _ | dsimp only | split)

theorem State.stopService_touch {s : State} {m_ : Nat} {b_ : State} (hm_ : Nat.land 80896 m_ = 80896) (ht_ : Touch m_ b_ s) :
    Touch m_ b_ (State.stopService s) := by
  unfold State.stopService
  try dsimp only
  repeat' (first | with_reducible assumption | (exact sub_trans (by decide) hm_) | (with_reducible refine State.updXport_touch ?_ ?_) | (with_reducible refine State.updCmds_touch ?_ ?_) | (with_reducible refine State.updCons_touch ?_ ?_) | (with_reducible refine State.updLayout_touch ?_ ?_) | (with_reducible refine State.updQos_touch ?_ ?_) | (with_reducible refine ite_touch ?_ ?_) | (with_reducible refine id_touch ?_) | intro _ _ | intro _ | dsimp only | split)

theorem State.dropReceived_touch {s : State} {m_ : Nat} {b_ : State} (hm_ : Nat.land 139264 m_ = 139264) (ht_ : Touch m_ b_ s) :
    Touch m_ b_ (State.dropReceived s) := by
  unfold State.dropReceived
  try dsimp only
  repeat' (first | with_reducible assumption | (exact sub_trans (by decide) hm_) | (with_reducible refine State.updLayout_touch ?_ ?_) | (with_reducible refine State.updPair_touch ?_ ?_) | (with_reducible refine ite_touch ?_ ?_) | (with_reducible refine id_touch ?_) | intro _ _ | intro _ | dsimp only | split)

theorem State.abandonPairing_touch {s : State} {m_ : Nat} {b_ : State} (hm_ : Nat.land 139264 m_ = 139264) (ht_ : Touch m_ b_ s) :
    Touch m_ b_ (State.abandonPairing s) := by
  unfold State.abandonPairing
  try dsimp only
  repeat' (first | with_reducible assumption | (exact sub_trans (by decide) hm_) | (with_reducible refine State.dropReceived_touch ?_ ?_ ) | (with_reducible refine State.updLayout_touch ?_ ?_) | (with_reducible refine State.updPair_touch ?_ ?_) | (with_reducible refine ite_touch ?_ ?_) | (with_reducible refine id_touch ?_) | intro _ _ | intro _ | dsimp only | split)

theorem State.enterM5_touch {code : Nat} {s : State} {m_ : Nat} {b_ : State} (hm_ : Nat.land 74710471 m_ = 74710471) (ht_ : Touch m_ b_ s) :
    Touch m_ b_ (State.enterM5 code s) := by
  unfold State.enterM5
  try dsimp only
  repeat' (first | with_reducible assumption | (exact sub_trans (by decide) hm_) | (with_reducible refine State.abandonPairing_touch ?_ ?_ ) | (with_reducible refine State.endSessions_touch ?_ ?_ ) | (with_reducible refine State.enterMode_touch ?_ ?_ ) | (with_reducible refine State.singleFault_touch ?_ ?_ ) | (with_reducible refine State.stopService_touch ?_ ?_ ) | (with_reducible refine State.when_touch ?_ ?_) | (with_reducible refine State.updDen_touch ?_ ?_) | (with_reducible refine State.updKeep_touch ?_ ?_) | (with_reducible refine State.updModes_touch ?_ ?_) | (with_reducible refine State.updCipher_touch ?_ ?_) | (with_reducible refine State.updEnclave_touch ?_ ?_) | (with_reducible refine State.updPair_touch ?_ ?_) | (with_reducible refine State.updLocalPort_touch ?_ ?_) | (with_reducible refine ite_touch ?_ ?_) | (with_reducible refine id_touch ?_) | intro _ _ | intro _ | dsimp only | split)

theorem State.loadClasses_touch {s : State} {m_ : Nat} {b_ : State} (hm_ : Nat.land 8388609 m_ = 8388609) (ht_ : Touch m_ b_ s) :
    Touch m_ b_ (State.loadClasses s) := by
  unfold State.loadClasses
  try dsimp only
  repeat' (first | with_reducible assumption | (exact sub_trans (by decide) hm_) | (with_reducible refine State.setWord_touch ?_ ?_ ) | (with_reducible refine foldl_touch ?_ ?_) | (with_reducible refine foldl_snd_touch ?_ ?_) | (with_reducible refine ite_touch ?_ ?_) | (with_reducible refine id_touch ?_) | intro _ _ | intro _ | dsimp only | split)

theorem State.fuseLoad_touch {f : FuseRead} {s : State} {m_ : Nat} {b_ : State} (hm_ : Nat.land 83099079 m_ = 83099079) (ht_ : Touch m_ b_ s) :
    Touch m_ b_ (State.fuseLoad f s) := by
  unfold State.fuseLoad
  try dsimp only
  repeat' (first | with_reducible assumption | (exact sub_trans (by decide) hm_) | (with_reducible refine State.enterM5_touch ?_ ?_ ) | (with_reducible refine State.loadClasses_touch ?_ ?_ ) | (with_reducible refine State.updBoot_touch ?_ ?_) | (with_reducible refine ite_touch ?_ ?_) | (with_reducible refine id_touch ?_) | intro _ _ | intro _ | dsimp only | split)

theorem State.wiped_touch {cause : Nat} {s : State} {m_ : Nat} {b_ : State} (hm_ : Nat.land 67108835 m_ = 67108835) (ht_ : Touch m_ b_ s) :
    Touch m_ b_ (State.wiped cause s) := by
  constructor
  intro g hg
  cases g with
  | den => exact absurd hg (by rw [show Grp.num .den = 0 from rfl, sub_bit (i := 0) hm_ (by decide)]; decide)
  | power => exact absurd hg (by rw [show Grp.num .power = 1 from rfl, sub_bit (i := 1) hm_ (by decide)]; decide)
  | keep => exact ht_.out .keep hg
  | fuses => exact ht_.out .fuses hg
  | images => exact ht_.out .images hg
  | elec => exact absurd hg (by rw [show Grp.num .elec = 5 from rfl, sub_bit (i := 5) hm_ (by decide)]; decide)
  | boot => exact absurd hg (by rw [show Grp.num .boot = 6 from rfl, sub_bit (i := 6) hm_ (by decide)]; decide)
  | modes => exact absurd hg (by rw [show Grp.num .modes = 7 from rfl, sub_bit (i := 7) hm_ (by decide)]; decide)
  | spine => exact absurd hg (by rw [show Grp.num .spine = 8 from rfl, sub_bit (i := 8) hm_ (by decide)]; decide)
  | net => exact absurd hg (by rw [show Grp.num .net = 9 from rfl, sub_bit (i := 9) hm_ (by decide)]; decide)
  | xport => exact absurd hg (by rw [show Grp.num .xport = 10 from rfl, sub_bit (i := 10) hm_ (by decide)]; decide)
  | cmds => exact absurd hg (by rw [show Grp.num .cmds = 11 from rfl, sub_bit (i := 11) hm_ (by decide)]; decide)
  | cons => exact absurd hg (by rw [show Grp.num .cons = 12 from rfl, sub_bit (i := 12) hm_ (by decide)]; decide)
  | layout => exact absurd hg (by rw [show Grp.num .layout = 13 from rfl, sub_bit (i := 13) hm_ (by decide)]; decide)
  | cipher => exact absurd hg (by rw [show Grp.num .cipher = 14 from rfl, sub_bit (i := 14) hm_ (by decide)]; decide)
  | enclave => exact absurd hg (by rw [show Grp.num .enclave = 15 from rfl, sub_bit (i := 15) hm_ (by decide)]; decide)
  | qos => exact absurd hg (by rw [show Grp.num .qos = 16 from rfl, sub_bit (i := 16) hm_ (by decide)]; decide)
  | pair => exact absurd hg (by rw [show Grp.num .pair = 17 from rfl, sub_bit (i := 17) hm_ (by decide)]; decide)
  | drives => exact absurd hg (by rw [show Grp.num .drives = 18 from rfl, sub_bit (i := 18) hm_ (by decide)]; decide)
  | margins => exact absurd hg (by rw [show Grp.num .margins = 19 from rfl, sub_bit (i := 19) hm_ (by decide)]; decide)
  | localPort => exact absurd hg (by rw [show Grp.num .localPort = 20 from rfl, sub_bit (i := 20) hm_ (by decide)]; decide)
  | ccp => exact absurd hg (by rw [show Grp.num .ccp = 21 from rfl, sub_bit (i := 21) hm_ (by decide)]; decide)
  | telem => exact absurd hg (by rw [show Grp.num .telem = 22 from rfl, sub_bit (i := 22) hm_ (by decide)]; decide)
  | regs => exact absurd hg (by rw [show Grp.num .regs = 23 from rfl, sub_bit (i := 23) hm_ (by decide)]; decide)
  | blobs => exact absurd hg (by rw [show Grp.num .blobs = 24 from rfl, sub_bit (i := 24) hm_ (by decide)]; decide)
  | fresh => exact absurd hg (by rw [show Grp.num .fresh = 25 from rfl, sub_bit (i := 25) hm_ (by decide)]; decide)
  | sent => exact ht_.out .sent hg
  | pending => exact ht_.out .pending hg

theorem State.resetController_touch {cause : Nat} {s : State} {m_ : Nat} {b_ : State} (hm_ : Nat.land 134217703 m_ = 134217703) (ht_ : Touch m_ b_ s) :
    Touch m_ b_ (State.resetController cause s) := by
  unfold State.resetController
  try dsimp only
  repeat' (first | with_reducible assumption | (exact sub_trans (by decide) hm_) | (with_reducible refine State.fuseLoad_touch ?_ ?_ ) | (with_reducible refine State.wiped_touch ?_ ?_ ) | (with_reducible refine State.updEnclave_touch ?_ ?_) | (with_reducible refine ite_touch ?_ ?_) | (with_reducible refine id_touch ?_) | intro _ _ | intro _ | dsimp only | split)

theorem State.stopAndReset_touch {s : State} {m_ : Nat} {b_ : State} (hm_ : Nat.land 134217703 m_ = 134217703) (ht_ : Touch m_ b_ s) :
    Touch m_ b_ (State.stopAndReset s) := by
  unfold State.stopAndReset
  try dsimp only
  repeat' (first | with_reducible assumption | (exact sub_trans (by decide) hm_) | (with_reducible refine State.resetController_touch ?_ ?_ ) | (with_reducible refine State.stopService_touch ?_ ?_ ) | (with_reducible refine ite_touch ?_ ?_) | (with_reducible refine id_touch ?_) | intro _ _ | intro _ | dsimp only | split)

end Sys2Proof.Machine
end

