-- ==== Sys2Proof/Laws/TouchQosOps.lean ====
section
/-! SUPPORT. What the operations of Machine/QosOps.lean can change: one lemma for each. -/
namespace Sys2Proof.Machine
set_option linter.all false

theorem State.updSched_touch {point inst : Nat} {f : Sched → Sched} {s : State} {m_ : Nat} {b_ : State} (hm_ : Nat.land 65536 m_ = 65536) (ht_ : Touch m_ b_ s) :
    Touch m_ b_ (State.updSched point inst f s) := by
  unfold State.updSched
  try dsimp only
  repeat' (first | with_reducible assumption | (exact sub_trans (by decide) hm_) | (with_reducible refine State.updQos_touch ?_ ?_) | (with_reducible refine ite_touch ?_ ?_) | (with_reducible refine id_touch ?_) | intro _ _ | intro _ | dsimp only | split)

theorem State.parkIf_touch {key : Nat} {tokens : Int} {s : State} {m_ : Nat} {b_ : State} (hm_ : Nat.land 4259840 m_ = 4259840) (ht_ : Touch m_ b_ s) :
    Touch m_ b_ (State.parkIf key tokens s) := by
  unfold State.parkIf
  try dsimp only
  repeat' (first | with_reducible assumption | (exact sub_trans (by decide) hm_) | (with_reducible refine State.bump_touch ?_ ?_ ) | (with_reducible refine State.when_touch ?_ ?_) | (with_reducible refine State.updQos_touch ?_ ?_) | (with_reducible refine ite_touch ?_ ?_) | (with_reducible refine id_touch ?_) | intro _ _ | intro _ | dsimp only | split)

theorem State.charge_touch {key cost : Nat} {s : State} {m_ : Nat} {b_ : State} (hm_ : Nat.land 4259840 m_ = 4259840) (ht_ : Touch m_ b_ s) :
    Touch m_ b_ (State.charge key cost s) := by
  unfold State.charge
  try dsimp only
  repeat' (first | with_reducible assumption | (exact sub_trans (by decide) hm_) | (with_reducible refine State.parkIf_touch ?_ ?_ ) | (with_reducible refine ite_touch ?_ ?_) | (with_reducible refine id_touch ?_) | intro _ _ | intro _ | dsimp only | split)

theorem State.resetShaper_touch {key : Nat} {s : State} {m_ : Nat} {b_ : State} (hm_ : Nat.land 65536 m_ = 65536) (ht_ : Touch m_ b_ s) :
    Touch m_ b_ (State.resetShaper key s) := by
  unfold State.resetShaper
  try dsimp only
  repeat' (first | with_reducible assumption | (exact sub_trans (by decide) hm_) | (with_reducible refine State.updQos_touch ?_ ?_) | (with_reducible refine ite_touch ?_ ?_) | (with_reducible refine id_touch ?_) | intro _ _ | intro _ | dsimp only | split)

theorem State.deviceCharge_touch {i cost : Nat} {s : State} {m_ : Nat} {b_ : State} (hm_ : Nat.land 65536 m_ = 65536) (ht_ : Touch m_ b_ s) :
    Touch m_ b_ (State.deviceCharge i cost s) := by
  unfold State.deviceCharge
  try dsimp only
  repeat' (first | with_reducible assumption | (exact sub_trans (by decide) hm_) | (with_reducible refine State.updQos_touch ?_ ?_) | (with_reducible refine ite_touch ?_ ?_) | (with_reducible refine id_touch ?_) | intro _ _ | intro _ | dsimp only | split)

theorem State.meter_touch {s : State} {ctx t n : Nat} {m_ : Nat} {b_ : State} (hm_ : Nat.land 65536 m_ = 65536) (ht_ : Touch m_ b_ s) :
    Touch m_ b_ (State.meter s ctx t n).2 := by
  unfold State.meter
  try dsimp only
  repeat' (first | with_reducible assumption | (exact sub_trans (by decide) hm_) | (with_reducible refine State.updQos_touch ?_ ?_) | (with_reducible refine ite_touch ?_ ?_) | (with_reducible refine id_touch ?_) | intro _ _ | intro _ | dsimp only | split)

theorem State.fillTenantMeter_touch {t : Nat} {s : State} {m_ : Nat} {b_ : State} (hm_ : Nat.land 65536 m_ = 65536) (ht_ : Touch m_ b_ s) :
    Touch m_ b_ (State.fillTenantMeter t s) := by
  unfold State.fillTenantMeter
  try dsimp only
  repeat' (first | with_reducible assumption | (exact sub_trans (by decide) hm_) | (with_reducible refine State.updQos_touch ?_ ?_) | (with_reducible refine ite_touch ?_ ?_) | (with_reducible refine id_touch ?_) | intro _ _ | intro _ | dsimp only | split)

theorem State.fillConnMeters_touch {t : Nat} {s : State} {m_ : Nat} {b_ : State} (hm_ : Nat.land 65536 m_ = 65536) (ht_ : Touch m_ b_ s) :
    Touch m_ b_ (State.fillConnMeters t s) := by
  unfold State.fillConnMeters
  try dsimp only
  repeat' (first | with_reducible assumption | (exact sub_trans (by decide) hm_) | (with_reducible refine State.updQos_touch ?_ ?_) | (with_reducible refine ite_touch ?_ ?_) | (with_reducible refine id_touch ?_) | intro _ _ | intro _ | dsimp only | split)

theorem State.setBuf_touch {rx : Bool} {n : Nat} {b : BufUse} {s : State} {m_ : Nat} {b_ : State} (hm_ : Nat.land 65536 m_ = 65536) (ht_ : Touch m_ b_ s) :
    Touch m_ b_ (State.setBuf rx n b s) := by
  unfold State.setBuf
  try dsimp only
  repeat' (first | with_reducible assumption | (exact sub_trans (by decide) hm_) | (with_reducible refine State.updQos_touch ?_ ?_) | (with_reducible refine ite_touch ?_ ?_) | (with_reducible refine id_touch ?_) | intro _ _ | intro _ | dsimp only | split)

theorem State.storeFrame_touch {rx : Bool} {n num len : Nat} {s : State} {m_ : Nat} {b_ : State} (hm_ : Nat.land 65536 m_ = 65536) (ht_ : Touch m_ b_ s) (t_ : State) (h_ : State.storeFrame rx n num len s = some t_) :
    Touch m_ b_ t_ := by
  unfold State.storeFrame at h_
  repeat' (first | (obtain rfl := Option.some.inj h_; clear h_) | (cases h_; done) | dsimp only at h_ | split at h_)
  all_goals try dsimp only
  repeat' (first | with_reducible assumption | (exact sub_trans (by decide) hm_) | (with_reducible refine State.setBuf_touch ?_ ?_ ) | (with_reducible refine ite_touch ?_ ?_) | (with_reducible refine id_touch ?_) | intro _ _ | intro _ | dsimp only | split)

theorem State.freeTx_touch {num : Nat} {s : State} {m_ : Nat} {b_ : State} (hm_ : Nat.land 65536 m_ = 65536) (ht_ : Touch m_ b_ s) :
    Touch m_ b_ (State.freeTx num s) := by
  unfold State.freeTx
  try dsimp only
  repeat' (first | with_reducible assumption | (exact sub_trans (by decide) hm_) | (with_reducible refine State.updQos_touch ?_ ?_) | (with_reducible refine ite_touch ?_ ?_) | (with_reducible refine id_touch ?_) | intro _ _ | intro _ | dsimp only | split)

theorem State.pushOut_touch {v : Bool × Nat × Nat} {s : State} {m_ : Nat} {b_ : State} (hm_ : Nat.land 4259840 m_ = 4259840) (ht_ : Touch m_ b_ s) :
    Touch m_ b_ (State.pushOut v s) := by
  unfold State.pushOut
  try dsimp only
  repeat' (first | with_reducible assumption | (exact sub_trans (by decide) hm_) | (with_reducible refine State.bump_touch ?_ ?_ ) | (with_reducible refine State.setBuf_touch ?_ ?_ ) | (with_reducible refine State.updSched_touch ?_ ?_ ) | (with_reducible refine State.updQos_touch ?_ ?_) | (with_reducible refine ite_touch ?_ ?_) | (with_reducible refine id_touch ?_) | intro _ _ | intro _ | dsimp only | split)

theorem State.storePush_touch {rx : Bool} {n num len : Nat} {fuel : Nat} {s : State} {m_ : Nat} {b_ : State} (hm_ : Nat.land 4259840 m_ = 4259840) (ht_ : Touch m_ b_ s) (t_ : State) (h_ : State.storePush rx n num len fuel s = some t_) :
    Touch m_ b_ t_ := by
  induction fuel generalizing s with
  | zero => exact State.storeFrame_touch (sub_trans (by decide) hm_) ht_ t_ h_
  | succ fuel ih_ =>
    unfold State.storePush at h_
    split at h_
    · rename_i t h; obtain rfl := Option.some.inj h_; exact State.storeFrame_touch (sub_trans (by decide) hm_) ht_ _ h
    · split at h_
      · cases h_
      · exact ih_ (State.pushOut_touch (sub_trans (by decide) hm_) ht_) h_

theorem State.store_touch {rx : Bool} {n num len : Nat} {s : State} {m_ : Nat} {b_ : State} (hm_ : Nat.land 4259840 m_ = 4259840) (ht_ : Touch m_ b_ s) (t_ : State) (h_ : State.store rx n num len s = some t_) :
    Touch m_ b_ t_ := by
  unfold State.store at h_
  repeat' (first | (obtain rfl := Option.some.inj h_; clear h_) | (cases h_; done) | dsimp only at h_ | split at h_)
  all_goals try dsimp only
  repeat' (first | with_reducible assumption | (exact sub_trans (by decide) hm_) | (refine State.storeFrame_touch ?_ ?_ _ (by with_reducible assumption)) | (refine State.storePush_touch ?_ ?_ _ (by with_reducible assumption)) | (with_reducible refine ite_touch ?_ ?_) | (with_reducible refine id_touch ?_) | intro _ _ | intro _ | dsimp only | split)

theorem State.sampleDelay_touch {key ns : Nat} {s : State} {m_ : Nat} {b_ : State} (hm_ : Nat.land 65536 m_ = 65536) (ht_ : Touch m_ b_ s) :
    Touch m_ b_ (State.sampleDelay key ns s) := by
  unfold State.sampleDelay
  try dsimp only
  repeat' (first | with_reducible assumption | (exact sub_trans (by decide) hm_) | (with_reducible refine State.updQos_touch ?_ ?_) | (with_reducible refine ite_touch ?_ ?_) | (with_reducible refine id_touch ?_) | intro _ _ | intro _ | dsimp only | split)

theorem State.sampleDepth_touch {key bytes items : Nat} {s : State} {m_ : Nat} {b_ : State} (hm_ : Nat.land 65536 m_ = 65536) (ht_ : Touch m_ b_ s) :
    Touch m_ b_ (State.sampleDepth key bytes items s) := by
  unfold State.sampleDepth
  try dsimp only
  repeat' (first | with_reducible assumption | (exact sub_trans (by decide) hm_) | (with_reducible refine State.updQos_touch ?_ ?_) | (with_reducible refine ite_touch ?_ ?_) | (with_reducible refine id_touch ?_) | intro _ _ | intro _ | dsimp only | split)

theorem State.enqueue_touch {point inst : Nat} {strictClass : Option Nat} {it : QItem} {s : State} {m_ : Nat} {b_ : State} (hm_ : Nat.land 65536 m_ = 65536) (ht_ : Touch m_ b_ s) :
    Touch m_ b_ (State.enqueue point inst strictClass it s) := by
  unfold State.enqueue
  try dsimp only
  repeat' (first | with_reducible assumption | (exact sub_trans (by decide) hm_) | (with_reducible refine State.sampleDepth_touch ?_ ?_ ) | (with_reducible refine State.updSched_touch ?_ ?_ ) | (with_reducible refine ite_touch ?_ ?_) | (with_reducible refine id_touch ?_) | intro _ _ | intro _ | dsimp only | split)

theorem State.issue_touch {point inst : Nat} {strictClass : Option Nat} {it : QItem} {s : State} {m_ : Nat} {b_ : State} (hm_ : Nat.land 65536 m_ = 65536) (ht_ : Touch m_ b_ s) :
    Touch m_ b_ (State.issue point inst strictClass it s) := by
  unfold State.issue
  try dsimp only
  repeat' (first | with_reducible assumption | (exact sub_trans (by decide) hm_) | (with_reducible refine State.sampleDelay_touch ?_ ?_ ) | (with_reducible refine State.updSched_touch ?_ ?_ ) | (with_reducible refine ite_touch ?_ ?_) | (with_reducible refine id_touch ?_) | intro _ _ | intro _ | dsimp only | split)

end Sys2Proof.Machine
end

