-- ==== Sys2Proof/Laws/TouchNetOps.lean ====
section
/-! SUPPORT. What the operations of Machine/NetOps.lean can change: one lemma for each. -/
namespace Sys2Proof.Machine
set_option linter.all false

theorem State.updPort_touch {p : Nat} {f : Port → Port} {s : State} {m_ : Nat} {b_ : State} (hm_ : Nat.land 512 m_ = 512) (ht_ : Touch m_ b_ s) :
    Touch m_ b_ (State.updPort p f s) := by
  unfold State.updPort
  try dsimp only
  repeat' (first | with_reducible assumption | (exact sub_trans (by decide) hm_) | (with_reducible refine State.updNet_touch ?_ ?_) | (with_reducible refine ite_touch ?_ ?_) | (with_reducible refine id_touch ?_) | intro _ _ | intro _ | dsimp only | split)

theorem State.updClass_touch {p c : Nat} {f : ClassState → ClassState} {s : State} {m_ : Nat} {b_ : State} (hm_ : Nat.land 512 m_ = 512) (ht_ : Touch m_ b_ s) :
    Touch m_ b_ (State.updClass p c f s) := by
  unfold State.updClass
  try dsimp only
  repeat' (first | with_reducible assumption | (exact sub_trans (by decide) hm_) | (with_reducible refine State.updPort_touch ?_ ?_ ) | (with_reducible refine ite_touch ?_ ?_) | (with_reducible refine id_touch ?_) | intro _ _ | intro _ | dsimp only | split)

theorem State.bwAdd_touch {p rx tx : Nat} {s : State} {m_ : Nat} {b_ : State} (hm_ : Nat.land 4194304 m_ = 4194304) (ht_ : Touch m_ b_ s) :
    Touch m_ b_ (State.bwAdd p rx tx s) := by
  unfold State.bwAdd
  try dsimp only
  repeat' (first | with_reducible assumption | (exact sub_trans (by decide) hm_) | (with_reducible refine State.updTelem_touch ?_ ?_) | (with_reducible refine ite_touch ?_ ?_) | (with_reducible refine id_touch ?_) | intro _ _ | intro _ | dsimp only | split)

theorem State.groupTables_touch {cage : Nat} {s : State} {m_ : Nat} {b_ : State} (hm_ : Nat.land 512 m_ = 512) (ht_ : Touch m_ b_ s) :
    Touch m_ b_ (State.groupTables cage s) := by
  unfold State.groupTables
  try dsimp only
  repeat' (first | with_reducible assumption | (exact sub_trans (by decide) hm_) | (with_reducible refine State.updNet_touch ?_ ?_) | (with_reducible refine foldl_touch ?_ ?_) | (with_reducible refine foldl_snd_touch ?_ ?_) | (with_reducible refine ite_touch ?_ ?_) | (with_reducible refine id_touch ?_) | intro _ _ | intro _ | dsimp only | split)

theorem State.sendPfc_touch {p c quanta : Nat} {s : State} {m_ : Nat} {b_ : State} (hm_ : Nat.land 71303680 m_ = 71303680) (ht_ : Touch m_ b_ s) :
    Touch m_ b_ (State.sendPfc p c quanta s) := by
  unfold State.sendPfc
  try dsimp only
  repeat' (first | with_reducible assumption | (exact sub_trans (by decide) hm_) | (with_reducible refine State.bump_touch ?_ ?_ ) | (with_reducible refine State.send_touch ?_ ?_ ) | (with_reducible refine State.updClass_touch ?_ ?_ ) | (with_reducible refine ite_touch ?_ ?_) | (with_reducible refine id_touch ?_) | intro _ _ | intro _ | dsimp only | split)

theorem State.headroomCheck_touch {p c before : Nat} {s : State} {m_ : Nat} {b_ : State} (hm_ : Nat.land 71303680 m_ = 71303680) (ht_ : Touch m_ b_ s) :
    Touch m_ b_ (State.headroomCheck p c before s) := by
  unfold State.headroomCheck
  try dsimp only
  repeat' (first | with_reducible assumption | (exact sub_trans (by decide) hm_) | (with_reducible refine State.bump_touch ?_ ?_ ) | (with_reducible refine State.sendPfc_touch ?_ ?_ ) | (with_reducible refine State.when_touch ?_ ?_) | (with_reducible refine ite_touch ?_ ?_) | (with_reducible refine id_touch ?_) | intro _ _ | intro _ | dsimp only | split)

theorem State.xonCheck_touch {p c : Nat} {s : State} {m_ : Nat} {b_ : State} (hm_ : Nat.land 71303680 m_ = 71303680) (ht_ : Touch m_ b_ s) :
    Touch m_ b_ (State.xonCheck p c s) := by
  unfold State.xonCheck
  try dsimp only
  repeat' (first | with_reducible assumption | (exact sub_trans (by decide) hm_) | (with_reducible refine State.sendPfc_touch ?_ ?_ ) | (with_reducible refine State.when_touch ?_ ?_) | (with_reducible refine ite_touch ?_ ?_) | (with_reducible refine id_touch ?_) | intro _ _ | intro _ | dsimp only | split)

theorem State.takeFrame_touch {p c : Nat} {s : State} {m_ : Nat} {b_ : State} (hm_ : Nat.land 71369216 m_ = 71369216) (ht_ : Touch m_ b_ s) :
    Touch m_ b_ (State.takeFrame p c s) := by
  unfold State.takeFrame
  try dsimp only
  repeat' (first | with_reducible assumption | (exact sub_trans (by decide) hm_) | (with_reducible refine State.setBuf_touch ?_ ?_ ) | (with_reducible refine State.xonCheck_touch ?_ ?_ ) | (with_reducible refine ite_touch ?_ ?_) | (with_reducible refine id_touch ?_) | intro _ _ | intro _ | dsimp only | split)

theorem State.updLag_touch {g : Nat} {f : Lag → Lag} {s : State} {m_ : Nat} {b_ : State} (hm_ : Nat.land 512 m_ = 512) (ht_ : Touch m_ b_ s) :
    Touch m_ b_ (State.updLag g f s) := by
  unfold State.updLag
  try dsimp only
  repeat' (first | with_reducible assumption | (exact sub_trans (by decide) hm_) | (with_reducible refine State.updNet_touch ?_ ?_) | (with_reducible refine ite_touch ?_ ?_) | (with_reducible refine id_touch ?_) | intro _ _ | intro _ | dsimp only | split)

theorem State.queueFrame_touch {p : Nat} {it : QItem} {strictClass : Option Nat} {s : State} {m_ : Nat} {b_ : State} (hm_ : Nat.land 65536 m_ = 65536) (ht_ : Touch m_ b_ s) :
    Touch m_ b_ (State.queueFrame p it strictClass s) := by
  unfold State.queueFrame
  try dsimp only
  repeat' (first | with_reducible assumption | (exact sub_trans (by decide) hm_) | (with_reducible refine State.enqueue_touch ?_ ?_ ) | (with_reducible refine ite_touch ?_ ?_) | (with_reducible refine id_touch ?_) | intro _ _ | intro _ | dsimp only | split)

theorem State.flushHeld_touch {g b p : Nat} {s : State} {m_ : Nat} {b_ : State} (hm_ : Nat.land 65536 m_ = 65536) (ht_ : Touch m_ b_ s) :
    Touch m_ b_ (State.flushHeld g b p s) := by
  unfold State.flushHeld
  try dsimp only
  repeat' (first | with_reducible assumption | (exact sub_trans (by decide) hm_) | (with_reducible refine State.queueFrame_touch ?_ ?_ ) | (with_reducible refine State.updQos_touch ?_ ?_) | (with_reducible refine foldl_touch ?_ ?_) | (with_reducible refine foldl_snd_touch ?_ ?_) | (with_reducible refine ite_touch ?_ ?_) | (with_reducible refine id_touch ?_) | intro _ _ | intro _ | dsimp only | split)

theorem State.commitMove_touch {g b n : Nat} {s : State} {m_ : Nat} {b_ : State} (hm_ : Nat.land 66048 m_ = 66048) (ht_ : Touch m_ b_ s) :
    Touch m_ b_ (State.commitMove g b n s) := by
  unfold State.commitMove
  try dsimp only
  repeat' (first | with_reducible assumption | (exact sub_trans (by decide) hm_) | (with_reducible refine State.flushHeld_touch ?_ ?_ ) | (with_reducible refine State.updLag_touch ?_ ?_ ) | (with_reducible refine ite_touch ?_ ?_) | (with_reducible refine id_touch ?_) | intro _ _ | intro _ | dsimp only | split)

theorem State.beginMove_touch {g b n : Nat} {s : State} {m_ : Nat} {b_ : State} (hm_ : Nat.land 66048 m_ = 66048) (ht_ : Touch m_ b_ s) :
    Touch m_ b_ (State.beginMove g b n s) := by
  unfold State.beginMove
  try dsimp only
  repeat' (first | with_reducible assumption | (exact sub_trans (by decide) hm_) | (with_reducible refine State.commitMove_touch ?_ ?_ ) | (with_reducible refine State.flushHeld_touch ?_ ?_ ) | (with_reducible refine State.updLag_touch ?_ ?_ ) | (with_reducible refine ite_touch ?_ ?_) | (with_reducible refine id_touch ?_) | intro _ _ | intro _ | dsimp only | split)

theorem State.settleMoves_touch {g port : Nat} {s : State} {m_ : Nat} {b_ : State} (hm_ : Nat.land 66048 m_ = 66048) (ht_ : Touch m_ b_ s) :
    Touch m_ b_ (State.settleMoves g port s) := by
  unfold State.settleMoves
  try dsimp only
  repeat' (first | with_reducible assumption | (exact sub_trans (by decide) hm_) | (with_reducible refine State.beginMove_touch ?_ ?_ ) | (with_reducible refine State.commitMove_touch ?_ ?_ ) | (with_reducible refine foldl_touch ?_ ?_) | (with_reducible refine foldl_snd_touch ?_ ?_) | (with_reducible refine ite_touch ?_ ?_) | (with_reducible refine id_touch ?_) | intro _ _ | intro _ | dsimp only | split)

theorem State.shareAmong_touch {g : Nat} {rates : List (Nat × Nat)} {s : State} {m_ : Nat} {b_ : State} (hm_ : Nat.land 66048 m_ = 66048) (ht_ : Touch m_ b_ s) :
    Touch m_ b_ (State.shareAmong g rates s) := by
  unfold State.shareAmong
  try dsimp only
  repeat' (first | with_reducible assumption | (exact sub_trans (by decide) hm_) | (with_reducible refine State.beginMove_touch ?_ ?_ ) | (with_reducible refine foldl_touch ?_ ?_) | (with_reducible refine foldl_snd_touch ?_ ?_) | (with_reducible refine ite_touch ?_ ?_) | (with_reducible refine id_touch ?_) | intro _ _ | intro _ | dsimp only | split)

theorem State.rebalance_touch {g : Nat} {s : State} {m_ : Nat} {b_ : State} (hm_ : Nat.land 66048 m_ = 66048) (ht_ : Touch m_ b_ s) :
    Touch m_ b_ (State.rebalance g s) := by
  unfold State.rebalance
  try dsimp only
  repeat' (first | with_reducible assumption | (exact sub_trans (by decide) hm_) | (with_reducible refine State.shareAmong_touch ?_ ?_ ) | (with_reducible refine ite_touch ?_ ?_) | (with_reducible refine id_touch ?_) | intro _ _ | intro _ | dsimp only | split)

theorem State.sendLacp_touch {p : Nat} {s : State} {m_ : Nat} {b_ : State} (hm_ : Nat.land 67108864 m_ = 67108864) (ht_ : Touch m_ b_ s) :
    Touch m_ b_ (State.sendLacp p s) := by
  unfold State.sendLacp
  try dsimp only
  repeat' (first | with_reducible assumption | (exact sub_trans (by decide) hm_) | (with_reducible refine State.send_touch ?_ ?_ ) | (with_reducible refine ite_touch ?_ ?_) | (with_reducible refine id_touch ?_) | intro _ _ | intro _ | dsimp only | split)

theorem State.dropQueued_touch {p : Nat} {s : State} {m_ : Nat} {b_ : State} (hm_ : Nat.land 4259840 m_ = 4259840) (ht_ : Touch m_ b_ s) :
    Touch m_ b_ (State.dropQueued p s) := by
  unfold State.dropQueued
  try dsimp only
  repeat' (first | with_reducible assumption | (exact sub_trans (by decide) hm_) | (with_reducible refine State.bumpN_touch ?_ ?_ ) | (with_reducible refine State.freeTx_touch ?_ ?_ ) | (with_reducible refine State.updSched_touch ?_ ?_ ) | (with_reducible refine State.updQos_touch ?_ ?_) | (with_reducible refine foldl_touch ?_ ?_) | (with_reducible refine foldl_snd_touch ?_ ?_) | (with_reducible refine ite_touch ?_ ?_) | (with_reducible refine id_touch ?_) | intro _ _ | intro _ | dsimp only | split)

theorem State.emitFrame_touch {i : Nat} {c : Ctx} {control : Bool} {payload : Nat} {s : State} {m_ : Nat} {b_ : State} (hm_ : Nat.land 4259840 m_ = 4259840) (ht_ : Touch m_ b_ s) :
    Touch m_ b_ (State.emitFrame i c control payload s) := by
  unfold State.emitFrame
  try dsimp only
  repeat' (first | with_reducible assumption | (exact sub_trans (by decide) hm_) | (with_reducible refine State.queueFrame_touch ?_ ?_ ) | (refine State.store_touch ?_ ?_ _ (by with_reducible assumption)) | (with_reducible refine State.updQos_touch ?_ ?_) | (with_reducible refine ite_touch ?_ ?_) | (with_reducible refine id_touch ?_) | intro _ _ | intro _ | dsimp only | split)

theorem State.emitMessage_touch {i : Nat} {c : Ctx} {payload : Nat} {s : State} {m_ : Nat} {b_ : State} (hm_ : Nat.land 4259840 m_ = 4259840) (ht_ : Touch m_ b_ s) :
    Touch m_ b_ (State.emitMessage i c payload s) := by
  unfold State.emitMessage
  try dsimp only
  repeat' (first | with_reducible assumption | (exact sub_trans (by decide) hm_) | (with_reducible refine State.emitFrame_touch ?_ ?_ ) | (with_reducible refine foldl_touch ?_ ?_) | (with_reducible refine foldl_snd_touch ?_ ?_) | (with_reducible refine ite_touch ?_ ?_) | (with_reducible refine id_touch ?_) | intro _ _ | intro _ | dsimp only | split)

end Sys2Proof.Machine
end

