-- ==== Sys2Proof/Laws/TouchSettOps.lean ====
section
/-! SUPPORT. What the operations of Machine/SettOps.lean can change: one lemma for each. -/
namespace Sys2Proof.Machine
set_option linter.all false

theorem State.settSend_touch {kind : Nat} {args : List Nat} {data : Bytes} {s : State} {m_ : Nat} {b_ : State} (hm_ : Nat.land 67239936 m_ = 67239936) (ht_ : Touch m_ b_ s) :
    Touch m_ b_ (State.settSend kind args data s) := by
  unfold State.settSend
  try dsimp only
  repeat' (first | with_reducible assumption | (exact sub_trans (by decide) hm_) | (with_reducible refine State.send_touch ?_ ?_ ) | (with_reducible refine State.when_touch ?_ ?_) | (with_reducible refine State.updPair_touch ?_ ?_) | (with_reducible refine ite_touch ?_ ?_) | (with_reducible refine id_touch ?_) | intro _ _ | intro _ | dsimp only | split)

theorem State.settIfPaired_touch {kind : Nat} {args : List Nat} {data : Bytes} {s : State} {m_ : Nat} {b_ : State} (hm_ : Nat.land 67239936 m_ = 67239936) (ht_ : Touch m_ b_ s) :
    Touch m_ b_ (State.settIfPaired kind args data s) := by
  unfold State.settIfPaired
  try dsimp only
  repeat' (first | with_reducible assumption | (exact sub_trans (by decide) hm_) | (with_reducible refine State.settSend_touch ?_ ?_ ) | (with_reducible refine State.when_touch ?_ ?_) | (with_reducible refine ite_touch ?_ ?_) | (with_reducible refine id_touch ?_) | intro _ _ | intro _ | dsimp only | split)

theorem State.settGot_touch {kind : Nat} {s : State} {m_ : Nat} {b_ : State} (hm_ : Nat.land 67239936 m_ = 67239936) (ht_ : Touch m_ b_ s) :
    Touch m_ b_ (State.settGot kind s) := by
  unfold State.settGot
  try dsimp only
  repeat' (first | with_reducible assumption | (exact sub_trans (by decide) hm_) | (with_reducible refine State.send_touch ?_ ?_ ) | (with_reducible refine State.updPair_touch ?_ ?_) | (with_reducible refine ite_touch ?_ ?_) | (with_reducible refine id_touch ?_) | intro _ _ | intro _ | dsimp only | split)

theorem State.settIn_touch {kind : Nat} {f : State → State} {s : State} {m_ : Nat} {b_ : State} (hm_ : Nat.land 67239936 m_ = 67239936) (ht_ : Touch m_ b_ s) (hf_ : ∀ t_, Touch m_ b_ t_ → Touch m_ b_ (f t_)) :
    Touch m_ b_ (State.settIn kind f s) := by
  unfold State.settIn
  try dsimp only
  repeat' (first | with_reducible assumption | (exact sub_trans (by decide) hm_) | (with_reducible refine State.settGot_touch ?_ ?_ ) | (with_reducible refine ite_touch ?_ ?_) | (with_reducible refine id_touch ?_) | intro _ _ | intro _ | (refine hf_ _ ?_) | dsimp only | split)

end Sys2Proof.Machine
end

