-- ==== Sys2Proof/Laws/TouchXportOps.lean ====
section
/-! SUPPORT. What the operations of Machine/XportOps.lean can change: one lemma for each. -/
namespace Sys2Proof.Machine
set_option linter.all false

theorem State.updCtx_touch {i : Nat} {f : Ctx → Ctx} {s : State} {m_ : Nat} {b_ : State} (hm_ : Nat.land 1024 m_ = 1024) (ht_ : Touch m_ b_ s) :
    Touch m_ b_ (State.updCtx i f s) := by
  unfold State.updCtx
  try dsimp only
  repeat' (first | with_reducible assumption | (exact sub_trans (by decide) hm_) | (with_reducible refine State.updXport_touch ?_ ?_) | (with_reducible refine ite_touch ?_ ?_) | (with_reducible refine id_touch ?_) | intro _ _ | intro _ | dsimp only | split)

theorem State.shadowConn_touch {i : Nat} {s : State} {m_ : Nat} {b_ : State} (hm_ : Nat.land 67239936 m_ = 67239936) (ht_ : Touch m_ b_ s) :
    Touch m_ b_ (State.shadowConn i s) := by
  unfold State.shadowConn
  try dsimp only
  repeat' (first | with_reducible assumption | (exact sub_trans (by decide) hm_) | (with_reducible refine State.settIfPaired_touch ?_ ?_ ) | (with_reducible refine ite_touch ?_ ?_) | (with_reducible refine id_touch ?_) | intro _ _ | intro _ | dsimp only | split)

theorem State.shadowPos_touch {i : Nat} {rcv snd : BitVec 32} {s : State} {m_ : Nat} {b_ : State} (hm_ : Nat.land 67239936 m_ = 67239936) (ht_ : Touch m_ b_ s) :
    Touch m_ b_ (State.shadowPos i rcv snd s) := by
  unfold State.shadowPos
  try dsimp only
  repeat' (first | with_reducible assumption | (exact sub_trans (by decide) hm_) | (with_reducible refine State.settIfPaired_touch ?_ ?_ ) | (with_reducible refine ite_touch ?_ ?_) | (with_reducible refine id_touch ?_) | intro _ _ | intro _ | dsimp only | split)

theorem State.enterOpen_touch {i : Nat} {s : State} {m_ : Nat} {b_ : State} (hm_ : Nat.land 67240960 m_ = 67240960) (ht_ : Touch m_ b_ s) :
    Touch m_ b_ (State.enterOpen i s) := by
  unfold State.enterOpen
  try dsimp only
  repeat' (first | with_reducible assumption | (exact sub_trans (by decide) hm_) | (with_reducible refine State.shadowConn_touch ?_ ?_ ) | (with_reducible refine State.updCtx_touch ?_ ?_ ) | (with_reducible refine ite_touch ?_ ?_) | (with_reducible refine id_touch ?_) | intro _ _ | intro _ | dsimp only | split)

theorem State.dropUnsent_touch {i : Nat} {s : State} {m_ : Nat} {b_ : State} (hm_ : Nat.land 66560 m_ = 66560) (ht_ : Touch m_ b_ s) :
    Touch m_ b_ (State.dropUnsent i s) := by
  unfold State.dropUnsent
  try dsimp only
  repeat' (first | with_reducible assumption | (exact sub_trans (by decide) hm_) | (with_reducible refine State.freeTx_touch ?_ ?_ ) | (with_reducible refine State.updSched_touch ?_ ?_ ) | (with_reducible refine State.updXport_touch ?_ ?_) | (with_reducible refine foldl_touch ?_ ?_) | (with_reducible refine foldl_snd_touch ?_ ?_) | (with_reducible refine ite_touch ?_ ?_) | (with_reducible refine id_touch ?_) | intro _ _ | intro _ | dsimp only | split)

theorem State.enterQuarantine_touch {i : Nat} {s : State} {m_ : Nat} {b_ : State} (hm_ : Nat.land 67306496 m_ = 67306496) (ht_ : Touch m_ b_ s) :
    Touch m_ b_ (State.enterQuarantine i s) := by
  unfold State.enterQuarantine
  try dsimp only
  repeat' (first | with_reducible assumption | (exact sub_trans (by decide) hm_) | (with_reducible refine State.dropUnsent_touch ?_ ?_ ) | (with_reducible refine State.shadowConn_touch ?_ ?_ ) | (with_reducible refine State.updCtx_touch ?_ ?_ ) | (with_reducible refine ite_touch ?_ ?_) | (with_reducible refine id_touch ?_) | intro _ _ | intro _ | dsimp only | split)

theorem State.freeCtx_touch {i : Nat} {s : State} {m_ : Nat} {b_ : State} (hm_ : Nat.land 1024 m_ = 1024) (ht_ : Touch m_ b_ s) :
    Touch m_ b_ (State.freeCtx i s) := by
  unfold State.freeCtx
  try dsimp only
  repeat' (first | with_reducible assumption | (exact sub_trans (by decide) hm_) | (with_reducible refine State.updXport_touch ?_ ?_) | (with_reducible refine ite_touch ?_ ?_) | (with_reducible refine id_touch ?_) | intro _ _ | intro _ | dsimp only | split)

theorem State.settleCtx_touch {i : Nat} {s : State} {m_ : Nat} {b_ : State} (hm_ : Nat.land 67306496 m_ = 67306496) (ht_ : Touch m_ b_ s) :
    Touch m_ b_ (State.settleCtx i s) := by
  unfold State.settleCtx
  try dsimp only
  repeat' (first | with_reducible assumption | (exact sub_trans (by decide) hm_) | (with_reducible refine State.enterQuarantine_touch ?_ ?_ ) | (with_reducible refine State.send_touch ?_ ?_ ) | (with_reducible refine State.updCtx_touch ?_ ?_ ) | (with_reducible refine State.when_touch ?_ ?_) | (with_reducible refine ite_touch ?_ ?_) | (with_reducible refine id_touch ?_) | intro _ _ | intro _ | dsimp only | split)

theorem State.enterDraining_touch {i : Nat} {s : State} {m_ : Nat} {b_ : State} (hm_ : Nat.land 67308544 m_ = 67308544) (ht_ : Touch m_ b_ s) :
    Touch m_ b_ (State.enterDraining i s) := by
  unfold State.enterDraining
  try dsimp only
  repeat' (first | with_reducible assumption | (exact sub_trans (by decide) hm_) | (with_reducible refine State.settleCtx_touch ?_ ?_ ) | (with_reducible refine State.shadowConn_touch ?_ ?_ ) | (with_reducible refine State.updCtx_touch ?_ ?_ ) | (with_reducible refine State.updCmds_touch ?_ ?_) | (with_reducible refine ite_touch ?_ ?_) | (with_reducible refine id_touch ?_) | intro _ _ | intro _ | dsimp only | split)

theorem State.takePos_touch {i payload : Nat} {s : State} {m_ : Nat} {b_ : State} (hm_ : Nat.land 1024 m_ = 1024) (ht_ : Touch m_ b_ s) :
    Touch m_ b_ (State.takePos i payload s).2 := by
  unfold State.takePos
  try dsimp only
  repeat' (first | with_reducible assumption | (exact sub_trans (by decide) hm_) | (with_reducible refine State.updCtx_touch ?_ ?_ ) | (with_reducible refine ite_touch ?_ ?_) | (with_reducible refine id_touch ?_) | intro _ _ | intro _ | dsimp only | split)

theorem State.launch_touch {i last payload : Nat} {o : Out} {s : State} {m_ : Nat} {b_ : State} (hm_ : Nat.land 71369728 m_ = 71369728) (ht_ : Touch m_ b_ s) :
    Touch m_ b_ (State.launch i last payload o s) := by
  unfold State.launch
  try dsimp only
  repeat' (first | with_reducible assumption | (exact sub_trans (by decide) hm_) | (with_reducible refine State.emitMessage_touch ?_ ?_ ) | (with_reducible refine State.send_touch ?_ ?_ ) | (with_reducible refine State.updCtx_touch ?_ ?_ ) | (with_reducible refine ite_touch ?_ ?_) | (with_reducible refine id_touch ?_) | intro _ _ | intro _ | dsimp only | split)

theorem State.sendMsg_touch {i payload : Nat} {o : Out} {s : State} {m_ : Nat} {b_ : State} (hm_ : Nat.land 71369728 m_ = 71369728) (ht_ : Touch m_ b_ s) :
    Touch m_ b_ (State.sendMsg i payload o s) := by
  unfold State.sendMsg
  try dsimp only
  repeat' (first | with_reducible assumption | (exact sub_trans (by decide) hm_) | (with_reducible refine State.launch_touch ?_ ?_ ) | (with_reducible refine State.takePos_touch ?_ ?_ ) | (refine snd_touch (by with_reducible assumption) (State.takePos_touch ?_ ?_ )) | (with_reducible refine State.updXport_touch ?_ ?_) | (with_reducible refine ite_touch ?_ ?_) | (with_reducible refine id_touch ?_) | intro _ _ | intro _ | dsimp only | split)

theorem State.sendControl_touch {i : Nat} {k : OutKind} {args : List Nat} {s : State} {m_ : Nat} {b_ : State} (hm_ : Nat.land 71368704 m_ = 71368704) (ht_ : Touch m_ b_ s) :
    Touch m_ b_ (State.sendControl i k args s) := by
  unfold State.sendControl
  try dsimp only
  repeat' (first | with_reducible assumption | (exact sub_trans (by decide) hm_) | (with_reducible refine State.emitFrame_touch ?_ ?_ ) | (with_reducible refine State.send_touch ?_ ?_ ) | (with_reducible refine ite_touch ?_ ?_) | (with_reducible refine id_touch ?_) | intro _ _ | intro _ | dsimp only | split)

theorem State.flushPlans_touch {i : Nat} {s : State} {m_ : Nat} {b_ : State} (hm_ : Nat.land 71369728 m_ = 71369728) (ht_ : Touch m_ b_ s) :
    Touch m_ b_ (State.flushPlans i s) := by
  unfold State.flushPlans
  try dsimp only
  repeat' (first | with_reducible assumption | (exact sub_trans (by decide) hm_) | (with_reducible refine State.launch_touch ?_ ?_ ) | (with_reducible refine State.updXport_touch ?_ ?_) | (with_reducible refine foldl_touch ?_ ?_) | (with_reducible refine foldl_snd_touch ?_ ?_) | (with_reducible refine ite_touch ?_ ?_) | (with_reducible refine id_touch ?_) | intro _ _ | intro _ | dsimp only | split)

theorem State.plan_touch {i slot planKind : Nat} {sizes : List Nat} {s : State} {m_ : Nat} {b_ : State} (hm_ : Nat.land 1024 m_ = 1024) (ht_ : Touch m_ b_ s) :
    Touch m_ b_ (State.plan i slot planKind sizes s) := by
  unfold State.plan
  try dsimp only
  repeat' (first | with_reducible assumption | (exact sub_trans (by decide) hm_) | (with_reducible refine State.updCtx_touch ?_ ?_ ) | (with_reducible refine State.updXport_touch ?_ ?_) | (with_reducible refine ite_touch ?_ ?_) | (with_reducible refine id_touch ?_) | intro _ _ | intro _ | dsimp only | split)

theorem State.updPlan_touch {i slot : Nat} {f : SendPlan → SendPlan} {s : State} {m_ : Nat} {b_ : State} (hm_ : Nat.land 1024 m_ = 1024) (ht_ : Touch m_ b_ s) :
    Touch m_ b_ (State.updPlan i slot f s) := by
  unfold State.updPlan
  try dsimp only
  repeat' (first | with_reducible assumption | (exact sub_trans (by decide) hm_) | (with_reducible refine State.updXport_touch ?_ ?_) | (with_reducible refine ite_touch ?_ ?_) | (with_reducible refine id_touch ?_) | intro _ _ | intro _ | dsimp only | split)

theorem State.sendAck_touch {i : Nat} {s : State} {m_ : Nat} {b_ : State} (hm_ : Nat.land 71369728 m_ = 71369728) (ht_ : Touch m_ b_ s) :
    Touch m_ b_ (State.sendAck i s) := by
  unfold State.sendAck
  try dsimp only
  repeat' (first | with_reducible assumption | (exact sub_trans (by decide) hm_) | (with_reducible refine State.sendControl_touch ?_ ?_ ) | (with_reducible refine State.updCtx_touch ?_ ?_ ) | (with_reducible refine ite_touch ?_ ?_) | (with_reducible refine id_touch ?_) | intro _ _ | intro _ | dsimp only | split)

theorem State.setAcked_touch {i : Nat} {e : BitVec 32} {s : State} {m_ : Nat} {b_ : State} (hm_ : Nat.land 71369728 m_ = 71369728) (ht_ : Touch m_ b_ s) :
    Touch m_ b_ (State.setAcked i e s) := by
  unfold State.setAcked
  try dsimp only
  repeat' (first | with_reducible assumption | (exact sub_trans (by decide) hm_) | (with_reducible refine State.sendAck_touch ?_ ?_ ) | (with_reducible refine State.updCtx_touch ?_ ?_ ) | (with_reducible refine ite_touch ?_ ?_) | (with_reducible refine id_touch ?_) | intro _ _ | intro _ | dsimp only | split)

theorem State.advanceAck_touch {i : Nat} {s : State} {m_ : Nat} {b_ : State} (hm_ : Nat.land 71500800 m_ = 71500800) (ht_ : Touch m_ b_ s) :
    Touch m_ b_ (State.advanceAck i s) := by
  unfold State.advanceAck
  try dsimp only
  repeat' (first | with_reducible assumption | (exact sub_trans (by decide) hm_) | (with_reducible refine State.setAcked_touch ?_ ?_ ) | (with_reducible refine State.shadowPos_touch ?_ ?_ ) | (with_reducible refine State.updCtx_touch ?_ ?_ ) | (with_reducible refine ite_touch ?_ ?_) | (with_reducible refine id_touch ?_) | intro _ _ | intro _ | dsimp only | split)

theorem State.messageEnd_touch {i : Nat} {s : State} {m_ : Nat} {b_ : State} (hm_ : Nat.land 71500800 m_ = 71500800) (ht_ : Touch m_ b_ s) :
    Touch m_ b_ (State.messageEnd i s) := by
  unfold State.messageEnd
  try dsimp only
  repeat' (first | with_reducible assumption | (exact sub_trans (by decide) hm_) | (with_reducible refine State.advanceAck_touch ?_ ?_ ) | (with_reducible refine State.updCtx_touch ?_ ?_ ) | (with_reducible refine ite_touch ?_ ?_) | (with_reducible refine id_touch ?_) | intro _ _ | intro _ | dsimp only | split)

theorem State.endSlotsOf_touch {i : Nat} {s : State} {m_ : Nat} {b_ : State} (hm_ : Nat.land 2048 m_ = 2048) (ht_ : Touch m_ b_ s) :
    Touch m_ b_ (State.endSlotsOf i s) := by
  unfold State.endSlotsOf
  try dsimp only
  repeat' (first | with_reducible assumption | (exact sub_trans (by decide) hm_) | (with_reducible refine State.updCmds_touch ?_ ?_) | (with_reducible refine ite_touch ?_ ?_) | (with_reducible refine id_touch ?_) | intro _ _ | intro _ | dsimp only | split)

theorem State.ctxError_touch {i : Nat} {s : State} {m_ : Nat} {b_ : State} (hm_ : Nat.land 67308544 m_ = 67308544) (ht_ : Touch m_ b_ s) :
    Touch m_ b_ (State.ctxError i s) := by
  unfold State.ctxError
  try dsimp only
  repeat' (first | with_reducible assumption | (exact sub_trans (by decide) hm_) | (with_reducible refine State.dropUnsent_touch ?_ ?_ ) | (with_reducible refine State.endSlotsOf_touch ?_ ?_ ) | (with_reducible refine State.settleCtx_touch ?_ ?_ ) | (with_reducible refine State.shadowConn_touch ?_ ?_ ) | (with_reducible refine State.updCtx_touch ?_ ?_ ) | (with_reducible refine ite_touch ?_ ?_) | (with_reducible refine id_touch ?_) | intro _ _ | intro _ | dsimp only | split)

theorem State.sendNak_touch {i kind pos : Nat} {s : State} {m_ : Nat} {b_ : State} (hm_ : Nat.land 71368704 m_ = 71368704) (ht_ : Touch m_ b_ s) :
    Touch m_ b_ (State.sendNak i kind pos s) := by
  unfold State.sendNak
  try dsimp only
  repeat' (first | with_reducible assumption | (exact sub_trans (by decide) hm_) | (with_reducible refine State.sendControl_touch ?_ ?_ ) | (with_reducible refine ite_touch ?_ ?_) | (with_reducible refine id_touch ?_) | intro _ _ | intro _ | dsimp only | split)

theorem State.sendRst_touch {i : Nat} {s : State} {m_ : Nat} {b_ : State} (hm_ : Nat.land 71368704 m_ = 71368704) (ht_ : Touch m_ b_ s) :
    Touch m_ b_ (State.sendRst i s) := by
  unfold State.sendRst
  try dsimp only
  repeat' (first | with_reducible assumption | (exact sub_trans (by decide) hm_) | (with_reducible refine State.sendControl_touch ?_ ?_ ) | (with_reducible refine ite_touch ?_ ?_) | (with_reducible refine id_touch ?_) | intro _ _ | intro _ | dsimp only | split)

theorem State.onLoss_touch {i : Nat} {timeout : Bool} {s : State} {m_ : Nat} {b_ : State} (hm_ : Nat.land 1024 m_ = 1024) (ht_ : Touch m_ b_ s) :
    Touch m_ b_ (State.onLoss i timeout s) := by
  unfold State.onLoss
  try dsimp only
  repeat' (first | with_reducible assumption | (exact sub_trans (by decide) hm_) | (with_reducible refine State.updCtx_touch ?_ ?_ ) | (with_reducible refine ite_touch ?_ ?_) | (with_reducible refine id_touch ?_) | intro _ _ | intro _ | dsimp only | split)

theorem State.epochEnd_touch {i : Nat} {s : State} {m_ : Nat} {b_ : State} (hm_ : Nat.land 1024 m_ = 1024) (ht_ : Touch m_ b_ s) :
    Touch m_ b_ (State.epochEnd i s) := by
  unfold State.epochEnd
  try dsimp only
  repeat' (first | with_reducible assumption | (exact sub_trans (by decide) hm_) | (with_reducible refine State.updCtx_touch ?_ ?_ ) | (with_reducible refine ite_touch ?_ ?_) | (with_reducible refine id_touch ?_) | intro _ _ | intro _ | dsimp only | split)

theorem State.onAck_touch {i una : Nat} {ece : Bool} {s : State} {m_ : Nat} {b_ : State} (hm_ : Nat.land 67243008 m_ = 67243008) (ht_ : Touch m_ b_ s) :
    Touch m_ b_ (State.onAck i una ece s) := by
  unfold State.onAck
  try dsimp only
  repeat' (first | with_reducible assumption | (exact sub_trans (by decide) hm_) | (with_reducible refine State.epochEnd_touch ?_ ?_ ) | (with_reducible refine State.shadowPos_touch ?_ ?_ ) | (with_reducible refine State.updCtx_touch ?_ ?_ ) | (with_reducible refine State.updCmds_touch ?_ ?_) | (with_reducible refine ite_touch ?_ ?_) | (with_reducible refine id_touch ?_) | intro _ _ | intro _ | dsimp only | split)

theorem State.resendFrom_touch {i from' : Nat} {s : State} {m_ : Nat} {b_ : State} (hm_ : Nat.land 71369728 m_ = 71369728) (ht_ : Touch m_ b_ s) :
    Touch m_ b_ (State.resendFrom i from' s) := by
  unfold State.resendFrom
  try dsimp only
  repeat' (first | with_reducible assumption | (exact sub_trans (by decide) hm_) | (with_reducible refine State.bumpN_touch ?_ ?_ ) | (with_reducible refine State.emitMessage_touch ?_ ?_ ) | (with_reducible refine State.send_touch ?_ ?_ ) | (with_reducible refine State.updCtx_touch ?_ ?_ ) | (with_reducible refine foldl_touch ?_ ?_) | (with_reducible refine foldl_snd_touch ?_ ?_) | (with_reducible refine ite_touch ?_ ?_) | (with_reducible refine id_touch ?_) | intro _ _ | intro _ | dsimp only | split)

theorem State.retry_touch {i from' : Nat} {limit : Nat} {timeout : Bool} {s : State} {m_ : Nat} {b_ : State} (hm_ : Nat.land 71502848 m_ = 71502848) (ht_ : Touch m_ b_ s) :
    Touch m_ b_ (State.retry i from' limit timeout s) := by
  unfold State.retry
  try dsimp only
  repeat' (first | with_reducible assumption | (exact sub_trans (by decide) hm_) | (with_reducible refine State.ctxError_touch ?_ ?_ ) | (with_reducible refine State.onLoss_touch ?_ ?_ ) | (with_reducible refine State.resendFrom_touch ?_ ?_ ) | (with_reducible refine State.sendRst_touch ?_ ?_ ) | (with_reducible refine State.updCtx_touch ?_ ?_ ) | (with_reducible refine ite_touch ?_ ?_) | (with_reducible refine id_touch ?_) | intro _ _ | intro _ | dsimp only | split)

theorem State.onMark_touch {i : Nat} {s : State} {m_ : Nat} {b_ : State} (hm_ : Nat.land 71369728 m_ = 71369728) (ht_ : Touch m_ b_ s) :
    Touch m_ b_ (State.onMark i s) := by
  unfold State.onMark
  try dsimp only
  repeat' (first | with_reducible assumption | (exact sub_trans (by decide) hm_) | (with_reducible refine State.bump_touch ?_ ?_ ) | (with_reducible refine State.sendControl_touch ?_ ?_ ) | (with_reducible refine State.updCtx_touch ?_ ?_ ) | (with_reducible refine ite_touch ?_ ?_) | (with_reducible refine id_touch ?_) | intro _ _ | intro _ | dsimp only | split)

theorem State.wredRx_touch {i port len : Nat} {s : State} {m_ : Nat} {b_ : State} (hm_ : Nat.land 37748736 m_ = 37748736) (ht_ : Touch m_ b_ s) :
    Touch m_ b_ (State.wredRx i port len s).2 := by
  unfold State.wredRx
  try dsimp only
  repeat' (first | with_reducible assumption | (exact sub_trans (by decide) hm_) | (with_reducible refine State.bump_touch ?_ ?_ ) | (with_reducible refine State.draw_touch ?_ ?_ ) | (with_reducible refine State.when_touch ?_ ?_) | (with_reducible refine ite_touch ?_ ?_) | (with_reducible refine id_touch ?_) | intro _ _ | intro _ | dsimp only | split)

theorem State.revoke_touch {i w : Nat} {s : State} {m_ : Nat} {b_ : State} (hm_ : Nat.land 1024 m_ = 1024) (ht_ : Touch m_ b_ s) :
    Touch m_ b_ (State.revoke i w s) := by
  unfold State.revoke
  try dsimp only
  repeat' (first | with_reducible assumption | (exact sub_trans (by decide) hm_) | (with_reducible refine State.updCtx_touch ?_ ?_ ) | (with_reducible refine ite_touch ?_ ?_) | (with_reducible refine id_touch ?_) | intro _ _ | intro _ | dsimp only | split)

theorem State.setWays_touch {k : Nat} {l : List CacheWay} {s : State} {m_ : Nat} {b_ : State} (hm_ : Nat.land 1024 m_ = 1024) (ht_ : Touch m_ b_ s) :
    Touch m_ b_ (State.setWays k l s) := by
  unfold State.setWays
  try dsimp only
  repeat' (first | with_reducible assumption | (exact sub_trans (by decide) hm_) | (with_reducible refine State.updXport_touch ?_ ?_) | (with_reducible refine ite_touch ?_ ?_) | (with_reducible refine id_touch ?_) | intro _ _ | intro _ | dsimp only | split)

theorem State.touchHit_touch {i : Nat} {s : State} {m_ : Nat} {b_ : State} (hm_ : Nat.land 4195328 m_ = 4195328) (ht_ : Touch m_ b_ s) :
    Touch m_ b_ (State.touchHit i s) := by
  unfold State.touchHit
  try dsimp only
  repeat' (first | with_reducible assumption | (exact sub_trans (by decide) hm_) | (with_reducible refine State.bump_touch ?_ ?_ ) | (with_reducible refine State.setWays_touch ?_ ?_ ) | (with_reducible refine State.when_touch ?_ ?_) | (with_reducible refine ite_touch ?_ ?_) | (with_reducible refine id_touch ?_) | intro _ _ | intro _ | dsimp only | split)

theorem State.serveMiss_touch {i : Nat} {s : State} {m_ : Nat} {b_ : State} (hm_ : Nat.land 1024 m_ = 1024) (ht_ : Touch m_ b_ s) :
    Touch m_ b_ (State.serveMiss i s) := by
  unfold State.serveMiss
  try dsimp only
  repeat' (first | with_reducible assumption | (exact sub_trans (by decide) hm_) | (with_reducible refine State.setWays_touch ?_ ?_ ) | (with_reducible refine ite_touch ?_ ?_) | (with_reducible refine id_touch ?_) | intro _ _ | intro _ | dsimp only | split)

theorem State.serveSet_touch {k : Nat} {s : State} {m_ : Nat} {b_ : State} (hm_ : Nat.land 1024 m_ = 1024) (ht_ : Touch m_ b_ s) :
    Touch m_ b_ (State.serveSet k s) := by
  unfold State.serveSet
  try dsimp only
  repeat' (first | with_reducible assumption | (exact sub_trans (by decide) hm_) | (with_reducible refine State.serveMiss_touch ?_ ?_ ) | (with_reducible refine foldl_touch ?_ ?_) | (with_reducible refine foldl_snd_touch ?_ ?_) | (with_reducible refine ite_touch ?_ ?_) | (with_reducible refine id_touch ?_) | intro _ _ | intro _ | dsimp only | split)

theorem State.cacheGate_touch {i port len : Nat} {cmd : Instr} {s : State} {m_ : Nat} {b_ : State} (hm_ : Nat.land 71370240 m_ = 71370240) (ht_ : Touch m_ b_ s) :
    Touch m_ b_ (State.cacheGate i port len cmd s).2 := by
  unfold State.cacheGate
  try dsimp only
  repeat' (first | with_reducible assumption | (exact sub_trans (by decide) hm_) | (with_reducible refine State.bump_touch ?_ ?_ ) | (with_reducible refine State.serveMiss_touch ?_ ?_ ) | (with_reducible refine State.takeFrame_touch ?_ ?_ ) | (with_reducible refine State.touchHit_touch ?_ ?_ ) | (with_reducible refine State.updCtx_touch ?_ ?_ ) | (with_reducible refine State.updXport_touch ?_ ?_) | (with_reducible refine ite_touch ?_ ?_) | (with_reducible refine id_touch ?_) | intro _ _ | intro _ | dsimp only | split)

end Sys2Proof.Machine
end

