-- ==== Sys2Proof/Laws/TouchLocalOps.lean ====
section
/-! SUPPORT. What the operations of Machine/LocalOps.lean can change: one lemma for each. -/
namespace Sys2Proof.Machine
set_option linter.all false

theorem State.lpSignal_touch {v : Nat} {s : State} {m_ : Nat} {b_ : State} (hm_ : Nat.land 68157440 m_ = 68157440) (ht_ : Touch m_ b_ s) :
    Touch m_ b_ (State.lpSignal v s) := by
  unfold State.lpSignal
  try dsimp only
  repeat' (first | with_reducible assumption | (exact sub_trans (by decide) hm_) | (with_reducible refine State.send_touch ?_ ?_ ) | (with_reducible refine State.updLocalPort_touch ?_ ?_) | (with_reducible refine ite_touch ?_ ?_) | (with_reducible refine id_touch ?_) | intro _ _ | intro _ | dsimp only | split)

theorem State.lpPost_touch {qid cid status dw0 : Nat} {s : State} {m_ : Nat} {b_ : State} (hm_ : Nat.land 72351744 m_ = 72351744) (ht_ : Touch m_ b_ s) :
    Touch m_ b_ (State.lpPost qid cid status dw0 s) := by
  unfold State.lpPost
  try dsimp only
  repeat' (first | with_reducible assumption | (exact sub_trans (by decide) hm_) | (with_reducible refine State.bump_touch ?_ ?_ ) | (with_reducible refine State.lpSignal_touch ?_ ?_ ) | (with_reducible refine State.send_touch ?_ ?_ ) | (with_reducible refine State.updLocalPort_touch ?_ ?_) | (with_reducible refine ite_touch ?_ ?_) | (with_reducible refine id_touch ?_) | intro _ _ | intro _ | dsimp only | split)

theorem State.ltrSend_touch {f : Nat} {s : State} {m_ : Nat} {b_ : State} (hm_ : Nat.land 72351744 m_ = 72351744) (ht_ : Touch m_ b_ s) :
    Touch m_ b_ (State.ltrSend f s) := by
  unfold State.ltrSend
  try dsimp only
  repeat' (first | with_reducible assumption | (exact sub_trans (by decide) hm_) | (with_reducible refine State.bump_touch ?_ ?_ ) | (with_reducible refine State.send_touch ?_ ?_ ) | (with_reducible refine State.updLocalPort_touch ?_ ?_) | (with_reducible refine ite_touch ?_ ?_) | (with_reducible refine id_touch ?_) | intro _ _ | intro _ | dsimp only | split)

theorem State.ltrUpdate_touch {s : State} {m_ : Nat} {b_ : State} (hm_ : Nat.land 72351744 m_ = 72351744) (ht_ : Touch m_ b_ s) :
    Touch m_ b_ (State.ltrUpdate s) := by
  unfold State.ltrUpdate
  try dsimp only
  repeat' (first | with_reducible assumption | (exact sub_trans (by decide) hm_) | (with_reducible refine State.ltrSend_touch ?_ ?_ ) | (with_reducible refine State.updLocalPort_touch ?_ ?_) | (with_reducible refine ite_touch ?_ ?_) | (with_reducible refine id_touch ?_) | intro _ _ | intro _ | dsimp only | split)

theorem State.lpUsed_touch {s : State} {m_ : Nat} {b_ : State} (hm_ : Nat.land 72351744 m_ = 72351744) (ht_ : Touch m_ b_ s) :
    Touch m_ b_ (State.lpUsed s) := by
  unfold State.lpUsed
  try dsimp only
  repeat' (first | with_reducible assumption | (exact sub_trans (by decide) hm_) | (with_reducible refine State.ltrUpdate_touch ?_ ?_ ) | (with_reducible refine State.updLocalPort_touch ?_ ?_) | (with_reducible refine ite_touch ?_ ?_) | (with_reducible refine id_touch ?_) | intro _ _ | intro _ | dsimp only | split)

theorem State.dropSession_touch {id : Nat} {s : State} {m_ : Nat} {b_ : State} (hm_ : Nat.land 2097152 m_ = 2097152) (ht_ : Touch m_ b_ s) :
    Touch m_ b_ (State.dropSession id s) := by
  unfold State.dropSession
  try dsimp only
  repeat' (first | with_reducible assumption | (exact sub_trans (by decide) hm_) | (with_reducible refine State.updCcp_touch ?_ ?_) | (with_reducible refine ite_touch ?_ ?_) | (with_reducible refine id_touch ?_) | intro _ _ | intro _ | dsimp only | split)

theorem State.dropTransport_touch {transport : Nat} {s : State} {m_ : Nat} {b_ : State} (hm_ : Nat.land 2097152 m_ = 2097152) (ht_ : Touch m_ b_ s) :
    Touch m_ b_ (State.dropTransport transport s) := by
  unfold State.dropTransport
  try dsimp only
  repeat' (first | with_reducible assumption | (exact sub_trans (by decide) hm_) | (with_reducible refine State.dropSession_touch ?_ ?_ ) | (with_reducible refine foldl_touch ?_ ?_) | (with_reducible refine foldl_snd_touch ?_ ?_) | (with_reducible refine ite_touch ?_ ?_) | (with_reducible refine id_touch ?_) | intro _ _ | intro _ | dsimp only | split)

end Sys2Proof.Machine
end

