-- ==== Sys2Proof/Laws/TouchCmdOps.lean ====
section
/-! SUPPORT. What the operations of Machine/CmdOps.lean can change: one lemma for each. -/
namespace Sys2Proof.Machine
set_option linter.all false

theorem State.updSlot_touch {n : Nat} {f : Slot → Slot} {s : State} {m_ : Nat} {b_ : State} (hm_ : Nat.land 2048 m_ = 2048) (ht_ : Touch m_ b_ s) :
    Touch m_ b_ (State.updSlot n f s) := by
  unfold State.updSlot
  try dsimp only
  repeat' (first | with_reducible assumption | (exact sub_trans (by decide) hm_) | (with_reducible refine State.updCmds_touch ?_ ?_) | (with_reducible refine ite_touch ?_ ?_) | (with_reducible refine id_touch ?_) | intro _ _ | intro _ | dsimp only | split)

theorem State.updFab_touch {c : Nat} {f : FabCtrl → FabCtrl} {s : State} {m_ : Nat} {b_ : State} (hm_ : Nat.land 2048 m_ = 2048) (ht_ : Touch m_ b_ s) :
    Touch m_ b_ (State.updFab c f s) := by
  unfold State.updFab
  try dsimp only
  repeat' (first | with_reducible assumption | (exact sub_trans (by decide) hm_) | (with_reducible refine State.updCmds_touch ?_ ?_) | (with_reducible refine ite_touch ?_ ?_) | (with_reducible refine id_touch ?_) | intro _ _ | intro _ | dsimp only | split)

theorem State.updNs_touch {h : Nat} {f : Ns → Ns} {s : State} {m_ : Nat} {b_ : State} (hm_ : Nat.land 16384 m_ = 16384) (ht_ : Touch m_ b_ s) :
    Touch m_ b_ (State.updNs h f s) := by
  unfold State.updNs
  try dsimp only
  repeat' (first | with_reducible assumption | (exact sub_trans (by decide) hm_) | (with_reducible refine State.updCipher_touch ?_ ?_) | (with_reducible refine ite_touch ?_ ?_) | (with_reducible refine id_touch ?_) | intro _ _ | intro _ | dsimp only | split)

theorem State.stage_touch {n k : Nat} {s : State} {m_ : Nat} {b_ : State} (hm_ : Nat.land 4194304 m_ = 4194304) (ht_ : Touch m_ b_ s) :
    Touch m_ b_ (State.stage n k s) := by
  unfold State.stage
  try dsimp only
  repeat' (first | with_reducible assumption | (exact sub_trans (by decide) hm_) | (with_reducible refine State.updTelem_touch ?_ ?_) | (with_reducible refine ite_touch ?_ ?_) | (with_reducible refine id_touch ?_) | intro _ _ | intro _ | dsimp only | split)

theorem State.foxWrite_touch {f : FoxTag} {s : State} {m_ : Nat} {b_ : State} (hm_ : Nat.land 4194304 m_ = 4194304) (ht_ : Touch m_ b_ s) :
    Touch m_ b_ (State.foxWrite f s) := by
  unfold State.foxWrite
  try dsimp only
  repeat' (first | with_reducible assumption | (exact sub_trans (by decide) hm_) | (with_reducible refine State.updTelem_touch ?_ ?_) | (with_reducible refine ite_touch ?_ ?_) | (with_reducible refine id_touch ?_) | intro _ _ | intro _ | dsimp only | split)

theorem State.foxEnd_touch {n : Nat} {s : State} {m_ : Nat} {b_ : State} (hm_ : Nat.land 4194304 m_ = 4194304) (ht_ : Touch m_ b_ s) :
    Touch m_ b_ (State.foxEnd n s) := by
  unfold State.foxEnd
  try dsimp only
  repeat' (first | with_reducible assumption | (exact sub_trans (by decide) hm_) | (with_reducible refine State.foxWrite_touch ?_ ?_ ) | (with_reducible refine State.updTelem_touch ?_ ?_) | (with_reducible refine ite_touch ?_ ?_) | (with_reducible refine id_touch ?_) | intro _ _ | intro _ | dsimp only | split)

theorem State.foxStamp_touch {stamp : Nat} {s : State} {m_ : Nat} {b_ : State} (hm_ : Nat.land 4194304 m_ = 4194304) (ht_ : Touch m_ b_ s) :
    Touch m_ b_ (State.foxStamp stamp s) := by
  unfold State.foxStamp
  try dsimp only
  repeat' (first | with_reducible assumption | (exact sub_trans (by decide) hm_) | (with_reducible refine State.foxWrite_touch ?_ ?_ ) | (with_reducible refine State.stage_touch ?_ ?_ ) | (with_reducible refine State.updTelem_touch ?_ ?_) | (with_reducible refine ite_touch ?_ ?_) | (with_reducible refine id_touch ?_) | intro _ _ | intro _ | dsimp only | split)

theorem State.respond_touch {i slot : Nat} {o : Out} {s : State} {m_ : Nat} {b_ : State} (hm_ : Nat.land 71500800 m_ = 71500800) (ht_ : Touch m_ b_ s) :
    Touch m_ b_ (State.respond i slot o s) := by
  unfold State.respond
  try dsimp only
  repeat' (first | with_reducible assumption | (exact sub_trans (by decide) hm_) | (with_reducible refine State.plan_touch ?_ ?_ ) | (with_reducible refine State.sendMsg_touch ?_ ?_ ) | (with_reducible refine State.settSend_touch ?_ ?_ ) | (with_reducible refine State.updPlan_touch ?_ ?_ ) | (with_reducible refine ite_touch ?_ ?_) | (with_reducible refine id_touch ?_) | intro _ _ | intro _ | dsimp only | split)

theorem State.countDone_touch {n : Nat} {s : State} {m_ : Nat} {b_ : State} (hm_ : Nat.land 4194304 m_ = 4194304) (ht_ : Touch m_ b_ s) :
    Touch m_ b_ (State.countDone n s) := by
  unfold State.countDone
  try dsimp only
  repeat' (first | with_reducible assumption | (exact sub_trans (by decide) hm_) | (with_reducible refine State.bump_touch ?_ ?_ ) | (with_reducible refine State.bumpN_touch ?_ ?_ ) | (with_reducible refine ite_touch ?_ ?_) | (with_reducible refine id_touch ?_) | intro _ _ | intro _ | dsimp only | split)

theorem State.revokeOf_touch {n : Nat} {s : State} {m_ : Nat} {b_ : State} (hm_ : Nat.land 1024 m_ = 1024) (ht_ : Touch m_ b_ s) :
    Touch m_ b_ (State.revokeOf n s) := by
  unfold State.revokeOf
  try dsimp only
  repeat' (first | with_reducible assumption | (exact sub_trans (by decide) hm_) | (with_reducible refine State.revoke_touch ?_ ?_ ) | (with_reducible refine ite_touch ?_ ?_) | (with_reducible refine id_touch ?_) | intro _ _ | intro _ | dsimp only | split)

theorem State.postNow_touch {n : Nat} {s : State} {m_ : Nat} {b_ : State} (hm_ : Nat.land 72551424 m_ = 72551424) (ht_ : Touch m_ b_ s) :
    Touch m_ b_ (State.postNow n s) := by
  unfold State.postNow
  try dsimp only
  repeat' (first | with_reducible assumption | (exact sub_trans (by decide) hm_) | (with_reducible refine State.bump_touch ?_ ?_ ) | (with_reducible refine State.countDone_touch ?_ ?_ ) | (with_reducible refine State.flushPlans_touch ?_ ?_ ) | (with_reducible refine State.lpPost_touch ?_ ?_ ) | (with_reducible refine State.plan_touch ?_ ?_ ) | (with_reducible refine State.respond_touch ?_ ?_ ) | (with_reducible refine State.stage_touch ?_ ?_ ) | (with_reducible refine State.updPlan_touch ?_ ?_ ) | (with_reducible refine State.updSlot_touch ?_ ?_ ) | (with_reducible refine State.when_touch ?_ ?_) | (with_reducible refine ite_touch ?_ ?_) | (with_reducible refine id_touch ?_) | intro _ _ | intro _ | dsimp only | split)

theorem State.postCompletion_touch {n : Nat} {s : State} {m_ : Nat} {b_ : State} (hm_ : Nat.land 72559616 m_ = 72559616) (ht_ : Touch m_ b_ s) :
    Touch m_ b_ (State.postCompletion n s) := by
  unfold State.postCompletion
  try dsimp only
  repeat' (first | with_reducible assumption | (exact sub_trans (by decide) hm_) | (with_reducible refine State.postNow_touch ?_ ?_ ) | (with_reducible refine State.updLayout_touch ?_ ?_) | (with_reducible refine ite_touch ?_ ?_) | (with_reducible refine id_touch ?_) | intro _ _ | intro _ | dsimp only | split)

theorem State.sendMirror_touch {n : Nat} {s : State} {m_ : Nat} {b_ : State} (hm_ : Nat.land 67240960 m_ = 67240960) (ht_ : Touch m_ b_ s) :
    Touch m_ b_ (State.sendMirror n s) := by
  unfold State.sendMirror
  try dsimp only
  repeat' (first | with_reducible assumption | (exact sub_trans (by decide) hm_) | (with_reducible refine State.plan_touch ?_ ?_ ) | (with_reducible refine State.settSend_touch ?_ ?_ ) | (with_reducible refine ite_touch ?_ ?_) | (with_reducible refine id_touch ?_) | intro _ _ | intro _ | dsimp only | split)

theorem State.chainAction_touch {n action : Nat} {s : State} {m_ : Nat} {b_ : State} (hm_ : Nat.land 72559616 m_ = 72559616) (ht_ : Touch m_ b_ s) :
    Touch m_ b_ (State.chainAction n action s) := by
  unfold State.chainAction
  try dsimp only
  repeat' (first | with_reducible assumption | (exact sub_trans (by decide) hm_) | (with_reducible refine State.postCompletion_touch ?_ ?_ ) | (with_reducible refine State.revokeOf_touch ?_ ?_ ) | (with_reducible refine State.sendMirror_touch ?_ ?_ ) | (with_reducible refine ite_touch ?_ ?_) | (with_reducible refine id_touch ?_) | intro _ _ | intro _ | dsimp only | split)

theorem State.fireChain_touch {n t : Nat} {cs : Tbl Chain} {s : State} {m_ : Nat} {b_ : State} (hm_ : Nat.land 72559616 m_ = 72559616) (ht_ : Touch m_ b_ s) :
    Touch m_ b_ (State.fireChain n t cs s) := by
  unfold State.fireChain
  try dsimp only
  repeat' (first | with_reducible assumption | (exact sub_trans (by decide) hm_) | (with_reducible refine State.chainAction_touch ?_ ?_ ) | (with_reducible refine State.updCtx_touch ?_ ?_ ) | (with_reducible refine State.updSlot_touch ?_ ?_ ) | (with_reducible refine ite_touch ?_ ?_) | (with_reducible refine id_touch ?_) | intro _ _ | intro _ | dsimp only | split)

theorem State.evalChains_touch {n : Nat} {s : State} {m_ : Nat} {b_ : State} (hm_ : Nat.land 72559616 m_ = 72559616) (ht_ : Touch m_ b_ s) :
    Touch m_ b_ (State.evalChains n s) := by
  unfold State.evalChains
  try dsimp only
  repeat' (first | with_reducible assumption | (exact sub_trans (by decide) hm_) | (with_reducible refine State.fireChain_touch ?_ ?_ ) | (with_reducible refine foldl_touch ?_ ?_) | (with_reducible refine foldl_snd_touch ?_ ?_) | (with_reducible refine ite_touch ?_ ?_) | (with_reducible refine id_touch ?_) | intro _ _ | intro _ | dsimp only | split)

theorem State.trigger_touch {n kind : Nat} {s : State} {m_ : Nat} {b_ : State} (hm_ : Nat.land 72559616 m_ = 72559616) (ht_ : Touch m_ b_ s) :
    Touch m_ b_ (State.trigger n kind s) := by
  unfold State.trigger
  try dsimp only
  repeat' (first | with_reducible assumption | (exact sub_trans (by decide) hm_) | (with_reducible refine State.evalChains_touch ?_ ?_ ) | (with_reducible refine State.updSlot_touch ?_ ?_ ) | (with_reducible refine ite_touch ?_ ?_) | (with_reducible refine id_touch ?_) | intro _ _ | intro _ | dsimp only | split)

theorem State.failCmd_touch {n status : Nat} {s : State} {m_ : Nat} {b_ : State} (hm_ : Nat.land 72559616 m_ = 72559616) (ht_ : Touch m_ b_ s) :
    Touch m_ b_ (State.failCmd n status s) := by
  unfold State.failCmd
  try dsimp only
  repeat' (first | with_reducible assumption | (exact sub_trans (by decide) hm_) | (with_reducible refine State.trigger_touch ?_ ?_ ) | (with_reducible refine State.updSlot_touch ?_ ?_ ) | (with_reducible refine ite_touch ?_ ?_) | (with_reducible refine id_touch ?_) | intro _ _ | intro _ | dsimp only | split)

theorem State.endCmd_touch {n : Nat} {s : State} {m_ : Nat} {b_ : State} (hm_ : Nat.land 3072 m_ = 3072) (ht_ : Touch m_ b_ s) :
    Touch m_ b_ (State.endCmd n s) := by
  unfold State.endCmd
  try dsimp only
  repeat' (first | with_reducible assumption | (exact sub_trans (by decide) hm_) | (with_reducible refine State.revokeOf_touch ?_ ?_ ) | (with_reducible refine State.updSlot_touch ?_ ?_ ) | (with_reducible refine ite_touch ?_ ?_) | (with_reducible refine id_touch ?_) | intro _ _ | intro _ | dsimp only | split)

theorem State.putReplay_touch {r : Replay} {s : State} {m_ : Nat} {b_ : State} (hm_ : Nat.land 4196352 m_ = 4196352) (ht_ : Touch m_ b_ s) :
    Touch m_ b_ (State.putReplay r s) := by
  unfold State.putReplay
  try dsimp only
  repeat' (first | with_reducible assumption | (exact sub_trans (by decide) hm_) | (with_reducible refine State.bump_touch ?_ ?_ ) | (with_reducible refine State.updCmds_touch ?_ ?_) | (with_reducible refine foldl_touch ?_ ?_) | (with_reducible refine foldl_snd_touch ?_ ?_) | (with_reducible refine ite_touch ?_ ?_) | (with_reducible refine id_touch ?_) | intro _ _ | intro _ | dsimp only | split)

theorem State.katoRestart_touch {c : Nat} {s : State} {m_ : Nat} {b_ : State} (hm_ : Nat.land 2048 m_ = 2048) (ht_ : Touch m_ b_ s) :
    Touch m_ b_ (State.katoRestart c s) := by
  unfold State.katoRestart
  try dsimp only
  repeat' (first | with_reducible assumption | (exact sub_trans (by decide) hm_) | (with_reducible refine State.updFab_touch ?_ ?_ ) | (with_reducible refine ite_touch ?_ ?_) | (with_reducible refine id_touch ?_) | intro _ _ | intro _ | dsimp only | split)

theorem State.adminReplay_touch {ctx qid cid pos crc status dw0 : Nat} {s : State} {m_ : Nat} {b_ : State} (hm_ : Nat.land 71436288 m_ = 71436288) (ht_ : Touch m_ b_ s) :
    Touch m_ b_ (State.adminReplay ctx qid cid pos crc status dw0 s) := by
  unfold State.adminReplay
  try dsimp only
  repeat' (first | with_reducible assumption | (exact sub_trans (by decide) hm_) | (with_reducible refine State.putReplay_touch ?_ ?_ ) | (with_reducible refine State.settIfPaired_touch ?_ ?_ ) | (with_reducible refine ite_touch ?_ ?_) | (with_reducible refine id_touch ?_) | intro _ _ | intro _ | dsimp only | split)

theorem State.adminDone_touch {q : AdminCmd} {status dw0 : Nat} {s0 : State} {m_ : Nat} {b_ : State} (hm_ : Nat.land 72551424 m_ = 72551424) (ht_ : Touch m_ b_ s0) :
    Touch m_ b_ (State.adminDone q status dw0 s0) := by
  unfold State.adminDone
  try dsimp only
  repeat' (first | with_reducible assumption | (exact sub_trans (by decide) hm_) | (with_reducible refine State.adminReplay_touch ?_ ?_ ) | (with_reducible refine State.bump_touch ?_ ?_ ) | (with_reducible refine State.lpPost_touch ?_ ?_ ) | (with_reducible refine State.respond_touch ?_ ?_ ) | (with_reducible refine State.updFab_touch ?_ ?_ ) | (with_reducible refine ite_touch ?_ ?_) | (with_reducible refine id_touch ?_) | intro _ _ | intro _ | dsimp only | split)

theorem State.adminData_touch {q : AdminCmd} {report : List Nat} {data : Bytes} {s : State} {m_ : Nat} {b_ : State} (hm_ : Nat.land 71369728 m_ = 71369728) (ht_ : Touch m_ b_ s) :
    Touch m_ b_ (State.adminData q report data s) := by
  unfold State.adminData
  try dsimp only
  repeat' (first | with_reducible assumption | (exact sub_trans (by decide) hm_) | (with_reducible refine State.send_touch ?_ ?_ ) | (with_reducible refine State.sendMsg_touch ?_ ?_ ) | (with_reducible refine State.when_touch ?_ ?_) | (with_reducible refine ite_touch ?_ ?_) | (with_reducible refine id_touch ?_) | intro _ _ | intro _ | dsimp only | split)

theorem State.adminReport_touch {q : AdminCmd} {len : Nat} {report : List Nat} {s : State} {m_ : Nat} {b_ : State} (hm_ : Nat.land 71369728 m_ = 71369728) (ht_ : Touch m_ b_ s) :
    Touch m_ b_ (State.adminReport q len report s) := by
  unfold State.adminReport
  try dsimp only
  repeat' (first | with_reducible assumption | (exact sub_trans (by decide) hm_) | (with_reducible refine State.send_touch ?_ ?_ ) | (with_reducible refine State.sendMsg_touch ?_ ?_ ) | (with_reducible refine State.when_touch ?_ ?_) | (with_reducible refine ite_touch ?_ ?_) | (with_reducible refine id_touch ?_) | intro _ _ | intro _ | dsimp only | split)

theorem State.psEffects_touch {ps : Nat} {s : State} {m_ : Nat} {b_ : State} (hm_ : Nat.land 65664 m_ = 65664) (ht_ : Touch m_ b_ s) :
    Touch m_ b_ (State.psEffects ps s) := by
  unfold State.psEffects
  try dsimp only
  repeat' (first | with_reducible assumption | (exact sub_trans (by decide) hm_) | (with_reducible refine State.shapersAs_touch ?_ ?_ ) | (with_reducible refine State.updModes_touch ?_ ?_) | (with_reducible refine State.updQos_touch ?_ ?_) | (with_reducible refine ite_touch ?_ ?_) | (with_reducible refine id_touch ?_) | intro _ _ | intro _ | dsimp only | split)

theorem State.drivesAwake_touch {s : State} {m_ : Nat} {b_ : State} (hm_ : Nat.land 67371008 m_ = 67371008) (ht_ : Touch m_ b_ s) :
    Touch m_ b_ (State.drivesAwake s) := by
  unfold State.drivesAwake
  try dsimp only
  repeat' (first | with_reducible assumption | (exact sub_trans (by decide) hm_) | (with_reducible refine State.send_touch ?_ ?_ ) | (with_reducible refine State.updDrives_touch ?_ ?_) | (with_reducible refine foldl_touch ?_ ?_) | (with_reducible refine foldl_snd_touch ?_ ?_) | (with_reducible refine ite_touch ?_ ?_) | (with_reducible refine id_touch ?_) | intro _ _ | intro _ | dsimp only | split)

theorem State.psNow_touch {ps : Nat} {s : State} {m_ : Nat} {b_ : State} (hm_ : Nat.land 72813696 m_ = 72813696) (ht_ : Touch m_ b_ s) :
    Touch m_ b_ (State.psNow ps s) := by
  unfold State.psNow
  try dsimp only
  repeat' (first | with_reducible assumption | (exact sub_trans (by decide) hm_) | (with_reducible refine State.adminDone_touch ?_ ?_ ) | (with_reducible refine State.drivesAwake_touch ?_ ?_ ) | (with_reducible refine State.psEffects_touch ?_ ?_ ) | (with_reducible refine State.when_touch ?_ ?_) | (with_reducible refine foldl_touch ?_ ?_) | (with_reducible refine foldl_snd_touch ?_ ?_) | (with_reducible refine ite_touch ?_ ?_) | (with_reducible refine id_touch ?_) | intro _ _ | intro _ | dsimp only | split)

theorem State.recomputePs_touch {s : State} {m_ : Nat} {b_ : State} (hm_ : Nat.land 72813696 m_ = 72813696) (ht_ : Touch m_ b_ s) :
    Touch m_ b_ (State.recomputePs s) := by
  unfold State.recomputePs
  try dsimp only
  repeat' (first | with_reducible assumption | (exact sub_trans (by decide) hm_) | (with_reducible refine State.psNow_touch ?_ ?_ ) | (with_reducible refine State.updModes_touch ?_ ?_) | (with_reducible refine ite_touch ?_ ?_) | (with_reducible refine id_touch ?_) | intro _ _ | intro _ | dsimp only | split)

theorem State.ioVote_touch {cntlid : Nat} {s : State} {m_ : Nat} {b_ : State} (hm_ : Nat.land 72813696 m_ = 72813696) (ht_ : Touch m_ b_ s) :
    Touch m_ b_ (State.ioVote cntlid s) := by
  unfold State.ioVote
  try dsimp only
  repeat' (first | with_reducible assumption | (exact sub_trans (by decide) hm_) | (with_reducible refine State.recomputePs_touch ?_ ?_ ) | (with_reducible refine State.updFab_touch ?_ ?_ ) | (with_reducible refine State.updLocalPort_touch ?_ ?_) | (with_reducible refine ite_touch ?_ ?_) | (with_reducible refine id_touch ?_) | intro _ _ | intro _ | dsimp only | split)

theorem State.lpNvmeReset_touch {s : State} {m_ : Nat} {b_ : State} (hm_ : Nat.land 72813696 m_ = 72813696) (ht_ : Touch m_ b_ s) :
    Touch m_ b_ (State.lpNvmeReset s) := by
  unfold State.lpNvmeReset
  try dsimp only
  repeat' (first | with_reducible assumption | (exact sub_trans (by decide) hm_) | (with_reducible refine State.recomputePs_touch ?_ ?_ ) | (with_reducible refine State.updCmds_touch ?_ ?_) | (with_reducible refine State.updLocalPort_touch ?_ ?_) | (with_reducible refine ite_touch ?_ ?_) | (with_reducible refine id_touch ?_) | intro _ _ | intro _ | dsimp only | split)

theorem State.lpDrained_touch {s : State} {m_ : Nat} {b_ : State} (hm_ : Nat.land 72813696 m_ = 72813696) (ht_ : Touch m_ b_ s) :
    Touch m_ b_ (State.lpDrained s) := by
  unfold State.lpDrained
  try dsimp only
  repeat' (first | with_reducible assumption | (exact sub_trans (by decide) hm_) | (with_reducible refine State.lpNvmeReset_touch ?_ ?_ ) | (with_reducible refine State.updLocalPort_touch ?_ ?_) | (with_reducible refine ite_touch ?_ ?_) | (with_reducible refine id_touch ?_) | intro _ _ | intro _ | dsimp only | split)

theorem State.releaseSlot_touch {n : Nat} {s : State} {m_ : Nat} {b_ : State} (hm_ : Nat.land 72813696 m_ = 72813696) (ht_ : Touch m_ b_ s) :
    Touch m_ b_ (State.releaseSlot n s) := by
  unfold State.releaseSlot
  try dsimp only
  repeat' (first | with_reducible assumption | (exact sub_trans (by decide) hm_) | (with_reducible refine State.foxEnd_touch ?_ ?_ ) | (with_reducible refine State.lpDrained_touch ?_ ?_ ) | (with_reducible refine State.lpUsed_touch ?_ ?_ ) | (with_reducible refine State.putReplay_touch ?_ ?_ ) | (with_reducible refine State.settIfPaired_touch ?_ ?_ ) | (with_reducible refine State.settleCtx_touch ?_ ?_ ) | (with_reducible refine State.updCmds_touch ?_ ?_) | (with_reducible refine ite_touch ?_ ?_) | (with_reducible refine id_touch ?_) | intro _ _ | intro _ | dsimp only | split)

end Sys2Proof.Machine
end

