-- ==== Sys2Proof/Laws/TouchDriveOps.lean ====
section
/-! SUPPORT. What the operations of Machine/DriveOps.lean can change: one lemma for each. -/
namespace Sys2Proof.Machine
set_option linter.all false

theorem State.updDport_touch {n : Nat} {f : DrivePort → DrivePort} {s : State} {m_ : Nat} {b_ : State} (hm_ : Nat.land 262144 m_ = 262144) (ht_ : Touch m_ b_ s) :
    Touch m_ b_ (State.updDport n f s) := by
  unfold State.updDport
  try dsimp only
  repeat' (first | with_reducible assumption | (exact sub_trans (by decide) hm_) | (with_reducible refine State.updDrives_touch ?_ ?_) | (with_reducible refine ite_touch ?_ ?_) | (with_reducible refine id_touch ?_) | intro _ _ | intro _ | dsimp only | split)

theorem State.submitAs_touch {cls : Option Nat} {tenant : Nat} {c : DriveCmd} {s : State} {m_ : Nat} {b_ : State} (hm_ : Nat.land 65536 m_ = 65536) (ht_ : Touch m_ b_ s) :
    Touch m_ b_ (State.submitAs cls tenant c s) := by
  unfold State.submitAs
  try dsimp only
  repeat' (first | with_reducible assumption | (exact sub_trans (by decide) hm_) | (with_reducible refine State.enqueue_touch ?_ ?_ ) | (with_reducible refine State.updQos_touch ?_ ?_) | (with_reducible refine ite_touch ?_ ?_) | (with_reducible refine id_touch ?_) | intro _ _ | intro _ | dsimp only | split)

theorem State.submit_touch {tenant : Nat} {c : DriveCmd} {s : State} {m_ : Nat} {b_ : State} (hm_ : Nat.land 65536 m_ = 65536) (ht_ : Touch m_ b_ s) :
    Touch m_ b_ (State.submit tenant c s) := by
  unfold State.submit
  try dsimp only
  repeat' (first | with_reducible assumption | (exact sub_trans (by decide) hm_) | (with_reducible refine State.submitAs_touch ?_ ?_ ) | (with_reducible refine ite_touch ?_ ?_) | (with_reducible refine id_touch ?_) | intro _ _ | intro _ | dsimp only | split)

theorem State.submitRun_touch {cls : Option Nat} {tenant : Nat} {c : DriveCmd} {s : State} {m_ : Nat} {b_ : State} (hm_ : Nat.land 65536 m_ = 65536) (ht_ : Touch m_ b_ s) :
    Touch m_ b_ (State.submitRun cls tenant c s) := by
  unfold State.submitRun
  try dsimp only
  repeat' (first | with_reducible assumption | (exact sub_trans (by decide) hm_) | (with_reducible refine State.submitAs_touch ?_ ?_ ) | (with_reducible refine foldl_touch ?_ ?_) | (with_reducible refine foldl_snd_touch ?_ ?_) | (with_reducible refine ite_touch ?_ ?_) | (with_reducible refine id_touch ?_) | intro _ _ | intro _ | dsimp only | split)

theorem State.submitIssued_touch {cls : Nat} {it : QItem} {s : State} {m_ : Nat} {b_ : State} (hm_ : Nat.land 65536 m_ = 65536) (ht_ : Touch m_ b_ s) :
    Touch m_ b_ (State.submitIssued cls it s) := by
  unfold State.submitIssued
  try dsimp only
  repeat' (first | with_reducible assumption | (exact sub_trans (by decide) hm_) | (with_reducible refine State.enqueue_touch ?_ ?_ ) | (with_reducible refine ite_touch ?_ ?_) | (with_reducible refine id_touch ?_) | intro _ _ | intro _ | dsimp only | split)

theorem State.submitBack_touch {pool : Nat} {cls : Option Nat} {tenant : Nat} {c : DriveCmd} {s : State} {m_ : Nat} {b_ : State} (hm_ : Nat.land 65536 m_ = 65536) (ht_ : Touch m_ b_ s) :
    Touch m_ b_ (State.submitBack pool cls tenant c s) := by
  unfold State.submitBack
  try dsimp only
  repeat' (first | with_reducible assumption | (exact sub_trans (by decide) hm_) | (with_reducible refine State.enqueue_touch ?_ ?_ ) | (with_reducible refine State.updQos_touch ?_ ?_) | (with_reducible refine ite_touch ?_ ?_) | (with_reducible refine id_touch ?_) | intro _ _ | intro _ | dsimp only | split)

theorem State.visible_touch {c : DriveCmd} {background : Option Nat} {s : State} {m_ : Nat} {b_ : State} (hm_ : Nat.land 71565312 m_ = 71565312) (ht_ : Touch m_ b_ s) :
    Touch m_ b_ (State.visible c background s) := by
  unfold State.visible
  try dsimp only
  repeat' (first | with_reducible assumption | (exact sub_trans (by decide) hm_) | (with_reducible refine State.send_touch ?_ ?_ ) | (with_reducible refine State.stage_touch ?_ ?_ ) | (with_reducible refine State.updDport_touch ?_ ?_ ) | (with_reducible refine State.when_touch ?_ ?_) | (with_reducible refine ite_touch ?_ ?_) | (with_reducible refine id_touch ?_) | intro _ _ | intro _ | dsimp only | split)

theorem State.freeTagOf_touch {slot t : Nat} {s : State} {m_ : Nat} {b_ : State} (hm_ : Nat.land 262144 m_ = 262144) (ht_ : Touch m_ b_ s) :
    Touch m_ b_ (State.freeTagOf slot t s) := by
  unfold State.freeTagOf
  try dsimp only
  repeat' (first | with_reducible assumption | (exact sub_trans (by decide) hm_) | (with_reducible refine State.updDport_touch ?_ ?_ ) | (with_reducible refine ite_touch ?_ ?_) | (with_reducible refine id_touch ?_) | intro _ _ | intro _ | dsimp only | split)

theorem State.driveAdmin_touch {slot : Nat} {what : List Nat} {s : State} {m_ : Nat} {b_ : State} (hm_ : Nat.land 67108864 m_ = 67108864) (ht_ : Touch m_ b_ s) :
    Touch m_ b_ (State.driveAdmin slot what s) := by
  unfold State.driveAdmin
  try dsimp only
  repeat' (first | with_reducible assumption | (exact sub_trans (by decide) hm_) | (with_reducible refine State.send_touch ?_ ?_ ) | (with_reducible refine ite_touch ?_ ?_) | (with_reducible refine id_touch ?_) | intro _ _ | intro _ | dsimp only | split)

end Sys2Proof.Machine
end

