-- ==== Sys2Proof/Laws/TouchLayoutOps.lean ====
section
/-! SUPPORT. What the operations of Machine/LayoutOps.lean can change: one lemma for each. -/
namespace Sys2Proof.Machine
set_option linter.all false

theorem State.updPool_touch {n : Nat} {f : Pool → Pool} {s : State} {m_ : Nat} {b_ : State} (hm_ : Nat.land 8192 m_ = 8192) (ht_ : Touch m_ b_ s) :
    Touch m_ b_ (State.updPool n f s) := by
  unfold State.updPool
  try dsimp only
  repeat' (first | with_reducible assumption | (exact sub_trans (by decide) hm_) | (with_reducible refine State.updLayout_touch ?_ ?_) | (with_reducible refine ite_touch ?_ ?_) | (with_reducible refine id_touch ?_) | intro _ _ | intro _ | dsimp only | split)

theorem State.refreshPool_touch {n : Nat} {s : State} {m_ : Nat} {b_ : State} (hm_ : Nat.land 8192 m_ = 8192) (ht_ : Touch m_ b_ s) :
    Touch m_ b_ (State.refreshPool n s) := by
  unfold State.refreshPool
  try dsimp only
  repeat' (first | with_reducible assumption | (exact sub_trans (by decide) hm_) | (with_reducible refine State.updPool_touch ?_ ?_ ) | (with_reducible refine ite_touch ?_ ?_) | (with_reducible refine id_touch ?_) | intro _ _ | intro _ | dsimp only | split)

theorem State.relist_touch {n : Nat} {old s : State} {m_ : Nat} {b_ : State} (hm_ : Nat.land 4202496 m_ = 4202496) (ht_ : Touch m_ b_ s) :
    Touch m_ b_ (State.relist n old s) := by
  unfold State.relist
  try dsimp only
  repeat' (first | with_reducible assumption | (exact sub_trans (by decide) hm_) | (with_reducible refine State.refreshPool_touch ?_ ?_ ) | (with_reducible refine State.setCounter_touch ?_ ?_ ) | (with_reducible refine State.updPool_touch ?_ ?_ ) | (with_reducible refine ite_touch ?_ ?_) | (with_reducible refine id_touch ?_) | intro _ _ | intro _ | dsimp only | split)

theorem State.takeLock_touch {n stripe who : Nat} {s : State} {m_ : Nat} {b_ : State} (hm_ : Nat.land 8192 m_ = 8192) (ht_ : Touch m_ b_ s) :
    Touch m_ b_ (State.takeLock n stripe who s).2 := by
  unfold State.takeLock
  try dsimp only
  repeat' (first | with_reducible assumption | (exact sub_trans (by decide) hm_) | (with_reducible refine State.updLayout_touch ?_ ?_) | (with_reducible refine ite_touch ?_ ?_) | (with_reducible refine id_touch ?_) | intro _ _ | intro _ | dsimp only | split)

theorem State.freeLock_touch {n stripe : Nat} {s : State} {m_ : Nat} {b_ : State} (hm_ : Nat.land 8192 m_ = 8192) (ht_ : Touch m_ b_ s) :
    Touch m_ b_ (State.freeLock n stripe s) := by
  unfold State.freeLock
  try dsimp only
  repeat' (first | with_reducible assumption | (exact sub_trans (by decide) hm_) | (with_reducible refine State.updLayout_touch ?_ ?_) | (with_reducible refine ite_touch ?_ ?_) | (with_reducible refine id_touch ?_) | intro _ _ | intro _ | dsimp only | split)

theorem State.insertVersions_touch {vs : Tbl Version} {s : State} {m_ : Nat} {b_ : State} (hm_ : Nat.land 8192 m_ = 8192) (ht_ : Touch m_ b_ s) :
    Touch m_ b_ (State.insertVersions vs s) := by
  unfold State.insertVersions
  try dsimp only
  repeat' (first | with_reducible assumption | (exact sub_trans (by decide) hm_) | (with_reducible refine State.updLayout_touch ?_ ?_) | (with_reducible refine foldl_touch ?_ ?_) | (with_reducible refine foldl_snd_touch ?_ ?_) | (with_reducible refine ite_touch ?_ ?_) | (with_reducible refine id_touch ?_) | intro _ _ | intro _ | dsimp only | split)

theorem State.rule3Update_touch {s : State} {m_ : Nat} {b_ : State} (hm_ : Nat.land 8192 m_ = 8192) (ht_ : Touch m_ b_ s) :
    Touch m_ b_ (State.rule3Update s) := by
  unfold State.rule3Update
  try dsimp only
  repeat' (first | with_reducible assumption | (exact sub_trans (by decide) hm_) | (with_reducible refine State.updLayout_touch ?_ ?_) | (with_reducible refine ite_touch ?_ ?_) | (with_reducible refine id_touch ?_) | intro _ _ | intro _ | dsimp only | split)

theorem State.flushReleases_touch {s : State} {m_ : Nat} {b_ : State} (hm_ : Nat.land 67248128 m_ = 67248128) (ht_ : Touch m_ b_ s) :
    Touch m_ b_ (State.flushReleases s) := by
  unfold State.flushReleases
  try dsimp only
  repeat' (first | with_reducible assumption | (exact sub_trans (by decide) hm_) | (with_reducible refine State.settSend_touch ?_ ?_ ) | (with_reducible refine State.updLayout_touch ?_ ?_) | (with_reducible refine ite_touch ?_ ?_) | (with_reducible refine id_touch ?_) | intro _ _ | intro _ | dsimp only | split)

theorem State.releaseVersions_touch {slots : List Nat} {s : State} {m_ : Nat} {b_ : State} (hm_ : Nat.land 71442432 m_ = 71442432) (ht_ : Touch m_ b_ s) :
    Touch m_ b_ (State.releaseVersions slots s) := by
  unfold State.releaseVersions
  try dsimp only
  repeat' (first | with_reducible assumption | (exact sub_trans (by decide) hm_) | (with_reducible refine State.flushReleases_touch ?_ ?_ ) | (with_reducible refine State.foxStamp_touch ?_ ?_ ) | (with_reducible refine State.when_touch ?_ ?_) | (with_reducible refine State.updLayout_touch ?_ ?_) | (with_reducible refine foldl_touch ?_ ?_) | (with_reducible refine foldl_snd_touch ?_ ?_) | (with_reducible refine ite_touch ?_ ?_) | (with_reducible refine id_touch ?_) | intro _ _ | intro _ | dsimp only | split)

theorem State.journalData_touch {n : Nat} {r0 : JRec} {data : Nat} {s : State} {m_ : Nat} {b_ : State} (hm_ : Nat.land 71507968 m_ = 71507968) (ht_ : Touch m_ b_ s) :
    Touch m_ b_ (State.journalData n r0 data s) := by
  unfold State.journalData
  try dsimp only
  repeat' (first | with_reducible assumption | (exact sub_trans (by decide) hm_) | (with_reducible refine State.bump_touch ?_ ?_ ) | (with_reducible refine State.settIfPaired_touch ?_ ?_ ) | (with_reducible refine State.submit_touch ?_ ?_ ) | (with_reducible refine State.updPool_touch ?_ ?_ ) | (with_reducible refine foldl_touch ?_ ?_) | (with_reducible refine foldl_snd_touch ?_ ?_) | (with_reducible refine ite_touch ?_ ?_) | (with_reducible refine id_touch ?_) | intro _ _ | intro _ | dsimp only | split)

theorem State.journal_touch {n : Nat} {r0 : JRec} {s : State} {m_ : Nat} {b_ : State} (hm_ : Nat.land 71507968 m_ = 71507968) (ht_ : Touch m_ b_ s) :
    Touch m_ b_ (State.journal n r0 s) := by
  unfold State.journal
  try dsimp only
  repeat' (first | with_reducible assumption | (exact sub_trans (by decide) hm_) | (with_reducible refine State.journalData_touch ?_ ?_ ) | (with_reducible refine ite_touch ?_ ?_) | (with_reducible refine id_touch ?_) | intro _ _ | intro _ | dsimp only | split)

theorem State.journalHeader_touch {n : Nat} {clean : Bool} {s : State} {m_ : Nat} {b_ : State} (hm_ : Nat.land 71507968 m_ = 71507968) (ht_ : Touch m_ b_ s) :
    Touch m_ b_ (State.journalHeader n clean s) := by
  unfold State.journalHeader
  try dsimp only
  repeat' (first | with_reducible assumption | (exact sub_trans (by decide) hm_) | (with_reducible refine State.journal_touch ?_ ?_ ) | (with_reducible refine State.submitRun_touch ?_ ?_ ) | (with_reducible refine State.updPool_touch ?_ ?_ ) | (with_reducible refine foldl_touch ?_ ?_) | (with_reducible refine foldl_snd_touch ?_ ?_) | (with_reducible refine ite_touch ?_ ?_) | (with_reducible refine id_touch ?_) | intro _ _ | intro _ | dsimp only | split)

theorem State.headerDue_touch {n : Nat} {s : State} {m_ : Nat} {b_ : State} (hm_ : Nat.land 71507968 m_ = 71507968) (ht_ : Touch m_ b_ s) :
    Touch m_ b_ (State.headerDue n s) := by
  unfold State.headerDue
  try dsimp only
  repeat' (first | with_reducible assumption | (exact sub_trans (by decide) hm_) | (with_reducible refine State.journalHeader_touch ?_ ?_ ) | (with_reducible refine State.when_touch ?_ ?_) | (with_reducible refine ite_touch ?_ ?_) | (with_reducible refine id_touch ?_) | intro _ _ | intro _ | dsimp only | split)

theorem State.bitmapSet_touch {n row : Nat} {s : State} {m_ : Nat} {b_ : State} (hm_ : Nat.land 71507968 m_ = 71507968) (ht_ : Touch m_ b_ s) :
    Touch m_ b_ (State.bitmapSet n row s) := by
  unfold State.bitmapSet
  try dsimp only
  repeat' (first | with_reducible assumption | (exact sub_trans (by decide) hm_) | (with_reducible refine State.bump_touch ?_ ?_ ) | (with_reducible refine State.journal_touch ?_ ?_ ) | (with_reducible refine State.updPool_touch ?_ ?_ ) | (with_reducible refine ite_touch ?_ ?_) | (with_reducible refine id_touch ?_) | intro _ _ | intro _ | dsimp only | split)

theorem State.enterLost_touch {n h blk : Nat} {s : State} {m_ : Nat} {b_ : State} (hm_ : Nat.land 73408512 m_ = 73408512) (ht_ : Touch m_ b_ s) :
    Touch m_ b_ (State.enterLost n h blk s) := by
  unfold State.enterLost
  try dsimp only
  repeat' (first | with_reducible assumption | (exact sub_trans (by decide) hm_) | (with_reducible refine State.bump_touch ?_ ?_ ) | (with_reducible refine State.raise_touch ?_ ?_ ) | (with_reducible refine State.updLayout_touch ?_ ?_) | (with_reducible refine ite_touch ?_ ?_) | (with_reducible refine id_touch ?_) | intro _ _ | intro _ | dsimp only | split)

theorem State.markHot_touch {n group : Nat} {s : State} {m_ : Nat} {b_ : State} (hm_ : Nat.land 4202496 m_ = 4202496) (ht_ : Touch m_ b_ s) :
    Touch m_ b_ (State.markHot n group s) := by
  unfold State.markHot
  try dsimp only
  repeat' (first | with_reducible assumption | (exact sub_trans (by decide) hm_) | (with_reducible refine State.bump_touch ?_ ?_ ) | (with_reducible refine State.updPool_touch ?_ ?_ ) | (with_reducible refine ite_touch ?_ ?_) | (with_reducible refine id_touch ?_) | intro _ _ | intro _ | dsimp only | split)

end Sys2Proof.Machine
end

