-- ==== Sys2Proof/Laws/TouchCipherOps.lean ====
section
/-! SUPPORT. What the operations of Machine/CipherOps.lean can change: one lemma for each. -/
namespace Sys2Proof.Machine
set_option linter.all false

theorem State.countPi_touch {h st : Nat} {out : Bool} {s : State} {m_ : Nat} {b_ : State} (hm_ : Nat.land 4194304 m_ = 4194304) (ht_ : Touch m_ b_ s) :
    Touch m_ b_ (State.countPi h st out s) := by
  unfold State.countPi
  try dsimp only
  repeat' (first | with_reducible assumption | (exact sub_trans (by decide) hm_) | (with_reducible refine State.bump_touch ?_ ?_ ) | (with_reducible refine ite_touch ?_ ?_) | (with_reducible refine id_touch ?_) | intro _ _ | intro _ | dsimp only | split)

theorem State.updGen_touch {h g : Nat} {f : KeyGen → KeyGen} {s : State} {m_ : Nat} {b_ : State} (hm_ : Nat.land 16384 m_ = 16384) (ht_ : Touch m_ b_ s) :
    Touch m_ b_ (State.updGen h g f s) := by
  unfold State.updGen
  try dsimp only
  repeat' (first | with_reducible assumption | (exact sub_trans (by decide) hm_) | (with_reducible refine State.updNs_touch ?_ ?_ ) | (with_reducible refine ite_touch ?_ ?_) | (with_reducible refine id_touch ?_) | intro _ _ | intro _ | dsimp only | split)

theorem State.applyActivate_touch {h g : Nat} {s : State} {m_ : Nat} {b_ : State} (hm_ : Nat.land 4210688 m_ = 4210688) (ht_ : Touch m_ b_ s) :
    Touch m_ b_ (State.applyActivate h g s) := by
  unfold State.applyActivate
  try dsimp only
  repeat' (first | with_reducible assumption | (exact sub_trans (by decide) hm_) | (with_reducible refine State.bump_touch ?_ ?_ ) | (with_reducible refine State.updNs_touch ?_ ?_ ) | (with_reducible refine ite_touch ?_ ?_) | (with_reducible refine id_touch ?_) | intro _ _ | intro _ | dsimp only | split)

theorem State.activate_touch {h g : Nat} {s : State} {m_ : Nat} {b_ : State} (hm_ : Nat.land 71450624 m_ = 71450624) (ht_ : Touch m_ b_ s) :
    Touch m_ b_ (State.activate h g s) := by
  unfold State.activate
  try dsimp only
  repeat' (first | with_reducible assumption | (exact sub_trans (by decide) hm_) | (with_reducible refine State.applyActivate_touch ?_ ?_ ) | (with_reducible refine State.settIfPaired_touch ?_ ?_ ) | (with_reducible refine ite_touch ?_ ?_) | (with_reducible refine id_touch ?_) | intro _ _ | intro _ | dsimp only | split)

theorem State.exhaust_touch {h g : Nat} {s : State} {m_ : Nat} {b_ : State} (hm_ : Nat.land 71450624 m_ = 71450624) (ht_ : Touch m_ b_ s) :
    Touch m_ b_ (State.exhaust h g s) := by
  unfold State.exhaust
  try dsimp only
  repeat' (first | with_reducible assumption | (exact sub_trans (by decide) hm_) | (with_reducible refine State.activate_touch ?_ ?_ ) | (with_reducible refine State.settIfPaired_touch ?_ ?_ ) | (with_reducible refine State.updGen_touch ?_ ?_ ) | (with_reducible refine ite_touch ?_ ?_) | (with_reducible refine id_touch ?_) | intro _ _ | intro _ | dsimp only | split)

theorem State.activeGen_touch {h : Nat} {s : State} {m_ : Nat} {b_ : State} (hm_ : Nat.land 71450624 m_ = 71450624) (ht_ : Touch m_ b_ s) :
    Touch m_ b_ (State.activeGen h s).2 := by
  unfold State.activeGen
  try dsimp only
  repeat' (first | with_reducible assumption | (exact sub_trans (by decide) hm_) | (with_reducible refine State.exhaust_touch ?_ ?_ ) | (with_reducible refine ite_touch ?_ ?_) | (with_reducible refine id_touch ?_) | intro _ _ | intro _ | dsimp only | split)

theorem State.touchKey_touch {h g : Nat} {s : State} {m_ : Nat} {b_ : State} (hm_ : Nat.land 32768 m_ = 32768) (ht_ : Touch m_ b_ s) :
    Touch m_ b_ (State.touchKey h g s) := by
  unfold State.touchKey
  try dsimp only
  repeat' (first | with_reducible assumption | (exact sub_trans (by decide) hm_) | (with_reducible refine State.updEnclave_touch ?_ ?_) | (with_reducible refine ite_touch ?_ ?_) | (with_reducible refine id_touch ?_) | intro _ _ | intro _ | dsimp only | split)

theorem State.askKey_touch {h g : Nat} {s : State} {m_ : Nat} {b_ : State} (hm_ : Nat.land 4227072 m_ = 4227072) (ht_ : Touch m_ b_ s) :
    Touch m_ b_ (State.askKey h g s) := by
  unfold State.askKey
  try dsimp only
  repeat' (first | with_reducible assumption | (exact sub_trans (by decide) hm_) | (with_reducible refine State.bump_touch ?_ ?_ ) | (with_reducible refine State.updEnclave_touch ?_ ?_) | (with_reducible refine ite_touch ?_ ?_) | (with_reducible refine id_touch ?_) | intro _ _ | intro _ | dsimp only | split)

theorem State.dirWrite_touch {h g : Nat} {s : State} {m_ : Nat} {b_ : State} (hm_ : Nat.land 65536 m_ = 65536) (ht_ : Touch m_ b_ s) :
    Touch m_ b_ (State.dirWrite h g s) := by
  unfold State.dirWrite
  try dsimp only
  repeat' (first | with_reducible assumption | (exact sub_trans (by decide) hm_) | (with_reducible refine State.submit_touch ?_ ?_ ) | (with_reducible refine foldl_touch ?_ ?_) | (with_reducible refine foldl_snd_touch ?_ ?_) | (with_reducible refine ite_touch ?_ ?_) | (with_reducible refine id_touch ?_) | intro _ _ | intro _ | dsimp only | split)

theorem State.askStep_touch {h g : Nat} {s : State} {m_ : Nat} {b_ : State} (hm_ : Nat.land 81920 m_ = 81920) (ht_ : Touch m_ b_ s) :
    Touch m_ b_ (State.askStep h g s) := by
  unfold State.askStep
  try dsimp only
  repeat' (first | with_reducible assumption | (exact sub_trans (by decide) hm_) | (with_reducible refine State.dirWrite_touch ?_ ?_ ) | (with_reducible refine State.updGen_touch ?_ ?_ ) | (with_reducible refine ite_touch ?_ ?_) | (with_reducible refine id_touch ?_) | intro _ _ | intro _ | dsimp only | split)

theorem State.warn_touch {h g : Nat} {s : State} {m_ : Nat} {b_ : State} (hm_ : Nat.land 73547776 m_ = 73547776) (ht_ : Touch m_ b_ s) :
    Touch m_ b_ (State.warn h g s) := by
  unfold State.warn
  try dsimp only
  repeat' (first | with_reducible assumption | (exact sub_trans (by decide) hm_) | (with_reducible refine State.activate_touch ?_ ?_ ) | (with_reducible refine State.raise_touch ?_ ?_ ) | (with_reducible refine State.updGen_touch ?_ ?_ ) | (with_reducible refine ite_touch ?_ ?_) | (with_reducible refine id_touch ?_) | intro _ _ | intro _ | dsimp only | split)

theorem State.takeCtr_touch {h : Nat} {s : State} {m_ : Nat} {b_ : State} (hm_ : Nat.land 73646080 m_ = 73646080) (ht_ : Touch m_ b_ s) :
    Touch m_ b_ (State.takeCtr h s).2 := by
  unfold State.takeCtr
  try dsimp only
  repeat' (first | with_reducible assumption | (exact sub_trans (by decide) hm_) | (with_reducible refine State.activeGen_touch ?_ ?_ ) | (refine snd_touch (by with_reducible assumption) (State.activeGen_touch ?_ ?_ )) | (with_reducible refine State.askKey_touch ?_ ?_ ) | (with_reducible refine State.askStep_touch ?_ ?_ ) | (with_reducible refine State.exhaust_touch ?_ ?_ ) | (with_reducible refine State.touchKey_touch ?_ ?_ ) | (with_reducible refine State.updGen_touch ?_ ?_ ) | (with_reducible refine State.warn_touch ?_ ?_ ) | (with_reducible refine ite_touch ?_ ?_) | (with_reducible refine id_touch ?_) | intro _ _ | intro _ | dsimp only | split)

theorem State.countCheck_touch {h blk : Nat} {r : ReadRes} {b : Bytes} {s : State} {m_ : Nat} {b_ : State} (hm_ : Nat.land 4194304 m_ = 4194304) (ht_ : Touch m_ b_ s) :
    Touch m_ b_ (State.countCheck h blk r b s) := by
  unfold State.countCheck
  try dsimp only
  repeat' (first | with_reducible assumption | (exact sub_trans (by decide) hm_) | (with_reducible refine State.bump_touch ?_ ?_ ) | (with_reducible refine ite_touch ?_ ?_) | (with_reducible refine id_touch ?_) | intro _ _ | intro _ | dsimp only | split)

end Sys2Proof.Machine
end

