-- ==== Sys2Proof/Laws/TouchConsOps.lean ====
section
/-! SUPPORT. What the operations of Machine/ConsOps.lean can change: one lemma for each. -/
namespace Sys2Proof.Machine
set_option linter.all false

theorem State.updExtent_touch {rec : Nat} {f : Extent → Extent} {s : State} {m_ : Nat} {b_ : State} (hm_ : Nat.land 4096 m_ = 4096) (ht_ : Touch m_ b_ s) :
    Touch m_ b_ (State.updExtent rec f s) := by
  unfold State.updExtent
  try dsimp only
  repeat' (first | with_reducible assumption | (exact sub_trans (by decide) hm_) | (with_reducible refine State.updCons_touch ?_ ?_) | (with_reducible refine ite_touch ?_ ?_) | (with_reducible refine id_touch ?_) | intro _ _ | intro _ | dsimp only | split)

theorem State.applyEpoch_touch {e : Nat} {s : State} {m_ : Nat} {b_ : State} (hm_ : Nat.land 71512064 m_ = 71512064) (ht_ : Touch m_ b_ s) :
    Touch m_ b_ (State.applyEpoch e s) := by
  unfold State.applyEpoch
  try dsimp only
  repeat' (first | with_reducible assumption | (exact sub_trans (by decide) hm_) | (with_reducible refine State.bump_touch ?_ ?_ ) | (with_reducible refine State.journalHeader_touch ?_ ?_ ) | (with_reducible refine State.updCons_touch ?_ ?_) | (with_reducible refine foldl_touch ?_ ?_) | (with_reducible refine foldl_snd_touch ?_ ?_) | (with_reducible refine ite_touch ?_ ?_) | (with_reducible refine id_touch ?_) | intro _ _ | intro _ | dsimp only | split)

theorem State.raiseEpoch_touch {s : State} {m_ : Nat} {b_ : State} (hm_ : Nat.land 71512064 m_ = 71512064) (ht_ : Touch m_ b_ s) :
    Touch m_ b_ (State.raiseEpoch s) := by
  unfold State.raiseEpoch
  try dsimp only
  repeat' (first | with_reducible assumption | (exact sub_trans (by decide) hm_) | (with_reducible refine State.applyEpoch_touch ?_ ?_ ) | (with_reducible refine State.settIfPaired_touch ?_ ?_ ) | (with_reducible refine ite_touch ?_ ?_) | (with_reducible refine id_touch ?_) | intro _ _ | intro _ | dsimp only | split)

theorem State.issueStamp_touch {rec h : Nat} {s : State} {m_ : Nat} {b_ : State} (hm_ : Nat.land 71512064 m_ = 71512064) (ht_ : Touch m_ b_ s) :
    Touch m_ b_ (State.issueStamp rec h s).2 := by
  unfold State.issueStamp
  try dsimp only
  repeat' (first | with_reducible assumption | (exact sub_trans (by decide) hm_) | (with_reducible refine State.bump_touch ?_ ?_ ) | (with_reducible refine State.raiseEpoch_touch ?_ ?_ ) | (with_reducible refine State.updExtent_touch ?_ ?_ ) | (with_reducible refine ite_touch ?_ ?_) | (with_reducible refine id_touch ?_) | intro _ _ | intro _ | dsimp only | split)

theorem State.addOvl_touch {e : OvlEntry} {s : State} {m_ : Nat} {b_ : State} (hm_ : Nat.land 4096 m_ = 4096) (ht_ : Touch m_ b_ s) :
    Touch m_ b_ (State.addOvl e s) := by
  unfold State.addOvl
  try dsimp only
  repeat' (first | with_reducible assumption | (exact sub_trans (by decide) hm_) | (with_reducible refine State.updCons_touch ?_ ?_) | (with_reducible refine ite_touch ?_ ?_) | (with_reducible refine id_touch ?_) | intro _ _ | intro _ | dsimp only | split)

theorem State.enterPart_touch {kind slot holder h : Nat} {stamp : BitVec 64} {first n : Nat} {partials : List Nat} {crossing : Bool} {s : State} {m_ : Nat} {b_ : State} (hm_ : Nat.land 4096 m_ = 4096) (ht_ : Touch m_ b_ s) :
    Touch m_ b_ (State.enterPart kind slot holder h stamp first n partials crossing s).2 := by
  unfold State.enterPart
  try dsimp only
  repeat' (first | with_reducible assumption | (exact sub_trans (by decide) hm_) | (with_reducible refine State.addOvl_touch ?_ ?_ ) | (with_reducible refine foldl_touch ?_ ?_) | (with_reducible refine foldl_snd_touch ?_ ?_) | (with_reducible refine ite_touch ?_ ?_) | (with_reducible refine id_touch ?_) | intro _ _ | intro _ | dsimp only | split)

theorem State.countWait_touch {kind h waits : Nat} {s : State} {m_ : Nat} {b_ : State} (hm_ : Nat.land 4194304 m_ = 4194304) (ht_ : Touch m_ b_ s) :
    Touch m_ b_ (State.countWait kind h waits s) := by
  unfold State.countWait
  try dsimp only
  repeat' (first | with_reducible assumption | (exact sub_trans (by decide) hm_) | (with_reducible refine State.bump_touch ?_ ?_ ) | (with_reducible refine State.when_touch ?_ ?_) | (with_reducible refine ite_touch ?_ ?_) | (with_reducible refine id_touch ?_) | intro _ _ | intro _ | dsimp only | split)

theorem State.sendStampRecord_touch {n : Nat} {s : State} {m_ : Nat} {b_ : State} (hm_ : Nat.land 67243008 m_ = 67243008) (ht_ : Touch m_ b_ s) :
    Touch m_ b_ (State.sendStampRecord n s) := by
  unfold State.sendStampRecord
  try dsimp only
  repeat' (first | with_reducible assumption | (exact sub_trans (by decide) hm_) | (with_reducible refine State.plan_touch ?_ ?_ ) | (with_reducible refine State.settSend_touch ?_ ?_ ) | (with_reducible refine State.updSlot_touch ?_ ?_ ) | (with_reducible refine State.when_touch ?_ ?_) | (with_reducible refine ite_touch ?_ ?_) | (with_reducible refine id_touch ?_) | intro _ _ | intro _ | dsimp only | split)

theorem State.giveStamp_touch {n : Nat} {stamp : BitVec 64} {owner waits : Nat} {s : State} {m_ : Nat} {b_ : State} (hm_ : Nat.land 71437312 m_ = 71437312) (ht_ : Touch m_ b_ s) :
    Touch m_ b_ (State.giveStamp n stamp owner waits s) := by
  unfold State.giveStamp
  try dsimp only
  repeat' (first | with_reducible assumption | (exact sub_trans (by decide) hm_) | (with_reducible refine State.sendStampRecord_touch ?_ ?_ ) | (with_reducible refine State.stage_touch ?_ ?_ ) | (with_reducible refine State.updSlot_touch ?_ ?_ ) | (with_reducible refine State.when_touch ?_ ?_) | (with_reducible refine ite_touch ?_ ?_) | (with_reducible refine id_touch ?_) | intro _ _ | intro _ | dsimp only | split)

theorem State.goCheck_touch {n : Nat} {s : State} {m_ : Nat} {b_ : State} (hm_ : Nat.land 4196352 m_ = 4196352) (ht_ : Touch m_ b_ s) :
    Touch m_ b_ (State.goCheck n s) := by
  unfold State.goCheck
  try dsimp only
  repeat' (first | with_reducible assumption | (exact sub_trans (by decide) hm_) | (with_reducible refine State.stage_touch ?_ ?_ ) | (with_reducible refine State.updSlot_touch ?_ ?_ ) | (with_reducible refine ite_touch ?_ ?_) | (with_reducible refine id_touch ?_) | intro _ _ | intro _ | dsimp only | split)

theorem State.sendGo_touch {slot holder part : Nat} {s : State} {m_ : Nat} {b_ : State} (hm_ : Nat.land 71436288 m_ = 71436288) (ht_ : Touch m_ b_ s) :
    Touch m_ b_ (State.sendGo slot holder part s) := by
  unfold State.sendGo
  try dsimp only
  repeat' (first | with_reducible assumption | (exact sub_trans (by decide) hm_) | (with_reducible refine State.goCheck_touch ?_ ?_ ) | (with_reducible refine State.settSend_touch ?_ ?_ ) | (with_reducible refine State.updSlot_touch ?_ ?_ ) | (with_reducible refine ite_touch ?_ ?_) | (with_reducible refine id_touch ?_) | intro _ _ | intro _ | dsimp only | split)

theorem State.tellStamp_touch {slot holder : Nat} {stamp : BitVec 64} {waits part blocks : Nat} {s : State} {m_ : Nat} {b_ : State} (hm_ : Nat.land 71445504 m_ = 71445504) (ht_ : Touch m_ b_ s) :
    Touch m_ b_ (State.tellStamp slot holder stamp waits part blocks s) := by
  unfold State.tellStamp
  try dsimp only
  repeat' (first | with_reducible assumption | (exact sub_trans (by decide) hm_) | (with_reducible refine State.giveStamp_touch ?_ ?_ ) | (with_reducible refine State.goCheck_touch ?_ ?_ ) | (with_reducible refine State.settSend_touch ?_ ?_ ) | (with_reducible refine State.updLayout_touch ?_ ?_) | (with_reducible refine ite_touch ?_ ?_) | (with_reducible refine id_touch ?_) | intro _ _ | intro _ | dsimp only | split)

theorem State.admitBoth_touch {lo up : Nat} {r : StampReq} {s : State} {m_ : Nat} {b_ : State} (hm_ : Nat.land 71515136 m_ = 71515136) (ht_ : Touch m_ b_ s) :
    Touch m_ b_ (State.admitBoth lo up r s) := by
  unfold State.admitBoth
  try dsimp only
  repeat' (first | with_reducible assumption | (exact sub_trans (by decide) hm_) | (with_reducible refine State.bump_touch ?_ ?_ ) | (with_reducible refine State.countWait_touch ?_ ?_ ) | (with_reducible refine State.enterPart_touch ?_ ?_ ) | (refine snd_touch (by with_reducible assumption) (State.enterPart_touch ?_ ?_ )) | (with_reducible refine State.issueStamp_touch ?_ ?_ ) | (refine snd_touch (by with_reducible assumption) (State.issueStamp_touch ?_ ?_ )) | (with_reducible refine State.tellStamp_touch ?_ ?_ ) | (with_reducible refine State.updExtent_touch ?_ ?_ ) | (with_reducible refine foldl_touch ?_ ?_) | (with_reducible refine foldl_snd_touch ?_ ?_) | (with_reducible refine ite_touch ?_ ?_) | (with_reducible refine id_touch ?_) | intro _ _ | intro _ | dsimp only | split)

theorem State.admitOne_touch {rec : Nat} {r : StampReq} {first n : Nat} {partials : List Nat} {s : State} {m_ : Nat} {b_ : State} (hm_ : Nat.land 71515136 m_ = 71515136) (ht_ : Touch m_ b_ s) :
    Touch m_ b_ (State.admitOne rec r first n partials s) := by
  unfold State.admitOne
  try dsimp only
  repeat' (first | with_reducible assumption | (exact sub_trans (by decide) hm_) | (with_reducible refine State.countWait_touch ?_ ?_ ) | (with_reducible refine State.enterPart_touch ?_ ?_ ) | (refine snd_touch (by with_reducible assumption) (State.enterPart_touch ?_ ?_ )) | (with_reducible refine State.issueStamp_touch ?_ ?_ ) | (refine snd_touch (by with_reducible assumption) (State.issueStamp_touch ?_ ?_ )) | (with_reducible refine State.tellStamp_touch ?_ ?_ ) | (with_reducible refine ite_touch ?_ ?_) | (with_reducible refine id_touch ?_) | intro _ _ | intro _ | dsimp only | split)

theorem State.reserveUpper_touch {rec : Nat} {r : StampReq} {s : State} {m_ : Nat} {b_ : State} (hm_ : Nat.land 67244032 m_ = 67244032) (ht_ : Touch m_ b_ s) :
    Touch m_ b_ (State.reserveUpper rec r s) := by
  unfold State.reserveUpper
  try dsimp only
  repeat' (first | with_reducible assumption | (exact sub_trans (by decide) hm_) | (with_reducible refine State.addOvl_touch ?_ ?_ ) | (with_reducible refine State.settSend_touch ?_ ?_ ) | (with_reducible refine State.updExtent_touch ?_ ?_ ) | (with_reducible refine ite_touch ?_ ?_) | (with_reducible refine id_touch ?_) | intro _ _ | intro _ | dsimp only | split)

theorem State.admitReq_touch {rec : Nat} {r : StampReq} {s : State} {m_ : Nat} {b_ : State} (hm_ : Nat.land 71515136 m_ = 71515136) (ht_ : Touch m_ b_ s) (t_ : State) (h_ : State.admitReq rec r s = some t_) :
    Touch m_ b_ t_ := by
  unfold State.admitReq at h_
  repeat' (first | (obtain rfl := Option.some.inj h_; clear h_) | (cases h_; done) | dsimp only at h_ | split at h_)
  all_goals try dsimp only
  repeat' (first | with_reducible assumption | (exact sub_trans (by decide) hm_) | (with_reducible refine State.admitBoth_touch ?_ ?_ ) | (with_reducible refine State.admitOne_touch ?_ ?_ ) | (with_reducible refine State.reserveUpper_touch ?_ ?_ ) | (with_reducible refine State.settSend_touch ?_ ?_ ) | (with_reducible refine State.updExtent_touch ?_ ?_ ) | (with_reducible refine ite_touch ?_ ?_) | (with_reducible refine id_touch ?_) | intro _ _ | intro _ | dsimp only | split)

theorem State.request_touch {rec : Nat} {r : StampReq} {s : State} {m_ : Nat} {b_ : State} (hm_ : Nat.land 71515136 m_ = 71515136) (ht_ : Touch m_ b_ s) :
    Touch m_ b_ (State.request rec r s) := by
  unfold State.request
  try dsimp only
  repeat' (first | with_reducible assumption | (exact sub_trans (by decide) hm_) | (refine State.admitReq_touch ?_ ?_ _ (by with_reducible assumption)) | (with_reducible refine State.bump_touch ?_ ?_ ) | (with_reducible refine State.updExtent_touch ?_ ?_ ) | (with_reducible refine State.when_touch ?_ ?_) | (with_reducible refine ite_touch ?_ ?_) | (with_reducible refine id_touch ?_) | intro _ _ | intro _ | dsimp only | split)

theorem State.drainHeld_touch {rec : Nat} {k_ : Nat} {s : State} {m_ : Nat} {b_ : State} (hm_ : Nat.land 71515136 m_ = 71515136) (ht_ : Touch m_ b_ s) :
    Touch m_ b_ (State.drainHeld rec k_ s) := by
  induction k_ generalizing s with
  | zero => exact ht_
  | succ k_ ih_ =>
    unfold State.drainHeld
    try dsimp only
    repeat' (first | with_reducible assumption | (with_reducible refine ih_ ?_) | (exact sub_trans (by decide) hm_) | (refine State.admitReq_touch ?_ ?_ _ (by with_reducible assumption)) | (with_reducible refine State.updExtent_touch ?_ ?_ ) | (with_reducible refine ite_touch ?_ ?_) | (with_reducible refine id_touch ?_) | intro _ _ | intro _ | dsimp only | split)

theorem State.drainAll_touch {s : State} {m_ : Nat} {b_ : State} (hm_ : Nat.land 71515136 m_ = 71515136) (ht_ : Touch m_ b_ s) :
    Touch m_ b_ (State.drainAll s) := by
  unfold State.drainAll
  try dsimp only
  repeat' (first | with_reducible assumption | (exact sub_trans (by decide) hm_) | (with_reducible refine State.drainHeld_touch ?_ ?_ ) | (with_reducible refine foldl_touch ?_ ?_) | (with_reducible refine foldl_snd_touch ?_ ?_) | (with_reducible refine ite_touch ?_ ?_) | (with_reducible refine id_touch ?_) | intro _ _ | intro _ | dsimp only | split)

theorem State.stageFive_touch {n : Nat} {slba nlb : Nat} {s : State} {m_ : Nat} {b_ : State} (hm_ : Nat.land 71515136 m_ = 71515136) (ht_ : Touch m_ b_ s) :
    Touch m_ b_ (State.stageFive n slba nlb s) := by
  unfold State.stageFive
  try dsimp only
  repeat' (first | with_reducible assumption | (exact sub_trans (by decide) hm_) | (with_reducible refine State.bump_touch ?_ ?_ ) | (with_reducible refine State.request_touch ?_ ?_ ) | (with_reducible refine State.settSend_touch ?_ ?_ ) | (with_reducible refine State.updSlot_touch ?_ ?_ ) | (with_reducible refine ite_touch ?_ ?_) | (with_reducible refine id_touch ?_) | intro _ _ | intro _ | dsimp only | split)

theorem State.foldWrite_touch {k : Nat} {e : OvlEntry} {s : State} {m_ : Nat} {b_ : State} (hm_ : Nat.land 4096 m_ = 4096) (ht_ : Touch m_ b_ s) :
    Touch m_ b_ (State.foldWrite k e s) := by
  unfold State.foldWrite
  try dsimp only
  repeat' (first | with_reducible assumption | (exact sub_trans (by decide) hm_) | (with_reducible refine State.updCons_touch ?_ ?_) | (with_reducible refine ite_touch ?_ ?_) | (with_reducible refine id_touch ?_) | intro _ _ | intro _ | dsimp only | split)

theorem State.placedOvl_touch {slot holder : Nat} {stamp : BitVec 64} {retired : Bool} {s : State} {m_ : Nat} {b_ : State} (hm_ : Nat.land 71515136 m_ = 71515136) (ht_ : Touch m_ b_ s) :
    Touch m_ b_ (State.placedOvl slot holder stamp retired s) := by
  unfold State.placedOvl
  try dsimp only
  repeat' (first | with_reducible assumption | (exact sub_trans (by decide) hm_) | (with_reducible refine State.drainAll_touch ?_ ?_ ) | (with_reducible refine State.foldWrite_touch ?_ ?_ ) | (with_reducible refine State.sendGo_touch ?_ ?_ ) | (with_reducible refine State.updCons_touch ?_ ?_) | (with_reducible refine foldl_touch ?_ ?_) | (with_reducible refine foldl_snd_touch ?_ ?_) | (with_reducible refine ite_touch ?_ ?_) | (with_reducible refine id_touch ?_) | intro _ _ | intro _ | dsimp only | split)

theorem State.retire_touch {n : Nat} {s : State} {m_ : Nat} {b_ : State} (hm_ : Nat.land 71515136 m_ = 71515136) (ht_ : Touch m_ b_ s) :
    Touch m_ b_ (State.retire n s) := by
  unfold State.retire
  try dsimp only
  repeat' (first | with_reducible assumption | (exact sub_trans (by decide) hm_) | (with_reducible refine State.bump_touch ?_ ?_ ) | (with_reducible refine State.placedOvl_touch ?_ ?_ ) | (with_reducible refine State.settSend_touch ?_ ?_ ) | (with_reducible refine State.when_touch ?_ ?_) | (with_reducible refine ite_touch ?_ ?_) | (with_reducible refine id_touch ?_) | intro _ _ | intro _ | dsimp only | split)

theorem State.dropReads_touch {h : Nat} {stamp : BitVec 64} {s : State} {m_ : Nat} {b_ : State} (hm_ : Nat.land 4096 m_ = 4096) (ht_ : Touch m_ b_ s) :
    Touch m_ b_ (State.dropReads h stamp s) := by
  unfold State.dropReads
  try dsimp only
  repeat' (first | with_reducible assumption | (exact sub_trans (by decide) hm_) | (with_reducible refine State.updCons_touch ?_ ?_) | (with_reducible refine ite_touch ?_ ?_) | (with_reducible refine id_touch ?_) | intro _ _ | intro _ | dsimp only | split)

theorem State.trimRegions_touch {s : State} {m_ : Nat} {b_ : State} (hm_ : Nat.land 4096 m_ = 4096) (ht_ : Touch m_ b_ s) :
    Touch m_ b_ (State.trimRegions s) := by
  unfold State.trimRegions
  try dsimp only
  repeat' (first | with_reducible assumption | (exact sub_trans (by decide) hm_) | (with_reducible refine State.updCons_touch ?_ ?_) | (with_reducible refine ite_touch ?_ ?_) | (with_reducible refine id_touch ?_) | intro _ _ | intro _ | dsimp only | split)

theorem State.releaseCovered_touch {s : State} {m_ : Nat} {b_ : State} (hm_ : Nat.land 71446528 m_ = 71446528) (ht_ : Touch m_ b_ s) :
    Touch m_ b_ (State.releaseCovered s) := by
  unfold State.releaseCovered
  try dsimp only
  repeat' (first | with_reducible assumption | (exact sub_trans (by decide) hm_) | (with_reducible refine State.bumpN_touch ?_ ?_ ) | (with_reducible refine State.releaseVersions_touch ?_ ?_ ) | (with_reducible refine State.trimRegions_touch ?_ ?_ ) | (with_reducible refine ite_touch ?_ ?_) | (with_reducible refine id_touch ?_) | intro _ _ | intro _ | dsimp only | split)

end Sys2Proof.Machine
end

