-- ==== Sys2Proof/Laws/TouchIoOps.lean ====
section
/-! SUPPORT. What the operations of Machine/IoOps.lean can change: one lemma for each. -/
namespace Sys2Proof.Machine
set_option linter.all false

theorem State.unqueue_touch {n : Nat} {s : State} {m_ : Nat} {b_ : State} (hm_ : Nat.land 90112 m_ = 90112) (ht_ : Touch m_ b_ s) :
    Touch m_ b_ (State.unqueue n s) := by
  unfold State.unqueue
  try dsimp only
  repeat' (first | with_reducible assumption | (exact sub_trans (by decide) hm_) | (with_reducible refine State.updLayout_touch ?_ ?_) | (with_reducible refine State.updCipher_touch ?_ ?_) | (with_reducible refine State.updQos_touch ?_ ?_) | (with_reducible refine ite_touch ?_ ?_) | (with_reducible refine id_touch ?_) | intro _ _ | intro _ | dsimp only | split)

theorem State.endErr_touch {n status : Nat} {s : State} {m_ : Nat} {b_ : State} (hm_ : Nat.land 72580096 m_ = 72580096) (ht_ : Touch m_ b_ s) :
    Touch m_ b_ (State.endErr n status s) := by
  unfold State.endErr
  try dsimp only
  repeat' (first | with_reducible assumption | (exact sub_trans (by decide) hm_) | (with_reducible refine State.dropReads_touch ?_ ?_ ) | (with_reducible refine State.failCmd_touch ?_ ?_ ) | (with_reducible refine State.retire_touch ?_ ?_ ) | (with_reducible refine State.unqueue_touch ?_ ?_ ) | (with_reducible refine State.updSlot_touch ?_ ?_ ) | (with_reducible refine ite_touch ?_ ?_) | (with_reducible refine id_touch ?_) | intro _ _ | intro _ | dsimp only | split)

theorem State.endQuiet_touch {n : Nat} {s : State} {m_ : Nat} {b_ : State} (hm_ : Nat.land 71531520 m_ = 71531520) (ht_ : Touch m_ b_ s) :
    Touch m_ b_ (State.endQuiet n s) := by
  unfold State.endQuiet
  try dsimp only
  repeat' (first | with_reducible assumption | (exact sub_trans (by decide) hm_) | (with_reducible refine State.dropReads_touch ?_ ?_ ) | (with_reducible refine State.endCmd_touch ?_ ?_ ) | (with_reducible refine State.retire_touch ?_ ?_ ) | (with_reducible refine State.unqueue_touch ?_ ?_ ) | (with_reducible refine State.updSlot_touch ?_ ?_ ) | (with_reducible refine ite_touch ?_ ?_) | (with_reducible refine id_touch ?_) | intro _ _ | intro _ | dsimp only | split)

theorem State.askHost_touch {n : Nat} {s : State} {m_ : Nat} {b_ : State} (hm_ : Nat.land 71371776 m_ = 71371776) (ht_ : Touch m_ b_ s) :
    Touch m_ b_ (State.askHost n s) := by
  unfold State.askHost
  try dsimp only
  repeat' (first | with_reducible assumption | (exact sub_trans (by decide) hm_) | (with_reducible refine State.flushPlans_touch ?_ ?_ ) | (with_reducible refine State.plan_touch ?_ ?_ ) | (with_reducible refine State.sendMsg_touch ?_ ?_ ) | (with_reducible refine State.updCtx_touch ?_ ?_ ) | (with_reducible refine State.updPlan_touch ?_ ?_ ) | (with_reducible refine State.updSlot_touch ?_ ?_ ) | (with_reducible refine ite_touch ?_ ?_) | (with_reducible refine id_touch ?_) | intro _ _ | intro _ | dsimp only | split)

theorem State.sendStampUpdate_touch {n : Nat} {s : State} {m_ : Nat} {b_ : State} (hm_ : Nat.land 67240960 m_ = 67240960) (ht_ : Touch m_ b_ s) :
    Touch m_ b_ (State.sendStampUpdate n s) := by
  unfold State.sendStampUpdate
  try dsimp only
  repeat' (first | with_reducible assumption | (exact sub_trans (by decide) hm_) | (with_reducible refine State.plan_touch ?_ ?_ ) | (with_reducible refine State.settSend_touch ?_ ?_ ) | (with_reducible refine ite_touch ?_ ?_) | (with_reducible refine id_touch ?_) | intro _ _ | intro _ | dsimp only | split)

theorem State.reserve_touch {n : Nat} {s : State} {m_ : Nat} {b_ : State} (hm_ : Nat.land 4204544 m_ = 4204544) (ht_ : Touch m_ b_ s) :
    Touch m_ b_ (State.reserve n s) := by
  unfold State.reserve
  try dsimp only
  repeat' (first | with_reducible assumption | (exact sub_trans (by decide) hm_) | (with_reducible refine State.bump_touch ?_ ?_ ) | (with_reducible refine State.stage_touch ?_ ?_ ) | (with_reducible refine State.updSlot_touch ?_ ?_ ) | (with_reducible refine State.updLayout_touch ?_ ?_) | (with_reducible refine ite_touch ?_ ?_) | (with_reducible refine id_touch ?_) | intro _ _ | intro _ | dsimp only | split)

theorem State.beginWrite_touch {n : Nat} {s : State} {m_ : Nat} {b_ : State} (hm_ : Nat.land 71511040 m_ = 71511040) (ht_ : Touch m_ b_ s) :
    Touch m_ b_ (State.beginWrite n s) := by
  unfold State.beginWrite
  try dsimp only
  repeat' (first | with_reducible assumption | (exact sub_trans (by decide) hm_) | (with_reducible refine State.askHost_touch ?_ ?_ ) | (with_reducible refine State.reserve_touch ?_ ?_ ) | (with_reducible refine State.sendStampUpdate_touch ?_ ?_ ) | (with_reducible refine State.stage_touch ?_ ?_ ) | (with_reducible refine State.updSlot_touch ?_ ?_ ) | (with_reducible refine State.when_touch ?_ ?_) | (with_reducible refine ite_touch ?_ ?_) | (with_reducible refine id_touch ?_) | intro _ _ | intro _ | dsimp only | split)

theorem State.updRead_touch {n blk : Nat} {f : BlkRead → BlkRead} {s : State} {m_ : Nat} {b_ : State} (hm_ : Nat.land 2048 m_ = 2048) (ht_ : Touch m_ b_ s) :
    Touch m_ b_ (State.updRead n blk f s) := by
  unfold State.updRead
  try dsimp only
  repeat' (first | with_reducible assumption | (exact sub_trans (by decide) hm_) | (with_reducible refine State.updSlot_touch ?_ ?_ ) | (with_reducible refine ite_touch ?_ ?_) | (with_reducible refine id_touch ?_) | intro _ _ | intro _ | dsimp only | split)

theorem State.blkDone_touch {n blk : Nat} {plain : Bytes} {s : State} {m_ : Nat} {b_ : State} (hm_ : Nat.land 2048 m_ = 2048) (ht_ : Touch m_ b_ s) :
    Touch m_ b_ (State.blkDone n blk plain s) := by
  unfold State.blkDone
  try dsimp only
  repeat' (first | with_reducible assumption | (exact sub_trans (by decide) hm_) | (with_reducible refine State.updRead_touch ?_ ?_ ) | (with_reducible refine ite_touch ?_ ?_) | (with_reducible refine id_touch ?_) | intro _ _ | intro _ | dsimp only | split)

theorem State.blkFailed_touch {n : Nat} {s : State} {m_ : Nat} {b_ : State} (hm_ : Nat.land 72580096 m_ = 72580096) (ht_ : Touch m_ b_ s) :
    Touch m_ b_ (State.blkFailed n s) := by
  unfold State.blkFailed
  try dsimp only
  repeat' (first | with_reducible assumption | (exact sub_trans (by decide) hm_) | (with_reducible refine State.endErr_touch ?_ ?_ ) | (with_reducible refine ite_touch ?_ ?_) | (with_reducible refine id_touch ?_) | intro _ _ | intro _ | dsimp only | split)

theorem State.readPos_touch {n blk owner pool stripe pos b : Nat} {s : State} {m_ : Nat} {b_ : State} (hm_ : Nat.land 65536 m_ = 65536) (ht_ : Touch m_ b_ s) :
    Touch m_ b_ (State.readPos n blk owner pool stripe pos b s) := by
  unfold State.readPos
  try dsimp only
  repeat' (first | with_reducible assumption | (exact sub_trans (by decide) hm_) | (with_reducible refine State.submit_touch ?_ ?_ ) | (with_reducible refine ite_touch ?_ ?_) | (with_reducible refine id_touch ?_) | intro _ _ | intro _ | dsimp only | split)

theorem State.reconstruct_touch {n blk : Nat} {s : State} {m_ : Nat} {b_ : State} (hm_ : Nat.land 72580096 m_ = 72580096) (ht_ : Touch m_ b_ s) :
    Touch m_ b_ (State.reconstruct n blk s) := by
  unfold State.reconstruct
  try dsimp only
  repeat' (first | with_reducible assumption | (exact sub_trans (by decide) hm_) | (with_reducible refine State.blkFailed_touch ?_ ?_ ) | (with_reducible refine State.readPos_touch ?_ ?_ ) | (with_reducible refine State.takeLock_touch ?_ ?_ ) | (refine snd_touch (by with_reducible assumption) (State.takeLock_touch ?_ ?_ )) | (with_reducible refine State.updRead_touch ?_ ?_ ) | (with_reducible refine State.updTelem_touch ?_ ?_) | (with_reducible refine foldl_touch ?_ ?_) | (with_reducible refine foldl_snd_touch ?_ ?_) | (with_reducible refine ite_touch ?_ ?_) | (with_reducible refine id_touch ?_) | intro _ _ | intro _ | dsimp only | split)

theorem State.reconDone_touch {pool stripe : Nat} {s : State} {m_ : Nat} {b_ : State} (hm_ : Nat.land 8192 m_ = 8192) (ht_ : Touch m_ b_ s) :
    Touch m_ b_ (State.reconDone pool stripe s) := by
  unfold State.reconDone
  try dsimp only
  repeat' (first | with_reducible assumption | (exact sub_trans (by decide) hm_) | (with_reducible refine State.freeLock_touch ?_ ?_ ) | (with_reducible refine ite_touch ?_ ?_) | (with_reducible refine id_touch ?_) | intro _ _ | intro _ | dsimp only | split)

theorem State.hotBlk_touch {h blk : Nat} {s : State} {m_ : Nat} {b_ : State} (hm_ : Nat.land 4202496 m_ = 4202496) (ht_ : Touch m_ b_ s) :
    Touch m_ b_ (State.hotBlk h blk s) := by
  unfold State.hotBlk
  try dsimp only
  repeat' (first | with_reducible assumption | (exact sub_trans (by decide) hm_) | (with_reducible refine State.markHot_touch ?_ ?_ ) | (with_reducible refine ite_touch ?_ ?_) | (with_reducible refine id_touch ?_) | intro _ _ | intro _ | dsimp only | split)

theorem State.blockIn_touch {n blk : Nat} {again : Bool} {bytes : Bytes} {s : State} {m_ : Nat} {b_ : State} (hm_ : Nat.land 74710016 m_ = 74710016) (ht_ : Touch m_ b_ s) :
    Touch m_ b_ (State.blockIn n blk again bytes s) := by
  unfold State.blockIn
  try dsimp only
  repeat' (first | with_reducible assumption | (exact sub_trans (by decide) hm_) | (with_reducible refine State.askKey_touch ?_ ?_ ) | (with_reducible refine State.blkDone_touch ?_ ?_ ) | (with_reducible refine State.blkFailed_touch ?_ ?_ ) | (with_reducible refine State.bump_touch ?_ ?_ ) | (with_reducible refine State.countCheck_touch ?_ ?_ ) | (with_reducible refine State.ctxError_touch ?_ ?_ ) | (with_reducible refine State.enterLost_touch ?_ ?_ ) | (with_reducible refine State.hotBlk_touch ?_ ?_ ) | (with_reducible refine State.reconstruct_touch ?_ ?_ ) | (with_reducible refine State.touchKey_touch ?_ ?_ ) | (with_reducible refine State.updRead_touch ?_ ?_ ) | (with_reducible refine ite_touch ?_ ?_) | (with_reducible refine id_touch ?_) | intro _ _ | intro _ | dsimp only | split)

theorem State.versionIn_touch {n blk : Nat} {v : Version} {s : State} {m_ : Nat} {b_ : State} (hm_ : Nat.land 72612864 m_ = 72612864) (ht_ : Touch m_ b_ s) :
    Touch m_ b_ (State.versionIn n blk v s) := by
  unfold State.versionIn
  try dsimp only
  repeat' (first | with_reducible assumption | (exact sub_trans (by decide) hm_) | (with_reducible refine State.askKey_touch ?_ ?_ ) | (with_reducible refine State.blkDone_touch ?_ ?_ ) | (with_reducible refine State.blkFailed_touch ?_ ?_ ) | (with_reducible refine State.countCheck_touch ?_ ?_ ) | (with_reducible refine State.touchKey_touch ?_ ?_ ) | (with_reducible refine State.updRead_touch ?_ ?_ ) | (with_reducible refine ite_touch ?_ ?_) | (with_reducible refine id_touch ?_) | intro _ _ | intro _ | dsimp only | split)

theorem State.readBlk_touch {n blk owner : Nat} {s : State} {m_ : Nat} {b_ : State} (hm_ : Nat.land 72612864 m_ = 72612864) (ht_ : Touch m_ b_ s) :
    Touch m_ b_ (State.readBlk n blk owner s) := by
  unfold State.readBlk
  try dsimp only
  repeat' (first | with_reducible assumption | (exact sub_trans (by decide) hm_) | (with_reducible refine State.blkFailed_touch ?_ ?_ ) | (with_reducible refine State.readPos_touch ?_ ?_ ) | (with_reducible refine State.reconstruct_touch ?_ ?_ ) | (with_reducible refine State.updRead_touch ?_ ?_ ) | (with_reducible refine State.versionIn_touch ?_ ?_ ) | (with_reducible refine ite_touch ?_ ?_) | (with_reducible refine id_touch ?_) | intro _ _ | intro _ | dsimp only | split)

theorem State.beginRead_touch {n : Nat} {s : State} {m_ : Nat} {b_ : State} (hm_ : Nat.land 72612864 m_ = 72612864) (ht_ : Touch m_ b_ s) :
    Touch m_ b_ (State.beginRead n s) := by
  unfold State.beginRead
  try dsimp only
  repeat' (first | with_reducible assumption | (exact sub_trans (by decide) hm_) | (with_reducible refine State.askHost_touch ?_ ?_ ) | (with_reducible refine State.readBlk_touch ?_ ?_ ) | (with_reducible refine State.stage_touch ?_ ?_ ) | (with_reducible refine State.updSlot_touch ?_ ?_ ) | (with_reducible refine State.when_touch ?_ ?_) | (with_reducible refine foldl_touch ?_ ?_) | (with_reducible refine foldl_snd_touch ?_ ?_) | (with_reducible refine ite_touch ?_ ?_) | (with_reducible refine id_touch ?_) | intro _ _ | intro _ | dsimp only | split)

theorem State.pinReads_touch {h : Nat} {stamp : BitVec 64} {s : State} {m_ : Nat} {b_ : State} (hm_ : Nat.land 4096 m_ = 4096) (ht_ : Touch m_ b_ s) :
    Touch m_ b_ (State.pinReads h stamp s) := by
  unfold State.pinReads
  try dsimp only
  repeat' (first | with_reducible assumption | (exact sub_trans (by decide) hm_) | (with_reducible refine State.updCons_touch ?_ ?_) | (with_reducible refine ite_touch ?_ ?_) | (with_reducible refine id_touch ?_) | intro _ _ | intro _ | dsimp only | split)

theorem State.sendReadData_touch {n : Nat} {bytes : Bytes} {s : State} {m_ : Nat} {b_ : State} (hm_ : Nat.land 72563712 m_ = 72563712) (ht_ : Touch m_ b_ s) :
    Touch m_ b_ (State.sendReadData n bytes s) := by
  unfold State.sendReadData
  try dsimp only
  repeat' (first | with_reducible assumption | (exact sub_trans (by decide) hm_) | (with_reducible refine State.adminData_touch ?_ ?_ ) | (with_reducible refine State.pinReads_touch ?_ ?_ ) | (with_reducible refine State.sendMsg_touch ?_ ?_ ) | (with_reducible refine State.trigger_touch ?_ ?_ ) | (with_reducible refine State.updPlan_touch ?_ ?_ ) | (with_reducible refine ite_touch ?_ ?_) | (with_reducible refine id_touch ?_) | intro _ _ | intro _ | dsimp only | split)

theorem State.finishRead_touch {n : Nat} {s : State} {m_ : Nat} {b_ : State} (hm_ : Nat.land 72580096 m_ = 72580096) (ht_ : Touch m_ b_ s) :
    Touch m_ b_ (State.finishRead n s) := by
  unfold State.finishRead
  try dsimp only
  repeat' (first | with_reducible assumption | (exact sub_trans (by decide) hm_) | (with_reducible refine State.countPi_touch ?_ ?_ ) | (with_reducible refine State.endErr_touch ?_ ?_ ) | (with_reducible refine State.pinReads_touch ?_ ?_ ) | (with_reducible refine State.plan_touch ?_ ?_ ) | (with_reducible refine State.sendReadData_touch ?_ ?_ ) | (with_reducible refine State.stage_touch ?_ ?_ ) | (with_reducible refine State.trigger_touch ?_ ?_ ) | (with_reducible refine State.updPlan_touch ?_ ?_ ) | (with_reducible refine ite_touch ?_ ?_) | (with_reducible refine id_touch ?_) | intro _ _ | intro _ | dsimp only | split)

theorem State.encryptBlk_touch {n : Nat} {w : BlkWrite} {s : State} {m_ : Nat} {b_ : State} (hm_ : Nat.land 74710016 m_ = 74710016) (ht_ : Touch m_ b_ s) :
    Touch m_ b_ (State.encryptBlk n w s) := by
  unfold State.encryptBlk
  try dsimp only
  repeat' (first | with_reducible assumption | (exact sub_trans (by decide) hm_) | (with_reducible refine State.bump_touch ?_ ?_ ) | (with_reducible refine State.countPi_touch ?_ ?_ ) | (with_reducible refine State.endErr_touch ?_ ?_ ) | (with_reducible refine State.takeCtr_touch ?_ ?_ ) | (refine snd_touch (by with_reducible assumption) (State.takeCtr_touch ?_ ?_ )) | (with_reducible refine State.updSlot_touch ?_ ?_ ) | (with_reducible refine State.updCipher_touch ?_ ?_) | (with_reducible refine ite_touch ?_ ?_) | (with_reducible refine id_touch ?_) | intro _ _ | intro _ | dsimp only | split)

theorem State.stageSeven_touch {n : Nat} {s : State} {m_ : Nat} {b_ : State} (hm_ : Nat.land 74710016 m_ = 74710016) (ht_ : Touch m_ b_ s) :
    Touch m_ b_ (State.stageSeven n s) := by
  unfold State.stageSeven
  try dsimp only
  repeat' (first | with_reducible assumption | (exact sub_trans (by decide) hm_) | (with_reducible refine State.encryptBlk_touch ?_ ?_ ) | (with_reducible refine State.readBlk_touch ?_ ?_ ) | (with_reducible refine State.updSlot_touch ?_ ?_ ) | (with_reducible refine foldl_touch ?_ ?_) | (with_reducible refine foldl_snd_touch ?_ ?_) | (with_reducible refine ite_touch ?_ ?_) | (with_reducible refine id_touch ?_) | intro _ _ | intro _ | dsimp only | split)

theorem State.advance_touch {n : Nat} {s : State} {m_ : Nat} {b_ : State} (hm_ : Nat.land 74710016 m_ = 74710016) (ht_ : Touch m_ b_ s) :
    Touch m_ b_ (State.advance n s) := by
  unfold State.advance
  try dsimp only
  repeat' (first | with_reducible assumption | (exact sub_trans (by decide) hm_) | (with_reducible refine State.askHost_touch ?_ ?_ ) | (with_reducible refine State.beginRead_touch ?_ ?_ ) | (with_reducible refine State.beginWrite_touch ?_ ?_ ) | (with_reducible refine State.finishRead_touch ?_ ?_ ) | (with_reducible refine State.stageSeven_touch ?_ ?_ ) | (with_reducible refine ite_touch ?_ ?_) | (with_reducible refine id_touch ?_) | intro _ _ | intro _ | dsimp only | split)

theorem State.pruneReads_touch {s : State} {m_ : Nat} {b_ : State} (hm_ : Nat.land 71446528 m_ = 71446528) (ht_ : Touch m_ b_ s) :
    Touch m_ b_ (State.pruneReads s) := by
  unfold State.pruneReads
  try dsimp only
  repeat' (first | with_reducible assumption | (exact sub_trans (by decide) hm_) | (with_reducible refine State.releaseCovered_touch ?_ ?_ ) | (with_reducible refine State.updCons_touch ?_ ?_) | (with_reducible refine ite_touch ?_ ?_) | (with_reducible refine id_touch ?_) | intro _ _ | intro _ | dsimp only | split)

theorem State.rounds_touch  {k_ : Nat} {s : State} {m_ : Nat} {b_ : State} (hm_ : Nat.land 74710016 m_ = 74710016) (ht_ : Touch m_ b_ s) :
    Touch m_ b_ (State.rounds  k_ s) := by
  induction k_ generalizing s with
  | zero => exact ht_
  | succ k_ ih_ =>
    unfold State.rounds
    try dsimp only
    repeat' (first | with_reducible assumption | (with_reducible refine ih_ ?_) | (exact sub_trans (by decide) hm_) | (with_reducible refine State.advance_touch ?_ ?_ ) | (with_reducible refine foldl_touch ?_ ?_) | (with_reducible refine foldl_snd_touch ?_ ?_) | (with_reducible refine ite_touch ?_ ?_) | (with_reducible refine id_touch ?_) | intro _ _ | intro _ | dsimp only | split)

theorem State.settle_touch {s : State} {m_ : Nat} {b_ : State} (hm_ : Nat.land 74710016 m_ = 74710016) (ht_ : Touch m_ b_ s) :
    Touch m_ b_ (State.settle s) := by
  unfold State.settle
  try dsimp only
  repeat' (first | with_reducible assumption | (exact sub_trans (by decide) hm_) | (with_reducible refine State.pruneReads_touch ?_ ?_ ) | (with_reducible refine State.rounds_touch ?_ ?_ ) | (with_reducible refine ite_touch ?_ ?_) | (with_reducible refine id_touch ?_) | intro _ _ | intro _ | dsimp only | split)

theorem State.heal_touch {h : Nat} {blks : List Nat} {s : State} {m_ : Nat} {b_ : State} (hm_ : Nat.land 8192 m_ = 8192) (ht_ : Touch m_ b_ s) :
    Touch m_ b_ (State.heal h blks s) := by
  unfold State.heal
  try dsimp only
  repeat' (first | with_reducible assumption | (exact sub_trans (by decide) hm_) | (with_reducible refine State.updLayout_touch ?_ ?_) | (with_reducible refine foldl_touch ?_ ?_) | (with_reducible refine foldl_snd_touch ?_ ?_) | (with_reducible refine ite_touch ?_ ?_) | (with_reducible refine id_touch ?_) | intro _ _ | intro _ | dsimp only | split)

theorem State.journalUnits_touch {n : Nat} {s : State} {m_ : Nat} {b_ : State} (hm_ : Nat.land 71507968 m_ = 71507968) (ht_ : Touch m_ b_ s) :
    Touch m_ b_ (State.journalUnits n s) := by
  unfold State.journalUnits
  try dsimp only
  repeat' (first | with_reducible assumption | (exact sub_trans (by decide) hm_) | (with_reducible refine State.bump_touch ?_ ?_ ) | (with_reducible refine State.journalData_touch ?_ ?_ ) | (with_reducible refine State.submitAs_touch ?_ ?_ ) | (with_reducible refine foldl_touch ?_ ?_) | (with_reducible refine foldl_snd_touch ?_ ?_) | (with_reducible refine ite_touch ?_ ?_) | (with_reducible refine id_touch ?_) | intro _ _ | intro _ | dsimp only | split)

theorem State.stageEight_touch {n : Nat} {s : State} {m_ : Nat} {b_ : State} (hm_ : Nat.land 72563712 m_ = 72563712) (ht_ : Touch m_ b_ s) :
    Touch m_ b_ (State.stageEight n s) := by
  unfold State.stageEight
  try dsimp only
  repeat' (first | with_reducible assumption | (exact sub_trans (by decide) hm_) | (with_reducible refine State.placedOvl_touch ?_ ?_ ) | (with_reducible refine State.releaseCovered_touch ?_ ?_ ) | (with_reducible refine State.stageFive_touch ?_ ?_ ) | (with_reducible refine State.trigger_touch ?_ ?_ ) | (with_reducible refine State.updSlot_touch ?_ ?_ ) | (with_reducible refine ite_touch ?_ ?_) | (with_reducible refine id_touch ?_) | intro _ _ | intro _ | dsimp only | split)

theorem State.forward_touch {n : Nat} {s : State} {m_ : Nat} {b_ : State} (hm_ : Nat.land 67249152 m_ = 67249152) (ht_ : Touch m_ b_ s) :
    Touch m_ b_ (State.forward n s) := by
  unfold State.forward
  try dsimp only
  repeat' (first | with_reducible assumption | (exact sub_trans (by decide) hm_) | (with_reducible refine State.plan_touch ?_ ?_ ) | (with_reducible refine State.settSend_touch ?_ ?_ ) | (with_reducible refine State.updLayout_touch ?_ ?_) | (with_reducible refine foldl_touch ?_ ?_) | (with_reducible refine foldl_snd_touch ?_ ?_) | (with_reducible refine ite_touch ?_ ?_) | (with_reducible refine id_touch ?_) | intro _ _ | intro _ | dsimp only | split)

theorem State.partsDone_touch {n : Nat} {s : State} {m_ : Nat} {b_ : State} (hm_ : Nat.land 72563712 m_ = 72563712) (ht_ : Touch m_ b_ s) :
    Touch m_ b_ (State.partsDone n s) := by
  unfold State.partsDone
  try dsimp only
  repeat' (first | with_reducible assumption | (exact sub_trans (by decide) hm_) | (with_reducible refine State.advanceAck_touch ?_ ?_ ) | (with_reducible refine State.plan_touch ?_ ?_ ) | (with_reducible refine State.stage_touch ?_ ?_ ) | (with_reducible refine State.stageEight_touch ?_ ?_ ) | (with_reducible refine State.updPlan_touch ?_ ?_ ) | (with_reducible refine ite_touch ?_ ?_) | (with_reducible refine id_touch ?_) | intro _ _ | intro _ | dsimp only | split)

theorem State.placeWrite_touch {n : Nat} {s : State} {m_ : Nat} {b_ : State} (hm_ : Nat.land 72563712 m_ = 72563712) (ht_ : Touch m_ b_ s) :
    Touch m_ b_ (State.placeWrite n s) := by
  unfold State.placeWrite
  try dsimp only
  repeat' (first | with_reducible assumption | (exact sub_trans (by decide) hm_) | (with_reducible refine State.forward_touch ?_ ?_ ) | (with_reducible refine State.heal_touch ?_ ?_ ) | (with_reducible refine State.insertVersions_touch ?_ ?_ ) | (with_reducible refine State.journalUnits_touch ?_ ?_ ) | (with_reducible refine State.partsDone_touch ?_ ?_ ) | (with_reducible refine State.rule3Update_touch ?_ ?_ ) | (with_reducible refine State.sendMirror_touch ?_ ?_ ) | (with_reducible refine State.stage_touch ?_ ?_ ) | (with_reducible refine State.stageEight_touch ?_ ?_ ) | (with_reducible refine State.trigger_touch ?_ ?_ ) | (with_reducible refine State.updSlot_touch ?_ ?_ ) | (with_reducible refine State.when_touch ?_ ?_) | (with_reducible refine ite_touch ?_ ?_) | (with_reducible refine id_touch ?_) | intro _ _ | intro _ | dsimp only | split)

theorem State.mirrorDone_touch {n : Nat} {s : State} {m_ : Nat} {b_ : State} (hm_ : Nat.land 72563712 m_ = 72563712) (ht_ : Touch m_ b_ s) :
    Touch m_ b_ (State.mirrorDone n s) := by
  unfold State.mirrorDone
  try dsimp only
  repeat' (first | with_reducible assumption | (exact sub_trans (by decide) hm_) | (with_reducible refine State.partsDone_touch ?_ ?_ ) | (with_reducible refine State.updSlot_touch ?_ ?_ ) | (with_reducible refine State.updLayout_touch ?_ ?_) | (with_reducible refine foldl_touch ?_ ?_) | (with_reducible refine foldl_snd_touch ?_ ?_) | (with_reducible refine ite_touch ?_ ?_) | (with_reducible refine id_touch ?_) | intro _ _ | intro _ | dsimp only | split)

theorem State.forwardDone_touch {n : Nat} {s : State} {m_ : Nat} {b_ : State} (hm_ : Nat.land 72563712 m_ = 72563712) (ht_ : Touch m_ b_ s) :
    Touch m_ b_ (State.forwardDone n s) := by
  unfold State.forwardDone
  try dsimp only
  repeat' (first | with_reducible assumption | (exact sub_trans (by decide) hm_) | (with_reducible refine State.partsDone_touch ?_ ?_ ) | (with_reducible refine State.updSlot_touch ?_ ?_ ) | (with_reducible refine ite_touch ?_ ?_) | (with_reducible refine id_touch ?_) | intro _ _ | intro _ | dsimp only | split)

theorem State.foxDraw_touch {n : Nat} {p : Slot} {s : State} {m_ : Nat} {b_ : State} (hm_ : Nat.land 37748736 m_ = 37748736) (ht_ : Touch m_ b_ s) :
    Touch m_ b_ (State.foxDraw n p s) := by
  unfold State.foxDraw
  try dsimp only
  repeat' (first | with_reducible assumption | (exact sub_trans (by decide) hm_) | (with_reducible refine State.bump_touch ?_ ?_ ) | (with_reducible refine State.draw_touch ?_ ?_ ) | (with_reducible refine State.stage_touch ?_ ?_ ) | (with_reducible refine State.updTelem_touch ?_ ?_) | (with_reducible refine ite_touch ?_ ?_) | (with_reducible refine id_touch ?_) | intro _ _ | intro _ | dsimp only | split)

theorem State.police_touch {n : Nat} {s : State} {m_ : Nat} {b_ : State} (hm_ : Nat.land 4261888 m_ = 4261888) (ht_ : Touch m_ b_ s) :
    Touch m_ b_ (State.police n s) := by
  unfold State.police
  try dsimp only
  repeat' (first | with_reducible assumption | (exact sub_trans (by decide) hm_) | (with_reducible refine State.bump_touch ?_ ?_ ) | (with_reducible refine State.meter_touch ?_ ?_ ) | (refine snd_touch (by with_reducible assumption) (State.meter_touch ?_ ?_ )) | (with_reducible refine State.stage_touch ?_ ?_ ) | (with_reducible refine State.updSlot_touch ?_ ?_ ) | (with_reducible refine State.updQos_touch ?_ ?_) | (with_reducible refine ite_touch ?_ ?_) | (with_reducible refine id_touch ?_) | intro _ _ | intro _ | dsimp only | split)

theorem State.takeSlot_touch {n : Nat} {c : HostCmd} {s : State} {m_ : Nat} {b_ : State} (hm_ : Nat.land 106114048 m_ = 106114048) (ht_ : Touch m_ b_ s) :
    Touch m_ b_ (State.takeSlot n c s) := by
  unfold State.takeSlot
  try dsimp only
  repeat' (first | with_reducible assumption | (exact sub_trans (by decide) hm_) | (with_reducible refine State.bump_touch ?_ ?_ ) | (with_reducible refine State.failCmd_touch ?_ ?_ ) | (with_reducible refine State.foxDraw_touch ?_ ?_ ) | (with_reducible refine State.lpUsed_touch ?_ ?_ ) | (with_reducible refine State.police_touch ?_ ?_ ) | (with_reducible refine State.send_touch ?_ ?_ ) | (with_reducible refine State.settIfPaired_touch ?_ ?_ ) | (with_reducible refine State.updCtx_touch ?_ ?_ ) | (with_reducible refine State.updFab_touch ?_ ?_ ) | (with_reducible refine State.updCmds_touch ?_ ?_) | (with_reducible refine State.updLocalPort_touch ?_ ?_) | (with_reducible refine ite_touch ?_ ?_) | (with_reducible refine id_touch ?_) | intro _ _ | intro _ | dsimp only | split)

theorem State.answerReplay_touch {r : Replay} {c : HostCmd} {s : State} {m_ : Nat} {b_ : State} (hm_ : Nat.land 71506944 m_ = 71506944) (ht_ : Touch m_ b_ s) :
    Touch m_ b_ (State.answerReplay r c s) := by
  unfold State.answerReplay
  try dsimp only
  repeat' (first | with_reducible assumption | (exact sub_trans (by decide) hm_) | (with_reducible refine State.bump_touch ?_ ?_ ) | (with_reducible refine State.enterPart_touch ?_ ?_ ) | (refine snd_touch (by with_reducible assumption) (State.enterPart_touch ?_ ?_ )) | (with_reducible refine State.respond_touch ?_ ?_ ) | (with_reducible refine State.updCmds_touch ?_ ?_) | (with_reducible refine ite_touch ?_ ?_) | (with_reducible refine id_touch ?_) | intro _ _ | intro _ | dsimp only | split)

theorem State.capsuleIn_touch {c : HostCmd} {s : State} {m_ : Nat} {b_ : State} (hm_ : Nat.land 106380416 m_ = 106380416) (ht_ : Touch m_ b_ s) :
    Touch m_ b_ (State.capsuleIn c s) := by
  unfold State.capsuleIn
  try dsimp only
  repeat' (first | with_reducible assumption | (exact sub_trans (by decide) hm_) | (with_reducible refine State.answerReplay_touch ?_ ?_ ) | (with_reducible refine State.bump_touch ?_ ?_ ) | (with_reducible refine State.ctxError_touch ?_ ?_ ) | (with_reducible refine State.ioVote_touch ?_ ?_ ) | (with_reducible refine State.katoRestart_touch ?_ ?_ ) | (with_reducible refine State.takeSlot_touch ?_ ?_ ) | (with_reducible refine State.updCmds_touch ?_ ?_) | (with_reducible refine ite_touch ?_ ?_) | (with_reducible refine id_touch ?_) | intro _ _ | intro _ | dsimp only | split)

theorem State.offerSlots_touch  {k_ : Nat} {s : State} {m_ : Nat} {b_ : State} (hm_ : Nat.land 106114048 m_ = 106114048) (ht_ : Touch m_ b_ s) :
    Touch m_ b_ (State.offerSlots  k_ s) := by
  induction k_ generalizing s with
  | zero => exact ht_
  | succ k_ ih_ =>
    unfold State.offerSlots
    try dsimp only
    repeat' (first | with_reducible assumption | (with_reducible refine ih_ ?_) | (exact sub_trans (by decide) hm_) | (with_reducible refine State.takeSlot_touch ?_ ?_ ) | (with_reducible refine State.updCmds_touch ?_ ?_) | (with_reducible refine foldl_touch ?_ ?_) | (with_reducible refine foldl_snd_touch ?_ ?_) | (with_reducible refine ite_touch ?_ ?_) | (with_reducible refine id_touch ?_) | intro _ _ | intro _ | dsimp only | split)

theorem State.withdrawHere_touch {n : Nat} {s : State} {m_ : Nat} {b_ : State} (hm_ : Nat.land 67244032 m_ = 67244032) (ht_ : Touch m_ b_ s) :
    Touch m_ b_ (State.withdrawHere n s).2 := by
  unfold State.withdrawHere
  try dsimp only
  repeat' (first | with_reducible assumption | (exact sub_trans (by decide) hm_) | (with_reducible refine State.settSend_touch ?_ ?_ ) | (with_reducible refine State.when_touch ?_ ?_) | (with_reducible refine State.updCons_touch ?_ ?_) | (with_reducible refine ite_touch ?_ ?_) | (with_reducible refine id_touch ?_) | intro _ _ | intro _ | dsimp only | split)

theorem State.dropDeferred_touch {n : Nat} {s : State} {m_ : Nat} {b_ : State} (hm_ : Nat.land 65536 m_ = 65536) (ht_ : Touch m_ b_ s) :
    Touch m_ b_ (State.dropDeferred n s) := by
  unfold State.dropDeferred
  try dsimp only
  repeat' (first | with_reducible assumption | (exact sub_trans (by decide) hm_) | (with_reducible refine State.updQos_touch ?_ ?_) | (with_reducible refine ite_touch ?_ ?_) | (with_reducible refine id_touch ?_) | intro _ _ | intro _ | dsimp only | split)

theorem State.stopCmd_touch {n : Nat} {fetchable : Bool} {s : State} {m_ : Nat} {b_ : State} (hm_ : Nat.land 71531520 m_ = 71531520) (ht_ : Touch m_ b_ s) :
    Touch m_ b_ (State.stopCmd n fetchable s) := by
  unfold State.stopCmd
  try dsimp only
  repeat' (first | with_reducible assumption | (exact sub_trans (by decide) hm_) | (with_reducible refine State.dropDeferred_touch ?_ ?_ ) | (with_reducible refine State.endQuiet_touch ?_ ?_ ) | (with_reducible refine State.updSlot_touch ?_ ?_ ) | (with_reducible refine State.withdrawHere_touch ?_ ?_ ) | (refine snd_touch (by with_reducible assumption) (State.withdrawHere_touch ?_ ?_ )) | (with_reducible refine ite_touch ?_ ?_) | (with_reducible refine id_touch ?_) | intro _ _ | intro _ | dsimp only | split)

theorem State.deleteFab_touch {c : Nat} {s : State} {m_ : Nat} {b_ : State} (hm_ : Nat.land 74972288 m_ = 74972288) (ht_ : Touch m_ b_ s) :
    Touch m_ b_ (State.deleteFab c s) := by
  unfold State.deleteFab
  try dsimp only
  repeat' (first | with_reducible assumption | (exact sub_trans (by decide) hm_) | (with_reducible refine State.enterDraining_touch ?_ ?_ ) | (with_reducible refine State.recomputePs_touch ?_ ?_ ) | (with_reducible refine State.settIfPaired_touch ?_ ?_ ) | (with_reducible refine State.settle_touch ?_ ?_ ) | (with_reducible refine State.stopCmd_touch ?_ ?_ ) | (with_reducible refine State.updCmds_touch ?_ ?_) | (with_reducible refine foldl_touch ?_ ?_) | (with_reducible refine foldl_snd_touch ?_ ?_) | (with_reducible refine ite_touch ?_ ?_) | (with_reducible refine id_touch ?_) | intro _ _ | intro _ | dsimp only | split)

theorem State.afterError_touch {i : Nat} {s : State} {m_ : Nat} {b_ : State} (hm_ : Nat.land 74972288 m_ = 74972288) (ht_ : Touch m_ b_ s) :
    Touch m_ b_ (State.afterError i s) := by
  unfold State.afterError
  try dsimp only
  repeat' (first | with_reducible assumption | (exact sub_trans (by decide) hm_) | (with_reducible refine State.deleteFab_touch ?_ ?_ ) | (with_reducible refine State.stopCmd_touch ?_ ?_ ) | (with_reducible refine foldl_touch ?_ ?_) | (with_reducible refine foldl_snd_touch ?_ ?_) | (with_reducible refine ite_touch ?_ ?_) | (with_reducible refine id_touch ?_) | intro _ _ | intro _ | dsimp only | split)

theorem State.adminTake_touch {q : AdminCmd} {s : State} {m_ : Nat} {b_ : State} (hm_ : Nat.land 5244928 m_ = 5244928) (ht_ : Touch m_ b_ s) :
    Touch m_ b_ (State.adminTake q s) := by
  unfold State.adminTake
  try dsimp only
  repeat' (first | with_reducible assumption | (exact sub_trans (by decide) hm_) | (with_reducible refine State.bump_touch ?_ ?_ ) | (with_reducible refine State.updFab_touch ?_ ?_ ) | (with_reducible refine State.updLocalPort_touch ?_ ?_) | (with_reducible refine ite_touch ?_ ?_) | (with_reducible refine id_touch ?_) | intro _ _ | intro _ | dsimp only | split)

theorem State.adminAgain_touch {r : Replay} {crc sqhd : Nat} {s : State} {m_ : Nat} {b_ : State} (hm_ : Nat.land 74972288 m_ = 74972288) (ht_ : Touch m_ b_ s) :
    Touch m_ b_ (State.adminAgain r crc sqhd s) := by
  unfold State.adminAgain
  try dsimp only
  repeat' (first | with_reducible assumption | (exact sub_trans (by decide) hm_) | (with_reducible refine State.afterError_touch ?_ ?_ ) | (with_reducible refine State.bump_touch ?_ ?_ ) | (with_reducible refine State.ctxError_touch ?_ ?_ ) | (with_reducible refine State.respond_touch ?_ ?_ ) | (with_reducible refine State.settle_touch ?_ ?_ ) | (with_reducible refine ite_touch ?_ ?_) | (with_reducible refine id_touch ?_) | intro _ _ | intro _ | dsimp only | split)

theorem State.adminRun_touch {q : AdminCmd} {f : State → State} {s : State} {m_ : Nat} {b_ : State} (hm_ : Nat.land 74972288 m_ = 74972288) (ht_ : Touch m_ b_ s) (hf_ : ∀ t_, Touch m_ b_ t_ → Touch m_ b_ (f t_)) :
    Touch m_ b_ (State.adminRun q f s) := by
  unfold State.adminRun
  try dsimp only
  repeat' (first | with_reducible assumption | (exact sub_trans (by decide) hm_) | (with_reducible refine State.adminAgain_touch ?_ ?_ ) | (with_reducible refine State.adminTake_touch ?_ ?_ ) | (with_reducible refine State.katoRestart_touch ?_ ?_ ) | (with_reducible refine ite_touch ?_ ?_) | (with_reducible refine id_touch ?_) | intro _ _ | intro _ | (refine hf_ _ ?_) | dsimp only | split)

theorem State.stopDma_touch {s : State} {m_ : Nat} {b_ : State} (hm_ : Nat.land 74710016 m_ = 74710016) (ht_ : Touch m_ b_ s) :
    Touch m_ b_ (State.stopDma s) := by
  unfold State.stopDma
  try dsimp only
  repeat' (first | with_reducible assumption | (exact sub_trans (by decide) hm_) | (with_reducible refine State.endQuiet_touch ?_ ?_ ) | (with_reducible refine State.settle_touch ?_ ?_ ) | (with_reducible refine State.stopCmd_touch ?_ ?_ ) | (with_reducible refine State.updCmds_touch ?_ ?_) | (with_reducible refine State.updLocalPort_touch ?_ ?_) | (with_reducible refine foldl_touch ?_ ?_) | (with_reducible refine foldl_snd_touch ?_ ?_) | (with_reducible refine ite_touch ?_ ?_) | (with_reducible refine id_touch ?_) | intro _ _ | intro _ | dsimp only | split)

end Sys2Proof.Machine
end

