-- ==== Sys2Proof/Laws/TouchConsistency.lean ====
section
/-! SUPPORT. What the operations of Machine/Consistency.lean can change: one lemma for each. -/
namespace Sys2Proof.Machine
set_option linter.all false

theorem State.dropReservation_touch {rec slot holder : Nat} {s : State} {m_ : Nat} {b_ : State} (hm_ : Nat.land 4096 m_ = 4096) (ht_ : Touch m_ b_ s) :
    Touch m_ b_ (State.dropReservation rec slot holder s) := by
  unfold State.dropReservation
  try dsimp only
  repeat' (first | with_reducible assumption | (exact sub_trans (by decide) hm_) | (with_reducible refine State.updExtent_touch ?_ ?_ ) | (with_reducible refine State.updCons_touch ?_ ?_) | (with_reducible refine ite_touch ?_ ?_) | (with_reducible refine id_touch ?_) | intro _ _ | intro _ | dsimp only | split)

theorem State.fixUpper_touch {r : StampReq} {s : State} {m_ : Nat} {b_ : State} (hm_ : Nat.land 71515136 m_ = 71515136) (ht_ : Touch m_ b_ s) :
    Touch m_ b_ (State.fixUpper r s) := by
  unfold State.fixUpper
  try dsimp only
  repeat' (first | with_reducible assumption | (exact sub_trans (by decide) hm_) | (with_reducible refine State.drainAll_touch ?_ ?_ ) | (with_reducible refine State.dropReservation_touch ?_ ?_ ) | (with_reducible refine State.enterPart_touch ?_ ?_ ) | (refine snd_touch (by with_reducible assumption) (State.enterPart_touch ?_ ?_ )) | (with_reducible refine State.tellStamp_touch ?_ ?_ ) | (with_reducible refine State.updExtent_touch ?_ ?_ ) | (with_reducible refine ite_touch ?_ ?_) | (with_reducible refine id_touch ?_) | intro _ _ | intro _ | dsimp only | split)

theorem execStampRequest_touch {r : StampReq} {send : List SendRec} {s : State} {t_ : State} (h_ : execStampRequest r send s = .next t_) : Touch 74710016 s t_ := by
  have hm_ : Nat.land 74710016 74710016 = 74710016 := by decide
  have ht_ := Touch.refl 74710016 s
  unfold execStampRequest at h_
  repeat' (first | (obtain rfl := next_inj h_; clear h_) | (obtain rfl := bounded_next h_; clear h_) | dsimp only at h_ | split at h_)
  all_goals try dsimp only
  repeat' (first | with_reducible assumption | (exact sub_trans (by decide) hm_) | (with_reducible refine State.drainAll_touch ?_ ?_ ) | (with_reducible refine State.dropReservation_touch ?_ ?_ ) | (with_reducible refine State.fixUpper_touch ?_ ?_ ) | (with_reducible refine State.request_touch ?_ ?_ ) | (with_reducible refine State.send_touch ?_ ?_ ) | (with_reducible refine State.settIn_touch ?_ ?_ ?_ ) | (with_reducible refine State.settSend_touch ?_ ?_ ) | (with_reducible refine State.settle_touch ?_ ?_ ) | (with_reducible refine State.updPair_touch ?_ ?_) | (with_reducible refine ite_touch ?_ ?_) | (with_reducible refine id_touch ?_) | intro _ _ | intro _ | dsimp only | split)

theorem State.admitLower_touch {slot : Nat} {p : Nat} {s : State} {m_ : Nat} {b_ : State} (hm_ : Nat.land 71515136 m_ = 71515136) (ht_ : Touch m_ b_ s) :
    Touch m_ b_ (State.admitLower slot p s) := by
  unfold State.admitLower
  try dsimp only
  repeat' (first | with_reducible assumption | (exact sub_trans (by decide) hm_) | (with_reducible refine State.bump_touch ?_ ?_ ) | (with_reducible refine State.countWait_touch ?_ ?_ ) | (with_reducible refine State.enterPart_touch ?_ ?_ ) | (refine snd_touch (by with_reducible assumption) (State.enterPart_touch ?_ ?_ )) | (with_reducible refine State.issueStamp_touch ?_ ?_ ) | (refine snd_touch (by with_reducible assumption) (State.issueStamp_touch ?_ ?_ )) | (with_reducible refine State.settSend_touch ?_ ?_ ) | (with_reducible refine State.tellStamp_touch ?_ ?_ ) | (with_reducible refine State.updExtent_touch ?_ ?_ ) | (with_reducible refine ite_touch ?_ ?_) | (with_reducible refine id_touch ?_) | intro _ _ | intro _ | dsimp only | split)

theorem State.takeLslots_touch {slot : Nat} {ls : List Nat} {s : State} {m_ : Nat} {b_ : State} (hm_ : Nat.land 2048 m_ = 2048) (ht_ : Touch m_ b_ s) :
    Touch m_ b_ (State.takeLslots slot ls s) := by
  unfold State.takeLslots
  try dsimp only
  repeat' (first | with_reducible assumption | (exact sub_trans (by decide) hm_) | (with_reducible refine State.updSlot_touch ?_ ?_ ) | (with_reducible refine ite_touch ?_ ?_) | (with_reducible refine id_touch ?_) | intro _ _ | intro _ | dsimp only | split)

theorem execStampReply_touch {slot : Nat} {stamp : BitVec 64} {waits : Nat} {part : Nat} {moved : Bool} {lslots : List Nat} {s : State} {t_ : State} (h_ : execStampReply slot stamp waits part moved lslots s = .next t_) : Touch 74710016 s t_ := by
  have hm_ : Nat.land 74710016 74710016 = 74710016 := by decide
  have ht_ := Touch.refl 74710016 s
  unfold execStampReply at h_
  repeat' (first | (obtain rfl := next_inj h_; clear h_) | (obtain rfl := bounded_next h_; clear h_) | dsimp only at h_ | split at h_)
  all_goals try dsimp only
  repeat' (first | with_reducible assumption | (exact sub_trans (by decide) hm_) | (with_reducible refine State.admitLower_touch ?_ ?_ ) | (with_reducible refine State.endQuiet_touch ?_ ?_ ) | (with_reducible refine State.giveStamp_touch ?_ ?_ ) | (with_reducible refine State.goCheck_touch ?_ ?_ ) | (with_reducible refine State.settIn_touch ?_ ?_ ?_ ) | (with_reducible refine State.settle_touch ?_ ?_ ) | (with_reducible refine State.stageFive_touch ?_ ?_ ) | (with_reducible refine State.takeLslots_touch ?_ ?_ ) | (with_reducible refine State.updSlot_touch ?_ ?_ ) | (with_reducible refine ite_touch ?_ ?_) | (with_reducible refine id_touch ?_) | intro _ _ | intro _ | dsimp only | split)

theorem execGo_touch {slot : Nat} {_part : Nat} {s : State} {t_ : State} (h_ : execGo slot _part s = .next t_) : Touch 74710016 s t_ := by
  have hm_ : Nat.land 74710016 74710016 = 74710016 := by decide
  have ht_ := Touch.refl 74710016 s
  unfold execGo at h_
  repeat' (first | (obtain rfl := next_inj h_; clear h_) | (obtain rfl := bounded_next h_; clear h_) | dsimp only at h_ | split at h_)
  all_goals try dsimp only
  repeat' (first | with_reducible assumption | (exact sub_trans (by decide) hm_) | (with_reducible refine State.goCheck_touch ?_ ?_ ) | (with_reducible refine State.settIn_touch ?_ ?_ ?_ ) | (with_reducible refine State.settle_touch ?_ ?_ ) | (with_reducible refine State.updSlot_touch ?_ ?_ ) | (with_reducible refine ite_touch ?_ ?_) | (with_reducible refine id_touch ?_) | intro _ _ | intro _ | dsimp only | split)

theorem execWithdrawal_touch {slot : Nat} {handle : Nat} {slba : Nat} {s : State} {t_ : State} (h_ : execWithdrawal slot handle slba s = .next t_) : Touch 71515136 s t_ := by
  have hm_ : Nat.land 71515136 71515136 = 71515136 := by decide
  have ht_ := Touch.refl 71515136 s
  unfold execWithdrawal at h_
  repeat' (first | (obtain rfl := next_inj h_; clear h_) | (obtain rfl := bounded_next h_; clear h_) | dsimp only at h_ | split at h_)
  all_goals try dsimp only
  repeat' (first | with_reducible assumption | (exact sub_trans (by decide) hm_) | (with_reducible refine State.drainAll_touch ?_ ?_ ) | (with_reducible refine State.settIn_touch ?_ ?_ ?_ ) | (with_reducible refine State.settSend_touch ?_ ?_ ) | (with_reducible refine State.updExtent_touch ?_ ?_ ) | (with_reducible refine ite_touch ?_ ?_) | (with_reducible refine id_touch ?_) | intro _ _ | intro _ | dsimp only | split)

theorem execWithdrawalReply_touch {slot : Nat} {withdrawn : Bool} {s : State} {t_ : State} (h_ : execWithdrawalReply slot withdrawn s = .next t_) : Touch 74710016 s t_ := by
  have hm_ : Nat.land 74710016 74710016 = 74710016 := by decide
  have ht_ := Touch.refl 74710016 s
  unfold execWithdrawalReply at h_
  repeat' (first | (obtain rfl := next_inj h_; clear h_) | (obtain rfl := bounded_next h_; clear h_) | dsimp only at h_ | split at h_)
  all_goals try dsimp only
  repeat' (first | with_reducible assumption | (exact sub_trans (by decide) hm_) | (with_reducible refine State.adminDone_touch ?_ ?_ ) | (with_reducible refine State.bump_touch ?_ ?_ ) | (with_reducible refine State.endErr_touch ?_ ?_ ) | (with_reducible refine State.endQuiet_touch ?_ ?_ ) | (with_reducible refine State.settIn_touch ?_ ?_ ?_ ) | (with_reducible refine State.settle_touch ?_ ?_ ) | (with_reducible refine State.updFab_touch ?_ ?_ ) | (with_reducible refine State.updSlot_touch ?_ ?_ ) | (with_reducible refine ite_touch ?_ ?_) | (with_reducible refine id_touch ?_) | intro _ _ | intro _ | dsimp only | split)

theorem execStampRecord_touch {slot : Nat} {stamp : BitVec 64} {handle : Nat} {slba : Nat} {nlb : Nat} {send : List SendRec} {s : State} {t_ : State} (h_ : execStampRecord slot stamp handle slba nlb send s = .next t_) : Touch 67244032 s t_ := by
  have hm_ : Nat.land 67244032 67244032 = 67244032 := by decide
  have ht_ := Touch.refl 67244032 s
  unfold execStampRecord at h_
  repeat' (first | (obtain rfl := next_inj h_; clear h_) | (obtain rfl := bounded_next h_; clear h_) | dsimp only at h_ | split at h_)
  all_goals try dsimp only
  repeat' (first | with_reducible assumption | (exact sub_trans (by decide) hm_) | (with_reducible refine State.send_touch ?_ ?_ ) | (with_reducible refine State.settIn_touch ?_ ?_ ?_ ) | (with_reducible refine State.settSend_touch ?_ ?_ ) | (with_reducible refine State.updCons_touch ?_ ?_) | (with_reducible refine State.updPair_touch ?_ ?_) | (with_reducible refine ite_touch ?_ ?_) | (with_reducible refine id_touch ?_) | intro _ _ | intro _ | dsimp only | split)

theorem execStampRecordConfirmation_touch {slot : Nat} {s : State} {t_ : State} (h_ : execStampRecordConfirmation slot s = .next t_) : Touch 74710016 s t_ := by
  have hm_ : Nat.land 74710016 74710016 = 74710016 := by decide
  have ht_ := Touch.refl 74710016 s
  unfold execStampRecordConfirmation at h_
  repeat' (first | (obtain rfl := next_inj h_; clear h_) | (obtain rfl := bounded_next h_; clear h_) | dsimp only at h_ | split at h_)
  all_goals try dsimp only
  repeat' (first | with_reducible assumption | (exact sub_trans (by decide) hm_) | (with_reducible refine State.settIn_touch ?_ ?_ ?_ ) | (with_reducible refine State.settle_touch ?_ ?_ ) | (with_reducible refine State.updSlot_touch ?_ ?_ ) | (with_reducible refine ite_touch ?_ ?_) | (with_reducible refine id_touch ?_) | intro _ _ | intro _ | dsimp only | split)

theorem execFenceExpiry_touch {s : State} {t_ : State} (h_ : execFenceExpiry s = .next t_) : Touch 4198400 s t_ := by
  have hm_ : Nat.land 4198400 4198400 = 4198400 := by decide
  have ht_ := Touch.refl 4198400 s
  unfold execFenceExpiry at h_
  repeat' (first | (obtain rfl := next_inj h_; clear h_) | (obtain rfl := bounded_next h_; clear h_) | dsimp only at h_ | split at h_)
  all_goals try dsimp only
  repeat' (first | with_reducible assumption | (exact sub_trans (by decide) hm_) | (with_reducible refine State.bump_touch ?_ ?_ ) | (with_reducible refine State.updCons_touch ?_ ?_) | (with_reducible refine ite_touch ?_ ?_) | (with_reducible refine id_touch ?_) | intro _ _ | intro _ | dsimp only | split)

theorem State.fenceRestart_touch {s : State} {m_ : Nat} {b_ : State} (hm_ : Nat.land 74710016 m_ = 74710016) (ht_ : Touch m_ b_ s) :
    Touch m_ b_ (State.fenceRestart s) := by
  unfold State.fenceRestart
  try dsimp only
  repeat' (first | with_reducible assumption | (exact sub_trans (by decide) hm_) | (with_reducible refine State.drainAll_touch ?_ ?_ ) | (with_reducible refine State.settle_touch ?_ ?_ ) | (with_reducible refine State.updCons_touch ?_ ?_) | (with_reducible refine ite_touch ?_ ?_) | (with_reducible refine id_touch ?_) | intro _ _ | intro _ | dsimp only | split)

theorem execReadPinExpiry_touch {entry : Nat} {s : State} {t_ : State} (h_ : execReadPinExpiry entry s = .next t_) : Touch 74710016 s t_ := by
  have hm_ : Nat.land 74710016 74710016 = 74710016 := by decide
  have ht_ := Touch.refl 74710016 s
  unfold execReadPinExpiry at h_
  repeat' (first | (obtain rfl := next_inj h_; clear h_) | (obtain rfl := bounded_next h_; clear h_) | dsimp only at h_ | split at h_)
  all_goals try dsimp only
  repeat' (first | with_reducible assumption | (exact sub_trans (by decide) hm_) | (with_reducible refine State.bump_touch ?_ ?_ ) | (with_reducible refine State.drainAll_touch ?_ ?_ ) | (with_reducible refine State.releaseCovered_touch ?_ ?_ ) | (with_reducible refine State.settle_touch ?_ ?_ ) | (with_reducible refine State.updCons_touch ?_ ?_) | (with_reducible refine ite_touch ?_ ?_) | (with_reducible refine id_touch ?_) | intro _ _ | intro _ | dsimp only | split)

theorem execEpochRaise_touch {epoch : Nat} {s : State} {t_ : State} (h_ : execEpochRaise epoch s = .next t_) : Touch 71512064 s t_ := by
  have hm_ : Nat.land 71512064 71512064 = 71512064 := by decide
  have ht_ := Touch.refl 71512064 s
  unfold execEpochRaise at h_
  repeat' (first | (obtain rfl := next_inj h_; clear h_) | (obtain rfl := bounded_next h_; clear h_) | dsimp only at h_ | split at h_)
  all_goals try dsimp only
  repeat' (first | with_reducible assumption | (exact sub_trans (by decide) hm_) | (with_reducible refine State.applyEpoch_touch ?_ ?_ ) | (with_reducible refine State.settIn_touch ?_ ?_ ?_ ) | (with_reducible refine ite_touch ?_ ?_) | (with_reducible refine id_touch ?_) | intro _ _ | intro _ | dsimp only | split)

theorem State.startMove_touch {handle extNo target : Nat} {s : State} {m_ : Nat} {b_ : State} (hm_ : Nat.land 67244032 m_ = 67244032) (ht_ : Touch m_ b_ s) :
    Touch m_ b_ (State.startMove handle extNo target s) := by
  unfold State.startMove
  try dsimp only
  repeat' (first | with_reducible assumption | (exact sub_trans (by decide) hm_) | (with_reducible refine State.settSend_touch ?_ ?_ ) | (with_reducible refine State.updExtent_touch ?_ ?_ ) | (with_reducible refine State.updCons_touch ?_ ?_) | (with_reducible refine ite_touch ?_ ?_) | (with_reducible refine id_touch ?_) | intro _ _ | intro _ | dsimp only | split)

theorem execAutoBalanceMove_touch {partnerMoving : Bool} {s : State} {t_ : State} (h_ : execAutoBalanceMove partnerMoving s = .next t_) : Touch 67244032 s t_ := by
  have hm_ : Nat.land 67244032 67244032 = 67244032 := by decide
  have ht_ := Touch.refl 67244032 s
  unfold execAutoBalanceMove at h_
  repeat' (first | (obtain rfl := next_inj h_; clear h_) | (obtain rfl := bounded_next h_; clear h_) | dsimp only at h_ | split at h_)
  all_goals try dsimp only
  repeat' (first | with_reducible assumption | (exact sub_trans (by decide) hm_) | (with_reducible refine State.startMove_touch ?_ ?_ ) | (with_reducible refine ite_touch ?_ ?_) | (with_reducible refine id_touch ?_) | intro _ _ | intro _ | dsimp only | split)

theorem State.answerMoved_touch {rec : Nat} {s : State} {m_ : Nat} {b_ : State} (hm_ : Nat.land 71515136 m_ = 71515136) (ht_ : Touch m_ b_ s) :
    Touch m_ b_ (State.answerMoved rec s) := by
  unfold State.answerMoved
  try dsimp only
  repeat' (first | with_reducible assumption | (exact sub_trans (by decide) hm_) | (with_reducible refine State.settSend_touch ?_ ?_ ) | (with_reducible refine State.stageFive_touch ?_ ?_ ) | (with_reducible refine State.updExtent_touch ?_ ?_ ) | (with_reducible refine foldl_touch ?_ ?_) | (with_reducible refine foldl_snd_touch ?_ ?_) | (with_reducible refine ite_touch ?_ ?_) | (with_reducible refine id_touch ?_) | intro _ _ | intro _ | dsimp only | split)

theorem execLeaseDrainComplete_touch {s : State} {t_ : State} (h_ : execLeaseDrainComplete s = .next t_) : Touch 74710016 s t_ := by
  have hm_ : Nat.land 74710016 74710016 = 74710016 := by decide
  have ht_ := Touch.refl 74710016 s
  unfold execLeaseDrainComplete at h_
  repeat' (first | (obtain rfl := next_inj h_; clear h_) | (obtain rfl := bounded_next h_; clear h_) | dsimp only at h_ | split at h_)
  all_goals try dsimp only
  repeat' (first | with_reducible assumption | (exact sub_trans (by decide) hm_) | (with_reducible refine State.answerMoved_touch ?_ ?_ ) | (with_reducible refine State.bump_touch ?_ ?_ ) | (with_reducible refine State.settSend_touch ?_ ?_ ) | (with_reducible refine State.settle_touch ?_ ?_ ) | (with_reducible refine State.updExtent_touch ?_ ?_ ) | (with_reducible refine State.updCons_touch ?_ ?_) | (with_reducible refine ite_touch ?_ ?_) | (with_reducible refine id_touch ?_) | intro _ _ | intro _ | dsimp only | split)

theorem execLeaseMoveTimeout_touch {s : State} {t_ : State} (h_ : execLeaseMoveTimeout s = .next t_) : Touch 74710016 s t_ := by
  have hm_ : Nat.land 74710016 74710016 = 74710016 := by decide
  have ht_ := Touch.refl 74710016 s
  unfold execLeaseMoveTimeout at h_
  repeat' (first | (obtain rfl := next_inj h_; clear h_) | (obtain rfl := bounded_next h_; clear h_) | dsimp only at h_ | split at h_)
  all_goals try dsimp only
  repeat' (first | with_reducible assumption | (exact sub_trans (by decide) hm_) | (with_reducible refine State.bump_touch ?_ ?_ ) | (with_reducible refine State.drainAll_touch ?_ ?_ ) | (with_reducible refine State.settSend_touch ?_ ?_ ) | (with_reducible refine State.settle_touch ?_ ?_ ) | (with_reducible refine State.updExtent_touch ?_ ?_ ) | (with_reducible refine State.updCons_touch ?_ ?_) | (with_reducible refine ite_touch ?_ ?_) | (with_reducible refine id_touch ?_) | intro _ _ | intro _ | dsimp only | split)

theorem execLeasePhase_touch {phase : Nat} {handle : Nat} {extNo : Nat} {target : Nat} {s : State} {t_ : State} (h_ : execLeasePhase phase handle extNo target s = .next t_) : Touch 74710016 s t_ := by
  have hm_ : Nat.land 74710016 74710016 = 74710016 := by decide
  have ht_ := Touch.refl 74710016 s
  unfold execLeasePhase at h_
  repeat' (first | (obtain rfl := next_inj h_; clear h_) | (obtain rfl := bounded_next h_; clear h_) | dsimp only at h_ | split at h_)
  all_goals try dsimp only
  repeat' (first | with_reducible assumption | (exact sub_trans (by decide) hm_) | (with_reducible refine State.drainAll_touch ?_ ?_ ) | (with_reducible refine State.settIn_touch ?_ ?_ ?_ ) | (with_reducible refine State.settle_touch ?_ ?_ ) | (with_reducible refine State.startMove_touch ?_ ?_ ) | (with_reducible refine State.updExtent_touch ?_ ?_ ) | (with_reducible refine State.updCons_touch ?_ ?_) | (with_reducible refine ite_touch ?_ ?_) | (with_reducible refine id_touch ?_) | intro _ _ | intro _ | dsimp only | split)

theorem execLarderSlotReserve_touch {s : State} {t_ : State} (h_ : execLarderSlotReserve s = .next t_) : Touch 74710016 s t_ := by
  have hm_ : Nat.land 74710016 74710016 = 74710016 := by decide
  have ht_ := Touch.refl 74710016 s
  unfold execLarderSlotReserve at h_
  repeat' (first | (obtain rfl := next_inj h_; clear h_) | (obtain rfl := bounded_next h_; clear h_) | dsimp only at h_ | split at h_)
  all_goals try dsimp only
  repeat' (first | with_reducible assumption | (exact sub_trans (by decide) hm_) | (with_reducible refine State.beginWrite_touch ?_ ?_ ) | (with_reducible refine State.settle_touch ?_ ?_ ) | (with_reducible refine ite_touch ?_ ?_) | (with_reducible refine id_touch ?_) | intro _ _ | intro _ | dsimp only | split)

theorem execLarderPlacement_touch {slot : Nat} {s : State} {t_ : State} (h_ : execLarderPlacement slot s = .next t_) : Touch 74710016 s t_ := by
  have hm_ : Nat.land 74710016 74710016 = 74710016 := by decide
  have ht_ := Touch.refl 74710016 s
  unfold execLarderPlacement at h_
  repeat' (first | (obtain rfl := next_inj h_; clear h_) | (obtain rfl := bounded_next h_; clear h_) | dsimp only at h_ | split at h_)
  all_goals try dsimp only
  repeat' (first | with_reducible assumption | (exact sub_trans (by decide) hm_) | (with_reducible refine State.placeWrite_touch ?_ ?_ ) | (with_reducible refine State.settle_touch ?_ ?_ ) | (with_reducible refine ite_touch ?_ ?_) | (with_reducible refine id_touch ?_) | intro _ _ | intro _ | dsimp only | split)

theorem execMirrorRecord_touch {m : MirrorMsg} {s : State} {t_ : State} (h_ : execMirrorRecord m s = .next t_) : Touch 67248128 s t_ := by
  have hm_ : Nat.land 67248128 67248128 = 67248128 := by decide
  have ht_ := Touch.refl 67248128 s
  unfold execMirrorRecord at h_
  repeat' (first | (obtain rfl := next_inj h_; clear h_) | (obtain rfl := bounded_next h_; clear h_) | dsimp only at h_ | split at h_)
  all_goals try dsimp only
  repeat' (first | with_reducible assumption | (exact sub_trans (by decide) hm_) | (with_reducible refine State.send_touch ?_ ?_ ) | (with_reducible refine State.settIn_touch ?_ ?_ ?_ ) | (with_reducible refine State.settSend_touch ?_ ?_ ) | (with_reducible refine State.when_touch ?_ ?_) | (with_reducible refine State.updLayout_touch ?_ ?_) | (with_reducible refine State.updPair_touch ?_ ?_) | (with_reducible refine foldl_touch ?_ ?_) | (with_reducible refine foldl_snd_touch ?_ ?_) | (with_reducible refine ite_touch ?_ ?_) | (with_reducible refine id_touch ?_) | intro _ _ | intro _ | dsimp only | split)

theorem execMirrorConfirmation_touch {slot : Nat} {s : State} {t_ : State} (h_ : execMirrorConfirmation slot s = .next t_) : Touch 74710016 s t_ := by
  have hm_ : Nat.land 74710016 74710016 = 74710016 := by decide
  have ht_ := Touch.refl 74710016 s
  unfold execMirrorConfirmation at h_
  repeat' (first | (obtain rfl := next_inj h_; clear h_) | (obtain rfl := bounded_next h_; clear h_) | dsimp only at h_ | split at h_)
  all_goals try dsimp only
  repeat' (first | with_reducible assumption | (exact sub_trans (by decide) hm_) | (with_reducible refine State.mirrorDone_touch ?_ ?_ ) | (with_reducible refine State.settIn_touch ?_ ?_ ?_ ) | (with_reducible refine State.settle_touch ?_ ?_ ) | (with_reducible refine ite_touch ?_ ?_) | (with_reducible refine id_touch ?_) | intro _ _ | intro _ | dsimp only | split)

theorem execRelease_touch {slots : List Nat} {s : State} {t_ : State} (h_ : execRelease slots s = .next t_) : Touch 67248128 s t_ := by
  have hm_ : Nat.land 67248128 67248128 = 67248128 := by decide
  have ht_ := Touch.refl 67248128 s
  unfold execRelease at h_
  repeat' (first | (obtain rfl := next_inj h_; clear h_) | (obtain rfl := bounded_next h_; clear h_) | dsimp only at h_ | split at h_)
  all_goals try dsimp only
  repeat' (first | with_reducible assumption | (exact sub_trans (by decide) hm_) | (with_reducible refine State.settIn_touch ?_ ?_ ?_ ) | (with_reducible refine State.updLayout_touch ?_ ?_) | (with_reducible refine ite_touch ?_ ?_) | (with_reducible refine id_touch ?_) | intro _ _ | intro _ | dsimp only | split)

theorem execReleaseBatchTimer_touch {s : State} {t_ : State} (h_ : execReleaseBatchTimer s = .next t_) : Touch 67248128 s t_ := by
  have hm_ : Nat.land 67248128 67248128 = 67248128 := by decide
  have ht_ := Touch.refl 67248128 s
  unfold execReleaseBatchTimer at h_
  repeat' (first | (obtain rfl := next_inj h_; clear h_) | (obtain rfl := bounded_next h_; clear h_) | dsimp only at h_ | split at h_)
  all_goals try dsimp only
  repeat' (first | with_reducible assumption | (exact sub_trans (by decide) hm_) | (with_reducible refine State.flushReleases_touch ?_ ?_ ) | (with_reducible refine ite_touch ?_ ?_) | (with_reducible refine id_touch ?_) | intro _ _ | intro _ | dsimp only | split)

theorem execSynchronisationCopy_touch {lslot : Nat} {s : State} {t_ : State} (h_ : execSynchronisationCopy lslot s = .next t_) : Touch 67248128 s t_ := by
  have hm_ : Nat.land 67248128 67248128 = 67248128 := by decide
  have ht_ := Touch.refl 67248128 s
  unfold execSynchronisationCopy at h_
  repeat' (first | (obtain rfl := next_inj h_; clear h_) | (obtain rfl := bounded_next h_; clear h_) | dsimp only at h_ | split at h_)
  all_goals try dsimp only
  repeat' (first | with_reducible assumption | (exact sub_trans (by decide) hm_) | (with_reducible refine State.settSend_touch ?_ ?_ ) | (with_reducible refine State.updLayout_touch ?_ ?_) | (with_reducible refine ite_touch ?_ ?_) | (with_reducible refine id_touch ?_) | intro _ _ | intro _ | dsimp only | split)

theorem execForwardedData_touch {m : MirrorMsg} {s : State} {t_ : State} (h_ : execForwardedData m s = .next t_) : Touch 74710016 s t_ := by
  have hm_ : Nat.land 74710016 74710016 = 74710016 := by decide
  have ht_ := Touch.refl 74710016 s
  unfold execForwardedData at h_
  repeat' (first | (obtain rfl := next_inj h_; clear h_) | (obtain rfl := bounded_next h_; clear h_) | dsimp only at h_ | split at h_)
  all_goals try dsimp only
  repeat' (first | with_reducible assumption | (exact sub_trans (by decide) hm_) | (with_reducible refine State.heal_touch ?_ ?_ ) | (with_reducible refine State.insertVersions_touch ?_ ?_ ) | (with_reducible refine State.placedOvl_touch ?_ ?_ ) | (with_reducible refine State.releaseCovered_touch ?_ ?_ ) | (with_reducible refine State.rule3Update_touch ?_ ?_ ) | (with_reducible refine State.settIn_touch ?_ ?_ ?_ ) | (with_reducible refine State.settSend_touch ?_ ?_ ) | (with_reducible refine State.settle_touch ?_ ?_ ) | (with_reducible refine State.updLayout_touch ?_ ?_) | (with_reducible refine ite_touch ?_ ?_) | (with_reducible refine id_touch ?_) | intro _ _ | intro _ | dsimp only | split)

theorem execPlacementConfirmation_touch {slot : Nat} {s : State} {t_ : State} (h_ : execPlacementConfirmation slot s = .next t_) : Touch 74710016 s t_ := by
  have hm_ : Nat.land 74710016 74710016 = 74710016 := by decide
  have ht_ := Touch.refl 74710016 s
  unfold execPlacementConfirmation at h_
  repeat' (first | (obtain rfl := next_inj h_; clear h_) | (obtain rfl := bounded_next h_; clear h_) | dsimp only at h_ | split at h_)
  all_goals try dsimp only
  repeat' (first | with_reducible assumption | (exact sub_trans (by decide) hm_) | (with_reducible refine State.forwardDone_touch ?_ ?_ ) | (with_reducible refine State.settIn_touch ?_ ?_ ?_ ) | (with_reducible refine State.settle_touch ?_ ?_ ) | (with_reducible refine ite_touch ?_ ?_) | (with_reducible refine id_touch ?_) | intro _ _ | intro _ | dsimp only | split)

end Sys2Proof.Machine
end

