-- ==== Sys2Proof/Laws/TouchEnclaveOps.lean ====
section
/-! SUPPORT. What the operations of Machine/EnclaveOps.lean can change: one lemma for each. -/
namespace Sys2Proof.Machine
set_option linter.all false

theorem State.dropKey_touch {h g : Nat} {s : State} {m_ : Nat} {b_ : State} (hm_ : Nat.land 49152 m_ = 49152) (ht_ : Touch m_ b_ s) :
    Touch m_ b_ (State.dropKey h g s) := by
  unfold State.dropKey
  try dsimp only
  repeat' (first | with_reducible assumption | (exact sub_trans (by decide) hm_) | (with_reducible refine State.updGen_touch ?_ ?_ ) | (with_reducible refine State.updEnclave_touch ?_ ?_) | (with_reducible refine ite_touch ?_ ?_) | (with_reducible refine id_touch ?_) | intro _ _ | intro _ | dsimp only | split)

theorem State.makeRoom_touch {s : State} {m_ : Nat} {b_ : State} (hm_ : Nat.land 49152 m_ = 49152) (ht_ : Touch m_ b_ s) :
    Touch m_ b_ (State.makeRoom s) := by
  unfold State.makeRoom
  try dsimp only
  repeat' (first | with_reducible assumption | (exact sub_trans (by decide) hm_) | (with_reducible refine State.dropKey_touch ?_ ?_ ) | (with_reducible refine ite_touch ?_ ?_) | (with_reducible refine id_touch ?_) | intro _ _ | intro _ | dsimp only | split)

theorem State.installKey_touch {h g key : Nat} {s : State} {m_ : Nat} {b_ : State} (hm_ : Nat.land 49152 m_ = 49152) (ht_ : Touch m_ b_ s) :
    Touch m_ b_ (State.installKey h g key s) := by
  unfold State.installKey
  try dsimp only
  repeat' (first | with_reducible assumption | (exact sub_trans (by decide) hm_) | (with_reducible refine State.makeRoom_touch ?_ ?_ ) | (with_reducible refine State.updGen_touch ?_ ?_ ) | (with_reducible refine State.updEnclave_touch ?_ ?_) | (with_reducible refine ite_touch ?_ ?_) | (with_reducible refine id_touch ?_) | intro _ _ | intro _ | dsimp only | split)

theorem State.keyReady_touch {h : Nat} {s : State} {m_ : Nat} {b_ : State} (hm_ : Nat.land 74710016 m_ = 74710016) (ht_ : Touch m_ b_ s) :
    Touch m_ b_ (State.keyReady h s) := by
  unfold State.keyReady
  try dsimp only
  repeat' (first | with_reducible assumption | (exact sub_trans (by decide) hm_) | (with_reducible refine State.blockIn_touch ?_ ?_ ) | (with_reducible refine State.settle_touch ?_ ?_ ) | (with_reducible refine State.versionIn_touch ?_ ?_ ) | (with_reducible refine State.updCipher_touch ?_ ?_) | (with_reducible refine foldl_touch ?_ ?_) | (with_reducible refine foldl_snd_touch ?_ ?_) | (with_reducible refine ite_touch ?_ ?_) | (with_reducible refine id_touch ?_) | intro _ _ | intro _ | dsimp only | split)

theorem State.dirHeader_touch {n : Nat} {s : State} {m_ : Nat} {b_ : State} (hm_ : Nat.land 65540 m_ = 65540) (ht_ : Touch m_ b_ s) :
    Touch m_ b_ (State.dirHeader n s) := by
  unfold State.dirHeader
  try dsimp only
  repeat' (first | with_reducible assumption | (exact sub_trans (by decide) hm_) | (with_reducible refine State.submit_touch ?_ ?_ ) | (with_reducible refine State.updKeep_touch ?_ ?_) | (with_reducible refine foldl_touch ?_ ?_) | (with_reducible refine foldl_snd_touch ?_ ?_) | (with_reducible refine ite_touch ?_ ?_) | (with_reducible refine id_touch ?_) | intro _ _ | intro _ | dsimp only | split)

theorem State.takeShelfKey_touch {key gen : Nat} {s : State} {m_ : Nat} {b_ : State} (hm_ : Nat.land 98308 m_ = 98308) (ht_ : Touch m_ b_ s) :
    Touch m_ b_ (State.takeShelfKey key gen s) := by
  unfold State.takeShelfKey
  try dsimp only
  repeat' (first | with_reducible assumption | (exact sub_trans (by decide) hm_) | (with_reducible refine State.dirHeader_touch ?_ ?_ ) | (with_reducible refine State.updEnclave_touch ?_ ?_) | (with_reducible refine foldl_touch ?_ ?_) | (with_reducible refine foldl_snd_touch ?_ ?_) | (with_reducible refine ite_touch ?_ ?_) | (with_reducible refine id_touch ?_) | intro _ _ | intro _ | dsimp only | split)

theorem State.putGen_touch {h g origin wrapped salt : Nat} {s : State} {m_ : Nat} {b_ : State} (hm_ : Nat.land 81920 m_ = 81920) (ht_ : Touch m_ b_ s) :
    Touch m_ b_ (State.putGen h g origin wrapped salt s) := by
  unfold State.putGen
  try dsimp only
  repeat' (first | with_reducible assumption | (exact sub_trans (by decide) hm_) | (with_reducible refine State.dirWrite_touch ?_ ?_ ) | (with_reducible refine State.updNs_touch ?_ ?_ ) | (with_reducible refine foldl_touch ?_ ?_) | (with_reducible refine foldl_snd_touch ?_ ?_) | (with_reducible refine ite_touch ?_ ?_) | (with_reducible refine id_touch ?_) | intro _ _ | intro _ | dsimp only | split)

theorem State.deriveGen_touch {h g : Nat} {s : State} {m_ : Nat} {b_ : State} (hm_ : Nat.land 33669120 m_ = 33669120) (ht_ : Touch m_ b_ s) :
    Touch m_ b_ (State.deriveGen h g s) := by
  unfold State.deriveGen
  try dsimp only
  repeat' (first | with_reducible assumption | (exact sub_trans (by decide) hm_) | (with_reducible refine State.draw_touch ?_ ?_ ) | (with_reducible refine State.installKey_touch ?_ ?_ ) | (with_reducible refine State.putGen_touch ?_ ?_ ) | (with_reducible refine ite_touch ?_ ?_) | (with_reducible refine id_touch ?_) | intro _ _ | intro _ | dsimp only | split)

theorem State.importGen_touch {h g key : Nat} {s : State} {m_ : Nat} {b_ : State} (hm_ : Nat.land 33669120 m_ = 33669120) (ht_ : Touch m_ b_ s) :
    Touch m_ b_ (State.importGen h g key s) := by
  unfold State.importGen
  try dsimp only
  repeat' (first | with_reducible assumption | (exact sub_trans (by decide) hm_) | (with_reducible refine State.draw_touch ?_ ?_ ) | (with_reducible refine State.installKey_touch ?_ ?_ ) | (with_reducible refine State.putGen_touch ?_ ?_ ) | (with_reducible refine ite_touch ?_ ?_) | (with_reducible refine id_touch ?_) | intro _ _ | intro _ | dsimp only | split)

theorem State.sweepGen_touch {h g : Nat} {s : State} {m_ : Nat} {b_ : State} (hm_ : Nat.land 16384 m_ = 16384) (ht_ : Touch m_ b_ s) :
    Touch m_ b_ (State.sweepGen h g s) := by
  unfold State.sweepGen
  try dsimp only
  repeat' (first | with_reducible assumption | (exact sub_trans (by decide) hm_) | (with_reducible refine State.updGen_touch ?_ ?_ ) | (with_reducible refine ite_touch ?_ ?_) | (with_reducible refine id_touch ?_) | intro _ _ | intro _ | dsimp only | split)

theorem State.eraseNsKeys_touch {h : Nat} {s : State} {m_ : Nat} {b_ : State} (hm_ : Nat.land 114688 m_ = 114688) (ht_ : Touch m_ b_ s) :
    Touch m_ b_ (State.eraseNsKeys h s) := by
  unfold State.eraseNsKeys
  try dsimp only
  repeat' (first | with_reducible assumption | (exact sub_trans (by decide) hm_) | (with_reducible refine State.dirWrite_touch ?_ ?_ ) | (with_reducible refine State.updNs_touch ?_ ?_ ) | (with_reducible refine State.updEnclave_touch ?_ ?_) | (with_reducible refine foldl_touch ?_ ?_) | (with_reducible refine foldl_snd_touch ?_ ?_) | (with_reducible refine ite_touch ?_ ?_) | (with_reducible refine id_touch ?_) | intro _ _ | intro _ | dsimp only | split)

theorem State.eraseKeys_touch {s : State} {m_ : Nat} {b_ : State} (hm_ : Nat.land 49152 m_ = 49152) (ht_ : Touch m_ b_ s) :
    Touch m_ b_ (State.eraseKeys s) := by
  unfold State.eraseKeys
  try dsimp only
  repeat' (first | with_reducible assumption | (exact sub_trans (by decide) hm_) | (with_reducible refine State.updCipher_touch ?_ ?_) | (with_reducible refine State.updEnclave_touch ?_ ?_) | (with_reducible refine ite_touch ?_ ?_) | (with_reducible refine id_touch ?_) | intro _ _ | intro _ | dsimp only | split)

end Sys2Proof.Machine
end

