-- ==== Sys2Proof/Laws/TouchDestageOps.lean ====
section
/-! SUPPORT. What the operations of Machine/DestageOps.lean can change: one lemma for each. -/
namespace Sys2Proof.Machine
set_option linter.all false

theorem State.reshapeStop_touch {n : Nat} {s : State} {m_ : Nat} {b_ : State} (hm_ : Nat.land 4202496 m_ = 4202496) (ht_ : Touch m_ b_ s) :
    Touch m_ b_ (State.reshapeStop n s) := by
  unfold State.reshapeStop
  try dsimp only
  repeat' (first | with_reducible assumption | (exact sub_trans (by decide) hm_) | (with_reducible refine State.bump_touch ?_ ?_ ) | (with_reducible refine State.updPool_touch ?_ ?_ ) | (with_reducible refine State.when_touch ?_ ?_) | (with_reducible refine ite_touch ?_ ?_) | (with_reducible refine id_touch ?_) | intro _ _ | intro _ | dsimp only | split)

theorem State.reshapeResume_touch {n : Nat} {s : State} {m_ : Nat} {b_ : State} (hm_ : Nat.land 8192 m_ = 8192) (ht_ : Touch m_ b_ s) :
    Touch m_ b_ (State.reshapeResume n s) := by
  unfold State.reshapeResume
  try dsimp only
  repeat' (first | with_reducible assumption | (exact sub_trans (by decide) hm_) | (with_reducible refine State.updPool_touch ?_ ?_ ) | (with_reducible refine ite_touch ?_ ?_) | (with_reducible refine id_touch ?_) | intro _ _ | intro _ | dsimp only | split)

theorem State.failMember_touch {n slot cause : Nat} {s : State} {m_ : Nat} {b_ : State} (hm_ : Nat.land 73408512 m_ = 73408512) (ht_ : Touch m_ b_ s) :
    Touch m_ b_ (State.failMember n slot cause s) := by
  unfold State.failMember
  try dsimp only
  repeat' (first | with_reducible assumption | (exact sub_trans (by decide) hm_) | (with_reducible refine State.raise_touch ?_ ?_ ) | (with_reducible refine State.relist_touch ?_ ?_ ) | (with_reducible refine State.reshapeStop_touch ?_ ?_ ) | (with_reducible refine State.updPool_touch ?_ ?_ ) | (with_reducible refine ite_touch ?_ ?_) | (with_reducible refine id_touch ?_) | intro _ _ | intro _ | dsimp only | split)

theorem State.memberMissing_touch {slot : Nat} {s : State} {m_ : Nat} {b_ : State} (hm_ : Nat.land 4202496 m_ = 4202496) (ht_ : Touch m_ b_ s) :
    Touch m_ b_ (State.memberMissing slot s) := by
  unfold State.memberMissing
  try dsimp only
  repeat' (first | with_reducible assumption | (exact sub_trans (by decide) hm_) | (with_reducible refine State.relist_touch ?_ ?_ ) | (with_reducible refine State.reshapeStop_touch ?_ ?_ ) | (with_reducible refine State.updPool_touch ?_ ?_ ) | (with_reducible refine ite_touch ?_ ?_) | (with_reducible refine id_touch ?_) | intro _ _ | intro _ | dsimp only | split)

theorem State.memberPresent_touch {n slot : Nat} {s : State} {m_ : Nat} {b_ : State} (hm_ : Nat.land 4202496 m_ = 4202496) (ht_ : Touch m_ b_ s) :
    Touch m_ b_ (State.memberPresent n slot s) := by
  unfold State.memberPresent
  try dsimp only
  repeat' (first | with_reducible assumption | (exact sub_trans (by decide) hm_) | (with_reducible refine State.relist_touch ?_ ?_ ) | (with_reducible refine State.reshapeResume_touch ?_ ?_ ) | (with_reducible refine State.updPool_touch ?_ ?_ ) | (with_reducible refine ite_touch ?_ ?_) | (with_reducible refine id_touch ?_) | intro _ _ | intro _ | dsimp only | split)

theorem State.memberReturns_touch {n slot : Nat} {s : State} {m_ : Nat} {b_ : State} (hm_ : Nat.land 4202496 m_ = 4202496) (ht_ : Touch m_ b_ s) :
    Touch m_ b_ (State.memberReturns n slot s) := by
  unfold State.memberReturns
  try dsimp only
  repeat' (first | with_reducible assumption | (exact sub_trans (by decide) hm_) | (with_reducible refine State.memberPresent_touch ?_ ?_ ) | (with_reducible refine State.updPool_touch ?_ ?_ ) | (with_reducible refine ite_touch ?_ ?_) | (with_reducible refine id_touch ?_) | intro _ _ | intro _ | dsimp only | split)

theorem State.memberReplaced_touch {n slot : Nat} {s : State} {m_ : Nat} {b_ : State} (hm_ : Nat.land 4268032 m_ = 4268032) (ht_ : Touch m_ b_ s) :
    Touch m_ b_ (State.memberReplaced n slot s) := by
  unfold State.memberReplaced
  try dsimp only
  repeat' (first | with_reducible assumption | (exact sub_trans (by decide) hm_) | (with_reducible refine State.memberPresent_touch ?_ ?_ ) | (with_reducible refine State.submit_touch ?_ ?_ ) | (with_reducible refine State.updPool_touch ?_ ?_ ) | (with_reducible refine ite_touch ?_ ?_) | (with_reducible refine id_touch ?_) | intro _ _ | intro _ | dsimp only | split)

theorem State.route_touch {n : Nat} {d : DPath} {c : DriveCmd} {s : State} {m_ : Nat} {b_ : State} (hm_ : Nat.land 65536 m_ = 65536) (ht_ : Touch m_ b_ s) :
    Touch m_ b_ (State.route n d c s) := by
  unfold State.route
  try dsimp only
  repeat' (first | with_reducible assumption | (exact sub_trans (by decide) hm_) | (with_reducible refine State.submitAs_touch ?_ ?_ ) | (with_reducible refine State.submitBack_touch ?_ ?_ ) | (with_reducible refine ite_touch ?_ ?_) | (with_reducible refine id_touch ?_) | intro _ _ | intro _ | dsimp only | split)

theorem State.readStripe_touch {n stripe p row owner : Nat} {d : DPath} {s : State} {m_ : Nat} {b_ : State} (hm_ : Nat.land 65536 m_ = 65536) (ht_ : Touch m_ b_ s) :
    Touch m_ b_ (State.readStripe n stripe p row owner d s) := by
  unfold State.readStripe
  try dsimp only
  repeat' (first | with_reducible assumption | (exact sub_trans (by decide) hm_) | (with_reducible refine State.route_touch ?_ ?_ ) | (with_reducible refine ite_touch ?_ ?_) | (with_reducible refine id_touch ?_) | intro _ _ | intro _ | dsimp only | split)

theorem State.writeAll_touch {n stripe owner gen : Nat} {d : DPath} {ws : List PosWrite} {s : State} {m_ : Nat} {b_ : State} (hm_ : Nat.land 65536 m_ = 65536) (ht_ : Touch m_ b_ s) :
    Touch m_ b_ (State.writeAll n stripe owner gen d ws s) := by
  unfold State.writeAll
  try dsimp only
  repeat' (first | with_reducible assumption | (exact sub_trans (by decide) hm_) | (with_reducible refine State.route_touch ?_ ?_ ) | (with_reducible refine foldl_touch ?_ ?_) | (with_reducible refine foldl_snd_touch ?_ ?_) | (with_reducible refine ite_touch ?_ ?_) | (with_reducible refine id_touch ?_) | intro _ _ | intro _ | dsimp only | split)

theorem State.enterRow_touch {n stripe row : Nat} {lost : List Nat} {s : State} {m_ : Nat} {b_ : State} (hm_ : Nat.land 73408512 m_ = 73408512) (ht_ : Touch m_ b_ s) :
    Touch m_ b_ (State.enterRow n stripe row lost s) := by
  unfold State.enterRow
  try dsimp only
  repeat' (first | with_reducible assumption | (exact sub_trans (by decide) hm_) | (with_reducible refine State.enterLost_touch ?_ ?_ ) | (with_reducible refine foldl_touch ?_ ?_) | (with_reducible refine foldl_snd_touch ?_ ?_) | (with_reducible refine ite_touch ?_ ?_) | (with_reducible refine id_touch ?_) | intro _ _ | intro _ | dsimp only | split)

theorem State.repairUnder_touch {n stripe owner : Nat} {d : DPath} {ws : List PosWrite} {s : State} {m_ : Nat} {b_ : State} (hm_ : Nat.land 71507968 m_ = 71507968) (ht_ : Touch m_ b_ s) :
    Touch m_ b_ (State.repairUnder n stripe owner d ws s) := by
  unfold State.repairUnder
  try dsimp only
  repeat' (first | with_reducible assumption | (exact sub_trans (by decide) hm_) | (with_reducible refine State.journal_touch ?_ ?_ ) | (with_reducible refine State.writeAll_touch ?_ ?_ ) | (with_reducible refine ite_touch ?_ ?_) | (with_reducible refine id_touch ?_) | intro _ _ | intro _ | dsimp only | split)

theorem State.hotIfBad_touch {n stripe : Nat} {reads : List PosBlock} {s : State} {m_ : Nat} {b_ : State} (hm_ : Nat.land 4202496 m_ = 4202496) (ht_ : Touch m_ b_ s) :
    Touch m_ b_ (State.hotIfBad n stripe reads s) := by
  unfold State.hotIfBad
  try dsimp only
  repeat' (first | with_reducible assumption | (exact sub_trans (by decide) hm_) | (with_reducible refine State.markHot_touch ?_ ?_ ) | (with_reducible refine State.when_touch ?_ ?_) | (with_reducible refine ite_touch ?_ ?_) | (with_reducible refine id_touch ?_) | intro _ _ | intro _ | dsimp only | split)

theorem State.doRestore_touch {n stripe owner : Nat} {d : DPath} {reads : List PosBlock} {r : Restored} {s : State} {m_ : Nat} {b_ : State} (hm_ : Nat.land 73605120 m_ = 73605120) (ht_ : Touch m_ b_ s) :
    Touch m_ b_ (State.doRestore n stripe owner d reads r s) := by
  unfold State.doRestore
  try dsimp only
  repeat' (first | with_reducible assumption | (exact sub_trans (by decide) hm_) | (with_reducible refine State.enterRow_touch ?_ ?_ ) | (with_reducible refine State.hotIfBad_touch ?_ ?_ ) | (with_reducible refine State.readStripe_touch ?_ ?_ ) | (with_reducible refine State.repairUnder_touch ?_ ?_ ) | (with_reducible refine State.writeAll_touch ?_ ?_ ) | (with_reducible refine foldl_touch ?_ ?_) | (with_reducible refine foldl_snd_touch ?_ ?_) | (with_reducible refine ite_touch ?_ ?_) | (with_reducible refine id_touch ?_) | intro _ _ | intro _ | dsimp only | split)

theorem State.startDestage_touch {n stripe : Nat} {s : State} {m_ : Nat} {b_ : State} (hm_ : Nat.land 71507968 m_ = 71507968) (ht_ : Touch m_ b_ s) :
    Touch m_ b_ (State.startDestage n stripe s) := by
  unfold State.startDestage
  try dsimp only
  repeat' (first | with_reducible assumption | (exact sub_trans (by decide) hm_) | (with_reducible refine State.bitmapSet_touch ?_ ?_ ) | (with_reducible refine State.journal_touch ?_ ?_ ) | (with_reducible refine State.journalHeader_touch ?_ ?_ ) | (with_reducible refine State.readStripe_touch ?_ ?_ ) | (with_reducible refine State.stage_touch ?_ ?_ ) | (with_reducible refine State.when_touch ?_ ?_) | (with_reducible refine State.updLayout_touch ?_ ?_) | (with_reducible refine foldl_touch ?_ ?_) | (with_reducible refine foldl_snd_touch ?_ ?_) | (with_reducible refine ite_touch ?_ ?_) | (with_reducible refine id_touch ?_) | intro _ _ | intro _ | dsimp only | split)

theorem State.takeStripe_touch {n stripe : Nat} {s : State} {m_ : Nat} {b_ : State} (hm_ : Nat.land 71507968 m_ = 71507968) (ht_ : Touch m_ b_ s) :
    Touch m_ b_ (State.takeStripe n stripe s) := by
  unfold State.takeStripe
  try dsimp only
  repeat' (first | with_reducible assumption | (exact sub_trans (by decide) hm_) | (with_reducible refine State.bump_touch ?_ ?_ ) | (with_reducible refine State.startDestage_touch ?_ ?_ ) | (with_reducible refine State.takeLock_touch ?_ ?_ ) | (refine snd_touch (by with_reducible assumption) (State.takeLock_touch ?_ ?_ )) | (with_reducible refine ite_touch ?_ ?_) | (with_reducible refine id_touch ?_) | intro _ _ | intro _ | dsimp only | split)

theorem State.destageWrites_touch {n stripe : Nat} {reads : List PosBlock} {d : Destage} {s : State} {m_ : Nat} {b_ : State} (hm_ : Nat.land 73605120 m_ = 73605120) (ht_ : Touch m_ b_ s) :
    Touch m_ b_ (State.destageWrites n stripe reads d s) := by
  unfold State.destageWrites
  try dsimp only
  repeat' (first | with_reducible assumption | (exact sub_trans (by decide) hm_) | (with_reducible refine State.bumpN_touch ?_ ?_ ) | (with_reducible refine State.enterRow_touch ?_ ?_ ) | (with_reducible refine State.hotIfBad_touch ?_ ?_ ) | (with_reducible refine State.journal_touch ?_ ?_ ) | (with_reducible refine State.readStripe_touch ?_ ?_ ) | (with_reducible refine State.stage_touch ?_ ?_ ) | (with_reducible refine State.writeAll_touch ?_ ?_ ) | (with_reducible refine State.updLayout_touch ?_ ?_) | (with_reducible refine foldl_touch ?_ ?_) | (with_reducible refine foldl_snd_touch ?_ ?_) | (with_reducible refine ite_touch ?_ ?_) | (with_reducible refine id_touch ?_) | intro _ _ | intro _ | dsimp only | split)

theorem State.healed_touch {n : Nat} {vs : List Version} {s : State} {m_ : Nat} {b_ : State} (hm_ : Nat.land 4202496 m_ = 4202496) (ht_ : Touch m_ b_ s) :
    Touch m_ b_ (State.healed n vs s) := by
  unfold State.healed
  try dsimp only
  repeat' (first | with_reducible assumption | (exact sub_trans (by decide) hm_) | (with_reducible refine State.bump_touch ?_ ?_ ) | (with_reducible refine State.updLayout_touch ?_ ?_) | (with_reducible refine foldl_touch ?_ ?_) | (with_reducible refine foldl_snd_touch ?_ ?_) | (with_reducible refine ite_touch ?_ ?_) | (with_reducible refine id_touch ?_) | intro _ _ | intro _ | dsimp only | split)

theorem State.replayCheck_touch {s : State} {m_ : Nat} {b_ : State} (hm_ : Nat.land 71507968 m_ = 71507968) (ht_ : Touch m_ b_ s) :
    Touch m_ b_ (State.replayCheck s) := by
  unfold State.replayCheck
  try dsimp only
  repeat' (first | with_reducible assumption | (exact sub_trans (by decide) hm_) | (with_reducible refine State.journal_touch ?_ ?_ ) | (with_reducible refine State.updLayout_touch ?_ ?_) | (with_reducible refine foldl_touch ?_ ?_) | (with_reducible refine foldl_snd_touch ?_ ?_) | (with_reducible refine ite_touch ?_ ?_) | (with_reducible refine id_touch ?_) | intro _ _ | intro _ | dsimp only | split)

theorem State.destageEnd_touch {n stripe : Nat} {d : Destage} {s : State} {m_ : Nat} {b_ : State} (hm_ : Nat.land 71515136 m_ = 71515136) (ht_ : Touch m_ b_ s) :
    Touch m_ b_ (State.destageEnd n stripe d s) := by
  unfold State.destageEnd
  try dsimp only
  repeat' (first | with_reducible assumption | (exact sub_trans (by decide) hm_) | (with_reducible refine State.bump_touch ?_ ?_ ) | (with_reducible refine State.drainAll_touch ?_ ?_ ) | (with_reducible refine State.freeLock_touch ?_ ?_ ) | (with_reducible refine State.headerDue_touch ?_ ?_ ) | (with_reducible refine State.healed_touch ?_ ?_ ) | (with_reducible refine State.journal_touch ?_ ?_ ) | (with_reducible refine State.releaseVersions_touch ?_ ?_ ) | (with_reducible refine State.replayCheck_touch ?_ ?_ ) | (with_reducible refine State.rule3Update_touch ?_ ?_ ) | (with_reducible refine State.trimRegions_touch ?_ ?_ ) | (with_reducible refine State.updPool_touch ?_ ?_ ) | (with_reducible refine State.when_touch ?_ ?_) | (with_reducible refine State.updLayout_touch ?_ ?_) | (with_reducible refine ite_touch ?_ ?_) | (with_reducible refine id_touch ?_) | intro _ _ | intro _ | dsimp only | split)

theorem State.sweepEnds_touch {n : Nat} {s : State} {m_ : Nat} {b_ : State} (hm_ : Nat.land 69419008 m_ = 69419008) (ht_ : Touch m_ b_ s) :
    Touch m_ b_ (State.sweepEnds n s) := by
  unfold State.sweepEnds
  try dsimp only
  repeat' (first | with_reducible assumption | (exact sub_trans (by decide) hm_) | (with_reducible refine State.dirWrite_touch ?_ ?_ ) | (with_reducible refine State.raise_touch ?_ ?_ ) | (with_reducible refine State.settIfPaired_touch ?_ ?_ ) | (with_reducible refine State.updGen_touch ?_ ?_ ) | (with_reducible refine State.updNs_touch ?_ ?_ ) | (with_reducible refine foldl_touch ?_ ?_) | (with_reducible refine foldl_snd_touch ?_ ?_) | (with_reducible refine ite_touch ?_ ?_) | (with_reducible refine id_touch ?_) | intro _ _ | intro _ | dsimp only | split)

theorem State.cursorPast_touch {n stripe : Nat} {s : State} {m_ : Nat} {b_ : State} (hm_ : Nat.land 69427200 m_ = 69427200) (ht_ : Touch m_ b_ s) :
    Touch m_ b_ (State.cursorPast n stripe s) := by
  unfold State.cursorPast
  try dsimp only
  repeat' (first | with_reducible assumption | (exact sub_trans (by decide) hm_) | (with_reducible refine State.sweepEnds_touch ?_ ?_ ) | (with_reducible refine State.updPool_touch ?_ ?_ ) | (with_reducible refine State.updCipher_touch ?_ ?_) | (with_reducible refine ite_touch ?_ ?_) | (with_reducible refine id_touch ?_) | intro _ _ | intro _ | dsimp only | split)

end Sys2Proof.Machine
end

