-- ==== Sys2Proof/Laws/TouchElectrical.lean ====
section
/-! SUPPORT. What the operations of Machine/Electrical.lean can change: one lemma for each. -/
namespace Sys2Proof.Machine
set_option linter.all false

theorem State.updPins_touch {f : Pins → Pins} {s : State} {m_ : Nat} {b_ : State} (hm_ : Nat.land 1 m_ = 1) (ht_ : Touch m_ b_ s) :
    Touch m_ b_ (State.updPins f s) := by
  unfold State.updPins
  try dsimp only
  repeat' (first | with_reducible assumption | (exact sub_trans (by decide) hm_) | (with_reducible refine State.updDen_touch ?_ ?_) | (with_reducible refine ite_touch ?_ ?_) | (with_reducible refine id_touch ?_) | intro _ _ | intro _ | dsimp only | split)

theorem State.setSeq_touch {q : PwrSeq} {s : State} {m_ : Nat} {b_ : State} (hm_ : Nat.land 1 m_ = 1) (ht_ : Touch m_ b_ s) :
    Touch m_ b_ (State.setSeq q s) := by
  unfold State.setSeq
  try dsimp only
  repeat' (first | with_reducible assumption | (exact sub_trans (by decide) hm_) | (with_reducible refine State.updDen_touch ?_ ?_) | (with_reducible refine ite_touch ?_ ?_) | (with_reducible refine id_touch ?_) | intro _ _ | intro _ | dsimp only | split)

theorem State.powerUpFrom4_touch {s : State} {m_ : Nat} {b_ : State} (hm_ : Nat.land 1 m_ = 1) (ht_ : Touch m_ b_ s) :
    Touch m_ b_ (State.powerUpFrom4 s) := by
  unfold State.powerUpFrom4
  try dsimp only
  repeat' (first | with_reducible assumption | (exact sub_trans (by decide) hm_) | (with_reducible refine State.setSeq_touch ?_ ?_ ) | (with_reducible refine State.updPins_touch ?_ ?_ ) | (with_reducible refine ite_touch ?_ ?_) | (with_reducible refine id_touch ?_) | intro _ _ | intro _ | dsimp only | split)

theorem State.sampleStraps_touch {idx test : Bool} {s : State} {m_ : Nat} {b_ : State} (hm_ : Nat.land 1 m_ = 1) (ht_ : Touch m_ b_ s) :
    Touch m_ b_ (State.sampleStraps idx test s) := by
  unfold State.sampleStraps
  try dsimp only
  repeat' (first | with_reducible assumption | (exact sub_trans (by decide) hm_) | (with_reducible refine State.powerUpFrom4_touch ?_ ?_ ) | (with_reducible refine State.setSeq_touch ?_ ?_ ) | (with_reducible refine State.updPins_touch ?_ ?_ ) | (with_reducible refine ite_touch ?_ ?_) | (with_reducible refine id_touch ?_) | intro _ _ | intro _ | dsimp only | split)

theorem execAlwaysOnSupplyRise_touch {strapIdx strapTest : Bool} {s : State} {t_ : State} (h_ : execAlwaysOnSupplyRise strapIdx strapTest s = .next t_) : Touch 1 s t_ := by
  have hm_ : Nat.land 1 1 = 1 := by decide
  have ht_ := Touch.refl 1 s
  unfold execAlwaysOnSupplyRise at h_
  repeat' (first | (obtain rfl := next_inj h_; clear h_) | (obtain rfl := bounded_next h_; clear h_) | dsimp only at h_ | split at h_)
  all_goals try dsimp only
  repeat' (first | with_reducible assumption | (exact sub_trans (by decide) hm_) | (with_reducible refine State.sampleStraps_touch ?_ ?_ ) | (with_reducible refine State.updDen_touch ?_ ?_) | (with_reducible refine ite_touch ?_ ?_) | (with_reducible refine id_touch ?_) | intro _ _ | intro _ | dsimp only | split)

theorem State.powerLost_touch {s : State} {m_ : Nat} {b_ : State} (hm_ : Nat.land 33554407 m_ = 33554407) (ht_ : Touch m_ b_ s) :
    Touch m_ b_ (State.powerLost s) := by
  constructor
  intro g hg
  cases g with
  | den => exact absurd hg (by rw [show Grp.num .den = 0 from rfl, sub_bit (i := 0) hm_ (by decide)]; decide)
  | power => exact absurd hg (by rw [show Grp.num .power = 1 from rfl, sub_bit (i := 1) hm_ (by decide)]; decide)
  | keep => exact absurd hg (by rw [show Grp.num .keep = 2 from rfl, sub_bit (i := 2) hm_ (by decide)]; decide)
  | fuses => exact ht_.out .fuses hg
  | images => exact ht_.out .images hg
  | elec => exact absurd hg (by rw [show Grp.num .elec = 5 from rfl, sub_bit (i := 5) hm_ (by decide)]; decide)
  | boot => exact absurd hg (by rw [show Grp.num .boot = 6 from rfl, sub_bit (i := 6) hm_ (by decide)]; decide)
  | modes => exact absurd hg (by rw [show Grp.num .modes = 7 from rfl, sub_bit (i := 7) hm_ (by decide)]; decide)
  | spine => exact absurd hg (by rw [show Grp.num .spine = 8 from rfl, sub_bit (i := 8) hm_ (by decide)]; decide)
  | net => exact absurd hg (by rw [show Grp.num .net = 9 from rfl, sub_bit (i := 9) hm_ (by decide)]; decide)
  | xport => exact absurd hg (by rw [show Grp.num .xport = 10 from rfl, sub_bit (i := 10) hm_ (by decide)]; decide)
  | cmds => exact absurd hg (by rw [show Grp.num .cmds = 11 from rfl, sub_bit (i := 11) hm_ (by decide)]; decide)
  | cons => exact absurd hg (by rw [show Grp.num .cons = 12 from rfl, sub_bit (i := 12) hm_ (by decide)]; decide)
  | layout => exact absurd hg (by rw [show Grp.num .layout = 13 from rfl, sub_bit (i := 13) hm_ (by decide)]; decide)
  | cipher => exact absurd hg (by rw [show Grp.num .cipher = 14 from rfl, sub_bit (i := 14) hm_ (by decide)]; decide)
  | enclave => exact absurd hg (by rw [show Grp.num .enclave = 15 from rfl, sub_bit (i := 15) hm_ (by decide)]; decide)
  | qos => exact absurd hg (by rw [show Grp.num .qos = 16 from rfl, sub_bit (i := 16) hm_ (by decide)]; decide)
  | pair => exact absurd hg (by rw [show Grp.num .pair = 17 from rfl, sub_bit (i := 17) hm_ (by decide)]; decide)
  | drives => exact absurd hg (by rw [show Grp.num .drives = 18 from rfl, sub_bit (i := 18) hm_ (by decide)]; decide)
  | margins => exact absurd hg (by rw [show Grp.num .margins = 19 from rfl, sub_bit (i := 19) hm_ (by decide)]; decide)
  | localPort => exact absurd hg (by rw [show Grp.num .localPort = 20 from rfl, sub_bit (i := 20) hm_ (by decide)]; decide)
  | ccp => exact absurd hg (by rw [show Grp.num .ccp = 21 from rfl, sub_bit (i := 21) hm_ (by decide)]; decide)
  | telem => exact absurd hg (by rw [show Grp.num .telem = 22 from rfl, sub_bit (i := 22) hm_ (by decide)]; decide)
  | regs => exact absurd hg (by rw [show Grp.num .regs = 23 from rfl, sub_bit (i := 23) hm_ (by decide)]; decide)
  | blobs => exact absurd hg (by rw [show Grp.num .blobs = 24 from rfl, sub_bit (i := 24) hm_ (by decide)]; decide)
  | fresh => exact ht_.out .fresh hg
  | sent => exact ht_.out .sent hg
  | pending => exact ht_.out .pending hg

theorem execAlwaysOnSupplyLoss_touch {s : State} {t_ : State} (h_ : execAlwaysOnSupplyLoss s = .next t_) : Touch 33554407 s t_ := by
  have hm_ : Nat.land 33554407 33554407 = 33554407 := by decide
  have ht_ := Touch.refl 33554407 s
  unfold execAlwaysOnSupplyLoss at h_
  repeat' (first | (obtain rfl := next_inj h_; clear h_) | (obtain rfl := bounded_next h_; clear h_) | dsimp only at h_ | split at h_)
  all_goals try dsimp only
  repeat' (first | with_reducible assumption | (exact sub_trans (by decide) hm_) | (with_reducible refine State.powerLost_touch ?_ ?_ ) | (with_reducible refine ite_touch ?_ ?_) | (with_reducible refine id_touch ?_) | intro _ _ | intro _ | dsimp only | split)

theorem execHbmPgAssert_touch {s : State} {t_ : State} (h_ : execHbmPgAssert s = .next t_) : Touch 1 s t_ := by
  have hm_ : Nat.land 1 1 = 1 := by decide
  have ht_ := Touch.refl 1 s
  unfold execHbmPgAssert at h_
  repeat' (first | (obtain rfl := next_inj h_; clear h_) | (obtain rfl := bounded_next h_; clear h_) | dsimp only at h_ | split at h_)
  all_goals try dsimp only
  repeat' (first | with_reducible assumption | (exact sub_trans (by decide) hm_) | (with_reducible refine State.setSeq_touch ?_ ?_ ) | (with_reducible refine State.updPins_touch ?_ ?_ ) | (with_reducible refine ite_touch ?_ ?_) | (with_reducible refine id_touch ?_) | intro _ _ | intro _ | dsimp only | split)

theorem State.denRestore_touch {f : FuseRead} {r : DenRestore} {s : State} {m_ : Nat} {b_ : State} (hm_ : Nat.land 134217703 m_ = 134217703) (ht_ : Touch m_ b_ s) :
    Touch m_ b_ (State.denRestore f r s) := by
  unfold State.denRestore
  try dsimp only
  repeat' (first | with_reducible assumption | (exact sub_trans (by decide) hm_) | (with_reducible refine State.enterM5_touch ?_ ?_ ) | (with_reducible refine State.enterMode_touch ?_ ?_ ) | (with_reducible refine State.fuseLoad_touch ?_ ?_ ) | (with_reducible refine State.wiped_touch ?_ ?_ ) | (with_reducible refine State.updDen_touch ?_ ?_) | (with_reducible refine State.updModes_touch ?_ ?_) | (with_reducible refine State.updEnclave_touch ?_ ?_) | (with_reducible refine ite_touch ?_ ?_) | (with_reducible refine id_touch ?_) | intro _ _ | intro _ | dsimp only | split)

theorem execCorePgAssert_touch {fuses : FuseRead} {restore : DenRestore} {s : State} {t_ : State} (h_ : execCorePgAssert fuses restore s = .next t_) : Touch 134217703 s t_ := by
  have hm_ : Nat.land 134217703 134217703 = 134217703 := by decide
  have ht_ := Touch.refl 134217703 s
  unfold execCorePgAssert at h_
  repeat' (first | (obtain rfl := next_inj h_; clear h_) | (obtain rfl := bounded_next h_; clear h_) | dsimp only at h_ | split at h_)
  all_goals try dsimp only
  repeat' (first | with_reducible assumption | (exact sub_trans (by decide) hm_) | (with_reducible refine State.denRestore_touch ?_ ?_ ) | (with_reducible refine State.fuseLoad_touch ?_ ?_ ) | (with_reducible refine State.updPins_touch ?_ ?_ ) | (with_reducible refine State.updDen_touch ?_ ?_) | (with_reducible refine ite_touch ?_ ?_) | (with_reducible refine id_touch ?_) | intro _ _ | intro _ | dsimp only | split)

theorem execPowerGoodTimeout_touch {s : State} {t_ : State} (h_ : execPowerGoodTimeout s = .next t_) : Touch 1 s t_ := by
  have hm_ : Nat.land 1 1 = 1 := by decide
  have ht_ := Touch.refl 1 s
  unfold execPowerGoodTimeout at h_
  repeat' (first | (obtain rfl := next_inj h_; clear h_) | (obtain rfl := bounded_next h_; clear h_) | dsimp only at h_ | split at h_)
  all_goals try dsimp only
  repeat' (first | with_reducible assumption | (exact sub_trans (by decide) hm_) | (with_reducible refine State.updPins_touch ?_ ?_ ) | (with_reducible refine State.updDen_touch ?_ ?_) | (with_reducible refine ite_touch ?_ ?_) | (with_reducible refine id_touch ?_) | intro _ _ | intro _ | dsimp only | split)

theorem execPowerRetryTimer_touch {s : State} {t_ : State} (h_ : execPowerRetryTimer s = .next t_) : Touch 1 s t_ := by
  have hm_ : Nat.land 1 1 = 1 := by decide
  have ht_ := Touch.refl 1 s
  unfold execPowerRetryTimer at h_
  repeat' (first | (obtain rfl := next_inj h_; clear h_) | (obtain rfl := bounded_next h_; clear h_) | dsimp only at h_ | split at h_)
  all_goals try dsimp only
  repeat' (first | with_reducible assumption | (exact sub_trans (by decide) hm_) | (with_reducible refine State.powerUpFrom4_touch ?_ ?_ ) | (with_reducible refine ite_touch ?_ ?_) | (with_reducible refine id_touch ?_) | intro _ _ | intro _ | dsimp only | split)

theorem State.resetByPin_touch {s : State} {m_ : Nat} {b_ : State} (hm_ : Nat.land 67108835 m_ = 67108835) (ht_ : Touch m_ b_ s) :
    Touch m_ b_ (State.resetByPin s) := by
  unfold State.resetByPin
  try dsimp only
  repeat' (first | with_reducible assumption | (exact sub_trans (by decide) hm_) | (with_reducible refine State.updPins_touch ?_ ?_ ) | (with_reducible refine State.wiped_touch ?_ ?_ ) | (with_reducible refine State.updDen_touch ?_ ?_) | (with_reducible refine ite_touch ?_ ?_) | (with_reducible refine id_touch ?_) | intro _ _ | intro _ | dsimp only | split)

theorem execResetNAssert_touch {s : State} {t_ : State} (h_ : execResetNAssert s = .next t_) : Touch 67108835 s t_ := by
  have hm_ : Nat.land 67108835 67108835 = 67108835 := by decide
  have ht_ := Touch.refl 67108835 s
  unfold execResetNAssert at h_
  repeat' (first | (obtain rfl := next_inj h_; clear h_) | (obtain rfl := bounded_next h_; clear h_) | dsimp only at h_ | split at h_)
  all_goals try dsimp only
  repeat' (first | with_reducible assumption | (exact sub_trans (by decide) hm_) | (with_reducible refine State.resetByPin_touch ?_ ?_ ) | (with_reducible refine State.updPins_touch ?_ ?_ ) | (with_reducible refine State.updDen_touch ?_ ?_) | (with_reducible refine ite_touch ?_ ?_) | (with_reducible refine id_touch ?_) | intro _ _ | intro _ | dsimp only | split)

theorem execResetNRise_touch {strapIdx strapTest : Bool} {s : State} {t_ : State} (h_ : execResetNRise strapIdx strapTest s = .next t_) : Touch 1 s t_ := by
  have hm_ : Nat.land 1 1 = 1 := by decide
  have ht_ := Touch.refl 1 s
  unfold execResetNRise at h_
  repeat' (first | (obtain rfl := next_inj h_; clear h_) | (obtain rfl := bounded_next h_; clear h_) | dsimp only at h_ | split at h_)
  all_goals try dsimp only
  repeat' (first | with_reducible assumption | (exact sub_trans (by decide) hm_) | (with_reducible refine State.sampleStraps_touch ?_ ?_ ) | (with_reducible refine State.updPins_touch ?_ ?_ ) | (with_reducible refine ite_touch ?_ ?_) | (with_reducible refine id_touch ?_) | intro _ _ | intro _ | dsimp only | split)

theorem execRailExcursion_touch {rail : Nat} {s : State} {t_ : State} (h_ : execRailExcursion rail s = .next t_) : Touch 134217703 s t_ := by
  have hm_ : Nat.land 134217703 134217703 = 134217703 := by decide
  have ht_ := Touch.refl 134217703 s
  unfold execRailExcursion at h_
  repeat' (first | (obtain rfl := next_inj h_; clear h_) | (obtain rfl := bounded_next h_; clear h_) | dsimp only at h_ | split at h_)
  all_goals try dsimp only
  repeat' (first | with_reducible assumption | (exact sub_trans (by decide) hm_) | (with_reducible refine State.powerLost_touch ?_ ?_ ) | (with_reducible refine State.stopAndReset_touch ?_ ?_ ) | (with_reducible refine State.updDen_touch ?_ ?_) | (with_reducible refine ite_touch ?_ ?_) | (with_reducible refine id_touch ?_) | intro _ _ | intro _ | dsimp only | split)

theorem execClockFault_touch {s : State} {t_ : State} (h_ : execClockFault s = .next t_) : Touch 134217703 s t_ := by
  have hm_ : Nat.land 134217703 134217703 = 134217703 := by decide
  have ht_ := Touch.refl 134217703 s
  unfold execClockFault at h_
  repeat' (first | (obtain rfl := next_inj h_; clear h_) | (obtain rfl := bounded_next h_; clear h_) | dsimp only at h_ | split at h_)
  all_goals try dsimp only
  repeat' (first | with_reducible assumption | (exact sub_trans (by decide) hm_) | (with_reducible refine State.stopAndReset_touch ?_ ?_ ) | (with_reducible refine ite_touch ?_ ?_) | (with_reducible refine id_touch ?_) | intro _ _ | intro _ | dsimp only | split)

theorem execInternalFault_touch {s : State} {t_ : State} (h_ : execInternalFault s = .next t_) : Touch 134217703 s t_ := by
  have hm_ : Nat.land 134217703 134217703 = 134217703 := by decide
  have ht_ := Touch.refl 134217703 s
  unfold execInternalFault at h_
  repeat' (first | (obtain rfl := next_inj h_; clear h_) | (obtain rfl := bounded_next h_; clear h_) | dsimp only at h_ | split at h_)
  all_goals try dsimp only
  repeat' (first | with_reducible assumption | (exact sub_trans (by decide) hm_) | (with_reducible refine State.singleFault_touch ?_ ?_ ) | (with_reducible refine State.stopAndReset_touch ?_ ?_ ) | (with_reducible refine ite_touch ?_ ?_) | (with_reducible refine id_touch ?_) | intro _ _ | intro _ | dsimp only | split)

theorem execControlWatchdogExpiry_touch {s : State} {t_ : State} (h_ : execControlWatchdogExpiry s = .next t_) : Touch 134217703 s t_ := by
  have hm_ : Nat.land 134217703 134217703 = 134217703 := by decide
  have ht_ := Touch.refl 134217703 s
  unfold execControlWatchdogExpiry at h_
  repeat' (first | (obtain rfl := next_inj h_; clear h_) | (obtain rfl := bounded_next h_; clear h_) | dsimp only at h_ | split at h_)
  all_goals try dsimp only
  repeat' (first | with_reducible assumption | (exact sub_trans (by decide) hm_) | (with_reducible refine State.resetController_touch ?_ ?_ ) | (with_reducible refine ite_touch ?_ ?_) | (with_reducible refine id_touch ?_) | intro _ _ | intro _ | dsimp only | split)

theorem State.setVcore_touch {mv cause : Nat} {s : State} {m_ : Nat} {b_ : State} (hm_ : Nat.land 73400353 m_ = 73400353) (ht_ : Touch m_ b_ s) :
    Touch m_ b_ (State.setVcore mv cause s) := by
  unfold State.setVcore
  try dsimp only
  repeat' (first | with_reducible assumption | (exact sub_trans (by decide) hm_) | (with_reducible refine State.marginRecord_touch ?_ ?_ ) | (with_reducible refine State.updElec_touch ?_ ?_) | (with_reducible refine ite_touch ?_ ?_) | (with_reducible refine id_touch ?_) | intro _ _ | intro _ | dsimp only | split)

theorem State.stepVcore_touch {mv : Nat} {acked : Bool} {s : State} {m_ : Nat} {b_ : State} (hm_ : Nat.land 73400353 m_ = 73400353) (ht_ : Touch m_ b_ s) :
    Touch m_ b_ (State.stepVcore mv acked s) := by
  unfold State.stepVcore
  try dsimp only
  repeat' (first | with_reducible assumption | (exact sub_trans (by decide) hm_) | (with_reducible refine State.send_touch ?_ ?_ ) | (with_reducible refine State.setVcore_touch ?_ ?_ ) | (with_reducible refine State.updElec_touch ?_ ?_) | (with_reducible refine ite_touch ?_ ?_) | (with_reducible refine id_touch ?_) | intro _ _ | intro _ | dsimp only | split)

theorem execCpmSample_touch {slackPs : Nat} {avsAcked : Bool} {s : State} {t_ : State} (h_ : execCpmSample slackPs avsAcked s = .next t_) : Touch 134217703 s t_ := by
  have hm_ : Nat.land 134217703 134217703 = 134217703 := by decide
  have ht_ := Touch.refl 134217703 s
  unfold execCpmSample at h_
  repeat' (first | (obtain rfl := next_inj h_; clear h_) | (obtain rfl := bounded_next h_; clear h_) | dsimp only at h_ | split at h_)
  all_goals try dsimp only
  repeat' (first | with_reducible assumption | (exact sub_trans (by decide) hm_) | (with_reducible refine State.raise_touch ?_ ?_ ) | (with_reducible refine State.stepVcore_touch ?_ ?_ ) | (with_reducible refine State.stopAndReset_touch ?_ ?_ ) | (with_reducible refine State.updElec_touch ?_ ?_) | (with_reducible refine State.updMargins_touch ?_ ?_) | (with_reducible refine ite_touch ?_ ?_) | (with_reducible refine id_touch ?_) | intro _ _ | intro _ | dsimp only | split)

theorem execAvsRetryTimer_touch {acked : Bool} {s : State} {t_ : State} (h_ : execAvsRetryTimer acked s = .next t_) : Touch 73400353 s t_ := by
  have hm_ : Nat.land 73400353 73400353 = 73400353 := by decide
  have ht_ := Touch.refl 73400353 s
  unfold execAvsRetryTimer at h_
  repeat' (first | (obtain rfl := next_inj h_; clear h_) | (obtain rfl := bounded_next h_; clear h_) | dsimp only at h_ | split at h_)
  all_goals try dsimp only
  repeat' (first | with_reducible assumption | (exact sub_trans (by decide) hm_) | (with_reducible refine State.raise_touch ?_ ?_ ) | (with_reducible refine State.send_touch ?_ ?_ ) | (with_reducible refine State.setVcore_touch ?_ ?_ ) | (with_reducible refine State.updElec_touch ?_ ?_) | (with_reducible refine ite_touch ?_ ?_) | (with_reducible refine id_touch ?_) | intro _ _ | intro _ | dsimp only | split)

theorem State.thermalTrip_touch {s : State} {m_ : Nat} {b_ : State} (hm_ : Nat.land 67108835 m_ = 67108835) (ht_ : Touch m_ b_ s) :
    Touch m_ b_ (State.thermalTrip s) := by
  unfold State.thermalTrip
  try dsimp only
  repeat' (first | with_reducible assumption | (exact sub_trans (by decide) hm_) | (with_reducible refine State.setSeq_touch ?_ ?_ ) | (with_reducible refine State.stopService_touch ?_ ?_ ) | (with_reducible refine State.updPins_touch ?_ ?_ ) | (with_reducible refine State.wiped_touch ?_ ?_ ) | (with_reducible refine State.updDen_touch ?_ ?_) | (with_reducible refine State.updElec_touch ?_ ?_) | (with_reducible refine ite_touch ?_ ?_) | (with_reducible refine id_touch ?_) | intro _ _ | intro _ | dsimp only | split)

theorem State.throttleStep_touch {hottest : Nat} {s : State} {m_ : Nat} {b_ : State} (hm_ : Nat.land 69271584 m_ = 69271584) (ht_ : Touch m_ b_ s) :
    Touch m_ b_ (State.throttleStep hottest s) := by
  unfold State.throttleStep
  try dsimp only
  repeat' (first | with_reducible assumption | (exact sub_trans (by decide) hm_) | (with_reducible refine State.raise_touch ?_ ?_ ) | (with_reducible refine State.shapersAs_touch ?_ ?_ ) | (with_reducible refine State.updElec_touch ?_ ?_) | (with_reducible refine ite_touch ?_ ?_) | (with_reducible refine id_touch ?_) | intro _ _ | intro _ | dsimp only | split)

theorem execThermalSample_touch {dieTemps stackTemps : List Nat} {s : State} {t_ : State} (h_ : execThermalSample dieTemps stackTemps s = .next t_) : Touch 134217699 s t_ := by
  have hm_ : Nat.land 134217699 134217699 = 134217699 := by decide
  have ht_ := Touch.refl 134217699 s
  unfold execThermalSample at h_
  repeat' (first | (obtain rfl := next_inj h_; clear h_) | (obtain rfl := bounded_next h_; clear h_) | dsimp only at h_ | split at h_)
  all_goals try dsimp only
  repeat' (first | with_reducible assumption | (exact sub_trans (by decide) hm_) | (with_reducible refine State.thermalTrip_touch ?_ ?_ ) | (with_reducible refine State.throttleStep_touch ?_ ?_ ) | (with_reducible refine State.updElec_touch ?_ ?_) | (with_reducible refine ite_touch ?_ ?_) | (with_reducible refine id_touch ?_) | intro _ _ | intro _ | dsimp only | split)

end Sys2Proof.Machine
end

