-- ==== Sys2Proof/Laws/TouchModes.lean ====
section
/-! SUPPORT. What the operations of Machine/Modes.lean can change: one lemma for each. -/
namespace Sys2Proof.Machine
set_option linter.all false

theorem State.openIsland_touch {i : Nat} {s : State} {m_ : Nat} {b_ : State} (hm_ : Nat.land 256 m_ = 256) (ht_ : Touch m_ b_ s) :
    Touch m_ b_ (State.openIsland i s) := by
  unfold State.openIsland
  try dsimp only
  repeat' (first | with_reducible assumption | (exact sub_trans (by decide) hm_) | (with_reducible refine State.updSpine_touch ?_ ?_) | (with_reducible refine ite_touch ?_ ?_) | (with_reducible refine id_touch ?_) | intro _ _ | intro _ | dsimp only | split)

theorem State.closeIsland_touch {i : Nat} {s : State} {m_ : Nat} {b_ : State} (hm_ : Nat.land 256 m_ = 256) (ht_ : Touch m_ b_ s) :
    Touch m_ b_ (State.closeIsland i s) := by
  unfold State.closeIsland
  try dsimp only
  repeat' (first | with_reducible assumption | (exact sub_trans (by decide) hm_) | (with_reducible refine State.updSpine_touch ?_ ?_) | (with_reducible refine ite_touch ?_ ?_) | (with_reducible refine id_touch ?_) | intro _ _ | intro _ | dsimp only | split)

theorem execFlitArrival_touch {island flit : Nat} {crcGood : Bool} {s : State} {t_ : State} (h_ : execFlitArrival island flit crcGood s = .next t_) : Touch 134217703 s t_ := by
  have hm_ : Nat.land 134217703 134217703 = 134217703 := by decide
  have ht_ := Touch.refl 134217703 s
  unfold execFlitArrival at h_
  repeat' (first | (obtain rfl := next_inj h_; clear h_) | (obtain rfl := bounded_next h_; clear h_) | dsimp only at h_ | split at h_)
  all_goals try dsimp only
  repeat' (first | with_reducible assumption | (exact sub_trans (by decide) hm_) | (with_reducible refine State.openIsland_touch ?_ ?_ ) | (with_reducible refine State.singleFault_touch ?_ ?_ ) | (with_reducible refine State.stopAndReset_touch ?_ ?_ ) | (with_reducible refine State.updSpine_touch ?_ ?_) | (with_reducible refine ite_touch ?_ ?_) | (with_reducible refine id_touch ?_) | intro _ _ | intro _ | dsimp only | split)

theorem execIslandIdleExpiry_touch {island : Nat} {s : State} {t_ : State} (h_ : execIslandIdleExpiry island s = .next t_) : Touch 256 s t_ := by
  have hm_ : Nat.land 256 256 = 256 := by decide
  have ht_ := Touch.refl 256 s
  unfold execIslandIdleExpiry at h_
  repeat' (first | (obtain rfl := next_inj h_; clear h_) | (obtain rfl := bounded_next h_; clear h_) | dsimp only at h_ | split at h_)
  all_goals try dsimp only
  repeat' (first | with_reducible assumption | (exact sub_trans (by decide) hm_) | (with_reducible refine State.closeIsland_touch ?_ ?_ ) | (with_reducible refine ite_touch ?_ ?_) | (with_reducible refine id_touch ?_) | intro _ _ | intro _ | dsimp only | split)

theorem execIdleLevelTimer_touch {level : Nat} {s : State} {t_ : State} (h_ : execIdleLevelTimer level s = .next t_) : Touch 384 s t_ := by
  have hm_ : Nat.land 384 384 = 384 := by decide
  have ht_ := Touch.refl 384 s
  unfold execIdleLevelTimer at h_
  repeat' (first | (obtain rfl := next_inj h_; clear h_) | (obtain rfl := bounded_next h_; clear h_) | dsimp only at h_ | split at h_)
  all_goals try dsimp only
  repeat' (first | with_reducible assumption | (exact sub_trans (by decide) hm_) | (with_reducible refine State.closeIsland_touch ?_ ?_ ) | (with_reducible refine State.updModes_touch ?_ ?_) | (with_reducible refine foldl_touch ?_ ?_) | (with_reducible refine foldl_snd_touch ?_ ?_) | (with_reducible refine ite_touch ?_ ?_) | (with_reducible refine id_touch ?_) | intro _ _ | intro _ | dsimp only | split)

theorem State.wakeBy_touch {code : Nat} {s : State} {m_ : Nat} {b_ : State} (hm_ : Nat.land 67108993 m_ = 67108993) (ht_ : Touch m_ b_ s) :
    Touch m_ b_ (State.wakeBy code s) := by
  unfold State.wakeBy
  try dsimp only
  repeat' (first | with_reducible assumption | (exact sub_trans (by decide) hm_) | (with_reducible refine State.send_touch ?_ ?_ ) | (with_reducible refine State.setSeq_touch ?_ ?_ ) | (with_reducible refine State.updPins_touch ?_ ?_ ) | (with_reducible refine State.updModes_touch ?_ ?_) | (with_reducible refine ite_touch ?_ ?_) | (with_reducible refine id_touch ?_) | intro _ _ | intro _ | dsimp only | split)

theorem State.denFinish_touch {left : Mode} {s : State} {m_ : Nat} {b_ : State} (hm_ : Nat.land 74473923 m_ = 74473923) (ht_ : Touch m_ b_ s) :
    Touch m_ b_ (State.denFinish left s) := by
  unfold State.denFinish
  try dsimp only
  repeat' (first | with_reducible assumption | (exact sub_trans (by decide) hm_) | (with_reducible refine State.enterMode_touch ?_ ?_ ) | (with_reducible refine State.wakeBy_touch ?_ ?_ ) | (with_reducible refine State.updDen_touch ?_ ?_) | (with_reducible refine State.updModes_touch ?_ ?_) | (with_reducible refine State.updSpine_touch ?_ ?_) | (with_reducible refine State.updCipher_touch ?_ ?_) | (with_reducible refine ite_touch ?_ ?_) | (with_reducible refine id_touch ?_) | intro _ _ | intro _ | dsimp only | split)

theorem State.denCommitPoint_touch {left : Mode} {s : State} {m_ : Nat} {b_ : State} (hm_ : Nat.land 74605507 m_ = 74605507) (ht_ : Touch m_ b_ s) :
    Touch m_ b_ (State.denCommitPoint left s) := by
  unfold State.denCommitPoint
  try dsimp only
  repeat' (first | with_reducible assumption | (exact sub_trans (by decide) hm_) | (with_reducible refine State.abandonPairing_touch ?_ ?_ ) | (with_reducible refine State.denFinish_touch ?_ ?_ ) | (with_reducible refine State.driveAdmin_touch ?_ ?_ ) | (with_reducible refine State.send_touch ?_ ?_ ) | (with_reducible refine State.updModes_touch ?_ ?_) | (with_reducible refine State.updNet_touch ?_ ?_) | (with_reducible refine State.updPair_touch ?_ ?_) | (with_reducible refine foldl_touch ?_ ?_) | (with_reducible refine foldl_snd_touch ?_ ?_) | (with_reducible refine ite_touch ?_ ?_) | (with_reducible refine id_touch ?_) | intro _ _ | intro _ | dsimp only | split)

theorem execDenEntryStart_touch {partnerIdle : Bool} {s : State} {t_ : State} (h_ : execDenEntryStart partnerIdle s = .next t_) : Touch 74606531 s t_ := by
  have hm_ : Nat.land 74606531 74606531 = 74606531 := by decide
  have ht_ := Touch.refl 74606531 s
  unfold execDenEntryStart at h_
  repeat' (first | (obtain rfl := next_inj h_; clear h_) | (obtain rfl := bounded_next h_; clear h_) | dsimp only at h_ | split at h_)
  all_goals try dsimp only
  repeat' (first | with_reducible assumption | (exact sub_trans (by decide) hm_) | (with_reducible refine State.denCommitPoint_touch ?_ ?_ ) | (with_reducible refine State.settSend_touch ?_ ?_ ) | (with_reducible refine State.updModes_touch ?_ ?_) | (with_reducible refine State.updXport_touch ?_ ?_) | (with_reducible refine ite_touch ?_ ?_) | (with_reducible refine id_touch ?_) | intro _ _ | intro _ | dsimp only | split)

theorem execDenCommit_touch {s : State} {t_ : State} (h_ : execDenCommit s = .next t_) : Touch 74605507 s t_ := by
  have hm_ : Nat.land 74605507 74605507 = 74605507 := by decide
  have ht_ := Touch.refl 74605507 s
  unfold execDenCommit at h_
  repeat' (first | (obtain rfl := next_inj h_; clear h_) | (obtain rfl := bounded_next h_; clear h_) | dsimp only at h_ | split at h_)
  all_goals try dsimp only
  repeat' (first | with_reducible assumption | (exact sub_trans (by decide) hm_) | (with_reducible refine State.denCommitPoint_touch ?_ ?_ ) | (with_reducible refine ite_touch ?_ ?_) | (with_reducible refine id_touch ?_) | intro _ _ | intro _ | dsimp only | split)

theorem execDenCommitTimeout_touch {s : State} {t_ : State} (h_ : execDenCommitTimeout s = .next t_) : Touch 128 s t_ := by
  have hm_ : Nat.land 128 128 = 128 := by decide
  have ht_ := Touch.refl 128 s
  unfold execDenCommitTimeout at h_
  repeat' (first | (obtain rfl := next_inj h_; clear h_) | (obtain rfl := bounded_next h_; clear h_) | dsimp only at h_ | split at h_)
  all_goals try dsimp only
  repeat' (first | with_reducible assumption | (exact sub_trans (by decide) hm_) | (with_reducible refine State.cancelDen_touch ?_ ?_ ) | (with_reducible refine ite_touch ?_ ?_) | (with_reducible refine id_touch ?_) | intro _ _ | intro _ | dsimp only | split)

theorem State.driveShut_touch {slot : Nat} {s : State} {m_ : Nat} {b_ : State} (hm_ : Nat.land 74736067 m_ = 74736067) (ht_ : Touch m_ b_ s) :
    Touch m_ b_ (State.driveShut slot s) := by
  unfold State.driveShut
  try dsimp only
  repeat' (first | with_reducible assumption | (exact sub_trans (by decide) hm_) | (with_reducible refine State.denFinish_touch ?_ ?_ ) | (with_reducible refine State.updPower_touch ?_ ?_) | (with_reducible refine State.updModes_touch ?_ ?_) | (with_reducible refine State.updDrives_touch ?_ ?_) | (with_reducible refine ite_touch ?_ ?_) | (with_reducible refine id_touch ?_) | intro _ _ | intro _ | dsimp only | split)

theorem execDriveShutdownComplete_touch {slot : Nat} {s : State} {t_ : State} (h_ : execDriveShutdownComplete slot s = .next t_) : Touch 74736067 s t_ := by
  have hm_ : Nat.land 74736067 74736067 = 74736067 := by decide
  have ht_ := Touch.refl 74736067 s
  unfold execDriveShutdownComplete at h_
  repeat' (first | (obtain rfl := next_inj h_; clear h_) | (obtain rfl := bounded_next h_; clear h_) | dsimp only at h_ | split at h_)
  all_goals try dsimp only
  repeat' (first | with_reducible assumption | (exact sub_trans (by decide) hm_) | (with_reducible refine State.driveShut_touch ?_ ?_ ) | (with_reducible refine ite_touch ?_ ?_) | (with_reducible refine id_touch ?_) | intro _ _ | intro _ | dsimp only | split)

theorem execDriveShutdownTimeout_touch {slot : Nat} {s : State} {t_ : State} (h_ : execDriveShutdownTimeout slot s = .next t_) : Touch 74736067 s t_ := by
  have hm_ : Nat.land 74736067 74736067 = 74736067 := by decide
  have ht_ := Touch.refl 74736067 s
  unfold execDriveShutdownTimeout at h_
  repeat' (first | (obtain rfl := next_inj h_; clear h_) | (obtain rfl := bounded_next h_; clear h_) | dsimp only at h_ | split at h_)
  all_goals try dsimp only
  repeat' (first | with_reducible assumption | (exact sub_trans (by decide) hm_) | (with_reducible refine State.driveShut_touch ?_ ?_ ) | (with_reducible refine ite_touch ?_ ?_) | (with_reducible refine id_touch ?_) | intro _ _ | intro _ | dsimp only | split)

theorem execWakeFrame_touch {frame : WakeFrame} {s : State} {t_ : State} (h_ : execWakeFrame frame s = .next t_) : Touch 67108993 s t_ := by
  have hm_ : Nat.land 67108993 67108993 = 67108993 := by decide
  have ht_ := Touch.refl 67108993 s
  unfold execWakeFrame at h_
  repeat' (first | (obtain rfl := next_inj h_; clear h_) | (obtain rfl := bounded_next h_; clear h_) | dsimp only at h_ | split at h_)
  all_goals try dsimp only
  repeat' (first | with_reducible assumption | (exact sub_trans (by decide) hm_) | (with_reducible refine State.wakeBy_touch ?_ ?_ ) | (with_reducible refine ite_touch ?_ ?_) | (with_reducible refine id_touch ?_) | intro _ _ | intro _ | dsimp only | split)

theorem execDenWakeTimerExpiry_touch {s : State} {t_ : State} (h_ : execDenWakeTimerExpiry s = .next t_) : Touch 67108993 s t_ := by
  have hm_ : Nat.land 67108993 67108993 = 67108993 := by decide
  have ht_ := Touch.refl 67108993 s
  unfold execDenWakeTimerExpiry at h_
  repeat' (first | (obtain rfl := next_inj h_; clear h_) | (obtain rfl := bounded_next h_; clear h_) | dsimp only at h_ | split at h_)
  all_goals try dsimp only
  repeat' (first | with_reducible assumption | (exact sub_trans (by decide) hm_) | (with_reducible refine State.wakeBy_touch ?_ ?_ ) | (with_reducible refine ite_touch ?_ ?_) | (with_reducible refine id_touch ?_) | intro _ _ | intro _ | dsimp only | split)

theorem execSettWakeInAssert_touch {s : State} {t_ : State} (h_ : execSettWakeInAssert s = .next t_) : Touch 67108993 s t_ := by
  have hm_ : Nat.land 67108993 67108993 = 67108993 := by decide
  have ht_ := Touch.refl 67108993 s
  unfold execSettWakeInAssert at h_
  repeat' (first | (obtain rfl := next_inj h_; clear h_) | (obtain rfl := bounded_next h_; clear h_) | dsimp only at h_ | split at h_)
  all_goals try dsimp only
  repeat' (first | with_reducible assumption | (exact sub_trans (by decide) hm_) | (with_reducible refine State.wakeBy_touch ?_ ?_ ) | (with_reducible refine ite_touch ?_ ?_) | (with_reducible refine id_touch ?_) | intro _ _ | intro _ | dsimp only | split)

end Sys2Proof.Machine
end

