-- ==== Sys2Proof/Laws/TouchCcpOps.lean ====
section
/-! SUPPORT. What the operations of Machine/CcpOps.lean can change: one lemma for each. -/
namespace Sys2Proof.Machine
set_option linter.all false

theorem State.updSession_touch {id : Nat} {f : Session → Session} {s : State} {m_ : Nat} {b_ : State} (hm_ : Nat.land 2097152 m_ = 2097152) (ht_ : Touch m_ b_ s) :
    Touch m_ b_ (State.updSession id f s) := by
  unfold State.updSession
  try dsimp only
  repeat' (first | with_reducible assumption | (exact sub_trans (by decide) hm_) | (with_reducible refine State.updCcp_touch ?_ ?_) | (with_reducible refine ite_touch ?_ ?_) | (with_reducible refine id_touch ?_) | intro _ _ | intro _ | dsimp only | split)

theorem State.ccpCarry_touch {h : CcpHdr} {op status : Nat} {packet : Bytes} {s : State} {m_ : Nat} {b_ : State} (hm_ : Nat.land 72482816 m_ = 72482816) (ht_ : Touch m_ b_ s) :
    Touch m_ b_ (State.ccpCarry h op status packet s) := by
  unfold State.ccpCarry
  try dsimp only
  repeat' (first | with_reducible assumption | (exact sub_trans (by decide) hm_) | (with_reducible refine State.bump_touch ?_ ?_ ) | (with_reducible refine State.lpSignal_touch ?_ ?_ ) | (with_reducible refine State.lpUsed_touch ?_ ?_ ) | (with_reducible refine State.send_touch ?_ ?_ ) | (with_reducible refine State.settSend_touch ?_ ?_ ) | (with_reducible refine State.when_touch ?_ ?_) | (with_reducible refine State.updLocalPort_touch ?_ ?_) | (with_reducible refine ite_touch ?_ ?_) | (with_reducible refine id_touch ?_) | intro _ _ | intro _ | dsimp only | split)

theorem State.ccpRefuse_touch {h : CcpHdr} {op status : Nat} {s : State} {m_ : Nat} {b_ : State} (hm_ : Nat.land 72482816 m_ = 72482816) (ht_ : Touch m_ b_ s) :
    Touch m_ b_ (State.ccpRefuse h op status s) := by
  unfold State.ccpRefuse
  try dsimp only
  repeat' (first | with_reducible assumption | (exact sub_trans (by decide) hm_) | (with_reducible refine State.ccpCarry_touch ?_ ?_ ) | (with_reducible refine ite_touch ?_ ?_) | (with_reducible refine id_touch ?_) | intro _ _ | intro _ | dsimp only | split)

theorem State.ccpReply_touch {h : CcpHdr} {op status : Nat} {data : Bytes} {s : State} {m_ : Nat} {b_ : State} (hm_ : Nat.land 74579968 m_ = 74579968) (ht_ : Touch m_ b_ s) :
    Touch m_ b_ (State.ccpReply h op status data s) := by
  unfold State.ccpReply
  try dsimp only
  repeat' (first | with_reducible assumption | (exact sub_trans (by decide) hm_) | (with_reducible refine State.ccpCarry_touch ?_ ?_ ) | (with_reducible refine State.updSession_touch ?_ ?_ ) | (with_reducible refine State.updCcp_touch ?_ ?_) | (with_reducible refine ite_touch ?_ ?_) | (with_reducible refine id_touch ?_) | intro _ _ | intro _ | dsimp only | split)

theorem State.ccpFail_touch {h : CcpHdr} {op status : Nat} {s : State} {m_ : Nat} {b_ : State} (hm_ : Nat.land 74579968 m_ = 74579968) (ht_ : Touch m_ b_ s) :
    Touch m_ b_ (State.ccpFail h op status s) := by
  unfold State.ccpFail
  try dsimp only
  repeat' (first | with_reducible assumption | (exact sub_trans (by decide) hm_) | (with_reducible refine State.ccpReply_touch ?_ ?_ ) | (with_reducible refine ite_touch ?_ ?_) | (with_reducible refine id_touch ?_) | intro _ _ | intro _ | dsimp only | split)

theorem State.ccpConflict_touch {h : CcpHdr} {op res claimant : Nat} {s : State} {m_ : Nat} {b_ : State} (hm_ : Nat.land 74580224 m_ = 74580224) (ht_ : Touch m_ b_ s) :
    Touch m_ b_ (State.ccpConflict h op res claimant s) := by
  unfold State.ccpConflict
  try dsimp only
  repeat' (first | with_reducible assumption | (exact sub_trans (by decide) hm_) | (with_reducible refine State.ccpReply_touch ?_ ?_ ) | (with_reducible refine State.updSpine_touch ?_ ?_) | (with_reducible refine ite_touch ?_ ?_) | (with_reducible refine id_touch ?_) | intro _ _ | intro _ | dsimp only | split)

theorem State.mboxSilent_touch {h : CcpHdr} {s : State} {m_ : Nat} {b_ : State} (hm_ : Nat.land 1048576 m_ = 1048576) (ht_ : Touch m_ b_ s) :
    Touch m_ b_ (State.mboxSilent h s) := by
  unfold State.mboxSilent
  try dsimp only
  repeat' (first | with_reducible assumption | (exact sub_trans (by decide) hm_) | (with_reducible refine State.updLocalPort_touch ?_ ?_) | (with_reducible refine ite_touch ?_ ?_) | (with_reducible refine id_touch ?_) | intro _ _ | intro _ | dsimp only | split)

theorem State.ccpWake_touch {h : CcpHdr} {s : State} {m_ : Nat} {b_ : State} (hm_ : Nat.land 69206145 m_ = 69206145) (ht_ : Touch m_ b_ s) :
    Touch m_ b_ (State.ccpWake h s) := by
  unfold State.ccpWake
  try dsimp only
  repeat' (first | with_reducible assumption | (exact sub_trans (by decide) hm_) | (with_reducible refine State.wakeBy_touch ?_ ?_ ) | (with_reducible refine State.updCcp_touch ?_ ?_) | (with_reducible refine ite_touch ?_ ?_) | (with_reducible refine id_touch ?_) | intro _ _ | intro _ | dsimp only | split)

theorem State.ccpRun_touch {h : CcpHdr} {op : Nat} {group : Option Nat} {e : Option Session} {perm : Nat} {run : State → State} {s : State} {m_ : Nat} {b_ : State} (hm_ : Nat.land 74579968 m_ = 74579968) (ht_ : Touch m_ b_ s) (hrun_ : ∀ t_, Touch m_ b_ t_ → Touch m_ b_ (run t_)) :
    Touch m_ b_ (State.ccpRun h op group e perm run s) := by
  unfold State.ccpRun
  try dsimp only
  repeat' (first | with_reducible assumption | (exact sub_trans (by decide) hm_) | (with_reducible refine State.bump_touch ?_ ?_ ) | (with_reducible refine State.ccpFail_touch ?_ ?_ ) | (with_reducible refine ite_touch ?_ ?_) | (with_reducible refine id_touch ?_) | intro _ _ | intro _ | (refine hrun_ _ ?_) | dsimp only | split)

theorem State.ccpAccepted_touch {h : CcpHdr} {op : Nat} {group : Option Nat} {perm : Session → Nat} {e : Session} {run : State → State} {s : State} {m_ : Nat} {b_ : State} (hm_ : Nat.land 74579968 m_ = 74579968) (ht_ : Touch m_ b_ s) (hrun_ : ∀ t_, Touch m_ b_ t_ → Touch m_ b_ (run t_)) :
    Touch m_ b_ (State.ccpAccepted h op group perm e run s) := by
  unfold State.ccpAccepted
  try dsimp only
  repeat' (first | with_reducible assumption | (exact sub_trans (by decide) hm_) | (with_reducible refine State.ccpRun_touch ?_ ?_ ?_ ) | (with_reducible refine State.dropSession_touch ?_ ?_ ) | (with_reducible refine State.updSession_touch ?_ ?_ ) | (with_reducible refine ite_touch ?_ ?_) | (with_reducible refine id_touch ?_) | intro _ _ | intro _ | (refine hrun_ _ ?_) | dsimp only | split)

theorem State.ccpResend_touch {h : CcpHdr} {op : Nat} {e : Session} {r : CachedReply} {s : State} {m_ : Nat} {b_ : State} (hm_ : Nat.land 72482816 m_ = 72482816) (ht_ : Touch m_ b_ s) :
    Touch m_ b_ (State.ccpResend h op e r s) := by
  unfold State.ccpResend
  try dsimp only
  repeat' (first | with_reducible assumption | (exact sub_trans (by decide) hm_) | (with_reducible refine State.ccpCarry_touch ?_ ?_ ) | (with_reducible refine ite_touch ?_ ?_) | (with_reducible refine id_touch ?_) | intro _ _ | intro _ | dsimp only | split)

theorem State.ccpNotAlive_touch {h : CcpHdr} {op : Nat} {e : Session} {s : State} {m_ : Nat} {b_ : State} (hm_ : Nat.land 72482816 m_ = 72482816) (ht_ : Touch m_ b_ s) :
    Touch m_ b_ (State.ccpNotAlive h op e s) := by
  unfold State.ccpNotAlive
  try dsimp only
  repeat' (first | with_reducible assumption | (exact sub_trans (by decide) hm_) | (with_reducible refine State.ccpCarry_touch ?_ ?_ ) | (with_reducible refine ite_touch ?_ ?_) | (with_reducible refine id_touch ?_) | intro _ _ | intro _ | dsimp only | split)

theorem State.ccpInSession_touch {h : CcpHdr} {op : Nat} {group : Option Nat} {perm : Session → Nat} {run : State → State} {s : State} {m_ : Nat} {b_ : State} (hm_ : Nat.land 74579968 m_ = 74579968) (ht_ : Touch m_ b_ s) (hrun_ : ∀ t_, Touch m_ b_ t_ → Touch m_ b_ (run t_)) :
    Touch m_ b_ (State.ccpInSession h op group perm run s) := by
  unfold State.ccpInSession
  try dsimp only
  repeat' (first | with_reducible assumption | (exact sub_trans (by decide) hm_) | (with_reducible refine State.ccpAccepted_touch ?_ ?_ ?_ ) | (with_reducible refine State.ccpNotAlive_touch ?_ ?_ ) | (with_reducible refine State.ccpRefuse_touch ?_ ?_ ) | (with_reducible refine State.ccpResend_touch ?_ ?_ ) | (with_reducible refine State.mboxSilent_touch ?_ ?_ ) | (with_reducible refine ite_touch ?_ ?_) | (with_reducible refine id_touch ?_) | intro _ _ | intro _ | (refine hrun_ _ ?_) | dsimp only | split)

theorem State.ccpForward_touch {h : CcpHdr} {op : Nat} {s : State} {m_ : Nat} {b_ : State} (hm_ : Nat.land 74579968 m_ = 74579968) (ht_ : Touch m_ b_ s) :
    Touch m_ b_ (State.ccpForward h op s) := by
  unfold State.ccpForward
  try dsimp only
  repeat' (first | with_reducible assumption | (exact sub_trans (by decide) hm_) | (with_reducible refine State.ccpRefuse_touch ?_ ?_ ) | (with_reducible refine State.settSend_touch ?_ ?_ ) | (with_reducible refine State.updCcp_touch ?_ ?_) | (with_reducible refine ite_touch ?_ ?_) | (with_reducible refine id_touch ?_) | intro _ _ | intro _ | dsimp only | split)

theorem State.ccpTake_touch {h : CcpHdr} {op : Nat} {group : Option Nat} {perm : Session → Nat} {run : State → State} {s : State} {m_ : Nat} {b_ : State} (hm_ : Nat.land 74580097 m_ = 74580097) (ht_ : Touch m_ b_ s) (hrun_ : ∀ t_, Touch m_ b_ t_ → Touch m_ b_ (run t_)) :
    Touch m_ b_ (State.ccpTake h op group perm run s) := by
  unfold State.ccpTake
  try dsimp only
  repeat' (first | with_reducible assumption | (exact sub_trans (by decide) hm_) | (with_reducible refine State.cancelDen_touch ?_ ?_ ) | (with_reducible refine State.ccpForward_touch ?_ ?_ ) | (with_reducible refine State.ccpInSession_touch ?_ ?_ ?_ ) | (with_reducible refine State.ccpRefuse_touch ?_ ?_ ) | (with_reducible refine State.ccpRun_touch ?_ ?_ ?_ ) | (with_reducible refine State.ccpWake_touch ?_ ?_ ) | (with_reducible refine State.settIn_touch ?_ ?_ ?_ ) | (with_reducible refine State.wakeIdle_touch ?_ ?_ ) | (with_reducible refine State.updCcp_touch ?_ ?_) | (with_reducible refine ite_touch ?_ ?_) | (with_reducible refine id_touch ?_) | intro _ _ | intro _ | (refine hrun_ _ ?_) | dsimp only | split)

theorem State.ccpSimple_touch {h : CcpHdr} {op : Nat} {group : Option Nat} {run : State → State} {s : State} {m_ : Nat} {b_ : State} (hm_ : Nat.land 74580097 m_ = 74580097) (ht_ : Touch m_ b_ s) (hrun_ : ∀ t_, Touch m_ b_ t_ → Touch m_ b_ (run t_)) :
    Touch m_ b_ (State.ccpSimple h op group run s) := by
  unfold State.ccpSimple
  try dsimp only
  repeat' (first | with_reducible assumption | (exact sub_trans (by decide) hm_) | (with_reducible refine State.ccpTake_touch ?_ ?_ ?_ ) | (with_reducible refine ite_touch ?_ ?_) | (with_reducible refine id_touch ?_) | intro _ _ | intro _ | (refine hrun_ _ ?_) | dsimp only | split)

theorem State.ccpUnstage_touch {h : CcpHdr} {s : State} {m_ : Nat} {b_ : State} (hm_ : Nat.land 2097152 m_ = 2097152) (ht_ : Touch m_ b_ s) :
    Touch m_ b_ (State.ccpUnstage h s) := by
  unfold State.ccpUnstage
  try dsimp only
  repeat' (first | with_reducible assumption | (exact sub_trans (by decide) hm_) | (with_reducible refine State.updSession_touch ?_ ?_ ) | (with_reducible refine ite_touch ?_ ?_) | (with_reducible refine id_touch ?_) | intro _ _ | intro _ | dsimp only | split)

theorem State.sharedDone_touch {h : CcpHdr} {op : Nat} {args : List Nat} {data : Bytes} {s : State} {m_ : Nat} {b_ : State} (hm_ : Nat.land 74579968 m_ = 74579968) (ht_ : Touch m_ b_ s) :
    Touch m_ b_ (State.sharedDone h op args data s) := by
  unfold State.sharedDone
  try dsimp only
  repeat' (first | with_reducible assumption | (exact sub_trans (by decide) hm_) | (with_reducible refine State.ccpReply_touch ?_ ?_ ) | (with_reducible refine State.settSend_touch ?_ ?_ ) | (with_reducible refine State.updCcp_touch ?_ ?_) | (with_reducible refine ite_touch ?_ ?_) | (with_reducible refine id_touch ?_) | intro _ _ | intro _ | dsimp only | split)

theorem State.sharedApplied_touch {q : Nat} {s : State} {m_ : Nat} {b_ : State} (hm_ : Nat.land 74579968 m_ = 74579968) (ht_ : Touch m_ b_ s) :
    Touch m_ b_ (State.sharedApplied q s) := by
  unfold State.sharedApplied
  try dsimp only
  repeat' (first | with_reducible assumption | (exact sub_trans (by decide) hm_) | (with_reducible refine State.ccpReply_touch ?_ ?_ ) | (with_reducible refine State.dropSession_touch ?_ ?_ ) | (with_reducible refine State.updCcp_touch ?_ ?_) | (with_reducible refine foldl_touch ?_ ?_) | (with_reducible refine foldl_snd_touch ?_ ?_) | (with_reducible refine ite_touch ?_ ?_) | (with_reducible refine id_touch ?_) | intro _ _ | intro _ | dsimp only | split)

theorem State.sharedAlone_touch {s : State} {m_ : Nat} {b_ : State} (hm_ : Nat.land 74579968 m_ = 74579968) (ht_ : Touch m_ b_ s) :
    Touch m_ b_ (State.sharedAlone s) := by
  unfold State.sharedAlone
  try dsimp only
  repeat' (first | with_reducible assumption | (exact sub_trans (by decide) hm_) | (with_reducible refine State.sharedApplied_touch ?_ ?_ ) | (with_reducible refine foldl_touch ?_ ?_) | (with_reducible refine foldl_snd_touch ?_ ?_) | (with_reducible refine ite_touch ?_ ?_) | (with_reducible refine id_touch ?_) | intro _ _ | intro _ | dsimp only | split)

theorem State.relaysFail_touch {s : State} {m_ : Nat} {b_ : State} (hm_ : Nat.land 74579968 m_ = 74579968) (ht_ : Touch m_ b_ s) :
    Touch m_ b_ (State.relaysFail s) := by
  unfold State.relaysFail
  try dsimp only
  repeat' (first | with_reducible assumption | (exact sub_trans (by decide) hm_) | (with_reducible refine State.ccpRefuse_touch ?_ ?_ ) | (with_reducible refine State.updCcp_touch ?_ ?_) | (with_reducible refine foldl_touch ?_ ?_) | (with_reducible refine foldl_snd_touch ?_ ?_) | (with_reducible refine ite_touch ?_ ?_) | (with_reducible refine id_touch ?_) | intro _ _ | intro _ | dsimp only | split)

theorem State.jobStart_touch {h : CcpHdr} {op arg : Nat} {s : State} {m_ : Nat} {b_ : State} (hm_ : Nat.land 2097152 m_ = 2097152) (ht_ : Touch m_ b_ s) (j_ : Nat) (t_ : State) (h_ : State.jobStart h op arg s = some (j_, t_)) :
    Touch m_ b_ t_ := by
  unfold State.jobStart at h_
  repeat' (first | (obtain ⟨rfl, rfl⟩ := Prod.mk.inj (Option.some.inj h_); clear h_) | (cases h_; done) | dsimp only at h_ | split at h_)
  all_goals try dsimp only
  repeat' (first | with_reducible assumption | (exact sub_trans (by decide) hm_) | (with_reducible refine State.updCcp_touch ?_ ?_) | (with_reducible refine ite_touch ?_ ?_) | (with_reducible refine id_touch ?_) | intro _ _ | intro _ | dsimp only | split)

end Sys2Proof.Machine
end

