-- ==== Sys2Proof/Laws/TouchLayout.lean ====
section
/-! SUPPORT. What the operations of Machine/Layout.lean can change: one lemma for each. -/
namespace Sys2Proof.Machine
set_option linter.all false

theorem execDestagePick_touch {pool : Nat} {s : State} {t_ : State} (h_ : execDestagePick pool s = .next t_) : Touch 71507968 s t_ := by
  have hm_ : Nat.land 71507968 71507968 = 71507968 := by decide
  have ht_ := Touch.refl 71507968 s
  unfold execDestagePick at h_
  repeat' (first | (obtain rfl := next_inj h_; clear h_) | (obtain rfl := bounded_next h_; clear h_) | dsimp only at h_ | split at h_)
  all_goals try dsimp only
  repeat' (first | with_reducible assumption | (exact sub_trans (by decide) hm_) | (with_reducible refine State.takeStripe_touch ?_ ?_ ) | (with_reducible refine ite_touch ?_ ?_) | (with_reducible refine id_touch ?_) | intro _ _ | intro _ | dsimp only | split)

theorem execCoalesceTimeout_touch {pool stripe : Nat} {s : State} {t_ : State} (h_ : execCoalesceTimeout pool stripe s = .next t_) : Touch 8192 s t_ := by
  have hm_ : Nat.land 8192 8192 = 8192 := by decide
  have ht_ := Touch.refl 8192 s
  unfold execCoalesceTimeout at h_
  repeat' (first | (obtain rfl := next_inj h_; clear h_) | (obtain rfl := bounded_next h_; clear h_) | dsimp only at h_ | split at h_)
  all_goals try dsimp only
  repeat' (first | with_reducible assumption | (exact sub_trans (by decide) hm_) | (with_reducible refine State.updLayout_touch ?_ ?_) | (with_reducible refine foldl_touch ?_ ?_) | (with_reducible refine foldl_snd_touch ?_ ?_) | (with_reducible refine ite_touch ?_ ?_) | (with_reducible refine id_touch ?_) | intro _ _ | intro _ | dsimp only | split)

theorem execDestageAgeExpiry_touch {lslot : Nat} {s : State} {t_ : State} (h_ : execDestageAgeExpiry lslot s = .next t_) : Touch 8192 s t_ := by
  have hm_ : Nat.land 8192 8192 = 8192 := by decide
  have ht_ := Touch.refl 8192 s
  unfold execDestageAgeExpiry at h_
  repeat' (first | (obtain rfl := next_inj h_; clear h_) | (obtain rfl := bounded_next h_; clear h_) | dsimp only at h_ | split at h_)
  all_goals try dsimp only
  repeat' (first | with_reducible assumption | (exact sub_trans (by decide) hm_) | (with_reducible refine State.updLayout_touch ?_ ?_) | (with_reducible refine ite_touch ?_ ?_) | (with_reducible refine id_touch ?_) | intro _ _ | intro _ | dsimp only | split)

theorem execDestageIntentDurable_touch {pool stripe : Nat} {reads : List PosBlock} {s : State} {t_ : State} (h_ : execDestageIntentDurable pool stripe reads s = .next t_) : Touch 73605120 s t_ := by
  have hm_ : Nat.land 73605120 73605120 = 73605120 := by decide
  have ht_ := Touch.refl 73605120 s
  unfold execDestageIntentDurable at h_
  repeat' (first | (obtain rfl := next_inj h_; clear h_) | (obtain rfl := bounded_next h_; clear h_) | dsimp only at h_ | split at h_)
  all_goals try dsimp only
  repeat' (first | with_reducible assumption | (exact sub_trans (by decide) hm_) | (with_reducible refine State.destageWrites_touch ?_ ?_ ) | (with_reducible refine State.stage_touch ?_ ?_ ) | (with_reducible refine ite_touch ?_ ?_) | (with_reducible refine id_touch ?_) | intro _ _ | intro _ | dsimp only | split)

theorem execDestageWritesComplete_touch {pool stripe : Nat} {failed : List Nat} {s : State} {t_ : State} (h_ : execDestageWritesComplete pool stripe failed s = .next t_) : Touch 74710016 s t_ := by
  have hm_ : Nat.land 74710016 74710016 = 74710016 := by decide
  have ht_ := Touch.refl 74710016 s
  unfold execDestageWritesComplete at h_
  repeat' (first | (obtain rfl := next_inj h_; clear h_) | (obtain rfl := bounded_next h_; clear h_) | dsimp only at h_ | split at h_)
  all_goals try dsimp only
  repeat' (first | with_reducible assumption | (exact sub_trans (by decide) hm_) | (with_reducible refine State.destageEnd_touch ?_ ?_ ) | (with_reducible refine State.failMember_touch ?_ ?_ ) | (with_reducible refine State.settle_touch ?_ ?_ ) | (with_reducible refine State.stage_touch ?_ ?_ ) | (with_reducible refine foldl_touch ?_ ?_) | (with_reducible refine foldl_snd_touch ?_ ?_) | (with_reducible refine ite_touch ?_ ?_) | (with_reducible refine id_touch ?_) | intro _ _ | intro _ | dsimp only | split)

theorem execBitmapCleanTimer_touch {pool bit : Nat} {s : State} {t_ : State} (h_ : execBitmapCleanTimer pool bit s = .next t_) : Touch 71507968 s t_ := by
  have hm_ : Nat.land 71507968 71507968 = 71507968 := by decide
  have ht_ := Touch.refl 71507968 s
  unfold execBitmapCleanTimer at h_
  repeat' (first | (obtain rfl := next_inj h_; clear h_) | (obtain rfl := bounded_next h_; clear h_) | dsimp only at h_ | split at h_)
  all_goals try dsimp only
  repeat' (first | with_reducible assumption | (exact sub_trans (by decide) hm_) | (with_reducible refine State.bump_touch ?_ ?_ ) | (with_reducible refine State.headerDue_touch ?_ ?_ ) | (with_reducible refine State.journal_touch ?_ ?_ ) | (with_reducible refine State.updPool_touch ?_ ?_ ) | (with_reducible refine ite_touch ?_ ?_) | (with_reducible refine id_touch ?_) | intro _ _ | intro _ | dsimp only | split)

theorem State.renameJournal_touch {n old new : Nat} {s : State} {m_ : Nat} {b_ : State} (hm_ : Nat.land 8388609 m_ = 8388609) (ht_ : Touch m_ b_ s) :
    Touch m_ b_ (State.renameJournal n old new s) := by
  unfold State.renameJournal
  try dsimp only
  repeat' (first | with_reducible assumption | (exact sub_trans (by decide) hm_) | (with_reducible refine State.setWord_touch ?_ ?_ ) | (with_reducible refine ite_touch ?_ ?_) | (with_reducible refine id_touch ?_) | intro _ _ | intro _ | dsimp only | split)

theorem execJournalBlock_touch {pool : Nat} {recs : List JRec} {crcGood : Bool} {s : State} {t_ : State} (h_ : execJournalBlock pool recs crcGood s = .next t_) : Touch 75636737 s t_ := by
  have hm_ : Nat.land 75636737 75636737 = 75636737 := by decide
  have ht_ := Touch.refl 75636737 s
  unfold execJournalBlock at h_
  repeat' (first | (obtain rfl := next_inj h_; clear h_) | (obtain rfl := bounded_next h_; clear h_) | dsimp only at h_ | split at h_)
  all_goals try dsimp only
  repeat' (first | with_reducible assumption | (exact sub_trans (by decide) hm_) | (with_reducible refine State.renameJournal_touch ?_ ?_ ) | (with_reducible refine State.settIn_touch ?_ ?_ ?_ ) | (with_reducible refine State.updPool_touch ?_ ?_ ) | (with_reducible refine foldl_touch ?_ ?_) | (with_reducible refine foldl_snd_touch ?_ ?_) | (with_reducible refine ite_touch ?_ ?_) | (with_reducible refine id_touch ?_) | intro _ _ | intro _ | dsimp only | split)

theorem execJournalDriveReplace_touch {pool slot : Nat} {copies : List JCopy} {s : State} {t_ : State} (h_ : execJournalDriveReplace pool slot copies s = .next t_) : Touch 81993729 s t_ := by
  have hm_ : Nat.land 81993729 81993729 = 81993729 := by decide
  have ht_ := Touch.refl 81993729 s
  unfold execJournalDriveReplace at h_
  repeat' (first | (obtain rfl := next_inj h_; clear h_) | (obtain rfl := bounded_next h_; clear h_) | dsimp only at h_ | split at h_)
  all_goals try dsimp only
  repeat' (first | with_reducible assumption | (exact sub_trans (by decide) hm_) | (with_reducible refine State.journal_touch ?_ ?_ ) | (with_reducible refine State.raise_touch ?_ ?_ ) | (with_reducible refine State.renameJournal_touch ?_ ?_ ) | (with_reducible refine State.submitRun_touch ?_ ?_ ) | (with_reducible refine State.updPool_touch ?_ ?_ ) | (with_reducible refine ite_touch ?_ ?_) | (with_reducible refine id_touch ?_) | intro _ _ | intro _ | dsimp only | split)

theorem State.readmit_touch {n : Nat} {s : State} {m_ : Nat} {b_ : State} (hm_ : Nat.land 71531520 m_ = 71531520) (ht_ : Touch m_ b_ s) :
    Touch m_ b_ (State.readmit n s) := by
  unfold State.readmit
  try dsimp only
  repeat' (first | with_reducible assumption | (exact sub_trans (by decide) hm_) | (with_reducible refine State.dropReads_touch ?_ ?_ ) | (with_reducible refine State.endQuiet_touch ?_ ?_ ) | (with_reducible refine State.retire_touch ?_ ?_ ) | (with_reducible refine State.stageFive_touch ?_ ?_ ) | (with_reducible refine State.unqueue_touch ?_ ?_ ) | (with_reducible refine State.updSlot_touch ?_ ?_ ) | (with_reducible refine ite_touch ?_ ?_) | (with_reducible refine id_touch ?_) | intro _ _ | intro _ | dsimp only | split)

theorem State.startHoldup_touch {s : State} {m_ : Nat} {b_ : State} (hm_ : Nat.land 71531776 m_ = 71531776) (ht_ : Touch m_ b_ s) :
    Touch m_ b_ (State.startHoldup s) := by
  unfold State.startHoldup
  try dsimp only
  repeat' (first | with_reducible assumption | (exact sub_trans (by decide) hm_) | (with_reducible refine State.bump_touch ?_ ?_ ) | (with_reducible refine State.closeIsland_touch ?_ ?_ ) | (with_reducible refine State.readmit_touch ?_ ?_ ) | (with_reducible refine State.releaseCovered_touch ?_ ?_ ) | (with_reducible refine State.updPool_touch ?_ ?_ ) | (with_reducible refine State.updCons_touch ?_ ?_) | (with_reducible refine State.updLayout_touch ?_ ?_) | (with_reducible refine foldl_touch ?_ ?_) | (with_reducible refine foldl_snd_touch ?_ ?_) | (with_reducible refine ite_touch ?_ ?_) | (with_reducible refine id_touch ?_) | intro _ _ | intro _ | dsimp only | split)

theorem State.testBroken_touch {s : State} {m_ : Nat} {b_ : State} (hm_ : Nat.land 2 m_ = 2) (ht_ : Touch m_ b_ s) :
    Touch m_ b_ (State.testBroken s) := by
  unfold State.testBroken
  try dsimp only
  repeat' (first | with_reducible assumption | (exact sub_trans (by decide) hm_) | (with_reducible refine State.updPower_touch ?_ ?_) | (with_reducible refine ite_touch ?_ ?_) | (with_reducible refine id_touch ?_) | intro _ _ | intro _ | dsimp only | split)

theorem State.feedDown_touch {feed volt : Nat} {s : State} {m_ : Nat} {b_ : State} (hm_ : Nat.land 73629059 m_ = 73629059) (ht_ : Touch m_ b_ s) :
    Touch m_ b_ (State.feedDown feed volt s) := by
  unfold State.feedDown
  try dsimp only
  repeat' (first | with_reducible assumption | (exact sub_trans (by decide) hm_) | (with_reducible refine State.bump_touch ?_ ?_ ) | (with_reducible refine State.raise_touch ?_ ?_ ) | (with_reducible refine State.singleFault_touch ?_ ?_ ) | (with_reducible refine State.startHoldup_touch ?_ ?_ ) | (with_reducible refine State.testBroken_touch ?_ ?_ ) | (with_reducible refine State.wakeBy_touch ?_ ?_ ) | (with_reducible refine State.when_touch ?_ ?_) | (with_reducible refine State.updPower_touch ?_ ?_) | (with_reducible refine ite_touch ?_ ?_) | (with_reducible refine id_touch ?_) | intro _ _ | intro _ | dsimp only | split)

theorem execBothFeedsLost_touch {s : State} {t_ : State} (h_ : execBothFeedsLost s = .next t_) : Touch 73629059 s t_ := by
  have hm_ : Nat.land 73629059 73629059 = 73629059 := by decide
  have ht_ := Touch.refl 73629059 s
  unfold execBothFeedsLost at h_
  repeat' (first | (obtain rfl := next_inj h_; clear h_) | (obtain rfl := bounded_next h_; clear h_) | dsimp only at h_ | split at h_)
  all_goals try dsimp only
  repeat' (first | with_reducible assumption | (exact sub_trans (by decide) hm_) | (with_reducible refine State.feedDown_touch ?_ ?_ ) | (with_reducible refine ite_touch ?_ ?_) | (with_reducible refine id_touch ?_) | intro _ _ | intro _ | dsimp only | split)

theorem State.allSlotsOff_touch {s : State} {m_ : Nat} {b_ : State} (hm_ : Nat.land 2 m_ = 2) (ht_ : Touch m_ b_ s) :
    Touch m_ b_ (State.allSlotsOff s) := by
  unfold State.allSlotsOff
  try dsimp only
  repeat' (first | with_reducible assumption | (exact sub_trans (by decide) hm_) | (with_reducible refine State.updPower_touch ?_ ?_) | (with_reducible refine ite_touch ?_ ?_) | (with_reducible refine id_touch ?_) | intro _ _ | intro _ | dsimp only | split)

theorem State.holdupStop_touch {s : State} {m_ : Nat} {b_ : State} (hm_ : Nat.land 67108835 m_ = 67108835) (ht_ : Touch m_ b_ s) :
    Touch m_ b_ (State.holdupStop s) := by
  unfold State.holdupStop
  try dsimp only
  repeat' (first | with_reducible assumption | (exact sub_trans (by decide) hm_) | (with_reducible refine State.allSlotsOff_touch ?_ ?_ ) | (with_reducible refine State.stopService_touch ?_ ?_ ) | (with_reducible refine State.updPins_touch ?_ ?_ ) | (with_reducible refine State.wiped_touch ?_ ?_ ) | (with_reducible refine State.updDen_touch ?_ ?_) | (with_reducible refine ite_touch ?_ ?_) | (with_reducible refine id_touch ?_) | intro _ _ | intro _ | dsimp only | split)

theorem State.holdupResume_touch {owed : List Nat} {s : State} {m_ : Nat} {b_ : State} (hm_ : Nat.land 134217699 m_ = 134217699) (ht_ : Touch m_ b_ s) :
    Touch m_ b_ (State.holdupResume owed s) := by
  unfold State.holdupResume
  try dsimp only
  repeat' (first | with_reducible assumption | (exact sub_trans (by decide) hm_) | (with_reducible refine State.drainAll_touch ?_ ?_ ) | (with_reducible refine State.openIsland_touch ?_ ?_ ) | (with_reducible refine State.postCompletion_touch ?_ ?_ ) | (with_reducible refine State.resetByPin_touch ?_ ?_ ) | (with_reducible refine State.settle_touch ?_ ?_ ) | (with_reducible refine State.updLayout_touch ?_ ?_) | (with_reducible refine foldl_touch ?_ ?_) | (with_reducible refine foldl_snd_touch ?_ ?_) | (with_reducible refine ite_touch ?_ ?_) | (with_reducible refine id_touch ?_) | intro _ _ | intro _ | dsimp only | split)

theorem execHoldupComplete_touch {s : State} {t_ : State} (h_ : execHoldupComplete s = .next t_) : Touch 134217699 s t_ := by
  have hm_ : Nat.land 134217699 134217699 = 134217699 := by decide
  have ht_ := Touch.refl 134217699 s
  unfold execHoldupComplete at h_
  repeat' (first | (obtain rfl := next_inj h_; clear h_) | (obtain rfl := bounded_next h_; clear h_) | dsimp only at h_ | split at h_)
  all_goals try dsimp only
  repeat' (first | with_reducible assumption | (exact sub_trans (by decide) hm_) | (with_reducible refine State.holdupResume_touch ?_ ?_ ) | (with_reducible refine State.holdupStop_touch ?_ ?_ ) | (with_reducible refine State.journalHeader_touch ?_ ?_ ) | (with_reducible refine foldl_touch ?_ ?_) | (with_reducible refine foldl_snd_touch ?_ ?_) | (with_reducible refine ite_touch ?_ ?_) | (with_reducible refine id_touch ?_) | intro _ _ | intro _ | dsimp only | split)

end Sys2Proof.Machine
end

