-- ==== Sys2Proof/Laws/TouchNet.lean ====
section
/-! SUPPORT. What the operations of Machine/Net.lean can change: one lemma for each. -/
namespace Sys2Proof.Machine
set_option linter.all false

theorem State.frameSeen_touch {s : State} {m_ : Nat} {b_ : State} (hm_ : Nat.land 128 m_ = 128) (ht_ : Touch m_ b_ s) :
    Touch m_ b_ (State.frameSeen s) := by
  unfold State.frameSeen
  try dsimp only
  repeat' (first | with_reducible assumption | (exact sub_trans (by decide) hm_) | (with_reducible refine State.cancelDen_touch ?_ ?_ ) | (with_reducible refine State.wakeIdle_touch ?_ ?_ ) | (with_reducible refine ite_touch ?_ ?_) | (with_reducible refine id_touch ?_) | intro _ _ | intro _ | dsimp only | split)

theorem State.lagRx_touch {p len : Nat} {s : State} {m_ : Nat} {b_ : State} (hm_ : Nat.land 512 m_ = 512) (ht_ : Touch m_ b_ s) :
    Touch m_ b_ (State.lagRx p len s) := by
  unfold State.lagRx
  try dsimp only
  repeat' (first | with_reducible assumption | (exact sub_trans (by decide) hm_) | (with_reducible refine State.updLag_touch ?_ ?_ ) | (with_reducible refine ite_touch ?_ ?_) | (with_reducible refine id_touch ?_) | intro _ _ | intro _ | dsimp only | split)

theorem State.acceptFrame_touch {f : Frame} {s : State} {m_ : Nat} {b_ : State} (hm_ : Nat.land 71369216 m_ = 71369216) (ht_ : Touch m_ b_ s) :
    Touch m_ b_ (State.acceptFrame f s) := by
  unfold State.acceptFrame
  try dsimp only
  repeat' (first | with_reducible assumption | (exact sub_trans (by decide) hm_) | (with_reducible refine State.bump_touch ?_ ?_ ) | (with_reducible refine State.bumpN_touch ?_ ?_ ) | (with_reducible refine State.headroomCheck_touch ?_ ?_ ) | (refine State.store_touch ?_ ?_ _ (by with_reducible assumption)) | (with_reducible refine State.updQos_touch ?_ ?_) | (with_reducible refine ite_touch ?_ ?_) | (with_reducible refine id_touch ?_) | intro _ _ | intro _ | dsimp only | split)

theorem execFrameReceive_touch {f : Frame} {s : State} {t_ : State} (h_ : execFrameReceive f s = .next t_) : Touch 71369344 s t_ := by
  have hm_ : Nat.land 71369344 71369344 = 71369344 := by decide
  have ht_ := Touch.refl 71369344 s
  unfold execFrameReceive at h_
  repeat' (first | (obtain rfl := next_inj h_; clear h_) | (obtain rfl := bounded_next h_; clear h_) | dsimp only at h_ | split at h_)
  all_goals try dsimp only
  repeat' (first | with_reducible assumption | (exact sub_trans (by decide) hm_) | (with_reducible refine State.acceptFrame_touch ?_ ?_ ) | (with_reducible refine State.bump_touch ?_ ?_ ) | (with_reducible refine State.bwAdd_touch ?_ ?_ ) | (with_reducible refine State.frameSeen_touch ?_ ?_ ) | (with_reducible refine State.lagRx_touch ?_ ?_ ) | (with_reducible refine ite_touch ?_ ?_) | (with_reducible refine id_touch ?_) | intro _ _ | intro _ | dsimp only | split)

theorem execPfcXoffRefresh_touch {port cls : Nat} {s : State} {t_ : State} (h_ : execPfcXoffRefresh port cls s = .next t_) : Touch 71303680 s t_ := by
  have hm_ : Nat.land 71303680 71303680 = 71303680 := by decide
  have ht_ := Touch.refl 71303680 s
  unfold execPfcXoffRefresh at h_
  repeat' (first | (obtain rfl := next_inj h_; clear h_) | (obtain rfl := bounded_next h_; clear h_) | dsimp only at h_ | split at h_)
  all_goals try dsimp only
  repeat' (first | with_reducible assumption | (exact sub_trans (by decide) hm_) | (with_reducible refine State.sendPfc_touch ?_ ?_ ) | (with_reducible refine ite_touch ?_ ?_) | (with_reducible refine id_touch ?_) | intro _ _ | intro _ | dsimp only | split)

theorem State.pfcClass_touch {p rate t quanta : Nat} {s : State} {m_ : Nat} {b_ : State} (hm_ : Nat.land 4194816 m_ = 4194816) (ht_ : Touch m_ b_ s) :
    Touch m_ b_ (State.pfcClass p rate t quanta s) := by
  unfold State.pfcClass
  try dsimp only
  repeat' (first | with_reducible assumption | (exact sub_trans (by decide) hm_) | (with_reducible refine State.bump_touch ?_ ?_ ) | (with_reducible refine State.updClass_touch ?_ ?_ ) | (with_reducible refine ite_touch ?_ ?_) | (with_reducible refine id_touch ?_) | intro _ _ | intro _ | dsimp only | split)

theorem execPfcFrameReceive_touch {port : Nat} {quanta : List Nat} {enable : Nat} {s : State} {t_ : State} (h_ : execPfcFrameReceive port quanta enable s = .next t_) : Touch 4194944 s t_ := by
  have hm_ : Nat.land 4194944 4194944 = 4194944 := by decide
  have ht_ := Touch.refl 4194944 s
  unfold execPfcFrameReceive at h_
  repeat' (first | (obtain rfl := next_inj h_; clear h_) | (obtain rfl := bounded_next h_; clear h_) | dsimp only at h_ | split at h_)
  all_goals try dsimp only
  repeat' (first | with_reducible assumption | (exact sub_trans (by decide) hm_) | (with_reducible refine State.frameSeen_touch ?_ ?_ ) | (with_reducible refine State.pfcClass_touch ?_ ?_ ) | (with_reducible refine foldl_touch ?_ ?_) | (with_reducible refine foldl_snd_touch ?_ ?_) | (with_reducible refine ite_touch ?_ ?_) | (with_reducible refine id_touch ?_) | intro _ _ | intro _ | dsimp only | split)

theorem execPfcPauseExpiry_touch {port cls : Nat} {s : State} {t_ : State} (h_ : execPfcPauseExpiry port cls s = .next t_) : Touch 512 s t_ := by
  have hm_ : Nat.land 512 512 = 512 := by decide
  have ht_ := Touch.refl 512 s
  unfold execPfcPauseExpiry at h_
  repeat' (first | (obtain rfl := next_inj h_; clear h_) | (obtain rfl := bounded_next h_; clear h_) | dsimp only at h_ | split at h_)
  all_goals try dsimp only
  repeat' (first | with_reducible assumption | (exact sub_trans (by decide) hm_) | (with_reducible refine State.updClass_touch ?_ ?_ ) | (with_reducible refine ite_touch ?_ ?_) | (with_reducible refine id_touch ?_) | intro _ _ | intro _ | dsimp only | split)

theorem execPfcWdTrip_touch {port cls : Nat} {s : State} {t_ : State} (h_ : execPfcWdTrip port cls s = .next t_) : Touch 73400832 s t_ := by
  have hm_ : Nat.land 73400832 73400832 = 73400832 := by decide
  have ht_ := Touch.refl 73400832 s
  unfold execPfcWdTrip at h_
  repeat' (first | (obtain rfl := next_inj h_; clear h_) | (obtain rfl := bounded_next h_; clear h_) | dsimp only at h_ | split at h_)
  all_goals try dsimp only
  repeat' (first | with_reducible assumption | (exact sub_trans (by decide) hm_) | (with_reducible refine State.bump_touch ?_ ?_ ) | (with_reducible refine State.raise_touch ?_ ?_ ) | (with_reducible refine State.updClass_touch ?_ ?_ ) | (with_reducible refine ite_touch ?_ ?_) | (with_reducible refine id_touch ?_) | intro _ _ | intro _ | dsimp only | split)

theorem execPfcWdRestore_touch {port cls : Nat} {s : State} {t_ : State} (h_ : execPfcWdRestore port cls s = .next t_) : Touch 512 s t_ := by
  have hm_ : Nat.land 512 512 = 512 := by decide
  have ht_ := Touch.refl 512 s
  unfold execPfcWdRestore at h_
  repeat' (first | (obtain rfl := next_inj h_; clear h_) | (obtain rfl := bounded_next h_; clear h_) | dsimp only at h_ | split at h_)
  all_goals try dsimp only
  repeat' (first | with_reducible assumption | (exact sub_trans (by decide) hm_) | (with_reducible refine State.updClass_touch ?_ ?_ ) | (with_reducible refine ite_touch ?_ ?_) | (with_reducible refine id_touch ?_) | intro _ _ | intro _ | dsimp only | split)

theorem execLldpReceive_touch {port : Nat} {s : State} {t_ : State} (h_ : execLldpReceive port s = .next t_) : Touch 640 s t_ := by
  have hm_ : Nat.land 640 640 = 640 := by decide
  have ht_ := Touch.refl 640 s
  unfold execLldpReceive at h_
  repeat' (first | (obtain rfl := next_inj h_; clear h_) | (obtain rfl := bounded_next h_; clear h_) | dsimp only at h_ | split at h_)
  all_goals try dsimp only
  repeat' (first | with_reducible assumption | (exact sub_trans (by decide) hm_) | (with_reducible refine State.frameSeen_touch ?_ ?_ ) | (with_reducible refine State.updPort_touch ?_ ?_ ) | (with_reducible refine ite_touch ?_ ?_) | (with_reducible refine id_touch ?_) | intro _ _ | intro _ | dsimp only | split)

theorem execLldpTransmit_touch {s : State} {t_ : State} (h_ : execLldpTransmit s = .next t_) : Touch 67108864 s t_ := by
  have hm_ : Nat.land 67108864 67108864 = 67108864 := by decide
  have ht_ := Touch.refl 67108864 s
  unfold execLldpTransmit at h_
  repeat' (first | (obtain rfl := next_inj h_; clear h_) | (obtain rfl := bounded_next h_; clear h_) | dsimp only at h_ | split at h_)
  all_goals try dsimp only
  repeat' (first | with_reducible assumption | (exact sub_trans (by decide) hm_) | (with_reducible refine State.send_touch ?_ ?_ ) | (with_reducible refine foldl_touch ?_ ?_) | (with_reducible refine foldl_snd_touch ?_ ?_) | (with_reducible refine ite_touch ?_ ?_) | (with_reducible refine id_touch ?_) | intro _ _ | intro _ | dsimp only | split)

theorem State.attachMember_touch {g p : Nat} {s : State} {m_ : Nat} {b_ : State} (hm_ : Nat.land 66048 m_ = 66048) (ht_ : Touch m_ b_ s) :
    Touch m_ b_ (State.attachMember g p s) := by
  unfold State.attachMember
  try dsimp only
  repeat' (first | with_reducible assumption | (exact sub_trans (by decide) hm_) | (with_reducible refine State.rebalance_touch ?_ ?_ ) | (with_reducible refine State.updPort_touch ?_ ?_ ) | (with_reducible refine ite_touch ?_ ?_) | (with_reducible refine id_touch ?_) | intro _ _ | intro _ | dsimp only | split)

theorem State.beginStep_touch {g p target : Nat} {s : State} {m_ : Nat} {b_ : State} (hm_ : Nat.land 66048 m_ = 66048) (ht_ : Touch m_ b_ s) :
    Touch m_ b_ (State.beginStep g p target s) := by
  unfold State.beginStep
  try dsimp only
  repeat' (first | with_reducible assumption | (exact sub_trans (by decide) hm_) | (with_reducible refine State.shareAmong_touch ?_ ?_ ) | (with_reducible refine State.updLag_touch ?_ ?_ ) | (with_reducible refine ite_touch ?_ ?_) | (with_reducible refine id_touch ?_) | intro _ _ | intro _ | dsimp only | split)

theorem State.stepDone_touch {g : Nat} {s : State} {m_ : Nat} {b_ : State} (hm_ : Nat.land 66048 m_ = 66048) (ht_ : Touch m_ b_ s) :
    Touch m_ b_ (State.stepDone g s) := by
  unfold State.stepDone
  try dsimp only
  repeat' (first | with_reducible assumption | (exact sub_trans (by decide) hm_) | (with_reducible refine State.beginStep_touch ?_ ?_ ) | (with_reducible refine State.updLag_touch ?_ ?_ ) | (with_reducible refine ite_touch ?_ ?_) | (with_reducible refine id_touch ?_) | intro _ _ | intro _ | dsimp only | split)

theorem State.stepAbandoned_touch {g : Nat} {s : State} {m_ : Nat} {b_ : State} (hm_ : Nat.land 512 m_ = 512) (ht_ : Touch m_ b_ s) :
    Touch m_ b_ (State.stepAbandoned g s) := by
  unfold State.stepAbandoned
  try dsimp only
  repeat' (first | with_reducible assumption | (exact sub_trans (by decide) hm_) | (with_reducible refine State.updLag_touch ?_ ?_ ) | (with_reducible refine ite_touch ?_ ?_) | (with_reducible refine id_touch ?_) | intro _ _ | intro _ | dsimp only | split)

theorem State.stepCheck_touch {g : Nat} {s : State} {m_ : Nat} {b_ : State} (hm_ : Nat.land 66048 m_ = 66048) (ht_ : Touch m_ b_ s) :
    Touch m_ b_ (State.stepCheck g s) := by
  unfold State.stepCheck
  try dsimp only
  repeat' (first | with_reducible assumption | (exact sub_trans (by decide) hm_) | (with_reducible refine State.stepDone_touch ?_ ?_ ) | (with_reducible refine ite_touch ?_ ?_) | (with_reducible refine id_touch ?_) | intro _ _ | intro _ | dsimp only | split)

theorem State.stepAttach_touch {g p : Nat} {s : State} {m_ : Nat} {b_ : State} (hm_ : Nat.land 66048 m_ = 66048) (ht_ : Touch m_ b_ s) :
    Touch m_ b_ (State.stepAttach g p s) := by
  unfold State.stepAttach
  try dsimp only
  repeat' (first | with_reducible assumption | (exact sub_trans (by decide) hm_) | (with_reducible refine State.attachMember_touch ?_ ?_ ) | (with_reducible refine State.stepCheck_touch ?_ ?_ ) | (with_reducible refine State.updLag_touch ?_ ?_ ) | (with_reducible refine ite_touch ?_ ?_) | (with_reducible refine id_touch ?_) | intro _ _ | intro _ | dsimp only | split)

theorem execLacpduReceive_touch {port : Nat} {sync _collecting distributing : Bool} {s : State} {t_ : State} (h_ : execLacpduReceive port sync _collecting distributing s = .next t_) : Touch 66176 s t_ := by
  have hm_ : Nat.land 66176 66176 = 66176 := by decide
  have ht_ := Touch.refl 66176 s
  unfold execLacpduReceive at h_
  repeat' (first | (obtain rfl := next_inj h_; clear h_) | (obtain rfl := bounded_next h_; clear h_) | dsimp only at h_ | split at h_)
  all_goals try dsimp only
  repeat' (first | with_reducible assumption | (exact sub_trans (by decide) hm_) | (with_reducible refine State.attachMember_touch ?_ ?_ ) | (with_reducible refine State.frameSeen_touch ?_ ?_ ) | (with_reducible refine State.rebalance_touch ?_ ?_ ) | (with_reducible refine State.stepAttach_touch ?_ ?_ ) | (with_reducible refine State.stepDone_touch ?_ ?_ ) | (with_reducible refine State.updLag_touch ?_ ?_ ) | (with_reducible refine State.updPort_touch ?_ ?_ ) | (with_reducible refine ite_touch ?_ ?_) | (with_reducible refine id_touch ?_) | intro _ _ | intro _ | dsimp only | split)

theorem execLacpPeriodic_touch {lag : Nat} {s : State} {t_ : State} (h_ : execLacpPeriodic lag s = .next t_) : Touch 67108864 s t_ := by
  have hm_ : Nat.land 67108864 67108864 = 67108864 := by decide
  have ht_ := Touch.refl 67108864 s
  unfold execLacpPeriodic at h_
  repeat' (first | (obtain rfl := next_inj h_; clear h_) | (obtain rfl := bounded_next h_; clear h_) | dsimp only at h_ | split at h_)
  all_goals try dsimp only
  repeat' (first | with_reducible assumption | (exact sub_trans (by decide) hm_) | (with_reducible refine State.sendLacp_touch ?_ ?_ ) | (with_reducible refine foldl_touch ?_ ?_) | (with_reducible refine foldl_snd_touch ?_ ?_) | (with_reducible refine ite_touch ?_ ?_) | (with_reducible refine id_touch ?_) | intro _ _ | intro _ | dsimp only | split)

theorem execGateIntervalEnd_touch {port : Nat} {s : State} {t_ : State} (h_ : execGateIntervalEnd port s = .next t_) : Touch 512 s t_ := by
  have hm_ : Nat.land 512 512 = 512 := by decide
  have ht_ := Touch.refl 512 s
  unfold execGateIntervalEnd at h_
  repeat' (first | (obtain rfl := next_inj h_; clear h_) | (obtain rfl := bounded_next h_; clear h_) | dsimp only at h_ | split at h_)
  all_goals try dsimp only
  repeat' (first | with_reducible assumption | (exact sub_trans (by decide) hm_) | (with_reducible refine State.updPort_touch ?_ ?_ ) | (with_reducible refine ite_touch ?_ ?_) | (with_reducible refine id_touch ?_) | intro _ _ | intro _ | dsimp only | split)

theorem State.startFrame_touch {p : Nat} {strictClass : Option Nat} {it : QItem} {s : State} {m_ : Nat} {b_ : State} (hm_ : Nat.land 104923648 m_ = 104923648) (ht_ : Touch m_ b_ s) :
    Touch m_ b_ (State.startFrame p strictClass it s) := by
  unfold State.startFrame
  try dsimp only
  repeat' (first | with_reducible assumption | (exact sub_trans (by decide) hm_) | (with_reducible refine State.bump_touch ?_ ?_ ) | (with_reducible refine State.charge_touch ?_ ?_ ) | (with_reducible refine State.draw_touch ?_ ?_ ) | (with_reducible refine State.issue_touch ?_ ?_ ) | (with_reducible refine State.send_touch ?_ ?_ ) | (with_reducible refine State.updPort_touch ?_ ?_ ) | (with_reducible refine State.when_touch ?_ ?_) | (with_reducible refine State.updQos_touch ?_ ?_) | (with_reducible refine ite_touch ?_ ?_) | (with_reducible refine id_touch ?_) | intro _ _ | intro _ | dsimp only | split)

theorem execEgressDispatch_touch {port : Nat} {s : State} {t_ : State} (h_ : execEgressDispatch port s = .next t_) : Touch 104923648 s t_ := by
  have hm_ : Nat.land 104923648 104923648 = 104923648 := by decide
  have ht_ := Touch.refl 104923648 s
  unfold execEgressDispatch at h_
  repeat' (first | (obtain rfl := next_inj h_; clear h_) | (obtain rfl := bounded_next h_; clear h_) | dsimp only at h_ | split at h_)
  all_goals try dsimp only
  repeat' (first | with_reducible assumption | (exact sub_trans (by decide) hm_) | (with_reducible refine State.startFrame_touch ?_ ?_ ) | (with_reducible refine ite_touch ?_ ?_) | (with_reducible refine id_touch ?_) | intro _ _ | intro _ | dsimp only | split)

theorem execFrameTransmitEnd_touch {port item : Nat} {s : State} {t_ : State} (h_ : execFrameTransmitEnd port item s = .next t_) : Touch 4260352 s t_ := by
  have hm_ : Nat.land 4260352 4260352 = 4260352 := by decide
  have ht_ := Touch.refl 4260352 s
  unfold execFrameTransmitEnd at h_
  repeat' (first | (obtain rfl := next_inj h_; clear h_) | (obtain rfl := bounded_next h_; clear h_) | dsimp only at h_ | split at h_)
  all_goals try dsimp only
  repeat' (first | with_reducible assumption | (exact sub_trans (by decide) hm_) | (with_reducible refine State.bump_touch ?_ ?_ ) | (with_reducible refine State.bumpN_touch ?_ ?_ ) | (with_reducible refine State.bwAdd_touch ?_ ?_ ) | (with_reducible refine State.freeTx_touch ?_ ?_ ) | (with_reducible refine State.updLag_touch ?_ ?_ ) | (with_reducible refine State.updQos_touch ?_ ?_) | (with_reducible refine ite_touch ?_ ?_) | (with_reducible refine id_touch ?_) | intro _ _ | intro _ | dsimp only | split)

theorem execPortLinkUp_touch {port rate : Nat} {s : State} {t_ : State} (h_ : execPortLinkUp port rate s = .next t_) : Touch 67109504 s t_ := by
  have hm_ : Nat.land 67109504 67109504 = 67109504 := by decide
  have ht_ := Touch.refl 67109504 s
  unfold execPortLinkUp at h_
  repeat' (first | (obtain rfl := next_inj h_; clear h_) | (obtain rfl := bounded_next h_; clear h_) | dsimp only at h_ | split at h_)
  all_goals try dsimp only
  repeat' (first | with_reducible assumption | (exact sub_trans (by decide) hm_) | (with_reducible refine State.sendLacp_touch ?_ ?_ ) | (with_reducible refine State.updLag_touch ?_ ?_ ) | (with_reducible refine State.updPort_touch ?_ ?_ ) | (with_reducible refine State.wakeIdle_touch ?_ ?_ ) | (with_reducible refine ite_touch ?_ ?_) | (with_reducible refine id_touch ?_) | intro _ _ | intro _ | dsimp only | split)

theorem State.linkGone_touch {port : Nat} {s : State} {m_ : Nat} {b_ : State} (hm_ : Nat.land 4260352 m_ = 4260352) (ht_ : Touch m_ b_ s) :
    Touch m_ b_ (State.linkGone port s) := by
  unfold State.linkGone
  try dsimp only
  repeat' (first | with_reducible assumption | (exact sub_trans (by decide) hm_) | (with_reducible refine State.dropQueued_touch ?_ ?_ ) | (with_reducible refine State.rebalance_touch ?_ ?_ ) | (with_reducible refine State.settleMoves_touch ?_ ?_ ) | (with_reducible refine State.updLag_touch ?_ ?_ ) | (with_reducible refine State.updPort_touch ?_ ?_ ) | (with_reducible refine ite_touch ?_ ?_) | (with_reducible refine id_touch ?_) | intro _ _ | intro _ | dsimp only | split)

theorem State.linkLost_touch {port : Nat} {s : State} {m_ : Nat} {b_ : State} (hm_ : Nat.land 73597440 m_ = 73597440) (ht_ : Touch m_ b_ s) :
    Touch m_ b_ (State.linkLost port s) := by
  unfold State.linkLost
  try dsimp only
  repeat' (first | with_reducible assumption | (exact sub_trans (by decide) hm_) | (with_reducible refine State.linkGone_touch ?_ ?_ ) | (with_reducible refine State.singleFault_touch ?_ ?_ ) | (with_reducible refine State.when_touch ?_ ?_) | (with_reducible refine ite_touch ?_ ?_) | (with_reducible refine id_touch ?_) | intro _ _ | intro _ | dsimp only | split)

theorem execPortLinkDown_touch {port : Nat} {s : State} {t_ : State} (h_ : execPortLinkDown port s = .next t_) : Touch 73597440 s t_ := by
  have hm_ : Nat.land 73597440 73597440 = 73597440 := by decide
  have ht_ := Touch.refl 73597440 s
  unfold execPortLinkDown at h_
  repeat' (first | (obtain rfl := next_inj h_; clear h_) | (obtain rfl := bounded_next h_; clear h_) | dsimp only at h_ | split at h_)
  all_goals try dsimp only
  repeat' (first | with_reducible assumption | (exact sub_trans (by decide) hm_) | (with_reducible refine State.linkLost_touch ?_ ?_ ) | (with_reducible refine ite_touch ?_ ?_) | (with_reducible refine id_touch ?_) | intro _ _ | intro _ | dsimp only | split)

theorem execBucketMoveCommit_touch {lag bucket : Nat} {s : State} {t_ : State} (h_ : execBucketMoveCommit lag bucket s = .next t_) : Touch 66048 s t_ := by
  have hm_ : Nat.land 66048 66048 = 66048 := by decide
  have ht_ := Touch.refl 66048 s
  unfold execBucketMoveCommit at h_
  repeat' (first | (obtain rfl := next_inj h_; clear h_) | (obtain rfl := bounded_next h_; clear h_) | dsimp only at h_ | split at h_)
  all_goals try dsimp only
  repeat' (first | with_reducible assumption | (exact sub_trans (by decide) hm_) | (with_reducible refine State.commitMove_touch ?_ ?_ ) | (with_reducible refine State.stepCheck_touch ?_ ?_ ) | (with_reducible refine ite_touch ?_ ?_) | (with_reducible refine id_touch ?_) | intro _ _ | intro _ | dsimp only | split)

theorem execBucketMoveTimeout_touch {lag bucket : Nat} {s : State} {t_ : State} (h_ : execBucketMoveTimeout lag bucket s = .next t_) : Touch 66048 s t_ := by
  have hm_ : Nat.land 66048 66048 = 66048 := by decide
  have ht_ := Touch.refl 66048 s
  unfold execBucketMoveTimeout at h_
  repeat' (first | (obtain rfl := next_inj h_; clear h_) | (obtain rfl := bounded_next h_; clear h_) | dsimp only at h_ | split at h_)
  all_goals try dsimp only
  repeat' (first | with_reducible assumption | (exact sub_trans (by decide) hm_) | (with_reducible refine State.flushHeld_touch ?_ ?_ ) | (with_reducible refine State.stepCheck_touch ?_ ?_ ) | (with_reducible refine State.updLag_touch ?_ ?_ ) | (with_reducible refine ite_touch ?_ ?_) | (with_reducible refine id_touch ?_) | intro _ _ | intro _ | dsimp only | split)

theorem execStepWindowEnd_touch {lag : Nat} {s : State} {t_ : State} (h_ : execStepWindowEnd lag s = .next t_) : Touch 66048 s t_ := by
  have hm_ : Nat.land 66048 66048 = 66048 := by decide
  have ht_ := Touch.refl 66048 s
  unfold execStepWindowEnd at h_
  repeat' (first | (obtain rfl := next_inj h_; clear h_) | (obtain rfl := bounded_next h_; clear h_) | dsimp only at h_ | split at h_)
  all_goals try dsimp only
  repeat' (first | with_reducible assumption | (exact sub_trans (by decide) hm_) | (with_reducible refine State.beginStep_touch ?_ ?_ ) | (with_reducible refine State.updLag_touch ?_ ?_ ) | (with_reducible refine ite_touch ?_ ?_) | (with_reducible refine id_touch ?_) | intro _ _ | intro _ | dsimp only | split)

theorem execStepUpEval_touch {lag : Nat} {s : State} {t_ : State} (h_ : execStepUpEval lag s = .next t_) : Touch 66048 s t_ := by
  have hm_ : Nat.land 66048 66048 = 66048 := by decide
  have ht_ := Touch.refl 66048 s
  unfold execStepUpEval at h_
  repeat' (first | (obtain rfl := next_inj h_; clear h_) | (obtain rfl := bounded_next h_; clear h_) | dsimp only at h_ | split at h_)
  all_goals try dsimp only
  repeat' (first | with_reducible assumption | (exact sub_trans (by decide) hm_) | (with_reducible refine State.beginStep_touch ?_ ?_ ) | (with_reducible refine State.updLag_touch ?_ ?_ ) | (with_reducible refine ite_touch ?_ ?_) | (with_reducible refine id_touch ?_) | intro _ _ | intro _ | dsimp only | split)

theorem State.stepBack_touch {g : Nat} {st : LagStep} {s : State} {m_ : Nat} {b_ : State} (hm_ : Nat.land 67174912 m_ = 67174912) (ht_ : Touch m_ b_ s) :
    Touch m_ b_ (State.stepBack g st s) := by
  unfold State.stepBack
  try dsimp only
  repeat' (first | with_reducible assumption | (exact sub_trans (by decide) hm_) | (with_reducible refine State.rebalance_touch ?_ ?_ ) | (with_reducible refine State.sendLacp_touch ?_ ?_ ) | (with_reducible refine State.stepAbandoned_touch ?_ ?_ ) | (with_reducible refine State.updPort_touch ?_ ?_ ) | (with_reducible refine ite_touch ?_ ?_) | (with_reducible refine id_touch ?_) | intro _ _ | intro _ | dsimp only | split)

theorem execStepPhaseTimeout_touch {lag : Nat} {s : State} {t_ : State} (h_ : execStepPhaseTimeout lag s = .next t_) : Touch 67174912 s t_ := by
  have hm_ : Nat.land 67174912 67174912 = 67174912 := by decide
  have ht_ := Touch.refl 67174912 s
  unfold execStepPhaseTimeout at h_
  repeat' (first | (obtain rfl := next_inj h_; clear h_) | (obtain rfl := bounded_next h_; clear h_) | dsimp only at h_ | split at h_)
  all_goals try dsimp only
  repeat' (first | with_reducible assumption | (exact sub_trans (by decide) hm_) | (with_reducible refine State.stepBack_touch ?_ ?_ ) | (with_reducible refine State.stepDone_touch ?_ ?_ ) | (with_reducible refine State.updLag_touch ?_ ?_ ) | (with_reducible refine ite_touch ?_ ?_) | (with_reducible refine id_touch ?_) | intro _ _ | intro _ | dsimp only | split)

theorem execStepDrainComplete_touch {lag : Nat} {s : State} {t_ : State} (h_ : execStepDrainComplete lag s = .next t_) : Touch 67109376 s t_ := by
  have hm_ : Nat.land 67109376 67109376 = 67109376 := by decide
  have ht_ := Touch.refl 67109376 s
  unfold execStepDrainComplete at h_
  repeat' (first | (obtain rfl := next_inj h_; clear h_) | (obtain rfl := bounded_next h_; clear h_) | dsimp only at h_ | split at h_)
  all_goals try dsimp only
  repeat' (first | with_reducible assumption | (exact sub_trans (by decide) hm_) | (with_reducible refine State.sendLacp_touch ?_ ?_ ) | (with_reducible refine State.updLag_touch ?_ ?_ ) | (with_reducible refine State.updPort_touch ?_ ?_ ) | (with_reducible refine ite_touch ?_ ?_) | (with_reducible refine id_touch ?_) | intro _ _ | intro _ | dsimp only | split)

theorem execAttachRetryTimer_touch {lag : Nat} {s : State} {t_ : State} (h_ : execAttachRetryTimer lag s = .next t_) : Touch 67109376 s t_ := by
  have hm_ : Nat.land 67109376 67109376 = 67109376 := by decide
  have ht_ := Touch.refl 67109376 s
  unfold execAttachRetryTimer at h_
  repeat' (first | (obtain rfl := next_inj h_; clear h_) | (obtain rfl := bounded_next h_; clear h_) | dsimp only at h_ | split at h_)
  all_goals try dsimp only
  repeat' (first | with_reducible assumption | (exact sub_trans (by decide) hm_) | (with_reducible refine State.sendLacp_touch ?_ ?_ ) | (with_reducible refine State.updPort_touch ?_ ?_ ) | (with_reducible refine foldl_touch ?_ ?_) | (with_reducible refine foldl_snd_touch ?_ ?_) | (with_reducible refine ite_touch ?_ ?_) | (with_reducible refine id_touch ?_) | intro _ _ | intro _ | dsimp only | split)

theorem State.stepsAtPartnerLoss_touch {s : State} {m_ : Nat} {b_ : State} (hm_ : Nat.land 67174912 m_ = 67174912) (ht_ : Touch m_ b_ s) :
    Touch m_ b_ (State.stepsAtPartnerLoss s) := by
  unfold State.stepsAtPartnerLoss
  try dsimp only
  repeat' (first | with_reducible assumption | (exact sub_trans (by decide) hm_) | (with_reducible refine State.stepBack_touch ?_ ?_ ) | (with_reducible refine State.updLag_touch ?_ ?_ ) | (with_reducible refine foldl_touch ?_ ?_) | (with_reducible refine foldl_snd_touch ?_ ?_) | (with_reducible refine ite_touch ?_ ?_) | (with_reducible refine id_touch ?_) | intro _ _ | intro _ | dsimp only | split)

end Sys2Proof.Machine
end

