-- ==== Sys2Proof/Laws/TouchPairOps.lean ====
section
/-! SUPPORT. What the operations of Machine/PairOps.lean can change: one lemma for each. -/
namespace Sys2Proof.Machine
set_option linter.all false

theorem State.writeQuorum_touch {b : QBlock} {s : State} {m_ : Nat} {b_ : State} (hm_ : Nat.land 196608 m_ = 196608) (ht_ : Touch m_ b_ s) :
    Touch m_ b_ (State.writeQuorum b s) := by
  unfold State.writeQuorum
  try dsimp only
  repeat' (first | with_reducible assumption | (exact sub_trans (by decide) hm_) | (with_reducible refine State.submit_touch ?_ ?_ ) | (with_reducible refine State.updPair_touch ?_ ?_) | (with_reducible refine foldl_touch ?_ ?_) | (with_reducible refine foldl_snd_touch ?_ ?_) | (with_reducible refine ite_touch ?_ ?_) | (with_reducible refine id_touch ?_) | intro _ _ | intro _ | dsimp only | split)

theorem State.beginQuorum_touch {code : Nat} {s : State} {m_ : Nat} {b_ : State} (hm_ : Nat.land 73597056 m_ = 73597056) (ht_ : Touch m_ b_ s) :
    Touch m_ b_ (State.beginQuorum code s) := by
  unfold State.beginQuorum
  try dsimp only
  repeat' (first | with_reducible assumption | (exact sub_trans (by decide) hm_) | (with_reducible refine State.bump_touch ?_ ?_ ) | (with_reducible refine State.cancelDen_touch ?_ ?_ ) | (with_reducible refine State.singleFault_touch ?_ ?_ ) | (with_reducible refine State.submit_touch ?_ ?_ ) | (with_reducible refine State.when_touch ?_ ?_) | (with_reducible refine State.updPair_touch ?_ ?_) | (with_reducible refine foldl_touch ?_ ?_) | (with_reducible refine foldl_snd_touch ?_ ?_) | (with_reducible refine ite_touch ?_ ?_) | (with_reducible refine id_touch ?_) | intro _ _ | intro _ | dsimp only | split)

theorem State.stopLoser_touch {noMajority : Bool} {s : State} {m_ : Nat} {b_ : State} (hm_ : Nat.land 134217703 m_ = 134217703) (ht_ : Touch m_ b_ s) :
    Touch m_ b_ (State.stopLoser noMajority s) := by
  unfold State.stopLoser
  try dsimp only
  repeat' (first | with_reducible assumption | (exact sub_trans (by decide) hm_) | (with_reducible refine State.stopAndReset_touch ?_ ?_ ) | (with_reducible refine State.updPair_touch ?_ ?_) | (with_reducible refine ite_touch ?_ ?_) | (with_reducible refine id_touch ?_) | intro _ _ | intro _ | dsimp only | split)

theorem State.quorumLost_touch {noMajority : Bool} {s : State} {m_ : Nat} {b_ : State} (hm_ : Nat.land 134217703 m_ = 134217703) (ht_ : Touch m_ b_ s) :
    Touch m_ b_ (State.quorumLost noMajority s) := by
  unfold State.quorumLost
  try dsimp only
  repeat' (first | with_reducible assumption | (exact sub_trans (by decide) hm_) | (with_reducible refine State.bump_touch ?_ ?_ ) | (with_reducible refine State.stopLoser_touch ?_ ?_ ) | (with_reducible refine State.updPair_touch ?_ ?_) | (with_reducible refine ite_touch ?_ ?_) | (with_reducible refine id_touch ?_) | intro _ _ | intro _ | dsimp only | split)

theorem State.preemptAll_touch {s : State} {m_ : Nat} {b_ : State} (hm_ : Nat.land 196608 m_ = 196608) (ht_ : Touch m_ b_ s) :
    Touch m_ b_ (State.preemptAll s) := by
  unfold State.preemptAll
  try dsimp only
  repeat' (first | with_reducible assumption | (exact sub_trans (by decide) hm_) | (with_reducible refine State.submit_touch ?_ ?_ ) | (with_reducible refine State.updPair_touch ?_ ?_) | (with_reducible refine foldl_touch ?_ ?_) | (with_reducible refine foldl_snd_touch ?_ ?_) | (with_reducible refine ite_touch ?_ ?_) | (with_reducible refine id_touch ?_) | intro _ _ | intro _ | dsimp only | split)

theorem State.releaseWaits_touch {s : State} {m_ : Nat} {b_ : State} (hm_ : Nat.land 71502848 m_ = 71502848) (ht_ : Touch m_ b_ s) :
    Touch m_ b_ (State.releaseWaits s) := by
  unfold State.releaseWaits
  try dsimp only
  repeat' (first | with_reducible assumption | (exact sub_trans (by decide) hm_) | (with_reducible refine State.advanceAck_touch ?_ ?_ ) | (with_reducible refine State.flushPlans_touch ?_ ?_ ) | (with_reducible refine State.updXport_touch ?_ ?_) | (with_reducible refine State.updCmds_touch ?_ ?_) | (with_reducible refine foldl_touch ?_ ?_) | (with_reducible refine foldl_snd_touch ?_ ?_) | (with_reducible refine ite_touch ?_ ?_) | (with_reducible refine id_touch ?_) | intro _ _ | intro _ | dsimp only | split)

theorem State.releaseMirrors_touch {s : State} {m_ : Nat} {b_ : State} (hm_ : Nat.land 72563712 m_ = 72563712) (ht_ : Touch m_ b_ s) :
    Touch m_ b_ (State.releaseMirrors s) := by
  unfold State.releaseMirrors
  try dsimp only
  repeat' (first | with_reducible assumption | (exact sub_trans (by decide) hm_) | (with_reducible refine State.evalChains_touch ?_ ?_ ) | (with_reducible refine State.partsDone_touch ?_ ?_ ) | (with_reducible refine State.updSlot_touch ?_ ?_ ) | (with_reducible refine State.when_touch ?_ ?_) | (with_reducible refine foldl_touch ?_ ?_) | (with_reducible refine foldl_snd_touch ?_ ?_) | (with_reducible refine ite_touch ?_ ?_) | (with_reducible refine id_touch ?_) | intro _ _ | intro _ | dsimp only | split)

theorem State.partnerGone_touch {m : Mode} {cause : Nat} {s : State} {m_ : Nat} {b_ : State} (hm_ : Nat.land 74661827 m_ = 74661827) (ht_ : Touch m_ b_ s) :
    Touch m_ b_ (State.partnerGone m cause s) := by
  unfold State.partnerGone
  try dsimp only
  repeat' (first | with_reducible assumption | (exact sub_trans (by decide) hm_) | (with_reducible refine State.enterMode_touch ?_ ?_ ) | (with_reducible refine State.releaseMirrors_touch ?_ ?_ ) | (with_reducible refine State.releaseWaits_touch ?_ ?_ ) | (with_reducible refine State.sendControl_touch ?_ ?_ ) | (with_reducible refine State.sharedAlone_touch ?_ ?_ ) | (with_reducible refine State.stepsAtPartnerLoss_touch ?_ ?_ ) | (with_reducible refine State.updCtx_touch ?_ ?_ ) | (with_reducible refine State.updXport_touch ?_ ?_) | (with_reducible refine State.updCons_touch ?_ ?_) | (with_reducible refine State.updPair_touch ?_ ?_) | (with_reducible refine foldl_touch ?_ ?_) | (with_reducible refine foldl_snd_touch ?_ ?_) | (with_reducible refine ite_touch ?_ ?_) | (with_reducible refine id_touch ?_) | intro _ _ | intro _ | dsimp only | split)

theorem State.confirmLoss_touch {s : State} {m_ : Nat} {b_ : State} (hm_ : Nat.land 74710979 m_ = 74710979) (ht_ : Touch m_ b_ s) :
    Touch m_ b_ (State.confirmLoss s) := by
  unfold State.confirmLoss
  try dsimp only
  repeat' (first | with_reducible assumption | (exact sub_trans (by decide) hm_) | (with_reducible refine State.drainAll_touch ?_ ?_ ) | (with_reducible refine State.partnerGone_touch ?_ ?_ ) | (with_reducible refine State.preemptAll_touch ?_ ?_ ) | (with_reducible refine State.settle_touch ?_ ?_ ) | (with_reducible refine State.updPair_touch ?_ ?_) | (with_reducible refine ite_touch ?_ ?_) | (with_reducible refine id_touch ?_) | intro _ _ | intro _ | dsimp only | split)

theorem State.quorumWon_touch {s : State} {m_ : Nat} {b_ : State} (hm_ : Nat.land 74973123 m_ = 74973123) (ht_ : Touch m_ b_ s) :
    Touch m_ b_ (State.quorumWon s) := by
  unfold State.quorumWon
  try dsimp only
  repeat' (first | with_reducible assumption | (exact sub_trans (by decide) hm_) | (with_reducible refine State.confirmLoss_touch ?_ ?_ ) | (with_reducible refine State.enterMode_touch ?_ ?_ ) | (with_reducible refine State.preemptAll_touch ?_ ?_ ) | (with_reducible refine State.raiseEpoch_touch ?_ ?_ ) | (with_reducible refine State.recomputePs_touch ?_ ?_ ) | (with_reducible refine State.writeQuorum_touch ?_ ?_ ) | (with_reducible refine State.updPair_touch ?_ ?_) | (with_reducible refine ite_touch ?_ ?_) | (with_reducible refine id_touch ?_) | intro _ _ | intro _ | dsimp only | split)

theorem State.quorumAnswer_touch {d status : Nat} {s : State} {m_ : Nat} {b_ : State} (hm_ : Nat.land 134217703 m_ = 134217703) (ht_ : Touch m_ b_ s) :
    Touch m_ b_ (State.quorumAnswer d status s) := by
  unfold State.quorumAnswer
  try dsimp only
  repeat' (first | with_reducible assumption | (exact sub_trans (by decide) hm_) | (with_reducible refine State.quorumLost_touch ?_ ?_ ) | (with_reducible refine State.quorumWon_touch ?_ ?_ ) | (with_reducible refine State.updPair_touch ?_ ?_) | (with_reducible refine ite_touch ?_ ?_) | (with_reducible refine id_touch ?_) | intro _ _ | intro _ | dsimp only | split)

theorem State.adoptConns_touch {s : State} {m_ : Nat} {b_ : State} (hm_ : Nat.land 71500800 m_ = 71500800) (ht_ : Touch m_ b_ s) :
    Touch m_ b_ (State.adoptConns s) := by
  unfold State.adoptConns
  try dsimp only
  repeat' (first | with_reducible assumption | (exact sub_trans (by decide) hm_) | (with_reducible refine State.bump_touch ?_ ?_ ) | (with_reducible refine State.enterQuarantine_touch ?_ ?_ ) | (with_reducible refine State.updXport_touch ?_ ?_) | (with_reducible refine foldl_touch ?_ ?_) | (with_reducible refine foldl_snd_touch ?_ ?_) | (with_reducible refine ite_touch ?_ ?_) | (with_reducible refine id_touch ?_) | intro _ _ | intro _ | dsimp only | split)

theorem State.putPlan_touch {i : Nat} {p : SendPlan} {s : State} {m_ : Nat} {b_ : State} (hm_ : Nat.land 1024 m_ = 1024) (ht_ : Touch m_ b_ s) :
    Touch m_ b_ (State.putPlan i p s) := by
  unfold State.putPlan
  try dsimp only
  repeat' (first | with_reducible assumption | (exact sub_trans (by decide) hm_) | (with_reducible refine State.updCtx_touch ?_ ?_ ) | (with_reducible refine State.updXport_touch ?_ ?_) | (with_reducible refine ite_touch ?_ ?_) | (with_reducible refine id_touch ?_) | intro _ _ | intro _ | dsimp only | split)

theorem State.refetch_touch {n : Nat} {p : SendPlan} {s : State} {m_ : Nat} {b_ : State} (hm_ : Nat.land 3072 m_ = 3072) (ht_ : Touch m_ b_ s) :
    Touch m_ b_ (State.refetch n p s) := by
  unfold State.refetch
  try dsimp only
  repeat' (first | with_reducible assumption | (exact sub_trans (by decide) hm_) | (with_reducible refine State.putPlan_touch ?_ ?_ ) | (with_reducible refine State.updCtx_touch ?_ ?_ ) | (with_reducible refine State.updSlot_touch ?_ ?_ ) | (with_reducible refine ite_touch ?_ ?_) | (with_reducible refine id_touch ?_) | intro _ _ | intro _ | dsimp only | split)

theorem State.adoptCmd_touch {n : Nat} {e : CmdShadow} {a : Adoption} {s : State} {m_ : Nat} {b_ : State} (hm_ : Nat.land 72563712 m_ = 72563712) (ht_ : Touch m_ b_ s) :
    Touch m_ b_ (State.adoptCmd n e a s) := by
  unfold State.adoptCmd
  try dsimp only
  repeat' (first | with_reducible assumption | (exact sub_trans (by decide) hm_) | (with_reducible refine State.bump_touch ?_ ?_ ) | (with_reducible refine State.putPlan_touch ?_ ?_ ) | (with_reducible refine State.refetch_touch ?_ ?_ ) | (with_reducible refine State.stageFive_touch ?_ ?_ ) | (with_reducible refine State.trigger_touch ?_ ?_ ) | (with_reducible refine State.updCmds_touch ?_ ?_) | (with_reducible refine State.updCons_touch ?_ ?_) | (with_reducible refine ite_touch ?_ ?_) | (with_reducible refine id_touch ?_) | intro _ _ | intro _ | dsimp only | split)

theorem State.adoptWaiting_touch  {k_ : Nat} {s : State} {m_ : Nat} {b_ : State} (hm_ : Nat.land 72563712 m_ = 72563712) (ht_ : Touch m_ b_ s) :
    Touch m_ b_ (State.adoptWaiting  k_ s) := by
  induction k_ generalizing s with
  | zero => exact ht_
  | succ k_ ih_ =>
    unfold State.adoptWaiting
    try dsimp only
    repeat' (first | with_reducible assumption | (with_reducible refine ih_ ?_) | (exact sub_trans (by decide) hm_) | (with_reducible refine State.adoptCmd_touch ?_ ?_ ) | (with_reducible refine State.updPair_touch ?_ ?_) | (with_reducible refine ite_touch ?_ ?_) | (with_reducible refine id_touch ?_) | intro _ _ | intro _ | dsimp only | split)

theorem State.adoptCmds_touch {s : State} {m_ : Nat} {b_ : State} (hm_ : Nat.land 72563712 m_ = 72563712) (ht_ : Touch m_ b_ s) :
    Touch m_ b_ (State.adoptCmds s) := by
  unfold State.adoptCmds
  try dsimp only
  repeat' (first | with_reducible assumption | (exact sub_trans (by decide) hm_) | (with_reducible refine State.adoptWaiting_touch ?_ ?_ ) | (with_reducible refine State.bumpN_touch ?_ ?_ ) | (with_reducible refine State.updPair_touch ?_ ?_) | (with_reducible refine ite_touch ?_ ?_) | (with_reducible refine id_touch ?_) | intro _ _ | intro _ | dsimp only | split)

theorem State.adoptRecords_touch {s : State} {m_ : Nat} {b_ : State} (hm_ : Nat.land 4196352 m_ = 4196352) (ht_ : Touch m_ b_ s) :
    Touch m_ b_ (State.adoptRecords s) := by
  unfold State.adoptRecords
  try dsimp only
  repeat' (first | with_reducible assumption | (exact sub_trans (by decide) hm_) | (with_reducible refine State.putReplay_touch ?_ ?_ ) | (with_reducible refine State.updCmds_touch ?_ ?_) | (with_reducible refine foldl_touch ?_ ?_) | (with_reducible refine foldl_snd_touch ?_ ?_) | (with_reducible refine ite_touch ?_ ?_) | (with_reducible refine id_touch ?_) | intro _ _ | intro _ | dsimp only | split)

theorem State.takeAddresses_touch {s : State} {m_ : Nat} {b_ : State} (hm_ : Nat.land 67109376 m_ = 67109376) (ht_ : Touch m_ b_ s) :
    Touch m_ b_ (State.takeAddresses s) := by
  unfold State.takeAddresses
  try dsimp only
  repeat' (first | with_reducible assumption | (exact sub_trans (by decide) hm_) | (with_reducible refine State.groupTables_touch ?_ ?_ ) | (with_reducible refine State.send_touch ?_ ?_ ) | (with_reducible refine State.updNet_touch ?_ ?_) | (with_reducible refine foldl_touch ?_ ?_) | (with_reducible refine foldl_snd_touch ?_ ?_) | (with_reducible refine ite_touch ?_ ?_) | (with_reducible refine id_touch ?_) | intro _ _ | intro _ | dsimp only | split)

theorem State.adoptMirror_touch {s : State} {m_ : Nat} {b_ : State} (hm_ : Nat.land 12288 m_ = 12288) (ht_ : Touch m_ b_ s) :
    Touch m_ b_ (State.adoptMirror s) := by
  unfold State.adoptMirror
  try dsimp only
  repeat' (first | with_reducible assumption | (exact sub_trans (by decide) hm_) | (with_reducible refine State.addOvl_touch ?_ ?_ ) | (with_reducible refine State.updCons_touch ?_ ?_) | (with_reducible refine State.updLayout_touch ?_ ?_) | (with_reducible refine foldl_touch ?_ ?_) | (with_reducible refine foldl_snd_touch ?_ ?_) | (with_reducible refine ite_touch ?_ ?_) | (with_reducible refine id_touch ?_) | intro _ _ | intro _ | dsimp only | split)

theorem State.enterReadAt_touch {slot holder h : Nat} {stamp : BitVec 64} {slba nlb : Nat} {s : State} {m_ : Nat} {b_ : State} (hm_ : Nat.land 4096 m_ = 4096) (ht_ : Touch m_ b_ s) :
    Touch m_ b_ (State.enterReadAt slot holder h stamp slba nlb s).2 := by
  unfold State.enterReadAt
  try dsimp only
  repeat' (first | with_reducible assumption | (exact sub_trans (by decide) hm_) | (with_reducible refine State.enterPart_touch ?_ ?_ ) | (refine snd_touch (by with_reducible assumption) (State.enterPart_touch ?_ ?_ )) | (with_reducible refine ite_touch ?_ ?_) | (with_reducible refine id_touch ?_) | intro _ _ | intro _ | dsimp only | split)

theorem State.claimReads_touch {old : State} {s : State} {m_ : Nat} {b_ : State} (hm_ : Nat.land 4200448 m_ = 4200448) (ht_ : Touch m_ b_ s) :
    Touch m_ b_ (State.claimReads old s) := by
  unfold State.claimReads
  try dsimp only
  repeat' (first | with_reducible assumption | (exact sub_trans (by decide) hm_) | (with_reducible refine State.enterReadAt_touch ?_ ?_ ) | (refine snd_touch (by with_reducible assumption) (State.enterReadAt_touch ?_ ?_ )) | (with_reducible refine State.goCheck_touch ?_ ?_ ) | (with_reducible refine State.pinReads_touch ?_ ?_ ) | (with_reducible refine State.updSlot_touch ?_ ?_ ) | (with_reducible refine foldl_touch ?_ ?_) | (with_reducible refine foldl_snd_touch ?_ ?_) | (with_reducible refine ite_touch ?_ ?_) | (with_reducible refine id_touch ?_) | intro _ _ | intro _ | dsimp only | split)

theorem State.claimRequests_touch {old : State} {s : State} {m_ : Nat} {b_ : State} (hm_ : Nat.land 71531520 m_ = 71531520) (ht_ : Touch m_ b_ s) :
    Touch m_ b_ (State.claimRequests old s) := by
  unfold State.claimRequests
  try dsimp only
  repeat' (first | with_reducible assumption | (exact sub_trans (by decide) hm_) | (with_reducible refine State.bump_touch ?_ ?_ ) | (with_reducible refine State.readmit_touch ?_ ?_ ) | (with_reducible refine State.stageFive_touch ?_ ?_ ) | (with_reducible refine State.updSlot_touch ?_ ?_ ) | (with_reducible refine foldl_touch ?_ ?_) | (with_reducible refine foldl_snd_touch ?_ ?_) | (with_reducible refine ite_touch ?_ ?_) | (with_reducible refine id_touch ?_) | intro _ _ | intro _ | dsimp only | split)

theorem State.claimExtents_touch {s : State} {m_ : Nat} {b_ : State} (hm_ : Nat.land 4096 m_ = 4096) (ht_ : Touch m_ b_ s) :
    Touch m_ b_ (State.claimExtents s) := by
  unfold State.claimExtents
  try dsimp only
  repeat' (first | with_reducible assumption | (exact sub_trans (by decide) hm_) | (with_reducible refine State.updCons_touch ?_ ?_) | (with_reducible refine ite_touch ?_ ?_) | (with_reducible refine id_touch ?_) | intro _ _ | intro _ | dsimp only | split)

theorem State.takeoverGens_touch {s : State} {m_ : Nat} {b_ : State} (hm_ : Nat.land 81920 m_ = 81920) (ht_ : Touch m_ b_ s) :
    Touch m_ b_ (State.takeoverGens s) := by
  unfold State.takeoverGens
  try dsimp only
  repeat' (first | with_reducible assumption | (exact sub_trans (by decide) hm_) | (with_reducible refine State.askStep_touch ?_ ?_ ) | (with_reducible refine State.updGen_touch ?_ ?_ ) | (with_reducible refine foldl_touch ?_ ?_) | (with_reducible refine foldl_snd_touch ?_ ?_) | (with_reducible refine ite_touch ?_ ?_) | (with_reducible refine id_touch ?_) | intro _ _ | intro _ | dsimp only | split)

theorem State.claimForwarded_touch {s : State} {m_ : Nat} {b_ : State} (hm_ : Nat.land 72563712 m_ = 72563712) (ht_ : Touch m_ b_ s) :
    Touch m_ b_ (State.claimForwarded s) := by
  unfold State.claimForwarded
  try dsimp only
  repeat' (first | with_reducible assumption | (exact sub_trans (by decide) hm_) | (with_reducible refine State.evalChains_touch ?_ ?_ ) | (with_reducible refine State.forwardDone_touch ?_ ?_ ) | (with_reducible refine State.updSlot_touch ?_ ?_ ) | (with_reducible refine foldl_touch ?_ ?_) | (with_reducible refine foldl_snd_touch ?_ ?_) | (with_reducible refine ite_touch ?_ ?_) | (with_reducible refine id_touch ?_) | intro _ _ | intro _ | dsimp only | split)

theorem State.claim_touch {s : State} {m_ : Nat} {b_ : State} (hm_ : Nat.land 74972800 m_ = 74972800) (ht_ : Touch m_ b_ s) :
    Touch m_ b_ (State.claim s) := by
  unfold State.claim
  try dsimp only
  repeat' (first | with_reducible assumption | (exact sub_trans (by decide) hm_) | (with_reducible refine State.adoptCmds_touch ?_ ?_ ) | (with_reducible refine State.adoptConns_touch ?_ ?_ ) | (with_reducible refine State.adoptMirror_touch ?_ ?_ ) | (with_reducible refine State.adoptRecords_touch ?_ ?_ ) | (with_reducible refine State.claimExtents_touch ?_ ?_ ) | (with_reducible refine State.claimForwarded_touch ?_ ?_ ) | (with_reducible refine State.claimReads_touch ?_ ?_ ) | (with_reducible refine State.claimRequests_touch ?_ ?_ ) | (with_reducible refine State.drainAll_touch ?_ ?_ ) | (with_reducible refine State.raiseEpoch_touch ?_ ?_ ) | (with_reducible refine State.recomputePs_touch ?_ ?_ ) | (with_reducible refine State.releaseCovered_touch ?_ ?_ ) | (with_reducible refine State.rule3Update_touch ?_ ?_ ) | (with_reducible refine State.settle_touch ?_ ?_ ) | (with_reducible refine State.takeAddresses_touch ?_ ?_ ) | (with_reducible refine State.takeoverGens_touch ?_ ?_ ) | (with_reducible refine State.updCons_touch ?_ ?_) | (with_reducible refine State.updPair_touch ?_ ?_) | (with_reducible refine ite_touch ?_ ?_) | (with_reducible refine id_touch ?_) | intro _ _ | intro _ | dsimp only | split)

end Sys2Proof.Machine
end

