-- ==== Sys2Proof/Laws/TouchTransports.lean ====
section
/-! SUPPORT. What the operations of Machine/Transports.lean can change: one lemma for each. -/
namespace Sys2Proof.Machine
set_option linter.all false

theorem State.ctxCount_touch {i k : Nat} {s : State} {m_ : Nat} {b_ : State} (hm_ : Nat.land 1024 m_ = 1024) (ht_ : Touch m_ b_ s) :
    Touch m_ b_ (State.ctxCount i k s) := by
  unfold State.ctxCount
  try dsimp only
  repeat' (first | with_reducible assumption | (exact sub_trans (by decide) hm_) | (with_reducible refine State.updCtx_touch ?_ ?_ ) | (with_reducible refine ite_touch ?_ ?_) | (with_reducible refine id_touch ?_) | intro _ _ | intro _ | dsimp only | split)

theorem State.after_touch {i : Nat} {s : State} {m_ : Nat} {b_ : State} (hm_ : Nat.land 74972288 m_ = 74972288) (ht_ : Touch m_ b_ s) :
    Touch m_ b_ (State.after i s) := by
  unfold State.after
  try dsimp only
  repeat' (first | with_reducible assumption | (exact sub_trans (by decide) hm_) | (with_reducible refine State.afterError_touch ?_ ?_ ) | (with_reducible refine State.settle_touch ?_ ?_ ) | (with_reducible refine ite_touch ?_ ?_) | (with_reducible refine id_touch ?_) | intro _ _ | intro _ | dsimp only | split)

theorem State.handshakeReply_touch {i : Nat} {s : State} {m_ : Nat} {b_ : State} (hm_ : Nat.land 71368704 m_ = 71368704) (ht_ : Touch m_ b_ s) :
    Touch m_ b_ (State.handshakeReply i s) := by
  unfold State.handshakeReply
  try dsimp only
  repeat' (first | with_reducible assumption | (exact sub_trans (by decide) hm_) | (with_reducible refine State.sendControl_touch ?_ ?_ ) | (with_reducible refine ite_touch ?_ ?_) | (with_reducible refine id_touch ?_) | intro _ _ | intro _ | dsimp only | split)

theorem State.claimConfirmed_touch {i : Nat} {s : State} {m_ : Nat} {b_ : State} (hm_ : Nat.land 71369728 m_ = 71369728) (ht_ : Touch m_ b_ s) :
    Touch m_ b_ (State.claimConfirmed i s) := by
  unfold State.claimConfirmed
  try dsimp only
  repeat' (first | with_reducible assumption | (exact sub_trans (by decide) hm_) | (with_reducible refine State.handshakeReply_touch ?_ ?_ ) | (with_reducible refine State.updCtx_touch ?_ ?_ ) | (with_reducible refine State.updXport_touch ?_ ?_) | (with_reducible refine ite_touch ?_ ?_) | (with_reducible refine id_touch ?_) | intro _ _ | intro _ | dsimp only | split)

theorem State.openCtx_touch {i tag : Nat} {c : Ctx} {s : State} {m_ : Nat} {b_ : State} (hm_ : Nat.land 71500800 m_ = 71500800) (ht_ : Touch m_ b_ s) :
    Touch m_ b_ (State.openCtx i tag c s) := by
  unfold State.openCtx
  try dsimp only
  repeat' (first | with_reducible assumption | (exact sub_trans (by decide) hm_) | (with_reducible refine State.epochEnd_touch ?_ ?_ ) | (with_reducible refine State.handshakeReply_touch ?_ ?_ ) | (with_reducible refine State.shadowConn_touch ?_ ?_ ) | (with_reducible refine State.updXport_touch ?_ ?_) | (with_reducible refine ite_touch ?_ ?_) | (with_reducible refine id_touch ?_) | intro _ _ | intro _ | dsimp only | split)

theorem State.cmReject_touch {m : CmMsg} {s : State} {m_ : Nat} {b_ : State} (hm_ : Nat.land 67108864 m_ = 67108864) (ht_ : Touch m_ b_ s) :
    Touch m_ b_ (State.cmReject m s) := by
  unfold State.cmReject
  try dsimp only
  repeat' (first | with_reducible assumption | (exact sub_trans (by decide) hm_) | (with_reducible refine State.send_touch ?_ ?_ ) | (with_reducible refine ite_touch ?_ ?_) | (with_reducible refine id_touch ?_) | intro _ _ | intro _ | dsimp only | split)

theorem State.cmRequest_touch {m : CmMsg} {s : State} {m_ : Nat} {b_ : State} (hm_ : Nat.land 105055232 m_ = 105055232) (ht_ : Touch m_ b_ s) :
    Touch m_ b_ (State.cmRequest m s) := by
  unfold State.cmRequest
  try dsimp only
  repeat' (first | with_reducible assumption | (exact sub_trans (by decide) hm_) | (with_reducible refine State.bump_touch ?_ ?_ ) | (with_reducible refine State.cmReject_touch ?_ ?_ ) | (with_reducible refine State.draw_touch ?_ ?_ ) | (with_reducible refine State.openCtx_touch ?_ ?_ ) | (with_reducible refine ite_touch ?_ ?_) | (with_reducible refine id_touch ?_) | intro _ _ | intro _ | dsimp only | split)

theorem execCmDatagram_touch {m : CmMsg} {s : State} {t_ : State} (h_ : execCmDatagram m s = .next t_) : Touch 108264960 s t_ := by
  have hm_ : Nat.land 108264960 108264960 = 108264960 := by decide
  have ht_ := Touch.refl 108264960 s
  unfold execCmDatagram at h_
  repeat' (first | (obtain rfl := next_inj h_; clear h_) | (obtain rfl := bounded_next h_; clear h_) | dsimp only at h_ | split at h_)
  all_goals try dsimp only
  repeat' (first | with_reducible assumption | (exact sub_trans (by decide) hm_) | (with_reducible refine State.cmRequest_touch ?_ ?_ ) | (with_reducible refine State.enterDraining_touch ?_ ?_ ) | (with_reducible refine State.enterOpen_touch ?_ ?_ ) | (with_reducible refine State.enterQuarantine_touch ?_ ?_ ) | (with_reducible refine State.settle_touch ?_ ?_ ) | (with_reducible refine State.settleCtx_touch ?_ ?_ ) | (with_reducible refine State.takeFrame_touch ?_ ?_ ) | (with_reducible refine State.updCtx_touch ?_ ?_ ) | (with_reducible refine ite_touch ?_ ?_) | (with_reducible refine id_touch ?_) | intro _ _ | intro _ | dsimp only | split)

theorem State.gapNak_touch {i : Nat} {s : State} {m_ : Nat} {b_ : State} (hm_ : Nat.land 71369728 m_ = 71369728) (ht_ : Touch m_ b_ s) :
    Touch m_ b_ (State.gapNak i s) := by
  unfold State.gapNak
  try dsimp only
  repeat' (first | with_reducible assumption | (exact sub_trans (by decide) hm_) | (with_reducible refine State.bump_touch ?_ ?_ ) | (with_reducible refine State.ctxCount_touch ?_ ?_ ) | (with_reducible refine State.sendNak_touch ?_ ?_ ) | (with_reducible refine State.updCtx_touch ?_ ?_ ) | (with_reducible refine ite_touch ?_ ?_) | (with_reducible refine id_touch ?_) | intro _ _ | intro _ | dsimp only | split)

theorem State.roceDup_touch {i : Nat} {s : State} {m_ : Nat} {b_ : State} (hm_ : Nat.land 71369728 m_ = 71369728) (ht_ : Touch m_ b_ s) :
    Touch m_ b_ (State.roceDup i s) := by
  unfold State.roceDup
  try dsimp only
  repeat' (first | with_reducible assumption | (exact sub_trans (by decide) hm_) | (with_reducible refine State.bump_touch ?_ ?_ ) | (with_reducible refine State.ctxCount_touch ?_ ?_ ) | (with_reducible refine State.sendAck_touch ?_ ?_ ) | (with_reducible refine ite_touch ?_ ?_) | (with_reducible refine id_touch ?_) | intro _ _ | intro _ | dsimp only | split)

theorem State.roceTaken_touch {i : Nat} {last : Bool} {s : State} {m_ : Nat} {b_ : State} (hm_ : Nat.land 71500800 m_ = 71500800) (ht_ : Touch m_ b_ s) :
    Touch m_ b_ (State.roceTaken i last s) := by
  unfold State.roceTaken
  try dsimp only
  repeat' (first | with_reducible assumption | (exact sub_trans (by decide) hm_) | (with_reducible refine State.messageEnd_touch ?_ ?_ ) | (with_reducible refine State.updCtx_touch ?_ ?_ ) | (with_reducible refine State.when_touch ?_ ?_) | (with_reducible refine ite_touch ?_ ?_) | (with_reducible refine id_touch ?_) | intro _ _ | intro _ | dsimp only | split)

theorem State.roceCore_touch {i : Nat} {p : RocePkt} {s : State} {m_ : Nat} {b_ : State} (hm_ : Nat.land 108510337 m_ = 108510337) (ht_ : Touch m_ b_ s) :
    Touch m_ b_ (State.roceCore i p s) := by
  unfold State.roceCore
  try dsimp only
  repeat' (first | with_reducible assumption | (exact sub_trans (by decide) hm_) | (with_reducible refine State.bump_touch ?_ ?_ ) | (with_reducible refine State.capsuleIn_touch ?_ ?_ ) | (with_reducible refine State.ctxCount_touch ?_ ?_ ) | (with_reducible refine State.ctxError_touch ?_ ?_ ) | (with_reducible refine State.gapNak_touch ?_ ?_ ) | (with_reducible refine State.onMark_touch ?_ ?_ ) | (with_reducible refine State.roceDup_touch ?_ ?_ ) | (with_reducible refine State.roceTaken_touch ?_ ?_ ) | (with_reducible refine State.sendNak_touch ?_ ?_ ) | (with_reducible refine State.when_touch ?_ ?_) | (with_reducible refine State.wredRx_touch ?_ ?_ ) | (refine snd_touch (by with_reducible assumption) (State.wredRx_touch ?_ ?_ )) | (with_reducible refine ite_touch ?_ ?_) | (with_reducible refine id_touch ?_) | intro _ _ | intro _ | dsimp only | split)

theorem State.wredPass_touch {i port len : Nat} {s : State} {m_ : Nat} {b_ : State} (hm_ : Nat.land 104924160 m_ = 104924160) (ht_ : Touch m_ b_ s) :
    Touch m_ b_ (State.wredPass i port len s).2 := by
  unfold State.wredPass
  try dsimp only
  repeat' (first | with_reducible assumption | (exact sub_trans (by decide) hm_) | (with_reducible refine State.onMark_touch ?_ ?_ ) | (with_reducible refine State.when_touch ?_ ?_) | (with_reducible refine State.wredRx_touch ?_ ?_ ) | (refine snd_touch (by with_reducible assumption) (State.wredRx_touch ?_ ?_ )) | (with_reducible refine ite_touch ?_ ?_) | (with_reducible refine id_touch ?_) | intro _ _ | intro _ | dsimp only | split)

theorem State.pushCore_touch {i psn key addr : Nat} {bytes : Bytes} {last ce : Bool} {s : State} {m_ : Nat} {b_ : State} (hm_ : Nat.land 71502848 m_ = 71502848) (ht_ : Touch m_ b_ s) :
    Touch m_ b_ (State.pushCore i psn key addr bytes last ce s) := by
  unfold State.pushCore
  try dsimp only
  repeat' (first | with_reducible assumption | (exact sub_trans (by decide) hm_) | (with_reducible refine State.bump_touch ?_ ?_ ) | (with_reducible refine State.ctxCount_touch ?_ ?_ ) | (with_reducible refine State.ctxError_touch ?_ ?_ ) | (with_reducible refine State.gapNak_touch ?_ ?_ ) | (with_reducible refine State.onMark_touch ?_ ?_ ) | (with_reducible refine State.roceDup_touch ?_ ?_ ) | (with_reducible refine State.roceTaken_touch ?_ ?_ ) | (with_reducible refine State.sendNak_touch ?_ ?_ ) | (with_reducible refine State.updCtx_touch ?_ ?_ ) | (with_reducible refine State.when_touch ?_ ?_) | (with_reducible refine foldl_touch ?_ ?_) | (with_reducible refine foldl_snd_touch ?_ ?_) | (with_reducible refine ite_touch ?_ ?_) | (with_reducible refine id_touch ?_) | intro _ _ | intro _ | dsimp only | split)

theorem State.ackCore_touch {i psn kind : Nat} {s : State} {m_ : Nat} {b_ : State} (hm_ : Nat.land 71502848 m_ = 71502848) (ht_ : Touch m_ b_ s) :
    Touch m_ b_ (State.ackCore i psn kind s) := by
  unfold State.ackCore
  try dsimp only
  repeat' (first | with_reducible assumption | (exact sub_trans (by decide) hm_) | (with_reducible refine State.ctxError_touch ?_ ?_ ) | (with_reducible refine State.onAck_touch ?_ ?_ ) | (with_reducible refine State.retry_touch ?_ ?_ ) | (with_reducible refine State.updCtx_touch ?_ ?_ ) | (with_reducible refine ite_touch ?_ ?_) | (with_reducible refine id_touch ?_) | intro _ _ | intro _ | dsimp only | split)

theorem State.dataIn_touch {n : Nat} {bytes : Bytes} {last : Bool} {s : State} {m_ : Nat} {b_ : State} (hm_ : Nat.land 4196352 m_ = 4196352) (ht_ : Touch m_ b_ s) :
    Touch m_ b_ (State.dataIn n bytes last s) := by
  unfold State.dataIn
  try dsimp only
  repeat' (first | with_reducible assumption | (exact sub_trans (by decide) hm_) | (with_reducible refine State.stage_touch ?_ ?_ ) | (with_reducible refine State.updSlot_touch ?_ ?_ ) | (with_reducible refine ite_touch ?_ ?_) | (with_reducible refine id_touch ?_) | intro _ _ | intro _ | dsimp only | split)

theorem State.readRespCore_touch {i slot : Nat} {bytes : Bytes} {last : Bool} {s : State} {m_ : Nat} {b_ : State} (hm_ : Nat.land 4197376 m_ = 4197376) (ht_ : Touch m_ b_ s) :
    Touch m_ b_ (State.readRespCore i slot bytes last s) := by
  unfold State.readRespCore
  try dsimp only
  repeat' (first | with_reducible assumption | (exact sub_trans (by decide) hm_) | (with_reducible refine State.dataIn_touch ?_ ?_ ) | (with_reducible refine State.updCtx_touch ?_ ?_ ) | (with_reducible refine State.when_touch ?_ ?_) | (with_reducible refine ite_touch ?_ ?_) | (with_reducible refine id_touch ?_) | intro _ _ | intro _ | dsimp only | split)

theorem State.cnpCore_touch {i : Nat} {s : State} {m_ : Nat} {b_ : State} (hm_ : Nat.land 4195328 m_ = 4195328) (ht_ : Touch m_ b_ s) :
    Touch m_ b_ (State.cnpCore i s) := by
  unfold State.cnpCore
  try dsimp only
  repeat' (first | with_reducible assumption | (exact sub_trans (by decide) hm_) | (with_reducible refine State.bump_touch ?_ ?_ ) | (with_reducible refine State.ctxCount_touch ?_ ?_ ) | (with_reducible refine State.updCtx_touch ?_ ?_ ) | (with_reducible refine ite_touch ?_ ?_) | (with_reducible refine id_touch ?_) | intro _ _ | intro _ | dsimp only | split)

theorem State.ackNow_touch {i : Nat} {s : State} {m_ : Nat} {b_ : State} (hm_ : Nat.land 71500800 m_ = 71500800) (ht_ : Touch m_ b_ s) :
    Touch m_ b_ (State.ackNow i s) := by
  unfold State.ackNow
  try dsimp only
  repeat' (first | with_reducible assumption | (exact sub_trans (by decide) hm_) | (with_reducible refine State.advanceAck_touch ?_ ?_ ) | (with_reducible refine State.updCtx_touch ?_ ?_ ) | (with_reducible refine ite_touch ?_ ?_) | (with_reducible refine id_touch ?_) | intro _ _ | intro _ | dsimp only | split)

theorem State.tcpDeliver_touch {i : Nat} {g : TcpSeg} {s : State} {m_ : Nat} {b_ : State} (hm_ : Nat.land 106380416 m_ = 106380416) (ht_ : Touch m_ b_ s) :
    Touch m_ b_ (State.tcpDeliver i g s) := by
  unfold State.tcpDeliver
  try dsimp only
  repeat' (first | with_reducible assumption | (exact sub_trans (by decide) hm_) | (with_reducible refine State.ackNow_touch ?_ ?_ ) | (with_reducible refine State.capsuleIn_touch ?_ ?_ ) | (with_reducible refine State.updCtx_touch ?_ ?_ ) | (with_reducible refine State.when_touch ?_ ?_) | (with_reducible refine foldl_touch ?_ ?_) | (with_reducible refine foldl_snd_touch ?_ ?_) | (with_reducible refine ite_touch ?_ ?_) | (with_reducible refine id_touch ?_) | intro _ _ | intro _ | dsimp only | split)

theorem State.tcpData_touch {i : Nat} {g : TcpSeg} {s : State} {m_ : Nat} {b_ : State} (hm_ : Nat.land 106380416 m_ = 106380416) (ht_ : Touch m_ b_ s) :
    Touch m_ b_ (State.tcpData i g s) := by
  unfold State.tcpData
  try dsimp only
  repeat' (first | with_reducible assumption | (exact sub_trans (by decide) hm_) | (with_reducible refine State.ctxCount_touch ?_ ?_ ) | (with_reducible refine State.sendAck_touch ?_ ?_ ) | (with_reducible refine State.tcpDeliver_touch ?_ ?_ ) | (with_reducible refine State.updCtx_touch ?_ ?_ ) | (with_reducible refine ite_touch ?_ ?_) | (with_reducible refine id_touch ?_) | intro _ _ | intro _ | dsimp only | split)

theorem State.fastRetransmit_touch {i : Nat} {s : State} {m_ : Nat} {b_ : State} (hm_ : Nat.land 71502848 m_ = 71502848) (ht_ : Touch m_ b_ s) :
    Touch m_ b_ (State.fastRetransmit i s) := by
  unfold State.fastRetransmit
  try dsimp only
  repeat' (first | with_reducible assumption | (exact sub_trans (by decide) hm_) | (with_reducible refine State.bumpN_touch ?_ ?_ ) | (with_reducible refine State.ctxCount_touch ?_ ?_ ) | (with_reducible refine State.ctxError_touch ?_ ?_ ) | (with_reducible refine State.emitMessage_touch ?_ ?_ ) | (with_reducible refine State.onLoss_touch ?_ ?_ ) | (with_reducible refine State.send_touch ?_ ?_ ) | (with_reducible refine State.sendRst_touch ?_ ?_ ) | (with_reducible refine State.updCtx_touch ?_ ?_ ) | (with_reducible refine foldl_touch ?_ ?_) | (with_reducible refine foldl_snd_touch ?_ ?_) | (with_reducible refine ite_touch ?_ ?_) | (with_reducible refine id_touch ?_) | intro _ _ | intro _ | dsimp only | split)

theorem State.tcpAck_touch {i : Nat} {g : TcpSeg} {s : State} {m_ : Nat} {b_ : State} (hm_ : Nat.land 71502848 m_ = 71502848) (ht_ : Touch m_ b_ s) :
    Touch m_ b_ (State.tcpAck i g s) := by
  unfold State.tcpAck
  try dsimp only
  repeat' (first | with_reducible assumption | (exact sub_trans (by decide) hm_) | (with_reducible refine State.fastRetransmit_touch ?_ ?_ ) | (with_reducible refine State.onAck_touch ?_ ?_ ) | (with_reducible refine State.updCtx_touch ?_ ?_ ) | (with_reducible refine ite_touch ?_ ?_) | (with_reducible refine id_touch ?_) | intro _ _ | intro _ | dsimp only | split)

theorem State.tcpCore_touch {i : Nat} {g : TcpSeg} {s : State} {m_ : Nat} {b_ : State} (hm_ : Nat.land 106380416 m_ = 106380416) (ht_ : Touch m_ b_ s) :
    Touch m_ b_ (State.tcpCore i g s) := by
  unfold State.tcpCore
  try dsimp only
  repeat' (first | with_reducible assumption | (exact sub_trans (by decide) hm_) | (with_reducible refine State.ackNow_touch ?_ ?_ ) | (with_reducible refine State.bump_touch ?_ ?_ ) | (with_reducible refine State.ctxError_touch ?_ ?_ ) | (with_reducible refine State.enterDraining_touch ?_ ?_ ) | (with_reducible refine State.enterQuarantine_touch ?_ ?_ ) | (with_reducible refine State.onMark_touch ?_ ?_ ) | (with_reducible refine State.sendAck_touch ?_ ?_ ) | (with_reducible refine State.sendRst_touch ?_ ?_ ) | (with_reducible refine State.settleCtx_touch ?_ ?_ ) | (with_reducible refine State.tcpAck_touch ?_ ?_ ) | (with_reducible refine State.tcpData_touch ?_ ?_ ) | (with_reducible refine State.updCtx_touch ?_ ?_ ) | (with_reducible refine State.when_touch ?_ ?_) | (with_reducible refine State.wredRx_touch ?_ ?_ ) | (refine snd_touch (by with_reducible assumption) (State.wredRx_touch ?_ ?_ )) | (with_reducible refine ite_touch ?_ ?_) | (with_reducible refine id_touch ?_) | intro _ _ | intro _ | dsimp only | split)

theorem State.runPassed_touch {i port : Nat} {cmd : Instr} {s : State} {m_ : Nat} {b_ : State} (hm_ : Nat.land 105057280 m_ = 105057280) (ht_ : Touch m_ b_ s) :
    Touch m_ b_ (State.runPassed i port cmd s) := by
  unfold State.runPassed
  try dsimp only
  repeat' (first | with_reducible assumption | (exact sub_trans (by decide) hm_) | (with_reducible refine State.ackCore_touch ?_ ?_ ) | (with_reducible refine State.cnpCore_touch ?_ ?_ ) | (with_reducible refine State.pushCore_touch ?_ ?_ ) | (with_reducible refine State.readRespCore_touch ?_ ?_ ) | (with_reducible refine State.wredPass_touch ?_ ?_ ) | (refine snd_touch (by with_reducible assumption) (State.wredPass_touch ?_ ?_ )) | (with_reducible refine ite_touch ?_ ?_) | (with_reducible refine id_touch ?_) | intro _ _ | intro _ | dsimp only | split)

theorem State.runPacket_touch {i port : Nat} {cmd : Instr} {s : State} {m_ : Nat} {b_ : State} (hm_ : Nat.land 108510337 m_ = 108510337) (ht_ : Touch m_ b_ s) :
    Touch m_ b_ (State.runPacket i port cmd s) := by
  unfold State.runPacket
  try dsimp only
  repeat' (first | with_reducible assumption | (exact sub_trans (by decide) hm_) | (with_reducible refine State.roceCore_touch ?_ ?_ ) | (with_reducible refine State.runPassed_touch ?_ ?_ ) | (with_reducible refine State.tcpCore_touch ?_ ?_ ) | (with_reducible refine ite_touch ?_ ?_) | (with_reducible refine id_touch ?_) | intro _ _ | intro _ | dsimp only | split)

theorem State.packet_touch {i port len : Nat} {cmd : Instr} {s : State} {m_ : Nat} {b_ : State} (hm_ : Nat.land 108527233 m_ = 108527233) (ht_ : Touch m_ b_ s) :
    Touch m_ b_ (State.packet i port len cmd s) := by
  unfold State.packet
  try dsimp only
  repeat' (first | with_reducible assumption | (exact sub_trans (by decide) hm_) | (with_reducible refine State.after_touch ?_ ?_ ) | (with_reducible refine State.cacheGate_touch ?_ ?_ ) | (refine snd_touch (by with_reducible assumption) (State.cacheGate_touch ?_ ?_ )) | (with_reducible refine State.runPacket_touch ?_ ?_ ) | (with_reducible refine ite_touch ?_ ?_) | (with_reducible refine id_touch ?_) | intro _ _ | intro _ | dsimp only | split)

theorem State.runWaiting_touch {i : Nat} {s : State} {m_ : Nat} {b_ : State} (hm_ : Nat.land 108527233 m_ = 108527233) (ht_ : Touch m_ b_ s) :
    Touch m_ b_ (State.runWaiting i s) := by
  unfold State.runWaiting
  try dsimp only
  repeat' (first | with_reducible assumption | (exact sub_trans (by decide) hm_) | (with_reducible refine State.after_touch ?_ ?_ ) | (with_reducible refine State.runPacket_touch ?_ ?_ ) | (with_reducible refine State.takeFrame_touch ?_ ?_ ) | (with_reducible refine State.when_touch ?_ ?_) | (with_reducible refine State.updXport_touch ?_ ?_) | (with_reducible refine foldl_touch ?_ ?_) | (with_reducible refine foldl_snd_touch ?_ ?_) | (with_reducible refine ite_touch ?_ ?_) | (with_reducible refine id_touch ?_) | intro _ _ | intro _ | dsimp only | split)

theorem State.rocePacket_touch {i port len : Nat} {cmd : Instr} {s : State} {m_ : Nat} {b_ : State} (hm_ : Nat.land 108527233 m_ = 108527233) (ht_ : Touch m_ b_ s) :
    Touch m_ b_ (State.rocePacket i port len cmd s) := by
  unfold State.rocePacket
  try dsimp only
  repeat' (first | with_reducible assumption | (exact sub_trans (by decide) hm_) | (with_reducible refine State.packet_touch ?_ ?_ ) | (with_reducible refine State.takeFrame_touch ?_ ?_ ) | (with_reducible refine ite_touch ?_ ?_) | (with_reducible refine id_touch ?_) | intro _ _ | intro _ | dsimp only | split)

theorem execRoceRequestPacket_touch {p : RocePkt} {s : State} {t_ : State} (h_ : execRoceRequestPacket p s = .next t_) : Touch 108527233 s t_ := by
  have hm_ : Nat.land 108527233 108527233 = 108527233 := by decide
  have ht_ := Touch.refl 108527233 s
  unfold execRoceRequestPacket at h_
  repeat' (first | (obtain rfl := next_inj h_; clear h_) | (obtain rfl := bounded_next h_; clear h_) | dsimp only at h_ | split at h_)
  all_goals try dsimp only
  repeat' (first | with_reducible assumption | (exact sub_trans (by decide) hm_) | (with_reducible refine State.bump_touch ?_ ?_ ) | (with_reducible refine State.rocePacket_touch ?_ ?_ ) | (with_reducible refine State.takeFrame_touch ?_ ?_ ) | (with_reducible refine ite_touch ?_ ?_) | (with_reducible refine id_touch ?_) | intro _ _ | intro _ | dsimp only | split)

theorem execContextWritebackCommit_touch {index : Nat} {s : State} {t_ : State} (h_ : execContextWritebackCommit index s = .next t_) : Touch 1024 s t_ := by
  have hm_ : Nat.land 1024 1024 = 1024 := by decide
  have ht_ := Touch.refl 1024 s
  unfold execContextWritebackCommit at h_
  repeat' (first | (obtain rfl := next_inj h_; clear h_) | (obtain rfl := bounded_next h_; clear h_) | dsimp only at h_ | split at h_)
  all_goals try dsimp only
  repeat' (first | with_reducible assumption | (exact sub_trans (by decide) hm_) | (with_reducible refine State.setWays_touch ?_ ?_ ) | (with_reducible refine ite_touch ?_ ?_) | (with_reducible refine id_touch ?_) | intro _ _ | intro _ | dsimp only | split)

theorem execContextFillComplete_touch {index : Nat} {crcGood : Bool} {s : State} {t_ : State} (h_ : execContextFillComplete index crcGood s = .next t_) : Touch 108527233 s t_ := by
  have hm_ : Nat.land 108527233 108527233 = 108527233 := by decide
  have ht_ := Touch.refl 108527233 s
  unfold execContextFillComplete at h_
  repeat' (first | (obtain rfl := next_inj h_; clear h_) | (obtain rfl := bounded_next h_; clear h_) | dsimp only at h_ | split at h_)
  all_goals try dsimp only
  repeat' (first | with_reducible assumption | (exact sub_trans (by decide) hm_) | (with_reducible refine State.after_touch ?_ ?_ ) | (with_reducible refine State.bump_touch ?_ ?_ ) | (with_reducible refine State.ctxError_touch ?_ ?_ ) | (with_reducible refine State.runWaiting_touch ?_ ?_ ) | (with_reducible refine State.serveSet_touch ?_ ?_ ) | (with_reducible refine State.setWays_touch ?_ ?_ ) | (with_reducible refine ite_touch ?_ ?_) | (with_reducible refine id_touch ?_) | intro _ _ | intro _ | dsimp only | split)

theorem execPushWritePacket_touch {index : Nat} {psn : Nat} {key : Nat} {addr : Nat} {bytes : Bytes} {last : Bool} {ce : Bool} {s : State} {t_ : State} (h_ : execPushWritePacket index psn key addr bytes last ce s = .next t_) : Touch 108527233 s t_ := by
  have hm_ : Nat.land 108527233 108527233 = 108527233 := by decide
  have ht_ := Touch.refl 108527233 s
  unfold execPushWritePacket at h_
  repeat' (first | (obtain rfl := next_inj h_; clear h_) | (obtain rfl := bounded_next h_; clear h_) | dsimp only at h_ | split at h_)
  all_goals try dsimp only
  repeat' (first | with_reducible assumption | (exact sub_trans (by decide) hm_) | (with_reducible refine State.rocePacket_touch ?_ ?_ ) | (with_reducible refine ite_touch ?_ ?_) | (with_reducible refine id_touch ?_) | intro _ _ | intro _ | dsimp only | split)

theorem execRoceAckReceive_touch {index : Nat} {psn : Nat} {kind : Nat} {s : State} {t_ : State} (h_ : execRoceAckReceive index psn kind s = .next t_) : Touch 108527233 s t_ := by
  have hm_ : Nat.land 108527233 108527233 = 108527233 := by decide
  have ht_ := Touch.refl 108527233 s
  unfold execRoceAckReceive at h_
  repeat' (first | (obtain rfl := next_inj h_; clear h_) | (obtain rfl := bounded_next h_; clear h_) | dsimp only at h_ | split at h_)
  all_goals try dsimp only
  repeat' (first | with_reducible assumption | (exact sub_trans (by decide) hm_) | (with_reducible refine State.rocePacket_touch ?_ ?_ ) | (with_reducible refine ite_touch ?_ ?_) | (with_reducible refine id_touch ?_) | intro _ _ | intro _ | dsimp only | split)

theorem execRoceReadResponse_touch {index : Nat} {slot : Nat} {bytes : Bytes} {last : Bool} {s : State} {t_ : State} (h_ : execRoceReadResponse index slot bytes last s = .next t_) : Touch 108527233 s t_ := by
  have hm_ : Nat.land 108527233 108527233 = 108527233 := by decide
  have ht_ := Touch.refl 108527233 s
  unfold execRoceReadResponse at h_
  repeat' (first | (obtain rfl := next_inj h_; clear h_) | (obtain rfl := bounded_next h_; clear h_) | dsimp only at h_ | split at h_)
  all_goals try dsimp only
  repeat' (first | with_reducible assumption | (exact sub_trans (by decide) hm_) | (with_reducible refine State.rocePacket_touch ?_ ?_ ) | (with_reducible refine ite_touch ?_ ?_) | (with_reducible refine id_touch ?_) | intro _ _ | intro _ | dsimp only | split)

theorem execRoceCnpReceive_touch {index : Nat} {s : State} {t_ : State} (h_ : execRoceCnpReceive index s = .next t_) : Touch 108527233 s t_ := by
  have hm_ : Nat.land 108527233 108527233 = 108527233 := by decide
  have ht_ := Touch.refl 108527233 s
  unfold execRoceCnpReceive at h_
  repeat' (first | (obtain rfl := next_inj h_; clear h_) | (obtain rfl := bounded_next h_; clear h_) | dsimp only at h_ | split at h_)
  all_goals try dsimp only
  repeat' (first | with_reducible assumption | (exact sub_trans (by decide) hm_) | (with_reducible refine State.rocePacket_touch ?_ ?_ ) | (with_reducible refine ite_touch ?_ ?_) | (with_reducible refine id_touch ?_) | intro _ _ | intro _ | dsimp only | split)

theorem execRoceAckTimeout_touch {index : Nat} {s : State} {t_ : State} (h_ : execRoceAckTimeout index s = .next t_) : Touch 74972288 s t_ := by
  have hm_ : Nat.land 74972288 74972288 = 74972288 := by decide
  have ht_ := Touch.refl 74972288 s
  unfold execRoceAckTimeout at h_
  repeat' (first | (obtain rfl := next_inj h_; clear h_) | (obtain rfl := bounded_next h_; clear h_) | dsimp only at h_ | split at h_)
  all_goals try dsimp only
  repeat' (first | with_reducible assumption | (exact sub_trans (by decide) hm_) | (with_reducible refine State.after_touch ?_ ?_ ) | (with_reducible refine State.retry_touch ?_ ?_ ) | (with_reducible refine ite_touch ?_ ?_) | (with_reducible refine id_touch ?_) | intro _ _ | intro _ | dsimp only | split)

theorem execRoceRnrDelayEnd_touch {index : Nat} {s : State} {t_ : State} (h_ : execRoceRnrDelayEnd index s = .next t_) : Touch 71369728 s t_ := by
  have hm_ : Nat.land 71369728 71369728 = 71369728 := by decide
  have ht_ := Touch.refl 71369728 s
  unfold execRoceRnrDelayEnd at h_
  repeat' (first | (obtain rfl := next_inj h_; clear h_) | (obtain rfl := bounded_next h_; clear h_) | dsimp only at h_ | split at h_)
  all_goals try dsimp only
  repeat' (first | with_reducible assumption | (exact sub_trans (by decide) hm_) | (with_reducible refine State.resendFrom_touch ?_ ?_ ) | (with_reducible refine State.updCtx_touch ?_ ?_ ) | (with_reducible refine ite_touch ?_ ?_) | (with_reducible refine id_touch ?_) | intro _ _ | intro _ | dsimp only | split)

theorem State.rstTo_touch {ip port : Nat} {s : State} {m_ : Nat} {b_ : State} (hm_ : Nat.land 67108864 m_ = 67108864) (ht_ : Touch m_ b_ s) :
    Touch m_ b_ (State.rstTo ip port s) := by
  unfold State.rstTo
  try dsimp only
  repeat' (first | with_reducible assumption | (exact sub_trans (by decide) hm_) | (with_reducible refine State.send_touch ?_ ?_ ) | (with_reducible refine ite_touch ?_ ?_) | (with_reducible refine id_touch ?_) | intro _ _ | intro _ | dsimp only | split)

theorem State.acceptSyn_touch {i : Nat} {y : TcpSyn} {egress : Nat} {s : State} {m_ : Nat} {b_ : State} (hm_ : Nat.land 105055232 m_ = 105055232) (ht_ : Touch m_ b_ s) :
    Touch m_ b_ (State.acceptSyn i y egress s) := by
  unfold State.acceptSyn
  try dsimp only
  repeat' (first | with_reducible assumption | (exact sub_trans (by decide) hm_) | (with_reducible refine State.draw_touch ?_ ?_ ) | (with_reducible refine State.openCtx_touch ?_ ?_ ) | (with_reducible refine ite_touch ?_ ?_) | (with_reducible refine id_touch ?_) | intro _ _ | intro _ | dsimp only | split)

theorem execTcpSynReceive_touch {y : TcpSyn} {s : State} {t_ : State} (h_ : execTcpSynReceive y s = .next t_) : Touch 106380928 s t_ := by
  have hm_ : Nat.land 106380928 106380928 = 106380928 := by decide
  have ht_ := Touch.refl 106380928 s
  unfold execTcpSynReceive at h_
  repeat' (first | (obtain rfl := next_inj h_; clear h_) | (obtain rfl := bounded_next h_; clear h_) | dsimp only at h_ | split at h_)
  all_goals try dsimp only
  repeat' (first | with_reducible assumption | (exact sub_trans (by decide) hm_) | (with_reducible refine State.acceptSyn_touch ?_ ?_ ) | (with_reducible refine State.bump_touch ?_ ?_ ) | (with_reducible refine State.handshakeReply_touch ?_ ?_ ) | (with_reducible refine State.rstTo_touch ?_ ?_ ) | (with_reducible refine State.sendAck_touch ?_ ?_ ) | (with_reducible refine State.takeFrame_touch ?_ ?_ ) | (with_reducible refine State.tcpCore_touch ?_ ?_ ) | (with_reducible refine State.when_touch ?_ ?_) | (with_reducible refine ite_touch ?_ ?_) | (with_reducible refine id_touch ?_) | intro _ _ | intro _ | dsimp only | split)

theorem execTcpSegmentReceive_touch {g : TcpSeg} {s : State} {t_ : State} (h_ : execTcpSegmentReceive g s = .next t_) : Touch 108527233 s t_ := by
  have hm_ : Nat.land 108527233 108527233 = 108527233 := by decide
  have ht_ := Touch.refl 108527233 s
  unfold execTcpSegmentReceive at h_
  repeat' (first | (obtain rfl := next_inj h_; clear h_) | (obtain rfl := bounded_next h_; clear h_) | dsimp only at h_ | split at h_)
  all_goals try dsimp only
  repeat' (first | with_reducible assumption | (exact sub_trans (by decide) hm_) | (with_reducible refine State.bump_touch ?_ ?_ ) | (with_reducible refine State.packet_touch ?_ ?_ ) | (with_reducible refine State.rstTo_touch ?_ ?_ ) | (with_reducible refine ite_touch ?_ ?_) | (with_reducible refine id_touch ?_) | intro _ _ | intro _ | dsimp only | split)

theorem State.termReq_touch {i status : Nat} {s : State} {m_ : Nat} {b_ : State} (hm_ : Nat.land 74972288 m_ = 74972288) (ht_ : Touch m_ b_ s) :
    Touch m_ b_ (State.termReq i status s) := by
  unfold State.termReq
  try dsimp only
  repeat' (first | with_reducible assumption | (exact sub_trans (by decide) hm_) | (with_reducible refine State.after_touch ?_ ?_ ) | (with_reducible refine State.ctxError_touch ?_ ?_ ) | (with_reducible refine State.sendControl_touch ?_ ?_ ) | (with_reducible refine ite_touch ?_ ?_) | (with_reducible refine id_touch ?_) | intro _ _ | intro _ | dsimp only | split)

theorem execIcreqReceive_touch {index : Nat} {hpda : Nat} {hdgst : Bool} {ddgst : Bool} {s : State} {t_ : State} (h_ : execIcreqReceive index hpda hdgst ddgst s = .next t_) : Touch 74972288 s t_ := by
  have hm_ : Nat.land 74972288 74972288 = 74972288 := by decide
  have ht_ := Touch.refl 74972288 s
  unfold execIcreqReceive at h_
  repeat' (first | (obtain rfl := next_inj h_; clear h_) | (obtain rfl := bounded_next h_; clear h_) | dsimp only at h_ | split at h_)
  all_goals try dsimp only
  repeat' (first | with_reducible assumption | (exact sub_trans (by decide) hm_) | (with_reducible refine State.enterOpen_touch ?_ ?_ ) | (with_reducible refine State.sendMsg_touch ?_ ?_ ) | (with_reducible refine State.termReq_touch ?_ ?_ ) | (with_reducible refine State.updCtx_touch ?_ ?_ ) | (with_reducible refine ite_touch ?_ ?_) | (with_reducible refine id_touch ?_) | intro _ _ | intro _ | dsimp only | split)

theorem execH2cdataReceive_touch {index : Nat} {ttag : Nat} {bytes : Bytes} {last : Bool} {hdrDigestGood : Bool} {dataDigestGood : Bool} {s : State} {t_ : State} (h_ : execH2cdataReceive index ttag bytes last hdrDigestGood dataDigestGood s = .next t_) : Touch 74972288 s t_ := by
  have hm_ : Nat.land 74972288 74972288 = 74972288 := by decide
  have ht_ := Touch.refl 74972288 s
  unfold execH2cdataReceive at h_
  repeat' (first | (obtain rfl := next_inj h_; clear h_) | (obtain rfl := bounded_next h_; clear h_) | dsimp only at h_ | split at h_)
  all_goals try dsimp only
  repeat' (first | with_reducible assumption | (exact sub_trans (by decide) hm_) | (with_reducible refine State.bump_touch ?_ ?_ ) | (with_reducible refine State.dataIn_touch ?_ ?_ ) | (with_reducible refine State.endErr_touch ?_ ?_ ) | (with_reducible refine State.settle_touch ?_ ?_ ) | (with_reducible refine State.termReq_touch ?_ ?_ ) | (with_reducible refine State.updCtx_touch ?_ ?_ ) | (with_reducible refine State.when_touch ?_ ?_) | (with_reducible refine ite_touch ?_ ?_) | (with_reducible refine id_touch ?_) | intro _ _ | intro _ | dsimp only | split)

theorem execH2ctermreqReceive_touch {index : Nat} {s : State} {t_ : State} (h_ : execH2ctermreqReceive index s = .next t_) : Touch 74972288 s t_ := by
  have hm_ : Nat.land 74972288 74972288 = 74972288 := by decide
  have ht_ := Touch.refl 74972288 s
  unfold execH2ctermreqReceive at h_
  repeat' (first | (obtain rfl := next_inj h_; clear h_) | (obtain rfl := bounded_next h_; clear h_) | dsimp only at h_ | split at h_)
  all_goals try dsimp only
  repeat' (first | with_reducible assumption | (exact sub_trans (by decide) hm_) | (with_reducible refine State.after_touch ?_ ?_ ) | (with_reducible refine State.ctxError_touch ?_ ?_ ) | (with_reducible refine ite_touch ?_ ?_) | (with_reducible refine id_touch ?_) | intro _ _ | intro _ | dsimp only | split)

theorem execTcpRtoExpiry_touch {index : Nat} {s : State} {t_ : State} (h_ : execTcpRtoExpiry index s = .next t_) : Touch 74972288 s t_ := by
  have hm_ : Nat.land 74972288 74972288 = 74972288 := by decide
  have ht_ := Touch.refl 74972288 s
  unfold execTcpRtoExpiry at h_
  repeat' (first | (obtain rfl := next_inj h_; clear h_) | (obtain rfl := bounded_next h_; clear h_) | dsimp only at h_ | split at h_)
  all_goals try dsimp only
  repeat' (first | with_reducible assumption | (exact sub_trans (by decide) hm_) | (with_reducible refine State.after_touch ?_ ?_ ) | (with_reducible refine State.retry_touch ?_ ?_ ) | (with_reducible refine State.updCtx_touch ?_ ?_ ) | (with_reducible refine ite_touch ?_ ?_) | (with_reducible refine id_touch ?_) | intro _ _ | intro _ | dsimp only | split)

theorem execDelayedAckTimer_touch {index : Nat} {s : State} {t_ : State} (h_ : execDelayedAckTimer index s = .next t_) : Touch 71500800 s t_ := by
  have hm_ : Nat.land 71500800 71500800 = 71500800 := by decide
  have ht_ := Touch.refl 71500800 s
  unfold execDelayedAckTimer at h_
  repeat' (first | (obtain rfl := next_inj h_; clear h_) | (obtain rfl := bounded_next h_; clear h_) | dsimp only at h_ | split at h_)
  all_goals try dsimp only
  repeat' (first | with_reducible assumption | (exact sub_trans (by decide) hm_) | (with_reducible refine State.ackNow_touch ?_ ?_ ) | (with_reducible refine ite_touch ?_ ?_) | (with_reducible refine id_touch ?_) | intro _ _ | intro _ | dsimp only | split)

theorem execOpeningTimeout_touch {index : Nat} {s : State} {t_ : State} (h_ : execOpeningTimeout index s = .next t_) : Touch 67306496 s t_ := by
  have hm_ : Nat.land 67306496 67306496 = 67306496 := by decide
  have ht_ := Touch.refl 67306496 s
  unfold execOpeningTimeout at h_
  repeat' (first | (obtain rfl := next_inj h_; clear h_) | (obtain rfl := bounded_next h_; clear h_) | dsimp only at h_ | split at h_)
  all_goals try dsimp only
  repeat' (first | with_reducible assumption | (exact sub_trans (by decide) hm_) | (with_reducible refine State.enterQuarantine_touch ?_ ?_ ) | (with_reducible refine ite_touch ?_ ?_) | (with_reducible refine id_touch ?_) | intro _ _ | intro _ | dsimp only | split)

theorem execDrainingCloseTimeout_touch {index : Nat} {s : State} {t_ : State} (h_ : execDrainingCloseTimeout index s = .next t_) : Touch 67306496 s t_ := by
  have hm_ : Nat.land 67306496 67306496 = 67306496 := by decide
  have ht_ := Touch.refl 67306496 s
  unfold execDrainingCloseTimeout at h_
  repeat' (first | (obtain rfl := next_inj h_; clear h_) | (obtain rfl := bounded_next h_; clear h_) | dsimp only at h_ | split at h_)
  all_goals try dsimp only
  repeat' (first | with_reducible assumption | (exact sub_trans (by decide) hm_) | (with_reducible refine State.enterQuarantine_touch ?_ ?_ ) | (with_reducible refine ite_touch ?_ ?_) | (with_reducible refine id_touch ?_) | intro _ _ | intro _ | dsimp only | split)

theorem execQuarantineEnd_touch {index : Nat} {s : State} {t_ : State} (h_ : execQuarantineEnd index s = .next t_) : Touch 67240960 s t_ := by
  have hm_ : Nat.land 67240960 67240960 = 67240960 := by decide
  have ht_ := Touch.refl 67240960 s
  unfold execQuarantineEnd at h_
  repeat' (first | (obtain rfl := next_inj h_; clear h_) | (obtain rfl := bounded_next h_; clear h_) | dsimp only at h_ | split at h_)
  all_goals try dsimp only
  repeat' (first | with_reducible assumption | (exact sub_trans (by decide) hm_) | (with_reducible refine State.freeCtx_touch ?_ ?_ ) | (with_reducible refine State.shadowConn_touch ?_ ?_ ) | (with_reducible refine ite_touch ?_ ?_) | (with_reducible refine id_touch ?_) | intro _ _ | intro _ | dsimp only | split)

theorem execPushHoldExpiry_touch {index : Nat} {window : Nat} {s : State} {t_ : State} (h_ : execPushHoldExpiry index window s = .next t_) : Touch 71500800 s t_ := by
  have hm_ : Nat.land 71500800 71500800 = 71500800 := by decide
  have ht_ := Touch.refl 71500800 s
  unfold execPushHoldExpiry at h_
  repeat' (first | (obtain rfl := next_inj h_; clear h_) | (obtain rfl := bounded_next h_; clear h_) | dsimp only at h_ | split at h_)
  all_goals try dsimp only
  repeat' (first | with_reducible assumption | (exact sub_trans (by decide) hm_) | (with_reducible refine State.advanceAck_touch ?_ ?_ ) | (with_reducible refine State.bump_touch ?_ ?_ ) | (with_reducible refine State.revoke_touch ?_ ?_ ) | (with_reducible refine ite_touch ?_ ?_) | (with_reducible refine id_touch ?_) | intro _ _ | intro _ | dsimp only | split)

end Sys2Proof.Machine
end

