-- ==== Sys2Proof/Laws/TouchPairing.lean ====
section
/-! SUPPORT. What the operations of Machine/Pairing.lean can change: one lemma for each. -/
namespace Sys2Proof.Machine
set_option linter.all false

theorem State.owlFrame_touch {cls n : Nat} {s : State} {m_ : Nat} {b_ : State} (hm_ : Nat.land 65536 m_ = 65536) (ht_ : Touch m_ b_ s) :
    Touch m_ b_ (State.owlFrame cls n s) := by
  unfold State.owlFrame
  try dsimp only
  repeat' (first | with_reducible assumption | (exact sub_trans (by decide) hm_) | (with_reducible refine State.queueFrame_touch ?_ ?_ ) | (with_reducible refine State.updQos_touch ?_ ?_) | (with_reducible refine ite_touch ?_ ?_) | (with_reducible refine id_touch ?_) | intro _ _ | intro _ | dsimp only | split)

theorem State.cutLink_touch {s : State} {m_ : Nat} {b_ : State} (hm_ : Nat.land 73597056 m_ = 73597056) (ht_ : Touch m_ b_ s) :
    Touch m_ b_ (State.cutLink s) := by
  unfold State.cutLink
  try dsimp only
  repeat' (first | with_reducible assumption | (exact sub_trans (by decide) hm_) | (with_reducible refine State.beginQuorum_touch ?_ ?_ ) | (with_reducible refine State.owlFrame_touch ?_ ?_ ) | (with_reducible refine State.send_touch ?_ ?_ ) | (with_reducible refine ite_touch ?_ ?_) | (with_reducible refine id_touch ?_) | intro _ _ | intro _ | dsimp only | split)

theorem State.settGone_touch {s : State} {m_ : Nat} {b_ : State} (hm_ : Nat.land 74653824 m_ = 74653824) (ht_ : Touch m_ b_ s) :
    Touch m_ b_ (State.settGone s) := by
  unfold State.settGone
  try dsimp only
  repeat' (first | with_reducible assumption | (exact sub_trans (by decide) hm_) | (with_reducible refine State.abandonPairing_touch ?_ ?_ ) | (with_reducible refine State.cutLink_touch ?_ ?_ ) | (with_reducible refine State.relaysFail_touch ?_ ?_ ) | (with_reducible refine ite_touch ?_ ?_) | (with_reducible refine id_touch ?_) | intro _ _ | intro _ | dsimp only | split)

theorem State.failBundle_touch {b : Nat} {s : State} {m_ : Nat} {b_ : State} (hm_ : Nat.land 74653824 m_ = 74653824) (ht_ : Touch m_ b_ s) :
    Touch m_ b_ (State.failBundle b s) := by
  unfold State.failBundle
  try dsimp only
  repeat' (first | with_reducible assumption | (exact sub_trans (by decide) hm_) | (with_reducible refine State.bump_touch ?_ ?_ ) | (with_reducible refine State.settGone_touch ?_ ?_ ) | (with_reducible refine State.singleFault_touch ?_ ?_ ) | (with_reducible refine State.updPair_touch ?_ ?_) | (with_reducible refine ite_touch ?_ ?_) | (with_reducible refine id_touch ?_) | intro _ _ | intro _ | dsimp only | split)

theorem State.resendFrame_touch {cls bundle : Nat} {f : SettFrame} {s : State} {m_ : Nat} {b_ : State} (hm_ : Nat.land 71434240 m_ = 71434240) (ht_ : Touch m_ b_ s) :
    Touch m_ b_ (State.resendFrame cls bundle f s) := by
  unfold State.resendFrame
  try dsimp only
  repeat' (first | with_reducible assumption | (exact sub_trans (by decide) hm_) | (with_reducible refine State.bump_touch ?_ ?_ ) | (with_reducible refine State.send_touch ?_ ?_ ) | (with_reducible refine State.updPair_touch ?_ ?_) | (with_reducible refine ite_touch ?_ ?_) | (with_reducible refine id_touch ?_) | intro _ _ | intro _ | dsimp only | split)

theorem execSettResendTimeout_touch {cls : Nat} {seqNo : Nat} {s : State} {t_ : State} (h_ : execSettResendTimeout cls seqNo s = .next t_) : Touch 74653824 s t_ := by
  have hm_ : Nat.land 74653824 74653824 = 74653824 := by decide
  have ht_ := Touch.refl 74653824 s
  unfold execSettResendTimeout at h_
  repeat' (first | (obtain rfl := next_inj h_; clear h_) | (obtain rfl := bounded_next h_; clear h_) | dsimp only at h_ | split at h_)
  all_goals try dsimp only
  repeat' (first | with_reducible assumption | (exact sub_trans (by decide) hm_) | (with_reducible refine State.failBundle_touch ?_ ?_ ) | (with_reducible refine State.resendFrame_touch ?_ ?_ ) | (with_reducible refine ite_touch ?_ ?_) | (with_reducible refine id_touch ?_) | intro _ _ | intro _ | dsimp only | split)

theorem execSettAlignmentLoss_touch {bundle : Nat} {s : State} {t_ : State} (h_ : execSettAlignmentLoss bundle s = .next t_) : Touch 74653824 s t_ := by
  have hm_ : Nat.land 74653824 74653824 = 74653824 := by decide
  have ht_ := Touch.refl 74653824 s
  unfold execSettAlignmentLoss at h_
  repeat' (first | (obtain rfl := next_inj h_; clear h_) | (obtain rfl := bounded_next h_; clear h_) | dsimp only at h_ | split at h_)
  all_goals try dsimp only
  repeat' (first | with_reducible assumption | (exact sub_trans (by decide) hm_) | (with_reducible refine State.failBundle_touch ?_ ?_ ) | (with_reducible refine ite_touch ?_ ?_) | (with_reducible refine id_touch ?_) | intro _ _ | intro _ | dsimp only | split)

theorem State.shadowConfirmed_touch {f : SettFrame} {s : State} {m_ : Nat} {b_ : State} (hm_ : Nat.land 71369728 m_ = 71369728) (ht_ : Touch m_ b_ s) :
    Touch m_ b_ (State.shadowConfirmed f s) := by
  unfold State.shadowConfirmed
  try dsimp only
  repeat' (first | with_reducible assumption | (exact sub_trans (by decide) hm_) | (with_reducible refine State.bump_touch ?_ ?_ ) | (with_reducible refine State.claimConfirmed_touch ?_ ?_ ) | (with_reducible refine State.flushPlans_touch ?_ ?_ ) | (with_reducible refine State.setAcked_touch ?_ ?_ ) | (with_reducible refine State.updCtx_touch ?_ ?_ ) | (with_reducible refine State.updPlan_touch ?_ ?_ ) | (with_reducible refine State.when_touch ?_ ?_) | (with_reducible refine ite_touch ?_ ?_) | (with_reducible refine id_touch ?_) | intro _ _ | intro _ | dsimp only | split)

theorem execSettAckReceive_touch {cls : Nat} {ack : Nat} {s : State} {t_ : State} (h_ : execSettAckReceive cls ack s = .next t_) : Touch 74710016 s t_ := by
  have hm_ : Nat.land 74710016 74710016 = 74710016 := by decide
  have ht_ := Touch.refl 74710016 s
  unfold execSettAckReceive at h_
  repeat' (first | (obtain rfl := next_inj h_; clear h_) | (obtain rfl := bounded_next h_; clear h_) | dsimp only at h_ | split at h_)
  all_goals try dsimp only
  repeat' (first | with_reducible assumption | (exact sub_trans (by decide) hm_) | (with_reducible refine State.settle_touch ?_ ?_ ) | (with_reducible refine State.shadowConfirmed_touch ?_ ?_ ) | (with_reducible refine State.sharedApplied_touch ?_ ?_ ) | (with_reducible refine State.updPair_touch ?_ ?_) | (with_reducible refine foldl_touch ?_ ?_) | (with_reducible refine foldl_snd_touch ?_ ?_) | (with_reducible refine ite_touch ?_ ?_) | (with_reducible refine id_touch ?_) | intro _ _ | intro _ | dsimp only | split)

theorem State.sendBeat_touch {path : Nat} {s : State} {m_ : Nat} {b_ : State} (hm_ : Nat.land 67305472 m_ = 67305472) (ht_ : Touch m_ b_ s) :
    Touch m_ b_ (State.sendBeat path s) := by
  unfold State.sendBeat
  try dsimp only
  repeat' (first | with_reducible assumption | (exact sub_trans (by decide) hm_) | (with_reducible refine State.owlFrame_touch ?_ ?_ ) | (with_reducible refine State.send_touch ?_ ?_ ) | (with_reducible refine State.updPair_touch ?_ ?_) | (with_reducible refine ite_touch ?_ ?_) | (with_reducible refine id_touch ?_) | intro _ _ | intro _ | dsimp only | split)

theorem execOwlBeatTimer_touch {s : State} {t_ : State} (h_ : execOwlBeatTimer s = .next t_) : Touch 67305472 s t_ := by
  have hm_ : Nat.land 67305472 67305472 = 67305472 := by decide
  have ht_ := Touch.refl 67305472 s
  unfold execOwlBeatTimer at h_
  repeat' (first | (obtain rfl := next_inj h_; clear h_) | (obtain rfl := bounded_next h_; clear h_) | dsimp only at h_ | split at h_)
  all_goals try dsimp only
  repeat' (first | with_reducible assumption | (exact sub_trans (by decide) hm_) | (with_reducible refine State.sendBeat_touch ?_ ?_ ) | (with_reducible refine State.when_touch ?_ ?_) | (with_reducible refine ite_touch ?_ ?_) | (with_reducible refine id_touch ?_) | intro _ _ | intro _ | dsimp only | split)

theorem execBeat_touch {b : BeatMsg} {s : State} {t_ : State} (h_ : execBeat b s = .next t_) : Touch 74710016 s t_ := by
  have hm_ : Nat.land 74710016 74710016 = 74710016 := by decide
  have ht_ := Touch.refl 74710016 s
  unfold execBeat at h_
  repeat' (first | (obtain rfl := next_inj h_; clear h_) | (obtain rfl := bounded_next h_; clear h_) | dsimp only at h_ | split at h_)
  all_goals try dsimp only
  repeat' (first | with_reducible assumption | (exact sub_trans (by decide) hm_) | (with_reducible refine State.fenceRestart_touch ?_ ?_ ) | (with_reducible refine State.settGot_touch ?_ ?_ ) | (with_reducible refine State.updPair_touch ?_ ?_) | (with_reducible refine ite_touch ?_ ?_) | (with_reducible refine id_touch ?_) | intro _ _ | intro _ | dsimp only | split)

theorem execPartnerSilenceExpiry_touch {s : State} {t_ : State} (h_ : execPartnerSilenceExpiry s = .next t_) : Touch 73597056 s t_ := by
  have hm_ : Nat.land 73597056 73597056 = 73597056 := by decide
  have ht_ := Touch.refl 73597056 s
  unfold execPartnerSilenceExpiry at h_
  repeat' (first | (obtain rfl := next_inj h_; clear h_) | (obtain rfl := bounded_next h_; clear h_) | dsimp only at h_ | split at h_)
  all_goals try dsimp only
  repeat' (first | with_reducible assumption | (exact sub_trans (by decide) hm_) | (with_reducible refine State.beginQuorum_touch ?_ ?_ ) | (with_reducible refine State.bump_touch ?_ ?_ ) | (with_reducible refine ite_touch ?_ ?_) | (with_reducible refine id_touch ?_) | intro _ _ | intro _ | dsimp only | split)

theorem execSettSilenceExpiry_touch {s : State} {t_ : State} (h_ : execSettSilenceExpiry s = .next t_) : Touch 73597056 s t_ := by
  have hm_ : Nat.land 73597056 73597056 = 73597056 := by decide
  have ht_ := Touch.refl 73597056 s
  unfold execSettSilenceExpiry at h_
  repeat' (first | (obtain rfl := next_inj h_; clear h_) | (obtain rfl := bounded_next h_; clear h_) | dsimp only at h_ | split at h_)
  all_goals try dsimp only
  repeat' (first | with_reducible assumption | (exact sub_trans (by decide) hm_) | (with_reducible refine State.beginQuorum_touch ?_ ?_ ) | (with_reducible refine State.bump_touch ?_ ?_ ) | (with_reducible refine ite_touch ?_ ?_) | (with_reducible refine id_touch ?_) | intro _ _ | intro _ | dsimp only | split)

theorem execNetworkSilenceExpiry_touch {s : State} {t_ : State} (h_ : execNetworkSilenceExpiry s = .next t_) : Touch 73531392 s t_ := by
  have hm_ : Nat.land 73531392 73531392 = 73531392 := by decide
  have ht_ := Touch.refl 73531392 s
  unfold execNetworkSilenceExpiry at h_
  repeat' (first | (obtain rfl := next_inj h_; clear h_) | (obtain rfl := bounded_next h_; clear h_) | dsimp only at h_ | split at h_)
  all_goals try dsimp only
  repeat' (first | with_reducible assumption | (exact sub_trans (by decide) hm_) | (with_reducible refine State.bump_touch ?_ ?_ ) | (with_reducible refine State.singleFault_touch ?_ ?_ ) | (with_reducible refine ite_touch ?_ ?_) | (with_reducible refine id_touch ?_) | intro _ _ | intro _ | dsimp only | split)

theorem execCutLinkNotice_touch {s : State} {t_ : State} (h_ : execCutLinkNotice s = .next t_) : Touch 73597056 s t_ := by
  have hm_ : Nat.land 73597056 73597056 = 73597056 := by decide
  have ht_ := Touch.refl 73597056 s
  unfold execCutLinkNotice at h_
  repeat' (first | (obtain rfl := next_inj h_; clear h_) | (obtain rfl := bounded_next h_; clear h_) | dsimp only at h_ | split at h_)
  all_goals try dsimp only
  repeat' (first | with_reducible assumption | (exact sub_trans (by decide) hm_) | (with_reducible refine State.beginQuorum_touch ?_ ?_ ) | (with_reducible refine ite_touch ?_ ?_) | (with_reducible refine id_touch ?_) | intro _ _ | intro _ | dsimp only | split)

theorem execQuorumWindowExpiry_touch {s : State} {t_ : State} (h_ : execQuorumWindowExpiry s = .next t_) : Touch 134217703 s t_ := by
  have hm_ : Nat.land 134217703 134217703 = 134217703 := by decide
  have ht_ := Touch.refl 134217703 s
  unfold execQuorumWindowExpiry at h_
  repeat' (first | (obtain rfl := next_inj h_; clear h_) | (obtain rfl := bounded_next h_; clear h_) | dsimp only at h_ | split at h_)
  all_goals try dsimp only
  repeat' (first | with_reducible assumption | (exact sub_trans (by decide) hm_) | (with_reducible refine State.quorumLost_touch ?_ ?_ ) | (with_reducible refine ite_touch ?_ ?_) | (with_reducible refine id_touch ?_) | intro _ _ | intro _ | dsimp only | split)

theorem execTakeoverClaim_touch {s : State} {t_ : State} (h_ : execTakeoverClaim s = .next t_) : Touch 74972800 s t_ := by
  have hm_ : Nat.land 74972800 74972800 = 74972800 := by decide
  have ht_ := Touch.refl 74972800 s
  unfold execTakeoverClaim at h_
  repeat' (first | (obtain rfl := next_inj h_; clear h_) | (obtain rfl := bounded_next h_; clear h_) | dsimp only at h_ | split at h_)
  all_goals try dsimp only
  repeat' (first | with_reducible assumption | (exact sub_trans (by decide) hm_) | (with_reducible refine State.claim_touch ?_ ?_ ) | (with_reducible refine State.writeQuorum_touch ?_ ?_ ) | (with_reducible refine ite_touch ?_ ?_) | (with_reducible refine id_touch ?_) | intro _ _ | intro _ | dsimp only | split)

theorem execConnectionAdopt_touch {index : Nat} {s : State} {t_ : State} (h_ : execConnectionAdopt index s = .next t_) : Touch 108527233 s t_ := by
  have hm_ : Nat.land 108527233 108527233 = 108527233 := by decide
  have ht_ := Touch.refl 108527233 s
  unfold execConnectionAdopt at h_
  repeat' (first | (obtain rfl := next_inj h_; clear h_) | (obtain rfl := bounded_next h_; clear h_) | dsimp only at h_ | split at h_)
  all_goals try dsimp only
  repeat' (first | with_reducible assumption | (exact sub_trans (by decide) hm_) | (with_reducible refine State.enterDraining_touch ?_ ?_ ) | (with_reducible refine State.flushPlans_touch ?_ ?_ ) | (with_reducible refine State.runWaiting_touch ?_ ?_ ) | (with_reducible refine State.sendAck_touch ?_ ?_ ) | (with_reducible refine State.sendNak_touch ?_ ?_ ) | (with_reducible refine State.settle_touch ?_ ?_ ) | (with_reducible refine State.updCtx_touch ?_ ?_ ) | (with_reducible refine State.updPair_touch ?_ ?_) | (with_reducible refine ite_touch ?_ ?_) | (with_reducible refine id_touch ?_) | intro _ _ | intro _ | dsimp only | split)

theorem State.refusePair_touch {status : Nat} {s : State} {m_ : Nat} {b_ : State} (hm_ : Nat.land 69345280 m_ = 69345280) (ht_ : Touch m_ b_ s) :
    Touch m_ b_ (State.refusePair status s) := by
  unfold State.refusePair
  try dsimp only
  repeat' (first | with_reducible assumption | (exact sub_trans (by decide) hm_) | (with_reducible refine State.abandonPairing_touch ?_ ?_ ) | (with_reducible refine State.raise_touch ?_ ?_ ) | (with_reducible refine ite_touch ?_ ?_) | (with_reducible refine id_touch ?_) | intro _ _ | intro _ | dsimp only | split)

theorem State.pairGo_touch {s : State} {m_ : Nat} {b_ : State} (hm_ : Nat.land 69345280 m_ = 69345280) (ht_ : Touch m_ b_ s) :
    Touch m_ b_ (State.pairGo s) := by
  unfold State.pairGo
  try dsimp only
  repeat' (first | with_reducible assumption | (exact sub_trans (by decide) hm_) | (with_reducible refine State.abandonPairing_touch ?_ ?_ ) | (with_reducible refine State.dropReceived_touch ?_ ?_ ) | (with_reducible refine State.refusePair_touch ?_ ?_ ) | (with_reducible refine State.settSend_touch ?_ ?_ ) | (with_reducible refine State.when_touch ?_ ?_) | (with_reducible refine State.updLayout_touch ?_ ?_) | (with_reducible refine State.updPair_touch ?_ ?_) | (with_reducible refine ite_touch ?_ ?_) | (with_reducible refine id_touch ?_) | intro _ _ | intro _ | dsimp only | split)

theorem State.startPairing_touch {s : State} {m_ : Nat} {b_ : State} (hm_ : Nat.land 69345280 m_ = 69345280) (ht_ : Touch m_ b_ s) :
    Touch m_ b_ (State.startPairing s) := by
  unfold State.startPairing
  try dsimp only
  repeat' (first | with_reducible assumption | (exact sub_trans (by decide) hm_) | (with_reducible refine State.pairGo_touch ?_ ?_ ) | (with_reducible refine State.settSend_touch ?_ ?_ ) | (with_reducible refine State.updPair_touch ?_ ?_) | (with_reducible refine ite_touch ?_ ?_) | (with_reducible refine id_touch ?_) | intro _ _ | intro _ | dsimp only | split)

theorem execHello_touch {m : HelloMsg} {s : State} {t_ : State} (h_ : execHello m s = .next t_) : Touch 69345280 s t_ := by
  have hm_ : Nat.land 69345280 69345280 = 69345280 := by decide
  have ht_ := Touch.refl 69345280 s
  unfold execHello at h_
  repeat' (first | (obtain rfl := next_inj h_; clear h_) | (obtain rfl := bounded_next h_; clear h_) | dsimp only at h_ | split at h_)
  all_goals try dsimp only
  repeat' (first | with_reducible assumption | (exact sub_trans (by decide) hm_) | (with_reducible refine State.abandonPairing_touch ?_ ?_ ) | (with_reducible refine State.pairGo_touch ?_ ?_ ) | (with_reducible refine State.settGot_touch ?_ ?_ ) | (with_reducible refine State.startPairing_touch ?_ ?_ ) | (with_reducible refine State.updPair_touch ?_ ?_) | (with_reducible refine ite_touch ?_ ?_) | (with_reducible refine id_touch ?_) | intro _ _ | intro _ | dsimp only | split)

theorem State.startExchange_touch {s : State} {m_ : Nat} {b_ : State} (hm_ : Nat.land 100794368 m_ = 100794368) (ht_ : Touch m_ b_ s) :
    Touch m_ b_ (State.startExchange s) := by
  unfold State.startExchange
  try dsimp only
  repeat' (first | with_reducible assumption | (exact sub_trans (by decide) hm_) | (with_reducible refine State.draw_touch ?_ ?_ ) | (with_reducible refine State.settSend_touch ?_ ?_ ) | (with_reducible refine State.updPair_touch ?_ ?_) | (with_reducible refine ite_touch ?_ ?_) | (with_reducible refine id_touch ?_) | intro _ _ | intro _ | dsimp only | split)

theorem execEvidence_touch {e : EvidenceMsg} {s : State} {t_ : State} (h_ : execEvidence e s = .next t_) : Touch 102899712 s t_ := by
  have hm_ : Nat.land 102899712 102899712 = 102899712 := by decide
  have ht_ := Touch.refl 102899712 s
  unfold execEvidence at h_
  repeat' (first | (obtain rfl := next_inj h_; clear h_) | (obtain rfl := bounded_next h_; clear h_) | dsimp only at h_ | split at h_)
  all_goals try dsimp only
  repeat' (first | with_reducible assumption | (exact sub_trans (by decide) hm_) | (with_reducible refine State.refusePair_touch ?_ ?_ ) | (with_reducible refine State.settIn_touch ?_ ?_ ?_ ) | (with_reducible refine State.startExchange_touch ?_ ?_ ) | (with_reducible refine State.updPair_touch ?_ ?_) | (with_reducible refine ite_touch ?_ ?_) | (with_reducible refine id_touch ?_) | intro _ _ | intro _ | dsimp only | split)

theorem State.registerAll_touch {s : State} {m_ : Nat} {b_ : State} (hm_ : Nat.land 327680 m_ = 327680) (ht_ : Touch m_ b_ s) :
    Touch m_ b_ (State.registerAll s) := by
  unfold State.registerAll
  try dsimp only
  repeat' (first | with_reducible assumption | (exact sub_trans (by decide) hm_) | (with_reducible refine State.submit_touch ?_ ?_ ) | (with_reducible refine State.updDport_touch ?_ ?_ ) | (with_reducible refine State.when_touch ?_ ?_) | (with_reducible refine foldl_touch ?_ ?_) | (with_reducible refine foldl_snd_touch ?_ ?_) | (with_reducible refine ite_touch ?_ ?_) | (with_reducible refine id_touch ?_) | intro _ _ | intro _ | dsimp only | split)

theorem State.startSync_touch {s : State} {m_ : Nat} {b_ : State} (hm_ : Nat.land 71770112 m_ = 71770112) (ht_ : Touch m_ b_ s) :
    Touch m_ b_ (State.startSync s) := by
  unfold State.startSync
  try dsimp only
  repeat' (first | with_reducible assumption | (exact sub_trans (by decide) hm_) | (with_reducible refine State.journal_touch ?_ ?_ ) | (with_reducible refine State.registerAll_touch ?_ ?_ ) | (with_reducible refine State.settIfPaired_touch ?_ ?_ ) | (with_reducible refine State.settSend_touch ?_ ?_ ) | (with_reducible refine State.shadowConn_touch ?_ ?_ ) | (with_reducible refine State.when_touch ?_ ?_) | (with_reducible refine State.updLayout_touch ?_ ?_) | (with_reducible refine State.updPair_touch ?_ ?_) | (with_reducible refine foldl_touch ?_ ?_) | (with_reducible refine foldl_snd_touch ?_ ?_) | (with_reducible refine ite_touch ?_ ?_) | (with_reducible refine id_touch ?_) | intro _ _ | intro _ | dsimp only | split)

theorem State.startRotation_touch {key : Nat} {s : State} {m_ : Nat} {b_ : State} (hm_ : Nat.land 229380 m_ = 229380) (ht_ : Touch m_ b_ s) :
    Touch m_ b_ (State.startRotation key s) := by
  unfold State.startRotation
  try dsimp only
  repeat' (first | with_reducible assumption | (exact sub_trans (by decide) hm_) | (with_reducible refine State.takeShelfKey_touch ?_ ?_ ) | (with_reducible refine State.updEnclave_touch ?_ ?_) | (with_reducible refine State.updPair_touch ?_ ?_) | (with_reducible refine ite_touch ?_ ?_) | (with_reducible refine id_touch ?_) | intro _ _ | intro _ | dsimp only | split)

theorem State.ownRotation_touch {s : State} {m_ : Nat} {b_ : State} (hm_ : Nat.land 2097152 m_ = 2097152) (ht_ : Touch m_ b_ s) :
    Touch m_ b_ (State.ownRotation s) := by
  unfold State.ownRotation
  try dsimp only
  repeat' (first | with_reducible assumption | (exact sub_trans (by decide) hm_) | (with_reducible refine State.updCcp_touch ?_ ?_) | (with_reducible refine ite_touch ?_ ?_) | (with_reducible refine id_touch ?_) | intro _ _ | intro _ | dsimp only | split)

theorem State.exchangeKey_touch {kek : Nat} {k : KeyExMsg} {s : State} {m_ : Nat} {b_ : State} (hm_ : Nat.land 105357316 m_ = 105357316) (ht_ : Touch m_ b_ s) :
    Touch m_ b_ (State.exchangeKey kek k s) := by
  unfold State.exchangeKey
  try dsimp only
  repeat' (first | with_reducible assumption | (exact sub_trans (by decide) hm_) | (with_reducible refine State.draw_touch ?_ ?_ ) | (with_reducible refine State.settSend_touch ?_ ?_ ) | (with_reducible refine State.startSync_touch ?_ ?_ ) | (with_reducible refine State.takeShelfKey_touch ?_ ?_ ) | (with_reducible refine State.updPair_touch ?_ ?_) | (with_reducible refine ite_touch ?_ ?_) | (with_reducible refine id_touch ?_) | intro _ _ | intro _ | dsimp only | split)

theorem State.rotateKey_touch {kek : Nat} {k : KeyExMsg} {own : Bool} {s : State} {m_ : Nat} {b_ : State} (hm_ : Nat.land 102989828 m_ = 102989828) (ht_ : Touch m_ b_ s) :
    Touch m_ b_ (State.rotateKey kek k own s) := by
  unfold State.rotateKey
  try dsimp only
  repeat' (first | with_reducible assumption | (exact sub_trans (by decide) hm_) | (with_reducible refine State.draw_touch ?_ ?_ ) | (with_reducible refine State.ownRotation_touch ?_ ?_ ) | (with_reducible refine State.settSend_touch ?_ ?_ ) | (with_reducible refine State.startRotation_touch ?_ ?_ ) | (with_reducible refine State.when_touch ?_ ?_) | (with_reducible refine State.updPair_touch ?_ ?_) | (with_reducible refine ite_touch ?_ ?_) | (with_reducible refine id_touch ?_) | intro _ _ | intro _ | dsimp only | split)

theorem execKeyExchange_touch {k : KeyExMsg} {s : State} {t_ : State} (h_ : execKeyExchange k s = .next t_) : Touch 107454468 s t_ := by
  have hm_ : Nat.land 107454468 107454468 = 107454468 := by decide
  have ht_ := Touch.refl 107454468 s
  unfold execKeyExchange at h_
  repeat' (first | (obtain rfl := next_inj h_; clear h_) | (obtain rfl := bounded_next h_; clear h_) | dsimp only at h_ | split at h_)
  all_goals try dsimp only
  repeat' (first | with_reducible assumption | (exact sub_trans (by decide) hm_) | (with_reducible refine State.exchangeKey_touch ?_ ?_ ) | (with_reducible refine State.refusePair_touch ?_ ?_ ) | (with_reducible refine State.rotateKey_touch ?_ ?_ ) | (with_reducible refine State.settIn_touch ?_ ?_ ?_ ) | (with_reducible refine State.startExchange_touch ?_ ?_ ) | (with_reducible refine State.updPair_touch ?_ ?_) | (with_reducible refine ite_touch ?_ ?_) | (with_reducible refine id_touch ?_) | intro _ _ | intro _ | dsimp only | split)

theorem State.enterPaired_touch {epoch : Nat} {b : QBlock} {s : State} {m_ : Nat} {b_ : State} (hm_ : Nat.land 74923459 m_ = 74923459) (ht_ : Touch m_ b_ s) :
    Touch m_ b_ (State.enterPaired epoch b s) := by
  unfold State.enterPaired
  try dsimp only
  repeat' (first | with_reducible assumption | (exact sub_trans (by decide) hm_) | (with_reducible refine State.applyEpoch_touch ?_ ?_ ) | (with_reducible refine State.enterMode_touch ?_ ?_ ) | (with_reducible refine State.recomputePs_touch ?_ ?_ ) | (with_reducible refine State.updCons_touch ?_ ?_) | (with_reducible refine State.updPair_touch ?_ ?_) | (with_reducible refine ite_touch ?_ ?_) | (with_reducible refine id_touch ?_) | intro _ _ | intro _ | dsimp only | split)

theorem execSynchronisationEnd_touch {block : QBlock} {s : State} {t_ : State} (h_ : execSynchronisationEnd block s = .next t_) : Touch 74972611 s t_ := by
  have hm_ : Nat.land 74972611 74972611 = 74972611 := by decide
  have ht_ := Touch.refl 74972611 s
  unfold execSynchronisationEnd at h_
  repeat' (first | (obtain rfl := next_inj h_; clear h_) | (obtain rfl := bounded_next h_; clear h_) | dsimp only at h_ | split at h_)
  all_goals try dsimp only
  repeat' (first | with_reducible assumption | (exact sub_trans (by decide) hm_) | (with_reducible refine State.enterPaired_touch ?_ ?_ ) | (with_reducible refine State.settle_touch ?_ ?_ ) | (with_reducible refine State.writeQuorum_touch ?_ ?_ ) | (with_reducible refine State.updCons_touch ?_ ?_) | (with_reducible refine ite_touch ?_ ?_) | (with_reducible refine id_touch ?_) | intro _ _ | intro _ | dsimp only | split)

theorem execSettLinkUp_touch {bundle : Nat} {s : State} {t_ : State} (h_ : execSettLinkUp bundle s = .next t_) : Touch 69345408 s t_ := by
  have hm_ : Nat.land 69345408 69345408 = 69345408 := by decide
  have ht_ := Touch.refl 69345408 s
  unfold execSettLinkUp at h_
  repeat' (first | (obtain rfl := next_inj h_; clear h_) | (obtain rfl := bounded_next h_; clear h_) | dsimp only at h_ | split at h_)
  all_goals try dsimp only
  repeat' (first | with_reducible assumption | (exact sub_trans (by decide) hm_) | (with_reducible refine State.startPairing_touch ?_ ?_ ) | (with_reducible refine State.wakeIdle_touch ?_ ?_ ) | (with_reducible refine State.when_touch ?_ ?_) | (with_reducible refine State.updPair_touch ?_ ?_) | (with_reducible refine ite_touch ?_ ?_) | (with_reducible refine id_touch ?_) | intro _ _ | intro _ | dsimp only | split)

theorem execConnectionShadow_touch {index : Nat} {shadow : ConnShadow} {s : State} {t_ : State} (h_ : execConnectionShadow index shadow s = .next t_) : Touch 67239936 s t_ := by
  have hm_ : Nat.land 67239936 67239936 = 67239936 := by decide
  have ht_ := Touch.refl 67239936 s
  unfold execConnectionShadow at h_
  repeat' (first | (obtain rfl := next_inj h_; clear h_) | (obtain rfl := bounded_next h_; clear h_) | dsimp only at h_ | split at h_)
  all_goals try dsimp only
  repeat' (first | with_reducible assumption | (exact sub_trans (by decide) hm_) | (with_reducible refine State.settIn_touch ?_ ?_ ?_ ) | (with_reducible refine State.updPair_touch ?_ ?_) | (with_reducible refine ite_touch ?_ ?_) | (with_reducible refine id_touch ?_) | intro _ _ | intro _ | dsimp only | split)

theorem State.closeReplays_touch {gone : List Replay} {s : State} {m_ : Nat} {b_ : State} (hm_ : Nat.land 74710016 m_ = 74710016) (ht_ : Touch m_ b_ s) :
    Touch m_ b_ (State.closeReplays gone s) := by
  unfold State.closeReplays
  try dsimp only
  repeat' (first | with_reducible assumption | (exact sub_trans (by decide) hm_) | (with_reducible refine State.drainAll_touch ?_ ?_ ) | (with_reducible refine State.releaseCovered_touch ?_ ?_ ) | (with_reducible refine State.settle_touch ?_ ?_ ) | (with_reducible refine State.updCons_touch ?_ ?_) | (with_reducible refine ite_touch ?_ ?_) | (with_reducible refine id_touch ?_) | intro _ _ | intro _ | dsimp only | split)

theorem execPositionUpdate_touch {index : Nat} {msn : Nat} {rcvPos : Nat} {sndPos : Nat} {s : State} {t_ : State} (h_ : execPositionUpdate index msn rcvPos sndPos s = .next t_) : Touch 74710016 s t_ := by
  have hm_ : Nat.land 74710016 74710016 = 74710016 := by decide
  have ht_ := Touch.refl 74710016 s
  unfold execPositionUpdate at h_
  repeat' (first | (obtain rfl := next_inj h_; clear h_) | (obtain rfl := bounded_next h_; clear h_) | dsimp only at h_ | split at h_)
  all_goals try dsimp only
  repeat' (first | with_reducible assumption | (exact sub_trans (by decide) hm_) | (with_reducible refine State.closeReplays_touch ?_ ?_ ) | (with_reducible refine State.settIn_touch ?_ ?_ ?_ ) | (with_reducible refine State.updPair_touch ?_ ?_) | (with_reducible refine ite_touch ?_ ?_) | (with_reducible refine id_touch ?_) | intro _ _ | intro _ | dsimp only | split)

theorem execCommandShadow_touch {slot : Nat} {shadow : CmdShadow} {s : State} {t_ : State} (h_ : execCommandShadow slot shadow s = .next t_) : Touch 67239936 s t_ := by
  have hm_ : Nat.land 67239936 67239936 = 67239936 := by decide
  have ht_ := Touch.refl 67239936 s
  unfold execCommandShadow at h_
  repeat' (first | (obtain rfl := next_inj h_; clear h_) | (obtain rfl := bounded_next h_; clear h_) | dsimp only at h_ | split at h_)
  all_goals try dsimp only
  repeat' (first | with_reducible assumption | (exact sub_trans (by decide) hm_) | (with_reducible refine State.settIn_touch ?_ ?_ ?_ ) | (with_reducible refine State.updPair_touch ?_ ?_) | (with_reducible refine foldl_touch ?_ ?_) | (with_reducible refine foldl_snd_touch ?_ ?_) | (with_reducible refine ite_touch ?_ ?_) | (with_reducible refine id_touch ?_) | intro _ _ | intro _ | dsimp only | split)

theorem execStampUpdate_touch {slot : Nat} {stamp : BitVec 64} {send : SendRec} {s : State} {t_ : State} (h_ : execStampUpdate slot stamp send s = .next t_) : Touch 67239936 s t_ := by
  have hm_ : Nat.land 67239936 67239936 = 67239936 := by decide
  have ht_ := Touch.refl 67239936 s
  unfold execStampUpdate at h_
  repeat' (first | (obtain rfl := next_inj h_; clear h_) | (obtain rfl := bounded_next h_; clear h_) | dsimp only at h_ | split at h_)
  all_goals try dsimp only
  repeat' (first | with_reducible assumption | (exact sub_trans (by decide) hm_) | (with_reducible refine State.send_touch ?_ ?_ ) | (with_reducible refine State.settIn_touch ?_ ?_ ?_ ) | (with_reducible refine State.updPair_touch ?_ ?_) | (with_reducible refine ite_touch ?_ ?_) | (with_reducible refine id_touch ?_) | intro _ _ | intro _ | dsimp only | split)

theorem execSendRecord_touch {slot : Nat} {send : SendRec} {s : State} {t_ : State} (h_ : execSendRecord slot send s = .next t_) : Touch 67239936 s t_ := by
  have hm_ : Nat.land 67239936 67239936 = 67239936 := by decide
  have ht_ := Touch.refl 67239936 s
  unfold execSendRecord at h_
  repeat' (first | (obtain rfl := next_inj h_; clear h_) | (obtain rfl := bounded_next h_; clear h_) | dsimp only at h_ | split at h_)
  all_goals try dsimp only
  repeat' (first | with_reducible assumption | (exact sub_trans (by decide) hm_) | (with_reducible refine State.send_touch ?_ ?_ ) | (with_reducible refine State.settIn_touch ?_ ?_ ?_ ) | (with_reducible refine State.updPair_touch ?_ ?_) | (with_reducible refine ite_touch ?_ ?_) | (with_reducible refine id_touch ?_) | intro _ _ | intro _ | dsimp only | split)

theorem execCommandEnd_touch {slot : Nat} {rec : Replay} {s : State} {t_ : State} (h_ : execCommandEnd slot rec s = .next t_) : Touch 74710016 s t_ := by
  have hm_ : Nat.land 74710016 74710016 = 74710016 := by decide
  have ht_ := Touch.refl 74710016 s
  unfold execCommandEnd at h_
  repeat' (first | (obtain rfl := next_inj h_; clear h_) | (obtain rfl := bounded_next h_; clear h_) | dsimp only at h_ | split at h_)
  all_goals try dsimp only
  repeat' (first | with_reducible assumption | (exact sub_trans (by decide) hm_) | (with_reducible refine State.closeReplays_touch ?_ ?_ ) | (with_reducible refine State.pinReads_touch ?_ ?_ ) | (with_reducible refine State.settIn_touch ?_ ?_ ?_ ) | (with_reducible refine State.updCons_touch ?_ ?_) | (with_reducible refine State.updPair_touch ?_ ?_) | (with_reducible refine ite_touch ?_ ?_) | (with_reducible refine id_touch ?_) | intro _ _ | intro _ | dsimp only | split)

theorem execFabricControllerShadow_touch {cntlid : Nat} {fab : FabCtrl} {s : State} {t_ : State} (h_ : execFabricControllerShadow cntlid fab s = .next t_) : Touch 67239936 s t_ := by
  have hm_ : Nat.land 67239936 67239936 = 67239936 := by decide
  have ht_ := Touch.refl 67239936 s
  unfold execFabricControllerShadow at h_
  repeat' (first | (obtain rfl := next_inj h_; clear h_) | (obtain rfl := bounded_next h_; clear h_) | dsimp only at h_ | split at h_)
  all_goals try dsimp only
  repeat' (first | with_reducible assumption | (exact sub_trans (by decide) hm_) | (with_reducible refine State.settIn_touch ?_ ?_ ?_ ) | (with_reducible refine State.updPair_touch ?_ ?_) | (with_reducible refine ite_touch ?_ ?_) | (with_reducible refine id_touch ?_) | intro _ _ | intro _ | dsimp only | split)

theorem execPushShadow_touch {index : Nat} {count : Nat} {size : Nat} {s : State} {t_ : State} (h_ : execPushShadow index count size s = .next t_) : Touch 67239936 s t_ := by
  have hm_ : Nat.land 67239936 67239936 = 67239936 := by decide
  have ht_ := Touch.refl 67239936 s
  unfold execPushShadow at h_
  repeat' (first | (obtain rfl := next_inj h_; clear h_) | (obtain rfl := bounded_next h_; clear h_) | dsimp only at h_ | split at h_)
  all_goals try dsimp only
  repeat' (first | with_reducible assumption | (exact sub_trans (by decide) hm_) | (with_reducible refine State.settIn_touch ?_ ?_ ?_ ) | (with_reducible refine State.updPair_touch ?_ ?_) | (with_reducible refine ite_touch ?_ ?_) | (with_reducible refine id_touch ?_) | intro _ _ | intro _ | dsimp only | split)

end Sys2Proof.Machine
end

