-- ==== Sys2Proof/Laws/TouchRebuild.lean ====
section
/-! SUPPORT. What the operations of Machine/Rebuild.lean can change: one lemma for each. -/
namespace Sys2Proof.Machine
set_option linter.all false

theorem execMissingWaitExpiry_touch {pool slot : Nat} {s : State} {t_ : State} (h_ : execMissingWaitExpiry pool slot s = .next t_) : Touch 73408512 s t_ := by
  have hm_ : Nat.land 73408512 73408512 = 73408512 := by decide
  have ht_ := Touch.refl 73408512 s
  unfold execMissingWaitExpiry at h_
  repeat' (first | (obtain rfl := next_inj h_; clear h_) | (obtain rfl := bounded_next h_; clear h_) | dsimp only at h_ | split at h_)
  all_goals try dsimp only
  repeat' (first | with_reducible assumption | (exact sub_trans (by decide) hm_) | (with_reducible refine State.failMember_touch ?_ ?_ ) | (with_reducible refine ite_touch ?_ ?_) | (with_reducible refine id_touch ?_) | intro _ _ | intro _ | dsimp only | split)

theorem State.markRebuilt_touch {n stripe : Nat} {slots : List Nat} {s : State} {m_ : Nat} {b_ : State} (hm_ : Nat.land 8192 m_ = 8192) (ht_ : Touch m_ b_ s) :
    Touch m_ b_ (State.markRebuilt n stripe slots s) := by
  unfold State.markRebuilt
  try dsimp only
  repeat' (first | with_reducible assumption | (exact sub_trans (by decide) hm_) | (with_reducible refine State.updPool_touch ?_ ?_ ) | (with_reducible refine foldl_touch ?_ ?_) | (with_reducible refine foldl_snd_touch ?_ ?_) | (with_reducible refine ite_touch ?_ ?_) | (with_reducible refine id_touch ?_) | intro _ _ | intro _ | dsimp only | split)

theorem State.unlistedDone_touch {n slot : Nat} {s : State} {m_ : Nat} {b_ : State} (hm_ : Nat.land 4202496 m_ = 4202496) (ht_ : Touch m_ b_ s) :
    Touch m_ b_ (State.unlistedDone n slot s) := by
  unfold State.unlistedDone
  try dsimp only
  repeat' (first | with_reducible assumption | (exact sub_trans (by decide) hm_) | (with_reducible refine State.memberPresent_touch ?_ ?_ ) | (with_reducible refine ite_touch ?_ ?_) | (with_reducible refine id_touch ?_) | intro _ _ | intro _ | dsimp only | split)

theorem execRebuildStripe_touch {pool stripe : Nat} {reads : List PosBlock} {s : State} {t_ : State} (h_ : execRebuildStripe pool stripe reads s = .next t_) : Touch 73605120 s t_ := by
  have hm_ : Nat.land 73605120 73605120 = 73605120 := by decide
  have ht_ := Touch.refl 73605120 s
  unfold execRebuildStripe at h_
  repeat' (first | (obtain rfl := next_inj h_; clear h_) | (obtain rfl := bounded_next h_; clear h_) | dsimp only at h_ | split at h_)
  all_goals try dsimp only
  repeat' (first | with_reducible assumption | (exact sub_trans (by decide) hm_) | (with_reducible refine State.bump_touch ?_ ?_ ) | (with_reducible refine State.bumpN_touch ?_ ?_ ) | (with_reducible refine State.doRestore_touch ?_ ?_ ) | (with_reducible refine State.freeLock_touch ?_ ?_ ) | (with_reducible refine State.markRebuilt_touch ?_ ?_ ) | (with_reducible refine State.takeLock_touch ?_ ?_ ) | (refine snd_touch (by with_reducible assumption) (State.takeLock_touch ?_ ?_ )) | (with_reducible refine State.unlistedDone_touch ?_ ?_ ) | (with_reducible refine foldl_touch ?_ ?_) | (with_reducible refine foldl_snd_touch ?_ ?_) | (with_reducible refine ite_touch ?_ ?_) | (with_reducible refine id_touch ?_) | intro _ _ | intro _ | dsimp only | split)

theorem State.takeLocks_touch {n who : Nat} {l : List Nat} {s : State} {m_ : Nat} {b_ : State} (hm_ : Nat.land 8192 m_ = 8192) (ht_ : Touch m_ b_ s) :
    Touch m_ b_ (State.takeLocks n who l s).2 := by
  unfold State.takeLocks
  try dsimp only
  repeat' (first | with_reducible assumption | (exact sub_trans (by decide) hm_) | (with_reducible refine State.takeLock_touch ?_ ?_ ) | (refine snd_touch (by with_reducible assumption) (State.takeLock_touch ?_ ?_ )) | (with_reducible refine foldl_touch ?_ ?_) | (with_reducible refine foldl_snd_touch ?_ ?_) | (with_reducible refine ite_touch ?_ ?_) | (with_reducible refine id_touch ?_) | intro _ _ | intro _ | dsimp only | split)

theorem State.freeLocks_touch {n : Nat} {l : List Nat} {s : State} {m_ : Nat} {b_ : State} (hm_ : Nat.land 8192 m_ = 8192) (ht_ : Touch m_ b_ s) :
    Touch m_ b_ (State.freeLocks n l s) := by
  unfold State.freeLocks
  try dsimp only
  repeat' (first | with_reducible assumption | (exact sub_trans (by decide) hm_) | (with_reducible refine State.freeLock_touch ?_ ?_ ) | (with_reducible refine foldl_touch ?_ ?_) | (with_reducible refine foldl_snd_touch ?_ ?_) | (with_reducible refine ite_touch ?_ ?_) | (with_reducible refine id_touch ?_) | intro _ _ | intro _ | dsimp only | split)

theorem State.fillSlot_touch {n slot : Nat} {stripes : List Nat} {reads : List StripeRead} {s : State} {m_ : Nat} {b_ : State} (hm_ : Nat.land 73605120 m_ = 73605120) (ht_ : Touch m_ b_ s) :
    Touch m_ b_ (State.fillSlot n slot stripes reads s).2 := by
  unfold State.fillSlot
  try dsimp only
  repeat' (first | with_reducible assumption | (exact sub_trans (by decide) hm_) | (with_reducible refine State.doRestore_touch ?_ ?_ ) | (with_reducible refine State.freeLocks_touch ?_ ?_ ) | (with_reducible refine State.takeLocks_touch ?_ ?_ ) | (refine snd_touch (by with_reducible assumption) (State.takeLocks_touch ?_ ?_ )) | (with_reducible refine foldl_touch ?_ ?_) | (with_reducible refine foldl_snd_touch ?_ ?_) | (with_reducible refine ite_touch ?_ ?_) | (with_reducible refine id_touch ?_) | intro _ _ | intro _ | dsimp only | split)

theorem execResyncRowGroup_touch {pool slot bit : Nat} {reads : List StripeRead} {s : State} {t_ : State} (h_ : execResyncRowGroup pool slot bit reads s = .next t_) : Touch 73605120 s t_ := by
  have hm_ : Nat.land 73605120 73605120 = 73605120 := by decide
  have ht_ := Touch.refl 73605120 s
  unfold execResyncRowGroup at h_
  repeat' (first | (obtain rfl := next_inj h_; clear h_) | (obtain rfl := bounded_next h_; clear h_) | dsimp only at h_ | split at h_)
  all_goals try dsimp only
  repeat' (first | with_reducible assumption | (exact sub_trans (by decide) hm_) | (with_reducible refine State.bumpN_touch ?_ ?_ ) | (with_reducible refine State.fillSlot_touch ?_ ?_ ) | (refine snd_touch (by with_reducible assumption) (State.fillSlot_touch ?_ ?_ )) | (with_reducible refine State.memberPresent_touch ?_ ?_ ) | (with_reducible refine State.updPool_touch ?_ ?_ ) | (with_reducible refine ite_touch ?_ ?_) | (with_reducible refine id_touch ?_) | intro _ _ | intro _ | dsimp only | split)

theorem execCopybackRow_touch {pool slot row : Nat} {reads : List StripeRead} {s : State} {t_ : State} (h_ : execCopybackRow pool slot row reads s = .next t_) : Touch 73605120 s t_ := by
  have hm_ : Nat.land 73605120 73605120 = 73605120 := by decide
  have ht_ := Touch.refl 73605120 s
  unfold execCopybackRow at h_
  repeat' (first | (obtain rfl := next_inj h_; clear h_) | (obtain rfl := bounded_next h_; clear h_) | dsimp only at h_ | split at h_)
  all_goals try dsimp only
  repeat' (first | with_reducible assumption | (exact sub_trans (by decide) hm_) | (with_reducible refine State.bump_touch ?_ ?_ ) | (with_reducible refine State.fillSlot_touch ?_ ?_ ) | (refine snd_touch (by with_reducible assumption) (State.fillSlot_touch ?_ ?_ )) | (with_reducible refine State.memberPresent_touch ?_ ?_ ) | (with_reducible refine State.updPool_touch ?_ ?_ ) | (with_reducible refine ite_touch ?_ ?_) | (with_reducible refine id_touch ?_) | intro _ _ | intro _ | dsimp only | split)

theorem State.reconBegin_touch {pool stripe : Nat} {s : State} {m_ : Nat} {b_ : State} (hm_ : Nat.land 72580096 m_ = 72580096) (ht_ : Touch m_ b_ s) :
    Touch m_ b_ (State.reconBegin pool stripe s) := by
  unfold State.reconBegin
  try dsimp only
  repeat' (first | with_reducible assumption | (exact sub_trans (by decide) hm_) | (with_reducible refine State.reconstruct_touch ?_ ?_ ) | (with_reducible refine foldl_touch ?_ ?_) | (with_reducible refine foldl_snd_touch ?_ ?_) | (with_reducible refine ite_touch ?_ ?_) | (with_reducible refine id_touch ?_) | intro _ _ | intro _ | dsimp only | split)

theorem execStripeLockGrant_touch {pool stripe : Nat} {s : State} {t_ : State} (h_ : execStripeLockGrant pool stripe s = .next t_) : Touch 74710016 s t_ := by
  have hm_ : Nat.land 74710016 74710016 = 74710016 := by decide
  have ht_ := Touch.refl 74710016 s
  unfold execStripeLockGrant at h_
  repeat' (first | (obtain rfl := next_inj h_; clear h_) | (obtain rfl := bounded_next h_; clear h_) | dsimp only at h_ | split at h_)
  all_goals try dsimp only
  repeat' (first | with_reducible assumption | (exact sub_trans (by decide) hm_) | (with_reducible refine State.freeLock_touch ?_ ?_ ) | (with_reducible refine State.reconBegin_touch ?_ ?_ ) | (with_reducible refine State.reconDone_touch ?_ ?_ ) | (with_reducible refine State.settle_touch ?_ ?_ ) | (with_reducible refine State.takeStripe_touch ?_ ?_ ) | (with_reducible refine ite_touch ?_ ?_) | (with_reducible refine id_touch ?_) | intro _ _ | intro _ | dsimp only | split)

theorem State.reshapeBegin_touch {n : Nat} {s : State} {m_ : Nat} {b_ : State} (hm_ : Nat.land 8192 m_ = 8192) (ht_ : Touch m_ b_ s) :
    Touch m_ b_ (State.reshapeBegin n s) := by
  unfold State.reshapeBegin
  try dsimp only
  repeat' (first | with_reducible assumption | (exact sub_trans (by decide) hm_) | (with_reducible refine State.plan_touch ?_ ?_ ) | (with_reducible refine State.updPool_touch ?_ ?_ ) | (with_reducible refine ite_touch ?_ ?_) | (with_reducible refine id_touch ?_) | intro _ _ | intro _ | dsimp only | split)

theorem State.reshapeSetPause_touch {n : Nat} {on : Bool} {s : State} {m_ : Nat} {b_ : State} (hm_ : Nat.land 8192 m_ = 8192) (ht_ : Touch m_ b_ s) :
    Touch m_ b_ (State.reshapeSetPause n on s) := by
  unfold State.reshapeSetPause
  try dsimp only
  repeat' (first | with_reducible assumption | (exact sub_trans (by decide) hm_) | (with_reducible refine State.updPool_touch ?_ ?_ ) | (with_reducible refine ite_touch ?_ ?_) | (with_reducible refine id_touch ?_) | intro _ _ | intro _ | dsimp only | split)

theorem State.copyStripe_touch {n oldSlab newSlab i : Nat} {reads : List StripeRead} {s : State} {m_ : Nat} {b_ : State} (hm_ : Nat.land 73605120 m_ = 73605120) (ht_ : Touch m_ b_ s) :
    Touch m_ b_ (State.copyStripe n oldSlab newSlab i reads s).2 := by
  unfold State.copyStripe
  try dsimp only
  repeat' (first | with_reducible assumption | (exact sub_trans (by decide) hm_) | (with_reducible refine State.bump_touch ?_ ?_ ) | (with_reducible refine State.enterRow_touch ?_ ?_ ) | (with_reducible refine State.freeLocks_touch ?_ ?_ ) | (with_reducible refine State.journal_touch ?_ ?_ ) | (with_reducible refine State.readStripe_touch ?_ ?_ ) | (with_reducible refine State.takeLocks_touch ?_ ?_ ) | (refine snd_touch (by with_reducible assumption) (State.takeLocks_touch ?_ ?_ )) | (with_reducible refine State.writeAll_touch ?_ ?_ ) | (with_reducible refine foldl_touch ?_ ?_) | (with_reducible refine foldl_snd_touch ?_ ?_) | (with_reducible refine ite_touch ?_ ?_) | (with_reducible refine id_touch ?_) | intro _ _ | intro _ | dsimp only | split)

theorem State.commitSlab_touch {n rec newSlab : Nat} {s : State} {m_ : Nat} {b_ : State} (hm_ : Nat.land 73728 m_ = 73728) (ht_ : Touch m_ b_ s) :
    Touch m_ b_ (State.commitSlab n rec newSlab s) := by
  unfold State.commitSlab
  try dsimp only
  repeat' (first | with_reducible assumption | (exact sub_trans (by decide) hm_) | (with_reducible refine State.route_touch ?_ ?_ ) | (with_reducible refine State.updPool_touch ?_ ?_ ) | (with_reducible refine foldl_touch ?_ ?_) | (with_reducible refine foldl_snd_touch ?_ ?_) | (with_reducible refine ite_touch ?_ ?_) | (with_reducible refine id_touch ?_) | intro _ _ | intro _ | dsimp only | split)

theorem State.zeroSlab_touch {n slab : Nat} {s : State} {m_ : Nat} {b_ : State} (hm_ : Nat.land 65536 m_ = 65536) (ht_ : Touch m_ b_ s) :
    Touch m_ b_ (State.zeroSlab n slab s) := by
  unfold State.zeroSlab
  try dsimp only
  repeat' (first | with_reducible assumption | (exact sub_trans (by decide) hm_) | (with_reducible refine State.route_touch ?_ ?_ ) | (with_reducible refine foldl_touch ?_ ?_) | (with_reducible refine foldl_snd_touch ?_ ?_) | (with_reducible refine ite_touch ?_ ?_) | (with_reducible refine id_touch ?_) | intro _ _ | intro _ | dsimp only | split)

theorem State.reshapeEnd_touch {n : Nat} {s : State} {m_ : Nat} {b_ : State} (hm_ : Nat.land 94707713 m_ = 94707713) (ht_ : Touch m_ b_ s) :
    Touch m_ b_ (State.reshapeEnd n s) := by
  unfold State.reshapeEnd
  try dsimp only
  repeat' (first | with_reducible assumption | (exact sub_trans (by decide) hm_) | (with_reducible refine State.raise_touch ?_ ?_ ) | (with_reducible refine State.setWord_touch ?_ ?_ ) | (with_reducible refine State.submit_touch ?_ ?_ ) | (with_reducible refine State.updDport_touch ?_ ?_ ) | (with_reducible refine State.updPool_touch ?_ ?_ ) | (with_reducible refine State.updBlobs_touch ?_ ?_) | (with_reducible refine foldl_touch ?_ ?_) | (with_reducible refine foldl_snd_touch ?_ ?_) | (with_reducible refine ite_touch ?_ ?_) | (with_reducible refine id_touch ?_) | intro _ _ | intro _ | dsimp only | split)

theorem State.updReshape_touch {n : Nat} {f : ReshapeOp → ReshapeOp} {s : State} {m_ : Nat} {b_ : State} (hm_ : Nat.land 8192 m_ = 8192) (ht_ : Touch m_ b_ s) :
    Touch m_ b_ (State.updReshape n f s) := by
  unfold State.updReshape
  try dsimp only
  repeat' (first | with_reducible assumption | (exact sub_trans (by decide) hm_) | (with_reducible refine State.updPool_touch ?_ ?_ ) | (with_reducible refine ite_touch ?_ ?_) | (with_reducible refine id_touch ?_) | intro _ _ | intro _ | dsimp only | split)

theorem State.reshapeAdvance_touch {n : Nat} {reads : List StripeRead} {s : State} {m_ : Nat} {b_ : State} (hm_ : Nat.land 99034113 m_ = 99034113) (ht_ : Touch m_ b_ s) :
    Touch m_ b_ (State.reshapeAdvance n reads s).2 := by
  unfold State.reshapeAdvance
  try dsimp only
  repeat' (first | with_reducible assumption | (exact sub_trans (by decide) hm_) | (with_reducible refine State.commitSlab_touch ?_ ?_ ) | (with_reducible refine State.copyStripe_touch ?_ ?_ ) | (refine snd_touch (by with_reducible assumption) (State.copyStripe_touch ?_ ?_ )) | (with_reducible refine State.plan_touch ?_ ?_ ) | (with_reducible refine State.reshapeEnd_touch ?_ ?_ ) | (with_reducible refine State.updReshape_touch ?_ ?_ ) | (with_reducible refine State.zeroSlab_touch ?_ ?_ ) | (with_reducible refine ite_touch ?_ ?_) | (with_reducible refine id_touch ?_) | intro _ _ | intro _ | dsimp only | split)

theorem State.reshapeRun_touch {n : Nat} {reads : List StripeRead} {k_ : Nat} {s : State} {m_ : Nat} {b_ : State} (hm_ : Nat.land 99034113 m_ = 99034113) (ht_ : Touch m_ b_ s) :
    Touch m_ b_ (State.reshapeRun n reads k_ s) := by
  induction k_ generalizing s with
  | zero => exact ht_
  | succ k_ ih_ =>
    unfold State.reshapeRun
    try dsimp only
    repeat' (first | with_reducible assumption | (with_reducible refine ih_ ?_) | (exact sub_trans (by decide) hm_) | (with_reducible refine State.reshapeAdvance_touch ?_ ?_ ) | (refine snd_touch (by with_reducible assumption) (State.reshapeAdvance_touch ?_ ?_ )) | (with_reducible refine ite_touch ?_ ?_) | (with_reducible refine id_touch ?_) | intro _ _ | intro _ | dsimp only | split)

theorem execReshapeStep_touch {pool : Nat} {reads : List StripeRead} {s : State} {t_ : State} (h_ : execReshapeStep pool reads s = .next t_) : Touch 99034113 s t_ := by
  have hm_ : Nat.land 99034113 99034113 = 99034113 := by decide
  have ht_ := Touch.refl 99034113 s
  unfold execReshapeStep at h_
  repeat' (first | (obtain rfl := next_inj h_; clear h_) | (obtain rfl := bounded_next h_; clear h_) | dsimp only at h_ | split at h_)
  all_goals try dsimp only
  repeat' (first | with_reducible assumption | (exact sub_trans (by decide) hm_) | (with_reducible refine State.reshapeRun_touch ?_ ?_ ) | (with_reducible refine ite_touch ?_ ?_) | (with_reducible refine id_touch ?_) | intro _ _ | intro _ | dsimp only | split)

theorem State.reEncrypt_touch {h blk : Nat} {b : Bytes} {s : State} {m_ : Nat} {b_ : State} (hm_ : Nat.land 73646080 m_ = 73646080) (ht_ : Touch m_ b_ s) :
    Touch m_ b_ (State.reEncrypt h blk b s).2 := by
  unfold State.reEncrypt
  try dsimp only
  repeat' (first | with_reducible assumption | (exact sub_trans (by decide) hm_) | (with_reducible refine State.askKey_touch ?_ ?_ ) | (with_reducible refine State.bump_touch ?_ ?_ ) | (with_reducible refine State.takeCtr_touch ?_ ?_ ) | (refine snd_touch (by with_reducible assumption) (State.takeCtr_touch ?_ ?_ )) | (with_reducible refine ite_touch ?_ ?_) | (with_reducible refine id_touch ?_) | intro _ _ | intro _ | dsimp only | split)

theorem State.sweepRowNow_touch {n stripe row : Nat} {reads : List PosBlock} {s : State} {m_ : Nat} {b_ : State} (hm_ : Nat.land 73654272 m_ = 73654272) (ht_ : Touch m_ b_ s) :
    Touch m_ b_ (State.sweepRowNow n stripe row reads s).2 := by
  unfold State.sweepRowNow
  try dsimp only
  repeat' (first | with_reducible assumption | (exact sub_trans (by decide) hm_) | (with_reducible refine State.reEncrypt_touch ?_ ?_ ) | (refine snd_touch (by with_reducible assumption) (State.reEncrypt_touch ?_ ?_ )) | (with_reducible refine State.repairUnder_touch ?_ ?_ ) | (with_reducible refine foldl_touch ?_ ?_) | (with_reducible refine foldl_snd_touch ?_ ?_) | (with_reducible refine ite_touch ?_ ?_) | (with_reducible refine id_touch ?_) | intro _ _ | intro _ | dsimp only | split)

theorem State.patrolled_touch {n stripe : Nat} {hot : Bool} {s : State} {m_ : Nat} {b_ : State} (hm_ : Nat.land 69427200 m_ = 69427200) (ht_ : Touch m_ b_ s) :
    Touch m_ b_ (State.patrolled n stripe hot s) := by
  unfold State.patrolled
  try dsimp only
  repeat' (first | with_reducible assumption | (exact sub_trans (by decide) hm_) | (with_reducible refine State.cursorPast_touch ?_ ?_ ) | (with_reducible refine State.updPool_touch ?_ ?_ ) | (with_reducible refine State.when_touch ?_ ?_) | (with_reducible refine ite_touch ?_ ?_) | (with_reducible refine id_touch ?_) | intro _ _ | intro _ | dsimp only | split)

theorem execBadgerStripe_touch {pool stripe : Nat} {reads : List PosBlock} {s : State} {t_ : State} (h_ : execBadgerStripe pool stripe reads s = .next t_) : Touch 73654272 s t_ := by
  have hm_ : Nat.land 73654272 73654272 = 73654272 := by decide
  have ht_ := Touch.refl 73654272 s
  unfold execBadgerStripe at h_
  repeat' (first | (obtain rfl := next_inj h_; clear h_) | (obtain rfl := bounded_next h_; clear h_) | dsimp only at h_ | split at h_)
  all_goals try dsimp only
  repeat' (first | with_reducible assumption | (exact sub_trans (by decide) hm_) | (with_reducible refine State.bumpN_touch ?_ ?_ ) | (with_reducible refine State.enterRow_touch ?_ ?_ ) | (with_reducible refine State.freeLock_touch ?_ ?_ ) | (with_reducible refine State.hotIfBad_touch ?_ ?_ ) | (with_reducible refine State.patrolled_touch ?_ ?_ ) | (with_reducible refine State.readStripe_touch ?_ ?_ ) | (with_reducible refine State.repairUnder_touch ?_ ?_ ) | (with_reducible refine State.sweepRowNow_touch ?_ ?_ ) | (refine snd_touch (by with_reducible assumption) (State.sweepRowNow_touch ?_ ?_ )) | (with_reducible refine State.takeLock_touch ?_ ?_ ) | (refine snd_touch (by with_reducible assumption) (State.takeLock_touch ?_ ?_ )) | (with_reducible refine State.writeAll_touch ?_ ?_ ) | (with_reducible refine foldl_touch ?_ ?_) | (with_reducible refine foldl_snd_touch ?_ ?_) | (with_reducible refine ite_touch ?_ ?_) | (with_reducible refine id_touch ?_) | intro _ _ | intro _ | dsimp only | split)

theorem execSweepStart_touch {handle gen : Nat} {s : State} {t_ : State} (h_ : execSweepStart handle gen s = .next t_) : Touch 16384 s t_ := by
  have hm_ : Nat.land 16384 16384 = 16384 := by decide
  have ht_ := Touch.refl 16384 s
  unfold execSweepStart at h_
  repeat' (first | (obtain rfl := next_inj h_; clear h_) | (obtain rfl := bounded_next h_; clear h_) | dsimp only at h_ | split at h_)
  all_goals try dsimp only
  repeat' (first | with_reducible assumption | (exact sub_trans (by decide) hm_) | (with_reducible refine State.updGen_touch ?_ ?_ ) | (with_reducible refine ite_touch ?_ ?_) | (with_reducible refine id_touch ?_) | intro _ _ | intro _ | dsimp only | split)

end Sys2Proof.Machine
end

