-- ==== Sys2Proof/Laws/TouchDrives.lean ====
section
/-! SUPPORT. What the operations of Machine/Drives.lean can change: one lemma for each. -/
namespace Sys2Proof.Machine
set_option linter.all false

theorem State.driveFault_touch {slot code : Nat} {s : State} {m_ : Nat} {b_ : State} (hm_ : Nat.land 69337088 m_ = 69337088) (ht_ : Touch m_ b_ s) :
    Touch m_ b_ (State.driveFault slot code s) := by
  unfold State.driveFault
  try dsimp only
  repeat' (first | with_reducible assumption | (exact sub_trans (by decide) hm_) | (with_reducible refine State.singleFault_touch ?_ ?_ ) | (with_reducible refine ite_touch ?_ ?_) | (with_reducible refine id_touch ?_) | intro _ _ | intro _ | dsimp only | split)

theorem State.partIn_touch {n blk pos : Nat} {bytes : Bytes} {s : State} {m_ : Nat} {b_ : State} (hm_ : Nat.land 74710016 m_ = 74710016) (ht_ : Touch m_ b_ s) :
    Touch m_ b_ (State.partIn n blk pos bytes s) := by
  unfold State.partIn
  try dsimp only
  repeat' (first | with_reducible assumption | (exact sub_trans (by decide) hm_) | (with_reducible refine State.blkFailed_touch ?_ ?_ ) | (with_reducible refine State.blockIn_touch ?_ ?_ ) | (with_reducible refine State.hotIfBad_touch ?_ ?_ ) | (with_reducible refine State.reconDone_touch ?_ ?_ ) | (with_reducible refine State.updRead_touch ?_ ?_ ) | (with_reducible refine ite_touch ?_ ?_) | (with_reducible refine id_touch ?_) | intro _ _ | intro _ | dsimp only | split)

theorem State.cmdLost_touch {c : DriveCmd} {s : State} {m_ : Nat} {b_ : State} (hm_ : Nat.land 74710016 m_ = 74710016) (ht_ : Touch m_ b_ s) :
    Touch m_ b_ (State.cmdLost c s) := by
  unfold State.cmdLost
  try dsimp only
  repeat' (first | with_reducible assumption | (exact sub_trans (by decide) hm_) | (with_reducible refine State.partIn_touch ?_ ?_ ) | (with_reducible refine State.reconstruct_touch ?_ ?_ ) | (with_reducible refine State.updPair_touch ?_ ?_) | (with_reducible refine ite_touch ?_ ?_) | (with_reducible refine id_touch ?_) | intro _ _ | intro _ | dsimp only | split)

theorem State.updSlotPwr_touch {n : Nat} {f : SlotPwr → SlotPwr} {s : State} {m_ : Nat} {b_ : State} (hm_ : Nat.land 2 m_ = 2) (ht_ : Touch m_ b_ s) :
    Touch m_ b_ (State.updSlotPwr n f s) := by
  unfold State.updSlotPwr
  try dsimp only
  repeat' (first | with_reducible assumption | (exact sub_trans (by decide) hm_) | (with_reducible refine State.updPower_touch ?_ ?_) | (with_reducible refine ite_touch ?_ ?_) | (with_reducible refine id_touch ?_) | intro _ _ | intro _ | dsimp only | split)

theorem State.portEvent_touch {slot : Nat} {s : State} {m_ : Nat} {b_ : State} (hm_ : Nat.land 69206016 m_ = 69206016) (ht_ : Touch m_ b_ s) :
    Touch m_ b_ (State.portEvent slot s) := by
  unfold State.portEvent
  try dsimp only
  repeat' (first | with_reducible assumption | (exact sub_trans (by decide) hm_) | (with_reducible refine State.raise_touch ?_ ?_ ) | (with_reducible refine ite_touch ?_ ?_) | (with_reducible refine id_touch ?_) | intro _ _ | intro _ | dsimp only | split)

theorem State.startRelease_touch {slot : Nat} {s : State} {m_ : Nat} {b_ : State} (hm_ : Nat.land 4456450 m_ = 4456450) (ht_ : Touch m_ b_ s) :
    Touch m_ b_ (State.startRelease slot s) := by
  unfold State.startRelease
  try dsimp only
  repeat' (first | with_reducible assumption | (exact sub_trans (by decide) hm_) | (with_reducible refine State.bump_touch ?_ ?_ ) | (with_reducible refine State.updDport_touch ?_ ?_ ) | (with_reducible refine State.updSlotPwr_touch ?_ ?_ ) | (with_reducible refine ite_touch ?_ ?_) | (with_reducible refine id_touch ?_) | intro _ _ | intro _ | dsimp only | split)

theorem State.clearDispatch_touch {slot : Nat} {s : State} {m_ : Nat} {b_ : State} (hm_ : Nat.land 65536 m_ = 65536) (ht_ : Touch m_ b_ s) :
    Touch m_ b_ (State.clearDispatch slot s) := by
  unfold State.clearDispatch
  try dsimp only
  repeat' (first | with_reducible assumption | (exact sub_trans (by decide) hm_) | (with_reducible refine State.updSched_touch ?_ ?_ ) | (with_reducible refine ite_touch ?_ ?_) | (with_reducible refine id_touch ?_) | intro _ _ | intro _ | dsimp only | split)

theorem State.dropDrive_touch {slot : Nat} {s : State} {m_ : Nat} {b_ : State} (hm_ : Nat.land 74972160 m_ = 74972160) (ht_ : Touch m_ b_ s) :
    Touch m_ b_ (State.dropDrive slot s) := by
  unfold State.dropDrive
  try dsimp only
  repeat' (first | with_reducible assumption | (exact sub_trans (by decide) hm_) | (with_reducible refine State.clearDispatch_touch ?_ ?_ ) | (with_reducible refine State.cmdLost_touch ?_ ?_ ) | (with_reducible refine State.memberMissing_touch ?_ ?_ ) | (with_reducible refine State.updDport_touch ?_ ?_ ) | (with_reducible refine foldl_touch ?_ ?_) | (with_reducible refine foldl_snd_touch ?_ ?_) | (with_reducible refine ite_touch ?_ ?_) | (with_reducible refine id_touch ?_) | intro _ _ | intro _ | dsimp only | split)

theorem State.afterContain_touch {slot cause : Nat} {s : State} {m_ : Nat} {b_ : State} (hm_ : Nat.land 73670658 m_ = 73670658) (ht_ : Touch m_ b_ s) :
    Touch m_ b_ (State.afterContain slot cause s) := by
  unfold State.afterContain
  try dsimp only
  repeat' (first | with_reducible assumption | (exact sub_trans (by decide) hm_) | (with_reducible refine State.failMember_touch ?_ ?_ ) | (with_reducible refine State.portEvent_touch ?_ ?_ ) | (with_reducible refine State.startRelease_touch ?_ ?_ ) | (with_reducible refine State.updDport_touch ?_ ?_ ) | (with_reducible refine State.when_touch ?_ ?_) | (with_reducible refine ite_touch ?_ ?_) | (with_reducible refine id_touch ?_) | intro _ _ | intro _ | dsimp only | split)

theorem State.contain_touch {slot cause : Nat} {s : State} {m_ : Nat} {b_ : State} (hm_ : Nat.land 74972162 m_ = 74972162) (ht_ : Touch m_ b_ s) :
    Touch m_ b_ (State.contain slot cause s) := by
  unfold State.contain
  try dsimp only
  repeat' (first | with_reducible assumption | (exact sub_trans (by decide) hm_) | (with_reducible refine State.afterContain_touch ?_ ?_ ) | (with_reducible refine State.bump_touch ?_ ?_ ) | (with_reducible refine State.driveFault_touch ?_ ?_ ) | (with_reducible refine State.dropDrive_touch ?_ ?_ ) | (with_reducible refine State.settle_touch ?_ ?_ ) | (with_reducible refine State.updDport_touch ?_ ?_ ) | (with_reducible refine State.when_touch ?_ ?_) | (with_reducible refine ite_touch ?_ ?_) | (with_reducible refine id_touch ?_) | intro _ _ | intro _ | dsimp only | split)

theorem State.enumFail_touch {slot : Nat} {s : State} {m_ : Nat} {b_ : State} (hm_ : Nat.land 73728000 m_ = 73728000) (ht_ : Touch m_ b_ s) :
    Touch m_ b_ (State.enumFail slot s) := by
  unfold State.enumFail
  try dsimp only
  repeat' (first | with_reducible assumption | (exact sub_trans (by decide) hm_) | (with_reducible refine State.bump_touch ?_ ?_ ) | (with_reducible refine State.clearDispatch_touch ?_ ?_ ) | (with_reducible refine State.portEvent_touch ?_ ?_ ) | (with_reducible refine State.updDport_touch ?_ ?_ ) | (with_reducible refine ite_touch ?_ ?_) | (with_reducible refine id_touch ?_) | intro _ _ | intro _ | dsimp only | split)

theorem execDrivePortBringup_touch {slot : Nat} {s : State} {t_ : State} (h_ : execDrivePortBringup slot s = .next t_) : Touch 262144 s t_ := by
  have hm_ : Nat.land 262144 262144 = 262144 := by decide
  have ht_ := Touch.refl 262144 s
  unfold execDrivePortBringup at h_
  repeat' (first | (obtain rfl := next_inj h_; clear h_) | (obtain rfl := bounded_next h_; clear h_) | dsimp only at h_ | split at h_)
  all_goals try dsimp only
  repeat' (first | with_reducible assumption | (exact sub_trans (by decide) hm_) | (with_reducible refine State.updDport_touch ?_ ?_ ) | (with_reducible refine ite_touch ?_ ?_) | (with_reducible refine id_touch ?_) | intro _ _ | intro _ | dsimp only | split)

theorem State.resCmd_touch {slot what : Nat} {s : State} {m_ : Nat} {b_ : State} (hm_ : Nat.land 67108864 m_ = 67108864) (ht_ : Touch m_ b_ s) :
    Touch m_ b_ (State.resCmd slot what s) := by
  unfold State.resCmd
  try dsimp only
  repeat' (first | with_reducible assumption | (exact sub_trans (by decide) hm_) | (with_reducible refine State.driveAdmin_touch ?_ ?_ ) | (with_reducible refine ite_touch ?_ ?_) | (with_reducible refine id_touch ?_) | intro _ _ | intro _ | dsimp only | split)

theorem State.acquire_touch {slot : Nat} {s : State} {m_ : Nat} {b_ : State} (hm_ : Nat.land 67371008 m_ = 67371008) (ht_ : Touch m_ b_ s) :
    Touch m_ b_ (State.acquire slot s) := by
  unfold State.acquire
  try dsimp only
  repeat' (first | with_reducible assumption | (exact sub_trans (by decide) hm_) | (with_reducible refine State.resCmd_touch ?_ ?_ ) | (with_reducible refine State.updDport_touch ?_ ?_ ) | (with_reducible refine ite_touch ?_ ?_) | (with_reducible refine id_touch ?_) | intro _ _ | intro _ | dsimp only | split)

theorem State.register_touch {slot : Nat} {i : EnumInfo} {s : State} {m_ : Nat} {b_ : State} (hm_ : Nat.land 67371008 m_ = 67371008) (ht_ : Touch m_ b_ s) :
    Touch m_ b_ (State.register slot i s).2 := by
  unfold State.register
  try dsimp only
  repeat' (first | with_reducible assumption | (exact sub_trans (by decide) hm_) | (with_reducible refine State.acquire_touch ?_ ?_ ) | (with_reducible refine State.resCmd_touch ?_ ?_ ) | (with_reducible refine State.updDport_touch ?_ ?_ ) | (with_reducible refine State.when_touch ?_ ?_) | (with_reducible refine ite_touch ?_ ?_) | (with_reducible refine id_touch ?_) | intro _ _ | intro _ | dsimp only | split)

theorem State.driveFound_touch {slot : Nat} {i : EnumInfo} {s : State} {m_ : Nat} {b_ : State} (hm_ : Nat.land 73474048 m_ = 73474048) (ht_ : Touch m_ b_ s) :
    Touch m_ b_ (State.driveFound slot i s) := by
  unfold State.driveFound
  try dsimp only
  repeat' (first | with_reducible assumption | (exact sub_trans (by decide) hm_) | (with_reducible refine State.memberReplaced_touch ?_ ?_ ) | (with_reducible refine State.memberReturns_touch ?_ ?_ ) | (with_reducible refine State.raise_touch ?_ ?_ ) | (with_reducible refine State.when_touch ?_ ?_) | (with_reducible refine ite_touch ?_ ?_) | (with_reducible refine id_touch ?_) | intro _ _ | intro _ | dsimp only | split)

theorem execDriveEnumStepComplete_touch {slot : Nat} {info : EnumInfo} {s : State} {t_ : State} (h_ : execDriveEnumStepComplete slot info s = .next t_) : Touch 74972160 s t_ := by
  have hm_ : Nat.land 74972160 74972160 = 74972160 := by decide
  have ht_ := Touch.refl 74972160 s
  unfold execDriveEnumStepComplete at h_
  repeat' (first | (obtain rfl := next_inj h_; clear h_) | (obtain rfl := bounded_next h_; clear h_) | dsimp only at h_ | split at h_)
  all_goals try dsimp only
  repeat' (first | with_reducible assumption | (exact sub_trans (by decide) hm_) | (with_reducible refine State.driveFound_touch ?_ ?_ ) | (with_reducible refine State.enumFail_touch ?_ ?_ ) | (with_reducible refine State.register_touch ?_ ?_ ) | (refine snd_touch (by with_reducible assumption) (State.register_touch ?_ ?_ )) | (with_reducible refine State.settle_touch ?_ ?_ ) | (with_reducible refine State.updDport_touch ?_ ?_ ) | (with_reducible refine State.updDrives_touch ?_ ?_) | (with_reducible refine ite_touch ?_ ?_) | (with_reducible refine id_touch ?_) | intro _ _ | intro _ | dsimp only | split)

theorem execDriveEnumStepTimeout_touch {slot : Nat} {s : State} {t_ : State} (h_ : execDriveEnumStepTimeout slot s = .next t_) : Touch 73728000 s t_ := by
  have hm_ : Nat.land 73728000 73728000 = 73728000 := by decide
  have ht_ := Touch.refl 73728000 s
  unfold execDriveEnumStepTimeout at h_
  repeat' (first | (obtain rfl := next_inj h_; clear h_) | (obtain rfl := bounded_next h_; clear h_) | dsimp only at h_ | split at h_)
  all_goals try dsimp only
  repeat' (first | with_reducible assumption | (exact sub_trans (by decide) hm_) | (with_reducible refine State.enumFail_touch ?_ ?_ ) | (with_reducible refine ite_touch ?_ ?_) | (with_reducible refine id_touch ?_) | intro _ _ | intro _ | dsimp only | split)

theorem execReservationWaitExpiry_touch {slot : Nat} {held : Bool} {s : State} {t_ : State} (h_ : execReservationWaitExpiry slot held s = .next t_) : Touch 67371008 s t_ := by
  have hm_ : Nat.land 67371008 67371008 = 67371008 := by decide
  have ht_ := Touch.refl 67371008 s
  unfold execReservationWaitExpiry at h_
  repeat' (first | (obtain rfl := next_inj h_; clear h_) | (obtain rfl := bounded_next h_; clear h_) | dsimp only at h_ | split at h_)
  all_goals try dsimp only
  repeat' (first | with_reducible assumption | (exact sub_trans (by decide) hm_) | (with_reducible refine State.acquire_touch ?_ ?_ ) | (with_reducible refine State.updDport_touch ?_ ?_ ) | (with_reducible refine State.when_touch ?_ ?_) | (with_reducible refine ite_touch ?_ ?_) | (with_reducible refine id_touch ?_) | intro _ _ | intro _ | dsimp only | split)

theorem execDriveInboundRequest_touch {slot : Nat} {write : Bool} {addr len : Nat} {s : State} {t_ : State} (h_ : execDriveInboundRequest slot write addr len s = .next t_) : Touch 74972162 s t_ := by
  have hm_ : Nat.land 74972162 74972162 = 74972162 := by decide
  have ht_ := Touch.refl 74972162 s
  unfold execDriveInboundRequest at h_
  repeat' (first | (obtain rfl := next_inj h_; clear h_) | (obtain rfl := bounded_next h_; clear h_) | dsimp only at h_ | split at h_)
  all_goals try dsimp only
  repeat' (first | with_reducible assumption | (exact sub_trans (by decide) hm_) | (with_reducible refine State.bump_touch ?_ ?_ ) | (with_reducible refine State.contain_touch ?_ ?_ ) | (with_reducible refine State.enumFail_touch ?_ ?_ ) | (with_reducible refine State.send_touch ?_ ?_ ) | (with_reducible refine State.updDport_touch ?_ ?_ ) | (with_reducible refine State.when_touch ?_ ?_) | (with_reducible refine ite_touch ?_ ?_) | (with_reducible refine id_touch ?_) | intro _ _ | intro _ | dsimp only | split)

theorem State.countDrive_touch {c : DriveCmd} {ok : Bool} {s : State} {m_ : Nat} {b_ : State} (hm_ : Nat.land 4194304 m_ = 4194304) (ht_ : Touch m_ b_ s) :
    Touch m_ b_ (State.countDrive c ok s) := by
  unfold State.countDrive
  try dsimp only
  repeat' (first | with_reducible assumption | (exact sub_trans (by decide) hm_) | (with_reducible refine State.bump_touch ?_ ?_ ) | (with_reducible refine State.bumpN_touch ?_ ?_ ) | (with_reducible refine ite_touch ?_ ?_) | (with_reducible refine id_touch ?_) | intro _ _ | intro _ | dsimp only | split)

theorem State.mediaError_touch {c : DriveCmd} {s : State} {m_ : Nat} {b_ : State} (hm_ : Nat.land 73408512 m_ = 73408512) (ht_ : Touch m_ b_ s) :
    Touch m_ b_ (State.mediaError c s) := by
  unfold State.mediaError
  try dsimp only
  repeat' (first | with_reducible assumption | (exact sub_trans (by decide) hm_) | (with_reducible refine State.bump_touch ?_ ?_ ) | (with_reducible refine State.failMember_touch ?_ ?_ ) | (with_reducible refine State.updPool_touch ?_ ?_ ) | (with_reducible refine ite_touch ?_ ?_) | (with_reducible refine id_touch ?_) | intro _ _ | intro _ | dsimp only | split)

theorem State.quorumDone_touch {c : DriveCmd} {status : Nat} {s : State} {m_ : Nat} {b_ : State} (hm_ : Nat.land 134217703 m_ = 134217703) (ht_ : Touch m_ b_ s) :
    Touch m_ b_ (State.quorumDone c status s) := by
  unfold State.quorumDone
  try dsimp only
  repeat' (first | with_reducible assumption | (exact sub_trans (by decide) hm_) | (with_reducible refine State.quorumAnswer_touch ?_ ?_ ) | (with_reducible refine State.updPair_touch ?_ ?_) | (with_reducible refine ite_touch ?_ ?_) | (with_reducible refine id_touch ?_) | intro _ _ | intro _ | dsimp only | split)

theorem State.cmdDone_touch {c : DriveCmd} {r : DriveCpl} {s : State} {m_ : Nat} {b_ : State} (hm_ : Nat.land 134217703 m_ = 134217703) (ht_ : Touch m_ b_ s) :
    Touch m_ b_ (State.cmdDone c r s) := by
  unfold State.cmdDone
  try dsimp only
  repeat' (first | with_reducible assumption | (exact sub_trans (by decide) hm_) | (with_reducible refine State.blockIn_touch ?_ ?_ ) | (with_reducible refine State.cmdLost_touch ?_ ?_ ) | (with_reducible refine State.hotBlk_touch ?_ ?_ ) | (with_reducible refine State.partIn_touch ?_ ?_ ) | (with_reducible refine State.quorumDone_touch ?_ ?_ ) | (with_reducible refine State.when_touch ?_ ?_) | (with_reducible refine ite_touch ?_ ?_) | (with_reducible refine id_touch ?_) | intro _ _ | intro _ | dsimp only | split)

theorem execDriveCompletion_touch {slot tag : Nat} {cpl : DriveCpl} {s : State} {t_ : State} (h_ : execDriveCompletion slot tag cpl s = .next t_) : Touch 134217703 s t_ := by
  have hm_ : Nat.land 134217703 134217703 = 134217703 := by decide
  have ht_ := Touch.refl 134217703 s
  unfold execDriveCompletion at h_
  repeat' (first | (obtain rfl := next_inj h_; clear h_) | (obtain rfl := bounded_next h_; clear h_) | dsimp only at h_ | split at h_)
  all_goals try dsimp only
  repeat' (first | with_reducible assumption | (exact sub_trans (by decide) hm_) | (with_reducible refine State.afterError_touch ?_ ?_ ) | (with_reducible refine State.bump_touch ?_ ?_ ) | (with_reducible refine State.cmdDone_touch ?_ ?_ ) | (with_reducible refine State.countDrive_touch ?_ ?_ ) | (with_reducible refine State.freeTagOf_touch ?_ ?_ ) | (with_reducible refine State.mediaError_touch ?_ ?_ ) | (with_reducible refine State.settle_touch ?_ ?_ ) | (with_reducible refine State.stopLoser_touch ?_ ?_ ) | (with_reducible refine State.updDport_touch ?_ ?_ ) | (with_reducible refine State.when_touch ?_ ?_) | (with_reducible refine ite_touch ?_ ?_) | (with_reducible refine id_touch ?_) | intro _ _ | intro _ | dsimp only | split)

theorem State.slowDrive_touch {slot : Nat} {s : State} {m_ : Nat} {b_ : State} (hm_ : Nat.land 69599232 m_ = 69599232) (ht_ : Touch m_ b_ s) :
    Touch m_ b_ (State.slowDrive slot s) := by
  unfold State.slowDrive
  try dsimp only
  repeat' (first | with_reducible assumption | (exact sub_trans (by decide) hm_) | (with_reducible refine State.driveFault_touch ?_ ?_ ) | (with_reducible refine State.updDport_touch ?_ ?_ ) | (with_reducible refine ite_touch ?_ ?_) | (with_reducible refine id_touch ?_) | intro _ _ | intro _ | dsimp only | split)

theorem State.readTimeout_touch {slot tag : Nat} {c : DriveCmd} {s : State} {m_ : Nat} {b_ : State} (hm_ : Nat.land 74972160 m_ = 74972160) (ht_ : Touch m_ b_ s) :
    Touch m_ b_ (State.readTimeout slot tag c s) := by
  unfold State.readTimeout
  try dsimp only
  repeat' (first | with_reducible assumption | (exact sub_trans (by decide) hm_) | (with_reducible refine State.bump_touch ?_ ?_ ) | (with_reducible refine State.cmdLost_touch ?_ ?_ ) | (with_reducible refine State.slowDrive_touch ?_ ?_ ) | (with_reducible refine State.updDport_touch ?_ ?_ ) | (with_reducible refine ite_touch ?_ ?_) | (with_reducible refine id_touch ?_) | intro _ _ | intro _ | dsimp only | split)

theorem execDriveDeadlineScan_touch {slot : Nat} {s : State} {t_ : State} (h_ : execDriveDeadlineScan slot s = .next t_) : Touch 74972162 s t_ := by
  have hm_ : Nat.land 74972162 74972162 = 74972162 := by decide
  have ht_ := Touch.refl 74972162 s
  unfold execDriveDeadlineScan at h_
  repeat' (first | (obtain rfl := next_inj h_; clear h_) | (obtain rfl := bounded_next h_; clear h_) | dsimp only at h_ | split at h_)
  all_goals try dsimp only
  repeat' (first | with_reducible assumption | (exact sub_trans (by decide) hm_) | (with_reducible refine State.contain_touch ?_ ?_ ) | (with_reducible refine State.readTimeout_touch ?_ ?_ ) | (with_reducible refine State.settle_touch ?_ ?_ ) | (with_reducible refine State.slowDrive_touch ?_ ?_ ) | (with_reducible refine State.when_touch ?_ ?_) | (with_reducible refine foldl_touch ?_ ?_) | (with_reducible refine foldl_snd_touch ?_ ?_) | (with_reducible refine ite_touch ?_ ?_) | (with_reducible refine id_touch ?_) | intro _ _ | intro _ | dsimp only | split)

theorem execDriveStallExpiry_touch {slot : Nat} {s : State} {t_ : State} (h_ : execDriveStallExpiry slot s = .next t_) : Touch 74972162 s t_ := by
  have hm_ : Nat.land 74972162 74972162 = 74972162 := by decide
  have ht_ := Touch.refl 74972162 s
  unfold execDriveStallExpiry at h_
  repeat' (first | (obtain rfl := next_inj h_; clear h_) | (obtain rfl := bounded_next h_; clear h_) | dsimp only at h_ | split at h_)
  all_goals try dsimp only
  repeat' (first | with_reducible assumption | (exact sub_trans (by decide) hm_) | (with_reducible refine State.contain_touch ?_ ?_ ) | (with_reducible refine ite_touch ?_ ?_) | (with_reducible refine id_touch ?_) | intro _ _ | intro _ | dsimp only | split)

theorem execCstsPoll_touch {slot : Nat} {cfs : Bool} {s : State} {t_ : State} (h_ : execCstsPoll slot cfs s = .next t_) : Touch 74972162 s t_ := by
  have hm_ : Nat.land 74972162 74972162 = 74972162 := by decide
  have ht_ := Touch.refl 74972162 s
  unfold execCstsPoll at h_
  repeat' (first | (obtain rfl := next_inj h_; clear h_) | (obtain rfl := bounded_next h_; clear h_) | dsimp only at h_ | split at h_)
  all_goals try dsimp only
  repeat' (first | with_reducible assumption | (exact sub_trans (by decide) hm_) | (with_reducible refine State.contain_touch ?_ ?_ ) | (with_reducible refine State.send_touch ?_ ?_ ) | (with_reducible refine State.when_touch ?_ ?_) | (with_reducible refine ite_touch ?_ ?_) | (with_reducible refine id_touch ?_) | intro _ _ | intro _ | dsimp only | split)

theorem execPcieReadTimeout_touch {slot : Nat} {s : State} {t_ : State} (h_ : execPcieReadTimeout slot s = .next t_) : Touch 74972162 s t_ := by
  have hm_ : Nat.land 74972162 74972162 = 74972162 := by decide
  have ht_ := Touch.refl 74972162 s
  unfold execPcieReadTimeout at h_
  repeat' (first | (obtain rfl := next_inj h_; clear h_) | (obtain rfl := bounded_next h_; clear h_) | dsimp only at h_ | split at h_)
  all_goals try dsimp only
  repeat' (first | with_reducible assumption | (exact sub_trans (by decide) hm_) | (with_reducible refine State.contain_touch ?_ ?_ ) | (with_reducible refine ite_touch ?_ ?_) | (with_reducible refine id_touch ?_) | intro _ _ | intro _ | dsimp only | split)

theorem execDriveUncorrError_touch {slot : Nat} {s : State} {t_ : State} (h_ : execDriveUncorrError slot s = .next t_) : Touch 74972162 s t_ := by
  have hm_ : Nat.land 74972162 74972162 = 74972162 := by decide
  have ht_ := Touch.refl 74972162 s
  unfold execDriveUncorrError at h_
  repeat' (first | (obtain rfl := next_inj h_; clear h_) | (obtain rfl := bounded_next h_; clear h_) | dsimp only at h_ | split at h_)
  all_goals try dsimp only
  repeat' (first | with_reducible assumption | (exact sub_trans (by decide) hm_) | (with_reducible refine State.contain_touch ?_ ?_ ) | (with_reducible refine ite_touch ?_ ?_) | (with_reducible refine id_touch ?_) | intro _ _ | intro _ | dsimp only | split)

theorem execDriveLinkDown_touch {slot : Nat} {s : State} {t_ : State} (h_ : execDriveLinkDown slot s = .next t_) : Touch 74972162 s t_ := by
  have hm_ : Nat.land 74972162 74972162 = 74972162 := by decide
  have ht_ := Touch.refl 74972162 s
  unfold execDriveLinkDown at h_
  repeat' (first | (obtain rfl := next_inj h_; clear h_) | (obtain rfl := bounded_next h_; clear h_) | dsimp only at h_ | split at h_)
  all_goals try dsimp only
  repeat' (first | with_reducible assumption | (exact sub_trans (by decide) hm_) | (with_reducible refine State.contain_touch ?_ ?_ ) | (with_reducible refine ite_touch ?_ ?_) | (with_reducible refine id_touch ?_) | intro _ _ | intro _ | dsimp only | split)

theorem execDriveCorrError_touch {slot : Nat} {s : State} {t_ : State} (h_ : execDriveCorrError slot s = .next t_) : Touch 4194304 s t_ := by
  have hm_ : Nat.land 4194304 4194304 = 4194304 := by decide
  have ht_ := Touch.refl 4194304 s
  unfold execDriveCorrError at h_
  repeat' (first | (obtain rfl := next_inj h_; clear h_) | (obtain rfl := bounded_next h_; clear h_) | dsimp only at h_ | split at h_)
  all_goals try dsimp only
  repeat' (first | with_reducible assumption | (exact sub_trans (by decide) hm_) | (with_reducible refine State.bump_touch ?_ ?_ ) | (with_reducible refine ite_touch ?_ ?_) | (with_reducible refine id_touch ?_) | intro _ _ | intro _ | dsimp only | split)

theorem execReleasePerstEnd_touch {slot : Nat} {s : State} {t_ : State} (h_ : execReleasePerstEnd slot s = .next t_) : Touch 262146 s t_ := by
  have hm_ : Nat.land 262146 262146 = 262146 := by decide
  have ht_ := Touch.refl 262146 s
  unfold execReleasePerstEnd at h_
  repeat' (first | (obtain rfl := next_inj h_; clear h_) | (obtain rfl := bounded_next h_; clear h_) | dsimp only at h_ | split at h_)
  all_goals try dsimp only
  repeat' (first | with_reducible assumption | (exact sub_trans (by decide) hm_) | (with_reducible refine State.updDport_touch ?_ ?_ ) | (with_reducible refine State.updSlotPwr_touch ?_ ?_ ) | (with_reducible refine ite_touch ?_ ?_) | (with_reducible refine id_touch ?_) | intro _ _ | intro _ | dsimp only | split)

theorem execDriveL1Idle_touch {slot : Nat} {s : State} {t_ : State} (h_ : execDriveL1Idle slot s = .next t_) : Touch 4456448 s t_ := by
  have hm_ : Nat.land 4456448 4456448 = 4456448 := by decide
  have ht_ := Touch.refl 4456448 s
  unfold execDriveL1Idle at h_
  repeat' (first | (obtain rfl := next_inj h_; clear h_) | (obtain rfl := bounded_next h_; clear h_) | dsimp only at h_ | split at h_)
  all_goals try dsimp only
  repeat' (first | with_reducible assumption | (exact sub_trans (by decide) hm_) | (with_reducible refine State.bump_touch ?_ ?_ ) | (with_reducible refine State.updDport_touch ?_ ?_ ) | (with_reducible refine ite_touch ?_ ?_) | (with_reducible refine id_touch ?_) | intro _ _ | intro _ | dsimp only | split)

end Sys2Proof.Machine
end

