-- ==== Sys2Proof/Laws/TouchCommands.lean ====
section
/-! SUPPORT. What the operations of Machine/Commands.lean can change: one lemma for each. -/
namespace Sys2Proof.Machine
set_option linter.all false

theorem State.connectReply_touch {c : ConnectCmd} {status dw0 : Nat} {s : State} {m_ : Nat} {b_ : State} (hm_ : Nat.land 71502848 m_ = 71502848) (ht_ : Touch m_ b_ s) :
    Touch m_ b_ (State.connectReply c status dw0 s) := by
  unfold State.connectReply
  try dsimp only
  repeat' (first | with_reducible assumption | (exact sub_trans (by decide) hm_) | (with_reducible refine State.adminReplay_touch ?_ ?_ ) | (with_reducible refine State.respond_touch ?_ ?_ ) | (with_reducible refine ite_touch ?_ ?_) | (with_reducible refine id_touch ?_) | intro _ _ | intro _ | dsimp only | split)

theorem State.connectRefuse_touch {c : ConnectCmd} {status : Nat} {host : Option Nat} {s : State} {m_ : Nat} {b_ : State} (hm_ : Nat.land 71502848 m_ = 71502848) (ht_ : Touch m_ b_ s) :
    Touch m_ b_ (State.connectRefuse c status host s) := by
  unfold State.connectRefuse
  try dsimp only
  repeat' (first | with_reducible assumption | (exact sub_trans (by decide) hm_) | (with_reducible refine State.bump_touch ?_ ?_ ) | (with_reducible refine State.connectReply_touch ?_ ?_ ) | (with_reducible refine ite_touch ?_ ?_) | (with_reducible refine id_touch ?_) | intro _ _ | intro _ | dsimp only | split)

theorem State.bindQueue_touch {c : ConnectCmd} {cntlid host : Nat} {s : State} {m_ : Nat} {b_ : State} (hm_ : Nat.land 67240960 m_ = 67240960) (ht_ : Touch m_ b_ s) :
    Touch m_ b_ (State.bindQueue c cntlid host s) := by
  unfold State.bindQueue
  try dsimp only
  repeat' (first | with_reducible assumption | (exact sub_trans (by decide) hm_) | (with_reducible refine State.shadowConn_touch ?_ ?_ ) | (with_reducible refine State.updCtx_touch ?_ ?_ ) | (with_reducible refine ite_touch ?_ ?_) | (with_reducible refine id_touch ?_) | intro _ _ | intro _ | dsimp only | split)

theorem State.connectAdmin_touch {c : ConnectCmd} {host : Nat} {s : State} {m_ : Nat} {b_ : State} (hm_ : Nat.land 71502848 m_ = 71502848) (ht_ : Touch m_ b_ s) :
    Touch m_ b_ (State.connectAdmin c host s) := by
  unfold State.connectAdmin
  try dsimp only
  repeat' (first | with_reducible assumption | (exact sub_trans (by decide) hm_) | (with_reducible refine State.bindQueue_touch ?_ ?_ ) | (with_reducible refine State.connectRefuse_touch ?_ ?_ ) | (with_reducible refine State.connectReply_touch ?_ ?_ ) | (with_reducible refine State.settIfPaired_touch ?_ ?_ ) | (with_reducible refine State.updCmds_touch ?_ ?_) | (with_reducible refine ite_touch ?_ ?_) | (with_reducible refine id_touch ?_) | intro _ _ | intro _ | dsimp only | split)

theorem State.connectIo_touch {c : ConnectCmd} {host : Nat} {s : State} {m_ : Nat} {b_ : State} (hm_ : Nat.land 72813696 m_ = 72813696) (ht_ : Touch m_ b_ s) :
    Touch m_ b_ (State.connectIo c host s) := by
  unfold State.connectIo
  try dsimp only
  repeat' (first | with_reducible assumption | (exact sub_trans (by decide) hm_) | (with_reducible refine State.bindQueue_touch ?_ ?_ ) | (with_reducible refine State.connectRefuse_touch ?_ ?_ ) | (with_reducible refine State.connectReply_touch ?_ ?_ ) | (with_reducible refine State.katoRestart_touch ?_ ?_ ) | (with_reducible refine State.recomputePs_touch ?_ ?_ ) | (with_reducible refine State.settIfPaired_touch ?_ ?_ ) | (with_reducible refine State.updFab_touch ?_ ?_ ) | (with_reducible refine ite_touch ?_ ?_) | (with_reducible refine id_touch ?_) | intro _ _ | intro _ | dsimp only | split)

theorem execConnect_touch {c : ConnectCmd} {s : State} {t_ : State} (h_ : execConnect c s = .next t_) : Touch 74972288 s t_ := by
  have hm_ : Nat.land 74972288 74972288 = 74972288 := by decide
  have ht_ := Touch.refl 74972288 s
  unfold execConnect at h_
  repeat' (first | (obtain rfl := next_inj h_; clear h_) | (obtain rfl := bounded_next h_; clear h_) | dsimp only at h_ | split at h_)
  all_goals try dsimp only
  repeat' (first | with_reducible assumption | (exact sub_trans (by decide) hm_) | (with_reducible refine State.adminAgain_touch ?_ ?_ ) | (with_reducible refine State.connectAdmin_touch ?_ ?_ ) | (with_reducible refine State.connectIo_touch ?_ ?_ ) | (with_reducible refine State.connectRefuse_touch ?_ ?_ ) | (with_reducible refine ite_touch ?_ ?_) | (with_reducible refine id_touch ?_) | intro _ _ | intro _ | dsimp only | split)

theorem execPropertyGet_touch {q : AdminCmd} {offset : Nat} {s : State} {t_ : State} (h_ : execPropertyGet q offset s = .next t_) : Touch 108526720 s t_ := by
  have hm_ : Nat.land 108526720 108526720 = 108526720 := by decide
  have ht_ := Touch.refl 108526720 s
  unfold execPropertyGet at h_
  repeat' (first | (obtain rfl := next_inj h_; clear h_) | (obtain rfl := bounded_next h_; clear h_) | dsimp only at h_ | split at h_)
  all_goals try dsimp only
  repeat' (first | with_reducible assumption | (exact sub_trans (by decide) hm_) | (with_reducible refine State.adminDone_touch ?_ ?_ ) | (with_reducible refine State.adminRun_touch ?_ ?_ ?_ ) | (with_reducible refine State.draw_touch ?_ ?_ ) | (with_reducible refine ite_touch ?_ ?_) | (with_reducible refine id_touch ?_) | intro _ _ | intro _ | dsimp only | split)

theorem execPropertySet_touch {q : AdminCmd} {offset : Nat} {value : Nat} {s : State} {t_ : State} (h_ : execPropertySet q offset value s = .next t_) : Touch 74972288 s t_ := by
  have hm_ : Nat.land 74972288 74972288 = 74972288 := by decide
  have ht_ := Touch.refl 74972288 s
  unfold execPropertySet at h_
  repeat' (first | (obtain rfl := next_inj h_; clear h_) | (obtain rfl := bounded_next h_; clear h_) | dsimp only at h_ | split at h_)
  all_goals try dsimp only
  repeat' (first | with_reducible assumption | (exact sub_trans (by decide) hm_) | (with_reducible refine State.adminDone_touch ?_ ?_ ) | (with_reducible refine State.adminRun_touch ?_ ?_ ?_ ) | (with_reducible refine State.deleteFab_touch ?_ ?_ ) | (with_reducible refine State.updFab_touch ?_ ?_ ) | (with_reducible refine ite_touch ?_ ?_) | (with_reducible refine id_touch ?_) | intro _ _ | intro _ | dsimp only | split)

theorem execDisconnect_touch {q : AdminCmd} {s : State} {t_ : State} (h_ : execDisconnect q s = .next t_) : Touch 74972288 s t_ := by
  have hm_ : Nat.land 74972288 74972288 = 74972288 := by decide
  have ht_ := Touch.refl 74972288 s
  unfold execDisconnect at h_
  repeat' (first | (obtain rfl := next_inj h_; clear h_) | (obtain rfl := bounded_next h_; clear h_) | dsimp only at h_ | split at h_)
  all_goals try dsimp only
  repeat' (first | with_reducible assumption | (exact sub_trans (by decide) hm_) | (with_reducible refine State.adminDone_touch ?_ ?_ ) | (with_reducible refine State.adminRun_touch ?_ ?_ ?_ ) | (with_reducible refine State.deleteFab_touch ?_ ?_ ) | (with_reducible refine ite_touch ?_ ?_) | (with_reducible refine id_touch ?_) | intro _ _ | intro _ | dsimp only | split)

theorem execIdentify_touch {q : AdminCmd} {cns : Nat} {nsid : Nat} {s : State} {t_ : State} (h_ : execIdentify q cns nsid s = .next t_) : Touch 74972288 s t_ := by
  have hm_ : Nat.land 74972288 74972288 = 74972288 := by decide
  have ht_ := Touch.refl 74972288 s
  unfold execIdentify at h_
  repeat' (first | (obtain rfl := next_inj h_; clear h_) | (obtain rfl := bounded_next h_; clear h_) | dsimp only at h_ | split at h_)
  all_goals try dsimp only
  repeat' (first | with_reducible assumption | (exact sub_trans (by decide) hm_) | (with_reducible refine State.adminDone_touch ?_ ?_ ) | (with_reducible refine State.adminReport_touch ?_ ?_ ) | (with_reducible refine State.adminRun_touch ?_ ?_ ?_ ) | (with_reducible refine ite_touch ?_ ?_) | (with_reducible refine id_touch ?_) | intro _ _ | intro _ | dsimp only | split)

theorem execGetLogPage_touch {q : AdminCmd} {lid : Nat} {nsid : Nat} {s : State} {t_ : State} (h_ : execGetLogPage q lid nsid s = .next t_) : Touch 74972288 s t_ := by
  have hm_ : Nat.land 74972288 74972288 = 74972288 := by decide
  have ht_ := Touch.refl 74972288 s
  unfold execGetLogPage at h_
  repeat' (first | (obtain rfl := next_inj h_; clear h_) | (obtain rfl := bounded_next h_; clear h_) | dsimp only at h_ | split at h_)
  all_goals try dsimp only
  repeat' (first | with_reducible assumption | (exact sub_trans (by decide) hm_) | (with_reducible refine State.adminData_touch ?_ ?_ ) | (with_reducible refine State.adminDone_touch ?_ ?_ ) | (with_reducible refine State.adminReport_touch ?_ ?_ ) | (with_reducible refine State.adminRun_touch ?_ ?_ ?_ ) | (with_reducible refine State.bump_touch ?_ ?_ ) | (with_reducible refine State.updFab_touch ?_ ?_ ) | (with_reducible refine ite_touch ?_ ?_) | (with_reducible refine id_touch ?_) | intro _ _ | intro _ | dsimp only | split)

theorem State.shadowFab_touch {q : AdminCmd} {s : State} {m_ : Nat} {b_ : State} (hm_ : Nat.land 67239936 m_ = 67239936) (ht_ : Touch m_ b_ s) :
    Touch m_ b_ (State.shadowFab q s) := by
  unfold State.shadowFab
  try dsimp only
  repeat' (first | with_reducible assumption | (exact sub_trans (by decide) hm_) | (with_reducible refine State.settIfPaired_touch ?_ ?_ ) | (with_reducible refine State.when_touch ?_ ?_) | (with_reducible refine ite_touch ?_ ?_) | (with_reducible refine id_touch ?_) | intro _ _ | intro _ | dsimp only | split)

theorem execSetFeaturesPowerMgmt_touch {q : AdminCmd} {ps : Nat} {s : State} {t_ : State} (h_ : execSetFeaturesPowerMgmt q ps s = .next t_) : Touch 74972288 s t_ := by
  have hm_ : Nat.land 74972288 74972288 = 74972288 := by decide
  have ht_ := Touch.refl 74972288 s
  unfold execSetFeaturesPowerMgmt at h_
  repeat' (first | (obtain rfl := next_inj h_; clear h_) | (obtain rfl := bounded_next h_; clear h_) | dsimp only at h_ | split at h_)
  all_goals try dsimp only
  repeat' (first | with_reducible assumption | (exact sub_trans (by decide) hm_) | (with_reducible refine State.adminDone_touch ?_ ?_ ) | (with_reducible refine State.adminRun_touch ?_ ?_ ?_ ) | (with_reducible refine State.recomputePs_touch ?_ ?_ ) | (with_reducible refine State.shadowFab_touch ?_ ?_ ) | (with_reducible refine State.updFab_touch ?_ ?_ ) | (with_reducible refine State.updModes_touch ?_ ?_) | (with_reducible refine State.updLocalPort_touch ?_ ?_) | (with_reducible refine ite_touch ?_ ?_) | (with_reducible refine id_touch ?_) | intro _ _ | intro _ | dsimp only | split)

theorem execPowerStateEntryEnd_touch {s : State} {t_ : State} (h_ : execPowerStateEntryEnd s = .next t_) : Touch 72813696 s t_ := by
  have hm_ : Nat.land 72813696 72813696 = 72813696 := by decide
  have ht_ := Touch.refl 72813696 s
  unfold execPowerStateEntryEnd at h_
  repeat' (first | (obtain rfl := next_inj h_; clear h_) | (obtain rfl := bounded_next h_; clear h_) | dsimp only at h_ | split at h_)
  all_goals try dsimp only
  repeat' (first | with_reducible assumption | (exact sub_trans (by decide) hm_) | (with_reducible refine State.driveAdmin_touch ?_ ?_ ) | (with_reducible refine State.psNow_touch ?_ ?_ ) | (with_reducible refine State.updDport_touch ?_ ?_ ) | (with_reducible refine foldl_touch ?_ ?_) | (with_reducible refine foldl_snd_touch ?_ ?_) | (with_reducible refine ite_touch ?_ ?_) | (with_reducible refine id_touch ?_) | intro _ _ | intro _ | dsimp only | split)

theorem execSetFeaturesArbitration_touch {q : AdminCmd} {value : Nat} {save : Bool} {s : State} {t_ : State} (h_ : execSetFeaturesArbitration q value save s = .next t_) : Touch 74972288 s t_ := by
  have hm_ : Nat.land 74972288 74972288 = 74972288 := by decide
  have ht_ := Touch.refl 74972288 s
  unfold execSetFeaturesArbitration at h_
  repeat' (first | (obtain rfl := next_inj h_; clear h_) | (obtain rfl := bounded_next h_; clear h_) | dsimp only at h_ | split at h_)
  all_goals try dsimp only
  repeat' (first | with_reducible assumption | (exact sub_trans (by decide) hm_) | (with_reducible refine State.adminDone_touch ?_ ?_ ) | (with_reducible refine State.adminRun_touch ?_ ?_ ?_ ) | (with_reducible refine State.shadowFab_touch ?_ ?_ ) | (with_reducible refine State.updFab_touch ?_ ?_ ) | (with_reducible refine ite_touch ?_ ?_) | (with_reducible refine id_touch ?_) | intro _ _ | intro _ | dsimp only | split)

theorem execSetFeaturesNumQueues_touch {q : AdminCmd} {value : Nat} {save : Bool} {s : State} {t_ : State} (h_ : execSetFeaturesNumQueues q value save s = .next t_) : Touch 74972288 s t_ := by
  have hm_ : Nat.land 74972288 74972288 = 74972288 := by decide
  have ht_ := Touch.refl 74972288 s
  unfold execSetFeaturesNumQueues at h_
  repeat' (first | (obtain rfl := next_inj h_; clear h_) | (obtain rfl := bounded_next h_; clear h_) | dsimp only at h_ | split at h_)
  all_goals try dsimp only
  repeat' (first | with_reducible assumption | (exact sub_trans (by decide) hm_) | (with_reducible refine State.adminDone_touch ?_ ?_ ) | (with_reducible refine State.adminRun_touch ?_ ?_ ?_ ) | (with_reducible refine State.shadowFab_touch ?_ ?_ ) | (with_reducible refine State.updLocalPort_touch ?_ ?_) | (with_reducible refine ite_touch ?_ ?_) | (with_reducible refine id_touch ?_) | intro _ _ | intro _ | dsimp only | split)

theorem execSetFeaturesWriteAtomicity_touch {q : AdminCmd} {_value : Nat} {save : Bool} {s : State} {t_ : State} (h_ : execSetFeaturesWriteAtomicity q _value save s = .next t_) : Touch 74972288 s t_ := by
  have hm_ : Nat.land 74972288 74972288 = 74972288 := by decide
  have ht_ := Touch.refl 74972288 s
  unfold execSetFeaturesWriteAtomicity at h_
  repeat' (first | (obtain rfl := next_inj h_; clear h_) | (obtain rfl := bounded_next h_; clear h_) | dsimp only at h_ | split at h_)
  all_goals try dsimp only
  repeat' (first | with_reducible assumption | (exact sub_trans (by decide) hm_) | (with_reducible refine State.adminDone_touch ?_ ?_ ) | (with_reducible refine State.adminRun_touch ?_ ?_ ?_ ) | (with_reducible refine State.shadowFab_touch ?_ ?_ ) | (with_reducible refine ite_touch ?_ ?_) | (with_reducible refine id_touch ?_) | intro _ _ | intro _ | dsimp only | split)

theorem execSetFeaturesAsyncEventCfg_touch {q : AdminCmd} {value : Nat} {save : Bool} {s : State} {t_ : State} (h_ : execSetFeaturesAsyncEventCfg q value save s = .next t_) : Touch 74972288 s t_ := by
  have hm_ : Nat.land 74972288 74972288 = 74972288 := by decide
  have ht_ := Touch.refl 74972288 s
  unfold execSetFeaturesAsyncEventCfg at h_
  repeat' (first | (obtain rfl := next_inj h_; clear h_) | (obtain rfl := bounded_next h_; clear h_) | dsimp only at h_ | split at h_)
  all_goals try dsimp only
  repeat' (first | with_reducible assumption | (exact sub_trans (by decide) hm_) | (with_reducible refine State.adminDone_touch ?_ ?_ ) | (with_reducible refine State.adminRun_touch ?_ ?_ ?_ ) | (with_reducible refine State.shadowFab_touch ?_ ?_ ) | (with_reducible refine State.updFab_touch ?_ ?_ ) | (with_reducible refine ite_touch ?_ ?_) | (with_reducible refine id_touch ?_) | intro _ _ | intro _ | dsimp only | split)

theorem State.conflictAt_touch {res : Nat} {s : State} {m_ : Nat} {b_ : State} (hm_ : Nat.land 256 m_ = 256) (ht_ : Touch m_ b_ s) :
    Touch m_ b_ (State.conflictAt res s) := by
  unfold State.conflictAt
  try dsimp only
  repeat' (first | with_reducible assumption | (exact sub_trans (by decide) hm_) | (with_reducible refine State.updSpine_touch ?_ ?_) | (with_reducible refine ite_touch ?_ ?_) | (with_reducible refine id_touch ?_) | intro _ _ | intro _ | dsimp only | split)

theorem execSetFeaturesPushWindows_touch {q : AdminCmd} {qid : Nat} {count : Nat} {size : Nat} {s : State} {t_ : State} (h_ : execSetFeaturesPushWindows q qid count size s = .next t_) : Touch 74972544 s t_ := by
  have hm_ : Nat.land 74972544 74972544 = 74972544 := by decide
  have ht_ := Touch.refl 74972544 s
  unfold execSetFeaturesPushWindows at h_
  repeat' (first | (obtain rfl := next_inj h_; clear h_) | (obtain rfl := bounded_next h_; clear h_) | dsimp only at h_ | split at h_)
  all_goals try dsimp only
  repeat' (first | with_reducible assumption | (exact sub_trans (by decide) hm_) | (with_reducible refine State.adminDone_touch ?_ ?_ ) | (with_reducible refine State.adminRun_touch ?_ ?_ ?_ ) | (with_reducible refine State.conflictAt_touch ?_ ?_ ) | (with_reducible refine State.settIfPaired_touch ?_ ?_ ) | (with_reducible refine State.shadowFab_touch ?_ ?_ ) | (with_reducible refine State.updCtx_touch ?_ ?_ ) | (with_reducible refine ite_touch ?_ ?_) | (with_reducible refine id_touch ?_) | intro _ _ | intro _ | dsimp only | split)

theorem execGetFeatures_touch {q : AdminCmd} {fid : Nat} {select : Nat} {s : State} {t_ : State} (h_ : execGetFeatures q fid select s = .next t_) : Touch 108526720 s t_ := by
  have hm_ : Nat.land 108526720 108526720 = 108526720 := by decide
  have ht_ := Touch.refl 108526720 s
  unfold execGetFeatures at h_
  repeat' (first | (obtain rfl := next_inj h_; clear h_) | (obtain rfl := bounded_next h_; clear h_) | dsimp only at h_ | split at h_)
  all_goals try dsimp only
  repeat' (first | with_reducible assumption | (exact sub_trans (by decide) hm_) | (with_reducible refine State.adminData_touch ?_ ?_ ) | (with_reducible refine State.adminDone_touch ?_ ?_ ) | (with_reducible refine State.adminRun_touch ?_ ?_ ?_ ) | (with_reducible refine State.draw_touch ?_ ?_ ) | (with_reducible refine ite_touch ?_ ?_) | (with_reducible refine id_touch ?_) | intro _ _ | intro _ | dsimp only | split)

theorem State.abortReport_touch {q : AdminCmd} {aborted : Bool} {s : State} {m_ : Nat} {b_ : State} (hm_ : Nat.land 72551424 m_ = 72551424) (ht_ : Touch m_ b_ s) :
    Touch m_ b_ (State.abortReport q aborted s) := by
  unfold State.abortReport
  try dsimp only
  repeat' (first | with_reducible assumption | (exact sub_trans (by decide) hm_) | (with_reducible refine State.adminDone_touch ?_ ?_ ) | (with_reducible refine State.bump_touch ?_ ?_ ) | (with_reducible refine ite_touch ?_ ?_) | (with_reducible refine id_touch ?_) | intro _ _ | intro _ | dsimp only | split)

theorem execAbort_touch {q : AdminCmd} {sqid : Nat} {cid : Nat} {s : State} {t_ : State} (h_ : execAbort q sqid cid s = .next t_) : Touch 74972288 s t_ := by
  have hm_ : Nat.land 74972288 74972288 = 74972288 := by decide
  have ht_ := Touch.refl 74972288 s
  unfold execAbort at h_
  repeat' (first | (obtain rfl := next_inj h_; clear h_) | (obtain rfl := bounded_next h_; clear h_) | dsimp only at h_ | split at h_)
  all_goals try dsimp only
  repeat' (first | with_reducible assumption | (exact sub_trans (by decide) hm_) | (with_reducible refine State.abortReport_touch ?_ ?_ ) | (with_reducible refine State.adminDone_touch ?_ ?_ ) | (with_reducible refine State.adminRun_touch ?_ ?_ ?_ ) | (with_reducible refine State.dropDeferred_touch ?_ ?_ ) | (with_reducible refine State.endErr_touch ?_ ?_ ) | (with_reducible refine State.settle_touch ?_ ?_ ) | (with_reducible refine State.updFab_touch ?_ ?_ ) | (with_reducible refine State.updSlot_touch ?_ ?_ ) | (with_reducible refine State.withdrawHere_touch ?_ ?_ ) | (refine snd_touch (by with_reducible assumption) (State.withdrawHere_touch ?_ ?_ )) | (with_reducible refine ite_touch ?_ ?_) | (with_reducible refine id_touch ?_) | intro _ _ | intro _ | dsimp only | split)

theorem State.notice_touch {c : Nat} {s : State} {m_ : Nat} {b_ : State} (hm_ : Nat.land 72551424 m_ = 72551424) (ht_ : Touch m_ b_ s) :
    Touch m_ b_ (State.notice c s) := by
  unfold State.notice
  try dsimp only
  repeat' (first | with_reducible assumption | (exact sub_trans (by decide) hm_) | (with_reducible refine State.adminDone_touch ?_ ?_ ) | (with_reducible refine State.updFab_touch ?_ ?_ ) | (with_reducible refine State.updLocalPort_touch ?_ ?_) | (with_reducible refine ite_touch ?_ ?_) | (with_reducible refine id_touch ?_) | intro _ _ | intro _ | dsimp only | split)

theorem execAsyncEventRequest_touch {q : AdminCmd} {s : State} {t_ : State} (h_ : execAsyncEventRequest q s = .next t_) : Touch 74972288 s t_ := by
  have hm_ : Nat.land 74972288 74972288 = 74972288 := by decide
  have ht_ := Touch.refl 74972288 s
  unfold execAsyncEventRequest at h_
  repeat' (first | (obtain rfl := next_inj h_; clear h_) | (obtain rfl := bounded_next h_; clear h_) | dsimp only at h_ | split at h_)
  all_goals try dsimp only
  repeat' (first | with_reducible assumption | (exact sub_trans (by decide) hm_) | (with_reducible refine State.adminDone_touch ?_ ?_ ) | (with_reducible refine State.adminRun_touch ?_ ?_ ?_ ) | (with_reducible refine State.notice_touch ?_ ?_ ) | (with_reducible refine State.updFab_touch ?_ ?_ ) | (with_reducible refine ite_touch ?_ ?_) | (with_reducible refine id_touch ?_) | intro _ _ | intro _ | dsimp only | split)

theorem execKeepAlive_touch {q : AdminCmd} {s : State} {t_ : State} (h_ : execKeepAlive q s = .next t_) : Touch 74972288 s t_ := by
  have hm_ : Nat.land 74972288 74972288 = 74972288 := by decide
  have ht_ := Touch.refl 74972288 s
  unfold execKeepAlive at h_
  repeat' (first | (obtain rfl := next_inj h_; clear h_) | (obtain rfl := bounded_next h_; clear h_) | dsimp only at h_ | split at h_)
  all_goals try dsimp only
  repeat' (first | with_reducible assumption | (exact sub_trans (by decide) hm_) | (with_reducible refine State.adminDone_touch ?_ ?_ ) | (with_reducible refine State.adminRun_touch ?_ ?_ ?_ ) | (with_reducible refine ite_touch ?_ ?_) | (with_reducible refine id_touch ?_) | intro _ _ | intro _ | dsimp only | split)

theorem execKeepAliveExpiry_touch {cntlid : Nat} {s : State} {t_ : State} (h_ : execKeepAliveExpiry cntlid s = .next t_) : Touch 74972288 s t_ := by
  have hm_ : Nat.land 74972288 74972288 = 74972288 := by decide
  have ht_ := Touch.refl 74972288 s
  unfold execKeepAliveExpiry at h_
  repeat' (first | (obtain rfl := next_inj h_; clear h_) | (obtain rfl := bounded_next h_; clear h_) | dsimp only at h_ | split at h_)
  all_goals try dsimp only
  repeat' (first | with_reducible assumption | (exact sub_trans (by decide) hm_) | (with_reducible refine State.bump_touch ?_ ?_ ) | (with_reducible refine State.deleteFab_touch ?_ ?_ ) | (with_reducible refine ite_touch ?_ ?_) | (with_reducible refine id_touch ?_) | intro _ _ | intro _ | dsimp only | split)

theorem execCommandCapsule_touch {c : HostCmd} {s : State} {t_ : State} (h_ : execCommandCapsule c s = .next t_) : Touch 108526720 s t_ := by
  have hm_ : Nat.land 108526720 108526720 = 108526720 := by decide
  have ht_ := Touch.refl 108526720 s
  unfold execCommandCapsule at h_
  repeat' (first | (obtain rfl := next_inj h_; clear h_) | (obtain rfl := bounded_next h_; clear h_) | dsimp only at h_ | split at h_)
  all_goals try dsimp only
  repeat' (first | with_reducible assumption | (exact sub_trans (by decide) hm_) | (with_reducible refine State.afterError_touch ?_ ?_ ) | (with_reducible refine State.bump_touch ?_ ?_ ) | (with_reducible refine State.capsuleIn_touch ?_ ?_ ) | (with_reducible refine State.sendNak_touch ?_ ?_ ) | (with_reducible refine State.settle_touch ?_ ?_ ) | (with_reducible refine ite_touch ?_ ?_) | (with_reducible refine id_touch ?_) | intro _ _ | intro _ | dsimp only | split)

theorem State.goOn_touch {n : Nat} {s : State} {m_ : Nat} {b_ : State} (hm_ : Nat.land 74710016 m_ = 74710016) (ht_ : Touch m_ b_ s) :
    Touch m_ b_ (State.goOn n s) := by
  unfold State.goOn
  try dsimp only
  repeat' (first | with_reducible assumption | (exact sub_trans (by decide) hm_) | (with_reducible refine State.settle_touch ?_ ?_ ) | (with_reducible refine State.stageFive_touch ?_ ?_ ) | (with_reducible refine State.trigger_touch ?_ ?_ ) | (with_reducible refine ite_touch ?_ ?_) | (with_reducible refine id_touch ?_) | intro _ _ | intro _ | dsimp only | split)

theorem execRead_touch {slot : Nat} {s : State} {t_ : State} (h_ : execRead slot s = .next t_) : Touch 74710016 s t_ := by
  have hm_ : Nat.land 74710016 74710016 = 74710016 := by decide
  have ht_ := Touch.refl 74710016 s
  unfold execRead at h_
  repeat' (first | (obtain rfl := next_inj h_; clear h_) | (obtain rfl := bounded_next h_; clear h_) | dsimp only at h_ | split at h_)
  all_goals try dsimp only
  repeat' (first | with_reducible assumption | (exact sub_trans (by decide) hm_) | (with_reducible refine State.settle_touch ?_ ?_ ) | (with_reducible refine State.stageFive_touch ?_ ?_ ) | (with_reducible refine State.when_touch ?_ ?_) | (with_reducible refine ite_touch ?_ ?_) | (with_reducible refine id_touch ?_) | intro _ _ | intro _ | dsimp only | split)

theorem execWrite_touch {slot : Nat} {s : State} {t_ : State} (h_ : execWrite slot s = .next t_) : Touch 74710016 s t_ := by
  have hm_ : Nat.land 74710016 74710016 = 74710016 := by decide
  have ht_ := Touch.refl 74710016 s
  unfold execWrite at h_
  repeat' (first | (obtain rfl := next_inj h_; clear h_) | (obtain rfl := bounded_next h_; clear h_) | dsimp only at h_ | split at h_)
  all_goals try dsimp only
  repeat' (first | with_reducible assumption | (exact sub_trans (by decide) hm_) | (with_reducible refine State.settle_touch ?_ ?_ ) | (with_reducible refine State.stageFive_touch ?_ ?_ ) | (with_reducible refine State.when_touch ?_ ?_) | (with_reducible refine ite_touch ?_ ?_) | (with_reducible refine id_touch ?_) | intro _ _ | intro _ | dsimp only | split)

theorem execFlush_touch {slot : Nat} {s : State} {t_ : State} (h_ : execFlush slot s = .next t_) : Touch 72559616 s t_ := by
  have hm_ : Nat.land 72559616 72559616 = 72559616 := by decide
  have ht_ := Touch.refl 72559616 s
  unfold execFlush at h_
  repeat' (first | (obtain rfl := next_inj h_; clear h_) | (obtain rfl := bounded_next h_; clear h_) | dsimp only at h_ | split at h_)
  all_goals try dsimp only
  repeat' (first | with_reducible assumption | (exact sub_trans (by decide) hm_) | (with_reducible refine State.trigger_touch ?_ ?_ ) | (with_reducible refine State.when_touch ?_ ?_) | (with_reducible refine ite_touch ?_ ?_) | (with_reducible refine id_touch ?_) | intro _ _ | intro _ | dsimp only | split)

theorem execCompare_touch {slot : Nat} {s : State} {t_ : State} (h_ : execCompare slot s = .next t_) : Touch 74710016 s t_ := by
  have hm_ : Nat.land 74710016 74710016 = 74710016 := by decide
  have ht_ := Touch.refl 74710016 s
  unfold execCompare at h_
  repeat' (first | (obtain rfl := next_inj h_; clear h_) | (obtain rfl := bounded_next h_; clear h_) | dsimp only at h_ | split at h_)
  all_goals try dsimp only
  repeat' (first | with_reducible assumption | (exact sub_trans (by decide) hm_) | (with_reducible refine State.settle_touch ?_ ?_ ) | (with_reducible refine State.stageFive_touch ?_ ?_ ) | (with_reducible refine State.when_touch ?_ ?_) | (with_reducible refine ite_touch ?_ ?_) | (with_reducible refine id_touch ?_) | intro _ _ | intro _ | dsimp only | split)

theorem execWriteZeroes_touch {slot : Nat} {s : State} {t_ : State} (h_ : execWriteZeroes slot s = .next t_) : Touch 74710016 s t_ := by
  have hm_ : Nat.land 74710016 74710016 = 74710016 := by decide
  have ht_ := Touch.refl 74710016 s
  unfold execWriteZeroes at h_
  repeat' (first | (obtain rfl := next_inj h_; clear h_) | (obtain rfl := bounded_next h_; clear h_) | dsimp only at h_ | split at h_)
  all_goals try dsimp only
  repeat' (first | with_reducible assumption | (exact sub_trans (by decide) hm_) | (with_reducible refine State.settle_touch ?_ ?_ ) | (with_reducible refine State.stageFive_touch ?_ ?_ ) | (with_reducible refine State.when_touch ?_ ?_) | (with_reducible refine ite_touch ?_ ?_) | (with_reducible refine id_touch ?_) | intro _ _ | intro _ | dsimp only | split)

theorem execDatasetManagement_touch {slot : Nat} {s : State} {t_ : State} (h_ : execDatasetManagement slot s = .next t_) : Touch 74710016 s t_ := by
  have hm_ : Nat.land 74710016 74710016 = 74710016 := by decide
  have ht_ := Touch.refl 74710016 s
  unfold execDatasetManagement at h_
  repeat' (first | (obtain rfl := next_inj h_; clear h_) | (obtain rfl := bounded_next h_; clear h_) | dsimp only at h_ | split at h_)
  all_goals try dsimp only
  repeat' (first | with_reducible assumption | (exact sub_trans (by decide) hm_) | (with_reducible refine State.settle_touch ?_ ?_ ) | (with_reducible refine State.stageFive_touch ?_ ?_ ) | (with_reducible refine State.when_touch ?_ ?_) | (with_reducible refine ite_touch ?_ ?_) | (with_reducible refine id_touch ?_) | intro _ _ | intro _ | dsimp only | split)

theorem execVerify_touch {slot : Nat} {s : State} {t_ : State} (h_ : execVerify slot s = .next t_) : Touch 74710016 s t_ := by
  have hm_ : Nat.land 74710016 74710016 = 74710016 := by decide
  have ht_ := Touch.refl 74710016 s
  unfold execVerify at h_
  repeat' (first | (obtain rfl := next_inj h_; clear h_) | (obtain rfl := bounded_next h_; clear h_) | dsimp only at h_ | split at h_)
  all_goals try dsimp only
  repeat' (first | with_reducible assumption | (exact sub_trans (by decide) hm_) | (with_reducible refine State.settle_touch ?_ ?_ ) | (with_reducible refine State.stageFive_touch ?_ ?_ ) | (with_reducible refine State.when_touch ?_ ?_) | (with_reducible refine ite_touch ?_ ?_) | (with_reducible refine id_touch ?_) | intro _ _ | intro _ | dsimp only | split)

theorem execSlotRelease_touch {slot : Nat} {s : State} {t_ : State} (h_ : execSlotRelease slot s = .next t_) : Touch 108526720 s t_ := by
  have hm_ : Nat.land 108526720 108526720 = 108526720 := by decide
  have ht_ := Touch.refl 108526720 s
  unfold execSlotRelease at h_
  repeat' (first | (obtain rfl := next_inj h_; clear h_) | (obtain rfl := bounded_next h_; clear h_) | dsimp only at h_ | split at h_)
  all_goals try dsimp only
  repeat' (first | with_reducible assumption | (exact sub_trans (by decide) hm_) | (with_reducible refine State.adoptWaiting_touch ?_ ?_ ) | (with_reducible refine State.offerSlots_touch ?_ ?_ ) | (with_reducible refine State.releaseSlot_touch ?_ ?_ ) | (with_reducible refine State.settle_touch ?_ ?_ ) | (with_reducible refine ite_touch ?_ ?_) | (with_reducible refine id_touch ?_) | intro _ _ | intro _ | dsimp only | split)

theorem execReplayRecordExpiry_touch {rec : Nat} {s : State} {t_ : State} (h_ : execReplayRecordExpiry rec s = .next t_) : Touch 71448576 s t_ := by
  have hm_ : Nat.land 71448576 71448576 = 71448576 := by decide
  have ht_ := Touch.refl 71448576 s
  unfold execReplayRecordExpiry at h_
  repeat' (first | (obtain rfl := next_inj h_; clear h_) | (obtain rfl := bounded_next h_; clear h_) | dsimp only at h_ | split at h_)
  all_goals try dsimp only
  repeat' (first | with_reducible assumption | (exact sub_trans (by decide) hm_) | (with_reducible refine State.pruneReads_touch ?_ ?_ ) | (with_reducible refine State.updCmds_touch ?_ ?_) | (with_reducible refine ite_touch ?_ ?_) | (with_reducible refine id_touch ?_) | intro _ _ | intro _ | dsimp only | split)

theorem execSaturationSample_touch {dispatchShort : Bool} {worst : Nat} {p50 : Nat} {p99 : Nat} {s : State} {t_ : State} (h_ : execSaturationSample dispatchShort worst p50 p99 s = .next t_) : Touch 69208064 s t_ := by
  have hm_ : Nat.land 69208064 69208064 = 69208064 := by decide
  have ht_ := Touch.refl 69208064 s
  unfold execSaturationSample at h_
  repeat' (first | (obtain rfl := next_inj h_; clear h_) | (obtain rfl := bounded_next h_; clear h_) | dsimp only at h_ | split at h_)
  all_goals try dsimp only
  repeat' (first | with_reducible assumption | (exact sub_trans (by decide) hm_) | (with_reducible refine State.raise_touch ?_ ?_ ) | (with_reducible refine State.updCmds_touch ?_ ?_) | (with_reducible refine ite_touch ?_ ?_) | (with_reducible refine id_touch ?_) | intro _ _ | intro _ | dsimp only | split)

theorem State.deferTry_touch {t : Nat} {e : Nat × Nat} {s : State} {m_ : Nat} {b_ : State} (hm_ : Nat.land 74710016 m_ = 74710016) (ht_ : Touch m_ b_ s) :
    Touch m_ b_ (State.deferTry t e s) := by
  unfold State.deferTry
  try dsimp only
  repeat' (first | with_reducible assumption | (exact sub_trans (by decide) hm_) | (with_reducible refine State.bump_touch ?_ ?_ ) | (with_reducible refine State.dropDeferred_touch ?_ ?_ ) | (with_reducible refine State.goOn_touch ?_ ?_ ) | (with_reducible refine State.meter_touch ?_ ?_ ) | (refine snd_touch (by with_reducible assumption) (State.meter_touch ?_ ?_ )) | (with_reducible refine State.stage_touch ?_ ?_ ) | (with_reducible refine State.updSlot_touch ?_ ?_ ) | (with_reducible refine State.updQos_touch ?_ ?_) | (with_reducible refine ite_touch ?_ ?_) | (with_reducible refine id_touch ?_) | intro _ _ | intro _ | dsimp only | split)

theorem execDeferReleaseScan_touch {s : State} {t_ : State} (h_ : execDeferReleaseScan s = .next t_) : Touch 74710016 s t_ := by
  have hm_ : Nat.land 74710016 74710016 = 74710016 := by decide
  have ht_ := Touch.refl 74710016 s
  unfold execDeferReleaseScan at h_
  repeat' (first | (obtain rfl := next_inj h_; clear h_) | (obtain rfl := bounded_next h_; clear h_) | dsimp only at h_ | split at h_)
  all_goals try dsimp only
  repeat' (first | with_reducible assumption | (exact sub_trans (by decide) hm_) | (with_reducible refine State.deferTry_touch ?_ ?_ ) | (with_reducible refine foldl_touch ?_ ?_) | (with_reducible refine foldl_snd_touch ?_ ?_) | (with_reducible refine ite_touch ?_ ?_) | (with_reducible refine id_touch ?_) | intro _ _ | intro _ | dsimp only | split)

end Sys2Proof.Machine
end

