-- ==== Sys2Proof/Laws/TouchLocalPort.lean ====
section
/-! SUPPORT. What the operations of Machine/LocalPort.lean can change: one lemma for each. -/
namespace Sys2Proof.Machine
set_option linter.all false

theorem State.lpConfigReset_touch {s : State} {m_ : Nat} {b_ : State} (hm_ : Nat.land 74910848 m_ = 74910848) (ht_ : Touch m_ b_ s) :
    Touch m_ b_ (State.lpConfigReset s) := by
  unfold State.lpConfigReset
  try dsimp only
  repeat' (first | with_reducible assumption | (exact sub_trans (by decide) hm_) | (with_reducible refine State.dropTransport_touch ?_ ?_ ) | (with_reducible refine State.lpNvmeReset_touch ?_ ?_ ) | (with_reducible refine State.updLocalPort_touch ?_ ?_) | (with_reducible refine State.updCcp_touch ?_ ?_) | (with_reducible refine ite_touch ?_ ?_) | (with_reducible refine id_touch ?_) | intro _ _ | intro _ | dsimp only | split)

theorem execLpPerstAssert_touch {s : State} {t_ : State} (h_ : execLpPerstAssert s = .next t_) : Touch 74972289 s t_ := by
  have hm_ : Nat.land 74972289 74972289 = 74972289 := by decide
  have ht_ := Touch.refl 74972289 s
  unfold execLpPerstAssert at h_
  repeat' (first | (obtain rfl := next_inj h_; clear h_) | (obtain rfl := bounded_next h_; clear h_) | dsimp only at h_ | split at h_)
  all_goals try dsimp only
  repeat' (first | with_reducible assumption | (exact sub_trans (by decide) hm_) | (with_reducible refine State.lpConfigReset_touch ?_ ?_ ) | (with_reducible refine State.stopDma_touch ?_ ?_ ) | (with_reducible refine State.updPins_touch ?_ ?_ ) | (with_reducible refine ite_touch ?_ ?_) | (with_reducible refine id_touch ?_) | intro _ _ | intro _ | dsimp only | split)

theorem execLpPerstDeassert_touch {s : State} {t_ : State} (h_ : execLpPerstDeassert s = .next t_) : Touch 68157569 s t_ := by
  have hm_ : Nat.land 68157569 68157569 = 68157569 := by decide
  have ht_ := Touch.refl 68157569 s
  unfold execLpPerstDeassert at h_
  repeat' (first | (obtain rfl := next_inj h_; clear h_) | (obtain rfl := bounded_next h_; clear h_) | dsimp only at h_ | split at h_)
  all_goals try dsimp only
  repeat' (first | with_reducible assumption | (exact sub_trans (by decide) hm_) | (with_reducible refine State.updPins_touch ?_ ?_ ) | (with_reducible refine State.wakeBy_touch ?_ ?_ ) | (with_reducible refine State.updLocalPort_touch ?_ ?_) | (with_reducible refine ite_touch ?_ ?_) | (with_reducible refine id_touch ?_) | intro _ _ | intro _ | dsimp only | split)

theorem execLpBmeClear_touch {s : State} {t_ : State} (h_ : execLpBmeClear s = .next t_) : Touch 74710016 s t_ := by
  have hm_ : Nat.land 74710016 74710016 = 74710016 := by decide
  have ht_ := Touch.refl 74710016 s
  unfold execLpBmeClear at h_
  repeat' (first | (obtain rfl := next_inj h_; clear h_) | (obtain rfl := bounded_next h_; clear h_) | dsimp only at h_ | split at h_)
  all_goals try dsimp only
  repeat' (first | with_reducible assumption | (exact sub_trans (by decide) hm_) | (with_reducible refine State.stopDma_touch ?_ ?_ ) | (with_reducible refine State.updLocalPort_touch ?_ ?_) | (with_reducible refine ite_touch ?_ ?_) | (with_reducible refine id_touch ?_) | intro _ _ | intro _ | dsimp only | split)

theorem execLpD3hotEntry_touch {s : State} {t_ : State} (h_ : execLpD3hotEntry s = .next t_) : Touch 74710016 s t_ := by
  have hm_ : Nat.land 74710016 74710016 = 74710016 := by decide
  have ht_ := Touch.refl 74710016 s
  unfold execLpD3hotEntry at h_
  repeat' (first | (obtain rfl := next_inj h_; clear h_) | (obtain rfl := bounded_next h_; clear h_) | dsimp only at h_ | split at h_)
  all_goals try dsimp only
  repeat' (first | with_reducible assumption | (exact sub_trans (by decide) hm_) | (with_reducible refine State.stopDma_touch ?_ ?_ ) | (with_reducible refine State.when_touch ?_ ?_) | (with_reducible refine State.updLocalPort_touch ?_ ?_) | (with_reducible refine ite_touch ?_ ?_) | (with_reducible refine id_touch ?_) | intro _ _ | intro _ | dsimp only | split)

theorem execLpCcEnable_touch {adminSq adminCq intMode vectors : Nat} {relaxed ltr : Bool} {maxSnoop : Nat} {s : State} {t_ : State} (h_ : execLpCcEnable adminSq adminCq intMode vectors relaxed ltr maxSnoop s = .next t_) : Touch 72813696 s t_ := by
  have hm_ : Nat.land 72813696 72813696 = 72813696 := by decide
  have ht_ := Touch.refl 72813696 s
  unfold execLpCcEnable at h_
  repeat' (first | (obtain rfl := next_inj h_; clear h_) | (obtain rfl := bounded_next h_; clear h_) | dsimp only at h_ | split at h_)
  all_goals try dsimp only
  repeat' (first | with_reducible assumption | (exact sub_trans (by decide) hm_) | (with_reducible refine State.ltrUpdate_touch ?_ ?_ ) | (with_reducible refine State.recomputePs_touch ?_ ?_ ) | (with_reducible refine State.updCmds_touch ?_ ?_) | (with_reducible refine State.updLocalPort_touch ?_ ?_) | (with_reducible refine ite_touch ?_ ?_) | (with_reducible refine id_touch ?_) | intro _ _ | intro _ | dsimp only | split)

theorem execLpCcDisable_touch {s : State} {t_ : State} (h_ : execLpCcDisable s = .next t_) : Touch 74972288 s t_ := by
  have hm_ : Nat.land 74972288 74972288 = 74972288 := by decide
  have ht_ := Touch.refl 74972288 s
  unfold execLpCcDisable at h_
  repeat' (first | (obtain rfl := next_inj h_; clear h_) | (obtain rfl := bounded_next h_; clear h_) | dsimp only at h_ | split at h_)
  all_goals try dsimp only
  repeat' (first | with_reducible assumption | (exact sub_trans (by decide) hm_) | (with_reducible refine State.endQuiet_touch ?_ ?_ ) | (with_reducible refine State.lpDrained_touch ?_ ?_ ) | (with_reducible refine State.recomputePs_touch ?_ ?_ ) | (with_reducible refine State.settle_touch ?_ ?_ ) | (with_reducible refine State.stopCmd_touch ?_ ?_ ) | (with_reducible refine State.updCmds_touch ?_ ?_) | (with_reducible refine State.updLocalPort_touch ?_ ?_) | (with_reducible refine foldl_touch ?_ ?_) | (with_reducible refine foldl_snd_touch ?_ ?_) | (with_reducible refine ite_touch ?_ ?_) | (with_reducible refine id_touch ?_) | intro _ _ | intro _ | dsimp only | split)

theorem execLpCcShutdown_touch {shn : Nat} {s : State} {t_ : State} (h_ : execLpCcShutdown shn s = .next t_) : Touch 72813696 s t_ := by
  have hm_ : Nat.land 72813696 72813696 = 72813696 := by decide
  have ht_ := Touch.refl 72813696 s
  unfold execLpCcShutdown at h_
  repeat' (first | (obtain rfl := next_inj h_; clear h_) | (obtain rfl := bounded_next h_; clear h_) | dsimp only at h_ | split at h_)
  all_goals try dsimp only
  repeat' (first | with_reducible assumption | (exact sub_trans (by decide) hm_) | (with_reducible refine State.lpDrained_touch ?_ ?_ ) | (with_reducible refine State.updLocalPort_touch ?_ ?_) | (with_reducible refine ite_touch ?_ ?_) | (with_reducible refine id_touch ?_) | intro _ _ | intro _ | dsimp only | split)

theorem execLpDoorbell_touch {qid : Nat} {isCq : Bool} {value : Nat} {s : State} {t_ : State} (h_ : execLpDoorbell qid isCq value s = .next t_) : Touch 72551424 s t_ := by
  have hm_ : Nat.land 72551424 72551424 = 72551424 := by decide
  have ht_ := Touch.refl 72551424 s
  unfold execLpDoorbell at h_
  repeat' (first | (obtain rfl := next_inj h_; clear h_) | (obtain rfl := bounded_next h_; clear h_) | dsimp only at h_ | split at h_)
  all_goals try dsimp only
  repeat' (first | with_reducible assumption | (exact sub_trans (by decide) hm_) | (with_reducible refine State.bump_touch ?_ ?_ ) | (with_reducible refine State.lpUsed_touch ?_ ?_ ) | (with_reducible refine State.notice_touch ?_ ?_ ) | (with_reducible refine State.send_touch ?_ ?_ ) | (with_reducible refine State.when_touch ?_ ?_) | (with_reducible refine State.updLocalPort_touch ?_ ?_) | (with_reducible refine ite_touch ?_ ?_) | (with_reducible refine id_touch ?_) | intro _ _ | intro _ | dsimp only | split)

theorem execLpBarBadAccess_touch {s : State} {t_ : State} (h_ : execLpBarBadAccess s = .next t_) : Touch 71303168 s t_ := by
  have hm_ : Nat.land 71303168 71303168 = 71303168 := by decide
  have ht_ := Touch.refl 71303168 s
  unfold execLpBarBadAccess at h_
  repeat' (first | (obtain rfl := next_inj h_; clear h_) | (obtain rfl := bounded_next h_; clear h_) | dsimp only at h_ | split at h_)
  all_goals try dsimp only
  repeat' (first | with_reducible assumption | (exact sub_trans (by decide) hm_) | (with_reducible refine State.bump_touch ?_ ?_ ) | (with_reducible refine State.send_touch ?_ ?_ ) | (with_reducible refine ite_touch ?_ ?_) | (with_reducible refine id_touch ?_) | intro _ _ | intro _ | dsimp only | split)

theorem execLpMboxDoorbell_touch {len : Nat} {irqEn : Bool} {vector : Nat} {s : State} {t_ : State} (h_ : execLpMboxDoorbell len irqEn vector s = .next t_) : Touch 72351744 s t_ := by
  have hm_ : Nat.land 72351744 72351744 = 72351744 := by decide
  have ht_ := Touch.refl 72351744 s
  unfold execLpMboxDoorbell at h_
  repeat' (first | (obtain rfl := next_inj h_; clear h_) | (obtain rfl := bounded_next h_; clear h_) | dsimp only at h_ | split at h_)
  all_goals try dsimp only
  repeat' (first | with_reducible assumption | (exact sub_trans (by decide) hm_) | (with_reducible refine State.bump_touch ?_ ?_ ) | (with_reducible refine State.lpUsed_touch ?_ ?_ ) | (with_reducible refine State.updLocalPort_touch ?_ ?_) | (with_reducible refine ite_touch ?_ ?_) | (with_reducible refine id_touch ?_) | intro _ _ | intro _ | dsimp only | split)

theorem execLpVectorUnmask_touch {vector : Nat} {s : State} {t_ : State} (h_ : execLpVectorUnmask vector s = .next t_) : Touch 68157440 s t_ := by
  have hm_ : Nat.land 68157440 68157440 = 68157440 := by decide
  have ht_ := Touch.refl 68157440 s
  unfold execLpVectorUnmask at h_
  repeat' (first | (obtain rfl := next_inj h_; clear h_) | (obtain rfl := bounded_next h_; clear h_) | dsimp only at h_ | split at h_)
  all_goals try dsimp only
  repeat' (first | with_reducible assumption | (exact sub_trans (by decide) hm_) | (with_reducible refine State.send_touch ?_ ?_ ) | (with_reducible refine State.updLocalPort_touch ?_ ?_) | (with_reducible refine ite_touch ?_ ?_) | (with_reducible refine id_touch ?_) | intro _ _ | intro _ | dsimp only | split)

theorem State.lpFreeze_touch {cause : Nat} {s : State} {m_ : Nat} {b_ : State} (hm_ : Nat.land 74710016 m_ = 74710016) (ht_ : Touch m_ b_ s) :
    Touch m_ b_ (State.lpFreeze cause s) := by
  unfold State.lpFreeze
  try dsimp only
  repeat' (first | with_reducible assumption | (exact sub_trans (by decide) hm_) | (with_reducible refine State.bump_touch ?_ ?_ ) | (with_reducible refine State.send_touch ?_ ?_ ) | (with_reducible refine State.stopDma_touch ?_ ?_ ) | (with_reducible refine State.updLocalPort_touch ?_ ?_) | (with_reducible refine ite_touch ?_ ?_) | (with_reducible refine id_touch ?_) | intro _ _ | intro _ | dsimp only | split)

theorem State.lpRelease_touch {s : State} {m_ : Nat} {b_ : State} (hm_ : Nat.land 72813696 m_ = 72813696) (ht_ : Touch m_ b_ s) :
    Touch m_ b_ (State.lpRelease s) := by
  unfold State.lpRelease
  try dsimp only
  repeat' (first | with_reducible assumption | (exact sub_trans (by decide) hm_) | (with_reducible refine State.lpNvmeReset_touch ?_ ?_ ) | (with_reducible refine State.updLocalPort_touch ?_ ?_) | (with_reducible refine ite_touch ?_ ?_) | (with_reducible refine id_touch ?_) | intro _ _ | intro _ | dsimp only | split)

theorem execLpUncorrError_touch {s : State} {t_ : State} (h_ : execLpUncorrError s = .next t_) : Touch 74710016 s t_ := by
  have hm_ : Nat.land 74710016 74710016 = 74710016 := by decide
  have ht_ := Touch.refl 74710016 s
  unfold execLpUncorrError at h_
  repeat' (first | (obtain rfl := next_inj h_; clear h_) | (obtain rfl := bounded_next h_; clear h_) | dsimp only at h_ | split at h_)
  all_goals try dsimp only
  repeat' (first | with_reducible assumption | (exact sub_trans (by decide) hm_) | (with_reducible refine State.lpFreeze_touch ?_ ?_ ) | (with_reducible refine ite_touch ?_ ?_) | (with_reducible refine id_touch ?_) | intro _ _ | intro _ | dsimp only | split)

theorem execLpHotReset_touch {s : State} {t_ : State} (h_ : execLpHotReset s = .next t_) : Touch 74710016 s t_ := by
  have hm_ : Nat.land 74710016 74710016 = 74710016 := by decide
  have ht_ := Touch.refl 74710016 s
  unfold execLpHotReset at h_
  repeat' (first | (obtain rfl := next_inj h_; clear h_) | (obtain rfl := bounded_next h_; clear h_) | dsimp only at h_ | split at h_)
  all_goals try dsimp only
  repeat' (first | with_reducible assumption | (exact sub_trans (by decide) hm_) | (with_reducible refine State.lpFreeze_touch ?_ ?_ ) | (with_reducible refine State.updLocalPort_touch ?_ ?_) | (with_reducible refine ite_touch ?_ ?_) | (with_reducible refine id_touch ?_) | intro _ _ | intro _ | dsimp only | split)

theorem execLpLinkDown_touch {s : State} {t_ : State} (h_ : execLpLinkDown s = .next t_) : Touch 74710016 s t_ := by
  have hm_ : Nat.land 74710016 74710016 = 74710016 := by decide
  have ht_ := Touch.refl 74710016 s
  unfold execLpLinkDown at h_
  repeat' (first | (obtain rfl := next_inj h_; clear h_) | (obtain rfl := bounded_next h_; clear h_) | dsimp only at h_ | split at h_)
  all_goals try dsimp only
  repeat' (first | with_reducible assumption | (exact sub_trans (by decide) hm_) | (with_reducible refine State.lpFreeze_touch ?_ ?_ ) | (with_reducible refine State.updLocalPort_touch ?_ ?_) | (with_reducible refine ite_touch ?_ ?_) | (with_reducible refine id_touch ?_) | intro _ _ | intro _ | dsimp only | split)

theorem execLpAutoRelease_touch {s : State} {t_ : State} (h_ : execLpAutoRelease s = .next t_) : Touch 72813696 s t_ := by
  have hm_ : Nat.land 72813696 72813696 = 72813696 := by decide
  have ht_ := Touch.refl 72813696 s
  unfold execLpAutoRelease at h_
  repeat' (first | (obtain rfl := next_inj h_; clear h_) | (obtain rfl := bounded_next h_; clear h_) | dsimp only at h_ | split at h_)
  all_goals try dsimp only
  repeat' (first | with_reducible assumption | (exact sub_trans (by decide) hm_) | (with_reducible refine State.lpRelease_touch ?_ ?_ ) | (with_reducible refine ite_touch ?_ ?_) | (with_reducible refine id_touch ?_) | intro _ _ | intro _ | dsimp only | split)

theorem execLpIdleTimer_touch {s : State} {t_ : State} (h_ : execLpIdleTimer s = .next t_) : Touch 72351744 s t_ := by
  have hm_ : Nat.land 72351744 72351744 = 72351744 := by decide
  have ht_ := Touch.refl 72351744 s
  unfold execLpIdleTimer at h_
  repeat' (first | (obtain rfl := next_inj h_; clear h_) | (obtain rfl := bounded_next h_; clear h_) | dsimp only at h_ | split at h_)
  all_goals try dsimp only
  repeat' (first | with_reducible assumption | (exact sub_trans (by decide) hm_) | (with_reducible refine State.ltrUpdate_touch ?_ ?_ ) | (with_reducible refine State.updLocalPort_touch ?_ ?_) | (with_reducible refine ite_touch ?_ ?_) | (with_reducible refine id_touch ?_) | intro _ _ | intro _ | dsimp only | split)

theorem execLpLtrHoldEnd_touch {s : State} {t_ : State} (h_ : execLpLtrHoldEnd s = .next t_) : Touch 72351744 s t_ := by
  have hm_ : Nat.land 72351744 72351744 = 72351744 := by decide
  have ht_ := Touch.refl 72351744 s
  unfold execLpLtrHoldEnd at h_
  repeat' (first | (obtain rfl := next_inj h_; clear h_) | (obtain rfl := bounded_next h_; clear h_) | dsimp only at h_ | split at h_)
  all_goals try dsimp only
  repeat' (first | with_reducible assumption | (exact sub_trans (by decide) hm_) | (with_reducible refine State.ltrSend_touch ?_ ?_ ) | (with_reducible refine State.updLocalPort_touch ?_ ?_) | (with_reducible refine ite_touch ?_ ?_) | (with_reducible refine id_touch ?_) | intro _ _ | intro _ | dsimp only | split)

theorem execLocalLinkUp_touch {speed width : Nat} {s : State} {t_ : State} (h_ : execLocalLinkUp speed width s = .next t_) : Touch 1048576 s t_ := by
  have hm_ : Nat.land 1048576 1048576 = 1048576 := by decide
  have ht_ := Touch.refl 1048576 s
  unfold execLocalLinkUp at h_
  repeat' (first | (obtain rfl := next_inj h_; clear h_) | (obtain rfl := bounded_next h_; clear h_) | dsimp only at h_ | split at h_)
  all_goals try dsimp only
  repeat' (first | with_reducible assumption | (exact sub_trans (by decide) hm_) | (with_reducible refine State.updLocalPort_touch ?_ ?_) | (with_reducible refine ite_touch ?_ ?_) | (with_reducible refine id_touch ?_) | intro _ _ | intro _ | dsimp only | split)

theorem State.lpDataIn_touch {slot : Nat} {bytes : Bytes} {s : State} {m_ : Nat} {b_ : State} (hm_ : Nat.land 5310464 m_ = 5310464) (ht_ : Touch m_ b_ s) :
    Touch m_ b_ (State.lpDataIn slot bytes s) := by
  unfold State.lpDataIn
  try dsimp only
  repeat' (first | with_reducible assumption | (exact sub_trans (by decide) hm_) | (with_reducible refine State.police_touch ?_ ?_ ) | (with_reducible refine State.updSlot_touch ?_ ?_ ) | (with_reducible refine State.updLocalPort_touch ?_ ?_) | (with_reducible refine ite_touch ?_ ?_) | (with_reducible refine id_touch ?_) | intro _ _ | intro _ | dsimp only | split)

theorem execHostMemoryReadCompletion_touch {qid : Nat} {cmds : List HostCmd} {slot : Nat} {bytes : Bytes} {s : State} {t_ : State} (h_ : execHostMemoryReadCompletion qid cmds slot bytes s = .next t_) : Touch 108526720 s t_ := by
  have hm_ : Nat.land 108526720 108526720 = 108526720 := by decide
  have ht_ := Touch.refl 108526720 s
  unfold execHostMemoryReadCompletion at h_
  repeat' (first | (obtain rfl := next_inj h_; clear h_) | (obtain rfl := bounded_next h_; clear h_) | dsimp only at h_ | split at h_)
  all_goals try dsimp only
  repeat' (first | with_reducible assumption | (exact sub_trans (by decide) hm_) | (with_reducible refine State.bump_touch ?_ ?_ ) | (with_reducible refine State.capsuleIn_touch ?_ ?_ ) | (with_reducible refine State.lpDataIn_touch ?_ ?_ ) | (with_reducible refine State.settle_touch ?_ ?_ ) | (with_reducible refine State.updLocalPort_touch ?_ ?_) | (with_reducible refine foldl_touch ?_ ?_) | (with_reducible refine foldl_snd_touch ?_ ?_) | (with_reducible refine ite_touch ?_ ?_) | (with_reducible refine id_touch ?_) | intro _ _ | intro _ | dsimp only | split)

end Sys2Proof.Machine
end

