-- ==== Sys2Proof/Laws/TouchSlotPower.lean ====
section
/-! SUPPORT. What the operations of Machine/SlotPower.lean can change: one lemma for each. -/
namespace Sys2Proof.Machine
set_option linter.all false

theorem State.startSlot_touch {slot : Nat} {s : State} {m_ : Nat} {b_ : State} (hm_ : Nat.land 2 m_ = 2) (ht_ : Touch m_ b_ s) :
    Touch m_ b_ (State.startSlot slot s) := by
  unfold State.startSlot
  try dsimp only
  repeat' (first | with_reducible assumption | (exact sub_trans (by decide) hm_) | (with_reducible refine State.updSlotPwr_touch ?_ ?_ ) | (with_reducible refine ite_touch ?_ ?_) | (with_reducible refine id_touch ?_) | intro _ _ | intro _ | dsimp only | split)

theorem State.tryStart_touch {slot : Nat} {s : State} {m_ : Nat} {b_ : State} (hm_ : Nat.land 73400322 m_ = 73400322) (ht_ : Touch m_ b_ s) :
    Touch m_ b_ (State.tryStart slot s) := by
  unfold State.tryStart
  try dsimp only
  repeat' (first | with_reducible assumption | (exact sub_trans (by decide) hm_) | (with_reducible refine State.bump_touch ?_ ?_ ) | (with_reducible refine State.raise_touch ?_ ?_ ) | (with_reducible refine State.startSlot_touch ?_ ?_ ) | (with_reducible refine State.updSlotPwr_touch ?_ ?_ ) | (with_reducible refine ite_touch ?_ ?_) | (with_reducible refine id_touch ?_) | intro _ _ | intro _ | dsimp only | split)

theorem State.slotFault_touch {slot code : Nat} {counter : Nat × Nat} {s : State} {m_ : Nat} {b_ : State} (hm_ : Nat.land 73408515 m_ = 73408515) (ht_ : Touch m_ b_ s) :
    Touch m_ b_ (State.slotFault slot code counter s) := by
  unfold State.slotFault
  try dsimp only
  repeat' (first | with_reducible assumption | (exact sub_trans (by decide) hm_) | (with_reducible refine State.bump_touch ?_ ?_ ) | (with_reducible refine State.recomputeLimit_touch ?_ ?_ ) | (with_reducible refine State.updSlotPwr_touch ?_ ?_ ) | (with_reducible refine ite_touch ?_ ?_) | (with_reducible refine id_touch ?_) | intro _ _ | intro _ | dsimp only | split)

theorem execSlotPresenceAssert_touch {slot : Nat} {s : State} {t_ : State} (h_ : execSlotPresenceAssert slot s = .next t_) : Touch 2 s t_ := by
  have hm_ : Nat.land 2 2 = 2 := by decide
  have ht_ := Touch.refl 2 s
  unfold execSlotPresenceAssert at h_
  repeat' (first | (obtain rfl := next_inj h_; clear h_) | (obtain rfl := bounded_next h_; clear h_) | dsimp only at h_ | split at h_)
  all_goals try dsimp only
  repeat' (first | with_reducible assumption | (exact sub_trans (by decide) hm_) | (with_reducible refine State.updSlotPwr_touch ?_ ?_ ) | (with_reducible refine ite_touch ?_ ?_) | (with_reducible refine id_touch ?_) | intro _ _ | intro _ | dsimp only | split)

theorem execSlotSeated_touch {slot : Nat} {s : State} {t_ : State} (h_ : execSlotSeated slot s = .next t_) : Touch 73400451 s t_ := by
  have hm_ : Nat.land 73400451 73400451 = 73400451 := by decide
  have ht_ := Touch.refl 73400451 s
  unfold execSlotSeated at h_
  repeat' (first | (obtain rfl := next_inj h_; clear h_) | (obtain rfl := bounded_next h_; clear h_) | dsimp only at h_ | split at h_)
  all_goals try dsimp only
  repeat' (first | with_reducible assumption | (exact sub_trans (by decide) hm_) | (with_reducible refine State.tryStart_touch ?_ ?_ ) | (with_reducible refine State.updSlotPwr_touch ?_ ?_ ) | (with_reducible refine State.wakeBy_touch ?_ ?_ ) | (with_reducible refine State.when_touch ?_ ?_) | (with_reducible refine ite_touch ?_ ?_) | (with_reducible refine id_touch ?_) | intro _ _ | intro _ | dsimp only | split)

theorem State.portEmptied_touch {slot : Nat} {s : State} {m_ : Nat} {b_ : State} (hm_ : Nat.land 74972162 m_ = 74972162) (ht_ : Touch m_ b_ s) :
    Touch m_ b_ (State.portEmptied slot s) := by
  unfold State.portEmptied
  try dsimp only
  repeat' (first | with_reducible assumption | (exact sub_trans (by decide) hm_) | (with_reducible refine State.contain_touch ?_ ?_ ) | (with_reducible refine State.updDport_touch ?_ ?_ ) | (with_reducible refine ite_touch ?_ ?_) | (with_reducible refine id_touch ?_) | intro _ _ | intro _ | dsimp only | split)

theorem execSlotPresenceLost_touch {slot : Nat} {s : State} {t_ : State} (h_ : execSlotPresenceLost slot s = .next t_) : Touch 74972163 s t_ := by
  have hm_ : Nat.land 74972163 74972163 = 74972163 := by decide
  have ht_ := Touch.refl 74972163 s
  unfold execSlotPresenceLost at h_
  repeat' (first | (obtain rfl := next_inj h_; clear h_) | (obtain rfl := bounded_next h_; clear h_) | dsimp only at h_ | split at h_)
  all_goals try dsimp only
  repeat' (first | with_reducible assumption | (exact sub_trans (by decide) hm_) | (with_reducible refine State.bump_touch ?_ ?_ ) | (with_reducible refine State.portEmptied_touch ?_ ?_ ) | (with_reducible refine State.recomputeLimit_touch ?_ ?_ ) | (with_reducible refine State.updSlotPwr_touch ?_ ?_ ) | (with_reducible refine State.when_touch ?_ ?_) | (with_reducible refine ite_touch ?_ ?_) | (with_reducible refine id_touch ?_) | intro _ _ | intro _ | dsimp only | split)

theorem State.slotPowered_touch {slot : Nat} {s : State} {m_ : Nat} {b_ : State} (hm_ : Nat.land 73408515 m_ = 73408515) (ht_ : Touch m_ b_ s) :
    Touch m_ b_ (State.slotPowered slot s) := by
  unfold State.slotPowered
  try dsimp only
  repeat' (first | with_reducible assumption | (exact sub_trans (by decide) hm_) | (with_reducible refine State.recomputeLimit_touch ?_ ?_ ) | (with_reducible refine State.updSlotPwr_touch ?_ ?_ ) | (with_reducible refine ite_touch ?_ ?_) | (with_reducible refine id_touch ?_) | intro _ _ | intro _ | dsimp only | split)

theorem execSlotSample_touch {slot : Nat} {current : Nat} {vOut : Nat} {vBus : Nat} {limiter : Bool} {s : State} {t_ : State} (h_ : execSlotSample slot current vOut vBus limiter s = .next t_) : Touch 73408515 s t_ := by
  have hm_ : Nat.land 73408515 73408515 = 73408515 := by decide
  have ht_ := Touch.refl 73408515 s
  unfold execSlotSample at h_
  repeat' (first | (obtain rfl := next_inj h_; clear h_) | (obtain rfl := bounded_next h_; clear h_) | dsimp only at h_ | split at h_)
  all_goals try dsimp only
  repeat' (first | with_reducible assumption | (exact sub_trans (by decide) hm_) | (with_reducible refine State.slotFault_touch ?_ ?_ ) | (with_reducible refine State.slotPowered_touch ?_ ?_ ) | (with_reducible refine State.updSlotPwr_touch ?_ ?_ ) | (with_reducible refine ite_touch ?_ ?_) | (with_reducible refine id_touch ?_) | intro _ _ | intro _ | dsimp only | split)

theorem execSlotFaultTimer_touch {slot : Nat} {s : State} {t_ : State} (h_ : execSlotFaultTimer slot s = .next t_) : Touch 73408515 s t_ := by
  have hm_ : Nat.land 73408515 73408515 = 73408515 := by decide
  have ht_ := Touch.refl 73408515 s
  unfold execSlotFaultTimer at h_
  repeat' (first | (obtain rfl := next_inj h_; clear h_) | (obtain rfl := bounded_next h_; clear h_) | dsimp only at h_ | split at h_)
  all_goals try dsimp only
  repeat' (first | with_reducible assumption | (exact sub_trans (by decide) hm_) | (with_reducible refine State.slotFault_touch ?_ ?_ ) | (with_reducible refine ite_touch ?_ ?_) | (with_reducible refine id_touch ?_) | intro _ _ | intro _ | dsimp only | split)

theorem execSlotOvercurrentTimer_touch {slot : Nat} {s : State} {t_ : State} (h_ : execSlotOvercurrentTimer slot s = .next t_) : Touch 73408515 s t_ := by
  have hm_ : Nat.land 73408515 73408515 = 73408515 := by decide
  have ht_ := Touch.refl 73408515 s
  unfold execSlotOvercurrentTimer at h_
  repeat' (first | (obtain rfl := next_inj h_; clear h_) | (obtain rfl := bounded_next h_; clear h_) | dsimp only at h_ | split at h_)
  all_goals try dsimp only
  repeat' (first | with_reducible assumption | (exact sub_trans (by decide) hm_) | (with_reducible refine State.slotFault_touch ?_ ?_ ) | (with_reducible refine ite_touch ?_ ?_) | (with_reducible refine id_touch ?_) | intro _ _ | intro _ | dsimp only | split)

theorem execSlotTrip_touch {slot : Nat} {s : State} {t_ : State} (h_ : execSlotTrip slot s = .next t_) : Touch 73408515 s t_ := by
  have hm_ : Nat.land 73408515 73408515 = 73408515 := by decide
  have ht_ := Touch.refl 73408515 s
  unfold execSlotTrip at h_
  repeat' (first | (obtain rfl := next_inj h_; clear h_) | (obtain rfl := bounded_next h_; clear h_) | dsimp only at h_ | split at h_)
  all_goals try dsimp only
  repeat' (first | with_reducible assumption | (exact sub_trans (by decide) hm_) | (with_reducible refine State.slotFault_touch ?_ ?_ ) | (with_reducible refine ite_touch ?_ ?_) | (with_reducible refine id_touch ?_) | intro _ _ | intro _ | dsimp only | split)

theorem execSlotCooldownEnd_touch {slot : Nat} {s : State} {t_ : State} (h_ : execSlotCooldownEnd slot s = .next t_) : Touch 73400322 s t_ := by
  have hm_ : Nat.land 73400322 73400322 = 73400322 := by decide
  have ht_ := Touch.refl 73400322 s
  unfold execSlotCooldownEnd at h_
  repeat' (first | (obtain rfl := next_inj h_; clear h_) | (obtain rfl := bounded_next h_; clear h_) | dsimp only at h_ | split at h_)
  all_goals try dsimp only
  repeat' (first | with_reducible assumption | (exact sub_trans (by decide) hm_) | (with_reducible refine State.tryStart_touch ?_ ?_ ) | (with_reducible refine State.updSlotPwr_touch ?_ ?_ ) | (with_reducible refine ite_touch ?_ ?_) | (with_reducible refine id_touch ?_) | intro _ _ | intro _ | dsimp only | split)

theorem State.clearRetry_touch {slot : Nat} {s : State} {m_ : Nat} {b_ : State} (hm_ : Nat.land 73400322 m_ = 73400322) (ht_ : Touch m_ b_ s) :
    Touch m_ b_ (State.clearRetry slot s) := by
  unfold State.clearRetry
  try dsimp only
  repeat' (first | with_reducible assumption | (exact sub_trans (by decide) hm_) | (with_reducible refine State.tryStart_touch ?_ ?_ ) | (with_reducible refine State.updSlotPwr_touch ?_ ?_ ) | (with_reducible refine ite_touch ?_ ?_) | (with_reducible refine id_touch ?_) | intro _ _ | intro _ | dsimp only | split)

theorem execSlotEmptyClear_touch {slot : Nat} {s : State} {t_ : State} (h_ : execSlotEmptyClear slot s = .next t_) : Touch 73400322 s t_ := by
  have hm_ : Nat.land 73400322 73400322 = 73400322 := by decide
  have ht_ := Touch.refl 73400322 s
  unfold execSlotEmptyClear at h_
  repeat' (first | (obtain rfl := next_inj h_; clear h_) | (obtain rfl := bounded_next h_; clear h_) | dsimp only at h_ | split at h_)
  all_goals try dsimp only
  repeat' (first | with_reducible assumption | (exact sub_trans (by decide) hm_) | (with_reducible refine State.clearRetry_touch ?_ ?_ ) | (with_reducible refine ite_touch ?_ ?_) | (with_reducible refine id_touch ?_) | intro _ _ | intro _ | dsimp only | split)

theorem execSlotPoweredClear_touch {slot : Nat} {s : State} {t_ : State} (h_ : execSlotPoweredClear slot s = .next t_) : Touch 73400322 s t_ := by
  have hm_ : Nat.land 73400322 73400322 = 73400322 := by decide
  have ht_ := Touch.refl 73400322 s
  unfold execSlotPoweredClear at h_
  repeat' (first | (obtain rfl := next_inj h_; clear h_) | (obtain rfl := bounded_next h_; clear h_) | dsimp only at h_ | split at h_)
  all_goals try dsimp only
  repeat' (first | with_reducible assumption | (exact sub_trans (by decide) hm_) | (with_reducible refine State.clearRetry_touch ?_ ?_ ) | (with_reducible refine ite_touch ?_ ?_) | (with_reducible refine id_touch ?_) | intro _ _ | intro _ | dsimp only | split)

theorem execDrvPerstDeassert_touch {slot : Nat} {s : State} {t_ : State} (h_ : execDrvPerstDeassert slot s = .next t_) : Touch 2 s t_ := by
  have hm_ : Nat.land 2 2 = 2 := by decide
  have ht_ := Touch.refl 2 s
  unfold execDrvPerstDeassert at h_
  repeat' (first | (obtain rfl := next_inj h_; clear h_) | (obtain rfl := bounded_next h_; clear h_) | dsimp only at h_ | split at h_)
  all_goals try dsimp only
  repeat' (first | with_reducible assumption | (exact sub_trans (by decide) hm_) | (with_reducible refine State.updSlotPwr_touch ?_ ?_ ) | (with_reducible refine ite_touch ?_ ?_) | (with_reducible refine id_touch ?_) | intro _ _ | intro _ | dsimp only | split)

theorem execFollowerGateClose_touch {slot : Nat} {s : State} {t_ : State} (h_ : execFollowerGateClose slot s = .next t_) : Touch 73408515 s t_ := by
  have hm_ : Nat.land 73408515 73408515 = 73408515 := by decide
  have ht_ := Touch.refl 73408515 s
  unfold execFollowerGateClose at h_
  repeat' (first | (obtain rfl := next_inj h_; clear h_) | (obtain rfl := bounded_next h_; clear h_) | dsimp only at h_ | split at h_)
  all_goals try dsimp only
  repeat' (first | with_reducible assumption | (exact sub_trans (by decide) hm_) | (with_reducible refine State.slotPowered_touch ?_ ?_ ) | (with_reducible refine State.updSlotPwr_touch ?_ ?_ ) | (with_reducible refine ite_touch ?_ ?_) | (with_reducible refine id_touch ?_) | intro _ _ | intro _ | dsimp only | split)

theorem execCycleOffEnd_touch {slot : Nat} {s : State} {t_ : State} (h_ : execCycleOffEnd slot s = .next t_) : Touch 2 s t_ := by
  have hm_ : Nat.land 2 2 = 2 := by decide
  have ht_ := Touch.refl 2 s
  unfold execCycleOffEnd at h_
  repeat' (first | (obtain rfl := next_inj h_; clear h_) | (obtain rfl := bounded_next h_; clear h_) | dsimp only at h_ | split at h_)
  all_goals try dsimp only
  repeat' (first | with_reducible assumption | (exact sub_trans (by decide) hm_) | (with_reducible refine State.startSlot_touch ?_ ?_ ) | (with_reducible refine State.updSlotPwr_touch ?_ ?_ ) | (with_reducible refine ite_touch ?_ ?_) | (with_reducible refine id_touch ?_) | intro _ _ | intro _ | dsimp only | split)

theorem execFeedLoss_touch {feed : Nat} {volt : Nat} {s : State} {t_ : State} (h_ : execFeedLoss feed volt s = .next t_) : Touch 73629059 s t_ := by
  have hm_ : Nat.land 73629059 73629059 = 73629059 := by decide
  have ht_ := Touch.refl 73629059 s
  unfold execFeedLoss at h_
  repeat' (first | (obtain rfl := next_inj h_; clear h_) | (obtain rfl := bounded_next h_; clear h_) | dsimp only at h_ | split at h_)
  all_goals try dsimp only
  repeat' (first | with_reducible assumption | (exact sub_trans (by decide) hm_) | (with_reducible refine State.feedDown_touch ?_ ?_ ) | (with_reducible refine ite_touch ?_ ?_) | (with_reducible refine id_touch ?_) | intro _ _ | intro _ | dsimp only | split)

theorem execFeedReverseCurrent_touch {feed : Nat} {s : State} {t_ : State} (h_ : execFeedReverseCurrent feed s = .next t_) : Touch 4194306 s t_ := by
  have hm_ : Nat.land 4194306 4194306 = 4194306 := by decide
  have ht_ := Touch.refl 4194306 s
  unfold execFeedReverseCurrent at h_
  repeat' (first | (obtain rfl := next_inj h_; clear h_) | (obtain rfl := bounded_next h_; clear h_) | dsimp only at h_ | split at h_)
  all_goals try dsimp only
  repeat' (first | with_reducible assumption | (exact sub_trans (by decide) hm_) | (with_reducible refine State.bump_touch ?_ ?_ ) | (with_reducible refine State.updPower_touch ?_ ?_) | (with_reducible refine ite_touch ?_ ?_) | (with_reducible refine id_touch ?_) | intro _ _ | intro _ | dsimp only | split)

theorem execFeedGood_touch {feed : Nat} {volt : Nat} {s : State} {t_ : State} (h_ : execFeedGood feed volt s = .next t_) : Touch 69206019 s t_ := by
  have hm_ : Nat.land 69206019 69206019 = 69206019 := by decide
  have ht_ := Touch.refl 69206019 s
  unfold execFeedGood at h_
  repeat' (first | (obtain rfl := next_inj h_; clear h_) | (obtain rfl := bounded_next h_; clear h_) | dsimp only at h_ | split at h_)
  all_goals try dsimp only
  repeat' (first | with_reducible assumption | (exact sub_trans (by decide) hm_) | (with_reducible refine State.powerUpFrom4_touch ?_ ?_ ) | (with_reducible refine State.raise_touch ?_ ?_ ) | (with_reducible refine State.updDen_touch ?_ ?_) | (with_reducible refine State.updPower_touch ?_ ?_) | (with_reducible refine ite_touch ?_ ?_) | (with_reducible refine id_touch ?_) | intro _ _ | intro _ | dsimp only | split)

theorem State.updEstore_touch {f : Estore → Estore} {s : State} {m_ : Nat} {b_ : State} (hm_ : Nat.land 2 m_ = 2) (ht_ : Touch m_ b_ s) :
    Touch m_ b_ (State.updEstore f s) := by
  unfold State.updEstore
  try dsimp only
  repeat' (first | with_reducible assumption | (exact sub_trans (by decide) hm_) | (with_reducible refine State.updPower_touch ?_ ?_) | (with_reducible refine ite_touch ?_ ?_) | (with_reducible refine id_touch ?_) | intro _ _ | intro _ | dsimp only | split)

theorem State.gradeStore_touch {cause : Nat} {s : State} {m_ : Nat} {b_ : State} (hm_ : Nat.land 73408643 m_ = 73408643) (ht_ : Touch m_ b_ s) :
    Touch m_ b_ (State.gradeStore cause s) := by
  unfold State.gradeStore
  try dsimp only
  repeat' (first | with_reducible assumption | (exact sub_trans (by decide) hm_) | (with_reducible refine State.marginRecord_touch ?_ ?_ ) | (with_reducible refine State.raise_touch ?_ ?_ ) | (with_reducible refine State.recomputeLimit_touch ?_ ?_ ) | (with_reducible refine State.updEstore_touch ?_ ?_ ) | (with_reducible refine State.wakeBy_touch ?_ ?_ ) | (with_reducible refine State.when_touch ?_ ?_) | (with_reducible refine ite_touch ?_ ?_) | (with_reducible refine id_touch ?_) | intro _ _ | intro _ | dsimp only | split)

theorem State.storeTestEnds_touch {s : State} {m_ : Nat} {b_ : State} (hm_ : Nat.land 64 m_ = 64) (ht_ : Touch m_ b_ s) :
    Touch m_ b_ (State.storeTestEnds s) := by
  unfold State.storeTestEnds
  try dsimp only
  repeat' (first | with_reducible assumption | (exact sub_trans (by decide) hm_) | (with_reducible refine State.updBoot_touch ?_ ?_) | (with_reducible refine ite_touch ?_ ?_) | (with_reducible refine id_touch ?_) | intro _ _ | intro _ | dsimp only | split)

theorem execEstoreTestStart_touch {vNow : Nat} {s : State} {t_ : State} (h_ : execEstoreTestStart vNow s = .next t_) : Touch 4194306 s t_ := by
  have hm_ : Nat.land 4194306 4194306 = 4194306 := by decide
  have ht_ := Touch.refl 4194306 s
  unfold execEstoreTestStart at h_
  repeat' (first | (obtain rfl := next_inj h_; clear h_) | (obtain rfl := bounded_next h_; clear h_) | dsimp only at h_ | split at h_)
  all_goals try dsimp only
  repeat' (first | with_reducible assumption | (exact sub_trans (by decide) hm_) | (with_reducible refine State.bump_touch ?_ ?_ ) | (with_reducible refine State.updEstore_touch ?_ ?_ ) | (with_reducible refine ite_touch ?_ ?_) | (with_reducible refine id_touch ?_) | intro _ _ | intro _ | dsimp only | split)

theorem execEstoreTestMeasureEnd_touch {cMeas : Nat} {esrMeas : Nat} {s : State} {t_ : State} (h_ : execEstoreTestMeasureEnd cMeas esrMeas s = .next t_) : Touch 73408707 s t_ := by
  have hm_ : Nat.land 73408707 73408707 = 73408707 := by decide
  have ht_ := Touch.refl 73408707 s
  unfold execEstoreTestMeasureEnd at h_
  repeat' (first | (obtain rfl := next_inj h_; clear h_) | (obtain rfl := bounded_next h_; clear h_) | dsimp only at h_ | split at h_)
  all_goals try dsimp only
  repeat' (first | with_reducible assumption | (exact sub_trans (by decide) hm_) | (with_reducible refine State.gradeStore_touch ?_ ?_ ) | (with_reducible refine State.storeTestEnds_touch ?_ ?_ ) | (with_reducible refine State.updEstore_touch ?_ ?_ ) | (with_reducible refine ite_touch ?_ ?_) | (with_reducible refine id_touch ?_) | intro _ _ | intro _ | dsimp only | split)

theorem execEstoreTestTimeout_touch {s : State} {t_ : State} (h_ : execEstoreTestTimeout s = .next t_) : Touch 73408707 s t_ := by
  have hm_ : Nat.land 73408707 73408707 = 73408707 := by decide
  have ht_ := Touch.refl 73408707 s
  unfold execEstoreTestTimeout at h_
  repeat' (first | (obtain rfl := next_inj h_; clear h_) | (obtain rfl := bounded_next h_; clear h_) | dsimp only at h_ | split at h_)
  all_goals try dsimp only
  repeat' (first | with_reducible assumption | (exact sub_trans (by decide) hm_) | (with_reducible refine State.bump_touch ?_ ?_ ) | (with_reducible refine State.gradeStore_touch ?_ ?_ ) | (with_reducible refine State.storeTestEnds_touch ?_ ?_ ) | (with_reducible refine State.updEstore_touch ?_ ?_ ) | (with_reducible refine ite_touch ?_ ?_) | (with_reducible refine id_touch ?_) | intro _ _ | intro _ | dsimp only | split)

theorem execEstoreChargeTimeout_touch {s : State} {t_ : State} (h_ : execEstoreChargeTimeout s = .next t_) : Touch 73408707 s t_ := by
  have hm_ : Nat.land 73408707 73408707 = 73408707 := by decide
  have ht_ := Touch.refl 73408707 s
  unfold execEstoreChargeTimeout at h_
  repeat' (first | (obtain rfl := next_inj h_; clear h_) | (obtain rfl := bounded_next h_; clear h_) | dsimp only at h_ | split at h_)
  all_goals try dsimp only
  repeat' (first | with_reducible assumption | (exact sub_trans (by decide) hm_) | (with_reducible refine State.gradeStore_touch ?_ ?_ ) | (with_reducible refine State.storeTestEnds_touch ?_ ?_ ) | (with_reducible refine State.updEstore_touch ?_ ?_ ) | (with_reducible refine ite_touch ?_ ?_) | (with_reducible refine id_touch ?_) | intro _ _ | intro _ | dsimp only | split)

theorem execEstoreOverCeiling_touch {vNow : Nat} {s : State} {t_ : State} (h_ : execEstoreOverCeiling vNow s = .next t_) : Touch 4194306 s t_ := by
  have hm_ : Nat.land 4194306 4194306 = 4194306 := by decide
  have ht_ := Touch.refl 4194306 s
  unfold execEstoreOverCeiling at h_
  repeat' (first | (obtain rfl := next_inj h_; clear h_) | (obtain rfl := bounded_next h_; clear h_) | dsimp only at h_ | split at h_)
  all_goals try dsimp only
  repeat' (first | with_reducible assumption | (exact sub_trans (by decide) hm_) | (with_reducible refine State.bump_touch ?_ ?_ ) | (with_reducible refine State.updEstore_touch ?_ ?_ ) | (with_reducible refine State.when_touch ?_ ?_) | (with_reducible refine ite_touch ?_ ?_) | (with_reducible refine id_touch ?_) | intro _ _ | intro _ | dsimp only | split)

theorem State.shedExtents_touch {s : State} {m_ : Nat} {b_ : State} (hm_ : Nat.land 67244032 m_ = 67244032) (ht_ : Touch m_ b_ s) :
    Touch m_ b_ (State.shedExtents s) := by
  unfold State.shedExtents
  try dsimp only
  repeat' (first | with_reducible assumption | (exact sub_trans (by decide) hm_) | (with_reducible refine State.startMove_touch ?_ ?_ ) | (with_reducible refine ite_touch ?_ ?_) | (with_reducible refine id_touch ?_) | intro _ _ | intro _ | dsimp only | split)

theorem execLarderLimitRecompute_touch {vNow : Nat} {rate : List Nat} {s : State} {t_ : State} (h_ : execLarderLimitRecompute vNow rate s = .next t_) : Touch 74710019 s t_ := by
  have hm_ : Nat.land 74710019 74710019 = 74710019 := by decide
  have ht_ := Touch.refl 74710019 s
  unfold execLarderLimitRecompute at h_
  repeat' (first | (obtain rfl := next_inj h_; clear h_) | (obtain rfl := bounded_next h_; clear h_) | dsimp only at h_ | split at h_)
  all_goals try dsimp only
  repeat' (first | with_reducible assumption | (exact sub_trans (by decide) hm_) | (with_reducible refine State.recomputeLimit_touch ?_ ?_ ) | (with_reducible refine State.settle_touch ?_ ?_ ) | (with_reducible refine State.shedExtents_touch ?_ ?_ ) | (with_reducible refine State.updEstore_touch ?_ ?_ ) | (with_reducible refine ite_touch ?_ ?_) | (with_reducible refine id_touch ?_) | intro _ _ | intro _ | dsimp only | split)

theorem execPartnerNcoverPoll_touch {ncover : Nat} {s : State} {t_ : State} (h_ : execPartnerNcoverPoll ncover s = .next t_) : Touch 74710019 s t_ := by
  have hm_ : Nat.land 74710019 74710019 = 74710019 := by decide
  have ht_ := Touch.refl 74710019 s
  unfold execPartnerNcoverPoll at h_
  repeat' (first | (obtain rfl := next_inj h_; clear h_) | (obtain rfl := bounded_next h_; clear h_) | dsimp only at h_ | split at h_)
  all_goals try dsimp only
  repeat' (first | with_reducible assumption | (exact sub_trans (by decide) hm_) | (with_reducible refine State.recomputeLimit_touch ?_ ?_ ) | (with_reducible refine State.settle_touch ?_ ?_ ) | (with_reducible refine State.updEstore_touch ?_ ?_ ) | (with_reducible refine ite_touch ?_ ?_) | (with_reducible refine id_touch ?_) | intro _ _ | intro _ | dsimp only | split)

theorem State.marginEvent_touch {kind n : Nat} {s : State} {m_ : Nat} {b_ : State} (hm_ : Nat.land 69206016 m_ = 69206016) (ht_ : Touch m_ b_ s) :
    Touch m_ b_ (State.marginEvent kind n s) := by
  unfold State.marginEvent
  try dsimp only
  repeat' (first | with_reducible assumption | (exact sub_trans (by decide) hm_) | (with_reducible refine State.raise_touch ?_ ?_ ) | (with_reducible refine ite_touch ?_ ?_) | (with_reducible refine id_touch ?_) | intro _ _ | intro _ | dsimp only | split)

theorem State.lowerCeiling_touch {p : Nat} {s : State} {m_ : Nat} {b_ : State} (hm_ : Nat.land 73990657 m_ = 73990657) (ht_ : Touch m_ b_ s) :
    Touch m_ b_ (State.lowerCeiling p s) := by
  unfold State.lowerCeiling
  try dsimp only
  repeat' (first | with_reducible assumption | (exact sub_trans (by decide) hm_) | (with_reducible refine State.beginStep_touch ?_ ?_ ) | (with_reducible refine State.marginEvent_touch ?_ ?_ ) | (with_reducible refine State.marginRecord_touch ?_ ?_ ) | (with_reducible refine State.updMargins_touch ?_ ?_) | (with_reducible refine ite_touch ?_ ?_) | (with_reducible refine id_touch ?_) | intro _ _ | intro _ | dsimp only | split)

theorem State.raiseCeiling_touch {p : Nat} {s : State} {m_ : Nat} {b_ : State} (hm_ : Nat.land 73924609 m_ = 73924609) (ht_ : Touch m_ b_ s) :
    Touch m_ b_ (State.raiseCeiling p s) := by
  unfold State.raiseCeiling
  try dsimp only
  repeat' (first | with_reducible assumption | (exact sub_trans (by decide) hm_) | (with_reducible refine State.marginRecord_touch ?_ ?_ ) | (with_reducible refine State.updMargins_touch ?_ ?_) | (with_reducible refine ite_touch ?_ ?_) | (with_reducible refine id_touch ?_) | intro _ _ | intro _ | dsimp only | split)

theorem State.clearHeld_touch {s : State} {m_ : Nat} {b_ : State} (hm_ : Nat.land 73924609 m_ = 73924609) (ht_ : Touch m_ b_ s) :
    Touch m_ b_ (State.clearHeld s) := by
  unfold State.clearHeld
  try dsimp only
  repeat' (first | with_reducible assumption | (exact sub_trans (by decide) hm_) | (with_reducible refine State.marginRecord_touch ?_ ?_ ) | (with_reducible refine State.updMargins_touch ?_ ?_) | (with_reducible refine foldl_touch ?_ ?_) | (with_reducible refine foldl_snd_touch ?_ ?_) | (with_reducible refine ite_touch ?_ ?_) | (with_reducible refine id_touch ?_) | intro _ _ | intro _ | dsimp only | split)

theorem execEyeSample_touch {heights : List (Nat × Nat)} {s : State} {t_ : State} (h_ : execEyeSample heights s = .next t_) : Touch 73990657 s t_ := by
  have hm_ : Nat.land 73990657 73990657 = 73990657 := by decide
  have ht_ := Touch.refl 73990657 s
  unfold execEyeSample at h_
  repeat' (first | (obtain rfl := next_inj h_; clear h_) | (obtain rfl := bounded_next h_; clear h_) | dsimp only at h_ | split at h_)
  all_goals try dsimp only
  repeat' (first | with_reducible assumption | (exact sub_trans (by decide) hm_) | (with_reducible refine State.lowerCeiling_touch ?_ ?_ ) | (with_reducible refine State.marginEvent_touch ?_ ?_ ) | (with_reducible refine State.raiseCeiling_touch ?_ ?_ ) | (with_reducible refine State.updMargins_touch ?_ ?_) | (with_reducible refine foldl_touch ?_ ?_) | (with_reducible refine foldl_snd_touch ?_ ?_) | (with_reducible refine ite_touch ?_ ?_) | (with_reducible refine id_touch ?_) | intro _ _ | intro _ | dsimp only | split)

theorem execHbmCeSample_touch {counts : List Nat} {s : State} {t_ : State} (h_ : execHbmCeSample counts s = .next t_) : Touch 73924641 s t_ := by
  have hm_ : Nat.land 73924641 73924641 = 73924641 := by decide
  have ht_ := Touch.refl 73924641 s
  unfold execHbmCeSample at h_
  repeat' (first | (obtain rfl := next_inj h_; clear h_) | (obtain rfl := bounded_next h_; clear h_) | dsimp only at h_ | split at h_)
  all_goals try dsimp only
  repeat' (first | with_reducible assumption | (exact sub_trans (by decide) hm_) | (with_reducible refine State.marginEvent_touch ?_ ?_ ) | (with_reducible refine State.marginRecord_touch ?_ ?_ ) | (with_reducible refine State.updElec_touch ?_ ?_) | (with_reducible refine State.updMargins_touch ?_ ?_) | (with_reducible refine ite_touch ?_ ?_) | (with_reducible refine id_touch ?_) | intro _ _ | intro _ | dsimp only | split)

theorem State.riskRecords_touch {pool cause : Nat} {old s : State} {m_ : Nat} {b_ : State} (hm_ : Nat.land 73400321 m_ = 73400321) (ht_ : Touch m_ b_ s) :
    Touch m_ b_ (State.riskRecords pool cause old s) := by
  unfold State.riskRecords
  try dsimp only
  repeat' (first | with_reducible assumption | (exact sub_trans (by decide) hm_) | (with_reducible refine State.marginEvent_touch ?_ ?_ ) | (with_reducible refine State.marginRecord_touch ?_ ?_ ) | (with_reducible refine ite_touch ?_ ?_) | (with_reducible refine id_touch ?_) | intro _ _ | intro _ | dsimp only | split)

theorem execDriveRiskSample_touch {latency : List (Nat × Nat)} {s : State} {t_ : State} (h_ : execDriveRiskSample latency s = .next t_) : Touch 73924609 s t_ := by
  have hm_ : Nat.land 73924609 73924609 = 73924609 := by decide
  have ht_ := Touch.refl 73924609 s
  unfold execDriveRiskSample at h_
  repeat' (first | (obtain rfl := next_inj h_; clear h_) | (obtain rfl := bounded_next h_; clear h_) | dsimp only at h_ | split at h_)
  all_goals try dsimp only
  repeat' (first | with_reducible assumption | (exact sub_trans (by decide) hm_) | (with_reducible refine State.riskRecords_touch ?_ ?_ ) | (with_reducible refine State.updMargins_touch ?_ ?_) | (with_reducible refine foldl_touch ?_ ?_) | (with_reducible refine foldl_snd_touch ?_ ?_) | (with_reducible refine ite_touch ?_ ?_) | (with_reducible refine id_touch ?_) | intro _ _ | intro _ | dsimp only | split)

theorem execFuseMarginCheck_touch {belowHalf : Bool} {failed : Bool} {s : State} {t_ : State} (h_ : execFuseMarginCheck belowHalf failed s = .next t_) : Touch 74710471 s t_ := by
  have hm_ : Nat.land 74710471 74710471 = 74710471 := by decide
  have ht_ := Touch.refl 74710471 s
  unfold execFuseMarginCheck at h_
  repeat' (first | (obtain rfl := next_inj h_; clear h_) | (obtain rfl := bounded_next h_; clear h_) | dsimp only at h_ | split at h_)
  all_goals try dsimp only
  repeat' (first | with_reducible assumption | (exact sub_trans (by decide) hm_) | (with_reducible refine State.enterM5_touch ?_ ?_ ) | (with_reducible refine State.marginEvent_touch ?_ ?_ ) | (with_reducible refine State.when_touch ?_ ?_) | (with_reducible refine ite_touch ?_ ?_) | (with_reducible refine id_touch ?_) | intro _ _ | intro _ | dsimp only | split)

end Sys2Proof.Machine
end

