-- ==== Sys2Proof/Laws/TouchRegisters.lean ====
section
/-! SUPPORT. What the operations of Machine/Registers.lean can change: one lemma for each. -/
namespace Sys2Proof.Machine
set_option linter.all false

theorem State.nsChanged_touch {h : Nat} {hosts : List Nat} {s : State} {m_ : Nat} {b_ : State} (hm_ : Nat.land 72551424 m_ = 72551424) (ht_ : Touch m_ b_ s) :
    Touch m_ b_ (State.nsChanged h hosts s) := by
  unfold State.nsChanged
  try dsimp only
  repeat' (first | with_reducible assumption | (exact sub_trans (by decide) hm_) | (with_reducible refine State.notice_touch ?_ ?_ ) | (with_reducible refine State.updFab_touch ?_ ?_ ) | (with_reducible refine foldl_touch ?_ ?_) | (with_reducible refine foldl_snd_touch ?_ ?_) | (with_reducible refine ite_touch ?_ ?_) | (with_reducible refine id_touch ?_) | intro _ _ | intro _ | dsimp only | split)

theorem State.setNsHosts_touch {h w v : Nat} {s : State} {m_ : Nat} {b_ : State} (hm_ : Nat.land 72551424 m_ = 72551424) (ht_ : Touch m_ b_ s) :
    Touch m_ b_ (State.setNsHosts h w v s) := by
  unfold State.setNsHosts
  try dsimp only
  repeat' (first | with_reducible assumption | (exact sub_trans (by decide) hm_) | (with_reducible refine State.nsChanged_touch ?_ ?_ ) | (with_reducible refine State.updCmds_touch ?_ ?_) | (with_reducible refine ite_touch ?_ ?_) | (with_reducible refine id_touch ?_) | intro _ _ | intro _ | dsimp only | split)

theorem State.setHost_touch {n : Nat} {b : Bytes} {s : State} {m_ : Nat} {b_ : State} (hm_ : Nat.land 72551424 m_ = 72551424) (ht_ : Touch m_ b_ s) :
    Touch m_ b_ (State.setHost n b s) := by
  unfold State.setHost
  try dsimp only
  repeat' (first | with_reducible assumption | (exact sub_trans (by decide) hm_) | (with_reducible refine State.setNsHosts_touch ?_ ?_ ) | (with_reducible refine State.updCmds_touch ?_ ?_) | (with_reducible refine foldl_touch ?_ ?_) | (with_reducible refine foldl_snd_touch ?_ ?_) | (with_reducible refine ite_touch ?_ ?_) | (with_reducible refine id_touch ?_) | intro _ _ | intro _ | dsimp only | split)

theorem State.cageWritten_touch {cage : Nat} {s : State} {m_ : Nat} {b_ : State} (hm_ : Nat.land 4260352 m_ = 4260352) (ht_ : Touch m_ b_ s) :
    Touch m_ b_ (State.cageWritten cage s) := by
  unfold State.cageWritten
  try dsimp only
  repeat' (first | with_reducible assumption | (exact sub_trans (by decide) hm_) | (with_reducible refine State.linkGone_touch ?_ ?_ ) | (with_reducible refine foldl_touch ?_ ?_) | (with_reducible refine foldl_snd_touch ?_ ?_) | (with_reducible refine ite_touch ?_ ?_) | (with_reducible refine id_touch ?_) | intro _ _ | intro _ | dsimp only | split)

theorem State.lagWritten_touch {g old : Nat} {s : State} {m_ : Nat} {b_ : State} (hm_ : Nat.land 66048 m_ = 66048) (ht_ : Touch m_ b_ s) :
    Touch m_ b_ (State.lagWritten g old s) := by
  unfold State.lagWritten
  try dsimp only
  repeat' (first | with_reducible assumption | (exact sub_trans (by decide) hm_) | (with_reducible refine State.rebalance_touch ?_ ?_ ) | (with_reducible refine State.updPort_touch ?_ ?_ ) | (with_reducible refine foldl_touch ?_ ?_) | (with_reducible refine foldl_snd_touch ?_ ?_) | (with_reducible refine ite_touch ?_ ?_) | (with_reducible refine id_touch ?_) | intro _ _ | intro _ | dsimp only | split)

theorem State.portSwitched_touch {slot : Nat} {on : Bool} {s : State} {m_ : Nat} {b_ : State} (hm_ : Nat.land 74972162 m_ = 74972162) (ht_ : Touch m_ b_ s) :
    Touch m_ b_ (State.portSwitched slot on s) := by
  unfold State.portSwitched
  try dsimp only
  repeat' (first | with_reducible assumption | (exact sub_trans (by decide) hm_) | (with_reducible refine State.contain_touch ?_ ?_ ) | (with_reducible refine State.updDport_touch ?_ ?_ ) | (with_reducible refine ite_touch ?_ ?_) | (with_reducible refine id_touch ?_) | intro _ _ | intro _ | dsimp only | split)

theorem State.slotWritten_touch {slot : Nat} {s : State} {m_ : Nat} {b_ : State} (hm_ : Nat.land 73408515 m_ = 73408515) (ht_ : Touch m_ b_ s) :
    Touch m_ b_ (State.slotWritten slot s) := by
  unfold State.slotWritten
  try dsimp only
  repeat' (first | with_reducible assumption | (exact sub_trans (by decide) hm_) | (with_reducible refine State.recomputeLimit_touch ?_ ?_ ) | (with_reducible refine State.updSlotPwr_touch ?_ ?_ ) | (with_reducible refine ite_touch ?_ ?_) | (with_reducible refine id_touch ?_) | intro _ _ | intro _ | dsimp only | split)

theorem State.pairSwitched_touch {s : State} {m_ : Nat} {b_ : State} (hm_ : Nat.land 69345280 m_ = 69345280) (ht_ : Touch m_ b_ s) :
    Touch m_ b_ (State.pairSwitched s) := by
  unfold State.pairSwitched
  try dsimp only
  repeat' (first | with_reducible assumption | (exact sub_trans (by decide) hm_) | (with_reducible refine State.abandonPairing_touch ?_ ?_ ) | (with_reducible refine State.startPairing_touch ?_ ?_ ) | (with_reducible refine ite_touch ?_ ?_) | (with_reducible refine id_touch ?_) | intro _ _ | intro _ | dsimp only | split)

theorem State.wordWritten_touch {id w : Nat} {s : State} {m_ : Nat} {b_ : State} (hm_ : Nat.land 83885699 m_ = 83885699) (ht_ : Touch m_ b_ s) :
    Touch m_ b_ (State.wordWritten id w s) := by
  unfold State.wordWritten
  try dsimp only
  repeat' (first | with_reducible assumption | (exact sub_trans (by decide) hm_) | (with_reducible refine State.cageWritten_touch ?_ ?_ ) | (with_reducible refine State.clearHeld_touch ?_ ?_ ) | (with_reducible refine State.fillConnMeters_touch ?_ ?_ ) | (with_reducible refine State.fillTenantMeter_touch ?_ ?_ ) | (with_reducible refine State.lagWritten_touch ?_ ?_ ) | (with_reducible refine State.ltrUpdate_touch ?_ ?_ ) | (with_reducible refine State.pairSwitched_touch ?_ ?_ ) | (with_reducible refine State.portSwitched_touch ?_ ?_ ) | (with_reducible refine State.recomputePs_touch ?_ ?_ ) | (with_reducible refine State.resetShaper_touch ?_ ?_ ) | (with_reducible refine State.reshapeBegin_touch ?_ ?_ ) | (with_reducible refine State.reshapeSetPause_touch ?_ ?_ ) | (with_reducible refine State.setWord_touch ?_ ?_ ) | (with_reducible refine State.slotWritten_touch ?_ ?_ ) | (with_reducible refine State.updPort_touch ?_ ?_ ) | (with_reducible refine ite_touch ?_ ?_) | (with_reducible refine id_touch ?_) | intro _ _ | intro _ | dsimp only | split)

theorem State.cleared_touch {id w : Nat} {s : State} {m_ : Nat} {b_ : State} (hm_ : Nat.land 1239968 m_ = 1239968) (ht_ : Touch m_ b_ s) :
    Touch m_ b_ (State.cleared id w s) := by
  unfold State.cleared
  try dsimp only
  repeat' (first | with_reducible assumption | (exact sub_trans (by decide) hm_) | (with_reducible refine State.updLag_touch ?_ ?_ ) | (with_reducible refine State.updPool_touch ?_ ?_ ) | (with_reducible refine State.when_touch ?_ ?_) | (with_reducible refine State.updElec_touch ?_ ?_) | (with_reducible refine State.updModes_touch ?_ ?_) | (with_reducible refine State.updSpine_touch ?_ ?_) | (with_reducible refine State.updCmds_touch ?_ ?_) | (with_reducible refine State.updLayout_touch ?_ ?_) | (with_reducible refine State.updCipher_touch ?_ ?_) | (with_reducible refine State.updEnclave_touch ?_ ?_) | (with_reducible refine State.updPair_touch ?_ ?_) | (with_reducible refine State.updLocalPort_touch ?_ ?_) | (with_reducible refine ite_touch ?_ ?_) | (with_reducible refine id_touch ?_) | intro _ _ | intro _ | dsimp only | split)

theorem State.cycleSlot_touch {slot : Nat} {s : State} {m_ : Nat} {b_ : State} (hm_ : Nat.land 73408515 m_ = 73408515) (ht_ : Touch m_ b_ s) :
    Touch m_ b_ (State.cycleSlot slot s) := by
  unfold State.cycleSlot
  try dsimp only
  repeat' (first | with_reducible assumption | (exact sub_trans (by decide) hm_) | (with_reducible refine State.recomputeLimit_touch ?_ ?_ ) | (with_reducible refine State.updSlotPwr_touch ?_ ?_ ) | (with_reducible refine ite_touch ?_ ?_) | (with_reducible refine id_touch ?_) | intro _ _ | intro _ | dsimp only | split)

theorem State.askMove_touch {handle extNo target : Nat} {s : State} {m_ : Nat} {b_ : State} (hm_ : Nat.land 67244032 m_ = 67244032) (ht_ : Touch m_ b_ s) :
    Touch m_ b_ (State.askMove handle extNo target s) := by
  unfold State.askMove
  try dsimp only
  repeat' (first | with_reducible assumption | (exact sub_trans (by decide) hm_) | (with_reducible refine State.settSend_touch ?_ ?_ ) | (with_reducible refine State.startMove_touch ?_ ?_ ) | (with_reducible refine State.updCons_touch ?_ ?_) | (with_reducible refine ite_touch ?_ ?_) | (with_reducible refine id_touch ?_) | intro _ _ | intro _ | dsimp only | split)

theorem State.controlled_touch {id w : Nat} {s : State} {m_ : Nat} {b_ : State} (hm_ : Nat.land 74972355 m_ = 74972355) (ht_ : Touch m_ b_ s) :
    Touch m_ b_ (State.controlled id w s) := by
  unfold State.controlled
  try dsimp only
  repeat' (first | with_reducible assumption | (exact sub_trans (by decide) hm_) | (with_reducible refine State.askMove_touch ?_ ?_ ) | (with_reducible refine State.clearRetry_touch ?_ ?_ ) | (with_reducible refine State.contain_touch ?_ ?_ ) | (with_reducible refine State.cycleSlot_touch ?_ ?_ ) | (with_reducible refine State.lpFreeze_touch ?_ ?_ ) | (with_reducible refine State.lpRelease_touch ?_ ?_ ) | (with_reducible refine State.startRelease_touch ?_ ?_ ) | (with_reducible refine State.when_touch ?_ ?_) | (with_reducible refine State.updBoot_touch ?_ ?_) | (with_reducible refine ite_touch ?_ ?_) | (with_reducible refine id_touch ?_) | intro _ _ | intro _ | dsimp only | split)

theorem State.cvuWritten_touch {n w : Nat} {s : State} {m_ : Nat} {b_ : State} (hm_ : Nat.land 2097152 m_ = 2097152) (ht_ : Touch m_ b_ s) :
    Touch m_ b_ (State.cvuWritten n w s) := by
  unfold State.cvuWritten
  try dsimp only
  repeat' (first | with_reducible assumption | (exact sub_trans (by decide) hm_) | (with_reducible refine State.updCcp_touch ?_ ?_) | (with_reducible refine ite_touch ?_ ?_) | (with_reducible refine id_touch ?_) | intro _ _ | intro _ | dsimp only | split)

theorem State.bwWritten_touch {n us : Nat} {s : State} {m_ : Nat} {b_ : State} (hm_ : Nat.land 4194304 m_ = 4194304) (ht_ : Touch m_ b_ s) :
    Touch m_ b_ (State.bwWritten n us s) := by
  unfold State.bwWritten
  try dsimp only
  repeat' (first | with_reducible assumption | (exact sub_trans (by decide) hm_) | (with_reducible refine State.updTelem_touch ?_ ?_) | (with_reducible refine ite_touch ?_ ?_) | (with_reducible refine id_touch ?_) | intro _ _ | intro _ | dsimp only | split)

theorem State.recordWritten_touch {id off : Nat} {b : Bytes} {s : State} {m_ : Nat} {b_ : State} (hm_ : Nat.land 91434627 m_ = 91434627) (ht_ : Touch m_ b_ s) :
    Touch m_ b_ (State.recordWritten id off b s) := by
  unfold State.recordWritten
  try dsimp only
  repeat' (first | with_reducible assumption | (exact sub_trans (by decide) hm_) | (with_reducible refine State.gradeStore_touch ?_ ?_ ) | (with_reducible refine State.groupTables_touch ?_ ?_ ) | (with_reducible refine State.setHost_touch ?_ ?_ ) | (with_reducible refine State.setNsHosts_touch ?_ ?_ ) | (with_reducible refine State.updNet_touch ?_ ?_) | (with_reducible refine State.updCmds_touch ?_ ?_) | (with_reducible refine State.updBlobs_touch ?_ ?_) | (with_reducible refine foldl_touch ?_ ?_) | (with_reducible refine foldl_snd_touch ?_ ?_) | (with_reducible refine ite_touch ?_ ?_) | (with_reducible refine id_touch ?_) | intro _ _ | intro _ | dsimp only | split)

theorem State.writeApply_touch {id off : Nat} {b : Bytes} {s : State} {m_ : Nat} {b_ : State} (hm_ : Nat.land 100663267 m_ = 100663267) (ht_ : Touch m_ b_ s) :
    Touch m_ b_ (State.writeApply id off b s) := by
  unfold State.writeApply
  try dsimp only
  repeat' (first | with_reducible assumption | (exact sub_trans (by decide) hm_) | (with_reducible refine State.bwWritten_touch ?_ ?_ ) | (with_reducible refine State.cleared_touch ?_ ?_ ) | (with_reducible refine State.controlled_touch ?_ ?_ ) | (with_reducible refine State.cvuWritten_touch ?_ ?_ ) | (with_reducible refine State.recordWritten_touch ?_ ?_ ) | (with_reducible refine State.when_touch ?_ ?_) | (with_reducible refine State.wordWritten_touch ?_ ?_ ) | (with_reducible refine State.updBoot_touch ?_ ?_) | (with_reducible refine State.updCcp_touch ?_ ?_) | (with_reducible refine ite_touch ?_ ?_) | (with_reducible refine id_touch ?_) | intro _ _ | intro _ | dsimp only | split)

theorem State.objWrite_touch {h : CcpHdr} {id off : Nat} {b : Bytes} {s : State} {m_ : Nat} {b_ : State} (hm_ : Nat.land 100663267 m_ = 100663267) (ht_ : Touch m_ b_ s) :
    Touch m_ b_ (State.objWrite h id off b s) := by
  unfold State.objWrite
  try dsimp only
  repeat' (first | with_reducible assumption | (exact sub_trans (by decide) hm_) | (with_reducible refine State.ccpConflict_touch ?_ ?_ ) | (with_reducible refine State.ccpFail_touch ?_ ?_ ) | (with_reducible refine State.ccpReply_touch ?_ ?_ ) | (with_reducible refine State.sharedDone_touch ?_ ?_ ) | (with_reducible refine State.writeApply_touch ?_ ?_ ) | (with_reducible refine ite_touch ?_ ?_) | (with_reducible refine id_touch ?_) | intro _ _ | intro _ | dsimp only | split)

theorem State.wordWrite_touch {h : CcpHdr} {id w : Nat} {s : State} {m_ : Nat} {b_ : State} (hm_ : Nat.land 100663267 m_ = 100663267) (ht_ : Touch m_ b_ s) :
    Touch m_ b_ (State.wordWrite h id w s) := by
  unfold State.wordWrite
  try dsimp only
  repeat' (first | with_reducible assumption | (exact sub_trans (by decide) hm_) | (with_reducible refine State.ccpSimple_touch ?_ ?_ ?_ ) | (with_reducible refine State.objWrite_touch ?_ ?_ ) | (with_reducible refine ite_touch ?_ ?_) | (with_reducible refine id_touch ?_) | intro _ _ | intro _ | dsimp only | split)

end Sys2Proof.Machine
end

