-- ==== Sys2Proof/Laws/TouchSessions.lean ====
section
/-! SUPPORT. What the operations of Machine/Sessions.lean can change: one lemma for each. -/
namespace Sys2Proof.Machine
set_option linter.all false

theorem execCcpPacketDiscard_touch {transport : Nat} {s : State} {t_ : State} (h_ : execCcpPacketDiscard transport s = .next t_) : Touch 5242880 s t_ := by
  have hm_ : Nat.land 5242880 5242880 = 5242880 := by decide
  have ht_ := Touch.refl 5242880 s
  unfold execCcpPacketDiscard at h_
  repeat' (first | (obtain rfl := next_inj h_; clear h_) | (obtain rfl := bounded_next h_; clear h_) | dsimp only at h_ | split at h_)
  all_goals try dsimp only
  repeat' (first | with_reducible assumption | (exact sub_trans (by decide) hm_) | (with_reducible refine State.bump_touch ?_ ?_ ) | (with_reducible refine State.mboxSilent_touch ?_ ?_ ) | (with_reducible refine ite_touch ?_ ?_) | (with_reducible refine id_touch ?_) | intro _ _ | intro _ | dsimp only | split)

theorem execGetInfo_touch {h : CcpHdr} {s : State} {t_ : State} (h_ : execGetInfo h s = .next t_) : Touch 74580097 s t_ := by
  have hm_ : Nat.land 74580097 74580097 = 74580097 := by decide
  have ht_ := Touch.refl 74580097 s
  unfold execGetInfo at h_
  repeat' (first | (obtain rfl := next_inj h_; clear h_) | (obtain rfl := bounded_next h_; clear h_) | dsimp only at h_ | split at h_)
  all_goals try dsimp only
  repeat' (first | with_reducible assumption | (exact sub_trans (by decide) hm_) | (with_reducible refine State.ccpReply_touch ?_ ?_ ) | (with_reducible refine State.ccpSimple_touch ?_ ?_ ?_ ) | (with_reducible refine ite_touch ?_ ?_) | (with_reducible refine id_touch ?_) | intro _ _ | intro _ | dsimp only | split)

theorem State.credentialBad_touch {h : CcpHdr} {op : Nat} {s : State} {m_ : Nat} {b_ : State} (hm_ : Nat.land 74579968 m_ = 74579968) (ht_ : Touch m_ b_ s) :
    Touch m_ b_ (State.credentialBad h op s) := by
  unfold State.credentialBad
  try dsimp only
  repeat' (first | with_reducible assumption | (exact sub_trans (by decide) hm_) | (with_reducible refine State.ccpFail_touch ?_ ?_ ) | (with_reducible refine State.updCcp_touch ?_ ?_) | (with_reducible refine ite_touch ?_ ?_) | (with_reducible refine id_touch ?_) | intro _ _ | intro _ | dsimp only | split)

theorem execSessionOpen_touch {h : CcpHdr} {role tenant nonce pubKey : Nat} {chainGood : Bool} {s : State} {t_ : State} (h_ : execSessionOpen h role tenant nonce pubKey chainGood s = .next t_) : Touch 108134529 s t_ := by
  have hm_ : Nat.land 108134529 108134529 = 108134529 := by decide
  have ht_ := Touch.refl 108134529 s
  unfold execSessionOpen at h_
  repeat' (first | (obtain rfl := next_inj h_; clear h_) | (obtain rfl := bounded_next h_; clear h_) | dsimp only at h_ | split at h_)
  all_goals try dsimp only
  repeat' (first | with_reducible assumption | (exact sub_trans (by decide) hm_) | (with_reducible refine State.ccpFail_touch ?_ ?_ ) | (with_reducible refine State.ccpReply_touch ?_ ?_ ) | (with_reducible refine State.ccpSimple_touch ?_ ?_ ?_ ) | (with_reducible refine State.credentialBad_touch ?_ ?_ ) | (with_reducible refine State.draw_touch ?_ ?_ ) | (with_reducible refine State.updCcp_touch ?_ ?_) | (with_reducible refine ite_touch ?_ ?_) | (with_reducible refine id_touch ?_) | intro _ _ | intro _ | dsimp only | split)

theorem execSessionAuth_touch {h : CcpHdr} {credGood : Bool} {s : State} {t_ : State} (h_ : execSessionAuth h credGood s = .next t_) : Touch 74580097 s t_ := by
  have hm_ : Nat.land 74580097 74580097 = 74580097 := by decide
  have ht_ := Touch.refl 74580097 s
  unfold execSessionAuth at h_
  repeat' (first | (obtain rfl := next_inj h_; clear h_) | (obtain rfl := bounded_next h_; clear h_) | dsimp only at h_ | split at h_)
  all_goals try dsimp only
  repeat' (first | with_reducible assumption | (exact sub_trans (by decide) hm_) | (with_reducible refine State.ccpFail_touch ?_ ?_ ) | (with_reducible refine State.ccpReply_touch ?_ ?_ ) | (with_reducible refine State.ccpSimple_touch ?_ ?_ ?_ ) | (with_reducible refine State.credentialBad_touch ?_ ?_ ) | (with_reducible refine State.updSession_touch ?_ ?_ ) | (with_reducible refine State.updCcp_touch ?_ ?_) | (with_reducible refine ite_touch ?_ ?_) | (with_reducible refine id_touch ?_) | intro _ _ | intro _ | dsimp only | split)

theorem execSessionAuthTimeout_touch {session : Nat} {s : State} {t_ : State} (h_ : execSessionAuthTimeout session s = .next t_) : Touch 2097152 s t_ := by
  have hm_ : Nat.land 2097152 2097152 = 2097152 := by decide
  have ht_ := Touch.refl 2097152 s
  unfold execSessionAuthTimeout at h_
  repeat' (first | (obtain rfl := next_inj h_; clear h_) | (obtain rfl := bounded_next h_; clear h_) | dsimp only at h_ | split at h_)
  all_goals try dsimp only
  repeat' (first | with_reducible assumption | (exact sub_trans (by decide) hm_) | (with_reducible refine State.dropSession_touch ?_ ?_ ) | (with_reducible refine ite_touch ?_ ?_) | (with_reducible refine id_touch ?_) | intro _ _ | intro _ | dsimp only | split)

theorem execSessionHoldoffEnd_touch {transport : Nat} {s : State} {t_ : State} (h_ : execSessionHoldoffEnd transport s = .next t_) : Touch 2097152 s t_ := by
  have hm_ : Nat.land 2097152 2097152 = 2097152 := by decide
  have ht_ := Touch.refl 2097152 s
  unfold execSessionHoldoffEnd at h_
  repeat' (first | (obtain rfl := next_inj h_; clear h_) | (obtain rfl := bounded_next h_; clear h_) | dsimp only at h_ | split at h_)
  all_goals try dsimp only
  repeat' (first | with_reducible assumption | (exact sub_trans (by decide) hm_) | (with_reducible refine State.updCcp_touch ?_ ?_) | (with_reducible refine ite_touch ?_ ?_) | (with_reducible refine id_touch ?_) | intro _ _ | intro _ | dsimp only | split)

theorem execSessionClose_touch {h : CcpHdr} {s : State} {t_ : State} (h_ : execSessionClose h s = .next t_) : Touch 74580097 s t_ := by
  have hm_ : Nat.land 74580097 74580097 = 74580097 := by decide
  have ht_ := Touch.refl 74580097 s
  unfold execSessionClose at h_
  repeat' (first | (obtain rfl := next_inj h_; clear h_) | (obtain rfl := bounded_next h_; clear h_) | dsimp only at h_ | split at h_)
  all_goals try dsimp only
  repeat' (first | with_reducible assumption | (exact sub_trans (by decide) hm_) | (with_reducible refine State.ccpReply_touch ?_ ?_ ) | (with_reducible refine State.ccpSimple_touch ?_ ?_ ?_ ) | (with_reducible refine State.dropSession_touch ?_ ?_ ) | (with_reducible refine ite_touch ?_ ?_) | (with_reducible refine id_touch ?_) | intro _ _ | intro _ | dsimp only | split)

theorem execSessionIdleExpiry_touch {session : Nat} {s : State} {t_ : State} (h_ : execSessionIdleExpiry session s = .next t_) : Touch 2097152 s t_ := by
  have hm_ : Nat.land 2097152 2097152 = 2097152 := by decide
  have ht_ := Touch.refl 2097152 s
  unfold execSessionIdleExpiry at h_
  repeat' (first | (obtain rfl := next_inj h_; clear h_) | (obtain rfl := bounded_next h_; clear h_) | dsimp only at h_ | split at h_)
  all_goals try dsimp only
  repeat' (first | with_reducible assumption | (exact sub_trans (by decide) hm_) | (with_reducible refine State.dropSession_touch ?_ ?_ ) | (with_reducible refine ite_touch ?_ ?_) | (with_reducible refine id_touch ?_) | intro _ _ | intro _ | dsimp only | split)

theorem execNop_touch {h : CcpHdr} {s : State} {t_ : State} (h_ : execNop h s = .next t_) : Touch 74580097 s t_ := by
  have hm_ : Nat.land 74580097 74580097 = 74580097 := by decide
  have ht_ := Touch.refl 74580097 s
  unfold execNop at h_
  repeat' (first | (obtain rfl := next_inj h_; clear h_) | (obtain rfl := bounded_next h_; clear h_) | dsimp only at h_ | split at h_)
  all_goals try dsimp only
  repeat' (first | with_reducible assumption | (exact sub_trans (by decide) hm_) | (with_reducible refine State.ccpReply_touch ?_ ?_ ) | (with_reducible refine State.ccpSimple_touch ?_ ?_ ?_ ) | (with_reducible refine ite_touch ?_ ?_) | (with_reducible refine id_touch ?_) | intro _ _ | intro _ | dsimp only | split)

theorem execEventSubscribe_touch {h : CcpHdr} {mask : Nat} {s : State} {t_ : State} (h_ : execEventSubscribe h mask s = .next t_) : Touch 74580097 s t_ := by
  have hm_ : Nat.land 74580097 74580097 = 74580097 := by decide
  have ht_ := Touch.refl 74580097 s
  unfold execEventSubscribe at h_
  repeat' (first | (obtain rfl := next_inj h_; clear h_) | (obtain rfl := bounded_next h_; clear h_) | dsimp only at h_ | split at h_)
  all_goals try dsimp only
  repeat' (first | with_reducible assumption | (exact sub_trans (by decide) hm_) | (with_reducible refine State.ccpFail_touch ?_ ?_ ) | (with_reducible refine State.ccpReply_touch ?_ ?_ ) | (with_reducible refine State.ccpSimple_touch ?_ ?_ ?_ ) | (with_reducible refine State.updSession_touch ?_ ?_ ) | (with_reducible refine ite_touch ?_ ?_) | (with_reducible refine id_touch ?_) | intro _ _ | intro _ | dsimp only | split)

theorem execReadLong_touch {h : CcpHdr} {offset : Nat} {s : State} {t_ : State} (h_ : execReadLong h offset s = .next t_) : Touch 74580097 s t_ := by
  have hm_ : Nat.land 74580097 74580097 = 74580097 := by decide
  have ht_ := Touch.refl 74580097 s
  unfold execReadLong at h_
  repeat' (first | (obtain rfl := next_inj h_; clear h_) | (obtain rfl := bounded_next h_; clear h_) | dsimp only at h_ | split at h_)
  all_goals try dsimp only
  repeat' (first | with_reducible assumption | (exact sub_trans (by decide) hm_) | (with_reducible refine State.ccpFail_touch ?_ ?_ ) | (with_reducible refine State.ccpReply_touch ?_ ?_ ) | (with_reducible refine State.ccpSimple_touch ?_ ?_ ?_ ) | (with_reducible refine ite_touch ?_ ?_) | (with_reducible refine id_touch ?_) | intro _ _ | intro _ | dsimp only | split)

theorem execStage_touch {h : CcpHdr} {offset : Nat} {bytes : Bytes} {s : State} {t_ : State} (h_ : execStage h offset bytes s = .next t_) : Touch 74580097 s t_ := by
  have hm_ : Nat.land 74580097 74580097 = 74580097 := by decide
  have ht_ := Touch.refl 74580097 s
  unfold execStage at h_
  repeat' (first | (obtain rfl := next_inj h_; clear h_) | (obtain rfl := bounded_next h_; clear h_) | dsimp only at h_ | split at h_)
  all_goals try dsimp only
  repeat' (first | with_reducible assumption | (exact sub_trans (by decide) hm_) | (with_reducible refine State.ccpFail_touch ?_ ?_ ) | (with_reducible refine State.ccpReply_touch ?_ ?_ ) | (with_reducible refine State.ccpSimple_touch ?_ ?_ ?_ ) | (with_reducible refine State.updSession_touch ?_ ?_ ) | (with_reducible refine foldl_touch ?_ ?_) | (with_reducible refine foldl_snd_touch ?_ ?_) | (with_reducible refine ite_touch ?_ ?_) | (with_reducible refine id_touch ?_) | intro _ _ | intro _ | dsimp only | split)

theorem execCcpRelay_touch {packet : Relay} {s : State} {t_ : State} (h_ : execCcpRelay packet s = .next t_) : Touch 108527233 s t_ := by
  have hm_ : Nat.land 108527233 108527233 = 108527233 := by decide
  have ht_ := Touch.refl 108527233 s
  unfold execCcpRelay at h_
  repeat' (first | (obtain rfl := next_inj h_; clear h_) | (obtain rfl := bounded_next h_; clear h_) | dsimp only at h_ | split at h_)
  all_goals try dsimp only
  repeat' (first | with_reducible assumption | (exact sub_trans (by decide) hm_) | (with_reducible refine State.ccpCarry_touch ?_ ?_ ) | (with_reducible refine State.packet_touch ?_ ?_ ) | (with_reducible refine State.settIn_touch ?_ ?_ ?_ ) | (with_reducible refine State.updCcp_touch ?_ ?_) | (with_reducible refine ite_touch ?_ ?_) | (with_reducible refine id_touch ?_) | intro _ _ | intro _ | dsimp only | split)

theorem execGetEvidence_touch {h : CcpHdr} {nonce : Nat} {s : State} {t_ : State} (h_ : execGetEvidence h nonce s = .next t_) : Touch 74580097 s t_ := by
  have hm_ : Nat.land 74580097 74580097 = 74580097 := by decide
  have ht_ := Touch.refl 74580097 s
  unfold execGetEvidence at h_
  repeat' (first | (obtain rfl := next_inj h_; clear h_) | (obtain rfl := bounded_next h_; clear h_) | dsimp only at h_ | split at h_)
  all_goals try dsimp only
  repeat' (first | with_reducible assumption | (exact sub_trans (by decide) hm_) | (with_reducible refine State.ccpReply_touch ?_ ?_ ) | (with_reducible refine State.ccpSimple_touch ?_ ?_ ?_ ) | (with_reducible refine ite_touch ?_ ?_) | (with_reducible refine id_touch ?_) | intro _ _ | intro _ | dsimp only | split)

theorem execGetCert_touch {h : CcpHdr} {certSlot : Nat} {s : State} {t_ : State} (h_ : execGetCert h certSlot s = .next t_) : Touch 74580097 s t_ := by
  have hm_ : Nat.land 74580097 74580097 = 74580097 := by decide
  have ht_ := Touch.refl 74580097 s
  unfold execGetCert at h_
  repeat' (first | (obtain rfl := next_inj h_; clear h_) | (obtain rfl := bounded_next h_; clear h_) | dsimp only at h_ | split at h_)
  all_goals try dsimp only
  repeat' (first | with_reducible assumption | (exact sub_trans (by decide) hm_) | (with_reducible refine State.ccpFail_touch ?_ ?_ ) | (with_reducible refine State.ccpReply_touch ?_ ?_ ) | (with_reducible refine State.ccpSimple_touch ?_ ?_ ?_ ) | (with_reducible refine ite_touch ?_ ?_) | (with_reducible refine id_touch ?_) | intro _ _ | intro _ | dsimp only | split)

theorem State.spdm_touch {src : SpdmSrc} {run : State → Nat × Bytes × State} {s : State} {m_ : Nat} {b_ : State} (hm_ : Nat.land 74580097 m_ = 74580097) (ht_ : Touch m_ b_ s) (hrun_ : ∀ t_, Touch m_ b_ t_ → Touch m_ b_ (run t_).2.2) :
    Touch m_ b_ (State.spdm src run s) := by
  unfold State.spdm
  try dsimp only
  repeat' (first | with_reducible assumption | (exact sub_trans (by decide) hm_) | (with_reducible refine State.cancelDen_touch ?_ ?_ ) | (with_reducible refine State.ccpFail_touch ?_ ?_ ) | (with_reducible refine State.ccpReply_touch ?_ ?_ ) | (with_reducible refine State.ccpSimple_touch ?_ ?_ ?_ ) | (with_reducible refine State.send_touch ?_ ?_ ) | (with_reducible refine State.wakeIdle_touch ?_ ?_ ) | (with_reducible refine ite_touch ?_ ?_) | (with_reducible refine id_touch ?_) | intro _ _ | intro _ | (refine hrun_ _ ?_) | dsimp only | split)

theorem spdmError_touch {code : Nat} {t : State} {m_ : Nat} {b_ : State} (hm_ : Nat.land 0 m_ = 0) (ht_ : Touch m_ b_ t) :
    Touch m_ b_ (spdmError code t).2.2 := by
  unfold spdmError
  try dsimp only
  repeat' (first | with_reducible assumption | (exact sub_trans (by decide) hm_) | (with_reducible refine ite_touch ?_ ?_) | (with_reducible refine id_touch ?_) | intro _ _ | intro _ | dsimp only | split)

theorem execSpdmGetVersion_touch {src : SpdmSrc} {s : State} {t_ : State} (h_ : execSpdmGetVersion src s = .next t_) : Touch 74580097 s t_ := by
  have hm_ : Nat.land 74580097 74580097 = 74580097 := by decide
  have ht_ := Touch.refl 74580097 s
  unfold execSpdmGetVersion at h_
  repeat' (first | (obtain rfl := next_inj h_; clear h_) | (obtain rfl := bounded_next h_; clear h_) | dsimp only at h_ | split at h_)
  all_goals try dsimp only
  repeat' (first | with_reducible assumption | (exact sub_trans (by decide) hm_) | (with_reducible refine State.spdm_touch ?_ ?_ ?_ ) | (with_reducible refine State.updCcp_touch ?_ ?_) | (with_reducible refine ite_touch ?_ ?_) | (with_reducible refine id_touch ?_) | intro _ _ | intro _ | dsimp only | split)

theorem execSpdmGetCapabilities_touch {src : SpdmSrc} {s : State} {t_ : State} (h_ : execSpdmGetCapabilities src s = .next t_) : Touch 74580097 s t_ := by
  have hm_ : Nat.land 74580097 74580097 = 74580097 := by decide
  have ht_ := Touch.refl 74580097 s
  unfold execSpdmGetCapabilities at h_
  repeat' (first | (obtain rfl := next_inj h_; clear h_) | (obtain rfl := bounded_next h_; clear h_) | dsimp only at h_ | split at h_)
  all_goals try dsimp only
  repeat' (first | with_reducible assumption | (exact sub_trans (by decide) hm_) | (with_reducible refine State.spdm_touch ?_ ?_ ?_ ) | (with_reducible refine spdmError_touch ?_ ?_ ) | (with_reducible refine ite_touch ?_ ?_) | (with_reducible refine id_touch ?_) | intro _ _ | intro _ | dsimp only | split)

theorem execSpdmNegotiateAlgorithms_touch {src : SpdmSrc} {sha384 : Bool} {s : State} {t_ : State} (h_ : execSpdmNegotiateAlgorithms src sha384 s = .next t_) : Touch 74580097 s t_ := by
  have hm_ : Nat.land 74580097 74580097 = 74580097 := by decide
  have ht_ := Touch.refl 74580097 s
  unfold execSpdmNegotiateAlgorithms at h_
  repeat' (first | (obtain rfl := next_inj h_; clear h_) | (obtain rfl := bounded_next h_; clear h_) | dsimp only at h_ | split at h_)
  all_goals try dsimp only
  repeat' (first | with_reducible assumption | (exact sub_trans (by decide) hm_) | (with_reducible refine State.spdm_touch ?_ ?_ ?_ ) | (with_reducible refine spdmError_touch ?_ ?_ ) | (with_reducible refine State.updCcp_touch ?_ ?_) | (with_reducible refine ite_touch ?_ ?_) | (with_reducible refine id_touch ?_) | intro _ _ | intro _ | dsimp only | split)

theorem execSpdmGetDigests_touch {src : SpdmSrc} {s : State} {t_ : State} (h_ : execSpdmGetDigests src s = .next t_) : Touch 74580097 s t_ := by
  have hm_ : Nat.land 74580097 74580097 = 74580097 := by decide
  have ht_ := Touch.refl 74580097 s
  unfold execSpdmGetDigests at h_
  repeat' (first | (obtain rfl := next_inj h_; clear h_) | (obtain rfl := bounded_next h_; clear h_) | dsimp only at h_ | split at h_)
  all_goals try dsimp only
  repeat' (first | with_reducible assumption | (exact sub_trans (by decide) hm_) | (with_reducible refine State.spdm_touch ?_ ?_ ?_ ) | (with_reducible refine spdmError_touch ?_ ?_ ) | (with_reducible refine ite_touch ?_ ?_) | (with_reducible refine id_touch ?_) | intro _ _ | intro _ | dsimp only | split)

theorem execSpdmGetCertificate_touch {src : SpdmSrc} {certSlot offset length : Nat} {s : State} {t_ : State} (h_ : execSpdmGetCertificate src certSlot offset length s = .next t_) : Touch 74580097 s t_ := by
  have hm_ : Nat.land 74580097 74580097 = 74580097 := by decide
  have ht_ := Touch.refl 74580097 s
  unfold execSpdmGetCertificate at h_
  repeat' (first | (obtain rfl := next_inj h_; clear h_) | (obtain rfl := bounded_next h_; clear h_) | dsimp only at h_ | split at h_)
  all_goals try dsimp only
  repeat' (first | with_reducible assumption | (exact sub_trans (by decide) hm_) | (with_reducible refine State.spdm_touch ?_ ?_ ?_ ) | (with_reducible refine spdmError_touch ?_ ?_ ) | (with_reducible refine ite_touch ?_ ?_) | (with_reducible refine id_touch ?_) | intro _ _ | intro _ | dsimp only | split)

theorem execSpdmChallenge_touch {src : SpdmSrc} {certSlot nonce : Nat} {s : State} {t_ : State} (h_ : execSpdmChallenge src certSlot nonce s = .next t_) : Touch 108134529 s t_ := by
  have hm_ : Nat.land 108134529 108134529 = 108134529 := by decide
  have ht_ := Touch.refl 108134529 s
  unfold execSpdmChallenge at h_
  repeat' (first | (obtain rfl := next_inj h_; clear h_) | (obtain rfl := bounded_next h_; clear h_) | dsimp only at h_ | split at h_)
  all_goals try dsimp only
  repeat' (first | with_reducible assumption | (exact sub_trans (by decide) hm_) | (with_reducible refine State.draw_touch ?_ ?_ ) | (with_reducible refine State.spdm_touch ?_ ?_ ?_ ) | (with_reducible refine spdmError_touch ?_ ?_ ) | (with_reducible refine ite_touch ?_ ?_) | (with_reducible refine id_touch ?_) | intro _ _ | intro _ | dsimp only | split)

theorem execSpdmGetMeasurements_touch {src : SpdmSrc} {index nonce : Nat} {s : State} {t_ : State} (h_ : execSpdmGetMeasurements src index nonce s = .next t_) : Touch 74580097 s t_ := by
  have hm_ : Nat.land 74580097 74580097 = 74580097 := by decide
  have ht_ := Touch.refl 74580097 s
  unfold execSpdmGetMeasurements at h_
  repeat' (first | (obtain rfl := next_inj h_; clear h_) | (obtain rfl := bounded_next h_; clear h_) | dsimp only at h_ | split at h_)
  all_goals try dsimp only
  repeat' (first | with_reducible assumption | (exact sub_trans (by decide) hm_) | (with_reducible refine State.spdm_touch ?_ ?_ ?_ ) | (with_reducible refine spdmError_touch ?_ ?_ ) | (with_reducible refine ite_touch ?_ ?_) | (with_reducible refine id_touch ?_) | intro _ _ | intro _ | dsimp only | split)

theorem State.miReply_touch {mi : NvmeMi} {status : Nat} {vals : List Nat} {s : State} {m_ : Nat} {b_ : State} (hm_ : Nat.land 67108864 m_ = 67108864) (ht_ : Touch m_ b_ s) :
    Touch m_ b_ (State.miReply mi status vals s) := by
  unfold State.miReply
  try dsimp only
  repeat' (first | with_reducible assumption | (exact sub_trans (by decide) hm_) | (with_reducible refine State.send_touch ?_ ?_ ) | (with_reducible refine ite_touch ?_ ?_) | (with_reducible refine id_touch ?_) | intro _ _ | intro _ | dsimp only | split)

theorem execNvmeMiCommand_touch {mi : NvmeMi} {s : State} {t_ : State} (h_ : execNvmeMiCommand mi s = .next t_) : Touch 69206144 s t_ := by
  have hm_ : Nat.land 69206144 69206144 = 69206144 := by decide
  have ht_ := Touch.refl 69206144 s
  unfold execNvmeMiCommand at h_
  repeat' (first | (obtain rfl := next_inj h_; clear h_) | (obtain rfl := bounded_next h_; clear h_) | dsimp only at h_ | split at h_)
  all_goals try dsimp only
  repeat' (first | with_reducible assumption | (exact sub_trans (by decide) hm_) | (with_reducible refine State.cancelDen_touch ?_ ?_ ) | (with_reducible refine State.miReply_touch ?_ ?_ ) | (with_reducible refine State.wakeIdle_touch ?_ ?_ ) | (with_reducible refine State.updCcp_touch ?_ ?_) | (with_reducible refine ite_touch ?_ ?_) | (with_reducible refine id_touch ?_) | intro _ _ | intro _ | dsimp only | split)

theorem execReadObj_touch {h : CcpHdr} {obj offset length : Nat} {s : State} {t_ : State} (h_ : execReadObj h obj offset length s = .next t_) : Touch 74580353 s t_ := by
  have hm_ : Nat.land 74580353 74580353 = 74580353 := by decide
  have ht_ := Touch.refl 74580353 s
  unfold execReadObj at h_
  repeat' (first | (obtain rfl := next_inj h_; clear h_) | (obtain rfl := bounded_next h_; clear h_) | dsimp only at h_ | split at h_)
  all_goals try dsimp only
  repeat' (first | with_reducible assumption | (exact sub_trans (by decide) hm_) | (with_reducible refine State.ccpConflict_touch ?_ ?_ ) | (with_reducible refine State.ccpFail_touch ?_ ?_ ) | (with_reducible refine State.ccpReply_touch ?_ ?_ ) | (with_reducible refine State.ccpTake_touch ?_ ?_ ?_ ) | (with_reducible refine State.updCcp_touch ?_ ?_) | (with_reducible refine ite_touch ?_ ?_) | (with_reducible refine id_touch ?_) | intro _ _ | intro _ | dsimp only | split)

theorem execWriteObj_touch {h : CcpHdr} {obj offset : Nat} {bytes : Bytes} {s : State} {t_ : State} (h_ : execWriteObj h obj offset bytes s = .next t_) : Touch 100663267 s t_ := by
  have hm_ : Nat.land 100663267 100663267 = 100663267 := by decide
  have ht_ := Touch.refl 100663267 s
  unfold execWriteObj at h_
  repeat' (first | (obtain rfl := next_inj h_; clear h_) | (obtain rfl := bounded_next h_; clear h_) | dsimp only at h_ | split at h_)
  all_goals try dsimp only
  repeat' (first | with_reducible assumption | (exact sub_trans (by decide) hm_) | (with_reducible refine State.ccpFail_touch ?_ ?_ ) | (with_reducible refine State.ccpSimple_touch ?_ ?_ ?_ ) | (with_reducible refine State.ccpUnstage_touch ?_ ?_ ) | (with_reducible refine State.objWrite_touch ?_ ?_ ) | (with_reducible refine ite_touch ?_ ?_) | (with_reducible refine id_touch ?_) | intro _ _ | intro _ | dsimp only | split)

theorem State.cvuGrant_touch {w : Owed} {unit : Nat} {s : State} {m_ : Nat} {b_ : State} (hm_ : Nat.land 74579968 m_ = 74579968) (ht_ : Touch m_ b_ s) :
    Touch m_ b_ (State.cvuGrant w unit s) := by
  unfold State.cvuGrant
  try dsimp only
  repeat' (first | with_reducible assumption | (exact sub_trans (by decide) hm_) | (with_reducible refine State.ccpReply_touch ?_ ?_ ) | (with_reducible refine State.updCcp_touch ?_ ?_) | (with_reducible refine ite_touch ?_ ?_) | (with_reducible refine id_touch ?_) | intro _ _ | intro _ | dsimp only | split)

theorem execCvuClaim_touch {h : CcpHdr} {alg : Nat} {s : State} {t_ : State} (h_ : execCvuClaim h alg s = .next t_) : Touch 74580097 s t_ := by
  have hm_ : Nat.land 74580097 74580097 = 74580097 := by decide
  have ht_ := Touch.refl 74580097 s
  unfold execCvuClaim at h_
  repeat' (first | (obtain rfl := next_inj h_; clear h_) | (obtain rfl := bounded_next h_; clear h_) | dsimp only at h_ | split at h_)
  all_goals try dsimp only
  repeat' (first | with_reducible assumption | (exact sub_trans (by decide) hm_) | (with_reducible refine State.ccpFail_touch ?_ ?_ ) | (with_reducible refine State.ccpSimple_touch ?_ ?_ ?_ ) | (with_reducible refine State.cvuGrant_touch ?_ ?_ ) | (with_reducible refine State.updCcp_touch ?_ ?_) | (with_reducible refine ite_touch ?_ ?_) | (with_reducible refine id_touch ?_) | intro _ _ | intro _ | dsimp only | split)

theorem State.cvuHeld_touch {h : CcpHdr} {op unit : Nat} {run : State → State} {s : State} {m_ : Nat} {b_ : State} (hm_ : Nat.land 74580224 m_ = 74580224) (ht_ : Touch m_ b_ s) (hrun_ : ∀ t_, Touch m_ b_ t_ → Touch m_ b_ (run t_)) :
    Touch m_ b_ (State.cvuHeld h op unit run s) := by
  unfold State.cvuHeld
  try dsimp only
  repeat' (first | with_reducible assumption | (exact sub_trans (by decide) hm_) | (with_reducible refine State.ccpConflict_touch ?_ ?_ ) | (with_reducible refine State.ccpFail_touch ?_ ?_ ) | (with_reducible refine ite_touch ?_ ?_) | (with_reducible refine id_touch ?_) | intro _ _ | intro _ | (refine hrun_ _ ?_) | dsimp only | split)

theorem execCvuFeed_touch {h : CcpHdr} {unit : Nat} {bytes : Bytes} {s : State} {t_ : State} (h_ : execCvuFeed h unit bytes s = .next t_) : Touch 74580353 s t_ := by
  have hm_ : Nat.land 74580353 74580353 = 74580353 := by decide
  have ht_ := Touch.refl 74580353 s
  unfold execCvuFeed at h_
  repeat' (first | (obtain rfl := next_inj h_; clear h_) | (obtain rfl := bounded_next h_; clear h_) | dsimp only at h_ | split at h_)
  all_goals try dsimp only
  repeat' (first | with_reducible assumption | (exact sub_trans (by decide) hm_) | (with_reducible refine State.ccpFail_touch ?_ ?_ ) | (with_reducible refine State.ccpReply_touch ?_ ?_ ) | (with_reducible refine State.ccpSimple_touch ?_ ?_ ?_ ) | (with_reducible refine State.ccpUnstage_touch ?_ ?_ ) | (with_reducible refine State.cvuHeld_touch ?_ ?_ ?_ ) | (with_reducible refine State.updCcp_touch ?_ ?_) | (with_reducible refine ite_touch ?_ ?_) | (with_reducible refine id_touch ?_) | intro _ _ | intro _ | dsimp only | split)

theorem execCvuRelease_touch {h : CcpHdr} {unit : Nat} {s : State} {t_ : State} (h_ : execCvuRelease h unit s = .next t_) : Touch 74580353 s t_ := by
  have hm_ : Nat.land 74580353 74580353 = 74580353 := by decide
  have ht_ := Touch.refl 74580353 s
  unfold execCvuRelease at h_
  repeat' (first | (obtain rfl := next_inj h_; clear h_) | (obtain rfl := bounded_next h_; clear h_) | dsimp only at h_ | split at h_)
  all_goals try dsimp only
  repeat' (first | with_reducible assumption | (exact sub_trans (by decide) hm_) | (with_reducible refine State.ccpReply_touch ?_ ?_ ) | (with_reducible refine State.ccpSimple_touch ?_ ?_ ?_ ) | (with_reducible refine State.cvuHeld_touch ?_ ?_ ?_ ) | (with_reducible refine State.updCcp_touch ?_ ?_) | (with_reducible refine ite_touch ?_ ?_) | (with_reducible refine id_touch ?_) | intro _ _ | intro _ | dsimp only | split)

theorem execCvuInit_touch {h : CcpHdr} {unit alg : Nat} {s : State} {t_ : State} (h_ : execCvuInit h unit alg s = .next t_) : Touch 100663267 s t_ := by
  have hm_ : Nat.land 100663267 100663267 = 100663267 := by decide
  have ht_ := Touch.refl 100663267 s
  unfold execCvuInit at h_
  repeat' (first | (obtain rfl := next_inj h_; clear h_) | (obtain rfl := bounded_next h_; clear h_) | dsimp only at h_ | split at h_)
  all_goals try dsimp only
  repeat' (first | with_reducible assumption | (exact sub_trans (by decide) hm_) | (with_reducible refine State.wordWrite_touch ?_ ?_ ) | (with_reducible refine ite_touch ?_ ?_) | (with_reducible refine id_touch ?_) | intro _ _ | intro _ | dsimp only | split)

end Sys2Proof.Machine
end

