-- ==== Sys2Proof/Laws/TouchMgmtOps.lean ====
section
/-! SUPPORT. What the operations of Machine/MgmtOps.lean can change: one lemma for each. -/
namespace Sys2Proof.Machine
set_option linter.all false

theorem State.sharedDo_touch {h : CcpHdr} {op code : Nat} {args : List Nat} {data : Bytes} {f : State → State} {s : State} {m_ : Nat} {b_ : State} (hm_ : Nat.land 74579968 m_ = 74579968) (ht_ : Touch m_ b_ s) (hf_ : ∀ t_, Touch m_ b_ t_ → Touch m_ b_ (f t_)) :
    Touch m_ b_ (State.sharedDo h op code args data f s) := by
  unfold State.sharedDo
  try dsimp only
  repeat' (first | with_reducible assumption | (exact sub_trans (by decide) hm_) | (with_reducible refine State.ccpFail_touch ?_ ?_ ) | (with_reducible refine State.sharedDone_touch ?_ ?_ ) | (with_reducible refine ite_touch ?_ ?_) | (with_reducible refine id_touch ?_) | intro _ _ | intro _ | (refine hf_ _ ?_) | dsimp only | split)

theorem State.localJob_touch {h : CcpHdr} {op code arg : Nat} {f : State → State} {s : State} {m_ : Nat} {b_ : State} (hm_ : Nat.land 74579968 m_ = 74579968) (ht_ : Touch m_ b_ s) (hf_ : ∀ t_, Touch m_ b_ t_ → Touch m_ b_ (f t_)) :
    Touch m_ b_ (State.localJob h op code arg f s) := by
  unfold State.localJob
  try dsimp only
  repeat' (first | with_reducible assumption | (exact sub_trans (by decide) hm_) | (with_reducible refine State.ccpFail_touch ?_ ?_ ) | (with_reducible refine State.ccpReply_touch ?_ ?_ ) | (refine State.jobStart_touch ?_ ?_ _ _ (by with_reducible assumption)) | (with_reducible refine ite_touch ?_ ?_) | (with_reducible refine id_touch ?_) | intro _ _ | intro _ | (refine hf_ _ ?_) | dsimp only | split)

theorem State.sharedJob_touch {h : CcpHdr} {op code arg : Nat} {f : State → State} {s : State} {m_ : Nat} {b_ : State} (hm_ : Nat.land 74579968 m_ = 74579968) (ht_ : Touch m_ b_ s) (hf_ : ∀ t_, Touch m_ b_ t_ → Touch m_ b_ (f t_)) :
    Touch m_ b_ (State.sharedJob h op code arg f s) := by
  unfold State.sharedJob
  try dsimp only
  repeat' (first | with_reducible assumption | (exact sub_trans (by decide) hm_) | (with_reducible refine State.ccpFail_touch ?_ ?_ ) | (refine State.jobStart_touch ?_ ?_ _ _ (by with_reducible assumption)) | (with_reducible refine State.sharedDone_touch ?_ ?_ ) | (with_reducible refine State.when_touch ?_ ?_) | (with_reducible refine ite_touch ?_ ?_) | (with_reducible refine id_touch ?_) | intro _ _ | intro _ | (refine hf_ _ ?_) | dsimp only | split)

theorem State.orderDrives_touch {slots : List Nat} {what arg : Nat} {s : State} {m_ : Nat} {b_ : State} (hm_ : Nat.land 67108864 m_ = 67108864) (ht_ : Touch m_ b_ s) :
    Touch m_ b_ (State.orderDrives slots what arg s) := by
  unfold State.orderDrives
  try dsimp only
  repeat' (first | with_reducible assumption | (exact sub_trans (by decide) hm_) | (with_reducible refine State.driveAdmin_touch ?_ ?_ ) | (with_reducible refine foldl_touch ?_ ?_) | (with_reducible refine foldl_snd_touch ?_ ?_) | (with_reducible refine ite_touch ?_ ?_) | (with_reducible refine id_touch ?_) | intro _ _ | intro _ | dsimp only | split)

theorem State.poolBegin_touch {n : Nat} {s : State} {m_ : Nat} {b_ : State} (hm_ : Nat.land 8192 m_ = 8192) (ht_ : Touch m_ b_ s) :
    Touch m_ b_ (State.poolBegin n s) := by
  unfold State.poolBegin
  try dsimp only
  repeat' (first | with_reducible assumption | (exact sub_trans (by decide) hm_) | (with_reducible refine State.updPool_touch ?_ ?_ ) | (with_reducible refine ite_touch ?_ ?_) | (with_reducible refine id_touch ?_) | intro _ _ | intro _ | dsimp only | split)

theorem State.poolCreated_touch {n : Nat} {s : State} {m_ : Nat} {b_ : State} (hm_ : Nat.land 335876 m_ = 335876) (ht_ : Touch m_ b_ s) :
    Touch m_ b_ (State.poolCreated n s) := by
  unfold State.poolCreated
  try dsimp only
  repeat' (first | with_reducible assumption | (exact sub_trans (by decide) hm_) | (with_reducible refine State.dirHeader_touch ?_ ?_ ) | (with_reducible refine State.updDport_touch ?_ ?_ ) | (with_reducible refine State.updPool_touch ?_ ?_ ) | (with_reducible refine foldl_touch ?_ ?_) | (with_reducible refine foldl_snd_touch ?_ ?_) | (with_reducible refine ite_touch ?_ ?_) | (with_reducible refine id_touch ?_) | intro _ _ | intro _ | dsimp only | split)

theorem State.poolFailed_touch {n : Nat} {s : State} {m_ : Nat} {b_ : State} (hm_ : Nat.land 8192 m_ = 8192) (ht_ : Touch m_ b_ s) :
    Touch m_ b_ (State.poolFailed n s) := by
  unfold State.poolFailed
  try dsimp only
  repeat' (first | with_reducible assumption | (exact sub_trans (by decide) hm_) | (with_reducible refine State.updPool_touch ?_ ?_ ) | (with_reducible refine ite_touch ?_ ?_) | (with_reducible refine id_touch ?_) | intro _ _ | intro _ | dsimp only | split)

theorem State.poolDeleted_touch {n : Nat} {s : State} {m_ : Nat} {b_ : State} (hm_ : Nat.land 270336 m_ = 270336) (ht_ : Touch m_ b_ s) :
    Touch m_ b_ (State.poolDeleted n s) := by
  unfold State.poolDeleted
  try dsimp only
  repeat' (first | with_reducible assumption | (exact sub_trans (by decide) hm_) | (with_reducible refine State.updDport_touch ?_ ?_ ) | (with_reducible refine State.updPool_touch ?_ ?_ ) | (with_reducible refine foldl_touch ?_ ?_) | (with_reducible refine foldl_snd_touch ?_ ?_) | (with_reducible refine ite_touch ?_ ?_) | (with_reducible refine id_touch ?_) | intro _ _ | intro _ | dsimp only | split)

theorem State.driveFormatted_touch {slot : Nat} {s : State} {m_ : Nat} {b_ : State} (hm_ : Nat.land 262144 m_ = 262144) (ht_ : Touch m_ b_ s) :
    Touch m_ b_ (State.driveFormatted slot s) := by
  unfold State.driveFormatted
  try dsimp only
  repeat' (first | with_reducible assumption | (exact sub_trans (by decide) hm_) | (with_reducible refine State.updDport_touch ?_ ?_ ) | (with_reducible refine ite_touch ?_ ?_) | (with_reducible refine id_touch ?_) | intro _ _ | intro _ | dsimp only | split)

theorem State.nsCreated_touch {d : NsDescReq} {p : NsPlan} {serial : Nat} {s : State} {m_ : Nat} {b_ : State} (hm_ : Nat.land 28672 m_ = 28672) (ht_ : Touch m_ b_ s) :
    Touch m_ b_ (State.nsCreated d p serial s) := by
  unfold State.nsCreated
  try dsimp only
  repeat' (first | with_reducible assumption | (exact sub_trans (by decide) hm_) | (with_reducible refine State.updPool_touch ?_ ?_ ) | (with_reducible refine State.updCons_touch ?_ ?_) | (with_reducible refine State.updCipher_touch ?_ ?_) | (with_reducible refine foldl_touch ?_ ?_) | (with_reducible refine foldl_snd_touch ?_ ?_) | (with_reducible refine ite_touch ?_ ?_) | (with_reducible refine id_touch ?_) | intro _ _ | intro _ | dsimp only | split)

theorem State.makeNs_touch {h : CcpHdr} {d : NsDescReq} {p : NsPlan} {s : State} {m_ : Nat} {b_ : State} (hm_ : Nat.land 37875712 m_ = 37875712) (ht_ : Touch m_ b_ s) :
    Touch m_ b_ (State.makeNs h d p s) := by
  unfold State.makeNs
  try dsimp only
  repeat' (first | with_reducible assumption | (exact sub_trans (by decide) hm_) | (with_reducible refine State.applyActivate_touch ?_ ?_ ) | (with_reducible refine State.deriveGen_touch ?_ ?_ ) | (with_reducible refine State.draw_touch ?_ ?_ ) | (with_reducible refine State.nsCreated_touch ?_ ?_ ) | (with_reducible refine State.putGen_touch ?_ ?_ ) | (with_reducible refine ite_touch ?_ ?_) | (with_reducible refine id_touch ?_) | intro _ _ | intro _ | dsimp only | split)

theorem State.nsDeleting_touch {h : Nat} {s : State} {m_ : Nat} {b_ : State} (hm_ : Nat.land 114688 m_ = 114688) (ht_ : Touch m_ b_ s) :
    Touch m_ b_ (State.nsDeleting h s) := by
  unfold State.nsDeleting
  try dsimp only
  repeat' (first | with_reducible assumption | (exact sub_trans (by decide) hm_) | (with_reducible refine State.eraseNsKeys_touch ?_ ?_ ) | (with_reducible refine State.updNs_touch ?_ ?_ ) | (with_reducible refine State.when_touch ?_ ?_) | (with_reducible refine ite_touch ?_ ?_) | (with_reducible refine id_touch ?_) | intro _ _ | intro _ | dsimp only | split)

theorem State.nsDeleted_touch {h : Nat} {s : State} {m_ : Nat} {b_ : State} (hm_ : Nat.land 71462912 m_ = 71462912) (ht_ : Touch m_ b_ s) :
    Touch m_ b_ (State.nsDeleted h s) := by
  unfold State.nsDeleted
  try dsimp only
  repeat' (first | with_reducible assumption | (exact sub_trans (by decide) hm_) | (with_reducible refine State.releaseVersions_touch ?_ ?_ ) | (with_reducible refine State.updPool_touch ?_ ?_ ) | (with_reducible refine State.updCons_touch ?_ ?_) | (with_reducible refine State.updLayout_touch ?_ ?_) | (with_reducible refine State.updCipher_touch ?_ ?_) | (with_reducible refine ite_touch ?_ ?_) | (with_reducible refine id_touch ?_) | intro _ _ | intro _ | dsimp only | split)

theorem State.rotationDone_touch {s : State} {m_ : Nat} {b_ : State} (hm_ : Nat.land 114692 m_ = 114692) (ht_ : Touch m_ b_ s) :
    Touch m_ b_ (State.rotationDone s) := by
  unfold State.rotationDone
  try dsimp only
  repeat' (first | with_reducible assumption | (exact sub_trans (by decide) hm_) | (with_reducible refine State.dirHeader_touch ?_ ?_ ) | (with_reducible refine State.dirWrite_touch ?_ ?_ ) | (with_reducible refine State.updCipher_touch ?_ ?_) | (with_reducible refine State.updEnclave_touch ?_ ?_) | (with_reducible refine foldl_touch ?_ ?_) | (with_reducible refine foldl_snd_touch ?_ ?_) | (with_reducible refine ite_touch ?_ ?_) | (with_reducible refine id_touch ?_) | intro _ _ | intro _ | dsimp only | split)

theorem State.imageWritten_touch {s : State} {m_ : Nat} {b_ : State} (hm_ : Nat.land 69206032 m_ = 69206032) (ht_ : Touch m_ b_ s) :
    Touch m_ b_ (State.imageWritten s).2 := by
  unfold State.imageWritten
  try dsimp only
  repeat' (first | with_reducible assumption | (exact sub_trans (by decide) hm_) | (with_reducible refine State.send_touch ?_ ?_ ) | (with_reducible refine State.updImages_touch ?_ ?_) | (with_reducible refine State.updCcp_touch ?_ ?_) | (with_reducible refine ite_touch ?_ ?_) | (with_reducible refine id_touch ?_) | intro _ _ | intro _ | dsimp only | split)

end Sys2Proof.Machine
end

