-- ==== Sys2Proof/Laws/TouchActions.lean ====
section
/-! SUPPORT. What the operations of Machine/Actions.lean can change: one lemma for each. -/
namespace Sys2Proof.Machine
set_option linter.all false

theorem execContain_touch {h : CcpHdr} {slot : Nat} {s : State} {t_ : State} (h_ : execContain h slot s = .next t_) : Touch 100663267 s t_ := by
  have hm_ : Nat.land 100663267 100663267 = 100663267 := by decide
  have ht_ := Touch.refl 100663267 s
  unfold execContain at h_
  repeat' (first | (obtain rfl := next_inj h_; clear h_) | (obtain rfl := bounded_next h_; clear h_) | dsimp only at h_ | split at h_)
  all_goals try dsimp only
  repeat' (first | with_reducible assumption | (exact sub_trans (by decide) hm_) | (with_reducible refine State.wordWrite_touch ?_ ?_ ) | (with_reducible refine ite_touch ?_ ?_) | (with_reducible refine id_touch ?_) | intro _ _ | intro _ | dsimp only | split)

theorem execDrivePortRelease_touch {h : CcpHdr} {slot : Nat} {s : State} {t_ : State} (h_ : execDrivePortRelease h slot s = .next t_) : Touch 100663267 s t_ := by
  have hm_ : Nat.land 100663267 100663267 = 100663267 := by decide
  have ht_ := Touch.refl 100663267 s
  unfold execDrivePortRelease at h_
  repeat' (first | (obtain rfl := next_inj h_; clear h_) | (obtain rfl := bounded_next h_; clear h_) | dsimp only at h_ | split at h_)
  all_goals try dsimp only
  repeat' (first | with_reducible assumption | (exact sub_trans (by decide) hm_) | (with_reducible refine State.wordWrite_touch ?_ ?_ ) | (with_reducible refine ite_touch ?_ ?_) | (with_reducible refine id_touch ?_) | intro _ _ | intro _ | dsimp only | split)

theorem execClearRetry_touch {h : CcpHdr} {slot : Nat} {s : State} {t_ : State} (h_ : execClearRetry h slot s = .next t_) : Touch 100663267 s t_ := by
  have hm_ : Nat.land 100663267 100663267 = 100663267 := by decide
  have ht_ := Touch.refl 100663267 s
  unfold execClearRetry at h_
  repeat' (first | (obtain rfl := next_inj h_; clear h_) | (obtain rfl := bounded_next h_; clear h_) | dsimp only at h_ | split at h_)
  all_goals try dsimp only
  repeat' (first | with_reducible assumption | (exact sub_trans (by decide) hm_) | (with_reducible refine State.wordWrite_touch ?_ ?_ ) | (with_reducible refine ite_touch ?_ ?_) | (with_reducible refine id_touch ?_) | intro _ _ | intro _ | dsimp only | split)

theorem execCycle_touch {h : CcpHdr} {slot : Nat} {s : State} {t_ : State} (h_ : execCycle h slot s = .next t_) : Touch 100663267 s t_ := by
  have hm_ : Nat.land 100663267 100663267 = 100663267 := by decide
  have ht_ := Touch.refl 100663267 s
  unfold execCycle at h_
  repeat' (first | (obtain rfl := next_inj h_; clear h_) | (obtain rfl := bounded_next h_; clear h_) | dsimp only at h_ | split at h_)
  all_goals try dsimp only
  repeat' (first | with_reducible assumption | (exact sub_trans (by decide) hm_) | (with_reducible refine State.wordWrite_touch ?_ ?_ ) | (with_reducible refine ite_touch ?_ ?_) | (with_reducible refine id_touch ?_) | intro _ _ | intro _ | dsimp only | split)

theorem execFreeze_touch {h : CcpHdr} {s : State} {t_ : State} (h_ : execFreeze h s = .next t_) : Touch 100663267 s t_ := by
  have hm_ : Nat.land 100663267 100663267 = 100663267 := by decide
  have ht_ := Touch.refl 100663267 s
  unfold execFreeze at h_
  repeat' (first | (obtain rfl := next_inj h_; clear h_) | (obtain rfl := bounded_next h_; clear h_) | dsimp only at h_ | split at h_)
  all_goals try dsimp only
  repeat' (first | with_reducible assumption | (exact sub_trans (by decide) hm_) | (with_reducible refine State.wordWrite_touch ?_ ?_ ) | (with_reducible refine ite_touch ?_ ?_) | (with_reducible refine id_touch ?_) | intro _ _ | intro _ | dsimp only | split)

theorem execLocalPortRelease_touch {h : CcpHdr} {s : State} {t_ : State} (h_ : execLocalPortRelease h s = .next t_) : Touch 100663267 s t_ := by
  have hm_ : Nat.land 100663267 100663267 = 100663267 := by decide
  have ht_ := Touch.refl 100663267 s
  unfold execLocalPortRelease at h_
  repeat' (first | (obtain rfl := next_inj h_; clear h_) | (obtain rfl := bounded_next h_; clear h_) | dsimp only at h_ | split at h_)
  all_goals try dsimp only
  repeat' (first | with_reducible assumption | (exact sub_trans (by decide) hm_) | (with_reducible refine State.wordWrite_touch ?_ ?_ ) | (with_reducible refine ite_touch ?_ ?_) | (with_reducible refine id_touch ?_) | intro _ _ | intro _ | dsimp only | split)

theorem execLeaseMove_touch {h : CcpHdr} {value : Nat} {s : State} {t_ : State} (h_ : execLeaseMove h value s = .next t_) : Touch 100663267 s t_ := by
  have hm_ : Nat.land 100663267 100663267 = 100663267 := by decide
  have ht_ := Touch.refl 100663267 s
  unfold execLeaseMove at h_
  repeat' (first | (obtain rfl := next_inj h_; clear h_) | (obtain rfl := bounded_next h_; clear h_) | dsimp only at h_ | split at h_)
  all_goals try dsimp only
  repeat' (first | with_reducible assumption | (exact sub_trans (by decide) hm_) | (with_reducible refine State.wordWrite_touch ?_ ?_ ) | (with_reducible refine ite_touch ?_ ?_) | (with_reducible refine id_touch ?_) | intro _ _ | intro _ | dsimp only | split)

theorem execReshapeStart_touch {h : CcpHdr} {pool : Nat} {s : State} {t_ : State} (h_ : execReshapeStart h pool s = .next t_) : Touch 100663267 s t_ := by
  have hm_ : Nat.land 100663267 100663267 = 100663267 := by decide
  have ht_ := Touch.refl 100663267 s
  unfold execReshapeStart at h_
  repeat' (first | (obtain rfl := next_inj h_; clear h_) | (obtain rfl := bounded_next h_; clear h_) | dsimp only at h_ | split at h_)
  all_goals try dsimp only
  repeat' (first | with_reducible assumption | (exact sub_trans (by decide) hm_) | (with_reducible refine State.wordWrite_touch ?_ ?_ ) | (with_reducible refine ite_touch ?_ ?_) | (with_reducible refine id_touch ?_) | intro _ _ | intro _ | dsimp only | split)

theorem execReshapePause_touch {h : CcpHdr} {pool : Nat} {s : State} {t_ : State} (h_ : execReshapePause h pool s = .next t_) : Touch 100663267 s t_ := by
  have hm_ : Nat.land 100663267 100663267 = 100663267 := by decide
  have ht_ := Touch.refl 100663267 s
  unfold execReshapePause at h_
  repeat' (first | (obtain rfl := next_inj h_; clear h_) | (obtain rfl := bounded_next h_; clear h_) | dsimp only at h_ | split at h_)
  all_goals try dsimp only
  repeat' (first | with_reducible assumption | (exact sub_trans (by decide) hm_) | (with_reducible refine State.wordWrite_touch ?_ ?_ ) | (with_reducible refine ite_touch ?_ ?_) | (with_reducible refine id_touch ?_) | intro _ _ | intro _ | dsimp only | split)

theorem execShaperConfigWrite_touch {h : CcpHdr} {obj value : Nat} {s : State} {t_ : State} (h_ : execShaperConfigWrite h obj value s = .next t_) : Touch 100663267 s t_ := by
  have hm_ : Nat.land 100663267 100663267 = 100663267 := by decide
  have ht_ := Touch.refl 100663267 s
  unfold execShaperConfigWrite at h_
  repeat' (first | (obtain rfl := next_inj h_; clear h_) | (obtain rfl := bounded_next h_; clear h_) | dsimp only at h_ | split at h_)
  all_goals try dsimp only
  repeat' (first | with_reducible assumption | (exact sub_trans (by decide) hm_) | (with_reducible refine State.wordWrite_touch ?_ ?_ ) | (with_reducible refine ite_touch ?_ ?_) | (with_reducible refine id_touch ?_) | intro _ _ | intro _ | dsimp only | split)

theorem execMeterConfigWrite_touch {h : CcpHdr} {obj value : Nat} {s : State} {t_ : State} (h_ : execMeterConfigWrite h obj value s = .next t_) : Touch 100663267 s t_ := by
  have hm_ : Nat.land 100663267 100663267 = 100663267 := by decide
  have ht_ := Touch.refl 100663267 s
  unfold execMeterConfigWrite at h_
  repeat' (first | (obtain rfl := next_inj h_; clear h_) | (obtain rfl := bounded_next h_; clear h_) | dsimp only at h_ | split at h_)
  all_goals try dsimp only
  repeat' (first | with_reducible assumption | (exact sub_trans (by decide) hm_) | (with_reducible refine State.wordWrite_touch ?_ ?_ ) | (with_reducible refine ite_touch ?_ ?_) | (with_reducible refine id_touch ?_) | intro _ _ | intro _ | dsimp only | split)

theorem execEstoreCfgWrite_touch {h : CcpHdr} {bytes : Bytes} {s : State} {t_ : State} (h_ : execEstoreCfgWrite h bytes s = .next t_) : Touch 100663267 s t_ := by
  have hm_ : Nat.land 100663267 100663267 = 100663267 := by decide
  have ht_ := Touch.refl 100663267 s
  unfold execEstoreCfgWrite at h_
  repeat' (first | (obtain rfl := next_inj h_; clear h_) | (obtain rfl := bounded_next h_; clear h_) | dsimp only at h_ | split at h_)
  all_goals try dsimp only
  repeat' (first | with_reducible assumption | (exact sub_trans (by decide) hm_) | (with_reducible refine State.ccpFail_touch ?_ ?_ ) | (with_reducible refine State.ccpSimple_touch ?_ ?_ ?_ ) | (with_reducible refine State.ccpUnstage_touch ?_ ?_ ) | (with_reducible refine State.objWrite_touch ?_ ?_ ) | (with_reducible refine ite_touch ?_ ?_) | (with_reducible refine id_touch ?_) | intro _ _ | intro _ | dsimp only | split)

theorem execBwWindowWrite_touch {h : CcpHdr} {port windowUs : Nat} {s : State} {t_ : State} (h_ : execBwWindowWrite h port windowUs s = .next t_) : Touch 100663267 s t_ := by
  have hm_ : Nat.land 100663267 100663267 = 100663267 := by decide
  have ht_ := Touch.refl 100663267 s
  unfold execBwWindowWrite at h_
  repeat' (first | (obtain rfl := next_inj h_; clear h_) | (obtain rfl := bounded_next h_; clear h_) | dsimp only at h_ | split at h_)
  all_goals try dsimp only
  repeat' (first | with_reducible assumption | (exact sub_trans (by decide) hm_) | (with_reducible refine State.ccpSimple_touch ?_ ?_ ?_ ) | (with_reducible refine State.objWrite_touch ?_ ?_ ) | (with_reducible refine ite_touch ?_ ?_) | (with_reducible refine id_touch ?_) | intro _ _ | intro _ | dsimp only | split)

theorem execBwWindowEnd_touch {port : Nat} {s : State} {t_ : State} (h_ : execBwWindowEnd port s = .next t_) : Touch 4194304 s t_ := by
  have hm_ : Nat.land 4194304 4194304 = 4194304 := by decide
  have ht_ := Touch.refl 4194304 s
  unfold execBwWindowEnd at h_
  repeat' (first | (obtain rfl := next_inj h_; clear h_) | (obtain rfl := bounded_next h_; clear h_) | dsimp only at h_ | split at h_)
  all_goals try dsimp only
  repeat' (first | with_reducible assumption | (exact sub_trans (by decide) hm_) | (with_reducible refine State.updTelem_touch ?_ ?_) | (with_reducible refine ite_touch ?_ ?_) | (with_reducible refine id_touch ?_) | intro _ _ | intro _ | dsimp only | split)

end Sys2Proof.Machine
end

