-- ==== Sys2Proof/Laws/TouchArbiter.lean ====
section
/-! SUPPORT. What the operations of Machine/Arbiter.lean can change: one lemma for each. -/
namespace Sys2Proof.Machine
set_option linter.all false

theorem State.fillMiss_touch {s : State} {m_ : Nat} {b_ : State} (hm_ : Nat.land 71370240 m_ = 71370240) (ht_ : Touch m_ b_ s) :
    Touch m_ b_ (State.fillMiss s) := by
  unfold State.fillMiss
  try dsimp only
  repeat' (first | with_reducible assumption | (exact sub_trans (by decide) hm_) | (with_reducible refine State.takeFrame_touch ?_ ?_ ) | (with_reducible refine State.updXport_touch ?_ ?_) | (with_reducible refine foldl_touch ?_ ?_) | (with_reducible refine foldl_snd_touch ?_ ?_) | (with_reducible refine ite_touch ?_ ?_) | (with_reducible refine id_touch ?_) | intro _ _ | intro _ | dsimp only | split)

theorem State.grantNext_touch {res : Nat} {s : State} {m_ : Nat} {b_ : State} (hm_ : Nat.land 108264960 m_ = 108264960) (ht_ : Touch m_ b_ s) :
    Touch m_ b_ (State.grantNext res s) := by
  unfold State.grantNext
  try dsimp only
  repeat' (first | with_reducible assumption | (exact sub_trans (by decide) hm_) | (with_reducible refine State.beginWrite_touch ?_ ?_ ) | (with_reducible refine State.cvuGrant_touch ?_ ?_ ) | (with_reducible refine State.fillMiss_touch ?_ ?_ ) | (with_reducible refine State.offerSlots_touch ?_ ?_ ) | (with_reducible refine State.settle_touch ?_ ?_ ) | (with_reducible refine State.updCcp_touch ?_ ?_) | (with_reducible refine ite_touch ?_ ?_) | (with_reducible refine id_touch ?_) | intro _ _ | intro _ | dsimp only | split)

theorem execArbiterGrant_touch {resource : Nat} {s : State} {t_ : State} (h_ : execArbiterGrant resource s = .next t_) : Touch 108265216 s t_ := by
  have hm_ : Nat.land 108265216 108265216 = 108265216 := by decide
  have ht_ := Touch.refl 108265216 s
  unfold execArbiterGrant at h_
  repeat' (first | (obtain rfl := next_inj h_; clear h_) | (obtain rfl := bounded_next h_; clear h_) | dsimp only at h_ | split at h_)
  all_goals try dsimp only
  repeat' (first | with_reducible assumption | (exact sub_trans (by decide) hm_) | (with_reducible refine State.grantNext_touch ?_ ?_ ) | (with_reducible refine State.when_touch ?_ ?_) | (with_reducible refine State.updSpine_touch ?_ ?_) | (with_reducible refine ite_touch ?_ ?_) | (with_reducible refine id_touch ?_) | intro _ _ | intro _ | dsimp only | split)

end Sys2Proof.Machine
end

