-- ==== Sys2Proof/Laws/TouchUnpairing.lean ====
section
/-! SUPPORT. What the operations of Machine/Unpairing.lean can change: one lemma for each. -/
namespace Sys2Proof.Machine
set_option linter.all false

theorem State.leavePair_touch {s : State} {m_ : Nat} {b_ : State} (hm_ : Nat.land 74923459 m_ = 74923459) (ht_ : Touch m_ b_ s) :
    Touch m_ b_ (State.leavePair s) := by
  unfold State.leavePair
  try dsimp only
  repeat' (first | with_reducible assumption | (exact sub_trans (by decide) hm_) | (with_reducible refine State.driveAdmin_touch ?_ ?_ ) | (with_reducible refine State.enterMode_touch ?_ ?_ ) | (with_reducible refine State.settSend_touch ?_ ?_ ) | (with_reducible refine State.stopService_touch ?_ ?_ ) | (with_reducible refine State.updDport_touch ?_ ?_ ) | (with_reducible refine State.updBoot_touch ?_ ?_) | (with_reducible refine State.updLayout_touch ?_ ?_) | (with_reducible refine State.updPair_touch ?_ ?_) | (with_reducible refine foldl_touch ?_ ?_) | (with_reducible refine foldl_snd_touch ?_ ?_) | (with_reducible refine ite_touch ?_ ?_) | (with_reducible refine id_touch ?_) | intro _ _ | intro _ | dsimp only | split)

theorem State.remainPair_touch {s : State} {m_ : Nat} {b_ : State} (hm_ : Nat.land 74973123 m_ = 74973123) (ht_ : Touch m_ b_ s) :
    Touch m_ b_ (State.remainPair s) := by
  unfold State.remainPair
  try dsimp only
  repeat' (first | with_reducible assumption | (exact sub_trans (by decide) hm_) | (with_reducible refine State.claim_touch ?_ ?_ ) | (with_reducible refine State.partnerGone_touch ?_ ?_ ) | (with_reducible refine State.writeQuorum_touch ?_ ?_ ) | (with_reducible refine State.updPair_touch ?_ ?_) | (with_reducible refine ite_touch ?_ ?_) | (with_reducible refine id_touch ?_) | intro _ _ | intro _ | dsimp only | split)

theorem execHandover_touch {v : HandoverMsg} {s : State} {t_ : State} (h_ : execHandover v s = .next t_) : Touch 74973123 s t_ := by
  have hm_ : Nat.land 74973123 74973123 = 74973123 := by decide
  have ht_ := Touch.refl 74973123 s
  unfold execHandover at h_
  repeat' (first | (obtain rfl := next_inj h_; clear h_) | (obtain rfl := bounded_next h_; clear h_) | dsimp only at h_ | split at h_)
  all_goals try dsimp only
  repeat' (first | with_reducible assumption | (exact sub_trans (by decide) hm_) | (with_reducible refine State.addOvl_touch ?_ ?_ ) | (with_reducible refine State.remainPair_touch ?_ ?_ ) | (with_reducible refine State.settIn_touch ?_ ?_ ?_ ) | (with_reducible refine State.updExtent_touch ?_ ?_ ) | (with_reducible refine State.updPair_touch ?_ ?_) | (with_reducible refine foldl_touch ?_ ?_) | (with_reducible refine foldl_snd_touch ?_ ?_) | (with_reducible refine ite_touch ?_ ?_) | (with_reducible refine id_touch ?_) | intro _ _ | intro _ | dsimp only | split)

theorem execUnpair_touch {h : CcpHdr} {leaving : Nat} {s : State} {t_ : State} (h_ : execUnpair h leaving s = .next t_) : Touch 74923459 s t_ := by
  have hm_ : Nat.land 74923459 74923459 = 74923459 := by decide
  have ht_ := Touch.refl 74923459 s
  unfold execUnpair at h_
  repeat' (first | (obtain rfl := next_inj h_; clear h_) | (obtain rfl := bounded_next h_; clear h_) | dsimp only at h_ | split at h_)
  all_goals try dsimp only
  repeat' (first | with_reducible assumption | (exact sub_trans (by decide) hm_) | (with_reducible refine State.ccpFail_touch ?_ ?_ ) | (with_reducible refine State.ccpReply_touch ?_ ?_ ) | (with_reducible refine State.ccpSimple_touch ?_ ?_ ?_ ) | (with_reducible refine State.leavePair_touch ?_ ?_ ) | (with_reducible refine State.sharedDone_touch ?_ ?_ ) | (with_reducible refine ite_touch ?_ ?_) | (with_reducible refine id_touch ?_) | intro _ _ | intro _ | dsimp only | split)

theorem execRetirePartner_touch {h : CcpHdr} {s : State} {t_ : State} (h_ : execRetirePartner h s = .next t_) : Touch 74654151 s t_ := by
  have hm_ : Nat.land 74654151 74654151 = 74654151 := by decide
  have ht_ := Touch.refl 74654151 s
  unfold execRetirePartner at h_
  repeat' (first | (obtain rfl := next_inj h_; clear h_) | (obtain rfl := bounded_next h_; clear h_) | dsimp only at h_ | split at h_)
  all_goals try dsimp only
  repeat' (first | with_reducible assumption | (exact sub_trans (by decide) hm_) | (with_reducible refine State.abandonPairing_touch ?_ ?_ ) | (with_reducible refine State.ccpFail_touch ?_ ?_ ) | (with_reducible refine State.ccpReply_touch ?_ ?_ ) | (with_reducible refine State.ccpSimple_touch ?_ ?_ ?_ ) | (with_reducible refine State.dirHeader_touch ?_ ?_ ) | (with_reducible refine State.enterMode_touch ?_ ?_ ) | (with_reducible refine State.writeQuorum_touch ?_ ?_ ) | (with_reducible refine State.updPair_touch ?_ ?_) | (with_reducible refine foldl_touch ?_ ?_) | (with_reducible refine foldl_snd_touch ?_ ?_) | (with_reducible refine ite_touch ?_ ?_) | (with_reducible refine id_touch ?_) | intro _ _ | intro _ | dsimp only | split)

theorem State.blocksRead_touch {blocks : List QuorumRead} {s : State} {m_ : Nat} {b_ : State} (hm_ : Nat.land 131072 m_ = 131072) (ht_ : Touch m_ b_ s) :
    Touch m_ b_ (State.blocksRead blocks s) := by
  unfold State.blocksRead
  try dsimp only
  repeat' (first | with_reducible assumption | (exact sub_trans (by decide) hm_) | (with_reducible refine State.updPair_touch ?_ ?_) | (with_reducible refine foldl_touch ?_ ?_) | (with_reducible refine foldl_snd_touch ?_ ?_) | (with_reducible refine ite_touch ?_ ?_) | (with_reducible refine id_touch ?_) | intro _ _ | intro _ | dsimp only | split)

theorem State.waitEnded_touch {s : State} {m_ : Nat} {b_ : State} (hm_ : Nat.land 73597120 m_ = 73597120) (ht_ : Touch m_ b_ s) :
    Touch m_ b_ (State.waitEnded s) := by
  unfold State.waitEnded
  try dsimp only
  repeat' (first | with_reducible assumption | (exact sub_trans (by decide) hm_) | (with_reducible refine State.beginQuorum_touch ?_ ?_ ) | (with_reducible refine State.updBoot_touch ?_ ?_) | (with_reducible refine State.updPair_touch ?_ ?_) | (with_reducible refine ite_touch ?_ ?_) | (with_reducible refine id_touch ?_) | intro _ _ | intro _ | dsimp only | split)

theorem execQuorumOverride_touch {h : CcpHdr} {force : Bool} {blocks : List QuorumRead} {s : State} {t_ : State} (h_ : execQuorumOverride h force blocks s = .next t_) : Touch 74645697 s t_ := by
  have hm_ : Nat.land 74645697 74645697 = 74645697 := by decide
  have ht_ := Touch.refl 74645697 s
  unfold execQuorumOverride at h_
  repeat' (first | (obtain rfl := next_inj h_; clear h_) | (obtain rfl := bounded_next h_; clear h_) | dsimp only at h_ | split at h_)
  all_goals try dsimp only
  repeat' (first | with_reducible assumption | (exact sub_trans (by decide) hm_) | (with_reducible refine State.blocksRead_touch ?_ ?_ ) | (with_reducible refine State.ccpReply_touch ?_ ?_ ) | (with_reducible refine State.ccpSimple_touch ?_ ?_ ?_ ) | (with_reducible refine State.waitEnded_touch ?_ ?_ ) | (with_reducible refine State.updBoot_touch ?_ ?_) | (with_reducible refine ite_touch ?_ ?_) | (with_reducible refine id_touch ?_) | intro _ _ | intro _ | dsimp only | split)

end Sys2Proof.Machine
end

