-- ==== Sys2Proof/Laws/TouchBringup.lean ====
section
/-! SUPPORT. What the operations of Machine/Bringup.lean can change: one lemma for each. -/
namespace Sys2Proof.Machine
set_option linter.all false

theorem execHbmTrainingComplete_touch {good : Bool} {s : State} {t_ : State} (h_ : execHbmTrainingComplete good s = .next t_) : Touch 134217703 s t_ := by
  have hm_ : Nat.land 134217703 134217703 = 134217703 := by decide
  have ht_ := Touch.refl 134217703 s
  unfold execHbmTrainingComplete at h_
  repeat' (first | (obtain rfl := next_inj h_; clear h_) | (obtain rfl := bounded_next h_; clear h_) | dsimp only at h_ | split at h_)
  all_goals try dsimp only
  repeat' (first | with_reducible assumption | (exact sub_trans (by decide) hm_) | (with_reducible refine State.resetController_touch ?_ ?_ ) | (with_reducible refine State.updDen_touch ?_ ?_) | (with_reducible refine State.updElec_touch ?_ ?_) | (with_reducible refine State.updBoot_touch ?_ ?_) | (with_reducible refine ite_touch ?_ ?_) | (with_reducible refine id_touch ?_) | intro _ _ | intro _ | dsimp only | split)

theorem execResetWipeComplete_touch {selfTestGood : Bool} {s : State} {t_ : State} (h_ : execResetWipeComplete selfTestGood s = .next t_) : Touch 108264903 s t_ := by
  have hm_ : Nat.land 108264903 108264903 = 108264903 := by decide
  have ht_ := Touch.refl 108264903 s
  unfold execResetWipeComplete at h_
  repeat' (first | (obtain rfl := next_inj h_; clear h_) | (obtain rfl := bounded_next h_; clear h_) | dsimp only at h_ | split at h_)
  all_goals try dsimp only
  repeat' (first | with_reducible assumption | (exact sub_trans (by decide) hm_) | (with_reducible refine State.draw_touch ?_ ?_ ) | (with_reducible refine State.enterM5_touch ?_ ?_ ) | (with_reducible refine State.enterMode_touch ?_ ?_ ) | (with_reducible refine State.updDen_touch ?_ ?_) | (with_reducible refine State.updBoot_touch ?_ ?_) | (with_reducible refine State.updLayout_touch ?_ ?_) | (with_reducible refine State.updEnclave_touch ?_ ?_) | (with_reducible refine ite_touch ?_ ?_) | (with_reducible refine id_touch ?_) | intro _ _ | intro _ | dsimp only | split)

theorem State.writeObjects_touch {l : List (Nat × Bytes)} {s : State} {m_ : Nat} {b_ : State} (hm_ : Nat.land 100663267 m_ = 100663267) (ht_ : Touch m_ b_ s) :
    Touch m_ b_ (State.writeObjects l s) := by
  unfold State.writeObjects
  try dsimp only
  repeat' (first | with_reducible assumption | (exact sub_trans (by decide) hm_) | (with_reducible refine State.raise_touch ?_ ?_ ) | (with_reducible refine State.writeApply_touch ?_ ?_ ) | (with_reducible refine foldl_touch ?_ ?_) | (with_reducible refine foldl_snd_touch ?_ ?_) | (with_reducible refine ite_touch ?_ ?_) | (with_reducible refine id_touch ?_) | intro _ _ | intro _ | dsimp only | split)

theorem State.startFirmware_touch {slotB : Bool} {i : ImageCheck} {s : State} {m_ : Nat} {b_ : State} (hm_ : Nat.land 100663267 m_ = 100663267) (ht_ : Touch m_ b_ s) :
    Touch m_ b_ (State.startFirmware slotB i s) := by
  unfold State.startFirmware
  try dsimp only
  repeat' (first | with_reducible assumption | (exact sub_trans (by decide) hm_) | (with_reducible refine State.writeObjects_touch ?_ ?_ ) | (with_reducible refine State.updBoot_touch ?_ ?_) | (with_reducible refine State.updEnclave_touch ?_ ?_) | (with_reducible refine ite_touch ?_ ?_) | (with_reducible refine id_touch ?_) | intro _ _ | intro _ | dsimp only | split)

theorem execImageLoadComplete_touch {slotB : Bool} {image : ImageCheck} {s : State} {t_ : State} (h_ : execImageLoadComplete slotB image s = .next t_) : Touch 100663267 s t_ := by
  have hm_ : Nat.land 100663267 100663267 = 100663267 := by decide
  have ht_ := Touch.refl 100663267 s
  unfold execImageLoadComplete at h_
  repeat' (first | (obtain rfl := next_inj h_; clear h_) | (obtain rfl := bounded_next h_; clear h_) | dsimp only at h_ | split at h_)
  all_goals try dsimp only
  repeat' (first | with_reducible assumption | (exact sub_trans (by decide) hm_) | (with_reducible refine State.startFirmware_touch ?_ ?_ ) | (with_reducible refine State.updBoot_touch ?_ ?_) | (with_reducible refine ite_touch ?_ ?_) | (with_reducible refine id_touch ?_) | intro _ _ | intro _ | dsimp only | split)

theorem execFirmwareStartTimeout_touch {s : State} {t_ : State} (h_ : execFirmwareStartTimeout s = .next t_) : Touch 134217719 s t_ := by
  have hm_ : Nat.land 134217719 134217719 = 134217719 := by decide
  have ht_ := Touch.refl 134217719 s
  unfold execFirmwareStartTimeout at h_
  repeat' (first | (obtain rfl := next_inj h_; clear h_) | (obtain rfl := bounded_next h_; clear h_) | dsimp only at h_ | split at h_)
  all_goals try dsimp only
  repeat' (first | with_reducible assumption | (exact sub_trans (by decide) hm_) | (with_reducible refine State.resetController_touch ?_ ?_ ) | (with_reducible refine State.updImages_touch ?_ ?_) | (with_reducible refine State.updBoot_touch ?_ ?_) | (with_reducible refine ite_touch ?_ ?_) | (with_reducible refine id_touch ?_) | intro _ _ | intro _ | dsimp only | split)

theorem State.importShelfKey_touch {p : PoolImport} {s : State} {m_ : Nat} {b_ : State} (hm_ : Nat.land 2129920 m_ = 2129920) (ht_ : Touch m_ b_ s) :
    Touch m_ b_ (State.importShelfKey p s) := by
  unfold State.importShelfKey
  try dsimp only
  repeat' (first | with_reducible assumption | (exact sub_trans (by decide) hm_) | (with_reducible refine State.ownRotation_touch ?_ ?_ ) | (with_reducible refine State.when_touch ?_ ?_) | (with_reducible refine State.updEnclave_touch ?_ ?_) | (with_reducible refine ite_touch ?_ ?_) | (with_reducible refine id_touch ?_) | intro _ _ | intro _ | dsimp only | split)

theorem State.importConf_touch {conf : List ConfCopy} {s : State} {m_ : Nat} {b_ : State} (hm_ : Nat.land 100663267 m_ = 100663267) (ht_ : Touch m_ b_ s) :
    Touch m_ b_ (State.importConf conf s) := by
  unfold State.importConf
  try dsimp only
  repeat' (first | with_reducible assumption | (exact sub_trans (by decide) hm_) | (with_reducible refine State.writeObjects_touch ?_ ?_ ) | (with_reducible refine State.updBoot_touch ?_ ?_) | (with_reducible refine foldl_touch ?_ ?_) | (with_reducible refine foldl_snd_touch ?_ ?_) | (with_reducible refine ite_touch ?_ ?_) | (with_reducible refine id_touch ?_) | intro _ _ | intro _ | dsimp only | split)

theorem State.dropLarder_touch {s : State} {m_ : Nat} {b_ : State} (hm_ : Nat.land 8192 m_ = 8192) (ht_ : Touch m_ b_ s) :
    Touch m_ b_ (State.dropLarder s) := by
  unfold State.dropLarder
  try dsimp only
  repeat' (first | with_reducible assumption | (exact sub_trans (by decide) hm_) | (with_reducible refine State.journal_touch ?_ ?_ ) | (with_reducible refine State.updLayout_touch ?_ ?_) | (with_reducible refine ite_touch ?_ ?_) | (with_reducible refine id_touch ?_) | intro _ _ | intro _ | dsimp only | split)

theorem State.poolOpens_touch {p : PoolImport} {c : Option JCopy} {s : State} {m_ : Nat} {b_ : State} (hm_ : Nat.land 25174081 m_ = 25174081) (ht_ : Touch m_ b_ s) :
    Touch m_ b_ (State.poolOpens p c s) := by
  unfold State.poolOpens
  try dsimp only
  repeat' (first | with_reducible assumption | (exact sub_trans (by decide) hm_) | (with_reducible refine State.journal_touch ?_ ?_ ) | (with_reducible refine State.setWord_touch ?_ ?_ ) | (with_reducible refine State.updPool_touch ?_ ?_ ) | (with_reducible refine State.updBoot_touch ?_ ?_) | (with_reducible refine State.updBlobs_touch ?_ ?_) | (with_reducible refine foldl_touch ?_ ?_) | (with_reducible refine foldl_snd_touch ?_ ?_) | (with_reducible refine ite_touch ?_ ?_) | (with_reducible refine id_touch ?_) | intro _ _ | intro _ | dsimp only | split)

theorem State.importMembers_touch {n : Nat} {s : State} {m_ : Nat} {b_ : State} (hm_ : Nat.land 4202496 m_ = 4202496) (ht_ : Touch m_ b_ s) :
    Touch m_ b_ (State.importMembers n s) := by
  unfold State.importMembers
  try dsimp only
  repeat' (first | with_reducible assumption | (exact sub_trans (by decide) hm_) | (with_reducible refine State.memberMissing_touch ?_ ?_ ) | (with_reducible refine State.memberReturns_touch ?_ ?_ ) | (with_reducible refine foldl_touch ?_ ?_) | (with_reducible refine foldl_snd_touch ?_ ?_) | (with_reducible refine ite_touch ?_ ?_) | (with_reducible refine id_touch ?_) | intro _ _ | intro _ | dsimp only | split)

theorem State.importExtents_touch {n epoch : Nat} {s : State} {m_ : Nat} {b_ : State} (hm_ : Nat.land 4096 m_ = 4096) (ht_ : Touch m_ b_ s) :
    Touch m_ b_ (State.importExtents n epoch s) := by
  unfold State.importExtents
  try dsimp only
  repeat' (first | with_reducible assumption | (exact sub_trans (by decide) hm_) | (with_reducible refine State.updCons_touch ?_ ?_) | (with_reducible refine foldl_touch ?_ ?_) | (with_reducible refine foldl_snd_touch ?_ ?_) | (with_reducible refine ite_touch ?_ ?_) | (with_reducible refine id_touch ?_) | intro _ _ | intro _ | dsimp only | split)

theorem State.importLocks_touch {n : Nat} {s : State} {m_ : Nat} {b_ : State} (hm_ : Nat.land 16384 m_ = 16384) (ht_ : Touch m_ b_ s) :
    Touch m_ b_ (State.importLocks n s) := by
  unfold State.importLocks
  try dsimp only
  repeat' (first | with_reducible assumption | (exact sub_trans (by decide) hm_) | (with_reducible refine State.updCipher_touch ?_ ?_) | (with_reducible refine ite_touch ?_ ?_) | (with_reducible refine id_touch ?_) | intro _ _ | intro _ | dsimp only | split)

theorem State.importOrder_touch {what a b : Nat} {s : State} {m_ : Nat} {b_ : State} (hm_ : Nat.land 67108864 m_ = 67108864) (ht_ : Touch m_ b_ s) :
    Touch m_ b_ (State.importOrder what a b s) := by
  unfold State.importOrder
  try dsimp only
  repeat' (first | with_reducible assumption | (exact sub_trans (by decide) hm_) | (with_reducible refine State.driveAdmin_touch ?_ ?_ ) | (with_reducible refine State.send_touch ?_ ?_ ) | (with_reducible refine ite_touch ?_ ?_) | (with_reducible refine id_touch ?_) | intro _ _ | intro _ | dsimp only | split)

theorem State.closeIntent_touch {n : Nat} {r : JRec} {s : State} {m_ : Nat} {b_ : State} (hm_ : Nat.land 71507968 m_ = 71507968) (ht_ : Touch m_ b_ s) :
    Touch m_ b_ (State.closeIntent n r s) := by
  unfold State.closeIntent
  try dsimp only
  repeat' (first | with_reducible assumption | (exact sub_trans (by decide) hm_) | (with_reducible refine State.journal_touch ?_ ?_ ) | (with_reducible refine ite_touch ?_ ?_) | (with_reducible refine id_touch ?_) | intro _ _ | intro _ | dsimp only | split)

theorem State.replayKept_touch {n : Nat} {bad : List (Nat × Nat)} {intents : List JRec} {s : State} {m_ : Nat} {b_ : State} (hm_ : Nat.land 73605120 m_ = 73605120) (ht_ : Touch m_ b_ s) :
    Touch m_ b_ (State.replayKept n bad intents s) := by
  unfold State.replayKept
  try dsimp only
  repeat' (first | with_reducible assumption | (exact sub_trans (by decide) hm_) | (with_reducible refine State.closeIntent_touch ?_ ?_ ) | (with_reducible refine State.enterLost_touch ?_ ?_ ) | (with_reducible refine State.importOrder_touch ?_ ?_ ) | (with_reducible refine State.when_touch ?_ ?_) | (with_reducible refine State.updLayout_touch ?_ ?_) | (with_reducible refine foldl_touch ?_ ?_) | (with_reducible refine foldl_snd_touch ?_ ?_) | (with_reducible refine ite_touch ?_ ?_) | (with_reducible refine id_touch ?_) | intro _ _ | intro _ | dsimp only | split)

theorem State.larderLost_touch {n : Nat} {s : State} {m_ : Nat} {b_ : State} (hm_ : Nat.land 69214208 m_ = 69214208) (ht_ : Touch m_ b_ s) :
    Touch m_ b_ (State.larderLost n s) := by
  unfold State.larderLost
  try dsimp only
  repeat' (first | with_reducible assumption | (exact sub_trans (by decide) hm_) | (with_reducible refine State.raise_touch ?_ ?_ ) | (with_reducible refine State.updLayout_touch ?_ ?_) | (with_reducible refine ite_touch ?_ ?_) | (with_reducible refine id_touch ?_) | intro _ _ | intro _ | dsimp only | split)

theorem State.replayLost_touch {n : Nat} {bad : List (Nat × Nat)} {intents data : List JRec} {s : State} {m_ : Nat} {b_ : State} (hm_ : Nat.land 73605120 m_ = 73605120) (ht_ : Touch m_ b_ s) :
    Touch m_ b_ (State.replayLost n bad intents data s) := by
  unfold State.replayLost
  try dsimp only
  repeat' (first | with_reducible assumption | (exact sub_trans (by decide) hm_) | (with_reducible refine State.closeIntent_touch ?_ ?_ ) | (with_reducible refine State.enterLost_touch ?_ ?_ ) | (with_reducible refine State.importOrder_touch ?_ ?_ ) | (with_reducible refine State.larderLost_touch ?_ ?_ ) | (with_reducible refine foldl_touch ?_ ?_) | (with_reducible refine foldl_snd_touch ?_ ?_) | (with_reducible refine ite_touch ?_ ?_) | (with_reducible refine id_touch ?_) | intro _ _ | intro _ | dsimp only | split)

theorem State.importReplay_touch {p : PoolImport} {c : Option JCopy} {s : State} {m_ : Nat} {b_ : State} (hm_ : Nat.land 73605120 m_ = 73605120) (ht_ : Touch m_ b_ s) :
    Touch m_ b_ (State.importReplay p c s) := by
  unfold State.importReplay
  try dsimp only
  repeat' (first | with_reducible assumption | (exact sub_trans (by decide) hm_) | (with_reducible refine State.closeIntent_touch ?_ ?_ ) | (with_reducible refine State.importOrder_touch ?_ ?_ ) | (with_reducible refine State.journal_touch ?_ ?_ ) | (with_reducible refine State.larderLost_touch ?_ ?_ ) | (with_reducible refine State.replayKept_touch ?_ ?_ ) | (with_reducible refine State.replayLost_touch ?_ ?_ ) | (with_reducible refine State.when_touch ?_ ?_) | (with_reducible refine State.updLayout_touch ?_ ?_) | (with_reducible refine foldl_touch ?_ ?_) | (with_reducible refine foldl_snd_touch ?_ ?_) | (with_reducible refine ite_touch ?_ ?_) | (with_reducible refine id_touch ?_) | intro _ _ | intro _ | dsimp only | split)

theorem State.importPool_touch {p : PoolImport} {s : State} {m_ : Nat} {b_ : State} (hm_ : Nat.land 98787393 m_ = 98787393) (ht_ : Touch m_ b_ s) :
    Touch m_ b_ (State.importPool p s) := by
  unfold State.importPool
  try dsimp only
  repeat' (first | with_reducible assumption | (exact sub_trans (by decide) hm_) | (with_reducible refine State.importLocks_touch ?_ ?_ ) | (with_reducible refine State.importMembers_touch ?_ ?_ ) | (with_reducible refine State.importReplay_touch ?_ ?_ ) | (with_reducible refine State.poolOpens_touch ?_ ?_ ) | (with_reducible refine ite_touch ?_ ?_) | (with_reducible refine id_touch ?_) | intro _ _ | intro _ | dsimp only | split)

theorem State.importAll_touch {pools : List PoolImport} {s : State} {m_ : Nat} {b_ : State} (hm_ : Nat.land 98791489 m_ = 98791489) (ht_ : Touch m_ b_ s) :
    Touch m_ b_ (State.importAll pools s) := by
  unfold State.importAll
  try dsimp only
  repeat' (first | with_reducible assumption | (exact sub_trans (by decide) hm_) | (with_reducible refine State.dropLarder_touch ?_ ?_ ) | (with_reducible refine State.importExtents_touch ?_ ?_ ) | (with_reducible refine State.importPool_touch ?_ ?_ ) | (with_reducible refine State.raise_touch ?_ ?_ ) | (with_reducible refine State.when_touch ?_ ?_) | (with_reducible refine State.updCons_touch ?_ ?_) | (with_reducible refine foldl_touch ?_ ?_) | (with_reducible refine foldl_snd_touch ?_ ?_) | (with_reducible refine ite_touch ?_ ?_) | (with_reducible refine id_touch ?_) | intro _ _ | intro _ | dsimp only | split)

theorem execImportStart_touch {pools : List PoolImport} {conf : List ConfCopy} {quorum : List QuorumRead} {s : State} {t_ : State} (h_ : execImportStart pools conf quorum s = .next t_) : Touch 100663287 s t_ := by
  have hm_ : Nat.land 100663287 100663287 = 100663287 := by decide
  have ht_ := Touch.refl 100663287 s
  unfold execImportStart at h_
  repeat' (first | (obtain rfl := next_inj h_; clear h_) | (obtain rfl := bounded_next h_; clear h_) | dsimp only at h_ | split at h_)
  all_goals try dsimp only
  repeat' (first | with_reducible assumption | (exact sub_trans (by decide) hm_) | (with_reducible refine State.blocksRead_touch ?_ ?_ ) | (with_reducible refine State.enterM5_touch ?_ ?_ ) | (with_reducible refine State.importAll_touch ?_ ?_ ) | (with_reducible refine State.importConf_touch ?_ ?_ ) | (with_reducible refine State.importShelfKey_touch ?_ ?_ ) | (with_reducible refine State.replayCheck_touch ?_ ?_ ) | (with_reducible refine State.settle_touch ?_ ?_ ) | (with_reducible refine State.startPairing_touch ?_ ?_ ) | (with_reducible refine State.when_touch ?_ ?_) | (with_reducible refine State.updKeep_touch ?_ ?_) | (with_reducible refine State.updImages_touch ?_ ?_) | (with_reducible refine State.updBoot_touch ?_ ?_) | (with_reducible refine State.updPair_touch ?_ ?_) | (with_reducible refine foldl_touch ?_ ?_) | (with_reducible refine foldl_snd_touch ?_ ?_) | (with_reducible refine ite_touch ?_ ?_) | (with_reducible refine id_touch ?_) | intro _ _ | intro _ | dsimp only | split)

theorem State.enterSolo_touch {s : State} {m_ : Nat} {b_ : State} (hm_ : Nat.land 108527047 m_ = 108527047) (ht_ : Touch m_ b_ s) :
    Touch m_ b_ (State.enterSolo s) := by
  unfold State.enterSolo
  try dsimp only
  repeat' (first | with_reducible assumption | (exact sub_trans (by decide) hm_) | (with_reducible refine State.draw_touch ?_ ?_ ) | (with_reducible refine State.enterMode_touch ?_ ?_ ) | (with_reducible refine State.raiseEpoch_touch ?_ ?_ ) | (with_reducible refine State.recomputePs_touch ?_ ?_ ) | (with_reducible refine State.settle_touch ?_ ?_ ) | (with_reducible refine State.takeShelfKey_touch ?_ ?_ ) | (with_reducible refine ite_touch ?_ ?_) | (with_reducible refine id_touch ?_) | intro _ _ | intro _ | dsimp only | split)

theorem execModeDecision_touch {s : State} {t_ : State} (h_ : execModeDecision s = .next t_) : Touch 108527047 s t_ := by
  have hm_ : Nat.land 108527047 108527047 = 108527047 := by decide
  have ht_ := Touch.refl 108527047 s
  unfold execModeDecision at h_
  repeat' (first | (obtain rfl := next_inj h_; clear h_) | (obtain rfl := bounded_next h_; clear h_) | dsimp only at h_ | split at h_)
  all_goals try dsimp only
  repeat' (first | with_reducible assumption | (exact sub_trans (by decide) hm_) | (with_reducible refine State.applyEpoch_touch ?_ ?_ ) | (with_reducible refine State.enterMode_touch ?_ ?_ ) | (with_reducible refine State.enterSolo_touch ?_ ?_ ) | (with_reducible refine State.recomputePs_touch ?_ ?_ ) | (with_reducible refine State.startPairing_touch ?_ ?_ ) | (with_reducible refine State.updBoot_touch ?_ ?_) | (with_reducible refine State.updModes_touch ?_ ?_) | (with_reducible refine ite_touch ?_ ?_) | (with_reducible refine id_touch ?_) | intro _ _ | intro _ | dsimp only | split)

theorem execPairWaitExpiry_touch {blocks : List QuorumRead} {s : State} {t_ : State} (h_ : execPairWaitExpiry blocks s = .next t_) : Touch 73597120 s t_ := by
  have hm_ : Nat.land 73597120 73597120 = 73597120 := by decide
  have ht_ := Touch.refl 73597120 s
  unfold execPairWaitExpiry at h_
  repeat' (first | (obtain rfl := next_inj h_; clear h_) | (obtain rfl := bounded_next h_; clear h_) | dsimp only at h_ | split at h_)
  all_goals try dsimp only
  repeat' (first | with_reducible assumption | (exact sub_trans (by decide) hm_) | (with_reducible refine State.blocksRead_touch ?_ ?_ ) | (with_reducible refine State.waitEnded_touch ?_ ?_ ) | (with_reducible refine ite_touch ?_ ?_) | (with_reducible refine id_touch ?_) | intro _ _ | intro _ | dsimp only | split)

theorem execConfigImageWrite_touch {s : State} {t_ : State} (h_ : execConfigImageWrite s = .next t_) : Touch 73792 s t_ := by
  have hm_ : Nat.land 73792 73792 = 73792 := by decide
  have ht_ := Touch.refl 73792 s
  unfold execConfigImageWrite at h_
  repeat' (first | (obtain rfl := next_inj h_; clear h_) | (obtain rfl := bounded_next h_; clear h_) | dsimp only at h_ | split at h_)
  all_goals try dsimp only
  repeat' (first | with_reducible assumption | (exact sub_trans (by decide) hm_) | (with_reducible refine State.submitRun_touch ?_ ?_ ) | (with_reducible refine State.updPool_touch ?_ ?_ ) | (with_reducible refine State.updBoot_touch ?_ ?_) | (with_reducible refine foldl_touch ?_ ?_) | (with_reducible refine foldl_snd_touch ?_ ?_) | (with_reducible refine ite_touch ?_ ?_) | (with_reducible refine id_touch ?_) | intro _ _ | intro _ | dsimp only | split)

theorem execTimeSample_touch {partnerNs : Nat} {s : State} {t_ : State} (h_ : execTimeSample partnerNs s = .next t_) : Touch 131072 s t_ := by
  have hm_ : Nat.land 131072 131072 = 131072 := by decide
  have ht_ := Touch.refl 131072 s
  unfold execTimeSample at h_
  repeat' (first | (obtain rfl := next_inj h_; clear h_) | (obtain rfl := bounded_next h_; clear h_) | dsimp only at h_ | split at h_)
  all_goals try dsimp only
  repeat' (first | with_reducible assumption | (exact sub_trans (by decide) hm_) | (with_reducible refine State.updPair_touch ?_ ?_) | (with_reducible refine ite_touch ?_ ?_) | (with_reducible refine id_touch ?_) | intro _ _ | intro _ | dsimp only | split)

end Sys2Proof.Machine
end

