-- ==== Sys2Proof/Laws/TouchCipher.lean ====
section
/-! SUPPORT. What the operations of Machine/Cipher.lean can change: one lemma for each. -/
namespace Sys2Proof.Machine
set_option linter.all false

theorem execKeyUnwrapComplete_touch {handle gen : Nat} {s : State} {t_ : State} (h_ : execKeyUnwrapComplete handle gen s = .next t_) : Touch 74710016 s t_ := by
  have hm_ : Nat.land 74710016 74710016 = 74710016 := by decide
  have ht_ := Touch.refl 74710016 s
  unfold execKeyUnwrapComplete at h_
  repeat' (first | (obtain rfl := next_inj h_; clear h_) | (obtain rfl := bounded_next h_; clear h_) | dsimp only at h_ | split at h_)
  all_goals try dsimp only
  repeat' (first | with_reducible assumption | (exact sub_trans (by decide) hm_) | (with_reducible refine State.installKey_touch ?_ ?_ ) | (with_reducible refine State.keyReady_touch ?_ ?_ ) | (with_reducible refine ite_touch ?_ ?_) | (with_reducible refine id_touch ?_) | intro _ _ | intro _ | dsimp only | split)

theorem execCtrStepDurable_touch {handle gen : Nat} {s : State} {t_ : State} (h_ : execCtrStepDurable handle gen s = .next t_) : Touch 74710016 s t_ := by
  have hm_ : Nat.land 74710016 74710016 = 74710016 := by decide
  have ht_ := Touch.refl 74710016 s
  unfold execCtrStepDurable at h_
  repeat' (first | (obtain rfl := next_inj h_; clear h_) | (obtain rfl := bounded_next h_; clear h_) | dsimp only at h_ | split at h_)
  all_goals try dsimp only
  repeat' (first | with_reducible assumption | (exact sub_trans (by decide) hm_) | (with_reducible refine State.bump_touch ?_ ?_ ) | (with_reducible refine State.keyReady_touch ?_ ?_ ) | (with_reducible refine State.updGen_touch ?_ ?_ ) | (with_reducible refine ite_touch ?_ ?_) | (with_reducible refine id_touch ?_) | intro _ _ | intro _ | dsimp only | split)

theorem execGenerationActivation_touch {handle gen what : Nat} {s : State} {t_ : State} (h_ : execGenerationActivation handle gen what s = .next t_) : Touch 74710016 s t_ := by
  have hm_ : Nat.land 74710016 74710016 = 74710016 := by decide
  have ht_ := Touch.refl 74710016 s
  unfold execGenerationActivation at h_
  repeat' (first | (obtain rfl := next_inj h_; clear h_) | (obtain rfl := bounded_next h_; clear h_) | dsimp only at h_ | split at h_)
  all_goals try dsimp only
  repeat' (first | with_reducible assumption | (exact sub_trans (by decide) hm_) | (with_reducible refine State.applyActivate_touch ?_ ?_ ) | (with_reducible refine State.dirWrite_touch ?_ ?_ ) | (with_reducible refine State.keyReady_touch ?_ ?_ ) | (with_reducible refine State.raise_touch ?_ ?_ ) | (with_reducible refine State.settIn_touch ?_ ?_ ?_ ) | (with_reducible refine State.updGen_touch ?_ ?_ ) | (with_reducible refine State.updNs_touch ?_ ?_ ) | (with_reducible refine ite_touch ?_ ?_) | (with_reducible refine id_touch ?_) | intro _ _ | intro _ | dsimp only | split)

theorem execKeyDerivationComplete_touch {handle : Nat} {s : State} {t_ : State} (h_ : execKeyDerivationComplete handle s = .next t_) : Touch 108264448 s t_ := by
  have hm_ : Nat.land 108264448 108264448 = 108264448 := by decide
  have ht_ := Touch.refl 108264448 s
  unfold execKeyDerivationComplete at h_
  repeat' (first | (obtain rfl := next_inj h_; clear h_) | (obtain rfl := bounded_next h_; clear h_) | dsimp only at h_ | split at h_)
  all_goals try dsimp only
  repeat' (first | with_reducible assumption | (exact sub_trans (by decide) hm_) | (with_reducible refine State.activate_touch ?_ ?_ ) | (with_reducible refine State.deriveGen_touch ?_ ?_ ) | (with_reducible refine State.keyReady_touch ?_ ?_ ) | (with_reducible refine State.settIfPaired_touch ?_ ?_ ) | (with_reducible refine ite_touch ?_ ?_) | (with_reducible refine id_touch ?_) | intro _ _ | intro _ | dsimp only | split)

theorem State.laneFails_touch {lane : Nat} {s : State} {m_ : Nat} {b_ : State} (hm_ : Nat.land 69353472 m_ = 69353472) (ht_ : Touch m_ b_ s) :
    Touch m_ b_ (State.laneFails lane s) := by
  unfold State.laneFails
  try dsimp only
  repeat' (first | with_reducible assumption | (exact sub_trans (by decide) hm_) | (with_reducible refine State.singleFault_touch ?_ ?_ ) | (with_reducible refine State.updCipher_touch ?_ ?_) | (with_reducible refine ite_touch ?_ ?_) | (with_reducible refine id_touch ?_) | intro _ _ | intro _ | dsimp only | split)

theorem State.suspect_touch {x : Suspect} {s : State} {m_ : Nat} {b_ : State} (hm_ : Nat.land 73400320 m_ = 73400320) (ht_ : Touch m_ b_ s) :
    Touch m_ b_ (State.suspect x s) := by
  unfold State.suspect
  try dsimp only
  repeat' (first | with_reducible assumption | (exact sub_trans (by decide) hm_) | (with_reducible refine State.bumpN_touch ?_ ?_ ) | (with_reducible refine State.raise_touch ?_ ?_ ) | (with_reducible refine ite_touch ?_ ?_) | (with_reducible refine id_touch ?_) | intro _ _ | intro _ | dsimp only | split)

theorem execDupWindow_touch {mismatch badKat : List Nat} {suspects : List Suspect} {s : State} {t_ : State} (h_ : execDupWindow mismatch badKat suspects s = .next t_) : Touch 73547776 s t_ := by
  have hm_ : Nat.land 73547776 73547776 = 73547776 := by decide
  have ht_ := Touch.refl 73547776 s
  unfold execDupWindow at h_
  repeat' (first | (obtain rfl := next_inj h_; clear h_) | (obtain rfl := bounded_next h_; clear h_) | dsimp only at h_ | split at h_)
  all_goals try dsimp only
  repeat' (first | with_reducible assumption | (exact sub_trans (by decide) hm_) | (with_reducible refine State.laneFails_touch ?_ ?_ ) | (with_reducible refine State.suspect_touch ?_ ?_ ) | (with_reducible refine State.updCipher_touch ?_ ?_) | (with_reducible refine foldl_touch ?_ ?_) | (with_reducible refine foldl_snd_touch ?_ ?_) | (with_reducible refine ite_touch ?_ ?_) | (with_reducible refine id_touch ?_) | intro _ _ | intro _ | dsimp only | split)

theorem State.realignFails_touch {cage : Nat} {s : State} {m_ : Nat} {b_ : State} (hm_ : Nat.land 73613824 m_ = 73613824) (ht_ : Touch m_ b_ s) :
    Touch m_ b_ (State.realignFails cage s) := by
  unfold State.realignFails
  try dsimp only
  repeat' (first | with_reducible assumption | (exact sub_trans (by decide) hm_) | (with_reducible refine State.linkLost_touch ?_ ?_ ) | (with_reducible refine State.singleFault_touch ?_ ?_ ) | (with_reducible refine State.updCipher_touch ?_ ?_) | (with_reducible refine foldl_touch ?_ ?_) | (with_reducible refine foldl_snd_touch ?_ ?_) | (with_reducible refine ite_touch ?_ ?_) | (with_reducible refine id_touch ?_) | intro _ _ | intro _ | dsimp only | split)

theorem State.engineFails_touch {e : Nat} {s : State} {m_ : Nat} {b_ : State} (hm_ : Nat.land 69353472 m_ = 69353472) (ht_ : Touch m_ b_ s) :
    Touch m_ b_ (State.engineFails e s) := by
  unfold State.engineFails
  try dsimp only
  repeat' (first | with_reducible assumption | (exact sub_trans (by decide) hm_) | (with_reducible refine State.singleFault_touch ?_ ?_ ) | (with_reducible refine State.updCipher_touch ?_ ?_) | (with_reducible refine ite_touch ?_ ?_) | (with_reducible refine id_touch ?_) | intro _ _ | intro _ | dsimp only | split)

theorem execKnownAnswerCheck_touch {badRealigners badEngines : List Nat} {s : State} {t_ : State} (h_ : execKnownAnswerCheck badRealigners badEngines s = .next t_) : Touch 73613824 s t_ := by
  have hm_ : Nat.land 73613824 73613824 = 73613824 := by decide
  have ht_ := Touch.refl 73613824 s
  unfold execKnownAnswerCheck at h_
  repeat' (first | (obtain rfl := next_inj h_; clear h_) | (obtain rfl := bounded_next h_; clear h_) | dsimp only at h_ | split at h_)
  all_goals try dsimp only
  repeat' (first | with_reducible assumption | (exact sub_trans (by decide) hm_) | (with_reducible refine State.engineFails_touch ?_ ?_ ) | (with_reducible refine State.realignFails_touch ?_ ?_ ) | (with_reducible refine foldl_touch ?_ ?_) | (with_reducible refine foldl_snd_touch ?_ ?_) | (with_reducible refine ite_touch ?_ ?_) | (with_reducible refine id_touch ?_) | intro _ _ | intro _ | dsimp only | split)

theorem execSecurityFault_touch {code : Nat} {s : State} {t_ : State} (h_ : execSecurityFault code s = .next t_) : Touch 74710471 s t_ := by
  have hm_ : Nat.land 74710471 74710471 = 74710471 := by decide
  have ht_ := Touch.refl 74710471 s
  unfold execSecurityFault at h_
  repeat' (first | (obtain rfl := next_inj h_; clear h_) | (obtain rfl := bounded_next h_; clear h_) | dsimp only at h_ | split at h_)
  all_goals try dsimp only
  repeat' (first | with_reducible assumption | (exact sub_trans (by decide) hm_) | (with_reducible refine State.enterM5_touch ?_ ?_ ) | (with_reducible refine ite_touch ?_ ?_) | (with_reducible refine id_touch ?_) | intro _ _ | intro _ | dsimp only | split)

theorem execKeyErasure_touch {s : State} {t_ : State} (h_ : execKeyErasure s = .next t_) : Touch 49408 s t_ := by
  have hm_ : Nat.land 49408 49408 = 49408 := by decide
  have ht_ := Touch.refl 49408 s
  unfold execKeyErasure at h_
  repeat' (first | (obtain rfl := next_inj h_; clear h_) | (obtain rfl := bounded_next h_; clear h_) | dsimp only at h_ | split at h_)
  all_goals try dsimp only
  repeat' (first | with_reducible assumption | (exact sub_trans (by decide) hm_) | (with_reducible refine State.eraseKeys_touch ?_ ?_ ) | (with_reducible refine State.updSpine_touch ?_ ?_) | (with_reducible refine ite_touch ?_ ?_) | (with_reducible refine id_touch ?_) | intro _ _ | intro _ | dsimp only | split)

theorem execDebugAccessAttempt_touch {s : State} {t_ : State} (h_ : execDebugAccessAttempt s = .next t_) : Touch 32768 s t_ := by
  have hm_ : Nat.land 32768 32768 = 32768 := by decide
  have ht_ := Touch.refl 32768 s
  unfold execDebugAccessAttempt at h_
  repeat' (first | (obtain rfl := next_inj h_; clear h_) | (obtain rfl := bounded_next h_; clear h_) | dsimp only at h_ | split at h_)
  all_goals try dsimp only
  repeat' (first | with_reducible assumption | (exact sub_trans (by decide) hm_) | (with_reducible refine State.updEnclave_touch ?_ ?_) | (with_reducible refine ite_touch ?_ ?_) | (with_reducible refine id_touch ?_) | intro _ _ | intro _ | dsimp only | split)

theorem execCoreLockstepMismatch_touch {pair : Nat} {s : State} {t_ : State} (h_ : execCoreLockstepMismatch pair s = .next t_) : Touch 69337344 s t_ := by
  have hm_ : Nat.land 69337344 69337344 = 69337344 := by decide
  have ht_ := Touch.refl 69337344 s
  unfold execCoreLockstepMismatch at h_
  repeat' (first | (obtain rfl := next_inj h_; clear h_) | (obtain rfl := bounded_next h_; clear h_) | dsimp only at h_ | split at h_)
  all_goals try dsimp only
  repeat' (first | with_reducible assumption | (exact sub_trans (by decide) hm_) | (with_reducible refine State.singleFault_touch ?_ ?_ ) | (with_reducible refine State.updSpine_touch ?_ ?_) | (with_reducible refine ite_touch ?_ ?_) | (with_reducible refine id_touch ?_) | intro _ _ | intro _ | dsimp only | split)

end Sys2Proof.Machine
end

