-- ==== Sys2Proof/Laws/TouchJobs.lean ====
section
/-! SUPPORT. What the operations of Machine/Jobs.lean can change: one lemma for each. -/
namespace Sys2Proof.Machine
set_option linter.all false

theorem State.raiseTo_touch {id code n data : Nat} {s : State} {m_ : Nat} {b_ : State} (hm_ : Nat.land 69206016 m_ = 69206016) (ht_ : Touch m_ b_ s) :
    Touch m_ b_ (State.raiseTo id code n data s) := by
  unfold State.raiseTo
  try dsimp only
  repeat' (first | with_reducible assumption | (exact sub_trans (by decide) hm_) | (with_reducible refine State.updSession_touch ?_ ?_ ) | (with_reducible refine State.updSent_touch ?_ ?_) | (with_reducible refine ite_touch ?_ ?_) | (with_reducible refine id_touch ?_) | intro _ _ | intro _ | dsimp only | split)

theorem State.jobEvent_touch {j session data : Nat} {s : State} {m_ : Nat} {b_ : State} (hm_ : Nat.land 69206016 m_ = 69206016) (ht_ : Touch m_ b_ s) :
    Touch m_ b_ (State.jobEvent j session data s) := by
  unfold State.jobEvent
  try dsimp only
  repeat' (first | with_reducible assumption | (exact sub_trans (by decide) hm_) | (with_reducible refine State.raise_touch ?_ ?_ ) | (with_reducible refine State.raiseTo_touch ?_ ?_ ) | (with_reducible refine ite_touch ?_ ?_) | (with_reducible refine id_touch ?_) | intro _ _ | intro _ | dsimp only | split)

theorem State.jobCommit_touch {op arg status : Nat} {s : State} {m_ : Nat} {b_ : State} (hm_ : Nat.land 73920532 m_ = 73920532) (ht_ : Touch m_ b_ s) :
    Touch m_ b_ (State.jobCommit op arg status s).2 := by
  unfold State.jobCommit
  try dsimp only
  repeat' (first | with_reducible assumption | (exact sub_trans (by decide) hm_) | (with_reducible refine State.driveFormatted_touch ?_ ?_ ) | (with_reducible refine State.imageWritten_touch ?_ ?_ ) | (refine snd_touch (by with_reducible assumption) (State.imageWritten_touch ?_ ?_ )) | (with_reducible refine State.nsDeleted_touch ?_ ?_ ) | (with_reducible refine State.poolCreated_touch ?_ ?_ ) | (with_reducible refine State.poolDeleted_touch ?_ ?_ ) | (with_reducible refine State.poolFailed_touch ?_ ?_ ) | (with_reducible refine State.rotationDone_touch ?_ ?_ ) | (with_reducible refine State.settIfPaired_touch ?_ ?_ ) | (with_reducible refine State.when_touch ?_ ?_) | (with_reducible refine State.updCcp_touch ?_ ?_) | (with_reducible refine ite_touch ?_ ?_) | (with_reducible refine id_touch ?_) | intro _ _ | intro _ | dsimp only | split)

theorem execJobComplete_touch {job status : Nat} {s : State} {t_ : State} (h_ : execJobComplete job status s = .next t_) : Touch 73920532 s t_ := by
  have hm_ : Nat.land 73920532 73920532 = 73920532 := by decide
  have ht_ := Touch.refl 73920532 s
  unfold execJobComplete at h_
  repeat' (first | (obtain rfl := next_inj h_; clear h_) | (obtain rfl := bounded_next h_; clear h_) | dsimp only at h_ | split at h_)
  all_goals try dsimp only
  repeat' (first | with_reducible assumption | (exact sub_trans (by decide) hm_) | (with_reducible refine State.jobCommit_touch ?_ ?_ ) | (refine snd_touch (by with_reducible assumption) (State.jobCommit_touch ?_ ?_ )) | (with_reducible refine State.jobEvent_touch ?_ ?_ ) | (with_reducible refine State.updCcp_touch ?_ ?_) | (with_reducible refine ite_touch ?_ ?_) | (with_reducible refine id_touch ?_) | intro _ _ | intro _ | dsimp only | split)

end Sys2Proof.Machine
end

