-- ==== Sys2Proof/Laws/TouchLifeCycle.lean ====
section
/-! SUPPORT. What the operations of Machine/LifeCycle.lean can change: one lemma for each. -/
namespace Sys2Proof.Machine
set_option linter.all false

theorem execFwLoad_touch {h : CcpHdr} {offset : Nat} {bytes : Bytes} {s : State} {t_ : State} (h_ : execFwLoad h offset bytes s = .next t_) : Touch 74580097 s t_ := by
  have hm_ : Nat.land 74580097 74580097 = 74580097 := by decide
  have ht_ := Touch.refl 74580097 s
  unfold execFwLoad at h_
  repeat' (first | (obtain rfl := next_inj h_; clear h_) | (obtain rfl := bounded_next h_; clear h_) | dsimp only at h_ | split at h_)
  all_goals try dsimp only
  repeat' (first | with_reducible assumption | (exact sub_trans (by decide) hm_) | (with_reducible refine State.ccpFail_touch ?_ ?_ ) | (with_reducible refine State.ccpReply_touch ?_ ?_ ) | (with_reducible refine State.ccpSimple_touch ?_ ?_ ?_ ) | (with_reducible refine State.ccpUnstage_touch ?_ ?_ ) | (with_reducible refine State.updCcp_touch ?_ ?_) | (with_reducible refine ite_touch ?_ ?_) | (with_reducible refine id_touch ?_) | intro _ _ | intro _ | dsimp only | split)

theorem execFwCommit_touch {h : CcpHdr} {length : Nat} {image : ImageCheck} {s : State} {t_ : State} (h_ : execFwCommit h length image s = .next t_) : Touch 74580113 s t_ := by
  have hm_ : Nat.land 74580113 74580113 = 74580113 := by decide
  have ht_ := Touch.refl 74580113 s
  unfold execFwCommit at h_
  repeat' (first | (obtain rfl := next_inj h_; clear h_) | (obtain rfl := bounded_next h_; clear h_) | dsimp only at h_ | split at h_)
  all_goals try dsimp only
  repeat' (first | with_reducible assumption | (exact sub_trans (by decide) hm_) | (with_reducible refine State.ccpSimple_touch ?_ ?_ ?_ ) | (with_reducible refine State.localJob_touch ?_ ?_ ?_ ) | (with_reducible refine State.updImages_touch ?_ ?_) | (with_reducible refine State.updCcp_touch ?_ ?_) | (with_reducible refine ite_touch ?_ ?_) | (with_reducible refine id_touch ?_) | intro _ _ | intro _ | dsimp only | split)

theorem execRollbackAdvance_touch {h : CcpHdr} {count : Nat} {s : State} {t_ : State} (h_ : execRollbackAdvance h count s = .next t_) : Touch 74580105 s t_ := by
  have hm_ : Nat.land 74580105 74580105 = 74580105 := by decide
  have ht_ := Touch.refl 74580105 s
  unfold execRollbackAdvance at h_
  repeat' (first | (obtain rfl := next_inj h_; clear h_) | (obtain rfl := bounded_next h_; clear h_) | dsimp only at h_ | split at h_)
  all_goals try dsimp only
  repeat' (first | with_reducible assumption | (exact sub_trans (by decide) hm_) | (with_reducible refine State.ccpFail_touch ?_ ?_ ) | (with_reducible refine State.ccpReply_touch ?_ ?_ ) | (with_reducible refine State.ccpSimple_touch ?_ ?_ ?_ ) | (with_reducible refine State.updFuses_touch ?_ ?_) | (with_reducible refine ite_touch ?_ ?_) | (with_reducible refine id_touch ?_) | intro _ _ | intro _ | dsimp only | split)

theorem execReset_touch {h : CcpHdr} {s : State} {t_ : State} (h_ : execReset h s = .next t_) : Touch 134217703 s t_ := by
  have hm_ : Nat.land 134217703 134217703 = 134217703 := by decide
  have ht_ := Touch.refl 134217703 s
  unfold execReset at h_
  repeat' (first | (obtain rfl := next_inj h_; clear h_) | (obtain rfl := bounded_next h_; clear h_) | dsimp only at h_ | split at h_)
  all_goals try dsimp only
  repeat' (first | with_reducible assumption | (exact sub_trans (by decide) hm_) | (with_reducible refine State.ccpReply_touch ?_ ?_ ) | (with_reducible refine State.ccpSimple_touch ?_ ?_ ?_ ) | (with_reducible refine State.resetController_touch ?_ ?_ ) | (with_reducible refine ite_touch ?_ ?_) | (with_reducible refine id_touch ?_) | intro _ _ | intro _ | dsimp only | split)

theorem execDiagRun_touch {h : CcpHdr} {test : Nat} {s : State} {t_ : State} (h_ : execDiagRun h test s = .next t_) : Touch 74580097 s t_ := by
  have hm_ : Nat.land 74580097 74580097 = 74580097 := by decide
  have ht_ := Touch.refl 74580097 s
  unfold execDiagRun at h_
  repeat' (first | (obtain rfl := next_inj h_; clear h_) | (obtain rfl := bounded_next h_; clear h_) | dsimp only at h_ | split at h_)
  all_goals try dsimp only
  repeat' (first | with_reducible assumption | (exact sub_trans (by decide) hm_) | (with_reducible refine State.ccpSimple_touch ?_ ?_ ?_ ) | (with_reducible refine State.localJob_touch ?_ ?_ ?_ ) | (with_reducible refine ite_touch ?_ ?_) | (with_reducible refine id_touch ?_) | intro _ _ | intro _ | dsimp only | split)

theorem State.wipeAll_touch {s : State} {m_ : Nat} {b_ : State} (hm_ : Nat.land 8193 m_ = 8193) (ht_ : Touch m_ b_ s) :
    Touch m_ b_ (State.wipeAll s) := by
  unfold State.wipeAll
  try dsimp only
  repeat' (first | with_reducible assumption | (exact sub_trans (by decide) hm_) | (with_reducible refine State.journal_touch ?_ ?_ ) | (with_reducible refine State.updDen_touch ?_ ?_) | (with_reducible refine State.updLayout_touch ?_ ?_) | (with_reducible refine ite_touch ?_ ?_) | (with_reducible refine id_touch ?_) | intro _ _ | intro _ | dsimp only | split)

theorem execLifecycleStep_touch {h : CcpHdr} {target : Nat} {prov : Provisioning} {s : State} {t_ : State} (h_ : execLifecycleStep h target prov s = .next t_) : Touch 134217711 s t_ := by
  have hm_ : Nat.land 134217711 134217711 = 134217711 := by decide
  have ht_ := Touch.refl 134217711 s
  unfold execLifecycleStep at h_
  repeat' (first | (obtain rfl := next_inj h_; clear h_) | (obtain rfl := bounded_next h_; clear h_) | dsimp only at h_ | split at h_)
  all_goals try dsimp only
  repeat' (first | with_reducible assumption | (exact sub_trans (by decide) hm_) | (with_reducible refine State.ccpFail_touch ?_ ?_ ) | (with_reducible refine State.ccpReply_touch ?_ ?_ ) | (with_reducible refine State.ccpSimple_touch ?_ ?_ ?_ ) | (with_reducible refine State.resetController_touch ?_ ?_ ) | (with_reducible refine State.stopService_touch ?_ ?_ ) | (with_reducible refine State.wipeAll_touch ?_ ?_ ) | (with_reducible refine State.updFuses_touch ?_ ?_) | (with_reducible refine ite_touch ?_ ?_) | (with_reducible refine id_touch ?_) | intro _ _ | intro _ | dsimp only | split)

theorem execRootBirth_touch {h : CcpHdr} {s : State} {t_ : State} (h_ : execRootBirth h s = .next t_) : Touch 108134537 s t_ := by
  have hm_ : Nat.land 108134537 108134537 = 108134537 := by decide
  have ht_ := Touch.refl 108134537 s
  unfold execRootBirth at h_
  repeat' (first | (obtain rfl := next_inj h_; clear h_) | (obtain rfl := bounded_next h_; clear h_) | dsimp only at h_ | split at h_)
  all_goals try dsimp only
  repeat' (first | with_reducible assumption | (exact sub_trans (by decide) hm_) | (with_reducible refine State.ccpFail_touch ?_ ?_ ) | (with_reducible refine State.ccpReply_touch ?_ ?_ ) | (with_reducible refine State.ccpSimple_touch ?_ ?_ ?_ ) | (with_reducible refine State.draw_touch ?_ ?_ ) | (with_reducible refine State.updFuses_touch ?_ ?_) | (with_reducible refine ite_touch ?_ ?_) | (with_reducible refine id_touch ?_) | intro _ _ | intro _ | dsimp only | split)

theorem execUnlockChallenge_touch {h : CcpHdr} {s : State} {t_ : State} (h_ : execUnlockChallenge h s = .next t_) : Touch 108167297 s t_ := by
  have hm_ : Nat.land 108167297 108167297 = 108167297 := by decide
  have ht_ := Touch.refl 108167297 s
  unfold execUnlockChallenge at h_
  repeat' (first | (obtain rfl := next_inj h_; clear h_) | (obtain rfl := bounded_next h_; clear h_) | dsimp only at h_ | split at h_)
  all_goals try dsimp only
  repeat' (first | with_reducible assumption | (exact sub_trans (by decide) hm_) | (with_reducible refine State.ccpFail_touch ?_ ?_ ) | (with_reducible refine State.ccpReply_touch ?_ ?_ ) | (with_reducible refine State.ccpSimple_touch ?_ ?_ ?_ ) | (with_reducible refine State.draw_touch ?_ ?_ ) | (with_reducible refine State.updEnclave_touch ?_ ?_) | (with_reducible refine ite_touch ?_ ?_) | (with_reducible refine id_touch ?_) | intro _ _ | intro _ | dsimp only | split)

theorem execDebugUnlock_touch {h : CcpHdr} {token : UnlockToken} {s : State} {t_ : State} (h_ : execDebugUnlock h token s = .next t_) : Touch 74612865 s t_ := by
  have hm_ : Nat.land 74612865 74612865 = 74612865 := by decide
  have ht_ := Touch.refl 74612865 s
  unfold execDebugUnlock at h_
  repeat' (first | (obtain rfl := next_inj h_; clear h_) | (obtain rfl := bounded_next h_; clear h_) | dsimp only at h_ | split at h_)
  all_goals try dsimp only
  repeat' (first | with_reducible assumption | (exact sub_trans (by decide) hm_) | (with_reducible refine State.ccpFail_touch ?_ ?_ ) | (with_reducible refine State.ccpReply_touch ?_ ?_ ) | (with_reducible refine State.ccpSimple_touch ?_ ?_ ?_ ) | (with_reducible refine State.ccpUnstage_touch ?_ ?_ ) | (with_reducible refine State.credentialBad_touch ?_ ?_ ) | (with_reducible refine State.updEnclave_touch ?_ ?_) | (with_reducible refine ite_touch ?_ ?_) | (with_reducible refine id_touch ?_) | intro _ _ | intro _ | dsimp only | split)

theorem execLockdownClear_touch {h : CcpHdr} {s : State} {t_ : State} (h_ : execLockdownClear h s = .next t_) : Touch 74580101 s t_ := by
  have hm_ : Nat.land 74580101 74580101 = 74580101 := by decide
  have ht_ := Touch.refl 74580101 s
  unfold execLockdownClear at h_
  repeat' (first | (obtain rfl := next_inj h_; clear h_) | (obtain rfl := bounded_next h_; clear h_) | dsimp only at h_ | split at h_)
  all_goals try dsimp only
  repeat' (first | with_reducible assumption | (exact sub_trans (by decide) hm_) | (with_reducible refine State.ccpReply_touch ?_ ?_ ) | (with_reducible refine State.ccpSimple_touch ?_ ?_ ?_ ) | (with_reducible refine State.updKeep_touch ?_ ?_) | (with_reducible refine ite_touch ?_ ?_) | (with_reducible refine id_touch ?_) | intro _ _ | intro _ | dsimp only | split)

end Sys2Proof.Machine
end

