-- ==== Sys2Proof/Laws/TouchPools.lean ====
section
/-! SUPPORT. What the operations of Machine/Pools.lean can change: one lemma for each. -/
namespace Sys2Proof.Machine
set_option linter.all false

theorem execPoolCreate_touch {h : CcpHdr} {pool : Nat} {s : State} {t_ : State} (h_ : execPoolCreate h pool s = .next t_) : Touch 74915973 s t_ := by
  have hm_ : Nat.land 74915973 74915973 = 74915973 := by decide
  have ht_ := Touch.refl 74915973 s
  unfold execPoolCreate at h_
  repeat' (first | (obtain rfl := next_inj h_; clear h_) | (obtain rfl := bounded_next h_; clear h_) | dsimp only at h_ | split at h_)
  all_goals try dsimp only
  repeat' (first | with_reducible assumption | (exact sub_trans (by decide) hm_) | (with_reducible refine State.ccpSimple_touch ?_ ?_ ?_ ) | (with_reducible refine State.orderDrives_touch ?_ ?_ ) | (with_reducible refine State.poolBegin_touch ?_ ?_ ) | (with_reducible refine State.poolCreated_touch ?_ ?_ ) | (with_reducible refine State.poolFailed_touch ?_ ?_ ) | (with_reducible refine State.sharedJob_touch ?_ ?_ ?_ ) | (with_reducible refine State.when_touch ?_ ?_) | (with_reducible refine ite_touch ?_ ?_) | (with_reducible refine id_touch ?_) | intro _ _ | intro _ | dsimp only | split)

theorem execPoolDelete_touch {h : CcpHdr} {pool : Nat} {s : State} {t_ : State} (h_ : execPoolDelete h pool s = .next t_) : Touch 74850433 s t_ := by
  have hm_ : Nat.land 74850433 74850433 = 74850433 := by decide
  have ht_ := Touch.refl 74850433 s
  unfold execPoolDelete at h_
  repeat' (first | (obtain rfl := next_inj h_; clear h_) | (obtain rfl := bounded_next h_; clear h_) | dsimp only at h_ | split at h_)
  all_goals try dsimp only
  repeat' (first | with_reducible assumption | (exact sub_trans (by decide) hm_) | (with_reducible refine State.ccpSimple_touch ?_ ?_ ?_ ) | (with_reducible refine State.orderDrives_touch ?_ ?_ ) | (with_reducible refine State.poolDeleted_touch ?_ ?_ ) | (with_reducible refine State.sharedJob_touch ?_ ?_ ?_ ) | (with_reducible refine State.when_touch ?_ ?_) | (with_reducible refine ite_touch ?_ ?_) | (with_reducible refine id_touch ?_) | intro _ _ | intro _ | dsimp only | split)

theorem execMemberFail_touch {h : CcpHdr} {slot : Nat} {s : State} {t_ : State} (h_ : execMemberFail h slot s = .next t_) : Touch 74588289 s t_ := by
  have hm_ : Nat.land 74588289 74588289 = 74588289 := by decide
  have ht_ := Touch.refl 74588289 s
  unfold execMemberFail at h_
  repeat' (first | (obtain rfl := next_inj h_; clear h_) | (obtain rfl := bounded_next h_; clear h_) | dsimp only at h_ | split at h_)
  all_goals try dsimp only
  repeat' (first | with_reducible assumption | (exact sub_trans (by decide) hm_) | (with_reducible refine State.ccpSimple_touch ?_ ?_ ?_ ) | (with_reducible refine State.failMember_touch ?_ ?_ ) | (with_reducible refine State.sharedDo_touch ?_ ?_ ?_ ) | (with_reducible refine ite_touch ?_ ?_) | (with_reducible refine id_touch ?_) | intro _ _ | intro _ | dsimp only | split)

theorem execDriveFormat_touch {h : CcpHdr} {slot : Nat} {s : State} {t_ : State} (h_ : execDriveFormat h slot s = .next t_) : Touch 74842241 s t_ := by
  have hm_ : Nat.land 74842241 74842241 = 74842241 := by decide
  have ht_ := Touch.refl 74842241 s
  unfold execDriveFormat at h_
  repeat' (first | (obtain rfl := next_inj h_; clear h_) | (obtain rfl := bounded_next h_; clear h_) | dsimp only at h_ | split at h_)
  all_goals try dsimp only
  repeat' (first | with_reducible assumption | (exact sub_trans (by decide) hm_) | (with_reducible refine State.ccpSimple_touch ?_ ?_ ?_ ) | (with_reducible refine State.driveFormatted_touch ?_ ?_ ) | (with_reducible refine State.orderDrives_touch ?_ ?_ ) | (with_reducible refine State.sharedJob_touch ?_ ?_ ?_ ) | (with_reducible refine State.when_touch ?_ ?_) | (with_reducible refine ite_touch ?_ ?_) | (with_reducible refine id_touch ?_) | intro _ _ | intro _ | dsimp only | split)

theorem execNsCreate_touch {h : CcpHdr} {desc : NsDescReq} {s : State} {t_ : State} (h_ : execNsCreate h desc s = .next t_) : Touch 108261505 s t_ := by
  have hm_ : Nat.land 108261505 108261505 = 108261505 := by decide
  have ht_ := Touch.refl 108261505 s
  unfold execNsCreate at h_
  repeat' (first | (obtain rfl := next_inj h_; clear h_) | (obtain rfl := bounded_next h_; clear h_) | dsimp only at h_ | split at h_)
  all_goals try dsimp only
  repeat' (first | with_reducible assumption | (exact sub_trans (by decide) hm_) | (with_reducible refine State.ccpSimple_touch ?_ ?_ ?_ ) | (with_reducible refine State.makeNs_touch ?_ ?_ ) | (with_reducible refine State.sharedDo_touch ?_ ?_ ?_ ) | (with_reducible refine State.sharedDone_touch ?_ ?_ ) | (with_reducible refine ite_touch ?_ ?_) | (with_reducible refine id_touch ?_) | intro _ _ | intro _ | dsimp only | split)

theorem execNsCreatePlain_touch {h : CcpHdr} {desc : NsDescReq} {s : State} {t_ : State} (h_ : execNsCreatePlain h desc s = .next t_) : Touch 74608769 s t_ := by
  have hm_ : Nat.land 74608769 74608769 = 74608769 := by decide
  have ht_ := Touch.refl 74608769 s
  unfold execNsCreatePlain at h_
  repeat' (first | (obtain rfl := next_inj h_; clear h_) | (obtain rfl := bounded_next h_; clear h_) | dsimp only at h_ | split at h_)
  all_goals try dsimp only
  repeat' (first | with_reducible assumption | (exact sub_trans (by decide) hm_) | (with_reducible refine State.ccpSimple_touch ?_ ?_ ?_ ) | (with_reducible refine State.nsCreated_touch ?_ ?_ ) | (with_reducible refine State.sharedDo_touch ?_ ?_ ?_ ) | (with_reducible refine ite_touch ?_ ?_) | (with_reducible refine id_touch ?_) | intro _ _ | intro _ | dsimp only | split)

theorem execNsDelete_touch {h : CcpHdr} {handle : Nat} {s : State} {t_ : State} (h_ : execNsDelete h handle s = .next t_) : Touch 74707073 s t_ := by
  have hm_ : Nat.land 74707073 74707073 = 74707073 := by decide
  have ht_ := Touch.refl 74707073 s
  unfold execNsDelete at h_
  repeat' (first | (obtain rfl := next_inj h_; clear h_) | (obtain rfl := bounded_next h_; clear h_) | dsimp only at h_ | split at h_)
  all_goals try dsimp only
  repeat' (first | with_reducible assumption | (exact sub_trans (by decide) hm_) | (with_reducible refine State.ccpSimple_touch ?_ ?_ ?_ ) | (with_reducible refine State.nsDeleted_touch ?_ ?_ ) | (with_reducible refine State.nsDeleting_touch ?_ ?_ ) | (with_reducible refine State.orderDrives_touch ?_ ?_ ) | (with_reducible refine State.sharedJob_touch ?_ ?_ ?_ ) | (with_reducible refine State.when_touch ?_ ?_) | (with_reducible refine foldl_touch ?_ ?_) | (with_reducible refine foldl_snd_touch ?_ ?_) | (with_reducible refine ite_touch ?_ ?_) | (with_reducible refine id_touch ?_) | intro _ _ | intro _ | dsimp only | split)

theorem execNsDeletePlain_touch {h : CcpHdr} {handle : Nat} {s : State} {t_ : State} (h_ : execNsDeletePlain h handle s = .next t_) : Touch 74707073 s t_ := by
  have hm_ : Nat.land 74707073 74707073 = 74707073 := by decide
  have ht_ := Touch.refl 74707073 s
  unfold execNsDeletePlain at h_
  repeat' (first | (obtain rfl := next_inj h_; clear h_) | (obtain rfl := bounded_next h_; clear h_) | dsimp only at h_ | split at h_)
  all_goals try dsimp only
  repeat' (first | with_reducible assumption | (exact sub_trans (by decide) hm_) | (with_reducible refine State.ccpSimple_touch ?_ ?_ ?_ ) | (with_reducible refine State.nsDeleted_touch ?_ ?_ ) | (with_reducible refine State.nsDeleting_touch ?_ ?_ ) | (with_reducible refine State.orderDrives_touch ?_ ?_ ) | (with_reducible refine State.sharedJob_touch ?_ ?_ ?_ ) | (with_reducible refine State.when_touch ?_ ?_) | (with_reducible refine foldl_touch ?_ ?_) | (with_reducible refine foldl_snd_touch ?_ ?_) | (with_reducible refine ite_touch ?_ ?_) | (with_reducible refine id_touch ?_) | intro _ _ | intro _ | dsimp only | split)

theorem execCryptoErase_touch {h : CcpHdr} {handle copies : Nat} {s : State} {t_ : State} (h_ : execCryptoErase h handle copies s = .next t_) : Touch 74694785 s t_ := by
  have hm_ : Nat.land 74694785 74694785 = 74694785 := by decide
  have ht_ := Touch.refl 74694785 s
  unfold execCryptoErase at h_
  repeat' (first | (obtain rfl := next_inj h_; clear h_) | (obtain rfl := bounded_next h_; clear h_) | dsimp only at h_ | split at h_)
  all_goals try dsimp only
  repeat' (first | with_reducible assumption | (exact sub_trans (by decide) hm_) | (with_reducible refine State.ccpSimple_touch ?_ ?_ ?_ ) | (with_reducible refine State.eraseNsKeys_touch ?_ ?_ ) | (with_reducible refine State.sharedDo_touch ?_ ?_ ?_ ) | (with_reducible refine ite_touch ?_ ?_) | (with_reducible refine id_touch ?_) | intro _ _ | intro _ | dsimp only | split)

end Sys2Proof.Machine
end

