-- ==== Sys2Proof/Laws/TouchScheduling.lean ====
section
/-! SUPPORT. What the operations of Machine/Scheduling.lean can change: one lemma for each. -/
namespace Sys2Proof.Machine
set_option linter.all false

theorem State.issueDrive_touch {slot : Nat} {k : Option Nat} {it : QItem} {s : State} {m_ : Nat} {b_ : State} (hm_ : Nat.land 71630848 m_ = 71630848) (ht_ : Touch m_ b_ s) :
    Touch m_ b_ (State.issueDrive slot k it s) := by
  unfold State.issueDrive
  try dsimp only
  repeat' (first | with_reducible assumption | (exact sub_trans (by decide) hm_) | (with_reducible refine State.charge_touch ?_ ?_ ) | (with_reducible refine State.deviceCharge_touch ?_ ?_ ) | (with_reducible refine State.issue_touch ?_ ?_ ) | (with_reducible refine State.visible_touch ?_ ?_ ) | (with_reducible refine State.when_touch ?_ ?_) | (with_reducible refine ite_touch ?_ ?_) | (with_reducible refine id_touch ?_) | intro _ _ | intro _ | dsimp only | split)

theorem execDriveDispatch_touch {slot : Nat} {s : State} {t_ : State} (h_ : execDriveDispatch slot s = .next t_) : Touch 71630848 s t_ := by
  have hm_ : Nat.land 71630848 71630848 = 71630848 := by decide
  have ht_ := Touch.refl 71630848 s
  unfold execDriveDispatch at h_
  repeat' (first | (obtain rfl := next_inj h_; clear h_) | (obtain rfl := bounded_next h_; clear h_) | dsimp only at h_ | split at h_)
  all_goals try dsimp only
  repeat' (first | with_reducible assumption | (exact sub_trans (by decide) hm_) | (with_reducible refine State.issueDrive_touch ?_ ?_ ) | (with_reducible refine ite_touch ?_ ?_) | (with_reducible refine id_touch ?_) | intro _ _ | intro _ | dsimp only | split)

theorem execBackgroundDispatch_touch {pool : Nat} {s : State} {t_ : State} (h_ : execBackgroundDispatch pool s = .next t_) : Touch 4259840 s t_ := by
  have hm_ : Nat.land 4259840 4259840 = 4259840 := by decide
  have ht_ := Touch.refl 4259840 s
  unfold execBackgroundDispatch at h_
  repeat' (first | (obtain rfl := next_inj h_; clear h_) | (obtain rfl := bounded_next h_; clear h_) | dsimp only at h_ | split at h_)
  all_goals try dsimp only
  repeat' (first | with_reducible assumption | (exact sub_trans (by decide) hm_) | (with_reducible refine State.charge_touch ?_ ?_ ) | (with_reducible refine State.issue_touch ?_ ?_ ) | (with_reducible refine State.submitIssued_touch ?_ ?_ ) | (with_reducible refine ite_touch ?_ ?_) | (with_reducible refine id_touch ?_) | intro _ _ | intro _ | dsimp only | split)

theorem execShaperSlotFire_touch {point us : Nat} {s : State} {t_ : State} (h_ : execShaperSlotFire point us s = .next t_) : Touch 4259840 s t_ := by
  have hm_ : Nat.land 4259840 4259840 = 4259840 := by decide
  have ht_ := Touch.refl 4259840 s
  unfold execShaperSlotFire at h_
  repeat' (first | (obtain rfl := next_inj h_; clear h_) | (obtain rfl := bounded_next h_; clear h_) | dsimp only at h_ | split at h_)
  all_goals try dsimp only
  repeat' (first | with_reducible assumption | (exact sub_trans (by decide) hm_) | (with_reducible refine State.parkIf_touch ?_ ?_ ) | (with_reducible refine foldl_touch ?_ ?_) | (with_reducible refine foldl_snd_touch ?_ ?_) | (with_reducible refine ite_touch ?_ ?_) | (with_reducible refine id_touch ?_) | intro _ _ | intro _ | dsimp only | split)

end Sys2Proof.Machine
end

