-- ==== Sys2Proof/Laws/TouchTenants.lean ====
section
/-! SUPPORT. What the operations of Machine/Tenants.lean can change: one lemma for each. -/
namespace Sys2Proof.Machine
set_option linter.all false

theorem State.updTenant_touch {t : Nat} {f : Tenant → Tenant} {s : State} {m_ : Nat} {b_ : State} (hm_ : Nat.land 98304 m_ = 98304) (ht_ : Touch m_ b_ s) :
    Touch m_ b_ (State.updTenant t f s) := by
  unfold State.updTenant
  try dsimp only
  repeat' (first | with_reducible assumption | (exact sub_trans (by decide) hm_) | (with_reducible refine State.submit_touch ?_ ?_ ) | (with_reducible refine State.updEnclave_touch ?_ ?_) | (with_reducible refine foldl_touch ?_ ?_) | (with_reducible refine foldl_snd_touch ?_ ?_) | (with_reducible refine ite_touch ?_ ?_) | (with_reducible refine id_touch ?_) | intro _ _ | intro _ | dsimp only | split)

theorem State.endTenantSessions_touch {t : Nat} {s : State} {m_ : Nat} {b_ : State} (hm_ : Nat.land 2097152 m_ = 2097152) (ht_ : Touch m_ b_ s) :
    Touch m_ b_ (State.endTenantSessions t s) := by
  unfold State.endTenantSessions
  try dsimp only
  repeat' (first | with_reducible assumption | (exact sub_trans (by decide) hm_) | (with_reducible refine State.dropSession_touch ?_ ?_ ) | (with_reducible refine foldl_touch ?_ ?_) | (with_reducible refine foldl_snd_touch ?_ ?_) | (with_reducible refine ite_touch ?_ ?_) | (with_reducible refine id_touch ?_) | intro _ _ | intro _ | dsimp only | split)

theorem execTenantCreate_touch {h : CcpHdr} {tenant : Nat} {s : State} {t_ : State} (h_ : execTenantCreate h tenant s = .next t_) : Touch 74678401 s t_ := by
  have hm_ : Nat.land 74678401 74678401 = 74678401 := by decide
  have ht_ := Touch.refl 74678401 s
  unfold execTenantCreate at h_
  repeat' (first | (obtain rfl := next_inj h_; clear h_) | (obtain rfl := bounded_next h_; clear h_) | dsimp only at h_ | split at h_)
  all_goals try dsimp only
  repeat' (first | with_reducible assumption | (exact sub_trans (by decide) hm_) | (with_reducible refine State.ccpSimple_touch ?_ ?_ ?_ ) | (with_reducible refine State.sharedDo_touch ?_ ?_ ?_ ) | (with_reducible refine State.updTenant_touch ?_ ?_ ) | (with_reducible refine ite_touch ?_ ?_) | (with_reducible refine id_touch ?_) | intro _ _ | intro _ | dsimp only | split)

theorem execTenantRemove_touch {h : CcpHdr} {tenant : Nat} {s : State} {t_ : State} (h_ : execTenantRemove h tenant s = .next t_) : Touch 83083393 s t_ := by
  have hm_ : Nat.land 83083393 83083393 = 83083393 := by decide
  have ht_ := Touch.refl 83083393 s
  unfold execTenantRemove at h_
  repeat' (first | (obtain rfl := next_inj h_; clear h_) | (obtain rfl := bounded_next h_; clear h_) | dsimp only at h_ | split at h_)
  all_goals try dsimp only
  repeat' (first | with_reducible assumption | (exact sub_trans (by decide) hm_) | (with_reducible refine State.ccpSimple_touch ?_ ?_ ?_ ) | (with_reducible refine State.endTenantSessions_touch ?_ ?_ ) | (with_reducible refine State.eraseNsKeys_touch ?_ ?_ ) | (with_reducible refine State.setWord_touch ?_ ?_ ) | (with_reducible refine State.sharedDo_touch ?_ ?_ ?_ ) | (with_reducible refine State.updTenant_touch ?_ ?_ ) | (with_reducible refine foldl_touch ?_ ?_) | (with_reducible refine foldl_snd_touch ?_ ?_) | (with_reducible refine ite_touch ?_ ?_) | (with_reducible refine id_touch ?_) | intro _ _ | intro _ | dsimp only | split)

theorem execEnrolOpen_touch {h : CcpHdr} {tenant : Nat} {s : State} {t_ : State} (h_ : execEnrolOpen h tenant s = .next t_) : Touch 74678401 s t_ := by
  have hm_ : Nat.land 74678401 74678401 = 74678401 := by decide
  have ht_ := Touch.refl 74678401 s
  unfold execEnrolOpen at h_
  repeat' (first | (obtain rfl := next_inj h_; clear h_) | (obtain rfl := bounded_next h_; clear h_) | dsimp only at h_ | split at h_)
  all_goals try dsimp only
  repeat' (first | with_reducible assumption | (exact sub_trans (by decide) hm_) | (with_reducible refine State.ccpSimple_touch ?_ ?_ ?_ ) | (with_reducible refine State.sharedDo_touch ?_ ?_ ?_ ) | (with_reducible refine State.updTenant_touch ?_ ?_ ) | (with_reducible refine ite_touch ?_ ?_) | (with_reducible refine id_touch ?_) | intro _ _ | intro _ | dsimp only | split)

theorem execEnrol_touch {h : CcpHdr} {tenant pubKey : Nat} {s : State} {t_ : State} (h_ : execEnrol h tenant pubKey s = .next t_) : Touch 108232833 s t_ := by
  have hm_ : Nat.land 108232833 108232833 = 108232833 := by decide
  have ht_ := Touch.refl 108232833 s
  unfold execEnrol at h_
  repeat' (first | (obtain rfl := next_inj h_; clear h_) | (obtain rfl := bounded_next h_; clear h_) | dsimp only at h_ | split at h_)
  all_goals try dsimp only
  repeat' (first | with_reducible assumption | (exact sub_trans (by decide) hm_) | (with_reducible refine State.ccpTake_touch ?_ ?_ ?_ ) | (with_reducible refine State.draw_touch ?_ ?_ ) | (with_reducible refine State.sharedDo_touch ?_ ?_ ?_ ) | (with_reducible refine State.updTenant_touch ?_ ?_ ) | (with_reducible refine ite_touch ?_ ?_) | (with_reducible refine id_touch ?_) | intro _ _ | intro _ | dsimp only | split)

theorem State.capsuleTaken_touch {c : Capsule} {s : State} {m_ : Nat} {b_ : State} (hm_ : Nat.land 98304 m_ = 98304) (ht_ : Touch m_ b_ s) :
    Touch m_ b_ (State.capsuleTaken c s) := by
  unfold State.capsuleTaken
  try dsimp only
  repeat' (first | with_reducible assumption | (exact sub_trans (by decide) hm_) | (with_reducible refine State.updTenant_touch ?_ ?_ ) | (with_reducible refine ite_touch ?_ ?_) | (with_reducible refine id_touch ?_) | intro _ _ | intro _ | dsimp only | split)

theorem State.capsule_touch {h : CcpHdr} {kind : Nat} {c : Capsule} {more : State → Nat} {f : State → State} {results : State → List Nat} {s : State} {m_ : Nat} {b_ : State} (hm_ : Nat.land 74678401 m_ = 74678401) (ht_ : Touch m_ b_ s) (hf_ : ∀ t_, Touch m_ b_ t_ → Touch m_ b_ (f t_)) :
    Touch m_ b_ (State.capsule h kind c more f results s) := by
  unfold State.capsule
  try dsimp only
  repeat' (first | with_reducible assumption | (exact sub_trans (by decide) hm_) | (with_reducible refine State.capsuleTaken_touch ?_ ?_ ) | (with_reducible refine State.ccpFail_touch ?_ ?_ ) | (with_reducible refine State.ccpTake_touch ?_ ?_ ?_ ) | (with_reducible refine State.sharedDone_touch ?_ ?_ ) | (with_reducible refine ite_touch ?_ ?_) | (with_reducible refine id_touch ?_) | intro _ _ | intro _ | (refine hf_ _ ?_) | dsimp only | split)

theorem execKeyImport_touch {h : CcpHdr} {cap : Capsule} {s : State} {t_ : State} (h_ : execKeyImport h cap s = .next t_) : Touch 108249217 s t_ := by
  have hm_ : Nat.land 108249217 108249217 = 108249217 := by decide
  have ht_ := Touch.refl 108249217 s
  unfold execKeyImport at h_
  repeat' (first | (obtain rfl := next_inj h_; clear h_) | (obtain rfl := bounded_next h_; clear h_) | dsimp only at h_ | split at h_)
  all_goals try dsimp only
  repeat' (first | with_reducible assumption | (exact sub_trans (by decide) hm_) | (with_reducible refine State.capsule_touch ?_ ?_ ?_ ) | (with_reducible refine State.importGen_touch ?_ ?_ ) | (with_reducible refine State.putGen_touch ?_ ?_ ) | (with_reducible refine ite_touch ?_ ?_) | (with_reducible refine id_touch ?_) | intro _ _ | intro _ | dsimp only | split)

theorem execAttach_touch {h : CcpHdr} {cap : Capsule} {s : State} {t_ : State} (h_ : execAttach h cap s = .next t_) : Touch 74681473 s t_ := by
  have hm_ : Nat.land 74681473 74681473 = 74681473 := by decide
  have ht_ := Touch.refl 74681473 s
  unfold execAttach at h_
  repeat' (first | (obtain rfl := next_inj h_; clear h_) | (obtain rfl := bounded_next h_; clear h_) | dsimp only at h_ | split at h_)
  all_goals try dsimp only
  repeat' (first | with_reducible assumption | (exact sub_trans (by decide) hm_) | (with_reducible refine State.capsule_touch ?_ ?_ ?_ ) | (with_reducible refine State.setNsHosts_touch ?_ ?_ ) | (with_reducible refine ite_touch ?_ ?_) | (with_reducible refine id_touch ?_) | intro _ _ | intro _ | dsimp only | split)

theorem execActivate_touch {h : CcpHdr} {cap : Capsule} {s : State} {t_ : State} (h_ : execActivate h cap s = .next t_) : Touch 74710145 s t_ := by
  have hm_ : Nat.land 74710145 74710145 = 74710145 := by decide
  have ht_ := Touch.refl 74710145 s
  unfold execActivate at h_
  repeat' (first | (obtain rfl := next_inj h_; clear h_) | (obtain rfl := bounded_next h_; clear h_) | dsimp only at h_ | split at h_)
  all_goals try dsimp only
  repeat' (first | with_reducible assumption | (exact sub_trans (by decide) hm_) | (with_reducible refine State.applyActivate_touch ?_ ?_ ) | (with_reducible refine State.capsule_touch ?_ ?_ ?_ ) | (with_reducible refine State.keyReady_touch ?_ ?_ ) | (with_reducible refine ite_touch ?_ ?_) | (with_reducible refine id_touch ?_) | intro _ _ | intro _ | dsimp only | split)

theorem execSweep_touch {h : CcpHdr} {cap : Capsule} {s : State} {t_ : State} (h_ : execSweep h cap s = .next t_) : Touch 74694785 s t_ := by
  have hm_ : Nat.land 74694785 74694785 = 74694785 := by decide
  have ht_ := Touch.refl 74694785 s
  unfold execSweep at h_
  repeat' (first | (obtain rfl := next_inj h_; clear h_) | (obtain rfl := bounded_next h_; clear h_) | dsimp only at h_ | split at h_)
  all_goals try dsimp only
  repeat' (first | with_reducible assumption | (exact sub_trans (by decide) hm_) | (with_reducible refine State.capsule_touch ?_ ?_ ?_ ) | (with_reducible refine State.sweepGen_touch ?_ ?_ ) | (with_reducible refine ite_touch ?_ ?_) | (with_reducible refine id_touch ?_) | intro _ _ | intro _ | dsimp only | split)

theorem execEraseNs_touch {h : CcpHdr} {cap : Capsule} {s : State} {t_ : State} (h_ : execEraseNs h cap s = .next t_) : Touch 74694785 s t_ := by
  have hm_ : Nat.land 74694785 74694785 = 74694785 := by decide
  have ht_ := Touch.refl 74694785 s
  unfold execEraseNs at h_
  repeat' (first | (obtain rfl := next_inj h_; clear h_) | (obtain rfl := bounded_next h_; clear h_) | dsimp only at h_ | split at h_)
  all_goals try dsimp only
  repeat' (first | with_reducible assumption | (exact sub_trans (by decide) hm_) | (with_reducible refine State.capsule_touch ?_ ?_ ?_ ) | (with_reducible refine State.eraseNsKeys_touch ?_ ?_ ) | (with_reducible refine ite_touch ?_ ?_) | (with_reducible refine id_touch ?_) | intro _ _ | intro _ | dsimp only | split)

theorem execReEnrol_touch {h : CcpHdr} {cap : Capsule} {s : State} {t_ : State} (h_ : execReEnrol h cap s = .next t_) : Touch 74678401 s t_ := by
  have hm_ : Nat.land 74678401 74678401 = 74678401 := by decide
  have ht_ := Touch.refl 74678401 s
  unfold execReEnrol at h_
  repeat' (first | (obtain rfl := next_inj h_; clear h_) | (obtain rfl := bounded_next h_; clear h_) | dsimp only at h_ | split at h_)
  all_goals try dsimp only
  repeat' (first | with_reducible assumption | (exact sub_trans (by decide) hm_) | (with_reducible refine State.capsuleTaken_touch ?_ ?_ ) | (with_reducible refine State.ccpFail_touch ?_ ?_ ) | (with_reducible refine State.ccpTake_touch ?_ ?_ ?_ ) | (with_reducible refine State.endTenantSessions_touch ?_ ?_ ) | (with_reducible refine State.sharedDone_touch ?_ ?_ ) | (with_reducible refine State.updTenant_touch ?_ ?_ ) | (with_reducible refine State.updCcp_touch ?_ ?_) | (with_reducible refine ite_touch ?_ ?_) | (with_reducible refine id_touch ?_) | intro _ _ | intro _ | dsimp only | split)

theorem execGenCreate_touch {h : CcpHdr} {handle : Nat} {s : State} {t_ : State} (h_ : execGenCreate h handle s = .next t_) : Touch 108249217 s t_ := by
  have hm_ : Nat.land 108249217 108249217 = 108249217 := by decide
  have ht_ := Touch.refl 108249217 s
  unfold execGenCreate at h_
  repeat' (first | (obtain rfl := next_inj h_; clear h_) | (obtain rfl := bounded_next h_; clear h_) | dsimp only at h_ | split at h_)
  all_goals try dsimp only
  repeat' (first | with_reducible assumption | (exact sub_trans (by decide) hm_) | (with_reducible refine State.ccpSimple_touch ?_ ?_ ?_ ) | (with_reducible refine State.deriveGen_touch ?_ ?_ ) | (with_reducible refine State.putGen_touch ?_ ?_ ) | (with_reducible refine State.sharedDo_touch ?_ ?_ ?_ ) | (with_reducible refine State.sharedDone_touch ?_ ?_ ) | (with_reducible refine ite_touch ?_ ?_) | (with_reducible refine id_touch ?_) | intro _ _ | intro _ | dsimp only | split)

theorem execGenActivate_touch {h : CcpHdr} {handle gen : Nat} {s : State} {t_ : State} (h_ : execGenActivate h handle gen s = .next t_) : Touch 74710145 s t_ := by
  have hm_ : Nat.land 74710145 74710145 = 74710145 := by decide
  have ht_ := Touch.refl 74710145 s
  unfold execGenActivate at h_
  repeat' (first | (obtain rfl := next_inj h_; clear h_) | (obtain rfl := bounded_next h_; clear h_) | dsimp only at h_ | split at h_)
  all_goals try dsimp only
  repeat' (first | with_reducible assumption | (exact sub_trans (by decide) hm_) | (with_reducible refine State.applyActivate_touch ?_ ?_ ) | (with_reducible refine State.ccpSimple_touch ?_ ?_ ?_ ) | (with_reducible refine State.keyReady_touch ?_ ?_ ) | (with_reducible refine State.sharedDo_touch ?_ ?_ ?_ ) | (with_reducible refine ite_touch ?_ ?_) | (with_reducible refine id_touch ?_) | intro _ _ | intro _ | dsimp only | split)

theorem execGenSweep_touch {h : CcpHdr} {handle gen : Nat} {s : State} {t_ : State} (h_ : execGenSweep h handle gen s = .next t_) : Touch 74596481 s t_ := by
  have hm_ : Nat.land 74596481 74596481 = 74596481 := by decide
  have ht_ := Touch.refl 74596481 s
  unfold execGenSweep at h_
  repeat' (first | (obtain rfl := next_inj h_; clear h_) | (obtain rfl := bounded_next h_; clear h_) | dsimp only at h_ | split at h_)
  all_goals try dsimp only
  repeat' (first | with_reducible assumption | (exact sub_trans (by decide) hm_) | (with_reducible refine State.ccpSimple_touch ?_ ?_ ?_ ) | (with_reducible refine State.sharedDo_touch ?_ ?_ ?_ ) | (with_reducible refine State.sweepGen_touch ?_ ?_ ) | (with_reducible refine ite_touch ?_ ?_) | (with_reducible refine id_touch ?_) | intro _ _ | intro _ | dsimp only | split)

theorem execShelfRotate_touch {h : CcpHdr} {s : State} {t_ : State} (h_ : execShelfRotate h s = .next t_) : Touch 108232837 s t_ := by
  have hm_ : Nat.land 108232837 108232837 = 108232837 := by decide
  have ht_ := Touch.refl 108232837 s
  unfold execShelfRotate at h_
  repeat' (first | (obtain rfl := next_inj h_; clear h_) | (obtain rfl := bounded_next h_; clear h_) | dsimp only at h_ | split at h_)
  all_goals try dsimp only
  repeat' (first | with_reducible assumption | (exact sub_trans (by decide) hm_) | (with_reducible refine State.ccpSimple_touch ?_ ?_ ?_ ) | (with_reducible refine State.draw_touch ?_ ?_ ) | (with_reducible refine State.localJob_touch ?_ ?_ ?_ ) | (with_reducible refine State.startExchange_touch ?_ ?_ ) | (with_reducible refine State.startRotation_touch ?_ ?_ ) | (with_reducible refine ite_touch ?_ ?_) | (with_reducible refine id_touch ?_) | intro _ _ | intro _ | dsimp only | split)

theorem execDelegate_touch {h : CcpHdr} {tenant groups : Nat} {s : State} {t_ : State} (h_ : execDelegate h tenant groups s = .next t_) : Touch 82968705 s t_ := by
  have hm_ : Nat.land 82968705 82968705 = 82968705 := by decide
  have ht_ := Touch.refl 82968705 s
  unfold execDelegate at h_
  repeat' (first | (obtain rfl := next_inj h_; clear h_) | (obtain rfl := bounded_next h_; clear h_) | dsimp only at h_ | split at h_)
  all_goals try dsimp only
  repeat' (first | with_reducible assumption | (exact sub_trans (by decide) hm_) | (with_reducible refine State.ccpSimple_touch ?_ ?_ ?_ ) | (with_reducible refine State.setWord_touch ?_ ?_ ) | (with_reducible refine State.sharedDo_touch ?_ ?_ ?_ ) | (with_reducible refine ite_touch ?_ ?_) | (with_reducible refine id_touch ?_) | intro _ _ | intro _ | dsimp only | split)

end Sys2Proof.Machine
end

