-- ==== Sys2Proof/Laws/Sound.lean ====
section
/-! SUPPORT. The invariant `sound` under every operation that can touch the fuses, the image store or the register file; every other operation
keeps it because it leaves those alone. -/
namespace Sys2Proof.Machine
set_option linter.all false

/-- What leaves the three groups alone keeps the invariant. -/
theorem sound_keep {m : Nat} {s t : State} (h : Touch m s t)
    (hm : m.testBit 3 = false ∧ m.testBit 4 = false ∧ m.testBit 23 = false) (hs : sound s) : sound t := by
  have hf : t.fuses = s.fuses := h.out .fuses hm.1
  have hi : t.images = s.images := h.out .images hm.2.1
  have hr : t.regs = s.regs := h.out .regs hm.2.2
  obtain ⟨a, b, c⟩ := hs
  refine ⟨?_, ?_, ?_⟩
  · rw [hf]; exact a
  · rw [hi]; exact b
  · unfold regsCanonical; rw [hr]; exact c

theorem foldl_sound {α : Type} {s : State} {f : State → α → State} {l : List α}
    (h : sound s) (hf : ∀ t x, sound t → sound (f t x)) : sound (l.foldl f s) := by
  induction l generalizing s with
  | nil => exact h
  | cons x xs ih => exact ih (hf s x h)

theorem foldl_snd_sound {α β : Type} {f : β × State → α → β × State} {p : β × State} {l : List α}
    (h : sound p.2) (hf : ∀ (a : β × State) x, sound a.2 → sound (f a x).2) : sound (l.foldl f p).2 := by
  induction l generalizing p with
  | nil => exact h
  | cons x xs ih => exact ih (hf p x h)

theorem ite_sound {c : Prop} [Decidable c] {s t : State} (hs : sound s) (ht : sound t) : sound (if c then s else t) := by
  split
  · exact hs
  · exact ht

theorem snd_sound {α : Type} {p : α × State} {a : α} {t : State} (h : p = (a, t)) (hp : sound p.2) : sound t := by
  rw [h] at hp
  exact hp

theorem id_sound {s : State} (h : sound s) : sound (id s) := h

theorem when_sound {s : State} {c : Bool} {f : State → State} (h : sound s) (hf : ∀ t, sound t → sound (f t)) : sound (s.when c f) := by
  unfold State.when
  split
  · exact hf s h
  · exact h

theorem imagesSound_mod {m : Tbl ImageSlot} (k : Nat) (f : ImageSlot → ImageSlot) (hf : ∀ i, i.startFails ≤ 2 → (f i).startFails ≤ 2)
    (h : imagesSound m) : imagesSound (tmod {} k f m) := by
  refine ⟨twf_tmod k f h.1, ?_⟩
  intro e he
  rcases mem_tset he with ⟨rfl, -⟩ | he
  · refine hf _ ?_
    unfold tget
    cases hx : tfind m k with
    | none => decide
    | some v => exact h.2 _ (tfind_mem hx)
  · exact h.2 e he

theorem imagesSound_put {m : Tbl ImageSlot} (k : Nat) (i : ImageSlot) (hi : i.startFails ≤ 2) (h : imagesSound m) :
    imagesSound (tput m k i) := by
  refine ⟨twf_tput k i h.1, ?_⟩
  intro e he
  rcases mem_tput he with rfl | he
  · exact hi
  · exact h.2 e he

theorem imagesSound_adj {m : Tbl ImageSlot} (k : Nat) (f : ImageSlot → ImageSlot) (hf : ∀ i, i.startFails ≤ 2 → (f i).startFails ≤ 2)
    (h : imagesSound m) : imagesSound (tadj k f m) := by
  unfold tadj
  split
  · rename_i v hv
    exact imagesSound_put k _ (hf _ (h.2 _ (tfind_mem hv))) h
  · exact h

theorem updImages_sound {s : State} {f : Tbl ImageSlot → Tbl ImageSlot} (h : sound s) (hf : ∀ m, imagesSound m → imagesSound (f m)) :
    sound (s.updImages f) := ⟨h.fuses, hf _ h.images, h.regs⟩

theorem updFuses_sound {s : State} {f : Fuses → Fuses} (h : sound s) (hf : fusesSound s.fuses → fusesSound (f s.fuses)) :
    sound (s.updFuses f) := ⟨hf h.fuses, h.images, h.regs⟩

theorem State.updBlobs_sound {f : _} {s : State} (hi_ : sound s) : sound (s.updBlobs f) :=
  sound_keep (State.updBlobs_touch (m := 16777216) rfl (Touch.refl _ _)) (by decide) hi_

theorem State.updBoot_sound {f : _} {s : State} (hi_ : sound s) : sound (s.updBoot f) :=
  sound_keep (State.updBoot_touch (m := 64) rfl (Touch.refl _ _)) (by decide) hi_

theorem State.updCcp_sound {f : _} {s : State} (hi_ : sound s) : sound (s.updCcp f) :=
  sound_keep (State.updCcp_touch (m := 2097152) rfl (Touch.refl _ _)) (by decide) hi_

theorem State.updCons_sound {f : _} {s : State} (hi_ : sound s) : sound (s.updCons f) :=
  sound_keep (State.updCons_touch (m := 4096) rfl (Touch.refl _ _)) (by decide) hi_

theorem State.updDen_sound {f : _} {s : State} (hi_ : sound s) : sound (s.updDen f) :=
  sound_keep (State.updDen_touch (m := 1) rfl (Touch.refl _ _)) (by decide) hi_

theorem State.updElec_sound {f : _} {s : State} (hi_ : sound s) : sound (s.updElec f) :=
  sound_keep (State.updElec_touch (m := 32) rfl (Touch.refl _ _)) (by decide) hi_

theorem State.updEnclave_sound {f : _} {s : State} (hi_ : sound s) : sound (s.updEnclave f) :=
  sound_keep (State.updEnclave_touch (m := 32768) rfl (Touch.refl _ _)) (by decide) hi_

theorem State.updKeep_sound {f : _} {s : State} (hi_ : sound s) : sound (s.updKeep f) :=
  sound_keep (State.updKeep_touch (m := 4) rfl (Touch.refl _ _)) (by decide) hi_

theorem State.updLayout_sound {f : _} {s : State} (hi_ : sound s) : sound (s.updLayout f) :=
  sound_keep (State.updLayout_touch (m := 8192) rfl (Touch.refl _ _)) (by decide) hi_

theorem State.updMargins_sound {f : _} {s : State} (hi_ : sound s) : sound (s.updMargins f) :=
  sound_keep (State.updMargins_touch (m := 524288) rfl (Touch.refl _ _)) (by decide) hi_

theorem State.updModes_sound {f : _} {s : State} (hi_ : sound s) : sound (s.updModes f) :=
  sound_keep (State.updModes_touch (m := 128) rfl (Touch.refl _ _)) (by decide) hi_

theorem State.updPair_sound {f : _} {s : State} (hi_ : sound s) : sound (s.updPair f) :=
  sound_keep (State.updPair_touch (m := 131072) rfl (Touch.refl _ _)) (by decide) hi_

theorem State.updSpine_sound {f : _} {s : State} (hi_ : sound s) : sound (s.updSpine f) :=
  sound_keep (State.updSpine_touch (m := 256) rfl (Touch.refl _ _)) (by decide) hi_

theorem State.bump_sound {c : Nat × Nat} {i : Nat} {s : State} (hi_ : sound s) : sound (State.bump c i s) :=
  sound_keep (State.bump_touch (m_ := 4194304) rfl (Touch.refl _ _)) (by decide) hi_

theorem State.send_sound {k : OutKind} {args : List Nat} {data : Bytes} {s : State} (hi_ : sound s) : sound (State.send k args data s) :=
  sound_keep (State.send_touch (m_ := 67108864) rfl (Touch.refl _ _)) (by decide) hi_

theorem State.draw_sound {s : State} (hi_ : sound s) : sound (State.draw s) :=
  sound_keep (State.draw_touch (m_ := 33554432) rfl (Touch.refl _ _)) (by decide) hi_

theorem State.raise_sound {code n data : Nat} {s : State} (hi_ : sound s) : sound (State.raise code n data s) :=
  sound_keep (State.raise_touch (m_ := 69206016) rfl (Touch.refl _ _)) (by decide) hi_

theorem State.singleFault_sound {code : Nat} {s : State} (hi_ : sound s) : sound (State.singleFault code s) :=
  sound_keep (State.singleFault_touch (m_ := 69337088) rfl (Touch.refl _ _)) (by decide) hi_

theorem State.enterMode_sound {m : Mode} {cause : Nat} {s : State} (hi_ : sound s) : sound (State.enterMode m cause s) :=
  sound_keep (State.enterMode_touch (m_ := 74457539) rfl (Touch.refl _ _)) (by decide) hi_

theorem State.wakeIdle_sound {s : State} (hi_ : sound s) : sound (State.wakeIdle s) :=
  sound_keep (State.wakeIdle_touch (m_ := 128) rfl (Touch.refl _ _)) (by decide) hi_

theorem State.cancelDen_sound {s : State} (hi_ : sound s) : sound (State.cancelDen s) :=
  sound_keep (State.cancelDen_touch (m_ := 128) rfl (Touch.refl _ _)) (by decide) hi_

theorem State.stopService_sound {s : State} (hi_ : sound s) : sound (State.stopService s) :=
  sound_keep (State.stopService_touch (m_ := 80896) rfl (Touch.refl _ _)) (by decide) hi_

theorem State.enterM5_sound {code : Nat} {s : State} (hi_ : sound s) : sound (State.enterM5 code s) :=
  sound_keep (State.enterM5_touch (m_ := 74710471) rfl (Touch.refl _ _)) (by decide) hi_

theorem State.resetShaper_sound {key : Nat} {s : State} (hi_ : sound s) : sound (State.resetShaper key s) :=
  sound_keep (State.resetShaper_touch (m_ := 65536) rfl (Touch.refl _ _)) (by decide) hi_

theorem State.fillTenantMeter_sound {t : Nat} {s : State} (hi_ : sound s) : sound (State.fillTenantMeter t s) :=
  sound_keep (State.fillTenantMeter_touch (m_ := 65536) rfl (Touch.refl _ _)) (by decide) hi_

theorem State.fillConnMeters_sound {t : Nat} {s : State} (hi_ : sound s) : sound (State.fillConnMeters t s) :=
  sound_keep (State.fillConnMeters_touch (m_ := 65536) rfl (Touch.refl _ _)) (by decide) hi_

theorem State.updPort_sound {p : Nat} {f : Port → Port} {s : State} (hi_ : sound s) : sound (State.updPort p f s) :=
  sound_keep (State.updPort_touch (m_ := 512) rfl (Touch.refl _ _)) (by decide) hi_

theorem State.settIfPaired_sound {kind : Nat} {args : List Nat} {data : Bytes} {s : State} (hi_ : sound s) : sound (State.settIfPaired kind args data s) :=
  sound_keep (State.settIfPaired_touch (m_ := 67239936) rfl (Touch.refl _ _)) (by decide) hi_

theorem State.settGot_sound {kind : Nat} {s : State} (hi_ : sound s) : sound (State.settGot kind s) :=
  sound_keep (State.settGot_touch (m_ := 67239936) rfl (Touch.refl _ _)) (by decide) hi_

theorem State.plan_sound {i slot planKind : Nat} {sizes : List Nat} {s : State} (hi_ : sound s) : sound (State.plan i slot planKind sizes s) :=
  sound_keep (State.plan_touch (m_ := 1024) rfl (Touch.refl _ _)) (by decide) hi_

theorem State.ltrUpdate_sound {s : State} (hi_ : sound s) : sound (State.ltrUpdate s) :=
  sound_keep (State.ltrUpdate_touch (m_ := 72351744) rfl (Touch.refl _ _)) (by decide) hi_

theorem State.dropSession_sound {id : Nat} {s : State} (hi_ : sound s) : sound (State.dropSession id s) :=
  sound_keep (State.dropSession_touch (m_ := 2097152) rfl (Touch.refl _ _)) (by decide) hi_

theorem State.postCompletion_sound {n : Nat} {s : State} (hi_ : sound s) : sound (State.postCompletion n s) :=
  sound_keep (State.postCompletion_touch (m_ := 72559616) rfl (Touch.refl _ _)) (by decide) hi_

theorem State.katoRestart_sound {c : Nat} {s : State} (hi_ : sound s) : sound (State.katoRestart c s) :=
  sound_keep (State.katoRestart_touch (m_ := 2048) rfl (Touch.refl _ _)) (by decide) hi_

theorem State.recomputePs_sound {s : State} (hi_ : sound s) : sound (State.recomputePs s) :=
  sound_keep (State.recomputePs_touch (m_ := 72813696) rfl (Touch.refl _ _)) (by decide) hi_

theorem State.updDport_sound {n : Nat} {f : DrivePort → DrivePort} {s : State} (hi_ : sound s) : sound (State.updDport n f s) :=
  sound_keep (State.updDport_touch (m_ := 262144) rfl (Touch.refl _ _)) (by decide) hi_

theorem State.submit_sound {tenant : Nat} {c : DriveCmd} {s : State} (hi_ : sound s) : sound (State.submit tenant c s) :=
  sound_keep (State.submit_touch (m_ := 65536) rfl (Touch.refl _ _)) (by decide) hi_

theorem State.submitRun_sound {cls : Option Nat} {tenant : Nat} {c : DriveCmd} {s : State} (hi_ : sound s) : sound (State.submitRun cls tenant c s) :=
  sound_keep (State.submitRun_touch (m_ := 65536) rfl (Touch.refl _ _)) (by decide) hi_

theorem State.freeTagOf_sound {slot t : Nat} {s : State} (hi_ : sound s) : sound (State.freeTagOf slot t s) :=
  sound_keep (State.freeTagOf_touch (m_ := 262144) rfl (Touch.refl _ _)) (by decide) hi_

theorem State.updPool_sound {n : Nat} {f : Pool → Pool} {s : State} (hi_ : sound s) : sound (State.updPool n f s) :=
  sound_keep (State.updPool_touch (m_ := 8192) rfl (Touch.refl _ _)) (by decide) hi_

theorem State.journal_sound {n : Nat} {r0 : JRec} {s : State} (hi_ : sound s) : sound (State.journal n r0 s) :=
  sound_keep (State.journal_touch (m_ := 71507968) rfl (Touch.refl _ _)) (by decide) hi_

theorem State.journalHeader_sound {n : Nat} {clean : Bool} {s : State} (hi_ : sound s) : sound (State.journalHeader n clean s) :=
  sound_keep (State.journalHeader_touch (m_ := 71507968) rfl (Touch.refl _ _)) (by decide) hi_

theorem State.drainAll_sound {s : State} (hi_ : sound s) : sound (State.drainAll s) :=
  sound_keep (State.drainAll_touch (m_ := 71515136) rfl (Touch.refl _ _)) (by decide) hi_

theorem State.hotBlk_sound {h blk : Nat} {s : State} (hi_ : sound s) : sound (State.hotBlk h blk s) :=
  sound_keep (State.hotBlk_touch (m_ := 4202496) rfl (Touch.refl _ _)) (by decide) hi_

theorem State.blockIn_sound {n blk : Nat} {again : Bool} {bytes : Bytes} {s : State} (hi_ : sound s) : sound (State.blockIn n blk again bytes s) :=
  sound_keep (State.blockIn_touch (m_ := 74710016) rfl (Touch.refl _ _)) (by decide) hi_

theorem State.settle_sound {s : State} (hi_ : sound s) : sound (State.settle s) :=
  sound_keep (State.settle_touch (m_ := 74710016) rfl (Touch.refl _ _)) (by decide) hi_

theorem State.afterError_sound {i : Nat} {s : State} (hi_ : sound s) : sound (State.afterError i s) :=
  sound_keep (State.afterError_touch (m_ := 74972288) rfl (Touch.refl _ _)) (by decide) hi_

theorem State.adminTake_sound {q : AdminCmd} {s : State} (hi_ : sound s) : sound (State.adminTake q s) :=
  sound_keep (State.adminTake_touch (m_ := 5244928) rfl (Touch.refl _ _)) (by decide) hi_

theorem State.adminAgain_sound {r : Replay} {crc sqhd : Nat} {s : State} (hi_ : sound s) : sound (State.adminAgain r crc sqhd s) :=
  sound_keep (State.adminAgain_touch (m_ := 74972288) rfl (Touch.refl _ _)) (by decide) hi_

theorem State.replayCheck_sound {s : State} (hi_ : sound s) : sound (State.replayCheck s) :=
  sound_keep (State.replayCheck_touch (m_ := 71507968) rfl (Touch.refl _ _)) (by decide) hi_

theorem State.updPins_sound {f : Pins → Pins} {s : State} (hi_ : sound s) : sound (State.updPins f s) :=
  sound_keep (State.updPins_touch (m_ := 1) rfl (Touch.refl _ _)) (by decide) hi_

theorem State.setSeq_sound {q : PwrSeq} {s : State} (hi_ : sound s) : sound (State.setSeq q s) :=
  sound_keep (State.setSeq_touch (m_ := 1) rfl (Touch.refl _ _)) (by decide) hi_

theorem State.stepVcore_sound {mv : Nat} {acked : Bool} {s : State} (hi_ : sound s) : sound (State.stepVcore mv acked s) :=
  sound_keep (State.stepVcore_touch (m_ := 73400353) rfl (Touch.refl _ _)) (by decide) hi_

theorem State.throttleStep_sound {hottest : Nat} {s : State} (hi_ : sound s) : sound (State.throttleStep hottest s) :=
  sound_keep (State.throttleStep_touch (m_ := 69271584) rfl (Touch.refl _ _)) (by decide) hi_

theorem State.openIsland_sound {i : Nat} {s : State} (hi_ : sound s) : sound (State.openIsland i s) :=
  sound_keep (State.openIsland_touch (m_ := 256) rfl (Touch.refl _ _)) (by decide) hi_

theorem State.allSlotsOff_sound {s : State} (hi_ : sound s) : sound (State.allSlotsOff s) :=
  sound_keep (State.allSlotsOff_touch (m_ := 2) rfl (Touch.refl _ _)) (by decide) hi_

theorem State.reshapeBegin_sound {n : Nat} {s : State} (hi_ : sound s) : sound (State.reshapeBegin n s) :=
  sound_keep (State.reshapeBegin_touch (m_ := 8192) rfl (Touch.refl _ _)) (by decide) hi_

theorem State.reshapeSetPause_sound {n : Nat} {on : Bool} {s : State} (hi_ : sound s) : sound (State.reshapeSetPause n on s) :=
  sound_keep (State.reshapeSetPause_touch (m_ := 8192) rfl (Touch.refl _ _)) (by decide) hi_

theorem State.copyStripe_sound {n oldSlab newSlab i : Nat} {reads : List StripeRead} {s : State} (hi_ : sound s) : sound (State.copyStripe n oldSlab newSlab i reads s).2 :=
  sound_keep (State.copyStripe_touch (m_ := 73605120) rfl (Touch.refl _ _)) (by decide) hi_

theorem State.commitSlab_sound {n rec newSlab : Nat} {s : State} (hi_ : sound s) : sound (State.commitSlab n rec newSlab s) :=
  sound_keep (State.commitSlab_touch (m_ := 73728) rfl (Touch.refl _ _)) (by decide) hi_

theorem State.zeroSlab_sound {n slab : Nat} {s : State} (hi_ : sound s) : sound (State.zeroSlab n slab s) :=
  sound_keep (State.zeroSlab_touch (m_ := 65536) rfl (Touch.refl _ _)) (by decide) hi_

theorem State.updReshape_sound {n : Nat} {f : ReshapeOp → ReshapeOp} {s : State} (hi_ : sound s) : sound (State.updReshape n f s) :=
  sound_keep (State.updReshape_touch (m_ := 8192) rfl (Touch.refl _ _)) (by decide) hi_

theorem State.eraseNsKeys_sound {h : Nat} {s : State} (hi_ : sound s) : sound (State.eraseNsKeys h s) :=
  sound_keep (State.eraseNsKeys_touch (m_ := 114688) rfl (Touch.refl _ _)) (by decide) hi_

theorem State.updSession_sound {id : Nat} {f : Session → Session} {s : State} (hi_ : sound s) : sound (State.updSession id f s) :=
  sound_keep (State.updSession_touch (m_ := 2097152) rfl (Touch.refl _ _)) (by decide) hi_

theorem State.ccpRefuse_sound {h : CcpHdr} {op status : Nat} {s : State} (hi_ : sound s) : sound (State.ccpRefuse h op status s) :=
  sound_keep (State.ccpRefuse_touch (m_ := 72482816) rfl (Touch.refl _ _)) (by decide) hi_

theorem State.ccpReply_sound {h : CcpHdr} {op status : Nat} {data : Bytes} {s : State} (hi_ : sound s) : sound (State.ccpReply h op status data s) :=
  sound_keep (State.ccpReply_touch (m_ := 74579968) rfl (Touch.refl _ _)) (by decide) hi_

theorem State.ccpFail_sound {h : CcpHdr} {op status : Nat} {s : State} (hi_ : sound s) : sound (State.ccpFail h op status s) :=
  sound_keep (State.ccpFail_touch (m_ := 74579968) rfl (Touch.refl _ _)) (by decide) hi_

theorem State.ccpConflict_sound {h : CcpHdr} {op res claimant : Nat} {s : State} (hi_ : sound s) : sound (State.ccpConflict h op res claimant s) :=
  sound_keep (State.ccpConflict_touch (m_ := 74580224) rfl (Touch.refl _ _)) (by decide) hi_

theorem State.mboxSilent_sound {h : CcpHdr} {s : State} (hi_ : sound s) : sound (State.mboxSilent h s) :=
  sound_keep (State.mboxSilent_touch (m_ := 1048576) rfl (Touch.refl _ _)) (by decide) hi_

theorem State.ccpWake_sound {h : CcpHdr} {s : State} (hi_ : sound s) : sound (State.ccpWake h s) :=
  sound_keep (State.ccpWake_touch (m_ := 69206145) rfl (Touch.refl _ _)) (by decide) hi_

theorem State.ccpResend_sound {h : CcpHdr} {op : Nat} {e : Session} {r : CachedReply} {s : State} (hi_ : sound s) : sound (State.ccpResend h op e r s) :=
  sound_keep (State.ccpResend_touch (m_ := 72482816) rfl (Touch.refl _ _)) (by decide) hi_

theorem State.ccpNotAlive_sound {h : CcpHdr} {op : Nat} {e : Session} {s : State} (hi_ : sound s) : sound (State.ccpNotAlive h op e s) :=
  sound_keep (State.ccpNotAlive_touch (m_ := 72482816) rfl (Touch.refl _ _)) (by decide) hi_

theorem State.ccpForward_sound {h : CcpHdr} {op : Nat} {s : State} (hi_ : sound s) : sound (State.ccpForward h op s) :=
  sound_keep (State.ccpForward_touch (m_ := 74579968) rfl (Touch.refl _ _)) (by decide) hi_

theorem State.ccpUnstage_sound {h : CcpHdr} {s : State} (hi_ : sound s) : sound (State.ccpUnstage h s) :=
  sound_keep (State.ccpUnstage_touch (m_ := 2097152) rfl (Touch.refl _ _)) (by decide) hi_

theorem State.sharedDone_sound {h : CcpHdr} {op : Nat} {args : List Nat} {data : Bytes} {s : State} (hi_ : sound s) : sound (State.sharedDone h op args data s) :=
  sound_keep (State.sharedDone_touch (m_ := 74579968) rfl (Touch.refl _ _)) (by decide) hi_

theorem State.jobStart_sound {h : CcpHdr} {op arg : Nat} {s : State} (hi_ : sound s) (j_ : Nat) (t_ : State) (h_ : State.jobStart h op arg s = some (j_, t_)) : sound t_ :=
  sound_keep (State.jobStart_touch (m_ := 2097152) rfl (Touch.refl _ _) _ _ h_) (by decide) hi_

theorem State.quorumWon_sound {s : State} (hi_ : sound s) : sound (State.quorumWon s) :=
  sound_keep (State.quorumWon_touch (m_ := 74973123) rfl (Touch.refl _ _)) (by decide) hi_

theorem State.partIn_sound {n blk pos : Nat} {bytes : Bytes} {s : State} (hi_ : sound s) : sound (State.partIn n blk pos bytes s) :=
  sound_keep (State.partIn_touch (m_ := 74710016) rfl (Touch.refl _ _)) (by decide) hi_

theorem State.cmdLost_sound {c : DriveCmd} {s : State} (hi_ : sound s) : sound (State.cmdLost c s) :=
  sound_keep (State.cmdLost_touch (m_ := 74710016) rfl (Touch.refl _ _)) (by decide) hi_

theorem State.countDrive_sound {c : DriveCmd} {ok : Bool} {s : State} (hi_ : sound s) : sound (State.countDrive c ok s) :=
  sound_keep (State.countDrive_touch (m_ := 4194304) rfl (Touch.refl _ _)) (by decide) hi_

theorem State.mediaError_sound {c : DriveCmd} {s : State} (hi_ : sound s) : sound (State.mediaError c s) :=
  sound_keep (State.mediaError_touch (m_ := 73408512) rfl (Touch.refl _ _)) (by decide) hi_

theorem State.clearHeld_sound {s : State} (hi_ : sound s) : sound (State.clearHeld s) :=
  sound_keep (State.clearHeld_touch (m_ := 73924609) rfl (Touch.refl _ _)) (by decide) hi_

theorem State.startPairing_sound {s : State} (hi_ : sound s) : sound (State.startPairing s) :=
  sound_keep (State.startPairing_touch (m_ := 69345280) rfl (Touch.refl _ _)) (by decide) hi_

theorem State.cageWritten_sound {cage : Nat} {s : State} (hi_ : sound s) : sound (State.cageWritten cage s) :=
  sound_keep (State.cageWritten_touch (m_ := 4260352) rfl (Touch.refl _ _)) (by decide) hi_

theorem State.lagWritten_sound {g old : Nat} {s : State} (hi_ : sound s) : sound (State.lagWritten g old s) :=
  sound_keep (State.lagWritten_touch (m_ := 66048) rfl (Touch.refl _ _)) (by decide) hi_

theorem State.portSwitched_sound {slot : Nat} {on : Bool} {s : State} (hi_ : sound s) : sound (State.portSwitched slot on s) :=
  sound_keep (State.portSwitched_touch (m_ := 74972162) rfl (Touch.refl _ _)) (by decide) hi_

theorem State.slotWritten_sound {slot : Nat} {s : State} (hi_ : sound s) : sound (State.slotWritten slot s) :=
  sound_keep (State.slotWritten_touch (m_ := 73408515) rfl (Touch.refl _ _)) (by decide) hi_

theorem State.pairSwitched_sound {s : State} (hi_ : sound s) : sound (State.pairSwitched s) :=
  sound_keep (State.pairSwitched_touch (m_ := 69345280) rfl (Touch.refl _ _)) (by decide) hi_

theorem State.cleared_sound {id w : Nat} {s : State} (hi_ : sound s) : sound (State.cleared id w s) :=
  sound_keep (State.cleared_touch (m_ := 1239968) rfl (Touch.refl _ _)) (by decide) hi_

theorem State.controlled_sound {id w : Nat} {s : State} (hi_ : sound s) : sound (State.controlled id w s) :=
  sound_keep (State.controlled_touch (m_ := 74972355) rfl (Touch.refl _ _)) (by decide) hi_

theorem State.cvuWritten_sound {n w : Nat} {s : State} (hi_ : sound s) : sound (State.cvuWritten n w s) :=
  sound_keep (State.cvuWritten_touch (m_ := 2097152) rfl (Touch.refl _ _)) (by decide) hi_

theorem State.bwWritten_sound {n us : Nat} {s : State} (hi_ : sound s) : sound (State.bwWritten n us s) :=
  sound_keep (State.bwWritten_touch (m_ := 4194304) rfl (Touch.refl _ _)) (by decide) hi_

theorem State.recordWritten_sound {id off : Nat} {b : Bytes} {s : State} (hi_ : sound s) : sound (State.recordWritten id off b s) :=
  sound_keep (State.recordWritten_touch (m_ := 91434627) rfl (Touch.refl _ _)) (by decide) hi_

theorem State.poolCreated_sound {n : Nat} {s : State} (hi_ : sound s) : sound (State.poolCreated n s) :=
  sound_keep (State.poolCreated_touch (m_ := 335876) rfl (Touch.refl _ _)) (by decide) hi_

theorem State.poolFailed_sound {n : Nat} {s : State} (hi_ : sound s) : sound (State.poolFailed n s) :=
  sound_keep (State.poolFailed_touch (m_ := 8192) rfl (Touch.refl _ _)) (by decide) hi_

theorem State.poolDeleted_sound {n : Nat} {s : State} (hi_ : sound s) : sound (State.poolDeleted n s) :=
  sound_keep (State.poolDeleted_touch (m_ := 270336) rfl (Touch.refl _ _)) (by decide) hi_

theorem State.driveFormatted_sound {slot : Nat} {s : State} (hi_ : sound s) : sound (State.driveFormatted slot s) :=
  sound_keep (State.driveFormatted_touch (m_ := 262144) rfl (Touch.refl _ _)) (by decide) hi_

theorem State.nsDeleted_sound {h : Nat} {s : State} (hi_ : sound s) : sound (State.nsDeleted h s) :=
  sound_keep (State.nsDeleted_touch (m_ := 71462912) rfl (Touch.refl _ _)) (by decide) hi_

theorem State.rotationDone_sound {s : State} (hi_ : sound s) : sound (State.rotationDone s) :=
  sound_keep (State.rotationDone_touch (m_ := 114692) rfl (Touch.refl _ _)) (by decide) hi_

theorem State.blocksRead_sound {blocks : List QuorumRead} {s : State} (hi_ : sound s) : sound (State.blocksRead blocks s) :=
  sound_keep (State.blocksRead_touch (m_ := 131072) rfl (Touch.refl _ _)) (by decide) hi_

theorem State.importShelfKey_sound {p : PoolImport} {s : State} (hi_ : sound s) : sound (State.importShelfKey p s) :=
  sound_keep (State.importShelfKey_touch (m_ := 2129920) rfl (Touch.refl _ _)) (by decide) hi_

theorem State.dropLarder_sound {s : State} (hi_ : sound s) : sound (State.dropLarder s) :=
  sound_keep (State.dropLarder_touch (m_ := 8192) rfl (Touch.refl _ _)) (by decide) hi_

theorem State.importMembers_sound {n : Nat} {s : State} (hi_ : sound s) : sound (State.importMembers n s) :=
  sound_keep (State.importMembers_touch (m_ := 4202496) rfl (Touch.refl _ _)) (by decide) hi_

theorem State.importExtents_sound {n epoch : Nat} {s : State} (hi_ : sound s) : sound (State.importExtents n epoch s) :=
  sound_keep (State.importExtents_touch (m_ := 4096) rfl (Touch.refl _ _)) (by decide) hi_

theorem State.importLocks_sound {n : Nat} {s : State} (hi_ : sound s) : sound (State.importLocks n s) :=
  sound_keep (State.importLocks_touch (m_ := 16384) rfl (Touch.refl _ _)) (by decide) hi_

theorem State.importReplay_sound {p : PoolImport} {c : Option JCopy} {s : State} (hi_ : sound s) : sound (State.importReplay p c s) :=
  sound_keep (State.importReplay_touch (m_ := 73605120) rfl (Touch.refl _ _)) (by decide) hi_

theorem State.jobEvent_sound {j session data : Nat} {s : State} (hi_ : sound s) : sound (State.jobEvent j session data s) :=
  sound_keep (State.jobEvent_touch (m_ := 69206016) rfl (Touch.refl _ _)) (by decide) hi_

theorem State.updTenant_sound {t : Nat} {f : Tenant → Tenant} {s : State} (hi_ : sound s) : sound (State.updTenant t f s) :=
  sound_keep (State.updTenant_touch (m_ := 98304) rfl (Touch.refl _ _)) (by decide) hi_

theorem State.endTenantSessions_sound {t : Nat} {s : State} (hi_ : sound s) : sound (State.endTenantSessions t s) :=
  sound_keep (State.endTenantSessions_touch (m_ := 2097152) rfl (Touch.refl _ _)) (by decide) hi_

theorem State.capsuleTaken_sound {c : Capsule} {s : State} (hi_ : sound s) : sound (State.capsuleTaken c s) :=
  sound_keep (State.capsuleTaken_touch (m_ := 98304) rfl (Touch.refl _ _)) (by decide) hi_

theorem State.setWord_sound {id v : Nat} {s : State} (hi_ : sound s) : sound (State.setWord id v s) := by
  unfold State.setWord
  split
  · exact sound_keep (State.updDen_touch (m := 1) rfl (Touch.refl _ _)) (by decide) hi_
  · refine ⟨hi_.fuses, hi_.images, twf_tset _ _ hi_.regs.1, ?_⟩
    intro e he
    rcases mem_tset he with ⟨rfl, hv⟩ | he
    · exact hv
    · exact hi_.regs.2 e he

theorem State.loadClasses_sound {s : State} (hi_ : sound s) :
    sound (State.loadClasses s) := by
  unfold State.loadClasses
  try dsimp only
  repeat' (first | with_reducible assumption | (with_reducible refine State.setWord_sound ?_ ) | (with_reducible refine foldl_sound ?_ ?_) | (with_reducible refine foldl_snd_sound ?_ ?_) | (with_reducible refine ite_sound ?_ ?_) | (with_reducible refine id_sound ?_) | intro _ _ | intro _ | dsimp only | split)

theorem State.fuseLoad_sound {f : FuseRead} {s : State} (hi_ : sound s) :
    sound (State.fuseLoad f s) := by
  unfold State.fuseLoad
  try dsimp only
  repeat' (first | with_reducible assumption | (with_reducible refine State.enterM5_sound ?_ ) | (with_reducible refine State.loadClasses_sound ?_ ) | (with_reducible refine State.updBoot_sound ?_) | (with_reducible refine ite_sound ?_ ?_) | (with_reducible refine id_sound ?_) | intro _ _ | intro _ | dsimp only | split)

theorem State.wiped_sound {cause : Nat} {s : State} (hi_ : sound s) : sound (State.wiped cause s) :=
  ⟨hi_.fuses, hi_.images, rfl, fun e he => nomatch he⟩

theorem State.resetController_sound {cause : Nat} {s : State} (hi_ : sound s) :
    sound (State.resetController cause s) := by
  unfold State.resetController
  try dsimp only
  repeat' (first | with_reducible assumption | (with_reducible refine State.fuseLoad_sound ?_ ) | (with_reducible refine State.wiped_sound ?_ ) | (with_reducible refine State.updEnclave_sound ?_) | (with_reducible refine ite_sound ?_ ?_) | (with_reducible refine id_sound ?_) | intro _ _ | intro _ | dsimp only | split)

theorem State.stopAndReset_sound {s : State} (hi_ : sound s) :
    sound (State.stopAndReset s) := by
  unfold State.stopAndReset
  try dsimp only
  repeat' (first | with_reducible assumption | (with_reducible refine State.resetController_sound ?_ ) | (with_reducible refine State.stopService_sound ?_ ) | (with_reducible refine ite_sound ?_ ?_) | (with_reducible refine id_sound ?_) | intro _ _ | intro _ | dsimp only | split)

theorem State.settIn_sound {kind : Nat} {f : State → State} {s : State} (hi_ : sound s) (hf_ : ∀ t_, sound t_ → sound (f t_)) :
    sound (State.settIn kind f s) := by
  unfold State.settIn
  try dsimp only
  repeat' (first | with_reducible assumption | (with_reducible refine State.settGot_sound ?_ ) | (with_reducible refine ite_sound ?_ ?_) | (with_reducible refine id_sound ?_) | intro _ _ | intro _ | (refine hf_ _ ?_) | dsimp only | split)

theorem State.adminRun_sound {q : AdminCmd} {f : State → State} {s : State} (hi_ : sound s) (hf_ : ∀ t_, sound t_ → sound (f t_)) :
    sound (State.adminRun q f s) := by
  unfold State.adminRun
  try dsimp only
  repeat' (first | with_reducible assumption | (with_reducible refine State.adminAgain_sound ?_ ) | (with_reducible refine State.adminTake_sound ?_ ) | (with_reducible refine State.katoRestart_sound ?_ ) | (with_reducible refine ite_sound ?_ ?_) | (with_reducible refine id_sound ?_) | intro _ _ | intro _ | (refine hf_ _ ?_) | dsimp only | split)

theorem State.powerLost_sound {s : State} (hi_ : sound s) : sound (State.powerLost s) :=
  ⟨hi_.fuses, hi_.images, rfl, fun e he => nomatch he⟩

theorem execAlwaysOnSupplyLoss_sound {s : State} {t_ : State} (h_ : execAlwaysOnSupplyLoss s = .next t_) (hi_ : sound s) : sound t_ := by
  unfold execAlwaysOnSupplyLoss at h_
  repeat' (first | (obtain rfl := next_inj h_; clear h_) | (obtain rfl := bounded_next h_; clear h_) | dsimp only at h_ | split at h_)
  all_goals try dsimp only
  repeat' (first | with_reducible assumption | (with_reducible refine State.powerLost_sound ?_ ) | (with_reducible refine ite_sound ?_ ?_) | (with_reducible refine id_sound ?_) | intro _ _ | intro _ | dsimp only | split)

theorem State.denRestore_sound {f : FuseRead} {r : DenRestore} {s : State} (hi_ : sound s) :
    sound (State.denRestore f r s) := by
  unfold State.denRestore
  try dsimp only
  repeat' (first | with_reducible assumption | (with_reducible refine State.enterM5_sound ?_ ) | (with_reducible refine State.enterMode_sound ?_ ) | (with_reducible refine State.fuseLoad_sound ?_ ) | (with_reducible refine State.wiped_sound ?_ ) | (with_reducible refine State.updDen_sound ?_) | (with_reducible refine State.updModes_sound ?_) | (with_reducible refine State.updEnclave_sound ?_) | (with_reducible refine ite_sound ?_ ?_) | (with_reducible refine id_sound ?_) | intro _ _ | intro _ | dsimp only | split)

theorem execCorePgAssert_sound {fuses : FuseRead} {restore : DenRestore} {s : State} {t_ : State} (h_ : execCorePgAssert fuses restore s = .next t_) (hi_ : sound s) : sound t_ := by
  unfold execCorePgAssert at h_
  repeat' (first | (obtain rfl := next_inj h_; clear h_) | (obtain rfl := bounded_next h_; clear h_) | dsimp only at h_ | split at h_)
  all_goals try dsimp only
  repeat' (first | with_reducible assumption | (with_reducible refine State.denRestore_sound ?_ ) | (with_reducible refine State.fuseLoad_sound ?_ ) | (with_reducible refine State.updPins_sound ?_ ) | (with_reducible refine State.updDen_sound ?_) | (with_reducible refine ite_sound ?_ ?_) | (with_reducible refine id_sound ?_) | intro _ _ | intro _ | dsimp only | split)

theorem State.resetByPin_sound {s : State} (hi_ : sound s) :
    sound (State.resetByPin s) := by
  unfold State.resetByPin
  try dsimp only
  repeat' (first | with_reducible assumption | (with_reducible refine State.updPins_sound ?_ ) | (with_reducible refine State.wiped_sound ?_ ) | (with_reducible refine State.updDen_sound ?_) | (with_reducible refine ite_sound ?_ ?_) | (with_reducible refine id_sound ?_) | intro _ _ | intro _ | dsimp only | split)

theorem execResetNAssert_sound {s : State} {t_ : State} (h_ : execResetNAssert s = .next t_) (hi_ : sound s) : sound t_ := by
  unfold execResetNAssert at h_
  repeat' (first | (obtain rfl := next_inj h_; clear h_) | (obtain rfl := bounded_next h_; clear h_) | dsimp only at h_ | split at h_)
  all_goals try dsimp only
  repeat' (first | with_reducible assumption | (with_reducible refine State.resetByPin_sound ?_ ) | (with_reducible refine State.updPins_sound ?_ ) | (with_reducible refine State.updDen_sound ?_) | (with_reducible refine ite_sound ?_ ?_) | (with_reducible refine id_sound ?_) | intro _ _ | intro _ | dsimp only | split)

theorem execRailExcursion_sound {rail : Nat} {s : State} {t_ : State} (h_ : execRailExcursion rail s = .next t_) (hi_ : sound s) : sound t_ := by
  unfold execRailExcursion at h_
  repeat' (first | (obtain rfl := next_inj h_; clear h_) | (obtain rfl := bounded_next h_; clear h_) | dsimp only at h_ | split at h_)
  all_goals try dsimp only
  repeat' (first | with_reducible assumption | (with_reducible refine State.powerLost_sound ?_ ) | (with_reducible refine State.stopAndReset_sound ?_ ) | (with_reducible refine State.updDen_sound ?_) | (with_reducible refine ite_sound ?_ ?_) | (with_reducible refine id_sound ?_) | intro _ _ | intro _ | dsimp only | split)

theorem execClockFault_sound {s : State} {t_ : State} (h_ : execClockFault s = .next t_) (hi_ : sound s) : sound t_ := by
  unfold execClockFault at h_
  repeat' (first | (obtain rfl := next_inj h_; clear h_) | (obtain rfl := bounded_next h_; clear h_) | dsimp only at h_ | split at h_)
  all_goals try dsimp only
  repeat' (first | with_reducible assumption | (with_reducible refine State.stopAndReset_sound ?_ ) | (with_reducible refine ite_sound ?_ ?_) | (with_reducible refine id_sound ?_) | intro _ _ | intro _ | dsimp only | split)

theorem execInternalFault_sound {s : State} {t_ : State} (h_ : execInternalFault s = .next t_) (hi_ : sound s) : sound t_ := by
  unfold execInternalFault at h_
  repeat' (first | (obtain rfl := next_inj h_; clear h_) | (obtain rfl := bounded_next h_; clear h_) | dsimp only at h_ | split at h_)
  all_goals try dsimp only
  repeat' (first | with_reducible assumption | (with_reducible refine State.singleFault_sound ?_ ) | (with_reducible refine State.stopAndReset_sound ?_ ) | (with_reducible refine ite_sound ?_ ?_) | (with_reducible refine id_sound ?_) | intro _ _ | intro _ | dsimp only | split)

theorem execControlWatchdogExpiry_sound {s : State} {t_ : State} (h_ : execControlWatchdogExpiry s = .next t_) (hi_ : sound s) : sound t_ := by
  unfold execControlWatchdogExpiry at h_
  repeat' (first | (obtain rfl := next_inj h_; clear h_) | (obtain rfl := bounded_next h_; clear h_) | dsimp only at h_ | split at h_)
  all_goals try dsimp only
  repeat' (first | with_reducible assumption | (with_reducible refine State.resetController_sound ?_ ) | (with_reducible refine ite_sound ?_ ?_) | (with_reducible refine id_sound ?_) | intro _ _ | intro _ | dsimp only | split)

theorem execCpmSample_sound {slackPs : Nat} {avsAcked : Bool} {s : State} {t_ : State} (h_ : execCpmSample slackPs avsAcked s = .next t_) (hi_ : sound s) : sound t_ := by
  unfold execCpmSample at h_
  repeat' (first | (obtain rfl := next_inj h_; clear h_) | (obtain rfl := bounded_next h_; clear h_) | dsimp only at h_ | split at h_)
  all_goals try dsimp only
  repeat' (first | with_reducible assumption | (with_reducible refine State.raise_sound ?_ ) | (with_reducible refine State.stepVcore_sound ?_ ) | (with_reducible refine State.stopAndReset_sound ?_ ) | (with_reducible refine State.updElec_sound ?_) | (with_reducible refine State.updMargins_sound ?_) | (with_reducible refine ite_sound ?_ ?_) | (with_reducible refine id_sound ?_) | intro _ _ | intro _ | dsimp only | split)

theorem State.thermalTrip_sound {s : State} (hi_ : sound s) :
    sound (State.thermalTrip s) := by
  unfold State.thermalTrip
  try dsimp only
  repeat' (first | with_reducible assumption | (with_reducible refine State.setSeq_sound ?_ ) | (with_reducible refine State.stopService_sound ?_ ) | (with_reducible refine State.updPins_sound ?_ ) | (with_reducible refine State.wiped_sound ?_ ) | (with_reducible refine State.updDen_sound ?_) | (with_reducible refine State.updElec_sound ?_) | (with_reducible refine ite_sound ?_ ?_) | (with_reducible refine id_sound ?_) | intro _ _ | intro _ | dsimp only | split)

theorem execThermalSample_sound {dieTemps stackTemps : List Nat} {s : State} {t_ : State} (h_ : execThermalSample dieTemps stackTemps s = .next t_) (hi_ : sound s) : sound t_ := by
  unfold execThermalSample at h_
  repeat' (first | (obtain rfl := next_inj h_; clear h_) | (obtain rfl := bounded_next h_; clear h_) | dsimp only at h_ | split at h_)
  all_goals try dsimp only
  repeat' (first | with_reducible assumption | (with_reducible refine State.thermalTrip_sound ?_ ) | (with_reducible refine State.throttleStep_sound ?_ ) | (with_reducible refine State.updElec_sound ?_) | (with_reducible refine ite_sound ?_ ?_) | (with_reducible refine id_sound ?_) | intro _ _ | intro _ | dsimp only | split)

theorem execFlitArrival_sound {island flit : Nat} {crcGood : Bool} {s : State} {t_ : State} (h_ : execFlitArrival island flit crcGood s = .next t_) (hi_ : sound s) : sound t_ := by
  unfold execFlitArrival at h_
  repeat' (first | (obtain rfl := next_inj h_; clear h_) | (obtain rfl := bounded_next h_; clear h_) | dsimp only at h_ | split at h_)
  all_goals try dsimp only
  repeat' (first | with_reducible assumption | (with_reducible refine State.openIsland_sound ?_ ) | (with_reducible refine State.singleFault_sound ?_ ) | (with_reducible refine State.stopAndReset_sound ?_ ) | (with_reducible refine State.updSpine_sound ?_) | (with_reducible refine ite_sound ?_ ?_) | (with_reducible refine id_sound ?_) | intro _ _ | intro _ | dsimp only | split)

theorem State.renameJournal_sound {n old new : Nat} {s : State} (hi_ : sound s) :
    sound (State.renameJournal n old new s) := by
  unfold State.renameJournal
  try dsimp only
  repeat' (first | with_reducible assumption | (with_reducible refine State.setWord_sound ?_ ) | (with_reducible refine ite_sound ?_ ?_) | (with_reducible refine id_sound ?_) | intro _ _ | intro _ | dsimp only | split)

theorem execJournalBlock_sound {pool : Nat} {recs : List JRec} {crcGood : Bool} {s : State} {t_ : State} (h_ : execJournalBlock pool recs crcGood s = .next t_) (hi_ : sound s) : sound t_ := by
  unfold execJournalBlock at h_
  repeat' (first | (obtain rfl := next_inj h_; clear h_) | (obtain rfl := bounded_next h_; clear h_) | dsimp only at h_ | split at h_)
  all_goals try dsimp only
  repeat' (first | with_reducible assumption | (with_reducible refine State.renameJournal_sound ?_ ) | (with_reducible refine State.settIn_sound ?_ ?_ ) | (with_reducible refine State.updPool_sound ?_ ) | (with_reducible refine foldl_sound ?_ ?_) | (with_reducible refine foldl_snd_sound ?_ ?_) | (with_reducible refine ite_sound ?_ ?_) | (with_reducible refine id_sound ?_) | intro _ _ | intro _ | dsimp only | split)

theorem execJournalDriveReplace_sound {pool slot : Nat} {copies : List JCopy} {s : State} {t_ : State} (h_ : execJournalDriveReplace pool slot copies s = .next t_) (hi_ : sound s) : sound t_ := by
  unfold execJournalDriveReplace at h_
  repeat' (first | (obtain rfl := next_inj h_; clear h_) | (obtain rfl := bounded_next h_; clear h_) | dsimp only at h_ | split at h_)
  all_goals try dsimp only
  repeat' (first | with_reducible assumption | (with_reducible refine State.journal_sound ?_ ) | (with_reducible refine State.raise_sound ?_ ) | (with_reducible refine State.renameJournal_sound ?_ ) | (with_reducible refine State.submitRun_sound ?_ ) | (with_reducible refine State.updPool_sound ?_ ) | (with_reducible refine ite_sound ?_ ?_) | (with_reducible refine id_sound ?_) | intro _ _ | intro _ | dsimp only | split)

theorem State.holdupStop_sound {s : State} (hi_ : sound s) :
    sound (State.holdupStop s) := by
  unfold State.holdupStop
  try dsimp only
  repeat' (first | with_reducible assumption | (with_reducible refine State.allSlotsOff_sound ?_ ) | (with_reducible refine State.stopService_sound ?_ ) | (with_reducible refine State.updPins_sound ?_ ) | (with_reducible refine State.wiped_sound ?_ ) | (with_reducible refine State.updDen_sound ?_) | (with_reducible refine ite_sound ?_ ?_) | (with_reducible refine id_sound ?_) | intro _ _ | intro _ | dsimp only | split)

theorem State.holdupResume_sound {owed : List Nat} {s : State} (hi_ : sound s) :
    sound (State.holdupResume owed s) := by
  unfold State.holdupResume
  try dsimp only
  repeat' (first | with_reducible assumption | (with_reducible refine State.drainAll_sound ?_ ) | (with_reducible refine State.openIsland_sound ?_ ) | (with_reducible refine State.postCompletion_sound ?_ ) | (with_reducible refine State.resetByPin_sound ?_ ) | (with_reducible refine State.settle_sound ?_ ) | (with_reducible refine State.updLayout_sound ?_) | (with_reducible refine foldl_sound ?_ ?_) | (with_reducible refine foldl_snd_sound ?_ ?_) | (with_reducible refine ite_sound ?_ ?_) | (with_reducible refine id_sound ?_) | intro _ _ | intro _ | dsimp only | split)

theorem execHoldupComplete_sound {s : State} {t_ : State} (h_ : execHoldupComplete s = .next t_) (hi_ : sound s) : sound t_ := by
  unfold execHoldupComplete at h_
  repeat' (first | (obtain rfl := next_inj h_; clear h_) | (obtain rfl := bounded_next h_; clear h_) | dsimp only at h_ | split at h_)
  all_goals try dsimp only
  repeat' (first | with_reducible assumption | (with_reducible refine State.holdupResume_sound ?_ ) | (with_reducible refine State.holdupStop_sound ?_ ) | (with_reducible refine State.journalHeader_sound ?_ ) | (with_reducible refine foldl_sound ?_ ?_) | (with_reducible refine foldl_snd_sound ?_ ?_) | (with_reducible refine ite_sound ?_ ?_) | (with_reducible refine id_sound ?_) | intro _ _ | intro _ | dsimp only | split)

theorem State.reshapeEnd_sound {n : Nat} {s : State} (hi_ : sound s) :
    sound (State.reshapeEnd n s) := by
  unfold State.reshapeEnd
  try dsimp only
  repeat' (first | with_reducible assumption | (with_reducible refine State.raise_sound ?_ ) | (with_reducible refine State.setWord_sound ?_ ) | (with_reducible refine State.submit_sound ?_ ) | (with_reducible refine State.updDport_sound ?_ ) | (with_reducible refine State.updPool_sound ?_ ) | (with_reducible refine State.updBlobs_sound ?_) | (with_reducible refine foldl_sound ?_ ?_) | (with_reducible refine foldl_snd_sound ?_ ?_) | (with_reducible refine ite_sound ?_ ?_) | (with_reducible refine id_sound ?_) | intro _ _ | intro _ | dsimp only | split)

theorem State.reshapeAdvance_sound {n : Nat} {reads : List StripeRead} {s : State} (hi_ : sound s) :
    sound (State.reshapeAdvance n reads s).2 := by
  unfold State.reshapeAdvance
  try dsimp only
  repeat' (first | with_reducible assumption | (with_reducible refine State.commitSlab_sound ?_ ) | (with_reducible refine State.copyStripe_sound ?_ ) | (refine snd_sound (by with_reducible assumption) (State.copyStripe_sound ?_ )) | (with_reducible refine State.plan_sound ?_ ) | (with_reducible refine State.reshapeEnd_sound ?_ ) | (with_reducible refine State.updReshape_sound ?_ ) | (with_reducible refine State.zeroSlab_sound ?_ ) | (with_reducible refine ite_sound ?_ ?_) | (with_reducible refine id_sound ?_) | intro _ _ | intro _ | dsimp only | split)

theorem State.reshapeRun_sound {n : Nat} {reads : List StripeRead} {k : Nat} {s : State} (hi_ : sound s) : sound (State.reshapeRun n reads k s) := by
  induction k generalizing s with
  | zero => exact hi_
  | succ k ih =>
    unfold State.reshapeRun
    dsimp only
    split
    · exact ih (State.reshapeAdvance_sound hi_)
    · exact State.reshapeAdvance_sound hi_

theorem execReshapeStep_sound {pool : Nat} {reads : List StripeRead} {s : State} {t_ : State} (h_ : execReshapeStep pool reads s = .next t_) (hi_ : sound s) : sound t_ := by
  unfold execReshapeStep at h_
  repeat' (first | (obtain rfl := next_inj h_; clear h_) | (obtain rfl := bounded_next h_; clear h_) | dsimp only at h_ | split at h_)
  all_goals try dsimp only
  repeat' (first | with_reducible assumption | (with_reducible refine State.reshapeRun_sound ?_ ) | (with_reducible refine ite_sound ?_ ?_) | (with_reducible refine id_sound ?_) | intro _ _ | intro _ | dsimp only | split)

theorem State.ccpRun_sound {h : CcpHdr} {op : Nat} {group : Option Nat} {e : Option Session} {perm : Nat} {run : State → State} {s : State} (hi_ : sound s) (hrun_ : ∀ t_, sound t_ → sound (run t_)) :
    sound (State.ccpRun h op group e perm run s) := by
  unfold State.ccpRun
  try dsimp only
  repeat' (first | with_reducible assumption | (with_reducible refine State.bump_sound ?_ ) | (with_reducible refine State.ccpFail_sound ?_ ) | (with_reducible refine ite_sound ?_ ?_) | (with_reducible refine id_sound ?_) | intro _ _ | intro _ | (refine hrun_ _ ?_) | dsimp only | split)

theorem State.ccpAccepted_sound {h : CcpHdr} {op : Nat} {group : Option Nat} {perm : Session → Nat} {e : Session} {run : State → State} {s : State} (hi_ : sound s) (hrun_ : ∀ t_, sound t_ → sound (run t_)) :
    sound (State.ccpAccepted h op group perm e run s) := by
  unfold State.ccpAccepted
  try dsimp only
  repeat' (first | with_reducible assumption | (with_reducible refine State.ccpRun_sound ?_ ?_ ) | (with_reducible refine State.dropSession_sound ?_ ) | (with_reducible refine State.updSession_sound ?_ ) | (with_reducible refine ite_sound ?_ ?_) | (with_reducible refine id_sound ?_) | intro _ _ | intro _ | (refine hrun_ _ ?_) | dsimp only | split)

theorem State.ccpInSession_sound {h : CcpHdr} {op : Nat} {group : Option Nat} {perm : Session → Nat} {run : State → State} {s : State} (hi_ : sound s) (hrun_ : ∀ t_, sound t_ → sound (run t_)) :
    sound (State.ccpInSession h op group perm run s) := by
  unfold State.ccpInSession
  try dsimp only
  repeat' (first | with_reducible assumption | (with_reducible refine State.ccpAccepted_sound ?_ ?_ ) | (with_reducible refine State.ccpNotAlive_sound ?_ ) | (with_reducible refine State.ccpRefuse_sound ?_ ) | (with_reducible refine State.ccpResend_sound ?_ ) | (with_reducible refine State.mboxSilent_sound ?_ ) | (with_reducible refine ite_sound ?_ ?_) | (with_reducible refine id_sound ?_) | intro _ _ | intro _ | (refine hrun_ _ ?_) | dsimp only | split)

theorem State.ccpTake_sound {h : CcpHdr} {op : Nat} {group : Option Nat} {perm : Session → Nat} {run : State → State} {s : State} (hi_ : sound s) (hrun_ : ∀ t_, sound t_ → sound (run t_)) :
    sound (State.ccpTake h op group perm run s) := by
  unfold State.ccpTake
  try dsimp only
  repeat' (first | with_reducible assumption | (with_reducible refine State.cancelDen_sound ?_ ) | (with_reducible refine State.ccpForward_sound ?_ ) | (with_reducible refine State.ccpInSession_sound ?_ ?_ ) | (with_reducible refine State.ccpRefuse_sound ?_ ) | (with_reducible refine State.ccpRun_sound ?_ ?_ ) | (with_reducible refine State.ccpWake_sound ?_ ) | (with_reducible refine State.settIn_sound ?_ ?_ ) | (with_reducible refine State.wakeIdle_sound ?_ ) | (with_reducible refine State.updCcp_sound ?_) | (with_reducible refine ite_sound ?_ ?_) | (with_reducible refine id_sound ?_) | intro _ _ | intro _ | (refine hrun_ _ ?_) | dsimp only | split)

theorem State.ccpSimple_sound {h : CcpHdr} {op : Nat} {group : Option Nat} {run : State → State} {s : State} (hi_ : sound s) (hrun_ : ∀ t_, sound t_ → sound (run t_)) :
    sound (State.ccpSimple h op group run s) := by
  unfold State.ccpSimple
  try dsimp only
  repeat' (first | with_reducible assumption | (with_reducible refine State.ccpTake_sound ?_ ?_ ) | (with_reducible refine ite_sound ?_ ?_) | (with_reducible refine id_sound ?_) | intro _ _ | intro _ | (refine hrun_ _ ?_) | dsimp only | split)

theorem State.stopLoser_sound {noMajority : Bool} {s : State} (hi_ : sound s) :
    sound (State.stopLoser noMajority s) := by
  unfold State.stopLoser
  try dsimp only
  repeat' (first | with_reducible assumption | (with_reducible refine State.stopAndReset_sound ?_ ) | (with_reducible refine State.updPair_sound ?_) | (with_reducible refine ite_sound ?_ ?_) | (with_reducible refine id_sound ?_) | intro _ _ | intro _ | dsimp only | split)

theorem State.quorumLost_sound {noMajority : Bool} {s : State} (hi_ : sound s) :
    sound (State.quorumLost noMajority s) := by
  unfold State.quorumLost
  try dsimp only
  repeat' (first | with_reducible assumption | (with_reducible refine State.bump_sound ?_ ) | (with_reducible refine State.stopLoser_sound ?_ ) | (with_reducible refine State.updPair_sound ?_) | (with_reducible refine ite_sound ?_ ?_) | (with_reducible refine id_sound ?_) | intro _ _ | intro _ | dsimp only | split)

theorem State.quorumAnswer_sound {d status : Nat} {s : State} (hi_ : sound s) :
    sound (State.quorumAnswer d status s) := by
  unfold State.quorumAnswer
  try dsimp only
  repeat' (first | with_reducible assumption | (with_reducible refine State.quorumLost_sound ?_ ) | (with_reducible refine State.quorumWon_sound ?_ ) | (with_reducible refine State.updPair_sound ?_) | (with_reducible refine ite_sound ?_ ?_) | (with_reducible refine id_sound ?_) | intro _ _ | intro _ | dsimp only | split)

theorem State.quorumDone_sound {c : DriveCmd} {status : Nat} {s : State} (hi_ : sound s) :
    sound (State.quorumDone c status s) := by
  unfold State.quorumDone
  try dsimp only
  repeat' (first | with_reducible assumption | (with_reducible refine State.quorumAnswer_sound ?_ ) | (with_reducible refine State.updPair_sound ?_) | (with_reducible refine ite_sound ?_ ?_) | (with_reducible refine id_sound ?_) | intro _ _ | intro _ | dsimp only | split)

theorem State.cmdDone_sound {c : DriveCmd} {r : DriveCpl} {s : State} (hi_ : sound s) :
    sound (State.cmdDone c r s) := by
  unfold State.cmdDone
  try dsimp only
  repeat' (first | with_reducible assumption | (with_reducible refine State.blockIn_sound ?_ ) | (with_reducible refine State.cmdLost_sound ?_ ) | (with_reducible refine State.hotBlk_sound ?_ ) | (with_reducible refine State.partIn_sound ?_ ) | (with_reducible refine State.quorumDone_sound ?_ ) | (with_reducible refine when_sound ?_ ?_) | (with_reducible refine ite_sound ?_ ?_) | (with_reducible refine id_sound ?_) | intro _ _ | intro _ | dsimp only | split)

theorem execDriveCompletion_sound {slot tag : Nat} {cpl : DriveCpl} {s : State} {t_ : State} (h_ : execDriveCompletion slot tag cpl s = .next t_) (hi_ : sound s) : sound t_ := by
  unfold execDriveCompletion at h_
  repeat' (first | (obtain rfl := next_inj h_; clear h_) | (obtain rfl := bounded_next h_; clear h_) | dsimp only at h_ | split at h_)
  all_goals try dsimp only
  repeat' (first | with_reducible assumption | (with_reducible refine State.afterError_sound ?_ ) | (with_reducible refine State.bump_sound ?_ ) | (with_reducible refine State.cmdDone_sound ?_ ) | (with_reducible refine State.countDrive_sound ?_ ) | (with_reducible refine State.freeTagOf_sound ?_ ) | (with_reducible refine State.mediaError_sound ?_ ) | (with_reducible refine State.settle_sound ?_ ) | (with_reducible refine State.stopLoser_sound ?_ ) | (with_reducible refine State.updDport_sound ?_ ) | (with_reducible refine when_sound ?_ ?_) | (with_reducible refine ite_sound ?_ ?_) | (with_reducible refine id_sound ?_) | intro _ _ | intro _ | dsimp only | split)

theorem execQuorumWindowExpiry_sound {s : State} {t_ : State} (h_ : execQuorumWindowExpiry s = .next t_) (hi_ : sound s) : sound t_ := by
  unfold execQuorumWindowExpiry at h_
  repeat' (first | (obtain rfl := next_inj h_; clear h_) | (obtain rfl := bounded_next h_; clear h_) | dsimp only at h_ | split at h_)
  all_goals try dsimp only
  repeat' (first | with_reducible assumption | (with_reducible refine State.quorumLost_sound ?_ ) | (with_reducible refine ite_sound ?_ ?_) | (with_reducible refine id_sound ?_) | intro _ _ | intro _ | dsimp only | split)

theorem State.wordWritten_sound {id w : Nat} {s : State} (hi_ : sound s) :
    sound (State.wordWritten id w s) := by
  unfold State.wordWritten
  try dsimp only
  repeat' (first | with_reducible assumption | (with_reducible refine State.cageWritten_sound ?_ ) | (with_reducible refine State.clearHeld_sound ?_ ) | (with_reducible refine State.fillConnMeters_sound ?_ ) | (with_reducible refine State.fillTenantMeter_sound ?_ ) | (with_reducible refine State.lagWritten_sound ?_ ) | (with_reducible refine State.ltrUpdate_sound ?_ ) | (with_reducible refine State.pairSwitched_sound ?_ ) | (with_reducible refine State.portSwitched_sound ?_ ) | (with_reducible refine State.recomputePs_sound ?_ ) | (with_reducible refine State.resetShaper_sound ?_ ) | (with_reducible refine State.reshapeBegin_sound ?_ ) | (with_reducible refine State.reshapeSetPause_sound ?_ ) | (with_reducible refine State.setWord_sound ?_ ) | (with_reducible refine State.slotWritten_sound ?_ ) | (with_reducible refine State.updPort_sound ?_ ) | (with_reducible refine ite_sound ?_ ?_) | (with_reducible refine id_sound ?_) | intro _ _ | intro _ | dsimp only | split)

theorem State.writeApply_sound {id off : Nat} {b : Bytes} {s : State} (hi_ : sound s) :
    sound (State.writeApply id off b s) := by
  unfold State.writeApply
  try dsimp only
  repeat' (first | with_reducible assumption | (with_reducible refine State.bwWritten_sound ?_ ) | (with_reducible refine State.cleared_sound ?_ ) | (with_reducible refine State.controlled_sound ?_ ) | (with_reducible refine State.cvuWritten_sound ?_ ) | (with_reducible refine State.recordWritten_sound ?_ ) | (with_reducible refine when_sound ?_ ?_) | (with_reducible refine State.wordWritten_sound ?_ ) | (with_reducible refine State.updBoot_sound ?_) | (with_reducible refine State.updCcp_sound ?_) | (with_reducible refine ite_sound ?_ ?_) | (with_reducible refine id_sound ?_) | intro _ _ | intro _ | dsimp only | split)

theorem State.objWrite_sound {h : CcpHdr} {id off : Nat} {b : Bytes} {s : State} (hi_ : sound s) :
    sound (State.objWrite h id off b s) := by
  unfold State.objWrite
  try dsimp only
  repeat' (first | with_reducible assumption | (with_reducible refine State.ccpConflict_sound ?_ ) | (with_reducible refine State.ccpFail_sound ?_ ) | (with_reducible refine State.ccpReply_sound ?_ ) | (with_reducible refine State.sharedDone_sound ?_ ) | (with_reducible refine State.writeApply_sound ?_ ) | (with_reducible refine ite_sound ?_ ?_) | (with_reducible refine id_sound ?_) | intro _ _ | intro _ | dsimp only | split)

theorem State.wordWrite_sound {h : CcpHdr} {id w : Nat} {s : State} (hi_ : sound s) :
    sound (State.wordWrite h id w s) := by
  unfold State.wordWrite
  try dsimp only
  repeat' (first | with_reducible assumption | (with_reducible refine State.ccpSimple_sound ?_ ?_ ) | (with_reducible refine State.objWrite_sound ?_ ) | (with_reducible refine ite_sound ?_ ?_) | (with_reducible refine id_sound ?_) | intro _ _ | intro _ | dsimp only | split)

theorem State.spdm_sound {src : SpdmSrc} {run : State → Nat × Bytes × State} {s : State} (hi_ : sound s) (hrun_ : ∀ t_, sound t_ → sound (run t_).2.2) :
    sound (State.spdm src run s) := by
  unfold State.spdm
  try dsimp only
  repeat' (first | with_reducible assumption | (with_reducible refine State.cancelDen_sound ?_ ) | (with_reducible refine State.ccpFail_sound ?_ ) | (with_reducible refine State.ccpReply_sound ?_ ) | (with_reducible refine State.ccpSimple_sound ?_ ?_ ) | (with_reducible refine State.send_sound ?_ ) | (with_reducible refine State.wakeIdle_sound ?_ ) | (with_reducible refine ite_sound ?_ ?_) | (with_reducible refine id_sound ?_) | intro _ _ | intro _ | (refine hrun_ _ ?_) | dsimp only | split)

theorem execWriteObj_sound {h : CcpHdr} {obj offset : Nat} {bytes : Bytes} {s : State} {t_ : State} (h_ : execWriteObj h obj offset bytes s = .next t_) (hi_ : sound s) : sound t_ := by
  unfold execWriteObj at h_
  repeat' (first | (obtain rfl := next_inj h_; clear h_) | (obtain rfl := bounded_next h_; clear h_) | dsimp only at h_ | split at h_)
  all_goals try dsimp only
  repeat' (first | with_reducible assumption | (with_reducible refine State.ccpFail_sound ?_ ) | (with_reducible refine State.ccpSimple_sound ?_ ?_ ) | (with_reducible refine State.ccpUnstage_sound ?_ ) | (with_reducible refine State.objWrite_sound ?_ ) | (with_reducible refine ite_sound ?_ ?_) | (with_reducible refine id_sound ?_) | intro _ _ | intro _ | dsimp only | split)

theorem State.cvuHeld_sound {h : CcpHdr} {op unit : Nat} {run : State → State} {s : State} (hi_ : sound s) (hrun_ : ∀ t_, sound t_ → sound (run t_)) :
    sound (State.cvuHeld h op unit run s) := by
  unfold State.cvuHeld
  try dsimp only
  repeat' (first | with_reducible assumption | (with_reducible refine State.ccpConflict_sound ?_ ) | (with_reducible refine State.ccpFail_sound ?_ ) | (with_reducible refine ite_sound ?_ ?_) | (with_reducible refine id_sound ?_) | intro _ _ | intro _ | (refine hrun_ _ ?_) | dsimp only | split)

theorem execCvuInit_sound {h : CcpHdr} {unit alg : Nat} {s : State} {t_ : State} (h_ : execCvuInit h unit alg s = .next t_) (hi_ : sound s) : sound t_ := by
  unfold execCvuInit at h_
  repeat' (first | (obtain rfl := next_inj h_; clear h_) | (obtain rfl := bounded_next h_; clear h_) | dsimp only at h_ | split at h_)
  all_goals try dsimp only
  repeat' (first | with_reducible assumption | (with_reducible refine State.wordWrite_sound ?_ ) | (with_reducible refine ite_sound ?_ ?_) | (with_reducible refine id_sound ?_) | intro _ _ | intro _ | dsimp only | split)

theorem State.sharedDo_sound {h : CcpHdr} {op code : Nat} {args : List Nat} {data : Bytes} {f : State → State} {s : State} (hi_ : sound s) (hf_ : ∀ t_, sound t_ → sound (f t_)) :
    sound (State.sharedDo h op code args data f s) := by
  unfold State.sharedDo
  try dsimp only
  repeat' (first | with_reducible assumption | (with_reducible refine State.ccpFail_sound ?_ ) | (with_reducible refine State.sharedDone_sound ?_ ) | (with_reducible refine ite_sound ?_ ?_) | (with_reducible refine id_sound ?_) | intro _ _ | intro _ | (refine hf_ _ ?_) | dsimp only | split)

theorem State.localJob_sound {h : CcpHdr} {op code arg : Nat} {f : State → State} {s : State} (hi_ : sound s) (hf_ : ∀ t_, sound t_ → sound (f t_)) :
    sound (State.localJob h op code arg f s) := by
  unfold State.localJob
  try dsimp only
  repeat' (first | with_reducible assumption | (with_reducible refine State.ccpFail_sound ?_ ) | (with_reducible refine State.ccpReply_sound ?_ ) | (refine State.jobStart_sound ?_ _ _ (by with_reducible assumption)) | (with_reducible refine ite_sound ?_ ?_) | (with_reducible refine id_sound ?_) | intro _ _ | intro _ | (refine hf_ _ ?_) | dsimp only | split)

theorem State.sharedJob_sound {h : CcpHdr} {op code arg : Nat} {f : State → State} {s : State} (hi_ : sound s) (hf_ : ∀ t_, sound t_ → sound (f t_)) :
    sound (State.sharedJob h op code arg f s) := by
  unfold State.sharedJob
  try dsimp only
  repeat' (first | with_reducible assumption | (with_reducible refine State.ccpFail_sound ?_ ) | (refine State.jobStart_sound ?_ _ _ (by with_reducible assumption)) | (with_reducible refine State.sharedDone_sound ?_ ) | (with_reducible refine when_sound ?_ ?_) | (with_reducible refine ite_sound ?_ ?_) | (with_reducible refine id_sound ?_) | intro _ _ | intro _ | (refine hf_ _ ?_) | dsimp only | split)

theorem State.imageWritten_sound {s : State} (hi_ : sound s) :
    sound (State.imageWritten s).2 := by
  unfold State.imageWritten
  try dsimp only
  repeat' (first | with_reducible assumption | (with_reducible refine State.send_sound ?_ ) | (with_reducible refine State.updCcp_sound ?_) | (with_reducible refine updImages_sound ?_ ?_) | (with_reducible refine imagesSound_mod _ _ ?_ ?_) | (with_reducible refine imagesSound_put _ _ ?_ ?_) | (with_reducible refine imagesSound_adj _ _ ?_ ?_) | (exact Nat.min_le_left _ _) | (exact Nat.zero_le _) | (with_reducible refine ite_sound ?_ ?_) | (with_reducible refine id_sound ?_) | intro _ _ | intro _ | dsimp only | split)

theorem execContain_sound {h : CcpHdr} {slot : Nat} {s : State} {t_ : State} (h_ : execContain h slot s = .next t_) (hi_ : sound s) : sound t_ := by
  unfold execContain at h_
  repeat' (first | (obtain rfl := next_inj h_; clear h_) | (obtain rfl := bounded_next h_; clear h_) | dsimp only at h_ | split at h_)
  all_goals try dsimp only
  repeat' (first | with_reducible assumption | (with_reducible refine State.wordWrite_sound ?_ ) | (with_reducible refine ite_sound ?_ ?_) | (with_reducible refine id_sound ?_) | intro _ _ | intro _ | dsimp only | split)

theorem execDrivePortRelease_sound {h : CcpHdr} {slot : Nat} {s : State} {t_ : State} (h_ : execDrivePortRelease h slot s = .next t_) (hi_ : sound s) : sound t_ := by
  unfold execDrivePortRelease at h_
  repeat' (first | (obtain rfl := next_inj h_; clear h_) | (obtain rfl := bounded_next h_; clear h_) | dsimp only at h_ | split at h_)
  all_goals try dsimp only
  repeat' (first | with_reducible assumption | (with_reducible refine State.wordWrite_sound ?_ ) | (with_reducible refine ite_sound ?_ ?_) | (with_reducible refine id_sound ?_) | intro _ _ | intro _ | dsimp only | split)

theorem execClearRetry_sound {h : CcpHdr} {slot : Nat} {s : State} {t_ : State} (h_ : execClearRetry h slot s = .next t_) (hi_ : sound s) : sound t_ := by
  unfold execClearRetry at h_
  repeat' (first | (obtain rfl := next_inj h_; clear h_) | (obtain rfl := bounded_next h_; clear h_) | dsimp only at h_ | split at h_)
  all_goals try dsimp only
  repeat' (first | with_reducible assumption | (with_reducible refine State.wordWrite_sound ?_ ) | (with_reducible refine ite_sound ?_ ?_) | (with_reducible refine id_sound ?_) | intro _ _ | intro _ | dsimp only | split)

theorem execCycle_sound {h : CcpHdr} {slot : Nat} {s : State} {t_ : State} (h_ : execCycle h slot s = .next t_) (hi_ : sound s) : sound t_ := by
  unfold execCycle at h_
  repeat' (first | (obtain rfl := next_inj h_; clear h_) | (obtain rfl := bounded_next h_; clear h_) | dsimp only at h_ | split at h_)
  all_goals try dsimp only
  repeat' (first | with_reducible assumption | (with_reducible refine State.wordWrite_sound ?_ ) | (with_reducible refine ite_sound ?_ ?_) | (with_reducible refine id_sound ?_) | intro _ _ | intro _ | dsimp only | split)

theorem execFreeze_sound {h : CcpHdr} {s : State} {t_ : State} (h_ : execFreeze h s = .next t_) (hi_ : sound s) : sound t_ := by
  unfold execFreeze at h_
  repeat' (first | (obtain rfl := next_inj h_; clear h_) | (obtain rfl := bounded_next h_; clear h_) | dsimp only at h_ | split at h_)
  all_goals try dsimp only
  repeat' (first | with_reducible assumption | (with_reducible refine State.wordWrite_sound ?_ ) | (with_reducible refine ite_sound ?_ ?_) | (with_reducible refine id_sound ?_) | intro _ _ | intro _ | dsimp only | split)

theorem execLocalPortRelease_sound {h : CcpHdr} {s : State} {t_ : State} (h_ : execLocalPortRelease h s = .next t_) (hi_ : sound s) : sound t_ := by
  unfold execLocalPortRelease at h_
  repeat' (first | (obtain rfl := next_inj h_; clear h_) | (obtain rfl := bounded_next h_; clear h_) | dsimp only at h_ | split at h_)
  all_goals try dsimp only
  repeat' (first | with_reducible assumption | (with_reducible refine State.wordWrite_sound ?_ ) | (with_reducible refine ite_sound ?_ ?_) | (with_reducible refine id_sound ?_) | intro _ _ | intro _ | dsimp only | split)

theorem execLeaseMove_sound {h : CcpHdr} {value : Nat} {s : State} {t_ : State} (h_ : execLeaseMove h value s = .next t_) (hi_ : sound s) : sound t_ := by
  unfold execLeaseMove at h_
  repeat' (first | (obtain rfl := next_inj h_; clear h_) | (obtain rfl := bounded_next h_; clear h_) | dsimp only at h_ | split at h_)
  all_goals try dsimp only
  repeat' (first | with_reducible assumption | (with_reducible refine State.wordWrite_sound ?_ ) | (with_reducible refine ite_sound ?_ ?_) | (with_reducible refine id_sound ?_) | intro _ _ | intro _ | dsimp only | split)

theorem execReshapeStart_sound {h : CcpHdr} {pool : Nat} {s : State} {t_ : State} (h_ : execReshapeStart h pool s = .next t_) (hi_ : sound s) : sound t_ := by
  unfold execReshapeStart at h_
  repeat' (first | (obtain rfl := next_inj h_; clear h_) | (obtain rfl := bounded_next h_; clear h_) | dsimp only at h_ | split at h_)
  all_goals try dsimp only
  repeat' (first | with_reducible assumption | (with_reducible refine State.wordWrite_sound ?_ ) | (with_reducible refine ite_sound ?_ ?_) | (with_reducible refine id_sound ?_) | intro _ _ | intro _ | dsimp only | split)

theorem execReshapePause_sound {h : CcpHdr} {pool : Nat} {s : State} {t_ : State} (h_ : execReshapePause h pool s = .next t_) (hi_ : sound s) : sound t_ := by
  unfold execReshapePause at h_
  repeat' (first | (obtain rfl := next_inj h_; clear h_) | (obtain rfl := bounded_next h_; clear h_) | dsimp only at h_ | split at h_)
  all_goals try dsimp only
  repeat' (first | with_reducible assumption | (with_reducible refine State.wordWrite_sound ?_ ) | (with_reducible refine ite_sound ?_ ?_) | (with_reducible refine id_sound ?_) | intro _ _ | intro _ | dsimp only | split)

theorem execShaperConfigWrite_sound {h : CcpHdr} {obj value : Nat} {s : State} {t_ : State} (h_ : execShaperConfigWrite h obj value s = .next t_) (hi_ : sound s) : sound t_ := by
  unfold execShaperConfigWrite at h_
  repeat' (first | (obtain rfl := next_inj h_; clear h_) | (obtain rfl := bounded_next h_; clear h_) | dsimp only at h_ | split at h_)
  all_goals try dsimp only
  repeat' (first | with_reducible assumption | (with_reducible refine State.wordWrite_sound ?_ ) | (with_reducible refine ite_sound ?_ ?_) | (with_reducible refine id_sound ?_) | intro _ _ | intro _ | dsimp only | split)

theorem execMeterConfigWrite_sound {h : CcpHdr} {obj value : Nat} {s : State} {t_ : State} (h_ : execMeterConfigWrite h obj value s = .next t_) (hi_ : sound s) : sound t_ := by
  unfold execMeterConfigWrite at h_
  repeat' (first | (obtain rfl := next_inj h_; clear h_) | (obtain rfl := bounded_next h_; clear h_) | dsimp only at h_ | split at h_)
  all_goals try dsimp only
  repeat' (first | with_reducible assumption | (with_reducible refine State.wordWrite_sound ?_ ) | (with_reducible refine ite_sound ?_ ?_) | (with_reducible refine id_sound ?_) | intro _ _ | intro _ | dsimp only | split)

theorem execEstoreCfgWrite_sound {h : CcpHdr} {bytes : Bytes} {s : State} {t_ : State} (h_ : execEstoreCfgWrite h bytes s = .next t_) (hi_ : sound s) : sound t_ := by
  unfold execEstoreCfgWrite at h_
  repeat' (first | (obtain rfl := next_inj h_; clear h_) | (obtain rfl := bounded_next h_; clear h_) | dsimp only at h_ | split at h_)
  all_goals try dsimp only
  repeat' (first | with_reducible assumption | (with_reducible refine State.ccpFail_sound ?_ ) | (with_reducible refine State.ccpSimple_sound ?_ ?_ ) | (with_reducible refine State.ccpUnstage_sound ?_ ) | (with_reducible refine State.objWrite_sound ?_ ) | (with_reducible refine ite_sound ?_ ?_) | (with_reducible refine id_sound ?_) | intro _ _ | intro _ | dsimp only | split)

theorem execBwWindowWrite_sound {h : CcpHdr} {port windowUs : Nat} {s : State} {t_ : State} (h_ : execBwWindowWrite h port windowUs s = .next t_) (hi_ : sound s) : sound t_ := by
  unfold execBwWindowWrite at h_
  repeat' (first | (obtain rfl := next_inj h_; clear h_) | (obtain rfl := bounded_next h_; clear h_) | dsimp only at h_ | split at h_)
  all_goals try dsimp only
  repeat' (first | with_reducible assumption | (with_reducible refine State.ccpSimple_sound ?_ ?_ ) | (with_reducible refine State.objWrite_sound ?_ ) | (with_reducible refine ite_sound ?_ ?_) | (with_reducible refine id_sound ?_) | intro _ _ | intro _ | dsimp only | split)

theorem execHbmTrainingComplete_sound {good : Bool} {s : State} {t_ : State} (h_ : execHbmTrainingComplete good s = .next t_) (hi_ : sound s) : sound t_ := by
  unfold execHbmTrainingComplete at h_
  repeat' (first | (obtain rfl := next_inj h_; clear h_) | (obtain rfl := bounded_next h_; clear h_) | dsimp only at h_ | split at h_)
  all_goals try dsimp only
  repeat' (first | with_reducible assumption | (with_reducible refine State.resetController_sound ?_ ) | (with_reducible refine State.updDen_sound ?_) | (with_reducible refine State.updElec_sound ?_) | (with_reducible refine State.updBoot_sound ?_) | (with_reducible refine ite_sound ?_ ?_) | (with_reducible refine id_sound ?_) | intro _ _ | intro _ | dsimp only | split)

theorem State.writeObjects_sound {l : List (Nat × Bytes)} {s : State} (hi_ : sound s) :
    sound (State.writeObjects l s) := by
  unfold State.writeObjects
  try dsimp only
  repeat' (first | with_reducible assumption | (with_reducible refine State.raise_sound ?_ ) | (with_reducible refine State.writeApply_sound ?_ ) | (with_reducible refine foldl_sound ?_ ?_) | (with_reducible refine foldl_snd_sound ?_ ?_) | (with_reducible refine ite_sound ?_ ?_) | (with_reducible refine id_sound ?_) | intro _ _ | intro _ | dsimp only | split)

theorem State.startFirmware_sound {slotB : Bool} {i : ImageCheck} {s : State} (hi_ : sound s) :
    sound (State.startFirmware slotB i s) := by
  unfold State.startFirmware
  try dsimp only
  repeat' (first | with_reducible assumption | (with_reducible refine State.writeObjects_sound ?_ ) | (with_reducible refine State.updBoot_sound ?_) | (with_reducible refine State.updEnclave_sound ?_) | (with_reducible refine ite_sound ?_ ?_) | (with_reducible refine id_sound ?_) | intro _ _ | intro _ | dsimp only | split)

theorem execImageLoadComplete_sound {slotB : Bool} {image : ImageCheck} {s : State} {t_ : State} (h_ : execImageLoadComplete slotB image s = .next t_) (hi_ : sound s) : sound t_ := by
  unfold execImageLoadComplete at h_
  repeat' (first | (obtain rfl := next_inj h_; clear h_) | (obtain rfl := bounded_next h_; clear h_) | dsimp only at h_ | split at h_)
  all_goals try dsimp only
  repeat' (first | with_reducible assumption | (with_reducible refine State.startFirmware_sound ?_ ) | (with_reducible refine State.updBoot_sound ?_) | (with_reducible refine ite_sound ?_ ?_) | (with_reducible refine id_sound ?_) | intro _ _ | intro _ | dsimp only | split)

theorem execFirmwareStartTimeout_sound {s : State} {t_ : State} (h_ : execFirmwareStartTimeout s = .next t_) (hi_ : sound s) : sound t_ := by
  unfold execFirmwareStartTimeout at h_
  repeat' (first | (obtain rfl := next_inj h_; clear h_) | (obtain rfl := bounded_next h_; clear h_) | dsimp only at h_ | split at h_)
  all_goals try dsimp only
  repeat' (first | with_reducible assumption | (with_reducible refine State.resetController_sound ?_ ) | (with_reducible refine State.updBoot_sound ?_) | (with_reducible refine updImages_sound ?_ ?_) | (with_reducible refine imagesSound_mod _ _ ?_ ?_) | (with_reducible refine imagesSound_put _ _ ?_ ?_) | (with_reducible refine imagesSound_adj _ _ ?_ ?_) | (exact Nat.min_le_left _ _) | (exact Nat.zero_le _) | (with_reducible refine ite_sound ?_ ?_) | (with_reducible refine id_sound ?_) | intro _ _ | intro _ | dsimp only | split)

theorem State.importConf_sound {conf : List ConfCopy} {s : State} (hi_ : sound s) :
    sound (State.importConf conf s) := by
  unfold State.importConf
  try dsimp only
  repeat' (first | with_reducible assumption | (with_reducible refine State.writeObjects_sound ?_ ) | (with_reducible refine State.updBoot_sound ?_) | (with_reducible refine foldl_sound ?_ ?_) | (with_reducible refine foldl_snd_sound ?_ ?_) | (with_reducible refine ite_sound ?_ ?_) | (with_reducible refine id_sound ?_) | intro _ _ | intro _ | dsimp only | split)

theorem State.poolOpens_sound {p : PoolImport} {c : Option JCopy} {s : State} (hi_ : sound s) :
    sound (State.poolOpens p c s) := by
  unfold State.poolOpens
  try dsimp only
  repeat' (first | with_reducible assumption | (with_reducible refine State.journal_sound ?_ ) | (with_reducible refine State.setWord_sound ?_ ) | (with_reducible refine State.updPool_sound ?_ ) | (with_reducible refine State.updBoot_sound ?_) | (with_reducible refine State.updBlobs_sound ?_) | (with_reducible refine foldl_sound ?_ ?_) | (with_reducible refine foldl_snd_sound ?_ ?_) | (with_reducible refine ite_sound ?_ ?_) | (with_reducible refine id_sound ?_) | intro _ _ | intro _ | dsimp only | split)

theorem State.importPool_sound {p : PoolImport} {s : State} (hi_ : sound s) :
    sound (State.importPool p s) := by
  unfold State.importPool
  try dsimp only
  repeat' (first | with_reducible assumption | (with_reducible refine State.importLocks_sound ?_ ) | (with_reducible refine State.importMembers_sound ?_ ) | (with_reducible refine State.importReplay_sound ?_ ) | (with_reducible refine State.poolOpens_sound ?_ ) | (with_reducible refine ite_sound ?_ ?_) | (with_reducible refine id_sound ?_) | intro _ _ | intro _ | dsimp only | split)

theorem State.importAll_sound {pools : List PoolImport} {s : State} (hi_ : sound s) :
    sound (State.importAll pools s) := by
  unfold State.importAll
  try dsimp only
  repeat' (first | with_reducible assumption | (with_reducible refine State.dropLarder_sound ?_ ) | (with_reducible refine State.importExtents_sound ?_ ) | (with_reducible refine State.importPool_sound ?_ ) | (with_reducible refine State.raise_sound ?_ ) | (with_reducible refine when_sound ?_ ?_) | (with_reducible refine State.updCons_sound ?_) | (with_reducible refine foldl_sound ?_ ?_) | (with_reducible refine foldl_snd_sound ?_ ?_) | (with_reducible refine ite_sound ?_ ?_) | (with_reducible refine id_sound ?_) | intro _ _ | intro _ | dsimp only | split)

theorem execImportStart_sound {pools : List PoolImport} {conf : List ConfCopy} {quorum : List QuorumRead} {s : State} {t_ : State} (h_ : execImportStart pools conf quorum s = .next t_) (hi_ : sound s) : sound t_ := by
  unfold execImportStart at h_
  repeat' (first | (obtain rfl := next_inj h_; clear h_) | (obtain rfl := bounded_next h_; clear h_) | dsimp only at h_ | split at h_)
  all_goals try dsimp only
  repeat' (first | with_reducible assumption | (with_reducible refine State.blocksRead_sound ?_ ) | (with_reducible refine State.enterM5_sound ?_ ) | (with_reducible refine State.importAll_sound ?_ ) | (with_reducible refine State.importConf_sound ?_ ) | (with_reducible refine State.importShelfKey_sound ?_ ) | (with_reducible refine State.replayCheck_sound ?_ ) | (with_reducible refine State.settle_sound ?_ ) | (with_reducible refine State.startPairing_sound ?_ ) | (with_reducible refine when_sound ?_ ?_) | (with_reducible refine State.updKeep_sound ?_) | (with_reducible refine State.updBoot_sound ?_) | (with_reducible refine State.updPair_sound ?_) | (with_reducible refine foldl_sound ?_ ?_) | (with_reducible refine foldl_snd_sound ?_ ?_) | (with_reducible refine updImages_sound ?_ ?_) | (with_reducible refine imagesSound_mod _ _ ?_ ?_) | (with_reducible refine imagesSound_put _ _ ?_ ?_) | (with_reducible refine imagesSound_adj _ _ ?_ ?_) | (exact Nat.min_le_left _ _) | (exact Nat.zero_le _) | (with_reducible refine ite_sound ?_ ?_) | (with_reducible refine id_sound ?_) | intro _ _ | intro _ | dsimp only | split)

theorem State.jobCommit_sound {op arg status : Nat} {s : State} (hi_ : sound s) :
    sound (State.jobCommit op arg status s).2 := by
  unfold State.jobCommit
  try dsimp only
  repeat' (first | with_reducible assumption | (with_reducible refine State.driveFormatted_sound ?_ ) | (with_reducible refine State.imageWritten_sound ?_ ) | (refine snd_sound (by with_reducible assumption) (State.imageWritten_sound ?_ )) | (with_reducible refine State.nsDeleted_sound ?_ ) | (with_reducible refine State.poolCreated_sound ?_ ) | (with_reducible refine State.poolDeleted_sound ?_ ) | (with_reducible refine State.poolFailed_sound ?_ ) | (with_reducible refine State.rotationDone_sound ?_ ) | (with_reducible refine State.settIfPaired_sound ?_ ) | (with_reducible refine when_sound ?_ ?_) | (with_reducible refine State.updCcp_sound ?_) | (with_reducible refine ite_sound ?_ ?_) | (with_reducible refine id_sound ?_) | intro _ _ | intro _ | dsimp only | split)

theorem execJobComplete_sound {job status : Nat} {s : State} {t_ : State} (h_ : execJobComplete job status s = .next t_) (hi_ : sound s) : sound t_ := by
  unfold execJobComplete at h_
  repeat' (first | (obtain rfl := next_inj h_; clear h_) | (obtain rfl := bounded_next h_; clear h_) | dsimp only at h_ | split at h_)
  all_goals try dsimp only
  repeat' (first | with_reducible assumption | (with_reducible refine State.jobCommit_sound ?_ ) | (refine snd_sound (by with_reducible assumption) (State.jobCommit_sound ?_ )) | (with_reducible refine State.jobEvent_sound ?_ ) | (with_reducible refine State.updCcp_sound ?_) | (with_reducible refine ite_sound ?_ ?_) | (with_reducible refine id_sound ?_) | intro _ _ | intro _ | dsimp only | split)

theorem execFwCommit_sound {h : CcpHdr} {length : Nat} {image : ImageCheck} {s : State} {t_ : State} (h_ : execFwCommit h length image s = .next t_) (hi_ : sound s) : sound t_ := by
  unfold execFwCommit at h_
  repeat' (first | (obtain rfl := next_inj h_; clear h_) | (obtain rfl := bounded_next h_; clear h_) | dsimp only at h_ | split at h_)
  all_goals try dsimp only
  repeat' (first | with_reducible assumption | (with_reducible refine State.ccpSimple_sound ?_ ?_ ) | (with_reducible refine State.localJob_sound ?_ ?_ ) | (with_reducible refine State.updCcp_sound ?_) | (with_reducible refine updImages_sound ?_ ?_) | (with_reducible refine imagesSound_mod _ _ ?_ ?_) | (with_reducible refine imagesSound_put _ _ ?_ ?_) | (with_reducible refine imagesSound_adj _ _ ?_ ?_) | (exact Nat.min_le_left _ _) | (exact Nat.zero_le _) | (with_reducible refine ite_sound ?_ ?_) | (with_reducible refine id_sound ?_) | intro _ _ | intro _ | dsimp only | split)

theorem execRollbackAdvance_sound {h : CcpHdr} {count : Nat} {s : State} {t_ : State} (h_ : execRollbackAdvance h count s = .next t_) (hi_ : sound s) : sound t_ := by
  unfold execRollbackAdvance at h_
  repeat' (first | (obtain rfl := next_inj h_; clear h_) | (obtain rfl := bounded_next h_; clear h_) | dsimp only at h_ | split at h_)
  all_goals try dsimp only
  repeat' (first | with_reducible assumption | (with_reducible refine State.ccpFail_sound ?_ ) | (with_reducible refine State.ccpReply_sound ?_ ) | (with_reducible refine State.ccpSimple_sound ?_ ?_ ) | (with_reducible refine updFuses_sound ?_ ?_) | (intro h_; exact h_) | (with_reducible refine ite_sound ?_ ?_) | (with_reducible refine id_sound ?_) | intro _ _ | intro _ | dsimp only | split)

theorem execReset_sound {h : CcpHdr} {s : State} {t_ : State} (h_ : execReset h s = .next t_) (hi_ : sound s) : sound t_ := by
  unfold execReset at h_
  repeat' (first | (obtain rfl := next_inj h_; clear h_) | (obtain rfl := bounded_next h_; clear h_) | dsimp only at h_ | split at h_)
  all_goals try dsimp only
  repeat' (first | with_reducible assumption | (with_reducible refine State.ccpReply_sound ?_ ) | (with_reducible refine State.ccpSimple_sound ?_ ?_ ) | (with_reducible refine State.resetController_sound ?_ ) | (with_reducible refine ite_sound ?_ ?_) | (with_reducible refine id_sound ?_) | intro _ _ | intro _ | dsimp only | split)

theorem fuses_step_sound {f : Fuses} {role target : Nat} {p : Provisioning} (h : stepAllowed f role target = true) (hf : fusesSound f) :
    fusesSound (f.step target p) := by
  unfold stepAllowed at h
  unfold Fuses.step fusesSound
  split at h <;> simp_all [legalLifeCycle]

theorem execLifecycleStep_sound {h : CcpHdr} {target : Nat} {prov : Provisioning} {s : State} {t_ : State} (h_ : execLifecycleStep h target prov s = .next t_)
    (hi_ : sound s) : sound t_ := by
  unfold execLifecycleStep at h_
  obtain rfl := next_inj h_
  refine State.ccpSimple_sound hi_ ?_
  intro t ht
  dsimp only
  split
  · exact sound_keep (State.ccpFail_touch (m_ := 74579968) rfl (Touch.refl _ _)) (by decide) ht
  · rename_i hc
    refine State.resetController_sound (updFuses_sound ?_ ?_)
    · exact sound_keep (State.wipeAll_touch (m_ := 8193) rfl (Touch.refl _ _)) (by decide)
        (sound_keep (State.stopService_touch (m_ := 80896) rfl (Touch.refl _ _)) (by decide)
          (sound_keep (State.ccpReply_touch (m_ := 74579968) rfl (Touch.refl _ _)) (by decide) ht))
    · have e : (t.ccpReply h 88 0 []).stopService.wipeAll.fuses = t.fuses :=
        (State.wipeAll_touch (m_ := 74660865) rfl (State.stopService_touch (m_ := 74660865) rfl (State.ccpReply_touch rfl (Touch.refl _ t)))).out .fuses (by decide)
      rw [e]
      intro hf
      refine fuses_step_sound (role := (t.session h.session).role) ?_ hf
      unfold State.stepStatus at hc
      rcases Bool.eq_false_or_eq_true (stepAllowed t.fuses (t.session h.session).role target) with hn | hn
      · exact hn
      · exfalso
        revert hc
        simp only [hn]
        split <;> simp [ccMode, ccLifeCycle]

theorem execRootBirth_sound {h : CcpHdr} {s : State} {t_ : State} (h_ : execRootBirth h s = .next t_) (hi_ : sound s) : sound t_ := by
  unfold execRootBirth at h_
  repeat' (first | (obtain rfl := next_inj h_; clear h_) | (obtain rfl := bounded_next h_; clear h_) | dsimp only at h_ | split at h_)
  all_goals try dsimp only
  repeat' (first | with_reducible assumption | (with_reducible refine State.ccpFail_sound ?_ ) | (with_reducible refine State.ccpReply_sound ?_ ) | (with_reducible refine State.ccpSimple_sound ?_ ?_ ) | (with_reducible refine State.draw_sound ?_ ) | (with_reducible refine updFuses_sound ?_ ?_) | (intro h_; exact h_) | (with_reducible refine ite_sound ?_ ?_) | (with_reducible refine id_sound ?_) | intro _ _ | intro _ | dsimp only | split)

theorem execTenantRemove_sound {h : CcpHdr} {tenant : Nat} {s : State} {t_ : State} (h_ : execTenantRemove h tenant s = .next t_) (hi_ : sound s) : sound t_ := by
  unfold execTenantRemove at h_
  repeat' (first | (obtain rfl := next_inj h_; clear h_) | (obtain rfl := bounded_next h_; clear h_) | dsimp only at h_ | split at h_)
  all_goals try dsimp only
  repeat' (first | with_reducible assumption | (with_reducible refine State.ccpSimple_sound ?_ ?_ ) | (with_reducible refine State.endTenantSessions_sound ?_ ) | (with_reducible refine State.eraseNsKeys_sound ?_ ) | (with_reducible refine State.setWord_sound ?_ ) | (with_reducible refine State.sharedDo_sound ?_ ?_ ) | (with_reducible refine State.updTenant_sound ?_ ) | (with_reducible refine foldl_sound ?_ ?_) | (with_reducible refine foldl_snd_sound ?_ ?_) | (with_reducible refine ite_sound ?_ ?_) | (with_reducible refine id_sound ?_) | intro _ _ | intro _ | dsimp only | split)

theorem State.capsule_sound {h : CcpHdr} {kind : Nat} {c : Capsule} {more : State → Nat} {f : State → State} {results : State → List Nat} {s : State} (hi_ : sound s) (hf_ : ∀ t_, sound t_ → sound (f t_)) :
    sound (State.capsule h kind c more f results s) := by
  unfold State.capsule
  try dsimp only
  repeat' (first | with_reducible assumption | (with_reducible refine State.capsuleTaken_sound ?_ ) | (with_reducible refine State.ccpFail_sound ?_ ) | (with_reducible refine State.ccpTake_sound ?_ ?_ ) | (with_reducible refine State.sharedDone_sound ?_ ) | (with_reducible refine ite_sound ?_ ?_) | (with_reducible refine id_sound ?_) | intro _ _ | intro _ | (refine hf_ _ ?_) | dsimp only | split)

theorem execDelegate_sound {h : CcpHdr} {tenant groups : Nat} {s : State} {t_ : State} (h_ : execDelegate h tenant groups s = .next t_) (hi_ : sound s) : sound t_ := by
  unfold execDelegate at h_
  repeat' (first | (obtain rfl := next_inj h_; clear h_) | (obtain rfl := bounded_next h_; clear h_) | dsimp only at h_ | split at h_)
  all_goals try dsimp only
  repeat' (first | with_reducible assumption | (with_reducible refine State.ccpSimple_sound ?_ ?_ ) | (with_reducible refine State.setWord_sound ?_ ) | (with_reducible refine State.sharedDo_sound ?_ ?_ ) | (with_reducible refine ite_sound ?_ ?_) | (with_reducible refine id_sound ?_) | intro _ _ | intro _ | dsimp only | split)

end Sys2Proof.Machine
end

