-- ==== Sys2Proof/Laws/State.lean ====
section
/-! SUPPORT. What each update function of State leaves alone and what it changes: one lemma for each field and
each update, so that no later proof unfolds a record update. -/
namespace Sys2Proof.Machine

@[simp] theorem State.updDen_den (f : Den → Den) (s : State) : (s.updDen f).den = f s.den := rfl
@[simp] theorem State.updDen_power (f : Den → Den) (s : State) : (s.updDen f).power = s.power := rfl
@[simp] theorem State.updDen_keep (f : Den → Den) (s : State) : (s.updDen f).keep = s.keep := rfl
@[simp] theorem State.updDen_fuses (f : Den → Den) (s : State) : (s.updDen f).fuses = s.fuses := rfl
@[simp] theorem State.updDen_images (f : Den → Den) (s : State) : (s.updDen f).images = s.images := rfl
@[simp] theorem State.updDen_elec (f : Den → Den) (s : State) : (s.updDen f).elec = s.elec := rfl
@[simp] theorem State.updDen_boot (f : Den → Den) (s : State) : (s.updDen f).boot = s.boot := rfl
@[simp] theorem State.updDen_modes (f : Den → Den) (s : State) : (s.updDen f).modes = s.modes := rfl
@[simp] theorem State.updDen_spine (f : Den → Den) (s : State) : (s.updDen f).spine = s.spine := rfl
@[simp] theorem State.updDen_net (f : Den → Den) (s : State) : (s.updDen f).net = s.net := rfl
@[simp] theorem State.updDen_xport (f : Den → Den) (s : State) : (s.updDen f).xport = s.xport := rfl
@[simp] theorem State.updDen_cmds (f : Den → Den) (s : State) : (s.updDen f).cmds = s.cmds := rfl
@[simp] theorem State.updDen_cons (f : Den → Den) (s : State) : (s.updDen f).cons = s.cons := rfl
@[simp] theorem State.updDen_layout (f : Den → Den) (s : State) : (s.updDen f).layout = s.layout := rfl
@[simp] theorem State.updDen_cipher (f : Den → Den) (s : State) : (s.updDen f).cipher = s.cipher := rfl
@[simp] theorem State.updDen_enclave (f : Den → Den) (s : State) : (s.updDen f).enclave = s.enclave := rfl
@[simp] theorem State.updDen_qos (f : Den → Den) (s : State) : (s.updDen f).qos = s.qos := rfl
@[simp] theorem State.updDen_pair (f : Den → Den) (s : State) : (s.updDen f).pair = s.pair := rfl
@[simp] theorem State.updDen_drives (f : Den → Den) (s : State) : (s.updDen f).drives = s.drives := rfl
@[simp] theorem State.updDen_margins (f : Den → Den) (s : State) : (s.updDen f).margins = s.margins := rfl
@[simp] theorem State.updDen_localPort (f : Den → Den) (s : State) : (s.updDen f).localPort = s.localPort := rfl
@[simp] theorem State.updDen_ccp (f : Den → Den) (s : State) : (s.updDen f).ccp = s.ccp := rfl
@[simp] theorem State.updDen_telem (f : Den → Den) (s : State) : (s.updDen f).telem = s.telem := rfl
@[simp] theorem State.updDen_regs (f : Den → Den) (s : State) : (s.updDen f).regs = s.regs := rfl
@[simp] theorem State.updDen_blobs (f : Den → Den) (s : State) : (s.updDen f).blobs = s.blobs := rfl
@[simp] theorem State.updDen_fresh (f : Den → Den) (s : State) : (s.updDen f).fresh = s.fresh := rfl
@[simp] theorem State.updDen_sent (f : Den → Den) (s : State) : (s.updDen f).sent = s.sent := rfl
@[simp] theorem State.updDen_pending (f : Den → Den) (s : State) : (s.updDen f).pending = s.pending := rfl
@[simp] theorem State.updPower_den (f : PowerKeep → PowerKeep) (s : State) : (s.updPower f).den = s.den := rfl
@[simp] theorem State.updPower_power (f : PowerKeep → PowerKeep) (s : State) : (s.updPower f).power = f s.power := rfl
@[simp] theorem State.updPower_keep (f : PowerKeep → PowerKeep) (s : State) : (s.updPower f).keep = s.keep := rfl
@[simp] theorem State.updPower_fuses (f : PowerKeep → PowerKeep) (s : State) : (s.updPower f).fuses = s.fuses := rfl
@[simp] theorem State.updPower_images (f : PowerKeep → PowerKeep) (s : State) : (s.updPower f).images = s.images := rfl
@[simp] theorem State.updPower_elec (f : PowerKeep → PowerKeep) (s : State) : (s.updPower f).elec = s.elec := rfl
@[simp] theorem State.updPower_boot (f : PowerKeep → PowerKeep) (s : State) : (s.updPower f).boot = s.boot := rfl
@[simp] theorem State.updPower_modes (f : PowerKeep → PowerKeep) (s : State) : (s.updPower f).modes = s.modes := rfl
@[simp] theorem State.updPower_spine (f : PowerKeep → PowerKeep) (s : State) : (s.updPower f).spine = s.spine := rfl
@[simp] theorem State.updPower_net (f : PowerKeep → PowerKeep) (s : State) : (s.updPower f).net = s.net := rfl
@[simp] theorem State.updPower_xport (f : PowerKeep → PowerKeep) (s : State) : (s.updPower f).xport = s.xport := rfl
@[simp] theorem State.updPower_cmds (f : PowerKeep → PowerKeep) (s : State) : (s.updPower f).cmds = s.cmds := rfl
@[simp] theorem State.updPower_cons (f : PowerKeep → PowerKeep) (s : State) : (s.updPower f).cons = s.cons := rfl
@[simp] theorem State.updPower_layout (f : PowerKeep → PowerKeep) (s : State) : (s.updPower f).layout = s.layout := rfl
@[simp] theorem State.updPower_cipher (f : PowerKeep → PowerKeep) (s : State) : (s.updPower f).cipher = s.cipher := rfl
@[simp] theorem State.updPower_enclave (f : PowerKeep → PowerKeep) (s : State) : (s.updPower f).enclave = s.enclave := rfl
@[simp] theorem State.updPower_qos (f : PowerKeep → PowerKeep) (s : State) : (s.updPower f).qos = s.qos := rfl
@[simp] theorem State.updPower_pair (f : PowerKeep → PowerKeep) (s : State) : (s.updPower f).pair = s.pair := rfl
@[simp] theorem State.updPower_drives (f : PowerKeep → PowerKeep) (s : State) : (s.updPower f).drives = s.drives := rfl
@[simp] theorem State.updPower_margins (f : PowerKeep → PowerKeep) (s : State) : (s.updPower f).margins = s.margins := rfl
@[simp] theorem State.updPower_localPort (f : PowerKeep → PowerKeep) (s : State) : (s.updPower f).localPort = s.localPort := rfl
@[simp] theorem State.updPower_ccp (f : PowerKeep → PowerKeep) (s : State) : (s.updPower f).ccp = s.ccp := rfl
@[simp] theorem State.updPower_telem (f : PowerKeep → PowerKeep) (s : State) : (s.updPower f).telem = s.telem := rfl
@[simp] theorem State.updPower_regs (f : PowerKeep → PowerKeep) (s : State) : (s.updPower f).regs = s.regs := rfl
@[simp] theorem State.updPower_blobs (f : PowerKeep → PowerKeep) (s : State) : (s.updPower f).blobs = s.blobs := rfl
@[simp] theorem State.updPower_fresh (f : PowerKeep → PowerKeep) (s : State) : (s.updPower f).fresh = s.fresh := rfl
@[simp] theorem State.updPower_sent (f : PowerKeep → PowerKeep) (s : State) : (s.updPower f).sent = s.sent := rfl
@[simp] theorem State.updPower_pending (f : PowerKeep → PowerKeep) (s : State) : (s.updPower f).pending = s.pending := rfl
@[simp] theorem State.updKeep_den (f : EnclaveKeep → EnclaveKeep) (s : State) : (s.updKeep f).den = s.den := rfl
@[simp] theorem State.updKeep_power (f : EnclaveKeep → EnclaveKeep) (s : State) : (s.updKeep f).power = s.power := rfl
@[simp] theorem State.updKeep_keep (f : EnclaveKeep → EnclaveKeep) (s : State) : (s.updKeep f).keep = f s.keep := rfl
@[simp] theorem State.updKeep_fuses (f : EnclaveKeep → EnclaveKeep) (s : State) : (s.updKeep f).fuses = s.fuses := rfl
@[simp] theorem State.updKeep_images (f : EnclaveKeep → EnclaveKeep) (s : State) : (s.updKeep f).images = s.images := rfl
@[simp] theorem State.updKeep_elec (f : EnclaveKeep → EnclaveKeep) (s : State) : (s.updKeep f).elec = s.elec := rfl
@[simp] theorem State.updKeep_boot (f : EnclaveKeep → EnclaveKeep) (s : State) : (s.updKeep f).boot = s.boot := rfl
@[simp] theorem State.updKeep_modes (f : EnclaveKeep → EnclaveKeep) (s : State) : (s.updKeep f).modes = s.modes := rfl
@[simp] theorem State.updKeep_spine (f : EnclaveKeep → EnclaveKeep) (s : State) : (s.updKeep f).spine = s.spine := rfl
@[simp] theorem State.updKeep_net (f : EnclaveKeep → EnclaveKeep) (s : State) : (s.updKeep f).net = s.net := rfl
@[simp] theorem State.updKeep_xport (f : EnclaveKeep → EnclaveKeep) (s : State) : (s.updKeep f).xport = s.xport := rfl
@[simp] theorem State.updKeep_cmds (f : EnclaveKeep → EnclaveKeep) (s : State) : (s.updKeep f).cmds = s.cmds := rfl
@[simp] theorem State.updKeep_cons (f : EnclaveKeep → EnclaveKeep) (s : State) : (s.updKeep f).cons = s.cons := rfl
@[simp] theorem State.updKeep_layout (f : EnclaveKeep → EnclaveKeep) (s : State) : (s.updKeep f).layout = s.layout := rfl
@[simp] theorem State.updKeep_cipher (f : EnclaveKeep → EnclaveKeep) (s : State) : (s.updKeep f).cipher = s.cipher := rfl
@[simp] theorem State.updKeep_enclave (f : EnclaveKeep → EnclaveKeep) (s : State) : (s.updKeep f).enclave = s.enclave := rfl
@[simp] theorem State.updKeep_qos (f : EnclaveKeep → EnclaveKeep) (s : State) : (s.updKeep f).qos = s.qos := rfl
@[simp] theorem State.updKeep_pair (f : EnclaveKeep → EnclaveKeep) (s : State) : (s.updKeep f).pair = s.pair := rfl
@[simp] theorem State.updKeep_drives (f : EnclaveKeep → EnclaveKeep) (s : State) : (s.updKeep f).drives = s.drives := rfl
@[simp] theorem State.updKeep_margins (f : EnclaveKeep → EnclaveKeep) (s : State) : (s.updKeep f).margins = s.margins := rfl
@[simp] theorem State.updKeep_localPort (f : EnclaveKeep → EnclaveKeep) (s : State) : (s.updKeep f).localPort = s.localPort := rfl
@[simp] theorem State.updKeep_ccp (f : EnclaveKeep → EnclaveKeep) (s : State) : (s.updKeep f).ccp = s.ccp := rfl
@[simp] theorem State.updKeep_telem (f : EnclaveKeep → EnclaveKeep) (s : State) : (s.updKeep f).telem = s.telem := rfl
@[simp] theorem State.updKeep_regs (f : EnclaveKeep → EnclaveKeep) (s : State) : (s.updKeep f).regs = s.regs := rfl
@[simp] theorem State.updKeep_blobs (f : EnclaveKeep → EnclaveKeep) (s : State) : (s.updKeep f).blobs = s.blobs := rfl
@[simp] theorem State.updKeep_fresh (f : EnclaveKeep → EnclaveKeep) (s : State) : (s.updKeep f).fresh = s.fresh := rfl
@[simp] theorem State.updKeep_sent (f : EnclaveKeep → EnclaveKeep) (s : State) : (s.updKeep f).sent = s.sent := rfl
@[simp] theorem State.updKeep_pending (f : EnclaveKeep → EnclaveKeep) (s : State) : (s.updKeep f).pending = s.pending := rfl
@[simp] theorem State.updFuses_den (f : Fuses → Fuses) (s : State) : (s.updFuses f).den = s.den := rfl
@[simp] theorem State.updFuses_power (f : Fuses → Fuses) (s : State) : (s.updFuses f).power = s.power := rfl
@[simp] theorem State.updFuses_keep (f : Fuses → Fuses) (s : State) : (s.updFuses f).keep = s.keep := rfl
@[simp] theorem State.updFuses_fuses (f : Fuses → Fuses) (s : State) : (s.updFuses f).fuses = f s.fuses := rfl
@[simp] theorem State.updFuses_images (f : Fuses → Fuses) (s : State) : (s.updFuses f).images = s.images := rfl
@[simp] theorem State.updFuses_elec (f : Fuses → Fuses) (s : State) : (s.updFuses f).elec = s.elec := rfl
@[simp] theorem State.updFuses_boot (f : Fuses → Fuses) (s : State) : (s.updFuses f).boot = s.boot := rfl
@[simp] theorem State.updFuses_modes (f : Fuses → Fuses) (s : State) : (s.updFuses f).modes = s.modes := rfl
@[simp] theorem State.updFuses_spine (f : Fuses → Fuses) (s : State) : (s.updFuses f).spine = s.spine := rfl
@[simp] theorem State.updFuses_net (f : Fuses → Fuses) (s : State) : (s.updFuses f).net = s.net := rfl
@[simp] theorem State.updFuses_xport (f : Fuses → Fuses) (s : State) : (s.updFuses f).xport = s.xport := rfl
@[simp] theorem State.updFuses_cmds (f : Fuses → Fuses) (s : State) : (s.updFuses f).cmds = s.cmds := rfl
@[simp] theorem State.updFuses_cons (f : Fuses → Fuses) (s : State) : (s.updFuses f).cons = s.cons := rfl
@[simp] theorem State.updFuses_layout (f : Fuses → Fuses) (s : State) : (s.updFuses f).layout = s.layout := rfl
@[simp] theorem State.updFuses_cipher (f : Fuses → Fuses) (s : State) : (s.updFuses f).cipher = s.cipher := rfl
@[simp] theorem State.updFuses_enclave (f : Fuses → Fuses) (s : State) : (s.updFuses f).enclave = s.enclave := rfl
@[simp] theorem State.updFuses_qos (f : Fuses → Fuses) (s : State) : (s.updFuses f).qos = s.qos := rfl
@[simp] theorem State.updFuses_pair (f : Fuses → Fuses) (s : State) : (s.updFuses f).pair = s.pair := rfl
@[simp] theorem State.updFuses_drives (f : Fuses → Fuses) (s : State) : (s.updFuses f).drives = s.drives := rfl
@[simp] theorem State.updFuses_margins (f : Fuses → Fuses) (s : State) : (s.updFuses f).margins = s.margins := rfl
@[simp] theorem State.updFuses_localPort (f : Fuses → Fuses) (s : State) : (s.updFuses f).localPort = s.localPort := rfl
@[simp] theorem State.updFuses_ccp (f : Fuses → Fuses) (s : State) : (s.updFuses f).ccp = s.ccp := rfl
@[simp] theorem State.updFuses_telem (f : Fuses → Fuses) (s : State) : (s.updFuses f).telem = s.telem := rfl
@[simp] theorem State.updFuses_regs (f : Fuses → Fuses) (s : State) : (s.updFuses f).regs = s.regs := rfl
@[simp] theorem State.updFuses_blobs (f : Fuses → Fuses) (s : State) : (s.updFuses f).blobs = s.blobs := rfl
@[simp] theorem State.updFuses_fresh (f : Fuses → Fuses) (s : State) : (s.updFuses f).fresh = s.fresh := rfl
@[simp] theorem State.updFuses_sent (f : Fuses → Fuses) (s : State) : (s.updFuses f).sent = s.sent := rfl
@[simp] theorem State.updFuses_pending (f : Fuses → Fuses) (s : State) : (s.updFuses f).pending = s.pending := rfl
@[simp] theorem State.updImages_den (f : Tbl ImageSlot → Tbl ImageSlot) (s : State) : (s.updImages f).den = s.den := rfl
@[simp] theorem State.updImages_power (f : Tbl ImageSlot → Tbl ImageSlot) (s : State) : (s.updImages f).power = s.power := rfl
@[simp] theorem State.updImages_keep (f : Tbl ImageSlot → Tbl ImageSlot) (s : State) : (s.updImages f).keep = s.keep := rfl
@[simp] theorem State.updImages_fuses (f : Tbl ImageSlot → Tbl ImageSlot) (s : State) : (s.updImages f).fuses = s.fuses := rfl
@[simp] theorem State.updImages_images (f : Tbl ImageSlot → Tbl ImageSlot) (s : State) : (s.updImages f).images = f s.images := rfl
@[simp] theorem State.updImages_elec (f : Tbl ImageSlot → Tbl ImageSlot) (s : State) : (s.updImages f).elec = s.elec := rfl
@[simp] theorem State.updImages_boot (f : Tbl ImageSlot → Tbl ImageSlot) (s : State) : (s.updImages f).boot = s.boot := rfl
@[simp] theorem State.updImages_modes (f : Tbl ImageSlot → Tbl ImageSlot) (s : State) : (s.updImages f).modes = s.modes := rfl
@[simp] theorem State.updImages_spine (f : Tbl ImageSlot → Tbl ImageSlot) (s : State) : (s.updImages f).spine = s.spine := rfl
@[simp] theorem State.updImages_net (f : Tbl ImageSlot → Tbl ImageSlot) (s : State) : (s.updImages f).net = s.net := rfl
@[simp] theorem State.updImages_xport (f : Tbl ImageSlot → Tbl ImageSlot) (s : State) : (s.updImages f).xport = s.xport := rfl
@[simp] theorem State.updImages_cmds (f : Tbl ImageSlot → Tbl ImageSlot) (s : State) : (s.updImages f).cmds = s.cmds := rfl
@[simp] theorem State.updImages_cons (f : Tbl ImageSlot → Tbl ImageSlot) (s : State) : (s.updImages f).cons = s.cons := rfl
@[simp] theorem State.updImages_layout (f : Tbl ImageSlot → Tbl ImageSlot) (s : State) : (s.updImages f).layout = s.layout := rfl
@[simp] theorem State.updImages_cipher (f : Tbl ImageSlot → Tbl ImageSlot) (s : State) : (s.updImages f).cipher = s.cipher := rfl
@[simp] theorem State.updImages_enclave (f : Tbl ImageSlot → Tbl ImageSlot) (s : State) : (s.updImages f).enclave = s.enclave := rfl
@[simp] theorem State.updImages_qos (f : Tbl ImageSlot → Tbl ImageSlot) (s : State) : (s.updImages f).qos = s.qos := rfl
@[simp] theorem State.updImages_pair (f : Tbl ImageSlot → Tbl ImageSlot) (s : State) : (s.updImages f).pair = s.pair := rfl
@[simp] theorem State.updImages_drives (f : Tbl ImageSlot → Tbl ImageSlot) (s : State) : (s.updImages f).drives = s.drives := rfl
@[simp] theorem State.updImages_margins (f : Tbl ImageSlot → Tbl ImageSlot) (s : State) : (s.updImages f).margins = s.margins := rfl
@[simp] theorem State.updImages_localPort (f : Tbl ImageSlot → Tbl ImageSlot) (s : State) : (s.updImages f).localPort = s.localPort := rfl
@[simp] theorem State.updImages_ccp (f : Tbl ImageSlot → Tbl ImageSlot) (s : State) : (s.updImages f).ccp = s.ccp := rfl
@[simp] theorem State.updImages_telem (f : Tbl ImageSlot → Tbl ImageSlot) (s : State) : (s.updImages f).telem = s.telem := rfl
@[simp] theorem State.updImages_regs (f : Tbl ImageSlot → Tbl ImageSlot) (s : State) : (s.updImages f).regs = s.regs := rfl
@[simp] theorem State.updImages_blobs (f : Tbl ImageSlot → Tbl ImageSlot) (s : State) : (s.updImages f).blobs = s.blobs := rfl
@[simp] theorem State.updImages_fresh (f : Tbl ImageSlot → Tbl ImageSlot) (s : State) : (s.updImages f).fresh = s.fresh := rfl
@[simp] theorem State.updImages_sent (f : Tbl ImageSlot → Tbl ImageSlot) (s : State) : (s.updImages f).sent = s.sent := rfl
@[simp] theorem State.updImages_pending (f : Tbl ImageSlot → Tbl ImageSlot) (s : State) : (s.updImages f).pending = s.pending := rfl
@[simp] theorem State.updElec_den (f : Elec → Elec) (s : State) : (s.updElec f).den = s.den := rfl
@[simp] theorem State.updElec_power (f : Elec → Elec) (s : State) : (s.updElec f).power = s.power := rfl
@[simp] theorem State.updElec_keep (f : Elec → Elec) (s : State) : (s.updElec f).keep = s.keep := rfl
@[simp] theorem State.updElec_fuses (f : Elec → Elec) (s : State) : (s.updElec f).fuses = s.fuses := rfl
@[simp] theorem State.updElec_images (f : Elec → Elec) (s : State) : (s.updElec f).images = s.images := rfl
@[simp] theorem State.updElec_elec (f : Elec → Elec) (s : State) : (s.updElec f).elec = f s.elec := rfl
@[simp] theorem State.updElec_boot (f : Elec → Elec) (s : State) : (s.updElec f).boot = s.boot := rfl
@[simp] theorem State.updElec_modes (f : Elec → Elec) (s : State) : (s.updElec f).modes = s.modes := rfl
@[simp] theorem State.updElec_spine (f : Elec → Elec) (s : State) : (s.updElec f).spine = s.spine := rfl
@[simp] theorem State.updElec_net (f : Elec → Elec) (s : State) : (s.updElec f).net = s.net := rfl
@[simp] theorem State.updElec_xport (f : Elec → Elec) (s : State) : (s.updElec f).xport = s.xport := rfl
@[simp] theorem State.updElec_cmds (f : Elec → Elec) (s : State) : (s.updElec f).cmds = s.cmds := rfl
@[simp] theorem State.updElec_cons (f : Elec → Elec) (s : State) : (s.updElec f).cons = s.cons := rfl
@[simp] theorem State.updElec_layout (f : Elec → Elec) (s : State) : (s.updElec f).layout = s.layout := rfl
@[simp] theorem State.updElec_cipher (f : Elec → Elec) (s : State) : (s.updElec f).cipher = s.cipher := rfl
@[simp] theorem State.updElec_enclave (f : Elec → Elec) (s : State) : (s.updElec f).enclave = s.enclave := rfl
@[simp] theorem State.updElec_qos (f : Elec → Elec) (s : State) : (s.updElec f).qos = s.qos := rfl
@[simp] theorem State.updElec_pair (f : Elec → Elec) (s : State) : (s.updElec f).pair = s.pair := rfl
@[simp] theorem State.updElec_drives (f : Elec → Elec) (s : State) : (s.updElec f).drives = s.drives := rfl
@[simp] theorem State.updElec_margins (f : Elec → Elec) (s : State) : (s.updElec f).margins = s.margins := rfl
@[simp] theorem State.updElec_localPort (f : Elec → Elec) (s : State) : (s.updElec f).localPort = s.localPort := rfl
@[simp] theorem State.updElec_ccp (f : Elec → Elec) (s : State) : (s.updElec f).ccp = s.ccp := rfl
@[simp] theorem State.updElec_telem (f : Elec → Elec) (s : State) : (s.updElec f).telem = s.telem := rfl
@[simp] theorem State.updElec_regs (f : Elec → Elec) (s : State) : (s.updElec f).regs = s.regs := rfl
@[simp] theorem State.updElec_blobs (f : Elec → Elec) (s : State) : (s.updElec f).blobs = s.blobs := rfl
@[simp] theorem State.updElec_fresh (f : Elec → Elec) (s : State) : (s.updElec f).fresh = s.fresh := rfl
@[simp] theorem State.updElec_sent (f : Elec → Elec) (s : State) : (s.updElec f).sent = s.sent := rfl
@[simp] theorem State.updElec_pending (f : Elec → Elec) (s : State) : (s.updElec f).pending = s.pending := rfl
@[simp] theorem State.updBoot_den (f : Boot → Boot) (s : State) : (s.updBoot f).den = s.den := rfl
@[simp] theorem State.updBoot_power (f : Boot → Boot) (s : State) : (s.updBoot f).power = s.power := rfl
@[simp] theorem State.updBoot_keep (f : Boot → Boot) (s : State) : (s.updBoot f).keep = s.keep := rfl
@[simp] theorem State.updBoot_fuses (f : Boot → Boot) (s : State) : (s.updBoot f).fuses = s.fuses := rfl
@[simp] theorem State.updBoot_images (f : Boot → Boot) (s : State) : (s.updBoot f).images = s.images := rfl
@[simp] theorem State.updBoot_elec (f : Boot → Boot) (s : State) : (s.updBoot f).elec = s.elec := rfl
@[simp] theorem State.updBoot_boot (f : Boot → Boot) (s : State) : (s.updBoot f).boot = f s.boot := rfl
@[simp] theorem State.updBoot_modes (f : Boot → Boot) (s : State) : (s.updBoot f).modes = s.modes := rfl
@[simp] theorem State.updBoot_spine (f : Boot → Boot) (s : State) : (s.updBoot f).spine = s.spine := rfl
@[simp] theorem State.updBoot_net (f : Boot → Boot) (s : State) : (s.updBoot f).net = s.net := rfl
@[simp] theorem State.updBoot_xport (f : Boot → Boot) (s : State) : (s.updBoot f).xport = s.xport := rfl
@[simp] theorem State.updBoot_cmds (f : Boot → Boot) (s : State) : (s.updBoot f).cmds = s.cmds := rfl
@[simp] theorem State.updBoot_cons (f : Boot → Boot) (s : State) : (s.updBoot f).cons = s.cons := rfl
@[simp] theorem State.updBoot_layout (f : Boot → Boot) (s : State) : (s.updBoot f).layout = s.layout := rfl
@[simp] theorem State.updBoot_cipher (f : Boot → Boot) (s : State) : (s.updBoot f).cipher = s.cipher := rfl
@[simp] theorem State.updBoot_enclave (f : Boot → Boot) (s : State) : (s.updBoot f).enclave = s.enclave := rfl
@[simp] theorem State.updBoot_qos (f : Boot → Boot) (s : State) : (s.updBoot f).qos = s.qos := rfl
@[simp] theorem State.updBoot_pair (f : Boot → Boot) (s : State) : (s.updBoot f).pair = s.pair := rfl
@[simp] theorem State.updBoot_drives (f : Boot → Boot) (s : State) : (s.updBoot f).drives = s.drives := rfl
@[simp] theorem State.updBoot_margins (f : Boot → Boot) (s : State) : (s.updBoot f).margins = s.margins := rfl
@[simp] theorem State.updBoot_localPort (f : Boot → Boot) (s : State) : (s.updBoot f).localPort = s.localPort := rfl
@[simp] theorem State.updBoot_ccp (f : Boot → Boot) (s : State) : (s.updBoot f).ccp = s.ccp := rfl
@[simp] theorem State.updBoot_telem (f : Boot → Boot) (s : State) : (s.updBoot f).telem = s.telem := rfl
@[simp] theorem State.updBoot_regs (f : Boot → Boot) (s : State) : (s.updBoot f).regs = s.regs := rfl
@[simp] theorem State.updBoot_blobs (f : Boot → Boot) (s : State) : (s.updBoot f).blobs = s.blobs := rfl
@[simp] theorem State.updBoot_fresh (f : Boot → Boot) (s : State) : (s.updBoot f).fresh = s.fresh := rfl
@[simp] theorem State.updBoot_sent (f : Boot → Boot) (s : State) : (s.updBoot f).sent = s.sent := rfl
@[simp] theorem State.updBoot_pending (f : Boot → Boot) (s : State) : (s.updBoot f).pending = s.pending := rfl
@[simp] theorem State.updModes_den (f : Modes → Modes) (s : State) : (s.updModes f).den = s.den := rfl
@[simp] theorem State.updModes_power (f : Modes → Modes) (s : State) : (s.updModes f).power = s.power := rfl
@[simp] theorem State.updModes_keep (f : Modes → Modes) (s : State) : (s.updModes f).keep = s.keep := rfl
@[simp] theorem State.updModes_fuses (f : Modes → Modes) (s : State) : (s.updModes f).fuses = s.fuses := rfl
@[simp] theorem State.updModes_images (f : Modes → Modes) (s : State) : (s.updModes f).images = s.images := rfl
@[simp] theorem State.updModes_elec (f : Modes → Modes) (s : State) : (s.updModes f).elec = s.elec := rfl
@[simp] theorem State.updModes_boot (f : Modes → Modes) (s : State) : (s.updModes f).boot = s.boot := rfl
@[simp] theorem State.updModes_modes (f : Modes → Modes) (s : State) : (s.updModes f).modes = f s.modes := rfl
@[simp] theorem State.updModes_spine (f : Modes → Modes) (s : State) : (s.updModes f).spine = s.spine := rfl
@[simp] theorem State.updModes_net (f : Modes → Modes) (s : State) : (s.updModes f).net = s.net := rfl
@[simp] theorem State.updModes_xport (f : Modes → Modes) (s : State) : (s.updModes f).xport = s.xport := rfl
@[simp] theorem State.updModes_cmds (f : Modes → Modes) (s : State) : (s.updModes f).cmds = s.cmds := rfl
@[simp] theorem State.updModes_cons (f : Modes → Modes) (s : State) : (s.updModes f).cons = s.cons := rfl
@[simp] theorem State.updModes_layout (f : Modes → Modes) (s : State) : (s.updModes f).layout = s.layout := rfl
@[simp] theorem State.updModes_cipher (f : Modes → Modes) (s : State) : (s.updModes f).cipher = s.cipher := rfl
@[simp] theorem State.updModes_enclave (f : Modes → Modes) (s : State) : (s.updModes f).enclave = s.enclave := rfl
@[simp] theorem State.updModes_qos (f : Modes → Modes) (s : State) : (s.updModes f).qos = s.qos := rfl
@[simp] theorem State.updModes_pair (f : Modes → Modes) (s : State) : (s.updModes f).pair = s.pair := rfl
@[simp] theorem State.updModes_drives (f : Modes → Modes) (s : State) : (s.updModes f).drives = s.drives := rfl
@[simp] theorem State.updModes_margins (f : Modes → Modes) (s : State) : (s.updModes f).margins = s.margins := rfl
@[simp] theorem State.updModes_localPort (f : Modes → Modes) (s : State) : (s.updModes f).localPort = s.localPort := rfl
@[simp] theorem State.updModes_ccp (f : Modes → Modes) (s : State) : (s.updModes f).ccp = s.ccp := rfl
@[simp] theorem State.updModes_telem (f : Modes → Modes) (s : State) : (s.updModes f).telem = s.telem := rfl
@[simp] theorem State.updModes_regs (f : Modes → Modes) (s : State) : (s.updModes f).regs = s.regs := rfl
@[simp] theorem State.updModes_blobs (f : Modes → Modes) (s : State) : (s.updModes f).blobs = s.blobs := rfl
@[simp] theorem State.updModes_fresh (f : Modes → Modes) (s : State) : (s.updModes f).fresh = s.fresh := rfl
@[simp] theorem State.updModes_sent (f : Modes → Modes) (s : State) : (s.updModes f).sent = s.sent := rfl
@[simp] theorem State.updModes_pending (f : Modes → Modes) (s : State) : (s.updModes f).pending = s.pending := rfl
@[simp] theorem State.updSpine_den (f : Spine → Spine) (s : State) : (s.updSpine f).den = s.den := rfl
@[simp] theorem State.updSpine_power (f : Spine → Spine) (s : State) : (s.updSpine f).power = s.power := rfl
@[simp] theorem State.updSpine_keep (f : Spine → Spine) (s : State) : (s.updSpine f).keep = s.keep := rfl
@[simp] theorem State.updSpine_fuses (f : Spine → Spine) (s : State) : (s.updSpine f).fuses = s.fuses := rfl
@[simp] theorem State.updSpine_images (f : Spine → Spine) (s : State) : (s.updSpine f).images = s.images := rfl
@[simp] theorem State.updSpine_elec (f : Spine → Spine) (s : State) : (s.updSpine f).elec = s.elec := rfl
@[simp] theorem State.updSpine_boot (f : Spine → Spine) (s : State) : (s.updSpine f).boot = s.boot := rfl
@[simp] theorem State.updSpine_modes (f : Spine → Spine) (s : State) : (s.updSpine f).modes = s.modes := rfl
@[simp] theorem State.updSpine_spine (f : Spine → Spine) (s : State) : (s.updSpine f).spine = f s.spine := rfl
@[simp] theorem State.updSpine_net (f : Spine → Spine) (s : State) : (s.updSpine f).net = s.net := rfl
@[simp] theorem State.updSpine_xport (f : Spine → Spine) (s : State) : (s.updSpine f).xport = s.xport := rfl
@[simp] theorem State.updSpine_cmds (f : Spine → Spine) (s : State) : (s.updSpine f).cmds = s.cmds := rfl
@[simp] theorem State.updSpine_cons (f : Spine → Spine) (s : State) : (s.updSpine f).cons = s.cons := rfl
@[simp] theorem State.updSpine_layout (f : Spine → Spine) (s : State) : (s.updSpine f).layout = s.layout := rfl
@[simp] theorem State.updSpine_cipher (f : Spine → Spine) (s : State) : (s.updSpine f).cipher = s.cipher := rfl
@[simp] theorem State.updSpine_enclave (f : Spine → Spine) (s : State) : (s.updSpine f).enclave = s.enclave := rfl
@[simp] theorem State.updSpine_qos (f : Spine → Spine) (s : State) : (s.updSpine f).qos = s.qos := rfl
@[simp] theorem State.updSpine_pair (f : Spine → Spine) (s : State) : (s.updSpine f).pair = s.pair := rfl
@[simp] theorem State.updSpine_drives (f : Spine → Spine) (s : State) : (s.updSpine f).drives = s.drives := rfl
@[simp] theorem State.updSpine_margins (f : Spine → Spine) (s : State) : (s.updSpine f).margins = s.margins := rfl
@[simp] theorem State.updSpine_localPort (f : Spine → Spine) (s : State) : (s.updSpine f).localPort = s.localPort := rfl
@[simp] theorem State.updSpine_ccp (f : Spine → Spine) (s : State) : (s.updSpine f).ccp = s.ccp := rfl
@[simp] theorem State.updSpine_telem (f : Spine → Spine) (s : State) : (s.updSpine f).telem = s.telem := rfl
@[simp] theorem State.updSpine_regs (f : Spine → Spine) (s : State) : (s.updSpine f).regs = s.regs := rfl
@[simp] theorem State.updSpine_blobs (f : Spine → Spine) (s : State) : (s.updSpine f).blobs = s.blobs := rfl
@[simp] theorem State.updSpine_fresh (f : Spine → Spine) (s : State) : (s.updSpine f).fresh = s.fresh := rfl
@[simp] theorem State.updSpine_sent (f : Spine → Spine) (s : State) : (s.updSpine f).sent = s.sent := rfl
@[simp] theorem State.updSpine_pending (f : Spine → Spine) (s : State) : (s.updSpine f).pending = s.pending := rfl
@[simp] theorem State.updNet_den (f : Net → Net) (s : State) : (s.updNet f).den = s.den := rfl
@[simp] theorem State.updNet_power (f : Net → Net) (s : State) : (s.updNet f).power = s.power := rfl
@[simp] theorem State.updNet_keep (f : Net → Net) (s : State) : (s.updNet f).keep = s.keep := rfl
@[simp] theorem State.updNet_fuses (f : Net → Net) (s : State) : (s.updNet f).fuses = s.fuses := rfl
@[simp] theorem State.updNet_images (f : Net → Net) (s : State) : (s.updNet f).images = s.images := rfl
@[simp] theorem State.updNet_elec (f : Net → Net) (s : State) : (s.updNet f).elec = s.elec := rfl
@[simp] theorem State.updNet_boot (f : Net → Net) (s : State) : (s.updNet f).boot = s.boot := rfl
@[simp] theorem State.updNet_modes (f : Net → Net) (s : State) : (s.updNet f).modes = s.modes := rfl
@[simp] theorem State.updNet_spine (f : Net → Net) (s : State) : (s.updNet f).spine = s.spine := rfl
@[simp] theorem State.updNet_net (f : Net → Net) (s : State) : (s.updNet f).net = f s.net := rfl
@[simp] theorem State.updNet_xport (f : Net → Net) (s : State) : (s.updNet f).xport = s.xport := rfl
@[simp] theorem State.updNet_cmds (f : Net → Net) (s : State) : (s.updNet f).cmds = s.cmds := rfl
@[simp] theorem State.updNet_cons (f : Net → Net) (s : State) : (s.updNet f).cons = s.cons := rfl
@[simp] theorem State.updNet_layout (f : Net → Net) (s : State) : (s.updNet f).layout = s.layout := rfl
@[simp] theorem State.updNet_cipher (f : Net → Net) (s : State) : (s.updNet f).cipher = s.cipher := rfl
@[simp] theorem State.updNet_enclave (f : Net → Net) (s : State) : (s.updNet f).enclave = s.enclave := rfl
@[simp] theorem State.updNet_qos (f : Net → Net) (s : State) : (s.updNet f).qos = s.qos := rfl
@[simp] theorem State.updNet_pair (f : Net → Net) (s : State) : (s.updNet f).pair = s.pair := rfl
@[simp] theorem State.updNet_drives (f : Net → Net) (s : State) : (s.updNet f).drives = s.drives := rfl
@[simp] theorem State.updNet_margins (f : Net → Net) (s : State) : (s.updNet f).margins = s.margins := rfl
@[simp] theorem State.updNet_localPort (f : Net → Net) (s : State) : (s.updNet f).localPort = s.localPort := rfl
@[simp] theorem State.updNet_ccp (f : Net → Net) (s : State) : (s.updNet f).ccp = s.ccp := rfl
@[simp] theorem State.updNet_telem (f : Net → Net) (s : State) : (s.updNet f).telem = s.telem := rfl
@[simp] theorem State.updNet_regs (f : Net → Net) (s : State) : (s.updNet f).regs = s.regs := rfl
@[simp] theorem State.updNet_blobs (f : Net → Net) (s : State) : (s.updNet f).blobs = s.blobs := rfl
@[simp] theorem State.updNet_fresh (f : Net → Net) (s : State) : (s.updNet f).fresh = s.fresh := rfl
@[simp] theorem State.updNet_sent (f : Net → Net) (s : State) : (s.updNet f).sent = s.sent := rfl
@[simp] theorem State.updNet_pending (f : Net → Net) (s : State) : (s.updNet f).pending = s.pending := rfl
@[simp] theorem State.updXport_den (f : Xport → Xport) (s : State) : (s.updXport f).den = s.den := rfl
@[simp] theorem State.updXport_power (f : Xport → Xport) (s : State) : (s.updXport f).power = s.power := rfl
@[simp] theorem State.updXport_keep (f : Xport → Xport) (s : State) : (s.updXport f).keep = s.keep := rfl
@[simp] theorem State.updXport_fuses (f : Xport → Xport) (s : State) : (s.updXport f).fuses = s.fuses := rfl
@[simp] theorem State.updXport_images (f : Xport → Xport) (s : State) : (s.updXport f).images = s.images := rfl
@[simp] theorem State.updXport_elec (f : Xport → Xport) (s : State) : (s.updXport f).elec = s.elec := rfl
@[simp] theorem State.updXport_boot (f : Xport → Xport) (s : State) : (s.updXport f).boot = s.boot := rfl
@[simp] theorem State.updXport_modes (f : Xport → Xport) (s : State) : (s.updXport f).modes = s.modes := rfl
@[simp] theorem State.updXport_spine (f : Xport → Xport) (s : State) : (s.updXport f).spine = s.spine := rfl
@[simp] theorem State.updXport_net (f : Xport → Xport) (s : State) : (s.updXport f).net = s.net := rfl
@[simp] theorem State.updXport_xport (f : Xport → Xport) (s : State) : (s.updXport f).xport = f s.xport := rfl
@[simp] theorem State.updXport_cmds (f : Xport → Xport) (s : State) : (s.updXport f).cmds = s.cmds := rfl
@[simp] theorem State.updXport_cons (f : Xport → Xport) (s : State) : (s.updXport f).cons = s.cons := rfl
@[simp] theorem State.updXport_layout (f : Xport → Xport) (s : State) : (s.updXport f).layout = s.layout := rfl
@[simp] theorem State.updXport_cipher (f : Xport → Xport) (s : State) : (s.updXport f).cipher = s.cipher := rfl
@[simp] theorem State.updXport_enclave (f : Xport → Xport) (s : State) : (s.updXport f).enclave = s.enclave := rfl
@[simp] theorem State.updXport_qos (f : Xport → Xport) (s : State) : (s.updXport f).qos = s.qos := rfl
@[simp] theorem State.updXport_pair (f : Xport → Xport) (s : State) : (s.updXport f).pair = s.pair := rfl
@[simp] theorem State.updXport_drives (f : Xport → Xport) (s : State) : (s.updXport f).drives = s.drives := rfl
@[simp] theorem State.updXport_margins (f : Xport → Xport) (s : State) : (s.updXport f).margins = s.margins := rfl
@[simp] theorem State.updXport_localPort (f : Xport → Xport) (s : State) : (s.updXport f).localPort = s.localPort := rfl
@[simp] theorem State.updXport_ccp (f : Xport → Xport) (s : State) : (s.updXport f).ccp = s.ccp := rfl
@[simp] theorem State.updXport_telem (f : Xport → Xport) (s : State) : (s.updXport f).telem = s.telem := rfl
@[simp] theorem State.updXport_regs (f : Xport → Xport) (s : State) : (s.updXport f).regs = s.regs := rfl
@[simp] theorem State.updXport_blobs (f : Xport → Xport) (s : State) : (s.updXport f).blobs = s.blobs := rfl
@[simp] theorem State.updXport_fresh (f : Xport → Xport) (s : State) : (s.updXport f).fresh = s.fresh := rfl
@[simp] theorem State.updXport_sent (f : Xport → Xport) (s : State) : (s.updXport f).sent = s.sent := rfl
@[simp] theorem State.updXport_pending (f : Xport → Xport) (s : State) : (s.updXport f).pending = s.pending := rfl
@[simp] theorem State.updCmds_den (f : Cmds → Cmds) (s : State) : (s.updCmds f).den = s.den := rfl
@[simp] theorem State.updCmds_power (f : Cmds → Cmds) (s : State) : (s.updCmds f).power = s.power := rfl
@[simp] theorem State.updCmds_keep (f : Cmds → Cmds) (s : State) : (s.updCmds f).keep = s.keep := rfl
@[simp] theorem State.updCmds_fuses (f : Cmds → Cmds) (s : State) : (s.updCmds f).fuses = s.fuses := rfl
@[simp] theorem State.updCmds_images (f : Cmds → Cmds) (s : State) : (s.updCmds f).images = s.images := rfl
@[simp] theorem State.updCmds_elec (f : Cmds → Cmds) (s : State) : (s.updCmds f).elec = s.elec := rfl
@[simp] theorem State.updCmds_boot (f : Cmds → Cmds) (s : State) : (s.updCmds f).boot = s.boot := rfl
@[simp] theorem State.updCmds_modes (f : Cmds → Cmds) (s : State) : (s.updCmds f).modes = s.modes := rfl
@[simp] theorem State.updCmds_spine (f : Cmds → Cmds) (s : State) : (s.updCmds f).spine = s.spine := rfl
@[simp] theorem State.updCmds_net (f : Cmds → Cmds) (s : State) : (s.updCmds f).net = s.net := rfl
@[simp] theorem State.updCmds_xport (f : Cmds → Cmds) (s : State) : (s.updCmds f).xport = s.xport := rfl
@[simp] theorem State.updCmds_cmds (f : Cmds → Cmds) (s : State) : (s.updCmds f).cmds = f s.cmds := rfl
@[simp] theorem State.updCmds_cons (f : Cmds → Cmds) (s : State) : (s.updCmds f).cons = s.cons := rfl
@[simp] theorem State.updCmds_layout (f : Cmds → Cmds) (s : State) : (s.updCmds f).layout = s.layout := rfl
@[simp] theorem State.updCmds_cipher (f : Cmds → Cmds) (s : State) : (s.updCmds f).cipher = s.cipher := rfl
@[simp] theorem State.updCmds_enclave (f : Cmds → Cmds) (s : State) : (s.updCmds f).enclave = s.enclave := rfl
@[simp] theorem State.updCmds_qos (f : Cmds → Cmds) (s : State) : (s.updCmds f).qos = s.qos := rfl
@[simp] theorem State.updCmds_pair (f : Cmds → Cmds) (s : State) : (s.updCmds f).pair = s.pair := rfl
@[simp] theorem State.updCmds_drives (f : Cmds → Cmds) (s : State) : (s.updCmds f).drives = s.drives := rfl
@[simp] theorem State.updCmds_margins (f : Cmds → Cmds) (s : State) : (s.updCmds f).margins = s.margins := rfl
@[simp] theorem State.updCmds_localPort (f : Cmds → Cmds) (s : State) : (s.updCmds f).localPort = s.localPort := rfl
@[simp] theorem State.updCmds_ccp (f : Cmds → Cmds) (s : State) : (s.updCmds f).ccp = s.ccp := rfl
@[simp] theorem State.updCmds_telem (f : Cmds → Cmds) (s : State) : (s.updCmds f).telem = s.telem := rfl
@[simp] theorem State.updCmds_regs (f : Cmds → Cmds) (s : State) : (s.updCmds f).regs = s.regs := rfl
@[simp] theorem State.updCmds_blobs (f : Cmds → Cmds) (s : State) : (s.updCmds f).blobs = s.blobs := rfl
@[simp] theorem State.updCmds_fresh (f : Cmds → Cmds) (s : State) : (s.updCmds f).fresh = s.fresh := rfl
@[simp] theorem State.updCmds_sent (f : Cmds → Cmds) (s : State) : (s.updCmds f).sent = s.sent := rfl
@[simp] theorem State.updCmds_pending (f : Cmds → Cmds) (s : State) : (s.updCmds f).pending = s.pending := rfl
@[simp] theorem State.updCons_den (f : Cons → Cons) (s : State) : (s.updCons f).den = s.den := rfl
@[simp] theorem State.updCons_power (f : Cons → Cons) (s : State) : (s.updCons f).power = s.power := rfl
@[simp] theorem State.updCons_keep (f : Cons → Cons) (s : State) : (s.updCons f).keep = s.keep := rfl
@[simp] theorem State.updCons_fuses (f : Cons → Cons) (s : State) : (s.updCons f).fuses = s.fuses := rfl
@[simp] theorem State.updCons_images (f : Cons → Cons) (s : State) : (s.updCons f).images = s.images := rfl
@[simp] theorem State.updCons_elec (f : Cons → Cons) (s : State) : (s.updCons f).elec = s.elec := rfl
@[simp] theorem State.updCons_boot (f : Cons → Cons) (s : State) : (s.updCons f).boot = s.boot := rfl
@[simp] theorem State.updCons_modes (f : Cons → Cons) (s : State) : (s.updCons f).modes = s.modes := rfl
@[simp] theorem State.updCons_spine (f : Cons → Cons) (s : State) : (s.updCons f).spine = s.spine := rfl
@[simp] theorem State.updCons_net (f : Cons → Cons) (s : State) : (s.updCons f).net = s.net := rfl
@[simp] theorem State.updCons_xport (f : Cons → Cons) (s : State) : (s.updCons f).xport = s.xport := rfl
@[simp] theorem State.updCons_cmds (f : Cons → Cons) (s : State) : (s.updCons f).cmds = s.cmds := rfl
@[simp] theorem State.updCons_cons (f : Cons → Cons) (s : State) : (s.updCons f).cons = f s.cons := rfl
@[simp] theorem State.updCons_layout (f : Cons → Cons) (s : State) : (s.updCons f).layout = s.layout := rfl
@[simp] theorem State.updCons_cipher (f : Cons → Cons) (s : State) : (s.updCons f).cipher = s.cipher := rfl
@[simp] theorem State.updCons_enclave (f : Cons → Cons) (s : State) : (s.updCons f).enclave = s.enclave := rfl
@[simp] theorem State.updCons_qos (f : Cons → Cons) (s : State) : (s.updCons f).qos = s.qos := rfl
@[simp] theorem State.updCons_pair (f : Cons → Cons) (s : State) : (s.updCons f).pair = s.pair := rfl
@[simp] theorem State.updCons_drives (f : Cons → Cons) (s : State) : (s.updCons f).drives = s.drives := rfl
@[simp] theorem State.updCons_margins (f : Cons → Cons) (s : State) : (s.updCons f).margins = s.margins := rfl
@[simp] theorem State.updCons_localPort (f : Cons → Cons) (s : State) : (s.updCons f).localPort = s.localPort := rfl
@[simp] theorem State.updCons_ccp (f : Cons → Cons) (s : State) : (s.updCons f).ccp = s.ccp := rfl
@[simp] theorem State.updCons_telem (f : Cons → Cons) (s : State) : (s.updCons f).telem = s.telem := rfl
@[simp] theorem State.updCons_regs (f : Cons → Cons) (s : State) : (s.updCons f).regs = s.regs := rfl
@[simp] theorem State.updCons_blobs (f : Cons → Cons) (s : State) : (s.updCons f).blobs = s.blobs := rfl
@[simp] theorem State.updCons_fresh (f : Cons → Cons) (s : State) : (s.updCons f).fresh = s.fresh := rfl
@[simp] theorem State.updCons_sent (f : Cons → Cons) (s : State) : (s.updCons f).sent = s.sent := rfl
@[simp] theorem State.updCons_pending (f : Cons → Cons) (s : State) : (s.updCons f).pending = s.pending := rfl
@[simp] theorem State.updLayout_den (f : Layout → Layout) (s : State) : (s.updLayout f).den = s.den := rfl
@[simp] theorem State.updLayout_power (f : Layout → Layout) (s : State) : (s.updLayout f).power = s.power := rfl
@[simp] theorem State.updLayout_keep (f : Layout → Layout) (s : State) : (s.updLayout f).keep = s.keep := rfl
@[simp] theorem State.updLayout_fuses (f : Layout → Layout) (s : State) : (s.updLayout f).fuses = s.fuses := rfl
@[simp] theorem State.updLayout_images (f : Layout → Layout) (s : State) : (s.updLayout f).images = s.images := rfl
@[simp] theorem State.updLayout_elec (f : Layout → Layout) (s : State) : (s.updLayout f).elec = s.elec := rfl
@[simp] theorem State.updLayout_boot (f : Layout → Layout) (s : State) : (s.updLayout f).boot = s.boot := rfl
@[simp] theorem State.updLayout_modes (f : Layout → Layout) (s : State) : (s.updLayout f).modes = s.modes := rfl
@[simp] theorem State.updLayout_spine (f : Layout → Layout) (s : State) : (s.updLayout f).spine = s.spine := rfl
@[simp] theorem State.updLayout_net (f : Layout → Layout) (s : State) : (s.updLayout f).net = s.net := rfl
@[simp] theorem State.updLayout_xport (f : Layout → Layout) (s : State) : (s.updLayout f).xport = s.xport := rfl
@[simp] theorem State.updLayout_cmds (f : Layout → Layout) (s : State) : (s.updLayout f).cmds = s.cmds := rfl
@[simp] theorem State.updLayout_cons (f : Layout → Layout) (s : State) : (s.updLayout f).cons = s.cons := rfl
@[simp] theorem State.updLayout_layout (f : Layout → Layout) (s : State) : (s.updLayout f).layout = f s.layout := rfl
@[simp] theorem State.updLayout_cipher (f : Layout → Layout) (s : State) : (s.updLayout f).cipher = s.cipher := rfl
@[simp] theorem State.updLayout_enclave (f : Layout → Layout) (s : State) : (s.updLayout f).enclave = s.enclave := rfl
@[simp] theorem State.updLayout_qos (f : Layout → Layout) (s : State) : (s.updLayout f).qos = s.qos := rfl
@[simp] theorem State.updLayout_pair (f : Layout → Layout) (s : State) : (s.updLayout f).pair = s.pair := rfl
@[simp] theorem State.updLayout_drives (f : Layout → Layout) (s : State) : (s.updLayout f).drives = s.drives := rfl
@[simp] theorem State.updLayout_margins (f : Layout → Layout) (s : State) : (s.updLayout f).margins = s.margins := rfl
@[simp] theorem State.updLayout_localPort (f : Layout → Layout) (s : State) : (s.updLayout f).localPort = s.localPort := rfl
@[simp] theorem State.updLayout_ccp (f : Layout → Layout) (s : State) : (s.updLayout f).ccp = s.ccp := rfl
@[simp] theorem State.updLayout_telem (f : Layout → Layout) (s : State) : (s.updLayout f).telem = s.telem := rfl
@[simp] theorem State.updLayout_regs (f : Layout → Layout) (s : State) : (s.updLayout f).regs = s.regs := rfl
@[simp] theorem State.updLayout_blobs (f : Layout → Layout) (s : State) : (s.updLayout f).blobs = s.blobs := rfl
@[simp] theorem State.updLayout_fresh (f : Layout → Layout) (s : State) : (s.updLayout f).fresh = s.fresh := rfl
@[simp] theorem State.updLayout_sent (f : Layout → Layout) (s : State) : (s.updLayout f).sent = s.sent := rfl
@[simp] theorem State.updLayout_pending (f : Layout → Layout) (s : State) : (s.updLayout f).pending = s.pending := rfl
@[simp] theorem State.updCipher_den (f : Cipher → Cipher) (s : State) : (s.updCipher f).den = s.den := rfl
@[simp] theorem State.updCipher_power (f : Cipher → Cipher) (s : State) : (s.updCipher f).power = s.power := rfl
@[simp] theorem State.updCipher_keep (f : Cipher → Cipher) (s : State) : (s.updCipher f).keep = s.keep := rfl
@[simp] theorem State.updCipher_fuses (f : Cipher → Cipher) (s : State) : (s.updCipher f).fuses = s.fuses := rfl
@[simp] theorem State.updCipher_images (f : Cipher → Cipher) (s : State) : (s.updCipher f).images = s.images := rfl
@[simp] theorem State.updCipher_elec (f : Cipher → Cipher) (s : State) : (s.updCipher f).elec = s.elec := rfl
@[simp] theorem State.updCipher_boot (f : Cipher → Cipher) (s : State) : (s.updCipher f).boot = s.boot := rfl
@[simp] theorem State.updCipher_modes (f : Cipher → Cipher) (s : State) : (s.updCipher f).modes = s.modes := rfl
@[simp] theorem State.updCipher_spine (f : Cipher → Cipher) (s : State) : (s.updCipher f).spine = s.spine := rfl
@[simp] theorem State.updCipher_net (f : Cipher → Cipher) (s : State) : (s.updCipher f).net = s.net := rfl
@[simp] theorem State.updCipher_xport (f : Cipher → Cipher) (s : State) : (s.updCipher f).xport = s.xport := rfl
@[simp] theorem State.updCipher_cmds (f : Cipher → Cipher) (s : State) : (s.updCipher f).cmds = s.cmds := rfl
@[simp] theorem State.updCipher_cons (f : Cipher → Cipher) (s : State) : (s.updCipher f).cons = s.cons := rfl
@[simp] theorem State.updCipher_layout (f : Cipher → Cipher) (s : State) : (s.updCipher f).layout = s.layout := rfl
@[simp] theorem State.updCipher_cipher (f : Cipher → Cipher) (s : State) : (s.updCipher f).cipher = f s.cipher := rfl
@[simp] theorem State.updCipher_enclave (f : Cipher → Cipher) (s : State) : (s.updCipher f).enclave = s.enclave := rfl
@[simp] theorem State.updCipher_qos (f : Cipher → Cipher) (s : State) : (s.updCipher f).qos = s.qos := rfl
@[simp] theorem State.updCipher_pair (f : Cipher → Cipher) (s : State) : (s.updCipher f).pair = s.pair := rfl
@[simp] theorem State.updCipher_drives (f : Cipher → Cipher) (s : State) : (s.updCipher f).drives = s.drives := rfl
@[simp] theorem State.updCipher_margins (f : Cipher → Cipher) (s : State) : (s.updCipher f).margins = s.margins := rfl
@[simp] theorem State.updCipher_localPort (f : Cipher → Cipher) (s : State) : (s.updCipher f).localPort = s.localPort := rfl
@[simp] theorem State.updCipher_ccp (f : Cipher → Cipher) (s : State) : (s.updCipher f).ccp = s.ccp := rfl
@[simp] theorem State.updCipher_telem (f : Cipher → Cipher) (s : State) : (s.updCipher f).telem = s.telem := rfl
@[simp] theorem State.updCipher_regs (f : Cipher → Cipher) (s : State) : (s.updCipher f).regs = s.regs := rfl
@[simp] theorem State.updCipher_blobs (f : Cipher → Cipher) (s : State) : (s.updCipher f).blobs = s.blobs := rfl
@[simp] theorem State.updCipher_fresh (f : Cipher → Cipher) (s : State) : (s.updCipher f).fresh = s.fresh := rfl
@[simp] theorem State.updCipher_sent (f : Cipher → Cipher) (s : State) : (s.updCipher f).sent = s.sent := rfl
@[simp] theorem State.updCipher_pending (f : Cipher → Cipher) (s : State) : (s.updCipher f).pending = s.pending := rfl
@[simp] theorem State.updEnclave_den (f : Enclave → Enclave) (s : State) : (s.updEnclave f).den = s.den := rfl
@[simp] theorem State.updEnclave_power (f : Enclave → Enclave) (s : State) : (s.updEnclave f).power = s.power := rfl
@[simp] theorem State.updEnclave_keep (f : Enclave → Enclave) (s : State) : (s.updEnclave f).keep = s.keep := rfl
@[simp] theorem State.updEnclave_fuses (f : Enclave → Enclave) (s : State) : (s.updEnclave f).fuses = s.fuses := rfl
@[simp] theorem State.updEnclave_images (f : Enclave → Enclave) (s : State) : (s.updEnclave f).images = s.images := rfl
@[simp] theorem State.updEnclave_elec (f : Enclave → Enclave) (s : State) : (s.updEnclave f).elec = s.elec := rfl
@[simp] theorem State.updEnclave_boot (f : Enclave → Enclave) (s : State) : (s.updEnclave f).boot = s.boot := rfl
@[simp] theorem State.updEnclave_modes (f : Enclave → Enclave) (s : State) : (s.updEnclave f).modes = s.modes := rfl
@[simp] theorem State.updEnclave_spine (f : Enclave → Enclave) (s : State) : (s.updEnclave f).spine = s.spine := rfl
@[simp] theorem State.updEnclave_net (f : Enclave → Enclave) (s : State) : (s.updEnclave f).net = s.net := rfl
@[simp] theorem State.updEnclave_xport (f : Enclave → Enclave) (s : State) : (s.updEnclave f).xport = s.xport := rfl
@[simp] theorem State.updEnclave_cmds (f : Enclave → Enclave) (s : State) : (s.updEnclave f).cmds = s.cmds := rfl
@[simp] theorem State.updEnclave_cons (f : Enclave → Enclave) (s : State) : (s.updEnclave f).cons = s.cons := rfl
@[simp] theorem State.updEnclave_layout (f : Enclave → Enclave) (s : State) : (s.updEnclave f).layout = s.layout := rfl
@[simp] theorem State.updEnclave_cipher (f : Enclave → Enclave) (s : State) : (s.updEnclave f).cipher = s.cipher := rfl
@[simp] theorem State.updEnclave_enclave (f : Enclave → Enclave) (s : State) : (s.updEnclave f).enclave = f s.enclave := rfl
@[simp] theorem State.updEnclave_qos (f : Enclave → Enclave) (s : State) : (s.updEnclave f).qos = s.qos := rfl
@[simp] theorem State.updEnclave_pair (f : Enclave → Enclave) (s : State) : (s.updEnclave f).pair = s.pair := rfl
@[simp] theorem State.updEnclave_drives (f : Enclave → Enclave) (s : State) : (s.updEnclave f).drives = s.drives := rfl
@[simp] theorem State.updEnclave_margins (f : Enclave → Enclave) (s : State) : (s.updEnclave f).margins = s.margins := rfl
@[simp] theorem State.updEnclave_localPort (f : Enclave → Enclave) (s : State) : (s.updEnclave f).localPort = s.localPort := rfl
@[simp] theorem State.updEnclave_ccp (f : Enclave → Enclave) (s : State) : (s.updEnclave f).ccp = s.ccp := rfl
@[simp] theorem State.updEnclave_telem (f : Enclave → Enclave) (s : State) : (s.updEnclave f).telem = s.telem := rfl
@[simp] theorem State.updEnclave_regs (f : Enclave → Enclave) (s : State) : (s.updEnclave f).regs = s.regs := rfl
@[simp] theorem State.updEnclave_blobs (f : Enclave → Enclave) (s : State) : (s.updEnclave f).blobs = s.blobs := rfl
@[simp] theorem State.updEnclave_fresh (f : Enclave → Enclave) (s : State) : (s.updEnclave f).fresh = s.fresh := rfl
@[simp] theorem State.updEnclave_sent (f : Enclave → Enclave) (s : State) : (s.updEnclave f).sent = s.sent := rfl
@[simp] theorem State.updEnclave_pending (f : Enclave → Enclave) (s : State) : (s.updEnclave f).pending = s.pending := rfl
@[simp] theorem State.updQos_den (f : Qos → Qos) (s : State) : (s.updQos f).den = s.den := rfl
@[simp] theorem State.updQos_power (f : Qos → Qos) (s : State) : (s.updQos f).power = s.power := rfl
@[simp] theorem State.updQos_keep (f : Qos → Qos) (s : State) : (s.updQos f).keep = s.keep := rfl
@[simp] theorem State.updQos_fuses (f : Qos → Qos) (s : State) : (s.updQos f).fuses = s.fuses := rfl
@[simp] theorem State.updQos_images (f : Qos → Qos) (s : State) : (s.updQos f).images = s.images := rfl
@[simp] theorem State.updQos_elec (f : Qos → Qos) (s : State) : (s.updQos f).elec = s.elec := rfl
@[simp] theorem State.updQos_boot (f : Qos → Qos) (s : State) : (s.updQos f).boot = s.boot := rfl
@[simp] theorem State.updQos_modes (f : Qos → Qos) (s : State) : (s.updQos f).modes = s.modes := rfl
@[simp] theorem State.updQos_spine (f : Qos → Qos) (s : State) : (s.updQos f).spine = s.spine := rfl
@[simp] theorem State.updQos_net (f : Qos → Qos) (s : State) : (s.updQos f).net = s.net := rfl
@[simp] theorem State.updQos_xport (f : Qos → Qos) (s : State) : (s.updQos f).xport = s.xport := rfl
@[simp] theorem State.updQos_cmds (f : Qos → Qos) (s : State) : (s.updQos f).cmds = s.cmds := rfl
@[simp] theorem State.updQos_cons (f : Qos → Qos) (s : State) : (s.updQos f).cons = s.cons := rfl
@[simp] theorem State.updQos_layout (f : Qos → Qos) (s : State) : (s.updQos f).layout = s.layout := rfl
@[simp] theorem State.updQos_cipher (f : Qos → Qos) (s : State) : (s.updQos f).cipher = s.cipher := rfl
@[simp] theorem State.updQos_enclave (f : Qos → Qos) (s : State) : (s.updQos f).enclave = s.enclave := rfl
@[simp] theorem State.updQos_qos (f : Qos → Qos) (s : State) : (s.updQos f).qos = f s.qos := rfl
@[simp] theorem State.updQos_pair (f : Qos → Qos) (s : State) : (s.updQos f).pair = s.pair := rfl
@[simp] theorem State.updQos_drives (f : Qos → Qos) (s : State) : (s.updQos f).drives = s.drives := rfl
@[simp] theorem State.updQos_margins (f : Qos → Qos) (s : State) : (s.updQos f).margins = s.margins := rfl
@[simp] theorem State.updQos_localPort (f : Qos → Qos) (s : State) : (s.updQos f).localPort = s.localPort := rfl
@[simp] theorem State.updQos_ccp (f : Qos → Qos) (s : State) : (s.updQos f).ccp = s.ccp := rfl
@[simp] theorem State.updQos_telem (f : Qos → Qos) (s : State) : (s.updQos f).telem = s.telem := rfl
@[simp] theorem State.updQos_regs (f : Qos → Qos) (s : State) : (s.updQos f).regs = s.regs := rfl
@[simp] theorem State.updQos_blobs (f : Qos → Qos) (s : State) : (s.updQos f).blobs = s.blobs := rfl
@[simp] theorem State.updQos_fresh (f : Qos → Qos) (s : State) : (s.updQos f).fresh = s.fresh := rfl
@[simp] theorem State.updQos_sent (f : Qos → Qos) (s : State) : (s.updQos f).sent = s.sent := rfl
@[simp] theorem State.updQos_pending (f : Qos → Qos) (s : State) : (s.updQos f).pending = s.pending := rfl
@[simp] theorem State.updPair_den (f : Pair → Pair) (s : State) : (s.updPair f).den = s.den := rfl
@[simp] theorem State.updPair_power (f : Pair → Pair) (s : State) : (s.updPair f).power = s.power := rfl
@[simp] theorem State.updPair_keep (f : Pair → Pair) (s : State) : (s.updPair f).keep = s.keep := rfl
@[simp] theorem State.updPair_fuses (f : Pair → Pair) (s : State) : (s.updPair f).fuses = s.fuses := rfl
@[simp] theorem State.updPair_images (f : Pair → Pair) (s : State) : (s.updPair f).images = s.images := rfl
@[simp] theorem State.updPair_elec (f : Pair → Pair) (s : State) : (s.updPair f).elec = s.elec := rfl
@[simp] theorem State.updPair_boot (f : Pair → Pair) (s : State) : (s.updPair f).boot = s.boot := rfl
@[simp] theorem State.updPair_modes (f : Pair → Pair) (s : State) : (s.updPair f).modes = s.modes := rfl
@[simp] theorem State.updPair_spine (f : Pair → Pair) (s : State) : (s.updPair f).spine = s.spine := rfl
@[simp] theorem State.updPair_net (f : Pair → Pair) (s : State) : (s.updPair f).net = s.net := rfl
@[simp] theorem State.updPair_xport (f : Pair → Pair) (s : State) : (s.updPair f).xport = s.xport := rfl
@[simp] theorem State.updPair_cmds (f : Pair → Pair) (s : State) : (s.updPair f).cmds = s.cmds := rfl
@[simp] theorem State.updPair_cons (f : Pair → Pair) (s : State) : (s.updPair f).cons = s.cons := rfl
@[simp] theorem State.updPair_layout (f : Pair → Pair) (s : State) : (s.updPair f).layout = s.layout := rfl
@[simp] theorem State.updPair_cipher (f : Pair → Pair) (s : State) : (s.updPair f).cipher = s.cipher := rfl
@[simp] theorem State.updPair_enclave (f : Pair → Pair) (s : State) : (s.updPair f).enclave = s.enclave := rfl
@[simp] theorem State.updPair_qos (f : Pair → Pair) (s : State) : (s.updPair f).qos = s.qos := rfl
@[simp] theorem State.updPair_pair (f : Pair → Pair) (s : State) : (s.updPair f).pair = f s.pair := rfl
@[simp] theorem State.updPair_drives (f : Pair → Pair) (s : State) : (s.updPair f).drives = s.drives := rfl
@[simp] theorem State.updPair_margins (f : Pair → Pair) (s : State) : (s.updPair f).margins = s.margins := rfl
@[simp] theorem State.updPair_localPort (f : Pair → Pair) (s : State) : (s.updPair f).localPort = s.localPort := rfl
@[simp] theorem State.updPair_ccp (f : Pair → Pair) (s : State) : (s.updPair f).ccp = s.ccp := rfl
@[simp] theorem State.updPair_telem (f : Pair → Pair) (s : State) : (s.updPair f).telem = s.telem := rfl
@[simp] theorem State.updPair_regs (f : Pair → Pair) (s : State) : (s.updPair f).regs = s.regs := rfl
@[simp] theorem State.updPair_blobs (f : Pair → Pair) (s : State) : (s.updPair f).blobs = s.blobs := rfl
@[simp] theorem State.updPair_fresh (f : Pair → Pair) (s : State) : (s.updPair f).fresh = s.fresh := rfl
@[simp] theorem State.updPair_sent (f : Pair → Pair) (s : State) : (s.updPair f).sent = s.sent := rfl
@[simp] theorem State.updPair_pending (f : Pair → Pair) (s : State) : (s.updPair f).pending = s.pending := rfl
@[simp] theorem State.updDrives_den (f : Drives → Drives) (s : State) : (s.updDrives f).den = s.den := rfl
@[simp] theorem State.updDrives_power (f : Drives → Drives) (s : State) : (s.updDrives f).power = s.power := rfl
@[simp] theorem State.updDrives_keep (f : Drives → Drives) (s : State) : (s.updDrives f).keep = s.keep := rfl
@[simp] theorem State.updDrives_fuses (f : Drives → Drives) (s : State) : (s.updDrives f).fuses = s.fuses := rfl
@[simp] theorem State.updDrives_images (f : Drives → Drives) (s : State) : (s.updDrives f).images = s.images := rfl
@[simp] theorem State.updDrives_elec (f : Drives → Drives) (s : State) : (s.updDrives f).elec = s.elec := rfl
@[simp] theorem State.updDrives_boot (f : Drives → Drives) (s : State) : (s.updDrives f).boot = s.boot := rfl
@[simp] theorem State.updDrives_modes (f : Drives → Drives) (s : State) : (s.updDrives f).modes = s.modes := rfl
@[simp] theorem State.updDrives_spine (f : Drives → Drives) (s : State) : (s.updDrives f).spine = s.spine := rfl
@[simp] theorem State.updDrives_net (f : Drives → Drives) (s : State) : (s.updDrives f).net = s.net := rfl
@[simp] theorem State.updDrives_xport (f : Drives → Drives) (s : State) : (s.updDrives f).xport = s.xport := rfl
@[simp] theorem State.updDrives_cmds (f : Drives → Drives) (s : State) : (s.updDrives f).cmds = s.cmds := rfl
@[simp] theorem State.updDrives_cons (f : Drives → Drives) (s : State) : (s.updDrives f).cons = s.cons := rfl
@[simp] theorem State.updDrives_layout (f : Drives → Drives) (s : State) : (s.updDrives f).layout = s.layout := rfl
@[simp] theorem State.updDrives_cipher (f : Drives → Drives) (s : State) : (s.updDrives f).cipher = s.cipher := rfl
@[simp] theorem State.updDrives_enclave (f : Drives → Drives) (s : State) : (s.updDrives f).enclave = s.enclave := rfl
@[simp] theorem State.updDrives_qos (f : Drives → Drives) (s : State) : (s.updDrives f).qos = s.qos := rfl
@[simp] theorem State.updDrives_pair (f : Drives → Drives) (s : State) : (s.updDrives f).pair = s.pair := rfl
@[simp] theorem State.updDrives_drives (f : Drives → Drives) (s : State) : (s.updDrives f).drives = f s.drives := rfl
@[simp] theorem State.updDrives_margins (f : Drives → Drives) (s : State) : (s.updDrives f).margins = s.margins := rfl
@[simp] theorem State.updDrives_localPort (f : Drives → Drives) (s : State) : (s.updDrives f).localPort = s.localPort := rfl
@[simp] theorem State.updDrives_ccp (f : Drives → Drives) (s : State) : (s.updDrives f).ccp = s.ccp := rfl
@[simp] theorem State.updDrives_telem (f : Drives → Drives) (s : State) : (s.updDrives f).telem = s.telem := rfl
@[simp] theorem State.updDrives_regs (f : Drives → Drives) (s : State) : (s.updDrives f).regs = s.regs := rfl
@[simp] theorem State.updDrives_blobs (f : Drives → Drives) (s : State) : (s.updDrives f).blobs = s.blobs := rfl
@[simp] theorem State.updDrives_fresh (f : Drives → Drives) (s : State) : (s.updDrives f).fresh = s.fresh := rfl
@[simp] theorem State.updDrives_sent (f : Drives → Drives) (s : State) : (s.updDrives f).sent = s.sent := rfl
@[simp] theorem State.updDrives_pending (f : Drives → Drives) (s : State) : (s.updDrives f).pending = s.pending := rfl
@[simp] theorem State.updMargins_den (f : Margins → Margins) (s : State) : (s.updMargins f).den = s.den := rfl
@[simp] theorem State.updMargins_power (f : Margins → Margins) (s : State) : (s.updMargins f).power = s.power := rfl
@[simp] theorem State.updMargins_keep (f : Margins → Margins) (s : State) : (s.updMargins f).keep = s.keep := rfl
@[simp] theorem State.updMargins_fuses (f : Margins → Margins) (s : State) : (s.updMargins f).fuses = s.fuses := rfl
@[simp] theorem State.updMargins_images (f : Margins → Margins) (s : State) : (s.updMargins f).images = s.images := rfl
@[simp] theorem State.updMargins_elec (f : Margins → Margins) (s : State) : (s.updMargins f).elec = s.elec := rfl
@[simp] theorem State.updMargins_boot (f : Margins → Margins) (s : State) : (s.updMargins f).boot = s.boot := rfl
@[simp] theorem State.updMargins_modes (f : Margins → Margins) (s : State) : (s.updMargins f).modes = s.modes := rfl
@[simp] theorem State.updMargins_spine (f : Margins → Margins) (s : State) : (s.updMargins f).spine = s.spine := rfl
@[simp] theorem State.updMargins_net (f : Margins → Margins) (s : State) : (s.updMargins f).net = s.net := rfl
@[simp] theorem State.updMargins_xport (f : Margins → Margins) (s : State) : (s.updMargins f).xport = s.xport := rfl
@[simp] theorem State.updMargins_cmds (f : Margins → Margins) (s : State) : (s.updMargins f).cmds = s.cmds := rfl
@[simp] theorem State.updMargins_cons (f : Margins → Margins) (s : State) : (s.updMargins f).cons = s.cons := rfl
@[simp] theorem State.updMargins_layout (f : Margins → Margins) (s : State) : (s.updMargins f).layout = s.layout := rfl
@[simp] theorem State.updMargins_cipher (f : Margins → Margins) (s : State) : (s.updMargins f).cipher = s.cipher := rfl
@[simp] theorem State.updMargins_enclave (f : Margins → Margins) (s : State) : (s.updMargins f).enclave = s.enclave := rfl
@[simp] theorem State.updMargins_qos (f : Margins → Margins) (s : State) : (s.updMargins f).qos = s.qos := rfl
@[simp] theorem State.updMargins_pair (f : Margins → Margins) (s : State) : (s.updMargins f).pair = s.pair := rfl
@[simp] theorem State.updMargins_drives (f : Margins → Margins) (s : State) : (s.updMargins f).drives = s.drives := rfl
@[simp] theorem State.updMargins_margins (f : Margins → Margins) (s : State) : (s.updMargins f).margins = f s.margins := rfl
@[simp] theorem State.updMargins_localPort (f : Margins → Margins) (s : State) : (s.updMargins f).localPort = s.localPort := rfl
@[simp] theorem State.updMargins_ccp (f : Margins → Margins) (s : State) : (s.updMargins f).ccp = s.ccp := rfl
@[simp] theorem State.updMargins_telem (f : Margins → Margins) (s : State) : (s.updMargins f).telem = s.telem := rfl
@[simp] theorem State.updMargins_regs (f : Margins → Margins) (s : State) : (s.updMargins f).regs = s.regs := rfl
@[simp] theorem State.updMargins_blobs (f : Margins → Margins) (s : State) : (s.updMargins f).blobs = s.blobs := rfl
@[simp] theorem State.updMargins_fresh (f : Margins → Margins) (s : State) : (s.updMargins f).fresh = s.fresh := rfl
@[simp] theorem State.updMargins_sent (f : Margins → Margins) (s : State) : (s.updMargins f).sent = s.sent := rfl
@[simp] theorem State.updMargins_pending (f : Margins → Margins) (s : State) : (s.updMargins f).pending = s.pending := rfl
@[simp] theorem State.updLocalPort_den (f : LocalPort → LocalPort) (s : State) : (s.updLocalPort f).den = s.den := rfl
@[simp] theorem State.updLocalPort_power (f : LocalPort → LocalPort) (s : State) : (s.updLocalPort f).power = s.power := rfl
@[simp] theorem State.updLocalPort_keep (f : LocalPort → LocalPort) (s : State) : (s.updLocalPort f).keep = s.keep := rfl
@[simp] theorem State.updLocalPort_fuses (f : LocalPort → LocalPort) (s : State) : (s.updLocalPort f).fuses = s.fuses := rfl
@[simp] theorem State.updLocalPort_images (f : LocalPort → LocalPort) (s : State) : (s.updLocalPort f).images = s.images := rfl
@[simp] theorem State.updLocalPort_elec (f : LocalPort → LocalPort) (s : State) : (s.updLocalPort f).elec = s.elec := rfl
@[simp] theorem State.updLocalPort_boot (f : LocalPort → LocalPort) (s : State) : (s.updLocalPort f).boot = s.boot := rfl
@[simp] theorem State.updLocalPort_modes (f : LocalPort → LocalPort) (s : State) : (s.updLocalPort f).modes = s.modes := rfl
@[simp] theorem State.updLocalPort_spine (f : LocalPort → LocalPort) (s : State) : (s.updLocalPort f).spine = s.spine := rfl
@[simp] theorem State.updLocalPort_net (f : LocalPort → LocalPort) (s : State) : (s.updLocalPort f).net = s.net := rfl
@[simp] theorem State.updLocalPort_xport (f : LocalPort → LocalPort) (s : State) : (s.updLocalPort f).xport = s.xport := rfl
@[simp] theorem State.updLocalPort_cmds (f : LocalPort → LocalPort) (s : State) : (s.updLocalPort f).cmds = s.cmds := rfl
@[simp] theorem State.updLocalPort_cons (f : LocalPort → LocalPort) (s : State) : (s.updLocalPort f).cons = s.cons := rfl
@[simp] theorem State.updLocalPort_layout (f : LocalPort → LocalPort) (s : State) : (s.updLocalPort f).layout = s.layout := rfl
@[simp] theorem State.updLocalPort_cipher (f : LocalPort → LocalPort) (s : State) : (s.updLocalPort f).cipher = s.cipher := rfl
@[simp] theorem State.updLocalPort_enclave (f : LocalPort → LocalPort) (s : State) : (s.updLocalPort f).enclave = s.enclave := rfl
@[simp] theorem State.updLocalPort_qos (f : LocalPort → LocalPort) (s : State) : (s.updLocalPort f).qos = s.qos := rfl
@[simp] theorem State.updLocalPort_pair (f : LocalPort → LocalPort) (s : State) : (s.updLocalPort f).pair = s.pair := rfl
@[simp] theorem State.updLocalPort_drives (f : LocalPort → LocalPort) (s : State) : (s.updLocalPort f).drives = s.drives := rfl
@[simp] theorem State.updLocalPort_margins (f : LocalPort → LocalPort) (s : State) : (s.updLocalPort f).margins = s.margins := rfl
@[simp] theorem State.updLocalPort_localPort (f : LocalPort → LocalPort) (s : State) : (s.updLocalPort f).localPort = f s.localPort := rfl
@[simp] theorem State.updLocalPort_ccp (f : LocalPort → LocalPort) (s : State) : (s.updLocalPort f).ccp = s.ccp := rfl
@[simp] theorem State.updLocalPort_telem (f : LocalPort → LocalPort) (s : State) : (s.updLocalPort f).telem = s.telem := rfl
@[simp] theorem State.updLocalPort_regs (f : LocalPort → LocalPort) (s : State) : (s.updLocalPort f).regs = s.regs := rfl
@[simp] theorem State.updLocalPort_blobs (f : LocalPort → LocalPort) (s : State) : (s.updLocalPort f).blobs = s.blobs := rfl
@[simp] theorem State.updLocalPort_fresh (f : LocalPort → LocalPort) (s : State) : (s.updLocalPort f).fresh = s.fresh := rfl
@[simp] theorem State.updLocalPort_sent (f : LocalPort → LocalPort) (s : State) : (s.updLocalPort f).sent = s.sent := rfl
@[simp] theorem State.updLocalPort_pending (f : LocalPort → LocalPort) (s : State) : (s.updLocalPort f).pending = s.pending := rfl
@[simp] theorem State.updCcp_den (f : Ccp → Ccp) (s : State) : (s.updCcp f).den = s.den := rfl
@[simp] theorem State.updCcp_power (f : Ccp → Ccp) (s : State) : (s.updCcp f).power = s.power := rfl
@[simp] theorem State.updCcp_keep (f : Ccp → Ccp) (s : State) : (s.updCcp f).keep = s.keep := rfl
@[simp] theorem State.updCcp_fuses (f : Ccp → Ccp) (s : State) : (s.updCcp f).fuses = s.fuses := rfl
@[simp] theorem State.updCcp_images (f : Ccp → Ccp) (s : State) : (s.updCcp f).images = s.images := rfl
@[simp] theorem State.updCcp_elec (f : Ccp → Ccp) (s : State) : (s.updCcp f).elec = s.elec := rfl
@[simp] theorem State.updCcp_boot (f : Ccp → Ccp) (s : State) : (s.updCcp f).boot = s.boot := rfl
@[simp] theorem State.updCcp_modes (f : Ccp → Ccp) (s : State) : (s.updCcp f).modes = s.modes := rfl
@[simp] theorem State.updCcp_spine (f : Ccp → Ccp) (s : State) : (s.updCcp f).spine = s.spine := rfl
@[simp] theorem State.updCcp_net (f : Ccp → Ccp) (s : State) : (s.updCcp f).net = s.net := rfl
@[simp] theorem State.updCcp_xport (f : Ccp → Ccp) (s : State) : (s.updCcp f).xport = s.xport := rfl
@[simp] theorem State.updCcp_cmds (f : Ccp → Ccp) (s : State) : (s.updCcp f).cmds = s.cmds := rfl
@[simp] theorem State.updCcp_cons (f : Ccp → Ccp) (s : State) : (s.updCcp f).cons = s.cons := rfl
@[simp] theorem State.updCcp_layout (f : Ccp → Ccp) (s : State) : (s.updCcp f).layout = s.layout := rfl
@[simp] theorem State.updCcp_cipher (f : Ccp → Ccp) (s : State) : (s.updCcp f).cipher = s.cipher := rfl
@[simp] theorem State.updCcp_enclave (f : Ccp → Ccp) (s : State) : (s.updCcp f).enclave = s.enclave := rfl
@[simp] theorem State.updCcp_qos (f : Ccp → Ccp) (s : State) : (s.updCcp f).qos = s.qos := rfl
@[simp] theorem State.updCcp_pair (f : Ccp → Ccp) (s : State) : (s.updCcp f).pair = s.pair := rfl
@[simp] theorem State.updCcp_drives (f : Ccp → Ccp) (s : State) : (s.updCcp f).drives = s.drives := rfl
@[simp] theorem State.updCcp_margins (f : Ccp → Ccp) (s : State) : (s.updCcp f).margins = s.margins := rfl
@[simp] theorem State.updCcp_localPort (f : Ccp → Ccp) (s : State) : (s.updCcp f).localPort = s.localPort := rfl
@[simp] theorem State.updCcp_ccp (f : Ccp → Ccp) (s : State) : (s.updCcp f).ccp = f s.ccp := rfl
@[simp] theorem State.updCcp_telem (f : Ccp → Ccp) (s : State) : (s.updCcp f).telem = s.telem := rfl
@[simp] theorem State.updCcp_regs (f : Ccp → Ccp) (s : State) : (s.updCcp f).regs = s.regs := rfl
@[simp] theorem State.updCcp_blobs (f : Ccp → Ccp) (s : State) : (s.updCcp f).blobs = s.blobs := rfl
@[simp] theorem State.updCcp_fresh (f : Ccp → Ccp) (s : State) : (s.updCcp f).fresh = s.fresh := rfl
@[simp] theorem State.updCcp_sent (f : Ccp → Ccp) (s : State) : (s.updCcp f).sent = s.sent := rfl
@[simp] theorem State.updCcp_pending (f : Ccp → Ccp) (s : State) : (s.updCcp f).pending = s.pending := rfl
@[simp] theorem State.updTelem_den (f : Telem → Telem) (s : State) : (s.updTelem f).den = s.den := rfl
@[simp] theorem State.updTelem_power (f : Telem → Telem) (s : State) : (s.updTelem f).power = s.power := rfl
@[simp] theorem State.updTelem_keep (f : Telem → Telem) (s : State) : (s.updTelem f).keep = s.keep := rfl
@[simp] theorem State.updTelem_fuses (f : Telem → Telem) (s : State) : (s.updTelem f).fuses = s.fuses := rfl
@[simp] theorem State.updTelem_images (f : Telem → Telem) (s : State) : (s.updTelem f).images = s.images := rfl
@[simp] theorem State.updTelem_elec (f : Telem → Telem) (s : State) : (s.updTelem f).elec = s.elec := rfl
@[simp] theorem State.updTelem_boot (f : Telem → Telem) (s : State) : (s.updTelem f).boot = s.boot := rfl
@[simp] theorem State.updTelem_modes (f : Telem → Telem) (s : State) : (s.updTelem f).modes = s.modes := rfl
@[simp] theorem State.updTelem_spine (f : Telem → Telem) (s : State) : (s.updTelem f).spine = s.spine := rfl
@[simp] theorem State.updTelem_net (f : Telem → Telem) (s : State) : (s.updTelem f).net = s.net := rfl
@[simp] theorem State.updTelem_xport (f : Telem → Telem) (s : State) : (s.updTelem f).xport = s.xport := rfl
@[simp] theorem State.updTelem_cmds (f : Telem → Telem) (s : State) : (s.updTelem f).cmds = s.cmds := rfl
@[simp] theorem State.updTelem_cons (f : Telem → Telem) (s : State) : (s.updTelem f).cons = s.cons := rfl
@[simp] theorem State.updTelem_layout (f : Telem → Telem) (s : State) : (s.updTelem f).layout = s.layout := rfl
@[simp] theorem State.updTelem_cipher (f : Telem → Telem) (s : State) : (s.updTelem f).cipher = s.cipher := rfl
@[simp] theorem State.updTelem_enclave (f : Telem → Telem) (s : State) : (s.updTelem f).enclave = s.enclave := rfl
@[simp] theorem State.updTelem_qos (f : Telem → Telem) (s : State) : (s.updTelem f).qos = s.qos := rfl
@[simp] theorem State.updTelem_pair (f : Telem → Telem) (s : State) : (s.updTelem f).pair = s.pair := rfl
@[simp] theorem State.updTelem_drives (f : Telem → Telem) (s : State) : (s.updTelem f).drives = s.drives := rfl
@[simp] theorem State.updTelem_margins (f : Telem → Telem) (s : State) : (s.updTelem f).margins = s.margins := rfl
@[simp] theorem State.updTelem_localPort (f : Telem → Telem) (s : State) : (s.updTelem f).localPort = s.localPort := rfl
@[simp] theorem State.updTelem_ccp (f : Telem → Telem) (s : State) : (s.updTelem f).ccp = s.ccp := rfl
@[simp] theorem State.updTelem_telem (f : Telem → Telem) (s : State) : (s.updTelem f).telem = f s.telem := rfl
@[simp] theorem State.updTelem_regs (f : Telem → Telem) (s : State) : (s.updTelem f).regs = s.regs := rfl
@[simp] theorem State.updTelem_blobs (f : Telem → Telem) (s : State) : (s.updTelem f).blobs = s.blobs := rfl
@[simp] theorem State.updTelem_fresh (f : Telem → Telem) (s : State) : (s.updTelem f).fresh = s.fresh := rfl
@[simp] theorem State.updTelem_sent (f : Telem → Telem) (s : State) : (s.updTelem f).sent = s.sent := rfl
@[simp] theorem State.updTelem_pending (f : Telem → Telem) (s : State) : (s.updTelem f).pending = s.pending := rfl
@[simp] theorem State.updRegs_den (f : Tbl (BitVec 64) → Tbl (BitVec 64)) (s : State) : (s.updRegs f).den = s.den := rfl
@[simp] theorem State.updRegs_power (f : Tbl (BitVec 64) → Tbl (BitVec 64)) (s : State) : (s.updRegs f).power = s.power := rfl
@[simp] theorem State.updRegs_keep (f : Tbl (BitVec 64) → Tbl (BitVec 64)) (s : State) : (s.updRegs f).keep = s.keep := rfl
@[simp] theorem State.updRegs_fuses (f : Tbl (BitVec 64) → Tbl (BitVec 64)) (s : State) : (s.updRegs f).fuses = s.fuses := rfl
@[simp] theorem State.updRegs_images (f : Tbl (BitVec 64) → Tbl (BitVec 64)) (s : State) : (s.updRegs f).images = s.images := rfl
@[simp] theorem State.updRegs_elec (f : Tbl (BitVec 64) → Tbl (BitVec 64)) (s : State) : (s.updRegs f).elec = s.elec := rfl
@[simp] theorem State.updRegs_boot (f : Tbl (BitVec 64) → Tbl (BitVec 64)) (s : State) : (s.updRegs f).boot = s.boot := rfl
@[simp] theorem State.updRegs_modes (f : Tbl (BitVec 64) → Tbl (BitVec 64)) (s : State) : (s.updRegs f).modes = s.modes := rfl
@[simp] theorem State.updRegs_spine (f : Tbl (BitVec 64) → Tbl (BitVec 64)) (s : State) : (s.updRegs f).spine = s.spine := rfl
@[simp] theorem State.updRegs_net (f : Tbl (BitVec 64) → Tbl (BitVec 64)) (s : State) : (s.updRegs f).net = s.net := rfl
@[simp] theorem State.updRegs_xport (f : Tbl (BitVec 64) → Tbl (BitVec 64)) (s : State) : (s.updRegs f).xport = s.xport := rfl
@[simp] theorem State.updRegs_cmds (f : Tbl (BitVec 64) → Tbl (BitVec 64)) (s : State) : (s.updRegs f).cmds = s.cmds := rfl
@[simp] theorem State.updRegs_cons (f : Tbl (BitVec 64) → Tbl (BitVec 64)) (s : State) : (s.updRegs f).cons = s.cons := rfl
@[simp] theorem State.updRegs_layout (f : Tbl (BitVec 64) → Tbl (BitVec 64)) (s : State) : (s.updRegs f).layout = s.layout := rfl
@[simp] theorem State.updRegs_cipher (f : Tbl (BitVec 64) → Tbl (BitVec 64)) (s : State) : (s.updRegs f).cipher = s.cipher := rfl
@[simp] theorem State.updRegs_enclave (f : Tbl (BitVec 64) → Tbl (BitVec 64)) (s : State) : (s.updRegs f).enclave = s.enclave := rfl
@[simp] theorem State.updRegs_qos (f : Tbl (BitVec 64) → Tbl (BitVec 64)) (s : State) : (s.updRegs f).qos = s.qos := rfl
@[simp] theorem State.updRegs_pair (f : Tbl (BitVec 64) → Tbl (BitVec 64)) (s : State) : (s.updRegs f).pair = s.pair := rfl
@[simp] theorem State.updRegs_drives (f : Tbl (BitVec 64) → Tbl (BitVec 64)) (s : State) : (s.updRegs f).drives = s.drives := rfl
@[simp] theorem State.updRegs_margins (f : Tbl (BitVec 64) → Tbl (BitVec 64)) (s : State) : (s.updRegs f).margins = s.margins := rfl
@[simp] theorem State.updRegs_localPort (f : Tbl (BitVec 64) → Tbl (BitVec 64)) (s : State) : (s.updRegs f).localPort = s.localPort := rfl
@[simp] theorem State.updRegs_ccp (f : Tbl (BitVec 64) → Tbl (BitVec 64)) (s : State) : (s.updRegs f).ccp = s.ccp := rfl
@[simp] theorem State.updRegs_telem (f : Tbl (BitVec 64) → Tbl (BitVec 64)) (s : State) : (s.updRegs f).telem = s.telem := rfl
@[simp] theorem State.updRegs_regs (f : Tbl (BitVec 64) → Tbl (BitVec 64)) (s : State) : (s.updRegs f).regs = f s.regs := rfl
@[simp] theorem State.updRegs_blobs (f : Tbl (BitVec 64) → Tbl (BitVec 64)) (s : State) : (s.updRegs f).blobs = s.blobs := rfl
@[simp] theorem State.updRegs_fresh (f : Tbl (BitVec 64) → Tbl (BitVec 64)) (s : State) : (s.updRegs f).fresh = s.fresh := rfl
@[simp] theorem State.updRegs_sent (f : Tbl (BitVec 64) → Tbl (BitVec 64)) (s : State) : (s.updRegs f).sent = s.sent := rfl
@[simp] theorem State.updRegs_pending (f : Tbl (BitVec 64) → Tbl (BitVec 64)) (s : State) : (s.updRegs f).pending = s.pending := rfl
@[simp] theorem State.updBlobs_den (f : Tbl Bytes → Tbl Bytes) (s : State) : (s.updBlobs f).den = s.den := rfl
@[simp] theorem State.updBlobs_power (f : Tbl Bytes → Tbl Bytes) (s : State) : (s.updBlobs f).power = s.power := rfl
@[simp] theorem State.updBlobs_keep (f : Tbl Bytes → Tbl Bytes) (s : State) : (s.updBlobs f).keep = s.keep := rfl
@[simp] theorem State.updBlobs_fuses (f : Tbl Bytes → Tbl Bytes) (s : State) : (s.updBlobs f).fuses = s.fuses := rfl
@[simp] theorem State.updBlobs_images (f : Tbl Bytes → Tbl Bytes) (s : State) : (s.updBlobs f).images = s.images := rfl
@[simp] theorem State.updBlobs_elec (f : Tbl Bytes → Tbl Bytes) (s : State) : (s.updBlobs f).elec = s.elec := rfl
@[simp] theorem State.updBlobs_boot (f : Tbl Bytes → Tbl Bytes) (s : State) : (s.updBlobs f).boot = s.boot := rfl
@[simp] theorem State.updBlobs_modes (f : Tbl Bytes → Tbl Bytes) (s : State) : (s.updBlobs f).modes = s.modes := rfl
@[simp] theorem State.updBlobs_spine (f : Tbl Bytes → Tbl Bytes) (s : State) : (s.updBlobs f).spine = s.spine := rfl
@[simp] theorem State.updBlobs_net (f : Tbl Bytes → Tbl Bytes) (s : State) : (s.updBlobs f).net = s.net := rfl
@[simp] theorem State.updBlobs_xport (f : Tbl Bytes → Tbl Bytes) (s : State) : (s.updBlobs f).xport = s.xport := rfl
@[simp] theorem State.updBlobs_cmds (f : Tbl Bytes → Tbl Bytes) (s : State) : (s.updBlobs f).cmds = s.cmds := rfl
@[simp] theorem State.updBlobs_cons (f : Tbl Bytes → Tbl Bytes) (s : State) : (s.updBlobs f).cons = s.cons := rfl
@[simp] theorem State.updBlobs_layout (f : Tbl Bytes → Tbl Bytes) (s : State) : (s.updBlobs f).layout = s.layout := rfl
@[simp] theorem State.updBlobs_cipher (f : Tbl Bytes → Tbl Bytes) (s : State) : (s.updBlobs f).cipher = s.cipher := rfl
@[simp] theorem State.updBlobs_enclave (f : Tbl Bytes → Tbl Bytes) (s : State) : (s.updBlobs f).enclave = s.enclave := rfl
@[simp] theorem State.updBlobs_qos (f : Tbl Bytes → Tbl Bytes) (s : State) : (s.updBlobs f).qos = s.qos := rfl
@[simp] theorem State.updBlobs_pair (f : Tbl Bytes → Tbl Bytes) (s : State) : (s.updBlobs f).pair = s.pair := rfl
@[simp] theorem State.updBlobs_drives (f : Tbl Bytes → Tbl Bytes) (s : State) : (s.updBlobs f).drives = s.drives := rfl
@[simp] theorem State.updBlobs_margins (f : Tbl Bytes → Tbl Bytes) (s : State) : (s.updBlobs f).margins = s.margins := rfl
@[simp] theorem State.updBlobs_localPort (f : Tbl Bytes → Tbl Bytes) (s : State) : (s.updBlobs f).localPort = s.localPort := rfl
@[simp] theorem State.updBlobs_ccp (f : Tbl Bytes → Tbl Bytes) (s : State) : (s.updBlobs f).ccp = s.ccp := rfl
@[simp] theorem State.updBlobs_telem (f : Tbl Bytes → Tbl Bytes) (s : State) : (s.updBlobs f).telem = s.telem := rfl
@[simp] theorem State.updBlobs_regs (f : Tbl Bytes → Tbl Bytes) (s : State) : (s.updBlobs f).regs = s.regs := rfl
@[simp] theorem State.updBlobs_blobs (f : Tbl Bytes → Tbl Bytes) (s : State) : (s.updBlobs f).blobs = f s.blobs := rfl
@[simp] theorem State.updBlobs_fresh (f : Tbl Bytes → Tbl Bytes) (s : State) : (s.updBlobs f).fresh = s.fresh := rfl
@[simp] theorem State.updBlobs_sent (f : Tbl Bytes → Tbl Bytes) (s : State) : (s.updBlobs f).sent = s.sent := rfl
@[simp] theorem State.updBlobs_pending (f : Tbl Bytes → Tbl Bytes) (s : State) : (s.updBlobs f).pending = s.pending := rfl
@[simp] theorem State.updFresh_den (f : Nat → Nat) (s : State) : (s.updFresh f).den = s.den := rfl
@[simp] theorem State.updFresh_power (f : Nat → Nat) (s : State) : (s.updFresh f).power = s.power := rfl
@[simp] theorem State.updFresh_keep (f : Nat → Nat) (s : State) : (s.updFresh f).keep = s.keep := rfl
@[simp] theorem State.updFresh_fuses (f : Nat → Nat) (s : State) : (s.updFresh f).fuses = s.fuses := rfl
@[simp] theorem State.updFresh_images (f : Nat → Nat) (s : State) : (s.updFresh f).images = s.images := rfl
@[simp] theorem State.updFresh_elec (f : Nat → Nat) (s : State) : (s.updFresh f).elec = s.elec := rfl
@[simp] theorem State.updFresh_boot (f : Nat → Nat) (s : State) : (s.updFresh f).boot = s.boot := rfl
@[simp] theorem State.updFresh_modes (f : Nat → Nat) (s : State) : (s.updFresh f).modes = s.modes := rfl
@[simp] theorem State.updFresh_spine (f : Nat → Nat) (s : State) : (s.updFresh f).spine = s.spine := rfl
@[simp] theorem State.updFresh_net (f : Nat → Nat) (s : State) : (s.updFresh f).net = s.net := rfl
@[simp] theorem State.updFresh_xport (f : Nat → Nat) (s : State) : (s.updFresh f).xport = s.xport := rfl
@[simp] theorem State.updFresh_cmds (f : Nat → Nat) (s : State) : (s.updFresh f).cmds = s.cmds := rfl
@[simp] theorem State.updFresh_cons (f : Nat → Nat) (s : State) : (s.updFresh f).cons = s.cons := rfl
@[simp] theorem State.updFresh_layout (f : Nat → Nat) (s : State) : (s.updFresh f).layout = s.layout := rfl
@[simp] theorem State.updFresh_cipher (f : Nat → Nat) (s : State) : (s.updFresh f).cipher = s.cipher := rfl
@[simp] theorem State.updFresh_enclave (f : Nat → Nat) (s : State) : (s.updFresh f).enclave = s.enclave := rfl
@[simp] theorem State.updFresh_qos (f : Nat → Nat) (s : State) : (s.updFresh f).qos = s.qos := rfl
@[simp] theorem State.updFresh_pair (f : Nat → Nat) (s : State) : (s.updFresh f).pair = s.pair := rfl
@[simp] theorem State.updFresh_drives (f : Nat → Nat) (s : State) : (s.updFresh f).drives = s.drives := rfl
@[simp] theorem State.updFresh_margins (f : Nat → Nat) (s : State) : (s.updFresh f).margins = s.margins := rfl
@[simp] theorem State.updFresh_localPort (f : Nat → Nat) (s : State) : (s.updFresh f).localPort = s.localPort := rfl
@[simp] theorem State.updFresh_ccp (f : Nat → Nat) (s : State) : (s.updFresh f).ccp = s.ccp := rfl
@[simp] theorem State.updFresh_telem (f : Nat → Nat) (s : State) : (s.updFresh f).telem = s.telem := rfl
@[simp] theorem State.updFresh_regs (f : Nat → Nat) (s : State) : (s.updFresh f).regs = s.regs := rfl
@[simp] theorem State.updFresh_blobs (f : Nat → Nat) (s : State) : (s.updFresh f).blobs = s.blobs := rfl
@[simp] theorem State.updFresh_fresh (f : Nat → Nat) (s : State) : (s.updFresh f).fresh = f s.fresh := rfl
@[simp] theorem State.updFresh_sent (f : Nat → Nat) (s : State) : (s.updFresh f).sent = s.sent := rfl
@[simp] theorem State.updFresh_pending (f : Nat → Nat) (s : State) : (s.updFresh f).pending = s.pending := rfl
@[simp] theorem State.updSent_den (f : List Out → List Out) (s : State) : (s.updSent f).den = s.den := rfl
@[simp] theorem State.updSent_power (f : List Out → List Out) (s : State) : (s.updSent f).power = s.power := rfl
@[simp] theorem State.updSent_keep (f : List Out → List Out) (s : State) : (s.updSent f).keep = s.keep := rfl
@[simp] theorem State.updSent_fuses (f : List Out → List Out) (s : State) : (s.updSent f).fuses = s.fuses := rfl
@[simp] theorem State.updSent_images (f : List Out → List Out) (s : State) : (s.updSent f).images = s.images := rfl
@[simp] theorem State.updSent_elec (f : List Out → List Out) (s : State) : (s.updSent f).elec = s.elec := rfl
@[simp] theorem State.updSent_boot (f : List Out → List Out) (s : State) : (s.updSent f).boot = s.boot := rfl
@[simp] theorem State.updSent_modes (f : List Out → List Out) (s : State) : (s.updSent f).modes = s.modes := rfl
@[simp] theorem State.updSent_spine (f : List Out → List Out) (s : State) : (s.updSent f).spine = s.spine := rfl
@[simp] theorem State.updSent_net (f : List Out → List Out) (s : State) : (s.updSent f).net = s.net := rfl
@[simp] theorem State.updSent_xport (f : List Out → List Out) (s : State) : (s.updSent f).xport = s.xport := rfl
@[simp] theorem State.updSent_cmds (f : List Out → List Out) (s : State) : (s.updSent f).cmds = s.cmds := rfl
@[simp] theorem State.updSent_cons (f : List Out → List Out) (s : State) : (s.updSent f).cons = s.cons := rfl
@[simp] theorem State.updSent_layout (f : List Out → List Out) (s : State) : (s.updSent f).layout = s.layout := rfl
@[simp] theorem State.updSent_cipher (f : List Out → List Out) (s : State) : (s.updSent f).cipher = s.cipher := rfl
@[simp] theorem State.updSent_enclave (f : List Out → List Out) (s : State) : (s.updSent f).enclave = s.enclave := rfl
@[simp] theorem State.updSent_qos (f : List Out → List Out) (s : State) : (s.updSent f).qos = s.qos := rfl
@[simp] theorem State.updSent_pair (f : List Out → List Out) (s : State) : (s.updSent f).pair = s.pair := rfl
@[simp] theorem State.updSent_drives (f : List Out → List Out) (s : State) : (s.updSent f).drives = s.drives := rfl
@[simp] theorem State.updSent_margins (f : List Out → List Out) (s : State) : (s.updSent f).margins = s.margins := rfl
@[simp] theorem State.updSent_localPort (f : List Out → List Out) (s : State) : (s.updSent f).localPort = s.localPort := rfl
@[simp] theorem State.updSent_ccp (f : List Out → List Out) (s : State) : (s.updSent f).ccp = s.ccp := rfl
@[simp] theorem State.updSent_telem (f : List Out → List Out) (s : State) : (s.updSent f).telem = s.telem := rfl
@[simp] theorem State.updSent_regs (f : List Out → List Out) (s : State) : (s.updSent f).regs = s.regs := rfl
@[simp] theorem State.updSent_blobs (f : List Out → List Out) (s : State) : (s.updSent f).blobs = s.blobs := rfl
@[simp] theorem State.updSent_fresh (f : List Out → List Out) (s : State) : (s.updSent f).fresh = s.fresh := rfl
@[simp] theorem State.updSent_sent (f : List Out → List Out) (s : State) : (s.updSent f).sent = f s.sent := rfl
@[simp] theorem State.updSent_pending (f : List Out → List Out) (s : State) : (s.updSent f).pending = s.pending := rfl
@[simp] theorem State.updPending_den (f : List Instr → List Instr) (s : State) : (s.updPending f).den = s.den := rfl
@[simp] theorem State.updPending_power (f : List Instr → List Instr) (s : State) : (s.updPending f).power = s.power := rfl
@[simp] theorem State.updPending_keep (f : List Instr → List Instr) (s : State) : (s.updPending f).keep = s.keep := rfl
@[simp] theorem State.updPending_fuses (f : List Instr → List Instr) (s : State) : (s.updPending f).fuses = s.fuses := rfl
@[simp] theorem State.updPending_images (f : List Instr → List Instr) (s : State) : (s.updPending f).images = s.images := rfl
@[simp] theorem State.updPending_elec (f : List Instr → List Instr) (s : State) : (s.updPending f).elec = s.elec := rfl
@[simp] theorem State.updPending_boot (f : List Instr → List Instr) (s : State) : (s.updPending f).boot = s.boot := rfl
@[simp] theorem State.updPending_modes (f : List Instr → List Instr) (s : State) : (s.updPending f).modes = s.modes := rfl
@[simp] theorem State.updPending_spine (f : List Instr → List Instr) (s : State) : (s.updPending f).spine = s.spine := rfl
@[simp] theorem State.updPending_net (f : List Instr → List Instr) (s : State) : (s.updPending f).net = s.net := rfl
@[simp] theorem State.updPending_xport (f : List Instr → List Instr) (s : State) : (s.updPending f).xport = s.xport := rfl
@[simp] theorem State.updPending_cmds (f : List Instr → List Instr) (s : State) : (s.updPending f).cmds = s.cmds := rfl
@[simp] theorem State.updPending_cons (f : List Instr → List Instr) (s : State) : (s.updPending f).cons = s.cons := rfl
@[simp] theorem State.updPending_layout (f : List Instr → List Instr) (s : State) : (s.updPending f).layout = s.layout := rfl
@[simp] theorem State.updPending_cipher (f : List Instr → List Instr) (s : State) : (s.updPending f).cipher = s.cipher := rfl
@[simp] theorem State.updPending_enclave (f : List Instr → List Instr) (s : State) : (s.updPending f).enclave = s.enclave := rfl
@[simp] theorem State.updPending_qos (f : List Instr → List Instr) (s : State) : (s.updPending f).qos = s.qos := rfl
@[simp] theorem State.updPending_pair (f : List Instr → List Instr) (s : State) : (s.updPending f).pair = s.pair := rfl
@[simp] theorem State.updPending_drives (f : List Instr → List Instr) (s : State) : (s.updPending f).drives = s.drives := rfl
@[simp] theorem State.updPending_margins (f : List Instr → List Instr) (s : State) : (s.updPending f).margins = s.margins := rfl
@[simp] theorem State.updPending_localPort (f : List Instr → List Instr) (s : State) : (s.updPending f).localPort = s.localPort := rfl
@[simp] theorem State.updPending_ccp (f : List Instr → List Instr) (s : State) : (s.updPending f).ccp = s.ccp := rfl
@[simp] theorem State.updPending_telem (f : List Instr → List Instr) (s : State) : (s.updPending f).telem = s.telem := rfl
@[simp] theorem State.updPending_regs (f : List Instr → List Instr) (s : State) : (s.updPending f).regs = s.regs := rfl
@[simp] theorem State.updPending_blobs (f : List Instr → List Instr) (s : State) : (s.updPending f).blobs = s.blobs := rfl
@[simp] theorem State.updPending_fresh (f : List Instr → List Instr) (s : State) : (s.updPending f).fresh = s.fresh := rfl
@[simp] theorem State.updPending_sent (f : List Instr → List Instr) (s : State) : (s.updPending f).sent = s.sent := rfl
@[simp] theorem State.updPending_pending (f : List Instr → List Instr) (s : State) : (s.updPending f).pending = f s.pending := rfl

end Sys2Proof.Machine
end

