-- ==== Sys2Proof/Tests/Slice0.lean ====
section
/-! SUPPORT. Tests of the model's own: the worked examples of the spec, the refusals of wellFormed, and for each statement with hypotheses a state and operands
that meet them, clause by clause. -/
namespace Sys2Proof.Machine
set_option Elab.async false
set_option linter.all false

/-! ### States for the witnesses -/

/-- POOL_CFG of the witness pool: K 8, M 2, width 12, journal drives 0, 4 and 8. -/
def poolWord : Nat := 8 * 2 ^ 59 + 2 * 2 ^ 57 + 12 * 2 ^ 50 + 0 * 2 ^ 38 + 4 * 2 ^ 32 + 8 * 2 ^ 26

/-- A small state with one online pool of twelve slots, all their drives but those of `down` up, and one slab with one version of stripe 0 in
the larder. -/
def poolState (down : List Nat) : State :=
  { State.reset with
    modes := { mode := .m2 }
    regs := (oid 5 1 0, poolWord) :: (oid 5 2 0, 0xFFF) :: State.reset.regs
    drives := { State.reset.drives with ports := ((List.range 12).filter fun n => !down.contains n).map fun n => (n, { dState := 4 }) }
    layout := { pools := [(0, { pState := 2, slabs := [(0, 0)], bitmap := [3] })], larder := [(4, { placed := true, stamp := 5 })], rule3 := true } }

/-- A SLOT_PWR_CFG of the witnesses: enabled, class 3, RETRY_MAX 3, FAULT_MS 50. -/
def slotWord : Nat := 2 ^ 63 + 3 * 2 ^ 59 + 20 * 2 ^ 51 + 40 * 2 ^ 44 + 50 * 2 ^ 37 + 50 * 2 ^ 30 + 3 * 2 ^ 27

/-- An energy-store record of the witnesses: a store is present. -/
def storeBytes : Bytes := [58, 0, 3, 0, 0, 0, 54, 0, 0, 0, 0, 2, 0, 0, 0, 0]

/-- A request over SMBus, in session 1. -/
def hdr : CcpHdr := { session := 1, transport := 2, alive := 1, macPresent := true, macGood := true }

/-- A request over SMBus, in session 0. -/
def hdr0 : CcpHdr := { transport := 2 }

/-- CCP_CFG of the witnesses: SMBus carries the packets. -/
def busWord : Nat := setBits (objReset (oid 14 5 0)) 63 62 1

/-- A state over `s` with session `e` open on SMBus as number 1 and every group fused to the roles. -/
def manageIn (e : Session) (s : State) : State :=
  { s with
    regs := (oid 14 5 0, BitVec.ofNat 64 busWord) :: s.regs
    fuses := { s.fuses with lifeCycle := if e.role = 4 then 0 else if e.role = 3 then 7 else 1, maskShelf := 0x3FFFFF, maskTenant := 0x3FFFFF, maskService := 0x3FFFFF }
    ccp := { s.ccp with sessions := [(1, e)] } }

/-- A state over `s` with session 1 of a role open on SMBus, of tenant 5. -/
def manage (role : Nat) (s : State) : State := manageIn { sState := 2, role := role, transport := 2, tenant := 5 } s

/-- The witness pool before its creation: its twelve drives formatted. -/
def formatState : State :=
  { poolState [] with
    drives := { ports := (List.range 12).map fun n => (n, { dState := 4, formatted := true }) }
    blobs := [(oid 5 4 0, ((List.range 64).map fun i => if i < 12 then BitVec.ofNat 8 i else 0))]
    layout := {} }

/-- The witness pool, ready to be reshaped to the layout it has. -/
def reshapeState : State :=
  { poolState [] with
    regs := (oid 5 10 0, 8 * 2 ^ 59 + 2 * 2 ^ 57 + 12 * 2 ^ 50) :: (oid 5 11 0, 0xFFF) :: (poolState []).regs
    blobs := [(oid 5 12 0, ((List.range 64).map fun i => if i < 12 then BitVec.ofNat 8 i else 0))]
    layout := { pools := [(0, { pState := 2 })] } }

/-- The witness pool with drives of 2^30 blocks. -/
def bigState : State :=
  { poolState [] with drives := { ports := (List.range 12).map fun n => (n, { dState := 4, blocks := 1073741824 }) } }

/-- A state in M2. -/
def served : State := { State.reset with modes := { mode := .m2 } }

/-! ### Worked examples of the spec -/

/-- MODE_STATUS of the READ_OBJ example (R508). -/
theorem test_mode_status : State.modeStatusWord { State.reset with
    modes := { mode := .m3, prevMode := .m1, lastCause := 0x11, transitions := 2 }, spine := { islandsOpen := 0xFFFF } } = 0x641100000002FFFF := by decide

/-- The reply of that example up to its CRC (R482, R508). -/
theorem test_reply_bytes : (ccpBytes { tag := 7, alive := 0x12C, session := 3 } 0x10 3 0 5 (leBytes 8 0x641100000002FFFF) none).take 28 =
    [0x01, 0x10, 0x07, 0x00, 0x2C, 0x01, 0, 0, 0x03, 0, 0, 0, 0, 0, 0x05, 0, 0x08, 0, 0, 0, 0xFF, 0xFF, 0x02, 0, 0, 0, 0x11, 0x64] := by decide

/-- Object identifiers of the examples (R502). -/
theorem test_object_ids : oid 14 2 0 = 0x0E008000 ∧ oid 5 4 1 = 0x05010001 ∧ oid 13 1 8 = 0x0D004008 := by decide

/-- The check values of "123456789", resumed after "12345" (R509, R510). -/
theorem test_check_values : crcRun polyCrc32c 0xFFFFFFFF [0x31, 0x32, 0x33, 0x34, 0x35, 0x36, 0x37, 0x38, 0x39] = 0x1CF96D7C ∧
    crcRun polyCrc32c (crcRun polyCrc32c 0xFFFFFFFF [0x31, 0x32, 0x33, 0x34, 0x35]) [0x36, 0x37, 0x38, 0x39] = 0x1CF96D7C := by decide +kernel

/-- The products of the worked stripe (R211, R212). -/
theorem test_galois : gfMul 0x74 0x66 = 0x4F ∧ gfMul 0xB4 0x66 = 0x9A ∧ gfMul 0x66 (gfInv 0x66) = 1 := by decide +kernel

/-- The placement of the worked write: stripe 217,478, chunk D10, drive LBA 2,001,968 (R209). -/
theorem test_placement : State.place { State.reset with
      regs := [(oid 5 1 1, 16 * 2 ^ 59 + 3 * 2 ^ 57 + 40 * 2 ^ 50 + 2 * 2 ^ 48 + 10 * 2 ^ 44 + 3 * 2 ^ 38 + 21 * 2 ^ 32 + 38 * 2 ^ 26)] } 1 false 212 100000 =
    (217478, 10, 0) ∧ rowLba 108739 0 = 2001968 ∧ rowLba 23228 0 = 633792 := by decide +kernel

/-- Location tag and nonce word of the worked encryption (R272, R283). -/
theorem test_nonce : locTag 37 1410720 = 0x00025000001586A0 ∧ nonceWord 1 3 0x00419F2C0B10 = 0x010300419F2C0B10 := by decide

/-- The key of a push window (R124). -/
theorem test_push_key : pushKey 0x13EE61 5 2 = 0x9F7308A2 := by decide

/-- The bucket shares of 800 and 400 Gb/s (R93). -/
theorem test_bucket_shares : shareTargets [(8, 800), (12, 400)] = [(8, 171), (12, 85)] := by decide

/-- I_ALLOW of a start-up at 20 W and 2.0 A, in units of 10 mA: 1.66, then 2.00 (R430). -/
theorem test_fold_back :
    ([0, 200, 400, 550].map fun v => State.iAllow { State.reset with
        fuses := { State.reset.fuses with slotCeil := 2 ^ 256 - 1 }
        regs := [(oid 11 1 5, 2 ^ 63 + 4 * 2 ^ 59 + 20 * 2 ^ 51 + 20 * 2 ^ 44)]
        power := { slots := [(5, { vBus := 600, vOut := v, taken := some (2 ^ 63 + 4 * 2 ^ 59 + 20 * 2 ^ 51 + 20 * 2 ^ 44) })] } } 5) =
    [166, 200, 200, 200] := by decide +kernel

/-- A controller of the larder example: 40 drives of class 3, and the bank with what its test measured. -/
def bankState (cMeas esrMeas : Nat) : State :=
  { State.reset with
    modes := { mode := .m3 }
    fuses := { State.reset.fuses with energyCeilJ := 1000, slotCeil := 2 ^ 256 - 1 }
    regs := (List.range 40).map fun n => (oid 11 1 n, 2 ^ 63 + 3 * 2 ^ 59)
    blobs := [(oid 11 5 0, leBytes 2 750 ++ leBytes 2 2500 ++ leBytes 2 0 ++ [50, 24, 90, 8, 20, 2] ++ leBytes 2 0 ++ leBytes 2 0)]
    power := { slots := (List.range 40).map fun n => (n, { pState := 5 })
               estore := { health := 1, tested := true, cMeas := cMeas, esrMeas := esrMeas, vNow := 500, rates := [28000000], partnerN := 16660000 } } }

/-- N and LARDER_LIMIT of the larder example, before and after the second test (R444, R445). -/
theorem test_larder_limit : (bankState 750 2500).coverN = 16660000 ∧ (bankState 750 2500).larderLimit 16660000 = 8330000 ∧
    (bankState 500 4000).coverN = 10797500 ∧ (bankState 500 4000).larderLimit 10797500 = 5398750 := by decide +kernel

/-! ### Witnesses of the statements O1 to O21 -/

theorem witness_StepTakesTheFront : (∃ (c : Instr) (rest : List Instr) (s : State), s.pending = c :: rest) ∧ ∃ s : State, s.pending = [] :=
  ⟨⟨.keyErasure, [], { State.reset with pending := [.keyErasure] }, rfl⟩, State.reset, rfl⟩

theorem witness_StepKeepsSound : ∃ s t : State, sound s ∧ step s = .next t :=
  ⟨State.reset, _, ⟨⟨by decide, by decide⟩, ⟨by decide, by decide⟩, ⟨by decide, by intro e h; cases h⟩⟩, rfl⟩

theorem witness_FrameOfEveryCommand : ∃ (i : Instr) (s t : State), exec i s = .next t := ⟨.keyErasure, State.reset, _, rfl⟩

theorem witness_WellFormedCompletes : ∃ i : Instr, wellFormed i = true := ⟨.keyErasure, rfl⟩

/-- A state whose running image has SVN 2. -/
def svnState : State := manage 1 { served with boot := { State.reset.boot with svn := 2 } }

theorem witness_FusesAndImagesChangeOnlyBy :
    (∃ (i : Instr) (s t : State), exec i s = .next t ∧ t.fuses ≠ s.fuses) ∧ ∃ (i : Instr) (s t : State), exec i s = .next t ∧ t.images ≠ s.images :=
  ⟨⟨.rollbackAdvance hdr 2, svnState, _, rfl, by decide +kernel⟩,
   .fwCommit hdr 3 { length := 3, ecdsaGood := true, mlDsaGood := true, svn := 2, digest := 9 },
   manage 1 { served with ccp := { fwImage := [(0, [1, 2, 3])] }, images := [(1, { valid := true })] }, _, rfl, by decide +kernel⟩

theorem witness_LifeCycleFollowsTheTable : ∃ (i : Instr) (s t : State), exec i s = .next t ∧ t.fuses.lifeCycle ≠ s.fuses.lifeCycle :=
  ⟨.lifecycleStep hdr 3 {}, manage 1 { State.reset with modes := { mode := .m1 } }, _, rfl, by decide +kernel⟩

theorem witness_BlownFusesStay : (∃ (i : Instr) (s t : State), exec i s = .next t ∧ s.fuses.rootPresent = true) ∧
    (∃ (i : Instr) (s t : State), exec i s = .next t ∧ s.fuses.rootDisabled = true) ∧
    ∃ (i : Instr) (s t : State), exec i s = .next t ∧ s.fuses.lifeCycle ≠ 0 :=
  ⟨⟨.rollbackAdvance hdr 2, { svnState with fuses := { svnState.fuses with rootPresent := true } }, _, rfl, rfl⟩,
   ⟨.rollbackAdvance hdr 2, { svnState with fuses := { svnState.fuses with rootDisabled := true } }, _, rfl, rfl⟩,
   .rollbackAdvance hdr 2, svnState, _, rfl, by decide +kernel⟩

theorem witness_RollbackAdvance : (∃ (h : CcpHdr) (e : Session) (count : Nat) (s : State),
      s.accepts h 0x42 (some 14) e = true ∧ s.fuses.antiRollback < count ∧ count ≤ s.boot.svn ∧ count ≤ 128) ∧
    (∃ (h : CcpHdr) (count : Nat) (s t : State), s.fuses.antiRollback = 128 ∧ exec (.rollbackAdvance h count) s = .next t) ∧
    ∃ (i : ImageCheck) (s : State), i.ecdsaGood = true ∧ i.mlDsaGood = true ∧ i.svn = 128 ∧ s.fuses.antiRollback ≤ 128 :=
  ⟨⟨hdr, { sState := 2, role := 1, transport := 2, tenant := 5 }, 2, svnState, by decide +kernel⟩,
   ⟨hdr, 129, { svnState with fuses := { svnState.fuses with antiRollback := 128 } }, _, rfl, rfl⟩,
   { ecdsaGood := true, mlDsaGood := true, svn := 128 }, State.reset, by decide⟩

theorem witness_AcceptedRequestRuns : (∃ (h : CcpHdr) (op : Nat) (group : Option Nat) (e : Session) (s : State), s.accepts h op group e = true) ∧
    ∃ (h : CcpHdr) (op : Nat) (group : Option Nat) (s : State), s.acceptsOpen h op group = true :=
  ⟨⟨hdr, 0x05, none, { sState := 2, role := 1, transport := 2, tenant := 5 }, manage 1 served, by decide +kernel⟩,
   hdr0, 0x01, none, manage 1 served, by decide +kernel⟩

theorem witness_UngrantedRequestRefused : ∃ (h : CcpHdr) (op group : Nat) (e : Session) (s : State),
    s.accepts h op none e = true ∧ s.grants e group = false :=
  ⟨hdr, 0x28, 22, { sState := 2, role := 1, transport := 2, tenant := 5 }, manage 1 served, by decide +kernel⟩

theorem witness_LockdownServesOnly : ∃ (h : CcpHdr) (op group : Nat) (e : Session) (s : State),
    s.modes.mode = .m5 ∧ s.accepts h op none e = true ∧ s.grants e group = true :=
  ⟨hdr, 0x28, 6, { sState := 2, role := 1, transport := 2, tenant := 5 }, manage 1 { served with modes := { mode := .m5 } }, by decide +kernel⟩

theorem witness_AliveTakenOnce : (∃ (e e1 : Session) (a : Nat), e.aliveTake a = some e1) ∧
    ∃ (e e1 : Session) (a b : Nat), e.aliveTake a = some e1 ∧ b ≤ e.high ∧ e.aliveTake b = none :=
  ⟨⟨{}, _, 65536, rfl⟩, { high := 70, map := 1 }, _, 71, 6, rfl, by decide, by decide⟩

theorem witness_SessionsAreBounded : (∃ (h : CcpHdr) (role : Nat) (s : State), s.acceptsOpen h 0x02 none = true ∧
      s.ccp.holdOff.contains (carrierOf h) = false ∧ (role = 1 ∨ role = 3 ∨ role = 4) ∧ roleAccepted s.fuses.lifeCycle role = true ∧
      tfreeFrom s.ccp.sessions 1 64 = none) ∧
    (∃ (t : Tbl Session) (id : Nat), tfreeFrom t 1 64 = some id) ∧
    ∃ (h : CcpHdr) (op : Nat) (group : Option Nat) (e : Session) (s : State), s.comesIn h op group = true ∧ h.session ≠ 0 ∧
      tfind s.ccp.sessions h.session = some e ∧ e.bound h = false :=
  ⟨⟨hdr0, 1, { manage 1 served with ccp := { sessions := (List.range 64).map fun n => (n + 1, {}) } }, by decide +kernel⟩,
   ⟨[], 1, rfl⟩,
   hdr, 0x05, none, { sState := 2, role := 1, transport := 3 }, manageIn { sState := 2, role := 1, transport := 3 } served, by decide +kernel⟩

theorem witness_LostChunksRebuilt : ∃ lost present checks : List Nat, (lost ++ present).Nodup ∧ (∀ j ∈ lost ++ present, j < 28) ∧ checks.Nodup ∧
    (∀ i ∈ checks, 1 ≤ i ∧ i ≤ 3) ∧ lost.length ≤ checks.length := ⟨[0, 27, 5], [1, 2], [3, 1, 2], by decide⟩

theorem witness_RefusedWriteChangesNothing : ∃ (id off : Nat) (b : Bytes) (s : State), (s.writeCheck 0 id off b).code ≠ 0 :=
  ⟨0, 0, [], State.reset, by decide⟩

theorem witness_ObjectReadsBack : ∃ (v : Nat) (s : State), regsCanonical s ∧ v < 2 ^ 64 :=
  ⟨2 ^ 64 - 1, State.reset, ⟨by decide, by intro e h; cases h⟩, by decide⟩

theorem witness_StampsRise : ∃ (rec : Nat) (s : State), (s.extent rec).lastStamp.toNat % 2 ^ 40 ≠ 2 ^ 40 - 1 := ⟨0, State.reset, by decide⟩

theorem witness_TripTurnsTheGateOff : ∃ (slot : Nat) (s : State), slot < 64 ∧ (s.slotPwr slot).gateOn = true :=
  ⟨63, { State.reset with power := { slots := [(63, { gateOn := true })] } }, by decide⟩

/-! ### wellFormed refuses -/

/-- An ill-formed term for each check of wellFormed, part 1: each has one operand just outside its range. -/
theorem test_ill_formed_1 : (([.flitArrival 16 0 false,
    .islandIdleExpiry 16,
    .arbiterGrant 22,
    .idleLevelTimer 4,
    .driveShutdownComplete 64,
    .driveShutdownTimeout 64,
    .setFeaturesPowerMgmt {} 32,
    .pfcXoffRefresh 16 0,
    .pfcXoffRefresh 0 8,
    .pfcFrameReceive 16 [] 0,
    .pfcFrameReceive 0 [] 256,
    .pfcPauseExpiry 16 0,
    .pfcPauseExpiry 0 8,
    .pfcWdTrip 16 0,
    .pfcWdTrip 0 8,
    .pfcWdRestore 16 0,
    .pfcWdRestore 0 8,
    .lldpReceive 16,
    .lacpduReceive 16 false false false,
    .lacpPeriodic 8,
    .gateIntervalEnd 16,
    .egressDispatch 16,
    .frameTransmitEnd 16 0,
    .portLinkUp 16 0,
    .portLinkDown 16,
    .bucketMoveCommit 8 0,
    .bucketMoveCommit 0 256,
    .bucketMoveTimeout 8 0,
    .bucketMoveTimeout 0 256,
    .stepWindowEnd 8] : List Instr).all fun c => !wellFormed c) = true := by decide

/-- An ill-formed term for each check of wellFormed, part 2: each has one operand just outside its range. -/
theorem test_ill_formed_2 : (([.stepUpEval 8,
    .stepPhaseTimeout 8,
    .stepDrainComplete 8,
    .attachRetryTimer 8,
    .contextWritebackCommit 2097152,
    .contextFillComplete 2097152 false,
    .pushWritePacket 2097152 0 0 0 [] false false,
    .pushWritePacket 0 16777216 0 0 [] false false,
    .pushWritePacket 0 0 4294967296 0 [] false false,
    .roceAckReceive 2097152 0 0,
    .roceAckReceive 0 16777216 0,
    .roceAckReceive 0 0 4,
    .roceReadResponse 2097152 0 [] false,
    .roceReadResponse 0 262144 [] false,
    .roceCnpReceive 2097152,
    .roceAckTimeout 2097152,
    .roceRnrDelayEnd 2097152,
    .icreqReceive 2097152 0 false false,
    .icreqReceive 0 256 false false,
    .h2cdataReceive 2097152 0 [] false false false,
    .h2cdataReceive 0 65536 [] false false false,
    .h2ctermreqReceive 2097152,
    .tcpRtoExpiry 2097152,
    .delayedAckTimer 2097152,
    .openingTimeout 2097152,
    .drainingCloseTimeout 2097152,
    .quarantineEnd 2097152,
    .pushHoldExpiry 2097152 0,
    .pushHoldExpiry 0 64,
    .identify {} 256 0] : List Instr).all fun c => !wellFormed c) = true := by decide

/-- An ill-formed term for each check of wellFormed, part 3: each has one operand just outside its range. -/
theorem test_ill_formed_3 : (([.getLogPage {} 256 0,
    .setFeaturesPushWindows {} 65536 0 0,
    .setFeaturesPushWindows {} 0 256 0,
    .setFeaturesPushWindows {} 0 0 256,
    .getFeatures {} 256 0,
    .getFeatures {} 0 8,
    .abort {} 65536 0,
    .abort {} 0 65536,
    .keepAliveExpiry 32769,
    .read 262144,
    .write 262144,
    .flush 262144,
    .compare 262144,
    .writeZeroes 262144,
    .datasetManagement 262144,
    .verify 262144,
    .slotRelease 262144,
    .replayRecordExpiry 4194304,
    .saturationSample false 4096 0 0,
    .stampReply 262144 0 0 0 false [],
    .stampReply 0 0 0 3 false [],
    .go 262144 0,
    .go 0 2,
    .withdrawal 262144 0 0,
    .withdrawal 0 16384 0,
    .withdrawalReply 262144 false,
    .stampRecord 262144 0 0 0 0 [],
    .stampRecord 0 0 16384 0 0 [],
    .stampRecordConfirmation 262144,
    .readPinExpiry 262144] : List Instr).all fun c => !wellFormed c) = true := by decide

/-- An ill-formed term for each check of wellFormed, part 4: each has one operand just outside its range. -/
theorem test_ill_formed_4 : (([.leasePhase 4 0 0 0,
    .leasePhase 0 16384 0 0,
    .leasePhase 0 0 4194304 0,
    .leasePhase 0 0 0 2,
    .epochRaise 16777216,
    .larderPlacement 262144,
    .mirrorConfirmation 262144,
    .synchronisationCopy 16384000,
    .placementConfirmation 262144,
    .destagePick 8,
    .coalesceTimeout 8 0,
    .destageAgeExpiry 16384000,
    .destageIntentDurable 8 0 [],
    .destageWritesComplete 8 0 [],
    .bitmapCleanTimer 8 0,
    .journalBlock 8 [] false,
    .journalDriveReplace 8 0 [],
    .journalDriveReplace 0 64 [],
    .missingWaitExpiry 8 0,
    .missingWaitExpiry 0 64,
    .rebuildStripe 8 0 [],
    .resyncRowGroup 8 0 0 [],
    .resyncRowGroup 0 64 0 [],
    .copybackRow 8 0 0 [],
    .copybackRow 0 64 0 [],
    .stripeLockGrant 8 0,
    .reshapeStep 8 [],
    .badgerStripe 8 0 [],
    .sweepStart 16384 0,
    .sweepStart 0 256] : List Instr).all fun c => !wellFormed c) = true := by decide

/-- An ill-formed term for each check of wellFormed, part 5: each has one operand just outside its range. -/
theorem test_ill_formed_5 : (([.keyUnwrapComplete 16384 0,
    .keyUnwrapComplete 0 256,
    .ctrStepDurable 16384 0,
    .ctrStepDurable 0 256,
    .generationActivation 16384 0 0,
    .generationActivation 0 256 0,
    .generationActivation 0 0 3,
    .securityFault 256,
    .coreLockstepMismatch 12,
    .keyDerivationComplete 16384,
    .driveDispatch 64,
    .backgroundDispatch 8,
    .shaperSlotFire 3 0,
    .settAckReceive 6 0,
    .settResendTimeout 6 0,
    .settAlignmentLoss 2,
    .connectionAdopt 2097152,
    .connectionShadow 2097152 {},
    .positionUpdate 2097152 0 0 0,
    .commandShadow 262144 {},
    .stampUpdate 262144 0 {},
    .sendRecord 262144 {},
    .commandEnd 262144 {},
    .fabricControllerShadow 32769 {},
    .pushShadow 2097152 0 0,
    .pushShadow 0 65 0,
    .pushShadow 0 0 7,
    .settLinkUp 2,
    .drivePortBringup 64,
    .driveEnumStepComplete 64 {}] : List Instr).all fun c => !wellFormed c) = true := by decide

/-- An ill-formed term for each check of wellFormed, part 6: each has one operand just outside its range. -/
theorem test_ill_formed_6 : (([.driveEnumStepTimeout 64,
    .driveInboundRequest 64 false 0 0,
    .driveCompletion 64 0 {},
    .driveCompletion 0 4096 {},
    .driveDeadlineScan 64,
    .driveStallExpiry 64,
    .cstsPoll 64 false,
    .pcieReadTimeout 64,
    .driveUncorrError 64,
    .driveLinkDown 64,
    .driveCorrError 64,
    .releasePerstEnd 64,
    .driveL1Idle 64,
    .reservationWaitExpiry 64 false,
    .slotPresenceAssert 64,
    .slotSeated 64,
    .slotPresenceLost 64,
    .slotSample 64 0 0 0 false,
    .slotSample 0 4096 0 0 false,
    .slotSample 0 0 2048 0 false,
    .slotSample 0 0 0 2048 false,
    .slotFaultTimer 64,
    .slotOvercurrentTimer 64,
    .slotTrip 64,
    .slotCooldownEnd 64,
    .slotEmptyClear 64,
    .slotPoweredClear 64,
    .drvPerstDeassert 64,
    .followerGateClose 64,
    .cycleOffEnd 64] : List Instr).all fun c => !wellFormed c) = true := by decide

/-- An ill-formed term for each check of wellFormed, part 7: each has one operand just outside its range. -/
theorem test_ill_formed_7 : (([.feedLoss 2 0,
    .feedLoss 0 4096,
    .feedReverseCurrent 2,
    .feedGood 2 0,
    .feedGood 0 4096,
    .estoreTestStart 2048,
    .estoreTestMeasureEnd 8192 0,
    .estoreTestMeasureEnd 0 16384,
    .estoreOverCeiling 2048,
    .larderLimitRecompute 2048 [],
    .partnerNcoverPoll 16777216,
    .lpCcEnable 4096 0 0 0 false false 0,
    .lpCcEnable 0 4096 0 0 false false 0,
    .lpCcEnable 0 0 3 0 false false 0,
    .lpCcEnable 0 0 0 2049 false false 0,
    .lpCcEnable 0 0 0 0 false false 65536,
    .lpCcShutdown 4,
    .lpDoorbell 1025 false 0,
    .lpDoorbell 0 false 65536,
    .lpMboxDoorbell 8192 false 0,
    .lpMboxDoorbell 0 false 2048,
    .lpVectorUnmask 2048,
    .localLinkUp 6 0,
    .localLinkUp 0 17,
    .hostMemoryReadCompletion 1025 [] 0 [],
    .hostMemoryReadCompletion 0 [] 262144 [],
    .ccpPacketDiscard 5,
    .sessionOpen {} 256 0 0 0 false,
    .sessionOpen {} 0 65536 0 0 false,
    .sessionAuthTimeout 65] : List Instr).all fun c => !wellFormed c) = true := by decide

/-- An ill-formed term for each check of wellFormed, part 8: each has one operand just outside its range. -/
theorem test_ill_formed_8 : (([.sessionHoldoffEnd 5,
    .sessionIdleExpiry 65,
    .getCert {} 256,
    .spdmGetCertificate {} 256 0 0,
    .spdmChallenge {} 256 0,
    .spdmGetMeasurements {} 256 0,
    .eventSubscribe {} 65536,
    .cvuClaim {} 256,
    .cvuFeed {} 256 [],
    .cvuRelease {} 256,
    .cvuInit {} 8 0,
    .cvuInit {} 0 2,
    .poolCreate {} 256,
    .poolDelete {} 256,
    .driveFormat {} 256,
    .nsDelete {} 65536,
    .nsDeletePlain {} 65536,
    .cryptoErase {} 65536 0,
    .cryptoErase {} 0 9,
    .tenantCreate {} 65536,
    .tenantRemove {} 65536,
    .enrolOpen {} 65536,
    .enrol {} 65536 0,
    .genCreate {} 65536,
    .genActivate {} 65536 0,
    .genActivate {} 0 256,
    .genSweep {} 65536 0,
    .genSweep {} 0 256,
    .rollbackAdvance {} 256,
    .diagRun {} 256] : List Instr).all fun c => !wellFormed c) = true := by decide

/-- An ill-formed term for each check of wellFormed, part 9: each has one operand just outside its range. -/
theorem test_ill_formed_9 : (([.lifecycleStep {} 256 {},
    .delegate {} 65536 0,
    .delegate {} 0 256,
    .jobComplete 64 0,
    .jobComplete 0 65536,
    .bwWindowWrite {} 16 0,
    .bwWindowEnd 16,
    .contain {} 64,
    .drivePortRelease {} 64,
    .clearRetry {} 64,
    .cycle {} 64,
    .memberFail {} 256,
    .reshapeStart {} 8,
    .reshapePause {} 8,
    .unpair {} 256,
    .frameReceive { port := 16 },
    .railExcursion 0,
    .railExcursion 15,
    .shaperConfigWrite {} 0x08014000 0,
    .shaperConfigWrite {} 0x08010008 0,
    .shaperConfigWrite {} 0x07004000 0,
    .meterConfigWrite {} 0x08010000 0,
    .meterConfigWrite {} 0x08015000 0,
    .meterConfigWrite {} 0x07014000 0] : List Instr).all fun c => !wellFormed c) = true := by decide

/-! ### Witnesses of the statements about completion: for each clause with hypotheses, operands and a state that meet them -/

theorem witness_CompletesElectricalA :
    (∃ (idx : Bool) (s : State), s.den.seq = .off) ∧
    (∃ (s : State), s.den.seq = .hbmWait ∧ s.den.pins.resetNLow = false) ∧
    (∃ (restore : DenRestore) (s : State), s.den.seq = .coreWait ∧ s.modes.mode ≠ .m0 ∧ legalLifeCycle s.fuses.lifeCycle = true ∧
        s.fuses.marginal = false) ∧
    (∃ (s : State), (s.den.seq = .hbmWait ∨ s.den.seq = .coreWait) ∧ s.den.seqFails < 2) ∧
    (∃ (s : State), s.den.seq = .retryWait) ∧
    (∃ (s : State), s.den.seq ≠ .off ∧ s.den.pins.resetNLow = false ∧ s.layout.holdup = none ∧ s.tripHolds = false) ∧
    (∃ (idx : Bool) (s : State), s.den.pins.resetNLow = true ∧ s.den.seq = .heldInReset ∧ s.den.stopped = false) :=
  ⟨⟨true, State.reset, by decide +kernel⟩,
   ⟨{ State.reset with den := { seq := .hbmWait } }, by decide +kernel⟩,
   ⟨{}, { State.reset with den := { seq := .coreWait } }, by decide +kernel⟩,
   ⟨{ State.reset with den := { seq := .hbmWait, seqFails := 1 } }, by decide +kernel⟩,
   ⟨{ State.reset with den := { seq := .retryWait } }, by decide +kernel⟩,
   ⟨{ State.reset with den := { seq := .coreOn } }, by decide +kernel⟩,
   ⟨true, { State.reset with den := { seq := .heldInReset, pins := { resetNLow := true } } }, by decide +kernel⟩⟩

theorem witness_CompletesElectricalB :
    (∃ (rail : Nat) (s : State), 6 ≤ rail ∧ rail ≤ 14 ∧ s.den.pins.corePwrEn = true ∧ legalLifeCycle s.fuses.lifeCycle = true ∧
        s.fuses.marginal = false) ∧
    (∃ (s : State), legalLifeCycle s.fuses.lifeCycle = true ∧ s.fuses.marginal = false) ∧
    (∃ (s : State), legalLifeCycle s.fuses.lifeCycle = true ∧ s.fuses.marginal = false) ∧
    (∃ (s : State), legalLifeCycle s.fuses.lifeCycle = true ∧ s.fuses.marginal = false) ∧
    (∃ (slackPs : Nat) (acked : Bool) (s : State), slackPs < s.marginCfgCpmTargetPs ∧ s.elec.avsFault = false ∧ s.elec.avsPending = none ∧
        s.elec.vcoreMv < 860 ∧ acked = true) ∧
    (∃ (mv : Nat) (s : State), s.elec.avsPending = some mv) ∧
    (∃ (die stack : List Nat) (s : State), greatest die < 100 ∧ greatest stack < 92) :=
  ⟨⟨14, { State.reset with den := { pins := { corePwrEn := true } } }, by decide +kernel⟩,
   ⟨State.reset, by decide +kernel⟩,
   ⟨State.reset, by decide +kernel⟩,
   ⟨State.reset, by decide +kernel⟩,
   ⟨0, true, State.reset, by decide +kernel⟩,
   ⟨760, { State.reset with elec := { avsPending := some 760 } }, by decide +kernel⟩,
   ⟨[60, 70], [50, 86], State.reset, by decide +kernel⟩⟩

theorem witness_CompletesBringupAndModesA :
    (∃ (s : State), s.boot.bootStep = 3 ∧ s.elec.halted = false) ∧
    (∃ (s : State), s.boot.bootStep = 4 ∧ s.keep.latch = false ∧ s.fuses.lifeCycle ≠ 15 ∧ s.recoveryDue = false) ∧
    (∃ (slotB : Bool) (image : ImageCheck) (s : State), s.boot.bootStep = 5 ∧ s.boot.recovery = false ∧ s.modes.mode = .m1 ∧ slotB = s.dueSlot ∧
        s.imageOk image = true) ∧
    (∃ (s : State), s.boot.bootStep = 6 ∧ s.modes.mode = .m1 ∧ legalLifeCycle s.fuses.lifeCycle = true ∧ s.fuses.marginal = false) ∧
    (∃ (pools : List PoolImport) (conf : List ConfCopy) (quorum : List QuorumRead) (s : State), s.modes.mode = .m1 ∧ s.boot.bootStep = 6 ∧
        s.boot.recovery = false ∧ s.dirOlder (pools.filter fun p => decide (p.pool < 8)) = false) ∧
    (∃ (s : State), s.modes.mode = .m1 ∧ s.boot.recovery = false ∧ s.modes.denLeft = none ∧ s.decisionReady = true ∧ s.pairCfgPairEn = 0 ∧
        s.layout.holdup = none) ∧
    (∃ (quorum : List QuorumRead) (s : State), s.modes.mode = .m1 ∧ s.pairCfgPairEn = 1 ∧ s.boot.bootStep = 12 ∧ s.boot.recovery = false ∧
        s.pair.pairStep < 2 ∧ (s.blocksRead quorum).blocksPermit = false ∧ s.boot.overridden = false) ∧
    (∃ (s : State), s.boot.confDue = true) ∧
    (∃ (island flit : Nat) (s : State), island < 16 ∧ s.modes.mode ≠ .m0) ∧
    (∃ (island : Nat) (s : State), island < 16 ∧ s.modes.mode ≠ .m0 ∧ s.islandPinned island = false ∧ thas s.spine.holdQueue island = false) :=
  ⟨⟨{ State.reset with boot := { bootStep := 3 } }, by decide +kernel⟩,
   ⟨{ State.reset with boot := { bootStep := 4 } }, by decide +kernel⟩,
   ⟨false, { ecdsaGood := true, mlDsaGood := true, svn := 3 }, { State.reset with boot := { bootStep := 5 } }, by decide +kernel⟩,
   ⟨{ State.reset with boot := { bootStep := 6 } }, by decide +kernel⟩,
   ⟨[{ pool := 0, dirSeq := 2 }], [], [], { State.reset with modes := { mode := .m1 }, boot := { bootStep := 6 }, keep := { dirSeq := [(0, 1)] } }, by decide +kernel⟩,
   ⟨{ State.reset with modes := { mode := .m1 }, boot := { bootStep := 11, storeTestDone := true } }, by decide +kernel⟩,
   ⟨[], { State.reset with modes := { mode := .m1 }, boot := { bootStep := 12 }, regs := [(oid 9 1 0, 9223372036854775808)] }, by decide +kernel⟩,
   ⟨{ State.reset with boot := { confDue := true } }, by decide +kernel⟩,
   ⟨3, 9, served, by decide +kernel⟩,
   ⟨5, served, by decide +kernel⟩⟩

theorem witness_CompletesBringupAndModesB :
    (∃ (level : Nat) (s : State), (s.modes.mode = .m1 ∨ s.modes.mode = .m5) ∧ s.modes.idleLevel < level ∧ level ≤ 3 ∧ s.busyIdle = false) ∧
    (∃ (partnerIdle : Bool) (s : State), s.denReady partnerIdle = true ∧ s.modes.mode = .m2 ∧ s.denCfgDriveOff = 0 ∧ s.modes.wakeLatched = none) ∧
    (∃ (e : DenEntry) (s : State), s.modes.denEntry = some e ∧ e.entryStep = 3) ∧
    (∃ (slot : Nat) (e : DenEntry) (s : State), slot < 64 ∧ s.modes.denEntry = some e ∧ e.entryStep = 5 ∧ e.drivesWaiting.contains slot = true ∧
        dropOne slot e.drivesWaiting ≠ []) ∧
    (∃ (f : WakeFrame) (s : State), s.modes.mode = .m0 ∧ s.den.seq = .denRunning ∧ f.fcsGood = true ∧ f.unicastToUs = true ∧ f.etherType = 0x88B5 ∧
        f.code = s.denCfgWakeCode) ∧
    (∃ (s : State), s.modes.mode = .m0 ∧ s.den.seq = .denRunning ∧ s.denCfgWakeTimerMin ≠ 0) ∧
    (∃ (s : State), s.modes.mode = .m0 ∧ s.den.seq = .denRunning) ∧
    (∃ (e : DenEntry) (s : State), s.modes.denEntry = some e ∧ e.entryStep = 3 ∧ s.denCfgDriveOff = 0 ∧ s.modes.wakeLatched = none) ∧
    (∃ (partnerNs : Nat) (s : State), s.paired = true ∧ s.settUp = true) ∧
    (∃ (slot : Nat) (e : DenEntry) (s : State), slot < 64 ∧ s.modes.denEntry = some e ∧ e.entryStep = 5 ∧ e.drivesWaiting.contains slot = true ∧
        dropOne slot e.drivesWaiting ≠ []) :=
  ⟨⟨3, { State.reset with modes := { mode := .m5 }, enclave := { erased := true } }, by decide +kernel⟩,
   ⟨false, { State.reset with modes := { mode := .m2, nvmePs := 2 }, den := { denCfg := 2 ^ 63 } }, by decide +kernel⟩,
   ⟨{ entryStep := 3 }, { State.reset with modes := { mode := .m3, denEntry := some { entryStep := 3 } } }, by decide +kernel⟩,
   ⟨63, { entryStep := 5, drivesWaiting := [0, 63] }, { State.reset with modes := { mode := .m2, denEntry := some { entryStep := 5, drivesWaiting := [0, 63] } } }, by decide +kernel⟩,
   ⟨{ fcsGood := true, unicastToUs := true, etherType := 0x88B5, code := 1 }, { State.reset with modes := { mode := .m0 }, den := { seq := .denRunning, denCfg := 2 ^ 12 } }, by decide +kernel⟩,
   ⟨{ State.reset with modes := { mode := .m0 }, den := { seq := .denRunning, denCfg := 2 ^ 28 } }, by decide +kernel⟩,
   ⟨{ State.reset with modes := { mode := .m0 }, den := { seq := .denRunning } }, by decide +kernel⟩,
   ⟨{ entryStep := 3, fromMode := .m3 }, { State.reset with modes := { mode := .m3, denEntry := some { entryStep := 3, fromMode := .m3 } } }, by decide +kernel⟩,
   ⟨100, { State.reset with modes := { mode := .m3 }, pair := { settA := true } }, by decide +kernel⟩,
   ⟨63, { entryStep := 5, drivesWaiting := [0, 63] }, { State.reset with modes := { mode := .m2, denEntry := some { entryStep := 5, drivesWaiting := [0, 63] } } }, by decide +kernel⟩⟩

theorem witness_CompletesCommandsA :
    (∃ (q : AdminCmd) (ps : Nat) (s : State), s.takesAdmin q = true ∧ q.cntlid ≠ 0 ∧ ps ≤ 2 ∧ s.modes.psEntry = none ∧
        (s.updFab q.cntlid fun f => { f with vote := ps }).votedPs = s.modes.nvmePs) ∧
    (∃ (e : PsEntry) (s : State), s.modes.psEntry = some e ∧ e.target = 1) ∧
    (∃ (q : ConnectCmd) (host n : Nat) (s : State), s.inService = true ∧ (s.ctx q.ctx).state = 2 ∧ s.adminRecord q.ctx q.qid q.cid q.pos = none ∧
        s.hostMatch q.nqn q.hostid = some host ∧ q.qid = 0 ∧ 0 < q.katoMs ∧ q.katoMs ≤ 300000 ∧ q.disableFlow = false ∧ 0 < q.depth ∧ q.depth ≤ 32 ∧
        s.carriesNone q.ctx = true ∧ q.subsysMatch = true ∧ s.freeCntlid = some n) ∧
    (∃ (q : AdminCmd) (offset : Nat) (s : State), s.takesAdmin q = true ∧ q.cntlid ≠ 0 ∧ (offset = 0x14 ∨ offset = 0x1C)) ∧
    (∃ (q : AdminCmd) (value : Nat) (s : State), s.takesAdmin q = true ∧ q.cntlid ≠ 0 ∧ value % 2 = 1) ∧
    (∃ (q : AdminCmd) (s : State), s.takesAdmin q = true ∧ q.cntlid ≠ 0) ∧
    (∃ (q : AdminCmd) (nsid : Nat) (s : State), s.takesAdmin q = true ∧ q.cntlid ≠ 0) ∧
    (∃ (q : AdminCmd) (nsid : Nat) (s : State), s.takesAdmin q = true ∧ q.cntlid ≠ 0) ∧
    (∃ (q : AdminCmd) (value : Nat) (s : State), s.takesAdmin q = true ∧ q.cntlid ≠ 0) ∧
    (∃ (q : AdminCmd) (value : Nat) (s : State), s.takesAdmin q = true ∧ q.cntlid ≠ 0) :=
  ⟨⟨{ ctx := 2, cntlid := 1, cid := 5 }, 2, { State.reset with modes := { mode := .m2 }, xport := { ctx := [(2, { kind := 1, state := 2 })] }, cmds := { fab := [(1, { live := true, adminCtx := 2, queues := [(0, (2, 32, 0)), (1, (2, 32, 0))] })] }, regs := [(oid 14 4 0, 0)] }, by decide +kernel⟩,
   ⟨{ target := 1 }, { State.reset with modes := { mode := .m2, psEntry := some { target := 1 } } }, by decide +kernel⟩,
   ⟨{ ctx := 2, katoMs := 250, hostid := 9 }, 4, 1, { State.reset with modes := { mode := .m2 }, xport := { ctx := [(2, { kind := 1, state := 2 })] }, cmds := { hosts := [(4, { enable := true, hostid := 9, tenant := 3 })] } }, by decide +kernel⟩,
   ⟨{ ctx := 2, cntlid := 1, cid := 5 }, 0x1C, { State.reset with modes := { mode := .m2 }, xport := { ctx := [(2, { kind := 1, state := 2 })] }, cmds := { fab := [(1, { live := true, adminCtx := 2, queues := [(0, (2, 32, 0)), (1, (2, 32, 0))] })] } }, by decide +kernel⟩,
   ⟨{ ctx := 2, cntlid := 1, cid := 5 }, 0x460001, { State.reset with modes := { mode := .m2 }, xport := { ctx := [(2, { kind := 1, state := 2 })] }, cmds := { fab := [(1, { live := true, adminCtx := 2, queues := [(0, (2, 32, 0)), (1, (2, 32, 0))] })] } }, by decide +kernel⟩,
   ⟨{ ctx := 2, cntlid := 1, cid := 5 }, { State.reset with modes := { mode := .m2 }, xport := { ctx := [(2, { kind := 1, state := 2 })] }, cmds := { fab := [(1, { live := true, adminCtx := 2, queues := [(0, (2, 32, 0)), (1, (2, 32, 0))] })] } }, by decide +kernel⟩,
   ⟨{ ctx := 2, cntlid := 1, cid := 5 }, 0, { State.reset with modes := { mode := .m2 }, xport := { ctx := [(2, { kind := 1, state := 2 })] }, cmds := { fab := [(1, { live := true, adminCtx := 2, queues := [(0, (2, 32, 0)), (1, (2, 32, 0))] })] } }, by decide +kernel⟩,
   ⟨{ ctx := 2, cntlid := 1, cid := 5 }, 0, { State.reset with modes := { mode := .m2 }, xport := { ctx := [(2, { kind := 1, state := 2 })] }, cmds := { fab := [(1, { live := true, adminCtx := 2, queues := [(0, (2, 32, 0)), (1, (2, 32, 0))], changedNs := [3], noticed := true })] } }, by decide +kernel⟩,
   ⟨{ ctx := 2, cntlid := 1, cid := 5 }, 7, { State.reset with modes := { mode := .m2 }, xport := { ctx := [(2, { kind := 1, state := 2 })] }, cmds := { fab := [(1, { live := true, adminCtx := 2, queues := [(0, (2, 32, 0)), (1, (2, 32, 0))] })] } }, by decide +kernel⟩,
   ⟨{ ctx := 2, cntlid := 1, cid := 5 }, 7, { State.reset with modes := { mode := .m2 }, xport := { ctx := [(2, { kind := 1, state := 2 })] }, cmds := { fab := [(1, { live := true, adminCtx := 2, queues := [(0, (2, 32, 0)), (1, (2, 32, 0))] })] } }, by decide +kernel⟩⟩

theorem witness_CompletesCommandsB :
    (∃ (q : AdminCmd) (value : Nat) (s : State), s.takesAdmin q = true ∧ q.cntlid ≠ 0) ∧
    (∃ (q : AdminCmd) (value : Nat) (s : State), s.takesAdmin q = true ∧ q.cntlid ≠ 0) ∧
    (∃ (q : AdminCmd) (qid count size i d hd : Nat) (s : State), s.takesAdmin q = true ∧ q.cntlid ≠ 0 ∧ qid ≠ 0 ∧
        tfind (s.fab q.cntlid).queues qid = some (i, d, hd) ∧ (s.ctx i).kind = 1 ∧ count ≤ 64 ∧ size ≤ 6 ∧ (s.ctx i).windows = [] ∧
        s.pushTotal + count * windowBytes size ≤ 2 ^ 32) ∧
    (∃ (q : AdminCmd) (s : State), s.takesAdmin q = true ∧ q.cntlid ≠ 0) ∧
    (∃ (q : AdminCmd) (cid : Nat) (s : State), s.takesAdmin q = true ∧ q.cntlid ≠ 0 ∧ (s.fab q.cntlid).aborts.length < 4 ∧
        (s.fab q.cntlid).aers.contains cid = true) ∧
    (∃ (q : AdminCmd) (s : State), s.takesAdmin q = true ∧ q.cntlid ≠ 0 ∧ (s.fab q.cntlid).aers.length < 4 ∧ (s.fab q.cntlid).changedNs = []) ∧
    (∃ (q : AdminCmd) (s : State), s.takesAdmin q = true ∧ q.cntlid ≠ 0) ∧
    (∃ (n : Nat) (s : State), (s.fab n).live = true) ∧
    (∃ (c : HostCmd) (n : Nat) (s : State), c.localPort = false ∧ s.inService = true ∧ (s.fab c.cntlid).live = true ∧ (s.ctx c.ctx).state = 2 ∧
        thas (s.fab c.cntlid).queues c.qid = true ∧ s.layout.holdup = none ∧ s.cmds.waiting = [] ∧ s.cmds.replays = [] ∧
        (s.cmds.slots.any fun p => !p.2.localPort && decide (p.2.ctx = c.ctx)) = false ∧ s.slotAllowed (s.fab c.cntlid).tenant = true ∧
        s.freeSlot = some n) ∧
    (∃ (slot rec : Nat) (s : State), slot < 262144 ∧ s.readyFor slot 2 = true ∧ s.stampsHere slot rec = true) :=
  ⟨⟨{ ctx := 2, cntlid := 1, cid := 5 }, 1, { State.reset with modes := { mode := .m2 }, xport := { ctx := [(2, { kind := 1, state := 2 })] }, cmds := { fab := [(1, { live := true, adminCtx := 2, queues := [(0, (2, 32, 0)), (1, (2, 32, 0))] })] } }, by decide +kernel⟩,
   ⟨{ ctx := 2, cntlid := 1, cid := 5 }, 0x1FF, { State.reset with modes := { mode := .m2 }, xport := { ctx := [(2, { kind := 1, state := 2 })] }, cmds := { fab := [(1, { live := true, adminCtx := 2, queues := [(0, (2, 32, 0)), (1, (2, 32, 0))] })] } }, by decide +kernel⟩,
   ⟨{ ctx := 2, cntlid := 1, cid := 5 }, 1, 64, 6, 2, 32, 0, { State.reset with modes := { mode := .m2 }, xport := { ctx := [(2, { kind := 1, state := 2 })] }, cmds := { fab := [(1, { live := true, adminCtx := 2, queues := [(0, (2, 32, 0)), (1, (2, 32, 0))] })] } }, by decide +kernel⟩,
   ⟨{ ctx := 2, cntlid := 1, cid := 5 }, { State.reset with modes := { mode := .m2 }, xport := { ctx := [(2, { kind := 1, state := 2 })] }, cmds := { fab := [(1, { live := true, adminCtx := 2, queues := [(0, (2, 32, 0)), (1, (2, 32, 0))], arbitration := 7 })] } }, by decide +kernel⟩,
   ⟨{ ctx := 2, cntlid := 1, cid := 5 }, 9, { State.reset with modes := { mode := .m2 }, xport := { ctx := [(2, { kind := 1, state := 2 })] }, cmds := { fab := [(1, { live := true, adminCtx := 2, queues := [(0, (2, 32, 0)), (1, (2, 32, 0))], aers := [9] })] } }, by decide +kernel⟩,
   ⟨{ ctx := 2, cntlid := 1, cid := 5 }, { State.reset with modes := { mode := .m2 }, xport := { ctx := [(2, { kind := 1, state := 2 })] }, cmds := { fab := [(1, { live := true, adminCtx := 2, queues := [(0, (2, 32, 0)), (1, (2, 32, 0))], aers := [9] })] } }, by decide +kernel⟩,
   ⟨{ ctx := 2, cntlid := 1, cid := 5 }, { State.reset with modes := { mode := .m2 }, xport := { ctx := [(2, { kind := 1, state := 2 })] }, cmds := { fab := [(1, { live := true, adminCtx := 2, queues := [(0, (2, 32, 0)), (1, (2, 32, 0))] })] } }, by decide +kernel⟩,
   ⟨1, { State.reset with modes := { mode := .m2 }, xport := { ctx := [(2, { kind := 1, state := 2 })] }, cmds := { fab := [(1, { live := true, adminCtx := 2, queues := [(0, (2, 32, 0)), (1, (2, 32, 0))] })] } }, by decide +kernel⟩,
   ⟨{ ctx := 2, cntlid := 1, qid := 1, cid := 77, nsid := 1, opcode := 2 }, 0, { State.reset with modes := { mode := .m2 }, xport := { ctx := [(2, { kind := 1, state := 2 })] }, cmds := { fab := [(1, { live := true, adminCtx := 2, queues := [(0, (2, 32, 0)), (1, (2, 32, 0))] })] }, cipher := { ns := [(0, { nState := 2 })] } }, by decide +kernel⟩,
   ⟨7, 0, { State.reset with modes := { mode := .m2 }, cmds := { slots := [(7, { state := 1, opcode := 2, nlb := 8 })] }, cons := { extents := [(0, { lastStamp := 5, state := 1 })] } }, by decide +kernel⟩⟩

theorem witness_CompletesCommandsC :
    (∃ (slot rec : Nat) (s : State), slot < 262144 ∧ s.readyFor slot 1 = true ∧ s.stampsHere slot rec = true) ∧
    (∃ (slot : Nat) (s : State), slot < 262144 ∧ s.readyFor slot 0 = true ∧ (s.slot slot).seen = 0) ∧
    (∃ (slot rec : Nat) (s : State), slot < 262144 ∧ s.readyFor slot 5 = true ∧ s.stampsHere slot rec = true) ∧
    (∃ (slot rec : Nat) (s : State), slot < 262144 ∧ s.readyFor slot 8 = true ∧ s.stampsHere slot rec = true) ∧
    (∃ (slot rec : Nat) (s : State), slot < 262144 ∧ s.readyFor slot 9 = true ∧ s.stampsHere slot rec = true) ∧
    (∃ (slot rec : Nat) (s : State), slot < 262144 ∧ s.readyFor slot 12 = true ∧ s.stampsHere slot rec = true) ∧
    (∃ (slot : Nat) (s : State), slot < 262144 ∧ s.slotUsed slot = true ∧ (s.slot slot).state = 5 ∧ s.tagsBack slot = true ∧
        s.pair.adoptWaiting = [] ∧ s.cmds.waiting = []) ∧
    (∃ (worst p50 p99 : Nat) (s : State), s.cmds.overload = false ∧ s.cmds.saturatedRun = 99 ∧ p50 ≤ 65535 ∧ p99 ≤ 65535 ∧ worst < 4096) ∧
    (∃ (i n : Nat) (s : State), s.qos.deferred = [(i, [n])] ∧
        (s.meter i (s.slot n).tenant (meterCharge (s.slot n).opcode (s.wireBytes (s.slot n)))).1 ≠ 2) :=
  ⟨⟨7, 0, { State.reset with modes := { mode := .m2 }, cmds := { slots := [(7, { state := 1, opcode := 1, nlb := 8 })] }, cons := { extents := [(0, { lastStamp := 5, state := 1 })] } }, by decide +kernel⟩,
   ⟨7, { State.reset with modes := { mode := .m2 }, cmds := { slots := [(7, { state := 1, opcode := 0, nlb := 8 })] }, cons := { extents := [(0, { lastStamp := 5, state := 1 })] } }, by decide +kernel⟩,
   ⟨7, 0, { State.reset with modes := { mode := .m2 }, cmds := { slots := [(7, { state := 1, opcode := 5, nlb := 8 })] }, cons := { extents := [(0, { lastStamp := 5, state := 1 })] } }, by decide +kernel⟩,
   ⟨7, 0, { State.reset with modes := { mode := .m2 }, cmds := { slots := [(7, { state := 1, opcode := 8, nlb := 8 })] }, cons := { extents := [(0, { lastStamp := 5, state := 1 })] } }, by decide +kernel⟩,
   ⟨7, 0, { State.reset with modes := { mode := .m2 }, cmds := { slots := [(7, { state := 1, opcode := 9, nlb := 8 })] }, cons := { extents := [(0, { lastStamp := 5, state := 1 })] } }, by decide +kernel⟩,
   ⟨7, 0, { State.reset with modes := { mode := .m2 }, cmds := { slots := [(7, { state := 1, opcode := 12, nlb := 8 })] }, cons := { extents := [(0, { lastStamp := 5, state := 1 })] } }, by decide +kernel⟩,
   ⟨7, { State.reset with modes := { mode := .m2 }, cmds := { slots := [(7, { state := 5 })] } }, by decide +kernel⟩,
   ⟨4095, 65535, 9, { State.reset with cmds := { saturatedRun := 99 } }, by decide +kernel⟩,
   ⟨2, 7, { State.reset with modes := { mode := .m2 }, cmds := { slots := [(7, { state := 2, opcode := 2, nlb := 8 })] }, qos := { deferred := [(2, [7])] } }, by decide +kernel⟩⟩

theorem witness_CompletesFabricA :
    (∃ (f : Frame) (s : State), f.port < 16 ∧ (s.port f.port).linkUp = true ∧ s.layout.holdup = none ∧ f.fcsGood = true ∧ 64 ≤ f.len ∧
        f.len ≤ s.portClassCfgMaxFrame f.port ∧ s.destination f.port f.dst f.etherType = 0 ∧ f.etherType ≠ 0x88B6 ∧ s.lagOf f.port = none ∧
        (((s.frameSeen.bwAdd f.port f.len 0).updQos fun q => { q with nextItem := q.nextItem + 1 }).store true (8 * f.port + s.frameClass f) s.qos.nextItem f.len).isSome = true) ∧
    (∃ (port cls : Nat) (s : State), port < 16 ∧ cls < 8 ∧ (s.portClass port cls).xoffSent = true ∧ s.lossless port cls = true) ∧
    (∃ (port quanta cls : Nat) (s : State), port < 16 ∧ cls < 8 ∧ (s.port port).linkUp = true ∧ s.lossless port cls = false) ∧
    (∃ (port cls : Nat) (s : State), port < 16 ∧ cls < 8) ∧
    (∃ (port cls : Nat) (s : State), port < 16 ∧ cls < 8 ∧ s.lossless port cls = true ∧ (s.portClass port cls).pausedUntil ≠ 0) ∧
    (∃ (port cls : Nat) (s : State), port < 16 ∧ cls < 8 ∧ (s.portClass port cls).wdTripped = true) ∧
    (∃ (port : Nat) (s : State), port < 16 ∧ (s.port port).linkUp = true) ∧
    (∃ (port : Nat) (sync coll dist : Bool) (s : State), port < 16 ∧ (s.port port).linkUp = true ∧ s.lagOf port = none) :=
  ⟨⟨{ port := 3, len := 1518, dst := 0x0200000000AA }, { State.reset with modes := { mode := .m2 }, net := { ports := [(3, { linkUp := true })], addr := [(0, { flags := 1, mac := 0x0200000000AA })] } }, by decide +kernel⟩,
   ⟨15, 0, { State.reset with net := { ports := [(15, { linkUp := true, classes := [(0, { xoffSent := true })] })] }, regs := [(oid 1 2 15, 2 ^ 59)] }, by decide +kernel⟩,
   ⟨0, 5, 7, { State.reset with modes := { mode := .m2 }, net := { ports := [(0, { linkUp := true })] } }, by decide +kernel⟩,
   ⟨0, 7, State.reset, by decide +kernel⟩,
   ⟨0, 0, { State.reset with net := { ports := [(0, { linkUp := true, classes := [(0, { pausedUntil := 9 })] })] }, regs := [(oid 1 2 0, 2 ^ 59)] }, by decide +kernel⟩,
   ⟨0, 0, { State.reset with modes := { mode := .m2 }, net := { ports := [(0, { linkUp := true, classes := [(0, { wdTripped := true })] })] } }, by decide +kernel⟩,
   ⟨15, { State.reset with modes := { mode := .m2 }, net := { ports := [(15, { linkUp := true })] } }, by decide +kernel⟩,
   ⟨2, true, false, false, { State.reset with modes := { mode := .m2 }, net := { ports := [(2, { linkUp := true })] } }, by decide +kernel⟩⟩

theorem witness_CompletesFabricB :
    (∃ (lag p : Nat) (s : State), lag < 8 ∧ s.lagMembers lag = [p] ∧ (s.port p).linkUp = true) ∧
    (∃ (port : Nat) (s : State), port < 16 ∧ (s.port port).linkUp = true) ∧
    (∃ (port : Nat) (it : QItem) (rest : List QItem) (s : State), port < 16 ∧ (s.port port).linkUp = true ∧ thas s.qos.sending port = false ∧
        tfind (s.sched 0 port).strict 0 = some (it :: rest) ∧ s.frameEligible port it = true ∧ s.shaperOk (shaperOfClass 0 0) = true) ∧
    (∃ (port : Nat) (it : QItem) (s : State), port < 16 ∧ tfind s.qos.sending port = some it) ∧
    (∃ (port rate : Nat) (s : State), port < 16 ∧ s.portEnabled port = true ∧ s.modes.mode ≠ .m0 ∧ rate ≠ 0 ∧ rate ≤ s.cfgRate port ∧
        s.cipher.realignOut.toNat.testBit (port / 4) = false) ∧
    (∃ (port : Nat) (s : State), port < 16 ∧ (s.port port).linkUp = true ∧ s.lagOf port = none) ∧
    (∃ (lag bucket n o : Nat) (s : State), lag < 8 ∧ bucket < 256 ∧ tfind (s.lag lag).moving bucket = some n ∧
        tfind (s.lag lag).owners bucket = some o ∧ s.bucketQueued o lag bucket = false ∧ (s.lag lag).lagStep = none) :=
  ⟨⟨0, 3, { State.reset with net := { ports := [(3, { linkUp := true })] }, regs := [(oid 1 6 0, 8 * 2 ^ 48)] }, by decide +kernel⟩,
   ⟨0, { State.reset with modes := { mode := .m2 }, net := { ports := [(0, { linkUp := true })] } }, by decide +kernel⟩,
   ⟨0, { num := 4, cost := 100, cls := 7 }, [], { State.reset with net := { ports := [(0, { linkUp := true, rate := 800 })] }, qos := { egress := [(0, { strict := [(0, [{ num := 4, cost := 100, cls := 7 }])] })] } }, by decide +kernel⟩,
   ⟨0, { num := 4 }, { State.reset with qos := { sending := [(0, { num := 4 })] } }, by decide +kernel⟩,
   ⟨0, 800, State.reset, by decide +kernel⟩,
   ⟨0, { State.reset with modes := { mode := .m2 }, net := { ports := [(0, { linkUp := true })] } }, by decide +kernel⟩,
   ⟨7, 255, 3, 1, { State.reset with modes := { mode := .m2 }, net := { ports := [], lags := [(7, { owners := [(255, 1)], moving := [(255, 3)] })] } }, by decide +kernel⟩⟩

theorem witness_CompletesFabricC :
    (∃ (lag bucket : Nat) (s : State), lag < 8 ∧ bucket < 256 ∧ thas (s.lag lag).moving bucket = true ∧ tfind (s.lag lag).owners bucket = none ∧
        (s.lag lag).lagStep = none) ∧
    (∃ (lag p : Nat) (s : State), lag < 8 ∧ (s.lag lag).lagStep = none ∧ s.modes.mode ≠ .m4 ∧ s.modes.nvmePs = 2 ∧
        s.stepDownPick (s.stepDownEligible lag) = some p) ∧
    (∃ (lag p : Nat) (s : State), lag < 8 ∧ (s.lag lag).lagStep = none ∧
        s.lagCfgUpPct lag * s.cNow lag * 1000000 < max (s.lag lag).msRx (s.lag lag).msTx * 800 ∧
        ((s.distMembers lag).find? fun p => (s.port p).linkUp && decide ((s.port p).rate < s.topRate p)) = some p) ∧
    (∃ (lag : Nat) (st : LagStep) (s : State), lag < 8 ∧ (s.lag lag).lagStep = some st ∧ st.phase = 4) ∧
    (∃ (lag : Nat) (st : LagStep) (s : State), lag < 8 ∧ (s.lag lag).lagStep = some st ∧ st.phase = 1 ∧
        (s.lag lag).owners.all (fun o => decide (o.2 ≠ st.member)) = true) ∧
    (∃ (lag p : Nat) (s : State), lag < 8 ∧ (s.lag lag).stayedOut = [p] ∧ (s.port p).linkUp = true) ∧
    (∃ (port : Nat) (p : Port) (rest : Tbl Port) (s : State), s.net.ports = (port, p) :: rest ∧ rest = [] ∧ p.linkUp = true) :=
  ⟨⟨0, 0, { State.reset with modes := { mode := .m2 }, net := { ports := [], lags := [(0, { moving := [(0, 3)] })] } }, by decide +kernel⟩,
   ⟨0, 1, { State.reset with modes := { mode := .m2, nvmePs := 2 }, net := { ports := [(0, { linkUp := true, rate := 800, distributing := true }), (1, { linkUp := true, rate := 800, distributing := true })] }, regs := [(oid 1 6 0, 3 * 2 ^ 48 + 2 ^ 46), (oid 1 1 0, 0)] }, by decide +kernel⟩,
   ⟨0, 0, { State.reset with modes := { mode := .m2 }, net := { ports := [(0, { linkUp := true, rate := 400, distributing := true })], lags := [(0, { msRx := 1000000000 })] }, regs := [(oid 1 6 0, 1 * 2 ^ 48 + 50 * 2 ^ 31)] }, by decide +kernel⟩,
   ⟨0, { phase := 4, member := 1 }, { State.reset with modes := { mode := .m2 }, net := { ports := [], lags := [(0, { lagStep := some { phase := 4, member := 1 } })] } }, by decide +kernel⟩,
   ⟨0, { phase := 1, member := 1 }, { State.reset with modes := { mode := .m2 }, net := { ports := [], lags := [(0, { lagStep := some { phase := 1, member := 1 } })] } }, by decide +kernel⟩,
   ⟨0, 1, { State.reset with modes := { mode := .m2 }, net := { ports := [(1, { linkUp := true })], lags := [(0, { stayedOut := [1] })] } }, by decide +kernel⟩,
   ⟨3, { linkUp := true }, [], { State.reset with modes := { mode := .m2 }, net := { ports := [(3, { linkUp := true })] } }, by decide +kernel⟩⟩

theorem witness_CompletesTransportsA :
    (∃ (m : CmMsg) (s : State), m.kind = 1 ∧ (s.ctx m.index).kind = 1 ∧ (s.ctx m.index).state = 1 ∧ (s.ctx m.index).claimConf = true) ∧
    (∃ (p : RocePkt) (i : Nat) (s : State), p.qpn = 0x200000 + i ∧ i < 2097152 ∧ (s.ctx i).kind = 1 ∧ (s.ctx i).state = 2 ∧ s.cached i = true ∧
        (s.xport.missBuf.filter fun m => m.ctx = i).length = 0 ∧ s.layout.holdup = none ∧ p.icrcGood = true ∧ p.opcode = 0 ∧ p.capsule = none ∧
        p.last = false ∧ p.ce = false ∧ 5 ≤ (s.ctx i).cls ∧ psnPlace (s.ctx i) p.psn = 0) ∧
    (∃ (i : Nat) (w : CacheWay) (s : State), i < 2097152 ∧ s.ways (cacheSet i) = [w] ∧ w.index = i ∧ w.evicting = true) ∧
    (∃ (i : Nat) (w : CacheWay) (s : State), i < 2097152 ∧ s.ways (cacheSet i) = [w] ∧ w.index = i ∧ w.filling = true ∧ (s.ctx i).state ≠ 5 ∧
        s.xport.missBuf = []) ∧
    (∃ (i psn key addr : Nat) (bytes : Bytes) (s : State), i < 2097152 ∧ (s.ctx i).kind = 1 ∧ (s.ctx i).state = 2 ∧ s.cached i = true ∧
        (s.xport.missBuf.filter fun m => m.ctx = i).length = 0 ∧ s.layout.holdup = none ∧ psnPlace (s.ctx i) psn = 0 ∧ key / 2048 = i ∧
        bits key 10 5 < (s.ctx i).pushCount ∧ (ctxWindow (s.ctx i) (bits key 10 5)).wState = 0 ∧
        (ctxWindow (s.ctx i) (bits key 10 5)).gen = key % 32 ∧ addr + bytes.length ≤ windowBytes (s.ctx i).pushSize) ∧
    (∃ (i psn : Nat) (s : State), i < 2097152 ∧ (s.ctx i).kind = 1 ∧ (s.ctx i).state = 2 ∧ s.cached i = true ∧
        (s.xport.missBuf.filter fun m => m.ctx = i).length = 0 ∧ s.layout.holdup = none ∧ (s.ctx i).sndUna.toNat ≠ (psn + 1) % 2 ^ 24 ∧
        posLe (s.ctx i) (s.ctx i).sndUna.toNat ((psn + 1) % 2 ^ 24) = true) ∧
    (∃ (i slot : Nat) (bytes : Bytes) (p : Slot) (s : State), i < 2097152 ∧ (s.ctx i).kind = 1 ∧ (s.ctx i).state = 2 ∧ s.cached i = true ∧
        (s.xport.missBuf.filter fun m => m.ctx = i).length = 0 ∧ s.layout.holdup = none ∧ tfind s.cmds.slots slot = some p ∧ p.ctx = i ∧
        p.localPort = false ∧ p.asked = true ∧ p.need ≠ 0) :=
  ⟨⟨{ kind := 1, index := 2 }, { State.reset with modes := { mode := .m2 }, xport := { ctx := [(2, { kind := 1, state := 1, claimConf := true })], cache := [(1, [{ index := 2 }])] } }, by decide +kernel⟩,
   ⟨{ qpn := 0x200002, psn := 7, last := false }, 2, { State.reset with modes := { mode := .m2 }, xport := { ctx := [(2, { kind := 1, state := 2, cls := 5, rcvNxt := 7 })], cache := [(1, [{ index := 2 }])] } }, by decide +kernel⟩,
   ⟨2, { index := 2, evicting := true, forCtx := 8194 }, { State.reset with xport := { cache := [(1, [{ index := 2, evicting := true, forCtx := 8194 }])] } }, by decide +kernel⟩,
   ⟨2, { index := 2, filling := true }, { State.reset with xport := { cache := [(1, [{ index := 2, filling := true }])] } }, by decide +kernel⟩,
   ⟨2, 7, 4096, 16, [1, 2], { State.reset with modes := { mode := .m2 }, xport := { ctx := [(2, { kind := 1, state := 2, rcvNxt := 7, pushCount := 1 })], cache := [(1, [{ index := 2 }])] } }, by decide +kernel⟩,
   ⟨2, 9, { State.reset with modes := { mode := .m2 }, xport := { ctx := [(2, { kind := 1, state := 2, sndUna := 7, retries := 3 })], cache := [(1, [{ index := 2 }])] } }, by decide +kernel⟩,
   ⟨2, 4, [1, 2, 3], { ctx := 2, asked := true, need := 4096 }, { State.reset with modes := { mode := .m2 }, xport := { ctx := [(2, { kind := 1, state := 2 })], cache := [(1, [{ index := 2 }])] }, cmds := { slots := [(4, { ctx := 2, asked := true, need := 4096 })] } }, by decide +kernel⟩⟩

theorem witness_CompletesTransportsB :
    (∃ (i : Nat) (s : State), i < 2097152 ∧ (s.ctx i).kind = 1 ∧ (s.ctx i).state = 2 ∧ s.cached i = true ∧
        (s.xport.missBuf.filter fun m => m.ctx = i).length = 0 ∧ s.layout.holdup = none) ∧
    (∃ (i : Nat) (s : State), i < 2097152 ∧ (s.ctx i).kind = 1 ∧ (s.ctx i).state = 2 ∧ (s.ctx i).flight ≠ [] ∧
        (s.ctx i).retries < s.transportCfgRoceRetry) ∧
    (∃ (i : Nat) (s : State), i < 2097152 ∧ (s.ctx i).kind = 1 ∧ (s.ctx i).state = 2 ∧ (s.ctx i).flight ≠ []) ∧
    (∃ (y : TcpSyn) (a : Nat × AddrEntry) (i : Nat) (s : State), s.tcpLookup y.remoteIp y.localIp y.remotePort y.localPort = none ∧
        s.inService = true ∧ y.localPort = 4420 ∧ s.losslessCfg y.port y.cls = false ∧ s.addrOfIp y.localIp = some a ∧
        s.tcpIndex (tcpBucket (tcpHash y.remoteIp y.localIp y.remotePort y.localPort)) = some i) ∧
    (∃ (g : TcpSeg) (i : Nat) (s : State), g.fragment = false ∧ s.tcpLookup g.remoteIp g.localIp g.remotePort g.localPort = some i ∧
        s.cached i = true ∧ (s.xport.missBuf.filter fun m => m.ctx = i).length = 0 ∧ s.layout.holdup = none ∧ (s.ctx i).state = 2 ∧
        5 ≤ (s.ctx i).cls ∧ g.rst = false ∧ (s.ctx i).tstamps = false ∧ g.fin = false ∧ g.len = 0) ∧
    (∃ (i hpda : Nat) (hd dd : Bool) (s : State), i < 2097152 ∧ (s.ctx i).kind = 2 ∧ (s.ctx i).state = 1 ∧ (s.ctx i).claimConf = true ∧ hpda ≤ 31) ∧
    (∃ (i ttag n : Nat) (bytes : Bytes) (p : Slot) (s : State), i < 2097152 ∧ (s.ctx i).kind = 2 ∧ (s.ctx i).state = 2 ∧
        tfind (s.ctx i).r2ts (ttag % 2048) = some (n, ttag / 2048) ∧ bytes.length ≤ 131072 ∧ tfind s.cmds.slots n = some p) :=
  ⟨⟨2, { State.reset with modes := { mode := .m2 }, xport := { ctx := [(2, { kind := 1, state := 2 })], cache := [(1, [{ index := 2 }])] } }, by decide +kernel⟩,
   ⟨2, { State.reset with modes := { mode := .m2 }, xport := { ctx := [(2, { kind := 1, state := 2, flight := [(3, 64, 0)] })], cache := [(1, [{ index := 2 }])] } }, by decide +kernel⟩,
   ⟨2, { State.reset with modes := { mode := .m2 }, xport := { ctx := [(2, { kind := 1, state := 2, flight := [(3, 64, 0)] })], cache := [(1, [{ index := 2 }])] } }, by decide +kernel⟩,
   ⟨{ cls := 5, localIp := 5 }, (0, { flags := 1, ip := 5 }), 16 * tcpBucket (tcpHash 0 5 0 4420), { State.reset with modes := { mode := .m2 }, net := { addr := [(0, { flags := 1, ip := 5 })] } }, by decide +kernel⟩,
   ⟨{ localIp := 5, wnd := 100 }, 16 * tcpBucket (tcpHash 0 5 0 4420), { State.reset with modes := { mode := .m2 }, xport := { ctx := [(16 * tcpBucket (tcpHash 0 5 0 4420), { kind := 2, state := 2, cls := 5, localIp := 5, localL4 := 4420 })], flowTags := [(16 * tcpBucket (tcpHash 0 5 0 4420), tcpTag (tcpHash 0 5 0 4420))], cache := [(cacheSet (16 * tcpBucket (tcpHash 0 5 0 4420)), [{ index := 16 * tcpBucket (tcpHash 0 5 0 4420) }])] } }, by decide +kernel⟩,
   ⟨2, 31, true, false, { State.reset with modes := { mode := .m2 }, xport := { ctx := [(2, { kind := 2, state := 1, claimConf := true })], cache := [(1, [{ index := 2 }])] } }, by decide +kernel⟩,
   ⟨2, 2051, 3, [1], { ctx := 2 }, { State.reset with modes := { mode := .m2 }, xport := { ctx := [(2, { kind := 2, state := 2, r2ts := [(3, (3, 1))] })], cache := [(1, [{ index := 2 }])] }, cmds := { slots := [(3, { ctx := 2 })] } }, by decide +kernel⟩⟩

theorem witness_CompletesTransportsC :
    (∃ (i : Nat) (s : State), i < 2097152 ∧ (s.ctx i).kind = 2 ∧ (s.ctx i).state = 2) ∧
    (∃ (i : Nat) (s : State), i < 2097152 ∧ (s.ctx i).kind = 2 ∧ (s.ctx i).state = 2 ∧ (s.ctx i).flight ≠ [] ∧
        (s.ctx i).retries < s.transportCfgTcpRetries) ∧
    (∃ (i : Nat) (s : State), i < 2097152 ∧ (s.ctx i).kind = 2 ∧ (s.ctx i).state = 2 ∧ 0 < (s.ctx i).unackedSegs) ∧
    (∃ (i : Nat) (s : State), i < 2097152 ∧ (s.ctx i).state = 1) ∧
    (∃ (i : Nat) (s : State), i < 2097152 ∧ (s.ctx i).state = 3 ∧ (s.ctx i).closeSent = true) ∧
    (∃ (i : Nat) (s : State), i < 2097152 ∧ (s.ctx i).state = 6) ∧
    (∃ (i w : Nat) (s : State), i < 2097152 ∧ w < 64 ∧ (ctxWindow (s.ctx i) w).data = true ∧ (ctxWindow (s.ctx i) w).wState ≠ 1) :=
  ⟨⟨2, { State.reset with modes := { mode := .m2 }, xport := { ctx := [(2, { kind := 2, state := 2 })], cache := [(1, [{ index := 2 }])] } }, by decide +kernel⟩,
   ⟨2, { State.reset with modes := { mode := .m2 }, xport := { ctx := [(2, { kind := 2, state := 2, flight := [(3, 64, 0)] })], cache := [(1, [{ index := 2 }])] } }, by decide +kernel⟩,
   ⟨2, { State.reset with modes := { mode := .m2 }, xport := { ctx := [(2, { kind := 2, state := 2, unackedSegs := 1 })], cache := [(1, [{ index := 2 }])] } }, by decide +kernel⟩,
   ⟨2, { State.reset with modes := { mode := .m2 }, xport := { ctx := [(2, { kind := 2, state := 1 })], cache := [(1, [{ index := 2 }])] } }, by decide +kernel⟩,
   ⟨2, { State.reset with modes := { mode := .m2 }, xport := { ctx := [(2, { kind := 2, state := 3, closeSent := true })], cache := [(1, [{ index := 2 }])] } }, by decide +kernel⟩,
   ⟨2, { State.reset with modes := { mode := .m2 }, xport := { ctx := [(2, { kind := 2, state := 6 })], cache := [(1, [{ index := 2 }])] } }, by decide +kernel⟩,
   ⟨2, 63, { State.reset with modes := { mode := .m2 }, xport := { ctx := [(2, { kind := 1, state := 2, windows := [(63, { data := true, gen := 31 })] })], cache := [(1, [{ index := 2 }])] } }, by decide +kernel⟩⟩

theorem witness_CompletesConsistencyA :
    (∃ (r : StampReq) (send : List SendRec) (s : State), s.paired = true ∧ s.settUp = true ∧ r.kind = 1 ∧ r.holder = s.other ∧
        s.ownerOf (s.lowerRec r) = s.self ∧ (s.extent (s.lowerRec r)).held = [] ∧ s.admissionShut (s.lowerRec r) = false ∧ s.ovlRoom r = true ∧
        (extentParts (s.reqSpan r).1 (s.reqSpan r).2.1).length = 1 ∧ (s.extent (s.lowerRec r)).lastStamp.toNat % 2 ^ 40 ≠ 2 ^ 40 - 1) ∧
    (∃ (slot : Nat) (stamp : BitVec 64) (waits : Nat) (s : State), slot < 262144 ∧ s.paired = true ∧ s.settUp = true ∧ s.slotUsed slot = true ∧
        (s.slot slot).state = 3 ∧ (s.slot slot).ended = false) ∧
    (∃ (slot part : Nat) (s : State), slot < 262144 ∧ s.paired = true ∧ s.settUp = true ∧ s.slotUsed slot = true) ∧
    (∃ (slot handle slba rc : Nat) (e : Extent) (r : StampReq) (s : State), slot < 262144 ∧ s.paired = true ∧ s.settUp = true ∧
        s.cons.extents = [(rc, e)] ∧ e.held = [r] ∧ e.crossing = [] ∧ r.slot = slot ∧ r.holder = s.other ∧ r.kind ≤ 3) ∧
    (∃ (slot c cid : Nat) (s : State), slot < 262144 ∧ s.settUp = true ∧ s.paired = true ∧ s.slotUsed slot = true ∧
        (s.slot slot).abortPending = some (c, cid) ∧ (s.fab c).live = true) ∧
    (∃ (slot : Nat) (stamp : BitVec 64) (handle slba nlb : Nat) (send : List SendRec) (s : State), slot < 262144 ∧ s.paired = true ∧ s.settUp = true) ∧
    (∃ (slot : Nat) (s : State), slot < 262144 ∧ s.paired = true ∧ s.settUp = true ∧ s.slotUsed slot = true) ∧
    (∃ (s : State), s.paired = true ∧ s.cons.fenced = false) :=
  ⟨⟨{ slot := 5, holder := 1, kind := 1, nlb := 4 }, [], { State.reset with modes := { mode := .m3 }, pair := { settA := true }, cons := { extents := [(0, { state := 1, lastStamp := 9 })] } }, by decide +kernel⟩,
   ⟨7, 12, 1, { State.reset with modes := { mode := .m3 }, pair := { settA := true }, cmds := { slots := [(7, { state := 3, opcode := 2, nlb := 8 })] } }, by decide +kernel⟩,
   ⟨7, 0, { State.reset with modes := { mode := .m3 }, pair := { settA := true }, cmds := { slots := [(7, { state := 4, opcode := 2, nlb := 8, waits := [(1, 2)] })] } }, by decide +kernel⟩,
   ⟨7, 0, 0, 4, { held := [{ slot := 7, holder := 1 }] }, { slot := 7, holder := 1 }, { State.reset with modes := { mode := .m3 }, pair := { settA := true }, cons := { extents := [(4, { held := [{ slot := 7, holder := 1 }] })] } }, by decide +kernel⟩,
   ⟨7, 2, 9, { State.reset with modes := { mode := .m3 }, pair := { settA := true }, cmds := { slots := [(7, { state := 4, opcode := 2, abortPending := some (2, 9) })], fab := [(2, { live := true, aborts := [9] })] } }, by decide +kernel⟩,
   ⟨7, 3, 1, 8, 2, [], { State.reset with modes := { mode := .m3 }, pair := { settA := true } }, by decide +kernel⟩,
   ⟨7, { State.reset with modes := { mode := .m3 }, pair := { settA := true }, cmds := { slots := [(7, { state := 4, recordConf := false })] } }, by decide +kernel⟩,
   ⟨{ State.reset with modes := { mode := .m3 }, pair := { settA := true }, cons := { extents := [(0, { state := 1 }), (1, { state := 1, owner := 1 })] } }, by decide +kernel⟩⟩

theorem witness_CompletesConsistencyB :
    (∃ (entry : Nat) (e : OvlEntry) (s : State), entry < 262144 ∧ tfind s.cons.ovl entry = some e ∧ e.kind = 1 ∧ 0 < e.doneNs) ∧
    (∃ (e : Nat × Extent) (s : State), s.paired = true ∧ s.consCfgAutoBalance = 1 ∧ s.leaseIdle = true ∧ s.power.estore.partnerN ≠ 0 ∧
        s.cons.extents.find? (fun e => decide (e.2.state = 1) && decide (e.2.owner = s.self) && decide ((e.2.handle + e.2.extNo) % 2 = s.other)) = some e) ∧
    (∃ (s : State), s.paired = true ∧ s.cons.lease.lState = 1 ∧ (s.extent (s.extRec s.cons.lease.handle s.cons.lease.extNo)).owner = s.self ∧
        s.leaseDrained = true) ∧
    (∃ (s : State), s.paired = true ∧ s.cons.lease.lState = 1 ∧ (s.extent (s.extRec s.cons.lease.handle s.cons.lease.extNo)).owner = s.self) ∧
    (∃ (handle extNo target : Nat) (s : State), s.paired = true ∧ s.settUp = true) ∧
    (∃ (epoch : Nat) (s : State), epoch < 2 ^ 24 ∧ s.paired = true ∧ s.settUp = true ∧ s.cons.epoch < epoch) ∧
    (∃ (n b l : Nat) (s : State), s.layout.waiting = [n] ∧ s.slotUsed n = true ∧ (s.slot n).writes = [] ∧ s.nearBlks (s.slot n) = [b] ∧
        s.freeLarder 1 = [l] ∧ 0 < s.layout.limit ∧ s.limitedSlots + 1 ≤ s.layout.limit) ∧
    (∃ (slot : Nat) (w : BlkWrite) (s : State), slot < 262144 ∧ (s.slot slot).state = 4 ∧ writeKind (s.slot slot).opcode = true ∧ s.paired = true ∧
        s.pair.lost = false ∧ (s.slot slot).gone = true ∧ (s.slot slot).begun = true ∧ (s.slot slot).need = 0 ∧ (s.slot slot).placed = false ∧
        (s.slot slot).sealed = true ∧ (s.slot slot).writeThrough = false ∧ (s.slot slot).writes = [w] ∧ w.far = false) :=
  ⟨⟨3, { kind := 1, doneNs := 9 }, { State.reset with modes := { mode := .m3 }, pair := { settA := true }, cons := { ovl := [(3, { kind := 1, doneNs := 9 }), (5, {})] } }, by decide +kernel⟩,
   ⟨(1, { state := 1, extNo := 1 }), { State.reset with modes := { mode := .m3 }, pair := { settA := true }, power := { estore := { partnerN := 5 } }, cons := { extents := [(0, { state := 1 }), (1, { state := 1, extNo := 1 })] } }, by decide +kernel⟩,
   ⟨{ State.reset with modes := { mode := .m3 }, pair := { settA := true }, cons := { lease := { lState := 1, target := 1, extNo := 1 }, extents := [(0, { state := 1 }), (1, { state := 2, extNo := 1 })] } }, by decide +kernel⟩,
   ⟨{ State.reset with modes := { mode := .m3 }, pair := { settA := true }, cons := { lease := { lState := 1, target := 1, extNo := 1 }, extents := [(0, { state := 1 }), (1, { state := 2, extNo := 1 })] } }, by decide +kernel⟩,
   ⟨0, 3, 1, { State.reset with modes := { mode := .m3 }, pair := { settA := true } }, by decide +kernel⟩,
   ⟨7, { State.reset with modes := { mode := .m3 }, pair := { settA := true }, cons := { extents := [(0, { state := 1 }), (1, { state := 2, extNo := 1 })] }, layout := { pools := [(0, { pState := 2 })] } }, by decide +kernel⟩,
   ⟨7, 0, 0, { State.reset with modes := { mode := .m3 }, pair := { settA := true }, layout := { waiting := [7], limit := 100 }, cmds := { slots := [(7, { state := 4, opcode := 1, nlb := 8, gone := true })] } }, by decide +kernel⟩,
   ⟨7, { blk := 3, lslot := 11, trailer := [1] }, { State.reset with modes := { mode := .m3 }, pair := { settA := true }, cmds := { slots := [(7, { state := 4, opcode := 1, nlb := 8, gone := true, begun := true, pieceStamp := 9, writes := [{ blk := 3, lslot := 11, trailer := [1] }] })] } }, by decide +kernel⟩⟩

theorem witness_CompletesConsistencyC :
    (∃ (m : MirrorMsg) (s : State), s.mirrorsIn = true ∧ s.settUp = true) ∧
    (∃ (slot : Nat) (w : BlkWrite) (s : State), slot < 262144 ∧ s.settUp = true ∧ s.paired = true ∧ s.slotUsed slot = true ∧
        (s.slot slot).placed = true ∧ (s.slot slot).mirrored = false ∧ (s.slot slot).writes = [w] ∧ w.far = false) ∧
    (∃ (slots : List Nat) (s : State), s.mirrorsIn = true ∧ s.settUp = true) ∧
    (∃ (lslot : Nat) (s : State), lslot < 16384000 ∧ s.syncing = true ∧ s.layout.syncLeft.contains lslot = true) ∧
    (∃ (m : MirrorMsg) (l b : Nat) (x y : Bytes) (s : State), s.paired = true ∧ s.settUp = true ∧ m.blocks = [(l, b, x, y)]) ∧
    (∃ (slot : Nat) (s : State), slot < 262144 ∧ s.paired = true ∧ s.settUp = true ∧ s.slotUsed slot = true ∧ (s.slot slot).placed = true ∧
        (s.slot slot).farPlaced = false) :=
  ⟨⟨{ slot := 3, stamp := 5, blocks := [(4, 9, [], [])] }, { State.reset with modes := { mode := .m3 }, pair := { settA := true } }, by decide +kernel⟩,
   ⟨7, { blk := 3, lslot := 11 }, { State.reset with modes := { mode := .m3 }, pair := { settA := true }, layout := { larder := [(11, { blk := 3, placed := true })] }, cmds := { slots := [(7, { state := 4, opcode := 1, placed := true, writes := [{ blk := 3, lslot := 11 }] })] } }, by decide +kernel⟩,
   ⟨[4], { State.reset with modes := { mode := .m3 }, pair := { settA := true }, layout := { mirror := [(4, {}), (5, {})] } }, by decide +kernel⟩,
   ⟨6, { State.reset with pair := { settA := true, pairStep := 5, serving := true }, layout := { syncLeft := [6, 8], larder := [(6, {})] } }, by decide +kernel⟩,
   ⟨{ slot := 3, holder := 1, stamp := 5, blocks := [(4, 9, [], [])] }, 4, 9, [], [], { State.reset with modes := { mode := .m3 }, pair := { settA := true } }, by decide +kernel⟩,
   ⟨7, { State.reset with modes := { mode := .m3 }, pair := { settA := true }, cmds := { slots := [(7, { state := 4, opcode := 1, placed := true, toPartner := true })] } }, by decide +kernel⟩⟩

theorem witness_CompletesLayout :
    (∃ (pool st : Nat) (s : State), pool < 8 ∧ s.mayDestage = true ∧ s.pickStripe pool = some st ∧ s.journalReady pool = true ∧
        (s.takeLock pool st 3).1 = true) ∧
    (∃ (pool stripe : Nat) (x : Nat × Nat × Version) (s : State), pool < 8 ∧ (s.candidates pool).filter (fun c => c.1 = stripe) = [x]) ∧
    (∃ (lslot : Nat) (v : Version) (s : State), lslot < 16384000 ∧ tfind s.layout.larder lslot = some v ∧ v.placed = true) ∧
    (∃ (pool stripe : Nat) (reads : List PosBlock) (d : Destage) (s : State), pool < 8 ∧ tfind s.layout.destages (stripeKey pool stripe) = some d ∧
        d.stage = 2 ∧ (∀ b ∈ bitsSet 16 d.rows.toNat, (s.destageRow pool stripe b d.method (s.versOf d) reads).1 = [])) ∧
    (∃ (pool stripe : Nat) (d : Destage) (s : State), pool < 8 ∧ tfind s.layout.destages (stripeKey pool stripe) = some d ∧ d.stage = 5) ∧
    (∃ (pool bit : Nat) (s : State), pool < 8 ∧ (s.pool pool).bitmap.contains bit = true ∧ (s.pool pool).members = [] ∧
        (s.layout.destages.any fun d => decide (d.1 / 2 ^ 64 = pool) && decide ((s.rowOf pool (d.1 % 2 ^ 64)).1 / 1024 = bit)) = false ∧
        2 ≤ (s.journalUp pool).length) ∧
    (∃ (pool : Nat) (recs : List JRec) (s : State), pool < 8 ∧ s.paired = true ∧ s.settUp = true ∧ recs ≠ [] ∧ (∀ r ∈ recs, r.kind ≠ 7)) ∧
    (∃ (pool slot m : Nat) (s : State), pool < 8 ∧ slot < 64 ∧ (s.journalDrives pool).contains slot = true ∧
        (s.journalUp pool).contains slot = false ∧ s.poolOnline pool = true ∧
        (s.memberSlots pool).find? (fun m => decide (s.memberState pool m = 0) && s.driveUp m && !(s.journalDrives pool).contains m && ((s.journalDrives pool).filter fun d => d ≠ slot).all fun d => decide (s.domainOf d ≠ s.domainOf m)) = some m) ∧
    (∃ (h : HoldUp) (s : State), s.layout.holdup = some h ∧ h.owed = [] ∧ s.layout.destages = [] ∧
        (s.layout.larder.any fun e => e.2.placed) = false ∧ s.power.feeds.aGood = true ∧ s.den.resetDeferred = false) :=
  ⟨⟨0, 0, poolState [], by decide +kernel⟩,
   ⟨0, 0, (0, 4, { placed := true, stamp := 5 }), poolState [], by decide +kernel⟩,
   ⟨4, { placed := true }, { State.reset with layout := { larder := [(4, { placed := true })] } }, by decide +kernel⟩,
   ⟨0, 0, [], { stage := 2, rows := 1 }, { State.reset with layout := { destages := [(stripeKey 0 0, { stage := 2, rows := 1 })] } }, by decide +kernel⟩,
   ⟨0, 0, { stage := 5, rows := 1 }, { State.reset with layout := { destages := [(stripeKey 0 0, { stage := 5, rows := 1 })] } }, by decide +kernel⟩,
   ⟨0, 3, poolState [], by decide +kernel⟩,
   ⟨2, [{ seqNo := 4, kind := 1 }], { State.reset with modes := { mode := .m3 }, pair := { settA := true } }, by decide +kernel⟩,
   ⟨0, 8, 9, poolState [8], by decide +kernel⟩,
   ⟨{ hStep := 4 }, { State.reset with modes := { mode := .m2 }, power := { feeds := { aGood := true } }, layout := { holdup := some { hStep := 4 } } }, by decide +kernel⟩⟩

theorem witness_CompletesRebuild :
    (∃ (pool slot : Nat) (s : State), pool < 8 ∧ slot < 64 ∧ s.memberState pool slot = 1 ∧ thas (s.pool pool).missingNs slot = true ∧
        s.poolOfSlot slot = some pool) ∧
    (∃ (pool stripe : Nat) (reads : List PosBlock) (s : State), pool < 8 ∧ s.mayWork pool = true ∧ s.nextRebuild pool = some stripe ∧
        (s.takeLock pool stripe 5).1 = true ∧
        (s.restore pool stripe ((s.rebuildChunks pool stripe).map (·.1)) (s.rebuildSlot pool stripe) reads).ask = []) ∧
    (∃ (pool slot bit : Nat) (reads : List StripeRead) (s : State), pool < 8 ∧ slot < 64 ∧ s.mayWork pool = true ∧
        (s.pool pool).returning.contains slot = true ∧ (s.pool pool).bitmap.contains bit = true ∧
        (s.pool pool).resynced.contains (64 * bit + slot) = false ∧ (s.fillSlot pool slot (s.groupStripes pool slot bit) reads).1 = true ∧
        ((s.pool pool).bitmap.any fun b => decide (b ≠ bit) && !(s.pool pool).resynced.contains (64 * b + slot)) = true) ∧
    (∃ (pool slot row : Nat) (reads : List StripeRead) (s : State), pool < 8 ∧ slot < 64 ∧ s.mayWork pool = true ∧ s.memberState pool slot = 2 ∧
        (s.pool pool).replacing.contains slot = true ∧ (s.pool pool).copied.contains (64 * row + slot) = false ∧
        (s.fillSlot pool slot ((s.stripesOf pool).filter fun st => decide ((s.rowOf pool st).1 = row) && s.lockHere pool st && !(s.posOfSlot pool st slot).isEmpty) reads).1 = true) ∧
    (∃ (pool stripe : Nat) (l : Lock) (s : State), pool < 8 ∧ tfind s.layout.locks (stripeKey pool stripe) = some l ∧ l.holder = 3 ∧
        thas s.layout.destages (stripeKey pool stripe) = false ∧ s.mayDestage = true ∧ ((s.candidates pool).any fun c => c.1 = stripe) = true ∧
        s.journalReady pool = true) ∧
    (∃ (pool rc old new : Nat) (r : ReshapeOp) (reads : List StripeRead) (s : State), pool < 8 ∧ (s.pool pool).reshape = some r ∧ r.rState = 1 ∧
        s.mayWork pool = true ∧ s.modes.psBadgerPaused = false ∧ (r.plan.drop r.stepNo).head? = some (rc, old, new) ∧ s.ownerOf rc = s.self ∧
        r.phase = 3) ∧
    (∃ (pool stripe : Nat) (reads : List PosBlock) (s : State), pool < 8 ∧ s.badgerRuns pool = true ∧
        (s.pool pool).hot.contains ((s.rowOf pool stripe).1 / 1024) = true ∧ (s.stripesOf pool).contains stripe = true ∧
        s.lockHere pool stripe = true ∧ (s.takeLock pool stripe 7).1 = true ∧
        ((List.range 16).any fun b => decide ((s.patrolRow pool stripe b reads).ask ≠ [])) = false ∧ reads ≠ []) ∧
    (∃ (handle gen : Nat) (g : KeyGen) (s : State), handle < 16384 ∧ gen < 256 ∧ tfind (s.ns handle).gens gen = some g ∧ g.gState = 4 ∧
        g.sweeping = false ∧ ((s.ns handle).genIn 2).isSome = true ∧
        (s.layout.larder.any fun v => decide (v.2.handle = handle) && !v.2.dealloc && decide (bits (leField v.2.trailer 16 8) 55 48 = gen)) = false ∧
        (s.layout.mirror.any fun v => decide (v.2.handle = handle) && !v.2.dealloc && decide (bits (leField v.2.trailer 16 8) 55 48 = gen)) = false) :=
  ⟨⟨0, 5, (poolState []).updPool 0 fun p => { p with members := [(5, 1)], missingNs := [(5, 9)], slabs := [] }, by decide +kernel⟩,
   ⟨0, 0, [], { ((poolState []).updPool 0 fun p => { p with members := [(0, 3)], unlisted := [0], replacing := [0] }) with regs := (oid 5 1 0, 31 * 2 ^ 59) :: (oid 5 2 0, 0xFFF) :: State.reset.regs }, by decide +kernel⟩,
   ⟨0, 5, 3, [], (poolState []).updPool 0 fun p => { p with returning := [5], bitmap := [3, 4], slabs := [] }, by decide +kernel⟩,
   ⟨0, 5, 3, [], (poolState []).updPool 0 fun p => { p with members := [(5, 2)], replacing := [5], slabs := [] }, by decide +kernel⟩,
   ⟨0, 0, { holder := 3 }, (poolState []).updLayout fun l => { l with locks := [(stripeKey 0 0, { holder := 3 })] }, by decide +kernel⟩,
   ⟨0, 0, 0, 1, { rState := 1, phase := 3, plan := [(0, 0, 1)] }, [], (poolState []).updPool 0 fun p => { p with reshape := some { rState := 1, phase := 3, plan := [(0, 0, 1)] } }, by decide +kernel⟩,
   ⟨0, 0, [{ bytes := [] }], { ((poolState []).updPool 0 fun p => { p with hot := [0] }) with regs := (oid 5 1 0, 0) :: (oid 5 2 0, 0xFFF) :: (oid 5 5 0, 2 ^ 63) :: State.reset.regs }, by decide +kernel⟩,
   ⟨3, 1, { gState := 4, sweepWait := true }, { State.reset with cipher := { ns := [(3, { nState := 2, gens := [(1, { gState := 4, sweepWait := true }), (2, { gState := 2 })] })] } }, by decide +kernel⟩⟩

theorem witness_CompletesCipherA :
    (∃ (handle gen sk : Nat) (g : KeyGen) (s : State), handle < 16384 ∧ gen < 256 ∧ tfind (s.ns handle).gens gen = some g ∧
        s.shelfKeyOf g.shelfGen = some sk ∧ s.enclave.unwraps.contains (handle, gen) = true ∧ s.cipher.keyBusOpen = true) ∧
    (∃ (handle gen : Nat) (g : KeyGen) (s : State), handle < 16384 ∧ gen < 256 ∧ tfind (s.ns handle).gens gen = some g ∧ g.stepAsked = true) ∧
    (∃ (handle gen : Nat) (g : KeyGen) (s : State), handle < 16384 ∧ gen < 256 ∧ s.paired = true ∧ s.settUp = true ∧
        tfind (s.ns handle).gens gen = some g ∧ g.gState = 1) ∧
    (∃ (e : Nat) (s : State), e < 8 ∧ s.cipher.engineOut.toNat.testBit e = false) ∧
    (∃ (code : Nat) (s : State), faultCodes.contains code = true ∧ s.modes.mode ≠ .m0 ∧ s.modes.mode ≠ .m5) ∧
    (∃ (s : State), s.modes.mode = .m5 ∧ s.enclave.erased = false ∧ s.m5Destaged = true) :=
  ⟨⟨3, 1, 5, { wrapped := 77 }, { { State.reset with cipher := { ns := [(3, { nState := 2, keying := 1, gens := [(1, { wrapped := 77 })] })], keyBusOpen := true } } with enclave := { shelfKey := some 5, unwraps := [(3, 1)] } }, by decide +kernel⟩,
   ⟨3, 1, { stepAsked := true }, { State.reset with cipher := { ns := [(3, { nState := 2, keying := 1, gens := [(1, { stepAsked := true })] })] } }, by decide +kernel⟩,
   ⟨3, 1, { }, { State.reset with modes := { mode := .m3 }, pair := { settA := true }, cipher := { ns := [(3, { nState := 2, keying := 1, gens := [(1, {})] })] } }, by decide +kernel⟩,
   ⟨7, State.reset, by decide +kernel⟩,
   ⟨0x11, { State.reset with modes := { mode := .m2 } }, by decide +kernel⟩,
   ⟨{ State.reset with modes := { mode := .m5 } }, by decide +kernel⟩⟩

theorem witness_CompletesCipherB :
    (∃ (s : State), s.debugIsOpen = false) ∧
    (∃ (pair : Nat) (s : State), pair < 12) ∧
    (∃ (slot k tg : Nat) (it : QItem) (s : State), slot < 64 ∧ s.driveTakes slot false = true ∧
        (s.sched 1 slot).pickStrict (fun k _ => s.shaperOk (shaperOfClass 1 k)) = some (k, it) ∧ it.cmd.slot = slot ∧ (s.dport slot).freeTag = some tg) ∧
    (∃ (pool k : Nat) (it : QItem) (s : State), pool < 8 ∧ (s.sched 2 pool).pickStrict (fun k it => s.backEligible pool k it) = some (k, it)) ∧
    (∃ (point us key : Nat) (h : Shaper) (s : State), point < 3 ∧ s.qos.shapers = [(key, h)] ∧ key / 8192 = point ∧ h.parked = some us ∧
        0 ≤ h.tokensAt (s.shaperRate key) (s.shaperBurst key) s.now) ∧
    (∃ (handle g k : Nat) (x : KeyGen) (s : State), handle < 16384 ∧ (s.ns handle).genIn 2 = some (k, x) ∧ (s.ns handle).nextGen = some g ∧
        s.cipherCfgAutoRotate = 1 ∧ (s.ns handle).keying = 1 ∧ x.warned = true ∧ ((s.ns handle).genIn 1).isNone = true ∧
        s.enclave.shelfKey.isSome = true ∧ s.cipher.keyBusOpen = true) :=
  ⟨⟨{ State.reset with fuses := { State.reset.fuses with lifeCycle := 3 } }, by decide +kernel⟩,
   ⟨11, State.reset, by decide +kernel⟩,
   ⟨6, 1, 0, { cmd := { slot := 6 } }, { State.reset with qos := { drive := [(6, { strict := [(1, [{ cmd := { slot := 6 } }])] })] }, drives := { ports := [(6, { dState := 4, queueCount := 1, queueDepth := 64, tagCount := 64 })] } }, by decide +kernel⟩,
   ⟨1, 2, { cmd := { slot := 6 } }, { State.reset with qos := { background := [(1, { strict := [(2, [{ cmd := { slot := 6 } }])] })] } }, by decide +kernel⟩,
   ⟨1, 4, 8200, { tokens := 5, parked := some 4 }, { State.reset with qos := { shapers := [(8200, { tokens := 5, parked := some 4 })] } }, by decide +kernel⟩,
   ⟨3, 5, 4, { gState := 2, warned := true }, { { State.reset with cipher := { ns := [(3, { nState := 2, keying := 1, gens := [(4, { gState := 2, warned := true })] })], keyBusOpen := true } } with enclave := { shelfKey := some 5 } }, by decide +kernel⟩⟩

theorem witness_CompletesPairA :
    (∃ (v : HandoverMsg) (s : State), s.paired = true ∧ s.settUp = true ∧ v.isLease = true) ∧
    (∃ (cls ack : Nat) (s : State), cls < 6 ∧ s.settUp = true ∧ (∀ f ∈ (tget {} s.pair.classes cls).unacked, f.kind ≠ 0x1E ∧ f.kind < 0x40)) ∧
    (∃ (cls seqNo : Nat) (f : SettFrame) (s : State), cls < 6 ∧ (tget {} s.pair.classes cls).unacked.find? (fun f => f.seqNo = seqNo) = some f ∧
        s.settUp = true ∧ f.sends = 1) ∧
    (∃ (bundle : Nat) (s : State), bundle < 2 ∧ s.bundleUp bundle = true) ∧
    (∃ (s : State), s.paired = true ∧ s.pair.beatsStopped = false ∧ s.pair.settA = true) ∧
    (∃ (b : BeatMsg) (s : State), s.paired = true ∧ b.crcGood = true ∧ (b.network = true ∨ s.settUp = true) ∧ b.sender = s.other ∧
        b.epoch = s.cons.epoch ∧ s.cons.fenced = false) ∧
    (∃ (s : State), s.paired = true ∧ s.pair.quorum = none ∧ s.pair.lost = false) ∧
    (∃ (s : State), s.paired = true ∧ s.pair.quorum = none ∧ s.pair.lost = false) ∧
    (∃ (s : State), s.paired = true) ∧
    (∃ (s : State), s.paired = true ∧ s.pair.quorum = none ∧ s.pair.lost = false) :=
  ⟨⟨{ handle := 0, extNo := 0, lastStamp := 77, reads := [(3, 9, 0, 8)] }, { served with modes := { mode := .m3 }, pair := { settA := true }, cipher := { ns := [(0, { nState := 2, extents := 1 })] } }, by decide +kernel⟩,
   ⟨2, 9, { State.reset with modes := { mode := .m3 }, pair := { settA := true, classes := [(2, { unacked := [{ seqNo := 9, kind := 0x20 }, { seqNo := 10, kind := 0x22 }] })] } }, by decide +kernel⟩,
   ⟨2, 9, { seqNo := 9 }, { State.reset with modes := { mode := .m3 }, pair := { settA := true, classes := [(2, { unacked := [{ seqNo := 9 }] })] } }, by decide +kernel⟩,
   ⟨1, { State.reset with modes := { mode := .m3 }, pair := { settA := true, settB := true } }, by decide +kernel⟩,
   ⟨{ State.reset with modes := { mode := .m3 }, pair := { settA := true } }, by decide +kernel⟩,
   ⟨{ sender := 1, mode := 3, network := true }, { State.reset with modes := { mode := .m3 }, pair := { settA := true } }, by decide +kernel⟩,
   ⟨{ State.reset with modes := { mode := .m3 }, pair := { settA := true } }, by decide +kernel⟩,
   ⟨{ State.reset with modes := { mode := .m3 }, pair := { settA := true } }, by decide +kernel⟩,
   ⟨{ State.reset with modes := { mode := .m3 }, pair := { settA := true } }, by decide +kernel⟩,
   ⟨{ State.reset with modes := { mode := .m3 }, pair := { settA := true } }, by decide +kernel⟩⟩

theorem witness_CompletesPairB :
    (∃ (q : Quorum) (s : State), s.pair.quorum = some q ∧ q.wins.length < 2 ∧ q.fromM1 = true) ∧
    (∃ (s : State), s.modes.mode = .m4 ∧ s.pair.lost = true ∧ s.pair.lastBeatSent + us 180 ≤ s.now) ∧
    (∃ (index : Nat) (s : State), index < 2097152 ∧ (s.ctx index).state = 5 ∧ (tfind s.pair.conns index).isNone = true) ∧
    (∃ (m : HelloMsg) (s : State), s.paired = false ∧ s.settUp = true ∧ s.pair.pairStep = 1 ∧ m.pairEn = true ∧ s.word (oid 9 2 0) = 0 ∧
        m.partnerId = 0 ∧ (List.range 8).any s.poolOnline = true ∧ m.mode = 1 ∧ m.drivesOk = true ∧ s.addressesFit m.addrs = true) ∧
    (∃ (e : EvidenceMsg) (s : State), s.pair.pairStep = 2 ∧ s.settUp = true ∧ e.sigGood = true ∧ e.lifeCycle = s.fuses.lifeCycle ∧
        (e.lifeCycle = 1 ∨ e.lifeCycle = 3) ∧ e.fusesEqual = true ∧ e.debugLock = s.fuses.debugLock ∧
        max e.antiRollback s.fuses.antiRollback ≤ e.svn ∧ max e.antiRollback s.fuses.antiRollback ≤ s.boot.svn) ∧
    (∃ (k : KeyExMsg) (own w : Nat) (s : State), s.pair.pairStep = 3 ∧ s.settUp = true ∧ k.sigGood = true ∧ s.enclave.shelfKey = some own ∧
        k.wrapped = some w) ∧
    (∃ (block : QBlock) (s : State), s.pair.pairStep = 5 ∧ s.switchReady = true ∧ s.pair.serving = false) ∧
    (∃ (index : Nat) (shadow : ConnShadow) (s : State), index < 2097152 ∧ s.mirrorsIn = true ∧ s.settUp = true ∧ tfind s.pair.conns index = none) ∧
    (∃ (index msn rcvPos sndPos : Nat) (s : State), index < 2097152 ∧ s.mirrorsIn = true ∧ s.settUp = true ∧ s.pair.replays = []) ∧
    (∃ (slot : Nat) (shadow : CmdShadow) (s : State), slot < 262144 ∧ s.mirrorsIn = true ∧ s.settUp = true) :=
  ⟨⟨{ fromM1 := true, wins := [1] }, { State.reset with modes := { mode := .m1 }, pair := { settA := true, quorum := some { fromM1 := true, wins := [1] } } }, by decide +kernel⟩,
   ⟨{ State.reset with modes := { mode := .m4 }, pair := { lost := true }, den := { State.reset.den with timeNs := 10 ^ 9 } }, by decide +kernel⟩,
   ⟨7, { State.reset with modes := { mode := .m4 }, pair := { settA := true }, xport := { ctx := [(7, { kind := 1, state := 5 })] } }, by decide +kernel⟩,
   ⟨{ pairEn := true, mode := 1, deviceId := 77, drivesOk := true }, { State.reset with modes := { mode := .m2 }, pair := { settA := true, pairStep := 1 }, layout := { pools := [(0, { pState := 2 })] } }, by decide +kernel⟩,
   ⟨{ sigGood := true, lifeCycle := 3, fusesEqual := true, debugLock := State.reset.fuses.debugLock }, { State.reset with modes := { mode := .m2 }, pair := { settA := true, pairStep := 2 }, fuses := { State.reset.fuses with lifeCycle := 3 } }, by decide +kernel⟩,
   ⟨{ sigGood := true, wrapped := some 4 }, 3, 4, { State.reset with modes := { mode := .m2 }, pair := { settA := true, pairStep := 3, serving := true }, enclave := { shelfKey := some 3 } }, by decide +kernel⟩,
   ⟨{ }, { State.reset with modes := { mode := .m2 }, pair := { settA := true, pairStep := 5, partnerEpoch := 7 }, cons := { extents := [(0, { state := 1 })] } }, by decide +kernel⟩,
   ⟨7, { pushCount := 2 }, { State.reset with modes := { mode := .m3 }, pair := { settA := true } }, by decide +kernel⟩,
   ⟨7, 1, 5, 6, { State.reset with modes := { mode := .m3 }, pair := { settA := true, conns := [(7, { })] } }, by decide +kernel⟩,
   ⟨7, { cmd := { cid := 5 } }, { State.reset with modes := { mode := .m3 }, pair := { settA := true } }, by decide +kernel⟩⟩

theorem witness_CompletesPairC :
    (∃ (slot : Nat) (stamp : BitVec 64) (send : SendRec) (s : State), slot < 262144 ∧ s.mirrorsIn = true ∧ s.settUp = true) ∧
    (∃ (slot : Nat) (send : SendRec) (s : State), slot < 262144 ∧ s.mirrorsIn = true ∧ s.settUp = true) ∧
    (∃ (slot : Nat) (r : Replay) (s : State), slot < 262144 ∧ s.mirrorsIn = true ∧ s.settUp = true ∧ readKind r.opcode = false) ∧
    (∃ (cntlid : Nat) (fab : FabCtrl) (s : State), cntlid < 32769 ∧ s.mirrorsIn = true ∧ s.settUp = true ∧ fab.live = true) ∧
    (∃ (index count size : Nat) (s : State), index < 2097152 ∧ s.mirrorsIn = true ∧ s.settUp = true) ∧
    (∃ (h : CcpHdr) (e : Session) (leaving : Nat) (s : State), s.accepts h 0x48 (some 15) e = true ∧ (s.entered h 0x48 e).paired = true ∧
        (s.entered h 0x48 e).settUp = true ∧ leaving = s.self) ∧
    (∃ (h : CcpHdr) (e : Session) (s : State), s.accepts h 0x49 (some 15) e = true ∧ s.modes.mode = .m4 ∧ s.pair.lost = false) ∧
    (∃ (h : CcpHdr) (e : Session) (force : Bool) (blocks : List QuorumRead) (s : State), s.accepts h 0x11 (some 15) e = true ∧
        (s.modes.mode ≠ .m1 ∨ s.pair.state ≠ 5)) ∧
    (∃ (bundle : Nat) (s : State), bundle < 2 ∧ s.modes.mode ≠ .m0 ∧ s.bundleUp bundle = false) :=
  ⟨⟨7, 3, { }, { State.reset with modes := { mode := .m3 }, pair := { settA := true, cmds := [(7, { })] } }, by decide +kernel⟩,
   ⟨7, { }, { State.reset with modes := { mode := .m3 }, pair := { settA := true, cmds := [(7, { })] } }, by decide +kernel⟩,
   ⟨7, { opcode := 1, isOpen := true }, { State.reset with modes := { mode := .m3 }, pair := { settA := true, cmds := [(7, { })] } }, by decide +kernel⟩,
   ⟨7, { live := true }, { State.reset with modes := { mode := .m3 }, pair := { settA := true } }, by decide +kernel⟩,
   ⟨7, 4, 2, { State.reset with modes := { mode := .m3 }, pair := { settA := true, conns := [(7, { })] } }, by decide +kernel⟩,
   ⟨hdr, { sState := 2, role := 1, transport := 2, tenant := 5 }, 0, (manage 1 ({ served with modes := { mode := .m3 }, pair := { settA := true } })), by decide +kernel⟩,
   ⟨hdr, { sState := 2, role := 1, transport := 2, tenant := 5 }, (manage 1 ({ served with modes := { mode := .m4 } })), by decide +kernel⟩,
   ⟨hdr, { sState := 2, role := 1, transport := 2, tenant := 5 }, true, [], (manage 1 (served)), by decide +kernel⟩,
   ⟨1, { State.reset with modes := { mode := .m2 }, pair := { settA := true } }, by decide +kernel⟩⟩

theorem witness_CompletesDrivesA :
    (∃ (slot : Nat) (s : State), slot < 64 ∧ s.portExists slot = true ∧ s.drivePortCfgPortEn slot = 1 ∧ (s.dport slot).dState ≤ 1 ∧
        (s.slotPwr slot).pState = 5 ∧ (s.slotPwr slot).perstHigh = true) ∧
    (∃ (slot : Nat) (info : EnumInfo) (s : State), slot < 64 ∧ (s.dport slot).dState = 3 ∧ (s.dport slot).enumStep = 8 ∧ info.good = true) ∧
    (∃ (slot : Nat) (s : State), slot < 64 ∧ (s.dport slot).dState = 2 ∨ (s.dport slot).dState = 3) ∧
    (∃ (slot : Nat) (write : Bool) (addr len : Nat) (s : State), slot < 64 ∧ (s.dport slot).allows write addr len = true) ∧
    (∃ (slot tag : Nat) (cpl : DriveCpl) (g : Tag) (s : State), slot < 64 ∧ tag < 4096 ∧ (s.dport slot).dState = 4 ∧
        tfind (s.dport slot).tags tag = some g ∧ g.tState = 1 ∧ g.cmd.owner ≠ 4 ∧ cpl.status = 0) ∧
    (∃ (slot tag : Nat) (g : Tag) (s : State), slot < 64 ∧ (s.dport slot).dState = 4 ∧ (s.dport slot).tags = [(tag, g)] ∧ g.tState = 1 ∧ g.kind = 0 ∧
        (s.nowUs + 2 ^ 32 - g.deadlineUs) % 2 ^ 32 < 2 ^ 31 ∧ 1 < s.drivePortCfgQuarMax slot) ∧
    (∃ (slot : Nat) (s : State), slot < 64 ∧ (s.dport slot).dState = 4 ∧
        (s.dport slot).tags.any (fun t => decide (t.2.tState = 1) && decide (t.2.kind ≠ 0)) = true) ∧
    (∃ (slot : Nat) (s : State), slot < 64 ∧ (s.dport slot).dState = 4) :=
  ⟨⟨4, { State.reset with power := { slots := [(4, { pState := 5, perstHigh := true })] } }, by decide +kernel⟩,
   ⟨5, { label := some (0, 5) }, { poolState [] with drives := { ports := [(5, { dState := 3, enumStep := 8 })] } }, by decide +kernel⟩,
   ⟨5, { poolState [] with drives := { ports := [(5, { dState := 3, enumStep := 8 })] } }, by decide +kernel⟩,
   ⟨5, true, 0x80000000, 8, { poolState [] with drives := { ports := [(5, { dState := 3, adminCids := [(0, true)] })] } }, by decide +kernel⟩,
   ⟨5, 7, { status := 0 }, { tState := 1, cmd := { slot := 5, owner := 3 } }, { poolState [] with drives := { ports := [(5, { dState := 4, tags := [(7, { tState := 1, cmd := { slot := 5, owner := 3 } })] })] } }, by decide +kernel⟩,
   ⟨5, 7, { tState := 1, kind := 0, cmd := { slot := 5, owner := 3 } }, { poolState [] with drives := { ports := [(5, { dState := 4, tags := [(7, { tState := 1, kind := 0, cmd := { slot := 5, owner := 3 } })] })] } }, by decide +kernel⟩,
   ⟨5, { poolState [] with drives := { ports := [(5, { dState := 4, tags := [(7, { tState := 1, kind := 1, cmd := { slot := 5, owner := 3 } })] })] } }, by decide +kernel⟩,
   ⟨5, { poolState [] with drives := { ports := [(5, { dState := 4 })] } }, by decide +kernel⟩⟩

theorem witness_CompletesDrivesB :
    (∃ (slot : Nat) (s : State), slot < 64 ∧ (s.dport slot).dState = 4) ∧
    (∃ (slot : Nat) (s : State), slot < 64 ∧ (s.dport slot).dState = 4) ∧
    (∃ (slot : Nat) (s : State), slot < 64 ∧ (s.dport slot).dState = 4) ∧
    (∃ (slot : Nat) (s : State), slot < 64) ∧
    (∃ (slot : Nat) (s : State), slot < 64 ∧ (s.dport slot).dState = 6) ∧
    (∃ (slot : Nat) (s : State), slot < 64 ∧ (s.dport slot).dState = 4 ∧ s.drivePortCfgAspmL1 slot = 1 ∧ (s.dport slot).inL1 = false ∧
        (s.dport slot).tagsIn 1 = 0) ∧
    (∃ (slot : Nat) (s : State), slot < 64 ∧ (s.dport slot).dState = 3 ∧ (s.dport slot).enumStep = 7 ∧ (s.dport slot).registered = true ∧
        s.paired = true ∧ s.self = 1) :=
  ⟨⟨5, { poolState [] with drives := { ports := [(5, { dState := 4 })] } }, by decide +kernel⟩,
   ⟨5, { poolState [] with drives := { ports := [(5, { dState := 4 })] } }, by decide +kernel⟩,
   ⟨5, { poolState [] with drives := { ports := [(5, { dState := 4 })] } }, by decide +kernel⟩,
   ⟨5, State.reset, by decide +kernel⟩,
   ⟨5, { poolState [] with drives := { ports := [(5, { dState := 6 })] } }, by decide +kernel⟩,
   ⟨5, { poolState [] with drives := { ports := [(5, { dState := 4 })] } }, by decide +kernel⟩,
   ⟨5, { poolState [] with drives := { ports := [(5, { dState := 3, enumStep := 7, registered := true })] }, modes := { mode := .m3 }, den := { State.reset.den with pins := { State.reset.den.pins with strapIdx := true } } }, by decide +kernel⟩⟩

theorem witness_CompletesSlotPowerA :
    (∃ (slot : Nat) (s : State), slot < 64) ∧
    (∃ (slot : Nat) (s : State), slot < 64 ∧ (s.slotPwr slot).present = true ∧ s.drivesOff = false ∧ s.modes.mode ≠ .m0 ∧
        (s.slotPwr slot).pState = 2 ∧ (s.slotPwr slot).cooling = false ∧ (s.slotPwr slot).marked = false ∧ s.slotMayRun slot = true ∧
        s.leads slot = true) ∧
    (∃ (slot : Nat) (s : State), slot < 64 ∧ 0 < s.now) ∧
    (∃ (slot : Nat) (current vOut vBus : Nat) (s : State), slot < 64 ∧ (s.slotPwr slot).pState = 4 ∧ 1 ≤ (s.slotPwr slot).pgSamples ∧ 0 < vBus ∧
        9 * vBus ≤ 10 * min 2047 vOut ∧ s.startExpired slot = false) ∧
    (∃ (slot : Nat) (s : State), slot < 64 ∧ (s.slotPwr slot).pState = 4) ∧
    (∃ (slot : Nat) (s : State), slot < 64 ∧ (s.slotPwr slot).pState = 5 ∧ (s.slotPwr slot).limiter = true) ∧
    (∃ (slot : Nat) (s : State), slot < 64 ∧ (s.slotPwr slot).gateOn = true) ∧
    (∃ (slot : Nat) (s : State), slot < 64 ∧ (s.slotPwr slot).cooling = true ∧ (s.slotPwr slot).pState = 3 ∧ (s.slotPwr slot).marked = true ∧
        (s.slotPwr slot).retryCnt + 1 ≤ s.slotPwrCfgRetryMax slot ∧ s.slotMayRun slot = true ∧ s.leads slot = true) ∧
    (∃ (slot : Nat) (s : State), slot < 64 ∧ (s.slotPwr slot).present = false ∧ 0 < (s.slotPwr slot).emptySince) :=
  ⟨⟨5, { State.reset with fuses := { State.reset.fuses with slotCeil := 0xFFFFFF }, regs := (oid 11 1 5, slotWord) :: State.reset.regs, power := { slots := [(5, {  })] } }, by decide +kernel⟩,
   ⟨5, { State.reset with fuses := { State.reset.fuses with slotCeil := 0xFFFFFF }, regs := (oid 11 1 5, slotWord) :: State.reset.regs, power := { slots := [(5, { present := true, pState := 2 })] }, modes := { mode := .m2 } }, by decide +kernel⟩,
   ⟨5, { State.reset with fuses := { State.reset.fuses with slotCeil := 0xFFFFFF }, regs := (oid 11 1 5, slotWord) :: State.reset.regs, power := { slots := [(5, { present := true, pState := 5, gateOn := true })] }, den := { State.reset.den with timeNs := 7 } }, by decide +kernel⟩,
   ⟨5, 70, 1190, 1200, { State.reset with fuses := { State.reset.fuses with slotCeil := 0xFFFFFF }, regs := (oid 11 1 5, slotWord) :: State.reset.regs, power := { slots := [(5, { present := true, pState := 4, gateOn := true, pgSamples := 1 })] } }, by decide +kernel⟩,
   ⟨5, { State.reset with fuses := { State.reset.fuses with slotCeil := 0xFFFFFF }, regs := (oid 11 1 5, slotWord) :: State.reset.regs, power := { slots := [(5, { present := true, pState := 4, gateOn := true })] } }, by decide +kernel⟩,
   ⟨5, { State.reset with fuses := { State.reset.fuses with slotCeil := 0xFFFFFF }, regs := (oid 11 1 5, slotWord) :: State.reset.regs, power := { slots := [(5, { present := true, pState := 5, gateOn := true, limiter := true })] } }, by decide +kernel⟩,
   ⟨5, { State.reset with fuses := { State.reset.fuses with slotCeil := 0xFFFFFF }, regs := (oid 11 1 5, slotWord) :: State.reset.regs, power := { slots := [(5, { present := true, pState := 5, gateOn := true })] } }, by decide +kernel⟩,
   ⟨5, { State.reset with fuses := { State.reset.fuses with slotCeil := 0xFFFFFF }, regs := (oid 11 1 5, slotWord) :: State.reset.regs, power := { slots := [(5, { present := true, pState := 3, cooling := true, marked := true })] }, modes := { mode := .m2 } }, by decide +kernel⟩,
   ⟨5, { State.reset with fuses := { State.reset.fuses with slotCeil := 0xFFFFFF }, regs := (oid 11 1 5, slotWord) :: State.reset.regs, power := { slots := [(5, { retryCnt := 2, marked := true, emptySince := 9 })] } }, by decide +kernel⟩⟩

theorem witness_CompletesSlotPowerB :
    (∃ (slot : Nat) (s : State), slot < 64 ∧ (s.slotPwr slot).pState = 5) ∧
    (∃ (slot : Nat) (s : State), slot < 64 ∧ (s.slotPwr slot).pState = 5) ∧
    (∃ (slot : Nat) (s : State), slot < 64 ∧ (s.slotPwr slot).present = true ∧ (s.slotPwr slot).pState = 2 ∧ (s.slotPwr slot).outputGood = true ∧
        (s.slotPwr slot).cooling = false ∧ s.slotMayRun slot = true ∧ s.leads slot = false) ∧
    (∃ (slot : Nat) (s : State), slot < 64 ∧ (s.slotPwr slot).cycling = true ∧ s.slotMayRun slot = true) ∧
    (∃ (feed volt : Nat) (s : State), feed < 2 ∧ (if feed = 0 then s.power.feeds.aGood else s.power.feeds.bGood) = true) ∧
    (∃ (feed : Nat) (s : State), feed < 2) ∧
    (∃ (feed volt : Nat) (s : State), feed < 2 ∧ s.den.stopped = false) ∧
    (∃ (vNow : Nat) (s : State), s.storePresent = true ∧ s.power.estore.testing = false ∧ s.vChgEffMv ≤ 100 * vNow + 100) ∧
    (∃ (cMeas esrMeas : Nat) (s : State), s.power.estore.testing = true) :=
  ⟨⟨5, { State.reset with fuses := { State.reset.fuses with slotCeil := 0xFFFFFF }, regs := (oid 11 1 5, slotWord) :: State.reset.regs, power := { slots := [(5, { present := true, pState := 5, retryCnt := 2, marked := true })] } }, by decide +kernel⟩,
   ⟨5, { State.reset with fuses := { State.reset.fuses with slotCeil := 0xFFFFFF }, regs := (oid 11 1 5, slotWord) :: State.reset.regs, power := { slots := [(5, { present := true, pState := 5 })] } }, by decide +kernel⟩,
   ⟨5, { State.reset with fuses := { State.reset.fuses with slotCeil := 0xFFFFFF }, regs := (oid 11 1 5, slotWord) :: State.reset.regs, power := { slots := [(5, { present := true, pState := 2, vBus := 1200, vOut := 1190 })] }, modes := { mode := .m2 } }, by decide +kernel⟩,
   ⟨5, { State.reset with fuses := { State.reset.fuses with slotCeil := 0xFFFFFF }, regs := (oid 11 1 5, slotWord) :: State.reset.regs, power := { slots := [(5, { present := true, pState := 3, cycling := true })] }, modes := { mode := .m2 } }, by decide +kernel⟩,
   ⟨1, 90, { State.reset with power := { feeds := { aGood := true, bGood := true } } }, by decide +kernel⟩,
   ⟨1, State.reset, by decide +kernel⟩,
   ⟨1, 118, State.reset, by decide +kernel⟩,
   ⟨540, { State.reset with blobs := [(oid 11 5 0, storeBytes)], modes := { mode := .m2 }, power := { estore := {  } } }, by decide +kernel⟩,
   ⟨58, 3, { State.reset with blobs := [(oid 11 5 0, storeBytes)], modes := { mode := .m2 }, power := { estore := { testing := true } } }, by decide +kernel⟩⟩

theorem witness_CompletesSlotPowerC :
    (∃ (s : State), s.power.estore.testing = true) ∧
    (∃ (s : State), s.storePresent = true) ∧
    (∃ (vNow : Nat) (s : State), s.storeBattery = false ∧ s.fuses.energyCeilJ * 204000 < s.power.estore.cMeas * vNow * vNow) ∧
    (∃ (ncover : Nat) (s : State), s.paired = true) ∧
    (∃ (p h : Nat) (s : State), h < s.marginCfgEyeMinMv ∧ tget 0 s.margins.eyeLow p < 2) ∧
    (∃ (counts : List Nat) (s : State), s.marginCfgHbmCeHi < (worstStack counts).2 ∧ s.elec.ceLevel < 4) ∧
    (∃ (latency : List (Nat × Nat)) (n m cause : Nat) (p : Pool) (s : State), s.layout.pools = [(n, p)] ∧ 2 ≤ p.pState ∧ s.memberSlots n = [m] ∧
        s.riskCause n m latency = some cause) :=
  ⟨⟨{ State.reset with blobs := [(oid 11 5 0, storeBytes)], modes := { mode := .m2 }, power := { estore := { testing := true } } }, by decide +kernel⟩,
   ⟨{ State.reset with blobs := [(oid 11 5 0, storeBytes)], modes := { mode := .m2 }, power := { estore := {  } } }, by decide +kernel⟩,
   ⟨540, { State.reset with blobs := [(oid 11 5 0, storeBytes)], modes := { mode := .m2 }, power := { estore := { cMeas := 58 } }, fuses := { State.reset.fuses with energyCeilJ := 40 } }, by decide +kernel⟩,
   ⟨540, { State.reset with modes := { mode := .m3 } }, by decide +kernel⟩,
   ⟨3, 1, State.reset, by decide +kernel⟩,
   ⟨[0, 5000], State.reset, by decide +kernel⟩,
   ⟨[(4, 1000000)], 0, 4, 5, { pState := 2 }, { State.reset with regs := (oid 5 2 0, 16) :: State.reset.regs, layout := { pools := [(0, { pState := 2 })] } }, by decide +kernel⟩⟩

theorem witness_CompletesLocalPortA :
    (∃ (s : State), s.modes.mode ≠ .m0) ∧
    (∃ (adminSq adminCq intMode vectors maxSnoop : Nat) (relaxed ltr : Bool) (s : State), s.lpReached = true ∧ s.localPort.enabled = false ∧
        s.localPort.disabling = false) ∧
    (∃ (s : State), s.lpReached = true ∧ s.localPort.enabled = true) ∧
    (∃ (shn : Nat) (s : State), s.lpReached = true ∧ s.localPort.enabled = true ∧ shn ≠ 0) ∧
    (∃ (qid value : Nat) (q : LQueue) (s : State), s.lpReached = true ∧ tfind s.localPort.sqs qid = some q ∧ value < q.size) ∧
    (∃ (s : State), (decide (s.localPort.lState = 2) || s.localPort.frozen) = true) ∧
    (∃ (len vector : Nat) (irqEn : Bool) (s : State), s.lpReached = true ∧ s.modes.mode ≠ .m0 ∧ s.localPort.mbox.busy = false ∧ 0 < len ∧ len ≤ 4096) :=
  ⟨⟨{ State.reset with modes := { mode := .m2 }, localPort := { lState := 2, speed := 4, width := 4, bme := true } }, by decide +kernel⟩,
   ⟨31, 31, 2, 8, 0, true, false, { State.reset with modes := { mode := .m2 }, localPort := { lState := 2, speed := 4, width := 4, bme := true } }, by decide +kernel⟩,
   ⟨{ State.reset with modes := { mode := .m2 }, localPort := { lState := 2, speed := 4, width := 4, bme := true, enabled := true, rdy := true } }, by decide +kernel⟩,
   ⟨1, { State.reset with modes := { mode := .m2 }, localPort := { lState := 2, speed := 4, width := 4, bme := true, enabled := true, rdy := true } }, by decide +kernel⟩,
   ⟨1, 3, { size := 32 }, { State.reset with modes := { mode := .m2 }, localPort := { lState := 2, speed := 4, width := 4, bme := true, enabled := true, rdy := true, sqs := [(1, { size := 32 })] } }, by decide +kernel⟩,
   ⟨{ State.reset with modes := { mode := .m2 }, localPort := { lState := 2, speed := 4, width := 4, bme := true } }, by decide +kernel⟩,
   ⟨4096, 3, true, { State.reset with modes := { mode := .m2 }, localPort := { lState := 2, speed := 4, width := 4, bme := true } }, by decide +kernel⟩⟩

theorem witness_CompletesLocalPortB :
    (∃ (vector : Nat) (s : State), s.lpReached = true ∧ s.localPort.intMode = 2 ∧ s.localPort.pendingVec.contains vector = true ∧
        s.localPort.fnMask = false ∧ s.lpDma = true) ∧
    (∃ (s : State), s.localPort.lState = 2 ∧ s.localPort.frozen = false) ∧
    (∃ (s : State), s.den.pins.lpPerst = false ∧ s.localPort.speed ≠ 0 ∧ s.localPort.frozen = false) ∧
    (∃ (s : State), s.den.pins.lpPerst = false ∧ s.localPort.speed ≠ 0 ∧ s.localPort.frozen = false) ∧
    (∃ (s : State), s.localPort.frozen = true ∧ (s.localPort.cause = 2 ∨ s.localPort.cause = 3) ∧ s.localPortCfgAutoRelease = 1 ∧
        s.localPort.speed ≠ 0 ∧ s.den.pins.lpPerst = false) ∧
    (∃ (s : State), s.lpActive = false) ∧
    (∃ (f : Nat) (s : State), s.localPort.ltrHeld = some f ∧ s.localPort.ltrEnable = true) ∧
    (∃ (speed width : Nat) (s : State), s.den.pins.lpPerst = false ∧ s.modes.mode ≠ .m0 ∧ speed ≠ 0) ∧
    (∃ (qid slot : Nat) (bytes : Bytes) (s : State), s.lpDma = true ∧ s.localPort.cfs = false ∧ s.slotUsed slot = true ∧
        s.localPort.fetching.contains slot = true ∧ bytes ≠ [] ∧ bytes.length < (s.slot slot).need) :=
  ⟨⟨5, { State.reset with modes := { mode := .m2 }, localPort := { lState := 2, speed := 4, width := 4, bme := true, intMode := 2, pendingVec := [5] } }, by decide +kernel⟩,
   ⟨{ State.reset with modes := { mode := .m2 }, localPort := { lState := 2, speed := 4, width := 4, bme := true } }, by decide +kernel⟩,
   ⟨{ State.reset with modes := { mode := .m2 }, localPort := { lState := 2, speed := 4, width := 4, bme := true }, den := { State.reset.den with pins := { State.reset.den.pins with lpPerst := false } } }, by decide +kernel⟩,
   ⟨{ State.reset with modes := { mode := .m2 }, localPort := { lState := 2, speed := 4, width := 4, bme := true }, den := { State.reset.den with pins := { State.reset.den.pins with lpPerst := false } } }, by decide +kernel⟩,
   ⟨{ State.reset with modes := { mode := .m2 }, localPort := { lState := 2, speed := 4, width := 4, bme := true, frozen := true, cause := 3 }, den := { State.reset.den with pins := { State.reset.den.pins with lpPerst := false } } }, by decide +kernel⟩,
   ⟨{ State.reset with modes := { mode := .m2 }, localPort := { lState := 2, speed := 4, width := 4, bme := true, lastActiveNs := 9 } }, by decide +kernel⟩,
   ⟨0x8801, { State.reset with modes := { mode := .m2 }, localPort := { lState := 2, speed := 4, width := 4, bme := true, ltrHeld := some 0x8801, ltrEnable := true } }, by decide +kernel⟩,
   ⟨5, 8, { State.reset with modes := { mode := .m2 }, localPort := { lState := 2, speed := 4, width := 4, bme := true }, den := { State.reset.den with pins := { State.reset.den.pins with lpPerst := false } } }, by decide +kernel⟩,
   ⟨1, 7, [1, 2], { State.reset with modes := { mode := .m2 }, localPort := { lState := 2, speed := 4, width := 4, bme := true, fetching := [7] }, cmds := { slots := [(7, { state := 2, opcode := 1, localPort := true, need := 512 })] } }, by decide +kernel⟩⟩

theorem witness_CompletesSessionsA :
    (∃ (resource n : Nat) (w : Owed) (ws : List Owed) (s : State), resource = 18 ∧ s.ccp.cvuWaiting = w :: ws ∧ tfreeFrom s.ccp.cvus 4 4 = some n) ∧
    (∃ (packet : Relay) (w : Owed) (s : State), s.settUp = true ∧ packet.isReply = true ∧ s.ccp.relayed = [w] ∧ w.opcode = packet.opcode ∧
        w.h.transport = packet.h.transport ∧ w.h.tag = packet.h.tag ∧ w.h.alive = packet.h.alive) ∧
    (∃ (transport : Nat) (s : State), transport < 5 ∧ s.modes.mode ≠ .m0 ∧
        s.ccpArrives { transport := transport % 4, viaSett := decide (transport = 4) } = true) ∧
    (∃ (h : CcpHdr) (s : State), s.acceptsOpen h 0x01 (none) = true) ∧
    (∃ (h : CcpHdr) (role tenant nonce pubKey id : Nat) (chainGood : Bool) (s : State), s.acceptsOpen h 0x02 (none) = true ∧
        s.ccp.holdOff.contains (carrierOf h) = false ∧ 1 ≤ role ∧ role ≤ 4 ∧ roleAccepted s.fuses.lifeCycle role = true ∧ (role = 2 → tenant ≤ 4095 ∧
        (tget {} s.enclave.tenants tenant).enrolled = true) ∧ (role ≠ 2 → chainGood = true) ∧ tfreeFrom s.ccp.sessions 1 64 = some id) ∧
    (∃ (h : CcpHdr) (e : Session) (s : State), s.accepts h 0x03 (none) e = true) ∧
    (∃ (session : Nat) (s : State), session < 65 ∧ (s.session session).sState = 1) ∧
    (∃ (transport : Nat) (s : State), transport < 5) ∧
    (∃ (h : CcpHdr) (e : Session) (s : State), s.accepts h 0x04 (none) e = true) ∧
    (∃ (session : Nat) (s : State), session < 65 ∧ (s.session session).sState = 2) :=
  ⟨⟨18, 4, { h := hdr, opcode := 0x18, data := [1] }, [], (manage 1 ({ served with ccp := { cvuWaiting := [{ h := hdr, opcode := 0x18, data := [1] }] } })), by decide +kernel⟩,
   ⟨{ isReply := true, opcode := 5, h := { tag := 3, transport := 2 }, packet := [1] }, { opcode := 5, h := { tag := 3, transport := 2 } }, { served with ccp := { relayed := [{ opcode := 5, h := { tag := 3, transport := 2 } }] }, pair := { settA := true } }, by decide +kernel⟩,
   ⟨2, (manage 1 (served)), by decide +kernel⟩,
   ⟨hdr0, (manage 1 (served)), by decide +kernel⟩,
   ⟨hdr0, 1, 0, 7, 9, 2, true, (manage 1 (served)), by decide +kernel⟩,
   ⟨hdr, { sState := 1, role := 1, transport := 2, tenant := 5 }, (manageIn { sState := 1, role := 1, transport := 2, tenant := 5 } served), by decide +kernel⟩,
   ⟨1, { served with ccp := { sessions := [(1, { sState := 1 })] } }, by decide +kernel⟩,
   ⟨2, { served with ccp := { holdOff := [2] } }, by decide +kernel⟩,
   ⟨hdr, { sState := 2, role := 1, transport := 2, tenant := 5 }, (manage 1 (served)), by decide +kernel⟩,
   ⟨1, (manage 1 (served)), by decide +kernel⟩⟩

theorem witness_CompletesSessionsB :
    (∃ (h : CcpHdr) (e : Session) (s : State), s.accepts h 0x05 (none) e = true) ∧
    (∃ (h : CcpHdr) (nonce : Nat) (s : State), s.acceptsOpen h 0x06 (none) = true) ∧
    (∃ (h : CcpHdr) (certSlot : Nat) (s : State), s.acceptsOpen h 0x07 (none) = true ∧ certSlot < 2) ∧
    (∃ (src : SpdmSrc) (s : State), src.overMailbox = false ∧ s.modes.mode ≠ .m0 ∧ s.ccpCfgMgmtBus ≠ 0) ∧
    (∃ (src : SpdmSrc) (s : State), src.overMailbox = false ∧ s.modes.mode ≠ .m0 ∧ s.ccpCfgMgmtBus ≠ 0 ∧ s.ccp.spdmVersion = true) ∧
    (∃ (src : SpdmSrc) (s : State), src.overMailbox = false ∧ s.modes.mode ≠ .m0 ∧ s.ccpCfgMgmtBus ≠ 0 ∧ s.ccp.spdmVersion = true) ∧
    (∃ (src : SpdmSrc) (s : State), src.overMailbox = false ∧ s.modes.mode ≠ .m0 ∧ s.ccpCfgMgmtBus ≠ 0 ∧ s.ccp.spdmAlg = true) ∧
    (∃ (src : SpdmSrc) (certSlot offset length : Nat) (s : State), src.overMailbox = false ∧ s.modes.mode ≠ .m0 ∧ s.ccpCfgMgmtBus ≠ 0 ∧
        s.ccp.spdmAlg = true ∧ certSlot < 2) ∧
    (∃ (src : SpdmSrc) (certSlot nonce : Nat) (s : State), src.overMailbox = false ∧ s.modes.mode ≠ .m0 ∧ s.ccpCfgMgmtBus ≠ 0 ∧
        s.ccp.spdmAlg = true ∧ certSlot < 2) ∧
    (∃ (src : SpdmSrc) (index nonce : Nat) (s : State), src.overMailbox = false ∧ s.modes.mode ≠ .m0 ∧ s.ccpCfgMgmtBus ≠ 0 ∧ s.ccp.spdmAlg = true ∧
        1 ≤ index ∧ index ≤ 8) :=
  ⟨⟨hdr, { sState := 2, role := 1, transport := 2, tenant := 5 }, (manage 1 (served)), by decide +kernel⟩,
   ⟨hdr0, 5, (manage 1 (served)), by decide +kernel⟩,
   ⟨hdr0, 1, (manage 1 (served)), by decide +kernel⟩,
   ⟨{}, (manage 1 (served)), by decide +kernel⟩,
   ⟨{}, (manage 1 ({ served with ccp := { spdmVersion := true } })), by decide +kernel⟩,
   ⟨{}, (manage 1 ({ served with ccp := { spdmVersion := true } })), by decide +kernel⟩,
   ⟨{}, (manage 1 ({ served with ccp := { spdmVersion := true, spdmAlg := true } })), by decide +kernel⟩,
   ⟨{}, default, default, default, (manage 1 ({ served with ccp := { spdmVersion := true, spdmAlg := true } })), by decide +kernel⟩,
   ⟨{}, 1, 5, (manage 1 ({ served with ccp := { spdmVersion := true, spdmAlg := true } })), by decide +kernel⟩,
   ⟨{}, 4, 5, (manage 1 ({ served with ccp := { spdmVersion := true, spdmAlg := true } })), by decide +kernel⟩⟩

theorem witness_CompletesSessionsC :
    (∃ (mi : NvmeMi) (s : State), s.modes.mode ≠ .m0 ∧ s.ccpCfgMgmtBus ≠ 0) ∧
    (∃ (h : CcpHdr) (e : Session) (mask : Nat) (s : State), s.accepts h 0x09 (some 0) e = true ∧ mask % 2 = 0 ∧ mask < 32768) ∧
    (∃ (h : CcpHdr) (e : Session) (offset : Nat) (s : State), s.accepts h 0x0A (none) e = true ∧ e.longReply ≠ [] ∧ offset ≤ e.longReply.length) ∧
    (∃ (h : CcpHdr) (e : Session) (obj offset length : Nat) (s : State), s.accepts h 0x10 (readGroup obj e.role) e = true ∧ objExists obj = true ∧
        offset + length ≤ (s.entered h 0x10 e).objSize obj ∧ s.readScope obj offset length e = 0 ∧ (idSub obj = 14 → 7 ≤ idType obj → idType obj ≤ 9 →
        ((s.entered h 0x10 e).cvuCheck h.session (idInst obj)).code = 0)) ∧
    (∃ (h : CcpHdr) (e : Session) (obj offset : Nat) (bytes : Bytes) (s : State), s.accepts h 0x11 (writeGroup obj) e = true ∧ h.staged = false ∧
        ((s.entered h 0x11 e).writeCheck h.session obj offset bytes).code = 0 ∧ (sharedObject obj = true → (s.entered h 0x11 e).sharedCut h = false)) ∧
    (∃ (h : CcpHdr) (e : Session) (offset : Nat) (bytes : Bytes) (s : State), s.accepts h 0x12 (none) e = true ∧ offset + bytes.length ≤ 262144) ∧
    (∃ (h : CcpHdr) (e : Session) (alg n : Nat) (s : State), s.accepts h 0x18 (some 17) e = true ∧ alg ≤ 1 ∧ tfreeFrom s.ccp.cvus 4 4 = some n) ∧
    (∃ (h : CcpHdr) (e : Session) (unit : Nat) (bytes : Bytes) (s : State), s.accepts h 0x19 (some 17) e = true ∧ h.staged = false ∧ unit < 8 ∧
        ((s.entered h 0x19 e).cvuCheck h.session unit).code = 0) ∧
    (∃ (h : CcpHdr) (e : Session) (unit : Nat) (s : State), s.accepts h 0x1A (some 17) e = true ∧ unit < 8 ∧
        ((s.entered h 0x1A e).cvuCheck h.session unit).code = 0) ∧
    (∃ (h : CcpHdr) (e : Session) (unit alg : Nat) (s : State), s.accepts h 0x11 (writeGroup (oid 14 7 unit)) e = true ∧
        ((s.entered h 0x11 e).writeCheck h.session (oid 14 7 unit) 0 (leBytes 8 (alg * 2 ^ 61 + 2 ^ 60))).code = 0 ∧ unit < 8 ∧ alg < 2) :=
  ⟨⟨{ opcode := 3, arg := 3, value := 100 }, (manage 1 (served)), by decide +kernel⟩,
   ⟨hdr, { sState := 2, role := 1, transport := 2, tenant := 5 }, 0x7FFE, (manage 1 (served)), by decide +kernel⟩,
   ⟨hdr, { sState := 2, role := 1, transport := 2, tenant := 5, longReply := [1, 2, 3] }, 1, (manageIn { sState := 2, role := 1, transport := 2, tenant := 5, longReply := [1, 2, 3] } served), by decide +kernel⟩,
   ⟨hdr, { sState := 2, role := 1, transport := 2, tenant := 5 }, oid 5 1 0, 0, 8, (manage 1 (served)), by decide +kernel⟩,
   ⟨hdr, { sState := 2, role := 1, transport := 2, tenant := 5 }, oid 14 5 0, 0, leBytes 8 busWord, (manage 1 (served)), by decide +kernel⟩,
   ⟨hdr, { sState := 2, role := 1, transport := 2, tenant := 5 }, 16, [1, 2], (manage 1 (served)), by decide +kernel⟩,
   ⟨hdr, { sState := 2, role := 1, transport := 2, tenant := 5 }, 1, 4, (manage 1 (served)), by decide +kernel⟩,
   ⟨hdr, { sState := 2, role := 1, transport := 2, tenant := 5 }, 4, [1, 2], (manage 1 ({ served with ccp := { cvus := [(4, { holder := 2, alg := 0, session := 1, running := 0xFFFFFFFF })] } })), by decide +kernel⟩,
   ⟨hdr, { sState := 2, role := 1, transport := 2, tenant := 5 }, 4, (manage 1 ({ served with ccp := { cvus := [(4, { holder := 2, alg := 0, session := 1, running := 0xFFFFFFFF })] } })), by decide +kernel⟩,
   ⟨hdr, { sState := 2, role := 1, transport := 2, tenant := 5 }, 4, 1, (manage 1 ({ served with ccp := { cvus := [(4, { holder := 2, alg := 0, session := 1, running := 0xFFFFFFFF })] } })), by decide +kernel⟩⟩

theorem witness_CompletesActionsA :
    (∃ (h : CcpHdr) (e : Session) (value : Nat) (s : State), s.accepts h 0x11 (writeGroup (oid 4 3 0)) e = true ∧
        ((s.entered h 0x11 e).writeCheck h.session (oid 4 3 0) 0 (leBytes 8 (value))).code = 0 ∧ value < 2 ^ 64) ∧
    (∃ (h : CcpHdr) (e : Session) (pool : Nat) (plan : List (Nat × Nat × Nat)) (s : State), s.accepts h 0x11 (writeGroup (oid 5 10 pool)) e = true ∧
        ((s.entered h 0x11 e).writeCheck h.session (oid 5 10 pool) 0 (leBytes 8 (setBits ((s.entered h 0x11 e).word (oid 5 10 pool)) 42 42 1))).code = 0 ∧
        pool < 8 ∧ (s.pool pool).reshape = none ∧
        ((s.entered h 0x11 e).setWord (oid 5 10 pool) (rwPart (wordFields 5 10) (setBits ((s.entered h 0x11 e).word (oid 5 10 pool)) 42 42 1))).reshapePlan pool = some plan ∧
        (s.entered h 0x11 e).sharedCut h = false) ∧
    (∃ (h : CcpHdr) (e : Session) (pool : Nat) (x : ReshapeOp) (s : State), s.accepts h 0x11 (writeGroup (oid 5 10 pool)) e = true ∧
        ((s.entered h 0x11 e).writeCheck h.session (oid 5 10 pool) 0 (leBytes 8 (setBits ((s.entered h 0x11 e).word (oid 5 10 pool)) 43 43 1))).code = 0 ∧
        pool < 8 ∧ (s.pool pool).reshape = some x ∧ x.rState ≠ 3 ∧ (s.entered h 0x11 e).sharedCut h = false) ∧
    (∃ (h : CcpHdr) (e : Session) (obj value : Nat) (s : State), s.accepts h 0x11 (writeGroup (obj)) e = true ∧
        ((s.entered h 0x11 e).writeCheck h.session (obj) 0 (leBytes 8 (value))).code = 0 ∧ idSub obj = 8 ∧ 1 ≤ idType obj ∧ idType obj ≤ 4 ∧
        objExists obj = true ∧ value < 2 ^ 64) ∧
    (∃ (h : CcpHdr) (e : Session) (obj value : Nat) (s : State), s.accepts h 0x11 (writeGroup (obj)) e = true ∧
        ((s.entered h 0x11 e).writeCheck h.session (obj) 0 (leBytes 8 (value))).code = 0 ∧ idSub obj = 8 ∧ (idType obj = 5 ∨ idType obj = 6) ∧
        objExists obj = true ∧ value < 2 ^ 64) ∧
    (∃ (h : CcpHdr) (e : Session) (slot : Nat) (s : State), s.accepts h 0x11 (writeGroup (oid 10 3 slot)) e = true ∧
        ((s.entered h 0x11 e).writeCheck h.session (oid 10 3 slot) 0 (leBytes 8 (2 ^ 63))).code = 0 ∧ slot < 64) ∧
    (∃ (h : CcpHdr) (e : Session) (slot : Nat) (s : State), s.accepts h 0x11 (writeGroup (oid 10 3 slot)) e = true ∧
        ((s.entered h 0x11 e).writeCheck h.session (oid 10 3 slot) 0 (leBytes 8 (2 ^ 62))).code = 0 ∧ slot < 64) :=
  ⟨⟨hdr, { sState := 2, role := 1, transport := 2, tenant := 5 }, 2 ^ 27, (manage 1 ({ served with modes := { mode := .m3 }, cipher := { ns := [(0, { nState := 2, extents := 1 })] }, cons := { extents := [(0, { state := 1 })] }, power := { estore := { partnerN := 5 } } })), by decide +kernel⟩,
   ⟨hdr, { sState := 2, role := 1, transport := 2, tenant := 5 }, 0, [], (manage 1 (reshapeState)), by decide +kernel⟩,
   ⟨hdr, { sState := 2, role := 1, transport := 2, tenant := 5 }, 0, { rState := 1, stepNo := 0, plan := [] }, (manage 1 ({ reshapeState with layout := { pools := [(0, { pState := 2, reshape := some { rState := 1, stepNo := 0, plan := [] } })] } })), by decide +kernel⟩,
   ⟨hdr, { sState := 2, role := 1, transport := 2, tenant := 5 }, oid 8 1 3, objReset (oid 8 1 3), (manage 1 (served)), by decide +kernel⟩,
   ⟨hdr, { sState := 2, role := 1, transport := 2, tenant := 5 }, oid 8 5 3, objReset (oid 8 5 3), (manage 1 (served)), by decide +kernel⟩,
   ⟨hdr, { sState := 2, role := 1, transport := 2, tenant := 5 }, 5, (manage 1 ({ poolState [] with drives := { ports := [(5, { dState := 4 })] } })), by decide +kernel⟩,
   ⟨hdr, { sState := 2, role := 1, transport := 2, tenant := 5 }, 5, (manage 1 ({ poolState [] with drives := { ports := [(5, { dState := 7 })] } })), by decide +kernel⟩⟩

theorem witness_CompletesActionsB :
    (∃ (h : CcpHdr) (e : Session) (slot : Nat) (s : State), s.accepts h 0x11 (writeGroup (oid 11 2 slot)) e = true ∧
        ((s.entered h 0x11 e).writeCheck h.session (oid 11 2 slot) 0 (leBytes 8 (2 ^ 63))).code = 0 ∧ slot < 64 ∧ (s.slotPwr slot).pState ≠ 6) ∧
    (∃ (h : CcpHdr) (e : Session) (slot : Nat) (s : State), s.accepts h 0x11 (writeGroup (oid 11 2 slot)) e = true ∧
        ((s.entered h 0x11 e).writeCheck h.session (oid 11 2 slot) 0 (leBytes 8 (2 ^ 62))).code = 0 ∧ slot < 64) ∧
    (∃ (h : CcpHdr) (e : Session) (bytes : Bytes) (s : State), s.accepts h 0x11 (writeGroup (oid 11 5 0)) e = true ∧ h.staged = false ∧
        ((s.entered h 0x11 e).writeCheck h.session (oid 11 5 0) 0 bytes).code = 0) ∧
    (∃ (h : CcpHdr) (e : Session) (s : State), s.accepts h 0x11 (writeGroup (oid 12 2 0)) e = true ∧
        ((s.entered h 0x11 e).writeCheck h.session (oid 12 2 0) 0 (leBytes 8 (2 ^ 63))).code = 0) ∧
    (∃ (h : CcpHdr) (e : Session) (s : State), s.accepts h 0x11 (writeGroup (oid 12 2 0)) e = true ∧
        ((s.entered h 0x11 e).writeCheck h.session (oid 12 2 0) 0 (leBytes 8 (2 ^ 62))).code = 0) ∧
    (∃ (h : CcpHdr) (e : Session) (port windowUs : Nat) (s : State), s.accepts h 0x11 (writeGroup (oid 13 2 port)) e = true ∧ port < 16 ∧
        1 ≤ windowUs ∧ windowUs ≤ 1000000) ∧
    (∃ (port : Nat) (s : State), port < 16 ∧ (tget {} s.telem.bw port).discard = false ∧ (s.port port).linkUp = true) :=
  ⟨⟨hdr, { sState := 2, role := 1, transport := 2, tenant := 5 }, 5, (manage 1 ({ poolState [] with power := { slots := [(5, { pState := 5, retryCnt := 2, marked := true })] } })), by decide +kernel⟩,
   ⟨hdr, { sState := 2, role := 1, transport := 2, tenant := 5 }, 5, (manage 1 ({ poolState [] with power := { slots := [(5, { pState := 5 })] } })), by decide +kernel⟩,
   ⟨hdr, { sState := 2, role := 1, transport := 2, tenant := 5 }, [58, 0, 3, 0, 0, 0, 54, 40, 80, 10, 50, 2, 0, 0, 0, 0], (manage 1 (served)), by decide +kernel⟩,
   ⟨hdr, { sState := 2, role := 1, transport := 2, tenant := 5 }, (manage 1 ({ served with localPort := { lState := 2, speed := 4, width := 4, bme := true } })), by decide +kernel⟩,
   ⟨hdr, { sState := 2, role := 1, transport := 2, tenant := 5 }, (manage 1 ({ served with localPort := { lState := 3, speed := 4, width := 4, frozen := true, cause := 3 } })), by decide +kernel⟩,
   ⟨hdr, { sState := 2, role := 1, transport := 2, tenant := 5 }, 3, 1000, (manage 1 (served)), by decide +kernel⟩,
   ⟨3, { served with net := { ports := [(3, { linkUp := true })] }, telem := { bw := [(3, { rxNow := 500 })] } }, by decide +kernel⟩⟩

theorem witness_CompletesPools :
    (∃ (h : CcpHdr) (e : Session) (slot n : Nat) (s : State), s.accepts h 0x22 (some 5) e = true ∧ slot < 64 ∧
        (s.entered h 0x22 e).poolOfSlot slot = some n ∧ (s.entered h 0x22 e).memberState n slot < 2 ∧ (s.entered h 0x22 e).poolOnline n = true ∧
        (s.entered h 0x22 e).sharedCut h = false) ∧
    (∃ (h : CcpHdr) (e : Session) (pool j : Nat) (s : State), s.accepts h 0x20 (some 5) e = true ∧ (s.entered h 0x20 e).poolCreateStatus pool = 0 ∧
        (s.entered h 0x20 e).sharedCut h = false ∧ (s.entered h 0x20 e).jobFree = some j) ∧
    (∃ (h : CcpHdr) (e : Session) (pool j : Nat) (s : State), s.accepts h 0x21 (some 5) e = true ∧ (s.entered h 0x21 e).poolDeleteStatus pool = 0 ∧
        (s.entered h 0x21 e).sharedCut h = false ∧ (s.entered h 0x21 e).jobFree = some j) ∧
    (∃ (h : CcpHdr) (e : Session) (slot j : Nat) (s : State), s.accepts h 0x23 (some 5) e = true ∧ slot < 64 ∧
        (s.entered h 0x23 e).poolOfSlot slot = none ∧ (s.dport slot).dState = 4 ∧ (s.entered h 0x23 e).sharedCut h = false ∧
        (s.entered h 0x23 e).jobFree = some j) ∧
    (∃ (h : CcpHdr) (e : Session) (desc : NsDescReq) (p : NsPlan) (s : State), s.accepts h 0x28 (some 6) e = true ∧
        (s.entered h 0x28 e).nsCreateStatus desc false = 0 ∧ (s.entered h 0x28 e).nsPlan desc = some p ∧ (s.entered h 0x28 e).sharedCut h = false) ∧
    (∃ (h : CcpHdr) (e : Session) (desc : NsDescReq) (p : NsPlan) (s : State), s.accepts h 0x29 (some 7) e = true ∧
        (s.entered h 0x29 e).nsCreateStatus desc true = 0 ∧ (s.entered h 0x29 e).nsPlan desc = some p ∧ (s.entered h 0x29 e).sharedCut h = false) ∧
    (∃ (h : CcpHdr) (e : Session) (handle j : Nat) (s : State), s.accepts h 0x2A (some 6) e = true ∧
        (s.entered h 0x2A e).nsDeleteStatus handle false = 0 ∧ (s.entered h 0x2A e).sharedCut h = false ∧ (s.entered h 0x2A e).jobFree = some j) ∧
    (∃ (h : CcpHdr) (e : Session) (handle j : Nat) (s : State), s.accepts h 0x2B (some 7) e = true ∧
        (s.entered h 0x2B e).nsDeleteStatus handle true = 0 ∧ (s.entered h 0x2B e).sharedCut h = false ∧ (s.entered h 0x2B e).jobFree = some j) ∧
    (∃ (h : CcpHdr) (e : Session) (handle copies : Nat) (s : State), s.accepts h 0x2C (some 9) e = true ∧
        (s.entered h 0x2C e).eraseStatus handle copies = 0 ∧ (s.entered h 0x2C e).sharedCut h = false) ∧
    (∃ (job status : Nat) (x : Job) (s : State), job < 64 ∧ tfind s.ccp.jobs job = some x ∧ x.jState = 1 ∧
        (x.opcode ≠ 0x3B ∨ status ≠ 0 ∨ s.enclave.rotating = true)) :=
  ⟨⟨hdr, { sState := 2, role := 1, transport := 2, tenant := 5 }, 5, 0, (manage 1 ((poolState []))), by decide +kernel⟩,
   ⟨hdr, { sState := 2, role := 1, transport := 2, tenant := 5 }, 0, 0, (manage 1 (formatState)), by decide +kernel⟩,
   ⟨hdr, { sState := 2, role := 1, transport := 2, tenant := 5 }, 0, 0, (manage 1 (poolState [])), by decide +kernel⟩,
   ⟨hdr, { sState := 2, role := 1, transport := 2, tenant := 5 }, 5, 0, (manage 1 ({ served with drives := { ports := [(5, { dState := 4 })] } })), by decide +kernel⟩,
   ⟨hdr, { sState := 2, role := 1, transport := 2, tenant := 5 }, { handle := 0xFFFF, tenant := 5, keying := 1, extents := 1, pool := 0 }, { handle := 0, base := 0, slabs := [1] }, (manage 1 ({ bigState with enclave := { State.reset.enclave with shelfKey := some 7, shelfId := 3, tenants := [(5, { created := true, enrolled := true })] } })), by decide +kernel⟩,
   ⟨hdr, { sState := 2, role := 1, transport := 2, tenant := 5 }, { handle := 0xFFFF, tenant := 5, extents := 1, pool := 0 }, { handle := 0, base := 0, slabs := [1] }, (manage 1 ({ bigState with enclave := { State.reset.enclave with shelfKey := some 7, shelfId := 3, tenants := [(5, { created := true, enrolled := true })] } })), by decide +kernel⟩,
   ⟨hdr, { sState := 2, role := 1, transport := 2, tenant := 5 }, 0, 0, (manage 1 ({ poolState [] with enclave := { State.reset.enclave with shelfKey := some 7, shelfId := 3, tenants := [(5, { created := true, enrolled := true })] }, cipher := { ns := [(0, { nState := 2, keying := 1, extents := 1, gens := [(0, { gState := 2 })] })] } })), by decide +kernel⟩,
   ⟨hdr, { sState := 2, role := 1, transport := 2, tenant := 5 }, 0, 0, (manage 1 ({ poolState [] with enclave := { State.reset.enclave with shelfKey := some 7, shelfId := 3, tenants := [(5, { created := true, enrolled := true })] }, cipher := { ns := [(0, { nState := 2, keying := 0, extents := 1 })] } })), by decide +kernel⟩,
   ⟨hdr, { sState := 2, role := 1, transport := 2, tenant := 5 }, 0, 2, (manage 1 ({ poolState [] with enclave := { State.reset.enclave with shelfKey := some 7, shelfId := 3, tenants := [(5, { created := true, enrolled := true })] }, cipher := { ns := [(0, { nState := 2, keying := 1, extents := 1, gens := [(0, { gState := 2 })] })] } })), by decide +kernel⟩,
   ⟨3, 0, { jState := 1, opcode := 0x51, session := 1 }, (manage 1 ({ served with ccp := { jobs := [(3, { jState := 1, opcode := 0x51, session := 1 })] } })), by decide +kernel⟩⟩

theorem witness_CompletesTenantsA :
    (∃ (h : CcpHdr) (e : Session) (tenant : Nat) (s : State), s.accepts h 0x30 (some 10) e = true ∧ tenant ≤ 4095 ∧
        (s.tenant tenant).created = false ∧ (s.entered h 0x30 e).sharedCut h = false) ∧
    (∃ (h : CcpHdr) (e : Session) (tenant : Nat) (s : State), s.accepts h 0x31 (some 10) e = true ∧ tenant ≤ 4095 ∧
        (s.tenant tenant).created = true ∧ (s.entered h 0x31 e).sharedCut h = false) ∧
    (∃ (h : CcpHdr) (e : Session) (tenant : Nat) (s : State), s.accepts h 0x32 (some 10) e = true ∧ tenant ≤ 4095 ∧
        (s.tenant tenant).created = true ∧ (s.tenant tenant).enrolled = false ∧ (s.entered h 0x32 e).sharedCut h = false) ∧
    (∃ (h : CcpHdr) (tenant pubKey : Nat) (s : State), s.acceptsOpen h 0x33 (some 11) = true ∧ tenant ≤ 4095 ∧
        s.fuses.maskTenant.toNat.testBit 11 = true ∧ (s.tenant tenant).windowOpen = true ∧ s.enclave.shelfKey.isSome = true ∧
        (s.enteredOpen h 0x33).sharedCut h = false) ∧
    (∃ (h : CcpHdr) (e : Session) (cap : Capsule) (s : State), s.accepts h 0x34 (some 11) e = true ∧ e.role = 2 ∧ e.tenant = cap.tenant ∧
        (s.entered h 0x34 e).capsuleStatus 1 cap = 0 ∧ ((s.entered h 0x34 e).ns cap.handle).nextGen = some cap.gen ∧
        s.enclave.shelfKey.isSome = true ∧ cap.unwrapGood = true ∧ (s.entered h 0x34 e).sharedCut h = false) ∧
    (∃ (h : CcpHdr) (e : Session) (cap : Capsule) (s : State), s.accepts h 0x34 (some 11) e = true ∧ e.role = 2 ∧ e.tenant = cap.tenant ∧
        (s.entered h 0x34 e).capsuleStatus 2 cap = 0 ∧ cap.host < 8192 ∧ (tget {} s.cmds.hosts cap.host).enable = true ∧
        (tget {} s.cmds.hosts cap.host).tenant = cap.tenant ∧ (tget {} s.cmds.hosts cap.host).hostid = cap.hostid ∧ cap.nqnDigestGood = true ∧
        cap.attachIt = true ∧ (s.entered h 0x34 e).sharedCut h = false) ∧
    (∃ (h : CcpHdr) (e : Session) (cap : Capsule) (s : State), s.accepts h 0x34 (some 11) e = true ∧ e.role = 2 ∧ e.tenant = cap.tenant ∧
        (s.entered h 0x34 e).capsuleStatus 3 cap = 0 ∧ (s.entered h 0x34 e).activateStatus cap.handle cap.gen = 0 ∧
        (s.entered h 0x34 e).sharedCut h = false) ∧
    (∃ (h : CcpHdr) (e : Session) (cap : Capsule) (s : State), s.accepts h 0x34 (some 11) e = true ∧ e.role = 2 ∧ e.tenant = cap.tenant ∧
        (s.entered h 0x34 e).capsuleStatus 4 cap = 0 ∧ (s.entered h 0x34 e).sweepStatus cap.handle cap.gen = 0 ∧
        (s.entered h 0x34 e).sharedCut h = false) :=
  ⟨⟨hdr, { sState := 2, role := 1, transport := 2, tenant := 5 }, 9, (manage 1 ({ bigState with enclave := { State.reset.enclave with shelfKey := some 7, shelfId := 3, tenants := [(5, { created := true, enrolled := true })] } })), by decide +kernel⟩,
   ⟨hdr, { sState := 2, role := 1, transport := 2, tenant := 5 }, 5, (manage 1 ({ bigState with enclave := { State.reset.enclave with shelfKey := some 7, shelfId := 3, tenants := [(5, { created := true, enrolled := true })] } })), by decide +kernel⟩,
   ⟨hdr, { sState := 2, role := 1, transport := 2, tenant := 5 }, 6, (manage 1 ({ poolState [] with enclave := { State.reset.enclave with tenants := [(6, { created := true })] } })), by decide +kernel⟩,
   ⟨hdr0, 6, 5, (manage 1 ({ poolState [] with enclave := { State.reset.enclave with shelfKey := some 7, tenants := [(6, { created := true, windowOpen := true })] } })), by decide +kernel⟩,
   ⟨hdr, { sState := 2, role := 2, transport := 2, tenant := 5 }, { kind := 1, version := 1, tenant := 5, handle := 0, seqNo := 1, shelfId := 3, gen := 0 }, (manage 2 ({ poolState [] with enclave := { State.reset.enclave with shelfKey := some 7, shelfId := 3, tenants := [(5, { created := true, enrolled := true })] }, cipher := { ns := [(0, { nState := 2, keying := 2, extents := 1, tenant := 5 })] } })), by decide +kernel⟩,
   ⟨hdr, { sState := 2, role := 2, transport := 2, tenant := 5 }, { kind := 2, version := 1, tenant := 5, handle := 0, seqNo := 1, shelfId := 3, host := 3, hostid := 8 }, (manage 2 ({ poolState [] with enclave := { State.reset.enclave with shelfKey := some 7, shelfId := 3, tenants := [(5, { created := true, enrolled := true })] }, cipher := { ns := [(0, { nState := 2, keying := 2, extents := 1, tenant := 5 })] }, cmds := { hosts := [(3, { enable := true, tenant := 5, hostid := 8 })] } })), by decide +kernel⟩,
   ⟨hdr, { sState := 2, role := 2, transport := 2, tenant := 5 }, { kind := 3, version := 1, tenant := 5, handle := 0, seqNo := 1, shelfId := 3, gen := 0 }, (manage 2 ({ poolState [] with enclave := { State.reset.enclave with shelfKey := some 7, shelfId := 3, tenants := [(5, { created := true, enrolled := true })] }, cipher := { ns := [(0, { nState := 2, keying := 2, extents := 1, tenant := 5, gens := [(0, { gState := 1 })] })] } })), by decide +kernel⟩,
   ⟨hdr, { sState := 2, role := 2, transport := 2, tenant := 5 }, { kind := 4, version := 1, tenant := 5, handle := 0, seqNo := 1, shelfId := 3, gen := 0 }, (manage 2 ({ poolState [] with enclave := { State.reset.enclave with shelfKey := some 7, shelfId := 3, tenants := [(5, { created := true, enrolled := true })] }, cipher := { ns := [(0, { nState := 2, keying := 2, extents := 1, tenant := 5, gens := [(0, { gState := 3 })] })] } })), by decide +kernel⟩⟩

theorem witness_CompletesTenantsB :
    (∃ (h : CcpHdr) (e : Session) (cap : Capsule) (s : State), s.accepts h 0x34 (some 11) e = true ∧ e.role = 2 ∧ e.tenant = cap.tenant ∧
        (s.entered h 0x34 e).capsuleStatus 5 cap = 0 ∧ (s.entered h 0x34 e).sharedCut h = false) ∧
    (∃ (h : CcpHdr) (e : Session) (cap : Capsule) (s : State), s.accepts h 0x34 (some 11) e = true ∧ e.role = 2 ∧ e.tenant = cap.tenant ∧
        (s.entered h 0x34 e).capsuleStatus 6 cap = 0 ∧ (s.entered h 0x34 e).sharedCut h = false) ∧
    (∃ (h : CcpHdr) (e : Session) (handle g : Nat) (s : State), s.accepts h 0x38 (some 8) e = true ∧
        (s.entered h 0x38 e).enclaveNsStatus handle = 0 ∧ s.enclave.shelfKey.isSome = true ∧ (s.ns handle).nextGen = some g ∧
        (s.entered h 0x38 e).sharedCut h = false) ∧
    (∃ (h : CcpHdr) (e : Session) (handle gen : Nat) (s : State), s.accepts h 0x39 (some 8) e = true ∧
        (s.entered h 0x39 e).enclaveNsStatus handle = 0 ∧ (s.entered h 0x39 e).activateStatus handle gen = 0 ∧
        (s.entered h 0x39 e).sharedCut h = false) ∧
    (∃ (h : CcpHdr) (e : Session) (handle gen : Nat) (s : State), s.accepts h 0x3A (some 8) e = true ∧
        (s.entered h 0x3A e).enclaveNsStatus handle = 0 ∧ (s.entered h 0x3A e).sweepStatus handle gen = 0 ∧ (s.entered h 0x3A e).sharedCut h = false) ∧
    (∃ (h : CcpHdr) (e : Session) (j : Nat) (s : State), s.accepts h 0x3B (some 20) e = true ∧ s.modes.mode = .m2 ∧ s.enclave.rotating = false ∧
        (s.entered h 0x3B e).jobRunning 0x3B = false ∧ s.enclave.shelfKey.isSome = true ∧ (s.entered h 0x3B e).jobFree = some j) ∧
    (∃ (h : CcpHdr) (e : Session) (tenant groups : Nat) (s : State), s.accepts h 0x60 (some 19) e = true ∧ tenant ≤ 4095 ∧ groups < 4 ∧
        (s.entered h 0x60 e).sharedCut h = false) :=
  ⟨⟨hdr, { sState := 2, role := 2, transport := 2, tenant := 5 }, { kind := 5, version := 1, tenant := 5, handle := 0, seqNo := 1, shelfId := 3 }, (manage 2 ({ poolState [] with enclave := { State.reset.enclave with shelfKey := some 7, shelfId := 3, tenants := [(5, { created := true, enrolled := true })] }, cipher := { ns := [(0, { nState := 2, keying := 2, extents := 1, tenant := 5, gens := [(0, { gState := 3 })] })] } })), by decide +kernel⟩,
   ⟨hdr, { sState := 2, role := 2, transport := 2, tenant := 5 }, { kind := 6, version := 1, tenant := 5, handle := 0xFFFF, seqNo := 1, shelfId := 3 }, (manage 2 ({ bigState with enclave := { State.reset.enclave with shelfKey := some 7, shelfId := 3, tenants := [(5, { created := true, enrolled := true })] } })), by decide +kernel⟩,
   ⟨hdr, { sState := 2, role := 1, transport := 2, tenant := 5 }, 0, 0, (manage 1 ({ poolState [] with enclave := { State.reset.enclave with shelfKey := some 7, shelfId := 3, tenants := [(5, { created := true, enrolled := true })] }, cipher := { ns := [(0, { nState := 2, keying := 1, extents := 1 })] } })), by decide +kernel⟩,
   ⟨hdr, { sState := 2, role := 1, transport := 2, tenant := 5 }, 0, 0, (manage 1 ({ poolState [] with enclave := { State.reset.enclave with shelfKey := some 7, shelfId := 3, tenants := [(5, { created := true, enrolled := true })] }, cipher := { ns := [(0, { nState := 2, keying := 1, extents := 1, gens := [(0, { gState := 1 })] })] } })), by decide +kernel⟩,
   ⟨hdr, { sState := 2, role := 1, transport := 2, tenant := 5 }, 0, 0, (manage 1 ({ poolState [] with enclave := { State.reset.enclave with shelfKey := some 7, shelfId := 3, tenants := [(5, { created := true, enrolled := true })] }, cipher := { ns := [(0, { nState := 2, keying := 1, extents := 1, gens := [(0, { gState := 3 })] })] } })), by decide +kernel⟩,
   ⟨hdr, { sState := 2, role := 1, transport := 2, tenant := 5 }, 0, (manage 1 ({ bigState with enclave := { State.reset.enclave with shelfKey := some 7, shelfId := 3, tenants := [(5, { created := true, enrolled := true })] } })), by decide +kernel⟩,
   ⟨hdr, { sState := 2, role := 1, transport := 2, tenant := 5 }, 5, 1, (manage 1 (served)), by decide +kernel⟩⟩

theorem witness_CompletesLifeCycle :
    (∃ (h : CcpHdr) (e : Session) (offset : Nat) (bytes : Bytes) (s : State), s.accepts h 0x40 (some 13) e = true ∧ h.staged = false ∧
        offset + bytes.length ≤ 33554432) ∧
    (∃ (h : CcpHdr) (e : Session) (length j : Nat) (image : ImageCheck) (s : State), s.accepts h 0x41 (some 13) e = true ∧ length ≤ 33554432 ∧
        (s.entered h 0x41 e).imageWhole length = true ∧ (s.entered h 0x41 e).jobRunning 0x41 = false ∧ s.imageOk image = true ∧
        image.length = length ∧ (s.entered h 0x41 e).jobFree = some j) ∧
    (∃ (h : CcpHdr) (e : Session) (count : Nat) (s : State), s.accepts h 0x42 (some 14) e = true ∧ s.fuses.antiRollback < count ∧
        count ≤ s.boot.svn ∧ count ≤ 128) ∧
    (∃ (h : CcpHdr) (e : Session) (s : State), s.accepts h 0x50 (some 17) e = true ∧ legalLifeCycle s.fuses.lifeCycle = true ∧
        s.fuses.marginal = false) ∧
    (∃ (h : CcpHdr) (e : Session) (test j : Nat) (s : State), s.accepts h 0x51 (some 17) e = true ∧ (s.entered h 0x51 e).jobFree = some j) ∧
    (∃ (h : CcpHdr) (e : Session) (target : Nat) (prov : Provisioning) (s : State), s.accepts h 0x58 (some 16) e = true ∧
        s.stepStatus e.role target prov = 0) ∧
    (∃ (h : CcpHdr) (e : Session) (s : State), s.accepts h 0x59 (some 16) e = true ∧ s.fuses.lifeCycle = 0 ∧ s.fuses.rootPresent = false) ∧
    (∃ (h : CcpHdr) (e : Session) (s : State), s.accepts h 0x5A (some 18) e = true ∧ s.fuses.lifeCycle = 7) ∧
    (∃ (h : CcpHdr) (e : Session) (token : UnlockToken) (s : State), s.accepts h 0x5B (some 18) e = true ∧ h.staged = false ∧ s.fuses.lifeCycle = 7 ∧
        s.fuses.debugLock = 1 ∧ (token.kind = 1 ∨ token.kind = 2) ∧ s.enclave.challenge = some token.challenge ∧ token.deviceId = s.fuses.deviceId ∧
        token.sigGood = true) ∧
    (∃ (h : CcpHdr) (e : Session) (s : State), s.accepts h 0x5C (some 21) e = true) :=
  ⟨⟨hdr, { sState := 2, role := 1, transport := 2, tenant := 5 }, 0, [1, 2, 3], (manage 1 (served)), by decide +kernel⟩,
   ⟨hdr, { sState := 2, role := 1, transport := 2, tenant := 5 }, 3, 0, { length := 3, ecdsaGood := true, mlDsaGood := true, svn := 2, digest := 9 }, (manage 1 ({ served with ccp := { fwImage := [(0, [1, 2, 3])] } })), by decide +kernel⟩,
   ⟨hdr, { sState := 2, role := 1, transport := 2, tenant := 5 }, 2, (manage 1 ({ served with boot := { State.reset.boot with svn := 2 } })), by decide +kernel⟩,
   ⟨hdr, { sState := 2, role := 1, transport := 2, tenant := 5 }, (manage 1 (served)), by decide +kernel⟩,
   ⟨hdr, { sState := 2, role := 1, transport := 2, tenant := 5 }, 1, 0, (manage 1 (served)), by decide +kernel⟩,
   ⟨hdr, { sState := 2, role := 1, transport := 2, tenant := 5 }, 3, {}, (manage 1 ({ State.reset with modes := { mode := .m1 } })), by decide +kernel⟩,
   ⟨hdr, { sState := 2, role := 4, transport := 2, tenant := 5 }, (manage 4 ({ State.reset with modes := { mode := .m1 } })), by decide +kernel⟩,
   ⟨hdr, { sState := 2, role := 3, transport := 2, tenant := 5 }, (manage 3 (served)), by decide +kernel⟩,
   ⟨hdr, { sState := 2, role := 3, transport := 2, tenant := 5 }, { kind := 1, challenge := 77 }, (manage 3 ({ served with fuses := { State.reset.fuses with debugLock := 1 }, enclave := { State.reset.enclave with challenge := some 77 } })), by decide +kernel⟩,
   ⟨hdr, { sState := 2, role := 1, transport := 2, tenant := 5 }, (manage 1 ({ served with modes := { mode := .m5 }, keep := { State.reset.keep with latch := true } })), by decide +kernel⟩⟩

end Sys2Proof.Machine
end

namespace Sys2Proof.Machine

/-! ## Commands complete, or stop with noSuchUnit (O5, O21)

Every meaning answers a next state, or is `bounded` by a check that the units it names exist (log 8); `wellFormed` contains each of these checks. -/

theorem completes_next (t : State) : completes (.next t) := ⟨t, rfl⟩

theorem completes_bounded {ok : Bool} {t : State} (h : ok = true) : completes (bounded ok t) := ⟨t, if_pos h⟩

/-- For the commands of which `wellFormed` also bounds fields that the meaning does not check. -/
theorem left_of_and {ok rest : Bool} (h : (ok && rest) = true) : ok = true := (Bool.and_eq_true_iff.mp h).1

theorem bounded_eq_fault {ok : Bool} {t : State} (h : ok = false) : bounded ok t = .fault .noSuchUnit := by
  rw [h]; rfl

theorem bounded_eq_fault_of_le {n k : Nat} {t : State} (h : k ≤ n) : bounded (decide (n < k)) t = .fault .noSuchUnit :=
  bounded_eq_fault (decide_eq_false (Nat.not_lt.mpr h))

theorem completes_ite {c : Prop} [Decidable c] {a b : Res} (ha : completes a) (hb : completes b) : completes (if c then a else b) := by
  split
  · exact ha
  · exact hb

/-! ### Outcomes that several branches give -/

theorem execCpmSample_completes (slackPs : Nat) (avsAcked : Bool) (s : State) : completes (execCpmSample slackPs avsAcked s) :=
  completes_ite (completes_next _) (completes_ite (completes_next _)
    (completes_ite (completes_ite (completes_next _) (completes_next _)) (completes_ite (completes_next _) (completes_next _))))

theorem execAvsRetryTimer_completes (acked : Bool) (s : State) : completes (execAvsRetryTimer acked s) := by
  unfold execAvsRetryTimer
  split
  · exact completes_next _
  · exact completes_ite (completes_next _) (completes_ite (completes_next _) (completes_next _))

theorem execThermalSample_completes (dieTemps stackTemps : List Nat) (s : State) : completes (execThermalSample dieTemps stackTemps s) :=
  completes_ite (completes_next _) (completes_ite (completes_next _) (completes_next _))

/-! ### Objects named by their identifier -/

/-- R504: the shapers and meters of types 1, 2, 3, 5 and 6, of which there are 4,096 each. -/
theorem objExists_of_tenantQos {obj : Nat} (sub : idSub obj = 8) (lo : 1 ≤ idType obj) (hi : idType obj ≤ 6) (notClass : idType obj ≠ 4)
    (inst : idInst obj < 4096) : objExists obj = true := by
  have count : ∀ ty ≤ 6, 1 ≤ ty → ty ≠ 4 → (objCounts 8).getD ty 0 = 4096 := by decide
  rw [objExists, sub, count _ hi lo notClass]
  exact decide_eq_true inst

/-- R504: the eight class shapers. -/
theorem objExists_of_classShaper {obj : Nat} (sub : idSub obj = 8) (ty : idType obj = 4) (inst : idInst obj < 8) : objExists obj = true := by
  rw [objExists, sub, ty]
  exact decide_eq_true inst

theorem execShaperConfigWrite_completes {h : CcpHdr} {obj value : Nat} (s : State) (wf : wellFormed (.shaperConfigWrite h obj value) = true) :
    completes (execShaperConfigWrite h obj value s) := by
  have fits : (decide (idSub obj = 8) && (decide (1 ≤ idType obj) && decide (idType obj ≤ 3) && decide (idInst obj < 4096) ||
      decide (idType obj = 4) && decide (idInst obj < 8))) = true := wf
  simp only [Bool.and_eq_true, Bool.or_eq_true, decide_eq_true_eq] at fits
  apply completes_bounded
  simp only [Bool.and_eq_true, decide_eq_true_eq]
  obtain ⟨sub, ⟨⟨lo, hi⟩, inst⟩ | ⟨ty, inst⟩⟩ := fits
  · exact ⟨⟨⟨objExists_of_tenantQos sub lo (by omega) (by omega) inst, sub⟩, lo⟩, by omega⟩
  · exact ⟨⟨⟨objExists_of_classShaper sub ty inst, sub⟩, by omega⟩, by omega⟩

theorem execMeterConfigWrite_completes {h : CcpHdr} {obj value : Nat} (s : State) (wf : wellFormed (.meterConfigWrite h obj value) = true) :
    completes (execMeterConfigWrite h obj value s) := by
  have fits : (decide (idSub obj = 8) && (decide (idType obj = 5) || decide (idType obj = 6)) && decide (idInst obj < 4096)) = true := wf
  simp only [Bool.and_eq_true, Bool.or_eq_true, decide_eq_true_eq] at fits
  apply completes_bounded
  simp only [Bool.and_eq_true, Bool.or_eq_true, decide_eq_true_eq]
  obtain ⟨⟨sub, ty⟩, inst⟩ := fits
  exact ⟨⟨objExists_of_tenantQos sub (by omega) (by omega) (by omega) inst, sub⟩, ty⟩

theorem execRailExcursion_completes {rail : Nat} (s : State) (wf : wellFormed (.railExcursion rail) = true) :
    completes (execRailExcursion rail s) := by
  obtain ⟨lo, hi⟩ := Bool.and_eq_true_iff.mp wf
  exact completes_bounded (Bool.and_eq_true_iff.mpr ⟨lo, decide_eq_true (Nat.le_of_lt_succ (of_decide_eq_true hi))⟩)

/-! ### Every command -/

/-- The split over the commands: those that name units by the very check of `wellFormed`; those for which `wellFormed` adds the widths of fields; those
treated above; and all others, whose meanings answer a next state whatever their operands. -/
theorem exec_completes_of_wellFormed (i : Instr) (s : State) (wf : wellFormed i = true) : completes (exec i s) := by
  cases i with
  | flitArrival | islandIdleExpiry | arbiterGrant | driveShutdownComplete | driveShutdownTimeout | frameReceive | pfcXoffRefresh | pfcPauseExpiry |
      pfcWdTrip | pfcWdRestore | lldpReceive | lacpduReceive | lacpPeriodic | gateIntervalEnd | egressDispatch | frameTransmitEnd | portLinkUp |
      portLinkDown | bucketMoveCommit | bucketMoveTimeout | stepWindowEnd | stepUpEval | stepPhaseTimeout | stepDrainComplete | attachRetryTimer |
      contextWritebackCommit | contextFillComplete | roceCnpReceive | roceAckTimeout | roceRnrDelayEnd | h2ctermreqReceive | tcpRtoExpiry |
      delayedAckTimer | openingTimeout | drainingCloseTimeout | quarantineEnd | pushHoldExpiry | read | write | flush | compare | writeZeroes |
      datasetManagement | verify | slotRelease | stampReply | withdrawalReply | stampRecordConfirmation | readPinExpiry | epochRaise | larderPlacement
      | mirrorConfirmation | synchronisationCopy | placementConfirmation | destagePick | coalesceTimeout | destageAgeExpiry | destageIntentDurable |
      destageWritesComplete | bitmapCleanTimer | journalBlock | journalDriveReplace | missingWaitExpiry | rebuildStripe | resyncRowGroup | copybackRow
      | stripeLockGrant | reshapeStep | badgerStripe | sweepStart | keyUnwrapComplete | ctrStepDurable | coreLockstepMismatch | keyDerivationComplete
      | driveDispatch | backgroundDispatch | shaperSlotFire | settAckReceive | settResendTimeout | settAlignmentLoss | connectionAdopt |
      connectionShadow | positionUpdate | commandShadow | stampUpdate | sendRecord | commandEnd | fabricControllerShadow | settLinkUp |
      drivePortBringup | driveEnumStepComplete | driveEnumStepTimeout | driveInboundRequest | driveCompletion | driveDeadlineScan | driveStallExpiry |
      cstsPoll | pcieReadTimeout | driveUncorrError | driveLinkDown | driveCorrError | releasePerstEnd | driveL1Idle | reservationWaitExpiry |
      slotPresenceAssert | slotSeated | slotPresenceLost | slotFaultTimer | slotOvercurrentTimer | slotTrip | slotCooldownEnd | slotEmptyClear |
      slotPoweredClear | drvPerstDeassert | followerGateClose | cycleOffEnd | feedReverseCurrent | ccpPacketDiscard | sessionAuthTimeout |
      sessionHoldoffEnd | sessionIdleExpiry | cvuInit | bwWindowWrite | bwWindowEnd | contain | drivePortRelease | clearRetry | cycle | reshapeStart |
      reshapePause =>
    exact completes_bounded wf
  | pfcFrameReceive | roceReadResponse | icreqReceive | h2cdataReceive | go | withdrawal | stampRecord | generationActivation | feedLoss | feedGood |
      jobComplete =>
    exact completes_bounded (left_of_and wf)
  | pushWritePacket | roceAckReceive | pushShadow =>
    exact completes_bounded (left_of_and (left_of_and wf))
  | slotSample =>
    exact completes_bounded (left_of_and (left_of_and (left_of_and wf)))
  | shaperConfigWrite => exact execShaperConfigWrite_completes s wf
  | meterConfigWrite => exact execMeterConfigWrite_completes s wf
  | railExcursion => exact execRailExcursion_completes s wf
  | cpmSample => exact execCpmSample_completes _ _ s
  | avsRetryTimer => exact execAvsRetryTimer_completes _ s
  | thermalSample => exact execThermalSample_completes _ _ s
  | _ => exact completes_next _

/-- Settles O5, by the split over the commands of `exec_completes_of_wellFormed`. That a command stops where its units do not exist is the model's own
choice (log 8). -/
theorem wellFormedCompletes : Obligations.WellFormedCompletes := exec_completes_of_wellFormed

/-- Settles O21: each of the eight checks fails (log 8). -/
theorem missingUnitsFault : Obligations.MissingUnitsFault := by
  refine ⟨fun _ _ slot => ⟨bounded_eq_fault_of_le slot, bounded_eq_fault_of_le slot⟩,
    fun _ _ port => ⟨bounded_eq_fault_of_le port, bounded_eq_fault_of_le port⟩, fun _ _ lag => bounded_eq_fault_of_le lag,
    fun _ _ index => bounded_eq_fault_of_le index, fun _ _ _ pool => bounded_eq_fault_of_le pool, fun _ unit _ _ h => ?_⟩
  have noUnit : decide (unit < 8) = false := decide_eq_false (Nat.not_lt.mpr h)
  exact bounded_eq_fault (by rw [noUnit, Bool.false_and])

/-! ## Word objects (O17) -/

theorem tfind_tset_same {α : Type} [DecidableEq α] (d : α) (t : Tbl α) (k : Nat) (v : α) :
    tfind (tset d t k v) k = if v = d then none else some v := by
  unfold tset
  split <;> simp

theorem tfind_tset_other {α : Type} [DecidableEq α] (d : α) (t : Tbl α) {k j : Nat} (v : α) (h : j ≠ k) :
    tfind (tset d t k v) j = tfind t j := by
  unfold tset
  split
  · exact tfind_tdel_other t h
  · exact tfind_tput_other t v h

theorem fieldsReset_objFields_lt (sub ty : Nat) : fieldsReset (objFields sub ty) < 2 ^ 64 := by
  unfold objFields
  split <;> decide

/-- The gate objects of R88 add BASE to a reset value whose bits [63:60] are clear; every other reset value is at most that of its fields. -/
theorem objReset_lt (id : Nat) : objReset id < 2 ^ 64 := by
  have fields := fieldsReset_objFields_lt (id / 16777216) (id / 16384 % 1024)
  simp only [objReset]
  split
  next gate =>
    have gateFields : fieldsReset (objFields 1 5) < 2 ^ 60 := by decide
    rw [gate.1, gate.2]
    omega
  next => split <;> omega

theorem word_setWord_same (id : Nat) {v : Nat} (s : State) (hv : v < 2 ^ 64) : (s.setWord id v).word id = v := by
  unfold State.setWord State.word
  split
  next => simpa using Nat.mod_eq_of_lt hv
  next =>
    simp only [State.updRegs_regs, tfind_tset_same]
    by_cases hr : BitVec.ofNat 64 v = BitVec.ofNat 64 (objReset id)
    · have back := congrArg BitVec.toNat hr
      rw [BitVec.toNat_ofNat, BitVec.toNat_ofNat, Nat.mod_eq_of_lt hv, Nat.mod_eq_of_lt (objReset_lt id)] at back
      simp [back]
    · simp only [if_neg hr]
      exact Nat.mod_eq_of_lt hv

theorem word_setWord_other {id j : Nat} (v : Nat) (s : State) (hj : j ≠ id) : (s.setWord id v).word j = s.word j := by
  unfold State.setWord State.word
  by_cases den : id = oid 14 3 0
  · simp only [if_pos den, if_neg (den ▸ hj : j ≠ oid 14 3 0), State.updDen_regs]
  · simp only [if_neg den, State.updRegs_den, State.updRegs_regs, tfind_tset_other _ _ _ hj]

/-- Settles O17. The reset values of the objects fit their words, so a value that is not listed because it is the reset value reads back too; that the
register file is canonical is not needed. -/
theorem objectReadsBack : Obligations.ObjectReadsBack :=
  fun id v s _ hv => ⟨word_setWord_same id s hv, fun _ hj => word_setWord_other v s hj⟩

/-! ## Check values and byte order (O20) -/

/-- R510: a running CRC is taken up again from its value at the cut. -/
theorem crcRun_append (poly start : Nat) (a b : Bytes) : crcRun poly start (a ++ b) = crcRun poly (crcRun poly start a) b :=
  List.foldl_append

theorem leNat_leBytes (n v : Nat) : leNat (leBytes n v) = v % 256 ^ n := by
  induction n generalizing v with
  | zero => exact (Nat.mod_one v).symm
  | succ n ih =>
    calc leNat (leBytes (n + 1) v) = v % 256 + 256 * leNat (leBytes n (v / 256)) := rfl
      _ = v % 256 + 256 * (v / 256 % 256 ^ n) := by rw [ih]
      _ = v % 256 ^ (n + 1) := by rw [Nat.pow_succ', Nat.mod_mul]

/-- Settles O20: the two check values by computation, resumption by `crcRun_append`, byte order by induction on the bytes. -/
theorem checkValuesAndByteOrder : Obligations.CheckValuesAndByteOrder :=
  ⟨by decide +kernel, by decide +kernel, crcRun_append, leNat_leBytes⟩

end Sys2Proof.Machine

namespace Sys2Proof.Machine

/-! ## What a command leaves alone

A lemma of Laws/Touch*.lean bounds the groups that an operation can change; read for one group it says that the operation leaves this group alone. -/

/-- The mask of every group but one. -/
abbrev allBut (g : Grp) : Nat := 2 ^ 28 - 1 - 2 ^ g.num

theorem same_of_touch {g : Grp} {b t : State} (h : Touch (allBut g) b t) : g.same b t :=
  h.out g (by cases g <;> decide)

theorem bounded_eq_next {ok : Bool} {t : State} (h : ok = true) : bounded ok t = .next t := if_pos h

theorem State.when_true (f : State → State) (s : State) : s.when true f = f s := rfl

/-! ## Bring-up, modes and islands (O24) -/

/-! ### Changes of mode -/

@[simp] theorem State.raise_modes (code n data : Nat) (s : State) : (s.raise code n data).modes = s.modes :=
  same_of_touch (g := .modes) (State.raise_touch (by decide) (.refl _ _))

@[simp] theorem State.recomputeLimit_modes (note : Bool) (s : State) : (s.recomputeLimit note).modes = s.modes :=
  same_of_touch (g := .modes) (State.recomputeLimit_touch (by decide) (.refl _ _))

@[simp] theorem State.serviceOpens_modes (s : State) : s.serviceOpens.modes = s.modes :=
  same_of_touch (g := .modes) (State.serviceOpens_touch (by decide) (.refl _ _))

@[simp] theorem State.settle_modes (s : State) : s.settle.modes = s.modes :=
  same_of_touch (g := .modes) (State.settle_touch (by decide) (.refl _ _))

theorem State.enterMode_modes (m : Mode) (cause : Nat) (s : State) : (s.enterMode m cause).modes =
    { s.modes with
      mode := m, prevMode := s.modes.mode, lastCause := cause, transitions := sat 65535 (s.modes.transitions + 1), idleLevel := 0 } := by
  simp [State.enterMode]

/-- A device power state is all of the modes that `psNow` changes (R52, R54). -/
theorem State.psNow_modes (ps : Nat) (s : State) :
    (s.psNow ps).modes = { s.modes with psEntry := none, nvmePs := ps, psBadgerPaused := decide (ps = 2) } := by
  have effects : (s.psEffects ps).modes = { s.modes with psEntry := none, nvmePs := ps, psBadgerPaused := decide (ps = 2) } := by
    unfold State.psEffects
    split <;> rfl
  rw [← effects]
  refine same_of_touch (g := .modes) (foldl_touch (State.when_touch (.refl _ _) fun _ h => State.drivesAwake_touch (by decide) h) fun _ _ h => ?_)
  exact State.adminDone_touch (by decide) h

/-- Recomputing the device power state changes nothing of the modes but that power state (R53, R54). -/
theorem State.recomputePs_modes (s : State) :
    ∃ entry ps paused, s.recomputePs.modes = { s.modes with psEntry := entry, nvmePs := ps, psBadgerPaused := paused } := by
  unfold State.recomputePs
  dsimp only
  split
  · split
    · split
      · split
        · exact ⟨_, _, _, rfl⟩
        · exact ⟨_, _, _, rfl⟩
      · exact ⟨_, _, _, rfl⟩
    · split
      · exact ⟨_, _, _, State.psNow_modes _ s⟩
      · exact ⟨_, _, _, rfl⟩
  · exact ⟨_, _, _, rfl⟩

/-- R532: a controller that does not pair enters M2 with cause 0x10. -/
theorem State.enterSolo_mode (s : State) : s.enterSolo.modes.mode = .m2 ∧ s.enterSolo.modes.lastCause = 0x10 := by
  unfold State.enterSolo
  generalize (if s.enclave.shelfKey.isNone then (s.draw).takeShelfKey (s.drawn 256) s.enclave.shelfGen else s) = t
  obtain ⟨entry, ps, paused, power⟩ := (t.raiseEpoch.enterMode .m2 0x10).recomputePs_modes
  rw [State.settle_modes, power, State.enterMode_modes]
  exact ⟨rfl, rfl⟩

theorem execModeDecision_solo {s : State} (mode : s.modes.mode = .m1) (normal : s.boot.recovery = false) (cold : s.modes.denLeft = none)
    (ready : s.decisionReady = true) (alone : s.pairCfgPairEn = 0) :
    ∃ t, execModeDecision s = .next t ∧ t.modes.mode = .m2 ∧ t.modes.lastCause = 0x10 := by
  refine ⟨_, ?_, State.enterSolo_mode (s.updBoot fun b => { b with linksWaited := true, storeTestDone := true, bootStep := 12 })⟩
  have alone' : (s.updBoot fun b => { b with linksWaited := true, storeTestDone := true, bootStep := 12 }).pairCfgPairEn = 0 := alone
  unfold execModeDecision
  rw [if_neg (by simp [mode, normal])]
  simp [cold, ready, alone']

/-! ### Training, the wipe and images (R527 to R529) -/

theorem execHbmTrainingComplete_good {s : State} (step : s.boot.bootStep = 3) (runs : s.elec.halted = false) :
    execHbmTrainingComplete true s = .next (s.updBoot fun b => { b with bootStep := 4, trainingFails := 0 }) := by
  simp [execHbmTrainingComplete, step, runs]

/-- R529: whether recovery is due is read from the image store alone. -/
theorem State.recoveryDue_congr {s t : State} (images : t.images = s.images) : t.recoveryDue = s.recoveryDue := by
  unfold State.recoveryDue State.slotFails
  rw [images]

/-- R33, R234: of the branches after the self-test, none but the last is taken. -/
theorem execResetWipeComplete_good {s : State} (step : s.boot.bootStep = 4) (unlocked : s.keep.latch = false) (alive : s.fuses.lifeCycle ≠ 15)
    (normal : s.recoveryDue = false) : ∃ t, execResetWipeComplete true s = .next t ∧ t.boot.bootStep = 5 ∧ t.den.hbmRetained = true ∧
      t.boot.larderKept = (s.den.hbmRetained && decide (s.layout.larderToken = s.den.larderToken)) := by
  have normal' {t : State} (images : t.images = s.images) : ¬ t.recoveryDue = true := by simp [State.recoveryDue_congr images, normal]
  unfold execResetWipeComplete
  exact ⟨_, congrArg _ <| (if_neg (not_not_intro step)).trans <| (if_neg (by decide)).trans <|
    (if_neg (ne_true_of_eq_false unlocked)).trans <| (if_neg alive).trans <| if_neg (normal' rfl), rfl, rfl, rfl⟩

/-- R528, R531: firmware with an empty settings block starts without any object written. -/
theorem execImageLoadComplete_good {slotB : Bool} {image : ImageCheck} {s : State} (step : s.boot.bootStep = 5) (normal : s.boot.recovery = false)
    (mode : s.modes.mode = .m1) (due : slotB = s.dueSlot) (good : s.imageOk image = true) :
    ∃ t, execImageLoadComplete slotB image s = .next t ∧ (image.settings = [] →
      t.enclave.aliasSeed = Config.kdf s.fuses.deviceRoot 3 [image.digest % 2 ^ 128, image.svn, s.fuses.lifeCycle] ∧ t.boot.bootStep = 6 ∧
      t.boot.slotB = slotB ∧ t.boot.svn = image.svn) := by
  refine ⟨s.startFirmware slotB image, ?_, fun none => ?_⟩
  · simp [execImageLoadComplete, step, normal, mode, ← due, good]
  · simp [State.startFirmware, none, State.writeObjects]

/-! ### Firmware that does not start (R529) -/

theorem State.loadClasses_modes (s : State) : s.loadClasses.modes = s.modes :=
  same_of_touch (g := .modes) (State.loadClasses_touch (by decide) (.refl _ _))

theorem State.loadClasses_images (s : State) : s.loadClasses.images = s.images :=
  same_of_touch (g := .images) (State.loadClasses_touch (by decide) (.refl _ _))

/-- R527 step 2: a fuse load that finds nothing wrong begins step 3 and changes neither the modes nor the image store. -/
theorem State.fuseLoad_good {s : State} (legal : legalLifeCycle s.fuses.lifeCycle = true) (sure : s.fuses.marginal = false) :
    (s.fuseLoad {}).boot.bootStep = 3 ∧ (s.fuseLoad {}).modes = s.modes ∧ (s.fuseLoad {}).images = s.images := by
  simp [State.fuseLoad, legal, sure, State.loadClasses_modes, State.loadClasses_images]

/-- R16, R45: a reset over sound fuses is in step 3 of bring-up with its cause kept, and leaves the image store. -/
theorem State.resetController_good {s : State} (cause : Nat) (legal : legalLifeCycle s.fuses.lifeCycle = true) (sure : s.fuses.marginal = false) :
    (s.resetController cause).modes.lastCause = cause ∧ (s.resetController cause).boot.bootStep = 3 ∧
      (s.resetController cause).images = s.images := by
  obtain ⟨step, modes, images⟩ := State.fuseLoad_good
    (s := (s.wiped cause).updEnclave fun e => { e with ctxKey := Config.entropy s.fresh % 2 ^ 256 }) legal sure
  exact ⟨congrArg (·.lastCause) modes, step, images⟩

theorem execFirmwareStartTimeout_resets {s : State} (step : s.boot.bootStep = 6) (mode : s.modes.mode = .m1)
    (legal : legalLifeCycle s.fuses.lifeCycle = true) (sure : s.fuses.marginal = false) :
    ∃ t, execFirmwareStartTimeout s = .next t ∧ t.modes.lastCause = 0x03 ∧ t.boot.bootStep = 3 ∧
      t.images = tmod {} (slotNum s.boot.slotB) (fun i => { i with startFails := min 2 (i.startFails + 1) }) s.images := by
  unfold execFirmwareStartTimeout
  rw [if_neg (by simp [step, mode])]
  exact ⟨_, rfl, State.resetController_good 0x03 legal sure⟩

/-! ### Import (R530) -/

/-- What IMPORT_START does once the Den records are raised: shelf key, configuration, pools, quorum blocks, pairing (R387, R530). -/
def State.importTail (found : List PoolImport) (conf : List ConfCopy) (quorum : List QuorumRead) (s : State) : State :=
  let v := match refPool found with
    | some p => s.importShelfKey p
    | none => s
  let w := (((v.importConf conf).importAll found).replayCheck).blocksRead quorum
  let x := w.when (decide (w.pairCfgPairEn = 1) && w.blocksOther) fun y => y.updPair fun p => { p with state := 5 }
  ((x.updBoot fun b => { b with bootStep := if b.storeTestDone then 11 else 10 }).startPairing).settle

/-- The Den records of the directories and the image store are not touched by the rest of an import. -/
theorem State.importTail_touch (found : List PoolImport) (conf : List ConfCopy) (quorum : List QuorumRead) (s : State) {m : Nat}
    (hm : Nat.land 100663267 m = 100663267) : Touch m s (s.importTail found conf quorum) := by
  unfold State.importTail
  dsimp only
  refine State.settle_touch (sub_trans (by decide) hm) (State.startPairing_touch (sub_trans (by decide) hm)
    (State.updBoot_touch (sub_trans (by decide) hm) (State.when_touch ?_ fun _ h => State.updPair_touch (sub_trans (by decide) hm) h)))
  refine State.blocksRead_touch (sub_trans (by decide) hm) (State.replayCheck_touch (sub_trans (by decide) hm)
    (State.importAll_touch (sub_trans (by decide) hm) (State.importConf_touch (sub_trans (by decide) hm) ?_)))
  split
  · exact State.importShelfKey_touch (sub_trans (by decide) hm) (.refl _ _)
  · exact .refl _ _

theorem execImportStart_eq {pools : List PoolImport} {conf : List ConfCopy} {quorum : List QuorumRead} {s : State}
    (mode : s.modes.mode = .m1) (step : s.boot.bootStep = 6) (normal : s.boot.recovery = false)
    (fresh : s.dirOlder (pools.filter fun p => decide (p.pool < 8)) = false) :
    execImportStart pools conf quorum s = .next (State.importTail (pools.filter fun p => decide (p.pool < 8)) conf quorum
      (((s.updImages fun m => tadj (slotNum s.boot.slotB) (fun i => { i with startFails := 0 }) m).updBoot fun b => { b with bootStep := 9 }).updKeep
        fun k => { k with dirSeq := (pools.filter fun p => decide (p.pool < 8)).foldl (fun m p =>
          tput m p.pool (max p.dirSeq (tget 0 m p.pool))) k.dirSeq })) := by
  have runs : ¬ (s.modes.mode ≠ .m1 ∨ s.boot.bootStep < 6 ∨ 8 < s.boot.bootStep ∨ s.boot.recovery = true) := by simp [mode, step, normal]
  unfold execImportStart
  exact congrArg _ <| (if_neg runs).trans <| if_neg (ne_true_of_eq_false fresh)

theorem execImportStart_imports {pools : List PoolImport} {conf : List ConfCopy} {quorum : List QuorumRead} {s : State}
    (mode : s.modes.mode = .m1) (step : s.boot.bootStep = 6) (normal : s.boot.recovery = false)
    (fresh : s.dirOlder (pools.filter fun p => decide (p.pool < 8)) = false) :
    ∃ t, execImportStart pools conf quorum s = .next t ∧
      t.keep.dirSeq = (pools.filter fun p => decide (p.pool < 8)).foldl (fun m p => tput m p.pool (max p.dirSeq (tget 0 m p.pool))) s.keep.dirSeq ∧
      t.images = tadj (slotNum s.boot.slotB) (fun i => { i with startFails := 0 }) s.images :=
  ⟨_, execImportStart_eq mode step normal fresh,
    congrArg (·.dirSeq) (same_of_touch (g := .keep) (State.importTail_touch _ conf quorum _ (by decide))),
    same_of_touch (g := .images) (State.importTail_touch _ conf quorum _ (by decide))⟩

/-! ### The wait for the partner, the configuration image (R387, R530) -/

theorem execPairWaitExpiry_blocked {quorum : List QuorumRead} {s : State} (mode : s.modes.mode = .m1) (pairs : s.pairCfgPairEn = 1)
    (step : s.boot.bootStep = 12) (normal : s.boot.recovery = false) (early : s.pair.pairStep < 2)
    (blocked : (s.blocksRead quorum).blocksPermit = false) (unforced : s.boot.overridden = false) :
    ∃ t, execPairWaitExpiry quorum s = .next t ∧ t.pair.state = 5 ∧ t.modes.mode = .m1 := by
  unfold execPairWaitExpiry State.waitEnded
  exact ⟨_, congrArg _ <| (if_pos ⟨mode, pairs, step, normal, early⟩).trans <| (if_neg (ne_true_of_eq_false blocked)).trans <|
    if_neg (ne_true_of_eq_false unforced), rfl, mode⟩

/-- The copies go out to the drives of each pool and leave the bring-up state as the new CONF_SEQ has made it. -/
theorem execConfigImageWrite_touch_due {s : State} (due : s.boot.confDue = true) : ∃ t, execConfigImageWrite s = .next t ∧
    Touch (allBut .boot) (s.updBoot fun b => { b with confSeq := s.boot.confSeq + 1, confDue := false }) t := by
  unfold execConfigImageWrite
  rw [if_neg (by simp [due])]
  exact ⟨_, rfl, foldl_touch (.refl _ _) fun _ _ h => foldl_touch (State.updPool_touch (by decide) h) fun _ _ h =>
    State.submitRun_touch (by decide) h⟩

theorem execConfigImageWrite_due {s : State} (due : s.boot.confDue = true) :
    ∃ t, execConfigImageWrite s = .next t ∧ t.boot.confSeq = s.boot.confSeq + 1 ∧ t.boot.confDue = false := by
  obtain ⟨t, runs, copies⟩ := execConfigImageWrite_touch_due due
  have boot : t.boot = _ := same_of_touch copies
  exact ⟨t, runs, congrArg (·.confSeq) boot, congrArg (·.confDue) boot⟩

/-! ### Islands (R29, R50) -/

theorem getLsbD_ofNat_two_pow_self {w i : Nat} (h : i < w) : (BitVec.ofNat w (2 ^ i)).getLsbD i = true := by
  rw [BitVec.getLsbD_ofNat, decide_eq_true h, Nat.testBit_two_pow_self, Bool.and_self]

theorem State.islandOpen_openIsland {island : Nat} (s : State) (h : island < 16) : (s.openIsland island).islandOpen island = true := by
  simp only [State.islandOpen, State.openIsland, State.updSpine_spine, BitVec.testBit_toNat, BitVec.getLsbD_or, getLsbD_ofNat_two_pow_self h,
    Bool.or_true]

theorem State.islandOpen_closeIsland {island : Nat} (s : State) (h : island < 16) : (s.closeIsland island).islandOpen island = false := by
  simp only [State.islandOpen, State.closeIsland, State.updSpine_spine, BitVec.testBit_toNat, BitVec.getLsbD_and, BitVec.getLsbD_not,
    getLsbD_ofNat_two_pow_self h, Bool.not_true, Bool.and_false]

theorem execFlitArrival_good {island : Nat} (flit : Nat) {s : State} (isIsland : island < 16) (awake : s.modes.mode ≠ .m0) :
    ∃ t, execFlitArrival island flit true s = .next t ∧ t.islandOpen island = true ∧ t.spine.resent = dropOne flit s.spine.resent := by
  unfold execFlitArrival
  refine ⟨_, (bounded_eq_next (decide_eq_true isIsland)).trans (congrArg _ ((if_neg awake).trans (if_pos rfl))), ?_, ?_⟩
  · exact State.islandOpen_openIsland _ isIsland
  · split <;> rfl

theorem execIslandIdleExpiry_closes {island : Nat} {s : State} (isIsland : island < 16) (awake : s.modes.mode ≠ .m0)
    (closable : s.islandPinned island = false) (noneHeld : thas s.spine.holdQueue island = false) :
    ∃ t, execIslandIdleExpiry island s = .next t ∧ t.islandOpen island = false := by
  refine ⟨s.closeIsland island, ?_, State.islandOpen_closeIsland s isIsland⟩
  unfold execIslandIdleExpiry
  rw [bounded_eq_next (decide_eq_true isIsland), if_neg (by simp [awake, closable, noneHeld])]

/-- Settles O24. The kept count of failed starts and the slot due after them are the model's own choice (log 77). -/
theorem completesBringupAndModesA : Obligations.CompletesBringupAndModesA :=
  ⟨fun _ step runs => ⟨_, execHbmTrainingComplete_good step runs, rfl, rfl⟩,
   fun _ => execResetWipeComplete_good,
   fun _ _ _ => execImageLoadComplete_good,
   fun _ step mode legal sure => execFirmwareStartTimeout_resets step mode legal sure,
   fun _ _ _ _ => execImportStart_imports,
   fun _ mode normal cold ready alone _ => execModeDecision_solo mode normal cold ready alone,
   fun _ _ => execPairWaitExpiry_blocked,
   fun _ => execConfigImageWrite_due,
   fun _ flit _ => execFlitArrival_good flit,
   fun _ _ => execIslandIdleExpiry_closes⟩

end Sys2Proof.Machine

namespace Sys2Proof.Machine

/-! ## CCP requests and sessions (O52) -/

/-! ### What the arrival of a request changes -/

/-- The arrival of a request touches the modes and the CCP state alone. -/
theorem State.arrived_touch (s : State) {m : Nat} (hm : Nat.land 2097280 m = 2097280) : Touch m s s.arrived :=
  State.cancelDen_touch (sub_trans (by decide) hm) (State.wakeIdle_touch (sub_trans (by decide) hm)
    (State.updCcp_touch (sub_trans (by decide) hm) (.refl _ _)))

/-- R65, R58: of the modes, a cancelled Den entry and the end of an idle descent leave the mode itself. -/
@[simp] theorem State.arrived_mode (s : State) : s.arrived.modes.mode = s.modes.mode := by
  unfold State.arrived State.cancelDen
  split <;> rfl

@[simp] theorem State.arrived_ccp (s : State) : s.arrived.ccp = { s.ccp with m0Packet := false } := by
  unfold State.arrived State.cancelDen
  split <;> rfl

@[simp] theorem State.arrived_den (s : State) : s.arrived.den = s.den := same_of_touch (g := .den) (s.arrived_touch (by decide))

@[simp] theorem State.arrived_fuses (s : State) : s.arrived.fuses = s.fuses := same_of_touch (g := .fuses) (s.arrived_touch (by decide))

@[simp] theorem State.arrived_boot (s : State) : s.arrived.boot = s.boot := same_of_touch (g := .boot) (s.arrived_touch (by decide))

@[simp] theorem State.bump_ccp (c : Nat × Nat) (i : Nat) (s : State) : (s.bump c i).ccp = s.ccp :=
  same_of_touch (g := .ccp) (State.bump_touch (by decide) (.refl _ _))

/-- R483: up to its own effect a request of session 0 touches the modes, the CCP state and the counters. -/
theorem State.enteredOpen_touch (s : State) (h : CcpHdr) (op : Nat) {m : Nat} (hm : Nat.land 6291584 m = 6291584) :
    Touch m s (s.enteredOpen h op) :=
  have arrived := s.arrived_touch (sub_trans (by decide) hm)
  State.bump_touch (sub_trans (by decide) hm) (ite_touch arrived (State.updCcp_touch (sub_trans (by decide) hm) arrived))

theorem State.enteredOpen_mode (s : State) (h : CcpHdr) (op : Nat) : (s.enteredOpen h op).modes.mode = s.modes.mode := by
  have modes : (s.enteredOpen h op).modes = s.arrived.modes :=
    same_of_touch (g := .modes) (State.bump_touch (by decide) (ite_touch (.refl _ _) (State.updCcp_touch (by decide) (.refl _ _))))
  rw [modes, State.arrived_mode]

theorem State.enteredOpen_ccp (s : State) (h : CcpHdr) (op : Nat) :
    ∃ long, (s.enteredOpen h op).ccp = { s.ccp with m0Packet := false, zeroLong := long } := by
  unfold State.enteredOpen
  rw [State.bump_ccp]
  split
  · exact ⟨_, s.arrived_ccp⟩
  · exact ⟨_, by rw [State.updCcp_ccp, State.arrived_ccp]⟩

/-! ### A request that passes its checks -/

/-- R490: an ALIVE value that is taken changes of the session the highest value and the map alone. -/
theorem Session.aliveTake_eq {e x : Session} {a : Nat} (taken : e.aliveTake a = some x) : ∃ high map, x = { e with high := high, map := map } := by
  unfold Session.aliveTake at taken
  split at taken
  · exact ⟨_, _, (Option.some.inj taken).symm⟩
  · split at taken
    · exact ⟨_, _, (Option.some.inj taken).symm⟩
    · cases taken

theorem Session.taking_eq {e x : Session} {h : CcpHdr} (taken : e.aliveTake h.alive = some x) (op now : Nat) : e.taking h op now =
    { x with lastNs := now, running := (h.alive, h.tag, h.crc) :: x.running, longReply := if op = 0x0A then x.longReply else [] } := by
  obtain ⟨high, map, rfl⟩ := Session.aliveTake_eq taken
  simp only [Session.taking, taken, Option.getD_some]

theorem State.groupStatus_congr {s t : State} {e x : Session} (fuses : t.fuses = s.fuses) (role : x.role = e.role) (group : Option Nat) :
    t.groupStatus group (some x) = s.groupStatus group (some e) := by
  cases group with
  | none => rfl
  | some g =>
    have grants : t.grants x g = s.grants e g := by
      unfold State.grants State.roleMask
      rw [fuses, role]
    simp only [State.groupStatus, grants]

/-- Checks 8 and 9 of R483: a request that its group, the mode and recovery allow runs, and is counted. -/
theorem State.ccpRun_eq {h : CcpHdr} {op : Nat} {group : Option Nat} {e : Option Session} {run : State → State} {s : State}
    (granted : s.groupStatus group e = 0 ∨ e = none ∧ op = 0x33) (served : s.modes.mode ≠ .m5 ∨ lockdownGroup group = true)
    (offered : s.boot.recovery = false ∨ recoveryOpcode op = true) : s.ccpRun h op group e 0 run = run (s.bump cCcpAccepted 0) := by
  unfold State.ccpRun
  rw [if_neg (by rcases granted with zero | ⟨rfl, rfl⟩ <;> simp [*]), if_neg (by simp), if_neg (by rcases served with h | h <;> simp [h]),
    if_neg (by rcases offered with h | h <;> simp [h])]

theorem State.comesIn_iff {s : State} {h : CcpHdr} {op : Nat} {group : Option Nat} : s.comesIn h op group = true ↔
    h.applied = false ∧ (h.relay = false ∨ h.viaSett = true) ∧ h.versionGood = true ∧ s.modes.mode ≠ .m0 ∧
      (s.modes.mode ≠ .m5 ∨ lockdownGroup group = true) ∧ (s.boot.recovery = false ∨ recoveryOpcode op = true) ∧ s.ccpArrives h = true := by
  simp [State.comesIn, and_assoc]

theorem State.accepts_iff {s : State} {h : CcpHdr} {op : Nat} {group : Option Nat} {e : Session} : s.accepts h op group e = true ↔
    s.comesIn h op group = true ∧ h.session ≠ 0 ∧ tfind s.ccp.sessions h.session = some e ∧ e.bound h = true ∧
      e.sState = (if op = 3 then 1 else 2) ∧ h.macPresent = true ∧ h.macGood = true ∧ (e.aliveTake h.alive).isSome = true ∧
      h.alive ≠ 0xFFFFFFFF ∧ s.groupStatus group (some e) = 0 := by
  simp [State.accepts, and_assoc]

theorem State.acceptsOpen_iff {s : State} {h : CcpHdr} {op : Nat} {group : Option Nat} : s.acceptsOpen h op group = true ↔
    s.comesIn h op group = true ∧ h.session = 0 ∧ zeroOpcode op = true ∧ h.macPresent = false ∧ (group = none ∨ op = 0x33) := by
  simp [State.acceptsOpen, and_assoc]

/-- R483: a request that comes in reaches its session checks in the state of its arrival. -/
theorem State.ccpTake_of_comesIn {h : CcpHdr} {op : Nat} {group : Option Nat} (perm : Session → Nat) (run : State → State) {s : State}
    (comes : s.comesIn h op group = true) : s.ccpTake h op group perm run =
      if h.session = 0 then
        if zeroOpcode op = false then s.arrived.ccpRefuse h op ccNoSession
        else if h.macPresent then s.arrived.ccpRefuse h op ccBadMac
        else (if op = 0x0A then s.arrived else s.arrived.updCcp fun c => { c with zeroLong := tdel c.zeroLong h.transport }).ccpRun h op group none 0 run
      else s.arrived.ccpInSession h op group perm run := by
  obtain ⟨own, relay, version, awake, -, -, arrives⟩ := State.comesIn_iff.mp comes
  unfold State.ccpTake
  rw [if_neg (by simp [own]), if_neg awake, if_neg (by simp [arrives])]
  exact (if_neg (by rcases relay with h | h <;> simp [h])).trans (if_neg (by simp [version]))

/-- R483, R486: a request of session 0 that passes its checks runs. -/
theorem State.ccpTake_of_acceptsOpen {h : CcpHdr} {op : Nat} {group : Option Nat} (perm : Session → Nat) (run : State → State) {s : State}
    (acc : s.acceptsOpen h op group = true) : s.ccpTake h op group perm run = run (s.enteredOpen h op) := by
  obtain ⟨comes, zero, offersZero, noMac, free⟩ := State.acceptsOpen_iff.mp acc
  obtain ⟨-, -, -, -, served, offered, -⟩ := State.comesIn_iff.mp comes
  rw [State.ccpTake_of_comesIn perm run comes, if_pos zero, if_neg (by simp [offersZero]), if_neg (by simp [noMac]), State.ccpRun_eq]
  · rfl
  · rcases free with rfl | rfl
    · exact .inl rfl
    · exact .inr ⟨rfl, rfl⟩
  · split <;> simpa using served
  · split <;> simpa using offered

/-- R483 to R490: a request of a session that passes its checks runs, where its further check of the session lets it. -/
theorem State.ccpTake_of_accepts {h : CcpHdr} {op : Nat} {group : Option Nat} {e : Session} {perm : Session → Nat} (run : State → State) {s : State}
    (acc : s.accepts h op group e = true) (permitted : perm (e.taking h op s.now) = 0) :
    s.ccpTake h op group perm run = run (s.entered h op e) := by
  obtain ⟨comes, session, listed, bound, opened, mac, macGood, alive, last, granted⟩ := State.accepts_iff.mp acc
  obtain ⟨-, -, -, -, served, offered, -⟩ := State.comesIn_iff.mp comes
  obtain ⟨e1, taken⟩ := Option.isSome_iff_exists.mp alive
  have taking := Session.taking_eq taken op s.arrived.now
  have now : s.arrived.now = s.now := congrArg (·.timeNs) s.arrived_den
  obtain ⟨high, map, rfl⟩ := Session.aliveTake_eq taken
  have here : ¬ (e.bound h = false ∨ e.sState ≠ 2 ∧ op ≠ 0x03 ∨ e.sState ≠ 1 ∧ op = 0x03) := by
    by_cases auth : op = 3 <;> simp [auth] at opened <;> simp [bound, opened, auth]
  rw [State.ccpTake_of_comesIn perm run comes, if_neg session]
  unfold State.ccpInSession
  simp only [State.arrived_ccp, listed, taken]
  rw [if_neg here, if_neg (by simp [mac, macGood])]
  unfold State.ccpAccepted
  rw [← taking, now]
  dsimp only
  rw [permitted, if_neg last]
  refine State.ccpRun_eq (.inl ?_) ?_ ?_
  · rw [← granted]
    exact State.groupStatus_congr (by simp [State.updSession]) (by rw [← now, taking]) group
  · simpa [State.updSession] using served
  · simpa [State.updSession] using offered

/-! ### Replies -/

@[simp] theorem State.ccpCarry_ccp (h : CcpHdr) (op status : Nat) (packet : Bytes) (s : State) : (s.ccpCarry h op status packet).ccp = s.ccp :=
  same_of_touch (g := .ccp) (State.ccpCarry_touch (by decide) (.refl _ _))

/-- R492: a reply in session 0 changes of the CCP state at most the long reply held for its carrier. -/
theorem State.ccpReply_zero_ccp {h : CcpHdr} (zero : h.session = 0) (op status : Nat) (data : Bytes) (s : State) :
    ∃ long, (s.ccpReply h op status data).ccp = { s.ccp with zeroLong := long } := by
  unfold State.ccpReply
  by_cases own : h.applied = true
  · rw [if_pos own]
    exact ⟨_, rfl⟩
  · rw [if_neg own, if_pos zero, State.ccpCarry_ccp]
    split
    · exact ⟨_, rfl⟩
    · exact ⟨_, rfl⟩

/-- R482, R491: a reply changes of the CCP state at most the sessions and the long replies of session 0. -/
theorem State.ccpReply_ccp (h : CcpHdr) (op status : Nat) (data : Bytes) (s : State) :
    ∃ sessions long, (s.ccpReply h op status data).ccp = { s.ccp with sessions := sessions, zeroLong := long } := by
  by_cases zero : h.session = 0
  · obtain ⟨long, ccp⟩ := s.ccpReply_zero_ccp zero op status data
    exact ⟨_, long, ccp⟩
  · unfold State.ccpReply
    by_cases own : h.applied = true
    · rw [if_pos own]
      exact ⟨_, _, rfl⟩
    · rw [if_neg own, if_neg zero]
      split
      · exact ⟨_, _, rfl⟩
      · exact ⟨_, _, State.ccpCarry_ccp _ _ _ _ _⟩

/-- A session as it stands after a reply: the reply heads its cache, and the request runs no longer (R491, R492). -/
def Session.replied (e : Session) (h : CcpHdr) (status : Nat) (data : Bytes) : Session :=
  { e with
    cache := ({ alive := h.alive, tag := h.tag, crc := h.crc, status := status, data := firstSlice 4056 data } :: e.cache).take 16
    running := e.running.filter fun r => r ≠ (h.alive, h.tag, h.crc)
    longReply := if 4056 < data.length then data else e.longReply }

theorem tfind_tadj_same {α : Type} {t : Tbl α} {k : Nat} {v : α} (f : α → α) (h : tfind t k = some v) : tfind (tadj k f t) k = some (f v) := by
  unfold tadj
  rw [h]
  exact tfind_tput_same t k (f v)

theorem State.ccpReply_session {h : CcpHdr} {s : State} {e : Session} (own : h.applied = false) (session : h.session ≠ 0)
    (listed : tfind s.ccp.sessions h.session = some e) (op status : Nat) (data : Bytes) :
    tfind (s.ccpReply h op status data).ccp.sessions h.session = some (e.replied h status data) := by
  unfold State.ccpReply
  rw [if_neg (by simp [own]), if_neg session]
  simp only [listed, State.ccpCarry_ccp, State.updSession, State.updCcp_ccp]
  exact tfind_tadj_same _ listed

/-- The request's session as `State.entered` has it. -/
theorem State.entered_session {s : State} {h : CcpHdr} {op : Nat} {e : Session} (listed : tfind s.ccp.sessions h.session = some e) :
    tfind (s.entered h op e).ccp.sessions h.session = some (e.taking h op s.now) := by
  simp only [State.entered, State.admitted, State.bump_ccp, State.updSession, State.updCcp_ccp, State.arrived_ccp]
  exact tfind_tadj_same _ listed

/-! ### The commands of sessions -/

/-- R511: counting raises a counter by what is counted, up to its maximum. -/
theorem State.counter_bumpN_same (c : Nat × Nat) (i n : Nat) (s : State) :
    (s.bumpN c i n).counter c i = sat (2 ^ 64 - 1) (s.counter c i + n) := by
  unfold State.bumpN State.counter
  cases den : denGroup c.1 <;> simp [tget_tmod_same]

theorem State.counter_bump_same (c : Nat × Nat) (i : Nat) (s : State) : (s.bump c i).counter c i = sat (2 ^ 64 - 1) (s.counter c i + 1) :=
  State.counter_bumpN_same c i 1 s

theorem execCcpPacketDiscard_counts {transport : Nat} {s : State} (carrier : transport < 5) (awake : s.modes.mode ≠ .m0)
    (arrives : s.ccpArrives { transport := transport % 4, viaSett := decide (transport = 4) } = true) :
    ∃ t, execCcpPacketDiscard transport s = .next t ∧ t.counter cCcpDiscard 0 = sat (2 ^ 64 - 1) (s.counter cCcpDiscard 0 + 1) := by
  have taken : ¬ (s.modes.mode = .m0 ∨ s.ccpArrives { transport := transport % 4, viaSett := decide (transport = 4) } = false) := by
    simp [awake, arrives]
  refine ⟨_, (bounded_eq_next (decide_eq_true carrier)).trans (congrArg _ (if_neg taken)), ?_⟩
  rw [← State.counter_bump_same]
  unfold State.counter
  rw [show (State.mboxSilent _ _).telem = _ from same_of_touch (g := .telem) (State.mboxSilent_touch (by decide) (.refl _ _))]

/-- R499: what GET_INFO reports is as it was before the request. -/
theorem execGetInfo_replies {h : CcpHdr} {s : State} (acc : s.acceptsOpen h 0x01 none = true) :
    execGetInfo h s = .next ((s.enteredOpen h 0x01).ccpReply h 0x01 0 (leBytes 8 s.fuses.deviceId ++ leBytes 1 s.fuses.lifeCycle ++
      leBytes 1 s.modes.mode.num ++ leBytes 1 s.self ++ leBytes 1 s.boot.svn ++ leBytes 1 1)) := by
  have fuses : (s.enteredOpen h 0x01).fuses = s.fuses := same_of_touch (g := .fuses) (s.enteredOpen_touch h 0x01 (by decide))
  have den : (s.enteredOpen h 0x01).den = s.den := same_of_touch (g := .den) (s.enteredOpen_touch h 0x01 (by decide))
  have boot : (s.enteredOpen h 0x01).boot = s.boot := same_of_touch (g := .boot) (s.enteredOpen_touch h 0x01 (by decide))
  unfold execGetInfo State.ccpSimple
  rw [State.ccpTake_of_acceptsOpen _ _ acc]
  simp only [State.self, fuses, den, boot, State.enteredOpen_mode]

/-- R487: the pending session that SESSION_OPEN lists, its nonce and keys drawn, is the one it answers for. -/
theorem execSessionOpen_opens {h : CcpHdr} {role tenant nonce pubKey id : Nat} {chainGood : Bool} {s : State}
    (acc : s.acceptsOpen h 0x02 none = true) (free : s.ccp.holdOff.contains (carrierOf h) = false) (lo : 1 ≤ role) (hi : role ≤ 4)
    (accepted : roleAccepted s.fuses.lifeCycle role = true)
    (tenantGood : role = 2 → tenant ≤ 4095 ∧ (tget {} s.enclave.tenants tenant).enrolled = true) (chain : role ≠ 2 → chainGood = true)
    (room : tfreeFrom s.ccp.sessions 1 64 = some id) :
    ∃ t, execSessionOpen h role tenant nonce pubKey chainGood s = .next t ∧ (t.session id).sState = 1 ∧ (t.session id).role = role ∧
      (t.session id).tenant = tenant ∧ (t.session id).transport = h.transport ∧ (t.session id).viaSett = h.viaSett := by
  have fuses : (s.enteredOpen h 0x02).fuses = s.fuses := same_of_touch (g := .fuses) (s.enteredOpen_touch h 0x02 (by decide))
  have enclave : (s.enteredOpen h 0x02).enclave = s.enclave := same_of_touch (g := .enclave) (s.enteredOpen_touch h 0x02 (by decide))
  have holdOff : (s.enteredOpen h 0x02).ccp.holdOff = s.ccp.holdOff := by rw [(s.enteredOpen_ccp h 0x02).choose_spec]
  have sessions : (s.enteredOpen h 0x02).ccp.sessions = s.ccp.sessions := by rw [(s.enteredOpen_ccp h 0x02).choose_spec]
  obtain ⟨-, zero, -⟩ := State.acceptsOpen_iff.mp acc
  have inRange : ¬ (role = 0 ∨ 4 < role ∨ role = 2 ∧ 4095 < tenant) := by
    rintro (h | h | ⟨isTenant, h⟩)
    · omega
    · omega
    · exact Nat.not_lt.mpr (tenantGood isTenant).1 h
  have credential : ¬ (role = 2 ∧ (tget {} s.enclave.tenants tenant).enrolled = false ∨ role ≠ 2 ∧ chainGood = false) := by
    rintro (⟨isTenant, h⟩ | ⟨other, h⟩)
    · exact ne_true_of_eq_false h (tenantGood isTenant).2
    · exact ne_true_of_eq_false h (chain other)
  unfold execSessionOpen State.ccpSimple
  rw [State.ccpTake_of_acceptsOpen _ _ acc, holdOff, if_neg (ne_true_of_eq_false free), if_neg inRange, fuses, if_neg (by simp [accepted]), enclave,
    if_neg credential, sessions, room]
  refine ⟨_, rfl, ?_⟩
  unfold State.session
  rw [(State.ccpReply_zero_ccp zero _ _ _ _).choose_spec]
  simp [tget]

/-- R487: a good credential opens the pending session. -/
theorem execSessionAuth_opens {h : CcpHdr} {e : Session} {s : State} (acc : s.accepts h 0x03 none e = true) :
    ∃ t, execSessionAuth h true s = .next t ∧ (t.session h.session).sState = 2 ∧ t.answered h 0 := by
  obtain ⟨comes, session, listed, -⟩ := State.accepts_iff.mp acc
  obtain ⟨own, -⟩ := State.comesIn_iff.mp comes
  unfold execSessionAuth State.ccpSimple
  rw [State.ccpTake_of_accepts _ acc rfl, if_neg session, if_pos rfl]
  have opened := State.ccpReply_session (s := ((s.entered h 0x03 e).updSession h.session fun e => { e with sState := 2 }).updCcp fun c =>
    { c with credFails := tdel c.credFails (carrierOf h) }) own session (tfind_tadj_same _ (State.entered_session listed)) 0x03 0 []
  refine ⟨_, rfl, ?_⟩
  simp [State.answered, State.session, tget, opened, Session.replied]

theorem State.dropSession_sessions (id : Nat) (s : State) : thas (s.dropSession id).ccp.sessions id = false := by
  simp [State.dropSession, thas]

theorem execSessionClose_ends {h : CcpHdr} {e : Session} {s : State} (acc : s.accepts h 0x04 none e = true) :
    ∃ t, execSessionClose h s = .next t ∧ thas t.ccp.sessions h.session = false := by
  unfold execSessionClose State.ccpSimple
  rw [State.ccpTake_of_accepts _ acc rfl]
  exact ⟨_, rfl, State.dropSession_sessions _ _⟩

theorem execSessionAuthTimeout_ends {session : Nat} {s : State} (id : session < 65) (pending : (s.session session).sState = 1) :
    ∃ t, execSessionAuthTimeout session s = .next t ∧ thas t.ccp.sessions session = false :=
  ⟨_, (bounded_eq_next (decide_eq_true id)).trans (congrArg _ (if_pos pending)), State.dropSession_sessions _ _⟩

theorem execSessionIdleExpiry_ends {session : Nat} {s : State} (id : session < 65) (opened : (s.session session).sState = 2) :
    ∃ t, execSessionIdleExpiry session s = .next t ∧ thas t.ccp.sessions session = false :=
  ⟨_, (bounded_eq_next (decide_eq_true id)).trans (congrArg _ (if_pos opened)), State.dropSession_sessions _ _⟩

/-! ### Check-value units and the relay -/

/-- R42, R510: the oldest claim takes the lowest free unit, and the claims behind it wait on. -/
theorem execArbiterGrant_cvu {n : Nat} {w : Owed} {ws : List Owed} {s : State} (claims : s.ccp.cvuWaiting = w :: ws)
    (free : tfreeFrom s.ccp.cvus 4 4 = some n) :
    ∃ t, execArbiterGrant 18 s = .next t ∧ t.ccp.cvuWaiting = ws ∧ (t.cvu n).holder = 2 ∧ (t.cvu n).session = w.h.session := by
  have granted : s.grantNext 18 = (s.updCcp fun c => { c with cvuWaiting := ws }).cvuGrant w n := by
    simp only [State.grantNext, claims, free]
  have counted (c : Bool) (f : Spine → Spine) (t : State) : (t.when c fun u => u.updSpine f).ccp = t.ccp := by cases c <;> rfl
  unfold execArbiterGrant
  refine ⟨_, bounded_eq_next (by decide), ?_⟩
  dsimp only
  unfold State.cvu
  rw [counted, granted]
  unfold State.cvuGrant
  obtain ⟨sessions, long, ccp⟩ := State.ccpReply_ccp w.h 0x18 0 (leBytes 1 n) ((s.updCcp fun c => { c with cvuWaiting := ws }).updCcp fun c => { c with
    cvus := tput c.cvus n { holder := 2, alg := leNat w.data, session := w.h.session, bytes := 0, running := cvuInitial (leNat w.data) } })
  rw [ccp]
  simp [tget]

@[simp] theorem State.settGot_ccp (kind : Nat) (s : State) : (s.settGot kind).ccp = s.ccp :=
  same_of_touch (g := .ccp) (State.settGot_touch (by decide) (.refl _ _))

/-- R481: the reply to the one request that was relayed goes back to its requester. -/
theorem execCcpRelay_answers {packet : Relay} {w : Owed} {s : State} (up : s.settUp = true) (reply : packet.isReply = true)
    (relayed : s.ccp.relayed = [w]) (opcode : w.opcode = packet.opcode) (transport : w.h.transport = packet.h.transport)
    (tag : w.h.tag = packet.h.tag) (alive : w.h.alive = packet.h.alive) : ∃ t, execCcpRelay packet s = .next t ∧
      ∃ u : State, t = u.ccpCarry w.h packet.opcode packet.status packet.packet ∧ u.ccp.relayed = [] := by
  unfold execCcpRelay State.settIn
  rw [if_pos up]
  dsimp only
  rw [if_pos reply, State.settGot_ccp, relayed]
  simp only [List.find?_cons, opcode, transport, tag, alive, decide_true, Bool.and_self]
  exact ⟨_, rfl, _, rfl, by simp [relayed, dropOne]⟩

/-- Settles O52. The relay as a carrier of its own is the model's own choice (log 41). -/
theorem completesSessionsA : Obligations.CompletesSessionsA :=
  ⟨fun _ _ _ _ _ resource claims free => resource ▸ execArbiterGrant_cvu claims free,
   fun _ _ _ => execCcpRelay_answers,
   fun _ _ => execCcpPacketDiscard_counts,
   fun _ _ acc => ⟨_, execGetInfo_replies acc, rfl⟩,
   fun _ _ _ _ _ _ _ _ => execSessionOpen_opens,
   fun _ _ _ => execSessionAuth_opens,
   fun _ _ => execSessionAuthTimeout_ends,
   fun _ _ carrier => ⟨_, bounded_eq_next (decide_eq_true carrier), rfl⟩,
   fun _ _ _ => execSessionClose_ends,
   fun _ _ => execSessionIdleExpiry_ends⟩

end Sys2Proof.Machine

namespace Sys2Proof.Machine

/-! ## Admin commands (O27) -/

/-! ### Tables -/

theorem tfind_tadj_other {α : Type} (t : Tbl α) {k j : Nat} (f : α → α) (h : j ≠ k) : tfind (tadj k f t) j = tfind t j := by
  unfold tadj
  split
  · exact tfind_tput_other t _ h
  · rfl

/-- A change of entries that keeps what is looked at keeps it of every entry. -/
theorem tfind_tadj_keeps {α β : Type} {view : α → β} {f : α → α} (keeps : ∀ v, view (f v) = view v) (t : Tbl α) (k j : Nat) :
    (tfind (tadj k f t) j).map view = (tfind t j).map view := by
  by_cases same : j = k
  · subst same
    cases listed : tfind t j with
    | none => simp [tadj, listed]
    | some v => simp [tfind_tadj_same f listed, keeps]
  · rw [tfind_tadj_other t f same]

theorem tget_eq_of_tfind_map {α β : Type} {view : α → β} {t u : Tbl α} {k : Nat} (d : α) (h : (tfind u k).map view = (tfind t k).map view) :
    view (tget d u k) = view (tget d t k) := by
  unfold tget
  cases hu : tfind u k <;> cases ht : tfind t k <;> simp_all

/-! ### Fabric controllers -/

@[simp] theorem State.settIfPaired_cmds (kind : Nat) (args : List Nat) (data : Bytes) (s : State) : (s.settIfPaired kind args data).cmds = s.cmds :=
  same_of_touch (g := .cmds) (State.settIfPaired_touch (by decide) (.refl _ _))

@[simp] theorem State.settIfPaired_xport (kind : Nat) (args : List Nat) (data : Bytes) (s : State) : (s.settIfPaired kind args data).xport = s.xport :=
  same_of_touch (g := .xport) (State.settIfPaired_touch (by decide) (.refl _ _))

@[simp] theorem State.shadowFab_cmds (q : AdminCmd) (s : State) : (s.shadowFab q).cmds = s.cmds :=
  same_of_touch (g := .cmds) (State.shadowFab_touch (by decide) (.refl _ _))

@[simp] theorem State.shadowFab_xport (q : AdminCmd) (s : State) : (s.shadowFab q).xport = s.xport :=
  same_of_touch (g := .xport) (State.shadowFab_touch (by decide) (.refl _ _))

@[simp] theorem State.respond_cmds (i slot : Nat) (o : Out) (s : State) : (s.respond i slot o).cmds = s.cmds :=
  same_of_touch (g := .cmds) (State.respond_touch (by decide) (.refl _ _))

@[simp] theorem State.bump_cmds (c : Nat × Nat) (i : Nat) (s : State) : (s.bump c i).cmds = s.cmds :=
  same_of_touch (g := .cmds) (State.bump_touch (by decide) (.refl _ _))

theorem State.fab_congr {s t : State} (cmds : t.cmds = s.cmds) (c : Nat) : t.fab c = s.fab c := by
  unfold State.fab
  rw [cmds]

theorem State.ctx_congr {s t : State} (xport : t.xport = s.xport) (i : Nat) : t.ctx i = s.ctx i := by
  unfold State.ctx
  rw [xport]

/-- A fabric controller that is live is listed, so a change reaches it. -/
theorem State.fab_updFab {s : State} {c : Nat} (live : (s.fab c).live = true) (f : FabCtrl → FabCtrl) : (s.updFab c f).fab c = f (s.fab c) := by
  unfold State.fab at live
  unfold State.fab State.updFab
  cases listed : tfind s.cmds.fab c with
  | none => simp [tget, listed] at live
  | some x => simp [tget, listed, tfind_tadj_same f listed]

theorem State.fab_updFab_keeps {β : Type} {view : FabCtrl → β} {f : FabCtrl → FabCtrl} (keeps : ∀ x, view (f x) = view x) (s : State) (c j : Nat) :
    view ((s.updFab c f).fab j) = view (s.fab j) :=
  tget_eq_of_tfind_map ({} : FabCtrl) (tfind_tadj_keeps keeps s.cmds.fab c j)

/-! ### A command that is taken in -/

/-- An admin command as it runs: the keep-alive timer has restarted, and its queue has taken it (R146, R149). -/
def State.adminTaken (q : AdminCmd) (s : State) : State := (s.katoRestart q.cntlid).adminTake q

/-- The intake of an admin command touches the command layer, the local port and the counters alone. -/
theorem State.adminTaken_touch (q : AdminCmd) (s : State) {m : Nat} (hm : Nat.land 5244928 m = 5244928) : Touch m s (s.adminTaken q) :=
  State.adminTake_touch (sub_trans (by decide) hm) (State.katoRestart_touch (sub_trans (by decide) hm) (.refl _ _))

@[simp] theorem State.adminTaken_xport (q : AdminCmd) (s : State) : (s.adminTaken q).xport = s.xport :=
  same_of_touch (g := .xport) (s.adminTaken_touch q (by decide))

theorem State.takesAdmin_iff {s : State} {q : AdminCmd} (fabric : q.cntlid ≠ 0) : s.takesAdmin q = true ↔
    s.adminOk q = true ∧ s.adminHeld q = false ∧ s.adminRecord q.ctx 0 q.cid q.pos = none := by
  simp [State.takesAdmin, fabric, Option.isNone_iff_eq_none]

/-- R146: the queue of an admin command over the fabric is that of a live controller. -/
theorem State.live_of_takesAdmin {s : State} {q : AdminCmd} (takes : s.takesAdmin q = true) (fabric : q.cntlid ≠ 0) :
    (s.fab q.cntlid).live = true := by
  obtain ⟨ok, -⟩ := (State.takesAdmin_iff fabric).mp takes
  unfold State.adminOk at ok
  rw [if_neg fabric] at ok
  simp only [Bool.and_eq_true] at ok
  exact ok.1.1.2

/-- R146, R164: a command that is no second delivery of its capsule runs. -/
theorem State.adminRun_of_takesAdmin {q : AdminCmd} (f : State → State) {s : State} (takes : s.takesAdmin q = true) (fabric : q.cntlid ≠ 0) :
    s.adminRun q f = f (s.adminTaken q) := by
  obtain ⟨ok, held, record⟩ := (State.takesAdmin_iff fabric).mp takes
  have live := State.live_of_takesAdmin takes fabric
  have held' : (s.katoRestart q.cntlid).adminHeld q = false := by
    rw [← held]
    unfold State.adminHeld State.katoRestart
    rw [State.fab_updFab live]
  have record' : (s.katoRestart q.cntlid).adminRecord q.ctx 0 q.cid q.pos = none := record
  unfold State.adminRun
  rw [if_pos ok]
  dsimp only
  rw [if_neg fabric, if_neg (ne_true_of_eq_false held'), record']
  rfl

/-- R146, R149: the entry of a fabric controller whose admin queue has taken a command. -/
theorem State.adminTaken_fab {s : State} {q : AdminCmd} (live : (s.fab q.cntlid).live = true) (fabric : q.cntlid ≠ 0) :
    (s.adminTaken q).fab q.cntlid = { s.fab q.cntlid with
      katoNs := s.now, held := (s.fab q.cntlid).held ++ [q]
      queues := tadj 0 (fun x => (x.1, x.2.1, (x.2.2 + 1) % max 1 x.2.1)) (s.fab q.cntlid).queues } := by
  have restarted : ((s.katoRestart q.cntlid).bump cCmdRx ((s.katoRestart q.cntlid).adminTenant q.cntlid)).fab q.cntlid =
      { s.fab q.cntlid with katoNs := s.now } :=
    (State.fab_congr (State.bump_cmds _ _ _) _).trans (State.fab_updFab live _)
  unfold State.adminTaken State.adminTake
  rw [if_neg fabric, State.fab_updFab (by rw [restarted]; exact live), restarted]

theorem State.adminTaken_live {s : State} {q : AdminCmd} (live : (s.fab q.cntlid).live = true) (fabric : q.cntlid ≠ 0) :
    ((s.adminTaken q).fab q.cntlid).live = true := by
  rw [State.adminTaken_fab live fabric]
  exact live

/-! ### Completion -/

/-- R165: the replay record of a completion touches no fabric controller and no slot. -/
theorem State.putReplay_cmds (r : Replay) (s : State) :
    ∃ replays next, (s.putReplay r).cmds = { s.cmds with replays := replays, nextReplay := next } := by
  unfold State.putReplay
  split
  · exact ⟨_, _, rfl⟩
  · split
    · exact ⟨_, _, rfl⟩
    · exact ⟨_, _, State.bump_cmds _ _ _⟩

theorem State.adminReplay_cmds (ctx qid cid pos crc status dw0 : Nat) (s : State) :
    ∃ replays next, (s.adminReplay ctx qid cid pos crc status dw0).cmds = { s.cmds with replays := replays, nextReplay := next } := by
  unfold State.adminReplay
  rw [State.settIfPaired_cmds]
  exact State.putReplay_cmds _ s

theorem State.adminReplay_fab (ctx qid cid pos crc status dw0 : Nat) (s : State) (c : Nat) :
    (s.adminReplay ctx qid cid pos crc status dw0).fab c = s.fab c := by
  obtain ⟨replays, next, cmds⟩ := s.adminReplay_cmds ctx qid cid pos crc status dw0
  unfold State.fab
  rw [cmds]

@[simp] theorem State.lpPost_cmds (qid cid status dw0 : Nat) (s : State) : (s.lpPost qid cid status dw0).cmds = s.cmds :=
  same_of_touch (g := .cmds) (State.lpPost_touch (by decide) (.refl _ _))

/-- R149, R165: of the command layer, the completion of an admin command changes the fabric controllers and the replay records alone. -/
theorem State.adminDone_cmds (q : AdminCmd) (status dw0 : Nat) (s : State) :
    ∃ fab replays next, (s.adminDone q status dw0).cmds = { s.cmds with fab := fab, replays := replays, nextReplay := next } := by
  unfold State.adminDone
  dsimp only
  split
  · exact ⟨_, _, _, by rw [State.lpPost_cmds, State.bump_cmds]⟩
  · obtain ⟨replays, next, cmds⟩ := State.adminReplay_cmds _ _ _ _ _ _ _ _
    rw [cmds, State.respond_cmds]
    exact ⟨_, _, _, by rw [State.updFab, State.updCmds_cmds, State.bump_cmds]⟩

/-- R149: of the fabric controllers, a completion changes the commands held alone. -/
theorem State.adminDone_fab_keeps {β : Type} {view : FabCtrl → β} (keeps : ∀ x held, view { x with held := held } = view x)
    (q : AdminCmd) (status dw0 : Nat) (s : State) (c : Nat) : view ((s.adminDone q status dw0).fab c) = view (s.fab c) := by
  have counted (t : Nat) := State.fab_congr (State.bump_cmds cCmdDone t s) c
  unfold State.adminDone
  dsimp only
  split
  · rw [State.fab_congr (State.lpPost_cmds _ _ _ _ _), counted]
  · rw [State.adminReplay_fab, State.fab_congr (State.respond_cmds _ _ _ _), State.fab_updFab_keeps fun _ => keeps _ _, counted]

/-! ### The commands -/

theorem execSetFeaturesWriteAtomicity_done {q : AdminCmd} (value : Nat) {s : State} (takes : s.takesAdmin q = true) (fabric : q.cntlid ≠ 0) :
    execSetFeaturesWriteAtomicity q value false s = .next (((s.adminTaken q).shadowFab q).adminDone q stOk 0) :=
  congrArg _ (State.adminRun_of_takesAdmin _ takes fabric)

theorem execSetFeaturesAsyncEventCfg_done {q : AdminCmd} {value : Nat} {s : State} (takes : s.takesAdmin q = true) (fabric : q.cntlid ≠ 0) :
    ∃ t, execSetFeaturesAsyncEventCfg q value false s = .next t ∧ ∃ u : State, t = u.adminDone q stOk 0 ∧
      (u.fab q.cntlid).aerMask = value / 256 % 2 * 256 := by
  have live := State.adminTaken_live (State.live_of_takesAdmin takes fabric) fabric
  refine ⟨_, congrArg Host.Outcome.next (State.adminRun_of_takesAdmin _ takes fabric), _, rfl, ?_⟩
  rw [State.fab_congr (State.shadowFab_cmds _ _), State.fab_updFab live]

theorem State.ctx_updCtx_same (i : Nat) (f : Ctx → Ctx) (s : State) : (s.updCtx i f).ctx i = f (s.ctx i) :=
  tget_tmod_same ({} : Ctx) i f s.xport.ctx

/-- R122: windows that take the place of none fit where all together hold at most 4 GiB. -/
theorem execSetFeaturesPushWindows_done {q : AdminCmd} {qid count size i d hd : Nat} {s : State} (takes : s.takesAdmin q = true)
    (fabric : q.cntlid ≠ 0) (io : qid ≠ 0) (queue : tfind (s.fab q.cntlid).queues qid = some (i, d, hd)) (roce : (s.ctx i).kind = 1)
    (few : count ≤ 64) (small : size ≤ 6) (noWindows : (s.ctx i).windows = []) (room : s.pushTotal + count * windowBytes size ≤ 2 ^ 32) :
    ∃ t, execSetFeaturesPushWindows q qid count size s = .next t ∧ ∃ u : State, t = u.adminDone q stOk (pushKey i 0 0) ∧
      (u.ctx i).pushCount = count ∧ (u.ctx i).pushSize = size ∧ (u.ctx i).windows = [] := by
  have live := State.live_of_takesAdmin takes fabric
  have listed : tfind ((s.adminTaken q).fab q.cntlid).queues qid = some (i, d, hd) := by
    rw [State.adminTaken_fab live fabric, ← queue]
    exact tfind_tadj_other _ _ io
  have ctx : (s.adminTaken q).ctx i = s.ctx i := State.ctx_congr (State.adminTaken_xport q s) i
  have total : (s.adminTaken q).pushTotal = s.pushTotal := by
    unfold State.pushTotal
    rw [State.adminTaken_xport]
  unfold execSetFeaturesPushWindows
  rw [State.adminRun_of_takesAdmin _ takes fabric, listed]
  dsimp only
  rw [ctx, total, if_neg (by simp [io, roce]; omega), if_neg (by simp [noWindows]), if_neg (by omega)]
  refine ⟨_, rfl, _, rfl, ?_⟩
  rw [State.ctx_congr (State.shadowFab_xport _ _), State.ctx_congr (State.settIfPaired_xport _ _ _ _), State.ctx_updCtx_same]
  exact ⟨rfl, rfl, rfl⟩

theorem execGetFeatures_arbitration {q : AdminCmd} {s : State} (takes : s.takesAdmin q = true) (fabric : q.cntlid ≠ 0) :
    execGetFeatures q 1 0 s = .next ((s.adminTaken q).adminDone q stOk (s.fab q.cntlid).arbitration) := by
  unfold execGetFeatures
  rw [State.adminRun_of_takesAdmin _ takes fabric]
  dsimp only
  rw [if_neg (by decide), if_pos rfl, State.adminTaken_fab (State.live_of_takesAdmin takes fabric) fabric]

/-- R158: an asynchronous event request that is held is aborted at once. -/
theorem execAbort_aer {q : AdminCmd} {cid : Nat} {s : State} (takes : s.takesAdmin q = true) (fabric : q.cntlid ≠ 0)
    (few : (s.fab q.cntlid).aborts.length < 4) (held : (s.fab q.cntlid).aers.contains cid = true) :
    ∃ t, execAbort q 0 cid s = .next t ∧ ∃ u : State, t = u.abortReport q true ∧
      (u.fab q.cntlid).aers = dropOne cid (s.fab q.cntlid).aers := by
  have live := State.live_of_takesAdmin takes fabric
  have fab := State.adminTaken_fab live fabric
  have aers : ((s.adminTaken q).fab q.cntlid).aers = (s.fab q.cntlid).aers := by rw [fab]
  have aborts : ((s.adminTaken q).fab q.cntlid).aborts = (s.fab q.cntlid).aborts := by rw [fab]
  unfold execAbort
  rw [State.adminRun_of_takesAdmin _ takes fabric]
  dsimp only
  rw [aborts, if_neg (Nat.not_le.mpr few), if_pos rfl, aers, if_pos held]
  refine ⟨_, rfl, _, rfl, ?_⟩
  rw [State.adminDone_fab_keeps (view := (·.aers)) (fun _ _ => rfl), State.fab_updFab (State.adminTaken_live live fabric), aers]

/-- R155: a fabric controller with no changed namespace has nothing to report. -/
theorem State.notice_of_unchanged {s : State} {c : Nat} (fabric : c ≠ 0) (quiet : (s.fab c).changedNs = []) : s.notice c = s := by
  unfold State.notice
  rw [if_neg fabric]
  dsimp only
  split
  · exact if_neg fun h => h.1 quiet
  · rfl

/-- R155: with no notice to report, a request is held. -/
theorem execAsyncEventRequest_held {q : AdminCmd} {s : State} (takes : s.takesAdmin q = true) (fabric : q.cntlid ≠ 0)
    (few : (s.fab q.cntlid).aers.length < 4) (quiet : (s.fab q.cntlid).changedNs = []) :
    ∃ t, execAsyncEventRequest q s = .next t ∧ (t.fab q.cntlid).aers = (s.fab q.cntlid).aers ++ [q.cid] := by
  have live := State.live_of_takesAdmin takes fabric
  have fab := State.adminTaken_fab live fabric
  have aers : ((s.adminTaken q).fab q.cntlid).aers = (s.fab q.cntlid).aers := by rw [fab]
  have changed : ((s.adminTaken q).fab q.cntlid).changedNs = [] := by rw [fab, ← quiet]
  have entered := State.fab_updFab (State.adminTaken_live live fabric) fun f => { f with aers := f.aers ++ [q.cid] }
  unfold execAsyncEventRequest
  rw [State.adminRun_of_takesAdmin _ takes fabric, if_neg (by rw [aers]; omega)]
  refine ⟨_, rfl, ?_⟩
  rw [State.notice_of_unchanged fabric (by rw [entered, ← changed]), entered, ← aers]

theorem execKeepAlive_restarts {q : AdminCmd} {s : State} (takes : s.takesAdmin q = true) (fabric : q.cntlid ≠ 0) :
    ∃ t, execKeepAlive q s = .next t ∧ ∃ u : State, t = u.adminDone q stOk 0 ∧ (u.fab q.cntlid).katoNs = s.now := by
  refine ⟨_, congrArg Host.Outcome.next (State.adminRun_of_takesAdmin _ takes fabric), _, rfl, ?_⟩
  rw [State.adminTaken_fab (State.live_of_takesAdmin takes fabric) fabric]

theorem execKeepAliveExpiry_deletes {n : Nat} {s : State} (live : (s.fab n).live = true) : ∃ t, execKeepAliveExpiry n s = .next t ∧
    ∃ u : State, t = u.deleteFab n ∧ u.cmds = s.cmds ∧
      u.counter cKatoExpired (s.fab n).tenant = sat (2 ^ 64 - 1) (s.counter cKatoExpired (s.fab n).tenant + 1) :=
  ⟨_, congrArg Host.Outcome.next (if_pos live), _, rfl, State.bump_cmds _ _ _, State.counter_bump_same _ _ _⟩

end Sys2Proof.Machine

namespace Sys2Proof.Machine

/-! ## Stamps and slots (O27, O28) -/

/-! ### Slots -/

theorem State.slot_congr {s t : State} (cmds : t.cmds = s.cmds) (n : Nat) : t.slot n = s.slot n := by
  unfold State.slot
  rw [cmds]

/-- A slot that is in use is listed, so a change reaches it. -/
theorem State.slot_updSlot {s : State} {n : Nat} (used : s.slotUsed n = true) (f : Slot → Slot) : (s.updSlot n f).slot n = f (s.slot n) := by
  obtain ⟨p, listed⟩ := Option.isSome_iff_exists.mp used
  simp [State.slot, State.updSlot, tget, listed, tfind_tadj_same f listed]

theorem State.slot_updSlot_keeps {β : Type} {view : Slot → β} {f : Slot → Slot} (keeps : ∀ p, view (f p) = view p) (s : State) (n j : Nat) :
    view ((s.updSlot n f).slot j) = view (s.slot j) :=
  tget_eq_of_tfind_map ({} : Slot) (tfind_tadj_keeps keeps s.cmds.slots n j)

theorem State.slotUsed_updSlot (s : State) (n : Nat) (f : Slot → Slot) (j : Nat) : (s.updSlot n f).slotUsed j = s.slotUsed j := by
  have listed := congrArg Option.isSome (tfind_tadj_keeps (view := fun _ => ()) (f := f) (fun _ => rfl) s.cmds.slots n j)
  rwa [Option.isSome_map, Option.isSome_map] at listed

/-! ### The issue of a stamp (R172) -/

/-- R172: an extent whose sequence is not at its end gets the next stamp. -/
theorem State.issueStamp_eq {s : State} {rec : Nat} (more : (s.extent rec).lastStamp.toNat % 2 ^ 40 ≠ 2 ^ 40 - 1) (h : Nat) :
    s.issueStamp rec h = ((s.extent rec).lastStamp + 1,
      (s.updExtent rec fun e => { e with lastStamp := (s.extent rec).lastStamp + 1 }).bump cStampsIssued h) := by
  unfold State.issueStamp
  simp only [if_neg more]

theorem State.extent_congr {s t : State} (extents : t.cons.extents = s.cons.extents) (rec : Nat) : t.extent rec = s.extent rec := by
  unfold State.extent
  rw [extents]

theorem State.extent_updExtent_same (rec : Nat) (f : Extent → Extent) (s : State) : (s.updExtent rec f).extent rec = f (s.extent rec) :=
  tget_tmod_same ({} : Extent) rec f s.cons.extents

/-! ### Overlap entries (R185, R188) -/

theorem State.addOvl_extents (e : OvlEntry) (s : State) : (s.addOvl e).cons.extents = s.cons.extents := by
  unfold State.addOvl
  split <;> rfl

/-- R188: what an arriving command enters into the overlap table leaves the extents. -/
theorem State.enterPart_extents (kind slot holder h : Nat) (stamp : BitVec 64) (first n : Nat) (partials : List Nat) (crossing : Bool) (s : State) :
    (s.enterPart kind slot holder h stamp first n partials crossing).2.cons.extents = s.cons.extents := by
  unfold State.enterPart
  exact List.foldlRecOn _ _ (motive := fun a : Nat × State => a.2.cons.extents = s.cons.extents) rfl fun a kept r _ =>
    (State.addOvl_extents _ _).trans kept

/-! ### A stamp reaches its slot (R181, R183) -/

@[simp] theorem State.settSend_cmds (kind : Nat) (args : List Nat) (data : Bytes) (s : State) : (s.settSend kind args data).cmds = s.cmds :=
  same_of_touch (g := .cmds) (State.settSend_touch (by decide) (.refl _ _))

@[simp] theorem State.stage_cmds (n k : Nat) (s : State) : (s.stage n k).cmds = s.cmds :=
  same_of_touch (g := .cmds) (State.stage_touch (by decide) (.refl _ _))

/-- R183: a stamp record changes of the slots at most whether it is confirmed. -/
theorem State.sendStampRecord_slot_keeps {β : Type} {view : Slot → β} (keeps : ∀ p conf, view { p with recordConf := conf } = view p)
    (n : Nat) (s : State) (j : Nat) : view ((s.sendStampRecord n).slot j) = view (s.slot j) := by
  have planned : (s.when (s.planOf (s.slot n).ctx n).isNone fun u => u.plan (s.slot n).ctx n 1
      (if (s.slot n).opcode = 2 then [s.wireBytes (s.slot n), 16] else [16])).cmds = s.cmds :=
    same_of_touch (g := .cmds) (State.when_touch (.refl _ _) fun _ h => State.plan_touch (by decide) h)
  unfold State.sendStampRecord
  dsimp only
  split
  · rw [State.slot_congr (State.settSend_cmds _ _ _ _), State.slot_updSlot_keeps fun p => keeps p false]
  · split
    · rw [State.slot_congr (State.settSend_cmds _ _ _ _), State.slot_updSlot_keeps fun p => keeps p false, State.slot_congr planned]
    · rw [State.slot_updSlot_keeps fun p => keeps p false, State.slot_congr planned]

/-- R188: release to stage 7 changes of the slots at most that they are released. -/
theorem State.goCheck_slot_keeps {β : Type} {view : Slot → β} (keeps : ∀ p gone, view { p with gone := gone } = view p)
    (n : Nat) (s : State) (j : Nat) : view ((s.goCheck n).slot j) = view (s.slot j) := by
  unfold State.goCheck
  dsimp only
  split
  · rw [State.slot_congr (State.stage_cmds _ _ _), State.slot_updSlot_keeps fun p => keeps p true]
  · rfl

/-- R153, R181: a slot that has its first stamp is ADMITTED. -/
theorem State.giveStamp_admits {s : State} {n : Nat} (used : s.slotUsed n = true) (early : (s.slot n).state < 5) (unstamped : (s.slot n).stamp = 0)
    (stamp : BitVec 64) (owner waits : Nat) :
    ((s.giveStamp n stamp owner waits).slot n).state = 4 ∧ ((s.giveStamp n stamp owner waits).slot n).stamp = stamp := by
  have given : (fun p : Slot => (p.state, p.stamp)) ((s.giveStamp n stamp owner waits).slot n) = (4, stamp) := by
    have stamped : (fun p : Slot => (p.state, p.stamp)) (((s.updSlot n fun x => { x with
        state := if x.state < 5 then 4 else x.state, stamp := if x.stamp = 0 then stamp else x.stamp, pieceStamp := stamp
        waits := tput x.waits owner waits }).stage n 4).slot n) = (4, stamp) := by
      rw [State.slot_congr (State.stage_cmds _ _ _), State.slot_updSlot used]
      simp only [early, unstamped, if_true]
    unfold State.giveStamp
    dsimp only
    split
    · unfold State.when
      split
      · exact (State.sendStampRecord_slot_keeps (view := fun p : Slot => (p.state, p.stamp)) (fun _ _ => rfl) _ _ _).trans stamped
      · exact stamped
    · exact stamped
  exact Prod.mk.inj given

/-! ### Admission (R178, R184, R188) -/

/-- R188: a request in one extent whose admission is open, with nothing held there, is stamped at once. -/
theorem State.request_eq_admitOne {s : State} {rec : Nat} {r : StampReq} (held : (s.extent rec).held = []) (shut : s.admissionShut rec = false)
    (room : s.ovlRoom r = true) (own : r.holder = s.self) (kind : r.kind ≠ 4)
    (one : (extentParts (s.reqSpan r).1 (s.reqSpan r).2.1).length = 1) :
    s.request rec r = s.admitOne rec r (s.reqSpan r).1 (s.reqSpan r).2.1 (s.reqSpan r).2.2 := by
  obtain ⟨part, parts⟩ := List.length_eq_one_iff.mp one
  unfold State.request
  dsimp only
  rw [if_neg (not_not_intro held)]
  unfold State.admitReq
  rw [if_neg (by simp [shut, room, own]), if_neg kind]
  simp only [parts]

/-- R172, R188: the state in which a request's stamp is told: the stamp is issued, the entries stand in the overlap table, the wait is counted. -/
def State.stampEntered (rec : Nat) (r : StampReq) (first n : Nat) (partials : List Nat) (s : State) : State :=
  let a := s.issueStamp rec r.handle
  let w := a.2.enterPart r.kind r.slot r.holder r.handle a.1 first n partials false
  w.2.countWait r.kind r.handle w.1

/-- R172: where the epoch need not rise, a stamp and its entries touch the extents, the overlap table and the counters alone. -/
theorem State.stampEntered_touch {s : State} {rec : Nat} (r : StampReq) (more : (s.extent rec).lastStamp.toNat % 2 ^ 40 ≠ 2 ^ 40 - 1)
    (first n : Nat) (partials : List Nat) {m : Nat} (hm : Nat.land 4198400 m = 4198400) :
    Touch m s (s.stampEntered rec r first n partials) := by
  unfold State.stampEntered
  rw [State.issueStamp_eq more]
  dsimp only
  exact State.countWait_touch (sub_trans (by decide) hm) (State.enterPart_touch (sub_trans (by decide) hm)
    (State.bump_touch (sub_trans (by decide) hm) (State.updExtent_touch (sub_trans (by decide) hm) (.refl _ _))))

theorem State.stampEntered_lastStamp {s : State} {rec : Nat} (r : StampReq) (more : (s.extent rec).lastStamp.toNat % 2 ^ 40 ≠ 2 ^ 40 - 1)
    (first n : Nat) (partials : List Nat) :
    ((s.stampEntered rec r first n partials).extent rec).lastStamp = (s.extent rec).lastStamp + 1 := by
  unfold State.stampEntered
  rw [State.issueStamp_eq more]
  dsimp only
  rw [State.extent_congr (congrArg (·.extents) (same_of_touch (g := .cons) (State.countWait_touch (by decide) (.refl _ _)))),
    State.extent_congr (State.enterPart_extents _ _ _ _ _ _ _ _ _ _),
    State.extent_congr (congrArg (·.extents) (same_of_touch (g := .cons) (State.bump_touch (by decide) (.refl _ _)))),
    State.extent_updExtent_same]

/-- R181: the stamp of a command held here goes to its slot, which is released where it can be. -/
theorem State.tellStamp_here {s : State} {slot holder : Nat} (here : holder = s.self) (stamp : BitVec 64) (waits part blocks : Nat) :
    s.tellStamp slot holder stamp waits part blocks = (s.giveStamp slot stamp s.self waits).goCheck slot := by
  unfold State.tellStamp
  rw [if_pos here]

/-- R172, R181, R188: a request of the command in a slot of this controller gets the extent's next stamp, and its slot is ADMITTED. -/
theorem State.admitOne_stamps {s : State} {rec : Nat} {r : StampReq} (used : s.slotUsed r.slot = true) (early : (s.slot r.slot).state < 5)
    (unstamped : (s.slot r.slot).stamp = 0) (own : r.holder = s.self) (more : (s.extent rec).lastStamp.toNat % 2 ^ 40 ≠ 2 ^ 40 - 1)
    (first n : Nat) (partials : List Nat) :
    ((s.admitOne rec r first n partials).slot r.slot).state = 4 ∧
      ((s.admitOne rec r first n partials).slot r.slot).stamp = (s.extent rec).lastStamp + 1 ∧
      ((s.admitOne rec r first n partials).extent rec).lastStamp = (s.extent rec).lastStamp + 1 := by
  have cmds : (s.stampEntered rec r first n partials).cmds = s.cmds := same_of_touch (g := .cmds) (State.stampEntered_touch r more _ _ _ (by decide))
  have den : (s.stampEntered rec r first n partials).den = s.den := same_of_touch (g := .den) (State.stampEntered_touch r more _ _ _ (by decide))
  have lastStamp := State.stampEntered_lastStamp r more first n partials
  have told : ∃ waits blocks, s.admitOne rec r first n partials =
      (s.stampEntered rec r first n partials).tellStamp r.slot r.holder (s.issueStamp rec r.handle).1 waits 0 blocks := ⟨_, _, rfl⟩
  obtain ⟨waits, blocks, told⟩ := told
  rw [State.issueStamp_eq more] at told
  generalize s.stampEntered rec r first n partials = t at *
  rw [told, State.tellStamp_here (by rw [own]; unfold State.self; rw [den])]
  rw [← State.slot_congr cmds] at early unstamped
  obtain ⟨state, stamp⟩ := State.giveStamp_admits (by unfold State.slotUsed; rw [cmds]; exact used) early unstamped ((s.extent rec).lastStamp + 1) t.self waits
  refine ⟨?_, ?_, ?_⟩
  · rw [State.goCheck_slot_keeps (view := (·.state)) fun _ _ => rfl, state]
  · rw [State.goCheck_slot_keeps (view := (·.stamp)) fun _ _ => rfl, stamp]
  · rw [← lastStamp]
    refine congrArg _ (State.extent_congr (congrArg (·.extents) (same_of_touch (g := .cons) ?_)) rec)
    exact State.goCheck_touch (by decide) (State.giveStamp_touch (by decide) (.refl _ _))

/-! ### Stage 5 (R181, R188) -/

/-- R174: the span of a request covers its blocks, whether a Deallocate or not. -/
theorem State.reqSpan_blocks (s : State) (r : StampReq) :
    (s.reqSpan r).1 = (span (s.ns r.handle).format r.slba r.nlb).1 ∧ (s.reqSpan r).2.1 = (span (s.ns r.handle).format r.slba r.nlb).2.1 := by
  unfold State.reqSpan
  dsimp only
  split
  · exact ⟨rfl, rfl⟩
  · exact ⟨rfl, rfl⟩

theorem reqKind_ne_four (op : Nat) : reqKind op ≠ 4 := by
  unfold reqKind
  split
  · decide
  · split <;> decide

theorem State.stampsHere_iff {s : State} {n rec : Nat} : s.stampsHere n rec = true ↔
    let p := s.slot n
    let x := span (s.ns p.handle).format p.slba p.nlb
    s.extRec p.handle (x.1 / 262144) = rec ∧ (extentParts x.1 x.2.1).length = 1 ∧ s.ownerOf rec = s.self ∧ (s.extent rec).held = [] ∧
      s.admissionShut rec = false ∧ (s.extent rec).lastStamp.toNat % 2 ^ 40 ≠ 2 ^ 40 - 1 ∧
      s.cons.ovl.length + (regionParts x.1 x.2.1).length ≤ 262144 ∧ p.stamp = 0 := by
  simp [State.stampsHere, and_assoc]

/-- R181, R188: stage 5 of a command that this controller can stamp: its slot is ADMITTED with the next stamp of its extent. -/
theorem State.stageFive_stamps {s : State} {n rec : Nat} (used : s.slotUsed n = true) (here : s.stampsHere n rec = true) :
    ((s.stageFive n (s.slot n).slba (s.slot n).nlb).slot n).state = 4 ∧
      ((s.stageFive n (s.slot n).slba (s.slot n).nlb).slot n).stamp = (s.extent rec).lastStamp + 1 ∧
      ((s.stageFive n (s.slot n).slba (s.slot n).nlb).extent rec).lastStamp = (s.extent rec).lastStamp + 1 := by
  obtain ⟨record, one, own, held, shut, more, room, unstamped⟩ := State.stampsHere_iff.mp here
  let t := s.updSlot n fun x => { x with state := 3 }
  let r : StampReq := { slot := n, holder := s.self, kind := reqKind (s.slot n).opcode, handle := (s.slot n).handle, slba := (s.slot n).slba
                        nlb := (s.slot n).nlb }
  have slot : t.slot n = { s.slot n with state := 3 } := State.slot_updSlot used _
  obtain ⟨first, count⟩ := t.reqSpan_blocks r
  have admitted : t.request rec r = t.admitOne rec r (t.reqSpan r).1 (t.reqSpan r).2.1 (t.reqSpan r).2.2 := by
    refine State.request_eq_admitOne held shut ?_ rfl (reqKind_ne_four _) ?_
    · unfold State.ovlRoom
      rw [first, count]
      exact decide_eq_true room
    · rw [first, count]
      exact one
  have five : s.stageFive n (s.slot n).slba (s.slot n).nlb = t.request rec r := by
    unfold State.stageFive
    dsimp only
    rw [record, if_pos own]
  rw [five, admitted]
  exact State.admitOne_stamps (s := t) (r := r) ((State.slotUsed_updSlot _ _ _ _).trans used) (by simp [r, slot]) (by simp [r, slot, unstamped]) rfl
    more _ _ _

/-- R35, R38, R174, R277, R560: the command of a slot that is ready goes on to its stamp, whatever its opcode, and then as far as it can. -/
theorem stampedCommand_next {s : State} {slot rec op : Nat} (isSlot : slot < 262144) (ready : s.readyFor slot op = true)
    (here : s.stampsHere slot rec = true) :
    ∃ t, bounded (decide (slot < 262144)) (s.when (s.readyFor slot op) fun t =>
      (t.stageFive slot (t.slot slot).slba (t.slot slot).nlb).settle) = .next t ∧
      ∃ u : State, t = u.settle ∧ (u.slot slot).state = 4 ∧ (u.slot slot).stamp = (s.extent rec).lastStamp + 1 ∧
        (u.extent rec).lastStamp = (s.extent rec).lastStamp + 1 := by
  have used : s.slotUsed slot = true := by
    simp only [State.readyFor, Bool.and_eq_true] at ready
    exact ready.1.1.1
  rw [ready, State.when_true, bounded_eq_next (decide_eq_true isSlot)]
  exact ⟨_, rfl, _, rfl, State.stageFive_stamps used here⟩

/-! ### Flush and the release of a slot (R153, R162) -/

/-- R137, R162: the event that ends a Flush is counted, and its templates are evaluated. -/
theorem execFlush_next {s : State} {slot : Nat} (isSlot : slot < 262144) (ready : s.readyFor slot 0 = true) (unseen : (s.slot slot).seen = 0) :
    ∃ t, execFlush slot s = .next t ∧ ∃ u : State, t = u.evalChains slot ∧ (u.slot slot).seen = 4 := by
  have used : s.slotUsed slot = true := by
    simp only [State.readyFor, Bool.and_eq_true] at ready
    exact ready.1.1.1
  refine ⟨_, bounded_eq_next (decide_eq_true isSlot), s.updSlot slot fun x => { x with seen := x.seen ||| BitVec.ofNat 4 (2 ^ 2) }, ?_, ?_⟩
  · rw [ready, State.when_true]
    exact if_pos ⟨used, by rw [unseen]; decide⟩
  · rw [State.slot_updSlot used]
    simp [unseen]

theorem State.putReplay_slots (r : Replay) (s : State) : (s.putReplay r).cmds.slots = s.cmds.slots := by
  obtain ⟨replays, next, cmds⟩ := s.putReplay_cmds r
  rw [cmds]

theorem State.adminDone_slots (q : AdminCmd) (status dw0 : Nat) (s : State) : (s.adminDone q status dw0).cmds.slots = s.cmds.slots := by
  obtain ⟨fab, replays, next, cmds⟩ := s.adminDone_cmds q status dw0
  rw [cmds]

theorem State.psNow_slots (ps : Nat) (s : State) : (s.psNow ps).cmds.slots = s.cmds.slots := by
  have woken : ((s.psEffects ps).when (decide (ps < 2) && decide (s.modes.nvmePs = 2)) State.drivesAwake).cmds = s.cmds :=
    same_of_touch (g := .cmds) (State.when_touch (State.psEffects_touch (by decide) (.refl _ _)) fun _ h => State.drivesAwake_touch (by decide) h)
  exact List.foldlRecOn _ _ (motive := fun t : State => t.cmds.slots = s.cmds.slots) (congrArg (·.slots) woken) fun t kept _ _ =>
    (t.adminDone_slots _ _ _).trans kept

theorem State.recomputePs_slots (s : State) : s.recomputePs.cmds.slots = s.cmds.slots := by
  unfold State.recomputePs
  dsimp only
  split
  · split
    · split
      · split <;> rfl
      · rfl
    · split
      · exact s.psNow_slots _
      · rfl
  · rfl

theorem State.lpDrained_slots (s : State) : s.lpDrained.cmds.slots = s.cmds.slots := by
  unfold State.lpDrained
  split
  · split
    · exact State.recomputePs_slots _
    · split <;> rfl
  · rfl

@[simp] theorem State.lpUsed_cmds (s : State) : s.lpUsed.cmds = s.cmds :=
  same_of_touch (g := .cmds) (State.lpUsed_touch (by decide) (.refl _ _))

@[simp] theorem State.settleCtx_cmds (i : Nat) (s : State) : (s.settleCtx i).cmds = s.cmds :=
  same_of_touch (g := .cmds) (State.settleCtx_touch (by decide) (.refl _ _))

@[simp] theorem State.foxEnd_cmds (n : Nat) (s : State) : (s.foxEnd n).cmds = s.cmds :=
  same_of_touch (g := .cmds) (State.foxEnd_touch (by decide) (.refl _ _))

/-- R153: a slot that returns to FREE leaves every other as it is. -/
theorem State.releaseSlot_slots (n : Nat) (s : State) : (s.releaseSlot n).cmds.slots = tdel s.cmds.slots n := by
  have ended (c : Prop) [Decidable c] (i : Nat) (t : State) : (if c then t.lpUsed.lpDrained else t.settleCtx i).cmds.slots = t.cmds.slots := by
    split
    · rw [State.lpDrained_slots, State.lpUsed_cmds]
    · rw [State.settleCtx_cmds]
  unfold State.releaseSlot
  dsimp only
  rw [ended, State.updCmds_cmds, State.foxEnd_cmds]
  by_cases unrecorded : (s.slot n).localPort = true ∨ (s.slot n).replay = true
  · rw [if_pos unrecorded, if_pos unrecorded]
  · rw [if_neg unrecorded, if_neg unrecorded, State.settIfPaired_cmds, State.putReplay_slots]

/-- R150, R391: with nothing waiting for a slot the release is all that is done. -/
theorem execSlotRelease_frees {slot : Nat} {s : State} (isSlot : slot < 262144) (used : s.slotUsed slot = true) (ending : (s.slot slot).state = 5)
    (tags : s.tagsBack slot = true) (noneAdopted : s.pair.adoptWaiting = []) (noneWaiting : s.cmds.waiting = []) :
    ∃ t, execSlotRelease slot s = .next t ∧ ∃ u : State, t = u.settle ∧ u.cmds.slots = tdel s.cmds.slots slot := by
  unfold execSlotRelease
  rw [bounded_eq_next (decide_eq_true isSlot), if_pos ⟨used, ending, tags⟩, noneAdopted, noneWaiting]
  exact ⟨_, rfl, _, rfl, s.releaseSlot_slots slot⟩

/-! ### Replay records, saturation, deferred commands (R165, R168, R348) -/

theorem execReplayRecordExpiry_closes (rec : Nat) (s : State) : ∃ t, execReplayRecordExpiry rec s = .next t ∧
    t.cmds.replays = tadj rec (fun r => { r with isOpen := false }) s.cmds.replays :=
  ⟨_, rfl, congrArg (·.replays) (same_of_touch (g := .cmds) (State.pruneReads_touch (by decide) (.refl _ _)))⟩

/-- R168: the hundredth sample in a row that finds saturation raises the overload, with the delays sampled last. -/
theorem execSaturationSample_overload {worst p50 p99 : Nat} {s : State} (calm : s.cmds.overload = false) (run : s.cmds.saturatedRun = 99)
    (small50 : p50 ≤ 65535) (small99 : p99 ≤ 65535) (tenant : worst < 4096) :
    ∃ t, execSaturationSample true worst p50 p99 s = .next t ∧ t.cmds.overload = true ∧
      t.cmds.overloadEvents = sat 65535 (s.cmds.overloadEvents + 1) ∧ t.cmds.worstTenant = worst ∧ t.cmds.p50 = p50 ∧ t.cmds.p99 = p99 := by
  have raised (u : State) (n : Nat) : (u.raise 0x0301 whole n).cmds = u.cmds := same_of_touch (g := .cmds) (State.raise_touch (by decide) (.refl _ _))
  unfold execSaturationSample
  simp only [Bool.or_true, if_true, State.updCmds_cmds]
  rw [if_pos ⟨calm, by omega⟩]
  refine ⟨_, rfl, ?_⟩
  rw [raised]
  exact ⟨rfl, rfl, Nat.mod_eq_of_lt tenant, if_pos small50, if_pos small99⟩

/-- R348: the scan of a tenant with one deferred command finds it, wherever the last scan ended. -/
theorem State.deferredHeads_single {s : State} {i n : Nat} (deferred : s.qos.deferred = [(i, [n])]) :
    s.deferredHeads (s.slot n).tenant = [(i, n)] := by
  unfold State.deferredHeads
  by_cases after : tget 0 s.qos.deferNext (s.slot n).tenant < i
  · simp [deferred, after, Nat.not_le.mpr after]
  · simp [deferred, after, Nat.le_of_not_lt after]

@[simp] theorem State.meter_snd_telem (ctx t n : Nat) (s : State) : (s.meter ctx t n).2.telem = s.telem :=
  same_of_touch (g := .telem) (State.meter_touch (by decide) (.refl _ _))

/-- R520: the stages of tagged commands are no counters. -/
theorem State.stage_counter (n k : Nat) (c : Nat × Nat) (i : Nat) (s : State) : (s.stage n k).counter c i = s.counter c i := by
  unfold State.stage State.counter
  simp only [State.updTelem_telem]

theorem State.counter_congr {s t : State} (telem : t.telem = s.telem) (c : Nat × Nat) (i : Nat) : t.counter c i = s.counter c i := by
  unfold State.counter
  rw [telem]

/-- R348: a deferred command whose colour is no longer red is released, counted, and goes on. -/
theorem State.deferTry_releases {s : State} {e : Nat × Nat} (t : Nat)
    (notRed : (s.meter e.1 (s.slot e.2).tenant (meterCharge (s.slot e.2).opcode (s.wireBytes (s.slot e.2)))).1 ≠ 2) :
    ∃ u : State, s.deferTry t e = u.goOn e.2 ∧
      u.counter cDeferReleased (s.slot e.2).tenant = sat (2 ^ 64 - 1) (s.counter cDeferReleased (s.slot e.2).tenant + 1) := by
  unfold State.deferTry
  dsimp only
  rw [if_neg notRed]
  refine ⟨_, rfl, ?_⟩
  rw [State.stage_counter, State.counter_bump_same]
  refine congrArg (fun v => sat (2 ^ 64 - 1) (v + 1)) (State.counter_congr ?_ _ _)
  simp only [State.updSlot, State.dropDeferred, State.updCmds_telem, State.updQos_telem, State.meter_snd_telem]

/-- R348: the one deferred command is examined once, and goes on where its colour is no longer red. -/
theorem execDeferReleaseScan_releases {i n : Nat} {s : State} (deferred : s.qos.deferred = [(i, [n])])
    (notRed : (s.meter i (s.slot n).tenant (meterCharge (s.slot n).opcode (s.wireBytes (s.slot n)))).1 ≠ 2) :
    ∃ t, execDeferReleaseScan s = .next t ∧ ∃ u : State, t = u.goOn n ∧
      u.counter cDeferReleased (s.slot n).tenant = sat (2 ^ 64 - 1) (s.counter cDeferReleased (s.slot n).tenant + 1) := by
  have tried : execDeferReleaseScan s = .next (s.deferTry (s.slot n).tenant (i, n)) := by
    unfold execDeferReleaseScan
    simp only [deferred, List.filterMap_cons, List.filterMap_nil, List.head?_cons, Option.map_some, List.eraseDups_cons, List.filter_nil,
      List.eraseDups_nil, List.foldl_cons, List.foldl_nil, State.deferredHeads_single deferred]
  exact ⟨_, tried, State.deferTry_releases (e := (i, n)) _ notRed⟩

/-- Settles O28. That a Flush ends by trigger event 2 is the model's own choice (log 78). -/
theorem completesCommandsC : Obligations.CompletesCommandsC :=
  ⟨fun _ _ _ => stampedCommand_next,
   fun _ _ => execFlush_next,
   fun _ _ _ => stampedCommand_next,
   fun _ _ _ => stampedCommand_next,
   fun _ _ _ => stampedCommand_next,
   fun _ _ _ => stampedCommand_next,
   fun _ _ => execSlotRelease_frees,
   fun rec s => execReplayRecordExpiry_closes rec s,
   fun _ _ _ _ => execSaturationSample_overload,
   fun _ _ _ => execDeferReleaseScan_releases⟩

end Sys2Proof.Machine

namespace Sys2Proof.Machine

/-! ## Capsules (O27) -/

/-- The command that a slot holds: its CID and opcode; none where the slot is free. -/
def State.command (s : State) (n : Nat) : Option (Nat × Nat) := (tfind s.cmds.slots n).map fun p => (p.cid, p.opcode)

theorem State.command_congr {s t : State} (slots : t.cmds.slots = s.cmds.slots) (n : Nat) : t.command n = s.command n := by
  unfold State.command
  rw [slots]

/-- A slot that holds a command is in use, with its CID and opcode. -/
theorem State.slot_of_command {s : State} {n cid opcode : Nat} (holds : s.command n = some (cid, opcode)) :
    s.slotUsed n = true ∧ (s.slot n).cid = cid ∧ (s.slot n).opcode = opcode := by
  obtain ⟨p, listed, same⟩ := Option.map_eq_some_iff.mp holds
  obtain ⟨rfl, rfl⟩ := Prod.mk.inj same
  simp [State.slotUsed, State.slot, thas, tget, listed]

@[simp] theorem State.updSlot_command (k n : Nat) {f : Slot → Slot} (keeps : ∀ p, ((f p).cid, (f p).opcode) = (p.cid, p.opcode)) (s : State) :
    (s.updSlot k f).command n = s.command n :=
  tfind_tadj_keeps keeps s.cmds.slots k n

/-! ### Completions keep the commands of the slots (R135, R153) -/

@[simp] theorem State.countDone_cmds (n : Nat) (s : State) : (s.countDone n).cmds = s.cmds :=
  same_of_touch (g := .cmds) (State.countDone_touch (by decide) (.refl _ _))

@[simp] theorem State.flushPlans_cmds (i : Nat) (s : State) : (s.flushPlans i).cmds = s.cmds :=
  same_of_touch (g := .cmds) (State.flushPlans_touch (by decide) (.refl _ _))

@[simp] theorem State.updPlan_cmds (i n : Nat) (f : SendPlan → SendPlan) (s : State) : (s.updPlan i n f).cmds = s.cmds := rfl

@[simp] theorem State.revokeOf_cmds (n : Nat) (s : State) : (s.revokeOf n).cmds = s.cmds :=
  same_of_touch (g := .cmds) (State.revokeOf_touch (by decide) (.refl _ _))

@[simp] theorem State.sendMirror_cmds (n : Nat) (s : State) : (s.sendMirror n).cmds = s.cmds :=
  same_of_touch (g := .cmds) (State.sendMirror_touch (by decide) (.refl _ _))

@[simp] theorem State.foxDraw_cmds (n : Nat) (p : Slot) (s : State) : (s.foxDraw n p).cmds = s.cmds :=
  same_of_touch (g := .cmds) (State.foxDraw_touch (by decide) (.refl _ _))

@[simp] theorem State.meter_snd_cmds (ctx t n : Nat) (s : State) : (s.meter ctx t n).2.cmds = s.cmds :=
  same_of_touch (g := .cmds) (State.meter_touch (by decide) (.refl _ _))

theorem State.postNow_command (k n : Nat) (s : State) : (s.postNow k).command n = s.command n := by
  unfold State.postNow
  extract_lets p dw0 s1 s2 o
  have ending : s1.command n = s.command n :=
    (State.updSlot_command (f := fun p => { p with state := 5, dw0 := dw0 }) k n (fun _ => rfl) _).trans (State.command_congr (by rw [State.stage_cmds]) n)
  have counted : s2.cmds = s1.cmds := State.countDone_cmds k s1
  rw [← ending]
  split
  · unfold State.when
    split
    · exact State.command_congr (by simp) n
    · rfl
  · refine State.command_congr ?_ n
    split
    · simp [counted]
    · split
      · split <;> simp [counted]
      · simp [counted]

theorem State.postCompletion_command (k n : Nat) (s : State) : (s.postCompletion k).command n = s.command n := by
  unfold State.postCompletion
  split
  · rfl
  · exact s.postNow_command k n

theorem State.chainAction_command (k action n : Nat) (s : State) : (s.chainAction k action).command n = s.command n := by
  unfold State.chainAction
  split
  · exact s.postCompletion_command k n
  · refine State.command_congr ?_ n
    split
    · simp
    · split <;> simp

theorem State.fireChain_command (k t : Nat) (cs : Tbl Chain) (n : Nat) (s : State) : (s.fireChain k t cs).command n = s.command n := by
  unfold State.fireChain
  extract_lets c p s1 s2 s3
  have fired : s1.command n = s.command n :=
    State.updSlot_command (f := fun x => { x with fired := x.fired ||| BitVec.ofNat 4 (2 ^ t) }) k n (fun _ => rfl) s
  have counted : s2.command n = s1.command n := by
    simp only [s2]
    split <;> rfl
  have acted : s3.command n = s.command n := (s2.chainAction_command k c.action n).trans (counted.trans fired)
  split
  · exact (s3.chainAction_command k _ n).trans acted
  · exact acted

theorem State.evalChains_command (k n : Nat) (s : State) : (s.evalChains k).command n = s.command n := by
  unfold State.evalChains
  extract_lets p cs
  refine List.foldlRecOn (motive := fun u : State => u.command n = s.command n) _ _ rfl fun u kept t _ => ?_
  dsimp only
  split
  · exact (u.fireChain_command k t _ n).trans kept
  · exact kept

theorem State.trigger_command (k kind n : Nat) (s : State) : (s.trigger k kind).command n = s.command n := by
  unfold State.trigger
  dsimp only
  split
  · exact (State.evalChains_command k n _).trans
      (State.updSlot_command (f := fun x => { x with seen := x.seen ||| BitVec.ofNat 4 (2 ^ kind) }) k n (fun _ => rfl) s)
  · rfl

theorem State.failCmd_command (k status n : Nat) (s : State) : (s.failCmd k status).command n = s.command n := by
  unfold State.failCmd
  split
  · exact (State.trigger_command k 3 n _).trans (State.updSlot_command (f := fun p => { p with status := status }) k n (fun _ => rfl) s)
  · rfl

theorem State.police_command (k n : Nat) (s : State) : (s.police k).command n = s.command n := by
  unfold State.police
  extract_lets p bytes fifo m t
  have metered : m.2.cmds = s.cmds := by
    simp only [m]
    split <;> simp
  have coloured : t.command n = s.command n :=
    (State.updSlot_command (f := fun x => { x with colour := m.1 }) k n (fun _ => rfl) m.2).trans (State.command_congr (by rw [metered]) n)
  rw [← coloured]
  split
  · refine (State.command_congr (by rw [State.bump_cmds]; rfl) n).trans
      (State.updSlot_command (f := fun x => { x with state := 2, deferRed := true }) k n (fun _ => rfl) t)
  · exact State.command_congr (by simp) n

/-! ### A capsule that takes a slot (R150) -/

theorem State.takeSlot_command (n : Nat) (c : HostCmd) (s : State) : (s.takeSlot n c).command n = some (c.cid, c.opcode) := by
  unfold State.takeSlot
  extract_lets who h fmt st wire bytes win data pieces slba nlb p t t1 t2
  have put : t.command n = some (c.cid, c.opcode) := by
    simp [t, p, State.command, State.updCmds, tfind_tput_same]
  have moved : t1.command n = t.command n := by
    refine State.command_congr ?_ n
    simp only [t1]
    split
    · simp
    · rw [State.settIfPaired_cmds]; rfl
  have bound : t2.command n = some (c.cid, c.opcode) := by
    refine (State.command_congr ?_ n).trans (moved.trans put)
    simp only [t2, State.foxDraw_cmds]
    generalize win = found
    cases found <;> rfl
  rw [← bound]
  split
  · exact t2.failCmd_command n _ n
  · split
    · exact t2.failCmd_command n _ n
    · split
      · exact t2.failCmd_command n _ n
      · split
        · rfl
        · exact t2.police_command n n

theorem State.capsuleIn_takes {c : HostCmd} {n : Nat} {s : State} (fabric : c.localPort = false) (serves : s.inService = true)
    (live : (s.fab c.cntlid).live = true) (opened : (s.ctx c.ctx).state = 2) (queue : thas (s.fab c.cntlid).queues c.qid = true)
    (powered : s.layout.holdup = none) (nobody : s.cmds.waiting = []) (fresh : s.cmds.replays = [])
    (alone : (s.cmds.slots.any fun p => !p.2.localPort && decide (p.2.ctx = c.ctx)) = false)
    (allowed : s.slotAllowed (s.fab c.cntlid).tenant = true) (free : s.freeSlot = some n) :
    s.capsuleIn c = ((s.katoRestart c.cntlid).ioVote c.cntlid).takeSlot n c := by
  have same : (s.cmds.slots.any fun p => !p.2.localPort && decide (p.2.ctx = c.ctx) && decide (p.2.qid = c.qid) &&
      decide (p.2.cid = c.cid) && decide (p.2.pos = c.pos)) = false := by
    simp only [List.any_eq_false, Bool.and_eq_true] at alone ⊢
    exact fun p listed found => alone p listed found.1.1.1
  have unseen : s.replayFor c = none := by simp [State.replayFor, fresh]
  simp [State.capsuleIn, fabric, serves, live, opened, queue, powered, same, unseen, nobody, State.senderOf, allowed, free]

theorem execCommandCapsule_takes {c : HostCmd} {n : Nat} {s : State} (fabric : c.localPort = false) (serves : s.inService = true)
    (live : (s.fab c.cntlid).live = true) (opened : (s.ctx c.ctx).state = 2) (queue : thas (s.fab c.cntlid).queues c.qid = true)
    (powered : s.layout.holdup = none) (nobody : s.cmds.waiting = []) (fresh : s.cmds.replays = [])
    (alone : (s.cmds.slots.any fun p => !p.2.localPort && decide (p.2.ctx = c.ctx)) = false)
    (allowed : s.slotAllowed (s.fab c.cntlid).tenant = true) (free : s.freeSlot = some n) :
    ∃ t, execCommandCapsule c s = .next t ∧ ∃ u : State, t = (u.afterError c.ctx).settle ∧ u.slotUsed n = true ∧
      (u.slot n).cid = c.cid ∧ (u.slot n).opcode = c.opcode := by
  have taken := State.capsuleIn_takes fabric serves live opened queue powered nobody fresh alone allowed free
  have taking : s.capsuleShut = false := by simp [State.capsuleShut, nobody]
  refine ⟨_, congrArg Host.Outcome.next (if_neg (by simp [taking])), _, rfl, ?_⟩
  rw [taken]
  exact State.slot_of_command (State.takeSlot_command n c _)

/-- Settles O27. Each clause is the lemma of its command: the admin commands run on the state that intake leaves, a stamped command of a slot
asks for its stamp, and a capsule that finds a free slot takes it. -/
theorem completesCommandsB : Obligations.CompletesCommandsB :=
  ⟨fun _ value _ takes fabric => ⟨_, execSetFeaturesWriteAtomicity_done value takes fabric, _, rfl⟩,
   fun _ _ _ => execSetFeaturesAsyncEventCfg_done,
   fun _ _ _ _ _ _ _ _ => execSetFeaturesPushWindows_done,
   fun _ _ takes fabric => ⟨_, execGetFeatures_arbitration takes fabric, _, rfl⟩,
   fun _ _ _ => execAbort_aer,
   fun _ _ => execAsyncEventRequest_held,
   fun _ _ => execKeepAlive_restarts,
   fun _ _ => execKeepAliveExpiry_deletes,
   fun _ _ _ => execCommandCapsule_takes,
   fun _ _ _ => stampedCommand_next⟩

end Sys2Proof.Machine

namespace Sys2Proof.Machine

/-! ## Fabric controllers: votes, properties, Connect (O26) -/

/-! ### Tables -/

theorem tput_tput_same {α : Type} (t : Tbl α) (k : Nat) (v w : α) : tput (tput t k v) k w = tput t k w := by
  induction t with
  | nil => simp [tput]
  | cons e t ih =>
    obtain ⟨j, x⟩ := e
    by_cases below : k < j
    · simp [tput, below]
    · by_cases same : k = j
      · simp [tput, same]
      · simp [tput, below, same, ih]

theorem tadj_tadj_same {α : Type} (k : Nat) (f g : α → α) (t : Tbl α) : tadj k f (tadj k g t) = tadj k (fun v => f (g v)) t := by
  cases listed : tfind t k with
  | none => simp [tadj, listed]
  | some v => simp [tadj, listed, tput_tput_same]

theorem filterMap_tput_congr {α β : Type} {view : Nat × α → Option β} {k : Nat} {v w : α} (same : view (k, v) = view (k, w)) (t : Tbl α) :
    (tput t k v).filterMap view = (tput t k w).filterMap view := by
  induction t with
  | nil => simp [tput, List.filterMap_cons, same]
  | cons e t ih =>
    obtain ⟨j, x⟩ := e
    by_cases below : k < j
    · simp [tput, below, List.filterMap_cons, same]
    · by_cases here : k = j
      · subst here
        simp [tput, List.filterMap_cons, same]
      · simp [tput, below, here, List.filterMap_cons, ih]

/-- Two changes of one entry that agree on what is looked at give the same list of it. -/
theorem filterMap_tadj_congr {α β : Type} {view : Nat × α → Option β} {k : Nat} {f g : α → α} (same : ∀ v, view (k, f v) = view (k, g v))
    (t : Tbl α) : (tadj k f t).filterMap view = (tadj k g t).filterMap view := by
  unfold tadj
  split
  · exact filterMap_tput_congr (same _) t
  · rfl

theorem length_le_length_tput {α : Type} (t : Tbl α) (k : Nat) (v : α) : t.length ≤ (tput t k v).length := by
  induction t with
  | nil => exact Nat.zero_le _
  | cons e t ih =>
    obtain ⟨j, x⟩ := e
    unfold tput
    split
    · exact Nat.le_succ _
    · split
      · exact Nat.le_refl _
      · exact Nat.succ_le_succ ih

/-- A change of an entry leaves whether a table lists more than one, be the table in its canonical form or not. -/
theorem one_lt_length_tadj {α : Type} (k : Nat) (f : α → α) (t : Tbl α) : 1 < (tadj k f t).length ↔ 1 < t.length := by
  unfold tadj
  split
  next v listed =>
    match t with
    | [] => simp [tfind] at listed
    | [(j, w)] =>
      have here : k = j := Decidable.byContradiction fun other => by
        simp [tfind, other] at listed
      simp [tput, here]
    | e :: d :: t =>
      have grows := length_le_length_tput (e :: d :: t) k (f v)
      simp only [List.length_cons] at grows ⊢
      omega
  · exact Iff.rfl

/-! ### What an admin command reads on intake -/

/-- The entry of a fabric controller whose admin queue takes a command at time `now` (R146, R149). -/
def FabCtrl.taking (q : AdminCmd) (now : Nat) (f : FabCtrl) : FabCtrl :=
  { f with katoNs := now, held := f.held ++ [q], queues := tadj 0 (fun x => (x.1, x.2.1, (x.2.2 + 1) % max 1 x.2.1)) f.queues }

theorem State.adminTaken_cmds {q : AdminCmd} (fabric : q.cntlid ≠ 0) (s : State) :
    (s.adminTaken q).cmds = { s.cmds with fab := tadj q.cntlid (FabCtrl.taking q s.now) s.cmds.fab } := by
  unfold State.adminTaken State.adminTake
  rw [if_neg fabric, State.updFab, State.updCmds_cmds, State.bump_cmds, State.katoRestart, State.updFab, State.updCmds_cmds]
  dsimp only
  rw [tadj_tadj_same]
  rfl

theorem State.adminTaken_localPort {q : AdminCmd} (fabric : q.cntlid ≠ 0) (s : State) : (s.adminTaken q).localPort = s.localPort := by
  unfold State.adminTaken State.adminTake
  rw [if_neg fabric]
  exact same_of_touch (g := .localPort) (State.updFab_touch (by decide) (State.bump_touch (by decide)
    (State.katoRestart_touch (by decide) (.refl _ _))))

@[simp] theorem State.adminTaken_modes (q : AdminCmd) (s : State) : (s.adminTaken q).modes = s.modes :=
  same_of_touch (g := .modes) (s.adminTaken_touch q (by decide))

/-- A word object is read from the register file, or DEN_CFG from the Den domain. -/
theorem State.word_congr {s t : State} (regs : t.regs = s.regs) (den : t.den = s.den) (id : Nat) : t.word id = s.word id := by
  unfold State.word
  rw [regs, den]

theorem State.fld_congr {s t : State} (regs : t.regs = s.regs) (den : t.den = s.den) (id hi lo : Nat) : t.fld id hi lo = s.fld id hi lo := by
  unfold State.fld
  rw [State.word_congr regs den]

@[simp] theorem State.adminTaken_fld (q : AdminCmd) (s : State) (id hi lo : Nat) : (s.adminTaken q).fld id hi lo = s.fld id hi lo :=
  State.fld_congr (same_of_touch (g := .regs) (s.adminTaken_touch q (by decide)))
    (same_of_touch (g := .den) (s.adminTaken_touch q (by decide))) id hi lo

/-! ### Votes (R53) -/

/-- The vote of a fabric controller: it has one once it has an I/O queue. -/
def fabVote (f : Nat × FabCtrl) : Option Nat := if f.2.live && decide (1 < f.2.queues.length) then some f.2.vote else none

/-- R53: the state voted for is read from the votes of the fabric controllers, the local port and POWER_CFG. -/
theorem State.votedPs_congr {s t : State} (fab : t.cmds.fab.filterMap fabVote = s.cmds.fab.filterMap fabVote)
    (lp : t.localPort = s.localPort) (floor : t.powerCfgPsFloor = s.powerCfgPsFloor) : t.votedPs = s.votedPs := by
  have votes (u : State) : u.votes = u.cmds.fab.filterMap fabVote ++ if u.localPort.enabled then [u.localPort.vote] else [] := rfl
  unfold State.votedPs
  rw [votes, votes, fab, lp, floor]

/-- R53: a command's intake changes no vote. -/
theorem State.votedPs_adminTaken_updFab {q : AdminCmd} (fabric : q.cntlid ≠ 0) (s : State) (ps : Nat) (last : FabCtrl → Nat) :
    ((s.adminTaken q).updFab q.cntlid fun f => { f with vote := ps, lastOper := last f }).votedPs =
      (s.updFab q.cntlid fun f => { f with vote := ps }).votedPs := by
  refine State.votedPs_congr ?_ (State.adminTaken_localPort fabric s) (State.adminTaken_fld q s _ _ _)
  rw [State.updFab, State.updCmds_cmds, State.adminTaken_cmds fabric]
  dsimp only
  rw [tadj_tadj_same]
  refine filterMap_tadj_congr (fun f => ?_) s.cmds.fab
  simp [fabVote, FabCtrl.taking, one_lt_length_tadj]

/-- R53, R54: where the device stands in the power state voted for, and enters no other, there is nothing to do. -/
theorem State.recomputePs_of_voted {s : State} (noEntry : s.modes.psEntry = none) (voted : s.votedPs = s.modes.nvmePs) : s.recomputePs = s := by
  simp [State.recomputePs, noEntry, voted]

theorem State.shadowFab_votedPs (q : AdminCmd) (s : State) : (s.shadowFab q).votedPs = s.votedPs := by
  have shadow : Touch 67239936 s (s.shadowFab q) := State.shadowFab_touch rfl (.refl _ _)
  refine State.votedPs_congr ?_ (shadow.out .localPort rfl) (State.fld_congr (shadow.out .regs rfl) (shadow.out .den rfl) _ _ _)
  rw [State.shadowFab_cmds]

@[simp] theorem State.shadowFab_modes (q : AdminCmd) (s : State) : (s.shadowFab q).modes = s.modes :=
  same_of_touch (g := .modes) (State.shadowFab_touch (by decide) (.refl _ _))

/-- R53: a vote that leaves the device in its power state completes at once. -/
theorem execSetFeaturesPowerMgmt_stays {q : AdminCmd} {ps : Nat} {s : State} (takes : s.takesAdmin q = true) (fabric : q.cntlid ≠ 0)
    (legal : ps ≤ 2) (noEntry : s.modes.psEntry = none)
    (voted : (s.updFab q.cntlid fun f => { f with vote := ps }).votedPs = s.modes.nvmePs) :
    ∃ t, execSetFeaturesPowerMgmt q ps s = .next t ∧
      ∃ u : State, t = u.adminDone q stOk 0 ∧ (u.fab q.cntlid).vote = ps ∧ u.modes.nvmePs = s.modes.nvmePs := by
  have live := State.adminTaken_live (State.live_of_takesAdmin takes fabric) fabric
  unfold execSetFeaturesPowerMgmt
  rw [State.adminRun_of_takesAdmin _ takes fabric, if_neg (Nat.not_lt.mpr legal)]
  dsimp only
  rw [if_neg fabric]
  have modes {f : FabCtrl → FabCtrl} : (((s.adminTaken q).updFab q.cntlid f).shadowFab q).modes = s.modes :=
    (State.shadowFab_modes q _).trans (State.adminTaken_modes q s)
  rw [State.recomputePs_of_voted (by rw [modes, noEntry])
    (by rw [State.shadowFab_votedPs, State.votedPs_adminTaken_updFab fabric, voted, modes]), modes, noEntry]
  exact ⟨_, rfl, _, rfl, by rw [State.fab_congr (State.shadowFab_cmds _ _), State.fab_updFab live], by rw [modes]⟩

/-- R54: the entry into PS1 ends, whatever is in flight. -/
theorem execPowerStateEntryEnd_one {e : PsEntry} {s : State} (entering : s.modes.psEntry = some e) (one : e.target = 1) :
    ∃ t, execPowerStateEntryEnd s = .next t ∧ t.modes.nvmePs = 1 ∧ t.modes.psEntry = none := by
  refine ⟨s.psNow 1, ?_, by rw [State.psNow_modes], by rw [State.psNow_modes]⟩
  simp [execPowerStateEntryEnd, entering, one]

/-! ### Connect (R144) -/

theorem State.bindQueue_cmds (q : ConnectCmd) (c host : Nat) (s : State) : (s.bindQueue q c host).cmds = s.cmds :=
  same_of_touch (g := .cmds) (State.bindQueue_touch (by decide) (.refl _ _))

theorem execConnect_creates {q : ConnectCmd} {host n : Nat} {s : State} (serves : s.inService = true) (opened : (s.ctx q.ctx).state = 2)
    (unseen : s.adminRecord q.ctx q.qid q.cid q.pos = none) (known : s.hostMatch q.nqn q.hostid = some host) (admin : q.qid = 0)
    (kato : 0 < q.katoMs) (katoMax : q.katoMs ≤ 300000) (flow : q.disableFlow = false) (deep : 0 < q.depth) (shallow : q.depth ≤ 32)
    (alone : s.carriesNone q.ctx = true) (subsys : q.subsysMatch = true) (free : s.freeCntlid = some n) :
    ∃ t, execConnect q s = .next t ∧ ∃ u : State, t = u.connectReply q stOk n ∧
      tfind u.cmds.fab n = some {
        live := true, hostId := host, tenant := (s.host host).tenant, adminCtx := q.ctx, discovery := q.discovery
        katoMs := ceilDiv q.katoMs 100 * 100, katoNs := s.now, queues := [(0, (q.ctx, q.depth, 1 % q.depth))] } := by
  have runs : ¬ (s.inService = false ∨ (s.ctx q.ctx).state ≠ 2) := by simp [serves, opened]
  have valid : ¬ (q.katoMs = 0 ∨ 300000 < q.katoMs ∨ q.disableFlow = true ∨ q.depth = 0 ∨ 32 < q.depth ∨ s.carriesNone q.ctx = false ∨
      (q.subsysMatch = false ∧ q.discovery = false)) := by
    simp [flow, alone, subsys]
    omega
  unfold execConnect
  rw [if_neg runs, unseen]
  dsimp only
  rw [known]
  dsimp only
  rw [if_pos admin, State.connectAdmin, if_neg valid, free]
  refine ⟨_, rfl, _, rfl, ?_⟩
  rw [State.settIfPaired_cmds, State.bindQueue_cmds]
  exact tfind_tput_same _ _ _

/-! ### Properties, Disconnect, Identify, log pages (R147, R154, R155) -/

theorem execPropertyGet_ccOrCsts {q : AdminCmd} {offset : Nat} {s : State} (takes : s.takesAdmin q = true) (fabric : q.cntlid ≠ 0)
    (known : offset = 0x14 ∨ offset = 0x1C) :
    ∃ t, execPropertyGet q offset s = .next t ∧ ∃ u : State,
      t = u.adminDone q stOk (if offset = 0x14 then (s.fab q.cntlid).ccValue else (s.fab q.cntlid).ccEnabled.toNat) := by
  have fab := State.adminTaken_fab (State.live_of_takesAdmin takes fabric) fabric
  refine ⟨_, congrArg Host.Outcome.next (State.adminRun_of_takesAdmin _ takes fabric), s.adminTaken q, ?_⟩
  rw [if_neg fabric, fab]
  obtain rfl | rfl := known <;> rfl

/-- R147: CC with EN = 1 is kept. -/
theorem execPropertySet_enables {q : AdminCmd} {value : Nat} {s : State} (takes : s.takesAdmin q = true) (fabric : q.cntlid ≠ 0)
    (enables : value % 2 = 1) :
    ∃ t, execPropertySet q 0x14 value s = .next t ∧ ∃ u : State, t = u.adminDone q stOk 0 ∧ (u.fab q.cntlid).ccEnabled = true ∧
      (u.fab q.cntlid).ccValue = value % 2 ^ 32 := by
  have live := State.adminTaken_live (State.live_of_takesAdmin takes fabric) fabric
  unfold execPropertySet
  rw [State.adminRun_of_takesAdmin _ takes fabric, if_neg fabric, if_neg (by decide), if_neg (by omega)]
  refine ⟨_, rfl, _, rfl, ?_⟩
  rw [State.fab_updFab live]
  exact ⟨rfl, rfl⟩

theorem execDisconnect_deletes {q : AdminCmd} {s : State} (takes : s.takesAdmin q = true) (fabric : q.cntlid ≠ 0) :
    ∃ t, execDisconnect q s = .next t ∧ ∃ u : State, t = (u.adminDone q stOk 0).deleteFab q.cntlid ∧ (u.fab q.cntlid).live = true :=
  ⟨_, congrArg Host.Outcome.next ((State.adminRun_of_takesAdmin _ takes fabric).trans (if_neg fabric)), _, rfl,
    State.adminTaken_live (State.live_of_takesAdmin takes fabric) fabric⟩

/-- R155: the Identify Controller values are constants but for CMD_CFG. -/
theorem State.adminTaken_identCtrl (q : AdminCmd) (s : State) (c : Nat) : (s.adminTaken q).identCtrl c = s.identCtrl c := by
  simp [State.identCtrl, State.cmdCfgSqMax]

theorem execIdentify_controller {q : AdminCmd} {s : State} (takes : s.takesAdmin q = true) (fabric : q.cntlid ≠ 0) (nsid : Nat) :
    ∃ t, execIdentify q 1 nsid s = .next t ∧
      ∃ u : State, t = (u.adminReport q 4096 (1 :: s.identCtrl q.cntlid)).adminDone q stOk 0 := by
  refine ⟨_, congrArg Host.Outcome.next (State.adminRun_of_takesAdmin _ takes fabric), s.adminTaken q, ?_⟩
  rw [← State.adminTaken_identCtrl q s]
  exact if_pos (Or.inl rfl)

@[simp] theorem State.adminReport_cmds (q : AdminCmd) (len : Nat) (report : List Nat) (s : State) : (s.adminReport q len report).cmds = s.cmds :=
  same_of_touch (g := .cmds) (State.adminReport_touch (by decide) (.refl _ _))

/-- R155: reading the Changed Namespace List clears it. -/
theorem execGetLogPage_changedNs {q : AdminCmd} {s : State} (takes : s.takesAdmin q = true) (fabric : q.cntlid ≠ 0) (nsid : Nat) :
    ∃ t, execGetLogPage q 4 nsid s = .next t ∧
      ∃ u : State, t = u.adminDone q stOk 0 ∧ (u.fab q.cntlid).changedNs = [] ∧ (u.fab q.cntlid).noticed = false := by
  have live := State.adminTaken_live (State.live_of_takesAdmin takes fabric) fabric
  refine ⟨_, congrArg Host.Outcome.next ((State.adminRun_of_takesAdmin _ takes fabric).trans (if_pos rfl)), _, rfl, ?_⟩
  rw [State.fab_updFab (by rw [State.fab_congr (State.adminReport_cmds _ _ _ _), live])]
  exact ⟨rfl, rfl⟩

/-! ### Features (R156) -/

theorem execSetFeaturesArbitration_keeps {q : AdminCmd} {s : State} (takes : s.takesAdmin q = true) (fabric : q.cntlid ≠ 0) (value : Nat) :
    ∃ t, execSetFeaturesArbitration q value false s = .next t ∧ ∃ u : State, t = u.adminDone q stOk 0 ∧
      (u.fab q.cntlid).arbitration = value % 2 ^ 32 := by
  have live := State.adminTaken_live (State.live_of_takesAdmin takes fabric) fabric
  refine ⟨_, congrArg Host.Outcome.next (State.adminRun_of_takesAdmin _ takes fabric), _, rfl, ?_⟩
  rw [State.fab_congr (State.shadowFab_cmds _ _), State.fab_updFab live]

theorem execSetFeaturesNumQueues_reports {q : AdminCmd} {s : State} (takes : s.takesAdmin q = true) (fabric : q.cntlid ≠ 0) (value : Nat) :
    ∃ t, execSetFeaturesNumQueues q value false s = .next t ∧ ∃ u : State, t = u.adminDone q stOk ((s.cmdCfgIoqMax - 1) * 65537) := by
  have most : (s.adminTaken q).cmdCfgIoqMax = s.cmdCfgIoqMax := State.adminTaken_fld q s _ _ _
  refine ⟨_, congrArg Host.Outcome.next (State.adminRun_of_takesAdmin _ takes fabric), (s.adminTaken q).shadowFab q, ?_⟩
  rw [most]
  exact if_pos fabric

/-- Settles O26. That a depth of 1 to 32 is accepted for an admin queue, what a report holds, and the numbers of the status codes are the model's own
readings (logs 78, 36, 28). -/
theorem completesCommandsA : Obligations.CompletesCommandsA :=
  ⟨fun _ _ _ => execSetFeaturesPowerMgmt_stays,
   fun _ _ => execPowerStateEntryEnd_one,
   fun _ _ _ _ => execConnect_creates,
   fun _ _ _ => execPropertyGet_ccOrCsts,
   fun _ _ _ => execPropertySet_enables,
   fun _ _ => execDisconnect_deletes,
   fun _ nsid _ takes fabric => execIdentify_controller takes fabric nsid,
   fun _ nsid _ takes fabric => execGetLogPage_changedNs takes fabric nsid,
   fun _ value _ takes fabric => execSetFeaturesArbitration_keeps takes fabric value,
   fun _ value _ takes fabric => execSetFeaturesNumQueues_reports takes fabric value⟩

end Sys2Proof.Machine

namespace Sys2Proof.Machine

/-! ## Idle levels, Den entry and wake (O25) -/

/-! ### Idle levels (R65) -/

/-- R65: the islands whose work is done close, and the controller is in the idle level. -/
theorem execIdleLevelTimer_descends {level : Nat} {s : State} (idles : s.modes.mode = .m1 ∨ s.modes.mode = .m5)
    (deeper : s.modes.idleLevel < level) (levels : level ≤ 3) (free : s.busyIdle = false) :
    ∃ t, execIdleLevelTimer level s = .next t ∧ t.modes.idleLevel = level ∧ t.modes.mode = s.modes.mode := by
  have closed : ((List.range 16).foldl (fun t i => if t.islandPinned i ∨ thas t.spine.holdQueue i then t else t.closeIsland i) s).modes =
      s.modes :=
    same_of_touch (g := .modes) (foldl_touch (.refl _ _) fun _ _ h => ite_touch h (State.closeIsland_touch (by decide) h))
  refine ⟨_, congrArg Host.Outcome.next (if_pos ⟨idles, deeper, levels, free⟩), rfl, ?_⟩
  rw [State.updModes_modes, closed]

/-! ### Den entry (R57, R58) -/

/-- R58 step 6: with no wake latched the entry ends in M0, and the mode left is kept for the wake. -/
theorem State.denFinish_sleeps {s : State} (left : Mode) (noWake : s.modes.wakeLatched = none) :
    (s.denFinish left).modes.mode = .m0 ∧ (s.denFinish left).modes.lastCause = 0x20 ∧ (s.denFinish left).modes.denLeft = some left := by
  unfold State.denFinish
  dsimp only
  rw [State.enterMode_modes]
  simp only [State.updModes_modes, State.updDen_modes, State.updSpine_modes, State.updCipher_modes, noWake]
  rw [State.enterMode_modes]
  exact ⟨rfl, rfl, rfl⟩

theorem State.denFinish_pair (left : Mode) (s : State) : (s.denFinish left).pair = s.pair :=
  same_of_touch (g := .pair) (State.denFinish_touch (by decide) (.refl _ _))

@[simp] theorem State.abandonPairing_modes (s : State) : s.abandonPairing.modes = s.modes :=
  same_of_touch (g := .modes) (State.abandonPairing_touch (by decide) (.refl _ _))

/-- R58 steps 4 to 6: with DRIVE_OFF = 0 no drive is waited for. -/
theorem State.denCommitPoint_sleeps {s : State} (left : Mode) (keeps : s.denCfgDriveOff = 0) (noWake : s.modes.wakeLatched = none) :
    (s.denCommitPoint left).modes.mode = .m0 ∧ (s.denCommitPoint left).modes.lastCause = 0x20 ∧
      (s.denCommitPoint left).modes.denLeft = some left ∧ (s.denCommitPoint left).pair.beatsStopped = true ∧
      (s.denCommitPoint left).pair.settA = false := by
  unfold State.denCommitPoint
  dsimp only
  rw [if_neg (by simp [keeps]), State.denFinish_pair]
  obtain ⟨mode, cause, kept⟩ := State.denFinish_sleeps left (s := (s.abandonPairing.updNet fun n =>
    { n with ports := tmap (fun _ p => { p with linkUp := false }) n.ports }).updPair fun p =>
    { p with settA := false, settB := false, beatsStopped := true }) (by simp [noWake])
  exact ⟨mode, cause, kept, rfl, rfl⟩

/-- R57, R58: a controller that is not paired passes its commit point at once. -/
theorem execDenEntryStart_alone {partnerIdle : Bool} {s : State} (ready : s.denReady partnerIdle = true) (mode : s.modes.mode = .m2)
    (keeps : s.denCfgDriveOff = 0) (noWake : s.modes.wakeLatched = none) :
    ∃ t, execDenEntryStart partnerIdle s = .next t ∧ t.modes.mode = .m0 ∧ t.modes.lastCause = 0x20 ∧ t.modes.denLeft = some .m2 ∧
      t.pair.beatsStopped = true ∧ t.pair.settA = false := by
  have alone : ¬ s.paired = true := by simp [State.paired, mode]
  unfold execDenEntryStart
  refine ⟨_, congrArg Host.Outcome.next ((if_pos ready).trans (if_neg alone)), ?_⟩
  rw [mode]
  exact State.denCommitPoint_sleeps .m2 keeps noWake

theorem execDenCommit_sleeps {e : DenEntry} {s : State} (entering : s.modes.denEntry = some e) (step : e.entryStep = 3)
    (keeps : s.denCfgDriveOff = 0) (noWake : s.modes.wakeLatched = none) :
    ∃ t, execDenCommit s = .next t ∧ t.modes.mode = .m0 ∧ t.modes.denLeft = some e.fromMode ∧ t.pair.beatsStopped = true := by
  obtain ⟨mode, -, left, beats, -⟩ := State.denCommitPoint_sleeps e.fromMode keeps noWake
  exact ⟨_, by simp [execDenCommit, entering, step], mode, left, beats⟩

theorem execDenCommitTimeout_cancels {e : DenEntry} {s : State} (entering : s.modes.denEntry = some e) (step : e.entryStep = 3) :
    ∃ t, execDenCommitTimeout s = .next t ∧ t.modes.denEntry = none ∧ t.modes.denSaved = false ∧ t.modes.mode = s.modes.mode := by
  have cancelled : s.cancelDen = s.updModes fun q => { q with denEntry := none, denSaved := false } :=
    if_pos (by simp [State.denCancellable, entering, step])
  refine ⟨s.cancelDen, ?_, ?_⟩
  · simp [execDenCommitTimeout, entering, step]
  · rw [cancelled]
    exact ⟨rfl, rfl, rfl⟩

/-- R58, R421: a drive that is not the last one waited for loses its slot power, and the entry waits for the others. -/
theorem State.driveShut_waits {slot : Nat} {e : DenEntry} {s : State} (entering : s.modes.denEntry = some e) (step : e.entryStep = 5)
    (waits : e.drivesWaiting.contains slot = true) (others : dropOne slot e.drivesWaiting ≠ []) :
    (s.driveShut slot).modes.denEntry = some { e with drivesWaiting := dropOne slot e.drivesWaiting } ∧
      (s.driveShut slot).power.slots =
        tmod {} slot (fun q => { q with pState := 0, gateOn := false, enhanced := false, perstHigh := false }) s.power.slots := by
  unfold State.driveShut
  rw [entering]
  dsimp only
  rw [if_pos ⟨step, waits⟩, if_neg others]
  exact ⟨rfl, rfl⟩

/-! ### Wake (R61 to R63) -/

theorem State.wakeBy_powersUp {s : State} (code : Nat) (mode : s.modes.mode = .m0) (den : s.den.seq = .denRunning) :
    (s.wakeBy code).modes.wakeSource = code ∧ (s.wakeBy code).den.pins.corePwrEn = true ∧ (s.wakeBy code).den.pins.settWakeOut = true ∧
      (s.wakeBy code).den.seq = .coreWait := by
  unfold State.wakeBy
  rw [if_pos mode, if_pos den]
  exact ⟨rfl, rfl, rfl, rfl⟩

/-- R62: a wake frame for this controller with its wake code. -/
theorem execWakeFrame_code {f : WakeFrame} {s : State} (mode : s.modes.mode = .m0) (whole : f.fcsGood = true) (ours : f.unicastToUs = true)
    (ether : f.etherType = 0x88B5) (code : f.code = s.denCfgWakeCode) : execWakeFrame f s = .next (s.wakeBy 1) :=
  congrArg Host.Outcome.next ((if_pos ⟨mode, whole, ours⟩).trans (if_pos ⟨ether, code⟩))

theorem execDenWakeTimerExpiry_wakes {s : State} (mode : s.modes.mode = .m0) (timed : s.denCfgWakeTimerMin ≠ 0) :
    execDenWakeTimerExpiry s = .next (s.wakeBy 5) :=
  congrArg Host.Outcome.next (if_pos ⟨mode, timed⟩)

/-! ### The partner's clock (R544) -/

theorem execTimeSample_paired {s : State} (partnerNs : Nat) (paired : s.paired = true) (up : s.settUp = true) :
    execTimeSample partnerNs s = .next (s.updPair fun p => { p with timeOffset := (partnerNs : Int) - (s.now : Int) }) :=
  congrArg Host.Outcome.next (if_pos ⟨paired, up⟩)

/-- Settles O25. A Den entry that waits for no drive is in M0 at once; every wake is the same change of state with its own source. -/
theorem completesBringupAndModesB : Obligations.CompletesBringupAndModesB :=
  ⟨fun _ _ => execIdleLevelTimer_descends,
   fun _ _ => execDenEntryStart_alone,
   fun _ _ => execDenCommitTimeout_cancels,
   fun _ _ _ isSlot entering step waits others =>
     ⟨_, bounded_eq_next (decide_eq_true isSlot), State.driveShut_waits entering step waits others⟩,
   fun _ _ mode den whole ours ether code => ⟨_, execWakeFrame_code mode whole ours ether code, State.wakeBy_powersUp 1 mode den⟩,
   fun _ mode den timed => ⟨_, execDenWakeTimerExpiry_wakes mode timed, State.wakeBy_powersUp 5 mode den⟩,
   fun _ mode den => ⟨_, rfl, State.wakeBy_powersUp 7 mode den⟩,
   fun _ _ => execDenCommit_sleeps,
   fun partnerNs _ paired up => ⟨_, execTimeSample_paired partnerNs paired up, rfl, rfl⟩,
   fun _ _ _ isSlot entering step waits others =>
     ⟨_, bounded_eq_next (decide_eq_true isSlot), State.driveShut_waits entering step waits others⟩⟩

end Sys2Proof.Machine

namespace Sys2Proof.Machine

/-! ## Reset, faults that stop the controller, core voltage and temperatures (O2, O23) -/

/-- Settles O2. The reset values that the spec does not state are the model's own choice (log 6). -/
theorem resetState : Obligations.ResetState :=
  have fuses : fusesSound State.reset.fuses := ⟨by decide, by decide⟩
  have images : imagesSound State.reset.images := ⟨by decide, by decide⟩
  have regs : regsCanonical State.reset := ⟨by decide, fun _ listed => absurd listed List.not_mem_nil⟩
  ⟨by decide, rfl, rfl, fuses, images, regs⟩

/-! ### A reset over sound fuses (R45, R392) -/

/-- R527 step 2: a fuse load that finds nothing wrong changes the slots' classes and the step of bring-up alone. -/
theorem State.fuseLoad_good_touch {s : State} (legal : legalLifeCycle s.fuses.lifeCycle = true) (sure : s.fuses.marginal = false) {m : Nat}
    (hm : Nat.land 8388673 m = 8388673) : Touch m s (s.fuseLoad {}) := by
  have loaded : s.fuseLoad {} = (s.loadClasses.updBoot fun b => { b with bootStep := 2 }).updBoot fun b => { b with bootStep := 3 } := by
    simp [State.fuseLoad, legal, sure]
  rw [loaded]
  exact State.updBoot_touch (sub_trans (by decide) hm) (State.updBoot_touch (sub_trans (by decide) hm)
    (State.loadClasses_touch (sub_trans (by decide) hm) (.refl _ _)))

/-- R16, R45, R392: what a reset over sound fuses leaves; LAST_FAULT is kept (R395). -/
theorem State.resetController_leaves {s : State} (cause : Nat) (legal : legalLifeCycle s.fuses.lifeCycle = true)
    (sure : s.fuses.marginal = false) :
    (s.resetController cause).modes.mode = .m1 ∧ (s.resetController cause).modes.lastCause = cause ∧ (s.resetController cause).cmds = {} ∧
      (s.resetController cause).xport = {} ∧ (s.resetController cause).pair.lastFault = s.pair.lastFault := by
  have loaded : Touch 8388673 ((s.wiped cause).updEnclave fun e => { e with ctxKey := Config.entropy s.fresh % 2 ^ 256 })
      (s.resetController cause) :=
    State.fuseLoad_good_touch (s := (s.wiped cause).updEnclave _) legal sure (by decide)
  have modes : (s.resetController cause).modes = (s.wiped cause).modes := loaded.out .modes rfl
  have pair : (s.resetController cause).pair = (s.wiped cause).pair := loaded.out .pair rfl
  rw [modes, pair]
  exact ⟨rfl, rfl, loaded.out .cmds rfl, loaded.out .xport rfl, rfl⟩

/-- R392: a controller that stops for a fault is reset with cause 0x03. -/
theorem State.stopAndReset_leaves {s : State} (legal : legalLifeCycle s.fuses.lifeCycle = true) (sure : s.fuses.marginal = false) :
    s.stopAndReset.modes.mode = .m1 ∧ s.stopAndReset.modes.lastCause = 0x03 ∧ s.stopAndReset.cmds = {} ∧ s.stopAndReset.xport = {} ∧
      s.stopAndReset.pair.lastFault = s.pair.lastFault :=
  State.resetController_leaves (s := s.stopService) 0x03 legal sure

/-- R537: a core rail out of its range while the core group is on. -/
theorem execRailExcursion_core {rail : Nat} {s : State} (core : 6 ≤ rail) (isRail : rail ≤ 14) (on : s.den.pins.corePwrEn = true) :
    execRailExcursion rail s = .next (s.updDen fun d => { d with railFault := rail }).stopAndReset := by
  unfold execRailExcursion
  rw [bounded_eq_next (by simp; omega), if_neg (by omega), if_neg (by omega), if_pos on]

theorem execRailExcursion_resets {rail : Nat} {s : State} (core : 6 ≤ rail) (isRail : rail ≤ 14) (on : s.den.pins.corePwrEn = true)
    (legal : legalLifeCycle s.fuses.lifeCycle = true) (sure : s.fuses.marginal = false) :
    ∃ t, execRailExcursion rail s = .next t ∧ t.modes.mode = .m1 ∧ t.modes.lastCause = 0x03 ∧ t.cmds = {} ∧ t.xport = {} := by
  obtain ⟨mode, cause, cmds, xport, -⟩ := State.stopAndReset_leaves (s := s.updDen fun d => { d with railFault := rail }) legal sure
  exact ⟨_, execRailExcursion_core core isRail on, mode, cause, cmds, xport⟩

theorem execClockFault_resets {s : State} (legal : legalLifeCycle s.fuses.lifeCycle = true) (sure : s.fuses.marginal = false) :
    ∃ t, execClockFault s = .next t ∧ t.modes.mode = .m1 ∧ t.modes.lastCause = 0x03 ∧ t.cmds = {} ∧ t.xport = {} := by
  obtain ⟨mode, cause, cmds, xport, -⟩ := State.stopAndReset_leaves legal sure
  exact ⟨_, rfl, mode, cause, cmds, xport⟩

theorem State.singleFault_fuses (code : Nat) (s : State) : (s.singleFault code).fuses = s.fuses :=
  same_of_touch (g := .fuses) (State.singleFault_touch (by decide) (.refl _ _))

theorem State.singleFault_lastFault (code : Nat) (s : State) : (s.singleFault code).pair.lastFault = code := by
  have raised : (s.singleFault code).pair = (s.updPair fun p => { p with lastFault := code }).pair :=
    same_of_touch (g := .pair) (State.raise_touch (by decide) (.refl _ _))
  rw [raised]
  rfl

theorem execInternalFault_resets {s : State} (legal : legalLifeCycle s.fuses.lifeCycle = true) (sure : s.fuses.marginal = false) :
    ∃ t, execInternalFault s = .next t ∧ t.modes.mode = .m1 ∧ t.modes.lastCause = 0x03 ∧ t.pair.lastFault = 0x0B ∧ t.cmds = {} := by
  obtain ⟨mode, cause, cmds, -, kept⟩ := State.stopAndReset_leaves (s := s.singleFault 0x0B) (by rw [State.singleFault_fuses, legal])
    (by rw [State.singleFault_fuses, sure])
  exact ⟨_, rfl, mode, cause, kept.trans (State.singleFault_lastFault _ _), cmds⟩

theorem execControlWatchdogExpiry_resets {s : State} (legal : legalLifeCycle s.fuses.lifeCycle = true) (sure : s.fuses.marginal = false) :
    ∃ t, execControlWatchdogExpiry s = .next t ∧ t.modes.mode = .m1 ∧ t.modes.lastCause = 0x03 ∧ t.cmds = {} := by
  obtain ⟨mode, cause, cmds, -⟩ := State.resetController_leaves 0x03 legal sure
  exact ⟨_, rfl, mode, cause, cmds⟩

/-! ### Core voltage (R448, R536) -/

theorem State.setVcore_elec (mv cause : Nat) (s : State) :
    (s.setVcore mv cause).elec = { s.elec with vcoreMv := mv, avsPending := none, avsRetries := 0 } :=
  same_of_touch (g := .elec) (State.marginRecord_touch (by decide) (.refl _ _))

/-- R448: slack below the target raises the setpoint by one step, which the regulator acknowledges. -/
theorem execCpmSample_raises {slackPs : Nat} {s : State} (low : slackPs < s.marginCfgCpmTargetPs) (runs : s.elec.avsFault = false)
    (idle : s.elec.avsPending = none) (room : s.elec.vcoreMv < 860) :
    ∃ t, execCpmSample slackPs true s = .next t ∧ t.elec.vcoreMv = s.elec.vcoreMv + 5 ∧ t.elec.avsRetries = 0 := by
  unfold execCpmSample
  dsimp only
  rw [if_neg (by simp [runs]), if_neg (by simp [idle]), if_pos (decide_eq_true low), if_pos room]
  refine ⟨_, rfl, ?_⟩
  rw [State.stepVcore, if_pos rfl, State.setVcore_elec]
  exact ⟨rfl, rfl⟩

/-- R536: a setpoint that waits is acknowledged. -/
theorem execAvsRetryTimer_acked {mv : Nat} {s : State} (waits : s.elec.avsPending = some mv) :
    ∃ t, execAvsRetryTimer true s = .next t ∧ t.elec.vcoreMv = mv ∧ t.elec.avsPending = none ∧ t.elec.avsRetries = 0 := by
  refine ⟨(s.send .avs [mv] []).setVcore mv 0x01, by simp [execAvsRetryTimer, waits], ?_⟩
  rw [State.setVcore_elec]
  exact ⟨rfl, rfl, rfl⟩

/-! ### Temperatures (R554, R555) -/

/-- R555: the throttle leaves the temperatures and the refresh rate. -/
theorem State.throttleStep_elec (hottest : Nat) (s : State) :
    ∃ throttle throttles cool, (s.throttleStep hottest).elec = { s.elec with throttle := throttle, throttles := throttles, coolSince := cool } := by
  have raised (on : Bool) (data : Nat) (t : State) : ((t.shapersAs on).raise 0x0E04 whole data).elec = t.elec :=
    same_of_touch (g := .elec) (State.raise_touch (by decide) (State.shapersAs_touch (by decide) (.refl _ _)))
  unfold State.throttleStep
  dsimp only
  split
  · split
    · exact ⟨_, _, _, rfl⟩
    · exact ⟨_, _, _, raised _ _ _⟩
  · split
    · split
      · exact ⟨_, _, _, rfl⟩
      · split
        · exact ⟨_, _, _, raised _ _ _⟩
        · exact ⟨_, _, _, rfl⟩
    · exact ⟨_, _, _, rfl⟩

/-- The state once a sample is taken (R554, R555): HBM is refreshed at twice the rate above 85 °C, and at its own rate again below 82 °C. -/
def State.sampled (die stack : Nat) (s : State) : State :=
  s.updElec fun e => { e with
    dieC := die, stackC := stack, refreshHot := if stack > 85 then true else if stack < 82 then false else e.refreshHot }

/-- R555: below every trip threshold a sample is taken, and at most the throttle changes with it. -/
theorem execThermalSample_elec {die stack : List Nat} {s : State} (coolDie : greatest die < 100) (coolStack : greatest stack < 92) :
    ∃ t throttle throttles cool, execThermalSample die stack s = .next t ∧ t.elec =
      { (s.sampled (greatest die) (greatest stack)).elec with throttle := throttle, throttles := throttles, coolSince := cool } := by
  have dieSat : sat 255 (greatest die) = greatest die := if_pos (by omega)
  have stackSat : sat 255 (greatest stack) = greatest stack := if_pos (by omega)
  have dieTrip : 100 ≤ s.tripDie := by unfold State.tripDie; split <;> decide
  have stackTrip : 92 ≤ s.tripStack := by unfold State.tripStack; split <;> decide
  unfold execThermalSample
  rw [dieSat, stackSat]
  dsimp only
  split
  · exact ⟨_, _, _, _, rfl, rfl⟩
  · rw [if_neg (by omega)]
    obtain ⟨throttle, throttles, cool, elec⟩ := (s.sampled (greatest die) (greatest stack)).throttleStep_elec
      (stack.findIdx (· == greatest stack))
    exact ⟨_, throttle, throttles, cool, rfl, elec⟩

theorem execThermalSample_cool {die stack : List Nat} {s : State} (coolDie : greatest die < 100) (coolStack : greatest stack < 92) :
    ∃ t, execThermalSample die stack s = .next t ∧ t.elec.dieC = greatest die ∧ t.elec.stackC = greatest stack ∧
      (85 < greatest stack → t.elec.refreshHot = true) ∧ (greatest stack < 82 → t.elec.refreshHot = false) := by
  obtain ⟨t, throttle, throttles, cool, runs, elec⟩ := execThermalSample_elec (s := s) coolDie coolStack
  refine ⟨t, runs, ?_⟩
  rw [elec]
  exact ⟨rfl, rfl, fun hot => if_pos hot, fun cold => (if_neg (by omega)).trans (if_pos cold)⟩

/-- Settles O23. That the controller stops and is reset within the command that brings the fault is the model's own choice (log 87). -/
theorem completesElectricalB : Obligations.CompletesElectricalB :=
  ⟨fun _ _ => execRailExcursion_resets,
   fun _ => execClockFault_resets,
   fun _ => execInternalFault_resets,
   fun _ => execControlWatchdogExpiry_resets,
   fun _ _ _ low runs idle room acked => acked ▸ execCpmSample_raises low runs idle room,
   fun _ _ => execAvsRetryTimer_acked,
   fun _ _ _ => execThermalSample_cool⟩

end Sys2Proof.Machine

namespace Sys2Proof.Machine

/-! ## Ethernet ports and the admission of frames (O29) -/

/-! ### Bounds of two operands, counters -/

theorem bounded_eq_next_of_lt {a b m n : Nat} {t : State} (ha : a < m) (hb : b < n) : bounded (decide (a < m) && decide (b < n)) t = .next t :=
  bounded_eq_next (Bool.and_eq_true_iff.mpr ⟨decide_eq_true ha, decide_eq_true hb⟩)

/-- The number of a counter within its group is the low five bits of its place, whatever it counts for. -/
theorem cntKey_mod (g i k : Nat) : cntKey g i k % 32 = k % 32 := by
  unfold cntKey
  omega

/-- R511: counting one counter leaves those of other numbers. -/
theorem State.counter_bumpN_other {c d : Nat × Nat} (other : c.2 % 32 ≠ d.2 % 32) (i j n : Nat) (s : State) :
    (s.bumpN d j n).counter c i = s.counter c i := by
  have apart : cntKey c.1 i c.2 ≠ cntKey d.1 j d.2 := fun same => other (by rw [← cntKey_mod c.1 i, same, cntKey_mod])
  unfold State.bumpN State.counter
  split <;> split <;> simp [tget_tmod_other _ _ _ apart]

theorem State.counter_bump_other {c d : Nat × Nat} (other : c.2 % 32 ≠ d.2 % 32) (i j : Nat) (s : State) :
    (s.bump d j).counter c i = s.counter c i :=
  State.counter_bumpN_other other i j 1 s

@[simp] theorem State.bump_net (c : Nat × Nat) (i : Nat) (s : State) : (s.bump c i).net = s.net :=
  same_of_touch (g := .net) (State.bump_touch (by decide) (.refl _ _))

@[simp] theorem State.bump_sent (c : Nat × Nat) (i : Nat) (s : State) : (s.bump c i).sent = s.sent :=
  same_of_touch (g := .sent) (State.bump_touch (by decide) (.refl _ _))

@[simp] theorem State.raise_net (code n data : Nat) (s : State) : (s.raise code n data).net = s.net :=
  same_of_touch (g := .net) (State.raise_touch (by decide) (.refl _ _))

@[simp] theorem State.raise_telem (code n data : Nat) (s : State) : (s.raise code n data).telem = s.telem :=
  same_of_touch (g := .telem) (State.raise_touch (by decide) (.refl _ _))

/-! ### Ports and their classes -/

theorem State.port_congr {s t : State} (net : t.net = s.net) (p : Nat) : t.port p = s.port p := by
  unfold State.port
  rw [net]

theorem State.portClass_congr {s t : State} (net : t.net = s.net) (p c : Nat) : t.portClass p c = s.portClass p c := by
  unfold State.portClass
  rw [State.port_congr net]

@[simp] theorem State.port_updPort_same (p : Nat) (f : Port → Port) (s : State) : (s.updPort p f).port p = f (s.port p) :=
  tget_tmod_same _ p f s.net.ports

@[simp] theorem State.portClass_updClass_same (p c : Nat) (f : ClassState → ClassState) (s : State) :
    (s.updClass p c f).portClass p c = f (s.portClass p c) := by
  simp only [State.portClass, State.updClass, State.port_updPort_same]
  exact tget_tmod_same _ c f _

@[simp] theorem State.updClass_telem (p c : Nat) (f : ClassState → ClassState) (s : State) : (s.updClass p c f).telem = s.telem := rfl

theorem State.lossless_congr {s t : State} (regs : t.regs = s.regs) (den : t.den = s.den) (net : t.net = s.net) (p c : Nat) :
    t.lossless p c = s.lossless p c := by
  unfold State.lossless State.losslessCfg State.portClassCfgLosslessTc
  rw [State.fld_congr regs den, net]

theorem State.lagOf_congr {s t : State} (regs : t.regs = s.regs) (den : t.den = s.den) (p : Nat) : t.lagOf p = s.lagOf p := by
  unfold State.lagOf State.lagCfgMembers
  simp only [State.fld_congr regs den]

/-! ### The arrival of a frame (R59, R65) -/

@[simp] theorem State.frameSeen_regs (s : State) : s.frameSeen.regs = s.regs :=
  same_of_touch (g := .regs) (State.frameSeen_touch (by decide) (.refl _ _))

@[simp] theorem State.frameSeen_blobs (s : State) : s.frameSeen.blobs = s.blobs :=
  same_of_touch (g := .blobs) (State.frameSeen_touch (by decide) (.refl _ _))

@[simp] theorem State.frameSeen_den (s : State) : s.frameSeen.den = s.den :=
  same_of_touch (g := .den) (State.frameSeen_touch (by decide) (.refl _ _))

@[simp] theorem State.frameSeen_net (s : State) : s.frameSeen.net = s.net :=
  same_of_touch (g := .net) (State.frameSeen_touch (by decide) (.refl _ _))

@[simp] theorem State.frameSeen_qos (s : State) : s.frameSeen.qos = s.qos :=
  same_of_touch (g := .qos) (State.frameSeen_touch (by decide) (.refl _ _))

@[simp] theorem State.frameSeen_telem (s : State) : s.frameSeen.telem = s.telem :=
  same_of_touch (g := .telem) (State.frameSeen_touch (by decide) (.refl _ _))

theorem State.frameClass_congr {s t : State} (regs : t.regs = s.regs) (den : t.den = s.den) (blobs : t.blobs = s.blobs) (f : Frame) :
    t.frameClass f = s.frameClass f := by
  unfold State.frameClass State.ccpCfgMgmtVid State.portClassCfgTrust State.portClassCfgPcpMap State.dscpClass
  simp only [State.fld_congr regs den, blobs]

/-! ### The packet buffer (R353, R355) -/

theorem State.counter_storeFrame {rx : Bool} {n num len : Nat} {s t : State} (stored : s.storeFrame rx n num len = some t) (c : Nat × Nat)
    (i : Nat) : t.counter c i = s.counter c i :=
  State.counter_congr (same_of_touch (g := .telem) (State.storeFrame_touch (by decide) (.refl _ _) t stored)) c i

theorem State.counter_pushOut {c : Nat × Nat} (other : c.2 % 32 ≠ cPushoutFrames.2 % 32) (i : Nat) (v : Bool × Nat × Nat) (s : State) :
    (s.pushOut v).counter c i = s.counter c i := by
  unfold State.pushOut
  refine (State.counter_bump_other other i _ _).trans (State.counter_congr (same_of_touch (g := .telem) ?_) c i)
  exact ite_touch (State.setBuf_touch (by decide) (.refl _ _))
    (State.updQos_touch (by decide) (State.updSched_touch (by decide) (State.setBuf_touch (by decide) (.refl _ _))))

theorem State.counter_storePush {c : Nat × Nat} (other : c.2 % 32 ≠ cPushoutFrames.2 % 32) (i : Nat) {rx : Bool} {n num len fuel : Nat}
    {s t : State} (stored : s.storePush rx n num len fuel = some t) : t.counter c i = s.counter c i := by
  induction fuel generalizing s with
  | zero => exact State.counter_storeFrame stored c i
  | succ fuel ih =>
    unfold State.storePush at stored
    split at stored
    next fits => exact Option.some.inj stored ▸ State.counter_storeFrame fits c i
    next =>
      split at stored
      · cases stored
      · exact (ih stored).trans (State.counter_pushOut other i _ s)

/-- R355: storing a frame counts at most the frames it pushes out. -/
theorem State.counter_store {c : Nat × Nat} (other : c.2 % 32 ≠ cPushoutFrames.2 % 32) (i : Nat) {rx : Bool} {n num len : Nat}
    {s t : State} (stored : s.store rx n num len = some t) : t.counter c i = s.counter c i := by
  unfold State.store at stored
  split at stored
  · exact State.counter_storeFrame stored c i
  · exact State.counter_storePush other i stored

/-! ### Frames and PFC (R73, R83, R84, R354) -/

@[simp] theorem State.counter_sendPfc (p c quanta : Nat) (s : State) :
    (s.sendPfc p c quanta).counter cTxPfcFrames (8 * p + c) = sat (2 ^ 64 - 1) (s.counter cTxPfcFrames (8 * p + c) + 1) :=
  State.counter_bump_same _ _ _

theorem State.counter_headroomCheck_rxBytes (p c before i : Nat) (s : State) :
    (s.headroomCheck p c before).counter cRxBytes i = s.counter cRxBytes i := by
  unfold State.headroomCheck State.when
  split
  · exact (State.counter_bump_other (by decide) _ _ _).trans (State.counter_bump_other (by decide) _ _ _)
  · rfl

/-- R73: a frame that is stored is counted with its bytes. -/
theorem State.acceptFrame_counts {f : Frame} {s : State} (hostFrame : f.etherType ≠ 0x88B6) (single : s.lagOf f.port = none)
    (fits : ((s.updQos fun q => { q with nextItem := q.nextItem + 1 }).store true (8 * f.port + s.frameClass f) s.qos.nextItem f.len).isSome = true) :
    (s.acceptFrame f).counter cRxBytes (8 * f.port + s.frameClass f) =
      sat (2 ^ 64 - 1) (s.counter cRxBytes (8 * f.port + s.frameClass f) + f.len) := by
  obtain ⟨t, stored⟩ := Option.isSome_iff_exists.mp fits
  unfold State.acceptFrame
  rw [if_neg (by simp [hostFrame]), if_neg (by simp [single])]
  simp only [stored]
  rw [State.counter_bumpN_same, State.counter_bump_other (by decide), State.counter_headroomCheck_rxBytes,
    State.counter_store (by decide) _ stored]
  rfl

/-- The state in which a whole frame is checked: seen, and counted in the bandwidth windows of its port. -/
def State.frameMeasured (f : Frame) (s : State) : State := s.frameSeen.bwAdd f.port f.len 0

theorem State.frameMeasured_qos (f : Frame) (s : State) : (s.frameMeasured f).qos = s.qos := s.frameSeen_qos

theorem State.frameMeasured_lagOf (f : Frame) (p : Nat) (s : State) : (s.frameMeasured f).lagOf p = s.lagOf p :=
  State.lagOf_congr s.frameSeen_regs s.frameSeen_den p

theorem State.frameMeasured_frameClass (f g : Frame) (s : State) : (s.frameMeasured f).frameClass g = s.frameClass g :=
  State.frameClass_congr s.frameSeen_regs s.frameSeen_den s.frameSeen_blobs g

theorem State.counter_frameMeasured (f : Frame) (s : State) (c : Nat × Nat) (i : Nat) : (s.frameMeasured f).counter c i = s.counter c i :=
  State.counter_congr (t := s.frameSeen) s.frameSeen_telem c i

theorem State.lagRx_of_single {p : Nat} {s : State} (single : s.lagOf p = none) (len : Nat) : s.lagRx p len = s := by
  unfold State.lagRx
  rw [single]

theorem execFrameReceive_counts {f : Frame} {s : State} (isPort : f.port < 16) (up : (s.port f.port).linkUp = true)
    (noHoldup : s.layout.holdup = none) (fcs : f.fcsGood = true) (long : 64 ≤ f.len) (short : f.len ≤ s.portClassCfgMaxFrame f.port)
    (ours : s.destination f.port f.dst f.etherType = 0) (hostFrame : f.etherType ≠ 0x88B6) (single : s.lagOf f.port = none)
    (fits : (((s.frameMeasured f).updQos fun q => { q with nextItem := q.nextItem + 1 }).store true
      (8 * f.port + s.frameClass f) s.qos.nextItem f.len).isSome = true) : ∃ t, execFrameReceive f s = .next t ∧
      t.counter cRxBytes (8 * f.port + s.frameClass f) = sat (2 ^ 64 - 1) (s.counter cRxBytes (8 * f.port + s.frameClass f) + f.len) := by
  have single' : (s.frameMeasured f).lagOf f.port = none := (s.frameMeasured_lagOf f f.port).trans single
  refine ⟨(s.frameMeasured f).acceptFrame f, ?_, ?_⟩
  · have accepted : (s.frameSeen.bwAdd f.port f.len 0).lagRx f.port f.len = s.frameMeasured f := State.lagRx_of_single single' f.len
    unfold execFrameReceive
    rw [bounded_eq_next (decide_eq_true isPort), if_neg (by simp [up, noHoldup])]
    dsimp only
    rw [if_neg (by simp [fcs]), if_neg (by omega), ours, accepted]
    rfl
  · rw [← s.counter_frameMeasured f, ← s.frameMeasured_frameClass f]
    exact State.acceptFrame_counts hostFrame single' (by rw [State.frameMeasured_frameClass, State.frameMeasured_qos]; exact fits)

theorem execPfcXoffRefresh_sends {port cls : Nat} {s : State} (isPort : port < 16) (isClass : cls < 8)
    (sentXoff : (s.portClass port cls).xoffSent = true) (lossless : s.lossless port cls = true) :
    ∃ t, execPfcXoffRefresh port cls s = .next t ∧ t.sent = { kind := .pfc, args := [port, cls, 0xFFFF], data := [] } :: s.sent ∧
      t.counter cTxPfcFrames (8 * port + cls) = sat (2 ^ 64 - 1) (s.counter cTxPfcFrames (8 * port + cls) + 1) := by
  refine ⟨s.sendPfc port cls 0xFFFF, ?_, State.bump_sent _ _ _, State.counter_sendPfc port cls _ s⟩
  unfold execPfcXoffRefresh
  rw [bounded_eq_next_of_lt isPort isClass, if_pos ⟨sentXoff, lossless⟩]

/-- R83: a PFC frame for a class that is not lossless is counted as received and as ignored. -/
theorem State.pfcClass_ignores {p cls : Nat} {s : State} (lossy : s.lossless p cls = false) (rate quanta : Nat) :
    (s.pfcClass p rate cls quanta).counter cRxPfcFrames (8 * p + cls) = sat (2 ^ 64 - 1) (s.counter cRxPfcFrames (8 * p + cls) + 1) ∧
    (s.pfcClass p rate cls quanta).counter cRxPfcIgnored (8 * p + cls) =
      sat (2 ^ 64 - 1) (s.counter cRxPfcIgnored (8 * p + cls) + 1) := by
  have counts (c : Nat × Nat) (i : Nat) : (s.pfcClass p rate cls quanta).counter c i =
      ((s.bump cRxPfcFrames (8 * p + cls)).bump cRxPfcIgnored (8 * p + cls)).counter c i := by
    unfold State.pfcClass
    rw [if_neg (ne_true_of_eq_false lossy)]
    exact State.counter_congr (State.updClass_telem _ _ _ _) c i
  rw [counts, counts, State.counter_bump_other (by decide), State.counter_bump_same, State.counter_bump_same,
    State.counter_bump_other (by decide)]
  exact ⟨rfl, rfl⟩

/-- Of the classes in order, an enable vector of one bit takes one. -/
theorem foldl_range_testBit_two_pow {α : Type} (f : α → Nat → α) (n k : Nat) (a : α) :
    (List.range n).foldl (fun t c => if (2 ^ k).testBit c then f t c else t) a = if k < n then f a k else a := by
  induction n with
  | zero => rfl
  | succ n ih =>
    rw [List.range_succ, List.foldl_append, ih, List.foldl_cons, List.foldl_nil, Nat.testBit_two_pow]
    rcases Nat.lt_trichotomy k n with before | rfl | after
    · rw [if_neg (by simp only [decide_eq_true_eq]; omega), if_pos before, if_pos (by omega)]
    · rw [if_pos (decide_eq_true rfl), if_neg (Nat.lt_irrefl k), if_pos (Nat.lt_succ_self k)]
    · rw [if_neg (by simp only [decide_eq_true_eq]; omega), if_neg (by omega), if_neg (by omega)]

theorem execPfcFrameReceive_ignores {port cls : Nat} (quanta : List Nat) {s : State} (isPort : port < 16) (isClass : cls < 8)
    (up : (s.port port).linkUp = true) (lossy : s.lossless port cls = false) :
    ∃ t, execPfcFrameReceive port quanta (2 ^ cls) s = .next t ∧
      t.counter cRxPfcFrames (8 * port + cls) = sat (2 ^ 64 - 1) (s.counter cRxPfcFrames (8 * port + cls) + 1) ∧
      t.counter cRxPfcIgnored (8 * port + cls) = sat (2 ^ 64 - 1) (s.counter cRxPfcIgnored (8 * port + cls) + 1) := by
  have lossy' : s.frameSeen.lossless port cls = false :=
    (State.lossless_congr s.frameSeen_regs s.frameSeen_den s.frameSeen_net port cls).trans lossy
  refine ⟨s.frameSeen.pfcClass port (s.port port).rate cls (quanta.getD cls 0), ?_, ?_⟩
  · unfold execPfcFrameReceive
    rw [bounded_eq_next (decide_eq_true isPort), if_neg (by simp [up]), foldl_range_testBit_two_pow, if_pos isClass]
  · rw [← State.counter_congr s.frameSeen_telem cRxPfcFrames, ← State.counter_congr s.frameSeen_telem cRxPfcIgnored]
    exact State.pfcClass_ignores lossy' _ _

theorem execPfcWdTrip_trips {port cls : Nat} {s : State} (isPort : port < 16) (isClass : cls < 8) (lossless : s.lossless port cls = true)
    (paused : (s.portClass port cls).pausedUntil ≠ 0) : ∃ t, execPfcWdTrip port cls s = .next t ∧ (t.portClass port cls).wdTripped = true ∧
      (t.portClass port cls).pausedUntil = 0 ∧
      t.counter cPfcWdTrips (8 * port + cls) = sat (2 ^ 64 - 1) (s.counter cPfcWdTrips (8 * port + cls) + 1) := by
  unfold execPfcWdTrip
  rw [bounded_eq_next_of_lt isPort isClass, if_pos ⟨lossless, paused⟩]
  refine ⟨_, rfl, ?_, ?_, (State.counter_congr (State.raise_telem _ _ _ _) _ _).trans (State.counter_bump_same _ _ _)⟩
  · rw [State.portClass_congr ((State.raise_net _ _ _ _).trans (State.bump_net _ _ _)), State.portClass_updClass_same]
  · rw [State.portClass_congr ((State.raise_net _ _ _ _).trans (State.bump_net _ _ _)), State.portClass_updClass_same]

theorem execPfcWdRestore_restores {port cls : Nat} {s : State} (isPort : port < 16) (isClass : cls < 8)
    (tripped : (s.portClass port cls).wdTripped = true) : ∃ t, execPfcWdRestore port cls s = .next t ∧
      t.net.ports = tmod {} port (fun x => { x with classes := tmod {} cls (fun q => { q with wdTripped := false, wdLastReq := 0 }) x.classes })
        s.net.ports :=
  ⟨_, (bounded_eq_next_of_lt isPort isClass).trans (congrArg _ (if_pos tripped)), rfl⟩

/-! ### LLDP and LACP (R77, R91, R95) -/

theorem execLldpReceive_counts {port : Nat} {s : State} (isPort : port < 16) (up : (s.port port).linkUp = true) :
    ∃ t, execLldpReceive port s = .next t ∧ (t.port port).lldpSeen = (s.port port).lldpSeen + 1 ∧ t.regs = s.regs ∧ t.blobs = s.blobs := by
  unfold execLldpReceive
  rw [bounded_eq_next (decide_eq_true isPort), if_neg (by simp [up])]
  refine ⟨_, rfl, ?_, s.frameSeen_regs, s.frameSeen_blobs⟩
  rw [State.port_updPort_same, State.port_congr s.frameSeen_net]

theorem execLacpduReceive_single {port : Nat} (sync collecting distributing : Bool) {s : State} (isPort : port < 16)
    (up : (s.port port).linkUp = true) (single : s.lagOf port = none) :
    ∃ t, execLacpduReceive port sync collecting distributing s = .next t ∧ (t.port port).partnerSync = sync ∧ (t.port port).linkUp = true := by
  unfold execLacpduReceive
  rw [bounded_eq_next (decide_eq_true isPort), if_neg (by simp [up])]
  simp only [single]
  refine ⟨_, rfl, ?_⟩
  rw [State.port_updPort_same, State.port_congr s.frameSeen_net]
  exact ⟨rfl, up⟩

/-- Settles O29. In the clause of PFC_FRAME_RECEIVE the class is lossy, so R83 counts the frame and pauses nothing. -/
theorem completesFabricA : Obligations.CompletesFabricA :=
  ⟨fun _ _ => execFrameReceive_counts,
   fun _ _ _ => execPfcXoffRefresh_sends,
   fun _ _ _ _ => execPfcFrameReceive_ignores _,
   fun _ _ _ isPort isClass => ⟨_, bounded_eq_next_of_lt isPort isClass, rfl⟩,
   fun _ _ _ => execPfcWdTrip_trips,
   fun _ _ _ => execPfcWdRestore_restores,
   fun _ _ => execLldpReceive_counts,
   fun _ sync collecting distributing _ => execLacpduReceive_single sync collecting distributing⟩

end Sys2Proof.Machine

namespace Sys2Proof.Machine

/-! ## Aggregation, gates, egress and links (O30) -/

theorem execLacpPeriodic_one {lag p : Nat} {s : State} (isLag : lag < 8) (members : s.lagMembers lag = [p]) (up : (s.port p).linkUp = true) :
    ∃ t, execLacpPeriodic lag s = .next t ∧ t.sent =
      { kind := .lacpdu, args := [p, (s.port p).syncSent.toNat, (s.port p).collecting.toNat, (s.port p).distributing.toNat], data := [] } ::
        s.sent := by
  unfold execLacpPeriodic
  rw [bounded_eq_next (decide_eq_true isLag), members, List.foldl_cons, List.foldl_nil, if_pos up]
  exact ⟨_, rfl, rfl⟩

theorem execGateIntervalEnd_advances {port : Nat} {s : State} (isPort : port < 16) (up : (s.port port).linkUp = true) :
    ∃ t, execGateIntervalEnd port s = .next t ∧ (t.port port).linkUp = true ∧ (t.port port).gateOpenedNs = s.now ∧
      (t.port port).gateEntry = (if (s.port port).gateEntry + 1 < (s.gateRange port).2 then (s.port port).gateEntry + 1 else 0) := by
  unfold execGateIntervalEnd
  rw [bounded_eq_next (decide_eq_true isPort), if_neg (by simp [up])]
  refine ⟨_, rfl, ?_⟩
  rw [State.port_updPort_same]
  dsimp only
  by_cases more : (s.port port).gateEntry + 1 < (s.gateRange port).2
  · simp [more, up]
  · simp [more, up]

/-- R339: the head of the first strict class is taken where it may be. -/
theorem Sched.pickStrict_head {ok : Nat → QItem → Bool} {c : Sched} {it : QItem} {rest : List QItem}
    (head : tfind c.strict 0 = some (it :: rest)) (may : ok 0 it = true) : c.pickStrict ok = some (0, it) := by
  simp [Sched.pickStrict, tget, head, may]

theorem State.startFrame_sends (p : Nat) (strictClass : Option Nat) (it : QItem) (s : State) :
    tfind (s.startFrame p strictClass it).qos.sending p = some it :=
  tfind_tput_same _ p it

theorem execEgressDispatch_strict {port : Nat} {it : QItem} {rest : List QItem} {s : State} (isPort : port < 16)
    (up : (s.port port).linkUp = true) (free : thas s.qos.sending port = false) (head : tfind (s.sched 0 port).strict 0 = some (it :: rest))
    (eligible : s.frameEligible port it = true) (shaped : s.shaperOk (shaperOfClass 0 0) = true) :
    ∃ t, execEgressDispatch port s = .next t ∧ tfind t.qos.sending port = some it := by
  refine ⟨s.startFrame port (some 0) it, ?_, State.startFrame_sends _ _ _ _⟩
  unfold execEgressDispatch
  rw [bounded_eq_next (decide_eq_true isPort), if_neg (by simp [up, free])]
  dsimp only
  rw [Sched.pickStrict_head head (by simp [eligible, shaped])]

theorem execFrameTransmitEnd_frees {port : Nat} {it : QItem} {s : State} (isPort : port < 16) (sending : tfind s.qos.sending port = some it) :
    ∃ t, execFrameTransmitEnd port it.num s = .next t ∧ t.qos.sending = tdel s.qos.sending port := by
  unfold execFrameTransmitEnd
  rw [bounded_eq_next (decide_eq_true isPort), sending]
  dsimp only
  rw [if_pos rfl]
  have counted : Touch (allBut .qos) ((s.updQos fun q => { q with sending := tdel q.sending port }).freeTx it.num)
      (((((s.updQos fun q => { q with sending := tdel q.sending port }).freeTx it.num).bump cTxFrames (8 * port + it.cls)).bumpN
        cTxBytes (8 * port + it.cls) it.cost).bwAdd port 0 it.cost) :=
    State.bwAdd_touch (by decide) (State.bumpN_touch (by decide) (State.bump_touch (by decide) (.refl _ _)))
  have freed := congrArg (·.sending) (same_of_touch counted)
  split
  · exact ⟨_, rfl, freed⟩
  · exact ⟨_, rfl, freed⟩

/-! ### Links (R71, R94) -/

theorem execPortLinkUp_carries {port rate : Nat} {s : State} (isPort : port < 16) (enabled : s.portEnabled port = true)
    (awake : s.modes.mode ≠ .m0) (trained : rate ≠ 0) (fits : rate ≤ s.cfgRate port)
    (aligned : s.cipher.realignOut.toNat.testBit (port / 4) = false) : ∃ t, execPortLinkUp port rate s = .next t ∧
      (t.port port).linkUp = true ∧ (t.port port).rate = rate ∧ (t.port port).syncSent = true := by
  unfold execPortLinkUp
  rw [bounded_eq_next (decide_eq_true isPort), if_neg (by simp [enabled, awake, trained, fits, aligned])]
  dsimp only
  have raised := s.wakeIdle.port_updPort_same port fun q => { q with
    linkUp := true, rate := rate, collecting := (s.lagOf port).isNone, distributing := (s.lagOf port).isNone, syncSent := true,
    partnerSync := false, classes := [], gateEntry := 0, gateCount := 0, gateOpenedNs := s.now }
  have holds := And.intro (congrArg (·.linkUp) raised) (And.intro (congrArg (·.rate) raised) (congrArg (·.syncSent) raised))
  split
  · exact ⟨_, rfl, holds⟩
  · exact ⟨_, rfl, holds⟩

theorem State.linkLost_single {port : Nat} {s : State} (up : (s.port port).linkUp = true) (single : s.lagOf port = none) :
    s.linkLost port = s.updPort port fun q => { q with linkUp := false, collecting := false, distributing := false, classes := [] } := by
  unfold State.linkLost State.linkGone
  rw [if_neg (by simp [up])]
  simp [single, State.when]

/-! ### Bucket moves (R94) -/

theorem State.lag_congr {s t : State} (net : t.net = s.net) (g : Nat) : t.lag g = s.lag g := by
  unfold State.lag
  rw [net]

@[simp] theorem State.lag_updLag_same (g : Nat) (f : Lag → Lag) (s : State) : (s.updLag g f).lag g = f (s.lag g) :=
  tget_tmod_same _ g f s.net.lags

theorem State.stepCheck_of_noStep {g : Nat} {s : State} (noStep : (s.lag g).lagStep = none) : s.stepCheck g = s := by
  unfold State.stepCheck
  rw [noStep]

theorem State.commitMove_net (g b n : Nat) (s : State) :
    (s.commitMove g b n).net = (s.updLag g fun l => { l with owners := tput l.owners b n, moving := tdel l.moving b }).net :=
  same_of_touch (g := .net) (State.flushHeld_touch (by decide) (.refl _ _))

theorem execBucketMoveCommit_moves {lag bucket n o : Nat} {s : State} (isLag : lag < 8) (isBucket : bucket < 256)
    (moving : tfind (s.lag lag).moving bucket = some n) (owner : tfind (s.lag lag).owners bucket = some o)
    (drained : s.bucketQueued o lag bucket = false) (noStep : (s.lag lag).lagStep = none) :
    ∃ t, execBucketMoveCommit lag bucket s = .next t ∧
      t.net.lags = tmod {} lag (fun l => { l with owners := tput l.owners bucket n, moving := tdel l.moving bucket }) s.net.lags := by
  have noStep' : ((s.commitMove lag bucket n).lag lag).lagStep = none := by
    rw [State.lag_congr (s.commitMove_net lag bucket n), State.lag_updLag_same, noStep]
  refine ⟨s.commitMove lag bucket n, ?_, congrArg (·.lags) (s.commitMove_net lag bucket n)⟩
  unfold execBucketMoveCommit
  rw [bounded_eq_next_of_lt isLag isBucket]
  simp only [moving, owner, drained]
  rw [if_neg (by decide), State.stepCheck_of_noStep noStep']

/-- Settles O30. In the clauses of PORT_LINK_DOWN and BUCKET_MOVE_COMMIT no group and no rate step stands in the way of the change of R94. -/
theorem completesFabricB : Obligations.CompletesFabricB :=
  ⟨fun _ _ _ => execLacpPeriodic_one,
   fun _ _ => execGateIntervalEnd_advances,
   fun _ _ _ _ => execEgressDispatch_strict,
   fun _ _ _ => execFrameTransmitEnd_frees,
   fun _ _ _ => execPortLinkUp_carries,
   fun _ _ isPort up single =>
     ⟨_, (bounded_eq_next (decide_eq_true isPort)).trans (congrArg _ (State.linkLost_single up single)), rfl⟩,
   fun _ _ _ _ _ => execBucketMoveCommit_moves⟩

end Sys2Proof.Machine

namespace Sys2Proof.Machine

/-! ## Transport connections: the ends of their states, timers, revoked windows (O34) -/

/-! ### Contexts -/

@[simp] theorem State.shadowConn_xport (i : Nat) (s : State) :
    (s.shadowConn i).xport = s.xport := State.settIfPaired_xport _ _ _ _

@[simp] theorem State.shadowPos_xport (i : Nat) (rcv snd : BitVec 32) (s : State) :
    (s.shadowPos i rcv snd).xport = s.xport :=
  State.settIfPaired_xport _ _ _ _

@[simp] theorem State.bump_xport (c : Nat × Nat) (i : Nat) (s : State) : (s.bump c i).xport = s.xport :=
  same_of_touch (g := .xport) (State.bump_touch (by decide) (.refl _ _))

@[simp] theorem State.bumpN_xport (c : Nat × Nat) (i n : Nat) (s : State) : (s.bumpN c i n).xport = s.xport :=
  same_of_touch (g := .xport) (State.bumpN_touch (by decide) (.refl _ _))

@[simp] theorem State.sendControl_xport (i : Nat) (k : OutKind) (args : List Nat) (s : State) :
    (s.sendControl i k args).xport = s.xport :=
  same_of_touch (g := .xport) (State.sendControl_touch (by decide) (.refl _ _))

/-! ### ERROR and QUARANTINE (R109) -/

/-- What a connection has not yet sent is no part of its context. -/
theorem State.dropUnsent_ctx (i j : Nat) (s : State) : (s.dropUnsent i).ctx j = s.ctx j := by
  unfold State.dropUnsent
  have dropped (l : List (Nat × Nat)) (t : State) :
      (l.foldl (fun u x => (u.updSched 0 x.1 (Sched.dropItem x.2)).freeTx x.2) t).xport = t.xport :=
    same_of_touch (g := .xport) (foldl_touch (.refl _ _) fun _ _ h => State.freeTx_touch (by decide) (State.updSched_touch (by decide) h))
  exact State.ctx_congr (dropped _ (s.updXport _)) j

/-- R109: a context enters QUARANTINE with its timer running, nothing in flight and no window. -/
theorem State.enterQuarantine_ctx (i : Nat) (s : State) : (s.enterQuarantine i).ctx i = { s.ctx i with
    state := 6, timerKind := 5, timerNs := s.now + ms s.transportCfgQuarMs, flight := [], r2ts := [], windows := [], pushCount := 0
    ackHold := none, msgEnds := [] } := by
  unfold State.enterQuarantine
  rw [State.ctx_congr (State.shadowConn_xport _ _), State.ctx_updCtx_same, State.dropUnsent_ctx]

theorem State.enterQuarantine_quarantined (i : Nat) (s : State) : ((s.enterQuarantine i).ctx i).state = 6 ∧
    ((s.enterQuarantine i).ctx i).timerNs = s.now + ms s.transportCfgQuarMs := by
  rw [State.enterQuarantine_ctx]
  exact ⟨rfl, rfl⟩

theorem State.ctxBusy_congr {s t : State} (slots : t.cmds.slots = s.cmds.slots) (i : Nat) :
    t.ctxBusy i = s.ctxBusy i := by
  unfold State.ctxBusy
  rw [slots]

/-- R109: a context in ERROR stays there while a slot of it is in use, and else goes to QUARANTINE. -/
theorem State.settleCtx_error {i : Nat} {s : State} (error : (s.ctx i).state = 4) :
    ((s.settleCtx i).ctx i).state = if s.ctxBusy i then 4 else 6 := by
  unfold State.settleCtx
  by_cases busy : s.ctxBusy i = true
  · rw [if_pos busy, if_pos busy, error]
  · rw [if_neg busy, if_neg busy]
    exact (congrArg (fun t : State => (t.ctx i).state) (if_pos error)).trans (s.enterQuarantine_quarantined i).1

/-- R109: a context as it enters ERROR, before it is asked whether a command slot is still in use. -/
def State.errorEntered (i : Nat) (s : State) : State :=
  (((s.dropUnsent i).updCtx i fun x => { x with state := 4, timerKind := 0, timerNs := 0, flight := [] }).endSlotsOf i).shadowConn i

theorem State.errorEntered_ctx (i : Nat) (s : State) :
    (s.errorEntered i).ctx i = { s.ctx i with state := 4, timerKind := 0, timerNs := 0, flight := [] } := by
  have ended (t : State) : (t.endSlotsOf i).ctx i = t.ctx i := rfl
  unfold State.errorEntered
  rw [State.ctx_congr (State.shadowConn_xport _ _), ended, State.ctx_updCtx_same, State.dropUnsent_ctx]

theorem State.errorEntered_slots (i : Nat) (s : State) : (s.errorEntered i).cmds.slots = s.cmds.slots := by
  have told (t : State) : (t.shadowConn i).cmds = t.cmds := same_of_touch (g := .cmds) (State.shadowConn_touch (by decide) (.refl _ _))
  have dropped : (s.dropUnsent i).cmds = s.cmds := same_of_touch (g := .cmds) (State.dropUnsent_touch (by decide) (.refl _ _))
  unfold State.errorEntered
  rw [told, ← dropped]
  rfl

theorem State.ctxError_eq {i : Nat} {s : State} (live : ¬((s.ctx i).state = 0 ∨ (s.ctx i).state = 4 ∨ (s.ctx i).state = 6)) :
    s.ctxError i = (s.errorEntered i).settleCtx i := if_neg live

/-- R109, R129: a fatal error of an OPEN connection puts it into ERROR, and into QUARANTINE at once where no command slot is in use. -/
theorem State.ctxError_state {i : Nat} {s : State} (opened : (s.ctx i).state = 2) :
    ((s.ctxError i).ctx i).state = if s.ctxBusy i then 4 else 6 := by
  rw [State.ctxError_eq (by simp [opened]), State.settleCtx_error (by rw [State.errorEntered_ctx]), State.ctxBusy_congr (s.errorEntered_slots i)]

theorem execH2ctermreqReceive_fails {i : Nat} {s : State} (index : i < 2097152) (tcp : (s.ctx i).kind = 2) (opened : (s.ctx i).state = 2) :
    ∃ t, execH2ctermreqReceive i s = .next t ∧ ∃ u : State, t = u.after i ∧ (u.ctx i).state = (if s.ctxBusy i then 4 else 6) :=
  ⟨_, (bounded_eq_next (decide_eq_true index)).trans (congrArg _ (if_pos tcp)), _, rfl, State.ctxError_state opened⟩

theorem execOpeningTimeout_quarantines {i : Nat} {s : State} (index : i < 2097152) (opening : (s.ctx i).state = 1) :
    ∃ t, execOpeningTimeout i s = .next t ∧ (t.ctx i).state = 6 ∧ (t.ctx i).timerNs = s.now + ms s.transportCfgQuarMs :=
  ⟨_, (bounded_eq_next (decide_eq_true index)).trans (congrArg _ (if_pos opening)), s.enterQuarantine_quarantined i⟩

theorem execDrainingCloseTimeout_quarantines {i : Nat} {s : State} (index : i < 2097152) (draining : (s.ctx i).state = 3)
    (closing : (s.ctx i).closeSent = true) :
    ∃ t, execDrainingCloseTimeout i s = .next t ∧ (t.ctx i).state = 6 ∧ (t.ctx i).timerNs = s.now + ms s.transportCfgQuarMs :=
  ⟨_, (bounded_eq_next (decide_eq_true index)).trans (congrArg _ (if_pos ⟨draining, closing⟩)), s.enterQuarantine_quarantined i⟩

theorem execQuarantineEnd_frees {i : Nat} {s : State} (index : i < 2097152) (quarantined : (s.ctx i).state = 6) :
    ∃ t, execQuarantineEnd i s = .next t ∧ t.xport.ctx = tset {} s.xport.ctx i { ctxGen := (s.ctx i).ctxGen } ∧
      t.xport.flowTags = tdel s.xport.flowTags i := by
  refine ⟨_, (bounded_eq_next (decide_eq_true index)).trans (congrArg _ (if_pos quarantined)), ?_⟩
  rw [State.shadowConn_xport]
  exact ⟨rfl, rfl⟩

/-! ### Retransmission (R121, R130) -/

/-- R132: a loss changes the windows of a connection and its epoch. -/
theorem State.onLoss_keeps {β : Type} {view : Ctx → β}
    (keeps : ∀ c half cwnd cwr, view { c with ssthresh := half, cwnd := cwnd, epochLoss := true, cwrToSend := cwr } = view c)
    (i : Nat) (timeout : Bool) (s : State) : view ((s.onLoss i timeout).ctx i) = view (s.ctx i) := by
  unfold State.onLoss
  dsimp only
  split
  · rfl
  · rw [State.ctx_updCtx_same, keeps]

/-- R121, R130: what is sent again is marked in flight, and counted. -/
theorem State.resendFrom_keeps {β : Type} {view : Ctx → β}
    (keeps : ∀ c flight counters, view { c with flight := flight, counters := counters } = view c) (i from' : Nat) (s : State) :
    view ((s.resendFrom i from').ctx i) = view (s.ctx i) := by
  have emitted (l : List (Nat × Nat × Nat)) (t : State) :
      (l.foldl (fun v f => v.emitMessage i (s.ctx i) f.2.1) t).xport = t.xport :=
    same_of_touch (g := .xport) (foldl_touch (.refl _ _) fun _ _ h => State.emitMessage_touch (by decide) h)
  unfold State.resendFrom
  dsimp only
  rw [State.ctx_congr (s := State.updCtx i _ s) (by rw [State.send, State.updSent_xport, State.bumpN_xport, emitted]), State.ctx_updCtx_same, keeps]

/-- R121, R130: a retransmission within the limit counts once in RETRIES, starts the timer anew and leaves the state of the connection. -/
theorem State.retry_ctx {i from' limit : Nat} {s : State} (within : (s.ctx i).retries < limit) (timeout : Bool) :
    ((s.retry i from' limit timeout).ctx i).retries = (s.ctx i).retries + 1 ∧ ((s.retry i from' limit timeout).ctx i).timerKind = 1 ∧
      ((s.retry i from' limit timeout).ctx i).state = (s.ctx i).state := by
  have view := State.resendFrom_keeps (view := fun c : Ctx => (c.retries, c.timerKind, c.state)) (fun _ _ _ => rfl) i from'
    ((s.updCtx i fun x => { x with retries := x.retries + 1, timerKind := 1, timerNs := s.now + s.rtoOf x }).onLoss i timeout)
  rw [State.onLoss_keeps (view := fun c : Ctx => (c.retries, c.timerKind, c.state)) (fun _ _ _ _ => rfl), State.ctx_updCtx_same] at view
  obtain ⟨retries, rest⟩ := Prod.mk.inj view
  obtain ⟨timer, state⟩ := Prod.mk.inj rest
  unfold State.retry
  rw [if_neg (by omega)]
  exact ⟨retries, timer, state⟩

theorem execTcpRtoExpiry_retries {i : Nat} {s : State} (index : i < 2097152) (tcp : (s.ctx i).kind = 2) (opened : (s.ctx i).state = 2)
    (flying : (s.ctx i).flight ≠ []) (within : (s.ctx i).retries < s.transportCfgTcpRetries) :
    ∃ t, execTcpRtoExpiry i s = .next t ∧ ∃ u : State, t = u.after i ∧ (u.ctx i).retries = (s.ctx i).retries + 1 ∧
      (u.ctx i).timerNs = s.now + (u.ctx i).rto := by
  obtain ⟨retries, -, state⟩ := State.retry_ctx (from' := (s.ctx i).sndUna.toNat) within true
  unfold execTcpRtoExpiry
  dsimp only
  rw [bounded_eq_next (decide_eq_true index), if_pos ⟨tcp, .inl opened, flying⟩, if_pos (.inl (state.trans opened))]
  refine ⟨_, rfl, _, rfl, ?_⟩
  rw [State.ctx_updCtx_same]
  exact ⟨retries, rfl⟩

/-! ### Acknowledgements (R128, R138) -/

theorem State.sendAck_keeps {β : Type} {view : Ctx → β} (keeps : ∀ c, view { c with unackedSegs := 0 } = view c) (i : Nat) (s : State) :
    view ((s.sendAck i).ctx i) = view (s.ctx i) := by
  unfold State.sendAck
  rw [State.ctx_updCtx_same, keeps, State.ctx_congr (State.sendControl_xport _ _ _ _)]

/-- R138: how far a connection acknowledges changes no more of its context than this. -/
theorem State.advanceAck_keeps {β : Type} {view : Ctx → β}
    (keeps : ∀ c hold acked ends segs, view { c with ackHold := hold, rcvAcked := acked, msgEnds := ends, unackedSegs := segs } = view c)
    (i : Nat) (s : State) : view ((s.advanceAck i).ctx i) = view (s.ctx i) := by
  have acked (e : BitVec 32) (t : State) : view ((t.setAcked i e).ctx i) = view (t.ctx i) := by
    unfold State.setAcked
    rw [State.sendAck_keeps fun c => keeps c c.ackHold c.rcvAcked c.msgEnds 0, State.ctx_updCtx_same]
    exact keeps _ _ _ _ _
  have held (hold : Option (BitVec 32)) : view ((s.updCtx i fun x => { x with ackHold := hold }).ctx i) = view (s.ctx i) := by
    rw [State.ctx_updCtx_same]
    exact keeps _ _ _ _ _
  unfold State.advanceAck
  dsimp only
  split
  · exact held _
  · split
    · rw [State.ctx_congr (State.shadowPos_xport _ _ _ _)]
      exact held _
    · rw [State.ctx_congr (State.shadowPos_xport _ _ _ _), acked]
      exact held _

theorem execDelayedAckTimer_acks {i : Nat} {s : State} (index : i < 2097152) (tcp : (s.ctx i).kind = 2) (opened : (s.ctx i).state = 2)
    (owed : 0 < (s.ctx i).unackedSegs) : ∃ t, execDelayedAckTimer i s = .next t ∧ (t.ctx i).unackedSegs = 0 := by
  refine ⟨_, (bounded_eq_next (decide_eq_true index)).trans (congrArg _ (if_pos ⟨tcp, .inl opened, owed⟩)), ?_⟩
  rw [State.ackNow, State.ctx_updCtx_same]

/-! ### Push windows (R126, R127) -/

theorem execPushHoldExpiry_revokes {i w : Nat} {s : State} (index : i < 2097152) (window : w < 64) (held : (ctxWindow (s.ctx i) w).data = true)
    (unused : (ctxWindow (s.ctx i) w).wState ≠ 1) : ∃ t, execPushHoldExpiry i w s = .next t ∧
      ctxWindow (t.ctx i) w = { wState := 0, gen := ((ctxWindow (s.ctx i) w).gen + 1) % 32 } := by
  refine ⟨_, (bounded_eq_next_of_lt index window).trans (congrArg _ (if_pos ⟨held, unused⟩)), ?_⟩
  rw [State.advanceAck_keeps (view := fun c => ctxWindow c w) (fun _ _ _ _ _ => rfl), State.ctx_congr (State.bump_xport _ _ _), State.revoke,
    State.ctx_updCtx_same]
  simp [ctxWindow, tget]

/-- Settles O34. -/
theorem completesTransportsC : Obligations.CompletesTransportsC :=
  ⟨fun _ _ => execH2ctermreqReceive_fails,
   fun _ _ => execTcpRtoExpiry_retries,
   fun _ _ => execDelayedAckTimer_acks,
   fun _ _ => execOpeningTimeout_quarantines,
   fun _ _ => execDrainingCloseTimeout_quarantines,
   fun _ _ => execQuarantineEnd_frees,
   fun _ _ _ => execPushHoldExpiry_revokes⟩

end Sys2Proof.Machine

namespace Sys2Proof.Machine

/-! ## What the progress of commands leaves alone (O32, O33, O43)

`exec` ends with `State.after`: the commands in hand go on as far as they can. None of that hears a
packet for a context, or confirms or ends the loss of the partner. One lemma per operation, in the
order of the model: first what touches neither group, then what changes other parts of them. -/

/-- The groups that hold neither the contexts nor the pair. -/
abbrev besideContextsAndPair : Nat := 2 ^ 28 - 1 - 2 ^ Grp.num .xport - 2 ^ Grp.num .pair

/-- What the progress of commands leaves alone: whether partner loss is confirmed, the takeovers
counted, and of each context SND_UNA and whether a CNP came in its epoch. -/
def State.standing (s : State) : (Bool × Nat) × (Nat → BitVec 32 × Bool) :=
  ((s.pair.lost, s.pair.takeovers), fun i => ((s.ctx i).sndUna, (s.ctx i).epochCnp))

theorem State.standing_of_touch {s t : State} (h : Touch besideContextsAndPair s t) : t.standing = s.standing := by
  have xport : t.xport = s.xport := h.out .xport (by decide)
  have pair : t.pair = s.pair := h.out .pair (by decide)
  unfold State.standing State.ctx
  rw [xport, pair]

@[simp] theorem State.standing_ite {c : Prop} [Decidable c] (a b : State) :
    (if c then a else b).standing = if c then a.standing else b.standing :=
  apply_ite _ _ _ _

@[simp] theorem State.standing_when {f : State → State} (keeps : ∀ t, (f t).standing = t.standing) (b : Bool) (s : State) :
    (s.when b f).standing = s.standing := by
  unfold State.when
  split
  · exact keeps s
  · rfl

@[simp] theorem State.standing_foldl {α : Type} {f : State → α → State} (keeps : ∀ t x, (f t x).standing = t.standing)
    (l : List α) (s : State) :
    (l.foldl f s).standing = s.standing := by
  induction l generalizing s with
  | nil => rfl
  | cons x xs ih => exact (ih _).trans (keeps s x)

@[simp] theorem State.standing_foldl_snd {α β : Type} {f : β × State → α → β × State} (keeps : ∀ a x, (f a x).2.standing = a.2.standing)
    (l : List α) (a : β × State) : (l.foldl f a).2.standing = a.2.standing := by
  induction l generalizing a with
  | nil => rfl
  | cons x xs ih => exact (ih _).trans (keeps a x)

@[simp] theorem State.updXport_standing {f : Xport → Xport} (keeps : ∀ x, (f x).ctx = x.ctx) (s : State) :
    (s.updXport f).standing = s.standing := by
  unfold State.standing State.ctx
  rw [State.updXport_xport, keeps]
  rfl

@[simp] theorem State.updCtx_standing (i : Nat) {f : Ctx → Ctx}
    (keeps : ∀ c, (f c).sndUna = c.sndUna ∧ (f c).epochCnp = c.epochCnp) (s : State) :
    (s.updCtx i f).standing = s.standing := by
  refine Prod.ext rfl (funext fun j => ?_)
  by_cases same : j = i
  · subst same
    exact Prod.ext ((congrArg (·.sndUna) (s.ctx_updCtx_same j f)).trans (keeps _).1)
      ((congrArg (·.epochCnp) (s.ctx_updCtx_same j f)).trans (keeps _).2)
  · exact congrArg (fun c : Ctx => (c.sndUna, c.epochCnp)) (tget_tmod_other ({} : Ctx) f s.xport.ctx same)

@[simp] theorem State.updPair_standing {f : Pair → Pair} (keeps : ∀ p, (f p).lost = p.lost ∧ (f p).takeovers = p.takeovers) (s : State) :
    (s.updPair f).standing = s.standing := Prod.ext (Prod.ext (keeps _).1 (keeps _).2) rfl

@[simp] theorem State.updExtent_standing (rec : Nat) (f : Extent → Extent) (s : State) :
    (s.updExtent rec f).standing = s.standing :=
  State.standing_of_touch (State.updExtent_touch (by decide) (.refl _ _))

@[simp] theorem State.bump_standing (c : Nat × Nat) (i : Nat) (s : State) : (s.bump c i).standing = s.standing :=
  State.standing_of_touch (State.bump_touch (by decide) (.refl _ _))

@[simp] theorem State.askStep_standing (h g : Nat) (s : State) : (s.askStep h g).standing = s.standing :=
  State.standing_of_touch (State.askStep_touch (by decide) (.refl _ _))

@[simp] theorem State.addOvl_standing (e : OvlEntry) (s : State) : (s.addOvl e).standing = s.standing :=
  State.standing_of_touch (State.addOvl_touch (by decide) (.refl _ _))

@[simp] theorem State.goCheck_standing (n : Nat) (s : State) : (s.goCheck n).standing = s.standing :=
  State.standing_of_touch (State.goCheck_touch (by decide) (.refl _ _))

@[simp] theorem State.claimExtents_standing (s : State) : s.claimExtents.standing = s.standing :=
  State.standing_of_touch (State.claimExtents_touch (by decide) (.refl _ _))

@[simp] theorem State.enterPart_standing (kind slot holder h : Nat) (stamp : BitVec 64) (first n : Nat) (partials : List Nat) (crossing : Bool)
    (s : State) : (s.enterPart kind slot holder h stamp first n partials crossing).2.standing = s.standing :=
  State.standing_of_touch (State.enterPart_touch (by decide) (.refl _ _))

@[simp] theorem State.submitRun_standing (cls : Option Nat) (tenant : Nat) (c : DriveCmd) (s : State) :
    (s.submitRun cls tenant c).standing = s.standing :=
  State.standing_of_touch (State.submitRun_touch (by decide) (.refl _ _))

@[simp] theorem State.countDone_standing (n : Nat) (s : State) : (s.countDone n).standing = s.standing :=
  State.standing_of_touch (State.countDone_touch (by decide) (.refl _ _))

@[simp] theorem State.pinReads_standing (h : Nat) (stamp : BitVec 64) (s : State) :
    (s.pinReads h stamp).standing = s.standing :=
  State.standing_of_touch (State.pinReads_touch (by decide) (.refl _ _))

@[simp] theorem State.updSlot_standing (n : Nat) (f : Slot → Slot) (s : State) :
    (s.updSlot n f).standing = s.standing :=
  State.standing_of_touch (State.updSlot_touch (by decide) (.refl _ _))

@[simp] theorem State.sendControl_standing (i : Nat) (k : OutKind) (args : List Nat) (s : State) :
    (s.sendControl i k args).standing = s.standing :=
  State.standing_of_touch (State.sendControl_touch (by decide) (.refl _ _))

@[simp] theorem State.countCheck_standing (h blk : Nat) (r : ReadRes) (b : Bytes) (s : State) :
    (s.countCheck h blk r b).standing = s.standing :=
  State.standing_of_touch (State.countCheck_touch (by decide) (.refl _ _))

@[simp] theorem State.freeTx_standing (num : Nat) (s : State) : (s.freeTx num).standing = s.standing :=
  State.standing_of_touch (State.freeTx_touch (by decide) (.refl _ _))

@[simp] theorem State.reserve_standing (n : Nat) (s : State) : (s.reserve n).standing = s.standing :=
  State.standing_of_touch (State.reserve_touch (by decide) (.refl _ _))

@[simp] theorem State.dropReads_standing (h : Nat) (stamp : BitVec 64) (s : State) :
    (s.dropReads h stamp).standing = s.standing :=
  State.standing_of_touch (State.dropReads_touch (by decide) (.refl _ _))

@[simp] theorem State.updLayout_standing (f : Layout → Layout) (s : State) :
    (s.updLayout f).standing = s.standing := rfl

@[simp] theorem State.stage_standing (n k : Nat) (s : State) : (s.stage n k).standing = s.standing :=
  State.standing_of_touch (State.stage_touch (by decide) (.refl _ _))

@[simp] theorem State.psEffects_standing (ps : Nat) (s : State) : (s.psEffects ps).standing = s.standing :=
  State.standing_of_touch (State.psEffects_touch (by decide) (.refl _ _))

@[simp] theorem State.updPool_standing (n : Nat) (f : Pool → Pool) (s : State) :
    (s.updPool n f).standing = s.standing :=
  State.standing_of_touch (State.updPool_touch (by decide) (.refl _ _))

@[simp] theorem State.applyActivate_standing (h g : Nat) (s : State) : (s.applyActivate h g).standing = s.standing :=
  State.standing_of_touch (State.applyActivate_touch (by decide) (.refl _ _))

@[simp] theorem State.updFab_standing (c : Nat) (f : FabCtrl → FabCtrl) (s : State) :
    (s.updFab c f).standing = s.standing :=
  State.standing_of_touch (State.updFab_touch (by decide) (.refl _ _))

@[simp] theorem State.updCipher_standing (f : Cipher → Cipher) (s : State) :
    (s.updCipher f).standing = s.standing := rfl

@[simp] theorem State.adoptMirror_standing (s : State) : s.adoptMirror.standing = s.standing :=
  State.standing_of_touch (State.adoptMirror_touch (by decide) (.refl _ _))

@[simp] theorem State.claimReads_standing (old : State) (s : State) : (State.claimReads old s).standing = s.standing :=
  State.standing_of_touch (State.claimReads_touch (by decide) (.refl _ _))

@[simp] theorem State.updCons_standing (f : Cons → Cons) (s : State) : (s.updCons f).standing = s.standing := rfl

@[simp] theorem State.trimRegions_standing (s : State) : s.trimRegions.standing = s.standing :=
  State.standing_of_touch (State.trimRegions_touch (by decide) (.refl _ _))

@[simp] theorem State.touchKey_standing (h g : Nat) (s : State) : (s.touchKey h g).standing = s.standing :=
  State.standing_of_touch (State.touchKey_touch (by decide) (.refl _ _))

@[simp] theorem State.updSched_standing (point inst : Nat) (f : Sched → Sched) (s : State) :
    (s.updSched point inst f).standing = s.standing :=
  State.standing_of_touch (State.updSched_touch (by decide) (.refl _ _))

@[simp] theorem State.adoptRecords_standing (s : State) : s.adoptRecords.standing = s.standing :=
  State.standing_of_touch (State.adoptRecords_touch (by decide) (.refl _ _))

@[simp] theorem State.submit_standing (tenant : Nat) (c : DriveCmd) (s : State) :
    (s.submit tenant c).standing = s.standing :=
  State.standing_of_touch (State.submit_touch (by decide) (.refl _ _))

@[simp] theorem State.raise_standing (code n data : Nat) (s : State) : (s.raise code n data).standing = s.standing :=
  State.standing_of_touch (State.raise_touch (by decide) (.refl _ _))

@[simp] theorem State.emitMessage_standing (i : Nat) (c : Ctx) (payload : Nat) (s : State) :
    (s.emitMessage i c payload).standing = s.standing :=
  State.standing_of_touch (State.emitMessage_touch (by decide) (.refl _ _))

@[simp] theorem State.updTelem_standing (f : Telem → Telem) (s : State) : (s.updTelem f).standing = s.standing := rfl

@[simp] theorem State.drivesAwake_standing (s : State) : s.drivesAwake.standing = s.standing :=
  State.standing_of_touch (State.drivesAwake_touch (by decide) (.refl _ _))

@[simp] theorem State.putReplay_standing (r : Replay) (s : State) : (s.putReplay r).standing = s.standing :=
  State.standing_of_touch (State.putReplay_touch (by decide) (.refl _ _))

@[simp] theorem State.updRead_standing (n blk : Nat) (f : BlkRead → BlkRead) (s : State) :
    (s.updRead n blk f).standing = s.standing :=
  State.standing_of_touch (State.updRead_touch (by decide) (.refl _ _))

@[simp] theorem State.takeoverGens_standing (s : State) : s.takeoverGens.standing = s.standing :=
  State.standing_of_touch (State.takeoverGens_touch (by decide) (.refl _ _))

@[simp] theorem State.blkDone_standing (n blk : Nat) (plain : Bytes) (s : State) :
    (s.blkDone n blk plain).standing = s.standing :=
  State.standing_of_touch (State.blkDone_touch (by decide) (.refl _ _))

@[simp] theorem State.readPos_standing (n blk owner pool stripe pos b : Nat) (s : State) :
    (s.readPos n blk owner pool stripe pos b).standing = s.standing :=
  State.standing_of_touch (State.readPos_touch (by decide) (.refl _ _))

@[simp] theorem State.lpPost_standing (qid cid status dw0 : Nat) (s : State) :
    (s.lpPost qid cid status dw0).standing = s.standing :=
  State.standing_of_touch (State.lpPost_touch (by decide) (.refl _ _))

@[simp] theorem State.foxStamp_standing (stamp : Nat) (s : State) : (s.foxStamp stamp).standing = s.standing :=
  State.standing_of_touch (State.foxStamp_touch (by decide) (.refl _ _))

@[simp] theorem State.rule3Update_standing (s : State) : s.rule3Update.standing = s.standing :=
  State.standing_of_touch (State.rule3Update_touch (by decide) (.refl _ _))

@[simp] theorem State.countPi_standing (h st : Nat) (out : Bool) (s : State) :
    (s.countPi h st out).standing = s.standing :=
  State.standing_of_touch (State.countPi_touch (by decide) (.refl _ _))

@[simp] theorem State.takeLock_standing (n stripe who : Nat) (s : State) :
    (s.takeLock n stripe who).2.standing = s.standing :=
  State.standing_of_touch (State.takeLock_touch (by decide) (.refl _ _))

@[simp] theorem State.updGen_standing (h g : Nat) (f : KeyGen → KeyGen) (s : State) :
    (s.updGen h g f).standing = s.standing :=
  State.standing_of_touch (State.updGen_touch (by decide) (.refl _ _))

@[simp] theorem State.bumpN_standing (c : Nat × Nat) (i n : Nat) (s : State) : (s.bumpN c i n).standing = s.standing :=
  State.standing_of_touch (State.bumpN_touch (by decide) (.refl _ _))

@[simp] theorem State.updModes_standing (f : Modes → Modes) (s : State) : (s.updModes f).standing = s.standing := rfl

@[simp] theorem State.send_standing (k : OutKind) (args : List Nat) (data : Bytes) (s : State) :
    (s.send k args data).standing = s.standing :=
  State.standing_of_touch (State.send_touch (by decide) (.refl _ _))

@[simp] theorem State.countWait_standing (kind h waits : Nat) (s : State) :
    (s.countWait kind h waits).standing = s.standing :=
  State.standing_of_touch (State.countWait_touch (by decide) (.refl _ _))

@[simp] theorem State.dropDeferred_standing (n : Nat) (s : State) : (s.dropDeferred n).standing = s.standing :=
  State.standing_of_touch (State.dropDeferred_touch (by decide) (.refl _ _))

@[simp] theorem State.updCmds_standing (f : Cmds → Cmds) (s : State) : (s.updCmds f).standing = s.standing := rfl

@[simp] theorem State.foldWrite_standing (k : Nat) (e : OvlEntry) (s : State) :
    (s.foldWrite k e).standing = s.standing :=
  State.standing_of_touch (State.foldWrite_touch (by decide) (.refl _ _))

@[simp] theorem State.takeAddresses_standing (s : State) : s.takeAddresses.standing = s.standing :=
  State.standing_of_touch (State.takeAddresses_touch (by decide) (.refl _ _))

@[simp] theorem State.unqueue_standing (n : Nat) (s : State) : (s.unqueue n).standing = s.standing :=
  State.standing_of_touch (State.unqueue_touch (by decide) (.refl _ _))

@[simp] theorem State.askKey_standing (h g : Nat) (s : State) : (s.askKey h g).standing = s.standing :=
  State.standing_of_touch (State.askKey_touch (by decide) (.refl _ _))

@[simp] theorem State.updPlan_standing (i slot : Nat) (f : SendPlan → SendPlan) (s : State) :
    (s.updPlan i slot f).standing = s.standing := by
  simp [State.updPlan]

@[simp] theorem State.settSend_standing (kind : Nat) (args : List Nat) (data : Bytes) (s : State) :
    (s.settSend kind args data).standing = s.standing := by
  simp [State.settSend]

@[simp] theorem State.settIfPaired_standing (kind : Nat) (args : List Nat) (data : Bytes) (s : State) :
    (s.settIfPaired kind args data).standing = s.standing := by
  simp [State.settIfPaired]

@[simp] theorem State.flushReleases_standing (s : State) : s.flushReleases.standing = s.standing := by
  simp [State.flushReleases]

@[simp] theorem State.shadowPos_standing (i : Nat) (rcv snd : BitVec 32) (s : State) :
    (s.shadowPos i rcv snd).standing = s.standing := by
  simp [State.shadowPos]

@[simp] theorem State.shadowConn_standing (i : Nat) (s : State) : (s.shadowConn i).standing = s.standing := by
  simp [State.shadowConn]

@[simp] theorem State.sendStampUpdate_standing (n : Nat) (s : State) : (s.sendStampUpdate n).standing = s.standing := by
  unfold State.sendStampUpdate
  dsimp only
  split
  · split <;> simp
  · rfl

@[simp] theorem State.withdrawHere_standing (n : Nat) (s : State) : (s.withdrawHere n).2.standing = s.standing := by
  unfold State.withdrawHere
  dsimp only
  split
  · rfl
  · split <;> simp

@[simp] theorem State.adminReplay_standing (ctx qid cid pos crc status dw0 : Nat) (s : State) :
    (s.adminReplay ctx qid cid pos crc status dw0).standing = s.standing := by
  exact (State.settIfPaired_standing _ _ _ _).trans (State.putReplay_standing _ _)

@[simp] theorem State.reserveUpper_standing (rec : Nat) (r : StampReq) (s : State) :
    (s.reserveUpper rec r).standing = s.standing := by
  simp [State.reserveUpper]

@[simp] theorem State.releaseVersions_standing (slots : List Nat) (s : State) :
    (s.releaseVersions slots).standing = s.standing := by
  simp [State.releaseVersions]

@[simp] theorem State.dropUnsent_standing (i : Nat) (s : State) : (s.dropUnsent i).standing = s.standing := by
  simp [State.dropUnsent]

@[simp] theorem State.activate_standing (h g : Nat) (s : State) : (s.activate h g).standing = s.standing := by
  simp [State.activate]

@[simp] theorem State.exhaust_standing (h g : Nat) (s : State) : (s.exhaust h g).standing = s.standing := by
  unfold State.exhaust
  dsimp only
  split
  · simp
  · simp

@[simp] theorem State.activeGen_standing (h : Nat) (s : State) : (s.activeGen h).2.standing = s.standing := by
  unfold State.activeGen
  split
  · split <;> simp
  · rfl

@[simp] theorem State.releaseCovered_standing (s : State) : s.releaseCovered.standing = s.standing := by
  simp [State.releaseCovered]

@[simp] theorem State.pruneReads_standing (s : State) : s.pruneReads.standing = s.standing := by
  simp [State.pruneReads]

@[simp] theorem State.sendGo_standing (slot holder part : Nat) (s : State) :
    (s.sendGo slot holder part).standing = s.standing := by
  simp [State.sendGo]

@[simp] theorem State.revoke_standing (i w : Nat) (s : State) : (s.revoke i w).standing = s.standing := by
  simp [State.revoke]

@[simp] theorem State.takePos_standing (i payload : Nat) (s : State) :
    (s.takePos i payload).2.standing = s.standing := by
  simp [State.takePos]

@[simp] theorem State.plan_standing (i slot planKind : Nat) (sizes : List Nat) (s : State) :
    (s.plan i slot planKind sizes).standing = s.standing := by
  simp [State.plan]

@[simp] theorem State.putPlan_standing (i : Nat) (p : SendPlan) (s : State) :
    (s.putPlan i p).standing = s.standing := by
  simp [State.putPlan]

@[simp] theorem State.warn_standing (h g : Nat) (s : State) : (s.warn h g).standing = s.standing := by
  unfold State.warn
  split
  · dsimp only
    split
    · split
      · split <;> simp
      · simp
    · rfl
  · rfl

@[simp] theorem State.revokeOf_standing (n : Nat) (s : State) : (s.revokeOf n).standing = s.standing := by
  unfold State.revokeOf
  split <;> simp

@[simp] theorem State.endCmd_standing (n : Nat) (s : State) : (s.endCmd n).standing = s.standing := by
  simp [State.endCmd]

@[simp] theorem State.refetch_standing (n : Nat) (p : SendPlan) (s : State) :
    (s.refetch n p).standing = s.standing := by
  unfold State.refetch
  dsimp only
  split
  · split <;> simp
  · simp

@[simp] theorem State.sendMirror_standing (n : Nat) (s : State) : (s.sendMirror n).standing = s.standing := by
  simp [State.sendMirror]

@[simp] theorem State.sendStampRecord_standing (n : Nat) (s : State) : (s.sendStampRecord n).standing = s.standing := by
  unfold State.sendStampRecord
  dsimp only
  split
  · simp
  · split <;> simp

@[simp] theorem State.journalData_standing (n : Nat) (r0 : JRec) (data : Nat) (s : State) :
    (s.journalData n r0 data).standing = s.standing := by
  simp [State.journalData]

@[simp] theorem State.journal_standing (n : Nat) (r0 : JRec) (s : State) : (s.journal n r0).standing = s.standing := by
  simp [State.journal]

@[simp] theorem State.takeCtr_standing (h : Nat) (s : State) : (s.takeCtr h).2.standing = s.standing := by
  have active := s.activeGen_standing h
  unfold State.takeCtr
  split
  · rfl
  · split
    next found => rwa [found] at active
    next found =>
      rw [found] at active
      split
      · simpa using active
      · split <;> simpa using active

@[simp] theorem State.journalHeader_standing (n : Nat) (clean : Bool) (s : State) :
    (s.journalHeader n clean).standing = s.standing := by
  simp [State.journalHeader]

@[simp] theorem State.enterQuarantine_standing (i : Nat) (s : State) : (s.enterQuarantine i).standing = s.standing := by
  simp [State.enterQuarantine]

@[simp] theorem State.giveStamp_standing (n : Nat) (stamp : BitVec 64) (owner waits : Nat) (s : State) :
    (s.giveStamp n stamp owner waits).standing = s.standing := by
  simp [State.giveStamp]

@[simp] theorem State.settleCtx_standing (i : Nat) (s : State) : (s.settleCtx i).standing = s.standing := by
  simp [State.settleCtx]

@[simp] theorem State.applyEpoch_standing (e : Nat) (s : State) : (s.applyEpoch e).standing = s.standing := by
  simp [State.applyEpoch]

@[simp] theorem State.raiseEpoch_standing (s : State) : s.raiseEpoch.standing = s.standing := by
  simp [State.raiseEpoch]

@[simp] theorem State.tellStamp_standing (slot holder : Nat) (stamp : BitVec 64) (waits part blocks : Nat) (s : State) :
    (s.tellStamp slot holder stamp waits part blocks).standing = s.standing := by
  simp [State.tellStamp]

@[simp] theorem State.sendAck_standing (i : Nat) (s : State) : (s.sendAck i).standing = s.standing := by
  simp [State.sendAck]

@[simp] theorem State.enterDraining_standing (i : Nat) (s : State) : (s.enterDraining i).standing = s.standing := by
  simp [State.enterDraining]

@[simp] theorem State.issueStamp_standing (rec h : Nat) (s : State) : (s.issueStamp rec h).2.standing = s.standing := by
  simp [State.issueStamp]

@[simp] theorem State.setAcked_standing (i : Nat) (e : BitVec 32) (s : State) :
    (s.setAcked i e).standing = s.standing := by
  simp [State.setAcked]

@[simp] theorem State.launch_standing (i last payload : Nat) (o : Out) (s : State) :
    (s.launch i last payload o).standing = s.standing := by
  simp [State.launch]

@[simp] theorem State.flushPlans_standing (i : Nat) (s : State) : (s.flushPlans i).standing = s.standing := by
  simp [State.flushPlans]

@[simp] theorem State.sendMsg_standing (i payload : Nat) (o : Out) (s : State) :
    (s.sendMsg i payload o).standing = s.standing := by
  simp [State.sendMsg]

@[simp] theorem State.adminData_standing (q : AdminCmd) (report : List Nat) (data : Bytes) (s : State) :
    (s.adminData q report data).standing = s.standing := by
  simp [State.adminData]

@[simp] theorem State.respond_standing (i slot : Nat) (o : Out) (s : State) :
    (s.respond i slot o).standing = s.standing := by
  unfold State.respond
  split
  · dsimp only
    split <;> simp
  · simp

@[simp] theorem State.advanceAck_standing (i : Nat) (s : State) : (s.advanceAck i).standing = s.standing := by
  unfold State.advanceAck
  dsimp only
  split
  · simp
  · split <;> simp

@[simp] theorem State.askHost_standing (n : Nat) (s : State) : (s.askHost n).standing = s.standing := by
  unfold State.askHost
  dsimp only
  split
  · rfl
  · split
    · split
      · rfl
      · split <;> simp
    · split
      · split <;> simp
      · rfl

@[simp] theorem State.adminDone_standing (q : AdminCmd) (status dw0 : Nat) (s0 : State) :
    (s0.adminDone q status dw0).standing = s0.standing := by
  simp [State.adminDone]

@[simp] theorem State.psNow_standing (ps : Nat) (s : State) : (s.psNow ps).standing = s.standing := by
  simp [State.psNow]

@[simp] theorem State.beginWrite_standing (n : Nat) (s : State) : (s.beginWrite n).standing = s.standing := by
  simp [State.beginWrite]

@[simp] theorem State.postNow_standing (n : Nat) (s : State) : (s.postNow n).standing = s.standing := by
  unfold State.postNow
  dsimp only
  split
  · simp
  · split
    · simp
    · split
      · split <;> simp
      · simp

@[simp] theorem State.recomputePs_standing (s : State) : s.recomputePs.standing = s.standing := by
  unfold State.recomputePs
  dsimp only
  split
  · split
    · split
      · split <;> simp
      · simp
    · split <;> simp
  · rfl

@[simp] theorem State.postCompletion_standing (n : Nat) (s : State) : (s.postCompletion n).standing = s.standing := by
  unfold State.postCompletion
  split <;> simp

@[simp] theorem State.chainAction_standing (n action : Nat) (s : State) :
    (s.chainAction n action).standing = s.standing := by
  simp [State.chainAction]

@[simp] theorem State.fireChain_standing (n t : Nat) (cs : Tbl Chain) (s : State) :
    (s.fireChain n t cs).standing = s.standing := by
  simp [State.fireChain]

@[simp] theorem State.evalChains_standing (n : Nat) (s : State) : (s.evalChains n).standing = s.standing := by
  simp [State.evalChains]

@[simp] theorem State.trigger_standing (n kind : Nat) (s : State) : (s.trigger n kind).standing = s.standing := by
  simp [State.trigger]

@[simp] theorem State.failCmd_standing (n status : Nat) (s : State) : (s.failCmd n status).standing = s.standing := by
  simp [State.failCmd]

@[simp] theorem State.sendReadData_standing (n : Nat) (bytes : Bytes) (s : State) :
    (s.sendReadData n bytes).standing = s.standing := by
  unfold State.sendReadData
  dsimp only
  split
  · simp
  · split <;> simp

@[simp] theorem State.admitOne_standing (rec : Nat) (r : StampReq) (first n : Nat) (partials : List Nat) (s : State) :
    (s.admitOne rec r first n partials).standing = s.standing := by
  simp [State.admitOne]

@[simp] theorem State.admitBoth_standing (lo up : Nat) (r : StampReq) (s : State) :
    (s.admitBoth lo up r).standing = s.standing := by
  simp [State.admitBoth]

theorem State.admitReq_standing {rec : Nat} {r : StampReq} {s : State} {t : State} (h : s.admitReq rec r = some t) :
    t.standing = s.standing := by
  unfold State.admitReq at h
  dsimp only at h
  split at h
  · cases h
  · split at h
    · cases h
      simp
    · split at h
      · split at h
        · split at h
          · cases h
          · cases h
            simp
        · cases h
          simp
      · cases h
        simp

@[simp] theorem State.request_standing (rec : Nat) (r : StampReq) (s : State) :
    (s.request rec r).standing = s.standing := by
  unfold State.request
  dsimp only
  split
  · simp
  · split
    next admitted => exact State.admitReq_standing admitted
    · simp

@[simp] theorem State.drainHeld_standing (rec : Nat) (k : Nat) (s : State) :
    (State.drainHeld rec k s).standing = s.standing := by
  induction k generalizing s with
  | zero => rfl
  | succ k ih =>
    unfold State.drainHeld
    split
    · rfl
    · split
      next admitted => simp [ih, State.admitReq_standing admitted]
      · rfl

@[simp] theorem State.stageFive_standing (n : Nat) (slba nlb : Nat) (s : State) :
    (s.stageFive n slba nlb).standing = s.standing := by
  simp [State.stageFive]

@[simp] theorem State.drainAll_standing (s : State) : s.drainAll.standing = s.standing := by
  simp [State.drainAll]

@[simp] theorem State.placedOvl_standing (slot holder : Nat) (stamp : BitVec 64) (retired : Bool) (s : State) :
    (s.placedOvl slot holder stamp retired).standing = s.standing := by
  simp [State.placedOvl]

@[simp] theorem State.retire_standing (n : Nat) (s : State) : (s.retire n).standing = s.standing := by
  simp [State.retire]

@[simp] theorem State.endQuiet_standing (n : Nat) (s : State) : (s.endQuiet n).standing = s.standing := by
  simp [State.endQuiet]

@[simp] theorem State.stopCmd_standing (n : Nat) (fetchable : Bool) (s : State) :
    (s.stopCmd n fetchable).standing = s.standing := by
  simp [State.stopCmd]

@[simp] theorem State.readmit_standing (n : Nat) (s : State) : (s.readmit n).standing = s.standing := by
  simp [State.readmit]

@[simp] theorem State.claimRequests_standing (old : State) (s : State) :
    (State.claimRequests old s).standing = s.standing := by
  simp [State.claimRequests]

@[simp] theorem State.endErr_standing (n status : Nat) (s : State) : (s.endErr n status).standing = s.standing := by
  simp [State.endErr]

@[simp] theorem State.blkFailed_standing (n : Nat) (s : State) : (s.blkFailed n).standing = s.standing := by
  simp [State.blkFailed]

@[simp] theorem State.stageEight_standing (n : Nat) (s : State) : (s.stageEight n).standing = s.standing := by
  unfold State.stageEight
  dsimp only
  split
  · simp
  · split <;> simp

@[simp] theorem State.partsDone_standing (n : Nat) (s : State) : (s.partsDone n).standing = s.standing := by
  simp [State.partsDone]

@[simp] theorem State.forwardDone_standing (n : Nat) (s : State) : (s.forwardDone n).standing = s.standing := by
  simp [State.forwardDone]

@[simp] theorem State.claimForwarded_standing (s : State) : s.claimForwarded.standing = s.standing := by
  simp [State.claimForwarded]

@[simp] theorem State.adoptCmd_standing (n : Nat) (e : CmdShadow) (a : Adoption) (s : State) :
    (s.adoptCmd n e a).standing = s.standing := by
  unfold State.adoptCmd
  dsimp only
  split
  · split <;> simp
  · split <;> simp
  · split
    · split <;> split <;> simp
    · split <;> simp
  · rfl

@[simp] theorem State.adoptWaiting_standing (k : Nat) (s : State) : (State.adoptWaiting k s).standing = s.standing := by
  induction k generalizing s with
  | zero => rfl
  | succ k ih =>
    unfold State.adoptWaiting
    split
    · rw [ih]
      split <;> simp
    · rfl

@[simp] theorem State.adoptCmds_standing (s : State) : s.adoptCmds.standing = s.standing := by
  simp [State.adoptCmds]

@[simp] theorem State.finishRead_standing (n : Nat) (s : State) : (s.finishRead n).standing = s.standing := by
  simp [State.finishRead]

@[simp] theorem State.reconstruct_standing (n blk : Nat) (s : State) : (s.reconstruct n blk).standing = s.standing := by
  unfold State.reconstruct
  dsimp only
  split
  · simp
  · split
    · simp
    · split <;> simp

@[simp] theorem State.versionIn_standing (n blk : Nat) (v : Version) (s : State) :
    (s.versionIn n blk v).standing = s.standing := by
  unfold State.versionIn
  dsimp only
  split
  · simp
  · split <;> simp

@[simp] theorem State.readBlk_standing (n blk owner : Nat) (s : State) :
    (s.readBlk n blk owner).standing = s.standing := by
  unfold State.readBlk
  dsimp only
  split
  · rfl
  · split
    · simp
    · split
      · simp
      · split
        · simp
        · split <;> simp

@[simp] theorem State.beginRead_standing (n : Nat) (s : State) : (s.beginRead n).standing = s.standing := by
  simp [State.beginRead]

@[simp] theorem State.encryptBlk_standing (n : Nat) (w : BlkWrite) (s : State) :
    (s.encryptBlk n w).standing = s.standing := by
  have counter := s.takeCtr_standing (s.slot n).handle
  unfold State.encryptBlk
  dsimp only
  split
  · rfl
  · split
    · simp
    · split
      · simp
      · split
        all_goals
          next found =>
            rw [found] at counter
            simpa using counter

@[simp] theorem State.stageSeven_standing (n : Nat) (s : State) : (s.stageSeven n).standing = s.standing := by
  simp [State.stageSeven]

@[simp] theorem State.advance_standing (n : Nat) (s : State) : (s.advance n).standing = s.standing := by
  simp [State.advance]

@[simp] theorem State.rounds_standing (k : Nat) (s : State) : (State.rounds k s).standing = s.standing := by
  induction k generalizing s with
  | zero => rfl
  | succ k ih => simp [State.rounds, ih]

@[simp] theorem State.settle_standing (s : State) : s.settle.standing = s.standing := by
  simp [State.settle]

@[simp] theorem State.deleteFab_standing (c : Nat) (s : State) : (s.deleteFab c).standing = s.standing := by
  simp [State.deleteFab]

@[simp] theorem State.afterError_standing (i : Nat) (s : State) : (s.afterError i).standing = s.standing := by
  unfold State.afterError
  split
  · dsimp only
    split <;> simp
  · rfl

@[simp] theorem State.after_standing (i : Nat) (s : State) : (s.after i).standing = s.standing := by
  simp [State.after]


/-! ## Packets of a lossy class (O32, O33)

R349 and R350 apply WRED to every received frame of a connection before its transport reads it. The clauses of ROCE_ACK_RECEIVE and ROCE_CNP_RECEIVE do
not ask for a class beyond WRED (5 to 7), so a packet that WRED drops meets their hypotheses. -/

theorem natCast_div_nonneg (a b : Nat) : (0 : Rat) ≤ (a : Rat) / (b : Rat) :=
  Rat.divInt_eq_div a b ▸ Rat.divInt_nonneg (Int.natCast_nonneg a) (Int.natCast_nonneg b)

theorem under_one (draw : Nat) (small : draw < 4294967296) : under draw 1 = true := by
  have small' : (draw : Rat) < 1 * 4294967296 := by
    rw [Rat.one_mul]
    exact Rat.natCast_lt_natCast.mpr small
  exact decide_eq_true ((Rat.div_lt_iff (by decide)).mpr small')

/-- R350: a curve that ends at a load of 0 drops at every load. -/
theorem wredProb_of_flat {curve : Nat} (flat : bits curve 12 6 = 0) (use limit : Nat) :
    wredProb use limit curve = 1 := by
  unfold wredProb
  simp only [flat]
  exact if_pos (.inr (natCast_div_nonneg (100 * use) limit))

/-- R362: a profile whose word is 0 has such a curve for every colour. -/
theorem State.wredCurve_of_blank {s : State} {n : Nat} (blank : s.word (oid 8 9 (s.bufRxWredProf n)) = 0) (colour : Nat) :
    s.wredCurve true n colour = 0 := by
  have zero (hi lo : Nat) : bits 0 hi lo = 0 := by simp [bits]
  unfold State.wredCurve State.wredProfGreen State.wredProfYellow State.wredProfRed State.fld
  simp [blank, zero]

/-- R350: a frame of a lossy class without ECN is dropped under a blank profile. -/
theorem State.wredRx_drops {i port : Nat} (len : Nat) {s : State} (cls : (s.ctx i).cls < 5) (lossy : s.losslessCfg port (s.ctx i).cls = false)
    (noEcn : (s.ctx i).ecn = false) (blank : s.word (oid 8 9 (s.bufRxWredProf (8 * port + (s.ctx i).cls))) = 0) :
    (s.wredRx i port len).1.1 = true := by
  unfold State.wredRx
  dsimp only
  rw [if_neg (by omega), if_neg (by simp [lossy]), if_neg (by simp [noEcn]), State.wredCurve_of_blank blank, wredProb_of_flat (by decide)]
  exact under_one _ (Nat.mod_lt _ (by decide))

theorem State.wredRx_standing (i port len : Nat) (s : State) : (s.wredRx i port len).2.standing = s.standing :=
  State.standing_of_touch (State.wredRx_touch (by decide) (.refl _ _))

/-- R349: a frame that WRED drops reaches no transport check, and leaves what its context has heard. -/
theorem State.runPassed_standing_of_drop {i port : Nat} {cmd : Instr} {s : State} (drops : ∀ len, (s.wredRx i port len).1.1 = true) :
    (s.runPassed i port cmd).standing = s.standing := by
  have passed (len : Nat) : s.wredPass i port len = (true, (s.wredRx i port (ctxOverhead (s.ctx i) + len)).2) := by
    unfold State.wredPass
    simp only [drops, Bool.not_true, Bool.false_and]
    rfl
  unfold State.runPassed
  simp only [passed, if_true]
  exact State.wredRx_standing _ _ _ _

/-- R109, R117: a packet of an OPEN RoCEv2 connection that is cached, with none before it, is processed at once. -/
theorem State.rocePacket_cached {i : Nat} (port len : Nat) (cmd : Instr) {s : State} (roce : (s.ctx i).kind = 1) (opened : (s.ctx i).state = 2)
    (cached : s.cached i = true) (alone : (s.xport.missBuf.filter fun m => m.ctx = i).length = 0) (powered : s.layout.holdup = none) :
    s.rocePacket i port len cmd = (((s.touchHit i).takeFrame port (s.ctx i).cls).runPacket i port cmd).after i := by
  have gate : s.cacheGate i port len cmd = (true, (s.touchHit i).takeFrame port (s.ctx i).cls) := if_pos ⟨cached, alone, by simp [opened]⟩
  unfold State.rocePacket State.packet
  simp [roce, opened, gate, powered]

/-- A connection that is OPEN and cached, of a lossy class without ECN, under a blank WRED profile. -/
def lossyConnection : State :=
  { State.reset with
    modes := { mode := .m2 }
    regs := [(oid 8 9 0, 0)]
    xport := { ctx := [(2, { kind := 1, state := 2 })], cache := [(1, [{ index := 2 }])] } }

/-- The connection once its packet has passed the cache gate. -/
def lossyConnectionHit : State :=
  { lossyConnection with xport := { lossyConnection.xport with cache := [(1, [{ index := 2, dirty := true }])] } }

theorem lossyConnectionHit_drops (len : Nat) : (lossyConnectionHit.wredRx 2 0 len).1.1 = true := by
  have lossy : lossyConnectionHit.losslessCfg 0 (lossyConnectionHit.ctx 2).cls = false := by decide +kernel
  have blank : lossyConnectionHit.word (oid 8 9 (lossyConnectionHit.bufRxWredProf (8 * 0 + (lossyConnectionHit.ctx 2).cls))) = 0 := by
    decide +kernel
  exact State.wredRx_drops len (by decide) lossy rfl blank

/-- The packet passes the cache gate, and WRED drops it. -/
theorem lossyConnection_rocePacket (len : Nat) {cmd : Instr} (run : ∀ s : State, s.runPacket 2 0 cmd = s.runPassed 2 0 cmd) :
    ∃ u : State, lossyConnection.rocePacket 2 0 len cmd = u.after 2 ∧ u.standing = lossyConnection.standing := by
  have hit : (lossyConnection.touchHit 2).takeFrame 0 0 = lossyConnectionHit := rfl
  have packet : lossyConnection.rocePacket 2 0 len cmd = (((lossyConnection.touchHit 2).takeFrame 0 0).runPacket 2 0 cmd).after 2 :=
    State.rocePacket_cached 0 len cmd (by decide) (by decide) (by decide) (by decide) (by decide)
  refine ⟨_, packet, ?_⟩
  rw [hit, run, State.runPassed_standing_of_drop lossyConnectionHit_drops]
  rfl

/-- Whatever state is looked at before the commands go on, the context has heard nothing. -/
theorem lossyConnection_unheard {len : Nat} {cmd : Instr} (run : ∀ s : State, s.runPacket 2 0 cmd = s.runPassed 2 0 cmd) {u : State}
    (same : lossyConnection.rocePacket 2 0 len cmd = u.after 2) : (u.ctx 2).sndUna = 0 ∧ (u.ctx 2).epochCnp = false := by
  obtain ⟨v, after, kept⟩ := lossyConnection_rocePacket len run
  have standing : u.standing = lossyConnection.standing := by
    rw [← State.after_standing 2 u, ← same, after, State.after_standing, kept]
  exact Prod.mk.inj (congrFun (congrArg Prod.snd standing) 2)

/-- Refutes O32: an ACK of a lossy class that WRED drops (R349) moves no SND_UNA. -/
theorem not_completesTransportsA : ¬ Obligations.CompletesTransportsA := by
  intro ⟨_, _, _, _, _, ack, _⟩
  obtain ⟨t, runs, u, after, una, _⟩ :=
    ack 2 0 lossyConnection (by decide) (by decide) (by decide) (by decide) (by decide) (by decide) (by decide)
    (by decide)
  have next : lossyConnection.rocePacket 2 0 64 (.roceAckReceive 2 0 0) = t := Host.Outcome.next.inj runs
  rw [(lossyConnection_unheard (fun _ => rfl) (next.trans after)).1] at una
  exact absurd una (by decide)

/-- Refutes O33: a CNP of a lossy class that WRED drops (R349) is not noted in the epoch. -/
theorem not_completesTransportsB : ¬ Obligations.CompletesTransportsB := by
  intro ⟨cnp, _⟩
  obtain ⟨t, runs, u, after, noted⟩ := cnp 2 lossyConnection (by decide) (by decide) (by decide) (by decide) (by decide) (by decide)
  have next : lossyConnection.rocePacket 2 0 64 (.roceCnpReceive 2) = t := Host.Outcome.next.inj runs
  rw [(lossyConnection_unheard (fun _ => rfl) (next.trans after)).2] at noted
  exact absurd noted (by decide)

end Sys2Proof.Machine

namespace Sys2Proof.Machine

/-! ## Quorum, takeover and adoption, pairing, shadows (O43) -/

/-! ### Quorum and takeover (R179, R385, R386) -/

theorem execQuorumWindowExpiry_fromM1 {q : Quorum} {s : State} (run : s.pair.quorum = some q) (few : q.wins.length < 2)
    (fromM1 : q.fromM1 = true) : ∃ t, execQuorumWindowExpiry s = .next t ∧ t.pair.quorum = none ∧ t.pair.state = 5 ∧ t.modes = s.modes ∧
      t.counter cQuorumLost 0 = sat (2 ^ 64 - 1) (s.counter cQuorumLost 0 + 1) := by
  have lost : execQuorumWindowExpiry s =
      .next ((s.bump cQuorumLost 0).updPair fun p => { p with quorum := none, beatsStopped := false, state := 5 }) := by
    simp [execQuorumWindowExpiry, State.quorumLost, run, few, fromM1]
  have modes : (s.bump cQuorumLost 0).modes = s.modes := same_of_touch (g := .modes) (State.bump_touch (by decide) (.refl _ _))
  exact ⟨_, lost, rfl, rfl, modes, State.counter_bump_same _ _ _⟩

/-- Whether partner loss is confirmed, and the takeovers counted. -/
def State.partnerLoss (s : State) : Bool × Nat := (s.pair.lost, s.pair.takeovers)

theorem State.partnerLoss_of_standing {s t : State} (h : t.standing = s.standing) :
    t.partnerLoss = s.partnerLoss := congrArg Prod.fst h

/-- R139: the adoption of the partner's connections. -/
theorem State.adoptConns_partnerLoss (s : State) : s.adoptConns.partnerLoss = s.partnerLoss := by
  unfold State.adoptConns
  refine List.foldlRecOn (motive := fun u : State => u.partnerLoss = s.partnerLoss) _ _ rfl fun u kept e _ => ?_
  rw [← kept]
  dsimp only
  split
  · rfl
  · split
    · exact (State.partnerLoss_of_standing (State.bump_standing _ _ _)).trans rfl
    · exact (State.partnerLoss_of_standing (State.enterQuarantine_standing _ _)).trans rfl

theorem State.takenOver_partnerLoss (f : Cons → Cons) (s : State) :
    ((s.updPair fun p => { p with lost := false, takeovers := sat 65535 (p.takeovers + 1) }).updCons f).partnerLoss =
      (false, sat 65535 (s.partnerLoss.2 + 1)) := rfl

/-- R179, R388: a claim ends the loss of the partner and counts the takeover. -/
theorem State.claim_partnerLoss (s : State) : s.claim.partnerLoss = (false, sat 65535 (s.pair.takeovers + 1)) := by
  unfold State.claim
  extract_lets t u v w x y
  have readmitted : v.partnerLoss = s.partnerLoss := State.partnerLoss_of_standing (by simp [v, u, t])
  have claimed : w.partnerLoss = (false, sat 65535 (v.partnerLoss.2 + 1)) := State.takenOver_partnerLoss _ v
  have adopted : x.partnerLoss = w.partnerLoss :=
    (State.partnerLoss_of_standing (by simp [x])).trans w.adoptConns_partnerLoss
  calc _ = x.partnerLoss := State.partnerLoss_of_standing (by simp [y])
    _ = (false, sat 65535 (v.partnerLoss.2 + 1)) := adopted.trans claimed
    _ = (false, sat 65535 (s.pair.takeovers + 1)) := by rw [readmitted]; rfl

theorem execTakeoverClaim_claims {s : State} (mode : s.modes.mode = .m4) (lost : s.pair.lost = true)
    (due : s.pair.lastBeatSent + us 180 ≤ s.now) : ∃ t, execTakeoverClaim s = .next t ∧ ∃ u : State, t = u.writeQuorum u.claimedBlock ∧
      u.pair.lost = false ∧ u.pair.takeovers = sat 65535 (s.pair.takeovers + 1) :=
  ⟨_, congrArg Host.Outcome.next (if_pos ⟨mode, lost, due⟩), s.claim, rfl, Prod.mk.inj s.claim_partnerLoss⟩

/-- R139: an adopted connection with no shadow in DRAINING is OPEN when its host is made to resume. -/
theorem execConnectionAdopt_opens {index : Nat} {s : State} (inRange : index < 2097152) (adopting : (s.ctx index).state = 5)
    (noShadow : (tfind s.pair.conns index).isNone = true) : ∃ t, execConnectionAdopt index s = .next t ∧
      ∃ u : State, t = ((u.flushPlans index).runWaiting index).settle ∧ (u.ctx index).state = 2 := by
  have acked (v : State) : ((v.sendAck index).ctx index).state = (v.ctx index).state :=
    State.sendAck_keeps (view := (·.state)) (fun _ => rfl) index v
  have opened (f : Pair → Pair) : (((s.updPair f).updCtx index fun c => { c with state := 2 }).ctx index).state = 2 := by
    rw [State.ctx_updCtx_same]
  unfold execConnectionAdopt
  rw [bounded_eq_next (decide_eq_true inRange), if_neg (not_not_intro adopting), Option.isNone_iff_eq_none.mp noShadow]
  refine ⟨_, rfl, _, rfl, ?_⟩
  dsimp only
  rw [if_neg (by decide)]
  split
  · rw [acked, acked, acked, opened]
  · rw [State.sendNak, State.ctx_congr (State.sendControl_xport _ _ _ _), opened]

/-! ### Messages of the Sett link (R366, R369) -/

/-- R366: of the pair, a message sent changes the classes alone. -/
theorem State.settSend_pair (kind : Nat) (args : List Nat) (data : Bytes) (s : State) :
    ∃ classes, (s.settSend kind args data).pair = { s.pair with classes := classes } := by
  unfold State.settSend
  split
  · exact ⟨_, rfl⟩
  · unfold State.when
    dsimp only
    split
    · exact ⟨_, rfl⟩
    · exact ⟨_, rfl⟩

theorem State.settIfPaired_pair (kind : Nat) (args : List Nat) (data : Bytes) (s : State) :
    ∃ classes, (s.settIfPaired kind args data).pair = { s.pair with classes := classes } := by
  unfold State.settIfPaired State.when
  split
  · exact s.settSend_pair kind args data
  · exact ⟨_, rfl⟩

/-- R369: a message that arrives with a bundle up is applied. -/
theorem State.settIn_up {s : State} (up : s.settUp = true) (kind : Nat) (f : State → State) :
    s.settIn kind f = f (s.settGot kind) := if_pos up

/-! ### Pairing (R331, R371 to R374) -/

/-- R371, R372: the partner's hello allows step 2, in which the partner is the one that sent it. -/
theorem State.pairGo_begins {m : HelloMsg} {s : State} (hello : s.pair.hello = some m) (step : s.pair.pairStep = 1) (willing : m.pairEn = true)
    (any : s.word (oid 9 2 0) = 0) (unpaired : m.partnerId = 0) (online : (List.range 8).any s.poolOnline = true) (idle : m.mode = 1)
    (drives : m.drivesOk = true) (fit : s.addressesFit m.addrs = true) : s.pairGo.pair.pairStep = 2 ∧ s.pairGo.pair.partnerId = m.deviceId := by
  unfold State.pairGo
  rw [hello]
  dsimp only
  rw [if_neg (not_not_intro step), if_neg (by simp [willing, any, unpaired, online, idle]), if_neg (by simp [drives]), if_neg (by simp [fit])]
  obtain ⟨classes, pair⟩ := State.settSend_pair _ _ _ _
  rw [pair]
  unfold State.when
  split
  · exact ⟨rfl, rfl⟩
  · exact ⟨rfl, rfl⟩

theorem execHello_begins {m : HelloMsg} {s : State} (unpaired : s.paired = false) (up : s.settUp = true) (step : s.pair.pairStep = 1)
    (willing : m.pairEn = true) (any : s.word (oid 9 2 0) = 0) (alone : m.partnerId = 0) (online : (List.range 8).any s.poolOnline = true)
    (idle : m.mode = 1) (drives : m.drivesOk = true) (fit : s.addressesFit m.addrs = true) :
    ∃ t, execHello m s = .next t ∧ t.pair.pairStep = 2 ∧ t.pair.partnerId = m.deviceId := by
  refine ⟨_, ?_, State.pairGo_begins (s := (s.settGot 0x51).updPair fun p => { p with hello := some m }) rfl step willing any alone online idle
    drives fit⟩
  unfold execHello
  have early : ¬ 2 ≤ s.pair.pairStep := by omega
  rw [if_neg (by simp [unpaired, up])]
  simp only [if_neg early]
  exact congrArg Host.Outcome.next (if_pos step)

theorem State.startExchange_pair (s : State) :
    ∃ classes key, s.startExchange.pair = { s.pair with classes := classes, ephemeral := some key } := by
  unfold State.startExchange
  obtain ⟨classes, pair⟩ := State.settSend_pair _ _ _ _
  exact ⟨classes, _, pair⟩

/-- R331: evidence that passes every check begins the key exchange. -/
theorem execEvidence_passes {e : EvidenceMsg} {s : State} (step : s.pair.pairStep = 2) (up : s.settUp = true) (signed : e.sigGood = true)
    (same : e.lifeCycle = s.fuses.lifeCycle) (deployed : e.lifeCycle = 1 ∨ e.lifeCycle = 3) (fuses : e.fusesEqual = true)
    (debug : e.debugLock = s.fuses.debugLock) (theirs : max e.antiRollback s.fuses.antiRollback ≤ e.svn)
    (ours : max e.antiRollback s.fuses.antiRollback ≤ s.boot.svn) :
    ∃ t, execEvidence e s = .next t ∧ t.pair.pairStep = 3 ∧ t.pair.ephemeral.isSome = true := by
  unfold execEvidence
  rw [if_neg (not_not_intro step), State.settIn_up up]
  dsimp only
  rw [if_pos ⟨signed, same, deployed, fuses, debug, theirs, ours⟩]
  obtain ⟨classes, key, pair⟩ := State.startExchange_pair ((s.settGot 0x52).updPair fun p => { p with pairStep := 3 })
  refine ⟨_, rfl, ?_⟩
  rw [pair]
  exact ⟨rfl, rfl⟩

/-- The step of the pairing and PAIR_STATE. -/
def State.pairing (s : State) : Nat × Nat := (s.pair.pairStep, s.pair.state)

theorem State.settSend_pairing (kind : Nat) (args : List Nat) (data : Bytes) (s : State) :
    (s.settSend kind args data).pairing = s.pairing := by
  obtain ⟨classes, pair⟩ := s.settSend_pair kind args data
  simp only [State.pairing, pair]

theorem State.settIfPaired_pairing (kind : Nat) (args : List Nat) (data : Bytes) (s : State) :
    (s.settIfPaired kind args data).pairing = s.pairing := by
  obtain ⟨classes, pair⟩ := s.settIfPaired_pair kind args data
  simp only [State.pairing, pair]

theorem State.when_pairing {f : State → State} (keeps : ∀ t, (f t).pairing = t.pairing) (b : Bool) (s : State) :
    (s.when b f).pairing = s.pairing := by
  unfold State.when
  split
  · exact keeps s
  · rfl

theorem State.foldl_pairing {α : Type} {f : State → α → State} (keeps : ∀ t x, (f t x).pairing = t.pairing) (l : List α) (s : State) :
    (l.foldl f s).pairing = s.pairing :=
  List.foldlRecOn (motive := fun t : State => t.pairing = s.pairing) l f rfl fun t kept x _ => (keeps t x).trans kept

/-- R372, R374: synchronisation has begun; what S then sends leaves the step. -/
theorem State.startSync_pairing (s : State) : s.startSync.pairing = (5, 2) := by
  unfold State.startSync
  extract_lets t u u1 u2 u3 u4
  have begun : u.pairing = (5, 2) := rfl
  split
  · rfl
  · have conns : u1.pairing = u.pairing := State.foldl_pairing
      (fun _ _ => (State.settIfPaired_pairing _ _ _ _).trans (State.settIfPaired_pairing _ _ _ _)) _ _
    have cmds : u2.pairing = u1.pairing :=
      State.foldl_pairing (fun _ _ => State.when_pairing (fun _ => State.settIfPaired_pairing _ _ _ _) _ _) _ _
    have fabs : u3.pairing = u2.pairing := State.foldl_pairing (fun _ _ => State.settIfPaired_pairing _ _ _ _) _ _
    have replays : u4.pairing = u3.pairing :=
      State.foldl_pairing (fun _ _ => State.when_pairing (fun _ => State.settIfPaired_pairing _ _ _ _) _ _) _ _
    refine Eq.trans (State.foldl_pairing (fun _ _ => State.foldl_pairing (fun _ _ => State.settSend_pairing _ _ _ _) _ _) _ _) ?_
    exact replays.trans (fabs.trans (cmds.trans (conns.trans begun)))

/-- R373: a shelf key that both sides hold needs no exchange, and synchronisation begins. -/
theorem execKeyExchange_bothHold {k : KeyExMsg} {own w : Nat} {s : State} (step : s.pair.pairStep = 3) (up : s.settUp = true)
    (signed : k.sigGood = true) (held : s.enclave.shelfKey = some own) (sent : k.wrapped = some w) :
    ∃ t, execKeyExchange k s = .next t ∧ t.pair.pairStep = 5 ∧ t.pair.state = 2 := by
  have held' : (s.settGot 0x53).enclave.shelfKey = some own := held
  refine ⟨(s.settGot 0x53).startSync, ?_, Prod.mk.inj (State.startSync_pairing _)⟩
  unfold execKeyExchange
  rw [if_pos step, State.settIn_up up]
  dsimp only
  rw [if_neg (by simp [signed]), State.exchangeKey, held', sent]

/-- R173: a raised epoch is the epoch, whatever the journals then note of it. -/
theorem State.applyEpoch_epoch (e : Nat) (s : State) : (s.applyEpoch e).cons.epoch = e % 2 ^ 24 := by
  unfold State.applyEpoch
  have noted (l : List Nat) (t : State) : (l.foldl (fun u n => u.journalHeader n false) t).cons = t.cons :=
    same_of_touch (g := .cons) (foldl_touch (.refl _ _) fun _ _ h => State.journalHeader_touch (by decide) h)
  dsimp only
  rw [noted, show (State.bump cEpochRaises 0 _).cons = _ from same_of_touch (g := .cons) (State.bump_touch (by decide) (.refl _ _))]
  rfl

/-- R372: both controllers enter M3 with one epoch. -/
theorem State.enterPaired_paired (epoch : Nat) (b : QBlock) (s : State) : (s.enterPaired epoch b).modes.mode = .m3 ∧
    (s.enterPaired epoch b).pair.state = 3 ∧ (s.enterPaired epoch b).cons.epoch = epoch % 2 ^ 24 := by
  have raised := s.applyEpoch_epoch epoch
  unfold State.enterPaired
  generalize s.applyEpoch epoch = u at raised ⊢
  obtain ⟨entry, ps, paused, modes⟩ := (u.enterMode .m3 0x11).recomputePs_modes
  have cons : (u.enterMode .m3 0x11).recomputePs.cons = u.cons :=
    same_of_touch (g := .cons) (State.recomputePs_touch (by decide) (State.enterMode_touch (by decide) (.refl _ _)))
  simp only [State.updCons_modes, State.updPair_modes, State.updCons_pair, State.updPair_pair, State.updCons_cons, State.updPair_cons, modes,
    State.enterMode_modes, cons, raised, and_self]

/-- R372, R374: at the switch the joining controller owns no extent. -/
theorem execSynchronisationEnd_joins (block : QBlock) {s : State} (step : s.pair.pairStep = 5) (ready : s.switchReady = true)
    (joining : s.pair.serving = false) : ∃ t, execSynchronisationEnd block s = .next t ∧ t.modes.mode = .m3 ∧ t.pair.state = 3 ∧
      t.cons.epoch = (max s.cons.epoch s.pair.partnerEpoch + 1) % 2 ^ 24 ∧ ∀ e ∈ t.cons.extents, e.2.owner = s.other := by
  obtain ⟨mode, state, epoch⟩ := s.enterPaired_paired (max s.cons.epoch s.pair.partnerEpoch + 1) block
  unfold execSynchronisationEnd
  rw [if_neg (by simp [step, ready]), if_neg (by simp [joining])]
  refine ⟨_, rfl, mode, state, epoch, fun e listed => ?_⟩
  obtain ⟨x, -, rfl⟩ := List.mem_map.mp listed
  rfl

/-! ### Shadows (R377, R378, R380) -/

theorem execConnectionShadow_kept {index : Nat} (shadow : ConnShadow) {s : State} (inRange : index < 2097152) (mirrors : s.mirrorsIn = true)
    (up : s.settUp = true) (fresh : tfind s.pair.conns index = none) :
    ∃ t, execConnectionShadow index shadow s = .next t ∧ t.pair.conns = tput s.pair.conns index shadow := by
  have fresh' : tfind (s.settGot 0x40).pair.conns index = none := fresh
  unfold execConnectionShadow
  rw [bounded_eq_next (decide_eq_true inRange), if_neg (by simp [mirrors]), State.settIn_up up]
  refine ⟨_, rfl, ?_⟩
  simp only [State.updPair_pair, fresh']
  rfl

/-- R165, R380: with no replay record held, none closes. -/
theorem execPositionUpdate_moves {index : Nat} (msn rcvPos sndPos : Nat) {s : State} (inRange : index < 2097152) (mirrors : s.mirrorsIn = true)
    (up : s.settUp = true) (noRecord : s.pair.replays = []) : ∃ t, execPositionUpdate index msn rcvPos sndPos s = .next t ∧ t.pair.conns =
      tadj index (fun x => { x with
        ctx := { x.ctx with msn := msn }, rcvPos := BitVec.ofNat 32 rcvPos, sndPos := BitVec.ofNat 32 sndPos }) s.pair.conns := by
  have noRecord' : (s.settGot 0x41).pair.replays = [] := noRecord
  unfold execPositionUpdate
  rw [bounded_eq_next (decide_eq_true inRange), if_neg (by simp [mirrors]), State.settIn_up up]
  dsimp only
  rw [noRecord', List.filter_nil]
  exact ⟨_, rfl, rfl⟩

theorem execCommandShadow_kept {slot : Nat} (shadow : CmdShadow) {s : State} (inRange : slot < 262144) (mirrors : s.mirrorsIn = true)
    (up : s.settUp = true) :
    ∃ t, execCommandShadow slot shadow s = .next t ∧ (tfind t.pair.cmds slot).map (·.cmd) = some shadow.cmd := by
  unfold execCommandShadow
  rw [bounded_eq_next (decide_eq_true inRange), if_neg (by simp [mirrors]), State.settIn_up up]
  refine ⟨_, rfl, ?_⟩
  simp only [State.updPair_pair, tfind_tput_same, Option.map_some]

/-- Settles O43. -/
theorem completesPairB : Obligations.CompletesPairB :=
  ⟨fun _ _ => execQuorumWindowExpiry_fromM1,
   fun _ => execTakeoverClaim_claims,
   fun _ _ => execConnectionAdopt_opens,
   fun _ _ => execHello_begins,
   fun _ _ => execEvidence_passes,
   fun _ _ _ _ => execKeyExchange_bothHold,
   fun block _ => execSynchronisationEnd_joins block,
   fun _ shadow _ => execConnectionShadow_kept shadow,
   fun _ msn rcvPos sndPos _ => execPositionUpdate_moves msn rcvPos sndPos,
   fun _ shadow _ => execCommandShadow_kept shadow⟩

end Sys2Proof.Machine

namespace Sys2Proof.Machine

/-! ## Stamps, fences and withdrawals between the pair (O35) -/

/-! ### What a message of the partner finds (R369) -/

@[simp] theorem State.settGot_cons (kind : Nat) (s : State) : (s.settGot kind).cons = s.cons := rfl

@[simp] theorem State.settGot_slot (kind n : Nat) (s : State) : (s.settGot kind).slot n = s.slot n := rfl

@[simp] theorem State.settGot_slotUsed (kind n : Nat) (s : State) : (s.settGot kind).slotUsed n = s.slotUsed n := rfl

@[simp] theorem State.settGot_fab (kind c : Nat) (s : State) : (s.settGot kind).fab c = s.fab c := rfl

@[simp] theorem State.settGot_other (kind : Nat) (s : State) : (s.settGot kind).other = s.other := rfl

@[simp] theorem State.settSend_cons (kind : Nat) (args : List Nat) (data : Bytes) (s : State) : (s.settSend kind args data).cons = s.cons :=
  same_of_touch (g := .cons) (State.settSend_touch (by decide) (.refl _ _))

@[simp] theorem State.bump_cons (c : Nat × Nat) (i : Nat) (s : State) : (s.bump c i).cons = s.cons :=
  same_of_touch (g := .cons) (State.bump_touch (by decide) (.refl _ _))

@[simp] theorem State.updSlot_fab (n : Nat) (f : Slot → Slot) (c : Nat) (s : State) : (s.updSlot n f).fab c = s.fab c := rfl

/-- The two controllers of a pair differ. -/
theorem State.other_ne_self (s : State) : s.other ≠ s.self := by
  unfold State.other State.self
  split <;> decide

/-- R369: in M3, with a bundle up, a message of the partner's is applied. -/
theorem State.messageIn_applied {s : State} (paired : s.paired = true) (up : s.settUp = true) (kind : Nat) (f : State → State) :
    (if s.paired = false then s else s.settIn kind f) = f (s.settGot kind) := by
  rw [if_neg (by simp [paired]), State.settIn_up up]

/-! ### A stamp that the partner asks for (R172, R188) -/

/-- R188: a read in one extent whose admission is open, with nothing held there, is stamped at once, whichever controller holds it: the larder room
of R216 is asked of writes alone. -/
theorem State.request_read_eq_admitOne {s : State} {rec : Nat} {r : StampReq} (held : (s.extent rec).held = []) (shut : s.admissionShut rec = false)
    (room : s.ovlRoom r = true) (read : r.kind = 1) (one : (extentParts (s.reqSpan r).1 (s.reqSpan r).2.1).length = 1) :
    s.request rec r = s.admitOne rec r (s.reqSpan r).1 (s.reqSpan r).2.1 (s.reqSpan r).2.2 := by
  obtain ⟨part, parts⟩ := List.length_eq_one_iff.mp one
  unfold State.request
  dsimp only
  rw [if_neg (not_not_intro held)]
  unfold State.admitReq
  rw [if_neg (by simp [shut, room, read]), if_neg (by simp [read])]
  simp only [parts]

/-- R181: telling a stamp, here or to the partner, leaves the extents. -/
theorem State.tellStamp_cons (slot holder : Nat) (stamp : BitVec 64) (waits part blocks : Nat) (s : State) :
    (s.tellStamp slot holder stamp waits part blocks).cons = s.cons :=
  same_of_touch (g := .cons) (State.tellStamp_touch (by decide) (.refl _ _))

/-- R172: the extent of a request that is stamped moves on to its next stamp. -/
theorem State.admitOne_lastStamp {s : State} {rec : Nat} (r : StampReq) (more : (s.extent rec).lastStamp.toNat % 2 ^ 40 ≠ 2 ^ 40 - 1)
    (first n : Nat) (partials : List Nat) : ((s.admitOne rec r first n partials).extent rec).lastStamp = (s.extent rec).lastStamp + 1 := by
  rw [← State.stampEntered_lastStamp r more first n partials]
  exact congrArg _ (State.extent_congr (congrArg (·.extents) (State.tellStamp_cons _ _ _ _ _ _ _)) rec)

/-- R188, R369: the state in which a stamp request of the partner's is met: its message counts as applied, its send records are kept. -/
def State.stampAsked (r : StampReq) (send : List SendRec) (s : State) : State :=
  (s.settGot 0x10).updPair fun p => { p with cmds := tadj r.slot (fun x => { x with send := x.send ++ send }) p.cmds }

/-- R188: a request for an extent owned here comes to the admission point of that extent. -/
theorem execStampRequest_of_own {r : StampReq} (send : List SendRec) {s : State} (paired : s.paired = true) (up : s.settUp = true)
    (kind : r.kind ≤ 3) (own : s.ownerOf (s.lowerRec r) = s.self) :
    execStampRequest r send s = .next ((s.stampAsked r send).request (s.lowerRec r) r).settle := by
  unfold execStampRequest
  rw [State.messageIn_applied paired up]
  dsimp only
  rw [if_neg (by omega), if_neg (by omega), if_neg (by omega)]
  exact congrArg (fun t : State => (.next t.settle : Res)) (if_pos own)

/-- R172, R188: the partner's read in one extent owned here, where nothing holds it up, is stamped within the command. -/
theorem execStampRequest_stamps {r : StampReq} (send : List SendRec) {s : State} (paired : s.paired = true) (up : s.settUp = true) (read : r.kind = 1)
    (own : s.ownerOf (s.lowerRec r) = s.self) (held : (s.extent (s.lowerRec r)).held = []) (shut : s.admissionShut (s.lowerRec r) = false)
    (room : s.ovlRoom r = true) (one : (extentParts (s.reqSpan r).1 (s.reqSpan r).2.1).length = 1)
    (more : (s.extent (s.lowerRec r)).lastStamp.toNat % 2 ^ 40 ≠ 2 ^ 40 - 1) :
    ∃ t, execStampRequest r send s = .next t ∧ ∃ u : State, t = u.settle ∧
      (u.extent (s.lowerRec r)).lastStamp = (s.extent (s.lowerRec r)).lastStamp + 1 := by
  refine ⟨_, execStampRequest_of_own send paired up (by omega) own, _, rfl, ?_⟩
  rw [State.request_read_eq_admitOne (s := s.stampAsked r send) held shut room read one]
  exact State.admitOne_lastStamp (s := s.stampAsked r send) r more _ _ _

/-! ### A stamp that the partner gives, and its release (R181, R183, R188) -/

/-- R181: the slot of a command as its stamp leaves it. -/
def Slot.stamped (stamp : BitVec 64) (owner waits : Nat) (p : Slot) : Slot :=
  { p with state := if p.state < 5 then 4 else p.state, stamp := if p.stamp = 0 then stamp else p.stamp, pieceStamp := stamp
           waits := tput p.waits owner waits }

/-- R181: a stamp of the partner's needs no stamp record here, so the slot changes by the stamp alone. -/
theorem State.giveStamp_slot_of_partner {s : State} {n : Nat} (used : s.slotUsed n = true) (stamp : BitVec 64) (waits : Nat) :
    (s.giveStamp n stamp s.other waits).slot n = (s.slot n).stamped stamp s.other waits := by
  unfold State.giveStamp
  dsimp only
  rw [if_neg fun given => s.other_ne_self given.2.2, State.slot_congr (State.stage_cmds _ _ _), State.slot_updSlot used]
  rfl

/-- R220: the larder slots that an owner names change of the slots the blocks to write alone. -/
theorem State.takeLslots_slot_keeps {β : Type} {view : Slot → β} (keeps : ∀ p writes, view { p with writes := writes } = view p)
    (n : Nat) (ls : List Nat) (s : State) (j : Nat) : view ((s.takeLslots n ls).slot j) = view (s.slot j) :=
  State.slot_updSlot_keeps (fun p => keeps p _) s n j

/-- R181, R188, R220: the partner's stamp and the larder slots it names reach a slot, which is released where it can be. -/
def State.stampReplied (n : Nat) (stamp : BitVec 64) (waits : Nat) (ls : List Nat) (s : State) : State :=
  ((s.giveStamp n stamp s.other waits).takeLslots n ls).goCheck n

/-- R181: what neither the release nor the blocks to write show of a slot, the partner's stamp alone changes. -/
theorem State.stampReplied_slot_keeps {β : Type} {view : Slot → β} (gone : ∀ p g, view { p with gone := g } = view p)
    (writes : ∀ p w, view { p with writes := w } = view p) {s : State} {n : Nat} (used : s.slotUsed n = true) (stamp : BitVec 64) (waits : Nat)
    (ls : List Nat) : view ((s.stampReplied n stamp waits ls).slot n) = view ((s.slot n).stamped stamp s.other waits) := by
  unfold State.stampReplied
  rw [State.goCheck_slot_keeps gone, State.takeLslots_slot_keeps writes, State.giveStamp_slot_of_partner used]

/-- R153, R181: of a slot in use, the partner's stamp shows in its state and its piece, and the command goes on as it is. -/
theorem State.stampReplied_slot {s : State} {n : Nat} (used : s.slotUsed n = true) (early : (s.slot n).state < 5) (stamp : BitVec 64) (waits : Nat)
    (ls : List Nat) : ((s.stampReplied n stamp waits ls).slot n).state = 4 ∧ ((s.stampReplied n stamp waits ls).slot n).pieceStamp = stamp ∧
      ((s.stampReplied n stamp waits ls).slot n).ended = (s.slot n).ended := by
  refine ⟨?_, ?_, ?_⟩
  · exact (State.stampReplied_slot_keeps (view := (·.state)) (fun _ _ => rfl) (fun _ _ => rfl) used stamp waits ls).trans (if_pos early)
  · exact State.stampReplied_slot_keeps (view := (·.pieceStamp)) (fun _ _ => rfl) (fun _ _ => rfl) used stamp waits ls
  · exact State.stampReplied_slot_keeps (view := (·.ended)) (fun _ _ => rfl) (fun _ _ => rfl) used stamp waits ls

/-- R181: a command that waits for the partner's stamp and has not ended is ADMITTED with it. -/
theorem execStampReply_admits {slot : Nat} (stamp : BitVec 64) (waits : Nat) {s : State} (isSlot : slot < 262144) (paired : s.paired = true)
    (up : s.settUp = true) (used : s.slotUsed slot = true) (waiting : (s.slot slot).state = 3) (running : (s.slot slot).ended = false) :
    ∃ t, execStampReply slot stamp waits 0 false [] s = .next t ∧
      ∃ u : State, t = u.settle ∧ (u.slot slot).state = 4 ∧ (u.slot slot).pieceStamp = stamp := by
  obtain ⟨state, pieceStamp, ended⟩ := State.stampReplied_slot (s := s.settGot 0x11) (n := slot) used (by simp [waiting]) stamp waits []
  rw [State.settGot_slot, running] at ended
  refine ⟨_, ?_, _, rfl, state, pieceStamp⟩
  unfold execStampReply
  rw [bounded_eq_next_of_lt isSlot (by decide), State.messageIn_applied paired up]
  dsimp only
  rw [if_neg (by decide), if_neg (by simp [used]), if_neg (by decide)]
  exact congrArg (fun t : State => (.next t.settle : Res)) (if_neg fun quiet => Bool.false_ne_true (ended.symm.trans quiet.1))

/-- R181, R188: with the partner's go its overlaps no longer hold the command. -/
theorem execGo_clears {slot : Nat} (part : Nat) {s : State} (isSlot : slot < 262144) (paired : s.paired = true) (up : s.settUp = true)
    (used : s.slotUsed slot = true) :
    ∃ t, execGo slot part s = .next t ∧ ∃ u : State, t = u.settle ∧ tfind (u.slot slot).waits s.other = some 0 := by
  unfold execGo
  rw [bounded_eq_next (decide_eq_true isSlot), State.messageIn_applied paired up, if_pos (by simp [used])]
  refine ⟨_, rfl, _, rfl, ?_⟩
  rw [State.goCheck_slot_keeps (view := (·.waits)) fun _ _ => rfl, State.slot_updSlot (by simp [used])]
  exact tfind_tput_same _ _ _

/-- R183: a read whose stamp record the partner has confirmed may send its data. -/
theorem execStampRecordConfirmation_confirms {slot : Nat} {s : State} (isSlot : slot < 262144) (paired : s.paired = true) (up : s.settUp = true)
    (used : s.slotUsed slot = true) :
    ∃ t, execStampRecordConfirmation slot s = .next t ∧ ∃ u : State, t = u.settle ∧ (u.slot slot).recordConf = true := by
  unfold execStampRecordConfirmation
  rw [bounded_eq_next (decide_eq_true isSlot), State.messageIn_applied paired up]
  refine ⟨_, rfl, _, rfl, ?_⟩
  rw [State.slot_updSlot (by simp [used])]

/-- R183: the partner's record of a read's stamp is kept, and only its confirmation follows. -/
theorem execStampRecord_keeps {slot : Nat} (stamp : BitVec 64) (handle slba nlb : Nat) (send : List SendRec) {s : State} (isSlot : slot < 262144)
    (paired : s.paired = true) (up : s.settUp = true) :
    ∃ t, execStampRecord slot stamp handle slba nlb send s = .next t ∧
      t.cons.stampRecs = tput s.cons.stampRecs slot (stamp, handle, slba, nlb) := by
  unfold execStampRecord
  rw [bounded_eq_next (decide_eq_true isSlot), State.messageIn_applied paired up]
  refine ⟨_, rfl, ?_⟩
  rw [State.settSend_cons]
  rfl

/-! ### Withdrawal (R158, R159) -/

/-- R159: the partner's request that is held at its extent is taken out, and the partner is told so. -/
theorem execWithdrawal_removes {slot : Nat} (handle slba : Nat) {rc : Nat} {e : Extent} {r : StampReq} {s : State} (isSlot : slot < 262144)
    (paired : s.paired = true) (up : s.settUp = true) (extents : s.cons.extents = [(rc, e)]) (held : e.held = [r]) (crossing : e.crossing = [])
    (ofSlot : r.slot = slot) (ofPartner : r.holder = s.other) (kind : r.kind ≤ 3) :
    ∃ t, execWithdrawal slot handle slba s = .next t ∧ ∃ u : State, t = u.drainAll ∧ (u.extent rc).held = [] := by
  have listed : s.extent rc = e := by simp [State.extent, extents, tget, tfind]
  unfold execWithdrawal
  rw [bounded_eq_next (decide_eq_true isSlot), State.messageIn_applied paired up]
  simp only [State.settGot_cons, State.settGot_other, extents, held, crossing, ofSlot, ofPartner, kind, List.find?_cons, List.any_cons, List.any_nil,
    List.find?_nil, decide_true, Bool.and_self, Bool.or_false]
  refine ⟨_, rfl, _, rfl, ?_⟩
  rw [State.extent_congr (congrArg (·.extents) (State.settSend_cons _ _ _ _)), State.extent_updExtent_same,
    State.extent_congr (congrArg (·.extents) (State.settGot_cons _ _)), listed]
  simp [held, ofSlot, ofPartner, kind]

/-- R158, R159: a command that was not withdrawn runs on, and the Abort that waited for the answer completes with 1. -/
theorem execWithdrawalReply_stands {slot c cid : Nat} {s : State} (isSlot : slot < 262144) (up : s.settUp = true) (paired : s.paired = true)
    (used : s.slotUsed slot = true) (pending : (s.slot slot).abortPending = some (c, cid)) (live : (s.fab c).live = true) :
    ∃ t, execWithdrawalReply slot false s = .next t ∧
      ∃ u : State, t = (u.adminDone { ctx := (s.fab c).adminCtx, cntlid := c, cid := cid } stOk 1).settle ∧ (u.slot slot).abortPending = none ∧
        (u.fab c).aborts = dropOne cid (s.fab c).aborts := by
  unfold execWithdrawalReply
  rw [bounded_eq_next (decide_eq_true isSlot), State.messageIn_applied paired up]
  simp only [State.settGot_slotUsed, used, State.settGot_slot, pending, Bool.false_eq_true, Bool.true_eq_false, false_and, if_false,
    State.updSlot_fab, State.settGot_fab, live, if_true]
  refine ⟨_, rfl, _, rfl, ?_, ?_⟩
  · rw [State.slot_congr (State.bump_cmds _ _ _)]
    exact congrArg (·.abortPending) (State.slot_updSlot (s := s.settGot 0x14) used _)
  · rw [State.fab_congr (State.bump_cmds _ _ _), State.fab_updFab (by simp [live]), State.updSlot_fab, State.settGot_fab]

/-! ### The fence (R178) -/

/-- R178: the fence stops every active extent owned here, and nothing else of the extents. -/
theorem execFenceExpiry_fences {s : State} (paired : s.paired = true) (unfenced : s.cons.fenced = false) :
    ∃ t, execFenceExpiry s = .next t ∧ t.cons.fenced = true ∧
      t.cons.extents = tmap (fun _ e => if e.owner = s.self ∧ e.state = 1 then { e with state := 3 } else e) s.cons.extents := by
  unfold execFenceExpiry
  rw [if_pos ⟨paired, unfenced⟩]
  refine ⟨_, rfl, ?_⟩
  rw [State.bump_cons]
  exact ⟨rfl, rfl⟩

/-- Settles O35. Each clause is the lemma of its command; that the holder of a stamp request is the partner is not needed. -/
theorem completesConsistencyA : Obligations.CompletesConsistencyA :=
  ⟨fun _ send _ paired up read _ => execStampRequest_stamps send paired up read,
   fun _ stamp waits _ => execStampReply_admits stamp waits,
   fun _ part _ => execGo_clears part,
   fun _ handle slba _ _ _ _ => execWithdrawal_removes handle slba,
   fun _ _ _ _ => execWithdrawalReply_stands,
   fun _ stamp handle slba nlb send _ => execStampRecord_keeps stamp handle slba nlb send,
   fun _ _ => execStampRecordConfirmation_confirms,
   fun _ => execFenceExpiry_fences⟩

end Sys2Proof.Machine

namespace Sys2Proof.Machine

/-! ## The stamps of an extent rise (O18) -/

theorem tfind_tmap {α : Type} (f : Nat → α → α) (t : Tbl α) (k : Nat) : tfind (tmap f t) k = (tfind t k).map (f k) := by
  induction t with
  | nil => rfl
  | cons e t ih =>
    by_cases here : k = e.1
    · simp [tmap, tfind, here]
    · simpa [tmap, tfind, here] using ih

@[simp] theorem State.settIfPaired_cons (kind : Nat) (args : List Nat) (data : Bytes) (s : State) : (s.settIfPaired kind args data).cons = s.cons :=
  same_of_touch (g := .cons) (State.settIfPaired_touch (by decide) (.refl _ _))

/-- R173: at a raise of the epoch the last stamp of every extent becomes the epoch's first, which the journals only note. -/
theorem State.applyEpoch_extents (e : Nat) (s : State) : (s.applyEpoch e).cons.extents =
    tmap (fun _ x => { x with lastStamp := BitVec.ofNat 64 (e % 2 ^ 24 * 2 ^ 40) }) s.cons.extents := by
  have noted (l : List Nat) (t : State) : (l.foldl (fun u n => u.journalHeader n false) t).cons = t.cons :=
    same_of_touch (g := .cons) (foldl_touch (.refl _ _) fun _ _ h => State.journalHeader_touch (by decide) h)
  unfold State.applyEpoch
  dsimp only
  rw [noted, State.bump_cons, State.updCons_cons]

theorem epochStart_seq (e : Nat) : (BitVec.ofNat 64 (e % 2 ^ 24 * 2 ^ 40)).toNat % 2 ^ 40 = 0 := by
  rw [BitVec.toNat_ofNat]
  omega

/-- R173: after a raise of the epoch every extent stands at the start of a sequence, listed or not. -/
theorem State.raiseEpoch_seq (s : State) (rec : Nat) : (s.raiseEpoch.extent rec).lastStamp.toNat % 2 ^ 40 = 0 := by
  unfold State.raiseEpoch
  rw [State.extent_congr (congrArg (·.extents) (State.settIfPaired_cons _ _ _ _)), State.extent, State.applyEpoch_extents, tget, tfind_tmap]
  cases tfind s.cons.extents rec with
  | none => rfl
  | some x => exact epochStart_seq _

/-- R172, R173: every stamp is issued where the sequence has room for it, at once or after the epoch has been raised. -/
theorem State.issueStamp_roomy (rec h : Nat) (s : State) : ∃ t : State, (t.extent rec).lastStamp.toNat % 2 ^ 40 ≠ 2 ^ 40 - 1 ∧
    s.issueStamp rec h = t.issueStamp rec h ∧ ((s.extent rec).lastStamp.toNat % 2 ^ 40 ≠ 2 ^ 40 - 1 → t = s) := by
  by_cases ended : (s.extent rec).lastStamp.toNat % 2 ^ 40 = 2 ^ 40 - 1
  · have room : (s.raiseEpoch.extent rec).lastStamp.toNat % 2 ^ 40 ≠ 2 ^ 40 - 1 := by
      rw [s.raiseEpoch_seq rec]
      decide
    refine ⟨s.raiseEpoch, room, ?_, absurd ended⟩
    rw [State.issueStamp_eq room]
    simp only [State.issueStamp, if_pos ended]
  · exact ⟨s, ended, rfl, fun _ => rfl⟩

/-- R171: a stamp whose sequence has room for the next is followed by the next number. -/
theorem toNat_add_one_of_seq {stamp : BitVec 64} (more : stamp.toNat % 2 ^ 40 ≠ 2 ^ 40 - 1) : (stamp + 1).toNat = stamp.toNat + 1 := by
  have inWord := stamp.isLt
  exact BitVec.toNat_add_of_lt (y := 1) (show stamp.toNat + 1 < 2 ^ 64 by omega)

/-- Settles O18. A sequence that has ended starts again in the next epoch, so all three parts are read in a state with room. -/
theorem stampsRise : Obligations.StampsRise := by
  intro rec h s
  obtain ⟨t, more, issued, same⟩ := State.issueStamp_roomy rec h s
  have next := toNat_add_one_of_seq more
  rw [issued, State.issueStamp_eq more]
  refine ⟨?_, ?_, fun going => ?_⟩
  · dsimp only
    omega
  · rw [State.extent_congr (congrArg (·.extents) (State.bump_cons _ _ _)), State.extent_updExtent_same]
  · rw [← same going]
    exact next

end Sys2Proof.Machine

namespace Sys2Proof.Machine

/-! ## Read pins, lease moves, the epoch, the own larder (O36) -/

/-! ### Read entries (R194) -/

theorem execReadPinExpiry_removes {entry : Nat} {e : OvlEntry} {s : State} (inRange : entry < 262144) (listed : tfind s.cons.ovl entry = some e)
    (read : e.kind = 1) (handed : 0 < e.doneNs) :
    ∃ t, execReadPinExpiry entry s = .next t ∧ ∃ u : State, t = u.releaseCovered.drainAll.settle ∧ u.cons.ovl = tdel s.cons.ovl entry := by
  unfold execReadPinExpiry
  rw [bounded_eq_next (decide_eq_true inRange), listed]
  refine ⟨_, congrArg Host.Outcome.next (if_pos ⟨read, handed⟩), _, rfl, ?_⟩
  rw [State.bump_cons, State.updCons_cons]

/-! ### Lease moves (R177, R180) -/

/-- R180: phase 1 of a move stands in the lease; the message to the partner leaves it. -/
theorem State.startMove_lease (handle extNo target : Nat) (s : State) :
    (s.startMove handle extNo target).cons.lease = { lState := 1, handle := handle, extNo := extNo, target := target } := by
  unfold State.startMove
  rw [State.settSend_cons, State.updCons_cons]

theorem execAutoBalanceMove_moves {e : Nat × Extent} {s : State} (paired : s.paired = true) (balance : s.consCfgAutoBalance = 1)
    (idle : s.leaseIdle = true) (store : s.power.estore.partnerN ≠ 0)
    (found : s.cons.extents.find? (fun e =>
      decide (e.2.state = 1) && decide (e.2.owner = s.self) && decide ((e.2.handle + e.2.extNo) % 2 = s.other)) = some e) :
    ∃ t, execAutoBalanceMove false s = .next t ∧ t.cons.lease = { lState := 1, handle := e.2.handle, extNo := e.2.extNo, target := s.other } := by
  refine ⟨_, ?_, State.startMove_lease _ _ _ s⟩
  unfold execAutoBalanceMove
  rw [if_pos ⟨paired, balance, idle, rfl, store⟩, found]

/-- R180: phase 3 at the old owner hands the extent over and ends the move; then what is held there is answered MOVED. -/
theorem execLeaseDrainComplete_hands {s : State} (paired : s.paired = true) (moving : s.cons.lease.lState = 1)
    (own : (s.extent (s.extRec s.cons.lease.handle s.cons.lease.extNo)).owner = s.self) (drained : s.leaseDrained = true) :
    ∃ t, execLeaseDrainComplete s = .next t ∧ ∃ u : State, t = (u.answerMoved (s.extRec s.cons.lease.handle s.cons.lease.extNo)).settle ∧
      (u.extent (s.extRec s.cons.lease.handle s.cons.lease.extNo)).owner = s.cons.lease.target ∧
      (u.extent (s.extRec s.cons.lease.handle s.cons.lease.extNo)).state = 1 ∧ u.cons.lease.lState = 0 := by
  refine ⟨_, congrArg Host.Outcome.next (if_pos ⟨paired, moving, own, drained⟩), _, rfl, ?_⟩
  rw [State.extent_congr (congrArg (·.extents) (State.bump_cons _ _ _)), State.extent_updExtent_same, State.bump_cons]
  exact ⟨rfl, rfl, rfl⟩

/-- R180: a change of an extent shows in it, whatever is then noted of the lease. -/
theorem State.extent_noted (rec : Nat) (f : Extent → Extent) (lease : LeaseOp) (s : State) :
    ((s.updExtent rec f).updCons fun c => { c with lease := lease }).extent rec = f (s.extent rec) := State.extent_updExtent_same rec f s

/-- R180: a move that is abandoned leaves the extent active at the old owner. -/
theorem execLeaseMoveTimeout_abandons {s : State} (paired : s.paired = true) (moving : s.cons.lease.lState = 1)
    (own : (s.extent (s.extRec s.cons.lease.handle s.cons.lease.extNo)).owner = s.self) :
    ∃ t, execLeaseMoveTimeout s = .next t ∧ ∃ u : State, t = u.drainAll.settle ∧
      (u.extent (s.extRec s.cons.lease.handle s.cons.lease.extNo)).state = 1 ∧ u.cons.lease.lState = 3 := by
  refine ⟨_, congrArg Host.Outcome.next (if_pos ⟨paired, moving, own⟩), _, rfl, ?_⟩
  rw [State.extent_congr (congrArg (·.extents) (State.settSend_cons _ _ _ _)), State.settSend_cons,
    State.extent_congr (congrArg (·.extents) (State.bump_cons _ _ _)), State.bump_cons, State.extent_noted]
  exact ⟨rfl, rfl⟩

/-- R180: the partner's phase 1 is noted here, and the extent is moving in this copy too. -/
theorem execLeasePhase_drains (handle extNo target : Nat) {s : State} (paired : s.paired = true) (up : s.settUp = true) :
    ∃ t, execLeasePhase 1 handle extNo target s = .next t ∧
      t.cons.lease = { lState := 1, handle := handle, extNo := extNo, target := target } ∧ (t.extent (s.extRec handle extNo)).state = 2 := by
  unfold execLeasePhase
  rw [State.messageIn_applied paired up]
  exact ⟨_, rfl, rfl, congrArg (·.state) (State.extent_noted (s.extRec handle extNo) (fun e => { e with state := 2 }) _ (s.settGot 0x17))⟩

/-! ### The epoch (R173) -/

theorem execEpochRaise_raises {epoch : Nat} {s : State} (fits : epoch < 2 ^ 24) (paired : s.paired = true) (up : s.settUp = true)
    (higher : s.cons.epoch < epoch) : ∃ t, execEpochRaise epoch s = .next t ∧ t.cons.epoch = epoch := by
  unfold execEpochRaise
  rw [bounded_eq_next (decide_eq_true fits), State.messageIn_applied paired up, State.settGot_cons, if_pos higher]
  exact ⟨_, rfl, (State.applyEpoch_epoch epoch _).trans (Nat.mod_eq_of_lt fits)⟩

/-! ### Larder slots for a write (R216) -/

/-- R121, R129: asking the host for data changes of the slots at most that it has been asked. -/
theorem State.askHost_slot_keeps {β : Type} {view : Slot → β} (keeps : ∀ p, view { p with asked := true } = view p) (n : Nat) (s : State) (j : Nat) :
    view ((s.askHost n).slot j) = view (s.slot j) := by
  have planned (t : State) (i : Nat) (sizes : List Nat) (f : SendPlan → SendPlan) :
      (((t.plan i n 2 sizes).updPlan i n f).flushPlans i).cmds = t.cmds :=
    (State.flushPlans_cmds _ _).trans ((State.updPlan_cmds _ _ _ _).trans (same_of_touch (g := .cmds) (State.plan_touch (by decide) (.refl _ _))))
  have sent (t : State) (i k : Nat) (o : Out) : (t.sendMsg i k o).cmds = t.cmds :=
    same_of_touch (g := .cmds) (State.sendMsg_touch (by decide) (.refl _ _))
  have asked (i : Nat) (f : Ctx → Ctx) : view (((s.updCtx i f).updSlot n fun x => { x with asked := true }).slot j) = view (s.slot j) :=
    State.slot_updSlot_keeps keeps _ n j
  unfold State.askHost
  dsimp only
  split
  · rfl
  · split
    · split
      · rfl
      · split
        · rw [State.slot_congr (planned _ _ _ _), asked]
        · rw [State.slot_congr (sent _ _ _ _), asked]
    · split
      · split
        · rw [State.slot_congr (planned _ _ _ _), asked]
        · rw [State.slot_congr (sent _ _ _ _), asked]
      · rfl

/-- R38: what follows the reservation of a write's larder slots changes of the slots at most that the write has begun and asked for its data. -/
theorem State.beginWrite_slot_keeps {β : Type} {view : Slot → β} (begun : ∀ p, view { p with begun := true } = view p)
    (asked : ∀ p, view { p with asked := true } = view p) (n : Nat) (s : State) (j : Nat) :
    view ((s.beginWrite n).slot j) = view ((s.reserve n).slot j) := by
  have told (b : Bool) (t : State) : ((t.sendStampUpdate n).when b fun u => u.stage n 7).cmds = t.cmds :=
    same_of_touch (g := .cmds) (State.when_touch (State.sendStampUpdate_touch (by decide) (.refl _ _)) fun _ h => State.stage_touch (by decide) h)
  unfold State.beginWrite
  dsimp only
  split
  · rw [State.slot_congr (told _ _), State.askHost_slot_keeps asked, State.slot_updSlot_keeps begun]
  · rfl

/-- R38: the layout changes by the reservation of a write's larder slots alone. -/
theorem State.beginWrite_layout (n : Nat) (s : State) : (s.beginWrite n).layout = (s.reserve n).layout := by
  refine same_of_touch (g := .layout) (ite_touch ?_ (.refl _ _))
  exact State.when_touch (State.sendStampUpdate_touch (by decide) (State.askHost_touch (by decide) (State.updSlot_touch (by decide) (.refl _ _))))
    fun _ h => State.stage_touch (by decide) h

/-- The state in which a write of one block has its larder slot and waits no longer (R216). -/
def State.reservedOne (n b l : Nat) (s : State) : State :=
  ((s.updSlot n fun x => { x with reserved := 1, writeThrough := false, writes := x.writes ++ [{ blk := b, lslot := l }] }).updLayout fun x =>
    { x with waiting := dropOne n x.waiting }).stage n 6

/-- R216: the one write that waits takes its one slot where the limit has room. -/
theorem State.reserve_eq_reservedOne {n b l : Nat} {s : State} (waits : s.layout.waiting = [n]) (none : (s.slot n).writes = [])
    (near : s.nearBlks (s.slot n) = [b]) (free : s.freeLarder 1 = [l]) (limited : 0 < s.layout.limit)
    (room : s.limitedSlots + 1 ≤ s.layout.limit) : s.reserve n = s.reservedOne n b l := by
  have through : (!s.paired && decide (s.layout.limit = 0)) = false := by simp [Nat.ne_of_gt limited]
  unfold State.reserve
  simp only [near, none, waits, through, List.length_singleton, free, List.any_nil, Bool.false_eq_true, List.cons_ne_self, or_self, if_false,
    List.head?_cons, ne_eq, not_true_eq_false, and_false, room, decide_true, or_true, and_self, if_true]
  rfl

theorem execLarderSlotReserve_takes {n b l : Nat} {s : State} (waits : s.layout.waiting = [n]) (used : s.slotUsed n = true)
    (none : (s.slot n).writes = []) (near : s.nearBlks (s.slot n) = [b]) (free : s.freeLarder 1 = [l]) (limited : 0 < s.layout.limit)
    (room : s.limitedSlots + 1 ≤ s.layout.limit) : ∃ t, execLarderSlotReserve s = .next t ∧
      ∃ u : State, t = u.settle ∧ u.layout.waiting = [] ∧ (u.slot n).reserved = 1 ∧ (u.slot n).writes = [{ blk := b, lslot := l }] := by
  have layout : (s.reservedOne n b l).layout = { s.layout with waiting := dropOne n s.layout.waiting } :=
    same_of_touch (g := .layout) (State.stage_touch (by decide) (.refl _ _))
  have slot : (s.reservedOne n b l).slot n =
      { s.slot n with reserved := 1, writeThrough := false, writes := (s.slot n).writes ++ [{ blk := b, lslot := l }] } :=
    (State.slot_congr (State.stage_cmds _ _ _) n).trans (State.slot_updSlot used _)
  have reserved := State.reserve_eq_reservedOne waits none near free limited room
  unfold execLarderSlotReserve
  rw [waits]
  refine ⟨_, rfl, _, rfl, ?_, ?_, ?_⟩
  · rw [State.beginWrite_layout, reserved, layout]
    simp [waits, dropOne]
  · rw [State.beginWrite_slot_keeps (view := (·.reserved)) (fun _ => rfl) fun _ => rfl, reserved, slot]
  · rw [State.beginWrite_slot_keeps (view := (·.writes)) (fun _ => rfl) fun _ => rfl, reserved, slot]
    simp [none]

end Sys2Proof.Machine

namespace Sys2Proof.Machine

/-! ## What leaves the own larder alone (O36, O37)

A version that has been placed stands in the larder while the commands that waited for it are told and what was held is admitted. One lemma per
operation, in the order of the model: most touch no layout at all; of the rest, journals change the pools, admission the slots reserved for the
partner, and a completion in hold-up what is owed. -/

/-- The versions in the own larder. -/
def State.versions (s : State) : Tbl Version := s.layout.larder

theorem State.versions_of_touch {s t : State} (h : Touch (allBut .layout) s t) : t.versions = s.versions :=
  congrArg (·.larder) (same_of_touch (g := .layout) h)

@[simp] theorem State.versions_ite {c : Prop} [Decidable c] (a b : State) : (if c then a else b).versions = if c then a.versions else b.versions :=
  apply_ite _ _ _ _

@[simp] theorem State.versions_when {f : State → State} (keeps : ∀ t, (f t).versions = t.versions) (b : Bool) (s : State) :
    (s.when b f).versions = s.versions := by
  unfold State.when
  split
  · exact keeps s
  · rfl

@[simp] theorem State.versions_foldl {α : Type} {f : State → α → State} (keeps : ∀ t x, (f t x).versions = t.versions) (l : List α) (s : State) :
    (l.foldl f s).versions = s.versions :=
  List.foldlRecOn (motive := fun t : State => t.versions = s.versions) l f rfl fun t kept x _ => (keeps t x).trans kept

@[simp] theorem State.versions_foldl_snd {α β : Type} {f : β × State → α → β × State} (keeps : ∀ a x, (f a x).2.versions = a.2.versions)
    (l : List α) (a : β × State) : (l.foldl f a).2.versions = a.2.versions :=
  List.foldlRecOn (motive := fun b : β × State => b.2.versions = a.2.versions) l f rfl fun b kept x _ => (keeps b x).trans kept

@[simp] theorem State.updLayout_versions {f : Layout → Layout} (keeps : ∀ l, (f l).larder = l.larder) (s : State) :
    (s.updLayout f).versions = s.versions := keeps s.layout

@[simp] theorem State.updCons_versions (f : Cons → Cons) (s : State) : (s.updCons f).versions = s.versions := rfl

@[simp] theorem State.updExtent_versions (rec : Nat) (f : Extent → Extent) (s : State) : (s.updExtent rec f).versions = s.versions := rfl

@[simp] theorem State.updSlot_versions (n : Nat) (f : Slot → Slot) (s : State) : (s.updSlot n f).versions = s.versions := rfl

@[simp] theorem State.updCtx_versions (i : Nat) (f : Ctx → Ctx) (s : State) : (s.updCtx i f).versions = s.versions := rfl

@[simp] theorem State.updPool_versions (n : Nat) (f : Pool → Pool) (s : State) : (s.updPool n f).versions = s.versions := rfl

@[simp] theorem State.bump_versions (c : Nat × Nat) (i : Nat) (s : State) : (s.bump c i).versions = s.versions :=
  State.versions_of_touch (State.bump_touch (by decide) (.refl _ _))

@[simp] theorem State.stage_versions (n k : Nat) (s : State) : (s.stage n k).versions = s.versions :=
  State.versions_of_touch (State.stage_touch (by decide) (.refl _ _))

@[simp] theorem State.settSend_versions (kind : Nat) (args : List Nat) (data : Bytes) (s : State) : (s.settSend kind args data).versions = s.versions :=
  State.versions_of_touch (State.settSend_touch (by decide) (.refl _ _))

@[simp] theorem State.settIfPaired_versions (kind : Nat) (args : List Nat) (data : Bytes) (s : State) :
    (s.settIfPaired kind args data).versions = s.versions :=
  State.versions_of_touch (State.settIfPaired_touch (by decide) (.refl _ _))

/-! ### Journals and the epoch (R173, R231) -/

@[simp] theorem State.submit_versions (tenant : Nat) (c : DriveCmd) (s : State) : (s.submit tenant c).versions = s.versions :=
  State.versions_of_touch (State.submit_touch (by decide) (.refl _ _))

@[simp] theorem State.submitRun_versions (cls : Option Nat) (tenant : Nat) (c : DriveCmd) (s : State) :
    (s.submitRun cls tenant c).versions = s.versions :=
  State.versions_of_touch (State.submitRun_touch (by decide) (.refl _ _))

@[simp] theorem State.journal_versions (n : Nat) (r : JRec) (s : State) : (s.journal n r).versions = s.versions := by
  simp [State.journal, State.journalData]

@[simp] theorem State.journalHeader_versions (n : Nat) (clean : Bool) (s : State) : (s.journalHeader n clean).versions = s.versions := by
  simp [State.journalHeader]

@[simp] theorem State.raiseEpoch_versions (s : State) : s.raiseEpoch.versions = s.versions := by
  simp [State.raiseEpoch, State.applyEpoch]

@[simp] theorem State.issueStamp_versions (rec h : Nat) (s : State) : (s.issueStamp rec h).2.versions = s.versions := by
  simp [State.issueStamp]

/-! ### Admission (R181, R184, R188) -/

@[simp] theorem State.addOvl_versions (e : OvlEntry) (s : State) : (s.addOvl e).versions = s.versions :=
  State.versions_of_touch (State.addOvl_touch (by decide) (.refl _ _))

@[simp] theorem State.enterPart_versions (kind slot holder h : Nat) (stamp : BitVec 64) (first n : Nat) (partials : List Nat) (crossing : Bool)
    (s : State) : (s.enterPart kind slot holder h stamp first n partials crossing).2.versions = s.versions :=
  State.versions_of_touch (State.enterPart_touch (by decide) (.refl _ _))

@[simp] theorem State.countWait_versions (kind h waits : Nat) (s : State) : (s.countWait kind h waits).versions = s.versions :=
  State.versions_of_touch (State.countWait_touch (by decide) (.refl _ _))

@[simp] theorem State.goCheck_versions (n : Nat) (s : State) : (s.goCheck n).versions = s.versions :=
  State.versions_of_touch (State.goCheck_touch (by decide) (.refl _ _))

@[simp] theorem State.giveStamp_versions (n : Nat) (stamp : BitVec 64) (owner waits : Nat) (s : State) :
    (s.giveStamp n stamp owner waits).versions = s.versions :=
  State.versions_of_touch (State.giveStamp_touch (by decide) (.refl _ _))

@[simp] theorem State.sendGo_versions (slot holder part : Nat) (s : State) : (s.sendGo slot holder part).versions = s.versions :=
  State.versions_of_touch (State.sendGo_touch (by decide) (.refl _ _))

@[simp] theorem State.foldWrite_versions (k : Nat) (e : OvlEntry) (s : State) : (s.foldWrite k e).versions = s.versions :=
  State.versions_of_touch (State.foldWrite_touch (by decide) (.refl _ _))

/-- R220: for a forwarded write the layout takes note of slots reserved for it, which hold no version yet. -/
@[simp] theorem State.tellStamp_versions (slot holder : Nat) (stamp : BitVec 64) (waits part blocks : Nat) (s : State) :
    (s.tellStamp slot holder stamp waits part blocks).versions = s.versions := by
  simp [State.tellStamp]

@[simp] theorem State.admitOne_versions (rec : Nat) (r : StampReq) (first n : Nat) (partials : List Nat) (s : State) :
    (s.admitOne rec r first n partials).versions = s.versions := by
  simp [State.admitOne]

@[simp] theorem State.admitBoth_versions (lo up : Nat) (r : StampReq) (s : State) : (s.admitBoth lo up r).versions = s.versions := by
  simp [State.admitBoth]

@[simp] theorem State.reserveUpper_versions (rec : Nat) (r : StampReq) (s : State) : (s.reserveUpper rec r).versions = s.versions := by
  simp [State.reserveUpper]

theorem State.admitReq_versions {rec : Nat} {r : StampReq} {s t : State} (admitted : s.admitReq rec r = some t) : t.versions = s.versions := by
  unfold State.admitReq at admitted
  dsimp only at admitted
  split at admitted
  · cases admitted
  · split at admitted
    · cases admitted
      simp
    · split at admitted
      · split at admitted
        · split at admitted
          · cases admitted
          · cases admitted
            simp
        · cases admitted
          simp
      · cases admitted
        simp

@[simp] theorem State.drainHeld_versions (rec k : Nat) (s : State) : (State.drainHeld rec k s).versions = s.versions := by
  induction k generalizing s with
  | zero => rfl
  | succ k ih =>
    unfold State.drainHeld
    split
    · rfl
    · split
      next admitted => rw [ih, State.updExtent_versions, State.admitReq_versions admitted, State.updExtent_versions]
      · rfl

@[simp] theorem State.drainAll_versions (s : State) : s.drainAll.versions = s.versions := by
  simp [State.drainAll]

/-- R188: what a placement counts down and lets go leaves the version that was placed. -/
@[simp] theorem State.placedOvl_versions (slot holder : Nat) (stamp : BitVec 64) (retired : Bool) (s : State) :
    (s.placedOvl slot holder stamp retired).versions = s.versions := by
  simp [State.placedOvl]

/-! ### Events of a write and their templates (R135, R220, R233) -/

@[simp] theorem State.postNow_versions (n : Nat) (s : State) : (s.postNow n).versions = s.versions :=
  State.versions_of_touch (State.postNow_touch (by decide) (.refl _ _))

@[simp] theorem State.sendMirror_versions (n : Nat) (s : State) : (s.sendMirror n).versions = s.versions :=
  State.versions_of_touch (State.sendMirror_touch (by decide) (.refl _ _))

@[simp] theorem State.revokeOf_versions (n : Nat) (s : State) : (s.revokeOf n).versions = s.versions :=
  State.versions_of_touch (State.revokeOf_touch (by decide) (.refl _ _))

@[simp] theorem State.postCompletion_versions (n : Nat) (s : State) : (s.postCompletion n).versions = s.versions := by
  unfold State.postCompletion
  split
  · rfl
  · simp

@[simp] theorem State.chainAction_versions (n action : Nat) (s : State) : (s.chainAction n action).versions = s.versions := by
  simp [State.chainAction]

@[simp] theorem State.fireChain_versions (n t : Nat) (cs : Tbl Chain) (s : State) : (s.fireChain n t cs).versions = s.versions := by
  simp [State.fireChain]

@[simp] theorem State.trigger_versions (n kind : Nat) (s : State) : (s.trigger n kind).versions = s.versions := by
  simp [State.trigger, State.evalChains]

/-! ### Placement (R182, R223, R251) -/

@[simp] theorem State.heal_versions (h : Nat) (blks : List Nat) (s : State) : (s.heal h blks).versions = s.versions := rfl

@[simp] theorem State.rule3Update_versions (s : State) : s.rule3Update.versions = s.versions := rfl

@[simp] theorem State.plan_versions (i n kind : Nat) (sizes : List Nat) (s : State) : (s.plan i n kind sizes).versions = s.versions :=
  State.versions_of_touch (State.plan_touch (by decide) (.refl _ _))

/-- R182, R220: the partner's blocks of a write are forwarded and kept in the mirror larder alone. -/
@[simp] theorem State.forward_versions (n : Nat) (s : State) : (s.forward n).versions = s.versions := by
  simp [State.forward]

end Sys2Proof.Machine

namespace Sys2Proof.Machine

/-! ## Placement of a write (O36) -/

/-- R218: the state in which the versions of a write stand in the larder, and the event of their placement has not been raised. -/
def State.writePlaced (n : Nat) (s : State) : State :=
  let p := s.slot n
  (((s.insertVersions (s.versionsFrom p (p.writes.filter fun w => !w.far) false)).updSlot n fun x => { x with placed := true, reserved := 0 }).heal
    p.handle (p.writes.map (·.blk))).rule3Update.stage n 8

/-- R218: in M3 the placement of a write in the larder of its owner is followed by its event, or for an earlier piece by its mirror record. -/
theorem State.placeWrite_eq {n : Nat} {s : State} (admitted : (s.slot n).state = 4) (writes : writeKind (s.slot n).opcode = true)
    (paired : s.paired = true) (lost : s.pair.lost = false) (gone : (s.slot n).gone = true) (begun : (s.slot n).begun = true)
    (fetched : (s.slot n).need = 0) (unplaced : (s.slot n).placed = false) (encrypted : (s.slot n).sealed = true)
    (larder : (s.slot n).writeThrough = false) (near : (s.slot n).writes.filter (fun w => !w.far) ≠ []) :
    s.placeWrite n =
      let t := (s.writePlaced n).when ((s.slot n).toPartner || (s.slot n).writes.any (·.far)) fun u => u.forward n
      if (s.slot n).lastPiece then t.trigger n 0 else t.sendMirror n := by
  have ready : ¬ ((s.slot n).state ≠ 4 ∨ writeKind (s.slot n).opcode = false ∨ (s.pair.lost = true ∧ (s.ownersOf (s.slot n)).contains s.other = true) ∨
      (s.slot n).gone = false ∨ (s.slot n).begun = false ∨ 0 < (s.slot n).need ∨ (s.slot n).placed = true ∨ (s.slot n).sealed = false) := by
    simp [admitted, writes, lost, gone, begun, fetched, unplaced, encrypted]
  unfold State.placeWrite
  dsimp only
  rw [if_neg ready, if_neg (by simp [paired]), if_neg near, larder]
  rfl

/-- R218: a write of one block puts one version into the larder. -/
theorem State.writePlaced_versions {n : Nat} {s : State} {w : BlkWrite} (one : (s.slot n).writes = [w]) (near : w.far = false) :
    (tfind (s.writePlaced n).versions w.lslot).map (fun v => (v.blk, v.stamp, v.placed)) = some (w.blk, (s.slot n).pieceStamp, true) := by
  unfold State.writePlaced
  simp only [State.stage_versions, State.rule3Update_versions, State.heal_versions, State.updSlot_versions]
  simp [State.versions, State.insertVersions, State.versionsFrom, one, near]

/-- R218: what follows the placement leaves the version where it is. -/
theorem execLarderPlacement_places {n : Nat} {w : BlkWrite} {s : State} (inRange : n < 262144) (admitted : (s.slot n).state = 4)
    (writes : writeKind (s.slot n).opcode = true) (paired : s.paired = true) (lost : s.pair.lost = false) (gone : (s.slot n).gone = true)
    (begun : (s.slot n).begun = true) (fetched : (s.slot n).need = 0) (unplaced : (s.slot n).placed = false) (encrypted : (s.slot n).sealed = true)
    (larder : (s.slot n).writeThrough = false) (one : (s.slot n).writes = [w]) (near : w.far = false) :
    ∃ t, execLarderPlacement n s = .next t ∧ ∃ u : State, t = u.settle ∧
      (tfind u.layout.larder w.lslot).map (fun v => (v.blk, v.stamp, v.placed)) = some (w.blk, (s.slot n).pieceStamp, true) := by
  have placed := State.placeWrite_eq admitted writes paired lost gone begun fetched unplaced encrypted larder (by simp [one, near])
  have kept : (s.placeWrite n).versions = (s.writePlaced n).versions := by simp [placed]
  refine ⟨_, bounded_eq_next (decide_eq_true inRange), _, rfl, ?_⟩
  rw [← State.writePlaced_versions one near, ← kept]
  rfl

/-- Settles O36. Each clause is the lemma of its command. -/
theorem completesConsistencyB : Obligations.CompletesConsistencyB :=
  ⟨fun _ _ _ => execReadPinExpiry_removes,
   fun _ _ => execAutoBalanceMove_moves,
   fun _ => execLeaseDrainComplete_hands,
   fun _ => execLeaseMoveTimeout_abandons,
   fun handle extNo target _ => execLeasePhase_drains handle extNo target,
   fun _ _ => execEpochRaise_raises,
   fun _ _ _ _ => execLarderSlotReserve_takes,
   fun _ _ _ => execLarderPlacement_places⟩

end Sys2Proof.Machine

namespace Sys2Proof.Machine

/-! ## Messages between the two larders (O37) -/

@[simp] theorem State.settGot_layout (kind : Nat) (s : State) : (s.settGot kind).layout = s.layout := rfl

@[simp] theorem State.settGot_paired (kind : Nat) (s : State) : (s.settGot kind).paired = s.paired := rfl

@[simp] theorem State.settSend_layout (kind : Nat) (args : List Nat) (data : Bytes) (s : State) : (s.settSend kind args data).layout = s.layout :=
  same_of_touch (g := .layout) (State.settSend_touch (by decide) (.refl _ _))

/-- R369, R374: with a bundle up, a message of the partner's is applied where its mirror records are taken. -/
theorem State.mirrorIn_applied {s : State} (taken : s.mirrorsIn = true) (up : s.settUp = true) (kind : Nat) (f : State → State) :
    (if s.mirrorsIn = false then s else s.settIn kind f) = f (s.settGot kind) := by
  rw [if_neg (by simp [taken]), State.settIn_up up]

/-! ### Mirror records, their confirmation and their release (R219, R220) -/

/-- R220: the confirmation of a mirror record leaves the mirror larder. -/
theorem execMirrorRecord_mirrors (m : MirrorMsg) {s : State} (taken : s.mirrorsIn = true) (up : s.settUp = true) :
    ∃ t, execMirrorRecord m s = .next t ∧ t.layout.mirror = (msgVersions m s.now).foldl (fun x v => tput x v.1 v.2) s.layout.mirror := by
  have confirmed (b : Bool) (f : Pair → Pair) (t : State) : (t.when b fun w => (w.updPair f).settSend 0x21 [m.slot] []).layout = t.layout :=
    same_of_touch (g := .layout) (State.when_touch (.refl _ _) fun _ h => State.settSend_touch (by decide) (State.updPair_touch (by decide) h))
  unfold execMirrorRecord
  rw [State.mirrorIn_applied taken up]
  refine ⟨_, rfl, ?_⟩
  dsimp only
  rw [confirmed]
  rfl

theorem execMirrorConfirmation_counts {n : Nat} {w : BlkWrite} {s : State} (inRange : n < 262144) (up : s.settUp = true) (paired : s.paired = true)
    (used : s.slotUsed n = true) (placed : (s.slot n).placed = true) (unmirrored : (s.slot n).mirrored = false) (one : (s.slot n).writes = [w])
    (near : w.far = false) :
    ∃ t, execMirrorConfirmation n s = .next t ∧ ∃ u : State, t = (u.partsDone n).settle ∧ (u.slot n).mirrored = true ∧
      u.layout.larder = tadj w.lslot (fun v => { v with mirrored := true }) s.layout.larder := by
  unfold execMirrorConfirmation
  rw [bounded_eq_next (decide_eq_true inRange), State.settIn_up up, if_pos (by simp [paired])]
  unfold State.mirrorDone
  simp only [State.settGot_slot, placed, unmirrored, one, near, Bool.true_eq_false, Bool.false_eq_true, or_self, if_false, Bool.not_false,
    List.filter_cons, List.filter_nil, if_true, List.map_cons, List.map_nil, List.foldl_cons, List.foldl_nil]
  exact ⟨_, rfl, _, rfl, congrArg (·.mirrored) (State.slot_updSlot (by exact used) _), rfl⟩

theorem execRelease_frees (slots : List Nat) {s : State} (taken : s.mirrorsIn = true) (up : s.settUp = true) :
    ∃ t, execRelease slots s = .next t ∧ t.layout.mirror = s.layout.mirror.filter fun e => !slots.contains e.1 := by
  unfold execRelease
  rw [State.mirrorIn_applied taken up]
  exact ⟨_, rfl, rfl⟩

/-- R220: at most 256 releases go out at once; with none pending none are left. -/
theorem State.flushReleases_releases (s : State) : s.flushReleases.layout.releases = s.layout.releases.drop 256 := by
  unfold State.flushReleases
  dsimp only
  split
  next none => simp [List.isEmpty_iff.mp none]
  · rfl

/-! ### Synchronisation (R374) -/

/-- R374: a slot whose version has gone since is struck off like one that is copied. -/
theorem execSynchronisationCopy_strikes {lslot : Nat} {s : State} (inRange : lslot < 16384000) (syncing : s.syncing = true)
    (left : s.layout.syncLeft.contains lslot = true) :
    ∃ t, execSynchronisationCopy lslot s = .next t ∧ t.layout.syncLeft = dropOne lslot s.layout.syncLeft := by
  unfold execSynchronisationCopy
  rw [bounded_eq_next (decide_eq_true inRange), if_pos ⟨syncing, left⟩]
  refine ⟨_, rfl, ?_⟩
  split
  · rw [State.updLayout_layout, State.settSend_layout]
  · rfl

/-! ### Forwarded writes (R182) -/

/-- R220: the version that a message of one block brings stands in the larder slot it names. -/
theorem State.insertVersions_msgVersions {m : MirrorMsg} {l b : Nat} {x y : Bytes} (one : m.blocks = [(l, b, x, y)]) (now : Nat) (s : State) :
    (tfind (s.insertVersions (msgVersions m now)).versions l).map (fun v => (v.blk, v.stamp, v.placed)) =
      some (b, BitVec.ofNat 64 m.stamp, true) := by
  simp [State.versions, State.insertVersions, msgVersions, one]

/-- R182: what a placement here counts down, and its confirmation to the partner, leave the version that was forwarded. -/
theorem execForwardedData_places {m : MirrorMsg} {l b : Nat} {x y : Bytes} {s : State} (paired : s.paired = true) (up : s.settUp = true)
    (one : m.blocks = [(l, b, x, y)]) :
    ∃ t, execForwardedData m s = .next t ∧ ∃ u : State, t = u.releaseCovered.settle ∧
      (tfind u.layout.larder l).map (fun v => (v.blk, v.stamp, v.placed)) = some (b, BitVec.ofNat 64 m.stamp, true) := by
  unfold execForwardedData
  rw [State.messageIn_applied paired up]
  refine ⟨_, rfl, _, rfl, ?_⟩
  rw [← State.insertVersions_msgVersions one (s.settGot 0x30).now (s.settGot 0x30)]
  refine congrArg (fun t : Tbl Version => (tfind t l).map fun v => (v.blk, v.stamp, v.placed)) (Eq.trans (State.settSend_versions _ _ _ _) ?_)
  rw [State.placedOvl_versions, State.rule3Update_versions, State.heal_versions]
  rfl

theorem execPlacementConfirmation_confirms {n : Nat} {s : State} (inRange : n < 262144) (paired : s.paired = true) (up : s.settUp = true)
    (used : s.slotUsed n = true) (placed : (s.slot n).placed = true) (unconfirmed : (s.slot n).farPlaced = false) :
    ∃ t, execPlacementConfirmation n s = .next t ∧ ∃ u : State, t = (u.partsDone n).settle ∧ (u.slot n).farPlaced = true := by
  unfold execPlacementConfirmation State.forwardDone
  rw [bounded_eq_next (decide_eq_true inRange), State.messageIn_applied paired up]
  refine ⟨_, congrArg (fun t : State => (.next t.settle : Res)) (if_neg (by simp [placed, unconfirmed])), _, rfl, ?_⟩
  exact congrArg (·.farPlaced) (State.slot_updSlot (s := s.settGot 0x31) used _)

/-- Settles O37. Each clause is the lemma of its command. -/
theorem completesConsistencyC : Obligations.CompletesConsistencyC :=
  ⟨fun m _ => execMirrorRecord_mirrors m,
   fun _ _ _ => execMirrorConfirmation_counts,
   fun slots _ => execRelease_frees slots,
   fun s => ⟨_, rfl, s.flushReleases_releases⟩,
   fun _ _ => execSynchronisationCopy_strikes,
   fun _ _ _ _ _ _ => execForwardedData_places,
   fun _ _ => execPlacementConfirmation_confirms⟩

end Sys2Proof.Machine

namespace Sys2Proof.Machine

/-! ## Writes of objects that are accepted (O55) -/

/-! ### What an accepted write has passed (R15, R503) -/

theorem Verdict.thenCheck_accepts {a b : Verdict} : (a.thenCheck b).code = 0 ↔ a.code = 0 ∧ b.code = 0 := by
  unfold Verdict.thenCheck
  split
  next first => simp [first]
  next first => simp [first]

theorem rejectIf_accepts {b : Bool} {code : Nat} (status : code ≠ 0) : (rejectIf b code).code = 0 ↔ b = false := by
  cases b
  · simp [rejectIf]
  · simp [rejectIf, reject, status]

/-- R504: BW_WIN_n and the objects of check-value units are no word objects with fields to write. -/
theorem ne_of_wordCount {sub ty : Nat} (word : 0 < wordCount sub ty) : ¬ (sub = 13 ∧ ty = 2) ∧ ¬ (sub = 14 ∧ (ty = 7 ∨ ty = 8 ∨ ty = 9)) := by
  constructor
  · rintro ⟨rfl, rfl⟩
    exact absurd word (by decide)
  · rintro ⟨rfl, rfl | rfl | rfl⟩
    · exact absurd word (by decide)
    · exact absurd word (by decide)
    · exact absurd word (by decide)

/-- R15, R498: a word object is written whole, with no reserved bit and its own rule kept. -/
theorem State.writeCheck_word {s : State} {session id off : Nat} {b : Bytes} (word : 0 < wordCount (idSub id) (idType id))
    (ok : (s.writeCheck session id off b).code = 0) :
    (fieldsCheck (wordFields (idSub id) (idType id)) (leNat b)).code = 0 ∧ (s.wordRule id (leNat b)).code = 0 := by
  obtain ⟨notWindow, notUnit⟩ := ne_of_wordCount word
  unfold State.writeCheck at ok
  dsimp only at ok
  by_cases missing : objExists id = false
  · rw [if_pos missing] at ok
    cases ok
  · by_cases tooLong : s.objSize id < off + b.length
    · rw [if_neg missing, if_neg notWindow, if_pos tooLong] at ok
      cases ok
    · rw [if_neg missing, if_neg notWindow, if_neg tooLong, if_neg fun h => notUnit ⟨h.1, .inl h.2⟩, if_neg fun h => notUnit ⟨h.1, .inr (.inl h.2)⟩, if_neg fun h => notUnit ⟨h.1, .inr (.inr h.2)⟩,
        if_pos word, Verdict.thenCheck_accepts, Verdict.thenCheck_accepts] at ok
      exact ok.2

/-- An object that `writeCheck` and `writeApply` take for a control (R200, R399, R423, R452, R476). -/
structure IsControl (id w : Nat) : Prop where
  /-- BW_WIN_n is none -/
  notWindow : ¬ (idSub id = 13 ∧ idType id = 2)
  /-- the objects of check-value units are none -/
  notUnit : idSub id ≠ 14
  /-- nor are word objects -/
  notWord : wordCount (idSub id) (idType id) = 0
  /-- nor status objects -/
  notStatus : w1cBits (idSub id) (idType id) = []
  /-- its bits are checked as those of a control -/
  control : (controlCheck (idSub id) (idType id) w).isSome = true

/-- R200, R423: an accepted control acts in a state that permits it. -/
theorem State.writeCheck_control {s : State} {session id off : Nat} {b : Bytes} (isControl : IsControl id (leNat b))
    (ok : (s.writeCheck session id off b).code = 0) : (s.controlRule id (leNat b)).code = 0 := by
  obtain ⟨notWindow, notUnit, notWord, notStatus, control⟩ := isControl
  obtain ⟨v, checks⟩ := Option.isSome_iff_exists.mp control
  unfold State.writeCheck at ok
  dsimp only at ok
  by_cases missing : objExists id = false
  · rw [if_pos missing] at ok
    cases ok
  · by_cases tooLong : s.objSize id < off + b.length
    · rw [if_neg missing, if_neg notWindow, if_pos tooLong] at ok
      cases ok
    · rw [if_neg missing, if_neg notWindow, if_neg tooLong, if_neg fun h => notUnit h.1, if_neg fun h => notUnit h.1, if_neg fun h => notUnit h.1, if_neg (by simp [notWord]),
        if_neg (not_not_intro notStatus), checks] at ok
      exact (Verdict.thenCheck_accepts.mp (Verdict.thenCheck_accepts.mp ok).2).2

/-! ### What an accepted write does (R493, R503) -/

theorem State.writeApply_word {id : Nat} (word : 0 < wordCount (idSub id) (idType id)) (off : Nat) (b : Bytes) (s : State) :
    s.writeApply id off b = (s.wordWritten id (leNat b)).when (configObject id) fun u => u.updBoot fun x => { x with confDue := true } := by
  obtain ⟨notWindow, notUnit⟩ := ne_of_wordCount word
  unfold State.writeApply
  dsimp only
  rw [if_neg notWindow, if_neg fun h => notUnit ⟨h.1, .inl h.2⟩, if_neg fun h => notUnit ⟨h.1, .inr (.inl h.2)⟩, if_pos word]

theorem State.writeApply_control {id : Nat} {b : Bytes} (isControl : IsControl id (leNat b)) (off : Nat) (s : State) :
    s.writeApply id off b = (s.controlled id (leNat b)).when (configObject id) fun u => u.updBoot fun x => { x with confDue := true } := by
  obtain ⟨notWindow, notUnit, notWord, notStatus, control⟩ := isControl
  unfold State.writeApply
  dsimp only
  rw [if_neg notWindow, if_neg fun h => notUnit h.1, if_neg fun h => notUnit h.1, if_neg (by simp [notWord]), if_neg (not_not_intro notStatus),
    if_pos control]

/-- The word that a command writes comes back from its bytes. -/
theorem leNat_leBytes_word {w : Nat} (fits : w < 2 ^ 64) : leNat (leBytes 8 w) = w :=
  (leNat_leBytes 8 w).trans (Nat.mod_eq_of_lt fits)

/-- R493: an accepted write of an object of this controller's own is applied and answered. -/
theorem State.wordWrite_own {h : CcpHdr} {e : Session} {id w : Nat} {s : State} (own : sharedObject id = false)
    (acc : s.accepts h 0x11 (writeGroup id) e = true)
    (ok : ((s.entered h 0x11 e).writeCheck h.session id 0 (leBytes 8 w)).code = 0) :
    s.wordWrite h id w = ((s.entered h 0x11 e).writeApply id 0 (leBytes 8 w)).ccpReply h 0x11 0 [] := by
  unfold State.wordWrite State.ccpSimple
  rw [State.ccpTake_of_accepts _ acc rfl]
  unfold State.objWrite
  dsimp only
  rw [if_neg (by simp [own]), ok, if_neg (by decide), if_neg (by decide)]

/-- R561: an accepted write of a shared object is applied here, and then goes to the partner where there is one. -/
theorem State.wordWrite_shared {h : CcpHdr} {e : Session} {id w : Nat} {s : State} (shared : sharedObject id = true)
    (acc : s.accepts h 0x11 (writeGroup id) e = true) (reached : (s.entered h 0x11 e).sharedCut h = false)
    (ok : ((s.entered h 0x11 e).writeCheck h.session id 0 (leBytes 8 w)).code = 0) :
    s.wordWrite h id w = ((s.entered h 0x11 e).writeApply id 0 (leBytes 8 w)).sharedDone h 0x11 (id :: 0 :: (leBytes 8 w).map fun x => x.toNat) [] := by
  obtain ⟨comes, -⟩ := State.accepts_iff.mp acc
  obtain ⟨origin, -⟩ := State.comesIn_iff.mp comes
  unfold State.wordWrite State.ccpSimple
  rw [State.ccpTake_of_accepts _ acc rfl]
  unfold State.objWrite
  dsimp only
  rw [if_pos shared, if_neg (by simp [reached]), if_neg (by simp [origin]), ok, if_neg (by decide), if_neg (by decide)]

/-- R483: up to its own effect a request of a session touches the modes, the CCP state and the counters. -/
theorem State.entered_touch (s : State) (h : CcpHdr) (op : Nat) (e : Session) {m : Nat} (hm : Nat.land 6291584 m = 6291584) :
    Touch m s (s.entered h op e) :=
  State.bump_touch (sub_trans (by decide) hm) (State.updSession_touch (sub_trans (by decide) hm) (s.arrived_touch (sub_trans (by decide) hm)))

/-- R491: what a request does beside the CCP state leaves its session the one that gets the reply. -/
theorem State.answered_of_entered {h : CcpHdr} {op : Nat} {group : Option Nat} {e : Session} {s u : State} (acc : s.accepts h op group e = true)
    (ccp : u.ccp = (s.entered h op e).ccp) (status : Nat) (data : Bytes) : (u.ccpReply h op status data).answered h status := by
  obtain ⟨comes, session, listed, -⟩ := State.accepts_iff.mp acc
  obtain ⟨own, -⟩ := State.comesIn_iff.mp comes
  have here : tfind u.ccp.sessions h.session = some (e.taking h op s.now) := by rw [ccp, State.entered_session listed]
  simp [State.answered, State.session, tget, State.ccpReply_session own session here, Session.replied]

end Sys2Proof.Machine

namespace Sys2Proof.Machine

/-! ## Lease moves, shapers and meters, reshapes, drive ports (O55) -/

/-! ### Object identifiers (R502) -/

theorem idSub_oid (sub : Nat) {ty n : Nat} (hty : ty < 1024) (hn : n < 16384) : idSub (oid sub ty n) = sub := by
  unfold idSub oid
  omega

theorem idType_oid (sub : Nat) {ty n : Nat} (hty : ty < 1024) (hn : n < 16384) : idType (oid sub ty n) = ty := by
  unfold idType oid
  omega

theorem idInst_oid (sub ty : Nat) {n : Nat} (hn : n < 16384) : idInst (oid sub ty n) = n := by
  unfold idInst oid
  omega

/-! ### The lease-move control (R180, R200) -/

theorem isControl_leaseMove (w : Nat) : IsControl (oid 4 3 0) w := ⟨by decide, by decide, by decide, by decide, rfl⟩

/-- R200: the lease shows the move that is asked for, whether it begins here or at the partner. -/
theorem State.askMove_lease (handle extNo target : Nat) (s : State) :
    (s.askMove handle extNo target).cons.lease = { lState := 1, handle := handle, extNo := extNo, target := target } := by
  unfold State.askMove
  split
  · exact State.startMove_lease _ _ _ _
  · rw [State.settSend_cons, State.updCons_cons]

theorem execLeaseMove_moves {h : CcpHdr} {e : Session} {value : Nat} {s : State} (acc : s.accepts h 0x11 (writeGroup (oid 4 3 0)) e = true)
    (ok : ((s.entered h 0x11 e).writeCheck h.session (oid 4 3 0) 0 (leBytes 8 value)).code = 0) (fits : value < 2 ^ 64) :
    ∃ t, execLeaseMove h value s = .next t ∧
      t.cons.lease = { lState := 1, handle := bits value 63 50, extNo := bits value 49 28, target := bits value 27 27 } := by
  refine ⟨_, congrArg Host.Outcome.next (State.wordWrite_own (by decide) acc ok), ?_⟩
  rw [State.writeApply_control (isControl_leaseMove _), leNat_leBytes_word fits]
  have replied (t : State) : (t.ccpReply h 0x11 0 []).cons = t.cons := same_of_touch (g := .cons) (State.ccpReply_touch (by decide) (.refl _ _))
  rw [replied, show configObject (oid 4 3 0) = false by decide]
  exact State.askMove_lease _ _ _ _

/-! ### Shapers and meters (R343, R347) -/

theorem one_to_six_cases {n : Nat} (lo : 1 ≤ n) (hi : n ≤ 6) : n = 1 ∨ n = 2 ∨ n = 3 ∨ n = 4 ∨ n = 5 ∨ n = 6 := by
  omega

/-- The objects of types 1 to 6 of the QoS subsystem are word objects of each controller's own, of the configuration image. -/
theorem qosObject_kind {id : Nat} (sub : idSub id = 8) (lo : 1 ≤ idType id) (hi : idType id ≤ 6) :
    0 < wordCount (idSub id) (idType id) ∧ sharedObject id = false := by
  unfold sharedObject
  rw [sub]
  obtain ty | ty | ty | ty | ty | ty := one_to_six_cases lo hi <;> rw [ty] <;> decide

theorem foldl_fields_mono (w : Nat) (p : Fld → Bool) (fs : List Fld) {a b : Nat} (le : a ≤ b) :
    (fs.filter p).foldl (fun a f => a + bits w f.hi f.lo * 2 ^ f.lo) a ≤ fs.foldl (fun a f => a + bits w f.hi f.lo * 2 ^ f.lo) b := by
  induction fs generalizing a b with
  | nil => exact le
  | cons f fs ih =>
    by_cases kept : p f = true
    · rw [List.filter_cons_of_pos kept]
      exact ih (Nat.add_le_add_right le _)
    · rw [List.filter_cons_of_neg kept]
      exact ih (Nat.le_add_right_of_le le)

/-- R15: of an accepted word, which has no reserved bit set, no more is kept than the word. -/
theorem rwPart_le {fs : List Fld} {w : Nat} (ok : (fieldsCheck fs w).code = 0) : rwPart fs w ≤ w := by
  have covered := (rejectIf_accepts (by decide)).mp (Verdict.thenCheck_accepts.mp ok).1
  calc rwPart fs w ≤ fieldBits fs w := foldl_fields_mono w (·.rw) fs (Nat.le_refl 0)
    _ = w := by simpa using covered

/-- R343, R347: beside the object's word, a write of a shaper or meter changes the shapers and meters alone. -/
theorem State.wordWritten_qos_touch {id : Nat} (sub : idSub id = 8) (lo : 1 ≤ idType id) (hi : idType id ≤ 6) (w : Nat) (s : State) {m : Nat}
    (hm : Nat.land 65536 m = 65536) : Touch m (s.setWord id (rwPart (wordFields 8 (idType id)) w)) (s.wordWritten id w) := by
  unfold State.wordWritten
  dsimp only
  rw [sub]
  obtain ty | ty | ty | ty | ty | ty := one_to_six_cases lo hi <;> rw [ty]
  · exact State.resetShaper_touch hm (.refl _ _)
  · exact State.resetShaper_touch hm (.refl _ _)
  · exact State.resetShaper_touch hm (.refl _ _)
  · exact State.resetShaper_touch hm (.refl _ _)
  · exact State.fillTenantMeter_touch hm (.refl _ _)
  · exact State.fillConnMeters_touch hm (.refl _ _)

theorem State.writeApply_qos_touch {id : Nat} (sub : idSub id = 8) (lo : 1 ≤ idType id) (hi : idType id ≤ 6) {w : Nat} (fits : w < 2 ^ 64) (s : State)
    {m : Nat} (hm : Nat.land 65600 m = 65600) :
    Touch m (s.setWord id (rwPart (wordFields 8 (idType id)) w)) (s.writeApply id 0 (leBytes 8 w)) := by
  rw [State.writeApply_word (qosObject_kind sub lo hi).1, leNat_leBytes_word fits]
  exact State.when_touch (State.wordWritten_qos_touch sub lo hi w s (sub_trans (by decide) hm)) fun _ t =>
    State.updBoot_touch (sub_trans (by decide) hm) t

/-- R343, R347: an accepted write of a shaper or meter object leaves its word what was written, and is answered. -/
theorem State.wordWrite_qos {h : CcpHdr} {e : Session} {obj value : Nat} {s : State} (acc : s.accepts h 0x11 (writeGroup obj) e = true)
    (ok : ((s.entered h 0x11 e).writeCheck h.session obj 0 (leBytes 8 value)).code = 0) (sub : idSub obj = 8) (lo : 1 ≤ idType obj)
    (hi : idType obj ≤ 6) (fits : value < 2 ^ 64) :
    (s.wordWrite h obj value).word obj = rwPart (wordFields 8 (idType obj)) value ∧ (s.wordWrite h obj value).answered h 0 := by
  obtain ⟨word, own⟩ := qosObject_kind sub lo hi
  have fields := (State.writeCheck_word word ok).1
  rw [leNat_leBytes_word fits, sub] at fields
  rw [State.wordWrite_own own acc ok]
  constructor
  · rw [← word_setWord_same obj (s.entered h 0x11 e) (Nat.lt_of_le_of_lt (rwPart_le fields) fits)]
    exact State.word_congr
      (same_of_touch (g := .regs) (State.ccpReply_touch (by decide) (State.writeApply_qos_touch sub lo hi fits _ (by decide))))
      (same_of_touch (g := .den) (State.ccpReply_touch (by decide) (State.writeApply_qos_touch sub lo hi fits _ (by decide)))) obj
  · have written : ((s.entered h 0x11 e).writeApply obj 0 (leBytes 8 value)).ccp =
        ((s.entered h 0x11 e).setWord obj (rwPart (wordFields 8 (idType obj)) value)).ccp :=
      same_of_touch (g := .ccp) (State.writeApply_qos_touch sub lo hi fits _ (by decide))
    exact State.answered_of_entered acc (written.trans (same_of_touch (g := .ccp) (State.setWord_touch (by decide) (.refl _ _)))) 0 []

theorem execShaperConfigWrite_writes {h : CcpHdr} {e : Session} {obj value : Nat} {s : State} (acc : s.accepts h 0x11 (writeGroup obj) e = true)
    (ok : ((s.entered h 0x11 e).writeCheck h.session obj 0 (leBytes 8 value)).code = 0) (sub : idSub obj = 8) (lo : 1 ≤ idType obj)
    (hi : idType obj ≤ 4) (there : objExists obj = true) (fits : value < 2 ^ 64) :
    ∃ t, execShaperConfigWrite h obj value s = .next t ∧ t.word obj = rwPart (wordFields 8 (idType obj)) value ∧ t.answered h 0 :=
  ⟨_, bounded_eq_next (by simp [sub, lo, hi, there]), State.wordWrite_qos acc ok sub lo (Nat.le_trans hi (by decide)) fits⟩

theorem execMeterConfigWrite_writes {h : CcpHdr} {e : Session} {obj value : Nat} {s : State} (acc : s.accepts h 0x11 (writeGroup obj) e = true)
    (ok : ((s.entered h 0x11 e).writeCheck h.session obj 0 (leBytes 8 value)).code = 0) (sub : idSub obj = 8)
    (ty : idType obj = 5 ∨ idType obj = 6) (there : objExists obj = true) (fits : value < 2 ^ 64) :
    ∃ t, execMeterConfigWrite h obj value s = .next t ∧ t.word obj = rwPart (wordFields 8 (idType obj)) value ∧ t.answered h 0 :=
  ⟨_, bounded_eq_next (by simp [sub, ty, there]), State.wordWrite_qos acc ok sub (by omega) (by omega) fits⟩

end Sys2Proof.Machine

namespace Sys2Proof.Machine

/-! ### Reshape configuration (R256, R268) -/

theorem State.word_lt {id : Nat} (notDen : id ≠ oid 14 3 0) (s : State) : s.word id < 2 ^ 64 := by
  unfold State.word
  rw [if_neg notDen]
  split
  next v _ => exact v.isLt
  next => exact objReset_lt id

/-- R268: START and PAUSE are single bits of RESHAPE_CFG_n, which set show as set. -/
theorem setBits_flag {w k : Nat} (fits : w < 2 ^ 64) (flag : k = 42 ∨ k = 43) :
    setBits w k k 1 < 2 ^ 64 ∧ (setBits w k k 1).testBit k = true := by
  unfold setBits bits
  rw [Nat.testBit_eq_decide_div_mod_eq]
  rcases flag with rfl | rfl
  · exact ⟨by omega, decide_eq_true (by omega)⟩
  · exact ⟨by omega, decide_eq_true (by omega)⟩

theorem State.pool_congr {s t : State} (layout : t.layout = s.layout) (n : Nat) : t.pool n = s.pool n := by
  unfold State.pool
  rw [layout]

theorem State.pool_updPool_same (n : Nat) (f : Pool → Pool) (s : State) : (s.updPool n f).pool n = f (s.pool n) :=
  tget_tmod_same ({} : Pool) n f s.layout.pools

theorem State.entered_word (s : State) (h : CcpHdr) (op : Nat) (e : Session) (id : Nat) : (s.entered h op e).word id = s.word id :=
  State.word_congr (same_of_touch (g := .regs) (s.entered_touch h op e (by decide))) (same_of_touch (g := .den) (s.entered_touch h op e (by decide))) id

theorem State.entered_pool (s : State) (h : CcpHdr) (op : Nat) (e : Session) (n : Nat) : (s.entered h op e).pool n = s.pool n :=
  State.pool_congr (same_of_touch (g := .layout) (s.entered_touch h op e (by decide))) n

/-- R561: beside what follows from the word, an accepted write of a shared word object changes what is due, what is owed to its session and the
messages to the partner. -/
theorem State.wordWrite_shared_touch {h : CcpHdr} {e : Session} {id w : Nat} {s : State} (word : 0 < wordCount (idSub id) (idType id))
    (shared : sharedObject id = true) (fits : w < 2 ^ 64) (acc : s.accepts h 0x11 (writeGroup id) e = true)
    (reached : (s.entered h 0x11 e).sharedCut h = false)
    (ok : ((s.entered h 0x11 e).writeCheck h.session id 0 (leBytes 8 w)).code = 0) {m : Nat} (hm : Nat.land 74580032 m = 74580032) :
    Touch m ((s.entered h 0x11 e).wordWritten id w) (s.wordWrite h id w) := by
  rw [State.wordWrite_shared shared acc reached ok, State.writeApply_word word, leNat_leBytes_word fits]
  exact State.sharedDone_touch (sub_trans (by decide) hm) (State.when_touch (.refl _ _) fun _ t => State.updBoot_touch (sub_trans (by decide) hm) t)

/-- RESHAPE_CFG_n is a word object held alike at both controllers. -/
theorem reshapeCfg_kind {pool : Nat} (inRange : pool < 8) :
    0 < wordCount (idSub (oid 5 10 pool)) (idType (oid 5 10 pool)) ∧ sharedObject (oid 5 10 pool) = true ∧ oid 5 10 pool ≠ oid 14 3 0 := by
  unfold sharedObject
  rw [idSub_oid 5 (by decide) (by omega), idType_oid 5 (by decide) (by omega)]
  refine ⟨by decide, rfl, ?_⟩
  unfold oid
  omega

/-- R268: a write of RESHAPE_CFG_n reaches the reshape that runs, or begins one. -/
theorem State.wordWritten_reshapeCfg {pool : Nat} (inRange : pool < 8) (w : Nat) (s : State) : s.wordWritten (oid 5 10 pool) w =
    let t := s.setWord (oid 5 10 pool) (rwPart (wordFields 5 10) w)
    if (s.pool pool).reshape.isSome then t.reshapeSetPause pool (w.testBit 43) else if w.testBit 42 then t.reshapeBegin pool else t := by
  unfold State.wordWritten
  rw [idSub_oid 5 (by decide) (by omega), idType_oid 5 (by decide) (by omega), idInst_oid 5 10 (by omega)]
  rfl

/-- R256, R257: the reshape that begins has the plan, and runs or pauses as PAUSE says. -/
theorem State.reshapeBegin_reshape {n : Nat} {plan : List (Nat × Nat × Nat)} {s : State} (planned : s.reshapePlan n = some plan) :
    ((s.reshapeBegin n).pool n).reshape =
      some { rState := if (s.reshapeBegin n).reshapeCfgPause n = 1 then 2 else 1, stepNo := 0, plan := plan } := by
  unfold State.reshapeBegin
  rw [planned]
  exact congrArg (·.reshape) (State.pool_updPool_same _ _ _)

theorem execReshapeStart_begins {h : CcpHdr} {e : Session} {pool : Nat} {plan : List (Nat × Nat × Nat)} {s : State}
    (acc : s.accepts h 0x11 (writeGroup (oid 5 10 pool)) e = true)
    (ok : ((s.entered h 0x11 e).writeCheck h.session (oid 5 10 pool) 0
      (leBytes 8 (setBits ((s.entered h 0x11 e).word (oid 5 10 pool)) 42 42 1))).code = 0)
    (inRange : pool < 8) (none : (s.pool pool).reshape = none)
    (planned : ((s.entered h 0x11 e).setWord (oid 5 10 pool)
      (rwPart (wordFields 5 10) (setBits ((s.entered h 0x11 e).word (oid 5 10 pool)) 42 42 1))).reshapePlan pool = some plan)
    (reached : (s.entered h 0x11 e).sharedCut h = false) :
    ∃ t, execReshapeStart h pool s = .next t ∧ (t.pool pool).reshape =
      some ({ rState := if t.reshapeCfgPause pool = 1 then 2 else 1, stepNo := 0, plan := plan } : ReshapeOp) := by
  obtain ⟨word, shared, notDen⟩ := reshapeCfg_kind inRange
  obtain ⟨fits, start⟩ := setBits_flag (State.word_lt notDen (s.entered h 0x11 e)) (.inl rfl)
  have begun := State.reshapeBegin_reshape planned
  have written := State.wordWritten_reshapeCfg inRange (setBits ((s.entered h 0x11 e).word (oid 5 10 pool)) 42 42 1) (s.entered h 0x11 e)
  rw [s.entered_pool, none, if_neg (by decide), if_pos start] at written
  have applied {m : Nat} (hm : Nat.land 74580032 m = 74580032) := State.wordWrite_shared_touch word shared fits acc reached ok hm
  rw [written, State.entered_word] at applied
  rw [State.entered_word] at begun
  refine ⟨_, bounded_eq_next (decide_eq_true inRange), ?_⟩
  rw [State.pool_congr (same_of_touch (g := .layout) (applied (by decide))), begun]
  unfold State.reshapeCfgPause
  rw [State.fld_congr (same_of_touch (g := .regs) (applied (by decide))) (same_of_touch (g := .den) (applied (by decide)))]

theorem State.reshapeSetPause_reshape {n : Nat} {x : ReshapeOp} {s : State} (runs : (s.pool n).reshape = some x) (going : x.rState ≠ 3) :
    ((s.reshapeSetPause n true).pool n).reshape = some { x with rState := 2 } := by
  unfold State.reshapeSetPause
  rw [State.pool_updPool_same, runs]
  simp [going]

theorem execReshapePause_pauses {h : CcpHdr} {e : Session} {pool : Nat} {x : ReshapeOp} {s : State}
    (acc : s.accepts h 0x11 (writeGroup (oid 5 10 pool)) e = true)
    (ok : ((s.entered h 0x11 e).writeCheck h.session (oid 5 10 pool) 0
      (leBytes 8 (setBits ((s.entered h 0x11 e).word (oid 5 10 pool)) 43 43 1))).code = 0)
    (inRange : pool < 8) (runs : (s.pool pool).reshape = some x) (going : x.rState ≠ 3) (reached : (s.entered h 0x11 e).sharedCut h = false) :
    ∃ t, execReshapePause h pool s = .next t ∧ (t.pool pool).reshape = some { x with rState := 2 } := by
  obtain ⟨word, shared, notDen⟩ := reshapeCfg_kind inRange
  obtain ⟨fits, pause⟩ := setBits_flag (State.word_lt notDen (s.entered h 0x11 e)) (.inr rfl)
  have written := State.wordWritten_reshapeCfg inRange (setBits ((s.entered h 0x11 e).word (oid 5 10 pool)) 43 43 1) (s.entered h 0x11 e)
  rw [s.entered_pool, runs, Option.isSome_some, if_pos rfl, pause] at written
  have applied {m : Nat} (hm : Nat.land 74580032 m = 74580032) := State.wordWrite_shared_touch word shared fits acc reached ok hm
  rw [written, State.entered_word] at applied
  refine ⟨_, bounded_eq_next (decide_eq_true inRange), ?_⟩
  rw [State.pool_congr (same_of_touch (g := .layout) (applied (by decide)))]
  refine State.reshapeSetPause_reshape ?_ going
  rw [State.pool_congr (same_of_touch (g := .layout) (State.setWord_touch (by decide) (.refl _ _))), s.entered_pool, runs]

/-! ### Containment and release of a drive port (R415, R418, R423) -/

theorem State.dport_congr {s t : State} (drives : t.drives = s.drives) (n : Nat) : t.dport n = s.dport n := by
  unfold State.dport
  rw [drives]

theorem State.dport_updDport_same (n : Nat) (f : DrivePort → DrivePort) (s : State) : (s.updDport n f).dport n = f (s.dport n) :=
  tget_tmod_same ({} : DrivePort) n f s.drives.ports

@[simp] theorem State.bump_drives (c : Nat × Nat) (i : Nat) (s : State) : (s.bump c i).drives = s.drives :=
  same_of_touch (g := .drives) (State.bump_touch (by decide) (.refl _ _))

theorem isControl_drivePort {slot : Nat} (inRange : slot < 64) (w : Nat) : IsControl (oid 10 3 slot) w := by
  have sub := idSub_oid 10 (show 3 < 1024 by decide) (show slot < 16384 by omega)
  have ty := idType_oid 10 (show 3 < 1024 by decide) (show slot < 16384 by omega)
  exact ⟨fun window => absurd (sub.symm.trans window.1) (by decide), by rw [sub]; decide, by rw [sub, ty]; rfl, by rw [sub, ty]; rfl, by rw [sub, ty]; rfl⟩

/-- R423: DRIVE_PORT_CTL_s is an object of each controller's own and not of the configuration image, so nothing but its action is done. -/
theorem State.wordWrite_drivePort {h : CcpHdr} {e : Session} {slot w : Nat} {s : State} (inRange : slot < 64) (fits : w < 2 ^ 64)
    (acc : s.accepts h 0x11 (writeGroup (oid 10 3 slot)) e = true)
    (ok : ((s.entered h 0x11 e).writeCheck h.session (oid 10 3 slot) 0 (leBytes 8 w)).code = 0) :
    s.wordWrite h (oid 10 3 slot) w = ((((s.entered h 0x11 e).when (w.testBit 63) fun t => t.contain slot 8).when (w.testBit 62) fun t =>
      t.startRelease slot)).ccpReply h 0x11 0 [] := by
  have sub := idSub_oid 10 (show 3 < 1024 by decide) (show slot < 16384 by omega)
  have ty := idType_oid 10 (show 3 < 1024 by decide) (show slot < 16384 by omega)
  have own : sharedObject (oid 10 3 slot) = false := by
    unfold sharedObject
    rw [sub, ty]
    rfl
  have unlisted : configObject (oid 10 3 slot) = false := by
    unfold configObject
    rw [sub, ty]
    decide
  rw [State.wordWrite_own own acc ok, State.writeApply_control (isControl_drivePort inRange _), leNat_leBytes_word fits, unlisted]
  refine congrArg (State.ccpReply h 0x11 0 []) (Eq.trans (if_neg Bool.false_ne_true) ?_)
  unfold State.controlled
  rw [sub, ty, idInst_oid 10 3 (by omega)]
  rfl

/-- R415, R416: what a containment does to the commands of a port leaves the cause it recorded. -/
theorem State.dropDrive_lastCause (slot : Nat) (s : State) : ((s.dropDrive slot).dport slot).lastCause = (s.dport slot).lastCause := by
  unfold State.dropDrive
  dsimp only
  rw [State.dport_congr (same_of_touch (g := .drives) (State.memberMissing_touch (by decide) (foldl_touch (State.clearDispatch_touch (by decide) (.refl _ _))
    fun _ _ t => State.cmdLost_touch (by decide) t))), State.dport_updDport_same]

/-- R418, R423: a port contained by software is HELD, declared failed or not. -/
theorem State.afterContain_held (slot : Nat) (s : State) :
    (s.afterContain slot 8).dport slot = { s.dport slot with dState := 7 } := by
  unfold State.afterContain
  dsimp only
  rw [if_neg (by decide), if_neg (by simp), State.dport_congr (same_of_touch (g := .drives) (State.portEvent_touch (by decide) (.refl _ _))),
    State.dport_updDport_same]
  refine congrArg (fun p : DrivePort => { p with dState := 7 }) (State.dport_congr (same_of_touch (g := .drives) ?_) slot)
  refine State.when_touch (.refl _ _) fun u t => ?_
  split
  · exact State.failMember_touch (by decide) t
  · exact t

/-- R415, R423: a port that is UP is contained with the cause of software. -/
theorem State.contain_software {slot : Nat} {s : State} (up : (s.dport slot).dState = 4) :
    ∃ u : State, s.contain slot 8 = u.settle ∧ (u.dport slot).lastCause = 8 ∧ (u.dport slot).dState ≠ 4 := by
  unfold State.contain
  rw [if_neg (not_not_intro up)]
  refine ⟨_, rfl, ?_⟩
  rw [State.afterContain_held]
  refine ⟨(State.dropDrive_lastCause slot _).trans ?_, show 7 ≠ 4 by decide⟩
  rw [State.dport_congr (State.bump_drives _ _ _), State.dport_updDport_same]

/-- R423: CONTAIN is accepted of a port that is UP alone. -/
theorem State.controlRule_contain {slot w : Nat} {s : State} (inRange : slot < 64) (contains : w.testBit 63 = true)
    (ok : (s.controlRule (oid 10 3 slot) w).code = 0) : (s.dport slot).dState = 4 := by
  unfold State.controlRule at ok
  rw [idSub_oid 10 (by decide) (by omega), idType_oid 10 (by decide) (by omega), idInst_oid 10 3 (by omega)] at ok
  have allowed := (rejectIf_accepts (by decide)).mp ok
  exact Decidable.of_not_not fun down => by simp [contains, down] at allowed

theorem execContain_contains {h : CcpHdr} {e : Session} {slot : Nat} {s : State} (acc : s.accepts h 0x11 (writeGroup (oid 10 3 slot)) e = true)
    (ok : ((s.entered h 0x11 e).writeCheck h.session (oid 10 3 slot) 0 (leBytes 8 (2 ^ 63))).code = 0) (inRange : slot < 64) :
    ∃ t, execContain h slot s = .next t ∧ ∃ u : State, t = u.settle.ccpReply h 0x11 0 [] ∧ (u.dport slot).lastCause = 8 ∧
      (u.dport slot).dState ≠ 4 := by
  have permitted := State.writeCheck_control (isControl_drivePort inRange _) ok
  rw [leNat_leBytes_word (by decide)] at permitted
  obtain ⟨u, contained, cause, down⟩ := State.contain_software (State.controlRule_contain inRange (by decide) permitted)
  refine ⟨_, bounded_eq_next (decide_eq_true inRange), u, ?_, cause, down⟩
  rw [State.wordWrite_drivePort inRange (by decide) acc ok, ← contained]
  rfl

@[simp] theorem State.dport_updSlotPwr (n m : Nat) (f : SlotPwr → SlotPwr) (s : State) : (s.updSlotPwr n f).dport m = s.dport m := rfl

@[simp] theorem State.slotPwr_updSlotPwr_same (n : Nat) (f : SlotPwr → SlotPwr) (s : State) :
    (s.updSlotPwr n f).slotPwr n = f (s.slotPwr n) :=
  tget_tmod_same ({} : SlotPwr) n f s.power.slots

/-- R418: a release holds the drive in reset, whose port is in RELEASING. -/
theorem State.startRelease_releases (slot : Nat) (s : State) :
    ((s.startRelease slot).dport slot).dState = 6 ∧ ((s.startRelease slot).slotPwr slot).perstHigh = false := by
  unfold State.startRelease
  dsimp only
  constructor
  · rw [State.dport_updSlotPwr, State.dport_congr (State.bump_drives _ _ _), State.dport_updDport_same]
  · rw [State.slotPwr_updSlotPwr_same]

theorem execDrivePortRelease_releases {h : CcpHdr} {e : Session} {slot : Nat} {s : State}
    (acc : s.accepts h 0x11 (writeGroup (oid 10 3 slot)) e = true)
    (ok : ((s.entered h 0x11 e).writeCheck h.session (oid 10 3 slot) 0 (leBytes 8 (2 ^ 62))).code = 0) (inRange : slot < 64) :
    ∃ t, execDrivePortRelease h slot s = .next t ∧ (t.dport slot).dState = 6 ∧ (t.slotPwr slot).perstHigh = false ∧ t.answered h 0 := by
  obtain ⟨releasing, reset⟩ := State.startRelease_releases slot (s.entered h 0x11 e)
  refine ⟨((s.entered h 0x11 e).startRelease slot).ccpReply h 0x11 0 [], ?_, ?_, ?_, ?_⟩
  · exact (bounded_eq_next (decide_eq_true inRange)).trans (congrArg _ (State.wordWrite_drivePort inRange (by decide) acc ok))
  · rw [State.dport_congr (same_of_touch (g := .drives) (State.ccpReply_touch (by decide) (.refl _ _))), releasing]
  · unfold State.slotPwr at reset ⊢
    rw [show (State.ccpReply _ _ _ _ _).power = _ from same_of_touch (g := .power) (State.ccpReply_touch (by decide) (.refl _ _)), reset]
  · exact State.answered_of_entered acc (same_of_touch (g := .ccp) (State.startRelease_touch (by decide) (.refl _ _))) 0 []

/-- Settles O55. Each clause is the lemma of its command; a shaper and a meter are written alike. -/
theorem completesActionsA : Obligations.CompletesActionsA :=
  ⟨fun _ _ _ _ => execLeaseMove_moves,
   fun _ _ _ _ _ => execReshapeStart_begins,
   fun _ _ _ _ _ => execReshapePause_pauses,
   fun _ _ _ _ _ => execShaperConfigWrite_writes,
   fun _ _ _ _ _ => execMeterConfigWrite_writes,
   fun _ _ _ _ => execContain_contains,
   fun _ _ _ _ => execDrivePortRelease_releases⟩

end Sys2Proof.Machine

namespace Sys2Proof.Machine

/-! ## The rebuilding of lost data chunks (O15)

The product of R204 on bytes, where the sum is the exclusive or: its laws are those of a field, and each position of a block row is a system of linear
equations over it, which the solver solves by elimination. -/

/-! ### The product of bytes (R204) -/

/-- A byte, as an element of GF(2^8). -/
abbrev Byte := BitVec 8

/-- Doubling in GF(2^8). -/
def byteDouble (x : Byte) : Byte := x <<< 1 ^^^ if x.msb then 0x1D else 0

/-- The product of a byte with the byte that the lowest `n` bits of a number give. -/
def byteMulBits : Nat → Byte → Nat → Byte
  | 0, _, _ => 0
  | n + 1, x, b => (if b % 2 = 1 then x else 0) ^^^ byteMulBits n (byteDouble x) (b / 2)

/-- The product in GF(2^8). -/
def byteMul (x y : Byte) : Byte := byteMulBits 8 x y.toNat

/-- The element of GF(2^8) that a number below 256 stands for. -/
def elt (a : Nat) : Byte := BitVec.ofNat 8 a

theorem byte_xor_self (a : Byte) : a ^^^ a = 0 := BitVec.xor_self

theorem byte_xor_zero (a : Byte) : a ^^^ 0 = a := BitVec.xor_zero

theorem xor_swap (a b c d : Byte) : (a ^^^ b) ^^^ (c ^^^ d) = (a ^^^ c) ^^^ (b ^^^ d) := by ac_rfl

theorem byteDouble_xor (x y : Byte) : byteDouble (x ^^^ y) = byteDouble x ^^^ byteDouble y := by
  rw [byteDouble, byteDouble, byteDouble, BitVec.shiftLeft_xor_distrib, BitVec.msb_xor, xor_swap]
  cases x.msb <;> cases y.msb <;> simp

/-- A map of bytes that respects sums and doubling. -/
structure ByteLinear (f : Byte → Byte) : Prop where
  /-- sums -/
  xor : ∀ x y, f (x ^^^ y) = f x ^^^ f y
  /-- doubling -/
  double : ∀ x, f (byteDouble x) = byteDouble (f x)

theorem ByteLinear.zero {f : Byte → Byte} (linear : ByteLinear f) : f 0 = 0 := by
  simpa using linear.xor 0 0

theorem byteLinear_double : ByteLinear byteDouble := ⟨byteDouble_xor, fun _ => rfl⟩

theorem byteMulBits_xor (n : Nat) (x y : Byte) (b : Nat) : byteMulBits n (x ^^^ y) b = byteMulBits n x b ^^^ byteMulBits n y b := by
  induction n generalizing x y b with
  | zero => exact (byte_xor_self _).symm
  | succ n ih =>
    rw [byteMulBits, byteMulBits, byteMulBits, byteDouble_xor, ih, xor_swap]
    split <;> simp

/-- A linear map passes through the first factor. -/
theorem ByteLinear.mulBits {f : Byte → Byte} (linear : ByteLinear f) (n : Nat) (x : Byte) (b : Nat) :
    byteMulBits n (f x) b = f (byteMulBits n x b) := by
  induction n generalizing x b with
  | zero => exact linear.zero.symm
  | succ n ih => rw [byteMulBits, byteMulBits, ← linear.double, ih, linear.xor, apply_ite f, linear.zero]

theorem ByteLinear.mul {f : Byte → Byte} (linear : ByteLinear f) (x y : Byte) : byteMul (f x) y = f (byteMul x y) := linear.mulBits 8 x y.toNat

theorem xor_byteMul (x y z : Byte) : byteMul (x ^^^ y) z = byteMul x z ^^^ byteMul y z := byteMulBits_xor 8 x y z.toNat

theorem byteLinear_mul (z : Byte) : ByteLinear fun x => byteMul x z :=
  ⟨fun x y => xor_byteMul x y z, fun x => byteLinear_double.mul x z⟩

theorem one_byteMul (x : Byte) : byteMul 1 x = x := by
  have all : ∀ x : Byte, byteMul 1 x = x := by decide +kernel
  exact all x

/-- Multiplication by a byte is linear, so it is the product with the value at 1. -/
theorem byteMul_comm (x y : Byte) : byteMul x y = byteMul y x := by
  have passed := (byteLinear_mul x).mul 1 y
  rwa [one_byteMul, one_byteMul] at passed

theorem byteMul_assoc (x y z : Byte) : byteMul (byteMul x y) z = byteMul x (byteMul y z) := by
  rw [byteMul_comm x y, byteMul_comm x, (byteLinear_mul x).mul y z]

theorem byteMul_xor (x y z : Byte) : byteMul x (y ^^^ z) = byteMul x y ^^^ byteMul x z := by
  rw [byteMul_comm, xor_byteMul, byteMul_comm y, byteMul_comm z]

@[simp] theorem byteMul_one (x : Byte) : byteMul x 1 = x := by rw [byteMul_comm, one_byteMul]

@[simp] theorem zero_byteMul (x : Byte) : byteMul 0 x = 0 := (byteLinear_mul x).zero

@[simp] theorem byteMul_zero (x : Byte) : byteMul x 0 = 0 := by rw [byteMul_comm, zero_byteMul]

theorem byteMul_left_comm (x y z : Byte) : byteMul x (byteMul y z) = byteMul y (byteMul x z) := by
  rw [← byteMul_assoc, byteMul_comm x y, byteMul_assoc]

/-! ### The model's operations on numbers below 256 -/

theorem elt_xor (a b : Nat) : elt (Nat.xor a b) = elt a ^^^ elt b := BitVec.ofNat_xor

theorem elt_toNat (x : Byte) : elt x.toNat = x := by simp [elt]

theorem gfDouble_lt {a : Nat} (byte : a < 256) : gfDouble a < 256 := by
  have all : ∀ a < 256, gfDouble a < 256 := by decide +kernel
  exact all a byte

theorem elt_gfDouble {a : Nat} (byte : a < 256) : elt (gfDouble a) = byteDouble (elt a) := by
  have all : ∀ a < 256, elt (gfDouble a) = byteDouble (elt a) := by decide +kernel
  exact all a byte

theorem gfMulBits_lt (n b : Nat) {a : Nat} (byte : a < 256) : gfMulBits n a b < 256 := by
  induction n generalizing a b with
  | zero => exact Nat.zero_lt_succ _
  | succ n ih => exact Nat.xor_lt_two_pow (n := 8) (by split <;> omega) (ih _ (gfDouble_lt byte))

theorem gfMul_lt {a : Nat} (byte : a < 256) (b : Nat) : gfMul a b < 256 := gfMulBits_lt 8 b byte

theorem gfPow_lt (n : Nat) : gfPow n < 256 := by
  induction n with
  | zero => decide
  | succ n ih => exact gfDouble_lt ih

theorem gfInv_lt {a : Nat} (byte : a < 256) : gfInv a < 256 := gfMul_lt (gfMul_lt byte _) _

theorem elt_gfMulBits (n b : Nat) {a : Nat} (byte : a < 256) : elt (gfMulBits n a b) = byteMulBits n (elt a) b := by
  induction n generalizing a b with
  | zero => rfl
  | succ n ih =>
    rw [gfMulBits, elt_xor, ih _ (gfDouble_lt byte), elt_gfDouble byte, apply_ite elt]
    rfl

theorem elt_gfMul {a b : Nat} (ha : a < 256) (hb : b < 256) : elt (gfMul a b) = byteMul (elt a) (elt b) := by
  rw [gfMul, elt_gfMulBits 8 b ha, byteMul, elt, elt, BitVec.toNat_ofNat, Nat.mod_eq_of_lt hb]

/-- R204: the polynomial 0x11D has no factors, so every byte but 0 has an inverse. -/
theorem byteMul_gfInv {a : Nat} (byte : a < 256) (nonzero : a ≠ 0) : byteMul (elt a) (elt (gfInv a)) = 1 := by
  have all : ∀ a < 256, a ≠ 0 → gfMul a (gfInv a) = 1 := by decide +kernel
  rw [← elt_gfMul byte (gfInv_lt byte), all a byte nonzero]
  rfl

theorem elt_inj {a b : Nat} (ha : a < 256) (hb : b < 256) (same : elt a = elt b) : a = b := by
  have numbers := congrArg BitVec.toNat same
  simpa [elt, Nat.mod_eq_of_lt ha, Nat.mod_eq_of_lt hb] using numbers

/-- There are no divisors of zero. -/
theorem eq_zero_of_byteMul {x y : Byte} (nonzero : x ≠ 0) (zero : byteMul x y = 0) : y = 0 := by
  have number : x.toNat ≠ 0 := fun none => nonzero (BitVec.eq_of_toNat_eq none)
  have inverse := byteMul_gfInv x.isLt number
  rw [elt_toNat, byteMul_comm] at inverse
  rw [← one_byteMul y, ← inverse, byteMul_assoc, zero, byteMul_zero]

/-! ### Blocks and their combinations (R211) -/

@[simp] theorem length_gfAdd {a b : Bytes} (same : a.length = b.length) : (gfAdd a b).length = a.length := by
  simp [gfAdd, same]

@[simp] theorem length_gfScale (c : Nat) (a : Bytes) : (gfScale c a).length = a.length := List.length_map _

@[simp] theorem length_zeros (n : Nat) : (zeros n).length = n := List.length_replicate

theorem length_covered (b : Bytes) : (covered b).length = 4152 := by
  rw [covered, padTo, List.length_append, List.length_take, length_zeros]
  omega

theorem covered_of_length {b : Bytes} (full : b.length = 4152) : covered b = b := by
  rw [covered, padTo, full, ← full, List.take_length, Nat.sub_self, zeros, List.replicate_zero, List.append_nil]

/-- The byte of a block at a position, 0 beyond its end. -/
def byteAt (k : Nat) (b : Bytes) : Byte := b.getD k 0

theorem byteAt_zeros (k n : Nat) : byteAt k (zeros n) = 0 := by
  unfold byteAt zeros
  rw [List.getD_eq_getElem?_getD, List.getElem?_replicate]
  split <;> rfl

theorem byteAt_gfAdd (k : Nat) {a b : Bytes} (same : a.length = b.length) : byteAt k (gfAdd a b) = byteAt k a ^^^ byteAt k b := by
  unfold byteAt gfAdd
  rw [List.getD_eq_getElem?_getD, List.getD_eq_getElem?_getD, List.getD_eq_getElem?_getD, List.getElem?_zipWith]
  by_cases inside : k < a.length
  · rw [List.getElem?_eq_getElem inside, List.getElem?_eq_getElem (same ▸ inside)]
    rfl
  · rw [List.getElem?_eq_none (Nat.le_of_not_lt inside), List.getElem?_eq_none (same ▸ Nat.le_of_not_lt inside)]
    rfl

theorem byteAt_gfScale (k : Nat) {c : Nat} (byte : c < 256) (a : Bytes) : byteAt k (gfScale c a) = byteMul (elt c) (byteAt k a) := by
  unfold byteAt gfScale
  rw [List.getD_eq_getElem?_getD, List.getD_eq_getElem?_getD, List.getElem?_map]
  cases a[k]? with
  | none => exact (byteMul_zero _).symm
  | some x =>
    refine (elt_gfMul byte x.isLt).trans ?_
    rw [elt_toNat]
    rfl

theorem eq_of_byteAt {a b : Bytes} (same : a.length = b.length) (bytes : ∀ k, byteAt k a = byteAt k b) : a = b := by
  refine List.ext_getElem same fun k ha hb => ?_
  simpa [byteAt, ha, hb] using bytes k

/-- A block to which blocks scaled by their coefficients are added. -/
def combined (acc : Bytes) (terms : List (Nat × Bytes)) : Bytes := terms.foldl (fun a x => gfAdd a (gfScale x.1 x.2)) acc

/-- The terms of a combination: coefficients below 256, blocks of one length. -/
def termsFit (L : Nat) (terms : List (Nat × Bytes)) : Prop := ∀ x ∈ terms, x.1 < 256 ∧ x.2.length = L

/-- The combination of single bytes with their coefficients. -/
def weighted : List (Nat × Byte) → Byte
  | [] => 0
  | x :: xs => byteMul (elt x.1) x.2 ^^^ weighted xs

theorem weighted_append (xs ys : List (Nat × Byte)) : weighted (xs ++ ys) = weighted xs ^^^ weighted ys := by
  induction xs with
  | nil => exact BitVec.zero_xor.symm
  | cons x xs ih => rw [List.cons_append, weighted, weighted, ih, BitVec.xor_assoc]

theorem length_combined {L : Nat} {acc : Bytes} {terms : List (Nat × Bytes)} (size : acc.length = L) (fit : termsFit L terms) :
    (combined acc terms).length = L := by
  induction terms generalizing acc with
  | nil => exact size
  | cons x xs ih =>
    obtain ⟨⟨-, length⟩, rest⟩ := List.forall_mem_cons.mp fit
    exact ih (by rw [length_gfAdd (by rw [length_gfScale, size, length]), size]) rest

theorem byteAt_combined (k : Nat) {L : Nat} {acc : Bytes} {terms : List (Nat × Bytes)} (size : acc.length = L) (fit : termsFit L terms) :
    byteAt k (combined acc terms) = byteAt k acc ^^^ weighted (terms.map fun x => (x.1, byteAt k x.2)) := by
  induction terms generalizing acc with
  | nil => exact (byte_xor_zero _).symm
  | cons x xs ih =>
    obtain ⟨⟨byte, length⟩, rest⟩ := List.forall_mem_cons.mp fit
    have same : acc.length = (gfScale x.1 x.2).length := by rw [length_gfScale, size, length]
    rw [combined, List.foldl_cons, ← combined, ih ((length_gfAdd same).trans size) rest, byteAt_gfAdd k same, byteAt_gfScale k byte,
      List.map_cons, weighted, BitVec.xor_assoc]

/-! ### Rows of coefficients and their elimination (R214) -/

/-- The row that an elimination takes as its pivot, its first coefficient divided out and left off. -/
def pivotRow (p : List Nat × Bytes) : List Nat × Bytes :=
  (p.1.tail.map (gfMul (gfInv (p.1.headD 0))), gfScale (gfInv (p.1.headD 0)) p.2)

/-- A row from which the first unknown is eliminated by means of the pivot. -/
def eliminated (pr r : List Nat × Bytes) : List Nat × Bytes :=
  (List.zipWith (fun x y => Nat.xor x (gfMul (r.1.headD 0) y)) r.1.tail pr.1, gfAdd r.2 (gfScale (r.1.headD 0) pr.2))

/-- One round of the solver, where it finds a pivot and solves for the other unknowns. -/
theorem gfSolve_succ {n : Nat} {rows : List (List Nat × Bytes)} {p : List Nat × Bytes} {xs : List Bytes}
    (pivot : rows.find? (fun r => r.1.headD 0 ≠ 0) = some p) (others : gfSolve n ((rows.erase p).map (eliminated (pivotRow p))) = some xs) :
    gfSolve (n + 1) rows = some (combined (pivotRow p).2 ((pivotRow p).1.zip xs) :: xs) := by
  rw [gfSolve, pivot]
  exact congrArg (fun o : Option (List Bytes) => match o with
    | none => none
    | some xs => some (combined (pivotRow p).2 ((pivotRow p).1.zip xs) :: xs)) others

/-- The value of a row of coefficients for given unknowns. -/
def rowVal (cs : List Nat) (vs : List Byte) : Byte := weighted (cs.zip vs)

@[simp] theorem rowVal_nil (vs : List Byte) : rowVal [] vs = 0 := rfl

@[simp] theorem rowVal_cons (c : Nat) (cs : List Nat) (v : Byte) (vs : List Byte) :
    rowVal (c :: cs) (v :: vs) = byteMul (elt c) v ^^^ rowVal cs vs := rfl

theorem rowVal_zeros (cs : List Nat) (n : Nat) : rowVal cs (List.replicate n 0) = 0 := by
  induction cs generalizing n with
  | nil => rfl
  | cons c cs ih =>
    cases n with
    | zero => rfl
    | succ n => rw [List.replicate_succ, rowVal_cons, ih, byteMul_zero, byte_xor_self]

theorem rowVal_map_gfMul {c : Nat} (byte : c < 256) {cs : List Nat} (bytes : ∀ d ∈ cs, d < 256) (vs : List Byte) :
    rowVal (cs.map (gfMul c)) vs = byteMul (elt c) (rowVal cs vs) := by
  induction cs generalizing vs with
  | nil => exact (byteMul_zero _).symm
  | cons d ds ih =>
    obtain ⟨head, tail⟩ := List.forall_mem_cons.mp bytes
    cases vs with
    | nil => exact (byteMul_zero _).symm
    | cons v vs => rw [List.map_cons, rowVal_cons, rowVal_cons, ih tail, elt_gfMul byte head, byteMul_xor, byteMul_assoc]

theorem rowVal_zipWith {h : Nat} (byte : h < 256) {as bs : List Nat} (same : as.length = bs.length) (bytes : ∀ d ∈ bs, d < 256)
    (vs : List Byte) :
    rowVal (List.zipWith (fun x y => Nat.xor x (gfMul h y)) as bs) vs = rowVal as vs ^^^ byteMul (elt h) (rowVal bs vs) := by
  induction as generalizing bs vs with
  | nil => rw [List.length_eq_zero_iff.mp same.symm, List.zipWith_nil_left, rowVal_nil, byteMul_zero, byte_xor_self]
  | cons a as ih =>
    cases bs with
    | nil => cases same
    | cons b bs =>
      obtain ⟨head, tail⟩ := List.forall_mem_cons.mp bytes
      cases vs with
      | nil => exact (congrArg (0 ^^^ ·) (byteMul_zero (elt h))).symm
      | cons v vs =>
        rw [List.zipWith_cons_cons, rowVal_cons, rowVal_cons, rowVal_cons, ih (Nat.succ.inj same) tail, elt_xor, elt_gfMul byte head, xor_byteMul,
          byteMul_assoc, byteMul_xor, xor_swap]

/-- A row of coefficients with its sum, which the blocks `xs` of length L satisfy. -/
structure RowHolds (L : Nat) (xs : List Bytes) (r : List Nat × Bytes) : Prop where
  /-- one coefficient for each unknown -/
  width : r.1.length = xs.length
  /-- coefficients are bytes -/
  bytes : ∀ c ∈ r.1, c < 256
  /-- the length of the sum -/
  size : r.2.length = L
  /-- the equation at each position -/
  sum : ∀ k, byteAt k r.2 = rowVal r.1 (xs.map (byteAt k))

/-- The rows determine n unknowns: only zeros give all of them the value 0. -/
def Independent (n : Nat) (rows : List (List Nat × Bytes)) : Prop :=
  ∀ ys : List Byte, ys.length = n → (∀ r ∈ rows, rowVal r.1 ys = 0) → ∀ y ∈ ys, y = 0

/-- Independent rows for at least one unknown have a pivot. -/
theorem exists_pivot {n : Nat} {rows : List (List Nat × Bytes)} (indep : Independent (n + 1) rows) :
    ∃ p, rows.find? (fun r => r.1.headD 0 ≠ 0) = some p := by
  cases found : rows.find? (fun r => r.1.headD 0 ≠ 0) with
  | some p => exact ⟨p, rfl⟩
  | none =>
    have zero := indep (1 :: List.replicate n 0) (by simp) fun r mem => by
      have head := List.find?_eq_none.mp found r mem
      cases coeffs : r.1 with
      | nil => rfl
      | cons c cs =>
        have none : c = 0 := by simpa [coeffs] using head
        rw [rowVal_cons, rowVal_zeros, none, byte_xor_zero]
        rfl
    exact absurd (zero 1 List.mem_cons_self) (by decide)

/-- The values of a row and of what is left of it once the first unknown is eliminated, with the pivot as an equation for that unknown. -/
theorem rowVal_eliminated {h : Nat} (byte : h < 256) {cs : List Nat} {pr : List Nat × Bytes} (same : cs.length = pr.1.length)
    (bytes : ∀ d ∈ pr.1, d < 256) (b : Bytes) (v : Byte) (vs : List Byte) : rowVal (h :: cs) (v :: vs) =
      rowVal (eliminated pr (h :: cs, b)).1 vs ^^^ byteMul (elt h) (rowVal (1 :: pr.1) (v :: vs)) := by
  have left : rowVal (eliminated pr (h :: cs, b)).1 vs = rowVal cs vs ^^^ byteMul (elt h) (rowVal pr.1 vs) := rowVal_zipWith byte same bytes vs
  rw [left, rowVal_cons, rowVal_cons, show elt 1 = 1 from rfl, one_byteMul, byteMul_xor, xor_swap, byte_xor_self, byte_xor_zero, BitVec.xor_comm]

theorem rowVal_pivotRow {c : Nat} {cs : List Nat} (bytes : ∀ d ∈ c :: cs, d < 256) (nonzero : c ≠ 0) (b : Bytes) (v : Byte) (vs : List Byte) :
    rowVal (1 :: (pivotRow (c :: cs, b)).1) (v :: vs) = byteMul (elt (gfInv c)) (rowVal (c :: cs) (v :: vs)) := by
  obtain ⟨byte, tail⟩ := List.forall_mem_cons.mp bytes
  have scaled : rowVal (pivotRow (c :: cs, b)).1 vs = byteMul (elt (gfInv c)) (rowVal cs vs) := rowVal_map_gfMul (gfInv_lt byte) tail vs
  rw [rowVal_cons, rowVal_cons, scaled, byteMul_xor, ← byteMul_assoc, byteMul_comm (elt (gfInv c)) (elt c), byteMul_gfInv byte nonzero]
  rfl

/-- The pivot is an equation for the first unknown. -/
theorem rowHolds_pivotRow {L c : Nat} {cs : List Nat} {b x : Bytes} {xs : List Bytes} (holds : RowHolds L (x :: xs) (c :: cs, b))
    (nonzero : c ≠ 0) : RowHolds L (x :: xs) (1 :: (pivotRow (c :: cs, b)).1, (pivotRow (c :: cs, b)).2) := by
  obtain ⟨width, bytes, size, sum⟩ := holds
  have byte : c < 256 := bytes c List.mem_cons_self
  constructor
  · simpa [pivotRow] using width
  · simpa [pivotRow] using fun d _ => gfMul_lt (gfInv_lt byte) d
  · exact (length_gfScale _ _).trans size
  · intro k
    rw [List.map_cons, rowVal_pivotRow bytes nonzero, ← List.map_cons, ← sum]
    exact byteAt_gfScale k (gfInv_lt byte) b

theorem rowHolds_eliminated {L : Nat} {pr r : List Nat × Bytes} {x : Bytes} {xs : List Bytes} (pivot : RowHolds L (x :: xs) (1 :: pr.1, pr.2))
    (holds : RowHolds L (x :: xs) r) : RowHolds L xs (eliminated pr r) := by
  obtain ⟨_ | ⟨h, cs⟩, b⟩ := r
  · cases holds.width
  obtain ⟨width, bytes, size, sum⟩ := holds
  have byte : h < 256 := bytes h List.mem_cons_self
  have widths : cs.length = xs.length ∧ pr.1.length = xs.length := ⟨Nat.succ.inj width, Nat.succ.inj pivot.width⟩
  have sizes : b.length = (gfScale h pr.2).length := size.trans (pivot.size.symm.trans (length_gfScale h pr.2).symm)
  constructor
  · simp [eliminated, widths]
  · intro d mem
    obtain ⟨i, inside, rfl⟩ := List.mem_iff_getElem.mp mem
    simp only [eliminated, List.tail_cons, List.getElem_zipWith]
    exact Nat.xor_lt_two_pow (n := 8) (bytes _ (List.mem_cons_of_mem _ (List.getElem_mem _))) (gfMul_lt byte _)
  · exact (length_gfAdd sizes).trans size
  · intro k
    have value : byteAt k (eliminated pr (h :: cs, b)).2 = byteAt k b ^^^ byteMul (elt h) (byteAt k pr.2) :=
      (byteAt_gfAdd k sizes).trans (congrArg _ (byteAt_gfScale k byte pr.2))
    rw [value, sum, List.map_cons, rowVal_eliminated byte (widths.1.trans widths.2.symm) (List.forall_mem_cons.mp pivot.bytes).2 b, ← List.map_cons,
      ← pivot.sum, BitVec.xor_assoc, byte_xor_self, byte_xor_zero]

/-- The first unknown from the pivot and the others. -/
theorem combined_of_rowHolds {L : Nat} {pr : List Nat × Bytes} {x : Bytes} {xs : List Bytes} (pivot : RowHolds L (x :: xs) (1 :: pr.1, pr.2))
    (length : x.length = L) (sizes : ∀ y ∈ xs, y.length = L) : combined pr.2 (pr.1.zip xs) = x := by
  obtain ⟨-, bytes, size, sum⟩ := pivot
  have fit : termsFit L (pr.1.zip xs) := fun t mem =>
    ⟨bytes _ (List.mem_cons_of_mem _ (List.of_mem_zip mem).1), sizes _ (List.of_mem_zip mem).2⟩
  refine eq_of_byteAt ((length_combined size fit).trans length.symm) fun k => ?_
  have others : weighted ((pr.1.zip xs).map fun t => (t.1, byteAt k t.2)) = rowVal pr.1 (xs.map (byteAt k)) :=
    congrArg weighted List.zip_map_right.symm
  rw [byteAt_combined k size fit, others, sum, List.map_cons, rowVal_cons, show elt 1 = 1 from rfl, one_byteMul, BitVec.xor_assoc, byte_xor_self,
    byte_xor_zero]

/-- What is left of independent rows when a pivot is taken determines the other unknowns. -/
theorem independent_eliminated {n c : Nat} {cs : List Nat} {b : Bytes} {rows : List (List Nat × Bytes)} (indep : Independent (n + 1) rows)
    (widths : ∀ r ∈ rows, r.1.length = n + 1 ∧ ∀ c ∈ r.1, c < 256) (mem : (c :: cs, b) ∈ rows) (nonzero : c ≠ 0) :
    Independent n ((rows.erase (c :: cs, b)).map (eliminated (pivotRow (c :: cs, b)))) := by
  intro ys length zero y inside
  obtain ⟨widthp, bytesp⟩ := widths _ mem
  have byte : c < 256 := bytesp c List.mem_cons_self
  have width : (pivotRow (c :: cs, b)).1.length = n := by simpa [pivotRow] using widthp
  have bytes : ∀ d ∈ (pivotRow (c :: cs, b)).1, d < 256 := by simpa [pivotRow] using fun d _ => gfMul_lt (gfInv_lt byte) d
  have pivotZero : rowVal (1 :: (pivotRow (c :: cs, b)).1) (rowVal (pivotRow (c :: cs, b)).1 ys :: ys) = 0 := by
    rw [rowVal_cons, show elt 1 = 1 from rfl, one_byteMul]
    exact byte_xor_self _
  refine indep (rowVal (pivotRow (c :: cs, b)).1 ys :: ys) (by simp [length]) (fun r memr => ?_) y (List.mem_cons_of_mem _ inside)
  by_cases isPivot : r = (c :: cs, b)
  · rw [rowVal_pivotRow bytesp nonzero] at pivotZero
    subst isPivot
    refine eq_zero_of_byteMul (fun none => ?_) pivotZero
    have inverse := byteMul_gfInv byte nonzero
    rw [none, byteMul_zero] at inverse
    exact absurd inverse (by decide)
  · obtain ⟨_ | ⟨h, ds⟩, e⟩ := r
    · cases (widths _ memr).1
    obtain ⟨widthr, bytesr⟩ := widths _ memr
    have rest := zero _ (List.mem_map_of_mem ((List.mem_erase_of_ne isPivot).mpr memr))
    rw [rowVal_eliminated (bytesr h List.mem_cons_self) ((Nat.succ.inj widthr).trans width.symm) bytes e, rest, pivotZero, byteMul_zero,
      byte_xor_self]

/-- R214: independent rows that the blocks `xs` satisfy are solved by them. -/
theorem gfSolve_of_independent {L : Nat} {xs : List Bytes} {rows : List (List Nat × Bytes)} (sizes : ∀ x ∈ xs, x.length = L)
    (holds : ∀ r ∈ rows, RowHolds L xs r) (indep : Independent xs.length rows) : gfSolve xs.length rows = some xs := by
  induction xs generalizing rows with
  | nil => rfl
  | cons x xs ih =>
    obtain ⟨length, sizes⟩ := List.forall_mem_cons.mp sizes
    obtain ⟨⟨coeffs, b⟩, pivot⟩ := exists_pivot indep
    have mem := List.mem_of_find?_eq_some pivot
    cases coeffs with
    | nil => cases (holds _ mem).width
    | cons c cs =>
      have nonzero : c ≠ 0 := by simpa using List.find?_some pivot
      have first := rowHolds_pivotRow (holds _ mem) nonzero
      have others := ih (rows := (rows.erase (c :: cs, b)).map (eliminated (pivotRow (c :: cs, b)))) sizes
        (List.forall_mem_map.mpr fun r memr => rowHolds_eliminated first (holds r (List.mem_of_mem_erase memr)))
        (independent_eliminated indep (fun r memr => ⟨(holds r memr).width, (holds r memr).bytes⟩) mem nonzero)
      rw [List.length_cons, gfSolve_succ pivot others, combined_of_rowHolds first length sizes]

/-! ### The checks of a block row (R211, R212, R224) -/

/-- R214: the powers of α that belong to the chunks differ. -/
theorem gfPow_injOn : ∀ i < 28, ∀ j < 28, gfPow i = gfPow j → i = j := by decide +kernel

/-- R214: so do their squares. -/
theorem gfPow_two_mul_injOn : ∀ i < 28, ∀ j < 28, gfPow (2 * i) = gfPow (2 * j) → i = j := by decide +kernel

theorem coef_lt (i j : Nat) : coef i j < 256 := by
  unfold coef
  split
  next => decide
  next => split <;> exact gfPow_lt _

theorem checkBytes_eq (i : Nat) (ds : List (Nat × Bytes)) :
    checkBytes i ds = combined (zeros 4152) (ds.map fun d => (coef i d.1, covered d.2)) := by
  unfold combined
  rw [List.foldl_map]
  rfl

theorem checkTerms_fit (i : Nat) (ds : List (Nat × Bytes)) : termsFit 4152 (ds.map fun d => (coef i d.1, covered d.2)) :=
  List.forall_mem_map.mpr fun _ _ => ⟨coef_lt _ _, length_covered _⟩

theorem length_checkBytes (i : Nat) (ds : List (Nat × Bytes)) : (checkBytes i ds).length = 4152 := by
  rw [checkBytes_eq]
  exact length_combined (length_zeros _) (checkTerms_fit i ds)

theorem byteAt_checkBytes (k i : Nat) (ds : List (Nat × Bytes)) :
    byteAt k (checkBytes i ds) = weighted (ds.map fun d => (coef i d.1, byteAt k (covered d.2))) := by
  rw [checkBytes_eq, byteAt_combined k (length_zeros _) (checkTerms_fit i ds), byteAt_zeros, List.map_map]
  exact BitVec.zero_xor

/-- The equation for the lost chunks that a check gives when the chunks present are taken out of it, as `rebuildData` sets it up. -/
def checkRow (d : Nat → Bytes) (lost present : List Nat) (i : Nat) : List Nat × Bytes :=
  (lost.map (coef i), gfAdd (covered (checkBytes i ((lost ++ present).map fun j => (j, d j)))) (checkBytes i (present.map fun j => (j, d j))))

/-- R214: in the sum of a check and the chunks present only the lost chunks are left. -/
theorem rowHolds_checkRow (d : Nat → Bytes) (lost present : List Nat) (i : Nat) :
    RowHolds 4152 (lost.map fun j => covered (d j)) (checkRow d lost present i) := by
  have sizes := (length_checkBytes i ((lost ++ present).map fun j => (j, d j))).trans (length_checkBytes i (present.map fun j => (j, d j))).symm
  rw [checkRow, covered_of_length (length_checkBytes i _)]
  constructor
  · exact (List.length_map _).trans (List.length_map _).symm
  · exact List.forall_mem_map.mpr fun j _ => coef_lt i j
  · exact (length_gfAdd sizes).trans (length_checkBytes i _)
  · intro k
    rw [byteAt_gfAdd k sizes, byteAt_checkBytes, byteAt_checkBytes, List.map_append, List.map_append, weighted_append, BitVec.xor_assoc,
      byte_xor_self, byte_xor_zero, rowVal, List.map_map, List.map_map, List.zip_map']
    rfl

/-! ### As many checks as lost chunks determine them (R214) -/

theorem elt_gfPow_add (m n : Nat) : elt (gfPow (m + n)) = byteMul (elt (gfPow m)) (elt (gfPow n)) := by
  induction n with
  | zero => exact (byteMul_one _).symm
  | succ n ih =>
    rw [Nat.add_succ, gfPow, gfPow, elt_gfDouble (gfPow_lt _), elt_gfDouble (gfPow_lt n), ih, byteMul_comm, byteMul_comm (elt (gfPow m)),
      byteLinear_double.mul, byteMul_comm]

/-- The coefficient of check 1 is 1. -/
theorem elt_coef_one (j : Nat) : elt (coef 1 j) = 1 := rfl

/-- The coefficient of check 3 is the square of that of check 2. -/
theorem elt_coef_three (j : Nat) : elt (coef 3 j) = byteMul (elt (coef 2 j)) (elt (coef 2 j)) := by
  have square := elt_gfPow_add j j
  rw [← Nat.two_mul] at square
  exact square

/-- No coefficient is 0. -/
theorem elt_coef_ne_zero {i j : Nat} (check : 1 ≤ i ∧ i ≤ 3) (chunk : j < 28) : elt (coef i j) ≠ 0 := by
  have all : ∀ i ≤ 3, ∀ j < 28, 1 ≤ i → elt (coef i j) ≠ 0 := by decide +kernel
  exact all i check.2 j chunk check.1

theorem elt_coef_two_inj {a b : Nat} (ha : a < 28) (hb : b < 28) (other : a ≠ b) : elt (coef 2 a) ≠ elt (coef 2 b) :=
  fun same => other (gfPow_injOn a ha b hb (elt_inj (gfPow_lt a) (gfPow_lt b) same))

theorem elt_coef_three_inj {a b : Nat} (ha : a < 28) (hb : b < 28) (other : a ≠ b) : elt (coef 3 a) ≠ elt (coef 3 b) :=
  fun same => other (gfPow_two_mul_injOn a ha b hb (elt_inj (gfPow_lt _) (gfPow_lt _) same))

/-- Two unknowns whose sum is 0, and whose sum with two different factors is 0. -/
theorem eq_zero_of_two_sums {t u x y : Byte} (other : t ≠ u) (sum : x ^^^ y = 0) (scaled : byteMul t x ^^^ byteMul u y = 0) : x = 0 ∧ y = 0 := by
  obtain rfl : x = y := BitVec.xor_eq_zero_iff.mp sum
  rw [← xor_byteMul] at scaled
  have zero : x = 0 := eq_zero_of_byteMul (fun none => other (BitVec.xor_eq_zero_iff.mp none)) scaled
  exact ⟨zero, zero⟩

/-- Three unknowns and the powers 0, 1 and 2 of three factors: the first unknown is eliminated. -/
theorem eq_zero_of_three_sums {t u v x y z : Byte} (tu : t ≠ u) (tv : t ≠ v) (uv : u ≠ v) (e0 : x ^^^ (y ^^^ z) = 0)
    (e1 : byteMul t x ^^^ (byteMul u y ^^^ byteMul v z) = 0)
    (e2 : byteMul (byteMul t t) x ^^^ (byteMul (byteMul u u) y ^^^ byteMul (byteMul v v) z) = 0) : x = 0 ∧ y = 0 ∧ z = 0 := by
  have first : x = y ^^^ z := BitVec.xor_eq_zero_iff.mp e0
  have second : byteMul t x = byteMul u y ^^^ byteMul v z := BitVec.xor_eq_zero_iff.mp e1
  have low : byteMul (t ^^^ u) y ^^^ byteMul (t ^^^ v) z = 0 := by
    rw [xor_byteMul, xor_byteMul, xor_swap, ← byteMul_xor, ← first, second, byte_xor_self]
  have high : byteMul u (byteMul (t ^^^ u) y) ^^^ byteMul v (byteMul (t ^^^ v) z) = 0 := by
    rw [xor_byteMul, xor_byteMul, byteMul_xor, byteMul_xor, xor_swap, byteMul_left_comm u t, byteMul_left_comm v t, ← byteMul_xor t, ← second,
      ← byteMul_assoc, ← byteMul_assoc, ← byteMul_assoc, e2]
  obtain ⟨hy, hz⟩ := eq_zero_of_two_sums uv low high
  have zeroY := eq_zero_of_byteMul (fun none => tu (BitVec.xor_eq_zero_iff.mp none)) hy
  have zeroZ := eq_zero_of_byteMul (fun none => tv (BitVec.xor_eq_zero_iff.mp none)) hz
  exact ⟨by rw [first, zeroY, zeroZ, byte_xor_self], zeroY, zeroZ⟩

theorem one_check_determines {i a : Nat} (check : 1 ≤ i ∧ i ≤ 3) (chunk : a < 28) {x : Byte} (zero : rowVal ([a].map (coef i)) [x] = 0) :
    x = 0 := by
  rw [List.map_cons, rowVal_cons, List.map_nil, rowVal_nil, byte_xor_zero] at zero
  exact eq_zero_of_byteMul (elt_coef_ne_zero check chunk) zero

theorem rowVal_coef_two (i a b : Nat) (x y : Byte) :
    rowVal ([a, b].map (coef i)) [x, y] = byteMul (elt (coef i a)) x ^^^ byteMul (elt (coef i b)) y :=
  congrArg (byteMul (elt (coef i a)) x ^^^ ·) (byte_xor_zero _)

theorem rowVal_coef_three (i a b c : Nat) (x y z : Byte) : rowVal ([a, b, c].map (coef i)) [x, y, z] =
    byteMul (elt (coef i a)) x ^^^ (byteMul (elt (coef i b)) y ^^^ byteMul (elt (coef i c)) z) :=
  congrArg (byteMul (elt (coef i a)) x ^^^ ·) (rowVal_coef_two i b c y z)

theorem two_checks_determine_of_lt {i j a b : Nat} (first : 1 ≤ i) (lt : i < j) (last : j ≤ 3) (ha : a < 28) (hb : b < 28) (chunks : a ≠ b)
    {x y : Byte} (zi : rowVal ([a, b].map (coef i)) [x, y] = 0) (zj : rowVal ([a, b].map (coef j)) [x, y] = 0) : x = 0 ∧ y = 0 := by
  rw [rowVal_coef_two] at zi zj
  obtain ⟨rfl, rfl⟩ | ⟨rfl, rfl⟩ | ⟨rfl, rfl⟩ : (i = 1 ∧ j = 2) ∨ (i = 1 ∧ j = 3) ∨ (i = 2 ∧ j = 3) := by omega
  · rw [elt_coef_one, elt_coef_one, one_byteMul, one_byteMul] at zi
    exact eq_zero_of_two_sums (elt_coef_two_inj ha hb chunks) zi zj
  · rw [elt_coef_one, elt_coef_one, one_byteMul, one_byteMul] at zi
    exact eq_zero_of_two_sums (elt_coef_three_inj ha hb chunks) zi zj
  · rw [elt_coef_three, elt_coef_three, byteMul_assoc, byteMul_assoc] at zj
    obtain ⟨hx, hy⟩ := eq_zero_of_two_sums (elt_coef_two_inj ha hb chunks) zi zj
    exact ⟨eq_zero_of_byteMul (elt_coef_ne_zero (by decide) ha) hx, eq_zero_of_byteMul (elt_coef_ne_zero (by decide) hb) hy⟩

theorem two_checks_determine {i j a b : Nat} (hi : 1 ≤ i ∧ i ≤ 3) (hj : 1 ≤ j ∧ j ≤ 3) (checks : i ≠ j) (ha : a < 28) (hb : b < 28)
    (chunks : a ≠ b) {x y : Byte} (zi : rowVal ([a, b].map (coef i)) [x, y] = 0) (zj : rowVal ([a, b].map (coef j)) [x, y] = 0) :
    x = 0 ∧ y = 0 :=
  (Nat.lt_or_gt_of_ne checks).elim (fun lt => two_checks_determine_of_lt hi.1 lt hj.2 ha hb chunks zi zj)
    fun gt => two_checks_determine_of_lt hj.1 gt hi.2 ha hb chunks zj zi

theorem three_checks_determine {a b c : Nat} (ha : a < 28) (hb : b < 28) (hc : c < 28) (ab : a ≠ b) (ac : a ≠ c) (bc : b ≠ c) {x y z : Byte}
    (zero : ∀ i, 1 ≤ i ∧ i ≤ 3 → rowVal ([a, b, c].map (coef i)) [x, y, z] = 0) : x = 0 ∧ y = 0 ∧ z = 0 := by
  have e0 := zero 1 (by decide)
  have e1 := zero 2 (by decide)
  have e2 := zero 3 (by decide)
  rw [rowVal_coef_three] at e0 e1 e2
  rw [elt_coef_one, elt_coef_one, elt_coef_one, one_byteMul, one_byteMul, one_byteMul] at e0
  rw [elt_coef_three, elt_coef_three, elt_coef_three] at e2
  exact eq_zero_of_three_sums (elt_coef_two_inj ha hb ab) (elt_coef_two_inj ha hc ac) (elt_coef_two_inj hb hc bc) e0 e1 e2

/-- R214: as many checks as there are lost chunks determine them. -/
theorem checks_determine {lost checks : List Nat} (distinct : lost.Nodup) (chunks : ∀ j ∈ lost, j < 28) (nodup : checks.Nodup)
    (range : ∀ i ∈ checks, 1 ≤ i ∧ i ≤ 3) (enough : lost.length ≤ checks.length) {ys : List Byte} (length : ys.length = lost.length)
    (zero : ∀ i ∈ checks, rowVal (lost.map (coef i)) ys = 0) : ∀ y ∈ ys, y = 0 := by
  match lost, ys, checks with
  | [], [], _ => exact fun _ none => nomatch none
  | [a], [x], i :: _ =>
    obtain ⟨ri, -⟩ := List.forall_mem_cons.mp range
    obtain ⟨zi, -⟩ := List.forall_mem_cons.mp zero
    obtain ⟨ha, -⟩ := List.forall_mem_cons.mp chunks
    simpa using one_check_determines ri ha zi
  | [a, b], [x, y], i :: j :: _ =>
    simp only [List.forall_mem_cons] at chunks range zero
    obtain ⟨ha, hb, -⟩ := chunks
    obtain ⟨ri, rj, -⟩ := range
    obtain ⟨zi, zj, -⟩ := zero
    have ab : a ≠ b := List.ne_of_not_mem_cons (List.nodup_cons.mp distinct).1
    have ij : i ≠ j := List.ne_of_not_mem_cons (List.nodup_cons.mp nodup).1
    simpa using two_checks_determine ri rj ij ha hb ab zi zj
  | [a, b, c], [x, y, z], i :: j :: k :: _ =>
    simp only [List.forall_mem_cons] at chunks range zero
    simp only [List.nodup_cons, List.mem_cons, not_or] at distinct nodup
    obtain ⟨ha, hb, hc, -⟩ := chunks
    obtain ⟨ri, rj, rk, -⟩ := range
    obtain ⟨zi, zj, zk, -⟩ := zero
    obtain ⟨⟨ab, ac, -⟩, ⟨bc, -⟩, -⟩ := distinct
    obtain ⟨⟨ij, ik, -⟩, ⟨jk, -⟩, -⟩ := nodup
    have all (n : Nat) (check : 1 ≤ n ∧ n ≤ 3) : rowVal ([a, b, c].map (coef n)) [x, y, z] = 0 := by
      obtain rfl | rfl | rfl : n = i ∨ n = j ∨ n = k := by omega
      · exact zi
      · exact zj
      · exact zk
    simpa using three_checks_determine ha hb hc ab ac bc all
  | _ :: _ :: _ :: _ :: _, _, i :: j :: k :: l :: _ =>
    simp only [List.forall_mem_cons] at range
    simp only [List.nodup_cons, List.mem_cons, not_or] at nodup
    omega

/-- Settles O15. A check with the known chunks taken out of it is an equation for the lost ones; as many of them as there are lost chunks are
independent, and the solver solves independent equations. -/
theorem lostChunksRebuilt : Obligations.LostChunksRebuilt := by
  refine ⟨fun i j hi hj => ⟨gfPow_injOn i hi j hj, gfPow_two_mul_injOn i hi j hj⟩,
    fun d lost present checks nodup chunks distinct range enough => ?_⟩
  have solved := gfSolve_of_independent (xs := lost.map fun j => covered (d j)) (rows := checks.map (checkRow d lost present))
    (List.forall_mem_map.mpr fun _ _ => length_covered _) (List.forall_mem_map.mpr fun i _ => rowHolds_checkRow d lost present i)
    fun ys length zero => checks_determine (List.nodup_append.mp nodup).1 (fun j mem => chunks j (List.mem_append_left _ mem)) distinct range enough
      (length.trans (List.length_map _)) (List.forall_mem_map.mp zero)
  rw [List.length_map] at solved
  unfold rebuildData
  dsimp only
  rw [if_neg (by simpa using enough), List.map_map]
  refine (congrArg (Option.map lost.zip) solved).trans (congrArg some ?_)
  simpa using List.zip_map' (f := id) (g := fun j => covered (d j)) (l := lost)

end Sys2Proof.Machine

namespace Sys2Proof.Machine

/-! ## Placement, destage and journals (O38) -/

/-! ### The destages in progress (R225)

What journals, releases, admission and the orders to drives leave alone: most touch no layout at all; of the rest, journals change the pools,
releases the larder, and admission the slots reserved for the partner. -/

/-- The destages in progress. -/
def State.destages (s : State) : Tbl Destage := s.layout.destages

theorem State.destages_of_touch {s t : State} (h : Touch (allBut .layout) s t) : t.destages = s.destages :=
  congrArg (·.destages) (same_of_touch (g := .layout) h)

@[simp] theorem State.destages_ite {c : Prop} [Decidable c] (a b : State) : (if c then a else b).destages = if c then a.destages else b.destages :=
  apply_ite _ _ _ _

@[simp] theorem State.destages_when {f : State → State} (keeps : ∀ t, (f t).destages = t.destages) (b : Bool) (s : State) :
    (s.when b f).destages = s.destages := by
  unfold State.when
  split
  · exact keeps s
  · rfl

@[simp] theorem State.destages_foldl {α : Type} {f : State → α → State} (keeps : ∀ t x, (f t x).destages = t.destages) (l : List α)
    (s : State) : (l.foldl f s).destages = s.destages :=
  List.foldlRecOn (motive := fun t : State => t.destages = s.destages) l f rfl fun t kept x _ => (keeps t x).trans kept

@[simp] theorem State.destages_foldl_snd {α β : Type} {f : β × State → α → β × State} (keeps : ∀ a x, (f a x).2.destages = a.2.destages)
    (l : List α) (a : β × State) : (l.foldl f a).2.destages = a.2.destages :=
  List.foldlRecOn (motive := fun b : β × State => b.2.destages = a.2.destages) l f rfl fun b kept x _ => (keeps b x).trans kept

@[simp] theorem State.updLayout_destages (f : Layout → Layout) (s : State) : (s.updLayout f).destages = (f s.layout).destages := rfl

theorem State.layout_destages (s : State) : s.layout.destages = s.destages := rfl

@[simp] theorem State.updPool_destages (n : Nat) (f : Pool → Pool) (s : State) : (s.updPool n f).destages = s.destages := rfl

@[simp] theorem State.updExtent_destages (rec : Nat) (f : Extent → Extent) (s : State) : (s.updExtent rec f).destages = s.destages := rfl

@[simp] theorem State.updCons_destages (f : Cons → Cons) (s : State) : (s.updCons f).destages = s.destages := rfl

@[simp] theorem State.bump_destages (c : Nat × Nat) (i : Nat) (s : State) : (s.bump c i).destages = s.destages :=
  State.destages_of_touch (State.bump_touch (by decide) (.refl _ _))

@[simp] theorem State.settSend_destages (kind : Nat) (args : List Nat) (data : Bytes) (s : State) :
    (s.settSend kind args data).destages = s.destages :=
  State.destages_of_touch (State.settSend_touch (by decide) (.refl _ _))

@[simp] theorem State.settIfPaired_destages (kind : Nat) (args : List Nat) (data : Bytes) (s : State) :
    (s.settIfPaired kind args data).destages = s.destages :=
  State.destages_of_touch (State.settIfPaired_touch (by decide) (.refl _ _))

@[simp] theorem State.submit_destages (tenant : Nat) (c : DriveCmd) (s : State) : (s.submit tenant c).destages = s.destages :=
  State.destages_of_touch (State.submit_touch (by decide) (.refl _ _))

@[simp] theorem State.submitRun_destages (cls : Option Nat) (tenant : Nat) (c : DriveCmd) (s : State) :
    (s.submitRun cls tenant c).destages = s.destages :=
  State.destages_of_touch (State.submitRun_touch (by decide) (.refl _ _))

@[simp] theorem State.readStripe_destages (n stripe p row owner : Nat) (d : DPath) (s : State) :
    (s.readStripe n stripe p row owner d).destages = s.destages :=
  State.destages_of_touch (State.readStripe_touch (by decide) (.refl _ _))

@[simp] theorem State.journal_destages (n : Nat) (r : JRec) (s : State) : (s.journal n r).destages = s.destages := by
  simp [State.journal, State.journalData]

@[simp] theorem State.journalHeader_destages (n : Nat) (clean : Bool) (s : State) : (s.journalHeader n clean).destages = s.destages := by
  simp [State.journalHeader]

@[simp] theorem State.headerDue_destages (n : Nat) (s : State) : (s.headerDue n).destages = s.destages := by
  simp [State.headerDue]

/-! ### Admission (R173, R181, R184, R188) -/

@[simp] theorem State.issueStamp_destages (rec h : Nat) (s : State) : (s.issueStamp rec h).2.destages = s.destages := by
  simp [State.issueStamp, State.raiseEpoch, State.applyEpoch]

@[simp] theorem State.enterPart_destages (kind slot holder h : Nat) (stamp : BitVec 64) (first n : Nat) (partials : List Nat) (crossing : Bool)
    (s : State) : (s.enterPart kind slot holder h stamp first n partials crossing).2.destages = s.destages :=
  State.destages_of_touch (State.enterPart_touch (by decide) (.refl _ _))

@[simp] theorem State.countWait_destages (kind h waits : Nat) (s : State) : (s.countWait kind h waits).destages = s.destages :=
  State.destages_of_touch (State.countWait_touch (by decide) (.refl _ _))

@[simp] theorem State.goCheck_destages (n : Nat) (s : State) : (s.goCheck n).destages = s.destages :=
  State.destages_of_touch (State.goCheck_touch (by decide) (.refl _ _))

@[simp] theorem State.giveStamp_destages (n : Nat) (stamp : BitVec 64) (owner waits : Nat) (s : State) :
    (s.giveStamp n stamp owner waits).destages = s.destages :=
  State.destages_of_touch (State.giveStamp_touch (by decide) (.refl _ _))

@[simp] theorem State.tellStamp_destages (slot holder : Nat) (stamp : BitVec 64) (waits part blocks : Nat) (s : State) :
    (s.tellStamp slot holder stamp waits part blocks).destages = s.destages := by
  simp [State.tellStamp, State.layout_destages]

@[simp] theorem State.admitOne_destages (rec : Nat) (r : StampReq) (first n : Nat) (partials : List Nat) (s : State) :
    (s.admitOne rec r first n partials).destages = s.destages := by
  simp [State.admitOne]

@[simp] theorem State.admitBoth_destages (lo up : Nat) (r : StampReq) (s : State) : (s.admitBoth lo up r).destages = s.destages := by
  simp [State.admitBoth]

@[simp] theorem State.reserveUpper_destages (rec : Nat) (r : StampReq) (s : State) : (s.reserveUpper rec r).destages = s.destages :=
  State.destages_of_touch (State.reserveUpper_touch (by decide) (.refl _ _))

theorem State.admitReq_destages {rec : Nat} {r : StampReq} {s t : State} (admitted : s.admitReq rec r = some t) : t.destages = s.destages := by
  unfold State.admitReq at admitted
  dsimp only at admitted
  split at admitted
  next => cases admitted
  next =>
    split at admitted
    next => simp [← Option.some.inj admitted]
    next =>
      split at admitted
      next =>
        split at admitted
        next =>
          obtain ⟨-, both⟩ := Option.ite_none_left_eq_some.mp admitted
          simp [← Option.some.inj both]
        next => simp [← Option.some.inj admitted]
      next => simp [← Option.some.inj admitted]

@[simp] theorem State.drainHeld_destages (rec k : Nat) (s : State) : (State.drainHeld rec k s).destages = s.destages := by
  induction k generalizing s with
  | zero => rfl
  | succ k ih =>
    unfold State.drainHeld
    split
    next => rfl
    next =>
      split
      next admitted => rw [ih, State.updExtent_destages, State.admitReq_destages admitted, State.updExtent_destages]
      next => rfl

@[simp] theorem State.drainAll_destages (s : State) : s.drainAll.destages = s.destages := by
  simp [State.drainAll]

/-! ### The end of a destage (R192, R225, R227, R234, R245, R251) -/

@[simp] theorem State.healed_destages (n : Nat) (vs : List Version) (s : State) : (s.healed n vs).destages = s.destages := by
  simp [State.healed, State.layout_destages]

@[simp] theorem State.foxStamp_destages (stamp : Nat) (s : State) : (s.foxStamp stamp).destages = s.destages :=
  State.destages_of_touch (State.foxStamp_touch (by decide) (.refl _ _))

@[simp] theorem State.flushReleases_destages (s : State) : s.flushReleases.destages = s.destages := by
  simp [State.flushReleases, State.layout_destages]

@[simp] theorem State.releaseVersions_destages (slots : List Nat) (s : State) : (s.releaseVersions slots).destages = s.destages := by
  simp [State.releaseVersions, State.layout_destages]

@[simp] theorem State.trimRegions_destages (s : State) : s.trimRegions.destages = s.destages := rfl

@[simp] theorem State.freeLock_destages (n stripe : Nat) (s : State) : (s.freeLock n stripe).destages = s.destages := by
  unfold State.freeLock
  dsimp only
  split
  next => rfl
  next =>
    rw [State.updLayout_destages]
    split <;> rfl

@[simp] theorem State.rule3Update_destages (s : State) : s.rule3Update.destages = s.destages := rfl

@[simp] theorem State.replayCheck_destages (s : State) : s.replayCheck.destages = s.destages := by
  simp [State.replayCheck, State.layout_destages]

/-- R225: at the end of a destage it alone leaves the destages in progress. -/
theorem State.destageEnd_destages (n stripe : Nat) (d : Destage) (s : State) :
    (s.destageEnd n stripe d).destages = tdel s.destages (stripeKey n stripe) := by
  simp [State.destageEnd, State.layout_destages]

/-- R225: a destage that begins waits for its intent. -/
theorem State.startDestage_stage (n stripe : Nat) (s : State) :
    (tfind (s.startDestage n stripe).destages (stripeKey n stripe)).map (·.stage) = some 2 := by
  simp [State.startDestage]

/-! ### Destage (R223 to R225, R562) -/

theorem execDestagePick_begins {pool st : Nat} {s : State} (inRange : pool < 8) (runs : s.mayDestage = true) (next : s.pickStripe pool = some st)
    (ready : s.journalReady pool = true) (granted : (s.takeLock pool st 3).1 = true) :
    ∃ t, execDestagePick pool s = .next t ∧ (tfind t.layout.destages (stripeKey pool st)).map (·.stage) = some 2 := by
  have up : ¬ (s.journalUp pool).length < 2 := by
    unfold State.journalReady at ready
    simp at ready
    omega
  have begun : s.takeStripe pool st = (s.takeLock pool st 3).2.startDestage pool st := by
    simp [State.takeStripe, up, ready, granted]
  unfold execDestagePick
  rw [bounded_eq_next (decide_eq_true inRange), if_pos runs, next]
  refine ⟨_, rfl, ?_⟩
  dsimp only
  rw [begun, State.layout_destages]
  exact State.startDestage_stage _ _ _

theorem execCoalesceTimeout_coalesces {pool stripe : Nat} {x : Nat × Nat × Version} {s : State} (inRange : pool < 8)
    (one : (s.candidates pool).filter (fun c => c.1 = stripe) = [x]) :
    ∃ t, execCoalesceTimeout pool stripe s = .next t ∧ t.layout.coalesced = addOne x.2.1 s.layout.coalesced := by
  refine ⟨_, bounded_eq_next (decide_eq_true inRange), ?_⟩
  dsimp only
  rw [one]
  rfl

theorem execDestageAgeExpiry_eligible {lslot : Nat} {v : Version} {s : State} (inRange : lslot < 16384000)
    (stands : tfind s.layout.larder lslot = some v) (placed : v.placed = true) :
    ∃ t, execDestageAgeExpiry lslot s = .next t ∧ t.layout.eligible = addOne lslot s.layout.eligible := by
  unfold execDestageAgeExpiry
  rw [bounded_eq_next (decide_eq_true inRange), stands]
  exact ⟨_, rfl, by dsimp only; rw [if_pos placed]; rfl⟩

/-- R225: with every block read, the writes of a destage are issued. -/
theorem State.destageWrites_stage {n stripe : Nat} {reads : List PosBlock} {d : Destage} {s : State}
    (read : ∀ b ∈ bitsSet 16 d.rows.toNat, (s.destageRow n stripe b d.method (s.versOf d) reads).1 = []) :
    (tfind (s.destageWrites n stripe reads d).destages (stripeKey n stripe)).map (·.stage) = some 5 := by
  unfold State.destageWrites
  dsimp only
  rw [if_neg]
  · simp
  · simpa using read

theorem execDestageIntentDurable_writes {pool stripe : Nat} {reads : List PosBlock} {d : Destage} {s : State} (inRange : pool < 8)
    (runs : tfind s.layout.destages (stripeKey pool stripe) = some d) (stage : d.stage = 2)
    (read : ∀ b ∈ bitsSet 16 d.rows.toNat, (s.destageRow pool stripe b d.method (s.versOf d) reads).1 = []) :
    ∃ t, execDestageIntentDurable pool stripe reads s = .next t ∧ (tfind t.layout.destages (stripeKey pool stripe)).map (·.stage) = some 5 := by
  unfold execDestageIntentDurable
  rw [bounded_eq_next (decide_eq_true inRange), runs]
  refine ⟨_, rfl, ?_⟩
  dsimp only
  rw [if_pos stage]
  exact State.destageWrites_stage read

theorem execDestageWritesComplete_ends {pool stripe : Nat} {d : Destage} {s : State} (inRange : pool < 8)
    (runs : tfind s.layout.destages (stripeKey pool stripe) = some d) (stage : d.stage = 5) :
    ∃ t, execDestageWritesComplete pool stripe [] s = .next t ∧ ∃ u : State, t = u.settle ∧
      u.layout.destages = tdel s.layout.destages (stripeKey pool stripe) := by
  unfold execDestageWritesComplete
  rw [bounded_eq_next (decide_eq_true inRange), runs]
  exact ⟨_, rfl, _, if_pos stage, State.destageEnd_destages pool stripe d s⟩

/-! ### Journals (R227, R228, R230 to R232) -/

/-- A journal record as it is appended: with the next SEQ and ring block of its pool, and the epoch (R230). -/
def State.numbered (s : State) (n : Nat) (r : JRec) : JRec :=
  { r with seqNo := (s.pool n).nextSeq, epoch := s.cons.epoch, ringBlk := (s.pool n).ringNext }

/-- The pool with one record more in the own copy of its journal (R228). -/
def Pool.recorded (r : JRec) (p : Pool) : Pool := { p with
  journal := (r :: p.journal).take 4096, nextSeq := p.nextSeq + 1, ringNext := p.ringNext + 1
  sinceHeader := if r.kind = 6 then 0 else p.sinceHeader + 1 }

/-- R228, R230: of the layout an append changes the own copy of the pool's journal alone. -/
theorem State.journal_pool (n : Nat) (r : JRec) (s : State) : (s.journal n r).pool n = (s.pool n).recorded (s.numbered n r) := by
  have appended : Touch (allBut .layout) (s.updPool n (Pool.recorded (s.numbered n r))) (s.journal n r) :=
    foldl_touch (State.settIfPaired_touch (by decide) (State.bump_touch (by decide) (.refl _ _))) fun _ _ h => State.submit_touch (by decide) h
  rw [State.pool_congr (same_of_touch appended), State.pool_updPool_same]

theorem State.journal_bitmap (n : Nat) (r : JRec) (s : State) : ((s.journal n r).pool n).bitmap = (s.pool n).bitmap := by
  rw [State.journal_pool]
  rfl

theorem State.journal_head (n : Nat) (r : JRec) (s : State) : ((s.journal n r).pool n).journal.head? = some (s.numbered n r) := by
  rw [State.journal_pool]
  rfl

theorem State.journalHeader_bitmap (n : Nat) (clean : Bool) (s : State) : ((s.journalHeader n clean).pool n).bitmap = (s.pool n).bitmap := by
  unfold State.journalHeader
  dsimp only
  rw [State.pool_congr (same_of_touch (g := .layout) (foldl_touch (.refl _ _) fun t d h => State.submitRun_touch (by decide) h)),
    State.pool_updPool_same, State.journal_bitmap]

theorem State.headerDue_bitmap (n : Nat) (s : State) : ((s.headerDue n).pool n).bitmap = (s.pool n).bitmap := by
  unfold State.headerDue State.when
  split
  · exact State.journalHeader_bitmap n false s
  · rfl

theorem execBitmapCleanTimer_clears {pool bit : Nat} {s : State} (inRange : pool < 8) (set : (s.pool pool).bitmap.contains bit = true)
    (present : (s.pool pool).members = [])
    (idle : (s.layout.destages.any fun d => decide (d.1 / 2 ^ 64 = pool) && decide ((s.rowOf pool (d.1 % 2 ^ 64)).1 / 1024 = bit)) = false)
    (up : 2 ≤ (s.journalUp pool).length) :
    ∃ t, execBitmapCleanTimer pool bit s = .next t ∧ (t.pool pool).bitmap = (s.pool pool).bitmap.filter fun b => b ≠ bit := by
  refine ⟨_, (bounded_eq_next (decide_eq_true inRange)).trans (congrArg _ (if_pos ⟨set, present, idle, up⟩)), ?_⟩
  rw [State.headerDue_bitmap, State.pool_congr (same_of_touch (g := .layout) (State.bump_touch (by decide) (.refl _ _))), State.pool_updPool_same,
    State.journal_bitmap]

/-- R228: a block whose records are no drive changes goes into the copy held for the partner. -/
theorem execJournalBlock_keeps {pool : Nat} {recs : List JRec} {s : State} (inRange : pool < 8) (paired : s.paired = true) (up : s.settUp = true)
    (noChange : ∀ r ∈ recs, r.kind ≠ 7) :
    ∃ t, execJournalBlock pool recs true s = .next t ∧
      (t.pool pool).partnerJournal = (recs.reverse ++ (s.pool pool).partnerJournal).take 4096 := by
  have kept (u : State) : recs.foldl (fun v r => if r.kind = 7 then v.renameJournal pool (r.arg % 64) (r.arg / 256 % 64) else v) u = u :=
    List.foldlRecOn (motive := fun v : State => v = u) recs _ rfl fun v same r mem => by rw [if_neg (noChange r mem), same]
  unfold execJournalBlock
  rw [bounded_eq_next (decide_eq_true inRange), State.messageIn_applied paired up]
  refine ⟨_, rfl, ?_⟩
  dsimp only
  rw [if_pos rfl, kept, State.pool_updPool_same]
  rfl

/-- R232: the last record of the ring that is copied to the new drive names it. -/
theorem execJournalDriveReplace_records {pool slot m : Nat} {s : State} (pools : pool < 8) (slots : slot < 64)
    (drive : (s.journalDrives pool).contains slot = true) (down : (s.journalUp pool).contains slot = false) (online : s.poolOnline pool = true)
    (found : (s.memberSlots pool).find? (fun m => decide (s.memberState pool m = 0) && s.driveUp m && !(s.journalDrives pool).contains m &&
      ((s.journalDrives pool).filter fun d => d ≠ slot).all fun d => decide (s.domainOf d ≠ s.domainOf m)) = some m) :
    ∃ t, execJournalDriveReplace pool slot [] s = .next t ∧
      (t.pool pool).journal.head?.map (fun r => (r.kind, r.arg)) = some (7, slot + 256 * m) := by
  unfold execJournalDriveReplace
  rw [bounded_eq_next_of_lt pools slots]
  refine ⟨_, rfl, ?_⟩
  dsimp only
  rw [if_neg (by rw [drive, down, online]; decide), found]
  dsimp only
  rw [State.journal_head]
  rfl

/-! ### Loss of both feeds and the end of the hold-up destage (R233, R440, R563) -/

theorem State.testBroken_feeds (s : State) : s.testBroken.power.feeds = s.power.feeds := by
  unfold State.testBroken
  split <;> rfl

/-- The feeds after the loss of one, which was good: what follows the loss leaves them alone. -/
theorem State.feedDown_feeds (feed volt : Nat) {s : State} (good : ¬ (if feed = 0 then s.power.feeds.aGood else s.power.feeds.bGood) = false) :
    (s.feedDown feed volt).power.feeds = if feed = 0 then { s.power.feeds with aGood := false, aConduct := false, aVolt := volt }
      else { s.power.feeds with bGood := false, bConduct := false, bVolt := volt } := by
  have counted (c : Nat × Nat) (i : Nat) (t : State) : (t.bump c i).power = t.power :=
    same_of_touch (g := .power) (State.bump_touch (by decide) (.refl _ _))
  have faulted (code n data fault : Nat) (t : State) : ((t.raise code n data).singleFault fault).power = t.power :=
    same_of_touch (g := .power) (State.singleFault_touch (by decide) (State.raise_touch (by decide) (.refl _ _)))
  have heldUp (t : State) : t.startHoldup.power = t.power := same_of_touch (g := .power) (State.startHoldup_touch (by decide) (.refl _ _))
  have woken (b : Bool) (t : State) : (t.when b fun w => w.wakeBy 0x08).power = t.power :=
    same_of_touch (g := .power) (State.when_touch (.refl _ _) fun _ h => State.wakeBy_touch (by decide) h)
  unfold State.feedDown
  dsimp only
  rw [if_neg good, woken, apply_ite State.power, apply_ite PowerKeep.feeds, heldUp, State.testBroken_feeds, counted, faulted, counted, ite_self]
  rfl

theorem State.feedDown_a (volt : Nat) (s : State) : (s.feedDown 0 volt).power.feeds.aGood = false := by
  by_cases lost : s.power.feeds.aGood = false
  · rwa [State.feedDown, if_pos rfl, if_pos lost]
  · rw [State.feedDown_feeds 0 volt (by rwa [if_pos rfl]), if_pos rfl]

theorem State.feedDown_b (volt : Nat) (s : State) :
    (s.feedDown 1 volt).power.feeds.bGood = false ∧ (s.feedDown 1 volt).power.feeds.aGood = s.power.feeds.aGood := by
  by_cases lost : s.power.feeds.bGood = false
  · rw [State.feedDown, if_neg Nat.one_ne_zero, if_pos lost]
    exact ⟨lost, rfl⟩
  · rw [State.feedDown_feeds 1 volt (by rwa [if_neg Nat.one_ne_zero]), if_neg Nat.one_ne_zero]
    exact ⟨rfl, rfl⟩

theorem execBothFeedsLost_down (s : State) :
    ∃ t, execBothFeedsLost s = .next t ∧ t.power.feeds.aGood = false ∧ t.power.feeds.bGood = false := by
  obtain ⟨bLost, aKept⟩ := State.feedDown_b 0 (s.feedDown 0 0)
  exact ⟨_, rfl, aKept.trans (State.feedDown_a 0 s), bLost⟩

/-- The hold-up destage has ended, and the islands are open again (R233). -/
def State.holdupEnded (s : State) : State :=
  (List.range 7 ++ [14]).foldl (fun v i => State.openIsland i v) (s.updLayout fun l => { l with holdup := none })

theorem State.holdupEnded_holdup (s : State) : s.holdupEnded.layout.holdup = none := by
  have opened : Touch (allBut .layout) (s.updLayout fun l => { l with holdup := none }) s.holdupEnded :=
    foldl_touch (.refl _ _) fun _ _ h => State.openIsland_touch (by decide) h
  rw [same_of_touch (g := .layout) opened]
  rfl

/-- R233: with no RESET_N deferred and no completion kept, the controller resumes. -/
theorem State.holdupResume_eq {s : State} (reset : s.den.resetDeferred = false) : s.holdupResume [] = s.holdupEnded.drainAll.settle := by
  unfold State.holdupResume
  dsimp only
  rw [reset, if_neg Bool.false_ne_true]
  rfl

theorem execHoldupComplete_resumes {h : HoldUp} {s : State} (runs : s.layout.holdup = some h) (owed : h.owed = [])
    (idle : s.layout.destages = []) (empty : (s.layout.larder.any fun e => e.2.placed) = false) (good : s.power.feeds.aGood = true)
    (reset : s.den.resetDeferred = false) :
    ∃ t, execHoldupComplete s = .next t ∧ ∃ u : State, t = u.drainAll.settle ∧ u.layout.holdup = none := by
  have den (l : List Nat) : (l.foldl (fun u n => u.journalHeader n true) s).den = s.den :=
    same_of_touch (g := .den) (foldl_touch (.refl _ _) fun _ _ h => State.journalHeader_touch (by decide) h)
  unfold execHoldupComplete
  rw [runs]
  dsimp only
  rw [if_neg (by simp [idle, empty]), if_pos (.inl good), owed, State.holdupResume_eq (by rw [den, reset])]
  exact ⟨_, rfl, _, rfl, State.holdupEnded_holdup _⟩

/-- Settles O38. Each clause is the lemma of its command. How many journal records a ring block holds (log 31) and in which modes the hold-up destage
starts and what it owes at its end (log 72) are the model's own choices. -/
theorem completesLayout : Obligations.CompletesLayout :=
  ⟨fun _ _ _ => execDestagePick_begins,
   fun _ _ _ _ => execCoalesceTimeout_coalesces,
   fun _ _ _ => execDestageAgeExpiry_eligible,
   fun _ _ _ _ _ => execDestageIntentDurable_writes,
   fun _ _ _ _ => execDestageWritesComplete_ends,
   fun _ _ _ => execBitmapCleanTimer_clears,
   fun _ _ _ inRange paired up _ => execJournalBlock_keeps inRange paired up,
   fun _ _ _ _ => execJournalDriveReplace_records,
   execBothFeedsLost_down,
   fun _ _ => execHoldupComplete_resumes⟩

end Sys2Proof.Machine

namespace Sys2Proof.Machine

/-! ## Pools, namespaces and jobs (O57) -/

/-! ### Requests on shared state (R494, R561) -/

theorem State.applied_of_accepts {h : CcpHdr} {op : Nat} {group : Option Nat} {e : Session} {s : State} (acc : s.accepts h op group e = true) :
    h.applied = false := by
  obtain ⟨comes, -⟩ := State.accepts_iff.mp acc
  exact (State.comesIn_iff.mp comes).1

theorem State.ccpSimple_of_accepts {h : CcpHdr} {op : Nat} {group : Option Nat} {e : Session} {s : State} (run : State → State)
    (acc : s.accepts h op group e = true) : s.ccpSimple h op group run = run (s.entered h op e) :=
  State.ccpTake_of_accepts run acc rfl

/-- R561: a change that is allowed is made here, and then goes to the partner where there is one. -/
theorem State.sharedDo_zero {h : CcpHdr} {s : State} (reached : s.sharedCut h = false) (op : Nat) (args : List Nat) (data : Bytes)
    (f : State → State) : s.sharedDo h op 0 args data f = (f s).sharedDone h op args data := by
  unfold State.sharedDo
  rw [if_neg (ne_true_of_eq_false reached), if_neg (not_not_intro rfl)]

/-- A state in which a job has just taken entry `j`. -/
def State.jobListed (h : CcpHdr) (op arg j : Nat) (s : State) : State :=
  s.updCcp fun c => { c with jobs := tput c.jobs j { jState := 1, opcode := op, session := h.session, arg := arg } }

/-- R494: a job that is allowed starts in its entry, and does here what its start does. -/
theorem State.sharedJob_zero {h : CcpHdr} {j : Nat} {s : State} (own : h.applied = false) (reached : s.sharedCut h = false)
    (free : s.jobFree = some j) (op arg : Nat) (f : State → State) :
    s.sharedJob h op 0 arg f = (f (s.jobListed h op arg j)).sharedDone h op [arg] (jobData j) := by
  unfold State.sharedJob State.jobStart
  rw [if_neg (ne_true_of_eq_false own), if_neg (ne_true_of_eq_false reached), if_neg (not_not_intro rfl), free]
  rfl

@[simp] theorem State.sharedDone_layout (h : CcpHdr) (op : Nat) (args : List Nat) (data : Bytes) (s : State) :
    (s.sharedDone h op args data).layout = s.layout :=
  same_of_touch (g := .layout) (State.sharedDone_touch (by decide) (.refl _ _))

@[simp] theorem State.sharedDone_cipher (h : CcpHdr) (op : Nat) (args : List Nat) (data : Bytes) (s : State) :
    (s.sharedDone h op args data).cipher = s.cipher :=
  same_of_touch (g := .cipher) (State.sharedDone_touch (by decide) (.refl _ _))

@[simp] theorem State.sharedDone_jobs (h : CcpHdr) (op : Nat) (args : List Nat) (data : Bytes) (s : State) :
    (s.sharedDone h op args data).ccp.jobs = s.ccp.jobs := by
  unfold State.sharedDone
  split
  · rfl
  · split
    · exact congrArg (·.jobs) (same_of_touch (g := .ccp) (State.settSend_touch (by decide) (.refl _ _)))
    · obtain ⟨sessions, long, ccp⟩ := s.ccpReply_ccp h op 0 data
      rw [ccp]

/-- R494: beside its own effect, which leaves the CCP state alone, a job that starts is listed. -/
theorem State.sharedJob_runs {h : CcpHdr} {j : Nat} {s : State} {f : State → State} (own : h.applied = false) (reached : s.sharedCut h = false)
    (free : s.jobFree = some j) (keeps : ∀ t, (f t).ccp = t.ccp) (op arg : Nat) : (s.sharedJob h op 0 arg f).jobRuns h j op arg := by
  rw [State.jobRuns, State.sharedJob_zero own reached free, State.sharedDone_jobs, keeps]
  exact tfind_tput_same _ j _

/-! ### Orders to drives -/

/-- What a job orders of drives at its start is sent, and changes nothing else. -/
theorem State.orderDrives_when_touch {m : Nat} (hm : Nat.land 67108864 m = 67108864) (b : Bool) (slots : State → List Nat) (what arg : Nat)
    (s : State) : Touch m s (s.when b fun v => v.orderDrives (slots v) what arg) :=
  State.when_touch (.refl _ _) fun _ t => State.orderDrives_touch hm t

/-! ### Pools, members and drives (R239, R500) -/

theorem State.memberState_congr {s t : State} (layout : t.layout = s.layout) (n slot : Nat) : t.memberState n slot = s.memberState n slot := by
  unfold State.memberState
  rw [State.pool_congr layout]

@[simp] theorem State.refreshPool_members (n : Nat) (s : State) : ((s.refreshPool n).pool n).members = (s.pool n).members := by
  unfold State.refreshPool
  rw [State.pool_updPool_same]
  split <;> rfl

/-- R240: what follows from a change of the members leaves the members as they are. -/
theorem State.relist_members (n : Nat) (old s : State) : ((State.relist n old s).pool n).members = (s.pool n).members := by
  unfold State.relist
  dsimp only
  rw [State.pool_congr (same_of_touch (g := .layout) (State.setCounter_touch (by decide) (.refl _ _))), State.refreshPool_members,
    State.pool_updPool_same]
  exact congrArg (·.members) (State.pool_updPool_same n _ s)

/-- R260: a reshape that stops leaves the members of its pool as they are. -/
theorem State.reshapeStop_members (n : Nat) (s : State) : ((s.reshapeStop n).pool n).members = (s.pool n).members := by
  unfold State.reshapeStop
  split
  · have counted (b : Bool) (t : State) : (t.when b fun u => u.bump cReshapeAbandoned n).layout = t.layout :=
      same_of_touch (g := .layout) (State.when_touch (.refl _ _) fun _ h => State.bump_touch (by decide) h)
    dsimp only
    rw [State.pool_congr (counted _ _), State.pool_updPool_same]
  · rfl

/-- R239: a member that fails is listed for relocation where the list has room. -/
theorem State.failMember_memberState {n slot : Nat} {s : State} (works : s.memberState n slot < 2) (owns : s.poolOfSlot slot = some n)
    (cause : Nat) : (s.failMember n slot cause).memberState n slot = if (s.pool n).reloc.length < 3 then 2 else 3 := by
  unfold State.failMember
  rw [if_neg (by simp [owns, works])]
  dsimp only
  rw [State.memberState, State.reshapeStop_members, State.pool_congr (same_of_touch (g := .layout) (State.raise_touch (by decide) (.refl _ _))),
    State.relist_members]
  simp only [State.pool_updPool_same, tget, tfind_tput_same, decide_eq_true_eq, Option.getD_some]

theorem execMemberFail_fails {h : CcpHdr} {e : Session} {slot n : Nat} {s : State} (acc : s.accepts h 0x22 (some 5) e = true) (isSlot : slot < 64)
    (owns : (s.entered h 0x22 e).poolOfSlot slot = some n) (works : (s.entered h 0x22 e).memberState n slot < 2)
    (online : (s.entered h 0x22 e).poolOnline n = true) (reached : (s.entered h 0x22 e).sharedCut h = false) :
    ∃ t, execMemberFail h slot s = .next t ∧ 2 ≤ t.memberState n slot := by
  have allowed : (if 64 ≤ slot then ccRange else if 2 ≤ (s.entered h 0x22 e).memberState n slot ∨ (s.entered h 0x22 e).poolOnline n = false
      then ccState else 0) = 0 := by
    rw [if_neg (Nat.not_le.mpr isSlot), if_neg (by simp [online, works])]
  unfold execMemberFail
  rw [State.ccpSimple_of_accepts _ acc]
  refine ⟨_, rfl, ?_⟩
  simp only [owns, allowed]
  rw [State.sharedDo_zero reached, State.memberState_congr (State.sharedDone_layout _ _ _ _ _), State.failMember_memberState works owns]
  split <;> decide

theorem execPoolCreate_begins {h : CcpHdr} {e : Session} {pool j : Nat} {s : State} (acc : s.accepts h 0x20 (some 5) e = true)
    (ok : (s.entered h 0x20 e).poolCreateStatus pool = 0) (reached : (s.entered h 0x20 e).sharedCut h = false)
    (free : (s.entered h 0x20 e).jobFree = some j) :
    ∃ t, execPoolCreate h pool s = .next t ∧ (t.pool pool).pState = 1 ∧ t.jobRuns h j 0x20 pool := by
  have own := State.applied_of_accepts acc
  have ordered (u : State) := State.orderDrives_when_touch (m := 2 ^ 26) rfl (!h.applied) (·.memberSlots pool) 8 pool u
  unfold execPoolCreate
  rw [State.ccpSimple_of_accepts _ acc]
  refine ⟨_, rfl, ?_⟩
  rw [if_neg (by simp [jobEnded, own]), if_neg (by simp [own]), ok]
  constructor
  · rw [State.sharedJob_zero own reached free, State.pool_congr (State.sharedDone_layout _ _ _ _ _),
      State.pool_congr ((ordered _).out .layout rfl)]
    exact congrArg (·.pState) (State.pool_updPool_same _ _ _)
  · exact State.sharedJob_runs own reached free (fun t => (ordered (t.poolBegin pool)).out .ccp rfl) 0x20 pool

theorem execPoolDelete_begins {h : CcpHdr} {e : Session} {pool j : Nat} {s : State} (acc : s.accepts h 0x21 (some 5) e = true)
    (ok : (s.entered h 0x21 e).poolDeleteStatus pool = 0) (reached : (s.entered h 0x21 e).sharedCut h = false)
    (free : (s.entered h 0x21 e).jobFree = some j) : ∃ t, execPoolDelete h pool s = .next t ∧ t.jobRuns h j 0x21 pool := by
  have own := State.applied_of_accepts acc
  unfold execPoolDelete
  rw [State.ccpSimple_of_accepts _ acc]
  refine ⟨_, rfl, ?_⟩
  rw [if_neg (by simp [jobEnded, own]), ok]
  exact State.sharedJob_runs own reached free (fun t => (State.orderDrives_when_touch (m := 2 ^ 26) rfl _ _ _ _ t).out .ccp rfl) 0x21 pool

theorem execDriveFormat_begins {h : CcpHdr} {e : Session} {slot j : Nat} {s : State} (acc : s.accepts h 0x23 (some 5) e = true)
    (isSlot : slot < 64) (noPool : (s.entered h 0x23 e).poolOfSlot slot = none) (up : (s.dport slot).dState = 4)
    (reached : (s.entered h 0x23 e).sharedCut h = false) (free : (s.entered h 0x23 e).jobFree = some j) :
    ∃ t, execDriveFormat h slot s = .next t ∧ t.jobRuns h j 0x23 slot := by
  have own := State.applied_of_accepts acc
  have port : (s.entered h 0x23 e).dport slot = s.dport slot :=
    State.dport_congr (same_of_touch (g := .drives) (s.entered_touch h 0x23 e (by decide))) slot
  have allowed : (if 64 ≤ slot then ccRange else if ((s.entered h 0x23 e).poolOfSlot slot).isSome ∨ ((s.entered h 0x23 e).dport slot).dState ≠ 4
      then ccState else 0) = 0 := by
    rw [if_neg (Nat.not_le.mpr isSlot), if_neg (by simp [noPool, port, up])]
  unfold execDriveFormat
  rw [State.ccpSimple_of_accepts _ acc]
  refine ⟨_, rfl, ?_⟩
  rw [if_neg (by simp [jobEnded, own])]
  dsimp only
  rw [allowed]
  exact State.sharedJob_runs own reached free (fun t => (State.orderDrives_when_touch (m := 2 ^ 26) rfl _ (fun _ => [slot]) _ _ t).out .ccp rfl) 0x23 slot

/-! ### Namespaces (R337, R500, R501) -/

theorem State.ns_congr {s t : State} (cipher : t.cipher = s.cipher) (n : Nat) : t.ns n = s.ns n := by
  unfold State.ns
  rw [cipher]

theorem execNsCreate_makes {h : CcpHdr} {e : Session} {desc : NsDescReq} {p : NsPlan} {s : State} (acc : s.accepts h 0x28 (some 6) e = true)
    (ok : (s.entered h 0x28 e).nsCreateStatus desc false = 0) (plan : (s.entered h 0x28 e).nsPlan desc = some p)
    (reached : (s.entered h 0x28 e).sharedCut h = false) :
    ∃ t, execNsCreate h desc s = .next t ∧ ∃ u : State, u = (s.entered h 0x28 e).makeNs h desc p ∧
      t = u.sharedDone h 0x28 (nsArgs desc p.handle ++ (u.ns p.handle).serial :: u.genResults p.handle 0) (leBytes 2 p.handle) := by
  unfold execNsCreate
  rw [State.ccpSimple_of_accepts _ acc]
  refine ⟨_, rfl, _, rfl, ?_⟩
  simp only [plan]
  rw [if_pos ⟨ok, reached⟩]

/-- R501: a namespace that is created holds what was asked for, at the place of its plan. -/
theorem State.nsCreated_ns (d : NsDescReq) (p : NsPlan) (serial : Nat) (s : State) : (s.nsCreated d p serial).ns p.handle =
    { tenant := d.tenant, pool := d.pool, keying := d.keying, format := d.format, nState := 2, extents := d.extents, mapBase := p.base
      serial := serial } :=
  congrArg (·.getD {}) (tfind_tput_same s.cipher.ns p.handle _)

theorem execNsCreatePlain_makes {h : CcpHdr} {e : Session} {desc : NsDescReq} {p : NsPlan} {s : State}
    (acc : s.accepts h 0x29 (some 7) e = true) (ok : (s.entered h 0x29 e).nsCreateStatus desc true = 0)
    (plan : (s.entered h 0x29 e).nsPlan desc = some p) (reached : (s.entered h 0x29 e).sharedCut h = false) :
    ∃ t, execNsCreatePlain h desc s = .next t ∧ t.ns p.handle =
      { tenant := desc.tenant, pool := desc.pool, keying := desc.keying, format := desc.format, nState := 2, extents := desc.extents
        mapBase := p.base, serial := 0 } := by
  unfold execNsCreatePlain
  rw [State.ccpSimple_of_accepts _ acc]
  refine ⟨_, rfl, ?_⟩
  simp only [plan]
  rw [ok, State.sharedDo_zero reached, State.ns_congr (State.sharedDone_cipher _ _ _ _ _), State.nsCreated_ns]

/-- A change of a namespace shows where the namespace exists. -/
theorem State.ns_updNs_same (n : Nat) (f : Ns → Ns) (s : State) : (s.updNs n f).ns n = if thas s.cipher.ns n then f (s.ns n) else {} := by
  unfold State.updNs State.ns tget thas
  cases listed : tfind s.cipher.ns n with
  | none => simp [tadj, listed]
  | some x => simp [tfind_tadj_same f listed]

/-- R336, R337: the erasure of a namespace's keys leaves it no generation; of its state nothing else changes. -/
theorem State.eraseNsKeys_ns (n : Nat) (s : State) : (s.eraseNsKeys n).ns n = { s.ns n with gens := [] } := by
  have written (l : List Nat) (t : State) : (l.foldl (fun u g => u.dirWrite n g) t).cipher = t.cipher :=
    same_of_touch (g := .cipher) (foldl_touch (.refl _ _) fun _ _ h => State.dirWrite_touch (by decide) h)
  unfold State.eraseNsKeys
  rw [State.ns_congr (written _ _), State.ns_congr (State.updEnclave_cipher _ _), State.ns_updNs_same]
  split
  · rfl
  next gone => simp [State.ns, tget, thas] at gone ⊢; simp [gone]

theorem State.nsDeleting_ns (n : Nat) (s : State) (listed : thas s.cipher.ns n = true) :
    (s.nsDeleting n).ns n = { s.ns n with nState := 4, gens := if (s.ns n).keying = 0 then (s.ns n).gens else [] } := by
  unfold State.nsDeleting State.when
  by_cases plain : (s.ns n).keying = 0
  · simp [plain, State.ns_updNs_same, listed]
  · simp [plain, State.eraseNsKeys_ns, State.ns_updNs_same, listed]

/-- R500: a namespace whose deletion has started, its slabs being zeroed where the request came in here. -/
def State.nsDeletionStarted (h : CcpHdr) (handle : Nat) (s : State) : State :=
  (s.nsDeleting handle).when (!h.applied) fun v =>
    (v.nsSlabs handle).foldl (fun w q => w.orderDrives (w.memberSlots (w.ns handle).pool) 10 q) v

theorem State.nsDeletionStarted_touch (h : CcpHdr) (handle : Nat) (s : State) {m : Nat} (hm : Nat.land 67108864 m = 67108864) :
    Touch m (s.nsDeleting handle) (s.nsDeletionStarted h handle) :=
  State.when_touch (.refl _ _) fun _ t => foldl_touch t fun _ _ u => State.orderDrives_touch hm u

theorem State.nsDeletionStarted_ccp (h : CcpHdr) (handle : Nat) (s : State) : (s.nsDeletionStarted h handle).ccp = s.ccp :=
  same_of_touch (g := .ccp) (State.when_touch (State.nsDeleting_touch (by decide) (.refl _ _)) fun _ t =>
    foldl_touch t fun _ _ u => State.orderDrives_touch (by decide) u)

/-- R501: a namespace that may be deleted exists, and is of the kind that the command deletes. -/
theorem State.nsDeleteStatus_zero {s : State} {n : Nat} {plain : Bool} (ok : s.nsDeleteStatus n plain = 0) :
    thas s.cipher.ns n = true ∧ ((s.ns n).keying = 0 ↔ plain = true) := by
  unfold State.nsDeleteStatus at ok
  by_cases high : 16384 ≤ n
  · rw [if_pos high] at ok
    cases ok
  · by_cases missing : thas s.cipher.ns n = false
    · rw [if_neg high, if_pos missing] at ok
      cases ok
    · by_cases other : ((s.ns n).keying = 0) ≠ plain
      · rw [if_neg high, if_neg missing, if_pos other] at ok
        cases ok
      · exact ⟨eq_true_of_ne_false missing, (Decidable.not_not.mp other).to_iff⟩

/-- R500: a deletion that starts is listed as a job; the namespace shows it, and has the keys left that `nsDeleting` leaves. -/
theorem State.sharedJob_nsDeletionStarted {h : CcpHdr} {handle j : Nat} {plain : Bool} {s : State} (own : h.applied = false)
    (ok : s.nsDeleteStatus handle plain = 0) (reached : s.sharedCut h = false) (free : s.jobFree = some j) (op : Nat) :
    let t := s.sharedJob h op 0 handle (State.nsDeletionStarted h handle)
    (t.ns handle).gens = (if plain then (s.ns handle).gens else []) ∧ (t.ns handle).nState = 4 ∧ t.jobRuns h j op handle := by
  obtain ⟨listed, kind⟩ := State.nsDeleteStatus_zero ok
  have ns : (s.sharedJob h op 0 handle (State.nsDeletionStarted h handle)).ns handle =
      { s.ns handle with nState := 4, gens := if (s.ns handle).keying = 0 then (s.ns handle).gens else [] } := by
    rw [State.sharedJob_zero own reached free, State.ns_congr (State.sharedDone_cipher _ _ _ _ _),
      State.ns_congr (same_of_touch (g := .cipher) (State.nsDeletionStarted_touch h handle _ (by decide)))]
    exact State.nsDeleting_ns handle (s.jobListed h op handle j) listed
  dsimp only
  rw [ns]
  exact ⟨ite_congr (propext kind) (fun _ => rfl) fun _ => rfl, rfl, State.sharedJob_runs own reached free (State.nsDeletionStarted_ccp h handle) op handle⟩

theorem execNsDelete_begins {h : CcpHdr} {e : Session} {handle j : Nat} {s : State} (acc : s.accepts h 0x2A (some 6) e = true)
    (ok : (s.entered h 0x2A e).nsDeleteStatus handle false = 0) (reached : (s.entered h 0x2A e).sharedCut h = false)
    (free : (s.entered h 0x2A e).jobFree = some j) : ∃ t, execNsDelete h handle s = .next t ∧ (t.ns handle).gens = [] ∧
      (t.ns handle).nState = 4 ∧ t.jobRuns h j 0x2A handle := by
  have own := State.applied_of_accepts acc
  unfold execNsDelete
  rw [State.ccpSimple_of_accepts _ acc]
  refine ⟨_, rfl, ?_⟩
  rw [if_neg (by simp [jobEnded, own]), ok]
  exact State.sharedJob_nsDeletionStarted own ok reached free 0x2A

theorem execNsDeletePlain_begins {h : CcpHdr} {e : Session} {handle j : Nat} {s : State} (acc : s.accepts h 0x2B (some 7) e = true)
    (ok : (s.entered h 0x2B e).nsDeleteStatus handle true = 0) (reached : (s.entered h 0x2B e).sharedCut h = false)
    (free : (s.entered h 0x2B e).jobFree = some j) : ∃ t, execNsDeletePlain h handle s = .next t ∧ (t.ns handle).nState = 4 ∧
      t.jobRuns h j 0x2B handle := by
  have own := State.applied_of_accepts acc
  unfold execNsDeletePlain
  rw [State.ccpSimple_of_accepts _ acc]
  refine ⟨_, rfl, ?_⟩
  rw [if_neg (by simp [jobEnded, own]), ok]
  exact (State.sharedJob_nsDeletionStarted own ok reached free 0x2B).2

theorem execCryptoErase_erases {h : CcpHdr} {e : Session} {handle copies : Nat} {s : State} (acc : s.accepts h 0x2C (some 9) e = true)
    (ok : (s.entered h 0x2C e).eraseStatus handle copies = 0) (reached : (s.entered h 0x2C e).sharedCut h = false) :
    ∃ t, execCryptoErase h handle copies s = .next t ∧ (t.ns handle).gens = [] := by
  unfold execCryptoErase
  rw [State.ccpSimple_of_accepts _ acc]
  refine ⟨_, rfl, ?_⟩
  rw [ok, State.sharedDo_zero reached, State.ns_congr (State.sharedDone_cipher _ _ _ _ _), State.eraseNsKeys_ns]

/-! ### The end of a job (R494, R508) -/

@[simp] theorem State.raiseTo_jobs (id code n data : Nat) (s : State) : (s.raiseTo id code n data).ccp.jobs = s.ccp.jobs := by
  unfold State.raiseTo
  split <;> rfl

@[simp] theorem State.jobEvent_jobs (j session data : Nat) (s : State) : (s.jobEvent j session data).ccp.jobs = s.ccp.jobs := by
  have raised : (s.raise 0x0E01 j data).ccp.jobs = s.ccp.jobs := rfl
  unfold State.jobEvent
  dsimp only
  split
  · split
    · rw [State.raiseTo_jobs, raised]
    · exact raised
  · exact raised

/-- R508: a diagnostic run commits nothing, and ends with the status it reports. -/
theorem State.jobCommit_diagRun (arg status : Nat) (s : State) : (s.jobCommit 0x51 arg status).1 = status := by
  unfold State.jobCommit
  by_cases good : status = 0
  · rw [if_neg (by decide), if_neg (not_not_intro good), good]
    rfl
  · rw [if_neg (by decide), if_pos good, if_neg (by decide)]

theorem execJobComplete_ends {job status : Nat} {x : Job} {s : State} (isJob : job < 64) (listed : tfind s.ccp.jobs job = some x)
    (runs : x.jState = 1) (mayEnd : x.opcode ≠ 0x3B ∨ status ≠ 0 ∨ s.enclave.rotating = true) :
    ∃ t, execJobComplete job status s = .next t ∧
      (tfind t.ccp.jobs job).map (fun y => (y.jState, y.opcode, y.progress)) = some (2, x.opcode, 1000) ∧
      (x.opcode = 0x51 → (tfind t.ccp.jobs job).map (·.result) = some status) := by
  unfold execJobComplete
  rw [bounded_eq_next (decide_eq_true isJob), listed]
  refine ⟨_, rfl, ?_⟩
  dsimp only
  rw [if_neg (by rcases mayEnd with h | h | h <;> simp [runs, h]), State.jobEvent_jobs, State.updCcp_ccp, tfind_tput_same]
  refine ⟨rfl, fun diag => ?_⟩
  rw [diag]
  exact congrArg some (State.jobCommit_diagRun x.arg status s)

/-- Settles O57. Each clause is the lemma of its command. The message in which a shared change goes to the partner, before whose acknowledgement there
is no answer (log 18), and the orders to drives in which a job's media work goes out (log 55) are the model's own choices. -/
theorem completesPools : Obligations.CompletesPools :=
  ⟨fun _ _ _ _ _ => execMemberFail_fails,
   fun _ _ _ _ _ => execPoolCreate_begins,
   fun _ _ _ _ _ => execPoolDelete_begins,
   fun _ _ _ _ _ => execDriveFormat_begins,
   fun _ _ _ _ _ => execNsCreate_makes,
   fun _ _ _ _ _ => execNsCreatePlain_makes,
   fun _ _ _ _ _ => execNsDelete_begins,
   fun _ _ _ _ _ => execNsDeletePlain_begins,
   fun _ _ _ _ _ => execCryptoErase_erases,
   fun _ _ _ _ => execJobComplete_ends⟩

end Sys2Proof.Machine

namespace Sys2Proof.Machine

/-! ## Rebuild, resynchronisation, reshape and Badger (O39) -/

/-! ### Row groups to resynchronise, and counts of background work

The recomputing of chunks (R246, R253, R254) touches of a pool its locks, its journal, its hot row groups and its lost blocks, and counts these; the
row groups of its bitmap, and the stripes rebuilt, rows copied back and blocks patrolled that are counted, stay. -/

/-- The row groups of a pool marked in its bitmap, and those done for each returned member (R227, R253). -/
def State.resyncs (s : State) (n : Nat) : List Nat × List Nat := ((s.pool n).bitmap, (s.pool n).resynced)

/-- The counts of stripes rebuilt, rows copied back and blocks patrolled in a pool (R271). -/
def State.workCounts (s : State) (n : Nat) : Nat × Nat × Nat :=
  (s.counter cRebuildStripes n, s.counter cCopybackRows n, s.counter cBadgerBlocks n)

/-- What the recomputing of chunks leaves alone: the row groups to resynchronise, and the counts. -/
def State.work (s : State) (n : Nat) : (List Nat × List Nat) × Nat × Nat × Nat := (s.resyncs n, s.workCounts n)

/-- A counter is none of those of `workCounts`. -/
abbrev isOtherCount (c : Nat × Nat) : Prop :=
  cRebuildStripes.2 % 32 ≠ c.2 % 32 ∧ cCopybackRows.2 % 32 ≠ c.2 % 32 ∧ cBadgerBlocks.2 % 32 ≠ c.2 % 32

theorem State.resyncs_of_touch {s t : State} (h : Touch (allBut .layout) s t) (n : Nat) : t.resyncs n = s.resyncs n := by
  simp only [State.resyncs, State.pool_congr (same_of_touch (g := .layout) h)]

theorem State.workCounts_of_touch {s t : State} (h : Touch (allBut .telem) s t) (n : Nat) : t.workCounts n = s.workCounts n := by
  simp only [State.workCounts, State.counter_congr (same_of_touch (g := .telem) h)]

theorem State.work_of_touch {s t : State} (h : Touch (2 ^ 28 - 1 - 2 ^ 13 - 2 ^ 22) s t) (n : Nat) : t.work n = s.work n := by
  simp only [State.work, State.resyncs, State.workCounts, State.pool_congr (h.out .layout (by decide)), State.counter_congr (h.out .telem (by decide))]

theorem State.workCounts_of_work {s t : State} {n : Nat} (h : t.work n = s.work n) : t.workCounts n = s.workCounts n := congrArg Prod.snd h

theorem State.resyncs_of_work {s t : State} {n : Nat} (h : t.work n = s.work n) :
    (t.pool n).bitmap = (s.pool n).bitmap ∧ (t.pool n).resynced = (s.pool n).resynced :=
  Prod.mk.inj (congrArg Prod.fst h)

theorem State.workCounts_bumpN {c : Nat × Nat} (other : isOtherCount c) (i k n : Nat) (s : State) :
    (s.bumpN c i k).workCounts n = s.workCounts n := by
  obtain ⟨rebuild, copyback, badger⟩ := other
  simp only [State.workCounts, State.counter_bumpN_other rebuild, State.counter_bumpN_other copyback, State.counter_bumpN_other badger]

/-- R511: setting one counter leaves those of other numbers. -/
theorem State.counter_setCounter_other {c d : Nat × Nat} (other : c.2 % 32 ≠ d.2 % 32) (i j v : Nat) (s : State) :
    (s.setCounter d j v).counter c i = s.counter c i := by
  have apart : cntKey c.1 i c.2 ≠ cntKey d.1 j d.2 := fun same => other (by rw [← cntKey_mod c.1 i, same, cntKey_mod])
  unfold State.setCounter State.counter
  split <;> simp [tget_tmod_other _ _ _ apart]

theorem State.workCounts_setCounter {c : Nat × Nat} (other : isOtherCount c) (i v n : Nat) (s : State) :
    (s.setCounter c i v).workCounts n = s.workCounts n := by
  obtain ⟨rebuild, copyback, badger⟩ := other
  simp only [State.workCounts, State.counter_setCounter_other rebuild, State.counter_setCounter_other copyback,
    State.counter_setCounter_other badger]

theorem State.work_bumpN {c : Nat × Nat} (other : isOtherCount c) (i k n : Nat) (s : State) : (s.bumpN c i k).work n = s.work n :=
  Prod.ext (State.resyncs_of_touch (State.bumpN_touch (by decide) (.refl _ _)) n) (State.workCounts_bumpN other i k n s)

theorem State.work_bump {c : Nat × Nat} (other : isOtherCount c) (i n : Nat) (s : State) : (s.bump c i).work n = s.work n :=
  State.work_bumpN other i 1 n s

@[simp] theorem State.work_when {f : State → State} {n : Nat} (keeps : ∀ t, (f t).work n = t.work n) (b : Bool) (s : State) :
    (s.when b f).work n = s.work n := by
  unfold State.when
  split
  · exact keeps s
  · rfl

/-- What every step of a fold leaves alone, the fold leaves alone. -/
theorem foldl_keeps {σ α β : Type} {view : σ → β} {f : σ → α → σ} (keeps : ∀ a x, view (f a x) = view a) (l : List α) (a : σ) :
    view (l.foldl f a) = view a :=
  List.foldlRecOn (motive := fun b => view b = view a) l f rfl fun b kept x _ => (keeps b x).trans kept

@[simp] theorem State.work_foldl {α : Type} {f : State → α → State} {n : Nat} (keeps : ∀ t x, (f t x).work n = t.work n)
    (l : List α) (s : State) : (l.foldl f s).work n = s.work n :=
  foldl_keeps (view := (State.work · n)) keeps l s

@[simp] theorem State.work_foldl_snd {α β : Type} {f : β × State → α → β × State} {n : Nat}
    (keeps : ∀ a x, (f a x).2.work n = a.2.work n) (l : List α) (a : β × State) : (l.foldl f a).2.work n = a.2.work n :=
  foldl_keeps (view := (·.2.work n)) keeps l a

theorem State.workCounts_foldl {α : Type} {f : State → α → State} {n : Nat} (keeps : ∀ t x, (f t x).workCounts n = t.workCounts n)
    (l : List α) (s : State) : (l.foldl f s).workCounts n = s.workCounts n :=
  foldl_keeps (view := (State.workCounts · n)) keeps l s

theorem State.workCounts_foldl_snd {α β : Type} {f : β × State → α → β × State} {n : Nat}
    (keeps : ∀ a x, (f a x).2.workCounts n = a.2.workCounts n) (l : List α) (a : β × State) : (l.foldl f a).2.workCounts n = a.2.workCounts n :=
  foldl_keeps (view := (·.2.workCounts n)) keeps l a

@[simp] theorem State.updLayout_work {f : Layout → Layout} {s : State} (keeps : (f s.layout).pools = s.layout.pools) (n : Nat) :
    (s.updLayout f).work n = s.work n := by
  simp only [State.work, State.resyncs, State.pool, State.updLayout_layout, keeps]
  rfl

@[simp] theorem State.updPool_work {f : Pool → Pool} (n : Nat) (s : State) (bitmap : (f (s.pool n)).bitmap = (s.pool n).bitmap)
    (resynced : (f (s.pool n)).resynced = (s.pool n).resynced) : (s.updPool n f).work n = s.work n := by
  simp only [State.work, State.resyncs, State.pool_updPool_same, bitmap, resynced]
  rfl

/-! ### The recomputing of chunks (R245, R246, R249, R265) -/

@[simp] theorem State.takeLock_work (m stripe who : Nat) (s : State) (n : Nat) : (s.takeLock m stripe who).2.work n = s.work n := by
  unfold State.takeLock
  dsimp only
  split
  · simp
  · split
    · rfl
    · simp

@[simp] theorem State.freeLock_work (m stripe : Nat) (s : State) (n : Nat) : (s.freeLock m stripe).work n = s.work n := by
  unfold State.freeLock
  dsimp only
  split
  · rfl
  · exact State.updLayout_work (by split <;> rfl) n

@[simp] theorem State.hotIfBad_work (n stripe : Nat) (reads : List PosBlock) (s : State) : (s.hotIfBad n stripe reads).work n = s.work n := by
  refine State.work_when (fun t => ?_) _ s
  unfold State.markHot
  dsimp only
  split
  · rfl
  · split
    · simp
    · simp [State.work_bump (c := cBadgerHotDrop) (by decide)]

@[simp] theorem State.journal_work (n : Nat) (r : JRec) (s : State) : (s.journal n r).work n = s.work n := by
  have sent (t : State) (kind : Nat) (args : List Nat) (data : Bytes) : (t.settIfPaired kind args data).work n = t.work n :=
    State.work_of_touch (State.settIfPaired_touch (by decide) (.refl _ _)) n
  have submitted (t : State) (tenant : Nat) (c : DriveCmd) : (t.submit tenant c).work n = t.work n :=
    State.work_of_touch (State.submit_touch (by decide) (.refl _ _)) n
  simp [State.journal, State.journalData, sent, submitted, State.work_bump (c := cJrnlRecords) (by decide)]

@[simp] theorem State.writeAll_work (m stripe owner gen : Nat) (d : DPath) (ws : List PosWrite) (s : State) (n : Nat) :
    (s.writeAll m stripe owner gen d ws).work n = s.work n :=
  State.work_of_touch (State.writeAll_touch (by decide) (.refl _ _)) n

@[simp] theorem State.readStripe_work (m stripe p row owner : Nat) (d : DPath) (s : State) (n : Nat) :
    (s.readStripe m stripe p row owner d).work n = s.work n :=
  State.work_of_touch (State.readStripe_touch (by decide) (.refl _ _)) n

@[simp] theorem State.repairUnder_work (n stripe owner : Nat) (d : DPath) (ws : List PosWrite) (s : State) :
    (s.repairUnder n stripe owner d ws).work n = s.work n := by
  unfold State.repairUnder
  split
  · rfl
  · simp

@[simp] theorem State.enterLost_work (n h blk : Nat) (s : State) : (s.enterLost n h blk).work n = s.work n := by
  have raised (t : State) (code i data : Nat) : (t.raise code i data).work n = t.work n :=
    State.work_of_touch (State.raise_touch (by decide) (.refl _ _)) n
  unfold State.enterLost
  split
  · rfl
  · split
    · exact State.work_bump (by decide) _ _ _
    · rw [raised, State.work_bump (by decide), State.updLayout_work rfl]

@[simp] theorem State.enterRow_work (n stripe row : Nat) (lost : List Nat) (s : State) : (s.enterRow n stripe row lost).work n = s.work n := by
  refine State.work_foldl (fun t j => ?_) _ _
  split
  · simp
  · rfl

@[simp] theorem State.doRestore_work (n stripe owner : Nat) (d : DPath) (reads : List PosBlock) (r : Restored) (s : State) :
    (s.doRestore n stripe owner d reads r).work n = s.work n := by
  unfold State.doRestore
  split
  · simp
  · simp

/-- R253, R254: filling a slot with its chunks leaves the row groups to resynchronise and the counts. -/
@[simp] theorem State.fillSlot_work (n slot : Nat) (stripes : List Nat) (reads : List StripeRead) (s : State) :
    (s.fillSlot n slot stripes reads).2.work n = s.work n := by
  have locked : (s.takeLocks n 5 stripes).2.work n = s.work n := by
    simp [State.takeLocks]
  unfold State.fillSlot
  dsimp only
  split
  · exact locked
  · split
    · simp [locked]
    · simp [State.freeLocks, locked]

/-! ### Rebuild, resynchronisation and copy-back (R239, R243, R253, R254) -/

theorem execMissingWaitExpiry_fails {pool slot : Nat} {s : State} (isPool : pool < 8) (isSlot : slot < 64)
    (missing : s.memberState pool slot = 1) (timed : thas (s.pool pool).missingNs slot = true) (owns : s.poolOfSlot slot = some pool) :
    ∃ t, execMissingWaitExpiry pool slot s = .next t ∧
      t.memberState pool slot = if (s.pool pool).reloc.length < 3 then 2 else 3 := by
  refine ⟨_, (bounded_eq_next_of_lt isPool isSlot).trans (congrArg _ (if_pos ⟨missing, timed⟩)), ?_⟩
  exact State.failMember_memberState (by omega) owns 2

/-- R239: a member that becomes PRESENT changes of the counters that of the degraded stripes alone. -/
theorem State.memberPresent_workCounts (m slot : Nat) (s : State) (n : Nat) : (s.memberPresent m slot).workCounts n = s.workCounts n := by
  unfold State.memberPresent
  dsimp only
  rw [State.workCounts_of_touch (State.reshapeResume_touch (by decide) (.refl _ _))]
  unfold State.relist
  dsimp only
  rw [State.workCounts_setCounter (by decide)]
  exact State.workCounts_of_touch (State.refreshPool_touch (by decide) (State.updPool_touch (by decide) (State.updPool_touch (by decide)
    (State.updPool_touch (by decide) (.refl _ _))))) n

theorem State.unlistedDone_workCounts (m slot : Nat) (s : State) (n : Nat) : (s.unlistedDone m slot).workCounts n = s.workCounts n := by
  unfold State.unlistedDone
  split
  · exact State.memberPresent_workCounts m slot s n
  · rfl

theorem execRebuildStripe_counts {pool stripe : Nat} {reads : List PosBlock} {s : State} (isPool : pool < 8) (works : s.mayWork pool = true)
    (next : s.nextRebuild pool = some stripe) (locked : (s.takeLock pool stripe 5).1 = true)
    (read : (s.restore pool stripe ((s.rebuildChunks pool stripe).map (·.1)) (s.rebuildSlot pool stripe) reads).ask = []) :
    ∃ t, execRebuildStripe pool stripe reads s = .next t ∧
      t.counter cRebuildStripes pool = sat (2 ^ 64 - 1) (s.counter cRebuildStripes pool + 1) := by
  unfold execRebuildStripe
  rw [bounded_eq_next (decide_eq_true isPool), if_neg (by simp [works, next])]
  refine ⟨_, rfl, ?_⟩
  dsimp only
  rw [if_neg (by simp [locked]), if_neg (not_not_intro read)]
  have counts {u v : State} (same : u.workCounts pool = v.workCounts pool) : u.counter cRebuildStripes pool = v.counter cRebuildStripes pool :=
    congrArg Prod.fst same
  rw [counts (State.workCounts_foldl (fun u m => State.unlistedDone_workCounts pool m u pool) _ _), State.counter_bumpN_other (by decide),
    State.counter_bump_same, counts (State.workCounts_of_work (State.freeLock_work _ _ _ _)),
    counts (State.workCounts_of_touch (State.markRebuilt_touch (by decide) (.refl _ _)) pool),
    counts (State.workCounts_of_work ((State.doRestore_work _ _ _ _ _ _ _).trans (State.takeLock_work _ _ _ _ _)))]

theorem mem_addOne {α : Type} [BEq α] [LawfulBEq α] {x y : α} {l : List α} : y ∈ addOne x l ↔ y = x ∨ y ∈ l := by
  unfold addOne
  split
  next listed => exact ⟨.inr, fun h => h.elim (fun same => same ▸ List.contains_iff_mem.mp listed) id⟩
  next => simp [or_comm]

@[simp] theorem State.pool_bumpN (c : Nat × Nat) (i k : Nat) (s : State) (n : Nat) : (s.bumpN c i k).pool n = s.pool n :=
  State.pool_congr (same_of_touch (g := .layout) (State.bumpN_touch (by decide) (.refl _ _))) n

theorem execResyncRowGroup_marks {pool slot bit : Nat} {reads : List StripeRead} {s : State} (isPool : pool < 8) (isSlot : slot < 64)
    (works : s.mayWork pool = true) (returned : (s.pool pool).returning.contains slot = true) (set : (s.pool pool).bitmap.contains bit = true)
    (todo : (s.pool pool).resynced.contains (64 * bit + slot) = false)
    (filled : (s.fillSlot pool slot (s.groupStripes pool slot bit) reads).1 = true)
    (more : ((s.pool pool).bitmap.any fun b => decide (b ≠ bit) && !(s.pool pool).resynced.contains (64 * b + slot)) = true) :
    ∃ t, execResyncRowGroup pool slot bit reads s = .next t ∧ (t.pool pool).resynced = addOne (64 * bit + slot) (s.pool pool).resynced := by
  obtain ⟨bitmap, resynced⟩ := State.resyncs_of_work (State.fillSlot_work pool slot (s.groupStripes pool slot bit) reads s)
  have notLast : ¬ ((s.pool pool).bitmap.all fun b => (addOne (64 * bit + slot) (s.pool pool).resynced).contains (64 * b + slot)) = true := by
    obtain ⟨b, marked, undone⟩ := List.any_eq_true.mp more
    simp only [Bool.and_eq_true, decide_eq_true_eq, Bool.not_eq_true', List.contains_eq_mem, decide_eq_false_iff_not] at undone
    obtain ⟨other, left⟩ := undone
    intro all
    rcases mem_addOne.mp (List.contains_iff_mem.mp (List.all_eq_true.mp all b marked)) with same | done
    · exact other (by omega)
    · exact left done
  unfold execResyncRowGroup
  rw [bounded_eq_next_of_lt isPool isSlot]
  refine ⟨_, rfl, ?_⟩
  dsimp only
  rw [if_neg (by rw [works, returned, set, todo]; decide), if_neg (by simp [filled])]
  simp only [State.pool_bumpN, State.pool_updPool_same, bitmap, resynced, if_neg notLast]

theorem execCopybackRow_counts {pool slot row : Nat} {reads : List StripeRead} {s : State} (isPool : pool < 8) (isSlot : slot < 64)
    (works : s.mayWork pool = true) (listed : s.memberState pool slot = 2) (replaced : (s.pool pool).replacing.contains slot = true)
    (todo : (s.pool pool).copied.contains (64 * row + slot) = false)
    (filled : (s.fillSlot pool slot ((s.stripesOf pool).filter fun st =>
      decide ((s.rowOf pool st).1 = row) && s.lockHere pool st && !(s.posOfSlot pool st slot).isEmpty) reads).1 = true) :
    ∃ t, execCopybackRow pool slot row reads s = .next t ∧
      t.counter cCopybackRows pool = sat (2 ^ 64 - 1) (s.counter cCopybackRows pool + 1) := by
  have counts {u v : State} (same : u.workCounts pool = v.workCounts pool) : u.counter cCopybackRows pool = v.counter cCopybackRows pool :=
    congrArg (·.2.1) same
  have counted (f : Pool → Pool) (u : State) (same : u.work pool = s.work pool) :
      ((u.updPool pool f).bump cCopybackRows pool).counter cCopybackRows pool = sat (2 ^ 64 - 1) (s.counter cCopybackRows pool + 1) := by
    rw [State.counter_bump_same, ← counts (State.workCounts_of_work same)]
    rfl
  unfold execCopybackRow
  rw [bounded_eq_next_of_lt isPool isSlot]
  refine ⟨_, rfl, ?_⟩
  dsimp only
  rw [if_neg (by rw [works, listed, replaced, todo]; decide), if_neg (by simp [filled])]
  split
  · rw [counts (State.memberPresent_workCounts _ _ _ _), counted _ _ (State.fillSlot_work _ _ _ _ _)]
  · exact counted _ _ (State.fillSlot_work _ _ _ _ _)

/-! ### Locks and reshape (R245, R258) -/

theorem State.takeStripe_of_granted {n stripe : Nat} {s : State} (ready : s.journalReady n = true)
    (granted : (s.takeLock n stripe 3).1 = true) : s.takeStripe n stripe = (s.takeLock n stripe 3).2.startDestage n stripe := by
  obtain ⟨up, -⟩ := Bool.and_eq_true_iff.mp ready
  unfold State.takeStripe
  rw [if_neg (Nat.not_lt.mpr (of_decide_eq_true up)), if_neg (by simp [ready])]
  exact if_pos granted

theorem execStripeLockGrant_begins {pool stripe : Nat} {l : Lock} {s : State} (isPool : pool < 8)
    (held : tfind s.layout.locks (stripeKey pool stripe) = some l) (destages : l.holder = 3)
    (idle : thas s.layout.destages (stripeKey pool stripe) = false) (runs : s.mayDestage = true)
    (waits : ((s.candidates pool).any fun c => c.1 = stripe) = true) (ready : s.journalReady pool = true) :
    ∃ t, execStripeLockGrant pool stripe s = .next t ∧ (tfind t.layout.destages (stripeKey pool stripe)).map (·.stage) = some 2 := by
  have granted : s.takeLock pool stripe 3 = (true, s) := by
    simp [State.takeLock, held, destages]
  unfold execStripeLockGrant
  rw [bounded_eq_next (decide_eq_true isPool), held]
  refine ⟨_, rfl, ?_⟩
  dsimp only
  rw [if_pos destages, if_neg (by simp [idle]), if_pos ⟨runs, waits⟩, State.takeStripe_of_granted ready (by rw [granted]), granted]
  exact State.startDestage_stage pool stripe s

/-- R258: the last phase of a step, which zeroes the old slab, ends the step and waits. -/
theorem State.reshapeAdvance_last {n rc old new : Nat} {r : ReshapeOp} {s : State} (runs : (s.pool n).reshape = some r) (going : r.rState = 1)
    (works : s.mayWork n = true) (awake : s.modes.psBadgerPaused = false) (step : (r.plan.drop r.stepNo).head? = some (rc, old, new))
    (owner : s.ownerOf rc = s.self) (phase : r.phase = 3) (reads : List StripeRead) :
    s.reshapeAdvance n reads = (false, (s.zeroSlab n old).updReshape n fun x => { x with stepNo := x.stepNo + 1, phase := 0, stripes := 0 }) := by
  unfold State.reshapeAdvance
  rw [runs]
  dsimp only
  rw [if_neg (by simp [going, works, awake]), step]
  dsimp only
  rw [if_neg (not_not_intro owner), phase]
  rfl

theorem execReshapeStep_ends {pool rc old new : Nat} {r : ReshapeOp} {reads : List StripeRead} {s : State} (isPool : pool < 8)
    (runs : (s.pool pool).reshape = some r) (going : r.rState = 1) (works : s.mayWork pool = true) (awake : s.modes.psBadgerPaused = false)
    (step : (r.plan.drop r.stepNo).head? = some (rc, old, new)) (owner : s.ownerOf rc = s.self) (phase : r.phase = 3) :
    ∃ t, execReshapeStep pool reads s = .next t ∧
      (t.pool pool).reshape = some { r with stepNo := r.stepNo + 1, phase := 0, stripes := 0 } := by
  have zeroed : (s.zeroSlab pool old).pool pool = s.pool pool :=
    State.pool_congr (same_of_touch (g := .layout) (State.zeroSlab_touch (by decide) (.refl _ _))) pool
  refine ⟨_, bounded_eq_next (decide_eq_true isPool), ?_⟩
  rw [State.reshapeRun, State.reshapeAdvance_last runs going works awake step owner phase]
  dsimp only
  rw [if_neg Bool.false_ne_true, State.updReshape, State.pool_updPool_same, zeroed, runs]
  rfl

/-! ### Badger (R262 to R265, R288) -/

/-- R286: an activation counts itself. -/
theorem State.activate_workCounts (h g : Nat) (s : State) (n : Nat) : (s.activate h g).workCounts n = s.workCounts n := by
  unfold State.activate State.applyActivate
  rw [State.workCounts_of_touch (State.settIfPaired_touch (by decide) (.refl _ _))]
  exact State.workCounts_bumpN (by decide) _ _ _ _

theorem State.exhaust_workCounts (h g : Nat) (s : State) (n : Nat) : (s.exhaust h g).workCounts n = s.workCounts n := by
  have ended : ((s.updGen h g fun x => { x with exhausted := true, gState := 3 }).settIfPaired 0x1A [h, g, 1] []).workCounts n = s.workCounts n :=
    State.workCounts_of_touch (State.settIfPaired_touch (by decide) (State.updGen_touch (by decide) (.refl _ _))) n
  unfold State.exhaust
  dsimp only
  split
  · rw [State.activate_workCounts, ended]
  · exact ended

theorem State.warn_workCounts (h g : Nat) (s : State) (n : Nat) : (s.warn h g).workCounts n = s.workCounts n := by
  unfold State.warn
  split
  · split
    · dsimp only
      split
      · split
        · rw [State.activate_workCounts]
          rfl
        · rfl
      · rfl
    · rfl
  · rfl

theorem State.activeGen_workCounts (h : Nat) (s : State) (n : Nat) : (s.activeGen h).2.workCounts n = s.workCounts n := by
  unfold State.activeGen
  split
  · split
    · exact s.exhaust_workCounts _ _ n
    · rfl
  · rfl

theorem State.askKey_workCounts (h g : Nat) (s : State) (n : Nat) : (s.askKey h g).workCounts n = s.workCounts n :=
  State.workCounts_bumpN (by decide) _ _ _ _

/-- R282 to R287: the assignment of a counter counts the activations and the waits that it causes. -/
theorem State.takeCtr_workCounts (h : Nat) (s : State) (n : Nat) : (s.takeCtr h).2.workCounts n = s.workCounts n := by
  have stepped (g : Nat) (t : State) : (t.askStep h g).workCounts n = t.workCounts n :=
    State.workCounts_of_touch (State.askStep_touch (by decide) (.refl _ _)) n
  have taken (g : Nat) (f : KeyGen → KeyGen) (t : State) : ((t.touchKey h g).updGen h g f).workCounts n = t.workCounts n :=
    State.workCounts_of_touch (State.updGen_touch (by decide) (State.touchKey_touch (by decide) (.refl _ _))) n
  have active := s.activeGen_workCounts h n
  unfold State.takeCtr
  split
  · rfl
  · split
    next found => rwa [found] at active
    next found =>
      rw [found] at active
      split
      · rw [State.askKey_workCounts]
        exact active
      · split
        · rw [stepped]
          exact active
        · dsimp only
          split
          · rw [State.exhaust_workCounts, State.warn_workCounts, stepped, taken]
            exact active
          · rw [State.warn_workCounts, stepped, taken]
            exact active

theorem State.reEncrypt_workCounts (h blk : Nat) (b : Bytes) (s : State) (n : Nat) : (s.reEncrypt h blk b).2.workCounts n = s.workCounts n := by
  have taken := s.takeCtr_workCounts h n
  unfold State.reEncrypt
  split
  · split
    next found =>
      rw [found] at taken
      exact (State.workCounts_bumpN (by decide) _ _ _ _).trans taken
    next found => rwa [found] at taken
  · exact s.askKey_workCounts _ _ n
  · rfl

theorem State.sweepRowNow_workCounts (n stripe row : Nat) (reads : List PosBlock) (s : State) :
    (s.sweepRowNow n stripe row reads).2.workCounts n = s.workCounts n := by
  unfold State.sweepRowNow
  dsimp only
  split
  · rfl
  · rw [apply_ite (fun t : State => t.workCounts n), State.workCounts_of_work (State.repairUnder_work _ _ _ _ _ _), ite_self]
    refine State.workCounts_foldl_snd (fun a x => ?_) _ _
    split
    · exact State.reEncrypt_workCounts _ _ _ _ n
    · exact State.reEncrypt_workCounts _ _ _ _ n

theorem execBadgerStripe_counts {pool stripe : Nat} {reads : List PosBlock} {s : State} (isPool : pool < 8) (runs : s.badgerRuns pool = true)
    (hot : (s.pool pool).hot.contains ((s.rowOf pool stripe).1 / 1024) = true) (listed : (s.stripesOf pool).contains stripe = true)
    (here : s.lockHere pool stripe = true) (locked : (s.takeLock pool stripe 7).1 = true)
    (read : ((List.range 16).any fun b => decide ((s.patrolRow pool stripe b reads).ask ≠ [])) = false) :
    ∃ t, execBadgerStripe pool stripe reads s = .next t ∧
      t.counter cBadgerBlocks pool = sat (2 ^ 64 - 1) (s.counter cBadgerBlocks pool + reads.length) := by
  unfold execBadgerStripe
  rw [bounded_eq_next (decide_eq_true isPool)]
  refine ⟨_, rfl, ?_⟩
  dsimp only
  rw [if_neg (by rw [runs, hot, listed, here]; simp), if_neg (by simp [locked]), if_neg (by rw [List.any_map]; exact ne_true_of_eq_false read)]
  have counts {u v : State} (same : u.workCounts pool = v.workCounts pool) : u.counter cBadgerBlocks pool = v.counter cBadgerBlocks pool :=
    congrArg (·.2.2) same
  have patrolled (b hot : Bool) (t : State) :
      (if b = true then (t.freeLock pool stripe).patrolled pool stripe hot else t.freeLock pool stripe).workCounts pool = t.workCounts pool := by
    have freed := State.workCounts_of_work (State.freeLock_work pool stripe t pool)
    split
    · exact (State.workCounts_of_touch (State.patrolled_touch (by decide) (.refl _ _)) pool).trans freed
    · exact freed
  have begun : ((s.takeLock pool stripe 7).2.hotIfBad pool stripe reads).workCounts pool = s.workCounts pool :=
    State.workCounts_of_work ((State.hotIfBad_work _ _ _ _).trans (State.takeLock_work _ _ _ _ _))
  refine (counts ((patrolled _ _ _).trans ((State.workCounts_foldl_snd (fun a r => ?_) _ _).trans
    (State.workCounts_foldl (fun t r => ?_) _ _)))).trans ?_
  · exact State.sweepRowNow_workCounts pool stripe r.1 reads a.2
  · rw [State.workCounts_bumpN (by decide), State.workCounts_bumpN (by decide)]
    exact State.workCounts_of_work (by simp)
  · rw [State.counter_bumpN_same, counts begun]

/-! ### Sweeps (R288) -/

/-- A generation that is listed shows a change of it. -/
theorem State.gen_updGen_same {h g : Nat} {k : KeyGen} {s : State} (listed : tfind (s.ns h).gens g = some k) (f : KeyGen → KeyGen) :
    tfind ((s.updGen h g f).ns h).gens g = some (f k) := by
  have known : thas s.cipher.ns h = true := by
    unfold State.ns tget at listed
    unfold thas
    cases found : tfind s.cipher.ns h with
    | none =>
      rw [found] at listed
      cases listed
    | some => rfl
  rw [State.updGen, State.ns_updNs_same, if_pos known]
  exact tfind_tadj_same f listed

theorem execSweepStart_sweeps {handle gen : Nat} {g : KeyGen} {s : State} (isHandle : handle < 16384) (isGen : gen < 256)
    (listed : tfind (s.ns handle).gens gen = some g) (emptying : g.gState = 4) (idle : g.sweeping = false)
    (active : ((s.ns handle).genIn 2).isSome = true)
    (larder : (s.layout.larder.any fun v => decide (v.2.handle = handle) && !v.2.dealloc &&
      decide (bits (leField v.2.trailer 16 8) 55 48 = gen)) = false)
    (mirror : (s.layout.mirror.any fun v => decide (v.2.handle = handle) && !v.2.dealloc &&
      decide (bits (leField v.2.trailer 16 8) 55 48 = gen)) = false) :
    ∃ t, execSweepStart handle gen s = .next t ∧
      (tfind (t.ns handle).gens gen).map (fun g => (g.sweeping, g.sweepWait)) = some (true, false) := by
  unfold execSweepStart
  rw [bounded_eq_next_of_lt isHandle isGen]
  refine ⟨_, rfl, ?_⟩
  dsimp only
  rw [listed]
  dsimp only
  rw [if_pos ⟨emptying, idle, active, larder, mirror⟩]
  rw [State.gen_updGen_same listed]
  rfl

/-- Settles O39. Each clause is the lemma of its command; that a patrol has read a block is not needed. -/
theorem completesRebuild : Obligations.CompletesRebuild :=
  ⟨fun _ _ _ => execMissingWaitExpiry_fails,
   fun _ _ _ _ => execRebuildStripe_counts,
   fun _ _ _ _ _ => execResyncRowGroup_marks,
   fun _ _ _ _ _ => execCopybackRow_counts,
   fun _ _ _ _ => execStripeLockGrant_begins,
   fun _ _ _ _ _ _ _ => execReshapeStep_ends,
   fun _ _ _ _ isPool runs hot listed here locked read _ => execBadgerStripe_counts isPool runs hot listed here locked read,
   fun _ _ _ _ => execSweepStart_sweeps⟩

end Sys2Proof.Machine

namespace Sys2Proof.Machine

/-! ## Keys, counters and cipher checks (O40) -/

/-! ### Namespaces and their generations (R282, R286) -/

theorem State.ns_of_unlisted {n : Nat} {s : State} (unlisted : ¬ thas s.cipher.ns n = true) : s.ns n = {} := by
  unfold thas at unlisted
  rw [State.ns, tget, Option.not_isSome_iff_eq_none.mp unlisted, Option.getD_none]

/-- A namespace that has generations exists. -/
theorem State.thas_ns_of_gens {n : Nat} {s : State} (filled : (s.ns n).gens ≠ []) : thas s.cipher.ns n = true :=
  Decidable.of_not_not fun unlisted => filled (by rw [State.ns_of_unlisted unlisted])

theorem State.thas_ns_of_gen {h g : Nat} {k : KeyGen} {s : State} (listed : tfind (s.ns h).gens g = some k) : thas s.cipher.ns h = true :=
  State.thas_ns_of_gens fun empty => by rw [empty] at listed; cases listed

theorem State.ns_updNs_other {n m : Nat} (other : m ≠ n) (f : Ns → Ns) (s : State) : (s.updNs n f).ns m = s.ns m :=
  congrArg (·.getD {}) (tfind_tadj_other s.cipher.ns f other)

/-- A change of one generation leaves every other, of its own namespace and of others. -/
theorem State.gen_updGen_other {h g h' g' : Nat} (other : (h, g) ≠ (h', g')) (f : KeyGen → KeyGen) (s : State) :
    tfind ((s.updGen h' g' f).ns h).gens g = tfind (s.ns h).gens g := by
  unfold State.updGen
  by_cases same : h = h'
  · subst same
    have apart : g ≠ g' := fun eq => other (by rw [eq])
    rw [State.ns_updNs_same]
    split
    · exact tfind_tadj_other _ f apart
    next unlisted => rw [State.ns_of_unlisted unlisted]
  · rw [State.ns_updNs_other same]

/-- R286: the generation activated is ACTIVE, and else as it was. -/
theorem State.applyActivate_gen {h g : Nat} {k : KeyGen} {s : State} (listed : tfind (s.ns h).gens g = some k) :
    tfind ((s.applyActivate h g).ns h).gens g = some { k with gState := 2 } := by
  unfold State.applyActivate
  rw [State.ns_congr (same_of_touch (g := .cipher) (State.bump_touch (by decide) (.refl _ _))), State.ns_updNs_same,
    if_pos (State.thas_ns_of_gen listed), tfind_tmap, listed, Option.map_some, if_pos rfl]

/-! ### The key cache (R319) -/

/-- One turn of `makeRoom`: a cache too full loses the key used longest ago. -/
def State.dropOldest (s : State) : State :=
  if s.keysCached ≤ 2048 then s
  else match s.enclave.recent.getLast? with
    | some (h, g) => s.dropKey h g
    | none => s

theorem State.makeRoom_eq (s : State) : s.makeRoom = s.dropOldest.dropOldest := rfl

/-- A cache that holds one key and its NS_KEK is not too full. -/
theorem State.keysCached_of_single {x : Nat × Nat} {s : State} (single : s.enclave.recent = [x]) : s.keysCached ≤ 2048 := by
  simp [State.keysCached, single, List.eraseDups_cons]

/-- A key heads the cache, and is in it once. -/
def State.cachedFirst (s : State) (x : Nat × Nat) : Prop := ∃ rest, s.enclave.recent = x :: rest ∧ x ∉ rest

/-- R319: the key used last stays in the cache, and its generation as it is. -/
theorem State.dropOldest_keeps_first {h g : Nat} {s : State} (first : s.cachedFirst (h, g)) :
    s.dropOldest.cachedFirst (h, g) ∧ tfind (s.dropOldest.ns h).gens g = tfind (s.ns h).gens g := by
  obtain ⟨rest, recent, once⟩ := first
  unfold State.dropOldest
  by_cases room : s.keysCached ≤ 2048
  · rw [if_pos room]
    exact ⟨⟨rest, recent, once⟩, rfl⟩
  · rw [if_neg room]
    have filled : rest ≠ [] := fun empty => room (State.keysCached_of_single (empty ▸ recent))
    obtain ⟨last, isLast⟩ := Option.isSome_iff_exists.mp (List.getLast?_isSome.mpr filled)
    have other : (h, g) ≠ last := fun eq => once (eq ▸ List.mem_of_getLast? isLast)
    have oldest : s.enclave.recent.getLast? = some last := by rw [recent, List.getLast?_cons, isLast]; rfl
    rw [oldest]
    refine ⟨⟨rest.filter fun x => x ≠ last, ?_, fun mem => once (List.mem_of_mem_filter mem)⟩, State.gen_updGen_other other _ s⟩
    show s.enclave.recent.filter (fun x => decide (x ≠ last)) = _
    rw [recent, List.filter_cons_of_pos (by simpa using other)]

/-- R293, R319: a key that is installed is in the cache, whatever leaves the cache for it. -/
theorem State.installKey_gen {h g : Nat} {k : KeyGen} {s : State} (listed : tfind (s.ns h).gens g = some k) (key : Nat) :
    tfind ((s.installKey h g key).ns h).gens g = some { k with key := some key } := by
  unfold State.installKey
  rw [State.makeRoom_eq]
  have first : State.cachedFirst ((s.updGen h g fun x => { x with key := some key }).updEnclave fun e => { e with
      recent := (h, g) :: e.recent.filter (fun x => x ≠ (h, g)), unwraps := dropOne (h, g) e.unwraps }) (h, g) :=
    ⟨_, rfl, by simp⟩
  obtain ⟨still, kept⟩ := State.dropOldest_keeps_first first
  rw [(State.dropOldest_keeps_first still).2, kept]
  exact State.gen_updGen_same listed _

theorem execKeyUnwrapComplete_installs {handle gen sk : Nat} {g : KeyGen} {s : State} (isHandle : handle < 16384) (isGen : gen < 256)
    (listed : tfind (s.ns handle).gens gen = some g) (shelf : s.shelfKeyOf g.shelfGen = some sk)
    (asked : s.enclave.unwraps.contains (handle, gen) = true) (opened : s.cipher.keyBusOpen = true) :
    ∃ t, execKeyUnwrapComplete handle gen s = .next t ∧ ∃ u : State, t = u.keyReady handle ∧
      (tfind (u.ns handle).gens gen).map (·.key) = some (some (Config.unwrap (s.nsKek sk handle) g.wrapped)) := by
  unfold execKeyUnwrapComplete
  rw [bounded_eq_next_of_lt isHandle isGen, listed]
  dsimp only
  rw [shelf]
  dsimp only
  rw [if_pos ⟨asked, opened⟩]
  exact ⟨_, rfl, _, rfl, by rw [State.installKey_gen listed]; rfl⟩

/-! ### Counters and activations (R283, R286) -/

/-- A counter reservation that has become durable: this controller's CTR_HIGH is 2^24 higher, at most its bound (R283). -/
def KeyGen.stepped (idx : Nat) (x : KeyGen) : KeyGen :=
  let up (v : Nat) : Nat := min (2 ^ 48 - 2 ^ 32) (v + 2 ^ 24)
  if idx = 0 then { x with stepAsked := false, ctrHigh0 := up x.ctrHigh0 } else { x with stepAsked := false, ctrHigh1 := up x.ctrHigh1 }

theorem KeyGen.stepped_ctrHigh (idx : Nat) (x : KeyGen) : (x.stepped idx).stepAsked = false ∧
    (x.stepped idx).ctrHigh idx = min (2 ^ 48 - 2 ^ 32) (x.ctrHigh idx + 2 ^ 24) := by
  unfold KeyGen.stepped KeyGen.ctrHigh
  by_cases first : idx = 0
  · simp [first]
  · simp [first]

theorem execCtrStepDurable_steps {handle gen : Nat} {g : KeyGen} {s : State} (isHandle : handle < 16384) (isGen : gen < 256)
    (listed : tfind (s.ns handle).gens gen = some g) (asked : g.stepAsked = true) :
    ∃ t, execCtrStepDurable handle gen s = .next t ∧ ∃ u : State, t = u.keyReady handle ∧
      (tfind (u.ns handle).gens gen).map (fun x => (x.stepAsked, x.ctrHigh s.self)) =
        some (false, min (2 ^ 48 - 2 ^ 32) (g.ctrHigh s.self + 2 ^ 24)) := by
  obtain ⟨done, high⟩ := g.stepped_ctrHigh s.self
  refine ⟨State.keyReady handle ((s.updGen handle gen (KeyGen.stepped s.self)).bump cCtrSteps handle), ?_, _, rfl, ?_⟩
  · unfold execCtrStepDurable
    rw [bounded_eq_next_of_lt isHandle isGen, listed]
    exact congrArg _ (if_pos asked)
  · rw [State.ns_congr (same_of_touch (g := .cipher) (State.bump_touch (by decide) (.refl _ _))), State.gen_updGen_same listed, Option.map_some,
      done, high]

theorem execGenerationActivation_activates {handle gen : Nat} {g : KeyGen} {s : State} (isHandle : handle < 16384) (isGen : gen < 256)
    (paired : s.paired = true) (up : s.settUp = true) (listed : tfind (s.ns handle).gens gen = some g) (pending : g.gState = 1) :
    ∃ t, execGenerationActivation handle gen 0 s = .next t ∧ ∃ u : State, t = u.keyReady handle ∧
      (tfind (u.ns handle).gens gen).map (·.gState) = some 2 := by
  have got : (s.settGot 0x1A).ns handle = s.ns handle :=
    State.ns_congr (same_of_touch (g := .cipher) (State.settGot_touch (by decide) (.refl _ _))) handle
  rw [← got] at listed
  unfold execGenerationActivation
  rw [bounded_eq_next_of_lt isHandle isGen, if_neg (by simp [paired]), State.settIn_up up, listed]
  dsimp only
  rw [if_pos rfl, if_pos pending]
  exact ⟨_, rfl, _, rfl, by rw [State.applyActivate_gen listed]; rfl⟩

/-! ### Lanes and engines (R294, R298) -/

theorem State.laneFails_dupGroup (lane : Nat) (s : State) : (s.laneFails lane).cipher.dupGroup = s.cipher.dupGroup := by
  unfold State.laneFails
  split
  · rfl
  · exact congrArg (·.dupGroup) (same_of_touch (g := .cipher) (State.singleFault_touch (by decide) (.refl _ _)))

theorem State.suspect_dupGroup (x : Suspect) (s : State) : (s.suspect x).cipher.dupGroup = s.cipher.dupGroup :=
  congrArg (·.dupGroup) (same_of_touch (g := .cipher) (State.suspect_touch (by decide) (.refl _ _)))

theorem execDupWindow_advances (mismatch badKat : List Nat) (suspects : List Suspect) (s : State) :
    ∃ t, execDupWindow mismatch badKat suspects s = .next t ∧ t.cipher.dupGroup = (s.cipher.dupGroup + 1) % 8 := by
  have lanes (l : List Nat) (t : State) : (l.foldl (fun v l => v.laneFails l) t).cipher.dupGroup = t.cipher.dupGroup :=
    foldl_keeps (view := (·.cipher.dupGroup)) (fun t lane => t.laneFails_dupGroup lane) l t
  have named (l : List Suspect) (t : State) : (l.foldl (fun v x => v.suspect x) t).cipher.dupGroup = t.cipher.dupGroup :=
    foldl_keeps (view := (·.cipher.dupGroup)) (fun t x => t.suspect_dupGroup x) l t
  refine ⟨_, rfl, ?_⟩
  dsimp only
  split
  · exact lanes _ _
  · exact (named _ _).trans (lanes _ _)

theorem execKnownAnswerCheck_engine {e : Nat} {s : State} (isEngine : e < 8) (serves : s.cipher.engineOut.toNat.testBit e = false) :
    ∃ t, execKnownAnswerCheck [] [e] s = .next t ∧ t.cipher.engineOut = s.cipher.engineOut ||| BitVec.ofNat 8 (2 ^ e) := by
  refine ⟨s.engineFails e, rfl, ?_⟩
  unfold State.engineFails
  rw [if_neg (by simp [serves, isEngine])]
  exact congrArg (·.engineOut) (same_of_touch (g := .cipher) (State.singleFault_touch (by decide) (.refl _ _)))

/-! ### Lockdown (R332, R333) -/

/-- What entry into M5 ends before the mode changes: key work, host service, sessions, a pairing (R47, R49, R333, R489). -/
def State.lockdownStops (code : Nat) (s : State) : State :=
  ((((s.when (!lifeCycleFault code) fun t => t.singleFault 0x10).updCipher fun c => { c with keyBusOpen := false, keyWaiting := [] }).updEnclave
    fun e => { e with unwraps := [], erased := false }).stopService.endSessions).abandonPairing

theorem State.lockdownStops_touch (code : Nat) (s : State) {m : Nat} (hm : Nat.land 69467136 m = 69467136) : Touch m s (s.lockdownStops code) :=
  State.abandonPairing_touch (sub_trans (by decide) hm) (State.endSessions_touch (sub_trans (by decide) hm)
    (State.stopService_touch (sub_trans (by decide) hm) (State.updEnclave_touch (sub_trans (by decide) hm)
    (State.updCipher_touch (sub_trans (by decide) hm) (State.when_touch (.refl _ _) fun _ t =>
    State.singleFault_touch (sub_trans (by decide) hm) t)))))

/-- R49, R332: from every mode but M0 and M5 a fault enters M5, and its code is recorded. -/
theorem State.enterM5_enters {s : State} (awake : s.modes.mode ≠ .m0) (unlocked : s.modes.mode ≠ .m5) (code : Nat) :
    (s.enterM5 code).modes.mode = .m5 ∧ (s.enterM5 code).keep.cause = code ∧ (s.enterM5 code).modes.prevMode = s.modes.mode := by
  have stops {g : Grp} (kept : (69467136 : Nat).testBit g.num = false) (t : State) : g.same t (t.lockdownStops code) :=
    (t.lockdownStops_touch code (by decide)).out g kept
  have entered (t : State) (cause : Nat) : (t.enterMode .m5 cause).keep = t.keep :=
    same_of_touch (g := .keep) (State.enterMode_touch (by decide) (.refl _ _))
  unfold State.enterM5
  dsimp only
  split
  case h_1 m0 => exact absurd m0 awake
  case h_2 m5 => exact absurd m5 unlocked
  case h_3 =>
    rw [State.enterMode_modes, entered]
    exact ⟨rfl, congrArg (·.cause) (stops (g := .keep) (by decide) _), congrArg (·.mode) (stops (g := .modes) (by decide) _)⟩

theorem execSecurityFault_locks {code : Nat} {s : State} (listed : faultCodes.contains code = true) (awake : s.modes.mode ≠ .m0)
    (unlocked : s.modes.mode ≠ .m5) :
    ∃ t, execSecurityFault code s = .next t ∧ t.modes.mode = .m5 ∧ t.keep.cause = code ∧ t.modes.prevMode = s.modes.mode := by
  unfold execSecurityFault
  rw [if_pos listed]
  exact ⟨_, rfl, State.enterM5_enters awake unlocked code⟩

theorem execKeyErasure_erases {s : State} (locked : s.modes.mode = .m5) (keyed : s.enclave.erased = false) (destaged : s.m5Destaged = true) :
    ∃ t, execKeyErasure s = .next t ∧ t.enclave.shelfKey = none ∧ t.enclave.erased = true ∧ t.enclave.unwraps = [] := by
  unfold execKeyErasure
  rw [if_pos ⟨locked, keyed, destaged⟩]
  exact ⟨_, rfl, rfl, rfl, rfl⟩

/-- Settles O40. Each clause is the lemma of its command. -/
theorem completesCipherA : Obligations.CompletesCipherA :=
  ⟨fun _ _ _ _ _ => execKeyUnwrapComplete_installs,
   fun _ _ _ _ => execCtrStepDurable_steps,
   fun _ _ _ _ => execGenerationActivation_activates,
   execDupWindow_advances,
   fun _ _ => execKnownAnswerCheck_engine,
   fun _ _ => execSecurityFault_locks,
   fun _ => execKeyErasure_erases⟩

end Sys2Proof.Machine

namespace Sys2Proof.Machine

/-! ## Debug port, lockstep, dispatch, key derivation (O41) -/

theorem execDebugAccessAttempt_counts {s : State} (closed : s.debugIsOpen = false) :
    ∃ t, execDebugAccessAttempt s = .next t ∧ t.enclave.debugAttempts = sat 4095 (s.enclave.debugAttempts + 1) := by
  unfold execDebugAccessAttempt
  rw [if_neg (ne_true_of_eq_false closed)]
  exact ⟨_, rfl, rfl⟩

theorem execCoreLockstepMismatch_fails {pair : Nat} {s : State} (isPair : pair < 12) :
    ∃ t, execCoreLockstepMismatch pair s = .next t ∧ t.spine.coreFailed = s.spine.coreFailed ||| BitVec.ofNat 12 (2 ^ pair) :=
  ⟨_, bounded_eq_next (decide_eq_true isPair),
    congrArg (·.coreFailed) (same_of_touch (g := .spine) (State.singleFault_touch (by decide) (.refl _ _)))⟩

/-! ### Drive dispatch (R339, R410) -/

/-- R338: the strict classes that hold items of their own are numbered 0 to 3. -/
theorem Sched.pickStrict_class {ok : Nat → QItem → Bool} {c : Sched} {k : Nat} {it : QItem} (picked : c.pickStrict ok = some (k, it)) : k < 4 := by
  obtain ⟨j, isClass, found⟩ := List.exists_of_findSome?_eq_some picked
  have same : j = k := by
    split at found
    · split at found
      · exact congrArg Prod.fst (Option.some.inj found)
      · cases found
    · cases found
  exact same ▸ (by decide : ∀ i ∈ [0, 1, 2, 3], i < 4) j isClass

/-- R410: a command made visible to its drive stands under the free tag it took. -/
theorem State.visible_tag {c : DriveCmd} {t : Nat} {s : State} (free : (s.dport c.slot).freeTag = some t) (background : Option Nat) :
    (tfind ((s.visible c background).dport c.slot).tags t).map (·.cmd) = some c := by
  have staged (b : Bool) (u : State) : (u.when b fun v => v.stage c.cslot 7).drives = u.drives :=
    same_of_touch (g := .drives) (State.when_touch (.refl _ _) fun _ h => State.stage_touch (by decide) h)
  have sent (k : OutKind) (args : List Nat) (data : Bytes) (u : State) : (u.send k args data).drives = u.drives :=
    same_of_touch (g := .drives) (State.send_touch (by decide) (.refl _ _))
  unfold State.visible
  rw [free]
  dsimp only
  rw [State.dport_congr ((staged _ _).trans (sent _ _ _ _)), State.dport_updDport_same, tfind_tput_same]
  rfl

/-- R341, R342: an item of a strict class is charged to its class before its drive sees it. -/
theorem State.issueDrive_strict {slot k : Nat} (it : QItem) (s : State) (strict : k < 4) : s.issueDrive slot (some k) it =
    ((s.issue 1 slot (some k) it).charge (shaperOfClass 1 k) it.cost).visible it.cmd none := by
  unfold State.issueDrive
  dsimp only
  split
  case h_1 same => cases same; exact absurd strict (by decide)
  case h_2 same => cases same; rfl
  case h_3 same => cases same

theorem execDriveDispatch_strict {slot k tg : Nat} {it : QItem} {s : State} (isSlot : slot < 64) (takes : s.driveTakes slot false = true)
    (picked : (s.sched 1 slot).pickStrict (fun k _ => s.shaperOk (shaperOfClass 1 k)) = some (k, it)) (here : it.cmd.slot = slot)
    (free : (s.dport slot).freeTag = some tg) :
    ∃ t, execDriveDispatch slot s = .next t ∧ (tfind (t.dport slot).tags tg).map (·.cmd) = some it.cmd := by
  have issued : ((s.issue 1 slot (some k) it).charge (shaperOfClass 1 k) it.cost).drives = s.drives :=
    same_of_touch (g := .drives) (State.charge_touch (by decide) (State.issue_touch (by decide) (.refl _ _)))
  unfold execDriveDispatch
  rw [bounded_eq_next (decide_eq_true isSlot)]
  dsimp only
  rw [if_neg (by simp [takes]), picked]
  dsimp only
  rw [State.issueDrive_strict it s (Sched.pickStrict_class picked)]
  subst here
  exact ⟨_, rfl, State.visible_tag (by rw [State.dport_congr issued, free]) none⟩

/-! ### The background point and the timer wheel (R339, R342) -/

/-- R339: a command that the background point has issued waits at its drive's dispatch point, and keeps its class. -/
theorem State.submitIssued_waits (k : Nat) (it : QItem) (s : State) :
    ((tget [] ((s.submitIssued k it).sched 1 it.cmd.slot).strict 4).any fun x => decide (x.cmd = it.cmd) && decide (x.cls = k)) = true := by
  have queued (q : QItem) : (s.updSched 1 it.cmd.slot (Sched.enqueueStrict 4 q)).sched 1 it.cmd.slot =
      (s.sched 1 it.cmd.slot).enqueueStrict 4 q := tget_tmod_same ({} : Sched) _ _ s.qos.drive
  have sampled (key bytes items : Nat) (t : State) : (t.sampleDepth key bytes items).sched 1 it.cmd.slot = t.sched 1 it.cmd.slot := rfl
  unfold State.submitIssued State.enqueue
  dsimp only
  rw [sampled, queued]
  simp [Sched.enqueueStrict, tget]

theorem execBackgroundDispatch_issues {pool k : Nat} {it : QItem} {s : State} (isPool : pool < 8)
    (picked : (s.sched 2 pool).pickStrict (fun k it => s.backEligible pool k it) = some (k, it)) :
    ∃ t, execBackgroundDispatch pool s = .next t ∧
      ((tget [] (t.sched 1 it.cmd.slot).strict 4).any fun x => decide (x.cmd = it.cmd) && decide (x.cls = k)) = true := by
  unfold execBackgroundDispatch
  rw [bounded_eq_next (decide_eq_true isPool)]
  dsimp only
  rw [picked]
  exact ⟨_, rfl, State.submitIssued_waits _ _ _⟩

/-- R342: a shaper whose tokens have reached 0 is parked no longer. -/
theorem State.parkIf_ready {tokens : Int} (ready : 0 ≤ tokens) (key : Nat) (s : State) :
    (tget {} (s.parkIf key tokens).qos.shapers key).parked = none := by
  unfold State.parkIf
  simp [Int.not_lt.mpr ready, State.when, tget]

theorem execShaperSlotFire_ready {point us key : Nat} {h : Shaper} {s : State} (isPoint : point < 3) (shapers : s.qos.shapers = [(key, h)])
    (here : key / 8192 = point) (parked : h.parked = some us) (ready : 0 ≤ h.tokensAt (s.shaperRate key) (s.shaperBurst key) s.now) :
    ∃ t, execShaperSlotFire point us s = .next t ∧ (tget {} t.qos.shapers key).parked = none := by
  unfold execShaperSlotFire
  rw [bounded_eq_next (decide_eq_true isPoint), shapers, List.foldl_cons, List.foldl_nil, if_pos ⟨here, parked⟩]
  exact ⟨_, rfl, State.parkIf_ready ready key s⟩

/-! ### The derivation of a successor (R285, R286) -/

/-- R285: a generation that is put is listed. -/
theorem State.putGen_gen {h : Nat} {s : State} (known : thas s.cipher.ns h = true) (g origin wrapped salt : Nat) :
    ∃ k, tfind ((s.putGen h g origin wrapped salt).ns h).gens g = some k := by
  unfold State.putGen
  dsimp only
  rw [State.ns_congr (same_of_touch (g := .cipher) (State.dirWrite_touch (by decide) (.refl _ _))), State.ns_updNs_same, if_pos known]
  exact ⟨_, tfind_tput_same _ _ _⟩

/-- R285, R310: with a shelf key, a generation that is derived is listed. -/
theorem State.deriveGen_gen {h : Nat} {s : State} (known : thas s.cipher.ns h = true) (keyed : s.enclave.shelfKey.isSome = true) (g : Nat) :
    ∃ k, tfind ((s.deriveGen h g).ns h).gens g = some k := by
  obtain ⟨sk, shelf⟩ := Option.isSome_iff_exists.mp keyed
  unfold State.deriveGen
  rw [shelf]
  dsimp only
  obtain ⟨k, listed⟩ := State.putGen_gen (s := s.draw.draw) known g 1
    (Config.wrap (s.nsKek sk h) (Config.kdf sk 7 [h, (s.ns h).serial, g, s.drawn 256])) (s.draw.drawn 32)
  exact ⟨_, State.installKey_gen listed _⟩

/-- R286: an activation of which the partner is told activates here as one that is not. -/
theorem State.activate_gen {h g : Nat} {k : KeyGen} {s : State} (listed : tfind (s.ns h).gens g = some k) :
    tfind ((s.activate h g).ns h).gens g = some { k with gState := 2 } := by
  unfold State.activate
  rw [State.ns_congr (same_of_touch (g := .cipher) (State.settIfPaired_touch (by decide) (.refl _ _))), State.applyActivate_gen listed]

theorem execKeyDerivationComplete_activates {handle g k : Nat} {x : KeyGen} {s : State} (isHandle : handle < 16384)
    (active : (s.ns handle).genIn 2 = some (k, x)) (next : (s.ns handle).nextGen = some g) (rotates : s.cipherCfgAutoRotate = 1)
    (keying : (s.ns handle).keying = 1) (warned : x.warned = true) (noPending : ((s.ns handle).genIn 1).isNone = true)
    (keyed : s.enclave.shelfKey.isSome = true) (opened : s.cipher.keyBusOpen = true) :
    ∃ t, execKeyDerivationComplete handle s = .next t ∧ ∃ u : State, t = u.keyReady handle ∧
      (tfind (u.ns handle).gens g).map (·.gState) = some 2 := by
  have known : thas s.cipher.ns handle = true := State.thas_ns_of_gens fun empty => by simp [Ns.genIn, empty] at active
  obtain ⟨y, derived⟩ := State.deriveGen_gen known keyed g
  have told (kind : Nat) (args : List Nat) (t : State) : (t.settIfPaired kind args []).ns handle = t.ns handle :=
    State.ns_congr (same_of_touch (g := .cipher) (State.settIfPaired_touch (by decide) (.refl _ _))) handle
  unfold execKeyDerivationComplete
  rw [bounded_eq_next (decide_eq_true isHandle)]
  dsimp only
  rw [active, next]
  dsimp only
  rw [if_pos ⟨rotates, keying, warned, noPending, keyed, opened⟩]
  exact ⟨_, rfl, _, rfl, by rw [State.activate_gen ((congrArg (tfind ·.gens g) (told _ _ _)).trans derived)]; rfl⟩

/-- Settles O41. Each clause is the lemma of its command. -/
theorem completesCipherB : Obligations.CompletesCipherB :=
  ⟨fun _ => execDebugAccessAttempt_counts,
   fun _ _ => execCoreLockstepMismatch_fails,
   fun _ _ _ _ _ => execDriveDispatch_strict,
   fun _ _ _ _ => execBackgroundDispatch_issues,
   fun _ _ _ _ _ => execShaperSlotFire_ready,
   fun _ _ _ _ _ => execKeyDerivationComplete_activates⟩

end Sys2Proof.Machine

namespace Sys2Proof.Machine

/-! ## Capsules, generations, the shelf key and delegation (O59) -/

/-! ### What a request finds (R483) -/

@[simp] theorem State.entered_cipher (s : State) (h : CcpHdr) (op : Nat) (e : Session) : (s.entered h op e).cipher = s.cipher :=
  same_of_touch (g := .cipher) (s.entered_touch h op e (by decide))

@[simp] theorem State.entered_enclave (s : State) (h : CcpHdr) (op : Nat) (e : Session) : (s.entered h op e).enclave = s.enclave :=
  same_of_touch (g := .enclave) (s.entered_touch h op e (by decide))

@[simp] theorem State.entered_mode (s : State) (h : CcpHdr) (op : Nat) (e : Session) : (s.entered h op e).modes.mode = s.modes.mode := by
  unfold State.entered State.admitted
  rw [show (State.bump _ _ _).modes = _ from same_of_touch (g := .modes) (State.bump_touch (by decide) (.refl _ _))]
  exact s.arrived_mode

/-- R490: a session stays with its role and its tenant when it takes a request. -/
theorem Session.taking_owner (e : Session) (h : CcpHdr) (op now : Nat) :
    (e.taking h op now).role = e.role ∧ (e.taking h op now).tenant = e.tenant := by
  unfold Session.taking
  cases taken : e.aliveTake h.alive with
  | none => exact ⟨rfl, rfl⟩
  | some x =>
    obtain ⟨high, map, rfl⟩ := Session.aliveTake_eq taken
    exact ⟨rfl, rfl⟩

@[simp] theorem State.sharedDone_enclave (h : CcpHdr) (op : Nat) (args : List Nat) (data : Bytes) (s : State) :
    (s.sharedDone h op args data).enclave = s.enclave :=
  same_of_touch (g := .enclave) (State.sharedDone_touch (by decide) (.refl _ _))

/-! ### The tenant table (R311, R313) -/

theorem State.tenant_congr {s t : State} (enclave : t.enclave = s.enclave) (n : Nat) : t.tenant n = s.tenant n := by
  unfold State.tenant
  rw [enclave]

/-- R311: an entry that changes is so in the store, whatever is written to the drives. -/
@[simp] theorem State.tenant_updTenant_same (n : Nat) (f : Tenant → Tenant) (s : State) : (s.updTenant n f).tenant n = f (s.tenant n) := by
  unfold State.updTenant
  dsimp only
  rw [State.tenant_congr (same_of_touch (g := .enclave) (foldl_touch (.refl _ _) fun _ _ t => foldl_touch t fun _ _ u =>
    State.submit_touch (by decide) u))]
  exact tget_tmod_same ({} : Tenant) n f s.enclave.tenants

/-! ### Capsules (R314) -/

/-- R483, R489: in a session of its own tenant a request that passes its checks runs. -/
theorem State.ccpTake_of_tenant {h : CcpHdr} {op : Nat} {group : Option Nat} {e : Session} {tenant : Nat} {s : State} (run : State → State)
    (acc : s.accepts h op group e = true) (role : e.role = 2) (own : e.tenant = tenant) :
    s.ccpTake h op group (fun e => if e.role = 2 ∧ e.tenant = tenant then 0 else ccTenant) run = run (s.entered h op e) := by
  obtain ⟨sameRole, sameTenant⟩ := e.taking_owner h op s.now
  exact State.ccpTake_of_accepts run acc (if_pos ⟨sameRole.trans role, sameTenant.trans own⟩)

/-- R314: a capsule that passes its checks has its effect, is noted as taken, and goes to the partner. -/
theorem State.capsule_of_accepts {h : CcpHdr} {e : Session} {kind : Nat} {cap : Capsule} {more : State → Nat} {s : State} (f : State → State)
    (results : State → List Nat) (acc : s.accepts h 0x34 (some 11) e = true) (role : e.role = 2) (own : e.tenant = cap.tenant)
    (ok : (s.entered h 0x34 e).capsuleStatus kind cap = 0) (allowed : more (s.entered h 0x34 e) = 0)
    (reached : (s.entered h 0x34 e).sharedCut h = false) :
    s.capsule h kind cap more f results = ((f (s.entered h 0x34 e)).capsuleTaken cap).sharedDone h 0x34
      (capsuleArgs cap ++ results ((f (s.entered h 0x34 e)).capsuleTaken cap)) [] := by
  unfold State.capsule
  rw [State.ccpTake_of_tenant _ acc role own]
  dsimp only
  rw [if_neg (ne_true_of_eq_false reached), if_neg (by simp [ok, allowed])]

theorem State.capsuleTaken_tenant (cap : Capsule) (s : State) :
    (s.capsuleTaken cap).tenant cap.tenant = { s.tenant cap.tenant with capsuleSeq := cap.seqNo } :=
  State.tenant_updTenant_same _ _ _

theorem execEraseNs_erases {h : CcpHdr} {e : Session} {cap : Capsule} {s : State} (acc : s.accepts h 0x34 (some 11) e = true) (role : e.role = 2)
    (own : e.tenant = cap.tenant) (ok : (s.entered h 0x34 e).capsuleStatus 5 cap = 0) (reached : (s.entered h 0x34 e).sharedCut h = false) :
    ∃ t, execEraseNs h cap s = .next t ∧
      t = (((s.entered h 0x34 e).eraseNsKeys cap.handle).capsuleTaken cap).sharedDone h 0x34 (capsuleArgs cap ++ ([])) [] ∧
      (t.tenant cap.tenant).capsuleSeq = cap.seqNo := by
  refine ⟨_, congrArg Host.Outcome.next (State.capsule_of_accepts _ _ acc role own ok rfl reached), rfl, ?_⟩
  rw [State.tenant_congr (State.sharedDone_enclave _ _ _ _ _), State.capsuleTaken_tenant]

/-- R313, R489: the window is open whether the tenant's sessions end now or once the partner has answered. -/
theorem execReEnrol_reopens {h : CcpHdr} {e : Session} {cap : Capsule} {s : State} (acc : s.accepts h 0x34 (some 11) e = true) (role : e.role = 2)
    (own : e.tenant = cap.tenant) (ok : (s.entered h 0x34 e).capsuleStatus 6 cap = 0) (reached : (s.entered h 0x34 e).sharedCut h = false) :
    ∃ t, execReEnrol h cap s = .next t ∧ (t.tenant cap.tenant).windowOpen = true ∧ (t.tenant cap.tenant).capsuleSeq = cap.seqNo := by
  have opened (t : State) : ((t.capsuleTaken cap).updTenant cap.tenant fun e => { e with windowOpen := true }).tenant cap.tenant =
      { t.tenant cap.tenant with capsuleSeq := cap.seqNo, windowOpen := true } := by
    rw [State.tenant_updTenant_same, State.capsuleTaken_tenant]
  have done (args : List Nat) (t : State) : (t.sharedDone h 0x34 args []).tenant cap.tenant = t.tenant cap.tenant :=
    State.tenant_congr (State.sharedDone_enclave _ _ _ _ _) _
  have ended (t : State) : (t.endTenantSessions cap.tenant).tenant cap.tenant = t.tenant cap.tenant :=
    State.tenant_congr (same_of_touch (g := .enclave) (State.endTenantSessions_touch (by decide) (.refl _ _))) _
  have owing (f : Ccp → Ccp) (t : State) : (t.updCcp f).tenant cap.tenant = t.tenant cap.tenant := rfl
  unfold execReEnrol
  rw [State.ccpTake_of_tenant _ acc role own]
  refine ⟨_, rfl, ?_⟩
  dsimp only
  rw [if_neg (ne_true_of_eq_false reached), if_neg (not_not_intro ok)]
  split
  · rw [owing, done, opened]
    exact ⟨rfl, rfl⟩
  · rw [ended, done, opened]
    exact ⟨rfl, rfl⟩

/-! ### Generations (R285 to R288) -/

theorem execGenCreate_derives {h : CcpHdr} {e : Session} {handle g : Nat} {s : State} (acc : s.accepts h 0x38 (some 8) e = true)
    (ok : (s.entered h 0x38 e).enclaveNsStatus handle = 0) (keyed : s.enclave.shelfKey.isSome = true) (next : (s.ns handle).nextGen = some g)
    (reached : (s.entered h 0x38 e).sharedCut h = false) :
    ∃ t, execGenCreate h handle s = .next t ∧ ∃ u : State, u = (s.entered h 0x38 e).deriveGen handle g ∧
      t = u.sharedDone h 0x38 (handle :: g :: u.genResults handle g) (leBytes 1 g) := by
  have ready : (if (s.entered h 0x38 e).enclaveNsStatus handle ≠ 0 then (s.entered h 0x38 e).enclaveNsStatus handle
      else if (s.entered h 0x38 e).enclave.shelfKey.isNone then ccState else 0) = 0 := by
    rw [if_neg (not_not_intro ok), if_neg (by simp [Option.isSome_iff_ne_none.mp keyed])]
  unfold execGenCreate
  rw [State.ccpSimple_of_accepts _ acc]
  refine ⟨_, rfl, _, rfl, ?_⟩
  rw [State.ns_congr (s.entered_cipher h 0x38 e), next]
  dsimp only
  rw [if_pos ⟨ready, reached⟩, if_neg (by simp [State.applied_of_accepts acc])]

theorem execGenActivate_activates {h : CcpHdr} {e : Session} {handle gen : Nat} {s : State} (acc : s.accepts h 0x39 (some 8) e = true)
    (ok : (s.entered h 0x39 e).enclaveNsStatus handle = 0) (pending : (s.entered h 0x39 e).activateStatus handle gen = 0)
    (reached : (s.entered h 0x39 e).sharedCut h = false) :
    ∃ t, execGenActivate h handle gen s = .next t ∧
      t = (((s.entered h 0x39 e).applyActivate handle gen).keyReady handle).sharedDone h 0x39 [handle, gen] [] := by
  unfold execGenActivate
  rw [State.ccpSimple_of_accepts _ acc]
  refine ⟨_, rfl, ?_⟩
  dsimp only
  rw [if_pos ok, pending, State.sharedDo_zero reached]

/-- R288: a generation that may be swept is listed. -/
theorem State.sweepStatus_zero {h g : Nat} {s : State} (ok : s.sweepStatus h g = 0) : ∃ k, tfind (s.ns h).gens g = some k := by
  unfold State.sweepStatus at ok
  split at ok
  · exact ⟨_, ‹_›⟩
  · cases ok

theorem execGenSweep_sweeps {h : CcpHdr} {e : Session} {handle gen : Nat} {s : State} (acc : s.accepts h 0x3A (some 8) e = true)
    (ok : (s.entered h 0x3A e).enclaveNsStatus handle = 0) (retained : (s.entered h 0x3A e).sweepStatus handle gen = 0)
    (reached : (s.entered h 0x3A e).sharedCut h = false) :
    ∃ t, execGenSweep h handle gen s = .next t ∧ (tfind (t.ns handle).gens gen).map (·.gState) = some 4 := by
  obtain ⟨k, listed⟩ := State.sweepStatus_zero retained
  unfold execGenSweep
  rw [State.ccpSimple_of_accepts _ acc]
  refine ⟨_, rfl, ?_⟩
  dsimp only
  rw [if_pos ok, retained, State.sharedDo_zero reached, State.ns_congr (State.sharedDone_cipher _ _ _ _ _), State.sweepGen,
    State.gen_updGen_same listed]
  rfl

/-! ### The shelf key (R317) -/

/-- R494: a job of this controller alone that is allowed starts in its entry, and is answered at once. -/
theorem State.localJob_zero {h : CcpHdr} {j : Nat} {s : State} (free : s.jobFree = some j) (op arg : Nat) (f : State → State) :
    s.localJob h op 0 arg f = (f (s.jobListed h op arg j)).ccpReply h op 0 (jobData j) := by
  unfold State.localJob State.jobStart
  rw [if_neg (not_not_intro rfl), free]
  rfl

/-- R317: a rotation keeps the old shelf key beside the new one. -/
theorem State.startRotation_enclave (key : Nat) (s : State) :
    (s.startRotation key).enclave.rotating = true ∧ (s.startRotation key).enclave.oldShelfKey = s.enclave.shelfKey := by
  have headed (l : List Nat) (t : State) : (l.foldl (fun u n => u.dirHeader n) t).enclave = t.enclave :=
    same_of_touch (g := .enclave) (foldl_touch (.refl _ _) fun _ _ t => State.dirHeader_touch (by decide) t)
  unfold State.startRotation State.takeShelfKey
  dsimp only
  rw [State.updPair_enclave, headed]
  exact ⟨rfl, rfl⟩

theorem execShelfRotate_rotates {h : CcpHdr} {e : Session} {j : Nat} {s : State} (acc : s.accepts h 0x3B (some 20) e = true)
    (mode : s.modes.mode = .m2) (idle : s.enclave.rotating = false) (noJob : (s.entered h 0x3B e).jobRunning 0x3B = false)
    (keyed : s.enclave.shelfKey.isSome = true) (free : (s.entered h 0x3B e).jobFree = some j) :
    ∃ t, execShelfRotate h s = .next t ∧ t.enclave.rotating = true ∧ t.enclave.oldShelfKey = s.enclave.shelfKey ∧ t.jobRuns h j 0x3B 0 := by
  have solo : ((s.entered h 0x3B e).jobListed h 0x3B 0 j).paired = false := by
    simp [State.paired, State.jobListed, mode]
  have enclave : ((s.entered h 0x3B e).jobListed h 0x3B 0 j).enclave = s.enclave := s.entered_enclave h 0x3B e
  have replied (t : State) : (t.ccpReply h 0x3B 0 (jobData j)).enclave = t.enclave :=
    same_of_touch (g := .enclave) (State.ccpReply_touch (by decide) (.refl _ _))
  unfold execShelfRotate
  rw [State.ccpSimple_of_accepts _ acc]
  refine ⟨_, rfl, ?_⟩
  rw [if_neg (by simp [mode]), if_neg (by simp [idle, noJob]), if_neg (by simp [Option.isSome_iff_ne_none.mp keyed]), State.localJob_zero free,
    if_neg (ne_true_of_eq_false solo)]
  obtain ⟨rotating, old⟩ := State.startRotation_enclave (((s.entered h 0x3B e).jobListed h 0x3B 0 j).drawn 256)
    ((s.entered h 0x3B e).jobListed h 0x3B 0 j).draw
  refine ⟨?_, ?_, ?_⟩
  · rw [replied, rotating]
  · rw [replied, old]
    exact congrArg (·.shelfKey) enclave
  · obtain ⟨sessions, long, ccp⟩ := State.ccpReply_ccp h 0x3B 0 (jobData j) (((s.entered h 0x3B e).jobListed h 0x3B 0 j).draw.startRotation
      (((s.entered h 0x3B e).jobListed h 0x3B 0 j).drawn 256))
    rw [State.jobRuns, ccp]
    dsimp only
    rw [show (State.startRotation _ _).ccp = _ from same_of_touch (g := .ccp) (State.startRotation_touch (by decide) (.refl _ _))]
    exact tfind_tput_same _ j _

/-! ### Delegation (R524) -/

/-- R524: the word of a tenant's delegation has groups 7 and 8 in its highest two bits, and fits an object. -/
theorem delegateWord_eq : ∀ groups < 4, flag (groups.testBit 0) * 2 ^ 63 + flag (groups.testBit 1) * 2 ^ 62 =
    groups % 2 * 2 ^ 63 + groups / 2 * 2 ^ 62 ∧ groups % 2 * 2 ^ 63 + groups / 2 * 2 ^ 62 < 2 ^ 64 := by
  decide

theorem execDelegate_writes {h : CcpHdr} {e : Session} {tenant groups : Nat} {s : State} (acc : s.accepts h 0x60 (some 19) e = true)
    (isTenant : tenant ≤ 4095) (isGroups : groups < 4) (reached : (s.entered h 0x60 e).sharedCut h = false) :
    ∃ t, execDelegate h tenant groups s = .next t ∧ t.word (oid 13 5 tenant) = groups % 2 * 2 ^ 63 + groups / 2 * 2 ^ 62 := by
  obtain ⟨word, fits⟩ := delegateWord_eq groups isGroups
  unfold execDelegate
  rw [State.ccpSimple_of_accepts _ acc]
  refine ⟨_, rfl, ?_⟩
  dsimp only
  rw [if_neg (Nat.not_lt.mpr isTenant), if_neg (Nat.not_le.mpr isGroups), State.sharedDo_zero reached,
    State.word_congr (same_of_touch (g := .regs) (State.sharedDone_touch (by decide) (.refl _ _)))
      (same_of_touch (g := .den) (State.sharedDone_touch (by decide) (.refl _ _))), word, word_setWord_same _ _ fits]

/-- Settles O59. Each clause is the lemma of its command. The message in which a shared change goes to the partner, before whose acknowledgement there
is no answer (log 18), and the storing of CAPSULE_SEQ with the capsule carried out alone (log 58) are the model's own choices. RE_ENROL is proved as the
model has it: the window is open from then on, though log 58 words it as reopened by ENROL_OPEN. -/
theorem completesTenantsB : Obligations.CompletesTenantsB :=
  ⟨fun _ _ _ _ => execEraseNs_erases,
   fun _ _ _ _ => execReEnrol_reopens,
   fun _ _ _ _ _ => execGenCreate_derives,
   fun _ _ _ _ _ => execGenActivate_activates,
   fun _ _ _ _ _ => execGenSweep_sweeps,
   fun _ _ _ _ => execShelfRotate_rotates,
   fun _ _ _ _ _ => execDelegate_writes⟩

end Sys2Proof.Machine

namespace Sys2Proof.Machine

/-! ## The frame of every command, and the invariant of the block (O3, O6) -/

/-! ### Lists of groups as masks -/

/-- The mask of the groups listed. -/
def groupMask (l : List Grp) : Nat := l.foldr (fun g m => 2 ^ g.num ||| m) 0

theorem Grp.num_injective {g g' : Grp} (same : g.num = g'.num) : g = g' := by
  have back : ∀ x : Grp, Grp.ofNat x.num = x := fun x => by cases x <;> rfl
  rw [← back g, same, back]

theorem groupMask_testBit {l : List Grp} {g : Grp} (out : l.contains g = false) : (groupMask l).testBit g.num = false := by
  induction l with
  | nil => exact Nat.zero_testBit _
  | cons x xs ih =>
    simp only [List.contains_cons, Bool.or_eq_false_iff, beq_eq_false_iff_ne] at out
    have other : x.num ≠ g.num := fun same => out.1 (Grp.num_injective same).symm
    calc (2 ^ x.num ||| groupMask xs).testBit g.num = ((2 ^ x.num).testBit g.num || (groupMask xs).testBit g.num) := Nat.testBit_or ..
      _ = false := by rw [ih out.2, Nat.testBit_two_pow_of_ne other, Bool.or_false]

/-! ### The frame of every command -/

/-- The frame of a command is that of its meaning: each arm cites the lemma of Laws/Touch*.lean for the meaning that the command has. -/
theorem exec_touch {i : Instr} {s t : State} (done : exec i s = .next t) : Touch (groupMask (footprint i)) s t := by
  cases i with
  | flitArrival => exact execFlitArrival_touch done
  | islandIdleExpiry => exact execIslandIdleExpiry_touch done
  | arbiterGrant => exact execArbiterGrant_touch done
  | idleLevelTimer => exact execIdleLevelTimer_touch done
  | denEntryStart => exact execDenEntryStart_touch done
  | denCommitTimeout => exact execDenCommitTimeout_touch done
  | driveShutdownComplete => exact execDriveShutdownComplete_touch done
  | driveShutdownTimeout => exact execDriveShutdownTimeout_touch done
  | denCommit => exact execDenCommit_touch done
  | wakeFrame => exact execWakeFrame_touch done
  | denWakeTimerExpiry => exact execDenWakeTimerExpiry_touch done
  | settWakeInAssert => exact execSettWakeInAssert_touch done
  | setFeaturesPowerMgmt => exact execSetFeaturesPowerMgmt_touch done
  | powerStateEntryEnd => exact execPowerStateEntryEnd_touch done
  | frameReceive => exact execFrameReceive_touch done
  | pfcXoffRefresh => exact execPfcXoffRefresh_touch done
  | pfcFrameReceive => exact execPfcFrameReceive_touch done
  | pfcPauseExpiry => exact execPfcPauseExpiry_touch done
  | pfcWdTrip => exact execPfcWdTrip_touch done
  | pfcWdRestore => exact execPfcWdRestore_touch done
  | lldpReceive => exact execLldpReceive_touch done
  | lldpTransmit => exact execLldpTransmit_touch done
  | lacpduReceive _ _ collecting => exact execLacpduReceive_touch (_collecting := collecting) done
  | lacpPeriodic => exact execLacpPeriodic_touch done
  | gateIntervalEnd => exact execGateIntervalEnd_touch done
  | egressDispatch => exact execEgressDispatch_touch done
  | frameTransmitEnd => exact execFrameTransmitEnd_touch done
  | portLinkUp => exact execPortLinkUp_touch done
  | portLinkDown => exact execPortLinkDown_touch done
  | bucketMoveCommit => exact execBucketMoveCommit_touch done
  | bucketMoveTimeout => exact execBucketMoveTimeout_touch done
  | stepWindowEnd => exact execStepWindowEnd_touch done
  | stepUpEval => exact execStepUpEval_touch done
  | stepPhaseTimeout => exact execStepPhaseTimeout_touch done
  | stepDrainComplete => exact execStepDrainComplete_touch done
  | attachRetryTimer => exact execAttachRetryTimer_touch done
  | cmDatagram => exact execCmDatagram_touch done
  | roceRequestPacket => exact execRoceRequestPacket_touch done
  | contextWritebackCommit => exact execContextWritebackCommit_touch done
  | contextFillComplete => exact execContextFillComplete_touch done
  | pushWritePacket => exact execPushWritePacket_touch done
  | roceAckReceive => exact execRoceAckReceive_touch done
  | roceReadResponse => exact execRoceReadResponse_touch done
  | roceCnpReceive => exact execRoceCnpReceive_touch done
  | roceAckTimeout => exact execRoceAckTimeout_touch done
  | roceRnrDelayEnd => exact execRoceRnrDelayEnd_touch done
  | tcpSynReceive => exact execTcpSynReceive_touch done
  | tcpSegmentReceive => exact execTcpSegmentReceive_touch done
  | icreqReceive => exact execIcreqReceive_touch done
  | h2cdataReceive => exact execH2cdataReceive_touch done
  | h2ctermreqReceive => exact execH2ctermreqReceive_touch done
  | tcpRtoExpiry => exact execTcpRtoExpiry_touch done
  | delayedAckTimer => exact execDelayedAckTimer_touch done
  | openingTimeout => exact execOpeningTimeout_touch done
  | drainingCloseTimeout => exact execDrainingCloseTimeout_touch done
  | quarantineEnd => exact execQuarantineEnd_touch done
  | pushHoldExpiry => exact execPushHoldExpiry_touch done
  | connect => exact execConnect_touch done
  | propertyGet => exact execPropertyGet_touch done
  | propertySet => exact execPropertySet_touch done
  | disconnect => exact execDisconnect_touch done
  | identify => exact execIdentify_touch done
  | getLogPage => exact execGetLogPage_touch done
  | setFeaturesArbitration => exact execSetFeaturesArbitration_touch done
  | setFeaturesNumQueues => exact execSetFeaturesNumQueues_touch done
  | setFeaturesWriteAtomicity _ value => exact execSetFeaturesWriteAtomicity_touch (_value := value) done
  | setFeaturesAsyncEventCfg => exact execSetFeaturesAsyncEventCfg_touch done
  | setFeaturesPushWindows => exact execSetFeaturesPushWindows_touch done
  | getFeatures => exact execGetFeatures_touch done
  | abort => exact execAbort_touch done
  | asyncEventRequest => exact execAsyncEventRequest_touch done
  | keepAlive => exact execKeepAlive_touch done
  | keepAliveExpiry => exact execKeepAliveExpiry_touch done
  | commandCapsule => exact execCommandCapsule_touch done
  | read => exact execRead_touch done
  | write => exact execWrite_touch done
  | flush => exact execFlush_touch done
  | compare => exact execCompare_touch done
  | writeZeroes => exact execWriteZeroes_touch done
  | datasetManagement => exact execDatasetManagement_touch done
  | verify => exact execVerify_touch done
  | slotRelease => exact execSlotRelease_touch done
  | replayRecordExpiry => exact execReplayRecordExpiry_touch done
  | saturationSample => exact execSaturationSample_touch done
  | deferReleaseScan => exact execDeferReleaseScan_touch done
  | stampRequest => exact execStampRequest_touch done
  | stampReply => exact execStampReply_touch done
  | go _ part => exact execGo_touch (_part := part) done
  | withdrawal => exact execWithdrawal_touch done
  | withdrawalReply => exact execWithdrawalReply_touch done
  | stampRecord => exact execStampRecord_touch done
  | stampRecordConfirmation => exact execStampRecordConfirmation_touch done
  | fenceExpiry => exact execFenceExpiry_touch done
  | readPinExpiry => exact execReadPinExpiry_touch done
  | autoBalanceMove => exact execAutoBalanceMove_touch done
  | leaseDrainComplete => exact execLeaseDrainComplete_touch done
  | leaseMoveTimeout => exact execLeaseMoveTimeout_touch done
  | leasePhase => exact execLeasePhase_touch done
  | handover => exact execHandover_touch done
  | epochRaise => exact execEpochRaise_touch done
  | larderSlotReserve => exact execLarderSlotReserve_touch done
  | larderPlacement => exact execLarderPlacement_touch done
  | mirrorRecord => exact execMirrorRecord_touch done
  | mirrorConfirmation => exact execMirrorConfirmation_touch done
  | release => exact execRelease_touch done
  | releaseBatchTimer => exact execReleaseBatchTimer_touch done
  | synchronisationCopy => exact execSynchronisationCopy_touch done
  | forwardedData => exact execForwardedData_touch done
  | placementConfirmation => exact execPlacementConfirmation_touch done
  | destagePick => exact execDestagePick_touch done
  | coalesceTimeout => exact execCoalesceTimeout_touch done
  | destageAgeExpiry => exact execDestageAgeExpiry_touch done
  | destageIntentDurable => exact execDestageIntentDurable_touch done
  | destageWritesComplete => exact execDestageWritesComplete_touch done
  | bitmapCleanTimer => exact execBitmapCleanTimer_touch done
  | journalBlock => exact execJournalBlock_touch done
  | journalDriveReplace => exact execJournalDriveReplace_touch done
  | bothFeedsLost => exact execBothFeedsLost_touch done
  | holdupComplete => exact execHoldupComplete_touch done
  | missingWaitExpiry => exact execMissingWaitExpiry_touch done
  | rebuildStripe => exact execRebuildStripe_touch done
  | resyncRowGroup => exact execResyncRowGroup_touch done
  | copybackRow => exact execCopybackRow_touch done
  | stripeLockGrant => exact execStripeLockGrant_touch done
  | reshapeStep => exact execReshapeStep_touch done
  | badgerStripe => exact execBadgerStripe_touch done
  | sweepStart => exact execSweepStart_touch done
  | keyUnwrapComplete => exact execKeyUnwrapComplete_touch done
  | ctrStepDurable => exact execCtrStepDurable_touch done
  | generationActivation => exact execGenerationActivation_touch done
  | dupWindow => exact execDupWindow_touch done
  | knownAnswerCheck => exact execKnownAnswerCheck_touch done
  | securityFault => exact execSecurityFault_touch done
  | keyErasure => exact execKeyErasure_touch done
  | debugAccessAttempt => exact execDebugAccessAttempt_touch done
  | coreLockstepMismatch => exact execCoreLockstepMismatch_touch done
  | keyDerivationComplete => exact execKeyDerivationComplete_touch done
  | driveDispatch => exact execDriveDispatch_touch done
  | backgroundDispatch => exact execBackgroundDispatch_touch done
  | shaperSlotFire => exact execShaperSlotFire_touch done
  | settAckReceive => exact execSettAckReceive_touch done
  | settResendTimeout => exact execSettResendTimeout_touch done
  | settAlignmentLoss => exact execSettAlignmentLoss_touch done
  | owlBeatTimer => exact execOwlBeatTimer_touch done
  | beat => exact execBeat_touch done
  | partnerSilenceExpiry => exact execPartnerSilenceExpiry_touch done
  | settSilenceExpiry => exact execSettSilenceExpiry_touch done
  | networkSilenceExpiry => exact execNetworkSilenceExpiry_touch done
  | cutLinkNotice => exact execCutLinkNotice_touch done
  | quorumWindowExpiry => exact execQuorumWindowExpiry_touch done
  | takeoverClaim => exact execTakeoverClaim_touch done
  | connectionAdopt => exact execConnectionAdopt_touch done
  | hello => exact execHello_touch done
  | evidence => exact execEvidence_touch done
  | keyExchange => exact execKeyExchange_touch done
  | synchronisationEnd => exact execSynchronisationEnd_touch done
  | connectionShadow => exact execConnectionShadow_touch done
  | positionUpdate => exact execPositionUpdate_touch done
  | commandShadow => exact execCommandShadow_touch done
  | stampUpdate => exact execStampUpdate_touch done
  | sendRecord => exact execSendRecord_touch done
  | commandEnd => exact execCommandEnd_touch done
  | fabricControllerShadow => exact execFabricControllerShadow_touch done
  | pushShadow => exact execPushShadow_touch done
  | settLinkUp => exact execSettLinkUp_touch done
  | drivePortBringup => exact execDrivePortBringup_touch done
  | driveEnumStepComplete => exact execDriveEnumStepComplete_touch done
  | driveEnumStepTimeout => exact execDriveEnumStepTimeout_touch done
  | driveInboundRequest => exact execDriveInboundRequest_touch done
  | driveCompletion => exact execDriveCompletion_touch done
  | driveDeadlineScan => exact execDriveDeadlineScan_touch done
  | driveStallExpiry => exact execDriveStallExpiry_touch done
  | cstsPoll => exact execCstsPoll_touch done
  | pcieReadTimeout => exact execPcieReadTimeout_touch done
  | driveUncorrError => exact execDriveUncorrError_touch done
  | driveLinkDown => exact execDriveLinkDown_touch done
  | driveCorrError => exact execDriveCorrError_touch done
  | releasePerstEnd => exact execReleasePerstEnd_touch done
  | driveL1Idle => exact execDriveL1Idle_touch done
  | reservationWaitExpiry => exact execReservationWaitExpiry_touch done
  | slotPresenceAssert => exact execSlotPresenceAssert_touch done
  | slotSeated => exact execSlotSeated_touch done
  | slotPresenceLost => exact execSlotPresenceLost_touch done
  | slotSample => exact execSlotSample_touch done
  | slotFaultTimer => exact execSlotFaultTimer_touch done
  | slotOvercurrentTimer => exact execSlotOvercurrentTimer_touch done
  | slotTrip => exact execSlotTrip_touch done
  | slotCooldownEnd => exact execSlotCooldownEnd_touch done
  | slotEmptyClear => exact execSlotEmptyClear_touch done
  | slotPoweredClear => exact execSlotPoweredClear_touch done
  | drvPerstDeassert => exact execDrvPerstDeassert_touch done
  | followerGateClose => exact execFollowerGateClose_touch done
  | cycleOffEnd => exact execCycleOffEnd_touch done
  | feedLoss => exact execFeedLoss_touch done
  | feedReverseCurrent => exact execFeedReverseCurrent_touch done
  | feedGood => exact execFeedGood_touch done
  | estoreTestStart => exact execEstoreTestStart_touch done
  | estoreTestMeasureEnd => exact execEstoreTestMeasureEnd_touch done
  | estoreTestTimeout => exact execEstoreTestTimeout_touch done
  | estoreChargeTimeout => exact execEstoreChargeTimeout_touch done
  | estoreOverCeiling => exact execEstoreOverCeiling_touch done
  | larderLimitRecompute => exact execLarderLimitRecompute_touch done
  | partnerNcoverPoll => exact execPartnerNcoverPoll_touch done
  | eyeSample => exact execEyeSample_touch done
  | hbmCeSample => exact execHbmCeSample_touch done
  | driveRiskSample => exact execDriveRiskSample_touch done
  | fuseMarginCheck => exact execFuseMarginCheck_touch done
  | lpPerstAssert => exact execLpPerstAssert_touch done
  | lpPerstDeassert => exact execLpPerstDeassert_touch done
  | lpBmeClear => exact execLpBmeClear_touch done
  | lpD3hotEntry => exact execLpD3hotEntry_touch done
  | lpCcEnable => exact execLpCcEnable_touch done
  | lpCcDisable => exact execLpCcDisable_touch done
  | lpCcShutdown => exact execLpCcShutdown_touch done
  | lpDoorbell => exact execLpDoorbell_touch done
  | lpBarBadAccess => exact execLpBarBadAccess_touch done
  | lpMboxDoorbell => exact execLpMboxDoorbell_touch done
  | lpVectorUnmask => exact execLpVectorUnmask_touch done
  | lpUncorrError => exact execLpUncorrError_touch done
  | lpHotReset => exact execLpHotReset_touch done
  | lpLinkDown => exact execLpLinkDown_touch done
  | lpAutoRelease => exact execLpAutoRelease_touch done
  | lpIdleTimer => exact execLpIdleTimer_touch done
  | lpLtrHoldEnd => exact execLpLtrHoldEnd_touch done
  | localLinkUp => exact execLocalLinkUp_touch done
  | hostMemoryReadCompletion => exact execHostMemoryReadCompletion_touch done
  | ccpPacketDiscard => exact execCcpPacketDiscard_touch done
  | getInfo => exact execGetInfo_touch done
  | sessionOpen => exact execSessionOpen_touch done
  | sessionAuth => exact execSessionAuth_touch done
  | sessionAuthTimeout => exact execSessionAuthTimeout_touch done
  | sessionHoldoffEnd => exact execSessionHoldoffEnd_touch done
  | sessionClose => exact execSessionClose_touch done
  | sessionIdleExpiry => exact execSessionIdleExpiry_touch done
  | nop => exact execNop_touch done
  | getEvidence => exact execGetEvidence_touch done
  | getCert => exact execGetCert_touch done
  | spdmGetVersion => exact execSpdmGetVersion_touch done
  | spdmGetCapabilities => exact execSpdmGetCapabilities_touch done
  | spdmNegotiateAlgorithms => exact execSpdmNegotiateAlgorithms_touch done
  | spdmGetDigests => exact execSpdmGetDigests_touch done
  | spdmGetCertificate => exact execSpdmGetCertificate_touch done
  | spdmChallenge => exact execSpdmChallenge_touch done
  | spdmGetMeasurements => exact execSpdmGetMeasurements_touch done
  | nvmeMiCommand => exact execNvmeMiCommand_touch done
  | eventSubscribe => exact execEventSubscribe_touch done
  | readLong => exact execReadLong_touch done
  | readObj => exact execReadObj_touch done
  | writeObj => exact execWriteObj_touch done
  | stage => exact execStage_touch done
  | cvuClaim => exact execCvuClaim_touch done
  | cvuFeed => exact execCvuFeed_touch done
  | cvuRelease => exact execCvuRelease_touch done
  | cvuInit => exact execCvuInit_touch done
  | poolCreate => exact execPoolCreate_touch done
  | poolDelete => exact execPoolDelete_touch done
  | driveFormat => exact execDriveFormat_touch done
  | nsCreate => exact execNsCreate_touch done
  | nsCreatePlain => exact execNsCreatePlain_touch done
  | nsDelete => exact execNsDelete_touch done
  | nsDeletePlain => exact execNsDeletePlain_touch done
  | cryptoErase => exact execCryptoErase_touch done
  | tenantCreate => exact execTenantCreate_touch done
  | tenantRemove => exact execTenantRemove_touch done
  | enrolOpen => exact execEnrolOpen_touch done
  | enrol => exact execEnrol_touch done
  | keyImport => exact execKeyImport_touch done
  | attach => exact execAttach_touch done
  | activate => exact execActivate_touch done
  | sweep => exact execSweep_touch done
  | eraseNs => exact execEraseNs_touch done
  | reEnrol => exact execReEnrol_touch done
  | genCreate => exact execGenCreate_touch done
  | genActivate => exact execGenActivate_touch done
  | genSweep => exact execGenSweep_touch done
  | shelfRotate => exact execShelfRotate_touch done
  | fwLoad => exact execFwLoad_touch done
  | fwCommit => exact execFwCommit_touch done
  | rollbackAdvance => exact execRollbackAdvance_touch done
  | reset => exact execReset_touch done
  | diagRun => exact execDiagRun_touch done
  | lifecycleStep => exact execLifecycleStep_touch done
  | rootBirth => exact execRootBirth_touch done
  | unlockChallenge => exact execUnlockChallenge_touch done
  | debugUnlock => exact execDebugUnlock_touch done
  | lockdownClear => exact execLockdownClear_touch done
  | delegate => exact execDelegate_touch done
  | jobComplete => exact execJobComplete_touch done
  | bwWindowWrite => exact execBwWindowWrite_touch done
  | bwWindowEnd => exact execBwWindowEnd_touch done
  | ccpRelay => exact execCcpRelay_touch done
  | contain => exact execContain_touch done
  | drivePortRelease => exact execDrivePortRelease_touch done
  | clearRetry => exact execClearRetry_touch done
  | cycle => exact execCycle_touch done
  | freeze => exact execFreeze_touch done
  | localPortRelease => exact execLocalPortRelease_touch done
  | leaseMove => exact execLeaseMove_touch done
  | memberFail => exact execMemberFail_touch done
  | reshapeStart => exact execReshapeStart_touch done
  | reshapePause => exact execReshapePause_touch done
  | shaperConfigWrite => exact execShaperConfigWrite_touch done
  | meterConfigWrite => exact execMeterConfigWrite_touch done
  | estoreCfgWrite => exact execEstoreCfgWrite_touch done
  | unpair => exact execUnpair_touch done
  | retirePartner => exact execRetirePartner_touch done
  | quorumOverride => exact execQuorumOverride_touch done
  | alwaysOnSupplyRise => exact execAlwaysOnSupplyRise_touch done
  | alwaysOnSupplyLoss => exact execAlwaysOnSupplyLoss_touch done
  | hbmPgAssert => exact execHbmPgAssert_touch done
  | corePgAssert => exact execCorePgAssert_touch done
  | powerGoodTimeout => exact execPowerGoodTimeout_touch done
  | powerRetryTimer => exact execPowerRetryTimer_touch done
  | resetNAssert => exact execResetNAssert_touch done
  | resetNRise => exact execResetNRise_touch done
  | railExcursion => exact execRailExcursion_touch done
  | clockFault => exact execClockFault_touch done
  | internalFault => exact execInternalFault_touch done
  | controlWatchdogExpiry => exact execControlWatchdogExpiry_touch done
  | hbmTrainingComplete => exact execHbmTrainingComplete_touch done
  | resetWipeComplete => exact execResetWipeComplete_touch done
  | imageLoadComplete => exact execImageLoadComplete_touch done
  | firmwareStartTimeout => exact execFirmwareStartTimeout_touch done
  | importStart => exact execImportStart_touch done
  | modeDecision => exact execModeDecision_touch done
  | pairWaitExpiry => exact execPairWaitExpiry_touch done
  | configImageWrite => exact execConfigImageWrite_touch done
  | cpmSample => exact execCpmSample_touch done
  | avsRetryTimer => exact execAvsRetryTimer_touch done
  | thermalSample => exact execThermalSample_touch done
  | timeSample => exact execTimeSample_touch done

/-- A completed command leaves a group alone that its footprint does not list. -/
theorem exec_same {i : Instr} {s t : State} {g : Grp} (done : exec i s = .next t) (out : (footprint i).contains g = false) : g.same s t :=
  (exec_touch done).out g (groupMask_testBit out)

/-! ### The invariant (R324, R502, R529) -/

theorem sound_congr {s t : State} (fuses : t.fuses = s.fuses) (images : t.images = s.images) (regs : t.regs = s.regs) (inv : sound s) : sound t where
  fuses := fuses ▸ inv.fuses
  images := images ▸ inv.images
  regs := by
    unfold regsCanonical
    rw [regs]
    exact inv.regs

/-- The split over the commands: those whose footprint lists the fuses, the image store or the register file, of which each keeps the invariant by a
lemma of its own (Laws/Sound.lean); and all others, which keep it because they leave these groups alone. -/
theorem exec_sound {i : Instr} {s t : State} (done : exec i s = .next t) (inv : sound s) : sound t := by
  cases i with
  | flitArrival => exact execFlitArrival_sound done inv
  | journalBlock => exact execJournalBlock_sound done inv
  | journalDriveReplace => exact execJournalDriveReplace_sound done inv
  | holdupComplete => exact execHoldupComplete_sound done inv
  | reshapeStep => exact execReshapeStep_sound done inv
  | quorumWindowExpiry => exact execQuorumWindowExpiry_sound done inv
  | driveCompletion => exact execDriveCompletion_sound done inv
  | writeObj => exact execWriteObj_sound done inv
  | cvuInit => exact execCvuInit_sound done inv
  | tenantRemove => exact execTenantRemove_sound done inv
  | fwCommit => exact execFwCommit_sound done inv
  | rollbackAdvance => exact execRollbackAdvance_sound done inv
  | reset => exact execReset_sound done inv
  | lifecycleStep => exact execLifecycleStep_sound done inv
  | rootBirth => exact execRootBirth_sound done inv
  | delegate => exact execDelegate_sound done inv
  | jobComplete => exact execJobComplete_sound done inv
  | bwWindowWrite => exact execBwWindowWrite_sound done inv
  | contain => exact execContain_sound done inv
  | drivePortRelease => exact execDrivePortRelease_sound done inv
  | clearRetry => exact execClearRetry_sound done inv
  | cycle => exact execCycle_sound done inv
  | freeze => exact execFreeze_sound done inv
  | localPortRelease => exact execLocalPortRelease_sound done inv
  | leaseMove => exact execLeaseMove_sound done inv
  | reshapeStart => exact execReshapeStart_sound done inv
  | reshapePause => exact execReshapePause_sound done inv
  | shaperConfigWrite => exact execShaperConfigWrite_sound done inv
  | meterConfigWrite => exact execMeterConfigWrite_sound done inv
  | estoreCfgWrite => exact execEstoreCfgWrite_sound done inv
  | alwaysOnSupplyLoss => exact execAlwaysOnSupplyLoss_sound done inv
  | corePgAssert => exact execCorePgAssert_sound done inv
  | resetNAssert => exact execResetNAssert_sound done inv
  | railExcursion => exact execRailExcursion_sound done inv
  | clockFault => exact execClockFault_sound done inv
  | internalFault => exact execInternalFault_sound done inv
  | controlWatchdogExpiry => exact execControlWatchdogExpiry_sound done inv
  | hbmTrainingComplete => exact execHbmTrainingComplete_sound done inv
  | imageLoadComplete => exact execImageLoadComplete_sound done inv
  | firmwareStartTimeout => exact execFirmwareStartTimeout_sound done inv
  | importStart => exact execImportStart_sound done inv
  | cpmSample => exact execCpmSample_sound done inv
  | thermalSample => exact execThermalSample_sound done inv
  | _ =>
    exact sound_congr (exec_same (g := .fuses) done rfl) (exec_same (g := .images) done rfl) (exec_same (g := .regs) done rfl) inv

/-- Settles O3. The clock that passes on an empty queue, and the taking of a command off the queue, leave fuses, images and register file alone; the
command then keeps the invariant by `exec_sound`. That a count of failed starts stays at most 2 (log 77), and the canonical form of tables (log 90),
are the model's own choices. -/
theorem stepKeepsSound : Obligations.StepKeepsSound := by
  intro s t inv done
  unfold step at done
  split at done
  next => exact next_inj done ▸ sound_congr (s := s) rfl rfl rfl inv
  next => exact exec_sound done (sound_congr (s := s) rfl rfl rfl inv)

/-! ### The commands that change fuses or images (R321, R327, R500, R529) -/

theorem footprint_of_changed {i : Instr} {s t : State} {g : Grp} (done : exec i s = .next t) (changed : ¬ g.same s t) :
    (footprint i).contains g = true :=
  eq_true_of_ne_false fun out => changed (exec_same done out)

theorem command_of_fuses_footprint {i : Instr} (listed : (footprint i).contains .fuses = true) :
    (∃ h target prov, i = .lifecycleStep h target prov) ∨ (∃ h, i = .rootBirth h) ∨ ∃ h count, i = .rollbackAdvance h count := by
  cases i with
  | lifecycleStep => exact .inl ⟨_, _, _, rfl⟩
  | rootBirth => exact .inr (.inl ⟨_, rfl⟩)
  | rollbackAdvance => exact .inr (.inr ⟨_, _, rfl⟩)
  | _ => exact absurd (show false = true from listed) Bool.false_ne_true

theorem command_of_images_footprint {i : Instr} (listed : (footprint i).contains .images = true) :
    (∃ h length image, i = .fwCommit h length image) ∨ (∃ job status, i = .jobComplete job status) ∨ i = .firmwareStartTimeout ∨
      ∃ pools conf quorum, i = .importStart pools conf quorum := by
  cases i with
  | fwCommit => exact .inl ⟨_, _, _, rfl⟩
  | jobComplete => exact .inr (.inl ⟨_, _, rfl⟩)
  | firmwareStartTimeout => exact .inr (.inr (.inl rfl))
  | importStart => exact .inr (.inr (.inr ⟨_, _, _, rfl⟩))
  | _ => exact absurd (show false = true from listed) Bool.false_ne_true

/-- Settles O6, by the frame of every command: what a command changes is in its footprint. -/
theorem fusesAndImagesChangeOnlyBy : Obligations.FusesAndImagesChangeOnlyBy :=
  ⟨fun _ _ _ done changed => command_of_fuses_footprint (footprint_of_changed (g := .fuses) done changed),
   fun _ _ _ done changed => command_of_images_footprint (footprint_of_changed (g := .images) done changed)⟩

end Sys2Proof.Machine

namespace Sys2Proof.Machine

/-! ## What becomes of fuses (O7, O8, O9) -/

/-! ### A request runs, or it does not (R483) -/

/-- What a request comes to from a state `b`: `t` differs from `b` at most in the groups of `m`; or the request has run on a state that does, and `t`
differs at most in these groups from what it left. -/
def State.RunsOrNot (m : Nat) (b : State) (run : State → State) (t : State) : Prop :=
  Touch m b t ∨ ∃ u, Touch m b u ∧ Touch m (run u) t

section
variable {h : CcpHdr} {op : Nat} {group : Option Nat} {perm : Session → Nat} {run : State → State} {m : Nat} {b s : State}

theorem State.ccpRun_runsOrNot {e : Option Session} {refusal : Nat} (hm : Nat.land 74579968 m = 74579968) (before : Touch m b s) :
    State.RunsOrNot m b run (s.ccpRun h op group e refusal run) := by
  have failed (status : Nat) : State.RunsOrNot m b run (s.ccpFail h op status) := .inl (State.ccpFail_touch hm before)
  unfold State.ccpRun
  split
  · exact failed _
  split
  · exact failed _
  split
  · exact failed _
  split
  · exact failed _
  · exact .inr ⟨_, State.bump_touch (sub_trans (by decide) hm) before, .refl _ _⟩

theorem State.RunsOrNot.dropSession (ran : State.RunsOrNot m b run s) (id : Nat) (hm : Nat.land 2097152 m = 2097152) :
    State.RunsOrNot m b run (s.dropSession id) :=
  ran.imp (State.dropSession_touch hm) fun ⟨u, before, after⟩ => ⟨u, before, State.dropSession_touch hm after⟩

theorem State.ccpAccepted_runsOrNot {e : Session} (hm : Nat.land 74579968 m = 74579968) (before : Touch m b s) :
    State.RunsOrNot m b run (s.ccpAccepted h op group perm e run) := by
  have taking (f : Session → Session) : Touch m b (s.updSession h.session f) := State.updSession_touch (sub_trans (by decide) hm) before
  unfold State.ccpAccepted
  dsimp only
  split
  · exact (State.ccpRun_runsOrNot hm (taking _)).dropSession _ (sub_trans (by decide) hm)
  · exact State.ccpRun_runsOrNot hm (taking _)

theorem State.ccpInSession_runsOrNot (hm : Nat.land 74579968 m = 74579968) (before : Touch m b s) :
    State.RunsOrNot m b run (s.ccpInSession h op group perm run) := by
  have refused (status : Nat) : State.RunsOrNot m b run (s.ccpRefuse h op status) := .inl (State.ccpRefuse_touch (sub_trans (by decide) hm) before)
  have notAlive (e : Session) : State.RunsOrNot m b run (s.ccpNotAlive h op e) := .inl (State.ccpNotAlive_touch (sub_trans (by decide) hm) before)
  unfold State.ccpInSession
  split
  · exact refused _
  split
  · exact refused _
  split
  · exact refused _
  split
  · exact State.ccpAccepted_runsOrNot hm before
  split
  · split
    · exact .inl (State.ccpResend_touch (sub_trans (by decide) hm) before)
    split
    · exact .inl (State.mboxSilent_touch (sub_trans (by decide) hm) before)
    · exact notAlive _
  · exact notAlive _

theorem State.ccpTake_runsOrNot (hm : Nat.land 74580097 m = 74580097) : State.RunsOrNot m s run (s.ccpTake h op group perm run) := by
  have arrived : Touch m s s.arrived := s.arrived_touch (sub_trans (by decide) hm)
  have refused (status : Nat) : State.RunsOrNot m s run (s.arrived.ccpRefuse h op status) :=
    .inl (State.ccpRefuse_touch (sub_trans (by decide) hm) arrived)
  unfold State.ccpTake
  split
  · unfold State.settIn
    split
    · exact .inr ⟨_, State.settGot_touch (sub_trans (by decide) hm) (.refl _ _), .refl _ _⟩
    · exact .inl (.refl _ _)
  split
  · exact .inl (State.ccpWake_touch (sub_trans (by decide) hm) (.refl _ _))
  split
  · exact .inl (.refl _ _)
  dsimp only
  split
  · exact .inl (State.ccpForward_touch (sub_trans (by decide) hm) arrived)
  split
  · exact refused _
  split
  · split
    · exact refused _
    split
    · exact refused _
    · exact State.ccpRun_runsOrNot (sub_trans (by decide) hm) (ite_touch arrived (State.updCcp_touch (sub_trans (by decide) hm) arrived))
  · exact State.ccpInSession_runsOrNot (sub_trans (by decide) hm) arrived

/-- Of the fuses a request changes what its effect changes, and nothing where it does not run. -/
theorem State.ccpSimple_fuses : (s.ccpSimple h op group run).fuses = s.fuses ∨
    ∃ u : State, u.fuses = s.fuses ∧ (s.ccpSimple h op group run).fuses = (run u).fuses :=
  (State.ccpTake_runsOrNot (m := allBut .fuses) (by decide)).imp (same_of_touch (g := .fuses)) fun ⟨u, before, after⟩ =>
    ⟨u, same_of_touch (g := .fuses) before, same_of_touch (g := .fuses) after⟩

end

/-! ### The three changes of fuses (R323, R324, R327) -/

@[simp] theorem State.ccpReply_fuses (h : CcpHdr) (op status : Nat) (data : Bytes) (s : State) : (s.ccpReply h op status data).fuses = s.fuses :=
  same_of_touch (g := .fuses) (State.ccpReply_touch (by decide) (.refl _ _))

@[simp] theorem State.ccpFail_fuses (h : CcpHdr) (op status : Nat) (s : State) : (s.ccpFail h op status).fuses = s.fuses :=
  s.ccpReply_fuses h op status []

@[simp] theorem State.resetController_fuses (cause : Nat) (s : State) : (s.resetController cause).fuses = s.fuses := by
  unfold State.resetController
  rw [show (State.fuseLoad _ _).fuses = _ from same_of_touch (g := .fuses) (State.fuseLoad_touch (by decide) (.refl _ _))]
  rfl

/-- What a command may make of the fuses. -/
inductive Fuses.MayBecome (f : Fuses) : Fuses → Prop
  /-- No fuse is blown. -/
  | kept : f.MayBecome f
  /-- ROLLBACK_ADVANCE (R327). -/
  | advanced {count : Nat} (above : f.antiRollback < count) (most : count ≤ 128) : f.MayBecome { f with antiRollback := count }
  /-- ROOT_BIRTH (R324). -/
  | born (root : Nat) (blank : f.lifeCycle = 0) (unborn : f.rootPresent = false) :
      f.MayBecome { f with rootPresent := true, deviceRoot := root }
  /-- LIFECYCLE_STEP (R323, R324). -/
  | stepped {role target : Nat} (prov : Provisioning) (allowed : stepAllowed f role target = true) : f.MayBecome (f.step target prov)

theorem execRollbackAdvance_fuses {h : CcpHdr} {count : Nat} {s t : State} (done : execRollbackAdvance h count s = .next t) :
    t.fuses = s.fuses ∨ s.fuses.antiRollback < count ∧ count ≤ 128 ∧ t.fuses = { s.fuses with antiRollback := count } := by
  obtain rfl := next_inj done
  refine State.ccpSimple_fuses.elim .inl fun ⟨u, before, after⟩ => ?_
  rw [after, ← before]
  split
  next ok => exact .inr ⟨ok.1, ok.2.2, State.ccpReply_fuses ..⟩
  next => exact .inl (State.ccpFail_fuses ..)

theorem execRootBirth_fuses {h : CcpHdr} {s t : State} (done : execRootBirth h s = .next t) :
    t.fuses = s.fuses ∨ ∃ root, s.fuses.lifeCycle = 0 ∧ s.fuses.rootPresent = false ∧
      t.fuses = { s.fuses with rootPresent := true, deviceRoot := root } := by
  obtain rfl := next_inj done
  refine State.ccpSimple_fuses.elim .inl fun ⟨u, before, after⟩ => ?_
  rw [after, ← before]
  split
  next => exact .inl (State.ccpFail_fuses ..)
  next blank =>
    split
    next => exact .inl (State.ccpFail_fuses ..)
    next unborn => exact .inr ⟨_, Decidable.not_not.mp blank, eq_false_of_ne_true unborn, State.ccpReply_fuses ..⟩

/-- A step that is answered with status 0 is one of R324. -/
theorem State.stepAllowed_of_stepStatus {role target : Nat} {prov : Provisioning} {s : State} (ok : s.stepStatus role target prov = 0) :
    stepAllowed s.fuses role target = true := by
  unfold State.stepStatus at ok
  split at ok
  · cases ok
  split at ok
  · cases ok
  next allowed => exact eq_true_of_ne_false allowed

/-- R323: of what a step does beside blowing its fuses nothing changes fuses. -/
theorem State.lifecycleStepped_fuses (h : CcpHdr) (target : Nat) (prov : Provisioning) (s : State) :
    ((((s.ccpReply h 0x58 0 []).stopService.wipeAll).updFuses fun f => f.step target prov).resetController 0x02).fuses =
      s.fuses.step target prov := by
  rw [State.resetController_fuses]
  exact congrArg (·.step target prov) (same_of_touch (g := .fuses) (State.wipeAll_touch (by decide) (State.stopService_touch (by decide)
    (State.ccpReply_touch (by decide) (.refl _ s)))))

theorem execLifecycleStep_fuses {h : CcpHdr} {target : Nat} {prov : Provisioning} {s t : State} (done : execLifecycleStep h target prov s = .next t) :
    t.fuses = s.fuses ∨ ∃ role, stepAllowed s.fuses role target = true ∧ t.fuses = s.fuses.step target prov := by
  obtain rfl := next_inj done
  refine State.ccpSimple_fuses.elim .inl fun ⟨u, before, after⟩ => ?_
  rw [after, ← before]
  dsimp only
  split
  next => exact .inl (State.ccpFail_fuses ..)
  next ok => exact .inr ⟨_, State.stepAllowed_of_stepStatus (Decidable.not_not.mp ok), State.lifecycleStepped_fuses ..⟩

/-- By O6 only three commands change fuses at all. -/
theorem exec_fuses {i : Instr} {s t : State} (done : exec i s = .next t) : s.fuses.MayBecome t.fuses := by
  by_cases same : t.fuses = s.fuses
  · rw [same]
    exact .kept
  · obtain ⟨h, target, prov, rfl⟩ | ⟨h, rfl⟩ | ⟨h, count, rfl⟩ := fusesAndImagesChangeOnlyBy.1 i s t done same
    · obtain ⟨role, allowed, fuses⟩ := (execLifecycleStep_fuses done).resolve_left same
      exact fuses ▸ .stepped prov allowed
    · obtain ⟨root, blank, unborn, fuses⟩ := (execRootBirth_fuses done).resolve_left same
      exact fuses ▸ .born root blank unborn
    · obtain ⟨above, most, fuses⟩ := (execRollbackAdvance_fuses done).resolve_left same
      exact fuses ▸ .advanced above most

/-- R324: the eight steps. -/
theorem stepAllowed_mem {f : Fuses} {role target : Nat} (allowed : stepAllowed f role target = true) :
    (f.lifeCycle, target) ∈ [(0, 1), (1, 3), (1, 7), (3, 7), (0, 15), (1, 15), (3, 15), (7, 15)] := by
  unfold stepAllowed at allowed
  split at allowed
  all_goals simp_all

theorem Fuses.step_lifeCycle (f : Fuses) (target : Nat) (prov : Provisioning) : (f.step target prov).lifeCycle = target := by
  unfold Fuses.step
  split
  next one => exact one.symm
  next => rfl

/-- Settles O7: of the changes of fuses only a step of R324 changes LIFE_CYCLE. -/
theorem lifeCycleFollowsTheTable : Obligations.LifeCycleFollowsTheTable := by
  intro i s t done
  have change := exec_fuses done
  generalize t.fuses = after at change ⊢
  cases change with
  | kept | advanced | born => exact .inl rfl
  | stepped prov allowed => exact .inr (Fuses.step_lifeCycle .. ▸ stepAllowed_mem allowed)

/-- R324: outside BLANK no step leads to PROVISIONED, so it writes no parameter. -/
theorem Fuses.step_of_not_blank {f : Fuses} {role target : Nat} (prov : Provisioning) (allowed : stepAllowed f role target = true)
    (blown : f.lifeCycle ≠ 0) :
    f.step target prov = { f with lifeCycle := target, rootDisabled := f.rootDisabled || decide (target = 15), marginal := false } := by
  have other : target ≠ 1 := by
    rintro rfl
    have step := stepAllowed_mem allowed
    simp [blown] at step
  exact if_neg other

/-- R321: a step keeps the count, the identifier and the root, and re-enables none. -/
theorem Fuses.step_keeps (f : Fuses) (target : Nat) (prov : Provisioning) :
    (f.step target prov).antiRollback = f.antiRollback ∧ (f.step target prov).deviceId = f.deviceId ∧
      (f.step target prov).rootPresent = f.rootPresent ∧ (f.step target prov).deviceRoot = f.deviceRoot ∧
      (f.rootDisabled = true → (f.step target prov).rootDisabled = true) := by
  unfold Fuses.step
  split
  · exact ⟨rfl, rfl, rfl, rfl, id⟩
  · exact ⟨rfl, rfl, rfl, rfl, fun disabled => by simp [disabled]⟩

/-- Settles O8, by the changes of fuses. -/
theorem blownFusesStay : Obligations.BlownFusesStay := by
  intro i s t done
  have change := exec_fuses done
  generalize t.fuses = after at change ⊢
  cases change with
  | kept => exact ⟨le_rfl, rfl, fun born => ⟨born, rfl⟩, id, fun _ => ⟨rfl, rfl, rfl, rfl, rfl, rfl, rfl⟩⟩
  | advanced above => exact ⟨above.le, rfl, fun born => ⟨born, rfl⟩, id, fun _ => ⟨rfl, rfl, rfl, rfl, rfl, rfl, rfl⟩⟩
  | born _ blank unborn =>
    exact ⟨le_rfl, rfl, fun born => absurd (unborn.symm.trans born) Bool.false_ne_true, id, fun blown => absurd blank blown⟩
  | stepped prov allowed =>
    obtain ⟨count, identifier, present, root, disabled⟩ := Fuses.step_keeps s.fuses _ prov
    refine ⟨count.ge, identifier, fun born => ⟨present.trans born, root⟩, disabled, fun blown => ?_⟩
    rw [Fuses.step_of_not_blank prov allowed blown]
    exact ⟨rfl, rfl, rfl, rfl, rfl, rfl, rfl⟩

end Sys2Proof.Machine

namespace Sys2Proof.Machine

/-! ## The anti-rollback count, permission groups and Lockdown (O9, O11, O12) -/

@[simp] theorem State.entered_fuses (s : State) (h : CcpHdr) (op : Nat) (e : Session) : (s.entered h op e).fuses = s.fuses :=
  same_of_touch (g := .fuses) (s.entered_touch h op e (by decide))

@[simp] theorem State.entered_boot (s : State) (h : CcpHdr) (op : Nat) (e : Session) : (s.entered h op e).boot = s.boot :=
  same_of_touch (g := .boot) (s.entered_touch h op e (by decide))

/-! ### The anti-rollback count (R326, R327) -/

theorem execRollbackAdvance_answers {h : CcpHdr} {e : Session} {count : Nat} {s : State} (acc : s.accepts h 0x42 (some 14) e = true) :
    ∃ t, execRollbackAdvance h count s = .next t ∧
      if s.fuses.antiRollback < count ∧ count ≤ s.boot.svn ∧ count ≤ 128 then
        t.fuses = { s.fuses with antiRollback := count } ∧ t.answered h 0
      else t.fuses = s.fuses ∧ t.answered h 0x0606 := by
  unfold execRollbackAdvance
  rw [State.ccpSimple_of_accepts _ acc, State.entered_fuses, State.entered_boot]
  refine ⟨_, rfl, ?_⟩
  by_cases bounds : s.fuses.antiRollback < count ∧ count ≤ s.boot.svn ∧ count ≤ 128
  · rw [if_pos bounds, if_pos bounds]
    refine ⟨?_, State.answered_of_entered acc (State.updFuses_ccp _ _) 0 []⟩
    rw [State.ccpReply_fuses, State.updFuses_fuses, State.entered_fuses]
  · rw [if_neg bounds, if_neg bounds]
    refine ⟨?_, State.answered_of_entered acc (Eq.refl (s.entered h 0x42 e).ccp) ccRollback []⟩
    rw [State.ccpFail_fuses, State.entered_fuses]

theorem execRollbackAdvance_at_most {h : CcpHdr} {count : Nat} {s t : State} (most : s.fuses.antiRollback = 128)
    (done : execRollbackAdvance h count s = .next t) : t.fuses = s.fuses :=
  (execRollbackAdvance_fuses done).resolve_right fun ⟨above, bound, _⟩ => by omega

/-- R326: the highest SVN passes against every count. -/
theorem State.imageOk_of_highest {i : ImageCheck} {s : State} (ecdsa : i.ecdsaGood = true) (mlDsa : i.mlDsaGood = true) (highest : i.svn = 128)
    (count : s.fuses.antiRollback ≤ 128) : s.imageOk i = true := by
  simp [State.imageOk, ecdsa, mlDsa, highest, count]

/-- Settles O9: the answer to an accepted request, the end of the count, and the check of the highest SVN. -/
theorem rollbackAdvance : Obligations.RollbackAdvance :=
  ⟨fun _ _ _ _ => execRollbackAdvance_answers,
   fun _ _ _ _ => execRollbackAdvance_at_most,
   fun _ _ => State.imageOk_of_highest⟩

/-! ### The last checks of a request (R334, R483) -/

/-- R483: whatever its group is, a request of a session that comes in reaches its session checks in the state of its arrival. -/
theorem State.ccpTake_of_session {h : CcpHdr} {op : Nat} {s : State} (comes : s.comesIn h op none = true) (session : h.session ≠ 0)
    (group : Option Nat) (perm : Session → Nat) (run : State → State) :
    s.ccpTake h op group perm run = s.arrived.ccpInSession h op group perm run := by
  obtain ⟨own, relay, version, awake, -, -, arrives⟩ := State.comesIn_iff.mp comes
  unfold State.ccpTake
  rw [if_neg (ne_true_of_eq_false own), if_neg awake, if_neg (by simp [arrives])]
  dsimp only
  rw [if_neg (by rcases relay with h | h <;> simp [h]), if_neg (by simp [version]), if_neg session]
  rfl

/-- R483 to R490: a request that passes every check before that of its group reaches its last checks with its ALIVE taken. -/
theorem State.ccpTake_of_admitted {h : CcpHdr} {op : Nat} {e : Session} {s : State} (acc : s.accepts h op none e = true) (group : Option Nat)
    (perm : Session → Nat) (run : State → State) :
    s.ccpTake h op group perm run = (s.admitted h op e).ccpRun h op group (some (e.taking h op s.now)) (perm (e.taking h op s.now)) run := by
  obtain ⟨comes, session, listed, bound, opened, mac, macGood, alive, last, -⟩ := State.accepts_iff.mp acc
  obtain ⟨e1, taken⟩ := Option.isSome_iff_exists.mp alive
  have taking := Session.taking_eq taken op s.arrived.now
  have now : s.arrived.now = s.now := congrArg (·.timeNs) s.arrived_den
  have inState : ¬ (e.bound h = false ∨ e.sState ≠ 2 ∧ op ≠ 0x03 ∨ e.sState ≠ 1 ∧ op = 0x03) := by
    by_cases auth : op = 0x03
    · rw [if_pos auth] at opened
      simp [bound, opened, auth]
    · rw [if_neg auth] at opened
      simp [bound, opened, auth]
  rw [State.ccpTake_of_session comes session]
  unfold State.ccpInSession
  simp only [State.arrived_ccp, listed, taken]
  rw [if_neg inState, if_neg (by simp [mac, macGood])]
  unfold State.ccpAccepted
  rw [← taking, now]
  exact if_neg last

/-- R490: taking a request changes neither what its session's role is granted nor the mode. -/
theorem State.admitted_grants (s : State) (h : CcpHdr) (op : Nat) (e : Session) (group : Nat) :
    (s.admitted h op e).grants (e.taking h op s.now) group = s.grants e group := by
  have fuses : (s.admitted h op e).fuses = s.fuses := s.arrived_fuses
  unfold State.grants State.roleMask
  rw [fuses, (e.taking_owner h op s.now).1]

@[simp] theorem State.admitted_mode (s : State) (h : CcpHdr) (op : Nat) (e : Session) : (s.admitted h op e).modes.mode = s.modes.mode :=
  s.arrived_mode

@[simp] theorem State.admitted_boot (s : State) (h : CcpHdr) (op : Nat) (e : Session) : (s.admitted h op e).boot = s.boot := s.arrived_boot

/-- Settles O11: check 8 of R483 comes before the mode and before the request's further checks. -/
theorem ungrantedRequestRefused : Obligations.UngrantedRequestRefused := by
  intro h op group e perm run s acc ungranted
  have status : (s.admitted h op e).groupStatus (some group) (some (e.taking h op s.now)) = ccGroup :=
    if_neg (by rw [State.admitted_grants]; exact ne_true_of_eq_false ungranted)
  rw [State.ccpTake_of_admitted acc]
  unfold State.ccpRun
  rw [status]
  exact if_pos ⟨by decide, .inl rfl⟩

theorem lockdownGroup_iff {group : Option Nat} :
    lockdownGroup group = true ↔ group = none ∨ ∃ n, group = some n ∧ n ∈ [0, 1, 9, 16, 17, 21] := by
  cases group with
  | none => simp [lockdownGroup]
  | some n => simp only [lockdownGroup, List.contains_iff_mem, reduceCtorEq, false_or, Option.some.injEq, exists_eq_left']

/-- Settles O12. That Lockdown serves a request that needs no group (log 57, R484) is the model's own reading. -/
theorem lockdownServesOnly : Obligations.LockdownServesOnly := by
  intro h op group e perm run s lockdown acc granted permitted
  obtain ⟨comes, -⟩ := State.accepts_iff.mp acc
  obtain ⟨-, -, -, -, -, offered, -⟩ := State.comesIn_iff.mp comes
  have status : (s.admitted h op e).groupStatus group (some (e.taking h op s.now)) = 0 := by
    cases group with
    | none => rfl
    | some n => exact if_pos ((s.admitted_grants h op e n).trans (granted n rfl))
  rw [State.ccpTake_of_admitted acc, permitted]
  split
  next served => exact State.ccpRun_eq (.inl status) (.inr (lockdownGroup_iff.mpr served)) (by simpa using offered)
  next closed =>
    have refused : lockdownGroup group = false := eq_false_of_ne_true (closed ∘ lockdownGroup_iff.mp)
    unfold State.ccpRun
    rw [if_neg (by simp [status]), if_neg (not_not_intro rfl), if_pos ⟨by rw [State.admitted_mode, lockdown], refused⟩]
    rfl

end Sys2Proof.Machine

namespace Sys2Proof.Machine

/-! ## Evidence, certificates and SPDM (O53) -/

/-! ### Requests of CCP (R329, R330, R499) -/

theorem State.ccpSimple_of_acceptsOpen {h : CcpHdr} {op : Nat} {group : Option Nat} {s : State} (run : State → State)
    (acc : s.acceptsOpen h op group = true) : s.ccpSimple h op group run = run (s.enteredOpen h op) :=
  State.ccpTake_of_acceptsOpen _ run acc

theorem execNop_answers {h : CcpHdr} {e : Session} {s : State} (acc : s.accepts h 0x05 none e = true) :
    ∃ t, execNop h s = .next t ∧ (t.session h.session).lastNs = s.now ∧ t.answered h 0 := by
  obtain ⟨comes, session, listed, -⟩ := State.accepts_iff.mp acc
  have replied := State.ccpReply_session (State.applied_of_accepts acc) session (State.entered_session (op := 0x05) listed) 0x05 0 []
  unfold execNop
  rw [State.ccpSimple_of_accepts _ acc]
  refine ⟨_, rfl, ?_, State.answered_of_entered acc rfl 0 []⟩
  unfold State.session tget
  rw [replied]
  rfl

theorem execGetEvidence_replies {h : CcpHdr} {nonce : Nat} {s : State} (acc : s.acceptsOpen h 0x06 none = true) :
    ∃ t, execGetEvidence h nonce s = .next t ∧ t = (s.enteredOpen h 0x06).ccpReply h 0x06 0 ((s.enteredOpen h 0x06).measurements ++
      (s.enteredOpen h 0x06).aliasSign 1 (nonce :: (s.enteredOpen h 0x06).measurements.map fun b : BitVec 8 => b.toNat) ++
      (s.enteredOpen h 0x06).aliasSign 2 (nonce :: (s.enteredOpen h 0x06).measurements.map fun b : BitVec 8 => b.toNat)) := by
  unfold execGetEvidence
  rw [State.ccpSimple_of_acceptsOpen _ acc]
  exact ⟨_, rfl, rfl⟩

theorem execGetCert_replies {h : CcpHdr} {certSlot : Nat} {s : State} (acc : s.acceptsOpen h 0x07 none = true) (isSlot : certSlot < 2) :
    ∃ t, execGetCert h certSlot s = .next t ∧ t = (s.enteredOpen h 0x07).ccpReply h 0x07 0 (Config.certChain certSlot) := by
  unfold execGetCert
  rw [State.ccpSimple_of_acceptsOpen _ acc]
  exact ⟨_, rfl, if_pos isSlot⟩

/-! ### SPDM on the management bus (R329)

A request on the bus runs in the state that its arrival leaves: a Den entry cancelled and the idle descent ended. -/

section
variable {src : SpdmSrc} {s : State} (bus : src.overMailbox = false) (awake : s.modes.mode ≠ .m0) (selected : s.ccpCfgMgmtBus ≠ 0)

include bus awake selected in
theorem State.spdm_of_bus (run : State → Nat × Bytes × State) :
    s.spdm src run = (run s.wakeIdle.cancelDen).2.2.send .spdm [(run s.wakeIdle.cancelDen).1] (run s.wakeIdle.cancelDen).2.1 := by
  unfold State.spdm
  rw [if_neg (ne_true_of_eq_false bus), if_neg (not_or.mpr ⟨awake, selected⟩)]

/-- R58, R65: an arrival on the bus touches the modes alone. -/
theorem State.busArrival_touch (s : State) : Touch 128 s s.wakeIdle.cancelDen :=
  State.cancelDen_touch rfl (State.wakeIdle_touch rfl (.refl _ _))

theorem State.busArrival_ccp (s : State) : s.wakeIdle.cancelDen.ccp = s.ccp := s.busArrival_touch.out .ccp rfl

theorem State.busArrival_drawn (w : Nat) (s : State) : s.wakeIdle.cancelDen.drawn w = s.drawn w := by
  have fresh : s.wakeIdle.cancelDen.fresh = s.fresh := s.busArrival_touch.out .fresh rfl
  unfold State.drawn
  rw [fresh]

/-- R310: the keys that sign evidence follow from enclave, fuses, the running image and its slot. -/
theorem State.busArrival_aliasSign (kind : Nat) (msg : List Nat) (s : State) : s.wakeIdle.cancelDen.aliasSign kind msg = s.aliasSign kind msg := by
  have enclave : s.wakeIdle.cancelDen.enclave = s.enclave := s.busArrival_touch.out .enclave rfl
  have fuses : s.wakeIdle.cancelDen.fuses = s.fuses := s.busArrival_touch.out .fuses rfl
  have images : s.wakeIdle.cancelDen.images = s.images := s.busArrival_touch.out .images rfl
  have boot : s.wakeIdle.cancelDen.boot = s.boot := s.busArrival_touch.out .boot rfl
  unfold State.aliasSign State.aliasKey State.imageDigest
  rw [enclave, fuses, images, boot]

include bus awake selected

theorem execSpdmGetVersion_answers : ∃ t, execSpdmGetVersion src s = .next t ∧ t.ccp.spdmVersion = true ∧ t.ccp.spdmAlg = false ∧
    (t.sent.head?.map fun m : Out => m.args) = some [0x04] := by
  unfold execSpdmGetVersion
  rw [State.spdm_of_bus bus awake selected]
  exact ⟨_, rfl, rfl, rfl, rfl⟩

theorem execSpdmGetCapabilities_answers (version : s.ccp.spdmVersion = true) :
    ∃ t, execSpdmGetCapabilities src s = .next t ∧ t = s.wakeIdle.cancelDen.send .spdm [0x61] [] := by
  unfold execSpdmGetCapabilities
  rw [State.spdm_of_bus bus awake selected, State.busArrival_ccp, if_pos version]
  exact ⟨_, rfl, rfl⟩

theorem execSpdmNegotiateAlgorithms_answers (version : s.ccp.spdmVersion = true) : ∃ t, execSpdmNegotiateAlgorithms src true s = .next t ∧
    t.ccp.spdmAlg = true ∧ (t.sent.head?.map fun m : Out => m.args) = some [0x63] := by
  unfold execSpdmNegotiateAlgorithms
  rw [State.spdm_of_bus bus awake selected, State.busArrival_ccp, if_neg (by simp [version]), if_pos rfl]
  exact ⟨_, rfl, rfl, rfl⟩

variable (algorithms : s.ccp.spdmAlg = true)
include algorithms

theorem execSpdmGetDigests_answers : ∃ t, execSpdmGetDigests src s = .next t ∧ t = s.wakeIdle.cancelDen.send .spdm [0x01]
    (leBytes 48 (Config.sha384 (Config.certChain 0)) ++ leBytes 48 (Config.sha384 (Config.certChain 1))) := by
  unfold execSpdmGetDigests
  rw [State.spdm_of_bus bus awake selected, State.busArrival_ccp, if_neg (by simp [algorithms])]
  exact ⟨_, rfl, rfl⟩

theorem execSpdmGetCertificate_answers {certSlot offset length : Nat} (isSlot : certSlot < 2) :
    ∃ t, execSpdmGetCertificate src certSlot offset length s = .next t ∧ t =
      if (Config.certChain certSlot).length ≤ offset then s.wakeIdle.cancelDen.send .spdm [0x7F] [1]
      else s.wakeIdle.cancelDen.send .spdm [0x02] (leBytes 1 certSlot ++
        leBytes 2 (((Config.certChain certSlot).drop offset).take length).length ++
        leBytes 2 ((Config.certChain certSlot).length - offset - (((Config.certChain certSlot).drop offset).take length).length) ++
        ((Config.certChain certSlot).drop offset).take length) := by
  unfold execSpdmGetCertificate
  rw [State.spdm_of_bus bus awake selected]
  refine ⟨_, rfl, ?_⟩
  dsimp only
  rw [State.busArrival_ccp, if_neg (by simp [algorithms])]
  by_cases past : (Config.certChain certSlot).length ≤ offset
  · rw [if_pos past, if_pos (.inr past)]
    rfl
  · rw [if_neg past, if_neg (not_or.mpr ⟨Nat.not_le.mpr isSlot, past⟩)]

theorem execSpdmChallenge_answers {certSlot nonce : Nat} (isSlot : certSlot < 2) : ∃ t, execSpdmChallenge src certSlot nonce s = .next t ∧
    t.fresh = s.fresh + 1 ∧ (t.sent.head?.map fun m : Out => (m.args, m.data)) = some ([0x03], leBytes 1 certSlot ++
      leBytes 48 (Config.sha384 (Config.certChain certSlot)) ++ leBytes 32 (s.drawn 256) ++
      s.aliasSign (certSlot + 1) [Config.sha384 (Config.certChain certSlot), s.drawn 256, nonce]) := by
  have fresh : s.wakeIdle.cancelDen.fresh = s.fresh := s.busArrival_touch.out .fresh rfl
  unfold execSpdmChallenge
  rw [State.spdm_of_bus bus awake selected]
  refine ⟨_, rfl, ?_⟩
  dsimp only
  rw [State.busArrival_ccp, if_neg (by simp [algorithms]), if_neg (Nat.not_le.mpr isSlot), State.busArrival_drawn, State.busArrival_aliasSign]
  exact ⟨congrArg (· + 1) fresh, rfl⟩

theorem execSpdmGetMeasurements_answers {index nonce : Nat} (lo : 1 ≤ index) (hi : index ≤ 8) :
    ∃ t, execSpdmGetMeasurements src index nonce s = .next t ∧ t = s.wakeIdle.cancelDen.send .spdm [0x60]
      (s.wakeIdle.cancelDen.measurement index ++
        s.wakeIdle.cancelDen.aliasSign 1 (nonce :: (s.wakeIdle.cancelDen.measurement index).map fun b : BitVec 8 => b.toNat)) := by
  unfold execSpdmGetMeasurements
  rw [State.spdm_of_bus bus awake selected]
  refine ⟨_, rfl, ?_⟩
  dsimp only
  rw [State.busArrival_ccp, if_neg (by simp [algorithms]), if_neg (by omega), if_neg (by omega), if_neg (by omega)]

end

/-- Settles O53. Each clause is the lemma of its command. The response codes of SPDM (log 45), the layout of the evidence (log 44), and that evidence
is signed after a key erasure too (log 43) are the model's own choices. -/
theorem completesSessionsB : Obligations.CompletesSessionsB :=
  ⟨fun _ _ _ => execNop_answers,
   fun _ _ _ => execGetEvidence_replies,
   fun _ _ _ => execGetCert_replies,
   fun _ _ => execSpdmGetVersion_answers,
   fun _ _ => execSpdmGetCapabilities_answers,
   fun _ _ => execSpdmNegotiateAlgorithms_answers,
   fun _ _ => execSpdmGetDigests_answers,
   fun _ _ _ _ _ bus awake selected algorithms => execSpdmGetCertificate_answers bus awake selected algorithms,
   fun _ _ _ _ bus awake selected algorithms => execSpdmChallenge_answers bus awake selected algorithms,
   fun _ _ _ _ bus awake selected algorithms => execSpdmGetMeasurements_answers bus awake selected algorithms⟩

end Sys2Proof.Machine

namespace Sys2Proof.Machine

/-! ## Images, resets, life cycle and debug lock (O60) -/

/-! ### What a request finds, and its reply -/

@[simp] theorem State.entered_fresh (s : State) (h : CcpHdr) (op : Nat) (e : Session) : (s.entered h op e).fresh = s.fresh :=
  same_of_touch (g := .fresh) (s.entered_touch h op e (by decide))

theorem State.entered_drawn (s : State) (h : CcpHdr) (op : Nat) (e : Session) (w : Nat) : (s.entered h op e).drawn w = s.drawn w := by
  unfold State.drawn
  rw [State.entered_fresh]

/-- R491: the reply to a request whose effect left the sessions alone. -/
theorem State.answered_of_sessions {h : CcpHdr} {op : Nat} {group : Option Nat} {e : Session} {s u : State} (acc : s.accepts h op group e = true)
    {status : Nat} {data : Bytes}
    (sessions : u.ccp.sessions = (s.entered h op e).ccp.sessions) : (u.ccpReply h op status data).answered h status := by
  obtain ⟨-, session, listed, -⟩ := State.accepts_iff.mp acc
  have here : tfind u.ccp.sessions h.session = some (e.taking h op s.now) := by rw [sessions, State.entered_session listed]
  simp [State.answered, State.session, tget, State.ccpReply_session (State.applied_of_accepts acc) session here, Session.replied]

@[simp] theorem State.ccpReply_jobs (h : CcpHdr) (op status : Nat) (data : Bytes) (s : State) :
    (s.ccpReply h op status data).ccp.jobs = s.ccp.jobs := by
  obtain ⟨sessions, long, ccp⟩ := s.ccpReply_ccp h op status data
  rw [ccp]

@[simp] theorem State.ccpReply_fwCommit (h : CcpHdr) (op status : Nat) (data : Bytes) (s : State) :
    (s.ccpReply h op status data).ccp.fwCommit = s.ccp.fwCommit := by
  obtain ⟨sessions, long, ccp⟩ := s.ccpReply_ccp h op status data
  rw [ccp]

@[simp] theorem State.ccpReply_images (h : CcpHdr) (op status : Nat) (data : Bytes) (s : State) : (s.ccpReply h op status data).images = s.images :=
  same_of_touch (g := .images) (State.ccpReply_touch (by decide) (.refl _ _))

@[simp] theorem State.ccpReply_enclave (h : CcpHdr) (op status : Nat) (data : Bytes) (s : State) :
    (s.ccpReply h op status data).enclave = s.enclave :=
  same_of_touch (g := .enclave) (State.ccpReply_touch (by decide) (.refl _ _))

@[simp] theorem State.ccpReply_fresh (h : CcpHdr) (op status : Nat) (data : Bytes) (s : State) : (s.ccpReply h op status data).fresh = s.fresh :=
  same_of_touch (g := .fresh) (State.ccpReply_touch (by decide) (.refl _ _))

/-- R492: parameters that are not staged are the packet's own. -/
theorem State.ccpField_of_unstaged {h : CcpHdr} (own : h.staged = false) (bytes : Bytes) (s : State) : s.ccpField h bytes = some bytes :=
  if_neg (ne_true_of_eq_false own)

theorem State.ccpUnstage_of_unstaged {h : CcpHdr} (own : h.staged = false) (s : State) : s.ccpUnstage h = s :=
  if_neg (ne_true_of_eq_false own)

/-! ### Images and tests (R326, R499, R500) -/

theorem execFwLoad_stages {h : CcpHdr} {e : Session} {offset : Nat} {bytes : Bytes} {s : State} (acc : s.accepts h 0x40 (some 13) e = true)
    (own : h.staged = false) (room : offset + bytes.length ≤ 33554432) :
    ∃ t, execFwLoad h offset bytes s = .next t ∧ tfind t.ccp.fwImage offset = some bytes ∧ t.answered h 0 := by
  unfold execFwLoad
  rw [State.ccpSimple_of_accepts _ acc, State.ccpField_of_unstaged own]
  refine ⟨_, rfl, ?_⟩
  dsimp only
  rw [State.ccpUnstage_of_unstaged own, if_neg (Nat.not_lt.mpr room)]
  refine ⟨?_, State.answered_of_sessions acc rfl⟩
  obtain ⟨sessions, long, ccp⟩ := State.ccpReply_ccp h 0x40 0 []
    ((s.entered h 0x40 e).updCcp fun c => { c with fwImage := tput c.fwImage offset bytes })
  rw [ccp]
  exact tfind_tput_same _ _ _

theorem State.imageOk_congr {s t : State} (fuses : t.fuses = s.fuses) (i : ImageCheck) : t.imageOk i = s.imageOk i := by
  unfold State.imageOk
  rw [fuses]

theorem State.commitSlot_congr {s t : State} (boot : t.boot = s.boot) : t.commitSlot = s.commitSlot := by
  unfold State.commitSlot
  rw [boot]

theorem execFwCommit_begins {h : CcpHdr} {e : Session} {length j : Nat} {image : ImageCheck} {s : State}
    (acc : s.accepts h 0x41 (some 13) e = true) (room : length ≤ 33554432) (covered : (s.entered h 0x41 e).imageWhole length = true)
    (idle : (s.entered h 0x41 e).jobRunning 0x41 = false) (good : s.imageOk image = true) (whole : image.length = length)
    (free : (s.entered h 0x41 e).jobFree = some j) : ∃ t, execFwCommit h length image s = .next t ∧
      t.ccp.fwCommit = some { valid := true, svn := image.svn, digest := image.digest, startFails := 0 } ∧
      (tget {} t.images (slotNum s.commitSlot)).valid = false ∧ t.jobRuns h j 0x41 length := by
  have allowed : (if 33554432 < length then ccRange else if (s.entered h 0x41 e).imageWhole length = false then ccBadLength
      else if (s.entered h 0x41 e).jobRunning 0x41 then ccBusy else 0) = 0 := by
    rw [if_neg (Nat.not_lt.mpr room), if_neg (by simp [covered]), if_neg (by simp [idle])]
  have passes : ((s.entered h 0x41 e).jobListed h 0x41 length j).imageOk image = true ∧ image.length = length :=
    ⟨(State.imageOk_congr (s.entered_fuses h 0x41 e) image).trans good, whole⟩
  have slot : ((s.entered h 0x41 e).jobListed h 0x41 length j).commitSlot = s.commitSlot := State.commitSlot_congr (s.entered_boot h 0x41 e)
  unfold execFwCommit
  rw [State.ccpSimple_of_accepts _ acc]
  refine ⟨_, rfl, ?_⟩
  dsimp only
  rw [allowed, State.localJob_zero free, if_pos passes, slot]
  refine ⟨?_, ?_, ?_⟩
  · rw [State.ccpReply_fwCommit]
    rfl
  · rw [State.ccpReply_images, State.updImages_images, tget_tmod_same]
  · rw [State.jobRuns, State.ccpReply_jobs]
    exact tfind_tput_same _ j _

theorem execDiagRun_begins {h : CcpHdr} {e : Session} {test j : Nat} {s : State} (acc : s.accepts h 0x51 (some 17) e = true)
    (free : (s.entered h 0x51 e).jobFree = some j) : ∃ t, execDiagRun h test s = .next t ∧ t.jobRuns h j 0x51 test ∧ t.answered h 0 := by
  unfold execDiagRun
  rw [State.ccpSimple_of_accepts _ acc, State.localJob_zero free]
  refine ⟨_, rfl, ?_, State.answered_of_sessions acc rfl⟩
  rw [State.jobRuns, State.ccpReply_jobs]
  exact tfind_tput_same _ j _

theorem execRollbackAdvance_advances {h : CcpHdr} {e : Session} {count : Nat} {s : State} (acc : s.accepts h 0x42 (some 14) e = true)
    (above : s.fuses.antiRollback < count) (svn : count ≤ s.boot.svn) (most : count ≤ 128) :
    ∃ t, execRollbackAdvance h count s = .next t ∧ t.fuses = { s.fuses with antiRollback := count } ∧ t.answered h 0 := by
  obtain ⟨t, done, answer⟩ := execRollbackAdvance_answers (count := count) acc
  rw [if_pos ⟨above, svn, most⟩] at answer
  exact ⟨t, done, answer⟩

/-! ### Resets and steps of the life cycle (R45, R323, R324, R499) -/

/-- R31 to R33, R45: a reset over sound fuses ends sessions and jobs. -/
theorem State.resetController_ccp {s : State} (cause : Nat) (legal : legalLifeCycle s.fuses.lifeCycle = true) (sure : s.fuses.marginal = false) :
    (s.resetController cause).ccp = {} :=
  (State.fuseLoad_good_touch (s := (s.wiped cause).updEnclave _) legal sure (m := 8388673) rfl).out .ccp rfl

theorem execReset_resets {h : CcpHdr} {e : Session} {s : State} (acc : s.accepts h 0x50 (some 17) e = true)
    (legal : legalLifeCycle s.fuses.lifeCycle = true) (sure : s.fuses.marginal = false) :
    ∃ t, execReset h s = .next t ∧ t.modes.mode = .m1 ∧ t.modes.lastCause = 0x02 ∧ t.ccp = {} ∧ t.fuses = s.fuses := by
  have fuses : ((s.entered h 0x50 e).ccpReply h 0x50 0 []).fuses = s.fuses := by rw [State.ccpReply_fuses, State.entered_fuses]
  rw [← fuses] at legal sure
  obtain ⟨mode, cause, -⟩ := State.resetController_leaves 0x02 legal sure
  unfold execReset
  rw [State.ccpSimple_of_accepts _ acc]
  exact ⟨_, rfl, mode, cause, State.resetController_ccp 0x02 legal sure, by rw [State.resetController_fuses, fuses]⟩

/-- R323: after a step the fuses are sound. -/
theorem Fuses.step_sure {f : Fuses} {role target : Nat} (prov : Provisioning) (allowed : stepAllowed f role target = true) :
    legalLifeCycle (f.step target prov).lifeCycle = true ∧ (f.step target prov).marginal = false := by
  constructor
  · have step := stepAllowed_mem allowed
    rw [Fuses.step_lifeCycle]
    simp only [List.mem_cons, Prod.mk.injEq, List.not_mem_nil, or_false] at step
    rcases step with ⟨-, rfl⟩ | ⟨-, rfl⟩ | ⟨-, rfl⟩ | ⟨-, rfl⟩ | ⟨-, rfl⟩ | ⟨-, rfl⟩ | ⟨-, rfl⟩ | ⟨-, rfl⟩ <;> rfl
  · unfold Fuses.step
    split <;> rfl

theorem State.stepStatus_congr {s t : State} (mode : t.modes.mode = s.modes.mode) (fuses : t.fuses = s.fuses) (role target : Nat)
    (prov : Provisioning) : t.stepStatus role target prov = s.stepStatus role target prov := by
  unfold State.stepStatus
  rw [mode, fuses]

theorem execLifecycleStep_steps {h : CcpHdr} {e : Session} {target : Nat} {prov : Provisioning} {s : State}
    (acc : s.accepts h 0x58 (some 16) e = true) (ok : s.stepStatus e.role target prov = 0) :
    ∃ t, execLifecycleStep h target prov s = .next t ∧ t.fuses = s.fuses.step target prov ∧ t.modes.lastCause = 0x02 := by
  obtain ⟨-, -, listed, -⟩ := State.accepts_iff.mp acc
  have role : ((s.entered h 0x58 e).session h.session).role = e.role := by
    rw [State.session, tget, State.entered_session listed]
    exact (e.taking_owner h 0x58 s.now).1
  have allowed : (s.entered h 0x58 e).stepStatus ((s.entered h 0x58 e).session h.session).role target prov = 0 := by
    rw [role, State.stepStatus_congr (s.entered_mode h 0x58 e) (s.entered_fuses h 0x58 e), ok]
  have blown := State.lifecycleStepped_fuses h target prov (s.entered h 0x58 e)
  rw [State.entered_fuses] at blown
  obtain ⟨legal, sure⟩ := Fuses.step_sure prov (State.stepAllowed_of_stepStatus ok)
  rw [← blown, State.resetController_fuses] at legal sure
  obtain ⟨-, cause, -⟩ := State.resetController_leaves 0x02 legal sure
  unfold execLifecycleStep
  rw [State.ccpSimple_of_accepts _ acc]
  refine ⟨_, rfl, ?_⟩
  dsimp only
  rw [if_neg (not_not_intro allowed)]
  exact ⟨blown, cause⟩

theorem execRootBirth_births {h : CcpHdr} {e : Session} {s : State} (acc : s.accepts h 0x59 (some 16) e = true) (blank : s.fuses.lifeCycle = 0)
    (unborn : s.fuses.rootPresent = false) : ∃ t, execRootBirth h s = .next t ∧
      t.fuses = { s.fuses with rootPresent := true, deviceRoot := s.drawn 256 } ∧ t.fresh = s.fresh + 1 := by
  have fuses := s.entered_fuses h 0x59 e
  unfold execRootBirth
  rw [State.ccpSimple_of_accepts _ acc]
  refine ⟨_, rfl, ?_⟩
  dsimp only
  rw [if_neg (by rw [fuses]; exact not_not_intro blank), if_neg (by rw [fuses]; exact ne_true_of_eq_false unborn), State.ccpReply_fuses,
    State.ccpReply_fresh, State.entered_drawn]
  exact ⟨congrArg (fun f : Fuses => { f with rootPresent := true, deviceRoot := s.drawn 256 }) fuses,
    congrArg (· + 1) (s.entered_fresh h 0x59 e)⟩

/-! ### Debug lock and Lockdown (R328, R335) -/

theorem execUnlockChallenge_challenges {h : CcpHdr} {e : Session} {s : State} (acc : s.accepts h 0x5A (some 18) e = true)
    (returned : s.fuses.lifeCycle = 7) :
    ∃ t, execUnlockChallenge h s = .next t ∧ t.enclave.challenge = some (s.drawn 256) ∧ t.fresh = s.fresh + 1 := by
  unfold execUnlockChallenge
  rw [State.ccpSimple_of_accepts _ acc, State.entered_fuses, if_neg (not_not_intro returned)]
  refine ⟨_, rfl, ?_⟩
  dsimp only
  rw [State.ccpReply_enclave, State.ccpReply_fresh, State.entered_drawn]
  exact ⟨rfl, congrArg (· + 1) (s.entered_fresh h 0x5A e)⟩

theorem execDebugUnlock_opens {h : CcpHdr} {e : Session} {token : UnlockToken} {s : State} (acc : s.accepts h 0x5B (some 18) e = true)
    (own : h.staged = false) (returned : s.fuses.lifeCycle = 7) (lock : s.fuses.debugLock = 1) (kind : token.kind = 1 ∨ token.kind = 2)
    (challenge : s.enclave.challenge = some token.challenge) (device : token.deviceId = s.fuses.deviceId) (sig : token.sigGood = true) :
    ∃ t, execDebugUnlock h token s = .next t ∧ t.enclave.debugOpen = true ∧ t.enclave.challenge = none ∧ t.answered h 0 := by
  unfold execDebugUnlock
  rw [State.ccpSimple_of_accepts _ acc, State.entered_fuses, State.entered_enclave, State.ccpUnstage_of_unstaged own]
  refine ⟨_, rfl, ?_⟩
  dsimp only
  rw [if_neg (not_not_intro returned), if_neg (not_not_intro lock), if_neg (by omega), if_pos ⟨challenge, device, sig⟩, State.ccpReply_enclave]
  exact ⟨rfl, rfl, State.answered_of_sessions acc rfl⟩

theorem execLockdownClear_clears {h : CcpHdr} {e : Session} {s : State} (acc : s.accepts h 0x5C (some 21) e = true) :
    ∃ t, execLockdownClear h s = .next t ∧ t.keep.latch = false ∧ t.answered h 0 := by
  unfold execLockdownClear
  rw [State.ccpSimple_of_accepts _ acc]
  refine ⟨_, rfl, ?_, State.answered_of_sessions acc rfl⟩
  rw [show (State.ccpReply _ _ _ _ _).keep = _ from same_of_touch (g := .keep) (State.ccpReply_touch (by decide) (.refl _ _))]
  rfl

/-- Settles O60. Each clause is the lemma of its command. That a challenge serves one token (log 59) is the model's own choice. -/
theorem completesLifeCycle : Obligations.CompletesLifeCycle :=
  ⟨fun _ _ _ _ _ => execFwLoad_stages,
   fun _ _ _ _ _ _ => execFwCommit_begins,
   fun _ _ _ _ => execRollbackAdvance_advances,
   fun _ _ _ => execReset_resets,
   fun _ _ _ _ _ => execDiagRun_begins,
   fun _ _ _ _ _ => execLifecycleStep_steps,
   fun _ _ _ => execRootBirth_births,
   fun _ _ _ => execUnlockChallenge_challenges,
   fun _ _ _ _ => execDebugUnlock_opens,
   fun _ _ _ => execLockdownClear_clears⟩

end Sys2Proof.Machine

namespace Sys2Proof.Machine

/-! ## Tenants, enrolment and capsules (O58) -/

/-! ### The tenant table and enrolment (R313, R336, R524) -/

@[simp] theorem State.sharedDone_fresh (h : CcpHdr) (op : Nat) (args : List Nat) (data : Bytes) (s : State) :
    (s.sharedDone h op args data).fresh = s.fresh :=
  same_of_touch (g := .fresh) (State.sharedDone_touch (by decide) (.refl _ _))

theorem State.sharedDone_tenant (h : CcpHdr) (op : Nat) (args : List Nat) (data : Bytes) (n : Nat) (s : State) :
    (s.sharedDone h op args data).tenant n = s.tenant n :=
  State.tenant_congr (s.sharedDone_enclave h op args data) n

theorem State.entered_tenant (s : State) (h : CcpHdr) (op : Nat) (e : Session) (n : Nat) : (s.entered h op e).tenant n = s.tenant n :=
  State.tenant_congr (s.entered_enclave h op e) n

theorem execTenantCreate_creates {h : CcpHdr} {e : Session} {tenant : Nat} {s : State} (acc : s.accepts h 0x30 (some 10) e = true)
    (isTenant : tenant ≤ 4095) (unused : (s.tenant tenant).created = false) (reached : (s.entered h 0x30 e).sharedCut h = false) :
    ∃ t, execTenantCreate h tenant s = .next t ∧ t.tenant tenant = { created := true } := by
  have allowed : (if 4095 < tenant then ccRange else if ((s.entered h 0x30 e).tenant tenant).created then ccState else 0) = 0 := by
    rw [if_neg (Nat.not_lt.mpr isTenant), State.entered_tenant, if_neg (ne_true_of_eq_false unused)]
  unfold execTenantCreate
  rw [State.ccpSimple_of_accepts _ acc]
  refine ⟨_, rfl, ?_⟩
  dsimp only
  rw [allowed, State.sharedDo_zero reached, State.sharedDone_tenant, State.tenant_updTenant_same]

/-- A tenant that exists may be named. -/
theorem State.tenantStatus_zero {tenant : Nat} {s : State} (isTenant : tenant ≤ 4095) (created : (s.tenant tenant).created = true) :
    s.tenantStatus tenant = 0 := by
  unfold State.tenantStatus
  rw [if_neg (Nat.not_lt.mpr isTenant), if_neg (by simp [created])]

theorem execTenantRemove_removes {h : CcpHdr} {e : Session} {tenant : Nat} {s : State} (acc : s.accepts h 0x31 (some 10) e = true)
    (isTenant : tenant ≤ 4095) (created : (s.tenant tenant).created = true) (reached : (s.entered h 0x31 e).sharedCut h = false) :
    ∃ t, execTenantRemove h tenant s = .next t ∧ t.tenant tenant = {} ∧ t.word (oid 13 5 tenant) = 0 := by
  have ended (t : State) : ((t.endTenantSessions tenant).setWord (oid 13 5 tenant) 0).tenant tenant = t.tenant tenant :=
    State.tenant_congr (same_of_touch (g := .enclave) (State.setWord_touch (by decide) (State.endTenantSessions_touch (by decide) (.refl _ _)))) _
  have done (args : List Nat) (t : State) : (t.sharedDone h 0x31 args []).word (oid 13 5 tenant) = t.word (oid 13 5 tenant) :=
    State.word_congr (same_of_touch (g := .regs) (State.sharedDone_touch (by decide) (.refl _ _)))
      (same_of_touch (g := .den) (State.sharedDone_touch (by decide) (.refl _ _))) _
  unfold execTenantRemove
  rw [State.ccpSimple_of_accepts _ acc]
  refine ⟨_, rfl, ?_⟩
  dsimp only
  rw [State.tenantStatus_zero isTenant ((s.entered_tenant h 0x31 e tenant).symm ▸ created), State.sharedDo_zero reached]
  constructor
  · rw [State.sharedDone_tenant, ended, State.tenant_updTenant_same]
  · rw [done, word_setWord_same _ _ (by decide)]

theorem execEnrolOpen_opens {h : CcpHdr} {e : Session} {tenant : Nat} {s : State} (acc : s.accepts h 0x32 (some 10) e = true)
    (isTenant : tenant ≤ 4095) (created : (s.tenant tenant).created = true) (unenrolled : (s.tenant tenant).enrolled = false)
    (reached : (s.entered h 0x32 e).sharedCut h = false) :
    ∃ t, execEnrolOpen h tenant s = .next t ∧ t.tenant tenant = { s.tenant tenant with windowOpen := true } := by
  have same := s.entered_tenant h 0x32 e tenant
  unfold execEnrolOpen
  rw [State.ccpSimple_of_accepts _ acc]
  refine ⟨_, rfl, ?_⟩
  dsimp only
  rw [State.tenantStatus_zero isTenant (same.symm ▸ created), if_neg (not_not_intro rfl), same, if_neg (ne_true_of_eq_false unenrolled),
    State.sharedDo_zero reached, State.sharedDone_tenant, State.tenant_updTenant_same, same]

@[simp] theorem State.enteredOpen_enclave (s : State) (h : CcpHdr) (op : Nat) : (s.enteredOpen h op).enclave = s.enclave :=
  same_of_touch (g := .enclave) (s.enteredOpen_touch h op (by decide))

theorem State.enrolStatus_zero {tenant : Nat} {s : State} (isTenant : tenant ≤ 4095) (granted : s.fuses.maskTenant.toNat.testBit 11 = true)
    (opened : (s.tenant tenant).windowOpen = true) (keyed : s.enclave.shelfKey.isSome = true) : s.enrolStatus tenant = 0 := by
  unfold State.enrolStatus
  rw [if_neg (Nat.not_lt.mpr isTenant), if_neg (by simp [granted]), if_neg (by simp [opened]),
    if_neg (by simp [Option.isSome_iff_ne_none.mp keyed])]

/-- R313: whatever keys are agreed, the tenant is enrolled and its window closed; a value has been drawn. -/
theorem execEnrol_enrols {h : CcpHdr} {tenant pubKey : Nat} {s : State} (acc : s.acceptsOpen h 0x33 (some 11) = true) (isTenant : tenant ≤ 4095)
    (granted : s.fuses.maskTenant.toNat.testBit 11 = true) (opened : (s.tenant tenant).windowOpen = true)
    (keyed : s.enclave.shelfKey.isSome = true) (reached : (s.enteredOpen h 0x33).sharedCut h = false) :
    ∃ t, execEnrol h tenant pubKey s = .next t ∧ (t.tenant tenant).enrolled = true ∧ (t.tenant tenant).windowOpen = false ∧
      (t.tenant tenant).enrolCount = ((s.tenant tenant).enrolCount + 1) % 2 ^ 32 ∧ t.fresh = s.fresh + 1 := by
  have enclave := s.enteredOpen_enclave h 0x33
  have fuses : (s.enteredOpen h 0x33).fuses = s.fuses := same_of_touch (g := .fuses) (s.enteredOpen_touch h 0x33 (by decide))
  have fresh : (s.enteredOpen h 0x33).fresh = s.fresh := same_of_touch (g := .fresh) (s.enteredOpen_touch h 0x33 (by decide))
  have same : (s.enteredOpen h 0x33).tenant tenant = s.tenant tenant := State.tenant_congr enclave tenant
  have drawn (f : Tenant → Tenant) (t : State) : (t.draw.updTenant tenant f).fresh = t.fresh + 1 :=
    same_of_touch (g := .fresh) (b := t.draw) (State.updTenant_touch (by decide) (.refl _ _))
  have ready : (s.enteredOpen h 0x33).enrolStatus tenant = 0 :=
    State.enrolStatus_zero isTenant (fuses ▸ granted) (same ▸ opened) (enclave ▸ keyed)
  unfold execEnrol
  rw [State.ccpTake_of_acceptsOpen _ _ acc]
  refine ⟨_, rfl, ?_⟩
  dsimp only
  rw [ready, State.sharedDo_zero reached, State.sharedDone_tenant, State.sharedDone_fresh, drawn, fresh, State.tenant_updTenant_same]
  refine ⟨rfl, rfl, ?_, rfl⟩
  exact congrArg (fun t : Tenant => (t.enrolCount + 1) % 2 ^ 32) same

/-! ### Capsules (R285, R286, R288, R314, R315) -/

/-- R314: a capsule that is carried out stores its CAPSULE_SEQ. -/
theorem State.capsuleDone_seq (h : CcpHdr) (cap : Capsule) (args : List Nat) (s : State) :
    (((s.capsuleTaken cap).sharedDone h 0x34 args []).tenant cap.tenant).capsuleSeq = cap.seqNo := by
  rw [State.sharedDone_tenant, State.capsuleTaken_tenant]

section
variable {h : CcpHdr} {e : Session} {cap : Capsule} {s : State} (acc : s.accepts h 0x34 (some 11) e = true) (role : e.role = 2)
  (own : e.tenant = cap.tenant)
include acc role own

theorem execKeyImport_imports (ok : (s.entered h 0x34 e).capsuleStatus 1 cap = 0)
    (next : ((s.entered h 0x34 e).ns cap.handle).nextGen = some cap.gen) (keyed : s.enclave.shelfKey.isSome = true) (unwraps : cap.unwrapGood = true)
    (reached : (s.entered h 0x34 e).sharedCut h = false) : ∃ t, execKeyImport h cap s = .next t ∧
      t = (((s.entered h 0x34 e).importGen cap.handle cap.gen
          (Config.unwrap ((s.entered h 0x34 e).tenant cap.tenant).ttk cap.wrappedKey)).capsuleTaken cap).sharedDone h 0x34
        (capsuleArgs cap ++ (((s.entered h 0x34 e).importGen cap.handle cap.gen
          (Config.unwrap ((s.entered h 0x34 e).tenant cap.tenant).ttk cap.wrappedKey) |>.capsuleTaken cap).genResults cap.handle cap.gen)) [] ∧
      (t.tenant cap.tenant).capsuleSeq = cap.seqNo := by
  unfold execKeyImport
  rw [State.capsule_of_accepts _ _ acc role own ok _ reached, if_neg (ne_true_of_eq_false (State.applied_of_accepts acc))]
  · exact ⟨_, rfl, rfl, State.capsuleDone_seq ..⟩
  · rw [next]
    dsimp only
    rw [State.entered_enclave, if_neg (by simp [Option.isSome_iff_ne_none.mp keyed]), if_neg (by simp [unwraps])]

theorem execAttach_attaches (ok : (s.entered h 0x34 e).capsuleStatus 2 cap = 0) (isHost : cap.host < 8192)
    (enabled : (tget {} s.cmds.hosts cap.host).enable = true) (hostTenant : (tget {} s.cmds.hosts cap.host).tenant = cap.tenant)
    (hostid : (tget {} s.cmds.hosts cap.host).hostid = cap.hostid) (nqn : cap.nqnDigestGood = true) (attach : cap.attachIt = true)
    (reached : (s.entered h 0x34 e).sharedCut h = false) : ∃ t, execAttach h cap s = .next t ∧
      t = (((s.entered h 0x34 e).setNsHosts cap.handle (cap.host / 64) (Nat.lor (tget 0 s.cmds.nsHosts (128 * cap.handle + cap.host / 64))
        (2 ^ (cap.host % 64)))).capsuleTaken cap).sharedDone h 0x34 (capsuleArgs cap ++ ([cap.host, 1])) [] ∧
      (t.tenant cap.tenant).capsuleSeq = cap.seqNo := by
  have cmds : (s.entered h 0x34 e).cmds = s.cmds := same_of_touch (g := .cmds) (s.entered_touch h 0x34 e (by decide))
  unfold execAttach
  rw [State.capsule_of_accepts _ _ acc role own ok _ reached]
  · dsimp only
    rw [cmds, if_pos attach, attach]
    exact ⟨_, rfl, rfl, State.capsuleDone_seq ..⟩
  · dsimp only
    rw [cmds, if_neg (by simp [Nat.not_le.mpr isHost, enabled, hostTenant, hostid, nqn])]

theorem execActivate_activates (ok : (s.entered h 0x34 e).capsuleStatus 3 cap = 0)
    (pending : (s.entered h 0x34 e).activateStatus cap.handle cap.gen = 0) (reached : (s.entered h 0x34 e).sharedCut h = false) :
    ∃ t, execActivate h cap s = .next t ∧
      t = ((((s.entered h 0x34 e).applyActivate cap.handle cap.gen).keyReady cap.handle).capsuleTaken cap).sharedDone h 0x34
        (capsuleArgs cap ++ ([])) [] ∧
      (t.tenant cap.tenant).capsuleSeq = cap.seqNo :=
  ⟨_, congrArg Host.Outcome.next (State.capsule_of_accepts _ _ acc role own ok pending reached), rfl, State.capsuleDone_seq ..⟩

theorem execSweep_sweeps (ok : (s.entered h 0x34 e).capsuleStatus 4 cap = 0) (retained : (s.entered h 0x34 e).sweepStatus cap.handle cap.gen = 0)
    (reached : (s.entered h 0x34 e).sharedCut h = false) : ∃ t, execSweep h cap s = .next t ∧
      t = (((s.entered h 0x34 e).sweepGen cap.handle cap.gen).capsuleTaken cap).sharedDone h 0x34 (capsuleArgs cap ++ ([])) [] ∧
      (t.tenant cap.tenant).capsuleSeq = cap.seqNo :=
  ⟨_, congrArg Host.Outcome.next (State.capsule_of_accepts _ _ acc role own ok retained reached), rfl, State.capsuleDone_seq ..⟩

end

/-- Settles O58. Each clause is the lemma of its command. The message in which a shared change goes to the partner, before whose acknowledgement there
is no answer (log 18), and the codes of a refused capsule and what of one is stored (log 58) are the model's own choices. -/
theorem completesTenantsA : Obligations.CompletesTenantsA :=
  ⟨fun _ _ _ _ => execTenantCreate_creates,
   fun _ _ _ _ => execTenantRemove_removes,
   fun _ _ _ _ => execEnrolOpen_opens,
   fun _ _ _ _ => execEnrol_enrols,
   fun _ _ _ _ => execKeyImport_imports,
   fun _ _ _ _ => execAttach_attaches,
   fun _ _ _ _ => execActivate_activates,
   fun _ _ _ _ => execSweep_sweeps⟩

end Sys2Proof.Machine

namespace Sys2Proof.Machine

/-! ## The queue, the frame of a command, requests and their sessions (O1, O4, O10, O13, O14) -/

theorem pending_not_in_footprint (i : Instr) : (footprint i).contains .pending = false := by
  cases i <;> rfl

/-- Settles O4, by the frame of every command (`exec_same`). -/
theorem frameOfEveryCommand : Obligations.FrameOfEveryCommand :=
  ⟨fun _ _ _ done _ out => exec_same done (by simpa using out),
   fun i listed => by simpa [listed] using pending_not_in_footprint i⟩

/-- Settles O10. -/
theorem acceptedRequestRuns : Obligations.AcceptedRequestRuns :=
  ⟨fun _ _ _ _ _ run _ acc permitted => State.ccpTake_of_accepts run acc permitted,
   fun _ _ _ perm run _ acc => State.ccpTake_of_acceptsOpen perm run acc⟩

/-- Settles O1. That the time base advances on an empty queue (log 1) is the model's own choice. -/
theorem stepTakesTheFront : Obligations.StepTakesTheFront := by
  constructor
  · intro c rest s front
    unfold step
    rw [front]
    rfl
  · intro s empty
    unfold step
    split
    next => rfl
    next front => exact absurd (empty.symm.trans front) (List.cons_ne_nil _ _).symm

/-! ### The ALIVE values of a session (R490) -/

theorem Session.aliveTake_cases {e x : Session} {a : Nat} (taken : e.aliveTake a = some x) :
    (e.high < a ∧ x = { e with high := a, map := (e.map <<< (a - e.high)) ||| 1#64 }) ∨
      e.high ≤ a + 63 ∧ a ≤ e.high ∧ x = { e with map := e.map ||| (1#64 <<< (e.high - a)) } := by
  unfold Session.aliveTake at taken
  split at taken
  next above => exact .inl ⟨above.1, (Option.some.inj taken).symm⟩
  next =>
    split at taken
    next within => exact .inr ⟨within.1, within.2.1, (Option.some.inj taken).symm⟩
    next => cases taken

/-- R490: a value not above HIGH is rejected where it lies below the window of 64 values, or its bit in the map is set. -/
theorem Session.aliveTake_eq_none_iff {e : Session} {b : Nat} (below : b ≤ e.high) :
    e.aliveTake b = none ↔ (e.high ≤ b + 63 → e.map.getLsbD (e.high - b) = true) := by
  unfold Session.aliveTake
  rw [if_neg (by omega), BitVec.testBit_toNat]
  split
  next unseen => simp [unseen]
  next shut => exact ⟨fun _ near => by simpa [near, below] using shut, fun _ => rfl⟩

theorem Session.seen_iff {e : Session} {a : Nat} : e.seen a = true ↔ e.high ≤ a + 63 ∧ a ≤ e.high ∧ e.map.getLsbD (e.high - a) = true := by
  simp [Session.seen, and_assoc, BitVec.testBit_toNat]

/-- R490: a value that is taken is marked in the map, up to which no mark in the window is lost. -/
theorem Session.aliveTake_marks {e x : Session} {a : Nat} (taken : e.aliveTake a = some x) :
    (e.high ≤ x.high ∧ x.high ≤ a + 63 ∧ a ≤ x.high ∧ x.map.getLsbD (x.high - a) = true) ∧
      ∀ b, b ≤ e.high → x.high ≤ b + 63 → e.map.getLsbD (e.high - b) = true → x.map.getLsbD (x.high - b) = true := by
  obtain ⟨above, rfl⟩ | ⟨near, below, rfl⟩ := Session.aliveTake_cases taken
  · refine ⟨⟨above.le, Nat.le_add_right a 63, le_refl a, by simp⟩, fun b le near marked => ?_⟩
    have near : a ≤ b + 63 := near
    have moved : a - b - (a - e.high) = e.high - b := by omega
    have inMap : a - b < 64 := by omega
    simp [moved, inMap, marked]
    omega
  · have inMap : e.high - a < 64 := by omega
    exact ⟨⟨le_refl _, near, below, by simp [inMap]⟩, fun b _ _ marked => by simp [marked]⟩

/-- Settles O13: the value taken is marked, and every mark that the window still covers is kept. -/
theorem aliveTakenOnce : Obligations.AliveTakenOnce := by
  intro e x a taken
  obtain ⟨⟨rises, near, below, marked⟩, keeps⟩ := Session.aliveTake_marks taken
  refine ⟨(Session.aliveTake_eq_none_iff below).mpr fun _ => marked, Session.seen_iff.mpr ⟨near, below, marked⟩, rises, fun b le rejected => ?_⟩
  exact (Session.aliveTake_eq_none_iff (le.trans rises)).mpr fun within =>
    keeps b le within ((Session.aliveTake_eq_none_iff le).mp rejected (rises.trans within))


/-! ### Sessions and their carriers (R485, R487) -/

theorem tfreeFrom_free {α : Type} {t : Tbl α} {n lo id : Nat} (found : tfreeFrom t lo n = some id) : lo ≤ id ∧ id < lo + n ∧ thas t id = false := by
  induction n generalizing lo with
  | zero => cases found
  | succ n ih =>
    unfold tfreeFrom at found
    split at found
    · obtain ⟨above, below, free⟩ := ih found
      exact ⟨by omega, by omega, free⟩
    · next free =>
      obtain rfl := Option.some.inj found
      exact ⟨le_refl _, by omega, eq_false_of_ne_true free⟩

theorem Session.bound_iff {e : Session} {h : CcpHdr} :
    e.bound h = true ↔ e.viaSett = h.viaSett ∧ e.transport = h.transport ∧ (h.transport = 1 → e.src = h.src) := by
  simp [Session.bound, and_assoc, imp_iff_not_or]

/-- R487: a SESSION_OPEN that is good but for the room in the table. -/
theorem execSessionOpen_full {h : CcpHdr} {role : Nat} (tenant nonce pubKey : Nat) {s : State} (acc : s.acceptsOpen h 0x02 none = true)
    (free : s.ccp.holdOff.contains (carrierOf h) = false) (isRole : role = 1 ∨ role = 3 ∨ role = 4)
    (accepted : roleAccepted s.fuses.lifeCycle role = true) (full : tfreeFrom s.ccp.sessions 1 64 = none) :
    execSessionOpen h role tenant nonce pubKey true s = .next ((s.enteredOpen h 0x02).ccpReply h 0x02 0x0402 []) := by
  obtain ⟨long, ccp⟩ := s.enteredOpen_ccp h 0x02
  have fuses : (s.enteredOpen h 0x02).fuses = s.fuses := same_of_touch (g := .fuses) (s.enteredOpen_touch h 0x02 (by decide))
  have inRange : ¬ (role = 0 ∨ 4 < role ∨ role = 2 ∧ 4095 < tenant) := by omega
  have credential : ¬ (role = 2 ∧ (tget {} (s.enteredOpen h 0x02).enclave.tenants tenant).enrolled = false ∨ role ≠ 2 ∧ true = false) := by
    rintro (⟨isTenant, -⟩ | ⟨-, bad⟩)
    · omega
    · cases bad
  unfold execSessionOpen State.ccpSimple
  rw [State.ccpTake_of_acceptsOpen _ _ acc, ccp, if_neg (ne_true_of_eq_false free), if_neg inRange, fuses, if_neg (by simp [accepted]),
    if_neg credential, full]
  rfl

/-- R485: a request that does not come as its session is bound is refused without a session. -/
theorem State.ccpTake_of_unbound {h : CcpHdr} {op : Nat} {group : Option Nat} {e : Session} (perm : Session → Nat) (run : State → State) {s : State}
    (comes : s.comesIn h op group = true) (session : h.session ≠ 0) (listed : tfind s.ccp.sessions h.session = some e)
    (unbound : e.bound h = false) : s.ccpTake h op group perm run = s.arrived.ccpRefuse h op 0x0201 := by
  obtain ⟨own, relay, version, awake, -, offered, arrives⟩ := State.comesIn_iff.mp comes
  rw [State.ccpTake_of_session (State.comesIn_iff.mpr ⟨own, relay, version, awake, .inr rfl, offered, arrives⟩) session]
  unfold State.ccpInSession
  rw [State.arrived_ccp, listed]
  exact if_pos (.inl unbound)

/-- Settles O14. That a session may be bound to the relay over the SETT (log 41) is the model's own choice. -/
theorem sessionsAreBounded : Obligations.SessionsAreBounded :=
  ⟨fun _ _ tenant nonce pubKey _ => execSessionOpen_full tenant nonce pubKey,
   fun _ _ found =>
    have ⟨lo, hi, free⟩ := tfreeFrom_free found
    ⟨lo, Nat.le_of_lt_succ hi, free⟩,
   fun _ _ _ _ perm run _ => State.ccpTake_of_unbound perm run,
   fun _ _ => Session.bound_iff⟩

end Sys2Proof.Machine

namespace Sys2Proof.Machine

/-! ## Supplies, power-good inputs and RESET_N (O22) -/

/-! ### The power-up sequence (R538, R539, R542) -/

@[simp] theorem State.updPins_pins (f : Pins → Pins) (s : State) : (s.updPins f).den.pins = f s.den.pins := rfl
@[simp] theorem State.setSeq_pins (q : PwrSeq) (s : State) : (s.setSeq q).den.pins = s.den.pins := rfl

/-- R538: from step 4 on the HBM group is on; of the time and the other pins nothing changes. -/
theorem State.powerUpFrom4_pins (s : State) : s.powerUpFrom4.den.timeNs = s.den.timeNs ∧
    ∃ core, s.powerUpFrom4.den.pins = { s.den.pins with hbmPwrEn := true, corePwrEn := core } := by
  unfold State.powerUpFrom4
  dsimp only
  split
  · exact ⟨rfl, true, rfl⟩
  · exact ⟨rfl, s.den.pins.corePwrEn, rfl⟩

/-- R542: straps that ask for no test are kept, and power-up goes on from step 4. -/
theorem State.sampleStraps_runs (idx : Bool) (s : State) : (s.sampleStraps idx false).den.timeNs = s.den.timeNs ∧
    ∃ core, (s.sampleStraps idx false).den.pins =
      { s.den.pins with strapIdx := idx, strapTest := false, hbmPwrEn := true, corePwrEn := core } :=
  (s.updPins fun p => { p with strapIdx := idx, strapTest := false }).powerUpFrom4_pins

theorem execAlwaysOnSupplyRise_powersUp {s : State} (off : s.den.seq = .off) (idx : Bool) :
    ∃ t, execAlwaysOnSupplyRise idx false s = .next t ∧ t.den.timeNs = 0 ∧ t.den.pins.strapIdx = idx ∧ t.den.pins.hbmPwrEn = true := by
  obtain ⟨time, core, pins⟩ := (s.updDen fun d => { d with timeNs := 0 }).sampleStraps_runs idx
  exact ⟨_, congrArg Host.Outcome.next (if_pos off), time, congrArg Pins.strapIdx pins, congrArg Pins.hbmPwrEn pins⟩

theorem execAlwaysOnSupplyLoss_loses (s : State) : ∃ t, execAlwaysOnSupplyLoss s = .next t ∧ t.den = {} ∧ t.keep = {} ∧
    t.layout.larder = [] ∧ t.fuses = s.fuses ∧ t.images = s.images :=
  ⟨s.powerLost, rfl, rfl, rfl, rfl, rfl, rfl⟩

theorem execHbmPgAssert_goesOn {s : State} (waits : s.den.seq = .hbmWait) (released : s.den.pins.resetNLow = false) :
    ∃ t, execHbmPgAssert s = .next t ∧ t.den.pins.hbmPg = true ∧ t.den.pins.corePwrEn = true ∧ t.den.seq = .coreWait := by
  unfold execHbmPgAssert
  dsimp only
  rw [if_pos waits]
  exact ⟨_, congrArg Host.Outcome.next (if_neg (ne_true_of_eq_false released)), rfl, rfl, rfl⟩

/-- R527, R538: out of M0 the core's power starts the fuse load. -/
theorem execCorePgAssert_loads (restore : DenRestore) {s : State} (waits : s.den.seq = .coreWait) (awake : s.modes.mode ≠ .m0)
    (legal : legalLifeCycle s.fuses.lifeCycle = true) (sure : s.fuses.marginal = false) :
    ∃ t, execCorePgAssert {} restore s = .next t ∧ t.boot.bootStep = 3 := by
  unfold execCorePgAssert
  dsimp only
  rw [if_pos waits]
  refine ⟨_, congrArg Host.Outcome.next (if_neg awake), ?_⟩
  exact (State.fuseLoad_good (s := (s.updPins fun p => { p with corePg := true }).updDen _) legal sure).1

theorem execPowerGoodTimeout_retries {s : State} (waits : s.den.seq = .hbmWait ∨ s.den.seq = .coreWait) (few : s.den.seqFails < 2) :
    ∃ t, execPowerGoodTimeout s = .next t ∧ t.den.seq = .retryWait ∧ t.den.seqFails = s.den.seqFails + 1 ∧ t.den.pins.corePwrEn = false := by
  unfold execPowerGoodTimeout
  dsimp only
  rw [if_pos waits, if_neg (by omega)]
  exact ⟨_, rfl, rfl, rfl, rfl⟩

theorem execPowerRetryTimer_powersUp {s : State} (waits : s.den.seq = .retryWait) :
    ∃ t, execPowerRetryTimer s = .next t ∧ t.den.pins.hbmPwrEn = true := by
  obtain ⟨-, core, pins⟩ := s.powerUpFrom4_pins
  exact ⟨_, congrArg Host.Outcome.next (if_pos waits), congrArg Pins.hbmPwrEn pins⟩

/-! ### RESET_N (R541, R542) -/

theorem execResetNAssert_resets {s : State} (on : s.den.seq ≠ .off) (high : s.den.pins.resetNLow = false) (noHoldup : s.layout.holdup = none)
    (cool : s.tripHolds = false) : ∃ t, execResetNAssert s = .next t ∧ t.modes.mode = .m1 ∧ t.modes.lastCause = 0x01 ∧
      t.den.pins.corePwrEn = false ∧ t.ccp.sessions = [] := by
  unfold execResetNAssert
  rw [if_neg (by simp [on, high]), if_neg (by simp [noHoldup]), if_neg (ne_true_of_eq_false cool)]
  exact ⟨_, rfl, rfl, rfl, rfl, rfl⟩

theorem execResetNRise_powersUp (idx : Bool) {s : State} (low : s.den.pins.resetNLow = true) (held : s.den.seq = .heldInReset)
    (runs : s.den.stopped = false) : ∃ t, execResetNRise idx false s = .next t ∧ t.den.pins.resetNLow = false ∧
      t.den.pins.strapIdx = idx ∧ t.den.pins.hbmPwrEn = true := by
  obtain ⟨-, core, pins⟩ := (s.updPins fun p => { p with resetNLow := false }).sampleStraps_runs idx
  unfold execResetNRise
  dsimp only
  rw [if_pos low]
  refine ⟨_, congrArg Host.Outcome.next (if_pos ⟨held, runs⟩), ?_⟩
  rw [pins]
  exact ⟨rfl, rfl, rfl⟩

/-- Settles O22. Each clause is the lemma of its command. -/
theorem completesElectricalA : Obligations.CompletesElectricalA :=
  ⟨fun idx _ off => execAlwaysOnSupplyRise_powersUp off idx,
   execAlwaysOnSupplyLoss_loses,
   fun _ => execHbmPgAssert_goesOn,
   fun restore _ => execCorePgAssert_loads restore,
   fun _ => execPowerGoodTimeout_retries,
   fun _ => execPowerRetryTimer_powersUp,
   fun _ => execResetNAssert_resets,
   fun idx _ => execResetNRise_powersUp idx⟩

end Sys2Proof.Machine

namespace Sys2Proof.Machine

/-! ## Slot supervisors (O19, O47) -/

/-! ### The sizing of the larder limit (R444 to R447) -/

/-- A store without the figures that sizing computes. -/
def Estore.measured (e : Estore) : Estore := { e with nCover := 0, bRate := 0, tMaxMs := 0, pHoldW := 0, eEffJ := 0, deficit := false }

/-- R444 to R447: of the power state a recomputed larder limit changes the figures of the store that sizing computes, and nothing else. -/
theorem State.recomputeLimit_power (note : Bool) (s : State) :
    ∃ e : Estore, (s.recomputeLimit note).power = { s.power with estore := e } ∧ e.measured = s.power.estore.measured := by
  unfold State.recomputeLimit
  dsimp only
  refine ⟨_, (same_of_touch (g := .power) (State.when_touch (State.when_touch (State.when_touch (.refl _ _) ?entering) ?noted) ?both)).trans rfl, rfl⟩
  case entering => exact fun _ t => State.raise_touch (by decide) (State.bump_touch (by decide) t)
  case noted => exact fun _ t => State.marginRecord_touch (by decide) t
  case both => exact fun _ t => State.raise_touch (by decide) t

@[simp] theorem State.recomputeLimit_slots (note : Bool) (s : State) : (s.recomputeLimit note).power.slots = s.power.slots := by
  obtain ⟨e, power, -⟩ := s.recomputeLimit_power note
  rw [power]

@[simp] theorem State.recomputeLimit_feeds (note : Bool) (s : State) : (s.recomputeLimit note).power.feeds = s.power.feeds := by
  obtain ⟨e, power, -⟩ := s.recomputeLimit_power note
  rw [power]

@[simp] theorem State.recomputeLimit_measured (note : Bool) (s : State) :
    (s.recomputeLimit note).power.estore.measured = s.power.estore.measured := by
  obtain ⟨e, power, measured⟩ := s.recomputeLimit_power note
  rw [power, measured]

theorem State.counter_when {c : Nat × Nat} {i : Nat} {f : State → State} (keeps : ∀ t, (f t).counter c i = t.counter c i) (b : Bool) (s : State) :
    (s.when b f).counter c i = s.counter c i := by
  unfold State.when
  split
  · exact keeps s
  · rfl

theorem State.counter_raise (c : Nat × Nat) (i code n data : Nat) (s : State) : (s.raise code n data).counter c i = s.counter c i :=
  State.counter_congr (s.raise_telem code n data) c i

theorem State.counter_marginRecord {c : Nat × Nat} (other : c.2 % 32 ≠ cMarginChanges.2 % 32) (i kind cause n old new : Nat) (s : State) :
    (s.marginRecord kind cause n old new).counter c i = s.counter c i := by
  unfold State.marginRecord
  dsimp only
  rw [State.counter_raise, State.counter_bump_other other]
  rfl

/-- Of the counters, a recomputed larder limit counts deficits and margin records alone. -/
theorem State.counter_recomputeLimit {c : Nat × Nat} (deficits : c.2 % 32 ≠ cLarderDeficits.2 % 32) (margins : c.2 % 32 ≠ cMarginChanges.2 % 32)
    (i : Nat) (note : Bool) (s : State) : (s.recomputeLimit note).counter c i = s.counter c i := by
  unfold State.recomputeLimit
  dsimp only
  rw [State.counter_when fun t => State.counter_raise c i _ _ _ t, State.counter_when fun t => State.counter_marginRecord margins i _ _ _ _ _ t,
    State.counter_when fun t => (State.counter_raise c i _ _ _ _).trans (State.counter_bump_other deficits i 0 t)]
  rfl

/-! ### What leaves a slot supervisor alone -/

theorem State.slotPwr_congr {s t : State} (slots : t.power.slots = s.power.slots) (n : Nat) : t.slotPwr n = s.slotPwr n := by
  unfold State.slotPwr
  rw [slots]

@[simp] theorem State.slotPwr_recomputeLimit (note : Bool) (n : Nat) (s : State) : (s.recomputeLimit note).slotPwr n = s.slotPwr n :=
  State.slotPwr_congr (s.recomputeLimit_slots note) n

theorem State.slotPwr_of_touch {s t : State} (h : Touch (allBut .power) s t) (n : Nat) : t.slotPwr n = s.slotPwr n :=
  State.slotPwr_congr (congrArg PowerKeep.slots (same_of_touch (g := .power) h)) n

@[simp] theorem State.slotPwr_bump (c : Nat × Nat) (i n : Nat) (s : State) : (s.bump c i).slotPwr n = s.slotPwr n :=
  State.slotPwr_of_touch (State.bump_touch (by decide) (.refl _ _)) n

@[simp] theorem State.counter_updSlotPwr (c : Nat × Nat) (i n : Nat) (f : SlotPwr → SlotPwr) (s : State) :
    (s.updSlotPwr n f).counter c i = s.counter c i := rfl

/-! ### Faults (R432 to R435, R437) -/

/-- A slot counter: TRIPS, START_FAULTS or OVERCURRENT. -/
abbrev isSlotFaultCount (c : Nat × Nat) : Prop := c.2 % 32 ≠ cLarderDeficits.2 % 32 ∧ c.2 % 32 ≠ cMarginChanges.2 % 32

/-- R437: a fault turns the gate off, is recorded and counted, and the slot waits. -/
theorem State.slotFault_records (slot code : Nat) {c : Nat × Nat} (count : isSlotFaultCount c) (s : State) :
    ((s.slotFault slot code c).slotPwr slot).pState = 3 ∧ ((s.slotFault slot code c).slotPwr slot).lastFault = code ∧
      ((s.slotFault slot code c).slotPwr slot).gateOn = false ∧
      (s.slotFault slot code c).counter c slot = sat (2 ^ 64 - 1) (s.counter c slot + 1) := by
  unfold State.slotFault
  dsimp only
  rw [State.slotPwr_recomputeLimit, State.slotPwr_bump, State.slotPwr_updSlotPwr_same, State.counter_recomputeLimit count.1 count.2,
    State.counter_bump_same]
  exact ⟨rfl, rfl, rfl, rfl⟩

theorem execSlotTrip_trips {slot : Nat} {s : State} (isSlot : slot < 64) (on : (s.slotPwr slot).gateOn = true) :
    ∃ t, execSlotTrip slot s = .next t ∧ (t.slotPwr slot).pState = 3 ∧ (t.slotPwr slot).lastFault = 1 ∧ (t.slotPwr slot).gateOn = false ∧
      t.counter cSlotTrips slot = sat (2 ^ 64 - 1) (s.counter cSlotTrips slot + 1) := by
  unfold execSlotTrip
  rw [bounded_eq_next (decide_eq_true isSlot), if_pos on]
  exact ⟨_, rfl, s.slotFault_records slot 1 (by decide)⟩

/-- Settles O19. -/
theorem tripTurnsTheGateOff : Obligations.TripTurnsTheGateOff := by
  intro slot s isSlot on
  obtain ⟨t, next, -, fault, off, -⟩ := execSlotTrip_trips isSlot on
  exact ⟨t, next, off, fault⟩

theorem execSlotFaultTimer_faults {slot : Nat} {s : State} (isSlot : slot < 64) (starting : (s.slotPwr slot).pState = 4) :
    ∃ t, execSlotFaultTimer slot s = .next t ∧ (t.slotPwr slot).pState = 3 ∧ (t.slotPwr slot).lastFault = 2 ∧ (t.slotPwr slot).gateOn = false ∧
      t.counter cSlotStartFaults slot = sat (2 ^ 64 - 1) (s.counter cSlotStartFaults slot + 1) := by
  unfold execSlotFaultTimer
  rw [bounded_eq_next (decide_eq_true isSlot), if_pos starting]
  exact ⟨_, rfl, s.slotFault_records slot 2 (by decide)⟩

theorem execSlotOvercurrentTimer_faults {slot : Nat} {s : State} (isSlot : slot < 64) (powered : (s.slotPwr slot).pState = 5)
    (limits : (s.slotPwr slot).limiter = true) :
    ∃ t, execSlotOvercurrentTimer slot s = .next t ∧ (t.slotPwr slot).pState = 3 ∧ (t.slotPwr slot).lastFault = 3 ∧
      (t.slotPwr slot).gateOn = false ∧ t.counter cSlotOvercurrent slot = sat (2 ^ 64 - 1) (s.counter cSlotOvercurrent slot + 1) := by
  unfold execSlotOvercurrentTimer
  rw [bounded_eq_next (decide_eq_true isSlot), if_pos ⟨powered, limits⟩]
  exact ⟨_, rfl, s.slotFault_records slot 3 (by decide)⟩

/-! ### Presence (R429) -/

theorem execSlotPresenceAssert_seats {slot : Nat} (isSlot : slot < 64) (s : State) :
    ∃ t, execSlotPresenceAssert slot s = .next t ∧ (t.slotPwr slot).present = true ∧ (t.slotPwr slot).seatSince = s.now := by
  refine ⟨_, bounded_eq_next (decide_eq_true isSlot), ?_⟩
  rw [State.slotPwr_updSlotPwr_same]
  exact ⟨rfl, rfl⟩

/-- R418: of the supervisor of a slot, the start of a release lowers DRV_PERST_N alone. -/
theorem State.startRelease_slotPwr (slot : Nat) (s : State) : (s.startRelease slot).slotPwr slot = { s.slotPwr slot with perstHigh := false } := by
  unfold State.startRelease
  dsimp only
  rw [State.slotPwr_updSlotPwr_same, State.slotPwr_bump]
  rfl

/-- R416, R418: of the supervisor of a slot, what follows a containment changes DRV_PERST_N at most. -/
theorem State.afterContain_slotPwr (slot cause : Nat) (s : State) :
    ∃ high, (s.afterContain slot cause).slotPwr slot = { s.slotPwr slot with perstHigh := high } := by
  have failed (b : Bool) : Touch (allBut .power) s (s.when b fun u => match u.poolOfSlot slot with
      | some n => u.failMember n slot 3
      | none => u) := by
    refine State.when_touch (.refl _ _) fun u t => ?_
    split
    · exact State.failMember_touch (by decide) t
    · exact t
  unfold State.afterContain
  dsimp only
  split
  · exact ⟨_, State.slotPwr_of_touch (failed _) slot⟩
  · split
    · exact ⟨false, (State.startRelease_slotPwr slot _).trans
        (congrArg (fun p : SlotPwr => { p with perstHigh := false }) (State.slotPwr_of_touch (failed _) slot))⟩
    · exact ⟨_, State.slotPwr_of_touch (State.portEvent_touch (by decide) (State.updDport_touch (by decide) (failed _))) slot⟩

/-- R415 to R418: of the supervisor of a slot, a containment changes DRV_PERST_N at most. -/
theorem State.contain_slotPwr (slot cause : Nat) (s : State) :
    ∃ high, (s.contain slot cause).slotPwr slot = { s.slotPwr slot with perstHigh := high } := by
  unfold State.contain
  split
  · exact ⟨_, rfl⟩
  · dsimp only
    rw [State.slotPwr_of_touch (State.settle_touch (by decide) (.refl _ _))]
    obtain ⟨high, after⟩ := State.afterContain_slotPwr slot cause _
    refine ⟨high, after.trans (congrArg (fun p : SlotPwr => { p with perstHigh := high }) (State.slotPwr_of_touch ?_ slot))⟩
    exact State.when_touch (State.dropDrive_touch (by decide) (State.bump_touch (by decide) (State.updDport_touch (by decide) (.refl _ _))))
      fun _ t => State.driveFault_touch (by decide) t

theorem execSlotPresenceLost_empties {slot : Nat} {s : State} (isSlot : slot < 64) :
    ∃ t, execSlotPresenceLost slot s = .next t ∧ (t.slotPwr slot).present = false ∧ (t.slotPwr slot).gateOn = false ∧
      (t.slotPwr slot).emptySince = s.now := by
  refine ⟨_, bounded_eq_next (decide_eq_true isSlot), ?_⟩
  dsimp only
  unfold State.portEmptied
  rw [State.slotPwr_recomputeLimit, State.slotPwr_of_touch (State.updDport_touch (by decide) (.refl _ _))]
  obtain ⟨high, contained⟩ := State.contain_slotPwr slot 7 _
  rw [contained, State.slotPwr_of_touch (State.when_touch (.refl _ _) fun _ t => State.bump_touch (by decide) t), State.slotPwr_updSlotPwr_same]
  exact ⟨rfl, rfl, rfl⟩

/-! ### Start-up and samples (R427, R432, R437) -/

theorem State.startSlot_starts (slot : Nat) (s : State) : ((s.startSlot slot).slotPwr slot).pState = 4 ∧
    ((s.startSlot slot).slotPwr slot).gateOn = true ∧ ((s.startSlot slot).slotPwr slot).retryCnt = (s.slotPwr slot).retryCnt ∧
      ((s.startSlot slot).slotPwr slot).cooling = (s.slotPwr slot).cooling ∧ ((s.startSlot slot).slotPwr slot).cycling = (s.slotPwr slot).cycling := by
  unfold State.startSlot
  dsimp only
  rw [State.slotPwr_updSlotPwr_same]
  exact ⟨rfl, rfl, rfl, rfl, rfl⟩

/-- R437: a slot that is not marked starts at once. -/
theorem State.tryStart_unmarked {slot : Nat} {s : State} (mayRun : s.slotMayRun slot = true) (leads : s.leads slot = true)
    (unmarked : (s.slotPwr slot).marked = false) : s.tryStart slot = s.startSlot slot := by
  unfold State.tryStart
  dsimp only
  rw [if_neg (by simp [mayRun]), if_neg (by simp [leads]), if_pos unmarked]

/-- R437: a marked slot retries up to RETRY_MAX times. -/
theorem State.tryStart_marked {slot : Nat} {s : State} (mayRun : s.slotMayRun slot = true) (leads : s.leads slot = true)
    (marked : (s.slotPwr slot).marked = true) (within : (s.slotPwr slot).retryCnt + 1 ≤ s.slotPwrCfgRetryMax slot) :
    s.tryStart slot = ((s.updSlotPwr slot fun q => { q with retryCnt := q.retryCnt + 1 }).bump cSlotRetries slot).startSlot slot := by
  unfold State.tryStart
  dsimp only
  rw [if_neg (by simp [mayRun]), if_neg (by simp [leads]), if_neg (by simp [marked]), if_neg (by omega)]

theorem execSlotSeated_starts {slot : Nat} {s : State} (isSlot : slot < 64) (present : (s.slotPwr slot).present = true)
    (held : s.drivesOff = false) (awake : s.modes.mode ≠ .m0) (seating : (s.slotPwr slot).pState = 2) (cool : (s.slotPwr slot).cooling = false)
    (unmarked : (s.slotPwr slot).marked = false) (mayRun : s.slotMayRun slot = true) (leads : s.leads slot = true) :
    ∃ t, execSlotSeated slot s = .next t ∧ (t.slotPwr slot).pState = 4 ∧ (t.slotPwr slot).gateOn = true := by
  obtain ⟨started, on, -⟩ := s.startSlot_starts slot
  unfold execSlotSeated
  dsimp only
  rw [if_neg (by simp [present]), if_neg (ne_true_of_eq_false held), if_neg (by simp [seating]), if_neg (ne_true_of_eq_false cool),
    State.tryStart_unmarked mayRun leads unmarked]
  refine ⟨_, bounded_eq_next (decide_eq_true isSlot), ?_⟩
  rw [show (decide (s.modes.mode = .m0) && decide (s.denCfgWakeSlot = 1)) = false by simp [awake]]
  exact ⟨started, on⟩

theorem execSlotCooldownEnd_retries {slot : Nat} {s : State} (isSlot : slot < 64) (cooling : (s.slotPwr slot).cooling = true)
    (waits : (s.slotPwr slot).pState = 3) (marked : (s.slotPwr slot).marked = true)
    (within : (s.slotPwr slot).retryCnt + 1 ≤ s.slotPwrCfgRetryMax slot) (mayRun : s.slotMayRun slot = true) (leads : s.leads slot = true) :
    ∃ t, execSlotCooldownEnd slot s = .next t ∧ (t.slotPwr slot).pState = 4 ∧ (t.slotPwr slot).retryCnt = (s.slotPwr slot).retryCnt + 1 ∧
      (t.slotPwr slot).cooling = false := by
  have ended := State.slotPwr_updSlotPwr_same slot (fun p => { p with cooling := false }) s
  have retries := by
    refine State.tryStart_marked (s := s.updSlotPwr slot fun p => { p with cooling := false }) mayRun ?_ ?_ ?_
    · unfold State.leads at leads ⊢
      rw [ended]
      exact leads
    · rw [ended]
      exact marked
    · rw [ended]
      exact within
  unfold execSlotCooldownEnd
  dsimp only
  rw [bounded_eq_next (decide_eq_true isSlot), if_pos cooling, if_pos waits, retries]
  obtain ⟨started, -, retryCnt, cool, -⟩ := State.startSlot_starts slot
    (((s.updSlotPwr slot fun p => { p with cooling := false }).updSlotPwr slot fun q => { q with retryCnt := q.retryCnt + 1 }).bump cSlotRetries slot)
  rw [State.slotPwr_bump, State.slotPwr_updSlotPwr_same, ended] at retryCnt cool
  exact ⟨_, rfl, started, retryCnt, cool⟩

/-- R432: power-good is qualified. -/
theorem State.slotPowered_slotPwr (slot : Nat) (s : State) : (s.slotPowered slot).slotPwr slot =
    { s.slotPwr slot with pState := 5, enhanced := true, timerStart := none, poweredSince := s.now } := by
  unfold State.slotPowered
  rw [State.slotPwr_recomputeLimit, State.slotPwr_updSlotPwr_same]

/-- R432: what a start-up's fault timer is read from. -/
theorem State.startExpired_congr {s t : State} {slot : Nat} (timer : (t.slotPwr slot).timerStart = (s.slotPwr slot).timerStart)
    (gate : (t.slotPwr slot).gateSince = (s.slotPwr slot).gateSince) (taken : (t.slotPwr slot).taken = (s.slotPwr slot).taken)
    (regs : t.regs = s.regs) (den : t.den = s.den) : t.startExpired slot = s.startExpired slot := by
  unfold State.startExpired State.slotTaken State.now
  rw [timer, gate, taken, State.word_congr regs den, den]

theorem execSlotSample_qualifies {slot vOut vBus : Nat} (current : Nat) {s : State} (isSlot : slot < 64)
    (starting : (s.slotPwr slot).pState = 4) (once : 1 ≤ (s.slotPwr slot).pgSamples) (bus : 0 < vBus) (good : 9 * vBus ≤ 10 * min 2047 vOut)
    (inTime : s.startExpired slot = false) :
    ∃ t, execSlotSample slot current vOut vBus false s = .next t ∧ (t.slotPwr slot).pState = 5 ∧ (t.slotPwr slot).enhanced = true ∧
      (t.slotPwr slot).poweredSince = s.now := by
  unfold execSlotSample
  dsimp only
  rw [bounded_eq_next (decide_eq_true isSlot), State.slotPwr_updSlotPwr_same, if_neg (not_not_intro starting),
    if_neg (by rw [if_pos (by simp [SlotPwr.outputGood, bus, good])]; exact Nat.not_lt.mpr (Nat.succ_le_succ once)), if_neg ?inTime]
  · refine ⟨_, rfl, ?_⟩
    rw [State.slotPowered_slotPwr]
    exact ⟨rfl, rfl, rfl⟩
  · refine ne_true_of_eq_false (Eq.trans (State.startExpired_congr (s := s) ?_ ?_ ?_ ?regs ?den) inTime)
    case regs => rfl
    case den => rfl
    all_goals simp [State.slotPwr_updSlotPwr_same]

/-- R437: a start leaves what it is counted by: no retry and no mark stay so. -/
theorem State.tryStart_unmarked_keeps {slot : Nat} {s : State} (unmarked : (s.slotPwr slot).marked = false) :
    ((s.tryStart slot).slotPwr slot).retryCnt = (s.slotPwr slot).retryCnt ∧ ((s.tryStart slot).slotPwr slot).marked = false := by
  unfold State.tryStart State.startSlot
  dsimp only
  rw [if_pos unmarked]
  split
  · rw [State.slotPwr_updSlotPwr_same]
    exact ⟨rfl, unmarked⟩
  · split <;> rw [State.slotPwr_updSlotPwr_same] <;> exact ⟨rfl, unmarked⟩

/-- R437: clearing leaves the slot without retries and unmarked, also where it then starts. -/
theorem State.clearRetry_clears (slot : Nat) (s : State) :
    ((s.clearRetry slot).slotPwr slot).retryCnt = 0 ∧ ((s.clearRetry slot).slotPwr slot).marked = false := by
  have cleared := State.slotPwr_updSlotPwr_same slot (fun p => { p with
    retryCnt := 0, marked := false, pState := if p.pState = 6 then (if p.present then 2 else 1) else p.pState }) s
  unfold State.clearRetry
  dsimp only
  split
  · split
    · rw [State.slotPwr_updSlotPwr_same, cleared]
      exact ⟨rfl, rfl⟩
    · obtain ⟨retryCnt, marked⟩ := State.tryStart_unmarked_keeps (congrArg SlotPwr.marked cleared)
      exact ⟨retryCnt.trans (congrArg SlotPwr.retryCnt cleared), marked⟩
  · rw [cleared]
    exact ⟨rfl, rfl⟩

theorem execSlotEmptyClear_clears {slot : Nat} {s : State} (isSlot : slot < 64) (empty : (s.slotPwr slot).present = false) :
    ∃ t, execSlotEmptyClear slot s = .next t ∧ (t.slotPwr slot).retryCnt = 0 ∧ (t.slotPwr slot).marked = false := by
  unfold execSlotEmptyClear
  rw [bounded_eq_next (decide_eq_true isSlot), if_neg (by simp [empty])]
  exact ⟨_, rfl, s.clearRetry_clears slot⟩

/-- Settles O47. Each clause is the lemma of its command; that the time base has left 0 when presence is lost, and that a slot cleared as empty has been
so for a time, is not needed. -/
theorem completesSlotPowerA : Obligations.CompletesSlotPowerA :=
  ⟨fun _ s isSlot => execSlotPresenceAssert_seats isSlot s,
   fun _ _ => execSlotSeated_starts,
   fun _ _ isSlot _ => execSlotPresenceLost_empties isSlot,
   fun _ current _ _ _ => execSlotSample_qualifies current,
   fun _ _ => execSlotFaultTimer_faults,
   fun _ _ => execSlotOvercurrentTimer_faults,
   fun _ _ => execSlotTrip_trips,
   fun _ _ => execSlotCooldownEnd_retries,
   fun _ _ isSlot empty _ => execSlotEmptyClear_clears isSlot empty⟩

end Sys2Proof.Machine

namespace Sys2Proof.Machine

/-! ## Feeds, followers and the store's test (O48) -/

/-! ### What leaves the counters of the Den SRAM alone (R511)

The hold-up destage that the loss of a feed may begin counts in groups 7 to 10 alone. One lemma per operation, in the order of the model. -/

/-- The counters of groups 15 to 17, kept in the Den SRAM (R511). -/
def State.denCounters (s : State) : Tbl Nat := s.telem.denCnt

theorem State.denCounters_of_touch {s t : State} (h : Touch (allBut .telem) s t) : t.denCounters = s.denCounters :=
  congrArg Telem.denCnt (same_of_touch (g := .telem) h)

/-- A counter of groups 15 to 17 is read from the Den SRAM alone. -/
theorem State.counter_of_denCounters {s t : State} (kept : t.denCounters = s.denCounters) {c : Nat × Nat} (den : denGroup c.1 = true) (i : Nat) :
    t.counter c i = s.counter c i := by
  unfold State.denCounters at kept
  unfold State.counter
  rw [if_pos den, if_pos den, kept]

@[simp] theorem State.denCounters_ite {c : Prop} [Decidable c] (a b : State) :
    (if c then a else b).denCounters = if c then a.denCounters else b.denCounters := apply_ite _ _ _ _

@[simp] theorem State.denCounters_when {f : State → State} (keeps : ∀ t, (f t).denCounters = t.denCounters) (b : Bool) (s : State) :
    (s.when b f).denCounters = s.denCounters := by
  unfold State.when
  split
  · exact keeps s
  · rfl

@[simp] theorem State.denCounters_foldl {α : Type} {f : State → α → State} (keeps : ∀ t x, (f t x).denCounters = t.denCounters) (l : List α)
    (s : State) : (l.foldl f s).denCounters = s.denCounters := by
  induction l generalizing s with
  | nil => rfl
  | cons x xs ih => exact (ih _).trans (keeps s x)

@[simp] theorem State.denCounters_foldl_snd {α β : Type} {f : β × State → α → β × State} (keeps : ∀ a x, (f a x).2.denCounters = a.2.denCounters)
    (l : List α) (a : β × State) : (l.foldl f a).2.denCounters = a.2.denCounters := by
  induction l generalizing a with
  | nil => rfl
  | cons x xs ih => exact (ih _).trans (keeps a x)

theorem State.bumpN_denCounters {c : Nat × Nat} (elsewhere : denGroup c.1 = false) (i n : Nat) (s : State) :
    (s.bumpN c i n).denCounters = s.denCounters := by
  unfold State.bumpN
  rw [if_neg (ne_true_of_eq_false elsewhere)]
  rfl

theorem State.bump_denCounters {c : Nat × Nat} (elsewhere : denGroup c.1 = false) (i : Nat) (s : State) :
    (s.bump c i).denCounters = s.denCounters := State.bumpN_denCounters elsewhere i 1 s

@[simp] theorem State.updCons_denCounters (f : Cons → Cons) (s : State) : (s.updCons f).denCounters = s.denCounters := rfl

@[simp] theorem State.updLayout_denCounters (f : Layout → Layout) (s : State) : (s.updLayout f).denCounters = s.denCounters := rfl

@[simp] theorem State.updSlot_denCounters (n : Nat) (f : Slot → Slot) (s : State) : (s.updSlot n f).denCounters = s.denCounters := rfl

@[simp] theorem State.updExtent_denCounters (rec : Nat) (f : Extent → Extent) (s : State) : (s.updExtent rec f).denCounters = s.denCounters := rfl

@[simp] theorem State.updPool_denCounters (n : Nat) (f : Pool → Pool) (s : State) : (s.updPool n f).denCounters = s.denCounters := rfl

/-- A change of the telemetry that is none of the Den SRAM's counters. -/
@[simp] theorem State.updTelem_denCounters {f : Telem → Telem} (keeps : ∀ t, (f t).denCnt = t.denCnt) (s : State) :
    (s.updTelem f).denCounters = s.denCounters := keeps s.telem

@[simp] theorem State.settSend_denCounters (kind : Nat) (args : List Nat) (data : Bytes) (s : State) :
    (s.settSend kind args data).denCounters = s.denCounters := State.denCounters_of_touch (State.settSend_touch (by decide) (.refl _ _))

@[simp] theorem State.settIfPaired_denCounters (kind : Nat) (args : List Nat) (data : Bytes) (s : State) :
    (s.settIfPaired kind args data).denCounters = s.denCounters := State.denCounters_of_touch (State.settIfPaired_touch (by decide) (.refl _ _))

@[simp] theorem State.submit_denCounters (cls : Nat) (c : DriveCmd) (s : State) : (s.submit cls c).denCounters = s.denCounters :=
  State.denCounters_of_touch (State.submit_touch (by decide) (.refl _ _))

@[simp] theorem State.submitRun_denCounters (bg : Option Nat) (fg : Nat) (c : DriveCmd) (s : State) :
    (s.submitRun bg fg c).denCounters = s.denCounters := State.denCounters_of_touch (State.submitRun_touch (by decide) (.refl _ _))

@[simp] theorem State.sendStampRecord_denCounters (n : Nat) (s : State) : (s.sendStampRecord n).denCounters = s.denCounters :=
  State.denCounters_of_touch (State.sendStampRecord_touch (by decide) (.refl _ _))

@[simp] theorem State.flushReleases_denCounters (s : State) : s.flushReleases.denCounters = s.denCounters :=
  State.denCounters_of_touch (State.flushReleases_touch (by decide) (.refl _ _))

@[simp] theorem State.reserveUpper_denCounters (rec : Nat) (r : StampReq) (s : State) : (s.reserveUpper rec r).denCounters = s.denCounters :=
  State.denCounters_of_touch (State.reserveUpper_touch (by decide) (.refl _ _))

@[simp] theorem State.foldWrite_denCounters (k : Nat) (e : OvlEntry) (s : State) : (s.foldWrite k e).denCounters = s.denCounters :=
  State.denCounters_of_touch (State.foldWrite_touch (by decide) (.refl _ _))

@[simp] theorem State.dropReads_denCounters (h : Nat) (stamp : BitVec 64) (s : State) : (s.dropReads h stamp).denCounters = s.denCounters :=
  State.denCounters_of_touch (State.dropReads_touch (by decide) (.refl _ _))

@[simp] theorem State.unqueue_denCounters (n : Nat) (s : State) : (s.unqueue n).denCounters = s.denCounters :=
  State.denCounters_of_touch (State.unqueue_touch (by decide) (.refl _ _))

@[simp] theorem State.endCmd_denCounters (n : Nat) (s : State) : (s.endCmd n).denCounters = s.denCounters :=
  State.denCounters_of_touch (State.endCmd_touch (by decide) (.refl _ _))

@[simp] theorem State.closeIsland_denCounters (i : Nat) (s : State) : (State.closeIsland i s).denCounters = s.denCounters :=
  State.denCounters_of_touch (State.closeIsland_touch (by decide) (.refl _ _))

@[simp] theorem State.stage_denCounters (n k : Nat) (s : State) : (s.stage n k).denCounters = s.denCounters := rfl

@[simp] theorem State.foxWrite_denCounters (f : FoxTag) (s : State) : (s.foxWrite f).denCounters = s.denCounters := rfl

@[simp] theorem State.trimRegions_denCounters (s : State) : s.trimRegions.denCounters = s.denCounters := rfl

@[simp] theorem State.foxStamp_denCounters (stamp : Nat) (s : State) : (s.foxStamp stamp).denCounters = s.denCounters := by
  unfold State.foxStamp
  split
  · rfl
  · dsimp only
    split <;> simp

@[simp] theorem State.releaseVersions_denCounters (slots : List Nat) (s : State) : (s.releaseVersions slots).denCounters = s.denCounters := by
  simp [State.releaseVersions]

@[simp] theorem State.releaseCovered_denCounters (s : State) : s.releaseCovered.denCounters = s.denCounters := by
  simp [State.releaseCovered, State.bumpN_denCounters (c := cVersionsReleased) rfl]

@[simp] theorem State.goCheck_denCounters (n : Nat) (s : State) : (s.goCheck n).denCounters = s.denCounters := by
  simp [State.goCheck]

@[simp] theorem State.sendGo_denCounters (slot holder part : Nat) (s : State) : (s.sendGo slot holder part).denCounters = s.denCounters := by
  simp [State.sendGo]

@[simp] theorem State.giveStamp_denCounters (n : Nat) (stamp : BitVec 64) (owner waits : Nat) (s : State) :
    (s.giveStamp n stamp owner waits).denCounters = s.denCounters := by
  simp [State.giveStamp]

@[simp] theorem State.tellStamp_denCounters (slot holder : Nat) (stamp : BitVec 64) (waits part blocks : Nat) (s : State) :
    (s.tellStamp slot holder stamp waits part blocks).denCounters = s.denCounters := by
  simp [State.tellStamp]

@[simp] theorem State.journalData_denCounters (n : Nat) (r : JRec) (data : Nat) (s : State) :
    (s.journalData n r data).denCounters = s.denCounters := by
  simp [State.journalData, State.bump_denCounters (c := cJrnlRecords) rfl]

@[simp] theorem State.journalHeader_denCounters (n : Nat) (clean : Bool) (s : State) : (s.journalHeader n clean).denCounters = s.denCounters := by
  simp [State.journalHeader, State.journal]

@[simp] theorem State.applyEpoch_denCounters (e : Nat) (s : State) : (s.applyEpoch e).denCounters = s.denCounters := by
  simp [State.applyEpoch, State.bump_denCounters (c := cEpochRaises) rfl]

@[simp] theorem State.issueStamp_denCounters (rec h : Nat) (s : State) : (s.issueStamp rec h).2.denCounters = s.denCounters := by
  simp [State.issueStamp, State.raiseEpoch, State.bump_denCounters (c := cStampsIssued) rfl]

@[simp] theorem State.countWait_denCounters (kind h waits : Nat) (s : State) : (s.countWait kind h waits).denCounters = s.denCounters := by
  unfold State.countWait
  refine State.denCounters_when (fun t => State.bump_denCounters ?_ h t) _ s
  split <;> rfl

@[simp] theorem State.enterPart_denCounters (kind slot holder h : Nat) (stamp : BitVec 64) (first n : Nat) (partials : List Nat) (crossing : Bool)
    (s : State) : (s.enterPart kind slot holder h stamp first n partials crossing).2.denCounters = s.denCounters :=
  State.denCounters_of_touch (State.enterPart_touch (by decide) (.refl _ _))

@[simp] theorem State.admitOne_denCounters (rec : Nat) (r : StampReq) (first n : Nat) (partials : List Nat) (s : State) :
    (s.admitOne rec r first n partials).denCounters = s.denCounters := by
  simp [State.admitOne]

@[simp] theorem State.admitBoth_denCounters (lo up : Nat) (r : StampReq) (s : State) : (s.admitBoth lo up r).denCounters = s.denCounters := by
  simp [State.admitBoth, State.bump_denCounters (c := cCrossCmds) rfl]

theorem State.admitReq_denCounters {rec : Nat} {r : StampReq} {s t : State} (admitted : s.admitReq rec r = some t) :
    t.denCounters = s.denCounters := by
  unfold State.admitReq at admitted
  dsimp only at admitted
  split at admitted
  · cases admitted
  · split at admitted
    · cases admitted
      simp
    · split at admitted
      · split at admitted
        · split at admitted
          · cases admitted
          · cases admitted
            simp
        · cases admitted
          simp
      · cases admitted
        simp

@[simp] theorem State.request_denCounters (rec : Nat) (r : StampReq) (s : State) : (s.request rec r).denCounters = s.denCounters := by
  unfold State.request
  dsimp only
  split
  · simp
  · split
    next admitted => exact State.admitReq_denCounters admitted
    next => simp [State.bump_denCounters (c := cOvlFullWait) rfl]

@[simp] theorem State.drainHeld_denCounters (rec k : Nat) (s : State) : (State.drainHeld rec k s).denCounters = s.denCounters := by
  induction k generalizing s with
  | zero => rfl
  | succ k ih =>
    unfold State.drainHeld
    split
    · rfl
    · split
      next admitted => simp [ih, State.admitReq_denCounters admitted]
      · rfl

@[simp] theorem State.drainAll_denCounters (s : State) : s.drainAll.denCounters = s.denCounters := by
  simp [State.drainAll]

@[simp] theorem State.stageFive_denCounters (n slba nlb : Nat) (s : State) : (s.stageFive n slba nlb).denCounters = s.denCounters := by
  simp [State.stageFive, State.bump_denCounters (c := cStampRemote) rfl]

@[simp] theorem State.placedOvl_denCounters (slot holder : Nat) (stamp : BitVec 64) (retired : Bool) (s : State) :
    (s.placedOvl slot holder stamp retired).denCounters = s.denCounters := by
  simp [State.placedOvl]

@[simp] theorem State.retire_denCounters (n : Nat) (s : State) : (s.retire n).denCounters = s.denCounters := by
  simp [State.retire, State.bump_denCounters (c := cStampsRetired) rfl]

@[simp] theorem State.readmit_denCounters (n : Nat) (s : State) : (s.readmit n).denCounters = s.denCounters := by
  simp [State.readmit, State.endQuiet]

@[simp] theorem State.startHoldup_denCounters (s : State) : s.startHoldup.denCounters = s.denCounters := by
  simp [State.startHoldup, State.bump_denCounters (c := cHoldupRuns) rfl]

/-! ### Slots in service (R427, R432, R437, R452) -/

theorem execSlotPoweredClear_clears {slot : Nat} {s : State} (isSlot : slot < 64) (powered : (s.slotPwr slot).pState = 5) :
    ∃ t, execSlotPoweredClear slot s = .next t ∧ (t.slotPwr slot).retryCnt = 0 ∧ (t.slotPwr slot).marked = false := by
  unfold execSlotPoweredClear
  rw [bounded_eq_next (decide_eq_true isSlot), if_pos powered]
  exact ⟨_, rfl, s.clearRetry_clears slot⟩

theorem execDrvPerstDeassert_rises {slot : Nat} {s : State} (isSlot : slot < 64) (powered : (s.slotPwr slot).pState = 5) :
    ∃ t, execDrvPerstDeassert slot s = .next t ∧ (t.slotPwr slot).perstHigh = true := by
  unfold execDrvPerstDeassert
  rw [bounded_eq_next (decide_eq_true isSlot), if_pos powered]
  exact ⟨_, rfl, congrArg SlotPwr.perstHigh (s.slotPwr_updSlotPwr_same slot _)⟩

theorem execFollowerGateClose_follows {slot : Nat} {s : State} (isSlot : slot < 64) (present : (s.slotPwr slot).present = true)
    (waits : (s.slotPwr slot).pState = 2) (good : (s.slotPwr slot).outputGood = true) (cool : (s.slotPwr slot).cooling = false)
    (mayRun : s.slotMayRun slot = true) (follows : s.leads slot = false) :
    ∃ t, execFollowerGateClose slot s = .next t ∧ (t.slotPwr slot).pState = 5 ∧ (t.slotPwr slot).gateOn = true ∧
      (t.slotPwr slot).follower = true := by
  unfold execFollowerGateClose
  dsimp only
  rw [bounded_eq_next (decide_eq_true isSlot), if_pos ⟨present, waits, good, cool, mayRun, follows⟩]
  refine ⟨_, rfl, ?_⟩
  rw [State.slotPowered_slotPwr, State.slotPwr_updSlotPwr_same]
  exact ⟨rfl, rfl, rfl⟩

theorem execCycleOffEnd_starts {slot : Nat} {s : State} (isSlot : slot < 64) (cycling : (s.slotPwr slot).cycling = true)
    (mayRun : s.slotMayRun slot = true) :
    ∃ t, execCycleOffEnd slot s = .next t ∧ (t.slotPwr slot).pState = 4 ∧ (t.slotPwr slot).cycling = false := by
  unfold execCycleOffEnd
  dsimp only
  rw [bounded_eq_next (decide_eq_true isSlot), if_pos cycling, if_pos mayRun]
  obtain ⟨started, -, -, -, cycled⟩ := (s.updSlotPwr slot fun p => { p with cycling := false }).startSlot_starts slot
  rw [State.slotPwr_updSlotPwr_same] at cycled
  exact ⟨_, rfl, started, cycled⟩

/-! ### Feeds (R439) -/

/-- Counting one counter leaves those of other places. -/
theorem State.counter_bump_elsewhere {c d : Nat × Nat} {i j : Nat} (apart : cntKey c.1 i c.2 ≠ cntKey d.1 j d.2) (s : State) :
    (s.bump d j).counter c i = s.counter c i := by
  unfold State.bump State.bumpN State.counter
  split <;> split <;> simp [tget_tmod_other _ _ _ apart]

/-- R439: what follows the loss of a feed counts no loss of a feed again. -/
theorem State.feedDown_counts {feed : Nat} (isFeed : feed < 2) (volt : Nat) {s : State}
    (good : (if feed = 0 then s.power.feeds.aGood else s.power.feeds.bGood) = true) :
    (s.feedDown feed volt).counter cFeedLoss feed = sat (2 ^ 64 - 1) (s.counter cFeedLoss feed + 1) := by
  have woken (b : Bool) (t : State) : (t.when b fun w => w.wakeBy 0x08).counter cFeedLoss feed = t.counter cFeedLoss feed :=
    State.counter_when (fun u => State.counter_congr (same_of_touch (g := .telem) (State.wakeBy_touch (by decide) (.refl _ _))) _ _) b t
  have faulted (code n data fault : Nat) (t : State) : ((t.raise code n data).singleFault fault).counter cFeedLoss feed = t.counter cFeedLoss feed :=
    State.counter_congr (same_of_touch (g := .telem) (State.singleFault_touch (by decide) (State.raise_touch (by decide) (.refl _ _)))) _ _
  have broken (t : State) : t.testBroken.startHoldup.counter cFeedLoss feed = t.counter cFeedLoss feed :=
    (State.counter_of_denCounters t.testBroken.startHoldup_denCounters rfl feed).trans
      (State.counter_congr (same_of_touch (g := .telem) (State.testBroken_touch (by decide) (.refl _ _))) _ _)
  have apart : cntKey cFeedLoss.1 feed cFeedLoss.2 ≠ cntKey cBothFeedsLost.1 0 cBothFeedsLost.2 := by
    unfold cntKey cFeedLoss cBothFeedsLost
    omega
  unfold State.feedDown
  dsimp only
  rw [if_neg (by simp [good]), woken, apply_ite (State.counter · cFeedLoss feed), broken, State.counter_bump_elsewhere apart, ite_self, faulted,
    State.counter_bump_same]
  rfl

theorem execFeedLoss_lost {feed volt : Nat} {s : State} (isFeed : feed < 2)
    (good : (if feed = 0 then s.power.feeds.aGood else s.power.feeds.bGood) = true) :
    ∃ t, execFeedLoss feed volt s = .next t ∧ (if feed = 0 then t.power.feeds.aGood else t.power.feeds.bGood) = false ∧
      t.counter cFeedLoss feed = sat (2 ^ 64 - 1) (s.counter cFeedLoss feed + 1) := by
  refine ⟨_, bounded_eq_next (decide_eq_true isFeed), ?_, State.feedDown_counts isFeed volt good⟩
  rw [State.feedDown_feeds feed volt (by simp [good])]
  by_cases isA : feed = 0
  · rw [if_pos isA, if_pos isA]
  · rw [if_neg isA, if_neg isA]

theorem execFeedReverseCurrent_opens {feed : Nat} {s : State} (isFeed : feed < 2) :
    ∃ t, execFeedReverseCurrent feed s = .next t ∧ (if feed = 0 then t.power.feeds.aConduct else t.power.feeds.bConduct) = false ∧
      t.counter cFeedReverse feed = sat (2 ^ 64 - 1) (s.counter cFeedReverse feed + 1) := by
  refine ⟨_, bounded_eq_next (decide_eq_true isFeed), ?_, State.counter_bump_same cFeedReverse feed _⟩
  rw [same_of_touch (g := .power) (State.bump_touch (by decide) (.refl _ _)), State.updPower_power]
  by_cases isA : feed = 0
  · rw [if_pos isA, if_pos isA]
  · rw [if_neg isA, if_neg isA]

theorem execFeedGood_good {feed volt : Nat} {s : State} (isFeed : feed < 2) (runs : s.den.stopped = false) :
    ∃ t, execFeedGood feed volt s = .next t ∧ (if feed = 0 then t.power.feeds.aGood else t.power.feeds.bGood) = true ∧
      (if feed = 0 then t.power.feeds.aVolt else t.power.feeds.bVolt) = volt := by
  refine ⟨_, bounded_eq_next (decide_eq_true isFeed), ?_⟩
  dsimp only
  rw [if_neg (ne_true_of_eq_false runs), apply_ite State.power, same_of_touch (g := .power) (State.raise_touch (by decide) (.refl _ _)), ite_self,
    State.updPower_power]
  by_cases isA : feed = 0
  · simp [isA]
  · simp [isA]

/-! ### The store's test (R442, R443) -/

theorem execEstoreTestStart_starts {vNow : Nat} {s : State} (present : s.storePresent = true) (idle : s.power.estore.testing = false)
    (charged : s.vChgEffMv ≤ 100 * vNow + 100) :
    ∃ t, execEstoreTestStart vNow s = .next t ∧ t.power.estore.testing = true ∧ t.power.estore.discharging = true ∧ t.power.estore.vNow = vNow ∧
      t.counter cEstoreTests 0 = sat (2 ^ 64 - 1) (s.counter cEstoreTests 0 + 1) := by
  unfold execEstoreTestStart
  dsimp only
  rw [if_neg (by simp [present, idle, Nat.not_lt.mpr charged])]
  refine ⟨_, rfl, ?_⟩
  rw [State.counter_bump_same, same_of_touch (g := .power) (State.bump_touch (by decide) (.refl _ _))]
  exact ⟨rfl, rfl, rfl, rfl⟩

/-- A store without the figures that sizing computes, and without its grade. -/
def Estore.ungraded (e : Estore) : Estore := { e.measured with health := 0 }

/-- R443, R446: of the store, grading changes its grade and the figures that sizing computes. -/
theorem State.gradeStore_estore (cause : Nat) (s : State) : (s.gradeStore cause).power.estore.ungraded = s.power.estore.ungraded := by
  have noted (old new : Nat) (b : Bool) (t : State) : (((t.raise 0x0B02 whole (old + 256 * new)).marginRecord 0x07 cause whole old new).when b
      fun v => v.wakeBy 0x08).power = t.power :=
    same_of_touch (g := .power) (State.when_touch (State.marginRecord_touch (by decide) (State.raise_touch (by decide) (.refl _ _)))
      fun _ h => State.wakeBy_touch (by decide) h)
  unfold State.gradeStore Estore.ungraded
  dsimp only
  rw [State.recomputeLimit_measured, apply_ite State.power, noted, ite_self]
  rfl

/-- R443, R527: grading leaves the boot state alone. -/
theorem State.gradeStore_boot (cause : Nat) (s : State) : (s.gradeStore cause).boot = s.boot :=
  same_of_touch (g := .boot) (State.gradeStore_touch (by decide) (.refl _ _))

theorem execEstoreTestMeasureEnd_ends {cMeas esrMeas : Nat} {s : State} (testing : s.power.estore.testing = true) :
    ∃ t, execEstoreTestMeasureEnd cMeas esrMeas s = .next t ∧ t.power.estore.testing = false ∧ t.power.estore.tested = true ∧
      t.power.estore.cMeas = (if s.storeBattery = true then s.power.estore.cMeas else cMeas) ∧ t.power.estore.esrMeas = esrMeas ∧
      t.boot.storeTestDone = true := by
  refine ⟨_, congrArg Host.Outcome.next (if_pos testing), ?_⟩
  have graded := State.gradeStore_estore 0x04 (State.storeTestEnds (s.updEstore fun e => { e with
      testing := false, discharging := false, charging := true, chargeSince := s.now, tested := true, testFailed := false
      cMeas := if s.storeBattery then e.cMeas else cMeas, esrMeas := esrMeas }))
  exact ⟨(congrArg Estore.testing graded).trans rfl, (congrArg Estore.tested graded).trans rfl, (congrArg Estore.cMeas graded).trans rfl,
    (congrArg Estore.esrMeas graded).trans rfl, (congrArg Boot.storeTestDone (State.gradeStore_boot _ _)).trans rfl⟩

/-- Settles O48. Each clause is the lemma of its command. What else the loss of a feed brings, the hold-up and the end of a running test, is read
by logs 72 and 94, the model's own choice. -/
theorem completesSlotPowerB : Obligations.CompletesSlotPowerB := by
  exact ⟨fun _ _ => execSlotPoweredClear_clears, fun _ _ => execDrvPerstDeassert_rises, fun _ _ => execFollowerGateClose_follows,
    fun _ _ => execCycleOffEnd_starts, fun _ _ _ => execFeedLoss_lost, fun _ _ => execFeedReverseCurrent_opens,
    fun _ _ _ => execFeedGood_good, fun _ _ => execEstoreTestStart_starts, fun _ _ _ => execEstoreTestMeasureEnd_ends⟩

end Sys2Proof.Machine

namespace Sys2Proof.Machine

/-! ## The energy store, the larder limit and the margins (O49) -/

/-! ### The store (R441 to R446) -/

/-- R443: of the counters, grading counts deficits and margin records alone. -/
theorem State.counter_gradeStore {c : Nat × Nat} (deficits : c.2 % 32 ≠ cLarderDeficits.2 % 32) (margins : c.2 % 32 ≠ cMarginChanges.2 % 32)
    (i cause : Nat) (s : State) : (s.gradeStore cause).counter c i = s.counter c i := by
  have noted (old new : Nat) (b : Bool) (t : State) : (((t.raise 0x0B02 whole (old + 256 * new)).marginRecord 0x07 cause whole old new).when b
      fun v => v.wakeBy 0x08).counter c i = t.counter c i := by
    rw [State.counter_when fun u => State.counter_congr (same_of_touch (g := .telem) (State.wakeBy_touch (by decide) (.refl _ _))) c i,
      State.counter_marginRecord margins, State.counter_raise]
  unfold State.gradeStore
  dsimp only
  rw [State.counter_recomputeLimit deficits margins, apply_ite (State.counter · c i), noted, ite_self]
  rfl

theorem execEstoreTestTimeout_fails {s : State} (testing : s.power.estore.testing = true) :
    ∃ t, execEstoreTestTimeout s = .next t ∧ t.power.estore.testing = false ∧ t.power.estore.testFailed = true ∧ t.boot.storeTestDone = true ∧
      t.counter cEstoreTestFail 0 = sat (2 ^ 64 - 1) (s.counter cEstoreTestFail 0 + 1) := by
  have counted : ∀ t : State, (t.bump cEstoreTestFail 0).power = t.power := fun t => same_of_touch (g := .power) (State.bump_touch (by decide) (.refl _ _))
  refine ⟨_, congrArg Host.Outcome.next (if_pos testing), ?_⟩
  have graded := State.gradeStore_estore 0x04 (State.storeTestEnds ((s.updEstore fun e => { e with
    testing := false, discharging := false, charging := true, chargeSince := s.now, tested := true, testFailed := true }).bump cEstoreTestFail 0))
  rw [show ∀ t : State, t.storeTestEnds.power = t.power from fun _ => rfl, counted] at graded
  refine ⟨congrArg Estore.testing graded, congrArg Estore.testFailed graded, congrArg Boot.storeTestDone (State.gradeStore_boot _ _), ?_⟩
  rw [State.counter_gradeStore (by decide) (by decide)]
  exact State.counter_bump_same cEstoreTestFail 0 _

theorem execEstoreChargeTimeout_fails {s : State} (present : s.storePresent = true) :
    ∃ t, execEstoreChargeTimeout s = .next t ∧ t.power.estore.testFailed = true ∧ t.boot.storeTestDone = true := by
  refine ⟨_, congrArg Host.Outcome.next (if_pos present), ?_, congrArg Boot.storeTestDone (State.gradeStore_boot _ _)⟩
  exact (congrArg Estore.testFailed (State.gradeStore_estore 0x04 _)).trans rfl

theorem execEstoreOverCeiling_discharges {vNow : Nat} {s : State} (capacitors : s.storeBattery = false)
    (above : s.fuses.energyCeilJ * 204000 < s.power.estore.cMeas * vNow * vNow) :
    ∃ t, execEstoreOverCeiling vNow s = .next t ∧ t.power.estore.discharging = true ∧ t.power.estore.charging = false ∧
      t.power.estore.vNow = vNow := by
  unfold execEstoreOverCeiling
  dsimp only
  rw [if_neg (ne_true_of_eq_false capacitors), if_pos above]
  refine ⟨_, rfl, ?_⟩
  rw [same_of_touch (g := .power) (State.when_touch (.refl _ _) fun _ h => State.bump_touch (by decide) h)]
  exact ⟨rfl, rfl, rfl⟩

theorem execLarderLimitRecompute_measures (vNow : Nat) (rate : List Nat) (s : State) :
    ∃ t, execLarderLimitRecompute vNow rate s = .next t ∧ ∃ u : State, t = u.settle ∧ u.power.estore.vNow = vNow ∧
      u.power.estore.rates = (rate ++ s.power.estore.rates).take 16 := by
  refine ⟨_, rfl, _, rfl, ?_⟩
  rw [same_of_touch (g := .power) (State.shedExtents_touch (by decide) (.refl _ _))]
  have sized := State.recomputeLimit_measured false (s.updEstore fun e => { e with vNow := vNow, rates := (rate ++ e.rates).take 16 })
  exact ⟨(congrArg Estore.vNow sized).trans rfl, (congrArg Estore.rates sized).trans rfl⟩

theorem execPartnerNcoverPoll_takes {ncover : Nat} {s : State} (paired : s.paired = true) :
    ∃ t, execPartnerNcoverPoll ncover s = .next t ∧ ∃ u : State, t = u.settle ∧ u.power.estore.partnerN = ncover := by
  refine ⟨_, congrArg Host.Outcome.next (if_pos paired), _, rfl, ?_⟩
  exact (congrArg Estore.partnerN (State.recomputeLimit_measured false (s.updEstore fun e => { e with partnerN := ncover }))).trans rfl

/-! ### Margins (R448 to R450) -/

theorem execEyeSample_counts {p h : Nat} {s : State} (closed : h < s.marginCfgEyeMinMv) (few : tget 0 s.margins.eyeLow p < 2) :
    ∃ t, execEyeSample [(p, h)] s = .next t ∧ t.margins.eyeLow = tput s.margins.eyeLow p (tget 0 s.margins.eyeLow p + 1) := by
  unfold execEyeSample
  rw [List.foldl_cons, List.foldl_nil]
  dsimp only
  rw [if_pos closed, if_pos (by omega)]
  exact ⟨_, rfl, rfl⟩

theorem execHbmCeSample_doubles {counts : List Nat} {s : State} (many : s.marginCfgHbmCeHi < (worstStack counts).2) (below : s.elec.ceLevel < 4) :
    ∃ t, execHbmCeSample counts s = .next t ∧ t.elec.ceLevel = 2 * s.elec.ceLevel ∧ t.margins.ceQuiet = none := by
  unfold execHbmCeSample
  dsimp only
  rw [if_pos many, if_pos below]
  refine ⟨_, rfl, ?_⟩
  rw [same_of_touch (g := .elec) (State.marginRecord_touch (by decide) (.refl _ _)),
    same_of_touch (g := .margins) (State.marginRecord_touch (by decide) (.refl _ _))]
  exact ⟨rfl, rfl⟩

theorem execDriveRiskSample_marks {latency : List (Nat × Nat)} {n m cause : Nat} {p : Pool} {s : State} (pools : s.layout.pools = [(n, p)])
    (works : 2 ≤ p.pState) (member : s.memberSlots n = [m]) (atRisk : s.riskCause n m latency = some cause) :
    ∃ t, execDriveRiskSample latency s = .next t ∧ tget 0 t.margins.riskSince n = s.now := by
  have one : tkeys (s.layout.pools.filter fun p => decide (2 ≤ p.2.pState)) = [n] := by simp [pools, works, tkeys]
  have causes : (s.memberSlots n).filterMap (fun m => s.riskCause n m latency) = [cause] := by simp [member, atRisk]
  unfold execDriveRiskSample
  rw [one, List.foldl_cons, List.foldl_nil, causes]
  dsimp only
  refine ⟨_, rfl, ?_⟩
  rw [apply_ite State.margins, same_of_touch (g := .margins) (State.riskRecords_touch (by decide) (.refl _ _)), ite_self]
  exact congrArg (Option.getD · 0) (tfind_tput_same _ _ _)

/-- Settles O49. Each clause is the lemma of its command. That a timed-out charge needs a store and ends step 11 of R527 (log 84), and the events of the
margins that have no record (log 83), are the model's own choice. -/
theorem completesSlotPowerC : Obligations.CompletesSlotPowerC := by
  exact ⟨fun _ => execEstoreTestTimeout_fails, fun _ => execEstoreChargeTimeout_fails, fun _ _ => execEstoreOverCeiling_discharges,
    execLarderLimitRecompute_measures, fun _ _ => execPartnerNcoverPoll_takes, fun _ _ _ => execEyeSample_counts,
    fun _ _ => execHbmCeSample_doubles, fun _ _ _ _ _ _ => execDriveRiskSample_marks, fun _ => ⟨_, rfl, rfl⟩⟩

end Sys2Proof.Machine

namespace Sys2Proof.Machine

/-! ## What the progress of commands leaves of the local port (O50)

Completions of the local host's commands write its completion queues and may leave an interrupt pending (R469, R470); the progress of commands and the
entry into a power state touch nothing else of the local port. One lemma per operation: first those that touch none of it, then those that may complete a
command, in the order of the model. -/

/-- The local port without its completion queues and the interrupts pending. -/
def State.lpSetup (s : State) : LocalPort := { s.localPort with pendingVec := [], cqs := [] }

theorem State.lpSetup_of_touch {s t : State} (h : Touch (allBut .localPort) s t) : t.lpSetup = s.lpSetup :=
  congrArg (fun l : LocalPort => { l with pendingVec := [], cqs := [] }) (same_of_touch (g := .localPort) h)

@[simp] theorem State.lpSetup_frozen (s : State) : s.lpSetup.frozen = s.localPort.frozen := rfl

@[simp] theorem State.lpSetup_enabled (s : State) : s.lpSetup.enabled = s.localPort.enabled := rfl

@[simp] theorem State.lpSetup_rdy (s : State) : s.lpSetup.rdy = s.localPort.rdy := rfl

@[simp] theorem State.lpSetup_heldEnable (s : State) : s.lpSetup.heldEnable = s.localPort.heldEnable := rfl

@[simp] theorem State.lpSetup_sqs (s : State) : s.lpSetup.sqs = s.localPort.sqs := rfl

@[simp] theorem State.lpSetup_ite {c : Prop} [Decidable c] (a b : State) : (if c then a else b).lpSetup = if c then a.lpSetup else b.lpSetup :=
  apply_ite _ _ _ _

@[simp] theorem State.lpSetup_when {f : State → State} (keeps : ∀ t, (f t).lpSetup = t.lpSetup) (b : Bool) (s : State) :
    (s.when b f).lpSetup = s.lpSetup := by
  unfold State.when
  split
  · exact keeps s
  · rfl

@[simp] theorem State.lpSetup_foldl {α : Type} {f : State → α → State} (keeps : ∀ t x, (f t x).lpSetup = t.lpSetup) (l : List α) (s : State) :
    (l.foldl f s).lpSetup = s.lpSetup := by
  induction l generalizing s with
  | nil => rfl
  | cons x xs ih => exact (ih _).trans (keeps s x)

@[simp] theorem State.adminData_lpSetup (q : AdminCmd) (report : List Nat) (data : Bytes) (s : State) :
    (s.adminData q report data).lpSetup = s.lpSetup :=
  State.lpSetup_of_touch (State.adminData_touch (by decide) (.refl _ _))

@[simp] theorem State.adminReplay_lpSetup (ctx qid cid pos crc status dw0 : Nat) (s : State) :
    (s.adminReplay ctx qid cid pos crc status dw0).lpSetup = s.lpSetup :=
  State.lpSetup_of_touch (State.adminReplay_touch (by decide) (.refl _ _))

@[simp] theorem State.askHost_lpSetup (n : Nat) (s : State) : (s.askHost n).lpSetup = s.lpSetup :=
  State.lpSetup_of_touch (State.askHost_touch (by decide) (.refl _ _))

@[simp] theorem State.askKey_lpSetup (h g : Nat) (s : State) : (s.askKey h g).lpSetup = s.lpSetup :=
  State.lpSetup_of_touch (State.askKey_touch (by decide) (.refl _ _))

@[simp] theorem State.beginWrite_lpSetup (n : Nat) (s : State) : (s.beginWrite n).lpSetup = s.lpSetup :=
  State.lpSetup_of_touch (State.beginWrite_touch (by decide) (.refl _ _))

@[simp] theorem State.blkDone_lpSetup (n blk : Nat) (plain : Bytes) (s : State) : (s.blkDone n blk plain).lpSetup = s.lpSetup :=
  State.lpSetup_of_touch (State.blkDone_touch (by decide) (.refl _ _))

@[simp] theorem State.bump_lpSetup (c : Nat × Nat) (i : Nat) (s : State) : (s.bump c i).lpSetup = s.lpSetup :=
  State.lpSetup_of_touch (State.bump_touch (by decide) (.refl _ _))

@[simp] theorem State.countCheck_lpSetup (h blk : Nat) (r : ReadRes) (b : Bytes) (s : State) : (s.countCheck h blk r b).lpSetup = s.lpSetup :=
  State.lpSetup_of_touch (State.countCheck_touch (by decide) (.refl _ _))

@[simp] theorem State.countDone_lpSetup (n : Nat) (s : State) : (s.countDone n).lpSetup = s.lpSetup :=
  State.lpSetup_of_touch (State.countDone_touch (by decide) (.refl _ _))

@[simp] theorem State.countPi_lpSetup (h st : Nat) (out : Bool) (s : State) : (s.countPi h st out).lpSetup = s.lpSetup :=
  State.lpSetup_of_touch (State.countPi_touch (by decide) (.refl _ _))

@[simp] theorem State.drivesAwake_lpSetup (s : State) : s.drivesAwake.lpSetup = s.lpSetup :=
  State.lpSetup_of_touch (State.drivesAwake_touch (by decide) (.refl _ _))

@[simp] theorem State.dropReads_lpSetup (h : Nat) (stamp : BitVec 64) (s : State) : (s.dropReads h stamp).lpSetup = s.lpSetup :=
  State.lpSetup_of_touch (State.dropReads_touch (by decide) (.refl _ _))

@[simp] theorem State.endQuiet_lpSetup (n : Nat) (s : State) : (s.endQuiet n).lpSetup = s.lpSetup :=
  State.lpSetup_of_touch (State.endQuiet_touch (by decide) (.refl _ _))

@[simp] theorem State.flushPlans_lpSetup (i : Nat) (s : State) : (s.flushPlans i).lpSetup = s.lpSetup :=
  State.lpSetup_of_touch (State.flushPlans_touch (by decide) (.refl _ _))

@[simp] theorem State.pinReads_lpSetup (h : Nat) (stamp : BitVec 64) (s : State) : (s.pinReads h stamp).lpSetup = s.lpSetup :=
  State.lpSetup_of_touch (State.pinReads_touch (by decide) (.refl _ _))

@[simp] theorem State.plan_lpSetup (i slot planKind : Nat) (sizes : List Nat) (s : State) : (s.plan i slot planKind sizes).lpSetup = s.lpSetup :=
  State.lpSetup_of_touch (State.plan_touch (by decide) (.refl _ _))

@[simp] theorem State.pruneReads_lpSetup (s : State) : s.pruneReads.lpSetup = s.lpSetup :=
  State.lpSetup_of_touch (State.pruneReads_touch (by decide) (.refl _ _))

@[simp] theorem State.psEffects_lpSetup (ps : Nat) (s : State) : (s.psEffects ps).lpSetup = s.lpSetup :=
  State.lpSetup_of_touch (State.psEffects_touch (by decide) (.refl _ _))

@[simp] theorem State.readPos_lpSetup (n blk owner pool stripe pos b : Nat) (s : State) :
    (s.readPos n blk owner pool stripe pos b).lpSetup = s.lpSetup :=
  State.lpSetup_of_touch (State.readPos_touch (by decide) (.refl _ _))

@[simp] theorem State.respond_lpSetup (i slot : Nat) (o : Out) (s : State) : (s.respond i slot o).lpSetup = s.lpSetup :=
  State.lpSetup_of_touch (State.respond_touch (by decide) (.refl _ _))

@[simp] theorem State.retire_lpSetup (n : Nat) (s : State) : (s.retire n).lpSetup = s.lpSetup :=
  State.lpSetup_of_touch (State.retire_touch (by decide) (.refl _ _))

@[simp] theorem State.revokeOf_lpSetup (n : Nat) (s : State) : (s.revokeOf n).lpSetup = s.lpSetup :=
  State.lpSetup_of_touch (State.revokeOf_touch (by decide) (.refl _ _))

@[simp] theorem State.send_lpSetup (k : OutKind) (args : List Nat) (data : Bytes) (s : State) : (s.send k args data).lpSetup = s.lpSetup :=
  State.lpSetup_of_touch (State.send_touch (by decide) (.refl _ _))

@[simp] theorem State.sendMirror_lpSetup (n : Nat) (s : State) : (s.sendMirror n).lpSetup = s.lpSetup :=
  State.lpSetup_of_touch (State.sendMirror_touch (by decide) (.refl _ _))

@[simp] theorem State.sendMsg_lpSetup (i payload : Nat) (o : Out) (s : State) : (s.sendMsg i payload o).lpSetup = s.lpSetup :=
  State.lpSetup_of_touch (State.sendMsg_touch (by decide) (.refl _ _))

@[simp] theorem State.stage_lpSetup (n k : Nat) (s : State) : (s.stage n k).lpSetup = s.lpSetup :=
  State.lpSetup_of_touch (State.stage_touch (by decide) (.refl _ _))

@[simp] theorem State.stopCmd_lpSetup (n : Nat) (fetchable : Bool) (s : State) : (s.stopCmd n fetchable).lpSetup = s.lpSetup :=
  State.lpSetup_of_touch (State.stopCmd_touch (by decide) (.refl _ _))

@[simp] theorem State.takeCtr_lpSetup (h : Nat) (s : State) : (s.takeCtr h).2.lpSetup = s.lpSetup :=
  State.lpSetup_of_touch (State.takeCtr_touch (by decide) (.refl _ _))

@[simp] theorem State.takeLock_lpSetup (n stripe who : Nat) (s : State) : (s.takeLock n stripe who).2.lpSetup = s.lpSetup :=
  State.lpSetup_of_touch (State.takeLock_touch (by decide) (.refl _ _))

@[simp] theorem State.touchKey_lpSetup (h g : Nat) (s : State) : (s.touchKey h g).lpSetup = s.lpSetup :=
  State.lpSetup_of_touch (State.touchKey_touch (by decide) (.refl _ _))

@[simp] theorem State.unqueue_lpSetup (n : Nat) (s : State) : (s.unqueue n).lpSetup = s.lpSetup :=
  State.lpSetup_of_touch (State.unqueue_touch (by decide) (.refl _ _))

@[simp] theorem State.updCipher_lpSetup (f : Cipher → Cipher) (s : State) : (s.updCipher f).lpSetup = s.lpSetup :=
  State.lpSetup_of_touch (State.updCipher_touch (by decide) (.refl _ _))

@[simp] theorem State.updCmds_lpSetup (f : Cmds → Cmds) (s : State) : (s.updCmds f).lpSetup = s.lpSetup :=
  State.lpSetup_of_touch (State.updCmds_touch (by decide) (.refl _ _))

@[simp] theorem State.updCtx_lpSetup (i : Nat) (f : Ctx → Ctx) (s : State) : (s.updCtx i f).lpSetup = s.lpSetup :=
  State.lpSetup_of_touch (State.updCtx_touch (by decide) (.refl _ _))

@[simp] theorem State.updFab_lpSetup (c : Nat) (f : FabCtrl → FabCtrl) (s : State) : (s.updFab c f).lpSetup = s.lpSetup :=
  State.lpSetup_of_touch (State.updFab_touch (by decide) (.refl _ _))

@[simp] theorem State.updLayout_lpSetup (f : Layout → Layout) (s : State) : (s.updLayout f).lpSetup = s.lpSetup :=
  State.lpSetup_of_touch (State.updLayout_touch (by decide) (.refl _ _))

@[simp] theorem State.updModes_lpSetup (f : Modes → Modes) (s : State) : (s.updModes f).lpSetup = s.lpSetup :=
  State.lpSetup_of_touch (State.updModes_touch (by decide) (.refl _ _))

@[simp] theorem State.updPlan_lpSetup (i slot : Nat) (f : SendPlan → SendPlan) (s : State) : (s.updPlan i slot f).lpSetup = s.lpSetup :=
  State.lpSetup_of_touch (State.updPlan_touch (by decide) (.refl _ _))

@[simp] theorem State.updRead_lpSetup (n blk : Nat) (f : BlkRead → BlkRead) (s : State) : (s.updRead n blk f).lpSetup = s.lpSetup :=
  State.lpSetup_of_touch (State.updRead_touch (by decide) (.refl _ _))

@[simp] theorem State.updSlot_lpSetup (n : Nat) (f : Slot → Slot) (s : State) : (s.updSlot n f).lpSetup = s.lpSetup :=
  State.lpSetup_of_touch (State.updSlot_touch (by decide) (.refl _ _))

@[simp] theorem State.updTelem_lpSetup (f : Telem → Telem) (s : State) : (s.updTelem f).lpSetup = s.lpSetup :=
  State.lpSetup_of_touch (State.updTelem_touch (by decide) (.refl _ _))

@[simp] theorem State.updQos_lpSetup (f : Qos → Qos) (s : State) : (s.updQos f).lpSetup = s.lpSetup :=
  State.lpSetup_of_touch (State.updQos_touch (by decide) (.refl _ _))

@[simp] theorem State.meter_lpSetup (ctx tenant bytes : Nat) (s : State) : (s.meter ctx tenant bytes).2.lpSetup = s.lpSetup :=
  State.lpSetup_of_touch (State.meter_touch (by decide) (.refl _ _))

theorem State.updLocalPort_lpSetup (f : LocalPort → LocalPort) (s : State) :
    (s.updLocalPort f).lpSetup = { f s.localPort with pendingVec := [], cqs := [] } := rfl

@[simp] theorem State.lpSignal_lpSetup (v : Nat) (s : State) : (s.lpSignal v).lpSetup = s.lpSetup := by
  unfold State.lpSignal
  dsimp only
  split
  · rfl
  · split
    · split
      · rfl
      · simp
    · split
      · split
        · rfl
        · simp
      · rfl

@[simp] theorem State.lpPost_lpSetup (qid cid status dw0 : Nat) (s : State) : (s.lpPost qid cid status dw0).lpSetup = s.lpSetup := by
  unfold State.lpPost
  split
  · dsimp only
    rw [State.lpSignal_lpSetup]
    rfl
  · simp

@[simp] theorem State.postNow_lpSetup (n : Nat) (s : State) : (s.postNow n).lpSetup = s.lpSetup := by
  unfold State.postNow
  dsimp only
  split
  · simp
  · split
    · simp
    · split
      · split <;> simp
      · simp

@[simp] theorem State.postCompletion_lpSetup (n : Nat) (s : State) : (s.postCompletion n).lpSetup = s.lpSetup := by
  unfold State.postCompletion
  split <;> simp

@[simp] theorem State.chainAction_lpSetup (n action : Nat) (s : State) : (s.chainAction n action).lpSetup = s.lpSetup := by
  simp [State.chainAction]

@[simp] theorem State.fireChain_lpSetup (n t : Nat) (cs : Tbl Chain) (s : State) : (s.fireChain n t cs).lpSetup = s.lpSetup := by
  simp [State.fireChain]

@[simp] theorem State.evalChains_lpSetup (n : Nat) (s : State) : (s.evalChains n).lpSetup = s.lpSetup := by
  simp [State.evalChains]

@[simp] theorem State.trigger_lpSetup (n kind : Nat) (s : State) : (s.trigger n kind).lpSetup = s.lpSetup := by
  simp [State.trigger]

@[simp] theorem State.failCmd_lpSetup (n status : Nat) (s : State) : (s.failCmd n status).lpSetup = s.lpSetup := by
  simp [State.failCmd]

@[simp] theorem State.endErr_lpSetup (n status : Nat) (s : State) : (s.endErr n status).lpSetup = s.lpSetup := by
  simp [State.endErr]

@[simp] theorem State.blkFailed_lpSetup (n : Nat) (s : State) : (s.blkFailed n).lpSetup = s.lpSetup := by
  simp [State.blkFailed]

@[simp] theorem State.reconstruct_lpSetup (n blk : Nat) (s : State) : (s.reconstruct n blk).lpSetup = s.lpSetup := by
  unfold State.reconstruct
  dsimp only
  split
  · simp
  · split
    · simp
    · split <;> simp

@[simp] theorem State.versionIn_lpSetup (n blk : Nat) (v : Version) (s : State) : (s.versionIn n blk v).lpSetup = s.lpSetup := by
  unfold State.versionIn
  dsimp only
  split
  · simp
  · split <;> simp

@[simp] theorem State.readBlk_lpSetup (n blk owner : Nat) (s : State) : (s.readBlk n blk owner).lpSetup = s.lpSetup := by
  unfold State.readBlk
  dsimp only
  split
  · rfl
  · split
    · simp
    · split
      · simp
      · split
        · simp
        · split <;> simp

@[simp] theorem State.beginRead_lpSetup (n : Nat) (s : State) : (s.beginRead n).lpSetup = s.lpSetup := by
  simp [State.beginRead]

@[simp] theorem State.sendReadData_lpSetup (n : Nat) (bytes : Bytes) (s : State) : (s.sendReadData n bytes).lpSetup = s.lpSetup := by
  unfold State.sendReadData
  dsimp only
  split
  · simp
  · split <;> simp

@[simp] theorem State.finishRead_lpSetup (n : Nat) (s : State) : (s.finishRead n).lpSetup = s.lpSetup := by
  simp [State.finishRead]

@[simp] theorem State.encryptBlk_lpSetup (n : Nat) (w : BlkWrite) (s : State) : (s.encryptBlk n w).lpSetup = s.lpSetup := by
  have counter := s.takeCtr_lpSetup (s.slot n).handle
  unfold State.encryptBlk
  dsimp only
  split
  · rfl
  · split
    · simp
    · split
      · simp
      · split
        all_goals
          next found =>
            rw [found] at counter
            simpa using counter

@[simp] theorem State.stageSeven_lpSetup (n : Nat) (s : State) : (s.stageSeven n).lpSetup = s.lpSetup := by
  simp [State.stageSeven]

@[simp] theorem State.advance_lpSetup (n : Nat) (s : State) : (s.advance n).lpSetup = s.lpSetup := by
  simp [State.advance]

@[simp] theorem State.rounds_lpSetup (k : Nat) (s : State) : (State.rounds k s).lpSetup = s.lpSetup := by
  induction k generalizing s with
  | zero => rfl
  | succ k ih => simp [State.rounds, ih]

@[simp] theorem State.settle_lpSetup (s : State) : s.settle.lpSetup = s.lpSetup := by
  simp [State.settle]

@[simp] theorem State.adminDone_lpSetup (q : AdminCmd) (status dw0 : Nat) (s : State) : (s.adminDone q status dw0).lpSetup = s.lpSetup := by
  simp [State.adminDone]

@[simp] theorem State.psNow_lpSetup (ps : Nat) (s : State) : (s.psNow ps).lpSetup = s.lpSetup := by
  simp [State.psNow]

@[simp] theorem State.recomputePs_lpSetup (s : State) : s.recomputePs.lpSetup = s.lpSetup := by
  unfold State.recomputePs
  dsimp only
  split
  · split
    · split
      · split <;> simp
      · simp
    · split <;> simp
  · rfl

/-- R467: a stop of DMA ends the fetches, and where the controller is enabled sets CSTS.CFS. -/
theorem State.stopDma_lpSetup (s : State) :
    s.stopDma.lpSetup = { s.lpSetup with fetching := [], cfs := s.lpSetup.cfs || s.lpSetup.enabled } := by
  unfold State.stopDma
  dsimp only
  rw [State.settle_lpSetup]
  refine congrArg (fun l : LocalPort => { l with fetching := [], cfs := l.cfs || l.enabled }) (?_ : State.lpSetup _ = s.lpSetup)
  simp

/-- R468: the controller returns to its reset state. -/
def LocalPort.nvmeReset (l : LocalPort) : LocalPort := { l with
  enabled := false, heldEnable := false, rdy := false, cfs := false, disabling := false, errEvent := none, shn := 0, shst := 0
  intms := 0, sqs := [], cqs := [], vote := 0, lastOper := 0 }

theorem State.lpNvmeReset_lpSetup (s : State) : s.lpNvmeReset.lpSetup = s.lpSetup.nvmeReset := by
  unfold State.lpNvmeReset
  rw [State.recomputePs_lpSetup]
  rfl

/-! ## The local port (O50) -/

theorem State.ltrSend_localPort (f : Nat) (s : State) :
    (s.ltrSend f).localPort = { s.localPort with ltrLast := f, ltrSentNs := s.now, ltrHeld := none } := by
  unfold State.ltrSend
  rw [same_of_touch (g := .localPort) (State.bump_touch (by decide) (.refl _ _))]
  rfl

/-- R471: LTR messages change nothing else of the local port. -/
theorem State.ltrUpdate_localPort (s : State) :
    ∃ last sentNs held, s.ltrUpdate.localPort = { s.localPort with ltrLast := last, ltrSentNs := sentNs, ltrHeld := held } := by
  unfold State.ltrUpdate
  split
  · dsimp only
    split
    · exact ⟨_, _, _, rfl⟩
    · split
      · exact ⟨_, _, _, s.ltrSend_localPort _⟩
      · exact ⟨_, _, _, rfl⟩
  · exact ⟨_, _, _, rfl⟩

/-- R471: a use of the port changes the idle period and the LTR messages alone. -/
theorem State.lpUsed_localPort (s : State) : ∃ last sentNs held,
    s.lpUsed.localPort = { s.localPort with lastActiveNs := s.now, ltrLast := last, ltrSentNs := sentNs, ltrHeld := held } :=
  State.ltrUpdate_localPort (s.updLocalPort fun l => { l with lastActiveNs := s.now })

/-! ### Resets and DMA (R466, R467) -/

/-- R466: what PERST# returns to reset, and what it keeps. -/
theorem State.lpConfigReset_localPort (s : State) : s.lpConfigReset.localPort.bme = false ∧ s.lpConfigReset.localPort.mbox = {} ∧
    s.lpConfigReset.localPort.lState = (if s.localPort.frozen = true then 3 else 0) := by
  have frozen : s.lpNvmeReset.localPort.frozen = s.localPort.frozen := by
    rw [← State.lpSetup_frozen, s.lpNvmeReset_lpSetup]
    rfl
  unfold State.lpConfigReset
  dsimp only
  rw [same_of_touch (g := .localPort) (State.updCcp_touch (by decide) (State.dropTransport_touch (by decide) (.refl _ _))), State.updLocalPort_localPort,
    frozen]
  exact ⟨rfl, rfl, rfl⟩

theorem execLpPerstAssert_resets (s : State) : ∃ t, execLpPerstAssert s = .next t ∧ t.den.pins.lpPerst = true ∧ t.localPort.bme = false ∧
    t.localPort.mbox = {} ∧ t.localPort.lState = (if s.localPort.frozen = true then 3 else 0) := by
  obtain ⟨bme, mbox, lState⟩ := (s.stopDma.updPins fun p => { p with lpPerst := true }).lpConfigReset_localPort
  have frozen : s.stopDma.localPort.frozen = s.localPort.frozen := by
    rw [← State.lpSetup_frozen, s.stopDma_lpSetup, State.lpSetup_frozen]
  rw [show ∀ (f : Pins → Pins) (t : State), (t.updPins f).localPort = t.localPort from fun _ _ => rfl, frozen] at lState
  refine ⟨_, rfl, ?_, bme, mbox, lState⟩
  rw [same_of_touch (g := .den) (State.lpConfigReset_touch (by decide) (.refl _ _))]
  rfl

/-- R61: outside M0 a wake source powers nothing up. -/
theorem State.wakeBy_den {s : State} (awake : s.modes.mode ≠ .m0) (code : Nat) : (s.wakeBy code).den = s.den := by
  unfold State.wakeBy
  rw [if_neg awake]
  split <;> rfl

theorem execLpPerstDeassert_trains {s : State} (awake : s.modes.mode ≠ .m0) :
    ∃ t, execLpPerstDeassert s = .next t ∧ t.localPort.ssvid = s.localPortCfgSsvid ∧ t.localPort.ssid = s.localPortCfgSsid ∧
      t.localPort.lState = (if s.localPort.frozen = true then 3 else 1) ∧ t.den.pins.lpPerst = false := by
  have woken (t : State) : (if s.denCfgWakeLocal = 1 then t.wakeBy 0x04 else t).localPort = t.localPort := by
    rw [apply_ite State.localPort, same_of_touch (g := .localPort) (State.wakeBy_touch (by decide) (.refl _ _)), ite_self]
  have pins (t : State) (awake' : t.modes.mode ≠ .m0) : (if s.denCfgWakeLocal = 1 then t.wakeBy 0x04 else t).den = t.den := by
    rw [apply_ite State.den, State.wakeBy_den awake', ite_self]
  unfold execLpPerstDeassert
  dsimp only
  rw [if_neg awake]
  refine ⟨_, rfl, rfl, rfl, ?_, ?_⟩
  · rw [State.updLocalPort_localPort, woken]
    rfl
  · rw [State.updLocalPort_den, pins (s.updPins fun p => { p with lpPerst := false }) awake]
    rfl

theorem execLpBmeClear_clears (s : State) : ∃ t, execLpBmeClear s = .next t ∧ t.localPort.bme = false := by
  unfold execLpBmeClear
  by_cases bme : s.localPort.bme = true
  · exact ⟨_, congrArg Host.Outcome.next (if_pos bme), rfl⟩
  · exact ⟨_, congrArg Host.Outcome.next (if_neg bme), eq_false_of_ne_true bme⟩

/-! ### The NVMe registers (R461 to R463, R468) -/

theorem execLpCcEnable_enables {adminSq adminCq intMode vectors maxSnoop : Nat} {relaxed ltr : Bool} {s : State} (reached : s.lpReached = true)
    (off : s.localPort.enabled = false) (deleted : s.localPort.disabling = false) :
    ∃ t, execLpCcEnable adminSq adminCq intMode vectors relaxed ltr maxSnoop s = .next t ∧ t.localPort.enabled = true ∧
      t.localPort.rdy = s.inService ∧ t.localPort.heldEnable = (!s.inService) ∧ t.localPort.sqs = [(0, { size := adminSq + 1 })] := by
  unfold execLpCcEnable
  dsimp only
  rw [if_neg (by simp [reached]), if_neg (by simp [off, deleted])]
  refine ⟨_, rfl, ?_⟩
  generalize found : State.updCmds _ _ = u
  obtain ⟨last, sentNs, held, updated⟩ := u.recomputePs.ltrUpdate_localPort
  rw [updated]
  dsimp only
  rw [← State.lpSetup_enabled, ← State.lpSetup_rdy, ← State.lpSetup_heldEnable, ← State.lpSetup_sqs, State.recomputePs_lpSetup, ← found]
  exact ⟨rfl, rfl, rfl, rfl⟩

theorem execLpCcDisable_ends {s : State} (reached : s.lpReached = true) (on : s.localPort.enabled = true) :
    ∃ t, execLpCcDisable s = .next t ∧ ∃ u : State, t = (u.recomputePs.settle).lpDrained ∧ u.localPort.enabled = false ∧
      u.localPort.disabling = true :=
  ⟨_, congrArg Host.Outcome.next (if_neg (by simp [reached, on])), _, rfl, rfl, rfl⟩

theorem execLpCcShutdown_begins {shn : Nat} {s : State} (reached : s.lpReached = true) (on : s.localPort.enabled = true) (asked : shn ≠ 0) :
    ∃ t, execLpCcShutdown shn s = .next t ∧ ∃ u : State, t = u.lpDrained ∧ u.localPort.shn = shn ∧ u.localPort.shst = max 1 s.localPort.shst :=
  ⟨_, congrArg Host.Outcome.next (if_neg (by simp [reached, on, asked])), _, rfl, rfl, rfl⟩

theorem execLpDoorbell_moves {qid value : Nat} {q : LQueue} {s : State} (reached : s.lpReached = true) (queue : tfind s.localPort.sqs qid = some q)
    (fits : value < q.size) : ∃ t, execLpDoorbell qid false value s = .next t ∧
      t.localPort.sqs = tadj qid (fun y => { y with tail := value }) s.localPort.sqs := by
  unfold execLpDoorbell
  dsimp only
  rw [if_neg (by simp [reached]), if_neg (by simp [thas, tget, queue, fits])]
  refine ⟨_, rfl, ?_⟩
  obtain ⟨last, sentNs, held, used⟩ := State.lpUsed_localPort (State.when _ _ _)
  rw [if_neg Bool.false_ne_true, used, same_of_touch (g := .localPort) (State.when_touch (.refl _ _) fun _ h => State.send_touch (by decide) h)]
  rfl

theorem execLpBarBadAccess_counts {s : State} (open' : (decide (s.localPort.lState = 2) || s.localPort.frozen) = true) :
    ∃ t, execLpBarBadAccess s = .next t ∧ t.counter cLpBadAccess 0 = sat (2 ^ 64 - 1) (s.counter cLpBadAccess 0 + 1) :=
  ⟨_, congrArg Host.Outcome.next (if_pos open'), State.counter_bump_same cLpBadAccess 0 s⟩

theorem execLpMboxDoorbell_submits {len vector : Nat} {irqEn : Bool} {s : State} (reached : s.lpReached = true) (awake : s.modes.mode ≠ .m0)
    (idle : s.localPort.mbox.busy = false) (some' : 0 < len) (fits : len ≤ 4096) :
    ∃ t, execLpMboxDoorbell len irqEn vector s = .next t ∧ t.localPort.mbox.busy = true ∧ t.localPort.mbox.reqLen = len ∧
      t.localPort.mbox.vector = vector := by
  unfold execLpMboxDoorbell
  dsimp only
  rw [if_neg (by simp [reached, awake]), if_neg (by simp [idle]; omega)]
  refine ⟨_, rfl, ?_⟩
  obtain ⟨last, sentNs, held, used⟩ := State.lpUsed_localPort ((s.updLocalPort fun l => { l with
    mbox := { l.mbox with irqEn := irqEn, vector := vector, reqLen := len } }).updLocalPort fun l => { l with mbox := { l.mbox with busy := true } })
  rw [used]
  exact ⟨rfl, rfl, rfl⟩

/-- Settles O50. Each clause is the lemma of its command. That LP_CC_ENABLE carries the sizes of the host's admin queues (log 37) is the model's own
choice. -/
theorem completesLocalPortA : Obligations.CompletesLocalPortA := by
  exact ⟨execLpPerstAssert_resets, fun _ => execLpPerstDeassert_trains, execLpBmeClear_clears, fun _ => ⟨_, rfl, rfl⟩,
    fun _ _ _ _ _ _ _ _ => execLpCcEnable_enables, fun _ => execLpCcDisable_ends, fun _ _ => execLpCcShutdown_begins,
    fun _ _ _ _ => execLpDoorbell_moves, fun _ => execLpBarBadAccess_counts, fun _ _ _ _ => execLpMboxDoorbell_submits⟩

end Sys2Proof.Machine

namespace Sys2Proof.Machine

/-! ## A counter that a wide handle reaches (O51)

A counter stands at the place of its group, of what it counts for, and of its number within the group (R513). Group 7 counts by namespace handle, which R186 and R200 give 14 bits; the
model's state holds it as a number, and a handle of 2^24 or more stands in the place of another group. The stop of DMA in a freeze (R467, R472) ends the
local host's writes, and the retired stamp admits what was held behind it (R188): a stamp issued for handle 2^28 is counted, (7 + 16) · 2^29, where
LP_FREEZE_EVENTS of cause 1 stands, 23 · 2^29, and the freeze counts its event on top of it. -/

/-- A local write that holds a stamp, and a read of handle 2^28 that is held at the admission point. -/
def heldWideHandle : State :=
  { State.reset with
    localPort := { lState := 2 }
    cmds := { slots := [(0, { localPort := true, opcode := 1, pieceStamp := 1 })] }
    cons := { extents := [(0, { held := [{ handle := 2 ^ 28, nlb := 1 }] })] } }

/-- The freeze counts twice: its event, and the stamp issued. -/
theorem heldWideHandle_counts : heldWideHandle.counter cLpFreezeEvents 0 = 0 ∧ (heldWideHandle.lpFreeze 1).counter cLpFreezeEvents 0 = 2 := by
  decide +kernel

/-- Refutes O51: LP_UNCORR_ERROR on a port in service may raise LP_FREEZE_EVENTS by 2, where a handle past its 14 bits waits for a stamp. -/
theorem not_completesLocalPortB : ¬ Obligations.CompletesLocalPortB := by
  intro ⟨_, uncorrError, _⟩
  obtain ⟨t, runs, -, -, -, counted⟩ := uncorrError heldWideHandle rfl rfl
  have next : heldWideHandle.lpFreeze 1 = t := Host.Outcome.next.inj runs
  rw [← next, heldWideHandle_counts.1, heldWideHandle_counts.2] at counted
  exact absurd counted (by decide)

end Sys2Proof.Machine

namespace Sys2Proof.Machine

/-! ## Requests over NVMe-MI, objects and check-value units (O54) -/

/-! ### Replies in a session (R491, R492) -/

/-- A request's session as its reply leaves it. -/
theorem State.session_ccpReply {h : CcpHdr} {op : Nat} {group : Option Nat} {e x : Session} {s u : State} (acc : s.accepts h op group e = true)
    (listed : tfind u.ccp.sessions h.session = some x) (status : Nat) (data : Bytes) :
    (u.ccpReply h op status data).session h.session = x.replied h status data := by
  obtain ⟨-, session, -⟩ := State.accepts_iff.mp acc
  unfold State.session tget
  rw [State.ccpReply_session (State.applied_of_accepts acc) session listed, Option.getD_some]

theorem Session.replied_answers (e : Session) (h : CcpHdr) (status : Nat) (data : Bytes) :
    (e.replied h status data).cache.head?.map (·.status) = some status := by
  simp [Session.replied]

/-- What a request does to the CCP state before it runs: its session is taken, and nothing else that it may ask for. -/
theorem State.entered_ccp (s : State) (h : CcpHdr) (op : Nat) (e : Session) :
    ∃ sessions, (s.entered h op e).ccp = { s.ccp with m0Packet := false, sessions := sessions } := by
  unfold State.entered State.admitted
  rw [State.bump_ccp, State.updSession, State.updCcp_ccp, State.arrived_ccp]
  exact ⟨_, rfl⟩

theorem State.entered_cvus (s : State) (h : CcpHdr) (op : Nat) (e : Session) : (s.entered h op e).ccp.cvus = s.ccp.cvus := by
  obtain ⟨sessions, ccp⟩ := s.entered_ccp h op e
  rw [ccp]

theorem State.entered_cvu (s : State) (h : CcpHdr) (op : Nat) (e : Session) (n : Nat) : (s.entered h op e).cvu n = s.cvu n := by
  unfold State.cvu
  rw [State.entered_cvus]

theorem State.entered_jobs (s : State) (h : CcpHdr) (op : Nat) (e : Session) : (s.entered h op e).ccp.jobs = s.ccp.jobs := by
  obtain ⟨sessions, ccp⟩ := s.entered_ccp h op e
  rw [ccp]

@[simp] theorem State.ccpReply_cvus (h : CcpHdr) (op status : Nat) (data : Bytes) (s : State) :
    (s.ccpReply h op status data).ccp.cvus = s.ccp.cvus := by
  obtain ⟨sessions, long, ccp⟩ := s.ccpReply_ccp h op status data
  rw [ccp]

/-! ### NVMe-MI (R480) -/

/-- R58: ending a Den entry leaves the mode alone. -/
theorem State.cancelDen_mode (s : State) : s.cancelDen.modes.mode = s.modes.mode := by
  unfold State.cancelDen
  split <;> rfl

theorem State.miReply_ccp (mi : NvmeMi) (status : Nat) (vals : List Nat) (s : State) : (s.miReply mi status vals).ccp = s.ccp := rfl

theorem execNvmeMiCommand_answers {mi : NvmeMi} {s : State} (awake : s.modes.mode ≠ .m0) (bus : s.ccpCfgMgmtBus ≠ 0) :
    ∃ t, execNvmeMiCommand mi s = .next t ∧ (mi.opcode = 1 → t = s.wakeIdle.cancelDen.miReply mi 0 [s.modes.mode.num, s.pair.lastFault, s.elec.dieC]) ∧
      (mi.opcode = 3 → mi.arg = 1 → mi.value = 2 → t.ccp.smbusFreq = 400) ∧
      (mi.opcode = 3 → mi.arg = 3 → 64 ≤ mi.value → mi.value < 65536 → t.ccp.mctpMtu = mi.value) := by
  have pair : s.wakeIdle.cancelDen.pair = s.pair := same_of_touch (g := .pair) (State.cancelDen_touch (by decide) (State.wakeIdle_touch (by decide) (.refl _ _)))
  have elec : s.wakeIdle.cancelDen.elec = s.elec := same_of_touch (g := .elec) (State.cancelDen_touch (by decide) (State.wakeIdle_touch (by decide) (.refl _ _)))
  have mode : s.wakeIdle.cancelDen.modes.mode = s.modes.mode := s.wakeIdle.cancelDen_mode
  refine ⟨_, congrArg Host.Outcome.next (if_neg (by simp [awake, bus])), fun status => ?_, fun set freq value => ?_, fun set mtu low high => ?_⟩
  · simp only [status, pair, elec, mode]
  · simp [set, freq, value, State.miReply_ccp]
  · simp [set, mtu, low, high, State.miReply_ccp]

/-! ### Subscriptions, long replies, staging (R492, R495) -/

theorem execEventSubscribe_subscribes {h : CcpHdr} {e : Session} {mask : Nat} {s : State} (acc : s.accepts h 0x09 (some 0) e = true)
    (even : mask % 2 = 0) (fits : mask < 32768) :
    ∃ t, execEventSubscribe h mask s = .next t ∧ (t.session h.session).eventMask = mask ∧ t.answered h 0 := by
  obtain ⟨-, -, listed, -⟩ := State.accepts_iff.mp acc
  unfold execEventSubscribe
  rw [State.ccpSimple_of_accepts _ acc, if_neg (by omega)]
  refine ⟨_, rfl, ?_⟩
  unfold State.answered
  rw [State.session_ccpReply acc (tfind_tadj_same _ (State.entered_session listed))]
  exact ⟨rfl, Session.replied_answers _ _ _ _⟩

theorem firstSlice_short {room : Nat} {data : Bytes} (fits : data.length ≤ room) : firstSlice room data = data := if_pos fits

theorem execReadLong_reads {h : CcpHdr} {e : Session} {offset : Nat} {s : State} (acc : s.accepts h 0x0A none e = true) (held : e.longReply ≠ [])
    (within : offset ≤ e.longReply.length) : ∃ t, execReadLong h offset s = .next t ∧
      (t.session h.session).cache.head?.map (fun y => (y.status, y.data)) = some (0, (e.longReply.drop offset).take 4056) := by
  obtain ⟨-, session, listed, -⟩ := State.accepts_iff.mp acc
  have entered := State.entered_session (op := 0x0A) listed
  have long : ((s.entered h 0x0A e).session h.session).longReply = e.longReply := by
    unfold State.session tget
    rw [entered]
    rfl
  unfold execReadLong
  rw [State.ccpSimple_of_accepts _ acc]
  dsimp only
  rw [if_neg session, long, if_neg held, if_neg (Nat.not_lt.mpr within)]
  refine ⟨_, rfl, ?_⟩
  rw [State.session_ccpReply acc entered]
  simp [Session.replied, firstSlice_short (List.length_take_le 4056 (e.longReply.drop offset))]

/-- Bytes stored one after the other from an offset: each is found at its place. -/
theorem tfind_foldl_tput {α : Type} (f : Nat → α) (off : Nat) (t : Tbl α) {i n : Nat} (listed : i < n) :
    tfind ((List.range n).foldl (fun a i => tput a (off + i) (f i)) t) (off + i) = some (f i) := by
  induction n with
  | zero => cases listed
  | succ n ih =>
    rw [List.range_succ, List.foldl_append, List.foldl_cons, List.foldl_nil]
    by_cases last : i = n
    · rw [last, tfind_tput_same]
    · rw [tfind_tput_other _ _ (by omega), ih (by omega)]

theorem execStage_stages {h : CcpHdr} {e : Session} {offset : Nat} {bytes : Bytes} {s : State} (acc : s.accepts h 0x12 none e = true)
    (fits : offset + bytes.length ≤ 262144) : ∃ t, execStage h offset bytes s = .next t ∧
      (∀ i, i < bytes.length → tfind (t.session h.session).staging (offset + i) = bytes[i]?) ∧ t.answered h 0 := by
  obtain ⟨-, -, listed, -⟩ := State.accepts_iff.mp acc
  unfold execStage
  rw [State.ccpSimple_of_accepts _ acc, if_neg (Nat.not_lt.mpr fits)]
  refine ⟨_, rfl, ?_⟩
  unfold State.answered
  rw [State.session_ccpReply acc (tfind_tadj_same _ (State.entered_session listed))]
  refine ⟨fun i inRange => ?_, Session.replied_answers _ _ _ _⟩
  exact (tfind_foldl_tput (fun i => bytes.getD i 0) offset _ inRange).trans (by simp [inRange])

/-! ### Objects (R503) -/

/-- R499, R503: who a read is allowed to asks for the role and the tenant of the session alone. -/
theorem State.readScope_taking (s : State) (id off len : Nat) (e : Session) (h : CcpHdr) (op now : Nat) :
    s.readScope id off len (e.taking h op now) = s.readScope id off len e := by
  obtain ⟨role, tenant⟩ := e.taking_owner h op now
  unfold State.readScope
  rw [role, tenant]

theorem execReadObj_reads {h : CcpHdr} {e : Session} {obj offset length : Nat} {s : State} (acc : s.accepts h 0x10 (readGroup obj e.role) e = true)
    (known : objExists obj = true) (within : offset + length ≤ (s.entered h 0x10 e).objSize obj) (scope : s.readScope obj offset length e = 0)
    (unit : idSub obj = 14 → 7 ≤ idType obj → idType obj ≤ 9 → ((s.entered h 0x10 e).cvuCheck h.session (idInst obj)).code = 0) :
    ∃ t, execReadObj h obj offset length s = .next t ∧
      t.sent = ((s.entered h 0x10 e).ccpReply h 0x10 0 ((s.entered h 0x10 e).objRead obj offset length)).sent ∧
      t.ccp.sessions = ((s.entered h 0x10 e).ccpReply h 0x10 0 ((s.entered h 0x10 e).objRead obj offset length)).ccp.sessions ∧
      (idSub obj = 14 → idType obj = 10 → (tfind s.ccp.jobs (idInst obj)).map (fun y : Job => y.jState) = some 2 →
        thas t.ccp.jobs (idInst obj) = false) := by
  obtain ⟨-, -, listed, -⟩ := State.accepts_iff.mp acc
  have role : (s.session h.session).role = e.role := by
    unfold State.session tget
    rw [listed, Option.getD_some]
  have held : (if idSub obj = 14 ∧ 7 ≤ idType obj ∧ idType obj ≤ 9 then (s.entered h 0x10 e).cvuCheck h.session (idInst obj) else {}).code = 0 := by
    split
    · next isUnit => exact unit isUnit.1 isUnit.2.1 isUnit.2.2
    · rfl
  unfold execReadObj
  rw [role, State.ccpTake_of_accepts _ acc ((s.readScope_taking ..).trans scope), if_neg (by simp [known]; omega)]
  dsimp only
  rw [if_neg (not_not_intro held), State.entered_jobs]
  refine ⟨_, rfl, ?_, ?_, fun isJobs isJob ended => ?_⟩
  · split <;> rfl
  · split <;> rfl
  · obtain ⟨job, found, ended⟩ := Option.map_eq_some_iff.mp ended
    rw [if_pos ⟨isJobs, isJob, by rw [tget, found]; exact ended⟩]
    exact congrArg Option.isSome (tfind_tdel_same _ _)

theorem execWriteObj_writes {h : CcpHdr} {e : Session} {obj offset : Nat} {bytes : Bytes} {s : State}
    (acc : s.accepts h 0x11 (writeGroup obj) e = true) (inline : h.staged = false)
    (ok : ((s.entered h 0x11 e).writeCheck h.session obj offset bytes).code = 0)
    (reached : sharedObject obj = true → (s.entered h 0x11 e).sharedCut h = false) :
    ∃ t, execWriteObj h obj offset bytes s = .next t ∧
      t = if sharedObject obj then ((s.entered h 0x11 e).writeApply obj offset bytes).sharedDone h 0x11
          (obj :: offset :: bytes.map fun x : BitVec 8 => x.toNat) []
        else ((s.entered h 0x11 e).writeApply obj offset bytes).ccpReply h 0x11 0 [] := by
  refine ⟨_, rfl, ?_⟩
  rw [State.ccpSimple_of_accepts _ acc]
  unfold State.ccpField State.ccpUnstage State.objWrite
  dsimp only
  rw [if_neg (ne_true_of_eq_false inline), if_neg (ne_true_of_eq_false inline)]
  dsimp only
  rw [ok]
  split
  · next shared =>
    rw [if_neg (ne_true_of_eq_false (reached shared)), if_neg (ne_true_of_eq_false (State.applied_of_accepts acc)), if_neg (by decide),
      if_neg (by decide)]
  · rw [if_neg (by decide), if_neg (by decide)]

/-! ### Check-value units (R509, R510) -/

theorem execCvuClaim_claims {h : CcpHdr} {e : Session} {alg n : Nat} {s : State} (acc : s.accepts h 0x18 (some 17) e = true) (known : alg ≤ 1)
    (free : tfreeFrom s.ccp.cvus 4 4 = some n) : ∃ t, execCvuClaim h alg s = .next t ∧
      tfind t.ccp.cvus n = some { holder := 2, alg := alg, session := h.session, bytes := 0, running := cvuInitial alg } ∧ t.answered h 0 := by
  unfold execCvuClaim
  rw [State.ccpSimple_of_accepts _ acc, if_neg (by omega)]
  dsimp only
  rw [State.entered_cvus, free]
  refine ⟨_, rfl, ?_, State.answered_of_sessions acc rfl⟩
  unfold State.cvuGrant
  dsimp only
  rw [State.ccpReply_cvus, State.updCcp_ccp, tfind_tput_same, leNat_leBytes, Nat.mod_eq_of_lt (by omega)]

/-- R510: a unit that the session holds is worked on. -/
theorem State.cvuHeld_of_held {h : CcpHdr} {op unit : Nat} {s : State} (isUnit : unit < 8) (held : (s.cvuCheck h.session unit).code = 0)
    (run : State → State) : s.cvuHeld h op unit run = run s := by
  unfold State.cvuHeld
  dsimp only
  rw [if_neg (Nat.not_le.mpr isUnit), if_neg (not_not_intro held)]

theorem execCvuFeed_feeds {h : CcpHdr} {e : Session} {unit : Nat} {bytes : Bytes} {s : State} (acc : s.accepts h 0x19 (some 17) e = true)
    (inline : h.staged = false) (isUnit : unit < 8) (held : ((s.entered h 0x19 e).cvuCheck h.session unit).code = 0) :
    ∃ t, execCvuFeed h unit bytes s = .next t ∧ (t.cvu unit).running =
      BitVec.ofNat 64 (crcRun (if (s.cvu unit).alg = 0 then polyCrc32c else polyCrc64) (s.cvu unit).running.toNat bytes) ∧ t.answered h 0 := by
  unfold execCvuFeed State.ccpField State.ccpUnstage
  rw [State.ccpSimple_of_accepts _ acc, if_neg (ne_true_of_eq_false inline), if_neg (ne_true_of_eq_false inline)]
  dsimp only
  rw [State.cvuHeld_of_held isUnit held, State.entered_cvu]
  refine ⟨_, rfl, ?_, State.answered_of_sessions acc rfl⟩
  rw [State.cvu, State.ccpReply_cvus, tget, State.updCcp_ccp, tfind_tput_same, Option.getD_some]

theorem execCvuRelease_frees {h : CcpHdr} {e : Session} {unit : Nat} {s : State} (acc : s.accepts h 0x1A (some 17) e = true) (isUnit : unit < 8)
    (held : ((s.entered h 0x1A e).cvuCheck h.session unit).code = 0) :
    ∃ t, execCvuRelease h unit s = .next t ∧ thas t.ccp.cvus unit = false ∧ t.answered h 0 := by
  unfold execCvuRelease
  rw [State.ccpSimple_of_accepts _ acc, State.cvuHeld_of_held isUnit held]
  refine ⟨_, rfl, ?_, State.answered_of_sessions acc rfl⟩
  rw [State.ccpReply_cvus]
  exact congrArg Option.isSome (tfind_tdel_same _ _)

/-- R510: a unit that a session holds is listed. -/
theorem State.cvu_listed {s : State} {session unit : Nat} (held : (s.cvuCheck session unit).code = 0) : ∃ u, tfind s.ccp.cvus unit = some u := by
  cases found : tfind s.ccp.cvus unit with
  | some u => exact ⟨u, rfl⟩
  | none =>
    have empty : s.cvu unit = {} := by rw [State.cvu, tget, found, Option.getD_none]
    unfold State.cvuCheck at held
    dsimp only at held
    rw [empty, if_neg (by simp)] at held
    cases held

/-- R503, R510: a write of a unit's control word is accepted of the session that holds the unit alone. -/
theorem State.writeCheck_cvu {s : State} {session unit : Nat} {b : Bytes} (isUnit : unit < 8)
    (ok : (s.writeCheck session (oid 14 7 unit) 0 b).code = 0) : (s.cvuCheck session unit).code = 0 := by
  unfold State.writeCheck at ok
  dsimp only at ok
  rw [idSub_oid 14 (by decide) (by omega), idType_oid 14 (by decide) (by omega), idInst_oid 14 7 (by omega)] at ok
  split at ok
  · cases ok
  · rw [if_neg (by decide)] at ok
    split at ok
    · cases ok
    · rw [if_pos (by decide)] at ok
      exact (Verdict.thenCheck_accepts.mp ok).1

/-- The control word that begins a unit anew: its algorithm in bit 61 and INIT in bit 60 (R510). -/
theorem cvuControl_bits {alg : Nat} (known : alg < 2) : alg * 2 ^ 61 + 2 ^ 60 < 2 ^ 64 ∧ (alg * 2 ^ 61 + 2 ^ 60).testBit 60 = true ∧
    bits (alg * 2 ^ 61 + 2 ^ 60) 61 61 = alg := by
  have cases : alg = 0 ∨ alg = 1 := by omega
  obtain rfl | rfl := cases
  · decide
  · decide

theorem State.writeApply_cvu {unit : Nat} (isUnit : unit < 8) {w : Nat} (fits : w < 2 ^ 64) (s : State) :
    (s.writeApply (oid 14 7 unit) 0 (leBytes 8 w)).ccp = (s.cvuWritten unit w).ccp := by
  unfold State.writeApply
  dsimp only
  rw [idSub_oid 14 (by decide) (by omega), idType_oid 14 (by decide) (by omega), idInst_oid 14 7 (by omega), if_neg (by decide), if_pos (by decide),
    leNat_leBytes_word fits]
  exact same_of_touch (g := .ccp) (State.when_touch (.refl _ _) fun _ t => State.updBoot_touch (by decide) t)

theorem execCvuInit_begins {h : CcpHdr} {e : Session} {unit alg : Nat} {s : State} (acc : s.accepts h 0x11 (writeGroup (oid 14 7 unit)) e = true)
    (ok : ((s.entered h 0x11 e).writeCheck h.session (oid 14 7 unit) 0 (leBytes 8 (alg * 2 ^ 61 + 2 ^ 60))).code = 0) (isUnit : unit < 8)
    (known : alg < 2) : ∃ t, execCvuInit h unit alg s = .next t ∧ (t.cvu unit).running = cvuInitial alg ∧ (t.cvu unit).bytes = 0 ∧
      (t.cvu unit).alg = alg ∧ t.answered h 0 := by
  obtain ⟨fits, init, algorithm⟩ := cvuControl_bits known
  obtain ⟨u, listed⟩ := State.cvu_listed (State.writeCheck_cvu isUnit ok)
  have own : sharedObject (oid 14 7 unit) = false := by
    unfold sharedObject
    rw [idSub_oid 14 (by decide) (by omega), idType_oid 14 (by decide) (by omega)]
    rfl
  have written := State.writeApply_cvu isUnit fits (s.entered h 0x11 e)
  refine ⟨_, (bounded_eq_next (by simp [isUnit, known])).trans (congrArg _ (State.wordWrite_own own acc ok)), ?_⟩
  have anew : (((s.entered h 0x11 e).writeApply (oid 14 7 unit) 0 (leBytes 8 (alg * 2 ^ 61 + 2 ^ 60))).ccpReply h 0x11 0 []).cvu unit =
      { u with alg := alg, running := cvuInitial alg, bytes := 0 } := by
    rw [State.cvu, State.ccpReply_cvus, written, tget, State.cvuWritten, State.updCcp_ccp, tfind_tadj_same _ listed, Option.getD_some, if_pos init,
      algorithm]
  rw [anew]
  exact ⟨rfl, rfl, rfl, State.answered_of_sessions acc ((congrArg Ccp.sessions written).trans rfl)⟩

/-- Settles O54. Each clause is the lemma of its command. The codes of NVMe-MI (logs 36 and 45), the message that a shared write sends to the partner
(log 18) and who may read a check-value unit (log 48) are the model's own choice. -/
theorem completesSessionsC : Obligations.CompletesSessionsC :=
  ⟨fun _ _ => execNvmeMiCommand_answers, fun _ _ _ _ => execEventSubscribe_subscribes, fun _ _ _ _ => execReadLong_reads,
    fun _ _ _ _ _ _ => execReadObj_reads, fun _ _ _ _ _ _ => execWriteObj_writes, fun _ _ _ _ _ => execStage_stages,
    fun _ _ _ _ _ => execCvuClaim_claims, fun _ _ _ _ _ => execCvuFeed_feeds, fun _ _ _ _ => execCvuRelease_frees,
    fun _ _ _ _ _ => execCvuInit_begins⟩

end Sys2Proof.Machine

namespace Sys2Proof.Machine

/-! ## Slot, store, port and bandwidth controls (O56) -/

/-! ### Slot controls (R437, R452) -/

theorem isControl_slot {slot : Nat} (inRange : slot < 64) (w : Nat) : IsControl (oid 11 2 slot) w := by
  have sub := idSub_oid 11 (show 2 < 1024 by decide) (show slot < 16384 by omega)
  have ty := idType_oid 11 (show 2 < 1024 by decide) (show slot < 16384 by omega)
  exact ⟨fun window => absurd (sub.symm.trans window.1) (by decide), by rw [sub]; decide, by rw [sub, ty]; rfl, by rw [sub, ty]; rfl, by rw [sub, ty]; rfl⟩

/-- R452: SLOT_PWR_CTL_s is an object of each controller's own and not of the configuration image, so nothing but its action is done. -/
theorem State.wordWrite_slot {h : CcpHdr} {e : Session} {slot w : Nat} {s : State} (inRange : slot < 64) (fits : w < 2 ^ 64)
    (acc : s.accepts h 0x11 (writeGroup (oid 11 2 slot)) e = true)
    (ok : ((s.entered h 0x11 e).writeCheck h.session (oid 11 2 slot) 0 (leBytes 8 w)).code = 0) :
    s.wordWrite h (oid 11 2 slot) w = (((s.entered h 0x11 e).when (w.testBit 63) fun t => t.clearRetry slot).when (w.testBit 62) fun t =>
      t.cycleSlot slot).ccpReply h 0x11 0 [] := by
  have sub := idSub_oid 11 (show 2 < 1024 by decide) (show slot < 16384 by omega)
  have ty := idType_oid 11 (show 2 < 1024 by decide) (show slot < 16384 by omega)
  have own : sharedObject (oid 11 2 slot) = false := by
    unfold sharedObject
    rw [sub, ty]
    rfl
  have unlisted : configObject (oid 11 2 slot) = false := by
    unfold configObject
    rw [sub, ty]
    decide
  rw [State.wordWrite_own own acc ok, State.writeApply_control (isControl_slot inRange _), leNat_leBytes_word fits, unlisted]
  refine congrArg (State.ccpReply h 0x11 0 []) (Eq.trans (if_neg Bool.false_ne_true) ?_)
  unfold State.controlled
  rw [sub, ty, idInst_oid 11 2 (by omega)]
  rfl

/-- R437: clearing a slot that is not locked out starts nothing. -/
theorem State.clearRetry_of_open {slot : Nat} {s : State} (open' : (s.slotPwr slot).pState ≠ 6) :
    s.clearRetry slot = s.updSlotPwr slot fun p => { p with retryCnt := 0, marked := false, pState := if p.pState = 6 then (if p.present then 2 else 1) else p.pState } := by
  unfold State.clearRetry
  exact if_neg fun locked => open' locked.1

theorem State.slotPwr_entered (slot : Nat) (s : State) (h : CcpHdr) (op : Nat) (e : Session) : (s.entered h op e).slotPwr slot = s.slotPwr slot :=
  State.slotPwr_of_touch (s.entered_touch h op e (by decide)) slot

theorem execClearRetry_clears {h : CcpHdr} {e : Session} {slot : Nat} {s : State} (acc : s.accepts h 0x11 (writeGroup (oid 11 2 slot)) e = true)
    (ok : ((s.entered h 0x11 e).writeCheck h.session (oid 11 2 slot) 0 (leBytes 8 (2 ^ 63))).code = 0) (inRange : slot < 64)
    (open' : (s.slotPwr slot).pState ≠ 6) : ∃ t, execClearRetry h slot s = .next t ∧
      t.slotPwr slot = { s.slotPwr slot with retryCnt := 0, marked := false } ∧ t.answered h 0 := by
  have cleared := State.clearRetry_of_open (slot := slot) (s := s.entered h 0x11 e) (by rwa [State.slotPwr_entered])
  refine ⟨((s.entered h 0x11 e).clearRetry slot).ccpReply h 0x11 0 [], ?_, ?_, ?_⟩
  · refine (bounded_eq_next (decide_eq_true inRange)).trans (congrArg _ ?_)
    rw [State.wordWrite_slot inRange (by decide) acc ok, show Nat.testBit (2 ^ 63) 63 = true by decide,
      show Nat.testBit (2 ^ 63) 62 = false by decide]
    rfl
  · rw [State.slotPwr_of_touch (State.ccpReply_touch (by decide) (.refl _ _)), cleared, State.slotPwr_updSlotPwr_same, State.slotPwr_entered,
      if_neg open']
  · exact State.answered_of_entered acc ((congrArg State.ccp cleared).trans rfl) 0 []

theorem execCycle_cycles {h : CcpHdr} {e : Session} {slot : Nat} {s : State} (acc : s.accepts h 0x11 (writeGroup (oid 11 2 slot)) e = true)
    (ok : ((s.entered h 0x11 e).writeCheck h.session (oid 11 2 slot) 0 (leBytes 8 (2 ^ 62))).code = 0) (inRange : slot < 64) :
    ∃ t, execCycle h slot s = .next t ∧ ∃ u : State, t = (u.recomputeLimit false).ccpReply h 0x11 0 [] ∧ (u.slotPwr slot).pState = 3 ∧
      (u.slotPwr slot).cycling = true := by
  refine ⟨_, (bounded_eq_next (decide_eq_true inRange)).trans (congrArg _ (State.wordWrite_slot inRange (by decide) acc ok)),
    (s.entered h 0x11 e).updSlotPwr slot fun q => { q.off with pState := 3, cycling := true }, rfl, ?_⟩
  rw [State.slotPwr_updSlotPwr_same]
  exact ⟨rfl, rfl⟩

/-! ### The local port (R472, R473, R476) -/

theorem isControl_localPort (w : Nat) : IsControl (oid 12 2 0) w := ⟨by decide, by decide, by decide, by decide, rfl⟩

/-- R476: LOCAL_PORT_CTL is an object of each controller's own, so nothing but its action is done. -/
theorem State.wordWrite_localPort {h : CcpHdr} {e : Session} {w : Nat} {s : State} (fits : w < 2 ^ 64)
    (acc : s.accepts h 0x11 (writeGroup (oid 12 2 0)) e = true)
    (ok : ((s.entered h 0x11 e).writeCheck h.session (oid 12 2 0) 0 (leBytes 8 w)).code = 0) :
    s.wordWrite h (oid 12 2 0) w = (((s.entered h 0x11 e).when (w.testBit 63) fun t => t.lpFreeze 4).when (w.testBit 62) State.lpRelease).ccpReply
      h 0x11 0 [] := by
  rw [State.wordWrite_own (by decide) acc ok, State.writeApply_control (isControl_localPort _), leNat_leBytes_word fits]
  rfl

/-- R476: FREEZE is accepted of a port that is not frozen alone. -/
theorem State.controlRule_freeze {w : Nat} {s : State} (freezes : w.testBit 63 = true) (ok : (s.controlRule (oid 12 2 0) w).code = 0) :
    s.localPort.frozen = false := by
  have allowed := (rejectIf_accepts (by decide)).mp ok
  exact Bool.eq_false_of_not_eq_true fun frozen => by simp [freezes, frozen] at allowed

/-- R472: a freeze leaves the port frozen with its cause, and CSTS.CFS set. -/
theorem State.lpFreeze_freezes {s : State} (served : s.localPort.frozen = false) (cause : Nat) : (s.lpFreeze cause).localPort.frozen = true ∧
    (s.lpFreeze cause).localPort.cause = cause ∧ (s.lpFreeze cause).localPort.cfs = true := by
  unfold State.lpFreeze
  rw [if_neg (ne_true_of_eq_false served), same_of_touch (g := .localPort) (State.send_touch (by decide) (State.bump_touch (by decide) (.refl _ _)))]
  exact ⟨rfl, rfl, rfl⟩

theorem execFreeze_freezes {h : CcpHdr} {e : Session} {s : State} (acc : s.accepts h 0x11 (writeGroup (oid 12 2 0)) e = true)
    (ok : ((s.entered h 0x11 e).writeCheck h.session (oid 12 2 0) 0 (leBytes 8 (2 ^ 63))).code = 0) :
    ∃ t, execFreeze h s = .next t ∧ ∃ u : State, t = u.ccpReply h 0x11 0 [] ∧ u.localPort.frozen = true ∧ u.localPort.cause = 4 ∧
      u.localPort.cfs = true := by
  have permitted := State.writeCheck_control (isControl_localPort _) ok
  rw [leNat_leBytes_word (by decide)] at permitted
  exact ⟨_, congrArg Host.Outcome.next (State.wordWrite_localPort (by decide) acc ok), (s.entered h 0x11 e).lpFreeze 4, rfl,
    State.lpFreeze_freezes (State.controlRule_freeze (by decide) permitted) 4⟩

theorem execLocalPortRelease_releases {h : CcpHdr} {e : Session} {s : State} (acc : s.accepts h 0x11 (writeGroup (oid 12 2 0)) e = true)
    (ok : ((s.entered h 0x11 e).writeCheck h.session (oid 12 2 0) 0 (leBytes 8 (2 ^ 62))).code = 0) :
    ∃ t, execLocalPortRelease h s = .next t ∧ ∃ u : State, t = u.ccpReply h 0x11 0 [] ∧ u.localPort.frozen = false ∧ u.localPort.mbox = {} :=
  ⟨_, congrArg Host.Outcome.next (State.wordWrite_localPort (by decide) acc ok), (s.entered h 0x11 e).lpRelease, rfl, rfl, rfl⟩

/-! ### The configuration of the store (R443) -/

/-- Whether a session of this number is open. -/
def State.sessionOpen (n : Nat) (s : State) : Bool := thas s.ccp.sessions n

theorem State.sessionOpen_of_touch {s t : State} (h : Touch (allBut .ccp) s t) (n : Nat) : t.sessionOpen n = s.sessionOpen n :=
  congrArg (fun c : Ccp => thas c.sessions n) (same_of_touch (g := .ccp) h)

theorem State.sessionOpen_when {n : Nat} {f : State → State} (keeps : ∀ t, (f t).sessionOpen n = t.sessionOpen n) (b : Bool) (s : State) :
    (s.when b f).sessionOpen n = s.sessionOpen n := by
  unfold State.when
  split
  · exact keeps s
  · rfl

/-- R494: an event is offered to the sessions that are open. -/
theorem State.raise_sessionOpen (n code i data : Nat) (s : State) : (s.raise code i data).sessionOpen n = s.sessionOpen n := by
  unfold State.raise State.sessionOpen thas
  dsimp only
  rw [State.updSent_ccp, State.updCcp_ccp, tfind_tmap, Option.isSome_map]

theorem State.marginRecord_sessionOpen (n kind cause i old new : Nat) (s : State) :
    (s.marginRecord kind cause i old new).sessionOpen n = s.sessionOpen n := by
  unfold State.marginRecord
  dsimp only
  rw [State.raise_sessionOpen]
  exact State.sessionOpen_of_touch (State.bump_touch (by decide) (State.updDen_touch (by decide) (.refl _ _))) n

theorem State.recomputeLimit_sessionOpen (n : Nat) (note : Bool) (s : State) : (s.recomputeLimit note).sessionOpen n = s.sessionOpen n := by
  unfold State.recomputeLimit
  dsimp only
  rw [State.sessionOpen_when fun t => t.raise_sessionOpen n _ _ _, State.sessionOpen_when fun t => t.marginRecord_sessionOpen n _ _ _ _ _,
    State.sessionOpen_when fun t => ((t.bump cLarderDeficits 0).raise_sessionOpen n _ _ _).trans
      (State.sessionOpen_of_touch (State.bump_touch (by decide) (.refl _ _)) n)]
  rfl

theorem State.gradeStore_sessionOpen (n cause : Nat) (s : State) : (s.gradeStore cause).sessionOpen n = s.sessionOpen n := by
  have noted (old new : Nat) (b : Bool) (t : State) : (((t.raise 0x0B02 whole (old + 256 * new)).marginRecord 0x07 cause whole old new).when b
      fun v => v.wakeBy 0x08).sessionOpen n = t.sessionOpen n := by
    rw [State.sessionOpen_when fun v => State.sessionOpen_of_touch (State.wakeBy_touch (by decide) (.refl _ _)) n, State.marginRecord_sessionOpen,
      State.raise_sessionOpen]
  unfold State.gradeStore
  dsimp only
  rw [State.recomputeLimit_sessionOpen, apply_ite (State.sessionOpen n), noted, ite_self]
  rfl

/-- R491: a reply answers a request whose session is still open. -/
theorem State.answered_of_open {h : CcpHdr} {op : Nat} {group : Option Nat} {e : Session} {s u : State} (acc : s.accepts h op group e = true)
    (kept : u.sessionOpen h.session = (s.entered h op e).sessionOpen h.session) (status : Nat) (data : Bytes) :
    (u.ccpReply h op status data).answered h status := by
  obtain ⟨-, -, listed, -⟩ := State.accepts_iff.mp acc
  have still : u.sessionOpen h.session = true := kept.trans (congrArg Option.isSome (State.entered_session listed))
  obtain ⟨x, found⟩ := Option.isSome_iff_exists.mp still
  unfold State.answered
  rw [State.session_ccpReply acc found]
  exact Session.replied_answers _ _ _ _

/-- R443, R503: ESTORE_CFG is kept whole as it is written, and the store is graded anew. -/
theorem State.writeApply_estore (bytes : Bytes) (s : State) : s.writeApply (oid 11 5 0) 0 bytes =
    ((s.updBlobs fun t => tput t (oid 11 5 0) bytes).gradeStore 9).updBoot fun x => { x with confDue := true } := by
  have sub : idSub (oid 11 5 0) = 11 := by decide
  have ty : idType (oid 11 5 0) = 5 := by decide
  unfold State.writeApply
  dsimp only
  rw [sub, ty, if_neg (by decide), if_neg (by decide), if_neg (by decide), if_neg (by decide), if_neg (by decide),
    show (controlCheck 11 5 (leNat bytes)).isSome = false from rfl, if_neg Bool.false_ne_true]
  unfold State.recordWritten
  rw [sub, ty]
  rfl

theorem execEstoreCfgWrite_writes {h : CcpHdr} {e : Session} {bytes : Bytes} {s : State} (acc : s.accepts h 0x11 (writeGroup (oid 11 5 0)) e = true)
    (inline : h.staged = false) (ok : ((s.entered h 0x11 e).writeCheck h.session (oid 11 5 0) 0 bytes).code = 0) :
    ∃ t, execEstoreCfgWrite h bytes s = .next t ∧ tfind t.blobs (oid 11 5 0) = some bytes ∧ t.boot.confDue = true ∧ t.answered h 0 := by
  obtain ⟨t, next, written⟩ := execWriteObj_writes acc inline ok (fun shared => absurd shared (by decide))
  refine ⟨t, next, ?_⟩
  rw [written, if_neg (by decide), State.writeApply_estore]
  refine ⟨?_, ?_, State.answered_of_open acc ?_ 0 []⟩
  · rw [same_of_touch (g := .blobs) (State.ccpReply_touch (by decide) (State.updBoot_touch (by decide) (State.gradeStore_touch (by decide) (.refl _ _))))]
    exact tfind_tput_same _ _ _
  · rw [same_of_touch (g := .boot) (State.ccpReply_touch (by decide) (.refl _ _))]
    rfl
  · exact (State.gradeStore_sessionOpen h.session 9 _).trans rfl

/-! ### Bandwidth windows (R518) -/

/-- R518: a length of 1 to 1,000,000 us is one that BW_WIN_n takes. -/
theorem bwWindow_fields {us : Nat} (fits : us ≤ 1000000) : leField (leBytes 8 us) 0 4 = us ∧ leField (leBytes 8 us) 4 4 = 0 := by
  have last : us / 256 / 256 / 256 < 256 := by omega
  constructor
  · simp [leField, leBytes, leNat]
    omega
  · simp [leField, leBytes, leNat]
    omega

theorem bwCheck_accepts {us : Nat} (positive : 1 ≤ us) (fits : us ≤ 1000000) : (bwCheck 0 (leBytes 8 us)).code = 0 := by
  obtain ⟨length, reserved⟩ := bwWindow_fields fits
  unfold bwCheck
  refine (rejectIf_accepts (by decide)).mpr ?_
  have eight : (leBytes 8 us).length = 8 := rfl
  rw [length, reserved, eight]
  simp
  omega

theorem objExists_window : ∀ port < 16, objExists (oid 13 2 port) = true := by decide

theorem execBwWindowWrite_begins {h : CcpHdr} {e : Session} {port windowUs : Nat} {s : State}
    (acc : s.accepts h 0x11 (writeGroup (oid 13 2 port)) e = true) (isPort : port < 16) (positive : 1 ≤ windowUs) (fits : windowUs ≤ 1000000) :
    ∃ t, execBwWindowWrite h port windowUs s = .next t ∧ ∃ u : State, t = u.ccpReply h 0x11 0 [] ∧ (tget {} u.telem.bw port).windowUs = windowUs ∧
      (tget {} u.telem.bw port).discard = true ∧ (tget {} u.telem.bw port).rxPeak = 0 ∧ (tget {} u.telem.bw port).txPeak = 0 := by
  have sub := idSub_oid 13 (show 2 < 1024 by decide) (show port < 16384 by omega)
  have ty := idType_oid 13 (show 2 < 1024 by decide) (show port < 16384 by omega)
  have own : sharedObject (oid 13 2 port) = false := by
    unfold sharedObject
    rw [sub, ty]
    rfl
  have ok : ((s.entered h 0x11 e).writeCheck h.session (oid 13 2 port) 0 (leBytes 8 windowUs)).code = 0 := by
    unfold State.writeCheck
    dsimp only
    rw [if_neg (by simp [objExists_window port isPort]), if_pos ⟨sub, ty⟩]
    exact bwCheck_accepts positive fits
  refine ⟨_, (bounded_eq_next (decide_eq_true isPort)).trans (congrArg _ (State.wordWrite_own own acc ok)), _, rfl, ?_⟩
  unfold State.writeApply
  dsimp only
  rw [sub, ty, idInst_oid 13 2 (by omega), if_pos ⟨rfl, rfl⟩, (bwWindow_fields fits).1,
    same_of_touch (g := .telem) (State.when_touch (.refl _ _) fun _ t => State.updBoot_touch (by decide) t)]
  unfold State.bwWritten
  rw [State.updTelem_telem]
  dsimp only
  rw [tget_tmod_same]
  exact ⟨rfl, rfl, rfl, rfl⟩

theorem execBwWindowEnd_counts {port : Nat} {s : State} (isPort : port < 16) (begun : (tget {} s.telem.bw port).discard = false)
    (up : (s.port port).linkUp = true) : ∃ t, execBwWindowEnd port s = .next t ∧
      (tget {} t.telem.bw port).rxBytes = (tget {} s.telem.bw port).rxNow ∧ (tget {} t.telem.bw port).txBytes = (tget {} s.telem.bw port).txNow ∧
      (tget {} t.telem.bw port).rxNow = 0 ∧ (tget {} t.telem.bw port).txNow = 0 := by
  refine ⟨_, bounded_eq_next (decide_eq_true isPort), ?_⟩
  rw [State.updTelem_telem]
  dsimp only
  rw [tget_tmod_same, if_neg (ne_true_of_eq_false begun), if_pos up, if_pos up]
  exact ⟨rfl, rfl, rfl, rfl⟩

/-- Settles O56. Each clause is the lemma of its command. That a slot in the off period of CYCLE shows WAITING (log 52) is the model's own choice. -/
theorem completesActionsB : Obligations.CompletesActionsB :=
  ⟨fun _ _ _ _ => execClearRetry_clears, fun _ _ _ _ => execCycle_cycles, fun _ _ _ _ => execEstoreCfgWrite_writes,
    fun _ _ _ => execFreeze_freezes, fun _ _ _ => execLocalPortRelease_releases, fun _ _ _ _ _ => execBwWindowWrite_begins,
    fun _ _ => execBwWindowEnd_counts⟩

end Sys2Proof.Machine

namespace Sys2Proof.Machine

/-! ## A full overlap table (O42)

The table of R186 has 262,144 entries. HANDOVER enters the read entries that the old owner hands over (R180), and where no entry is free they are
dropped: the table does not grow by the number of reads handed over. -/

theorem tfreeFrom_eq_none {α : Type} {t : Tbl α} {lo n : Nat} (full : ∀ k, lo ≤ k → k < lo + n → thas t k = true) : tfreeFrom t lo n = none := by
  induction n generalizing lo with
  | zero => rfl
  | succ n ih =>
    rw [tfreeFrom, if_pos (full lo (Nat.le_refl lo) (by omega))]
    exact ih fun k from' below => full k (by omega) (by omega)

/-- Every entry of the overlap table is in use. -/
structure State.OvlFull (s : State) : Prop where
  /-- there are as many entries as the table has -/
  count : 262144 ≤ s.cons.ovl.length
  /-- and each number is in use -/
  used : ∀ k < 262144, thas s.cons.ovl k = true

/-- R186: an entry that finds the table full is not entered. -/
theorem State.addOvl_full {s : State} (full : s.OvlFull) (e : OvlEntry) : s.addOvl e = s := by
  have none : tfreeFrom s.cons.ovl 0 (min 262144 (s.cons.ovl.length + 1)) = none :=
    tfreeFrom_eq_none fun k _ below => full.used k (by omega)
  unfold State.addOvl
  rw [none]

/-- R180, R186: a lease handover to a controller whose overlap table is full leaves the table as it is. -/
theorem execHandover_full {v : HandoverMsg} {s : State} (paired : s.paired = true) (up : s.settUp = true) (lease : v.isLease = true)
    (full : s.OvlFull) : ∃ t, execHandover v s = .next t ∧ t.cons.ovl = s.cons.ovl := by
  unfold execHandover
  rw [State.messageIn_applied paired up, if_pos lease]
  refine ⟨_, rfl, ?_⟩
  dsimp only
  refine List.foldlRecOn (motive := fun u : State => u.cons.ovl = s.cons.ovl) _ _ rfl fun u kept r _ => ?_
  have still : u.OvlFull := ⟨by rw [kept]; exact full.count, by rw [kept]; exact full.used⟩
  rw [State.addOvl_full still, kept]

theorem tfind_map_const {α : Type} (v : α) {l : List Nat} {k : Nat} (listed : k ∈ l) : tfind (l.map fun i => (i, v)) k = some v := by
  induction l with
  | nil => cases listed
  | cons i l ih =>
    by_cases here : k = i
    · exact if_pos here
    · exact (if_neg here).trans (ih ((List.mem_cons.mp listed).resolve_left here))

/-- A controller in M3 with a bundle up, whose overlap table has `n` entries, under the numbers below `n`. -/
def crowdedOverlap (n : Nat) : State :=
  { State.reset with
    modes := { mode := .m3 }
    pair := { settA := true }
    cons := { ovl := (List.range n).map fun k => (k, {}) } }

theorem crowdedOverlap_length (n : Nat) : (crowdedOverlap n).cons.ovl.length = n := (List.length_map _).trans List.length_range

theorem crowdedOverlap_paired (n : Nat) : (crowdedOverlap n).paired = true := rfl

theorem crowdedOverlap_settUp (n : Nat) : (crowdedOverlap n).settUp = true := rfl

theorem crowdedOverlap_full {n : Nat} (all : 262144 ≤ n) : (crowdedOverlap n).OvlFull :=
  ⟨all.trans_eq (crowdedOverlap_length n).symm,
    fun _ below => congrArg Option.isSome (tfind_map_const _ (List.mem_range.mpr (Nat.lt_of_lt_of_le below all)))⟩

/-- The hand-over of one read entry finds no room where all 262,144 entries are in use. -/
theorem crowdedOverlap_handover {n : Nat} (all : 262144 ≤ n) :
    ∃ t, execHandover { reads := [(0, 0, 0, 1)] } (crowdedOverlap n) = .next t ∧ t.cons.ovl.length = n := by
  obtain ⟨t, next, kept⟩ := execHandover_full (v := { reads := [(0, 0, 0, 1)] }) (crowdedOverlap_paired n) (crowdedOverlap_settUp n) rfl
    (crowdedOverlap_full all)
  exact ⟨t, next, by rw [kept, crowdedOverlap_length]⟩

/-- Refutes O42: a lease handover with one read entry, where the overlap table is full. -/
theorem not_completesPairA : ¬ Obligations.CompletesPairA := by
  intro ⟨handover, _⟩
  obtain ⟨t, runs, -, grows⟩ := handover { reads := [(0, 0, 0, 1)] } (crowdedOverlap 262144) (crowdedOverlap_paired _) (crowdedOverlap_settUp _) rfl
  obtain ⟨u, next, kept⟩ := crowdedOverlap_handover (Nat.le_refl 262144)
  have same : u = t := Host.Outcome.next.inj (next.symm.trans runs)
  rw [← same, kept, crowdedOverlap_length] at grows
  exact absurd grows (by decide)

end Sys2Proof.Machine

namespace Sys2Proof.Machine

/-! ## Shadows, unpairing, retirement, the override and the link (O44) -/

/-! ### Shadows (R375, R379) -/

theorem execStampUpdate_stamps {slot : Nat} {stamp : BitVec 64} {send : SendRec} {s : State} (inRange : slot < 262144)
    (mirrors : s.mirrorsIn = true) (up : s.settUp = true) : ∃ t, execStampUpdate slot stamp send s = .next t ∧
      t.pair.cmds = tadj slot (fun x => { x with stamp := stamp, state := 4, send := x.send ++ [send] }) s.pair.cmds := by
  unfold execStampUpdate
  rw [bounded_eq_next (decide_eq_true inRange), State.mirrorIn_applied mirrors up]
  exact ⟨_, rfl, rfl⟩

theorem execSendRecord_records {slot : Nat} {send : SendRec} {s : State} (inRange : slot < 262144) (mirrors : s.mirrorsIn = true)
    (up : s.settUp = true) : ∃ t, execSendRecord slot send s = .next t ∧
      t.pair.cmds = tadj slot (fun x => { x with send := x.send ++ [send] }) s.pair.cmds := by
  unfold execSendRecord
  rw [bounded_eq_next (decide_eq_true inRange), State.mirrorIn_applied mirrors up]
  exact ⟨_, rfl, rfl⟩

theorem execCommandEnd_ends {slot : Nat} {r : Replay} {s : State} (inRange : slot < 262144) (mirrors : s.mirrorsIn = true) (up : s.settUp = true)
    (noRead : readKind r.opcode = false) : ∃ t, execCommandEnd slot r s = .next t ∧ t.pair.cmds = tdel s.pair.cmds slot ∧
      t.cons.stampRecs = tdel s.cons.stampRecs slot ∧ t.pair.replays.length = s.pair.replays.length + r.isOpen.toNat := by
  unfold execCommandEnd
  rw [bounded_eq_next (decide_eq_true inRange), State.mirrorIn_applied mirrors up]
  dsimp only
  rw [if_neg (by simp [noRead])]
  refine ⟨_, rfl, rfl, rfl, ?_⟩
  show (if r.isOpen = true then s.pair.replays ++ [_] else s.pair.replays).length = _
  cases r.isOpen <;> simp

theorem execFabricControllerShadow_keeps {cntlid : Nat} {fab : FabCtrl} {s : State} (inRange : cntlid < 32769) (mirrors : s.mirrorsIn = true)
    (up : s.settUp = true) (live : fab.live = true) :
    ∃ t, execFabricControllerShadow cntlid fab s = .next t ∧ t.pair.fabs = tput s.pair.fabs cntlid fab := by
  unfold execFabricControllerShadow
  rw [bounded_eq_next (decide_eq_true inRange), State.mirrorIn_applied mirrors up]
  exact ⟨_, rfl, if_pos live⟩

theorem execPushShadow_keeps {index count size : Nat} {s : State} (inRange : index < 2097152) (mirrors : s.mirrorsIn = true)
    (up : s.settUp = true) : ∃ t, execPushShadow index count size s = .next t ∧
      t.pair.conns = tadj index (fun x => { x with pushCount := count, pushSize := size }) s.pair.conns := by
  unfold execPushShadow
  rw [bounded_eq_next (decide_eq_true inRange), State.mirrorIn_applied mirrors up]
  exact ⟨_, rfl, rfl⟩

/-! ### Unpairing and retirement (R394) -/

/-- R394: the controller that leaves the pair enters M1, and its PAIR_STATE is 0. -/
theorem State.leavePair_leaves (s : State) :
    s.leavePair.modes.mode = .m1 ∧ s.leavePair.modes.lastCause = 0x13 ∧ s.leavePair.pair.state = 0 := by
  unfold State.leavePair
  dsimp only
  rw [State.enterMode_modes, same_of_touch (g := .pair) (State.enterMode_touch (by decide) (.refl _ _))]
  exact ⟨rfl, rfl, rfl⟩

theorem State.self_lt (s : State) : s.self < 2 := by
  unfold State.self
  split <;> decide

theorem State.entered_self (s : State) (h : CcpHdr) (op : Nat) (e : Session) : (s.entered h op e).self = s.self := by
  have den : (s.entered h op e).den = s.den := same_of_touch (g := .den) (s.entered_touch h op e (by decide))
  unfold State.self
  rw [den]

theorem execUnpair_leaves {h : CcpHdr} {e : Session} {leaving : Nat} {s : State} (acc : s.accepts h 0x48 (some 15) e = true)
    (paired : (s.entered h 0x48 e).paired = true) (up : (s.entered h 0x48 e).settUp = true) (own : leaving = s.self) :
    ∃ t, execUnpair h leaving s = .next t ∧ t.modes.mode = .m1 ∧ t.modes.lastCause = 0x13 ∧ t.pair.state = 0 := by
  have known : leaving < 2 := own ▸ s.self_lt
  have both : ¬ (s.entered h 0x48 e).paired = false := by simp [paired]
  have leaves : leaving = (s.entered h 0x48 e).self := own.trans (s.entered_self h 0x48 e).symm
  unfold execUnpair
  rw [State.ccpSimple_of_accepts _ acc]
  dsimp only
  rw [if_neg (Nat.not_le.mpr known), if_neg both, if_neg (ne_true_of_eq_false (State.applied_of_accepts acc)), if_neg (by simp [up]),
    if_neg (not_not_intro rfl), if_pos leaves]
  exact ⟨_, rfl, State.leavePair_leaves _⟩

/-- R491: entry into a mode closes no session. -/
theorem State.enterMode_sessionOpen (n : Nat) (m : Mode) (cause : Nat) (s : State) : (s.enterMode m cause).sessionOpen n = s.sessionOpen n := by
  unfold State.enterMode
  dsimp only
  rw [State.raise_sessionOpen, State.recomputeLimit_sessionOpen]
  exact State.sessionOpen_of_touch (State.serviceOpens_touch (by decide) (State.updSpine_touch (by decide) (State.updModes_touch (by decide) (.refl _ _)))) n

theorem execRetirePartner_retires {h : CcpHdr} {e : Session} {s : State} (acc : s.accepts h 0x49 (some 15) e = true) (alone : s.modes.mode = .m4)
    (known : s.pair.lost = false) :
    ∃ t, execRetirePartner h s = .next t ∧ t.modes.mode = .m2 ∧ t.modes.lastCause = 0x14 ∧ t.answered h 0 := by
  have lost : (s.entered h 0x49 e).pair.lost = false := by
    rw [same_of_touch (g := .pair) (s.entered_touch h 0x49 e (by decide)), known]
  unfold execRetirePartner
  rw [State.ccpSimple_of_accepts _ acc]
  dsimp only
  rw [if_neg (by simp [alone]), if_neg (by simp [lost])]
  refine ⟨_, rfl, ?_⟩
  rw [same_of_touch (g := .modes) (State.ccpReply_touch (by decide) (.refl _ _)), State.enterMode_modes]
  refine ⟨rfl, rfl, State.answered_of_open acc ?_ 0 []⟩
  rw [State.enterMode_sessionOpen]
  refine State.sessionOpen_of_touch (State.updPair_touch (by decide) (State.abandonPairing_touch (by decide) (foldl_touch ?_ ?_))) h.session
  · exact State.writeQuorum_touch (by decide) (.refl _ _)
  · exact fun _ _ t => State.dirHeader_touch (by decide) t

/-! ### The override (R399) -/

theorem execQuorumOverride_notes {h : CcpHdr} {e : Session} {force : Bool} {blocks : List QuorumRead} {s : State}
    (acc : s.accepts h 0x11 (some 15) e = true) (idle : s.modes.mode ≠ .m1 ∨ s.pair.state ≠ 5) :
    ∃ t, execQuorumOverride h force blocks s = .next t ∧ t.boot.overridden = (s.boot.overridden || force) ∧ t.answered h 0 := by
  have pair : (s.entered h 0x11 e).pair = s.pair := same_of_touch (g := .pair) (s.entered_touch h 0x11 e (by decide))
  unfold execQuorumOverride
  rw [State.ccpSimple_of_accepts _ acc]
  dsimp only
  rw [if_neg (by rw [State.entered_mode, pair]; exact fun waits => idle.elim (· waits.2.1) (· waits.2.2))]
  refine ⟨_, rfl, ?_, State.answered_of_entered acc (u := (s.entered h 0x11 e).updBoot fun b => { b with overridden := b.overridden || force }) rfl 0 []⟩
  rw [same_of_touch (g := .boot) (State.ccpReply_touch (by decide) (.refl _ _)), State.updBoot_boot, State.entered_boot]

/-! ### The Sett link (R365) -/

/-- Which bundles are up. -/
def State.bundles (s : State) : Bool × Bool := (s.pair.settA, s.pair.settB)

@[simp] theorem State.settSend_bundles (kind : Nat) (args : List Nat) (data : Bytes) (s : State) :
    (s.settSend kind args data).bundles = s.bundles := by
  obtain ⟨classes, pair⟩ := s.settSend_pair kind args data
  simp only [State.bundles, pair]

@[simp] theorem State.raise_bundles (code n data : Nat) (s : State) : (s.raise code n data).bundles = s.bundles :=
  congrArg (fun p : Pair => (p.settA, p.settB)) (same_of_touch (g := .pair) (State.raise_touch (by decide) (.refl _ _)))

@[simp] theorem State.abandonPairing_bundles (s : State) : s.abandonPairing.bundles = s.bundles := by
  unfold State.abandonPairing
  split
  · rfl
  · dsimp only
    by_cases serves : s.pair.serving = true
    · rw [if_pos serves]
      rfl
    · rw [if_neg serves]
      rfl

@[simp] theorem State.refusePair_bundles (status : Nat) (s : State) : (s.refusePair status).bundles = s.bundles := by
  simp [State.refusePair]

/-- R371: the checks of a pairing leave the bundles alone. -/
theorem State.pairGo_bundles (s : State) : s.pairGo.bundles = s.bundles := by
  unfold State.pairGo
  split
  · rfl
  · split
    · rfl
    · dsimp only
      split
      · simp
      · split
        · simp
        · split
          · simp
          · rw [State.settSend_bundles, State.when]
            split <;> rfl

theorem State.startPairing_bundles (s : State) : s.startPairing.bundles = s.bundles := by
  unfold State.startPairing
  split
  · dsimp only
    rw [State.pairGo_bundles, State.settSend_bundles]
    rfl
  · rfl

theorem State.bundleUp_congr {s t : State} (bundles : t.bundles = s.bundles) (b : Nat) : t.bundleUp b = s.bundleUp b := by
  obtain ⟨a, b'⟩ := Prod.mk.inj bundles
  unfold State.bundleUp
  rw [a, b']

theorem execSettLinkUp_raises {bundle : Nat} {s : State} (isBundle : bundle < 2) (awake : s.modes.mode ≠ .m0) (down : s.bundleUp bundle = false) :
    ∃ t, execSettLinkUp bundle s = .next t ∧ t.bundleUp bundle = true := by
  unfold execSettLinkUp
  rw [bounded_eq_next (decide_eq_true isBundle), if_neg (by simp [awake, down])]
  refine ⟨_, rfl, ?_⟩
  dsimp only
  rw [State.bundleUp_congr (State.startPairing_bundles _)]
  unfold State.bundleUp
  by_cases isA : bundle = 0
  · simp [isA, State.wakeIdle]
  · simp [isA, State.wakeIdle]

/-- Settles O44. Each clause is the lemma of its command. That QUORUM_OVERRIDE outside M1 is answered 0 (log 60), and PAIR_STATE 0 after unpairing
(log 65), are the model's own choice. -/
theorem completesPairC : Obligations.CompletesPairC :=
  ⟨fun _ _ _ _ => execStampUpdate_stamps, fun _ _ _ => execSendRecord_records, fun _ _ _ => execCommandEnd_ends,
    fun _ _ _ => execFabricControllerShadow_keeps, fun _ _ _ _ => execPushShadow_keeps, fun _ _ _ _ => execUnpair_leaves,
    fun _ _ _ => execRetirePartner_retires, fun _ _ _ _ _ => execQuorumOverride_notes, fun _ _ => execSettLinkUp_raises⟩

end Sys2Proof.Machine

namespace Sys2Proof.Machine

/-! ## Which slots hold admin commands (O45, O46)

The end of a command's work goes on with the commands that can go on: `settle`. An admin command's slot waits for nothing there (R149), so that where every
slot holds one, `settle` only drops the read entries of closed replays (R193). Whether a slot holds an admin command is set when the command is taken in, and
no work on a command changes it. -/

/-- Which slots are in use, and which of them hold admin commands. -/
def State.slotAdmins (s : State) : Nat → Option Bool := fun n => (tfind s.cmds.slots n).map Slot.admin

theorem State.slotAdmins_of_touch {s t : State} (h : Touch (allBut .cmds) s t) : t.slotAdmins = s.slotAdmins :=
  congrArg (fun m : Cmds => fun n : Nat => (tfind m.slots n).map Slot.admin) (same_of_touch (g := .cmds) h)

theorem State.updSlot_slotAdmins {f : Slot → Slot} (keeps : ∀ p, (f p).admin = p.admin) (n : Nat) (s : State) :
    (s.updSlot n f).slotAdmins = s.slotAdmins :=
  funext fun j => tfind_tadj_keeps keeps s.cmds.slots n j

@[simp] theorem State.slotAdmins_ite {c : Prop} [Decidable c] (a b : State) :
    (if c then a else b).slotAdmins = if c then a.slotAdmins else b.slotAdmins :=
  apply_ite State.slotAdmins c a b

@[simp] theorem State.slotAdmins_when {f : State → State} (keeps : ∀ t, (f t).slotAdmins = t.slotAdmins) (b : Bool) (s : State) :
    (s.when b f).slotAdmins = s.slotAdmins := by
  cases b
  · rfl
  · exact keeps s

@[simp] theorem State.slotAdmins_foldl {α : Type} {f : State → α → State} (keeps : ∀ t x, (f t x).slotAdmins = t.slotAdmins) (l : List α)
    (s : State) : (l.foldl f s).slotAdmins = s.slotAdmins := by
  induction l generalizing s with
  | nil => rfl
  | cons x l ih => exact (ih _).trans (keeps s x)

/-! ### What does not touch the command slots -/

@[simp] theorem State.adminData_slotAdmins (q : AdminCmd) (report : List Nat) (data : Bytes) (s : State) :
    (s.adminData q report data).slotAdmins = s.slotAdmins :=
  State.slotAdmins_of_touch (State.adminData_touch (by decide) (.refl _ _))

@[simp] theorem State.askKey_slotAdmins (h g : Nat) (s : State) : (s.askKey h g).slotAdmins = s.slotAdmins :=
  State.slotAdmins_of_touch (State.askKey_touch (by decide) (.refl _ _))

@[simp] theorem State.bump_slotAdmins (c : Nat × Nat) (i : Nat) (s : State) : (s.bump c i).slotAdmins = s.slotAdmins :=
  State.slotAdmins_of_touch (State.bump_touch (by decide) (.refl _ _))

@[simp] theorem State.countCheck_slotAdmins (h blk : Nat) (r : ReadRes) (b : Bytes) (s : State) :
    (s.countCheck h blk r b).slotAdmins = s.slotAdmins :=
  State.slotAdmins_of_touch (State.countCheck_touch (by decide) (.refl _ _))

@[simp] theorem State.countDone_slotAdmins (n : Nat) (s : State) : (s.countDone n).slotAdmins = s.slotAdmins :=
  State.slotAdmins_of_touch (State.countDone_touch (by decide) (.refl _ _))

@[simp] theorem State.countPi_slotAdmins (h st : Nat) (out : Bool) (s : State) :
    (s.countPi h st out).slotAdmins = s.slotAdmins :=
  State.slotAdmins_of_touch (State.countPi_touch (by decide) (.refl _ _))

@[simp] theorem State.countWait_slotAdmins (kind h waits : Nat) (s : State) :
    (s.countWait kind h waits).slotAdmins = s.slotAdmins :=
  State.slotAdmins_of_touch (State.countWait_touch (by decide) (.refl _ _))

@[simp] theorem State.dropReads_slotAdmins (h : Nat) (stamp : BitVec 64) (s : State) :
    (s.dropReads h stamp).slotAdmins = s.slotAdmins :=
  State.slotAdmins_of_touch (State.dropReads_touch (by decide) (.refl _ _))

@[simp] theorem State.enterPart_slotAdmins (kind slot holder h : Nat) (stamp : BitVec 64) (first n : Nat) (partials : List Nat) (crossing : Bool)
    (s : State) : (s.enterPart kind slot holder h stamp first n partials crossing).2.slotAdmins = s.slotAdmins :=
  State.slotAdmins_of_touch (State.enterPart_touch (by decide) (.refl _ _))

@[simp] theorem State.flushPlans_slotAdmins (i : Nat) (s : State) : (s.flushPlans i).slotAdmins = s.slotAdmins :=
  State.slotAdmins_of_touch (State.flushPlans_touch (by decide) (.refl _ _))

@[simp] theorem State.foldWrite_slotAdmins (k : Nat) (e : OvlEntry) (s : State) :
    (s.foldWrite k e).slotAdmins = s.slotAdmins :=
  State.slotAdmins_of_touch (State.foldWrite_touch (by decide) (.refl _ _))

@[simp] theorem State.issueStamp_slotAdmins (rec h : Nat) (s : State) : (s.issueStamp rec h).2.slotAdmins = s.slotAdmins :=
  State.slotAdmins_of_touch (State.issueStamp_touch (by decide) (.refl _ _))

@[simp] theorem State.lpPost_slotAdmins (qid cid status dw0 : Nat) (s : State) :
    (s.lpPost qid cid status dw0).slotAdmins = s.slotAdmins :=
  State.slotAdmins_of_touch (State.lpPost_touch (by decide) (.refl _ _))

@[simp] theorem State.pinReads_slotAdmins (h : Nat) (stamp : BitVec 64) (s : State) :
    (s.pinReads h stamp).slotAdmins = s.slotAdmins :=
  State.slotAdmins_of_touch (State.pinReads_touch (by decide) (.refl _ _))

@[simp] theorem State.plan_slotAdmins (i slot planKind : Nat) (sizes : List Nat) (s : State) :
    (s.plan i slot planKind sizes).slotAdmins = s.slotAdmins :=
  State.slotAdmins_of_touch (State.plan_touch (by decide) (.refl _ _))

@[simp] theorem State.pruneReads_slotAdmins (s : State) : s.pruneReads.slotAdmins = s.slotAdmins :=
  State.slotAdmins_of_touch (State.pruneReads_touch (by decide) (.refl _ _))

@[simp] theorem State.readPos_slotAdmins (n blk owner pool stripe pos b : Nat) (s : State) :
    (s.readPos n blk owner pool stripe pos b).slotAdmins = s.slotAdmins :=
  State.slotAdmins_of_touch (State.readPos_touch (by decide) (.refl _ _))

@[simp] theorem State.reserveUpper_slotAdmins (rec : Nat) (r : StampReq) (s : State) :
    (s.reserveUpper rec r).slotAdmins = s.slotAdmins :=
  State.slotAdmins_of_touch (State.reserveUpper_touch (by decide) (.refl _ _))

@[simp] theorem State.respond_slotAdmins (i slot : Nat) (o : Out) (s : State) :
    (s.respond i slot o).slotAdmins = s.slotAdmins :=
  State.slotAdmins_of_touch (State.respond_touch (by decide) (.refl _ _))

@[simp] theorem State.revokeOf_slotAdmins (n : Nat) (s : State) : (s.revokeOf n).slotAdmins = s.slotAdmins :=
  State.slotAdmins_of_touch (State.revokeOf_touch (by decide) (.refl _ _))

@[simp] theorem State.sendMirror_slotAdmins (n : Nat) (s : State) : (s.sendMirror n).slotAdmins = s.slotAdmins :=
  State.slotAdmins_of_touch (State.sendMirror_touch (by decide) (.refl _ _))

@[simp] theorem State.sendMsg_slotAdmins (i payload : Nat) (o : Out) (s : State) :
    (s.sendMsg i payload o).slotAdmins = s.slotAdmins :=
  State.slotAdmins_of_touch (State.sendMsg_touch (by decide) (.refl _ _))

@[simp] theorem State.sendStampUpdate_slotAdmins (n : Nat) (s : State) : (s.sendStampUpdate n).slotAdmins = s.slotAdmins :=
  State.slotAdmins_of_touch (State.sendStampUpdate_touch (by decide) (.refl _ _))

@[simp] theorem State.settSend_slotAdmins (kind : Nat) (args : List Nat) (data : Bytes) (s : State) :
    (s.settSend kind args data).slotAdmins = s.slotAdmins :=
  State.slotAdmins_of_touch (State.settSend_touch (by decide) (.refl _ _))

@[simp] theorem State.stage_slotAdmins (n k : Nat) (s : State) : (s.stage n k).slotAdmins = s.slotAdmins :=
  State.slotAdmins_of_touch (State.stage_touch (by decide) (.refl _ _))

@[simp] theorem State.takeCtr_slotAdmins (h : Nat) (s : State) : (s.takeCtr h).2.slotAdmins = s.slotAdmins :=
  State.slotAdmins_of_touch (State.takeCtr_touch (by decide) (.refl _ _))

@[simp] theorem State.takeLock_slotAdmins (n stripe who : Nat) (s : State) :
    (s.takeLock n stripe who).2.slotAdmins = s.slotAdmins :=
  State.slotAdmins_of_touch (State.takeLock_touch (by decide) (.refl _ _))

@[simp] theorem State.touchKey_slotAdmins (h g : Nat) (s : State) : (s.touchKey h g).slotAdmins = s.slotAdmins :=
  State.slotAdmins_of_touch (State.touchKey_touch (by decide) (.refl _ _))

@[simp] theorem State.unqueue_slotAdmins (n : Nat) (s : State) : (s.unqueue n).slotAdmins = s.slotAdmins :=
  State.slotAdmins_of_touch (State.unqueue_touch (by decide) (.refl _ _))

@[simp] theorem State.updCipher_slotAdmins (f : Cipher → Cipher) (s : State) :
    (s.updCipher f).slotAdmins = s.slotAdmins :=
  State.slotAdmins_of_touch (State.updCipher_touch (by decide) (.refl _ _))

@[simp] theorem State.updCons_slotAdmins (f : Cons → Cons) (s : State) : (s.updCons f).slotAdmins = s.slotAdmins :=
  State.slotAdmins_of_touch (State.updCons_touch (by decide) (.refl _ _))

@[simp] theorem State.updCtx_slotAdmins (i : Nat) (f : Ctx → Ctx) (s : State) :
    (s.updCtx i f).slotAdmins = s.slotAdmins :=
  State.slotAdmins_of_touch (State.updCtx_touch (by decide) (.refl _ _))

@[simp] theorem State.updExtent_slotAdmins (rec : Nat) (f : Extent → Extent) (s : State) :
    (s.updExtent rec f).slotAdmins = s.slotAdmins :=
  State.slotAdmins_of_touch (State.updExtent_touch (by decide) (.refl _ _))

@[simp] theorem State.updLayout_slotAdmins (f : Layout → Layout) (s : State) :
    (s.updLayout f).slotAdmins = s.slotAdmins :=
  State.slotAdmins_of_touch (State.updLayout_touch (by decide) (.refl _ _))

@[simp] theorem State.updPlan_slotAdmins (i slot : Nat) (f : SendPlan → SendPlan) (s : State) :
    (s.updPlan i slot f).slotAdmins = s.slotAdmins :=
  State.slotAdmins_of_touch (State.updPlan_touch (by decide) (.refl _ _))

@[simp] theorem State.updTelem_slotAdmins (f : Telem → Telem) (s : State) : (s.updTelem f).slotAdmins = s.slotAdmins :=
  State.slotAdmins_of_touch (State.updTelem_touch (by decide) (.refl _ _))


/-! ### What changes a command slot -/

@[simp] theorem State.updRead_slotAdmins (n blk : Nat) (f : BlkRead → BlkRead) (s : State) : (s.updRead n blk f).slotAdmins = s.slotAdmins :=
  State.updSlot_slotAdmins (f := fun p => { p with reads := p.reads.map fun r => if r.blk = blk then f r else r }) (fun _ => rfl) n s

@[simp] theorem State.blkDone_slotAdmins (n blk : Nat) (plain : Bytes) (s : State) : (s.blkDone n blk plain).slotAdmins = s.slotAdmins :=
  State.updRead_slotAdmins n blk _ s

@[simp] theorem State.askHost_slotAdmins (n : Nat) (s : State) : (s.askHost n).slotAdmins = s.slotAdmins := by
  unfold State.askHost
  dsimp only
  split
  · rfl
  · split
    · split <;> simp [State.updSlot_slotAdmins]
    · simp [State.updSlot_slotAdmins]

@[simp] theorem State.postNow_slotAdmins (n : Nat) (s : State) : (s.postNow n).slotAdmins = s.slotAdmins := by
  unfold State.postNow
  dsimp only
  split
  · simp [State.updSlot_slotAdmins]
  · split
    · simp [State.updSlot_slotAdmins]
    · split <;> simp [State.updSlot_slotAdmins]

@[simp] theorem State.postCompletion_slotAdmins (n : Nat) (s : State) : (s.postCompletion n).slotAdmins = s.slotAdmins := by
  unfold State.postCompletion
  split <;> simp

@[simp] theorem State.chainAction_slotAdmins (n action : Nat) (s : State) : (s.chainAction n action).slotAdmins = s.slotAdmins := by
  simp [State.chainAction]

@[simp] theorem State.fireChain_slotAdmins (n t : Nat) (cs : Tbl Chain) (s : State) : (s.fireChain n t cs).slotAdmins = s.slotAdmins := by
  simp [State.fireChain, State.updSlot_slotAdmins]

@[simp] theorem State.evalChains_slotAdmins (n : Nat) (s : State) : (s.evalChains n).slotAdmins = s.slotAdmins := by
  simp [State.evalChains]

@[simp] theorem State.trigger_slotAdmins (n kind : Nat) (s : State) : (s.trigger n kind).slotAdmins = s.slotAdmins := by
  simp [State.trigger, State.updSlot_slotAdmins]

@[simp] theorem State.failCmd_slotAdmins (n status : Nat) (s : State) : (s.failCmd n status).slotAdmins = s.slotAdmins := by
  simp [State.failCmd, State.updSlot_slotAdmins]

@[simp] theorem State.sendStampRecord_slotAdmins (n : Nat) (s : State) : (s.sendStampRecord n).slotAdmins = s.slotAdmins := by
  unfold State.sendStampRecord
  dsimp only
  split
  · simp [State.updSlot_slotAdmins]
  · split <;> simp [State.updSlot_slotAdmins]

@[simp] theorem State.giveStamp_slotAdmins (n : Nat) (stamp : BitVec 64) (owner waits : Nat) (s : State) :
    (s.giveStamp n stamp owner waits).slotAdmins = s.slotAdmins := by
  simp [State.giveStamp, State.updSlot_slotAdmins]

@[simp] theorem State.goCheck_slotAdmins (n : Nat) (s : State) : (s.goCheck n).slotAdmins = s.slotAdmins := by
  simp [State.goCheck, State.updSlot_slotAdmins]

@[simp] theorem State.sendGo_slotAdmins (slot holder part : Nat) (s : State) : (s.sendGo slot holder part).slotAdmins = s.slotAdmins := by
  simp [State.sendGo, State.updSlot_slotAdmins]

@[simp] theorem State.tellStamp_slotAdmins (slot holder : Nat) (stamp : BitVec 64) (waits part blocks : Nat) (s : State) :
    (s.tellStamp slot holder stamp waits part blocks).slotAdmins = s.slotAdmins := by
  simp [State.tellStamp]

/-! ### The admission of what was held, and the end of a command -/

@[simp] theorem State.admitOne_slotAdmins (rec : Nat) (r : StampReq) (first n : Nat) (partials : List Nat) (s : State) :
    (s.admitOne rec r first n partials).slotAdmins = s.slotAdmins := by
  simp [State.admitOne]

@[simp] theorem State.admitBoth_slotAdmins (lo up : Nat) (r : StampReq) (s : State) : (s.admitBoth lo up r).slotAdmins = s.slotAdmins := by
  unfold State.admitBoth
  dsimp only
  rw [State.tellStamp_slotAdmins, State.bump_slotAdmins, State.countWait_slotAdmins]
  refine List.foldlRecOn (motive := fun b : Nat × State => b.2.slotAdmins = s.slotAdmins) _ _ (by simp) fun b kept p _ => ?_
  simpa using kept

theorem State.admitReq_slotAdmins {rec : Nat} {r : StampReq} {s t : State} (admitted : s.admitReq rec r = some t) : t.slotAdmins = s.slotAdmins := by
  unfold State.admitReq at admitted
  dsimp only at admitted
  split at admitted
  · cases admitted
  · split at admitted
    · cases admitted
      simp
    · split at admitted
      · split at admitted
        · split at admitted
          · cases admitted
          · cases admitted
            simp
        · cases admitted
          simp
      · cases admitted
        simp

@[simp] theorem State.drainHeld_slotAdmins (rec k : Nat) (s : State) : (State.drainHeld rec k s).slotAdmins = s.slotAdmins := by
  induction k generalizing s with
  | zero => rfl
  | succ k ih =>
    unfold State.drainHeld
    split
    · rfl
    · split
      next admitted => simp [ih, State.admitReq_slotAdmins admitted]
      · rfl

@[simp] theorem State.drainAll_slotAdmins (s : State) : s.drainAll.slotAdmins = s.slotAdmins := by
  simp [State.drainAll]

@[simp] theorem State.placedOvl_slotAdmins (slot holder : Nat) (stamp : BitVec 64) (retired : Bool) (s : State) :
    (s.placedOvl slot holder stamp retired).slotAdmins = s.slotAdmins := by
  simp [State.placedOvl]

@[simp] theorem State.retire_slotAdmins (n : Nat) (s : State) : (s.retire n).slotAdmins = s.slotAdmins := by
  simp [State.retire]

@[simp] theorem State.endErr_slotAdmins (n status : Nat) (s : State) : (s.endErr n status).slotAdmins = s.slotAdmins := by
  simp [State.endErr, State.updSlot_slotAdmins]

@[simp] theorem State.blkFailed_slotAdmins (n : Nat) (s : State) : (s.blkFailed n).slotAdmins = s.slotAdmins := by
  simp [State.blkFailed]

/-! ### The work on a read or write that goes on -/

@[simp] theorem State.reconstruct_slotAdmins (n blk : Nat) (s : State) : (s.reconstruct n blk).slotAdmins = s.slotAdmins := by
  unfold State.reconstruct
  dsimp only
  split
  · simp
  · split
    · simp
    · split <;> simp

@[simp] theorem State.versionIn_slotAdmins (n blk : Nat) (v : Version) (s : State) : (s.versionIn n blk v).slotAdmins = s.slotAdmins := by
  unfold State.versionIn
  dsimp only
  split
  · simp
  · split <;> simp

@[simp] theorem State.readBlk_slotAdmins (n blk owner : Nat) (s : State) : (s.readBlk n blk owner).slotAdmins = s.slotAdmins := by
  unfold State.readBlk
  dsimp only
  split
  · rfl
  · split
    · simp
    · split
      · simp
      · split <;> simp

@[simp] theorem State.beginRead_slotAdmins (n : Nat) (s : State) : (s.beginRead n).slotAdmins = s.slotAdmins := by
  simp [State.beginRead, State.updSlot_slotAdmins]

@[simp] theorem State.reserve_slotAdmins (n : Nat) (s : State) : (s.reserve n).slotAdmins = s.slotAdmins := by
  simp [State.reserve, State.updSlot_slotAdmins]

@[simp] theorem State.beginWrite_slotAdmins (n : Nat) (s : State) : (s.beginWrite n).slotAdmins = s.slotAdmins := by
  simp [State.beginWrite, State.updSlot_slotAdmins]

@[simp] theorem State.sendReadData_slotAdmins (n : Nat) (bytes : Bytes) (s : State) : (s.sendReadData n bytes).slotAdmins = s.slotAdmins := by
  unfold State.sendReadData
  dsimp only
  split
  · simp
  · split <;> simp

@[simp] theorem State.finishRead_slotAdmins (n : Nat) (s : State) : (s.finishRead n).slotAdmins = s.slotAdmins := by
  simp [State.finishRead]

@[simp] theorem State.encryptBlk_slotAdmins (n : Nat) (w : BlkWrite) (s : State) : (s.encryptBlk n w).slotAdmins = s.slotAdmins := by
  have counter := s.takeCtr_slotAdmins (s.slot n).handle
  unfold State.encryptBlk
  dsimp only
  split
  · rfl
  · split
    · simp [State.updSlot_slotAdmins]
    · split
      · simp
      · split
        all_goals
          next found =>
            rw [found] at counter
            simpa [State.updSlot_slotAdmins] using counter

@[simp] theorem State.stageSeven_slotAdmins (n : Nat) (s : State) : (s.stageSeven n).slotAdmins = s.slotAdmins := by
  simp [State.stageSeven, State.updSlot_slotAdmins]

@[simp] theorem State.advance_slotAdmins (n : Nat) (s : State) : (s.advance n).slotAdmins = s.slotAdmins := by
  simp [State.advance]

@[simp] theorem State.rounds_slotAdmins (k : Nat) (s : State) : (State.rounds k s).slotAdmins = s.slotAdmins := by
  induction k generalizing s with
  | zero => rfl
  | succ k ih => simp [State.rounds, ih]

@[simp] theorem State.settle_slotAdmins (s : State) : s.settle.slotAdmins = s.slotAdmins := by
  simp [State.settle]

end Sys2Proof.Machine

namespace Sys2Proof.Machine

/-! ## A containment whose stamp is counted as a second containment (O45, O46)

A counter stands at the place of its group, of what it counts for, and of its number within the group (R513). STAMPS_ISSUED, number 0 of group 7, counts by namespace handle, which R186 and
R200 give 14 bits; the model's state holds it as a number, and handle 7 · 2^24 + i stands in the place of CONTAIN_EVENTS, number 0 of group 14, of port and cause i.
A containment fails the commands of its port (R416); where one of them holds a stamp, the retired stamp admits what was held behind it (R188), and the
stamp issued for the wide handle is counted on top of the containment. The command that fails stands in an admin command's slot, so that `settle`
changes nothing afterwards: the state reached comes from no other, and CONTAIN_EVENTS is 2 wherever it is looked at. -/

/-! ### Where every slot in use holds an admin command -/

/-- Every slot in use holds an admin command. -/
def State.OnlyAdmin (s : State) : Prop := ∀ n a, s.slotAdmins n = some a → a = true

theorem State.slot_of_onlyAdmin {s : State} (only : s.OnlyAdmin) (n : Nat) : (s.slot n).state ≠ 4 ∨ (s.slot n).admin = true := by
  unfold State.slot tget
  cases listed : tfind s.cmds.slots n with
  | none => exact .inl (by decide)
  | some p => exact .inr (only n p.admin (congrArg (Option.map Slot.admin) listed))

/-- R149: an admin command is not a command that goes on by itself. -/
theorem State.advance_of_onlyAdmin {s : State} (only : s.OnlyAdmin) (n : Nat) : s.advance n = s :=
  if_pos (State.slot_of_onlyAdmin only n)

theorem State.rounds_of_onlyAdmin {s : State} (only : s.OnlyAdmin) (k : Nat) : State.rounds k s = s := by
  induction k with
  | zero => rfl
  | succ k ih => rw [State.rounds, List.foldl_fixed' (State.advance_of_onlyAdmin only), ih]

/-- R193: where no replay entry stands, no read entry waits for the end of one. -/
theorem State.pruneReads_of_noReplays {s : State} (none : s.cmds.replays = []) : s.pruneReads = s := by
  unfold State.pruneReads
  simp [none]

theorem State.onlyAdmin_of_all {s : State} (all : (s.cmds.slots.all fun e => e.2.admin) = true) : s.OnlyAdmin := by
  intro n a listed
  obtain ⟨p, found, rfl⟩ := Option.map_eq_some_iff.mp listed
  exact List.all_eq_true.mp all (n, p) (tfind_mem found)

/-- Where every slot in use holds an admin command and no replay entry stands, the state comes from no other state's `settle`. -/
theorem State.eq_of_settle {s u : State} (settled : s = u.settle) (only : s.OnlyAdmin) (none : s.cmds.replays = []) : u = s := by
  subst settled
  have before : u.OnlyAdmin := fun n a listed => only n a ((congrFun u.settle_slotAdmins n).trans listed)
  have still : State.rounds 5 u = u := State.rounds_of_onlyAdmin before 5
  have pruned : u.settle = u.pruneReads := congrArg State.pruneReads still
  rw [pruned] at none ⊢
  have cmds : u.pruneReads.cmds = u.cmds := same_of_touch (g := .cmds) (State.pruneReads_touch (by decide) (.refl _ _))
  exact (State.pruneReads_of_noReplays (cmds ▸ none)).symm

/-! ### The counterexample -/

/-- A drive port that is up, with a command outstanding that is not a read. Its issuer is a write in an admin command's slot that holds a stamp, and a read
of handle 7 · 2^24 + i is held at the admission point. -/
def strayStamp (i : Nat) : State :=
  { State.reset with
    drives := { ports := [(0, { dState := 4, tags := [(0, { kind := 1 })] })] }
    cmds := { slots := [(0, { admin := true, opcode := 1, pieceStamp := 1, reads := [{ }] })] }
    cons := { extents := [(0, { held := [{ slot := 1, handle := 7 * 2 ^ 24 + i, nlb := 1 }] })] } }

/-- A state that holds only admin commands and no replay entry, and shows two containments for port and cause `i`. -/
def State.countsTwice (i : Nat) (s : State) : Bool :=
  (s.cmds.slots.all fun e => e.2.admin) && s.cmds.replays.isEmpty && decide (s.counter cContainEvents i = 2)

/-- What shows two containments comes from no state that shows one. -/
theorem State.counter_of_countsTwice {i : Nat} {s u : State} (twice : s.countsTwice i = true) (settled : s = u.settle) :
    u.counter cContainEvents i = 2 := by
  unfold State.countsTwice at twice
  simp only [Bool.and_eq_true, decide_eq_true_eq, List.isEmpty_iff] at twice
  obtain ⟨⟨admins, noReplays⟩, counted⟩ := twice
  rw [State.eq_of_settle settled (State.onlyAdmin_of_all admins) noReplays, counted]

theorem strayStamp_counter : (strayStamp 2).counter cContainEvents 2 = 0 ∧ (strayStamp 0).counter cContainEvents 0 = 0 := by
  decide +kernel

theorem strayStamp_stall_countsTwice : ((strayStamp 2).contain 0 3).countsTwice 2 = true := by
  decide +kernel

theorem strayStamp_uncorr_countsTwice : ((strayStamp 0).contain 0 1).countsTwice 0 = true := by
  decide +kernel

/-- R413: a port with a command other than a read outstanding that long is contained. -/
theorem execDriveStallExpiry_contains {slot : Nat} {s : State} (isSlot : slot < 64)
    (stalled : ((s.dport slot).tags.any fun t => decide (t.2.tState = 1) && decide (t.2.kind ≠ 0)) = true) :
    execDriveStallExpiry slot s = .next (s.contain slot 3) := by
  unfold execDriveStallExpiry
  rw [bounded_eq_next (decide_eq_true isSlot), if_pos (by rw [stalled, Bool.or_true])]

/-- R415: an uncorrectable error contains the port. -/
theorem execDriveUncorrError_contains {slot : Nat} (s : State) (isSlot : slot < 64) : execDriveUncorrError slot s = .next (s.contain slot 1) :=
  bounded_eq_next (decide_eq_true isSlot)

/-- Refutes O45: DRIVE_STALL_EXPIRY may raise CONTAIN_EVENTS by 2, where a handle past its 14 bits waits for a stamp. -/
theorem not_completesDrivesA : ¬ Obligations.CompletesDrivesA := by
  intro ⟨_, _, _, _, _, _, stallExpiry, _⟩
  obtain ⟨t, runs, u, settled, -, -, counted⟩ := stallExpiry 0 (strayStamp 2) (by decide) rfl rfl
  have next : (strayStamp 2).contain 0 3 = t :=
    Host.Outcome.next.inj ((execDriveStallExpiry_contains (by decide) rfl).symm.trans runs)
  rw [State.counter_of_countsTwice strayStamp_stall_countsTwice (next.trans settled), strayStamp_counter.1] at counted
  exact absurd counted (by decide)

/-- Refutes O46: DRIVE_UNCORR_ERROR may raise CONTAIN_EVENTS by 2, where a handle past its 14 bits waits for a stamp. -/
theorem not_completesDrivesB : ¬ Obligations.CompletesDrivesB := by
  intro ⟨_, uncorrError, _⟩
  obtain ⟨t, runs, u, settled, -, -, counted⟩ := uncorrError 0 (strayStamp 0) (by decide) rfl
  have next : (strayStamp 0).contain 0 1 = t :=
    Host.Outcome.next.inj ((execDriveUncorrError_contains _ (by decide)).symm.trans runs)
  rw [State.counter_of_countsTwice strayStamp_uncorr_countsTwice (next.trans settled), strayStamp_counter.2] at counted
  exact absurd counted (by decide)

end Sys2Proof.Machine
